-- ==== Sys2Proof/Word.lean ====
section
/-! DEFINITION. Word.lean: the plain bit types of the part. Registers are 32 bits wide (R3). A binary32 quantity is held
as its 32 bits (chapter Control law catalogue and descriptors). -/

namespace Sys2Proof

/-- A register word (R3). -/
abbrev Word := BitVec 32
/-- A byte of a frame, a descriptor or a buffer. -/
abbrev Byte := BitVec 8
/-- An IEEE 754 binary32 value, as its bits (R162). -/
abbrev F32 := BitVec 32
/-- Bytes in the order they are sent or stored. -/
abbrev Bytes := List Byte

end Sys2Proof
end

