-- ==== Sys2Proof/Syntax.lean ====
section
/-! DEFINITION. Syntax.lean: the commands the block takes, one constructor per row of the table of operations and
events, with the operands each needs. An operand is what comes from outside the block with the event: an address and a
value, a received frame, a conversion result, the verdict of an arithmetic check, the time a delimiter arrived. What the
block itself knows is read from its state and is no operand.

Index operands are `Fin n`, so that no command can name a port, engine, section or slot the part does not have. -/

namespace Sys2Proof

/-- A stage port SP0 to SP191 (R51). -/
abbrev Port := Fin 192
/-- An engine CE0 to CE127 (R162). -/
abbrev Engine := Fin 128
/-- A task slot TS0 to TS63 of an engine (R162). -/
abbrev TSlot := Fin 64
/-- A PLL island: 0-15 clusters, 16-27 port groups, 28 MGMT, 29 shared ring, 30 fabric (R96). -/
abbrev Island := Fin 31
/-- A sequenced rail (R69). -/
abbrev Rail := Fin 8
/-- A bus-bar section (R213). -/
abbrev Sec := Fin 8
/-- A Crown node (R260). -/
abbrev CNode := Fin 96
/-- A leaf of Crown: a node, or 96 + the port of an implicit leaf (R261). -/
abbrev Leaf := Fin 288
/-- A battery string (R269). -/
abbrev Str := Fin 24
/-- A stage channel, or another index 0 to 3. -/
abbrev Chan := Fin 4
/-- A partition P0 to P7 (R39). -/
abbrev Part := Fin 8
/-- An index 0 to 7. -/
abbrev Oct := Fin 8
/-- An index 0 to 15. -/
abbrev Hex := Fin 16
/-- A fabric port FA0, FA1, FB0, FB1 (R369). -/
abbrev FPort := Fin 4
/-- A requester slot of the shared ring (R410). -/
abbrev RSlot := Fin 24
/-- A die sensor (R433). -/
abbrev Sensor := Fin 64
/-- An MSI-X vector (R468). -/
abbrev Vector64 := Fin 64
/-- Byte enables of a 32-bit access (R4). -/
abbrev BE := BitVec 4

/-- The access paths of R5; a BAR2 window and a fabric MGMT session carry their partition (R402). -/
inductive Path where
  | bar0
  | bar2 (p : Part)
  | mgmt (p : Part)
  | iic0
  | iic2
  | dbg
deriving DecidableEq, Repr

/-- The two stage links of a stage end (chapter Skoiz stage link). -/
inductive Link where
  | a
  | b
deriving DecidableEq, Repr

/-- The two fabric planes (R370). -/
inductive Plane where
  | a
  | b
deriving DecidableEq, Repr

/-- The two two-wire targets (R474). -/
inductive Tgt where
  | iic0
  | iic2
deriving DecidableEq, Repr

/-- A received stage-link frame: its 24 data characters and whether the line decoder saw a code violation (R101, R103). -/
structure Frame where
  bytes : Bytes
  codeErr : Bool
deriving DecidableEq, Repr

/-- The four converter results of one instant, before limiting to the int16 code range (R142, R143), and the readings of the two
temperature sensors in 1/16 °C, none where a sensor is not fitted (R109). -/
structure RawSample where
  c0 : Int
  c1 : Int
  c2 : Int
  c3 : Int
  t0 : Option Int := none
  t1 : Option Int := none
deriving DecidableEq, Repr

/-- The converter result of a channel. -/
def RawSample.chan (r : RawSample) (k : Nat) : Int := if k = 0 then r.c0 else if k = 1 then r.c1 else if k = 2 then r.c2 else r.c3

/-- Bit errors that have come into tile memory: the 64-bit word, and whether two of its bits are wrong (R165). -/
abbrev Upsets := List (Nat × Bool)

/-- One operation of a multiply-accumulate lane: its operands, and what a fault in the lane adds to the sum that it forms, 0 in a lane
that works (R162, R167). -/
structure MacOp where
  lane : Fin 32
  clear : Bool
  a : BitVec 16
  b : BitVec 16
  err : Int
deriving DecidableEq, Repr

/-- One operation of a fused multiply-add lane: its operands, and what a fault in the lane adds to the significand product that it forms, 0
in a lane that works (R162, R167). -/
structure FmaOp where
  lane : Fin 16
  a : F32
  b : F32
  c : F32
  err : Int
deriving DecidableEq, Repr

/-- Operations of an engine's lanes in a task or in the test vectors of a self-check (R167, R169). -/
structure LaneOps where
  macs : List MacOp
  fmas : List FmaOp
deriving DecidableEq, Repr

/-- What the scrubber of an engine meets: errors that have come into its tile memory since (R165, R166). -/
structure ScrubRead where
  engine : Engine
  upsets : Upsets
deriving DecidableEq, Repr

/-- What a self-check runs over: errors that have come into tile memory, and its test vectors in the lanes (R169). -/
structure SelfcheckRun where
  upsets : Upsets
  vectors : LaneOps
deriving DecidableEq, Repr

/-- What a task does to an engine beside its law: errors that have come into tile memory, the words that it reads, and the operations of
its lanes (R165, R167). -/
structure EngCheck where
  upsets : Upsets
  reads : List Nat
  ops : LaneOps
deriving DecidableEq, Repr

/-- One set of Plumb ADC readings: VAON and AON_ADC0-3 in mV, and the Plumb die temperature in 0.1 °C (R81, R526). -/
structure AdcRead where
  vaon : BitVec 16
  a0 : BitVec 16
  a1 : BitVec 16
  a2 : BitVec 16
  a3 : BitVec 16
  tPlumb : BitVec 16
deriving DecidableEq, Repr

/-- What the Chain probe of start step 6 found (R337). -/
inductive Probe where
  | noTwin
  | running
  | alsoStep6 (twinId : Bool)
deriving DecidableEq, Repr

/-- What the flash reports at start step 3 (R482, R527). -/
structure FlashInfo where
  sizeMib : Nat
  freqMhz : Nat
  dtr : Bool
deriving DecidableEq, Repr

/-- A Fennu container, as the bytes of R486. -/
abbrev Containers := List Bytes

/-- What a stage end says of itself in an ANNOUNCE (R132). -/
structure SeIdent where
  stype : BitVec 8
  channels : BitVec 8
  pairs : BitVec 8
  vendor : BitVec 16
  model : BitVec 16
  serial : BitVec 32
  linkVer : BitVec 8
  caps : BitVec 8
deriving DecidableEq, Repr

/-- One offer of a CAPS message: volts in 10 mV, watts (R302). -/
structure Offer where
  vmin : Nat
  vmax : Nat
  pmax : Nat
deriving DecidableEq, Repr

abbrev Offers := List Offer

/-- The offsets that a TIME exchange measures on the two Chain paths, own Datum minus the twin's, in dq; that of a path that is DOWN is not
read (R341). -/
structure TimeMeas where
  ch0 : Int
  ch1 : Int
deriving DecidableEq, Repr

/-- What the regressions of a Benchmark window give for one channel: of a PHASE_I channel `gain` is GAIN ÷ L, from its own current (R319);
of a BAL_I channel `gain` and `offset` are those that balance the section (R320); of a VOLT channel only the uncertainties are read, as
its fit follows from the samples (R320). -/
structure CalFit where
  port : Port
  ch : Chan
  gain : F32
  offset : F32
  uncG : F32
  uncO : F32
deriving DecidableEq, Repr

/-- One bus-bar impedance point of a window (R327). -/
structure ZPoint where
  freq : F32
  mag : F32
  irms : F32
  coherence : F32
deriving DecidableEq, Repr

/-- What the computation of one Benchmark window yields (R318 to R320, R327): the regressions of its channels, the inductances that the
reference current gives, and the impedance points. -/
structure CalWindow where
  fits : List CalFit
  ind : List (Port × F32)
  zpoints : List ZPoint
  /-- the oldest sample tick that the computation reads at the window's end -/
  oldest : Nat
  /-- the decimation of its streams -/
  dec : Nat
deriving DecidableEq, Repr

/-- The twin's 64-bit digests of one tick, by group: 0-11 a port group, 12 the class-B outputs and class-C results (R343). -/
abbrev Digests := List (Nat × BitVec 64)

/-- The digest of one port's CMD frame, or of one law's output or class-C result, which the twins exchange for a group that differs, and
whether the frame was DEGRADED for a missing SAMPLE frame (R344). -/
structure ItemDigest where
  key : Nat
  digest : BitVec 64
  repeated : Bool
deriving DecidableEq, Repr

abbrev ItemDigests := List ItemDigest

/-- The twin's digests of one tick: those of the groups, and those of the items of the groups that differ (R343, R344). -/
structure TwinDigests where
  groups : Digests
  items : ItemDigests
deriving DecidableEq, Repr

/-- A debugger's access: a read with the value of DBG_CTRL.CONSUME that the debugger has selected for it, or a write (R511, R514). -/
inductive DbgOp where
  | read (consume : Bool)
  | write
deriving DecidableEq, Repr

/-- A change both twins make at one agreed tick (R340). -/
inductive AgreedItem where
  | cfgWrite (addr : Word) (value : Word)
  | descWrite (addr : Word) (value : Word) (be : BE)
  | lawSet (region : Part)
  | crown
  | budget (w : F32) (src : Nat) (gen : Word)
  | felt (sec : Sec)
  | delegate (port : Port) (toFollow : Bool)
  | swap
  | paired
  | classC (item : Nat)
  | events (engine : Engine) (hi : Bool) (mask : Word)
  | resync (law : Nat)
  | negState (port : Port)
  | swapLaw (engine : Engine) (slot : TSlot) (back : Bool)
deriving DecidableEq, Repr

/-- A contract message of NEG (R301). -/
structure NegMsg where
  /-- TYPE (R302). -/
  typ : Nat := 0
  /-- Payload (R302). -/
  payload : Bytes := []
deriving DecidableEq, Repr, Inhabited

/-- The NEG state of a feeder as one twin mirrors it to the other (R300). -/
structure NegView where
  /-- The roles are resolved (R307). -/
  settled : Bool := false
  /-- The feeder is sink (R307). -/
  sink : Bool := false
  /-- A contract is in force or being made (R308). -/
  contract : Bool := false
  /-- Its power (R308). -/
  power : F32 := 0
  /-- MSG_ID of the next new message (R304). -/
  txId : Nat := 0
  /-- MSG_ID of the last message accepted (R304). -/
  rxId : Option Nat := none
  /-- Messages still to be sent, and the one that waits for GOODCRC with its MSG_ID and repeats (R303). -/
  out : List NegMsg := []
  wait : Option NegMsg := none
  waitId : Nat := 0
  waitTries : Nat := 0
  /-- The response timer runs (R305). -/
  rspTimer : Bool := false
  /-- A soft-reset exchange is in hand; failures in a row (R306). -/
  softEx : Bool := false
  softFails : Nat := 0
  /-- The hold of a hard reset (R306). -/
  hold : Bool := false
  /-- PMAX of the last CAPS sent, and the power of the request in hand (R308). -/
  pmax : Nat := 0
  pReq : F32 := 0
  /-- Back-feed declared by the tray (R309). -/
  backfeed : F32 := 0
  /-- A CAP, a WARN is still to be sent (R309). -/
  capMsg : Bool := false
  warnMsg : Bool := false
deriving DecidableEq, Repr, Inhabited

/-- The Survey header of R374. -/
structure SurveyHdr where
  ver : Nat
  cls : Nat
  sub : Nat
  rel : Bool
  lead : Bool
  domain : Nat
  hops : Nat
  src : Nat
  dstNode : Nat
  dstTwin : Bool
  station : Bool
  bcast : Bool
  msgId : Word
  incarn : BitVec 16
  part : Part
  len : Nat
  stamp : Nat
deriving DecidableEq, Repr

/-- A MIRROR message of Chain (R300, R335, R339, R347, R357). `status` carries a status field of a service by its field key, `service`
the state that a service keeps beside its registers (kind 0 a section, 1 a port's carrier, 2 a feeder, 3 a Crown leaf), `bin` a
Benchmark bin. -/
inductive MirrorMsg where
  | cfg (addr : Word) (value : Word)
  | desc (addr : Word) (value : Word) (be : BE)
  | neg (port : Port) (view : NegView)
  | law (index engine slot offset start : Nat) (desc : Bytes) (vals : List F32)
  | status (key value : Nat)
  | bin (port : Port) (ch : Chan) (idx : Nat) (gain offset uncG uncO : F32) (n atT : Nat)
  | battery (str : Str) (cells : List (Nat × F32 × F32)) (dAcc : F32)
  | envOk (port : Port) (addr : Nat)
  | service (kind index : Nat) (vals : List Word)
  | relay (hdr : SurveyHdr) (payload : Bytes)
  | image (cmd : Nat) (payload : Bytes)
  | fab (msgId : Word) (incarn : BitVec 16) (ofsLo : Word) (ofsHi : Word)
deriving DecidableEq, Repr

/-- A Chain HELLO: identity, straps and image versions (R65, R357). -/
structure Hello where
  twinId : Bool
  straps75 : BitVec 3
  verMgmt : Word
  verCe : Word
  verNeg : Word
  joining : Bool
deriving DecidableEq, Repr

/-- A fabric HELLO (R378). -/
structure FabHello where
  station : Nat
  domain : Nat
  plane : Plane
  fport : FPort
  lead : Bool
  incarn : BitVec 16
  heard : List Nat
deriving DecidableEq, Repr

/-- A link-state advertisement (R379): the adjacencies of the originator. A station number of 2,048 or more names a segment that a
station advertises as a pseudo-node (R378). -/
structure Lsa where
  plane : Plane
  station : Nat
  grid : Nat
  domain : Nat
  seq : Word
  lead : Bool
  incarn : BitVec 16
  links : List Nat
  ageMs : Nat
deriving DecidableEq, Repr

/-- An Ethernet frame on a fabric port (R371, R375). -/
structure FabFrame where
  etherType : BitVec 16
  tagged : Bool
  srcMac : Nat
  prpSeq : BitVec 16
  fcsOk : Bool
  hdr : SurveyHdr
  payload : Bytes
deriving DecidableEq, Repr

/-- What a gPTP message does to the station's time-aware system (R390, R391). -/
inductive PtpMsg where
  | slave (err : Int)
  | grandmaster (self : Bool)
deriving DecidableEq, Repr

/-- A transfer presented to the shared ring (R410, R411). -/
structure RingReq where
  slot : RSlot
  part : Part
  beats : Nat
deriving DecidableEq, Repr

abbrev RingReqs := List RingReq
/-- The 64 die-sensor readings, in 1/16 °C (R433). -/
abbrev Temps := List Int

/-- The commands of the block, one per row of the table of operations and events, in the table's order. -/
inductive Instr where
  /-- REGISTER_WRITE (R7). A write to a register that has no row of its own, with each field acting under its access code. -/
  | registerWrite (path : Path) (addr : Word) (value : Word) (be : BE)
  /-- WIDE_LOW_READ (R5). A read of the low word of a 64-bit register loads the path's read shadow with the high word. -/
  | wideLowRead (path : Path) (addr : Word) (be : BE)
  /-- WIDE_HIGH_READ (R5). A read of the high word returns and empties the path's shadow, or returns the live word. -/
  | wideHighRead (path : Path) (addr : Word) (be : BE)
  /-- WIDE_LOW_WRITE (R5). A write of the low word of a 64-bit register is held on the path. -/
  | wideLowWrite (path : Path) (addr : Word) (value : Word) (be : BE)
  /-- WIDE_HIGH_WRITE (R5). A high-word write directly following its low word takes effect as one 64-bit write; otherwise it is discarded. -/
  | wideHighWrite (path : Path) (addr : Word) (value : Word) (be : BE)
  /-- RC_READ (R7). A read of an RC field, peak registers included, returns the value and clears it. -/
  | rcRead (path : Path) (addr : Word) (be : BE)
  /-- PG_OWNER_WRITE (R13). A write to PG_OWNER changes owner and lock, subject to page kind and port or engine use. -/
  | pgOwnerWrite (path : Path) (page : Word) (value : Word) (be : BE)
  /-- PG_EVT_LATCH_WRITE (R18). A W1C write to PG_EVT_LATCH clears latched event bits and may resend the MSI-X message. -/
  | pgEvtLatchWrite (path : Path) (page : Word) (value : Word) (be : BE)
  /-- SAMPLE_RX (R26). A port group receives an upstream frame, checks it, extends the sample tick and takes the SAMPLE contents. -/
  | sampleRx (port : Port) (frame : Frame)
  /-- EQUALISE_REQUEST (R31). A port group lacking a valid SAMPLE frame at tick t+2 asks the twin for it over Chain. -/
  | equaliseRequest (port : Port)
  /-- EQUALISE_ANSWER (R342). A port group answers equalisation requests from its frames of the last 16 ticks, or with NONE. -/
  | equaliseAnswer (port : Port) (tick : Nat)
  /-- EQUALISE_FRAME_RX (R31). A frame supplied by the twin arriving before tick t+3 is used as if received on the link. -/
  | equaliseFrameRx (port : Port) (body : Bytes)
  /-- EQUALISE_DEADLINE (R342). A requester holding no answer when tick t+3 begins counts CNT_EQ_FAIL and the law runs its missing-input rule. -/
  | equaliseDeadline (port : Port)
  /-- TASK_READY_PERIODIC (R170). A periodic task slot becomes ready at the start of each tick matching its PERIOD and OFFSET. -/
  | taskReadyPeriodic (engine : Engine) (slot : TSlot)
  /-- TASK_DISPATCH (R172). An engine dispatches the ready slot chosen by class pre-emption and slot order. -/
  | taskDispatch (engine : Engine) (chk : EngCheck)
  /-- TASK_COMPLETE (R172). A task instance completes and its result is used or discarded. -/
  | taskComplete (engine : Engine) (ops : LaneOps)
  /-- CLASS_A_OVERRUN (R174). A class-A task not done by the end of its tick leads to a repeated DEGRADED command and CLASS_A_OVERRUN. -/
  | classAOverrun (engine : Engine)
  /-- CMD_SLOT (R111). In a port's command slot the port group sends the new CMD frame or repeats the last one. -/
  | cmdSlot (port : Port)
  /-- CLASS_C_RESULT_APPLY (R37). A class-C result with matching digests takes effect in both twins at the agreed tick. -/
  | classCResultApply (item : Nat)
  /-- ISLAND_UNLOCK (R23). An island losing PLL lock after start step 3 raises ISLAND_UNLOCK at S3. -/
  | islandUnlock (island : Island)
  /-- PORST_N_RISE (R67). The rising edge of PORST_N starts Plumb ROM and Datum at 0. -/
  | porstNRise (straps : Byte)
  /-- PORST_N_ASSERT (R89). PORST_N low performs the power-on reset of everything, Plumb included. -/
  | porstNAssert
  /-- RESET_N_ASSERT (R90). A recognised low pulse on RESET_N starts a full device reset. -/
  | resetNAssert (lowNs : Nat)
  /-- ROM_SELFTEST_DONE (R96). Plumb ROM self-test passes and the start completes step 1. -/
  | romSelftestDone
  /-- SEQ_RAIL_ENABLE (R73). After a rail's DELAY Plumb drives its SEQ_EN high. -/
  | seqRailEnable
  /-- SEQ_PG_RISE (R73). A rail's power-good arrives and the sequence moves to the next position or to UP. -/
  | seqPgRise (rail : Rail)
  /-- SEQ_PG_TIMEOUT (R73). PG_WINDOW expires without power-good and the sequence aborts with PG_TIMEOUT. -/
  | seqPgTimeout (adc : AdcRead)
  /-- SEQ_PG_LOST (R74). A used rail's power-good low for 10 us aborts with PG_LOST, and in UP raises MAIN_RAIL_LOST. -/
  | seqPgLost (rail : Rail) (adc : AdcRead)
  /-- SEQ_RETRY (R77). One second after an abort the sequence restarts from position 0. -/
  | seqRetry
  /-- ABORTS_CLEAR (R77). ABORTS clears once the state has stayed UP for 60 s. -/
  | abortsClear
  /-- SEQ_SAVE (R71). SEQ_CTRL.SAVE validates SEQ_RAIL0-7 and stores them as the run set, or latches SEQ_CFG_REJECT. -/
  | seqSave (path : Path) (value : Word) (be : BE)
  /-- SEQ_RESTART (R70). SEQ_CTRL.RESTART clears ABORTS and starts the sequence from ABORTED or LOCKOUT. -/
  | seqRestart (path : Path) (value : Word) (be : BE)
  /-- SEQ_POWER_DOWN (R78). A controlled power-down releases the highest-ORDER rail and begins reverse sequencing. -/
  | seqPowerDown
  /-- SEQ_DOWN_STEP (R78). After a released rail's DELAY the next lower rail is released, and at the last SEQ_DOWN is written. -/
  | seqDownStep
  /-- BROWN_OUT (R79). VAON below 1.62 V for 1 us releases every enable, stops Plumb and drives FLT_OUT to fault. -/
  | brownOut
  /-- PLL_LOCK (R83). An island PLL locks and the island starts. -/
  | pllLock (island : Island)
  /-- PLL_LOCK_TIMEOUT (R83). A PLL not locked within 200 us is held in reset for retry, or after the fourth attempt start-up halts. -/
  | pllLockTimeout (island : Island)
  /-- PLL_RETRY (R83). After 10 us in reset the PLL is released for another lock attempt. -/
  | pllRetry (island : Island)
  /-- REFCLK_LOSS (R85). REFCLK absent for 1 us after step 3 raises REFCLK_LOSS at S3. -/
  | refclkLoss
  /-- BOOT_IMAGE_SELECT (R491). Plumb ROM copies a pending STAGED slot, selects ACTIVE or GOLDEN, and decrypts and starts MGMT. -/
  | bootImageSelect (flash : FlashInfo) (recovery : Containers)
  /-- CE_KERNEL_LOAD (R180). At start step 4 MGMT loads every engine's kernel bank 0 and the NEG policy. -/
  | ceKernelLoad
  /-- STAGE_DISCOVERY_DONE (R93). Start step 5 completes when every port has completed CONFIG or is FAILED. -/
  | stageDiscoveryDone
  /-- CHAIN_PROBE_END (R93). After the 20 ms Chain probe the twin enters SOLO or JOINING. -/
  | chainProbeEnd (probe : Probe)
  /-- FABRIC_JOIN (R93). At start step 7 MGMT joins the Survey fabric. -/
  | fabricJoin
  /-- BOOT_TIMEOUT (R493). MGMT from ACTIVE not completing step 5 within 1 s sets ACTIVE_BAD and resets the chip. -/
  | bootTimeout
  /-- RESET_KEY_WRITE (R91). A write to SYS.RESET starts, completes or aborts the two-write reset key sequence. -/
  | resetKeyWrite (path : Path) (value : Word) (be : BE)
  /-- RESET_KEY_LAPSE (R91). The 1 ms of a key sequence lapses without a next write, aborting it and raising LOCK_ABORT. -/
  | resetKeyLapse
  /-- KEY_RESET_START (R91). The full reset begins 10 us after the second key write. -/
  | keyResetStart
  /-- XTAL_DETECT (R84). Plumb detects the crystal starting or stopping and changes the RC trim reference. -/
  | xtalDetect (running : Bool)
  /-- PLUMB_ADC_REFRESH (R526). Plumb refreshes its ADC readings every 1 ms while the main rails are up. -/
  | plumbAdcRefresh (adc : AdcRead) (rcErr : Word)
  /-- LINK_ALIGN_LOSS (R100). Four slots without a delimiter or with a code violation declare loss of alignment and reacquire. -/
  | linkAlignLoss (port : Port)
  /-- LINK_DOWN (R100). A link is DOWN after 1,024 ticks without a good frame. -/
  | linkDown (port : Port)
  /-- LINK_UP (R100). A link is UP after 64 consecutive good frames. -/
  | linkUp (port : Port)
  /-- LINK_RESUME (R135). A link returning while the stage end holds its epoch resumes at TIMING and reruns CONFIG. -/
  | linkResume (port : Port)
  /-- UPSTREAM_FRAME_SEND (R107). Each tick a stage end sends a response, a SAMPLE frame or IDLE. -/
  | upstreamFrameSend (port : Port)
  /-- SE_SAMPLE_TICK (R141). A stage end samples every channel at the start of each tick and marks overrange and SUSPECT. -/
  | seSampleTick (port : Port) (raw : RawSample)
  /-- SE_CMD_RX (R116). A stage end checks a received CMD frame's tick window, epoch and fields and holds it pending. -/
  | seCmdRx (port : Port) (link : Link) (frame : Frame)
  /-- SE_SYNC_RX (R120). A stage end follows a SYNC frame's time, stepping or slewing its local Datum. -/
  | seSyncRx (port : Port) (link : Link) (frame : Frame)
  /-- SE_FENCE_RX (R122). A stage end judges a FENCE or ADMIT frame and changes its epoch or admitted links. -/
  | seFenceRx (port : Port) (link : Link) (frame : Frame)
  /-- SE_CFG_POLL (R131). A stage end answers a POLL with a SIDE_UP frame or an empty CFG_RSP. -/
  | seCfgPoll (port : Port) (link : Link) (frame : Frame)
  /-- SE_CFG_READ (R129). A stage end performs a READ and answers at the response tick. -/
  | seCfgRead (port : Port) (link : Link) (frame : Frame)
  /-- SE_CFG_WRITE (R129). A stage end performs or refuses a WRITE and answers at the response tick. -/
  | seCfgWrite (port : Port) (link : Link) (frame : Frame)
  /-- SE_CLEAR_TRIP (R154). SE_CLEAR.TRIP clears FAST_TRIP when the last applied MODE is STOP, else answers BUSY. -/
  | seClearTrip (port : Port) (link : Link) (frame : Frame) (still : Bool)
  /-- SE_CLEAR_CROWBAR (R154). SE_CLEAR.CROWBAR clears CROWBAR when the last applied MODE is STOP, else answers BUSY. -/
  | seClearCrowbar (port : Port) (link : Link) (frame : Frame) (still : Bool)
  /-- SE_CLEAR_LOCAL_FAULT (R155). SE_CLEAR.LOCAL_FAULT clears the stage end's LOCAL_FAULT. -/
  | seClearLocalFault (port : Port) (link : Link) (frame : Frame)
  /-- SE_CFG_IDENT (R132). A stage end answers a CFG of OP IDENT with IDENT ANNOUNCE. -/
  | seCfgIdent (port : Port) (link : Link) (frame : Frame)
  /-- SE_SIDE_DN_RX (R130). A stage end accepts or refuses a SIDE_DN fragment and acknowledges it. -/
  | seSideDnRx (port : Port) (link : Link) (frame : Frame)
  /-- SE_APPLY_TICK (R125). At each apply tick the stage end selects one copy and applies it through the envelope clip. -/
  | seApplyTick (port : Port)
  /-- SE_HOLD_ENTRY (R145). After 8 ticks without an applied command a running stage end enters HOLD. -/
  | seHoldEntry (port : Port)
  /-- SE_SAFE_ENTRY (R147). After 64 ticks without an applied command the stage end enters SAFE and performs its SAFE action. -/
  | seSafeEntry (port : Port)
  /-- SE_FAST_TRIP (R151). A FEED stage end whose current reaches TRIP_LEVEL opens its pass FET and latches FAST_TRIP. -/
  | seFastTrip (port : Port) (raw : RawSample)
  /-- SE_CROWBAR (R152). A PHASE stage end whose voltage reaches OV_LEVEL crowbars and latches CROWBAR. -/
  | seCrowbar (port : Port) (raw : RawSample)
  /-- SE_SELFCHECK_FAIL (R155). A stage end's self-check fault sets LOCAL_FAULT and DEGRADED upstream. -/
  | seSelfcheckFail (port : Port)
  /-- SE_POWER_CYCLE (R123). A stage end powering up starts OFF with no epoch. -/
  | sePowerCycle (port : Port) (ident : SeIdent)
  /-- SE_MOISTURE_MEASURE (R156). A FEED stage end starts a moisture measurement every 10 s or before closing the pass FET. -/
  | seMoistureMeasure (port : Port)
  /-- SE_MOISTURE_DONE (R157). A moisture measurement ends and sets or clears MOISTURE. -/
  | seMoistureDone (port : Port) (kohm : Nat)
  /-- SIDEBAND_TX (R159). The relay sends a complete downstream message on the sideband. -/
  | sidebandTx (port : Port)
  /-- SIDEBAND_RX (R159). The relay receives a sideband message, checks its CRC and passes it upstream. -/
  | sidebandRx (port : Port) (msg : Bytes) (crc : Word)
  /-- SYNC_SEND (R119). The GT9192 sends a SYNC frame on a link at least every 64 ticks. -/
  | syncSend (port : Port)
  /-- TIME_ECHO_RX (R119). From an IDENT TIME_ECHO the GT9192 computes and filters the link delay. -/
  | timeEchoRx (port : Port) (frame : Frame) (t4 : Nat)
  /-- ANNOUNCE_RX (R133). The GT9192 receives an ANNOUNCE and records identity, or fails the port for bad values. -/
  | announceRx (port : Port) (frame : Frame)
  /-- CFG_RSP_RX (R129). The GT9192 receives a CFG_RSP and acts on its status. -/
  | cfgRspRx (port : Port) (frame : Frame)
  /-- SIDE_UP_RX (R131). The GT9192 receives a SIDE_UP fragment and passes it to NEG. -/
  | sideUpRx (port : Port) (frame : Frame)
  /-- CFG_RSP_TIMEOUT (R129). No response by RSP_TICK + 4 repeats the request, or after 3 repeats counts CNT_RSP_TIMEOUT. -/
  | cfgRspTimeout (port : Port)
  /-- SIDE_PENDING_POLL (R131). The LEAD polls a stage end reporting SIDE_PENDING within 2,000 ticks. -/
  | sidePendingPoll (port : Port)
  /-- FENCE_SEND (R124). The GT9192 sends or repeats a FENCE on a link until the upstream epoch matches. -/
  | fenceSend (port : Port)
  /-- ADMIT_SEND (R124). The GT9192 sends or repeats an ADMIT until the other link is reported admitted. -/
  | admitSend (port : Port)
  /-- EPOCH_MISMATCH (R124). A FENCE or ADMIT unanswered after 256 ticks raises EPOCH_MISMATCH. -/
  | epochMismatch (port : Port)
  /-- DISC_STEP_TIMEOUT (R134). A discovery step not done in 10 ms restarts discovery, or after four attempts fails the port. -/
  | discStepTimeout (port : Port)
  /-- DISC_RETRY (R134). A FAILED port retries discovery every 1 s. -/
  | discRetry (port : Port)
  /-- DISC_START (R133). A write of SP_CTRL.DISC_START restarts discovery from ALIGN. -/
  | discStart (path : Path) (port : Port) (value : Word) (be : BE)
  /-- SAFE_ACT_WRITE (R136). A write of SP_CTRL.SAFE_ACT is checked against CAPS and sent to the stage end. -/
  | safeActWrite (path : Path) (port : Port) (value : Word) (be : BE)
  /-- SCRUB_LINE (R166). The scrubber reads and rewrites one tile memory line every 1,024 engine cycles. -/
  | scrubLine (line : ScrubRead)
  /-- CE_SELFTEST_START (R169). CE_SELFTEST.START begins an engine self-check. -/
  | ceSelftestStart (path : Path) (engine : Engine) (value : Word) (be : BE)
  /-- CE_SELFTEST_DONE (R169). An engine self-check completes, passing or raising ENGINE_SELFTEST. -/
  | ceSelftestDone (engine : Engine) (found : SelfcheckRun)
  /-- CE_DOORBELL (R170). A write to CE_DOORBELL makes event slots ready. -/
  | ceDoorbell (path : Path) (engine : Engine) (hi : Bool) (value : Word) (be : BE)
  /-- CE_CANCEL (R176). A write to CE_CANCEL withdraws pending instances of class-B and class-C slots. -/
  | ceCancel (path : Path) (engine : Engine) (hi : Bool) (value : Word) (be : BE)
  /-- KERNEL_SWAP_LAW (R181). At its update boundary a law moves to the shadow kernel bank through the state-import entry. -/
  | kernelSwapLaw (engine : Engine) (slot : TSlot)
  /-- DESCRIPTOR_ACCESS (R185). A read or write of descriptor memory is served within the partition's own region. -/
  | descriptorAccess (path : Path) (addr : Word) (wr : Bool) (value : Word) (be : BE)
  /-- DESCRIPTOR_COMMIT (R187). MGMT copies, validates and binds or refuses a region's law set when COMMIT_GEN differs from DONE_GEN. -/
  | descriptorCommit (part : Part)
  /-- READBACK_REFRESH (R192). Every 1 ms MGMT writes STATUS, counters and readback of every bound law. -/
  | readbackRefresh
  /-- AGREED_TICK (R340). A change agreed over Chain takes effect in both twins at tick X. -/
  | agreedTick
  /-- HICCUP_END (R216). HIC_OFF_MS after a hiccup the phase re-enters SOFT_START. -/
  | hiccupEnd (port : Port)
  /-- HIC_COUNT_CLEAR (R218). HIC_COUNT clears once the phase has stayed in RUN for 1 s. -/
  | hicCountClear (port : Port)
  /-- PH_CTRL_CLEAR (R222). PH_CTRL.CLEAR leaves LATCHED, or clears the stage-end crowbar after a STOP command. -/
  | phCtrlClear (path : Path) (port : Port) (value : Word) (be : BE)
  /-- CROWBAR_CLEAR_CHECK (R222). 100 us after a crowbar clear a still-latched CROWBAR sets CLEAR_FAIL. -/
  | crowbarClearCheck (port : Port)
  /-- TELEMETRY_WINDOW_END (R224). At each window end the telemetry registers are replaced together and PG_SEQ increments once. -/
  | telemetryWindowEnd (port : Port)
  /-- FELT_RECOMPUTE (R236). A recompute trigger takes effect and Felting computes new target offsets for the section. -/
  | feltRecompute (sec : Sec)
  /-- FELT_SLEW_DONE (R237). All offset movements of a section finish and SLEW_DONE is raised. -/
  | feltSlewDone (sec : Sec)
  /-- FS_CFG_WRITE (R239). A write to FS_CFG clears RATE_HALVED and triggers a recompute. -/
  | fsCfgWrite (path : Path) (sec : Sec) (value : Word) (be : BE)
  /-- INPUT_LOSS_DECLARED (R248). At the end of tick t+2 a quorum of source members below loss declares input loss. -/
  | inputLossDeclared (sec : Sec)
  /-- TRANSFER_END (R249). TR_US after entry TRANSFER moves to ON_BRIM. -/
  | transferEnd (sec : Sec)
  /-- QUALIFY_END (R249). QUALIFY_MS of continuous presence moves the section to RETURN. -/
  | qualifyEnd (sec : Sec)
  /-- HU_CFG_WRITE (R246). A write to HU_CFG enables or disables hold-up, or is refused with CFG_REJECT. -/
  | huCfgWrite (path : Path) (sec : Sec) (value : Word) (be : BE)
  /-- OVERLOAD_SPENT (R253). OVERLOAD set for a total of OVL_MS lowers the battery bound to BATT_I_CONT. -/
  | overloadSpent (sec : Sec)
  /-- OVERLOAD_RESTORE (R253). OVERLOAD clear for 10 x OVL_MS restores the overload allowance. -/
  | overloadRestore (sec : Sec)
  /-- CROWN_UPDATE (R263). Every CR_CTRL.PERIOD ticks Crown allocates grants down the tree. -/
  | crownUpdate
  /-- CROWN_EXTRA_UPDATE (R264). An extra Crown update runs at an agreed tick after a hold-up change, budget or node write. -/
  | crownExtraUpdate
  /-- CROWN_NODE_WRITE (R262). A write to a Crown node block, limited for tenants, triggers an extra update. -/
  | crownNodeWrite (path : Path) (node : CNode) (word : Oct) (value : Word) (be : BE)
  /-- GRACE_EXPIRY (R265). GRACE_US after a decrease the leaf's current limit is applied and it becomes CAPPED. -/
  | graceExpiry (leaf : Leaf)
  /-- EW_HOLD_EXPIRY (R266). EW_HOLD_MS after its cause ends the early-warning group is released. -/
  | ewHoldExpiry (group : Oct)
  /-- GAUGE_UPDATE (R272). Every 1 ms each string's SOC, uncertainty and temperature are updated. -/
  | gaugeUpdate
  /-- STR_CFG_WRITE (R270). A write setting a string's VALID is accepted or refused with CFG_REJECT. -/
  | strCfgWrite (path : Path) (strN : Str) (value : Word) (be : BE)
  /-- Z_MEASURE_START (R329). Benchmark chooses a string and frequency and starts injecting the sine current. -/
  | zMeasureStart (sec : Sec)
  /-- Z_MEASURE_END (R278). A battery impedance measurement ends and fills or updates its cell, or is discarded. -/
  | zMeasureEnd (sec : Sec) (strN : Str) (freq : Hex) (start : Nat)
  /-- BATTERY_RECORD_WRITE (R280). The LEAD or SOLO twin writes battery records to MRAM every 60 s. -/
  | batteryRecordWrite
  /-- HIB_ENTER (R281). GA_CTRL.HIB_ENTER stops CMD frames, writes battery records and powers the main rails down. -/
  | hibEnter (path : Path) (value : Word) (be : BE)
  /-- HIB_SAMPLE (R282). Every 10 s in hibernation Plumb samples the ADCs and charges each string. -/
  | hibSample (adc : AdcRead)
  /-- HIB_RECORD_WRITE (R282). Plumb writes the battery records every hour in hibernation. -/
  | hibRecordWrite
  /-- FEEDER_ENABLE (R287). A write setting FD_CTRL.EN places the feeder task or refuses it. -/
  | feederEnable (path : Path) (port : Port) (value : Word) (be : BE)
  /-- FEEDER_CLEAR (R291). FD_CTRL.CLEAR leaves TRIPPED, clearing a stage-end fast trip after a STOP command. -/
  | feederClear (path : Path) (port : Port) (value : Word) (be : BE)
  /-- FEEDER_TASK_RUN (R295). Every 10 ticks the feeder task updates junction temperature, curve accumulator, limit and state. -/
  | feederTaskRun (port : Port)
  /-- FEEDER_RETRY (R289). RETRY_MS after a trip the feeder re-enters INRUSH or ATTACH. -/
  | feederRetry (port : Port)
  /-- RETRIES_CLEAR (R289). RETRIES clears after 10 s without a trip in ON or CAPPED. -/
  | retriesClear (port : Port)
  /-- INRUSH_TIMEOUT (R289). INRUSH_MS elapsed in INRUSH trips with TRIP_CAUSE INRUSH. -/
  | inrushTimeout (port : Port)
  /-- MODEL_LATE_CLEAR (R297). MODEL_LATE clears after 1 ms without a thermal model overrun. -/
  | modelLateClear (port : Port)
  /-- TRIP_CLEAR_CHECK (R291). 100 us after SE_CLEAR.TRIP a still-reported FAST_TRIP holds the feeder in TRIPPED. -/
  | tripClearCheck (port : Port)
  /-- GOODCRC (R303). Receipt of a GOODCRC acknowledges a contract message and starts any response timer. -/
  | goodcrc (port : Port) (msgId : Oct)
  /-- CAPS (R307). Receipt of a tray CAPS fixes the sink role or restarts negotiation. -/
  | caps (port : Port) (msgId : Oct) (offers : Offers)
  /-- REQUEST (R308). NEG's policy accepts or rejects a tray REQUEST. -/
  | request (port : Port) (msgId : Oct) (offer : Nat) (srcCap : Bool) (pReq : Nat) (backfeed : Nat)
  /-- ACCEPT (R308). Receipt of ACCEPT makes or moves a contract. -/
  | accept (port : Port) (msgId : Oct)
  /-- REJECT (R308). Receipt of REJECT leaves the feeder negotiating or the contract unchanged. -/
  | reject (port : Port) (msgId : Oct) (reason : Byte)
  /-- PS_READY (R308). Receipt of PS_READY from a source tray in the sink role. -/
  | psReady (port : Port) (msgId : Oct)
  /-- CAP (R309). A CAP message carries the leaf's cap and grace, advisory to the tray. -/
  | cap (port : Port)
  /-- WARN (R309). A WARN message reports a change of the leaf's early-warning group. -/
  | warn (port : Port)
  /-- SOFT_RESET (R306). A SOFT_RESET clears stored message IDs and restarts negotiation without dropping the contract. -/
  | softReset (port : Port) (msgId : Oct)
  /-- HARD_RESET (R306). A HARD_RESET drops the contract, stops the feeder and sets HR_HOLD. -/
  | hardReset (port : Port) (msgId : Oct)
  /-- GOODCRC_TIMEOUT (R303). No GOODCRC 3 ms after a message repeats it, at most twice. -/
  | goodcrcTimeout (port : Port)
  /-- RESPONSE_TIMER_EXPIRY (R305). The 5 ms response timer expires and its owner sends SOFT_RESET. -/
  | responseTimerExpiry (port : Port)
  /-- HR_HOLD_END (R306). 100 ms after a hard reset the feeder enters ATTACH. -/
  | hrHoldEnd (port : Port)
  /-- CAPS_SEND (R307). In the source role of ATTACH NEG sends CAPS every 25 ms. -/
  | capsSend (port : Port)
  /-- ROLE_WINDOW_SWITCH (R307). TRY_SOURCE alternates between source and sink every 75 ms. -/
  | roleWindowSwitch (port : Port)
  /-- CAL_WINDOW_END (R318). A Benchmark window ends and its fit is accepted into a bin or discarded. -/
  | calWindowEnd (sec : Sec) (win : CalWindow)
  /-- ZERO_WINDOW_OPEN (R321). A current channel's zero-current window opens after 400 ticks of STOP. -/
  | zeroWindowOpen (port : Port) (ch : Chan)
  /-- ZERO_WINDOW_END (R321). After 256 ticks the zero-current window sets the channel's OFFSET. -/
  | zeroWindowEnd (port : Port) (ch : Chan) (first : Nat) (last : Nat)
  /-- CAL_PUBLISH (R324). Every PUB_MS Benchmark derives in-use calibration and publishes it under R37. -/
  | calPublish
  /-- CAL_CFG_WRITE (R332). A write of a channel's CAL_CFG sets its kind, resetting REF values, or is refused. -/
  | calCfgWrite (path : Path) (port : Port) (ch : Chan) (value : Word) (be : BE)
  /-- CAL_REF_WRITE (R332). A P0 write to GAIN, OFFSET or uncertainty of a REF channel sets it and clears UNCAL. -/
  | calRefWrite (path : Path) (port : Port) (ch : Chan) (word : Chan) (value : Word) (be : BE)
  /-- CHAIN_PATH_DOWN (R336). A Chain path without a valid message for 1 us is DOWN and raises CHAIN_PATH_DOWN. -/
  | chainPathDown (ch1 : Bool)
  /-- CHAIN_PATH_UP (R336). A Chain path is UP after 64 consecutive valid messages. -/
  | chainPathUp (ch1 : Bool)
  /-- DIGEST_RX (R343). The twin's digests for a tick arrive and are compared. -/
  | digestRx (tick : Nat) (digests : TwinDigests)
  /-- RESOLVE_OUTCOME (R346). With both self-check results held the twins resync, fence or swap roles. -/
  | resolveOutcome (peerPass : Bool)
  /-- AGREE_PROPOSAL (R340). The FOLLOW receives and acknowledges a proposed agreed tick. -/
  | agreeProposal (x : Nat) (item : AgreedItem)
  /-- AGREE_ACK (R340). The LEAD receives the acknowledgement of its proposal. -/
  | agreeAck (x : Nat)
  /-- AGREE_CANCEL (R340). The FOLLOW receives a cancel of a proposed tick. -/
  | agreeCancel (x : Nat)
  /-- AGREE_ACK_DEADLINE (R340). Without an acknowledgement 4 ticks before X the LEAD cancels and proposes again. -/
  | agreeAckDeadline (x : Nat)
  /-- MIRROR_RX (R339). A twin receives a MIRROR message of configuration, NEG state or law state. -/
  | mirrorRx (msg : MirrorMsg)
  /-- TIME_EXCHANGE (R341). A Chain TIME exchange measures the Datum offset and adjusts the rate. -/
  | timeExchange (offset : TimeMeas)
  /-- TWIN_TIME (R341). A twin time error above 16 dq for 1 ms raises TWIN_TIME. -/
  | twinTime
  /-- HEALTH_RX (R362). The twin's TW_HEALTH is received and held in TW_PEER_HEALTH. -/
  | healthRx (value : Word)
  /-- CHAIN_HELLO (R357). A HELLO exchange over Chain starts or continues joining. -/
  | chainHello (hello : Hello)
  /-- FENCED_NOTICE (R349). A FENCED notice from the twin is a declared loss of the twin. -/
  | fencedNotice
  /-- DEBUG_HOLD_RX (R364). On DEBUG_HOLD the other twin takes LEAD, performs single-sourced duties and stops digest comparison. -/
  | debugHoldRx
  /-- MGMT_FAIL_NOTICE (R431). On an MGMT_FAIL notice the twin treats it as DEBUG_HOLD, takes LEAD and acknowledges. -/
  | mgmtFailNotice
  /-- CHAIN_TIMEOUT (R349). No valid Chain message on either path for CHAIN_TIMEOUT_US declares the twin lost. -/
  | chainTimeout
  /-- FLT_IN_FAULT (R349). FLT_IN showing the fault code for 1 us declares the twin lost. -/
  | fltInFault
  /-- FLT_IN_LINE (R349). A line fault or loss of FLT_IN with a Chain path UP raises FLT_IN_LINE. -/
  | fltInLine (p : Bool)
  /-- TAKEOVER_EXPIRY (R351). At the end of TAKEOVER_US a FOLLOW not fenced takes LEAD, enters SOLO and fences. -/
  | takeoverExpiry
  /-- RECOVERY_WINDOW_END (R354). 100 ms after the latest triggering event the recovery window closes. -/
  | recoveryWindowEnd
  /-- JOIN_PHASE_END (R357). A joining phase reaches its end condition and the next phase, or PAIRED, begins. -/
  | joinPhaseEnd
  /-- JOIN_PHASE_TIMEOUT (R358). A joining phase exceeding its limit schedules a restart or sets JOIN_FAIL. -/
  | joinPhaseTimeout
  /-- JOIN_RESTART (R358). One second after a failed phase JOINING restarts from HELLO. -/
  | joinRestart
  /-- TW_REJOIN (R366). TW_CTRL.REJOIN clears JOIN_FAIL and restarts JOINING. -/
  | twRejoin (path : Path) (value : Word) (be : BE)
  /-- TW_TRAVERSE (R359). TW_CTRL.TRAVERSE requests one role swap. -/
  | twTraverse (path : Path) (value : Word) (be : BE)
  /-- TRAVERSE_SCHEDULE (R359). The Traverse schedule proposes a role swap when its period elapses. -/
  | traverseSchedule
  /-- INSERVICE_SELFTEST (R363). Every SELFTEST_MS a twin self-checks its next engine. -/
  | inserviceSelftest
  /-- MGMT_RESUME (R365). A halted MGMT resumes and the twin rejoins at phase CONFIG. -/
  | mgmtResume
  /-- FAB_HELLO_SEND (R378). Every 10 ms a station sends HELLO on each UP port. -/
  | fabHelloSend
  /-- FAB_HELLO_RX (R378). A received HELLO forms or refreshes an adjacency. -/
  | fabHelloRx (fport : FPort) (hello : FabHello)
  /-- ADJACENCY_TIMEOUT (R378). An adjacency ends after 35 ms without HELLO. -/
  | adjacencyTimeout (fport : FPort) (station : Nat)
  /-- LSA_FLOOD (R379). A station floods its LSA on change or every 10 s. -/
  | lsaFlood
  /-- LSA_RX (R379). A received LSA is kept, forwarded and used to recompute routes. -/
  | lsaRx (fport : FPort) (lsa : Lsa)
  /-- LSA_AGE_OUT (R379). An LSA older than 30 s is discarded. -/
  | lsaAgeOut (plane : Plane) (station : Nat)
  /-- TRANSIT_FORWARD (R376). A station forwards a transit frame with HOPS decremented. -/
  | transitForward (fport : FPort) (frame : FabFrame)
  /-- FAB_FRAME_RX (R371). A station receives a fabric frame, discarding other EtherTypes and PRP duplicates. -/
  | fabFrameRx (fport : FPort) (frame : FabFrame)
  /-- BUDGET_RX (R384). A BUDGET message is accepted, acknowledged and scheduled at an agreed tick. -/
  | budgetRx (hdr : SurveyHdr) (payload : Bytes)
  /-- SHARE_RX (R383). A SHARE message's section values are stored in FAB. -/
  | shareRx (hdr : SurveyHdr) (payload : Bytes)
  /-- SHARE_SEND (R383). A node with SHARE_TX sends SHARE every Crown period. -/
  | shareSend
  /-- EVENT_RX (R383). An EVENT message delivers one Field Book record. -/
  | eventRx (hdr : SurveyHdr) (payload : Bytes)
  /-- MGMT_READ (R385). A fabric MGMT READ is authenticated, applied through the partition window and answered. -/
  | mgmtRead (hdr : SurveyHdr) (payload : Bytes)
  /-- MGMT_WRITE (R385). A fabric MGMT WRITE is authenticated, applied under R339 and answered. -/
  | mgmtWrite (hdr : SurveyHdr) (payload : Bytes)
  /-- MGMT_RESPONSE (R385). A fabric MGMT RESPONSE is received by the requester. -/
  | mgmtResponse (hdr : SurveyHdr) (payload : Bytes)
  /-- TIME_RX (R383). A TIME message delivers the fabric Datum of a second boundary and TAI time. -/
  | timeRx (hdr : SurveyHdr) (payload : Bytes)
  /-- ACK_RX (R387). An ACK ends the repeats of a reliable message. -/
  | ackRx (hdr : SurveyHdr) (payload : Bytes)
  /-- REL_RETRY (R387). A reliable message without ACK is repeated at 1, 2 and 3 ms. -/
  | relRetry (msgId : Nat)
  /-- REL_FAIL (R387). No ACK by 4 ms counts CNT_REL_FAIL and raises DELIVERY_FAIL. -/
  | relFail (msgId : Nat)
  /-- PTP_MESSAGE_RX (R390). A gPTP message is handled by the station's time-aware system. -/
  | ptpMessageRx (plane : Plane) (msg : PtpMsg)
  /-- PTP_SYNC_SEND (R390). A grandmaster or relay sends Sync every 125 ms. -/
  | ptpSyncSend
  /-- PDELAY_SEND (R390). A station sends peer-delay requests every 1 s. -/
  | pdelaySend
  /-- PRP_SUPERVISION_SEND (R375). A station sends PRP supervision frames every 2 s. -/
  | prpSupervisionSend
  /-- TIME_LOCK (R392). At first lock or a large relock the LEAD steps Datum or sets FAB_DATUM_OFS. -/
  | timeLock (diff : Int)
  /-- FAB_TIME (R391). A fabric time error above 400 dq for 1 s raises FAB_TIME. -/
  | fabTime
  /-- QUIET_A (R393). FAB_CTRL.QUIET_A makes the LEAD propose sleep of plane A. -/
  | quietA (path : Path) (value : Word) (be : BE)
  /-- QUIET_B (R393). FAB_CTRL.QUIET_B makes the LEAD propose sleep of plane B. -/
  | quietB (path : Path) (value : Word) (be : BE)
  /-- FAB_WAKE (R395). FAB_CTRL.WAKE is a wake request, broadcast as WAKE. -/
  | fabWake (path : Path) (value : Word) (be : BE)
  /-- QUIET_PROPOSE (R393). A node acknowledges or refuses with WAKE a received QUIET_PROPOSE. -/
  | quietPropose (hdr : SurveyHdr) (plane : Plane) (q : Nat)
  /-- QUIET_COMMIT (R394). A node receives QUIET_COMMIT and prepares to sleep the plane at Q. -/
  | quietCommit (hdr : SurveyHdr) (plane : Plane) (q : Nat)
  /-- WAKE (R396). A received WAKE prevents, aborts or ends a plane's sleep. -/
  | wake (hdr : SurveyHdr)
  /-- QUIET_ACK_DEADLINE (R393). After 20 ms the initiator commits or aborts the QUIET proposal. -/
  | quietAckDeadline
  /-- QUIET_INSTANT (R394). At Q stations stop sending on the plane, or send WAKE without a commit. -/
  | quietInstant
  /-- SETTLE_WINDOW_END (R394). 10 us after Q the plane's ports enter electrical idle. -/
  | settleWindowEnd
  /-- SIGNAL_DETECT_WAKE (R395). Signal detected for 1 us on an idle port, or the other plane leaving UP, is a wake request. -/
  | signalDetectWake (fport : FPort)
  /-- CREDIT_WINDOW_START (R413). Every 1 us each partition's ring credit is reset to its CREDIT. -/
  | creditWindowStart
  /-- RING_GRANT (R414). The arbiter decides and grants the next tenure by tier, partition turn and weight. -/
  | ringGrant (reqs : RingReqs)
  /-- BACKOFF_END (R416). A backed-off queue presents its request again. -/
  | backoffEnd (slot : RSlot) (part : Part)
  /-- TENURE_END (R411). A tenure's last beat completes its transfer. -/
  | tenureEnd
  /-- RING_REVOKE (R417). A tier-2 or creditless tenure is revoked when another partition presents tier 1. -/
  | ringRevoke
  /-- RING_OVERHOLD (R418). A tenure reaching MAX_HOLD is ended with an error and its queue blocked. -/
  | ringOverhold
  /-- OVERHOLD_BLOCK_END (R418). After 16,384 cycles a blocked queue is presented again. -/
  | overholdBlockEnd (slot : RSlot) (part : Part)
  /-- RING_STARVE (R419). A transfer waiting beyond STARVE_LIMIT sets STARVE and raises RING_STARVE. -/
  | ringStarve (slot : RSlot) (part : Part)
  /-- PT_CFG_WRITE (R406). A write to PT_CFG sets window, session and QUIESCE of a partition's pages. -/
  | ptCfgWrite (path : Path) (part : Part) (value : Word) (be : BE)
  /-- CREDIT_WRITE (R415). A write to CREDIT is accepted for the next window or refused with CFG_REJECT. -/
  | creditWrite (path : Path) (part : Part) (value : Word) (be : BE)
  /-- QUOTA_WRITE (R407). A write to FBK_QUOTA is accepted or refused when tenant quotas would exceed 65,536. -/
  | quotaWrite (path : Path) (part : Part) (value : Word) (be : BE)
  /-- FAULT_RAISE (R424). A source changing to raised is recorded and its severity action taken. -/
  | faultRaise (src : Byte) (inst : Nat)
  /-- WIRE_FAULT (R423). A pair with equal rails for 2 samples raises WIRE_FAULT. -/
  | wireFault (src : Byte)
  /-- S3_RESET_DELAY (R427). RESET_DELAY_MS after an S3 fence Plumb performs a full device reset. -/
  | s3ResetDelay
  /-- MGMT_FAIL (R431). A lockstep mismatch or missing heartbeat halts MGMT and notifies the twin. -/
  | mgmtFail
  /-- MGMT_FAIL_ACK_RX (R431). The twin's acknowledgement within 1 ms makes the chip fence under R427. -/
  | mgmtFailAckRx
  /-- MGMT_FAIL_ACK_TIMEOUT (R431). Without acknowledgement the chip keeps its laws running and shows the fault code. -/
  | mgmtFailAckTimeout
  /-- WATCHDOG_SERVICE (R432). The Plumb lockstep pair services both watchdog counters. -/
  | watchdogService
  /-- WATCHDOG_EXPIRY (R432). The watchdog pair expires, driving FLT_OUT to fault and forcing port groups to IDLE. -/
  | watchdogExpiry
  /-- WATCHDOG_RESET (R432). 10 ms after expiry the watchdog performs a full device reset. -/
  | watchdogReset
  /-- DIE_SENSOR_READ (R433). Every 100 us the die sensors are read and T_MAX recomputed. -/
  | dieSensorRead (temps : Temps)
  /-- DIE_SENSOR_FAILED (R434). A sensor disagreeing with agreeing neighbours for 100 ms is marked FAILED. -/
  | dieSensorFailed (sensor : Sensor)
  /-- THERMAL_SHUTDOWN (R437). A sensor at 125 C for 10 us fences the chip and powers the main rails down. -/
  | thermalShutdown
  /-- THERMAL_RESTART (R438). After 10 s below 100 C Plumb restarts the chip, or after three shutdowns locks it. -/
  | thermalRestart
  /-- STAGE_SENSOR_FAIL (R439). An implausible or stuck stage temperature item is failed and raises STAGE_SENSOR_FAIL. -/
  | stageSensorFail (port : Port) (item : Bool)
  /-- STAGE_SENSOR_RECOVER (R439). A failed stage item recovers after 10 s of good readings. -/
  | stageSensorRecover (port : Port) (item : Bool)
  /-- FC_OUTSTANDING_CLEAR (R428). A W1C write to FC_OUTSTANDING clears outstanding sources other than S3. -/
  | fcOutstandingClear (path : Path) (word : Oct) (value : Word) (be : BE)
  /-- GLITCH_DETECT (R502). A glitch detection raises GLITCH, fences and resets the chip within 10 us. -/
  | glitchDetect
  /-- FBK_RECORD_QUEUE (R448). A record enters the Plumb queue, displacing a lower-severity one or dropped when full. -/
  | fbkRecordQueue (code : Nat) (source : Nat) (sev : Chan) (part : Part) (payload : Bytes)
  /-- FBK_RECORD_WRITE (R448). Plumb writes the next queued record to MRAM with its SEQ and MAC. -/
  | fbkRecordWrite
  /-- FBK_ERASE_KEY (R451). A write to FB_CTRL.ERASE starts, completes or aborts the erase key sequence. -/
  | fbkEraseKey (path : Path) (value : Word) (be : BE)
  /-- FBK_ERASE_LAPSE (R451). The 1 ms of an erase key lapses, aborting it and raising LOCK_ABORT. -/
  | fbkEraseLapse
  /-- FBK_ERASE_DONE (R451). The erase completes, frees every slot and writes FBK_ERASED. -/
  | fbkEraseDone
  /-- FBK_WINDOW_READ (R452). A read of the Field Book window latches and checks a slot or returns the latched copy. -/
  | fbkWindowRead (path : Path) (addr : Word) (be : BE)
  /-- FR_DATA_READ (R455). A read of FR_DATA word 0 latches the partition's next record and advances its cursor. -/
  | frDataRead (path : Path) (word : Hex) (be : BE)
  /-- WCAP_ARM (R459). CS_CTRL.ARM arms a capture set or is refused. -/
  | wcapArm (path : Path) (setN : Oct) (value : Word) (be : BE)
  /-- WCAP_TRIGGER (R459). CS_CTRL.TRIGGER triggers an armed set manually. -/
  | wcapTrigger (path : Path) (setN : Oct) (value : Word) (be : BE)
  /-- WCAP_ABORT (R459). CS_CTRL.ABORT returns an armed or posting set to IDLE. -/
  | wcapAbort (path : Path) (setN : Oct) (value : Word) (be : BE)
  /-- WCAP_TRIG_EVENT (R459). A configured trigger source triggers an armed set. -/
  | wcapTrigEvent (setN : Oct)
  /-- WCAP_ENTRY (R458). At each DECIM tick a capture entry is written into the set's region. -/
  | wcapEntry (setN : Oct) (moved : Bool)
  /-- WCAP_POST_END (R459). The last post-trigger entry makes the set DONE and writes CAPTURE_DONE. -/
  | wcapPostEnd (setN : Oct)
  /-- WCAP_FLUSH_START (R461). A DONE set with FLUSH_EN starts copying to the capture archive. -/
  | wcapFlushStart (setN : Oct)
  /-- WCAP_FLUSH_DONE (R461). The archive entry commits, the set is FLUSHED and CAPTURE_FLUSHED is written. -/
  | wcapFlushDone (setN : Oct)
  /-- WCAP_FLUSH_FAIL (R461). A programming error leaves the set in FLUSH_FAIL. -/
  | wcapFlushFail (setN : Oct)
  /-- PCIE_PERST (R466). PCIE_PERST_N low takes the link down and resets configuration space only. -/
  | pciePerst
  /-- DMA_START (R472). A write of START begins a host DMA channel, or ends it with RANGE. -/
  | dmaStart (path : Path) (chan : Chan) (value : Word) (be : BE)
  /-- DMA_COMPLETE (R472). A DMA channel finishes its transfer or ends with an error. -/
  | dmaComplete (chan : Chan) (err : Nat)
  /-- MB_DOORBELL (R470). A write to MB_DOORBELL posts a mailbox request, answered NOT_LEAD by a FOLLOW. -/
  | mbDoorbell (value : Word) (cmd : Nat) (payload : Bytes)
  /-- STAGE_BEGIN (R494). Mailbox STAGE_BEGIN erases STAGED in both twins. -/
  | stageBegin
  /-- STAGE_DATA (R494). Mailbox STAGE_DATA programs data into STAGED in both twins. -/
  | stageData
  /-- STAGE_END (R494). Mailbox STAGE_END verifies STAGED and marks it pending. -/
  | stageEnd
  /-- ACTIVATE (R495). Mailbox ACTIVATE starts replacement of MGMT or NEG_POLICY, or is refused. -/
  | activate
  /-- SWAP_KERNELS (R500). Mailbox SWAP_KERNELS loads staged kernels and swaps the laws one by one. -/
  | swapKernels
  /-- PROMOTE_GOLDEN (R494). Mailbox PROMOTE_GOLDEN copies ACTIVE over GOLDEN in both twins. -/
  | promoteGolden
  /-- RAISE_SVN (R501). Mailbox RAISE_SVN blows anti-rollback fuses, or is refused. -/
  | raiseSvn
  /-- FW_ABORT (R500). Mailbox FW_ABORT stops a staging or kernel swap in progress. -/
  | fwAbort
  /-- CFG_SAVE (R485). Mailbox CFG_SAVE writes the running configuration into the older store copy in both twins. -/
  | cfgSave
  /-- ACTIVATION_PAUSE (R496). A twin pauses MGMT, decrypts the selected images and restarts at warm entry. -/
  | activationPause
  /-- PAUSE_END (R496). Management services resume and settling begins. -/
  | pauseEnd
  /-- SETTLE_END (R498). After 1 s of settling the twin keeps its images and copies them to ACTIVE. -/
  | settleEnd
  /-- IIC_TARGET_WRITE (R475). An IIC0 or IIC2 write transaction sets the pointer and writes the register file. -/
  | iicTargetWrite (tgt : Tgt) (bytes : Bytes)
  /-- IIC_TARGET_READ (R475). An IIC0 or IIC2 read transaction returns bytes from the pointer. -/
  | iicTargetRead (tgt : Tgt) (count : Nat)
  /-- IIC_PEC_STOP (R478). With PEC_EN a write is applied at STOP only if its PEC is correct. -/
  | iicPecStop (tgt : Tgt)
  /-- IIC_SCL_TIMEOUT (R474). SCL low for 25 ms makes a target release the bus and discard the transaction. -/
  | iicSclTimeout (tgt : Tgt)
  /-- IIC2_ADDR_MATCH (R479). IIC2 recognises its address without a clock, acknowledges and stretches SCL. -/
  | iic2AddrMatch (addr : Nat)
  /-- IIC2_STRETCH_END (R479). SCL is released when the Plumb clock runs, or after 2 ms with a NACK of the next byte. -/
  | iic2StretchEnd (clock : Bool)
  /-- IIC1_START (R480). A write of IIC1 CMD.START begins a controller transaction. -/
  | iic1Start (path : Path) (value : Word) (be : BE)
  /-- IIC1_DONE (R480). An IIC1 transaction completes, retries or ends with an error. -/
  | iic1Done (err : Nat) (rx : Bytes)
  /-- PMC_SEL_WRITE (R507). A write changing EVENT or CHAIN clears the counter and starts counting the new selection. -/
  | pmcSelWrite (path : Path) (page : Word) (sel : Chan) (value : Word) (be : BE)
  /-- SNAP (R509). A write of SNAP_CTRL.SNAP schedules a counter snapshot, or is refused. -/
  | snap (path : Path) (value : Word) (be : BE)
  /-- SNAP_TAKE (R509). At the snapshot tick every counter and selection is copied. -/
  | snapTake
  /-- SNAP_DONE (R509). The snapshot registers are replaced together and PG_SEQ increments once. -/
  | snapDone
  /-- DBG_CHALLENGE (R511). The debugger shifts out DEVICE_ID and a fresh nonce. -/
  | dbgChallenge (nonce : Bytes)
  /-- DBG_RESPONSE (R512). A signed response is verified and unlocks debug, or counts a failure. -/
  | dbgResponse (sig : Bytes)
  /-- DBG_ACCESS (R514). A debugger BAR0 read or write with P0 identity, with or without side effects. -/
  | dbgAccess (addr : Word) (op : DbgOp) (value : Word)
  /-- DBG_HALT (R513). DBG_CTRL.HALT halts MGMT, which announces DEBUG_HOLD. -/
  | dbgHalt
  /-- DBG_STEP (R511). DBG_CTRL.STEP steps the halted MGMT. -/
  | dbgStep
  /-- DBG_RESUME (R513). DBG_CTRL.RESUME resumes the halted MGMT. -/
  | dbgResume
  /-- RESET_N_RELEASE (R90). RESET_N rises after a recognised reset and Plumb ROM restarts the chip from step 1, resuming at step 2 or 3. -/
  | resetNRelease
  /-- LINK_ALIGN_ACQUIRE (R100). A stage-link receiver finds K28.5, corrects inverted polarity and acquires frame alignment. -/
  | linkAlignAcquire (port : Port) (inverted : Bool)
  /-- FAB_PORT_LINK_UP (R369). A fabric port completes auto-negotiation or training and its PHY link comes UP. -/
  | fabPortLinkUp (fport : FPort) (fec : Bool)
  /-- FAB_PORT_LINK_DOWN (R399). A fabric port's PHY link fails, possibly taking its plane DOWN and raising FAB_PLANE_DOWN. -/
  | fabPortLinkDown (fport : FPort)
  /-- PCIE_LINK_UP (R466). The PCIe link trains after PERST release and HOST.LINK_UP, WIDTH and SPEED are set. -/
  | pcieLinkUp (width : Nat) (speed : Nat)
  /-- PCIE_LINK_DOWN (R466). The PCIe link goes down without PERST and any in-flight DMA ends with error HOST. -/
  | pcieLinkDown
  /-- PCIE_CONFIG_WRITE (R466). A host configuration write enters D3hot or clears Bus Master Enable, ending in-flight DMA with error HOST. -/
  | pcieConfigWrite (d3 : Bool) (bme : Bool)
  /-- MSIX_VECTOR_UNMASK (R469). A host write unmasking an MSI-X vector whose pending bit is set sends its message. -/
  | msixVectorUnmask (vector : Vector64)
  /-- MAILBOX_COMPLETION (R494). A mailbox command finishes in both twins, writes its response and sets MB_STATUS.DONE on vector 54. -/
  | mailboxCompletion
  /-- ACTIVE_COPY_DONE (R498). The background copy of activated or swapped containers into ACTIVE finishes and PENDING clears, also clearing ACTIVE_BAD. -/
  | activeCopyDone
  /-- RESUME_TIMEOUT (R498). Management services not resumed within 80 ms of a pause fail the settle and revert to the ACTIVE images. -/
  | resumeTimeout
  /-- SESSION_IDLE_TIMEOUT (R377). The idle timer of a fabric MGMT session runs out. -/
  | sessionIdleTimeout (part : Part)
  /-- PTP_SLAVE_LOSS (R391). The LEAD's last SLAVE port on a plane is lost, so it follows the other plane or its Datum source becomes FREE. -/
  | ptpSlaveLoss (plane : Plane)
  /-- EXTEST (R511). The EXTEST boundary-scan instruction drives pins, or acts as BYPASS while any port group sends CMD frames. -/
  | extest (pins : Bytes)
deriving DecidableEq, Repr

end Sys2Proof
end

