-- ==== Sys2Proof/Config.lean ====
section
/-! DEFINITION. Config.lean: what the specification fixes per part or leaves open, as constants without a body. No proof
can see a value of one, so a statement that mentions one holds for every value. -/

namespace Sys2Proof.Config

/-- The n-th free value: a value that the specification leaves open, after which the chip goes on. -/
opaque freeValue : Nat → Nat
/-- The 64-bit digest that both twins compute over one group of a tick (R343). -/
opaque digest64 : Bytes → Nat
/-- The Field Book authenticator of a record's bytes 0 to 55 (R445). -/
opaque recordMac : Bytes → Nat
/-- Whether a container's signature verifies under a ROM key, by number (R488, R489). -/
opaque signatureValid : Nat → Bytes → Bool
/-- Whether a container decrypts with a correct tag (R490). -/
opaque tagValid : Bytes → Bool
/-- Whether a debug response answers a challenge under a ROM key, by number (R512). -/
opaque responseValid : Nat → Bytes → Bytes → Bool
/-- Whether a management message's authenticator verifies under a session key (R385). -/
opaque sessionTagValid : Nat → Bytes → Bool
/-- The n-th random nonce of the debug port (R512). -/
opaque nonce : Nat → Bytes
/-- Whether the chip recognises a RESET_N pulse between 100 ns and 1 us long, by its length in ns (R90, R541). -/
opaque recognisesPulse : Nat → Bool
/-- The clock of a cluster's engines in MHz, as MGMT sets it at start (R22, R182). -/
opaque clusterMHz : Nat → Nat
/-- Island clock cycles in a tick of an island whose clock the specification does not state, by page and tick (R508). -/
opaque islandCycles : Nat → Nat → Nat
/-- Inductance of the phase on a port for which Benchmark has none and whose law type has no L_NOM (R234). -/
opaque noInductance : Nat → F32
/-- The on-duration that a stage end's own loop asks of a switch pair under LOCAL_LOOP, by pair, set-point, code and the last
on-duration: the manual leaves the loop to the stage end (R147). -/
opaque loopLen : Nat → Int → Int → Nat → Nat
/-- The plain payload of a container, as it is decrypted inside the chip (R490). -/
opaque plain : Bytes → Bytes
/-- Whether a kernel image holds a law type, by the image's bytes and the type's code (R177). -/
opaque kernelHas : Bytes → Nat → Bool
/-- Engine cycles of the state-import entry of a kernel image, by its version (R181). -/
opaque importCost : Nat → Nat
/-- The RAM contents of a register or buffer that the specification says is not preserved, by its number. -/
opaque notPreserved : Nat → Nat

end Sys2Proof.Config
end

