-- ==== Sys2Proof/Machine/Maps.lean ====
section
/-! DEFINITION. Maps.lean: maps from numbers to contents, and byte memories.

A map lists its entries in ascending order of their numbers; a number that is not listed holds a default. A byte memory
lists, in strictly ascending order of address, the bytes that are not zero: an unlisted byte reads as zero, and writing
zero removes the entry, so equal memories are equal lists. -/

namespace Sys2Proof.Machine

/-- A map from numbers to contents, in ascending order of the numbers. -/
abbrev SMap (α : Type) := List (Nat × α)

/-- What a map holds for a number, `d` where it lists none. -/
def mapGet {α : Type} : SMap α → Nat → α → α
  | [], _, d => d
  | (j, v) :: m, k, d => if j = k then v else mapGet m k d

/-- A map with `v` for the number `k`. -/
def mapSet {α : Type} : SMap α → Nat → α → SMap α
  | [], k, v => [(k, v)]
  | (j, w) :: m, k, v =>
    if k < j then (k, v) :: (j, w) :: m
    else if k = j then (k, v) :: m
    else (j, w) :: mapSet m k v

/-- A map without the number `k`. -/
def mapDel {α : Type} (m : SMap α) (k : Nat) : SMap α := m.filter (fun e => e.1 != k)

/-- A map whose entry for `k` is changed by `f`, starting from `d` where it lists none. -/
def mapMod {α : Type} (m : SMap α) (k : Nat) (d : α) (f : α → α) : SMap α := mapSet m k (f (mapGet m k d))

/-- The map lists its numbers in strictly ascending order. -/
def mapSorted {α : Type} : SMap α → Bool
  | [] => true
  | [_] => true
  | (j, _) :: (k, w) :: m => decide (j < k) && mapSorted ((k, w) :: m)

/-- A byte memory. -/
abbrev Memory := List Host.Cell

/-- The byte at an address. -/
def memGet : Memory → Nat → Byte
  | [], _ => 0
  | (j, v) :: m, k => if j = k then v else memGet m k

/-- A memory with the byte `v` at address `k`. -/
def memSet : Memory → Nat → Byte → Memory
  | [], k, v => if v = 0 then [] else [(k, v)]
  | (j, w) :: m, k, v =>
    if k < j then (if v = 0 then (j, w) :: m else (k, v) :: (j, w) :: m)
    else if k = j then (if v = 0 then m else (k, v) :: m)
    else (j, w) :: memSet m k v

/-- Every listed address is above `b`, strictly ascending, and no listed byte is zero. -/
def memAbove : Option Nat → Memory → Bool
  | _, [] => true
  | b, (j, v) :: m => (match b with | none => true | some x => decide (x < j)) && (v != 0) && memAbove (some j) m

/-- The canonical form of a byte memory: strictly ascending addresses, no zero byte listed. -/
def Memory.wf (m : Memory) : Bool := memAbove none m

/-- `n` bytes from an address, the first at the lowest address. -/
def memBytes (m : Memory) (a : Nat) : Nat → Bytes
  | 0 => []
  | n + 1 => memGet m a :: memBytes m (a + 1) n

/-- A memory with the bytes `bs` from an address on. -/
def memPut (m : Memory) (a : Nat) : Bytes → Memory
  | [] => m
  | b :: bs => memPut (memSet m a b) (a + 1) bs

/-- The number that bytes spell, the first the least significant (R3). -/
def leNat : Bytes → Nat
  | [] => 0
  | b :: bs => b.toNat + 256 * leNat bs

/-- `n` bytes of a number, the least significant first (R3). -/
def leBytes (v : Nat) : Nat → Bytes
  | 0 => []
  | n + 1 => BitVec.ofNat 8 v :: leBytes (v / 256) n

/-- The little-endian word at an address. -/
def memWord (m : Memory) (a : Nat) : Nat := leNat (memBytes m a 4)

/-- `n` bytes of a byte string from offset `o`, zero beyond its end. -/
def sliceBytes (bs : Bytes) (o n : Nat) : Bytes :=
  let t := (bs.drop o).take n
  t ++ List.replicate (n - t.length) 0

/-- The little-endian number in `n` bytes of a byte string from offset `o`. -/
def leAt (bs : Bytes) (o n : Nat) : Nat := leNat (sliceBytes bs o n)

/-- The field of bits `hi` to `lo` of a number. -/
def bitsOf (v hi lo : Nat) : Nat := v / 2 ^ lo % 2 ^ (hi + 1 - lo)

/-- One bit of a number. -/
def bitOf (v n : Nat) : Bool := v / 2 ^ n % 2 == 1

/-- 1 for true, 0 for false. -/
def b2n (b : Bool) : Nat := if b then 1 else 0

/-- The two's-complement value of the low `w` bits of a number. -/
def sgn (w v : Nat) : Int :=
  let u := v % 2 ^ w
  if 2 * u < 2 ^ w then (u : Int) else (u : Int) - 2 ^ w

/-- The low `w` bits of an integer in two's complement. -/
def unsgn (w : Nat) (x : Int) : Nat := (x % (2 ^ w : Int)).toNat

/-- Serial-number order of `n`-bit values (R546): `a` is later than `b`. -/
def later (n a b : Nat) : Bool :=
  let d := (a + 2 ^ n - b % 2 ^ n) % 2 ^ n
  decide (1 ≤ d) && decide (d ≤ 2 ^ (n - 1) - 1)

/-- The later of two `n`-bit serial numbers; the numerically larger where they lie half the range apart (R546). -/
def laterOf (n a b : Nat) : Nat := if later n a b then a else if later n b a then b else max a b

/-- Replaces entry `i` of a list. -/
def setAt {α : Type} : List α → Nat → α → List α
  | [], _, _ => []
  | _ :: xs, 0, v => v :: xs
  | x :: xs, n + 1, v => x :: setAt xs n v

/-- The numbers below `n`. -/
def upTo (n : Nat) : List Nat := List.range n

/-- Folds a state change over a list. -/
def foldc {α σ : Type} (xs : List α) (f : α → σ → σ) (s : σ) : σ := xs.foldl (fun s x => f x s) s

end Sys2Proof.Machine
end

