-- ==== Sys2Proof/Machine/F32.lean ====
section
/-! DEFINITION. F32.lean: binary32 arithmetic as the engines do it (R162): IEEE 754, fused multiply-add, round to nearest with
ties to even, subnormals kept. A finite number is taken apart into `m * 2^e` with integers `m` and `e`, the exact result is
computed, and rounding happens once at the end. -/

namespace Sys2Proof.Machine

/-- What a binary32 word stands for. -/
inductive FVal where
  | nan
  | inf (neg : Bool)
  | fin (neg : Bool) (m : Nat) (e : Int)
deriving DecidableEq, Repr

/-- Sign bit of a binary32 word. -/
def fSign (x : F32) : Bool := x.getLsbD 31

/-- The value of a binary32 word. -/
def fVal (x : F32) : FVal :=
  let v := x.toNat
  let ex : Nat := v / 2 ^ 23 % 256
  let fr : Nat := v % 2 ^ 23
  if ex = 255 then (if fr = 0 then .inf (fSign x) else .nan)
  else if ex = 0 then .fin (fSign x) fr (-149)
  else .fin (fSign x) (2 ^ 23 + fr) ((ex : Int) - 150)

/-- The word with a sign and the 31 bits below it. -/
def fPack (neg : Bool) (v : Nat) : F32 := BitVec.ofNat 32 (if neg then 2 ^ 31 + v else v)

/-- The quiet NaN that an invalid operation yields. -/
def fNan : F32 := 0x7FC00000#32
/-- Infinity. -/
def fInf (neg : Bool) : F32 := fPack neg 0x7F800000

/-- `m / 2^k` rounded to the nearest integer, ties to even. -/
def shrEven (m k : Nat) : Nat :=
  let q := m / 2 ^ k
  let r := m % 2 ^ k
  if 2 * r < 2 ^ k then q else if 2 * r = 2 ^ k then q + q % 2 else q + 1

/-- The binary32 number nearest to `m * 2^e`, with ties to even (R162). -/
def fRound (neg : Bool) (m : Nat) (e : Int) : F32 :=
  if m = 0 then fPack neg 0
  else
    let top : Int := e + (Nat.log2 m : Int) - 23
    let ee : Int := if top < -149 then -149 else top
    let sh : Int := ee - e
    let q := if sh ≤ 0 then m * 2 ^ (-sh).toNat else shrEven m sh.toNat
    let q1 := if q = 2 ^ 24 then 2 ^ 23 else q
    let e1 : Int := if q = 2 ^ 24 then ee + 1 else ee
    if q1 < 2 ^ 23 then fPack neg q1
    else
      let ex := e1 + 150
      if ex ≥ 255 then fInf neg else fPack neg (ex.toNat * 2 ^ 23 + (q1 - 2 ^ 23))

/-- The signed integer of a sign and a magnitude. -/
def sInt (neg : Bool) (m : Nat) : Int := if neg then -(m : Int) else (m : Int)

/-- The binary32 number nearest to the integer `i` times `2^e`; `z` is the sign of an exact zero. -/
def fRoundI (i : Int) (e : Int) (z : Bool := false) : F32 :=
  if i = 0 then fPack z 0 else fRound (decide (i < 0)) i.natAbs e

/-- Sum of `m1 * 2^e1` and `m2 * 2^e2`, exact, as an integer and an exponent. -/
def addEx (i1 : Int) (e1 : Int) (i2 : Int) (e2 : Int) : Int × Int :=
  if e1 ≤ e2 then (i1 + i2 * 2 ^ (e2 - e1).toNat, e1) else (i1 * 2 ^ (e1 - e2).toNat + i2, e2)

/-- Fused multiply-add: x times y plus z, rounded once. -/
def ffma (x y z : F32) : F32 :=
  match fVal x, fVal y, fVal z with
  | .nan, _, _ => fNan
  | _, .nan, _ => fNan
  | .inf a, .inf b, .fin _ _ _ => fInf (a != b)
  | .inf a, .inf b, .inf c => if (a != b) == c then fInf c else fNan
  | .inf a, .fin b m _, .fin _ _ _ => if m = 0 then fNan else fInf (a != b)
  | .inf a, .fin b m _, .inf c => if m = 0 then fNan else if (a != b) == c then fInf c else fNan
  | .fin b m _, .inf a, .fin _ _ _ => if m = 0 then fNan else fInf (a != b)
  | .fin b m _, .inf a, .inf c => if m = 0 then fNan else if (a != b) == c then fInf c else fNan
  | .inf _, .inf _, .nan => fNan
  | .inf _, .fin _ _ _, .nan => fNan
  | .fin _ _ _, .inf _, .nan => fNan
  | .fin _ _ _, .fin _ _ _, .nan => fNan
  | .fin _ _ _, .fin _ _ _, .inf c => fInf c
  | .fin a m1 e1, .fin b m2 e2, .fin c m3 e3 =>
    let p := sInt (a != b) (m1 * m2)
    let (i, e) := addEx p (e1 + e2) (sInt c m3) e3
    fRoundI i e (if m1 * m2 = 0 ∧ m3 = 0 then (a != b) && c else false)

/-- Product. -/
def fmul (x y : F32) : F32 :=
  match fVal x, fVal y with
  | .nan, _ => fNan
  | .inf _, .nan => fNan
  | .fin _ _ _, .nan => fNan
  | .inf a, .inf b => fInf (a != b)
  | .inf a, .fin b m _ => if m = 0 then fNan else fInf (a != b)
  | .fin b m _, .inf a => if m = 0 then fNan else fInf (a != b)
  | .fin a m1 e1, .fin b m2 e2 => fRound (a != b) (m1 * m2) (e1 + e2)

/-- The number 1. -/
def fOne : F32 := 0x3F800000#32
/-- The number 0. -/
def fZero : F32 := 0x00000000#32

/-- Sum. -/
def fadd (x y : F32) : F32 := ffma x fOne y

/-- Negation. -/
def fneg (x : F32) : F32 := x ^^^ 0x80000000#32

/-- Magnitude. -/
def fabs (x : F32) : F32 := x &&& 0x7FFFFFFF#32

/-- Difference. -/
def fsub (x y : F32) : F32 := fadd x (fneg y)

/-- Quotient. -/
def fdiv (x y : F32) : F32 :=
  match fVal x, fVal y with
  | .nan, _ => fNan
  | .inf _, .nan => fNan
  | .fin _ _ _, .nan => fNan
  | .inf _, .inf _ => fNan
  | .inf a, .fin b _ _ => fInf (a != b)
  | .fin a _ _, .inf b => fPack (a != b) 0
  | .fin a m1 e1, .fin b m2 e2 =>
    if m2 = 0 then (if m1 = 0 then fNan else fInf (a != b))
    else
      let n := m1 * 2 ^ 64
      let q := n / m2
      fRound (a != b) (2 * q + (if n % m2 = 0 then 0 else 1)) (e1 - e2 - 65)

/-- Whole square root of a number below `4^n`, found bit by bit. -/
def isqrtN : Nat → Nat → Nat
  | 0, _ => 0
  | n + 1, v =>
    let r := 2 * isqrtN n (v / 4)
    if (r + 1) * (r + 1) ≤ v then r + 1 else r

/-- Square root. -/
def fsqrt (x : F32) : F32 :=
  match fVal x with
  | .nan => fNan
  | .inf a => if a then fNan else fInf false
  | .fin a m e =>
    if m = 0 then fPack a 0
    else if a then fNan
    else
      let e0 := e - 60
      let odd := e0 % 2
      let v := m * 2 ^ (60 + odd.toNat)
      let r := isqrtN 48 v
      fRound false (2 * r + (if r * r = v then 0 else 1)) ((e0 - odd) / 2 - 1)

/-- Not a number. -/
def fIsNan (x : F32) : Bool := match fVal x with | .nan => true | .inf _ => false | .fin _ _ _ => false

/-- A finite number. -/
def fIsFin (x : F32) : Bool := match fVal x with | .nan => false | .inf _ => false | .fin _ _ _ => true

/-- An integer that orders the numbers that are not NaN as they are ordered. -/
def fKey (x : F32) : Int := sInt (fSign x) (x.toNat % 2 ^ 31)

/-- Less; false where one is not a number. -/
def flt (x y : F32) : Bool := !fIsNan x && !fIsNan y && decide (fKey x < fKey y)

/-- Less or equal; false where one is not a number. -/
def fle (x y : F32) : Bool := !fIsNan x && !fIsNan y && decide (fKey x ≤ fKey y)

/-- Equal; false where one is not a number. -/
def feq (x y : F32) : Bool := !fIsNan x && !fIsNan y && decide (fKey x = fKey y)

/-- The smaller. -/
def fmin (x y : F32) : F32 := if flt y x then y else x
/-- The larger. -/
def fmax (x y : F32) : F32 := if flt x y then y else x
/-- The number held between two limits. -/
def fclamp (lo hi x : F32) : F32 := fmin hi (fmax lo x)

/-- The number nearest to an integer. -/
def fOfInt (i : Int) : F32 := fRoundI i 0
/-- The number nearest to a natural number. -/
def fOfNat (n : Nat) : F32 := fRound false n 0
/-- The number nearest to `n / d`. -/
def fRat (n d : Nat) : F32 := fdiv (fOfNat n) (fOfNat d)

/-- The nearest integer, ties to even; 0 for a number that is not finite. -/
def fToInt (x : F32) : Int :=
  match fVal x with
  | .nan => 0
  | .inf _ => 0
  | .fin a m e => if e ≥ 0 then sInt a (m * 2 ^ e.toNat) else sInt a (shrEven m (-e).toNat)

/-- The largest integer not above; 0 for a number that is not finite. -/
def fFloor (x : F32) : Int :=
  match fVal x with
  | .nan => 0
  | .inf _ => 0
  | .fin a m e =>
    if e ≥ 0 then sInt a (m * 2 ^ e.toNat)
    else if a then -(((m + 2 ^ (-e).toNat - 1) / 2 ^ (-e).toNat : Nat) : Int)
    else ((m / 2 ^ (-e).toNat : Nat) : Int)

/-- The nearest natural number, 0 for a negative one. -/
def fToNat (x : F32) : Nat := (fToInt x).toNat

/-- Sum of a list, from the first on. -/
def fsum (xs : List F32) : F32 := xs.foldl fadd fZero

/-- The binary32 number in a word. -/
def f32 (n : Nat) : F32 := BitVec.ofNat 32 n

/-- Arithmetic tests: the expected words follow IEEE 754. -/
theorem fmul_two_three : fmul (fOfNat 2) (fOfNat 3) = 0x40C00000#32 := by decide +kernel
theorem fadd_tenths : fadd 0x3DCCCCCD#32 0x3E4CCCCD#32 = 0x3E99999A#32 := by decide +kernel
theorem fdiv_third : fdiv fOne (fOfNat 3) = 0x3EAAAAAB#32 := by decide +kernel
theorem fsqrt_two : fsqrt (fOfNat 2) = 0x3FB504F3#32 := by decide +kernel
theorem fRound_tie : fOfNat 16777217 = 0x4B800000#32 := by decide +kernel

/-- Pi. -/
def fPi : F32 := 0x40490FDB#32

end Sys2Proof.Machine
end

