-- ==== Sys2Proof/Machine/Elem.lean ====
section
/-! DEFINITION. Elem.lean: the elementary functions that rules use by name: sine and cosine (R234, R277, R329), the exponential
(R295), the logarithm and the power (R298). Each is computed in fixed point with 96 bits below the binary point and rounded once
to binary32; the manual names no rounding of theirs, DESIGN CHOICE (211). -/

namespace Sys2Proof.Machine

/-- Pi times 2^320, rounded down to within a few units. -/
def piFix : Nat := 0x3243f6a8885a308d313198a2e03707344a4093822299f31d0082efa98ec4e6c89452821e638d01378
/-- The natural logarithm of 2 times 2^320, rounded down to within a few units. -/
def ln2Fix : Nat := 0xb17217f7d1cf79abc9e3b39803f2f6af40f343267298b62d8a0d175b8baafa2be7b876206debac98

/-- Bits below the binary point of the fixed-point calculation. -/
def fixBits : Nat := 96
/-- 1 in fixed point. -/
def fixOne : Int := 2 ^ fixBits

/-- `m * 2^e` in fixed point, rounded down. -/
def fixOf (m : Nat) (e : Int) : Nat :=
  let k := e + fixBits
  if k ≥ 0 then m * 2 ^ k.toNat else m / 2 ^ (-k).toNat

/-- Product in fixed point. -/
def fixMul (a b : Int) : Int := a * b / fixOne

/-- The binary32 number nearest to a fixed-point number. -/
def fixRound (a : Int) : F32 := fRoundI a (-(fixBits : Int))

/-- The sum of a power series from the term `t` on: term `k + 1` is term `k` times `x` divided by `d k`. -/
def series (x : Int) (d : Nat → Nat) : Nat → Nat → Int → Int
  | 0, _, _ => 0
  | n + 1, k, t => t + series x d n (k + 1) (fixMul t x / (d k : Int))

/-- Sine of a fixed-point angle from 0 to a right angle. -/
def sinSer (r : Int) : Int := series (-(fixMul r r)) (fun k => (2 * k + 2) * (2 * k + 3)) 24 0 r
/-- Cosine of a fixed-point angle from 0 to a right angle. -/
def cosSer (r : Int) : Int := series (-(fixMul r r)) (fun k => (2 * k + 1) * (2 * k + 2)) 24 0 fixOne

/-- The angle `m * 2^e` as a number of right angles, modulo 4, and the rest in fixed point. -/
def quarterTurns (m : Nat) (e : Int) : Nat × Int :=
  let half := piFix / 2
  let k := e + 320
  let x := if k ≥ 0 then m * 2 ^ k.toNat else m / 2 ^ (-k).toNat
  (x / half % 4, ((x % half / 2 ^ (320 - fixBits) : Nat) : Int))

/-- Sine. -/
def fsin (x : F32) : F32 :=
  match fVal x with
  | .nan => fNan
  | .inf _ => fNan
  | .fin s m e =>
    if m = 0 ∨ e < -37 then x
    else
      let (q, r) := quarterTurns m e
      let v := if q = 0 then sinSer r else if q = 1 then cosSer r else if q = 2 then -sinSer r else -cosSer r
      fixRound (if s then -v else v)

/-- Cosine. -/
def fcos (x : F32) : F32 :=
  match fVal x with
  | .nan => fNan
  | .inf _ => fNan
  | .fin _ m e =>
    let (q, r) := quarterTurns m e
    fixRound (if q = 0 then cosSer r else if q = 1 then -sinSer r else if q = 2 then -cosSer r else sinSer r)

/-- The exponential of a fixed-point number, rounded to binary32. -/
def expFix (v : Int) : F32 :=
  if v > 200 * fixOne then fInf false
  else if v < -200 * fixOne then fZero
  else
    let l : Int := ((ln2Fix / 2 ^ (320 - fixBits) : Nat) : Int)
    let k := v / l
    let r := v - k * l
    fRoundI (series r (fun k => k + 1) 40 0 fixOne) (k - (fixBits : Int))

/-- The fixed-point value of a finite number, of at most some hundreds in magnitude. -/
def fixVal (s : Bool) (m : Nat) (e : Int) : Int := if e > 20 then (if s then -1000 * fixOne else 1000 * fixOne) else sInt s (fixOf m e)

/-- Exponential. -/
def fexp (x : F32) : F32 :=
  match fVal x with
  | .nan => fNan
  | .inf s => if s then fZero else fInf false
  | .fin s m e => expFix (fixVal s m e)

/-- The natural logarithm of `m * 2^e` with `m` not 0, in fixed point. -/
def lnFix (m : Nat) (e : Int) : Int :=
  let k := Nat.log2 m
  let f : Int := ((m * 2 ^ fixBits / 2 ^ k : Nat) : Int)
  let y := (f - fixOne) * fixOne / (f + fixOne)
  let y2 := fixMul y y
  let at2 := ((List.range 36).foldl (fun (a : Int × Int) n => (a.1 + a.2 / ((2 * n + 1 : Nat) : Int), fixMul a.2 y2)) (0, y)).1
  2 * at2 + (e + k) * ((ln2Fix / 2 ^ (320 - fixBits) : Nat) : Int)

/-- Natural logarithm. -/
def fln (x : F32) : F32 :=
  match fVal x with
  | .nan => fNan
  | .inf s => if s then fNan else fInf false
  | .fin s m e => if m = 0 then fInf true else if s then fNan else fixRound (lnFix m e)

/-- Power of a number above 0 to a finite exponent; not a number otherwise. -/
def fpow (x y : F32) : F32 :=
  match fVal x, fVal y with
  | .fin false m e, .fin s n g => if m = 0 then fNan else expFix (fixMul (lnFix m e) (fixVal s n g))
  | _, _ => fNan

end Sys2Proof.Machine
end

