-- ==== Sys2Proof/Machine/Regs.lean ====
section
/-! DEFINITION. Regs.lean: the register fields of the specification: where each lies, its width, access code, reset value and
number of copies. A field's copies lie `stride` bytes apart. The fields are written from the register tables of the
chapters; the rule is cited at each. -/

namespace Sys2Proof.Machine

/-- Access codes (R7). -/
inductive Acc where
  | ro | rw | rwl | w1c | w1s | rc | wo
deriving DecidableEq, Repr

/-- A register field of a page: byte offset, lowest bit, width, distance between copies, reset value, and whether it is a
status field (R19). -/
structure Fld where
  off : Nat
  lo : Nat
  w : Nat
  stride : Nat
  rst : Nat
  stat : Bool
deriving DecidableEq, Repr

/-- A line of a register table: a field, its number of copies, its access code. -/
structure Row where
  fld : Fld
  cnt : Nat
  acc : Acc
deriving DecidableEq, Repr

/-- The kinds of page (R524). -/
inductive PageKind where
  | sys | plumb | seq | thm | fcu | fbk | wcap | datum | sec | fwu | arb | pmc | part | twin | fab | iic0 | iic1 | iic2 | xspi | host | neg | gauge | bmk | crown | hold | felt | clu | ce | spg | sp
deriving DecidableEq, Repr

namespace R

/-- PG_OWNER.OWNER (R13). -/
def PG_OWNER : Fld := ⟨0x8, 0, 3, 0, 0, false⟩
/-- PG_OWNER.LOCKED (R13). -/
def PG_LOCKED : Fld := ⟨0x8, 31, 1, 0, 0, false⟩
/-- PG_CTRL.ENABLE (R15). -/
def PG_ENABLE : Fld := ⟨0xC, 0, 1, 0, 0, false⟩
/-- PG_CTRL.QUIESCE (R15). -/
def PG_QUIESCE : Fld := ⟨0xC, 1, 1, 0, 0, false⟩
/-- PG_EVT_LIVE (R18). -/
def EVT_LIVE : Fld := ⟨0x14, 0, 32, 0, 0, false⟩
/-- PG_EVT_LATCH (R18). -/
def EVT_LATCH : Fld := ⟨0x18, 0, 32, 0, 0, false⟩
/-- PG_EVT_IRQEN (R18). -/
def EVT_IRQEN : Fld := ⟨0x1C, 0, 32, 0, 0, false⟩
/-- PG_STATUS.QUIESCED, as last shown (R17). -/
def PG_QUIESCED : Fld := ⟨0x10, 1, 1, 0, 0, true⟩
/-- PG_SEQ (R19). -/
def PG_SEQ : Fld := ⟨0x20, 0, 32, 0, 0, false⟩
/-- PMC_SELn.EVENT (R506). -/
def PMC_EVENT : Fld := ⟨0x40, 0, 16, 4, 0, false⟩
/-- PMC_SELn.CHAIN (R506). -/
def PMC_CHAIN : Fld := ⟨0x40, 16, 1, 4, 0, false⟩
/-- PMC_SELn.OVF (R506). -/
def PMC_OVF : Fld := ⟨0x40, 24, 1, 4, 0, false⟩
/-- PMC_CNTn (R506). -/
def PMC_CNT : Fld := ⟨0x50, 0, 32, 4, 0, false⟩

/-- Sampled STRAP0 (R64). -/
def SYS_TWIN_ID : Fld := ⟨0x100, 0, 1, 0, 0x0, true⟩
/-- Sampled STRAP[2:1] (R64). -/
def SYS_BOOT_SRC : Fld := ⟨0x100, 1, 2, 0, 0x0, true⟩
/-- Sampled STRAP[4:3] (R64). -/
def SYS_IIC0_ADDR_LO : Fld := ⟨0x100, 3, 2, 0, 0x0, true⟩
/-- Sampled STRAP5 (R64). -/
def SYS_SOLO_ALLOWED : Fld := ⟨0x100, 5, 1, 0, 0x0, true⟩
/-- Sampled STRAP6 (R64). -/
def SYS_STAGE_SAFE_DEFAULT : Fld := ⟨0x100, 6, 1, 0, 0x0, true⟩
/-- Sampled STRAP7 (R64). -/
def SYS_FAB_PLANES : Fld := ⟨0x100, 7, 1, 0, 0x0, true⟩
/-- 1: Plumb drives SEQ_ENn and waits for SEQ_PGn; 0: the rail is ignored and SEQ_ENn stays high-impedance. Factory default 1 for n = 0–6, 0 for n = 7 (R69). -/
def SEQ_USED : Fld := ⟨0x100, 0, 1, 4, 0x0, false⟩
/-- Position of the rail in the sequence, 0–7. Factory default n (R69). -/
def SEQ_ORDER : Fld := ⟨0x100, 1, 3, 4, 0x0, false⟩
/-- Time allowed for power-good after the enable, in ms, 1–100. Factory default 10 (R69). -/
def SEQ_PG_WINDOW : Fld := ⟨0x100, 4, 7, 4, 0x0, false⟩
/-- Wait before this rail's enable, in ms, 0–255. It counts from the previous rail's power-good, or for position 0 from the end of ROM self-test. Factory default 1 (R69). -/
def SEQ_DELAY : Fld := ⟨0x100, 11, 8, 4, 0x0, false⟩
/-- 1: validate the current SEQ_RAIL0–7 and store them in MRAM for the next power-on reset (R70). -/
def SEQ_SAVE : Fld := ⟨0x120, 0, 1, 0, 0x0, false⟩
/-- 1: clear ABORTS and start the sequence. Acted on only in states ABORTED and LOCKOUT (R70). -/
def SEQ_RESTART : Fld := ⟨0x120, 1, 1, 0, 0x0, false⟩
/-- 0x0: OFF; 0x1: RUNNING; 0x2: UP; 0x3: ABORTED, retry pending; 0x4: LOCKOUT; 0x5: DOWN, controlled power-down complete (R72). -/
def SEQ_STATE : Fld := ⟨0x124, 0, 3, 0, 0x0, true⟩
/-- Rail index n of the last abort (R72). -/
def SEQ_FAIL_RAIL : Fld := ⟨0x124, 4, 3, 0, 0x0, true⟩
/-- 0x0: none; 0x1: PG_TIMEOUT; 0x2: PG_LOST; 0x3: VAON_LOSS, found at the next start (R72). -/
def SEQ_FAIL_CAUSE : Fld := ⟨0x124, 8, 2, 0, 0x0, true⟩
/-- Consecutive aborts, 0–3 (R72). -/
def SEQ_ABORTS : Fld := ⟨0x124, 10, 2, 0, 0x0, true⟩
/-- Live level of SEQ_PG7–0 (R72). -/
def SEQ_PG : Fld := ⟨0x124, 16, 8, 0, 0x0, false⟩
/-- Live drive state of SEQ_EN7–0; 1 = driven high (R72). -/
def SEQ_EN : Fld := ⟨0x124, 24, 8, 0, 0x0, false⟩
/-- Datum, low word (R88). -/
def DATUM_NOW_LO : Fld := ⟨0x100, 0, 32, 0, 0x0, false⟩
/-- Datum, high word, read through the shadow rule of R5 (R88). -/
def DATUM_NOW_HI : Fld := ⟨0x104, 0, 32, 0, 0x0, false⟩
/-- Present rate adjustment, int32, in parts per 10^9, range −200,000 to +200,000 (R88). -/
def DATUM_RATE : Fld := ⟨0x108, 0, 32, 0, 0x0, true⟩
/-- 0x0: FREE on REFCLK; 0x1: TWIN over Chain; 0x2: PTP; 0x3: reserved (R88). -/
def DATUM_SOURCE : Fld := ⟨0x10C, 0, 2, 0, 0x0, true⟩
/-- The latest reset was a power-on reset (R92). -/
def SYS_PORST : Fld := ⟨0x108, 0, 1, 0, 0x0, true⟩
/-- RESET_N (R92). -/
def SYS_PIN : Fld := ⟨0x108, 1, 1, 0, 0x0, true⟩
/-- SYS.RESET key (R92). -/
def SYS_KEY : Fld := ⟨0x108, 2, 1, 0, 0x0, true⟩
/-- Plumb watchdog (R92). -/
def SYS_WDOG : Fld := ⟨0x108, 3, 1, 0, 0x0, true⟩
/-- Voltage, clock or temperature glitch detector (R92). -/
def SYS_GLITCH : Fld := ⟨0x108, 4, 1, 0, 0x0, true⟩
/-- Restart after thermal shutdown (R92). -/
def SYS_THERMAL : Fld := ⟨0x108, 5, 1, 0, 0x0, true⟩
/-- Plumb action on an S3 fault (R92). -/
def SYS_FAULT : Fld := ⟨0x108, 6, 1, 0, 0x0, true⟩
/-- Plumb reset of R493: MGMT started from ACTIVE did not complete step 5 within 1 s (R92). -/
def SYS_BOOT_TIMEOUT : Fld := ⟨0x108, 7, 1, 0, 0x0, true⟩
/-- Last step completed, 1–7 (R96). -/
def SYS_STEP : Fld := ⟨0x10C, 0, 4, 0, 0x0, true⟩
/-- 0x0: OK or in progress; 0x1: BOOT_FAIL_CLOCK; 0x2: BOOT_FAIL_RAIL; 0x3: BOOT_FAIL_IMAGE (R96). -/
def SYS_RESULT : Fld := ⟨0x10C, 4, 4, 0, 0x0, true⟩
/-- 0x0: ACTIVE; 0x1: GOLDEN; 0x2: host, fabric or IIC0 recovery source (R96). -/
def SYS_SLOT : Fld := ⟨0x10C, 8, 2, 0, 0x0, true⟩
/-- Island of a clock failure. 0–15: clusters; 16–27: port groups; 28: MGMT; 29: shared ring; 30: fabric; 0x3F: REFCLK absent (R96). -/
def SYS_FAIL_ISLAND : Fld := ⟨0x10C, 10, 6, 0, 0x0, true⟩
/-- Time in ms from the end of reset to regulating as SOLO or to FOLLOW (R96). -/
def SYS_READY_MS : Fld := ⟨0x10C, 16, 16, 0, 0x0, true⟩
/-- SAFE action written to the stage end. 0x0: OFF; 0x1: HOLD_DUTY; 0x2: LOCAL_LOOP; 0x3: reserved. Resets to STAGE_SAFE_DEFAULT. A change is written to the stage end at the next free slot. A value that the stage end's CAPS does not support is not sent; the field returns to its previous value and CFG_REJECT latches. A value written before the stage end announced is checked at CONFIG. If CAPS does not support it, the field is set to STAGE_SAFE_DEFAULT, that value is written in its place and CFG_REJECT latches (R136). -/
def SP_SAFE_ACT : Fld := ⟨0x100, 0, 2, 0, 0x0, false⟩
/-- 1: discovery starts whenever the link comes up (R136). -/
def SP_AUTO_DISC : Fld := ⟨0x100, 2, 1, 0, 0x1, false⟩
/-- 1: restart discovery from ALIGN (R136). -/
def SP_DISC_START : Fld := ⟨0x100, 3, 1, 0, 0x0, false⟩
/-- 0x0: DOWN; 0x1: ALIGN; 0x2: TIMING; 0x3: IDENT; 0x4: CONFIG; 0x5: READY; 0x6: FAILED; 0x7: reserved (R137). -/
def SP_LINK : Fld := ⟨0x104, 0, 3, 0, 0x0, true⟩
/-- Last reported STATE (R137). -/
def SP_STAGE_STATE : Fld := ⟨0x104, 3, 2, 0, 0x0, true⟩
/-- Last reported STAGE_TYPE (R137). -/
def SP_STAGE_TYPE : Fld := ⟨0x104, 5, 2, 0, 0x0, true⟩
/-- 1: STAGE_TYPE is from a valid ANNOUNCE (R137). -/
def SP_TYPE_VALID : Fld := ⟨0x104, 7, 1, 0, 0x0, true⟩
/-- Upstream header EPOCH (R137). -/
def SP_SE_EPOCH : Fld := ⟨0x104, 8, 8, 0, 0x0, true⟩
/-- Last reported (R137). -/
def SP_ADMIT_A : Fld := ⟨0x104, 16, 1, 0, 0x0, true⟩
/-- Last reported (R137). -/
def SP_ADMIT_B : Fld := ⟨0x104, 17, 1, 0, 0x0, true⟩
/-- 1: SE_EPOCH equals this twin's epoch (R137). -/
def SP_EPOCH_MATCH : Fld := ⟨0x104, 18, 1, 0, 0x0, true⟩
/-- [15:0] VENDOR_ID; [31:16] MODEL (R138). -/
def SP_IDENT0 : Fld := ⟨0x108, 0, 32, 0, 0x0, true⟩
/-- SERIAL (R138). -/
def SP_IDENT1 : Fld := ⟨0x10C, 0, 32, 0, 0x0, true⟩
/-- [7:0] LINK_VER; [15:8] CAPS; [18:16] CHANNELS; [21:20] PAIRS; others zero (R138). -/
def SP_IDENT2 : Fld := ⟨0x110, 0, 32, 0, 0x0, true⟩
/-- Filtered one-way delay D in dq (R138). -/
def SP_DELAY : Fld := ⟨0x114, 0, 32, 0, 0x0, true⟩
/-- Last measured stage-end offset, int32, dq (R138). -/
def SP_OFFSET : Fld := ⟨0x118, 0, 32, 0, 0x0, true⟩
/-- Upstream frames failing CRC or decoding (R138). -/
def SP_CNT_CRC : Fld := ⟨0x120, 0, 32, 0, 0x0, false⟩
/-- Sum over good frames of SEQ − previous good SEQ − 1; a frame failing CRC counts here too (R138). -/
def SP_CNT_SEQGAP : Fld := ⟨0x124, 0, 32, 0, 0x0, false⟩
/-- SAMPLE frames discarded as LATE under R26 (R138). -/
def SP_CNT_LATE : Fld := ⟨0x128, 0, 32, 0, 0x0, false⟩
/-- SAMPLE frames obtained from the twin over Chain (R138). -/
def SP_CNT_EQUAL : Fld := ⟨0x12C, 0, 32, 0, 0x0, false⟩
/-- Upstream frames with EPOCH_MATCH = 0 after READY (R138). -/
def SP_CNT_EPOCH : Fld := ⟨0x130, 0, 32, 0, 0x0, false⟩
/-- Requests abandoned after 3 repeats (R138). -/
def SP_CNT_RSP_TIMEOUT : Fld := ⟨0x134, 0, 32, 0, 0x0, false⟩
/-- AUX items 0x4–0xA, one word each, in that order (R138). -/
def SP_SE_CNT : Fld := ⟨0x138, 0, 32, 4, 0x0, false⟩
/-- Upstream frames that pass CRC and are discarded as INVALID under R105 (R138). -/
def SP_CNT_INVALID : Fld := ⟨0x154, 0, 32, 0, 0x0, false⟩
/-- Engine clock in MHz, set at start (R182). -/
def CLU_FREQ_MHZ : Fld := ⟨0x100, 0, 12, 0, 0x0, true⟩
/-- Bit k: engine CE8n+k is running (R182). -/
def CLU_ENG_UP : Fld := ⟨0x104, 0, 8, 0, 0x0, true⟩
/-- Kernel bank in use (R183). -/
def CE_ACTIVE_BANK : Fld := ⟨0x100, 0, 1, 0, 0x0, true⟩
/-- A kernel swap is in progress (R183). -/
def CE_SWAP_BUSY : Fld := ⟨0x100, 1, 1, 0, 0x0, true⟩
/-- Self-check pending (R183). -/
def CE_SELFTEST_BUSY : Fld := ⟨0x100, 2, 1, 0, 0x0, true⟩
/-- Last self-check failed (R183). -/
def CE_SELFTEST_FAIL : Fld := ⟨0x100, 3, 1, 0, 0x0, true⟩
/-- Version of the active kernel image (R183). -/
def CE_KERNEL_VER : Fld := ⟨0x100, 16, 16, 0, 0x0, true⟩
/-- Bound class-A load, per mille of cycles (R183). -/
def CE_LOAD_A : Fld := ⟨0x104, 0, 16, 0, 0x0, true⟩
/-- Bound class-B load, per mille of cycles (R183). -/
def CE_LOAD_B : Fld := ⟨0x104, 16, 16, 0, 0x0, true⟩
/-- 1: begin a self-check under R169. P0 only (R183). -/
def CE_START : Fld := ⟨0x108, 0, 1, 0, 0x0, false⟩
/-- Bit s: ready event slot TSs, s = 0–31. P0 only (R183). -/
def CE_DOORBELL : Fld := ⟨0x10C, 0, 32, 0, 0x0, false⟩
/-- Bit s: ready slot TS(32 + s). P0 only (R183). -/
def CE_DOORBELL_HI : Fld := ⟨0x110, 0, 32, 0, 0x0, false⟩
/-- Bit s: cancel slot TSs under R176. P0 only (R183). -/
def CE_CANCEL : Fld := ⟨0x114, 0, 32, 0, 0x0, false⟩
/-- Bit s: cancel slot TS(32 + s). P0 only (R183). -/
def CE_CANCEL_HI : Fld := ⟨0x118, 0, 32, 0, 0x0, false⟩
/-- CNT_ECC_CORR, CNT_ECC_UNCORR, CNT_RESIDUE, CNT_CANCELLED_BEFORE_RUN, CNT_A_OVERRUN, CNT_B_OVERRUN, CNT_MERGED, CNT_LAPPED; 32-bit wrapping, cleared by reset (R183). -/
def CE_CNT : Fld := ⟨0x120, 0, 32, 4, 0x0, false⟩
/-- TSs. 0x0: unused; 0x1: A; 0x2: B; 0x3: C (R183). -/
def CE_CLASS : Fld := ⟨0x200, 0, 2, 8, 0x0, true⟩
/-- Slot may become ready (R183). -/
def CE_ENABLE : Fld := ⟨0x200, 2, 1, 8, 0x0, true⟩
/-- Descriptor index of the law or service (R183). -/
def CE_LAW_REF : Fld := ⟨0x200, 16, 16, 8, 0x0, true⟩
/-- Ticks; 0: event-triggered only (R183). -/
def CE_PERIOD : Fld := ⟨0x204, 0, 16, 8, 0x0, true⟩
/-- Tick offset, less than PERIOD (R183). -/
def CE_OFFSET : Fld := ⟨0x204, 16, 16, 8, 0x0, true⟩
/-- 1: leave LATCHED or CROWBAR under R216 and R222 (R226). -/
def SP_PH_CLEAR : Fld := ⟨0x180, 0, 1, 0, 0x0, false⟩
/-- 0x0: OFF; 0x1: SOFT_START; 0x2: RUN; 0x3: HICCUP; 0x4: LATCHED; 0x5: CROWBAR; 0x6: LOST; 0x7: reserved (R226). -/
def SP_PH_STATE : Fld := ⟨0x184, 0, 3, 0, 0x0, true⟩
/-- The last update was limited (R226). -/
def SP_LIMITED : Fld := ⟨0x184, 3, 1, 0, 0x0, true⟩
/-- SS_RATE is 0 in SOFT_START (R226). -/
def SP_SS_BLOCKED : Fld := ⟨0x184, 4, 1, 0, 0x0, true⟩
/-- Derate factor is 0 (R226). -/
def SP_DERATED : Fld := ⟨0x184, 5, 1, 0, 0x0, true⟩
/-- Crowbar still latched after a clear (R226). -/
def SP_CLEAR_FAIL : Fld := ⟨0x184, 6, 1, 0, 0x0, true⟩
/-- Consecutive limited updates, saturating at 255 (R226). -/
def SP_LIM_RUN : Fld := ⟨0x184, 8, 8, 0, 0x0, true⟩
/-- Consecutive hiccups (R226). -/
def SP_HIC_COUNT : Fld := ⟨0x184, 16, 8, 0, 0x0, true⟩
/-- Limited updates, wrapping (R226). -/
def SP_CNT_LIMITED : Fld := ⟨0x188, 0, 32, 0, 0x0, false⟩
/-- Hiccups, wrapping (R226). -/
def SP_CNT_HICCUP : Fld := ⟨0x18C, 0, 32, 0, 0x0, false⟩
/-- Mean voltage, V, f32 (R226). -/
def SP_TLM_V : Fld := ⟨0x190, 0, 32, 0, 0x0, true⟩
/-- Mean current, A, f32 (R226). -/
def SP_TLM_I : Fld := ⟨0x194, 0, 32, 0, 0x0, true⟩
/-- Mean power, W, f32 (R226). -/
def SP_TLM_P : Fld := ⟨0x198, 0, 32, 0, 0x0, true⟩
/-- Phase temperature under R223 at the window end, °C, f32 (R226). -/
def SP_TLM_T : Fld := ⟨0x19C, 0, 32, 0, 0x0, true⟩
/-- Samples included in the window (R226). -/
def SP_TLM_N : Fld := ⟨0x1A0, 0, 32, 0, 0x0, true⟩
/-- Peak voltage magnitude, V, f32 (R226). -/
def SP_PK_V : Fld := ⟨0x1A4, 0, 32, 0, 0x0, false⟩
/-- Peak current magnitude, A, f32 (R226). -/
def SP_PK_I : Fld := ⟨0x1A8, 0, 32, 0, 0x0, false⟩
/-- Peak power magnitude, W, f32 (R226). -/
def SP_PK_P : Fld := ⟨0x1AC, 0, 32, 0, 0x0, false⟩
/-- Bit 0: PK_V from an overrange; bit 1: PK_I from an overrange (R226). -/
def SP_PK_FLAGS : Fld := ⟨0x1B0, 0, 2, 0, 0x0, false⟩
/-- Carrier phase offset φ in use, dq (R226). -/
def SP_PHI : Fld := ⟨0x1B4, 0, 20, 0, 0x0, true⟩
/-- Felting target offset, dq (R226). -/
def SP_PHI_TGT : Fld := ⟨0x1B8, 0, 20, 0, 0x0, true⟩
/-- Bit s: section s is slewing (R241). -/
def FELT_SLEWING : Fld := ⟨0x100, 0, 8, 0, 0x0, true⟩
/-- Bit s: a recompute is pending, or deferred under R46 (R241). -/
def FELT_PENDING : Fld := ⟨0x100, 8, 8, 0, 0x0, true⟩
/-- Recomputes, all sections, wrapping (R241). -/
def FELT_CNT_RECOMPUTE : Fld := ⟨0x104, 0, 32, 0, 0x0, false⟩
/-- Slews that exceeded FS_TRANS_LIM, wrapping (R241). -/
def FELT_CNT_TRANS_EXCEED : Fld := ⟨0x108, 0, 32, 0, 0x0, false⟩
/-- FS_CFG. 1: Felting acts on section s; 0: members have φ = 0 (R241). -/
def FELT_EN : Fld := ⟨0x200, 0, 1, 64, 0x0, false⟩
/-- 0: EVEN; 1: RESONANT (R241). -/
def FELT_MODE : Fld := ⟨0x200, 1, 1, 64, 0x1, false⟩
/-- HARM_MAX is HARM + 1 (R241). -/
def FELT_HARM : Fld := ⟨0x200, 2, 3, 64, 0x2, false⟩
/-- Tie tolerance of R235, per mille; 0: exact ties only (R241). -/
def FELT_TIE_TOL : Fld := ⟨0x200, 8, 8, 64, 0x5, false⟩
/-- Nominal bus voltage, V, f32; 50.0 (R241). -/
def FELT_FS_VBUS : Fld := ⟨0x204, 0, 32, 64, 0x42480000, false⟩
/-- Offset rate limit, dq/ms; 16,000 (R241). -/
def FELT_FS_VEL : Fld := ⟨0x208, 0, 32, 64, 0x3E80, false⟩
/-- Offset acceleration limit, dq/ms²; 160,000 (R241). -/
def FELT_FS_ACC : Fld := ⟨0x20C, 0, 32, 64, 0x27100, false⟩
/-- Offset jerk limit, dq/ms³; 3,200,000 (R241). -/
def FELT_FS_JERK : Fld := ⟨0x210, 0, 32, 64, 0x30D400, false⟩
/-- Transient bound, 0.01% of FS_VBUS; 0.20% (R241). -/
def FELT_FS_TRANS_LIM : Fld := ⟨0x214, 0, 16, 64, 0x14, false⟩
/-- FS_STATUS. A slew is in progress (R241). -/
def FELT_FS_SLEWING : Fld := ⟨0x218, 0, 1, 64, 0x0, true⟩
/-- A limit is 0 under R237 (R241). -/
def FELT_FROZEN : Fld := ⟨0x218, 1, 1, 64, 0x0, true⟩
/-- No Benchmark impedance; flat weighting (R241). -/
def FELT_FLAT_Z : Fld := ⟨0x218, 2, 1, 64, 0x0, true⟩
/-- Limits halved under R239 (R241). -/
def FELT_RATE_HALVED : Fld := ⟨0x218, 3, 1, 64, 0x0, true⟩
/-- j of the chosen grid spread; 0 for P ÷ (n × m) or EVEN (R241). -/
def FELT_SPREAD_J : Fld := ⟨0x218, 8, 8, 64, 0x0, true⟩
/-- Felting members in the section (R241). -/
def FELT_MEMBERS : Fld := ⟨0x218, 16, 8, 64, 0x0, true⟩
/-- Chosen σ of the largest group, dq (R241). -/
def FELT_FS_SPREAD : Fld := ⟨0x21C, 0, 20, 64, 0x0, true⟩
/-- √J of the chosen σ, V, f32 (R241). -/
def FELT_FS_RIPPLE : Fld := ⟨0x220, 0, 32, 64, 0x0, true⟩
/-- Largest bus deviation in the last slew, V, f32 (R241). -/
def FELT_FS_PEAK : Fld := ⟨0x224, 0, 32, 64, 0x0, true⟩
/-- Resonance from Benchmark, Hz, f32 (R241). -/
def FELT_FS_RES_HZ : Fld := ⟨0x228, 0, 32, 64, 0x0, true⟩
/-- Impedance at resonance from Benchmark, Ω, f32 (R241). -/
def FELT_FS_ZPK : Fld := ⟨0x22C, 0, 32, 64, 0x0, true⟩
/-- Bit g: EWARN group g asserted (R258). -/
def HOLD_EW_LIVE : Fld := ⟨0x100, 0, 8, 0, 0x0, true⟩
/-- Bit s: section s is neither DISABLED nor ON_SOURCE (R258). -/
def HOLD_OFF_SOURCE : Fld := ⟨0x100, 8, 8, 0, 0x0, true⟩
/-- HU_CFG. 1: hold-up supervises section s (R258). -/
def HOLD_EN : Fld := ⟨0x200, 0, 1, 64, 0x0, false⟩
/-- 1: peak shaving permitted (R258). -/
def HOLD_PS_EN : Fld := ⟨0x200, 1, 1, 64, 0x0, false⟩
/-- 1: recharge permitted (R258). -/
def HOLD_RECHG_EN : Fld := ⟨0x200, 2, 1, 64, 0x0, false⟩
/-- Members for loss and presence; 0x0: all READY source members (R258). -/
def HOLD_QUORUM : Fld := ⟨0x200, 4, 4, 64, 0x2, false⟩
/-- Bit g: EWARN group g follows this section (R258). -/
def HOLD_EW_GROUPS : Fld := ⟨0x200, 8, 8, 64, 0x0, false⟩
/-- Loss threshold, V, f32; 0: no loss is ever declared (R258). -/
def HOLD_VIN_LOSS : Fld := ⟨0x204, 0, 32, 64, 0x0, false⟩
/-- Presence threshold, V, f32 (R258). -/
def HOLD_VIN_OK : Fld := ⟨0x208, 0, 32, 64, 0x0, false⟩
/-- Qualification time, ms, 1–2,000 (R258). -/
def HOLD_QUALIFY_MS : Fld := ⟨0x20C, 0, 11, 64, 0x14, false⟩
/-- TRANSFER duration, µs, 20–1,000 (R258). -/
def HOLD_TR_US : Fld := ⟨0x20C, 16, 10, 64, 0xC8, false⟩
/-- Battery member short-term bound, A, f32 (R258). -/
def HOLD_BATT_I_PK : Fld := ⟨0x210, 0, 32, 64, 0x0, false⟩
/-- Battery member continuous bound, A, f32 (R258). -/
def HOLD_BATT_I_CONT : Fld := ⟨0x214, 0, 32, 64, 0x0, false⟩
/-- Overload allowance, ms; 10,000 (R258). -/
def HOLD_OVL_MS : Fld := ⟨0x218, 0, 16, 64, 0x2710, false⟩
/-- Early-warning hold time, ms; 100 (R258). -/
def HOLD_EW_HOLD_MS : Fld := ⟨0x218, 16, 16, 64, 0x64, false⟩
/-- Source current cap for shaving, A, f32 (R258). -/
def HOLD_PS_LIMIT_A : Fld := ⟨0x21C, 0, 32, 64, 0x0, false⟩
/-- Recharge current, A, f32 (R258). -/
def HOLD_RECHG_A : Fld := ⟨0x220, 0, 32, 64, 0x0, false⟩
/-- Reserve kept from shaving, Wh, f32 (R258). -/
def HOLD_BRIM_FLOOR_WH : Fld := ⟨0x224, 0, 32, 64, 0x0, false⟩
/-- Target hold-up time, s, f32; 300.0 (R258). -/
def HOLD_TGT_S : Fld := ⟨0x228, 0, 32, 64, 0x43960000, false⟩
/-- HU_STATUS. 0x0: DISABLED; 0x1: ON_SOURCE; 0x2: TRANSFER; 0x3: ON_BRIM; 0x4: QUALIFY; 0x5: RETURN; 0x6–0x7: reserved (R258). -/
def HOLD_STATE : Fld := ⟨0x22C, 0, 3, 64, 0x0, true⟩
/-- Every battery member is READY and in SPIN or RUN (R258). -/
def HOLD_READY : Fld := ⟨0x22C, 3, 1, 64, 0x0, true⟩
/-- Shaving in progress (R258). -/
def HOLD_SHAVING : Fld := ⟨0x22C, 4, 1, 64, 0x0, true⟩
/-- Recharge in progress (R258). -/
def HOLD_RECHARGING : Fld := ⟨0x22C, 5, 1, 64, 0x0, true⟩
/-- As R256 (R258). -/
def HOLD_BRIM_EMPTY : Fld := ⟨0x22C, 6, 1, 64, 0x0, true⟩
/-- As R253 (R258). -/
def HOLD_OVERLOAD : Fld := ⟨0x22C, 7, 1, 64, 0x0, true⟩
/-- Entries to QUALIFY since TRANSFER, saturating (R258). -/
def HOLD_REPLUGS : Fld := ⟨0x22C, 8, 8, 64, 0x0, true⟩
/-- Usable Brim energy, Wh, f32 (R258). -/
def HOLD_BRIM_WH : Fld := ⟨0x230, 0, 32, 64, 0x0, true⟩
/-- Hold-up budget, W, f32 (R258). -/
def HOLD_HU_BUDGET_W : Fld := ⟨0x234, 0, 32, 64, 0x0, true⟩
/-- Entries to TRANSFER, wrapping (R258). -/
def HOLD_CNT_TRANSFER : Fld := ⟨0x238, 0, 32, 64, 0x0, false⟩
/-- Entries to ON_SOURCE from RETURN, wrapping (R258). -/
def HOLD_CNT_RETURN : Fld := ⟨0x23C, 0, 32, 64, 0x0, false⟩
/-- CR_CTRL. Update period, ticks, 200–20,000; 2,000 is 100 µs (R267). -/
def CROWN_PERIOD : Fld := ⟨0x100, 0, 16, 0, 0x7D0, false⟩
/-- Demand headroom, %, 0–100 (R267). -/
def CROWN_HEADROOM : Fld := ⟨0x100, 16, 8, 0, 0xA, false⟩
/-- 1: Crown allocates and enforces (R267). -/
def CROWN_EN : Fld := ⟨0x100, 24, 1, 0, 0x0, false⟩
/-- Accepted fabric budget, W, f32; +∞ when none (R267). -/
def CROWN_FAB_BUDGET_W : Fld := ⟨0x104, 0, 32, 0, 0x7F800000, true⟩
/-- Supply under R257, W, f32 (R267). -/
def CROWN_SUPPLY_W : Fld := ⟨0x108, 0, 32, 0, 0x0, true⟩
/-- avail(0), W, f32 (R267). -/
def CROWN_ROOT_AVAIL_W : Fld := ⟨0x10C, 0, 32, 0, 0x0, true⟩
/-- Crown updates, wrapping (R267). -/
def CROWN_CNT_UPDATE : Fld := ⟨0x110, 0, 32, 0, 0x0, false⟩
/-- Current limits applied after grace, wrapping (R267). -/
def CROWN_CNT_ENFORCE : Fld := ⟨0x114, 0, 32, 0, 0x0, false⟩
/-- NODE_CFG. 1: node in use; node 0 reads 1 and ignores writes (R267). -/
def CROWN_VALID : Fld := ⟨0x200, 0, 1, 32, 0x0, false⟩
/-- Owner partition; P0 only (R267). -/
def CROWN_OWNER : Fld := ⟨0x200, 1, 3, 32, 0x0, false⟩
/-- Parent node, 0–95; ignored for node 0 (R267). -/
def CROWN_PARENT : Fld := ⟨0x200, 8, 7, 32, 0x0, false⟩
/-- Governed stage port, 0–191; 0xFF: not a leaf (R267). -/
def CROWN_FEEDER : Fld := ⟨0x200, 16, 8, 32, 0xFF, false⟩
/-- Early-warning group of a leaf (R267). -/
def CROWN_EW_GROUP : Fld := ⟨0x200, 24, 3, 32, 0x0, false⟩
/-- Node limit, W, f32 (R267). -/
def CROWN_LIMIT_W : Fld := ⟨0x204, 0, 32, 32, 0x0, false⟩
/-- Guaranteed share, W, f32 (R267). -/
def CROWN_FLOOR_W : Fld := ⟨0x208, 0, 32, 32, 0x0, false⟩
/-- Share weight; 0: floor only (R267). -/
def CROWN_WEIGHT : Fld := ⟨0x20C, 0, 16, 32, 0x1, false⟩
/-- Grace of a leaf, µs; 2,000 (R267). -/
def CROWN_GRACE_US : Fld := ⟨0x20C, 16, 16, 32, 0x7D0, false⟩
/-- Grant, W, f32 (R267). -/
def CROWN_GRANT_W : Fld := ⟨0x210, 0, 32, 32, 0x0, true⟩
/-- Demand, W, f32 (R267). -/
def CROWN_DEMAND_W : Fld := ⟨0x214, 0, 32, 32, 0x0, true⟩
/-- NODE_STATUS. Current limit in force (R267). -/
def CROWN_CAPPED : Fld := ⟨0x218, 0, 1, 32, 0x0, true⟩
/-- Decrease pending (R267). -/
def CROWN_GRACE : Fld := ⟨0x218, 1, 1, 32, 0x0, true⟩
/-- The children's floors were scaled down (R267). -/
def CROWN_SHORT : Fld := ⟨0x218, 2, 1, 32, 0x0, true⟩
/-- As R260 (R267). -/
def CROWN_ORPHAN : Fld := ⟨0x218, 3, 1, 32, 0x0, true⟩
/-- GA_CTRL. 1: estimation runs (R284). -/
def GAUGE_EN : Fld := ⟨0x100, 0, 1, 0, 0x0, false⟩
/-- 1: enter hibernation under R281 (R284). -/
def GAUGE_HIB_ENTER : Fld := ⟨0x100, 1, 1, 0, 0x0, false⟩
/-- Wake current, A, f32; 10.0 (R284). -/
def GAUGE_HIB_WAKE_A : Fld := ⟨0x104, 0, 32, 0, 0x41200000, false⟩
/-- Battery bus volts per mV at AON_ADC0, f32 (R284). -/
def GAUGE_HIB_V_SCALE : Fld := ⟨0x108, 0, 32, 0, 0x0, false⟩
/-- Amperes per mV at AON_ADC1, f32 (R284). -/
def GAUGE_HIB_I_SCALE : Fld := ⟨0x10C, 0, 32, 0, 0x0, false⟩
/-- Injection amplitude per string, A, f32; 2.0 (R284). -/
def GAUGE_Z_AMP_A : Fld := ⟨0x110, 0, 32, 0, 0x40000000, false⟩
/-- Z_SEL. String shown in Z_DATA (R284). -/
def GAUGE_STRING : Fld := ⟨0x114, 0, 5, 0, 0x0, false⟩
/-- Temperature bin (R284). -/
def GAUGE_TBIN : Fld := ⟨0x114, 5, 2, 0, 0x0, false⟩
/-- SoC bin (R284). -/
def GAUGE_SBIN : Fld := ⟨0x114, 7, 3, 0, 0x0, false⟩
/-- HIB_STATUS. Last wake was on current (R284). -/
def GAUGE_WAKE_CUR : Fld := ⟨0x118, 0, 1, 0, 0x0, true⟩
/-- Last wake was on IIC2 (R284). -/
def GAUGE_WAKE_IIC2 : Fld := ⟨0x118, 1, 1, 0, 0x0, true⟩
/-- String open-circuit voltage at SoC k ÷ 15, V, f32 (R284). -/
def GAUGE_OCV : Fld := ⟨0x140, 0, 32, 4, 0x0, false⟩
/-- STR_CFG. 1: string in use, under R270 (R284). -/
def GAUGE_VALID : Fld := ⟨0x200, 0, 1, 64, 0x0, false⟩
/-- First BATT port (R284). -/
def GAUGE_PORT0 : Fld := ⟨0x200, 8, 8, 64, 0xFF, false⟩
/-- Second BATT port; 0xFF: none (R284). -/
def GAUGE_PORT1 : Fld := ⟨0x200, 16, 8, 64, 0xFF, false⟩
/-- String voltage channel of PORT0 (R284). -/
def GAUGE_CH_V : Fld := ⟨0x200, 24, 2, 64, 0x0, false⟩
/-- String current channel of both ports (R284). -/
def GAUGE_CH_I : Fld := ⟨0x200, 26, 2, 64, 0x0, false⟩
/-- String temperature channel of PORT0 (R284). -/
def GAUGE_CH_T : Fld := ⟨0x200, 28, 2, 64, 0x0, false⟩
/-- Rated capacity, Ah, f32 (R284). -/
def GAUGE_CAP_AH : Fld := ⟨0x204, 0, 32, 64, 0x0, false⟩
/-- Nominal string voltage, V, f32 (R284). -/
def GAUGE_V_NOM : Fld := ⟨0x208, 0, 32, 64, 0x0, false⟩
/-- Cut-off state of charge, f32 (R284). -/
def GAUGE_SOC_CUT : Fld := ⟨0x20C, 0, 32, 64, 0x0, false⟩
/-- Charge target, f32 (R284). -/
def GAUGE_CHG_TGT : Fld := ⟨0x210, 0, 32, 64, 0x0, false⟩
/-- Re Z at 1 kHz when new, Ω, f32 (R284). -/
def GAUGE_R_BOL : Fld := ⟨0x214, 0, 32, 64, 0x0, false⟩
/-- Re Z at 1 kHz at end of life, Ω, f32 (R284). -/
def GAUGE_R_EOL : Fld := ⟨0x218, 0, 32, 64, 0x0, false⟩
/-- Capacity fraction at end of life, f32 (R284). -/
def GAUGE_CAP_EOL : Fld := ⟨0x21C, 0, 32, 64, 0x0, false⟩
/-- State of charge, f32, loaded from MRAM (R284). -/
def GAUGE_SOC : Fld := ⟨0x220, 0, 32, 64, 0x0, true⟩
/-- Its uncertainty, f32 (R284). -/
def GAUGE_SOC_UNC : Fld := ⟨0x224, 0, 32, 64, 0x0, true⟩
/-- State of health, f32 (R284). -/
def GAUGE_SOH : Fld := ⟨0x228, 0, 32, 64, 0x3F800000, true⟩
/-- Usable energy under R275, Wh, f32 (R284). -/
def GAUGE_USABLE_WH : Fld := ⟨0x22C, 0, 32, 64, 0x0, true⟩
/-- String temperature, °C, f32 (R284). -/
def GAUGE_T_STR : Fld := ⟨0x230, 0, 32, 64, 0x0, true⟩
/-- Equivalent full cycles, u32 (R284). -/
def GAUGE_CYCLES : Fld := ⟨0x234, 0, 32, 64, 0x0, true⟩
/-- STR_STATUS. As R274 (R284). -/
def GAUGE_BELOW_TGT : Fld := ⟨0x238, 0, 1, 64, 0x0, true⟩
/-- As R273 (R284). -/
def GAUGE_REST : Fld := ⟨0x238, 1, 1, 64, 0x0, true⟩
/-- As R275 (R284). -/
def GAUGE_EMPTY : Fld := ⟨0x238, 2, 1, 64, 0x0, true⟩
/-- A measurement is in progress (R284). -/
def GAUGE_Z_ACTIVE : Fld := ⟨0x238, 3, 1, 64, 0x0, true⟩
/-- As R279 (R284). -/
def GAUGE_SOH_HELD : Fld := ⟨0x238, 4, 1, 64, 0x0, true⟩
/-- Cells selected by Z_SEL: word 2k holds Re Z and word 2k + 1 holds Im Z at frequency index k, Ω, f32 (R284). -/
def GAUGE_Z_DATA : Fld := ⟨0x800, 0, 32, 4, 0x0, true⟩
/-- FD_CTRL. 1: the feeder may attach (R286). -/
def SP_FD_EN : Fld := ⟨0x200, 0, 1, 0, 0x0, false⟩
/-- 1: leave TRIPPED under R291 (R286). -/
def SP_FD_CLEAR : Fld := ⟨0x200, 1, 1, 0, 0x0, false⟩
/-- 0x0: SOURCE; 0x1: TRY_SOURCE; 0x2: SINK; 0x3: reserved (R286). -/
def SP_ROLE_PREF : Fld := ⟨0x200, 2, 2, 0, 0x0, false⟩
/-- Pass current channel, positive toward the tray (R286). -/
def SP_CH_I : Fld := ⟨0x200, 4, 2, 0, 0x0, false⟩
/-- Tray-side voltage channel (R286). -/
def SP_CH_VOUT : Fld := ⟨0x200, 6, 2, 0, 0x1, false⟩
/-- Bus-side voltage channel (R286). -/
def SP_CH_VBUS : Fld := ⟨0x200, 8, 2, 0, 0x2, false⟩
/-- 1: TEMP0 is a direct junction sensor (R286). -/
def SP_TJ_SENSE : Fld := ⟨0x200, 10, 1, 0, 0x0, false⟩
/-- 1: TEMP1 is the FET reference temperature; 0: T_AMB is used (R286). -/
def SP_TREF_SENSE : Fld := ⟨0x200, 11, 1, 0, 0x0, false⟩
/-- Consecutive trips retried before latching, 0–255 (R286). -/
def SP_RETRY_N : Fld := ⟨0x200, 12, 8, 0, 0x3, false⟩
/-- Power offered to the tray, W, f32, 0 or more (R286). -/
def SP_P_MAX : Fld := ⟨0x204, 0, 32, 0, 0x0, false⟩
/-- Linear current limit in ON, A, f32, above 0 (R286). -/
def SP_ILIM_A : Fld := ⟨0x208, 0, 32, 0, 0x0, false⟩
/-- Fast-trip current, A, f32, above ILIM_A (R286). -/
def SP_TRIP_A : Fld := ⟨0x20C, 0, 32, 0, 0x0, false⟩
/-- Tray-side ramp rate, V/ms, f32, 0 or more (R286). -/
def SP_INRUSH_DVDT : Fld := ⟨0x210, 0, 32, 0, 0x0, false⟩
/-- Current limit during inrush, A, f32, above 0 and at most ILIM_A (R286). -/
def SP_INRUSH_ILIM : Fld := ⟨0x214, 0, 32, 0, 0x0, false⟩
/-- Longest inrush, ms, 1–1,000 (R286). -/
def SP_INRUSH_MS : Fld := ⟨0x218, 0, 16, 0, 0x32, false⟩
/-- Hiccup off time, ms, 1–10,000 (R286). -/
def SP_RETRY_MS : Fld := ⟨0x218, 16, 16, 0, 0x3E8, false⟩
/-- Junction temperature at which derating begins, °C, f32 (R286). -/
def SP_TJ_DERATE : Fld := ⟨0x21C, 0, 32, 0, 0x0, false⟩
/-- Junction trip temperature, °C, f32, above TJ_DERATE (R286). -/
def SP_TJ_TRIP : Fld := ⟨0x220, 0, 32, 0, 0x0, false⟩
/-- Reference temperature without TREF_SENSE, °C, f32; 40.0 (R286). -/
def SP_T_AMB : Fld := ⟨0x224, 0, 32, 0, 0x42200000, false⟩
/-- Thermal network resistances, K/W, f32, 0 or more (R286). -/
def SP_RTH : Fld := ⟨0x228, 0, 32, 4, 0x0, false⟩
/-- Time constants, s, f32; above 0 where RTHk is above 0 (R286). -/
def SP_TAU : Fld := ⟨0x238, 0, 32, 4, 0x0, false⟩
/-- Curve accumulator reset time, s, f32, 0 or more (R286). -/
def SP_TCC_RESET_S : Fld := ⟨0x248, 0, 32, 0, 0x0, false⟩
/-- Curve points in use, less 1 (0x0: one point) (R286). -/
def SP_TCC_N : Fld := ⟨0x24C, 0, 4, 0, 0x0, false⟩
/-- Curve point k current, A, f32, k = 0–15 (R286). -/
def SP_TCC_I : Fld := ⟨0x250, 0, 32, 8, 0x0, false⟩
/-- Curve point k trip time, s, f32 (R286). -/
def SP_TCC_T : Fld := ⟨0x254, 0, 32, 8, 0x0, false⟩
/-- FD_STATUS. 0x0: OFF; 0x1: MOISTURE; 0x2: ATTACH; 0x3: NEGOTIATE; 0x4: INRUSH; 0x5: ON; 0x6: CAPPED; 0x7: TRIPPED; 0x8: HICCUP; others reserved (R286). -/
def SP_FD_STATE : Fld := ⟨0x2D0, 0, 4, 0, 0x0, true⟩
/-- 0: the feeder is source; 1: sink (R286). -/
def SP_FD_ROLE : Fld := ⟨0x2D0, 4, 1, 0, 0x0, true⟩
/-- A contract is in force (R286). -/
def SP_CONTRACT : Fld := ⟨0x2D0, 5, 1, 0, 0x0, true⟩
/-- Fall-back of R297 in force (R286). -/
def SP_MODEL_LATE : Fld := ⟨0x2D0, 6, 1, 0, 0x0, true⟩
/-- Hard-reset hold of R306 in progress (R286). -/
def SP_HR_HOLD : Fld := ⟨0x2D0, 7, 1, 0, 0x0, true⟩
/-- Last trip. 0x0: none; 0x1: FAST; 0x2: TCC; 0x3: TJ; 0x4: INRUSH; others reserved (R286). -/
def SP_TRIP_CAUSE : Fld := ⟨0x2D0, 8, 3, 0, 0x0, true⟩
/-- Consecutive trips (R286). -/
def SP_RETRIES : Fld := ⟨0x2D0, 16, 8, 0, 0x0, true⟩
/-- Consecutive failed soft resets (R286). -/
def SP_SOFT_FAILS : Fld := ⟨0x2D0, 24, 2, 0, 0x0, true⟩
/-- Placement result, codes of R179 (R286). -/
def SP_BIND_CODE : Fld := ⟨0x2D0, 26, 4, 0, 0x0, true⟩
/-- Junction temperature in use, °C, f32 (R286). -/
def SP_TJ : Fld := ⟨0x2D4, 0, 32, 0, 0x0, true⟩
/-- Curve accumulator, f32 (R286). -/
def SP_TCC_ACC : Fld := ⟨0x2D8, 0, 32, 0, 0x0, true⟩
/-- Contracted power, W, f32 (R286). -/
def SP_P_CONTRACT : Fld := ⟨0x2DC, 0, 32, 0, 0x0, true⟩
/-- Current limit in force, A, f32 (R286). -/
def SP_ILIM_NOW : Fld := ⟨0x2E0, 0, 32, 0, 0x0, true⟩
/-- Mean power toward the tray over the last Crown period, W, f32 (R286). -/
def SP_P_OUT : Fld := ⟨0x2E4, 0, 32, 0, 0x0, true⟩
/-- Back-feed declared by the tray, W, f32 (R286). -/
def SP_BACKFEED_W : Fld := ⟨0x2E8, 0, 32, 0, 0x0, true⟩
/-- CNT_TRIP, CNT_SOFT_RESET, CNT_HARD_RESET, CNT_MSG_DUP; 32-bit wrapping, cleared by reset (R286). -/
def SP_FD_CNT : Fld := ⟨0x2EC, 0, 32, 4, 0x0, false⟩
/-- BM_CTRL. 1: Benchmark runs (R330). -/
def BMK_EN : Fld := ⟨0x100, 0, 1, 0, 0x0, false⟩
/-- Publication period, ms, 1–100 (R330). -/
def BMK_PUB_MS : Fld := ⟨0x100, 8, 8, 0, 0xA, false⟩
/-- Results that fill a bin, 1–15 (R330). -/
def BMK_FILL_WIN : Fld := ⟨0x100, 16, 4, 0, 0x4, false⟩
/-- Derate above the highest filled bin, f32, 1.0 or more; 2.0 (R330). -/
def BMK_EXTRAP_DERATE : Fld := ⟨0x104, 0, 32, 0, 0x40000000, false⟩
/-- Uncalibrated gain uncertainty, f32; 0.02 (R330). -/
def BMK_UNC0_G : Fld := ⟨0x108, 0, 32, 0, 0x3CA3D70A, false⟩
/-- Uncalibrated offset uncertainty, fraction of FS, f32; 0.005 (R330). -/
def BMK_UNC0_O : Fld := ⟨0x10C, 0, 32, 0, 0x3BA3D70A, false⟩
/-- Gain ageing per hour, f32; 0.001 (R330). -/
def BMK_AGE_G : Fld := ⟨0x110, 0, 32, 0, 0x3A83126F, false⟩
/-- Offset ageing per hour, fraction of FS, f32; 0.0005 (R330). -/
def BMK_AGE_O : Fld := ⟨0x114, 0, 32, 0, 0x3A03126F, false⟩
/-- Gain uncertainty cap, f32; 0.05 (R330). -/
def BMK_UNC_MAX_G : Fld := ⟨0x118, 0, 32, 0, 0x3D4CCCCD, false⟩
/-- Offset uncertainty cap, fraction of FS, f32; 0.02 (R330). -/
def BMK_UNC_MAX_O : Fld := ⟨0x11C, 0, 32, 0, 0x3CA3D70A, false⟩
/-- BIN_SEL. Port shown in BIN_DATA (R330). -/
def BMK_PORT : Fld := ⟨0x120, 0, 8, 0, 0x0, false⟩
/-- Channel shown in BIN_DATA (R330). -/
def BMK_CH : Fld := ⟨0x120, 8, 2, 0, 0x0, false⟩
/-- CNT_WIN_OK, CNT_WIN_DISCARD, CNT_SUSPEND, CNT_DIGEST_HOLD; all sections, 32-bit wrapping (R330). -/
def BMK_CNT : Fld := ⟨0x124, 0, 32, 4, 0x0, false⟩
/-- SC_CFG. 1: dither section s (R330). -/
def BMK_DEN : Fld := ⟨0x200, 0, 1, 64, 0x0, false⟩
/-- 1: estimate bus impedance (R330). -/
def BMK_ZEN : Fld := ⟨0x200, 1, 1, 64, 0x0, false⟩
/-- Updates per chip, 1–15 (R330). -/
def BMK_CHIP : Fld := ⟨0x200, 4, 4, 64, 0x8, false⟩
/-- Window, ms, 10–255; 100 (R330). -/
def BMK_WIN_MS : Fld := ⟨0x200, 8, 8, 64, 0x64, false⟩
/-- Port of the section reference current; 0xFF: none (R330). -/
def BMK_REF_I_PORT : Fld := ⟨0x204, 0, 8, 64, 0xFF, false⟩
/-- Its channel (R330). -/
def BMK_REF_I_CH : Fld := ⟨0x204, 8, 2, 64, 0x0, false⟩
/-- Port of the bus voltage reference; 0xFF: none, and no impedance is estimated (R330). -/
def BMK_REF_V_PORT : Fld := ⟨0x204, 16, 8, 64, 0xFF, false⟩
/-- Its channel (R330). -/
def BMK_REF_V_CH : Fld := ⟨0x204, 24, 2, 64, 0x0, false⟩
/-- Dither amplitude, 1/65,536 of duty, 1–655 (R330). -/
def BMK_DITHER_AMP : Fld := ⟨0x208, 0, 16, 64, 0x83, false⟩
/-- Span for a gain fit, 1/65,536 of FS (R330). -/
def BMK_SPAN_MIN : Fld := ⟨0x208, 16, 16, 64, 0xCCD, false⟩
/-- Net current for an impedance point, A RMS, f32; 0.5 (R330). -/
def BMK_IZ_MIN : Fld := ⟨0x20C, 0, 32, 64, 0x3F000000, false⟩
/-- SC_STATUS. Dither active (R330). -/
def BMK_DITHERING : Fld := ⟨0x210, 0, 1, 64, 0x0, true⟩
/-- Dither suspended under R43 (R330). -/
def BMK_SUSPENDED : Fld := ⟨0x210, 1, 1, 64, 0x0, true⟩
/-- As R328 (R330). -/
def BMK_Z_STALE : Fld := ⟨0x210, 2, 1, 64, 0x0, true⟩
/-- As R319 (R330). -/
def BMK_NO_REF_I : Fld := ⟨0x210, 3, 1, 64, 0x0, true⟩
/-- String under measurement; 0x1F: none (R330). -/
def BMK_ZSTRING : Fld := ⟨0x210, 8, 5, 64, 0x1F, true⟩
/-- Its frequency index (R330). -/
def BMK_ZFREQ : Fld := ⟨0x210, 16, 4, 64, 0x0, true⟩
/-- Dither members (R330). -/
def BMK_MEMBERS : Fld := ⟨0x210, 24, 8, 64, 0x0, true⟩
/-- f0, Hz, f32 (R330). -/
def BMK_Z_RES_HZ : Fld := ⟨0x214, 0, 32, 64, 0x0, true⟩
/-- Z_PK, Ω, f32 (R330). -/
def BMK_Z_PK : Fld := ⟨0x218, 0, 32, 64, 0x0, true⟩
/-- Q, f32 (R330). -/
def BMK_Z_Q : Fld := ⟨0x21C, 0, 32, 64, 0x0, true⟩
/-- BIN_DATA, bin i = 8 × TBIN + LBIN. Physical units per code, f32; NaN while unset (R330). -/
def BMK_GAIN : Fld := ⟨0x800, 0, 32, 16, 0x0, true⟩
/-- Codes, f32 (R330). -/
def BMK_OFFSET : Fld := ⟨0x804, 0, 32, 16, 0x0, true⟩
/-- Aged, f32 (R330). -/
def BMK_UNC_G : Fld := ⟨0x808, 0, 32, 16, 0x0, true⟩
/-- Results held, saturating (R330). -/
def BMK_WINS : Fld := ⟨0x80C, 0, 8, 16, 0x0, true⟩
/-- Bin in use (R330). -/
def BMK_FILLED : Fld := ⟨0x80C, 8, 1, 16, 0x0, true⟩
/-- Minutes since the last result, saturating (R330). -/
def BMK_AGE_MIN : Fld := ⟨0x80C, 16, 16, 16, 0x0, true⟩
/-- CAL_CFG. 0x0: NONE; 0x1: PHASE_I; 0x2: BAL_I; 0x3: VOLT; 0x4: REF; others reserved (R332). -/
def SP_CAL_KIND : Fld := ⟨0x300, 0, 3, 32, 0x0, false⟩
/-- Voltage node, 0–63 (R332). -/
def SP_CAL_NODE : Fld := ⟨0x300, 4, 6, 32, 0x0, false⟩
/-- Physical value at code 0x7FFE, f32 (R332). -/
def SP_CAL_FS : Fld := ⟨0x304, 0, 32, 32, 0x0, false⟩
/-- In-use gain, f32 (R332). -/
def SP_CAL_GAIN : Fld := ⟨0x308, 0, 32, 32, 0x0, false⟩
/-- In-use offset, codes, f32 (R332). -/
def SP_CAL_OFFSET : Fld := ⟨0x30C, 0, 32, 32, 0x0, false⟩
/-- In-use gain uncertainty, f32 (R332). -/
def SP_CAL_UNC_G : Fld := ⟨0x310, 0, 32, 32, 0x0, false⟩
/-- In-use offset uncertainty, physical units, f32 (R332). -/
def SP_CAL_UNC_O : Fld := ⟨0x314, 0, 32, 32, 0x0, false⟩
/-- CAL_STATUS. As R323 (R332). -/
def SP_CAL_EXTRAP : Fld := ⟨0x318, 0, 1, 32, 0x0, true⟩
/-- As R325 (R332). -/
def SP_CAL_STALE : Fld := ⟨0x318, 1, 1, 32, 0x0, true⟩
/-- As R312 (R332). -/
def SP_CAL_UNCAL : Fld := ⟨0x318, 2, 1, 32, 0x1, true⟩
/-- As R320 (R332). -/
def SP_CAL_NODE_CONSENSUS : Fld := ⟨0x318, 3, 1, 32, 0x0, true⟩
/-- Filled bins, 0–32 (R332). -/
def SP_CAL_FILLED : Fld := ⟨0x318, 8, 8, 32, 0x0, true⟩
/-- Age of the youngest bin in use, minutes, saturating (R332). -/
def SP_CAL_AGE_MIN : Fld := ⟨0x318, 16, 16, 32, 0x0, true⟩
/-- Inductance of the phase, H, f32; PHASE_I only; 0: none (R332). -/
def SP_L_EST : Fld := ⟨0x31C, 0, 32, 32, 0x0, true⟩
/-- TW_CTRL. 1: request one swap under R359 (R366). -/
def TWIN_TRAVERSE : Fld := ⟨0x100, 0, 1, 0, 0x0, false⟩
/-- 1: clear JOIN_FAIL and restart JOINING (R366). -/
def TWIN_REJOIN : Fld := ⟨0x100, 1, 1, 0, 0x0, false⟩
/-- TW_CFG. Swap period, s, 1–255 (R366). -/
def TWIN_TRAV_PERIOD_S : Fld := ⟨0x104, 0, 8, 0, 0xA, false⟩
/-- Takeover wait, µs, 5–255 (R366). -/
def TWIN_TAKEOVER_US : Fld := ⟨0x104, 8, 8, 0, 0x14, false⟩
/-- Chain silence before loss, µs, 2–255 (R366). -/
def TWIN_CHAIN_TIMEOUT_US : Fld := ⟨0x104, 16, 8, 0, 0xA, false⟩
/-- Start-up swap span, s; 0: none (R366). -/
def TWIN_TRAV_SPAN_S : Fld := ⟨0x108, 0, 16, 0, 0x78, false⟩
/-- In-service swap period, h; 0: none (R366). -/
def TWIN_TRAV_SVC_H : Fld := ⟨0x108, 16, 16, 0, 0x0, false⟩
/-- In-service self-check interval, ms, 0 or 100–60,000; 0: off (R366). -/
def TWIN_SELFTEST_MS : Fld := ⟨0x10C, 0, 16, 0, 0x3E8, false⟩
/-- TW_STATUS. 0x0: NONE, before step 6; 0x1: SOLO; 0x2: JOINING; 0x3: PAIRED; 0x4: FENCED; others reserved (R366). -/
def TWIN_STATE : Fld := ⟨0x110, 0, 3, 0, 0x0, true⟩
/-- 0: LEAD; 1: FOLLOW. Reads 1 in FENCED (R366). -/
def TWIN_ROLE : Fld := ⟨0x110, 3, 1, 0, 0x0, true⟩
/-- 0x0: HELLO; 0x1: TIME; 0x2: CONFIG; 0x3: STAGES; 0x4: STATE; 0x5: ADMIT (R366). -/
def TWIN_JOIN_PHASE : Fld := ⟨0x110, 4, 3, 0, 0x0, true⟩
/-- As R345 (R366). -/
def TWIN_RESOLVING : Fld := ⟨0x110, 7, 1, 0, 0x0, true⟩
/-- As R354 (R366). -/
def TWIN_RECOVERING : Fld := ⟨0x110, 8, 1, 0, 0x0, true⟩
/-- This twin's MGMT is halted (R366). -/
def TWIN_DEBUG_HOLD : Fld := ⟨0x110, 9, 1, 0, 0x0, true⟩
/-- As R364 (R366). -/
def TWIN_PEER_DEBUG_HOLD : Fld := ⟨0x110, 10, 1, 0, 0x0, true⟩
/-- Path CH0 UP (R366). -/
def TWIN_CH0_UP : Fld := ⟨0x110, 11, 1, 0, 0x0, true⟩
/-- Path CH1 UP (R366). -/
def TWIN_CH1_UP : Fld := ⟨0x110, 12, 1, 0, 0x0, true⟩
/-- FLT_IN shows the healthy code (R366). -/
def TWIN_FLT_IN_OK : Fld := ⟨0x110, 13, 1, 0, 0x0, true⟩
/-- As R358 (R366). -/
def TWIN_JOIN_FAIL : Fld := ⟨0x110, 14, 1, 0, 0x0, true⟩
/-- 0x0: none; 0x1: own S3 fault; 0x2: fenced by twin; 0x3: reserved (R366). -/
def TWIN_FENCE_CAUSE : Fld := ⟨0x110, 16, 2, 0, 0x0, true⟩
/-- Own Datum minus the twin's, int32, dq; 0 in SOLO (R366). -/
def TWIN_TIME_ERR : Fld := ⟨0x114, 0, 32, 0, 0x0, true⟩
/-- TW_HEALTH. Engines running, 0–128 (R366). -/
def TWIN_ENG_UP : Fld := ⟨0x118, 0, 8, 0, 0x0, true⟩
/-- Ports with LINK READY, 0–192 (R366). -/
def TWIN_PORTS_READY : Fld := ⟨0x118, 8, 8, 0, 0x0, true⟩
/-- Highest outstanding FCU severity (R366). -/
def TWIN_MAX_SEV : Fld := ⟨0x118, 16, 2, 0, 0x0, true⟩
/-- Class C paused by throttling (R366). -/
def TWIN_C_PAUSED : Fld := ⟨0x118, 18, 1, 0, 0x0, true⟩
/-- Class C shed (R366). -/
def TWIN_C_SHED : Fld := ⟨0x118, 19, 1, 0, 0x0, true⟩
/-- An engine's last self-check failed (R366). -/
def TWIN_SELFTEST_FAIL : Fld := ⟨0x118, 20, 1, 0, 0x0, true⟩
/-- The twin's TW_HEALTH, as last received (R366). -/
def TWIN_PEER_HEALTH : Fld := ⟨0x11C, 0, 32, 0, 0x0, true⟩
/-- CNT_MISMATCH, CNT_EXPLAINED, CNT_RESOLVED, CNT_FENCE, CNT_SWAP, CNT_SWAP_SKIP, CNT_EQ_FAIL, CNT_FOLLOW_WRITE; 32-bit wrapping, cleared by reset (R366). -/
def TWIN_CNT : Fld := ⟨0x120, 0, 32, 4, 0x0, false⟩
/-- Tick of the last disagreement, low word (R366). -/
def TWIN_LAST_MISMATCH_LO : Fld := ⟨0x140, 0, 32, 0, 0x0, true⟩
/-- High word, read under R5 (R366). -/
def TWIN_LAST_MISMATCH_HI : Fld := ⟨0x144, 0, 32, 0, 0x0, true⟩
/-- FAB_CFG. 1: the fabric ports operate (R397). -/
def FAB_EN : Fld := ⟨0x100, 0, 1, 0, 0x0, false⟩
/-- Node address (R397). -/
def FAB_GRID : Fld := ⟨0x100, 1, 10, 0, 0x0, false⟩
/-- Domain (R397). -/
def FAB_DOMAIN : Fld := ⟨0x100, 11, 6, 0, 0x0, false⟩
/-- Grandmaster candidate under R390 (R397). -/
def FAB_GM_CAND : Fld := ⟨0x100, 17, 1, 0, 0x0, false⟩
/-- RS-FEC on plane A (R397). -/
def FAB_FEC_A : Fld := ⟨0x100, 18, 1, 0, 0x0, false⟩
/-- RS-FEC on plane B (R397). -/
def FAB_FEC_B : Fld := ⟨0x100, 19, 1, 0, 0x0, false⟩
/-- Bit k for FA0, FA1, FB0, FB1. 0: KR; 1: CR (R397). -/
def FAB_MEDIA : Fld := ⟨0x100, 20, 4, 0, 0x0, false⟩
/-- gPTP priority1 (R397). -/
def FAB_PRIO1 : Fld := ⟨0x100, 24, 8, 0, 0xF8, false⟩
/-- FAB_CTRL. 1: propose QUIET of plane A (R397). -/
def FAB_QUIET_A : Fld := ⟨0x104, 0, 1, 0, 0x0, false⟩
/-- 1: propose QUIET of plane B (R397). -/
def FAB_QUIET_B : Fld := ⟨0x104, 1, 1, 0, 0x0, false⟩
/-- 1: wake request (R397). -/
def FAB_WAKE : Fld := ⟨0x104, 2, 1, 0, 0x0, false⟩
/-- 1: send SHARE messages (R397). -/
def FAB_SHARE_TX : Fld := ⟨0x104, 3, 1, 0, 0x0, false⟩
/-- FAB_STATUS. 0x0: DOWN; 0x1: ALONE; 0x2: UP; 0x3: QUIET (R397). -/
def FAB_PLANE_A : Fld := ⟨0x108, 0, 2, 0, 0x0, true⟩
/-- As PLANE_A (R397). -/
def FAB_PLANE_B : Fld := ⟨0x108, 2, 2, 0, 0x0, true⟩
/-- As R389 (R397). -/
def FAB_ALONE : Fld := ⟨0x108, 4, 1, 0, 0x0, true⟩
/-- This station is grandmaster (R397). -/
def FAB_GM : Fld := ⟨0x108, 5, 1, 0, 0x0, true⟩
/-- |TIME_ERR| within 400 dq (R397). -/
def FAB_SYNCED : Fld := ⟨0x108, 6, 1, 0, 0x0, true⟩
/-- A station lies beyond 32 hops (R397). -/
def FAB_DIAMETER : Fld := ⟨0x108, 7, 1, 0, 0x0, true⟩
/-- Reachable nodes, this one included (R397). -/
def FAB_NODES : Fld := ⟨0x108, 16, 11, 0, 0x0, true⟩
/-- Byte k for FA0, FA1, FB0, FB1: [2:0] 0x0 DOWN, 0x1 TRAINING, 0x2 UP, 0x3 IDLE, 0x4 MISWIRE; [3] adjacency; [4] segment port; [5] RS-FEC active; [7:6] zero (R397). -/
def FAB_PORT_STATUS : Fld := ⟨0x10C, 0, 32, 0, 0x0, true⟩
/-- Node incarnation, loaded from MRAM (R397). -/
def FAB_INCARN : Fld := ⟨0x110, 0, 16, 0, 0x0, true⟩
/-- Fabric Datum error against the grandmaster, int32, dq (R397). -/
def FAB_TIME_ERR : Fld := ⟨0x114, 0, 32, 0, 0x0, true⟩
/-- Offset of R391, int64, low word (R397). -/
def FAB_DATUM_OFS_LO : Fld := ⟨0x118, 0, 32, 0, 0x0, true⟩
/-- High word, read under R5 (R397). -/
def FAB_DATUM_OFS_HI : Fld := ⟨0x11C, 0, 32, 0, 0x0, true⟩
/-- Source station of the governing budget (R397). -/
def FAB_BUDGET_SRC : Fld := ⟨0x120, 0, 11, 0, 0x0, true⟩
/-- Its GEN (R397). -/
def FAB_BUDGET_GEN : Fld := ⟨0x124, 0, 32, 0, 0x0, true⟩
/-- CNT_PRP_DUP, CNT_DUP, CNT_STALE_ID, CNT_REL_FAIL, CNT_NO_ROUTE, CNT_KEEPALIVE, CNT_AUTH_FAIL, CNT_RX_OTHER, CNT_QUIET_ABORT, CNT_HOPS; 32-bit wrapping, cleared by reset (R397). -/
def FAB_CNT : Fld := ⟨0x140, 0, 32, 4, 0x0, false⟩
/-- Eight words, the 256-bit session key of partition p, first word least significant. P0 only (R397). -/
def FAB_SESS_KEY0 : Fld := ⟨0x200, 0, 32, 32, 0x0, false⟩
/-- Eight words, the 256-bit session key of partition p, first word least significant. P0 only (R397). -/
def FAB_SESS_KEY1 : Fld := ⟨0x204, 0, 32, 32, 0x0, false⟩
/-- Eight words, the 256-bit session key of partition p, first word least significant. P0 only (R397). -/
def FAB_SESS_KEY2 : Fld := ⟨0x208, 0, 32, 32, 0x0, false⟩
/-- Eight words, the 256-bit session key of partition p, first word least significant. P0 only (R397). -/
def FAB_SESS_KEY3 : Fld := ⟨0x20C, 0, 32, 32, 0x0, false⟩
/-- Eight words, the 256-bit session key of partition p, first word least significant. P0 only (R397). -/
def FAB_SESS_KEY4 : Fld := ⟨0x210, 0, 32, 32, 0x0, false⟩
/-- Eight words, the 256-bit session key of partition p, first word least significant. P0 only (R397). -/
def FAB_SESS_KEY5 : Fld := ⟨0x214, 0, 32, 32, 0x0, false⟩
/-- Eight words, the 256-bit session key of partition p, first word least significant. P0 only (R397). -/
def FAB_SESS_KEY6 : Fld := ⟨0x218, 0, 32, 32, 0x0, false⟩
/-- Eight words, the 256-bit session key of partition p, first word least significant. P0 only (R397). -/
def FAB_SESS_KEY7 : Fld := ⟨0x21C, 0, 32, 32, 0x0, false⟩
/-- Address of the last violation: window offset, or the ADDR of an MGMT message (R406). -/
def PART_VIOL_ADDR : Fld := ⟨0x100, 0, 32, 0, 0x0, true⟩
/-- VIOL_INFO. Offending partition (R406). -/
def PART_PART : Fld := ⟨0x104, 0, 3, 0, 0x0, true⟩
/-- 1: write; 0: read (R406). -/
def PART_WRITE : Fld := ⟨0x104, 3, 1, 0, 0x0, true⟩
/-- 0: BAR2; 1: fabric MGMT (R406). -/
def PART_PATH : Fld := ⟨0x104, 4, 1, 0, 0x0, true⟩
/-- Violations of all partitions, wrapping (R406). -/
def PART_CNT_VIOLATION : Fld := ⟨0x108, 0, 32, 0, 0x0, false⟩
/-- PT_CFG. 1: BAR2 window p enabled. Resets to 1 for P0 and to 0 otherwise (R406). -/
def PART_WIN_EN : Fld := ⟨0x200, 0, 1, 16, 0x0, false⟩
/-- 1: MGMT sessions tagged p accepted (R406). -/
def PART_SESS_EN : Fld := ⟨0x200, 1, 1, 16, 0x0, false⟩
/-- 1: PG_CTRL.QUIESCE is 1 on every page that p owns. 0: cleared on those pages. RSVD for P0 (R406). -/
def PART_QUIESCE : Fld := ⟨0x200, 2, 1, 16, 0x0, false⟩
/-- Field Book records p may hold, 0–65,536; 0: p holds none. RSVD for P0 (R406). -/
def PART_FBK_QUOTA : Fld := ⟨0x204, 0, 17, 16, 0x0, false⟩
/-- SPn pages owned by p (R406). -/
def PART_PORTS : Fld := ⟨0x208, 0, 8, 16, 0x0, true⟩
/-- CEn pages owned by p (R406). -/
def PART_ENGINES : Fld := ⟨0x208, 8, 8, 16, 0x0, true⟩
/-- Violations by p, wrapping (R406). -/
def PART_CNT_VIOL : Fld := ⟨0x20C, 0, 32, 16, 0x0, false⟩
/-- ARB_CFG. Longest tenure, cycles, 256–65,535 (R421). -/
def ARB_MAX_HOLD : Fld := ⟨0x100, 0, 16, 0, 0x800, false⟩
/-- Cycles, 0 or 4,096–16,777,215; 0: starvation not reported (R421). -/
def ARB_STARVE_LIMIT : Fld := ⟨0x104, 0, 24, 0, 0x10000, false⟩
/-- Bit s: a queue of slot s is starving (R421). -/
def ARB_STARVE : Fld := ⟨0x108, 0, 24, 0, 0x0, true⟩
/-- Bit s: a queue of slot s is blocked (R421). -/
def ARB_OVERHOLD : Fld := ⟨0x10C, 0, 24, 0, 0x0, true⟩
/-- CNT_GRANT, CNT_REVOKE, CNT_OVERHOLD, CNT_STARVE; 32-bit wrapping, cleared by reset (R421). -/
def ARB_CNT : Fld := ⟨0x110, 0, 32, 4, 0x0, false⟩
/-- SLOT_CFG of slot s. 1–15; slot 23 reads zero and ignores writes (R421). -/
def ARB_WEIGHT : Fld := ⟨0x180, 0, 4, 4, 0x1, false⟩
/-- Cycles per window, 0 or 128–1,000. Resets to 1,000 for P0 and to 0 otherwise (R421). -/
def ARB_CREDIT : Fld := ⟨0x200, 0, 10, 16, 0x0, false⟩
/-- Tenure cycles of p in the last full window, both tiers, revoked cycles included (R421). -/
def ARB_USED : Fld := ⟨0x204, 0, 32, 16, 0x0, true⟩
/-- Longest tier-1 grant latency of any queue of p, cycles (R421). -/
def ARB_MAX_WAIT : Fld := ⟨0x208, 0, 32, 16, 0x0, true⟩
/-- Revoked tenures of p, wrapping (R421). -/
def ARB_CNT_REVOKED : Fld := ⟨0x20C, 0, 32, 16, 0x0, false⟩
/-- FC_STATUS. Highest outstanding severity (R440). -/
def FCU_MAX_SEV : Fld := ⟨0x100, 0, 2, 0, 0x0, true⟩
/-- Code driven, [3] P and [2] N (R440). -/
def FCU_FLT_OUT : Fld := ⟨0x100, 2, 2, 0, 0x0, true⟩
/-- Code received, [5] P and [4] N (R440). -/
def FCU_FLT_IN : Fld := ⟨0x100, 4, 2, 0, 0x0, true⟩
/-- Last source raised (R440). -/
def FCU_LAST_SRC : Fld := ⟨0x104, 0, 8, 0, 0x0, true⟩
/-- Its instance (R440). -/
def FCU_LAST_INST : Fld := ⟨0x104, 8, 8, 0, 0x0, true⟩
/-- Its severity (R440). -/
def FCU_LAST_SEV : Fld := ⟨0x104, 16, 2, 0, 0x0, true⟩
/-- FC_CFG. 1: no reset after an S3 fence (R440). -/
def FCU_S3_HOLD : Fld := ⟨0x108, 0, 1, 0, 0x0, false⟩
/-- Delay of the S3 reset, ms, 10–255 (R440). -/
def FCU_RESET_DELAY_MS : Fld := ⟨0x108, 8, 8, 0, 0x32, false⟩
/-- Raises, wrapping (R440). -/
def FCU_CNT_RAISE : Fld := ⟨0x10C, 0, 32, 0, 0x0, false⟩
/-- WIRE_FAULT raises, wrapping (R440). -/
def FCU_CNT_WIRE : Fld := ⟨0x110, 0, 32, 0, 0x0, false⟩
/-- FC_SRC of source s. Default under R425; RO where locked (R440). -/
def FCU_SEV : Fld := ⟨0x200, 0, 2, 4, 0x0, false⟩
/-- 1: locked at S3 (R440). -/
def FCU_LOCKED : Fld := ⟨0x200, 2, 1, 4, 0x0, true⟩
/-- Bit b: source 32w + b outstanding, w = 0–7 (R440). -/
def FCU_OUTSTANDING : Fld := ⟨0x600, 0, 32, 4, 0x0, false⟩
/-- THM_CFG. Throttle onset, °C, 85–115; 100 (R441). -/
def THM_ONSET : Fld := ⟨0x100, 0, 7, 0, 0x64, false⟩
/-- THM_STATUS. Throttle step k, 0–9 (R441). -/
def THM_STEP : Fld := ⟨0x104, 0, 4, 0, 0x0, true⟩
/-- As R438 (R441). -/
def THM_SHUTDOWN_LOCK : Fld := ⟨0x104, 4, 1, 0, 0x0, true⟩
/-- Sensor that sets T_MAX (R441). -/
def THM_HOT_SENSOR : Fld := ⟨0x104, 8, 6, 0, 0x0, true⟩
/-- T_MAX (R441). -/
def THM_T_MAX : Fld := ⟨0x108, 0, 16, 0, 0x0, true⟩
/-- Stage plausibility floor; −45 °C (R441). -/
def THM_SS_PLAUS_LO : Fld := ⟨0x10C, 0, 16, 0, 0xFD30, false⟩
/-- Stage plausibility ceiling; 175 °C (R441). -/
def THM_SS_PLAUS_HI : Fld := ⟨0x10C, 16, 16, 0, 0xAF0, false⟩
/-- Shutdowns, wrapping; loaded from the MRAM parameter array at every reset under R444 and never cleared (R441). -/
def THM_CNT_SHUTDOWN : Fld := ⟨0x110, 0, 32, 0, 0x0, false⟩
/-- DIE_Ti. Value in use of sensor i (R441). -/
def THM_T : Fld := ⟨0x200, 0, 16, 4, 0x0, true⟩
/-- As R434 (R441). -/
def THM_FAILED : Fld := ⟨0x200, 16, 1, 4, 0x0, true⟩
/-- Bit b: item (b mod 2) of port (32w + b) div 2 failed, w = 0–11 (R441). -/
def THM_SS_FAILED : Fld := ⟨0x300, 0, 32, 4, 0x0, true⟩
/-- SEQ of the newest record; set under R450 (R456). -/
def FBK_HEAD_SEQ : Fld := ⟨0x100, 0, 32, 0, 0x0, true⟩
/-- Records held, 0–131,072 (R456). -/
def FBK_HELD : Fld := ⟨0x104, 0, 18, 0, 0x0, true⟩
/-- Records dropped or displaced, wrapping (R456). -/
def FBK_DROPPED : Fld := ⟨0x108, 0, 32, 0, 0x0, false⟩
/-- Last SEQ read; reset to HEAD_SEQ (R456). -/
def FBK_ACK_SEQ : Fld := ⟨0x10C, 0, 32, 0, 0x0, false⟩
/-- Unread records that raise WATERMARK, 0–131,072; 0: never raised (R456). -/
def FBK_WMARK : Fld := ⟨0x110, 0, 18, 0, 0x10000, false⟩
/-- FB_CTRL. Erase key of R451. P0 only (R456). -/
def FBK_ERASE : Fld := ⟨0x114, 0, 32, 0, 0x0, false⟩
/-- Records queued, 0–256 (R456). -/
def FBK_QUEUE : Fld := ⟨0x118, 0, 9, 0, 0x0, true⟩
/-- Slots freed under R450 at the last start (R456). -/
def FBK_CNT_TORN : Fld := ⟨0x11C, 0, 32, 0, 0x0, false⟩
/-- SEQ after which the reader searches; per partition (R456). -/
def FBK_FR_CURSOR : Fld := ⟨0x800, 0, 32, 0, 0x0, false⟩
/-- Records held by the accessing partition (R456). -/
def FBK_FR_HELD : Fld := ⟨0x804, 0, 18, 0, 0x0, true⟩
/-- Its records dropped or displaced, wrapping (R456). -/
def FBK_FR_DROPPED : Fld := ⟨0x808, 0, 32, 0, 0x0, false⟩
/-- Its records overwritten, wrapping (R456). -/
def FBK_FR_OVERWRITTEN : Fld := ⟨0x80C, 0, 32, 0, 0x0, false⟩
/-- Latched record under R455, word k at 0x840 + 4k (R456). -/
def FBK_FR_DATA : Fld := ⟨0x840, 0, 32, 4, 0x0, true⟩
/-- Entries lost under R458, wrapping (R463). -/
def WCAP_CNT_GAP : Fld := ⟨0x100, 0, 32, 0, 0x0, false⟩
/-- Triggers ignored under R460, wrapping (R463). -/
def WCAP_CNT_RETRIG : Fld := ⟨0x104, 0, 32, 0, 0x0, false⟩
/-- CS_CFG. Region start, 64 KiB units (R463). -/
def WCAP_BASE : Fld := ⟨0x200, 0, 7, 64, 0x0, false⟩
/-- Region size, 64 KiB units, 1–128 (R463). -/
def WCAP_SIZE : Fld := ⟨0x200, 8, 8, 64, 0x0, false⟩
/-- Ticks per entry, 1–255 (R463). -/
def WCAP_DECIM : Fld := ⟨0x200, 16, 8, 64, 0x1, false⟩
/-- 1: flush on DONE (R463). -/
def WCAP_FLUSH_EN : Fld := ⟨0x200, 24, 1, 64, 0x0, false⟩
/-- Pre-trigger entries (R463). -/
def WCAP_PRE : Fld := ⟨0x204, 0, 32, 64, 0x0, false⟩
/-- Total entries; 0: set disabled (R463). -/
def WCAP_LEN : Fld := ⟨0x208, 0, 32, 64, 0x0, false⟩
/-- 0x0: manual only; 0x1: FCU source ARG0; 0x2: SPn event bit ARG1 of port ARG0; 0x3: TRANSFER_START of section ARG1; 0x4: any raise at S2 or above; others reserved (R463). -/
def WCAP_TRIG_SRC : Fld := ⟨0x20C, 0, 3, 64, 0x0, false⟩
/-- Source number or port (R463). -/
def WCAP_ARG0 : Fld := ⟨0x20C, 8, 8, 64, 0x0, false⟩
/-- Event bit or section (R463). -/
def WCAP_ARG1 : Fld := ⟨0x20C, 16, 5, 64, 0x0, false⟩
/-- Two selectors per word, channel 2w in [15:0] and 2w + 1 in [31:16]: [7:0] port, [9:8] channel, [15] valid (R463). -/
def WCAP_CH_SEL0 : Fld := ⟨0x210, 0, 32, 64, 0x0, false⟩
/-- Two selectors per word, channel 2w in [15:0] and 2w + 1 in [31:16]: [7:0] port, [9:8] channel, [15] valid (R463). -/
def WCAP_CH_SEL1 : Fld := ⟨0x214, 0, 32, 64, 0x0, false⟩
/-- Two selectors per word, channel 2w in [15:0] and 2w + 1 in [31:16]: [7:0] port, [9:8] channel, [15] valid (R463). -/
def WCAP_CH_SEL2 : Fld := ⟨0x218, 0, 32, 64, 0x0, false⟩
/-- Two selectors per word, channel 2w in [15:0] and 2w + 1 in [31:16]: [7:0] port, [9:8] channel, [15] valid (R463). -/
def WCAP_CH_SEL3 : Fld := ⟨0x21C, 0, 32, 64, 0x0, false⟩
/-- CS_CTRL. 1: arm (R463). -/
def WCAP_ARM : Fld := ⟨0x220, 0, 1, 64, 0x0, false⟩
/-- 1: manual trigger (R463). -/
def WCAP_TRIGGER : Fld := ⟨0x220, 1, 1, 64, 0x0, false⟩
/-- 1: abort (R463). -/
def WCAP_ABORT : Fld := ⟨0x220, 2, 1, 64, 0x0, false⟩
/-- CS_STATUS. 0x0: IDLE; 0x1: ARMED; 0x2: POST; 0x3: DONE; 0x4: FLUSHING; 0x5: FLUSHED; 0x6: FLUSH_FAIL (R463). -/
def WCAP_STATE : Fld := ⟨0x224, 0, 3, 64, 0x0, true⟩
/-- As R459 (R463). -/
def WCAP_PRE_SHORT : Fld := ⟨0x224, 3, 1, 64, 0x0, true⟩
/-- An entry of this capture was lost (R463). -/
def WCAP_GAP : Fld := ⟨0x224, 4, 1, 64, 0x0, true⟩
/-- Trigger entry tick, low word (R463). -/
def WCAP_TRIG_TICK_LO : Fld := ⟨0x228, 0, 32, 64, 0x0, true⟩
/-- High word, read under R5 (R463). -/
def WCAP_TRIG_TICK_HI : Fld := ⟨0x22C, 0, 32, 64, 0x0, true⟩
/-- As R459 (R463). -/
def WCAP_PRE_GOT : Fld := ⟨0x230, 0, 32, 64, 0x0, true⟩
/-- Entry index of the oldest entry of the capture (R463). -/
def WCAP_FIRST : Fld := ⟨0x234, 0, 32, 64, 0x0, true⟩
/-- PCIE_STATUS. Link up (R473). -/
def HOST_LINK_UP : Fld := ⟨0x100, 0, 1, 0, 0x0, true⟩
/-- Lanes: 1, 2 or 4 (R473). -/
def HOST_WIDTH : Fld := ⟨0x100, 1, 3, 0, 0x0, true⟩
/-- Generation, 1–4 (R473). -/
def HOST_SPEED : Fld := ⟨0x100, 4, 3, 0, 0x0, true⟩
/-- Bus Master Enable (R473). -/
def HOST_BME : Fld := ⟨0x100, 7, 1, 0, 0x0, true⟩
/-- Device in D3hot (R473). -/
def HOST_D3 : Fld := ⟨0x100, 8, 1, 0, 0x0, true⟩
/-- Writes discarded under R4, all paths, wrapping (R473). -/
def HOST_CNT_PARTIAL : Fld := ⟨0x104, 0, 32, 0, 0x0, false⟩
/-- Correctable errors logged, wrapping (R473). -/
def HOST_CNT_AER : Fld := ⟨0x108, 0, 32, 0, 0x0, false⟩
/-- Bit b of word w: CE(32w + b) asserting (R473). -/
def HOST_PEND_CE : Fld := ⟨0x110, 0, 32, 4, 0x0, true⟩
/-- Bit b of word w: SP(32w + b) asserting (R473). -/
def HOST_PEND_SP : Fld := ⟨0x120, 0, 32, 4, 0x0, true⟩
/-- Source address or archive offset (R473). -/
def HOST_SRC : Fld := ⟨0x200, 0, 32, 32, 0x0, false⟩
/-- Host address, low word (R473). -/
def HOST_DST_LO : Fld := ⟨0x204, 0, 32, 32, 0x0, false⟩
/-- Host address, high word, written under R5 (R473). -/
def HOST_DST_HI : Fld := ⟨0x208, 0, 32, 32, 0x0, false⟩
/-- Bytes; 0: complete at once (R473). -/
def HOST_LEN : Fld := ⟨0x20C, 0, 25, 32, 0x0, false⟩
/-- 1: start; ignored while BUSY, and CFG_REJECT latches (R473). -/
def HOST_START : Fld := ⟨0x210, 0, 1, 32, 0x0, false⟩
/-- 0: BAR0 window; 1: capture archive (R473). -/
def HOST_KIND : Fld := ⟨0x210, 1, 1, 32, 0x0, false⟩
/-- 0x0: IDLE; 0x1: BUSY; 0x2: DONE; 0x3: ERROR (R473). -/
def HOST_STATE : Fld := ⟨0x214, 0, 2, 32, 0x0, true⟩
/-- 0x0: none; 0x1: RANGE; 0x2: HOST; 0x3: RING; 0x4: FLASH (R473). -/
def HOST_ERR : Fld := ⟨0x214, 2, 4, 32, 0x0, true⟩
/-- Bytes written to host memory (R473). -/
def HOST_DONE_BYTES : Fld := ⟨0x218, 0, 32, 32, 0x0, true⟩
/-- TGT_CFG. IIC0: from STRAP[4:3], RO. IIC2: 0x28 + TWIN_ID, RW (R481). -/
def IIC_ADDR : Fld := ⟨0x100, 0, 7, 0, 0x0, false⟩
/-- 1: PEC on writes under R478 (R481). -/
def IIC_TGT_PEC_EN : Fld := ⟨0x100, 8, 1, 0, 0x0, false⟩
/-- CNT_XFER, CNT_TIMEOUT, CNT_STRETCH_EXPIRED (IIC2 only); wrapping (R481). -/
def IIC_CNT : Fld := ⟨0x104, 0, 32, 4, 0x0, false⟩
/-- IIC1 CTL. 0x0: 100 kHz; 0x1: 400 kHz; 0x2: 1 MHz (R481). -/
def IIC_FREQ : Fld := ⟨0x110, 0, 2, 0, 0x1, false⟩
/-- Retries, 0–7 (R481). -/
def IIC_RETRY : Fld := ⟨0x110, 2, 3, 0, 0x3, false⟩
/-- 1: append PEC to writes and check it on reads (R481). -/
def IIC_PEC_EN : Fld := ⟨0x110, 5, 1, 0, 0x0, false⟩
/-- IIC1 CMD. Target address (R481). -/
def IIC_TADDR : Fld := ⟨0x114, 0, 7, 0, 0x0, false⟩
/-- Bytes to write, 0–32 (R481). -/
def IIC_WR_LEN : Fld := ⟨0x114, 8, 6, 0, 0x0, false⟩
/-- Bytes to read, 0–32 (R481). -/
def IIC_RD_LEN : Fld := ⟨0x114, 16, 6, 0, 0x0, false⟩
/-- 1: start the transaction (R481). -/
def IIC_START : Fld := ⟨0x114, 31, 1, 0, 0x0, false⟩
/-- IIC1 STATUS (R481). -/
def IIC_BUSY : Fld := ⟨0x118, 0, 1, 0, 0x0, true⟩
/-- 0x0: OK; 0x1: ADDR_NACK; 0x2: DATA_NACK; 0x3: ARB_LOST; 0x4: ARB_LOST_SR; 0x5: BUS_STUCK; 0x6: TIMEOUT; 0x7: PEC_ERR (R481). -/
def IIC_ERR : Fld := ⟨0x118, 1, 4, 0, 0x0, true⟩
/-- Attempts made, less 1 (R481). -/
def IIC_TRIES : Fld := ⟨0x118, 5, 3, 0, 0x0, true⟩
/-- IIC1 bytes to write, byte k at 0x120 + k (R481). -/
def IIC_TX : Fld := ⟨0x120, 0, 32, 4, 0x0, false⟩
/-- IIC1 bytes read (R481). -/
def IIC_RX : Fld := ⟨0x140, 0, 32, 4, 0x0, true⟩
/-- FW_STATUS. 0x0: IDLE; 0x1: STAGING; 0x2: VERIFYING; 0x3: PAUSED; 0x4: SETTLING; 0x5: COMMITTING; 0x6: SWAPPING; 0x7: REVERTING; others reserved (R504). -/
def FWU_OP : Fld := ⟨0x100, 0, 4, 0, 0x0, true⟩
/-- Last result. 0x0: OK; 0x1: FORMAT; 0x2: BAD_SIG; 0x3: ROLLBACK; 0x4: NOT_FOR_DEVICE; 0x5: DECRYPT; 0x6: BUSY; 0x7: WINDOW; 0x8: NEED_PAIR; 0x9: FLASH; 0xA: TICK_BUDGET; 0xB: SETTLE_FAIL; 0xC: ABORTED; 0xD: NO_STAGED (R504). -/
def FWU_RESULT : Fld := ⟨0x100, 4, 4, 0, 0x0, true⟩
/-- STAGED marked pending (R504). -/
def FWU_PENDING : Fld := ⟨0x100, 8, 1, 0, 0x0, true⟩
/-- STAGED marked rejected (R504). -/
def FWU_REJECTED : Fld := ⟨0x100, 9, 1, 0, 0x0, true⟩
/-- As R493 (R504). -/
def FWU_ACTIVE_BAD : Fld := ⟨0x100, 10, 1, 0, 0x0, true⟩
/-- Laws on the new kernel during a swap (R504). -/
def FWU_LAWS_SWAPPED : Fld := ⟨0x104, 0, 16, 0, 0x0, true⟩
/-- Length of the last pause, ms (R504). -/
def FWU_PAUSE_MS : Fld := ⟨0x104, 16, 16, 0, 0x0, true⟩
/-- Running VERSION of PLUMB_PATCH, MGMT, CE_KERNELS, NEG_POLICY (R504). -/
def FWU_RUN_VER : Fld := ⟨0x110, 0, 32, 4, 0x0, true⟩
/-- As RUN_VER, for ACTIVE; 0: absent (R504). -/
def FWU_ACTIVE_VER : Fld := ⟨0x120, 0, 32, 4, 0x0, true⟩
/-- As RUN_VER, for STAGED; 0: absent (R504). -/
def FWU_STAGED_VER : Fld := ⟨0x130, 0, 32, 4, 0x0, true⟩
/-- As RUN_VER, for GOLDEN; 0: absent (R504). -/
def FWU_GOLDEN_VER : Fld := ⟨0x140, 0, 32, 4, 0x0, true⟩
/-- DEVICE_ID, low word (R505). -/
def SEC_DEVICE_ID_LO : Fld := ⟨0x100, 0, 32, 0, 0x0, true⟩
/-- High word, read under R5 (R505). -/
def SEC_DEVICE_ID_HI : Fld := ⟨0x104, 0, 32, 0, 0x0, true⟩
/-- Blown anti-rollback fuses (R505). -/
def SEC_SVN_FUSED : Fld := ⟨0x108, 0, 7, 0, 0x0, true⟩
/-- Bit k: ROM key k revoked (R505). -/
def SEC_SIGNER_REVOKED : Fld := ⟨0x108, 8, 4, 0, 0x0, true⟩
/-- 1: production lock in force (R505). -/
def SEC_JTAG_LOCKED : Fld := ⟨0x108, 12, 1, 0, 0x0, true⟩
/-- 1: unlocked under R503 (R505). -/
def SEC_DEBUG_UNLOCKED : Fld := ⟨0x108, 13, 1, 0, 0x0, true⟩
/-- Glitch resets, wrapping; MRAM-backed (R505). -/
def SEC_CNT_GLITCH : Fld := ⟨0x10C, 0, 32, 0, 0x0, false⟩
/-- Containers refused under R489, wrapping (R505). -/
def SEC_CNT_VERIFY_FAIL : Fld := ⟨0x110, 0, 32, 0, 0x0, false⟩
/-- SNAP_CTRL. 1: take a snapshot (R510). -/
def PMC_SNAP : Fld := ⟨0x100, 0, 1, 0, 0x0, false⟩
/-- Snapshot pending or being copied (R510). -/
def PMC_BUSY : Fld := ⟨0x100, 1, 1, 0, 0x0, true⟩
/-- Tick of the snapshot, low word; 0 with high word 0: next tick (R510). -/
def PMC_SNAP_TICK_LO : Fld := ⟨0x104, 0, 32, 0, 0x0, false⟩
/-- High word, written under R5 (R510). -/
def PMC_SNAP_TICK_HI : Fld := ⟨0x108, 0, 32, 0, 0x0, false⟩
/-- Datum of the last snapshot, low word (R510). -/
def PMC_SNAP_DATUM_LO : Fld := ⟨0x10C, 0, 32, 0, 0x0, true⟩
/-- High word, read under R5 (R510). -/
def PMC_SNAP_DATUM_HI : Fld := ⟨0x110, 0, 32, 0, 0x0, true⟩
/-- BAR0 address of the page shown at 0x200; bits 11:0 read zero (R510). -/
def PMC_SNAP_PAGE : Fld := ⟨0x114, 0, 25, 0, 0x0, false⟩
/-- Snapshots taken, wrapping (R510). -/
def PMC_CNT_SNAP : Fld := ⟨0x118, 0, 32, 0, 0x0, false⟩
/-- PMC_CNT0–3 of SNAP_PAGE at the snapshot; zero for a page without counters (R510). -/
def PMC_SNAP_CNT : Fld := ⟨0x200, 0, 32, 4, 0x0, true⟩
/-- PMC_SEL0–3 of SNAP_PAGE at the snapshot (R510). -/
def PMC_SNAP_SEL : Fld := ⟨0x210, 0, 32, 4, 0x0, true⟩
/-- PL_STATUS. SEQ_STATUS.STATE is UP (R526). -/
def PLUMB_MAIN_UP : Fld := ⟨0x100, 0, 1, 0, 0x0, true⟩
/-- Hibernation under R281 in force (R526). -/
def PLUMB_HIBERNATING : Fld := ⟨0x100, 1, 1, 0, 0x0, true⟩
/-- 32.768 kHz crystal running (R526). -/
def PLUMB_XTAL_RUN : Fld := ⟨0x100, 2, 1, 0, 0x0, true⟩
/-- RC trim reference under R84. 0x0: none; 0x1: crystal; 0x2: REFCLK; 0x3: reserved (R526). -/
def PLUMB_TRIM_SRC : Fld := ⟨0x100, 3, 2, 0, 0x0, true⟩
/-- Last measured RC oscillator error, int32, parts per 10^9 (R526). -/
def PLUMB_RC_ERR_PPB : Fld := ⟨0x104, 0, 32, 0, 0x0, true⟩
/-- VAON, mV (R526). -/
def PLUMB_VAON_MV : Fld := ⟨0x108, 0, 16, 0, 0x0, true⟩
/-- AON_ADC0–3, mV, one word each; bits 31:16 reserved (R526). -/
def PLUMB_ADC_MV : Fld := ⟨0x10C, 0, 16, 4, 0x0, true⟩
/-- Brown-out stops under R79, counted at the next start; MRAM-backed, wrapping (R526). -/
def PLUMB_CNT_BROWNOUT : Fld := ⟨0x11C, 0, 32, 0, 0x0, false⟩
/-- XS_STATUS. Flash identified under R482 (R527). -/
def XSPI_READY : Fld := ⟨0x100, 0, 1, 0, 0x0, true⟩
/-- 8D-8D-8D in use (R527). -/
def XSPI_DTR : Fld := ⟨0x100, 1, 1, 0, 0x0, true⟩
/-- A program, erase, flush or DMA is in progress (R527). -/
def XSPI_BUSY : Fld := ⟨0x100, 2, 1, 0, 0x0, true⟩
/-- Clock in use, MHz (R527). -/
def XSPI_FREQ_MHZ : Fld := ⟨0x100, 8, 8, 0, 0x0, true⟩
/-- Flash size, MiB (R527). -/
def XSPI_SIZE_MIB : Fld := ⟨0x104, 0, 32, 0, 0x0, true⟩
/-- Flash offset of the newest committed archive entry; 0xFFFF_FFFF: archive empty (R527). -/
def XSPI_ARCH_HEAD : Fld := ⟨0x108, 0, 32, 0, 0xFFFFFFFF, true⟩
/-- Flash offset of the oldest committed entry; 0xFFFF_FFFF: archive empty (R527). -/
def XSPI_ARCH_TAIL : Fld := ⟨0x10C, 0, 32, 0, 0xFFFFFFFF, true⟩
/-- Committed archive entries (R527). -/
def XSPI_ARCH_COUNT : Fld := ⟨0x110, 0, 32, 0, 0x0, true⟩
/-- Program or erase failures, wrapping (R527). -/
def XSPI_CNT_PROG_ERR : Fld := ⟨0x114, 0, 32, 0, 0x0, false⟩
/-- NEG_STATUS. NEG policy loaded and running (R529). -/
def NEG_RUNNING : Fld := ⟨0x100, 0, 1, 0, 0x0, true⟩
/-- Paused under R496 (R529). -/
def NEG_PAUSED : Fld := ⟨0x100, 1, 1, 0, 0x0, true⟩
/-- This twin sends and polls contract messages under R300 (R529). -/
def NEG_SERVING : Fld := ⟨0x100, 2, 1, 0, 0x0, true⟩
/-- Feeders with a contract in force (R529). -/
def NEG_CONTRACTS : Fld := ⟨0x104, 0, 8, 0, 0x0, true⟩
/-- CNT_MSG_TX, CNT_MSG_RX, CNT_RX_CRC_BAD (discarded under R300), CNT_TIMER_EXPIRY; 32-bit wrapping, cleared by reset (R529). -/
def NEG_CNT : Fld := ⟨0x108, 0, 32, 4, 0x0, false⟩
/-- Reset key (R91). -/
def SYS_RESET : Fld := ⟨0x104, 0, 32, 0, 0x0, false⟩

end R

/-- The registers that every page has (R11). -/
def rowsCommon : List Row :=
  [⟨R.PG_OWNER, 1, .rwl⟩, ⟨R.PG_LOCKED, 1, .rwl⟩, ⟨R.PG_ENABLE, 1, .rw⟩, ⟨R.PG_QUIESCE, 1, .rw⟩, ⟨R.EVT_LIVE, 1, .ro⟩,
   ⟨R.EVT_LATCH, 1, .w1c⟩, ⟨R.EVT_IRQEN, 1, .rw⟩, ⟨R.PG_SEQ, 1, .ro⟩, ⟨R.PMC_EVENT, 4, .rw⟩, ⟨R.PMC_CHAIN, 4, .rw⟩,
   ⟨R.PMC_OVF, 4, .w1c⟩, ⟨R.PMC_CNT, 4, .ro⟩]

/-- Registers of SYS (part). -/
def rowsSys0 : List Row :=
  [⟨R.SYS_TWIN_ID, 1, .ro⟩,
   ⟨R.SYS_BOOT_SRC, 1, .ro⟩,
   ⟨R.SYS_IIC0_ADDR_LO, 1, .ro⟩,
   ⟨R.SYS_SOLO_ALLOWED, 1, .ro⟩,
   ⟨R.SYS_STAGE_SAFE_DEFAULT, 1, .ro⟩,
   ⟨R.SYS_FAB_PLANES, 1, .ro⟩,
   ⟨R.SYS_PORST, 1, .ro⟩,
   ⟨R.SYS_PIN, 1, .ro⟩,
   ⟨R.SYS_KEY, 1, .ro⟩,
   ⟨R.SYS_WDOG, 1, .ro⟩,
   ⟨R.SYS_GLITCH, 1, .ro⟩,
   ⟨R.SYS_THERMAL, 1, .ro⟩,
   ⟨R.SYS_FAULT, 1, .ro⟩,
   ⟨R.SYS_BOOT_TIMEOUT, 1, .ro⟩,
   ⟨R.SYS_STEP, 1, .ro⟩,
   ⟨R.SYS_RESULT, 1, .ro⟩,
   ⟨R.SYS_SLOT, 1, .ro⟩,
   ⟨R.SYS_FAIL_ISLAND, 1, .ro⟩,
   ⟨R.SYS_READY_MS, 1, .ro⟩,
   ⟨R.SYS_RESET, 1, .wo⟩]

/-- Registers of SEQ (part). -/
def rowsSeq0 : List Row :=
  [⟨R.SEQ_USED, 8, .rwl⟩,
   ⟨R.SEQ_ORDER, 8, .rwl⟩,
   ⟨R.SEQ_PG_WINDOW, 8, .rwl⟩,
   ⟨R.SEQ_DELAY, 8, .rwl⟩,
   ⟨R.SEQ_SAVE, 1, .wo⟩,
   ⟨R.SEQ_RESTART, 1, .wo⟩,
   ⟨R.SEQ_STATE, 1, .ro⟩,
   ⟨R.SEQ_FAIL_RAIL, 1, .ro⟩,
   ⟨R.SEQ_FAIL_CAUSE, 1, .ro⟩,
   ⟨R.SEQ_ABORTS, 1, .ro⟩,
   ⟨R.SEQ_PG, 1, .ro⟩,
   ⟨R.SEQ_EN, 1, .ro⟩]

/-- Registers of DATUM (part). -/
def rowsDatum0 : List Row :=
  [⟨R.DATUM_NOW_LO, 1, .ro⟩,
   ⟨R.DATUM_NOW_HI, 1, .ro⟩,
   ⟨R.DATUM_RATE, 1, .ro⟩,
   ⟨R.DATUM_SOURCE, 1, .ro⟩]

/-- Registers of SP (part). -/
def rowsSp0 : List Row :=
  [⟨R.SP_SAFE_ACT, 1, .rw⟩,
   ⟨R.SP_AUTO_DISC, 1, .rw⟩,
   ⟨R.SP_DISC_START, 1, .wo⟩,
   ⟨R.SP_LINK, 1, .ro⟩,
   ⟨R.SP_STAGE_STATE, 1, .ro⟩,
   ⟨R.SP_STAGE_TYPE, 1, .ro⟩,
   ⟨R.SP_TYPE_VALID, 1, .ro⟩,
   ⟨R.SP_SE_EPOCH, 1, .ro⟩,
   ⟨R.SP_ADMIT_A, 1, .ro⟩,
   ⟨R.SP_ADMIT_B, 1, .ro⟩,
   ⟨R.SP_EPOCH_MATCH, 1, .ro⟩,
   ⟨R.SP_IDENT0, 1, .ro⟩,
   ⟨R.SP_IDENT1, 1, .ro⟩,
   ⟨R.SP_IDENT2, 1, .ro⟩,
   ⟨R.SP_DELAY, 1, .ro⟩,
   ⟨R.SP_OFFSET, 1, .ro⟩,
   ⟨R.SP_CNT_CRC, 1, .ro⟩,
   ⟨R.SP_CNT_SEQGAP, 1, .ro⟩,
   ⟨R.SP_CNT_LATE, 1, .ro⟩,
   ⟨R.SP_CNT_EQUAL, 1, .ro⟩]

/-- Registers of SP (part). -/
def rowsSp1 : List Row :=
  [⟨R.SP_CNT_EPOCH, 1, .ro⟩,
   ⟨R.SP_CNT_RSP_TIMEOUT, 1, .ro⟩,
   ⟨R.SP_SE_CNT, 7, .ro⟩,
   ⟨R.SP_CNT_INVALID, 1, .ro⟩,
   ⟨R.SP_PH_CLEAR, 1, .wo⟩,
   ⟨R.SP_PH_STATE, 1, .ro⟩,
   ⟨R.SP_LIMITED, 1, .ro⟩,
   ⟨R.SP_SS_BLOCKED, 1, .ro⟩,
   ⟨R.SP_DERATED, 1, .ro⟩,
   ⟨R.SP_CLEAR_FAIL, 1, .ro⟩,
   ⟨R.SP_LIM_RUN, 1, .ro⟩,
   ⟨R.SP_HIC_COUNT, 1, .ro⟩,
   ⟨R.SP_CNT_LIMITED, 1, .ro⟩,
   ⟨R.SP_CNT_HICCUP, 1, .ro⟩,
   ⟨R.SP_TLM_V, 1, .ro⟩,
   ⟨R.SP_TLM_I, 1, .ro⟩,
   ⟨R.SP_TLM_P, 1, .ro⟩,
   ⟨R.SP_TLM_T, 1, .ro⟩,
   ⟨R.SP_TLM_N, 1, .ro⟩,
   ⟨R.SP_PK_V, 1, .rc⟩]

/-- Registers of SP (part). -/
def rowsSp2 : List Row :=
  [⟨R.SP_PK_I, 1, .rc⟩,
   ⟨R.SP_PK_P, 1, .rc⟩,
   ⟨R.SP_PK_FLAGS, 1, .rc⟩,
   ⟨R.SP_PHI, 1, .ro⟩,
   ⟨R.SP_PHI_TGT, 1, .ro⟩,
   ⟨R.SP_FD_EN, 1, .rw⟩,
   ⟨R.SP_FD_CLEAR, 1, .wo⟩,
   ⟨R.SP_ROLE_PREF, 1, .rw⟩,
   ⟨R.SP_CH_I, 1, .rw⟩,
   ⟨R.SP_CH_VOUT, 1, .rw⟩,
   ⟨R.SP_CH_VBUS, 1, .rw⟩,
   ⟨R.SP_TJ_SENSE, 1, .rw⟩,
   ⟨R.SP_TREF_SENSE, 1, .rw⟩,
   ⟨R.SP_RETRY_N, 1, .rw⟩,
   ⟨R.SP_P_MAX, 1, .rw⟩,
   ⟨R.SP_ILIM_A, 1, .rw⟩,
   ⟨R.SP_TRIP_A, 1, .rw⟩,
   ⟨R.SP_INRUSH_DVDT, 1, .rw⟩,
   ⟨R.SP_INRUSH_ILIM, 1, .rw⟩,
   ⟨R.SP_INRUSH_MS, 1, .rw⟩]

/-- Registers of SP (part). -/
def rowsSp3 : List Row :=
  [⟨R.SP_RETRY_MS, 1, .rw⟩,
   ⟨R.SP_TJ_DERATE, 1, .rw⟩,
   ⟨R.SP_TJ_TRIP, 1, .rw⟩,
   ⟨R.SP_T_AMB, 1, .rw⟩,
   ⟨R.SP_RTH, 4, .rw⟩,
   ⟨R.SP_TAU, 4, .rw⟩,
   ⟨R.SP_TCC_RESET_S, 1, .rw⟩,
   ⟨R.SP_TCC_N, 1, .rw⟩,
   ⟨R.SP_TCC_I, 16, .rw⟩,
   ⟨R.SP_TCC_T, 16, .rw⟩,
   ⟨R.SP_FD_STATE, 1, .ro⟩,
   ⟨R.SP_FD_ROLE, 1, .ro⟩,
   ⟨R.SP_CONTRACT, 1, .ro⟩,
   ⟨R.SP_MODEL_LATE, 1, .ro⟩,
   ⟨R.SP_HR_HOLD, 1, .ro⟩,
   ⟨R.SP_TRIP_CAUSE, 1, .ro⟩,
   ⟨R.SP_RETRIES, 1, .ro⟩,
   ⟨R.SP_SOFT_FAILS, 1, .ro⟩,
   ⟨R.SP_BIND_CODE, 1, .ro⟩,
   ⟨R.SP_TJ, 1, .ro⟩]

/-- Registers of SP (part). -/
def rowsSp4 : List Row :=
  [⟨R.SP_TCC_ACC, 1, .ro⟩,
   ⟨R.SP_P_CONTRACT, 1, .ro⟩,
   ⟨R.SP_ILIM_NOW, 1, .ro⟩,
   ⟨R.SP_P_OUT, 1, .ro⟩,
   ⟨R.SP_BACKFEED_W, 1, .ro⟩,
   ⟨R.SP_FD_CNT, 4, .ro⟩,
   ⟨R.SP_CAL_KIND, 4, .rw⟩,
   ⟨R.SP_CAL_NODE, 4, .rw⟩,
   ⟨R.SP_CAL_FS, 4, .rw⟩,
   ⟨R.SP_CAL_GAIN, 4, .rw⟩,
   ⟨R.SP_CAL_OFFSET, 4, .rw⟩,
   ⟨R.SP_CAL_UNC_G, 4, .rw⟩,
   ⟨R.SP_CAL_UNC_O, 4, .rw⟩,
   ⟨R.SP_CAL_EXTRAP, 4, .ro⟩,
   ⟨R.SP_CAL_STALE, 4, .ro⟩,
   ⟨R.SP_CAL_UNCAL, 4, .ro⟩,
   ⟨R.SP_CAL_NODE_CONSENSUS, 4, .ro⟩,
   ⟨R.SP_CAL_FILLED, 4, .ro⟩,
   ⟨R.SP_CAL_AGE_MIN, 4, .ro⟩,
   ⟨R.SP_L_EST, 4, .ro⟩]

/-- Registers of CLU (part). -/
def rowsClu0 : List Row :=
  [⟨R.CLU_FREQ_MHZ, 1, .ro⟩,
   ⟨R.CLU_ENG_UP, 1, .ro⟩]

/-- Registers of CE (part). -/
def rowsCe0 : List Row :=
  [⟨R.CE_ACTIVE_BANK, 1, .ro⟩,
   ⟨R.CE_SWAP_BUSY, 1, .ro⟩,
   ⟨R.CE_SELFTEST_BUSY, 1, .ro⟩,
   ⟨R.CE_SELFTEST_FAIL, 1, .ro⟩,
   ⟨R.CE_KERNEL_VER, 1, .ro⟩,
   ⟨R.CE_LOAD_A, 1, .ro⟩,
   ⟨R.CE_LOAD_B, 1, .ro⟩,
   ⟨R.CE_START, 1, .wo⟩,
   ⟨R.CE_DOORBELL, 1, .w1s⟩,
   ⟨R.CE_DOORBELL_HI, 1, .w1s⟩,
   ⟨R.CE_CANCEL, 1, .w1s⟩,
   ⟨R.CE_CANCEL_HI, 1, .w1s⟩,
   ⟨R.CE_CNT, 8, .ro⟩,
   ⟨R.CE_CLASS, 64, .ro⟩,
   ⟨R.CE_ENABLE, 64, .ro⟩,
   ⟨R.CE_LAW_REF, 64, .ro⟩,
   ⟨R.CE_PERIOD, 64, .ro⟩,
   ⟨R.CE_OFFSET, 64, .ro⟩]

/-- Registers of FELT (part). -/
def rowsFelt0 : List Row :=
  [⟨R.FELT_SLEWING, 1, .ro⟩,
   ⟨R.FELT_PENDING, 1, .ro⟩,
   ⟨R.FELT_CNT_RECOMPUTE, 1, .ro⟩,
   ⟨R.FELT_CNT_TRANS_EXCEED, 1, .ro⟩,
   ⟨R.FELT_EN, 8, .rw⟩,
   ⟨R.FELT_MODE, 8, .rw⟩,
   ⟨R.FELT_HARM, 8, .rw⟩,
   ⟨R.FELT_TIE_TOL, 8, .rw⟩,
   ⟨R.FELT_FS_VBUS, 8, .rw⟩,
   ⟨R.FELT_FS_VEL, 8, .rw⟩,
   ⟨R.FELT_FS_ACC, 8, .rw⟩,
   ⟨R.FELT_FS_JERK, 8, .rw⟩,
   ⟨R.FELT_FS_TRANS_LIM, 8, .rw⟩,
   ⟨R.FELT_FS_SLEWING, 8, .ro⟩,
   ⟨R.FELT_FROZEN, 8, .ro⟩,
   ⟨R.FELT_FLAT_Z, 8, .ro⟩,
   ⟨R.FELT_RATE_HALVED, 8, .ro⟩,
   ⟨R.FELT_SPREAD_J, 8, .ro⟩,
   ⟨R.FELT_MEMBERS, 8, .ro⟩,
   ⟨R.FELT_FS_SPREAD, 8, .ro⟩]

/-- Registers of FELT (part). -/
def rowsFelt1 : List Row :=
  [⟨R.FELT_FS_RIPPLE, 8, .ro⟩,
   ⟨R.FELT_FS_PEAK, 8, .ro⟩,
   ⟨R.FELT_FS_RES_HZ, 8, .ro⟩,
   ⟨R.FELT_FS_ZPK, 8, .ro⟩]

/-- Registers of HOLD (part). -/
def rowsHold0 : List Row :=
  [⟨R.HOLD_EW_LIVE, 1, .ro⟩,
   ⟨R.HOLD_OFF_SOURCE, 1, .ro⟩,
   ⟨R.HOLD_EN, 8, .rw⟩,
   ⟨R.HOLD_PS_EN, 8, .rw⟩,
   ⟨R.HOLD_RECHG_EN, 8, .rw⟩,
   ⟨R.HOLD_QUORUM, 8, .rw⟩,
   ⟨R.HOLD_EW_GROUPS, 8, .rw⟩,
   ⟨R.HOLD_VIN_LOSS, 8, .rw⟩,
   ⟨R.HOLD_VIN_OK, 8, .rw⟩,
   ⟨R.HOLD_QUALIFY_MS, 8, .rw⟩,
   ⟨R.HOLD_TR_US, 8, .rw⟩,
   ⟨R.HOLD_BATT_I_PK, 8, .rw⟩,
   ⟨R.HOLD_BATT_I_CONT, 8, .rw⟩,
   ⟨R.HOLD_OVL_MS, 8, .rw⟩,
   ⟨R.HOLD_EW_HOLD_MS, 8, .rw⟩,
   ⟨R.HOLD_PS_LIMIT_A, 8, .rw⟩,
   ⟨R.HOLD_RECHG_A, 8, .rw⟩,
   ⟨R.HOLD_BRIM_FLOOR_WH, 8, .rw⟩,
   ⟨R.HOLD_TGT_S, 8, .rw⟩,
   ⟨R.HOLD_STATE, 8, .ro⟩]

/-- Registers of HOLD (part). -/
def rowsHold1 : List Row :=
  [⟨R.HOLD_READY, 8, .ro⟩,
   ⟨R.HOLD_SHAVING, 8, .ro⟩,
   ⟨R.HOLD_RECHARGING, 8, .ro⟩,
   ⟨R.HOLD_BRIM_EMPTY, 8, .ro⟩,
   ⟨R.HOLD_OVERLOAD, 8, .ro⟩,
   ⟨R.HOLD_REPLUGS, 8, .ro⟩,
   ⟨R.HOLD_BRIM_WH, 8, .ro⟩,
   ⟨R.HOLD_HU_BUDGET_W, 8, .ro⟩,
   ⟨R.HOLD_CNT_TRANSFER, 8, .ro⟩,
   ⟨R.HOLD_CNT_RETURN, 8, .ro⟩]

/-- Registers of CROWN (part). -/
def rowsCrown0 : List Row :=
  [⟨R.CROWN_PERIOD, 1, .rw⟩,
   ⟨R.CROWN_HEADROOM, 1, .rw⟩,
   ⟨R.CROWN_EN, 1, .rw⟩,
   ⟨R.CROWN_FAB_BUDGET_W, 1, .ro⟩,
   ⟨R.CROWN_SUPPLY_W, 1, .ro⟩,
   ⟨R.CROWN_ROOT_AVAIL_W, 1, .ro⟩,
   ⟨R.CROWN_CNT_UPDATE, 1, .ro⟩,
   ⟨R.CROWN_CNT_ENFORCE, 1, .ro⟩,
   ⟨R.CROWN_VALID, 96, .rw⟩,
   ⟨R.CROWN_OWNER, 96, .rw⟩,
   ⟨R.CROWN_PARENT, 96, .rw⟩,
   ⟨R.CROWN_FEEDER, 96, .rw⟩,
   ⟨R.CROWN_EW_GROUP, 96, .rw⟩,
   ⟨R.CROWN_LIMIT_W, 96, .rw⟩,
   ⟨R.CROWN_FLOOR_W, 96, .rw⟩,
   ⟨R.CROWN_WEIGHT, 96, .rw⟩,
   ⟨R.CROWN_GRACE_US, 96, .rw⟩,
   ⟨R.CROWN_GRANT_W, 96, .ro⟩,
   ⟨R.CROWN_DEMAND_W, 96, .ro⟩,
   ⟨R.CROWN_CAPPED, 96, .ro⟩]

/-- Registers of CROWN (part). -/
def rowsCrown1 : List Row :=
  [⟨R.CROWN_GRACE, 96, .ro⟩,
   ⟨R.CROWN_SHORT, 96, .ro⟩,
   ⟨R.CROWN_ORPHAN, 96, .ro⟩]

/-- Registers of GAUGE (part). -/
def rowsGauge0 : List Row :=
  [⟨R.GAUGE_EN, 1, .rw⟩,
   ⟨R.GAUGE_HIB_ENTER, 1, .wo⟩,
   ⟨R.GAUGE_HIB_WAKE_A, 1, .rw⟩,
   ⟨R.GAUGE_HIB_V_SCALE, 1, .rw⟩,
   ⟨R.GAUGE_HIB_I_SCALE, 1, .rw⟩,
   ⟨R.GAUGE_Z_AMP_A, 1, .rw⟩,
   ⟨R.GAUGE_STRING, 1, .rw⟩,
   ⟨R.GAUGE_TBIN, 1, .rw⟩,
   ⟨R.GAUGE_SBIN, 1, .rw⟩,
   ⟨R.GAUGE_WAKE_CUR, 1, .ro⟩,
   ⟨R.GAUGE_WAKE_IIC2, 1, .ro⟩,
   ⟨R.GAUGE_OCV, 16, .rw⟩,
   ⟨R.GAUGE_VALID, 24, .rw⟩,
   ⟨R.GAUGE_PORT0, 24, .rw⟩,
   ⟨R.GAUGE_PORT1, 24, .rw⟩,
   ⟨R.GAUGE_CH_V, 24, .rw⟩,
   ⟨R.GAUGE_CH_I, 24, .rw⟩,
   ⟨R.GAUGE_CH_T, 24, .rw⟩,
   ⟨R.GAUGE_CAP_AH, 24, .rw⟩,
   ⟨R.GAUGE_V_NOM, 24, .rw⟩]

/-- Registers of GAUGE (part). -/
def rowsGauge1 : List Row :=
  [⟨R.GAUGE_SOC_CUT, 24, .rw⟩,
   ⟨R.GAUGE_CHG_TGT, 24, .rw⟩,
   ⟨R.GAUGE_R_BOL, 24, .rw⟩,
   ⟨R.GAUGE_R_EOL, 24, .rw⟩,
   ⟨R.GAUGE_CAP_EOL, 24, .rw⟩,
   ⟨R.GAUGE_SOC, 24, .ro⟩,
   ⟨R.GAUGE_SOC_UNC, 24, .ro⟩,
   ⟨R.GAUGE_SOH, 24, .ro⟩,
   ⟨R.GAUGE_USABLE_WH, 24, .ro⟩,
   ⟨R.GAUGE_T_STR, 24, .ro⟩,
   ⟨R.GAUGE_CYCLES, 24, .ro⟩,
   ⟨R.GAUGE_BELOW_TGT, 24, .ro⟩,
   ⟨R.GAUGE_REST, 24, .ro⟩,
   ⟨R.GAUGE_EMPTY, 24, .ro⟩,
   ⟨R.GAUGE_Z_ACTIVE, 24, .ro⟩,
   ⟨R.GAUGE_SOH_HELD, 24, .ro⟩,
   ⟨R.GAUGE_Z_DATA, 32, .ro⟩]

/-- Registers of BMK (part). -/
def rowsBmk0 : List Row :=
  [⟨R.BMK_EN, 1, .rw⟩,
   ⟨R.BMK_PUB_MS, 1, .rw⟩,
   ⟨R.BMK_FILL_WIN, 1, .rw⟩,
   ⟨R.BMK_EXTRAP_DERATE, 1, .rw⟩,
   ⟨R.BMK_UNC0_G, 1, .rw⟩,
   ⟨R.BMK_UNC0_O, 1, .rw⟩,
   ⟨R.BMK_AGE_G, 1, .rw⟩,
   ⟨R.BMK_AGE_O, 1, .rw⟩,
   ⟨R.BMK_UNC_MAX_G, 1, .rw⟩,
   ⟨R.BMK_UNC_MAX_O, 1, .rw⟩,
   ⟨R.BMK_PORT, 1, .rw⟩,
   ⟨R.BMK_CH, 1, .rw⟩,
   ⟨R.BMK_CNT, 4, .ro⟩,
   ⟨R.BMK_DEN, 8, .rw⟩,
   ⟨R.BMK_ZEN, 8, .rw⟩,
   ⟨R.BMK_CHIP, 8, .rw⟩,
   ⟨R.BMK_WIN_MS, 8, .rw⟩,
   ⟨R.BMK_REF_I_PORT, 8, .rw⟩,
   ⟨R.BMK_REF_I_CH, 8, .rw⟩,
   ⟨R.BMK_REF_V_PORT, 8, .rw⟩]

/-- Registers of BMK (part). -/
def rowsBmk1 : List Row :=
  [⟨R.BMK_REF_V_CH, 8, .rw⟩,
   ⟨R.BMK_DITHER_AMP, 8, .rw⟩,
   ⟨R.BMK_SPAN_MIN, 8, .rw⟩,
   ⟨R.BMK_IZ_MIN, 8, .rw⟩,
   ⟨R.BMK_DITHERING, 8, .ro⟩,
   ⟨R.BMK_SUSPENDED, 8, .ro⟩,
   ⟨R.BMK_Z_STALE, 8, .ro⟩,
   ⟨R.BMK_NO_REF_I, 8, .ro⟩,
   ⟨R.BMK_ZSTRING, 8, .ro⟩,
   ⟨R.BMK_ZFREQ, 8, .ro⟩,
   ⟨R.BMK_MEMBERS, 8, .ro⟩,
   ⟨R.BMK_Z_RES_HZ, 8, .ro⟩,
   ⟨R.BMK_Z_PK, 8, .ro⟩,
   ⟨R.BMK_Z_Q, 8, .ro⟩,
   ⟨R.BMK_GAIN, 32, .ro⟩,
   ⟨R.BMK_OFFSET, 32, .ro⟩,
   ⟨R.BMK_UNC_G, 32, .ro⟩,
   ⟨R.BMK_WINS, 32, .ro⟩,
   ⟨R.BMK_FILLED, 32, .ro⟩,
   ⟨R.BMK_AGE_MIN, 32, .ro⟩]

/-- Registers of TWIN (part). -/
def rowsTwin0 : List Row :=
  [⟨R.TWIN_TRAVERSE, 1, .wo⟩,
   ⟨R.TWIN_REJOIN, 1, .wo⟩,
   ⟨R.TWIN_TRAV_PERIOD_S, 1, .rw⟩,
   ⟨R.TWIN_TAKEOVER_US, 1, .rw⟩,
   ⟨R.TWIN_CHAIN_TIMEOUT_US, 1, .rw⟩,
   ⟨R.TWIN_TRAV_SPAN_S, 1, .rw⟩,
   ⟨R.TWIN_TRAV_SVC_H, 1, .rw⟩,
   ⟨R.TWIN_SELFTEST_MS, 1, .rw⟩,
   ⟨R.TWIN_STATE, 1, .ro⟩,
   ⟨R.TWIN_ROLE, 1, .ro⟩,
   ⟨R.TWIN_JOIN_PHASE, 1, .ro⟩,
   ⟨R.TWIN_RESOLVING, 1, .ro⟩,
   ⟨R.TWIN_RECOVERING, 1, .ro⟩,
   ⟨R.TWIN_DEBUG_HOLD, 1, .ro⟩,
   ⟨R.TWIN_PEER_DEBUG_HOLD, 1, .ro⟩,
   ⟨R.TWIN_CH0_UP, 1, .ro⟩,
   ⟨R.TWIN_CH1_UP, 1, .ro⟩,
   ⟨R.TWIN_FLT_IN_OK, 1, .ro⟩,
   ⟨R.TWIN_JOIN_FAIL, 1, .ro⟩,
   ⟨R.TWIN_FENCE_CAUSE, 1, .ro⟩]

/-- Registers of TWIN (part). -/
def rowsTwin1 : List Row :=
  [⟨R.TWIN_TIME_ERR, 1, .ro⟩,
   ⟨R.TWIN_ENG_UP, 1, .ro⟩,
   ⟨R.TWIN_PORTS_READY, 1, .ro⟩,
   ⟨R.TWIN_MAX_SEV, 1, .ro⟩,
   ⟨R.TWIN_C_PAUSED, 1, .ro⟩,
   ⟨R.TWIN_C_SHED, 1, .ro⟩,
   ⟨R.TWIN_SELFTEST_FAIL, 1, .ro⟩,
   ⟨R.TWIN_PEER_HEALTH, 1, .ro⟩,
   ⟨R.TWIN_CNT, 8, .ro⟩,
   ⟨R.TWIN_LAST_MISMATCH_LO, 1, .ro⟩,
   ⟨R.TWIN_LAST_MISMATCH_HI, 1, .ro⟩]

/-- Registers of FAB (part). -/
def rowsFab0 : List Row :=
  [⟨R.FAB_EN, 1, .rw⟩,
   ⟨R.FAB_GRID, 1, .rw⟩,
   ⟨R.FAB_DOMAIN, 1, .rw⟩,
   ⟨R.FAB_GM_CAND, 1, .rw⟩,
   ⟨R.FAB_FEC_A, 1, .rw⟩,
   ⟨R.FAB_FEC_B, 1, .rw⟩,
   ⟨R.FAB_MEDIA, 1, .rw⟩,
   ⟨R.FAB_PRIO1, 1, .rw⟩,
   ⟨R.FAB_QUIET_A, 1, .wo⟩,
   ⟨R.FAB_QUIET_B, 1, .wo⟩,
   ⟨R.FAB_WAKE, 1, .wo⟩,
   ⟨R.FAB_SHARE_TX, 1, .rw⟩,
   ⟨R.FAB_PLANE_A, 1, .ro⟩,
   ⟨R.FAB_PLANE_B, 1, .ro⟩,
   ⟨R.FAB_ALONE, 1, .ro⟩,
   ⟨R.FAB_GM, 1, .ro⟩,
   ⟨R.FAB_SYNCED, 1, .ro⟩,
   ⟨R.FAB_DIAMETER, 1, .ro⟩,
   ⟨R.FAB_NODES, 1, .ro⟩,
   ⟨R.FAB_PORT_STATUS, 1, .ro⟩]

/-- Registers of FAB (part). -/
def rowsFab1 : List Row :=
  [⟨R.FAB_INCARN, 1, .ro⟩,
   ⟨R.FAB_TIME_ERR, 1, .ro⟩,
   ⟨R.FAB_DATUM_OFS_LO, 1, .ro⟩,
   ⟨R.FAB_DATUM_OFS_HI, 1, .ro⟩,
   ⟨R.FAB_BUDGET_SRC, 1, .ro⟩,
   ⟨R.FAB_BUDGET_GEN, 1, .ro⟩,
   ⟨R.FAB_CNT, 10, .ro⟩,
   ⟨R.FAB_SESS_KEY0, 8, .wo⟩,
   ⟨R.FAB_SESS_KEY1, 8, .wo⟩,
   ⟨R.FAB_SESS_KEY2, 8, .wo⟩,
   ⟨R.FAB_SESS_KEY3, 8, .wo⟩,
   ⟨R.FAB_SESS_KEY4, 8, .wo⟩,
   ⟨R.FAB_SESS_KEY5, 8, .wo⟩,
   ⟨R.FAB_SESS_KEY6, 8, .wo⟩,
   ⟨R.FAB_SESS_KEY7, 8, .wo⟩]

/-- Registers of PART (part). -/
def rowsPart0 : List Row :=
  [⟨R.PART_VIOL_ADDR, 1, .ro⟩,
   ⟨R.PART_PART, 1, .ro⟩,
   ⟨R.PART_WRITE, 1, .ro⟩,
   ⟨R.PART_PATH, 1, .ro⟩,
   ⟨R.PART_CNT_VIOLATION, 1, .ro⟩,
   ⟨R.PART_WIN_EN, 8, .rw⟩,
   ⟨R.PART_SESS_EN, 8, .rw⟩,
   ⟨R.PART_QUIESCE, 8, .rw⟩,
   ⟨R.PART_FBK_QUOTA, 8, .rw⟩,
   ⟨R.PART_PORTS, 8, .ro⟩,
   ⟨R.PART_ENGINES, 8, .ro⟩,
   ⟨R.PART_CNT_VIOL, 8, .ro⟩]

/-- Registers of ARB (part). -/
def rowsArb0 : List Row :=
  [⟨R.ARB_MAX_HOLD, 1, .rw⟩,
   ⟨R.ARB_STARVE_LIMIT, 1, .rw⟩,
   ⟨R.ARB_STARVE, 1, .ro⟩,
   ⟨R.ARB_OVERHOLD, 1, .ro⟩,
   ⟨R.ARB_CNT, 4, .ro⟩,
   ⟨R.ARB_WEIGHT, 24, .rw⟩,
   ⟨R.ARB_CREDIT, 8, .rw⟩,
   ⟨R.ARB_USED, 8, .ro⟩,
   ⟨R.ARB_MAX_WAIT, 8, .rc⟩,
   ⟨R.ARB_CNT_REVOKED, 8, .ro⟩]

/-- Registers of FCU (part). -/
def rowsFcu0 : List Row :=
  [⟨R.FCU_MAX_SEV, 1, .ro⟩,
   ⟨R.FCU_FLT_OUT, 1, .ro⟩,
   ⟨R.FCU_FLT_IN, 1, .ro⟩,
   ⟨R.FCU_LAST_SRC, 1, .ro⟩,
   ⟨R.FCU_LAST_INST, 1, .ro⟩,
   ⟨R.FCU_LAST_SEV, 1, .ro⟩,
   ⟨R.FCU_S3_HOLD, 1, .rw⟩,
   ⟨R.FCU_RESET_DELAY_MS, 1, .rw⟩,
   ⟨R.FCU_CNT_RAISE, 1, .ro⟩,
   ⟨R.FCU_CNT_WIRE, 1, .ro⟩,
   ⟨R.FCU_SEV, 256, .rw⟩,
   ⟨R.FCU_LOCKED, 256, .ro⟩,
   ⟨R.FCU_OUTSTANDING, 8, .w1c⟩]

/-- Registers of THM (part). -/
def rowsThm0 : List Row :=
  [⟨R.THM_ONSET, 1, .rw⟩,
   ⟨R.THM_STEP, 1, .ro⟩,
   ⟨R.THM_SHUTDOWN_LOCK, 1, .ro⟩,
   ⟨R.THM_HOT_SENSOR, 1, .ro⟩,
   ⟨R.THM_T_MAX, 1, .ro⟩,
   ⟨R.THM_SS_PLAUS_LO, 1, .rw⟩,
   ⟨R.THM_SS_PLAUS_HI, 1, .rw⟩,
   ⟨R.THM_CNT_SHUTDOWN, 1, .ro⟩,
   ⟨R.THM_T, 64, .ro⟩,
   ⟨R.THM_FAILED, 64, .ro⟩,
   ⟨R.THM_SS_FAILED, 12, .ro⟩]

/-- Registers of FBK (part). -/
def rowsFbk0 : List Row :=
  [⟨R.FBK_HEAD_SEQ, 1, .ro⟩,
   ⟨R.FBK_HELD, 1, .ro⟩,
   ⟨R.FBK_DROPPED, 1, .ro⟩,
   ⟨R.FBK_ACK_SEQ, 1, .rw⟩,
   ⟨R.FBK_WMARK, 1, .rw⟩,
   ⟨R.FBK_ERASE, 1, .wo⟩,
   ⟨R.FBK_QUEUE, 1, .ro⟩,
   ⟨R.FBK_CNT_TORN, 1, .ro⟩,
   ⟨R.FBK_FR_CURSOR, 1, .rw⟩,
   ⟨R.FBK_FR_HELD, 1, .ro⟩,
   ⟨R.FBK_FR_DROPPED, 1, .ro⟩,
   ⟨R.FBK_FR_OVERWRITTEN, 1, .ro⟩,
   ⟨R.FBK_FR_DATA, 16, .ro⟩]

/-- Registers of WCAP (part). -/
def rowsWcap0 : List Row :=
  [⟨R.WCAP_CNT_GAP, 1, .ro⟩,
   ⟨R.WCAP_CNT_RETRIG, 1, .ro⟩,
   ⟨R.WCAP_BASE, 8, .rw⟩,
   ⟨R.WCAP_SIZE, 8, .rw⟩,
   ⟨R.WCAP_DECIM, 8, .rw⟩,
   ⟨R.WCAP_FLUSH_EN, 8, .rw⟩,
   ⟨R.WCAP_PRE, 8, .rw⟩,
   ⟨R.WCAP_LEN, 8, .rw⟩,
   ⟨R.WCAP_TRIG_SRC, 8, .rw⟩,
   ⟨R.WCAP_ARG0, 8, .rw⟩,
   ⟨R.WCAP_ARG1, 8, .rw⟩,
   ⟨R.WCAP_CH_SEL0, 8, .rw⟩,
   ⟨R.WCAP_CH_SEL1, 8, .rw⟩,
   ⟨R.WCAP_CH_SEL2, 8, .rw⟩,
   ⟨R.WCAP_CH_SEL3, 8, .rw⟩,
   ⟨R.WCAP_ARM, 8, .wo⟩,
   ⟨R.WCAP_TRIGGER, 8, .wo⟩,
   ⟨R.WCAP_ABORT, 8, .wo⟩,
   ⟨R.WCAP_STATE, 8, .ro⟩,
   ⟨R.WCAP_PRE_SHORT, 8, .ro⟩]

/-- Registers of WCAP (part). -/
def rowsWcap1 : List Row :=
  [⟨R.WCAP_GAP, 8, .ro⟩,
   ⟨R.WCAP_TRIG_TICK_LO, 8, .ro⟩,
   ⟨R.WCAP_TRIG_TICK_HI, 8, .ro⟩,
   ⟨R.WCAP_PRE_GOT, 8, .ro⟩,
   ⟨R.WCAP_FIRST, 8, .ro⟩]

/-- Registers of HOST (part). -/
def rowsHost0 : List Row :=
  [⟨R.HOST_LINK_UP, 1, .ro⟩,
   ⟨R.HOST_WIDTH, 1, .ro⟩,
   ⟨R.HOST_SPEED, 1, .ro⟩,
   ⟨R.HOST_BME, 1, .ro⟩,
   ⟨R.HOST_D3, 1, .ro⟩,
   ⟨R.HOST_CNT_PARTIAL, 1, .ro⟩,
   ⟨R.HOST_CNT_AER, 1, .ro⟩,
   ⟨R.HOST_PEND_CE, 4, .ro⟩,
   ⟨R.HOST_PEND_SP, 6, .ro⟩,
   ⟨R.HOST_SRC, 4, .rw⟩,
   ⟨R.HOST_DST_LO, 4, .rw⟩,
   ⟨R.HOST_DST_HI, 4, .rw⟩,
   ⟨R.HOST_LEN, 4, .rw⟩,
   ⟨R.HOST_START, 4, .wo⟩,
   ⟨R.HOST_KIND, 4, .rw⟩,
   ⟨R.HOST_STATE, 4, .ro⟩,
   ⟨R.HOST_ERR, 4, .ro⟩,
   ⟨R.HOST_DONE_BYTES, 4, .ro⟩]

/-- Registers of IIC (part). -/
def rowsIic0 : List Row :=
  [⟨R.IIC_ADDR, 1, .rw⟩,
   ⟨R.IIC_TGT_PEC_EN, 1, .rw⟩,
   ⟨R.IIC_CNT, 3, .ro⟩,
   ⟨R.IIC_FREQ, 1, .rw⟩,
   ⟨R.IIC_RETRY, 1, .rw⟩,
   ⟨R.IIC_PEC_EN, 1, .rw⟩,
   ⟨R.IIC_TADDR, 1, .rw⟩,
   ⟨R.IIC_WR_LEN, 1, .rw⟩,
   ⟨R.IIC_RD_LEN, 1, .rw⟩,
   ⟨R.IIC_START, 1, .wo⟩,
   ⟨R.IIC_BUSY, 1, .ro⟩,
   ⟨R.IIC_ERR, 1, .ro⟩,
   ⟨R.IIC_TRIES, 1, .ro⟩,
   ⟨R.IIC_TX, 8, .rw⟩,
   ⟨R.IIC_RX, 8, .ro⟩]

/-- Registers of FWU (part). -/
def rowsFwu0 : List Row :=
  [⟨R.FWU_OP, 1, .ro⟩,
   ⟨R.FWU_RESULT, 1, .ro⟩,
   ⟨R.FWU_PENDING, 1, .ro⟩,
   ⟨R.FWU_REJECTED, 1, .ro⟩,
   ⟨R.FWU_ACTIVE_BAD, 1, .ro⟩,
   ⟨R.FWU_LAWS_SWAPPED, 1, .ro⟩,
   ⟨R.FWU_PAUSE_MS, 1, .ro⟩,
   ⟨R.FWU_RUN_VER, 4, .ro⟩,
   ⟨R.FWU_ACTIVE_VER, 4, .ro⟩,
   ⟨R.FWU_STAGED_VER, 4, .ro⟩,
   ⟨R.FWU_GOLDEN_VER, 4, .ro⟩]

/-- Registers of SEC (part). -/
def rowsSec0 : List Row :=
  [⟨R.SEC_DEVICE_ID_LO, 1, .ro⟩,
   ⟨R.SEC_DEVICE_ID_HI, 1, .ro⟩,
   ⟨R.SEC_SVN_FUSED, 1, .ro⟩,
   ⟨R.SEC_SIGNER_REVOKED, 1, .ro⟩,
   ⟨R.SEC_JTAG_LOCKED, 1, .ro⟩,
   ⟨R.SEC_DEBUG_UNLOCKED, 1, .ro⟩,
   ⟨R.SEC_CNT_GLITCH, 1, .ro⟩,
   ⟨R.SEC_CNT_VERIFY_FAIL, 1, .ro⟩]

/-- Registers of PMC (part). -/
def rowsPmc0 : List Row :=
  [⟨R.PMC_SNAP, 1, .wo⟩,
   ⟨R.PMC_BUSY, 1, .ro⟩,
   ⟨R.PMC_SNAP_TICK_LO, 1, .rw⟩,
   ⟨R.PMC_SNAP_TICK_HI, 1, .rw⟩,
   ⟨R.PMC_SNAP_DATUM_LO, 1, .ro⟩,
   ⟨R.PMC_SNAP_DATUM_HI, 1, .ro⟩,
   ⟨R.PMC_SNAP_PAGE, 1, .rw⟩,
   ⟨R.PMC_CNT_SNAP, 1, .ro⟩,
   ⟨R.PMC_SNAP_CNT, 4, .ro⟩,
   ⟨R.PMC_SNAP_SEL, 4, .ro⟩]

/-- Registers of PLUMB (part). -/
def rowsPlumb0 : List Row :=
  [⟨R.PLUMB_MAIN_UP, 1, .ro⟩,
   ⟨R.PLUMB_HIBERNATING, 1, .ro⟩,
   ⟨R.PLUMB_XTAL_RUN, 1, .ro⟩,
   ⟨R.PLUMB_TRIM_SRC, 1, .ro⟩,
   ⟨R.PLUMB_RC_ERR_PPB, 1, .ro⟩,
   ⟨R.PLUMB_VAON_MV, 1, .ro⟩,
   ⟨R.PLUMB_ADC_MV, 4, .ro⟩,
   ⟨R.PLUMB_CNT_BROWNOUT, 1, .ro⟩]

/-- Registers of XSPI (part). -/
def rowsXspi0 : List Row :=
  [⟨R.XSPI_READY, 1, .ro⟩,
   ⟨R.XSPI_DTR, 1, .ro⟩,
   ⟨R.XSPI_BUSY, 1, .ro⟩,
   ⟨R.XSPI_FREQ_MHZ, 1, .ro⟩,
   ⟨R.XSPI_SIZE_MIB, 1, .ro⟩,
   ⟨R.XSPI_ARCH_HEAD, 1, .ro⟩,
   ⟨R.XSPI_ARCH_TAIL, 1, .ro⟩,
   ⟨R.XSPI_ARCH_COUNT, 1, .ro⟩,
   ⟨R.XSPI_CNT_PROG_ERR, 1, .ro⟩]

/-- Registers of NEG (part). -/
def rowsNeg0 : List Row :=
  [⟨R.NEG_RUNNING, 1, .ro⟩,
   ⟨R.NEG_PAUSED, 1, .ro⟩,
   ⟨R.NEG_SERVING, 1, .ro⟩,
   ⟨R.NEG_CONTRACTS, 1, .ro⟩,
   ⟨R.NEG_CNT, 4, .ro⟩]

/-- The registers of a kind of page at offsets from 0x100. -/
def PageKind.rows : PageKind → List Row
  | .sys => rowsSys0
  | .plumb => rowsPlumb0
  | .seq => rowsSeq0
  | .thm => rowsThm0
  | .fcu => rowsFcu0
  | .fbk => rowsFbk0
  | .wcap => rowsWcap0 ++ rowsWcap1
  | .datum => rowsDatum0
  | .sec => rowsSec0
  | .fwu => rowsFwu0
  | .arb => rowsArb0
  | .pmc => rowsPmc0
  | .part => rowsPart0
  | .twin => rowsTwin0 ++ rowsTwin1
  | .fab => rowsFab0 ++ rowsFab1
  | .iic0 => rowsIic0
  | .iic1 => rowsIic0
  | .iic2 => rowsIic0
  | .xspi => rowsXspi0
  | .host => rowsHost0
  | .neg => rowsNeg0
  | .gauge => rowsGauge0 ++ rowsGauge1
  | .bmk => rowsBmk0 ++ rowsBmk1
  | .crown => rowsCrown0 ++ rowsCrown1
  | .hold => rowsHold0 ++ rowsHold1
  | .felt => rowsFelt0 ++ rowsFelt1
  | .clu => rowsClu0
  | .ce => rowsCe0
  | .spg => []
  | .sp => rowsSp0 ++ rowsSp1 ++ rowsSp2 ++ rowsSp3 ++ rowsSp4

/-- The first address of page `n` of a kind (R516, R524). -/
def pageBase : PageKind → Nat → Nat
  | .sys, _ => 0x0 | .plumb, _ => 0x1000 | .seq, _ => 0x2000 | .thm, _ => 0x3000 | .fcu, _ => 0x4000
  | .fbk, _ => 0x5000 | .wcap, _ => 0x6000 | .datum, _ => 0x7000 | .sec, _ => 0x8000 | .fwu, _ => 0x9000
  | .arb, _ => 0xA000 | .pmc, _ => 0xB000 | .part, _ => 0xC000 | .twin, _ => 0xD000 | .fab, _ => 0xE000
  | .iic0, _ => 0xF000 | .iic1, _ => 0x10000 | .iic2, _ => 0x11000 | .xspi, _ => 0x12000 | .host, _ => 0x13000
  | .neg, _ => 0x14000 | .gauge, _ => 0x15000 | .bmk, _ => 0x16000 | .crown, _ => 0x17000 | .hold, _ => 0x18000
  | .felt, _ => 0x19000
  | .clu, n => 0x20000 + 0x1000 * n
  | .ce, n => 0x30000 + 0x1000 * n
  | .spg, n => 0x100000 + 0x1000 * n
  | .sp, n => 0x200000 + 0x1000 * n

/-- The single pages, in the order of their bases (R524). -/
def singlePages : List PageKind :=
  [.sys, .plumb, .seq, .thm, .fcu, .fbk, .wcap, .datum, .sec, .fwu, .arb, .pmc, .part, .twin, .fab, .iic0, .iic1, .iic2,
   .xspi, .host, .neg, .gauge, .bmk, .crown, .hold, .felt]

/-- The page that holds an address, and its number (R516). -/
def pageOf (a : Nat) : Option (PageKind × Nat) :=
  let n := a / 0x1000
  if n < 26 then (singlePages[n]?).map (fun k => (k, 0))
  else if 0x20 ≤ n ∧ n < 0x30 then some (.clu, n - 0x20)
  else if 0x30 ≤ n ∧ n < 0xB0 then some (.ce, n - 0x30)
  else if 0x100 ≤ n ∧ n < 0x10C then some (.spg, n - 0x100)
  else if 0x200 ≤ n ∧ n < 0x2C0 then some (.sp, n - 0x200)
  else none

/-- BLOCK_TYPE of a kind of page (R524). -/
def PageKind.blockType : PageKind → Nat
  | .sys => 1 | .plumb => 2 | .seq => 3 | .thm => 4 | .fcu => 5 | .fbk => 6 | .wcap => 7 | .datum => 8 | .sec => 9
  | .fwu => 0xA | .arb => 0xB | .pmc => 0xC | .part => 0xD | .twin => 0xE | .fab => 0xF
  | .iic0 => 0x10 | .iic1 => 0x10 | .iic2 => 0x10 | .xspi => 0x11 | .host => 0x12 | .neg => 0x13 | .gauge => 0x14
  | .bmk => 0x15 | .crown => 0x16 | .hold => 0x17 | .felt => 0x18 | .clu => 0x20 | .ce => 0x21 | .spg => 0x22 | .sp => 0x23

/-- INSTANCE of a page (R520). -/
def PageKind.inst (k : PageKind) (n : Nat) : Nat :=
  match k with
  | .iic1 => 1 | .iic2 => 2
  | .clu | .ce | .spg | .sp => n
  | .sys | .plumb | .seq | .thm | .fcu | .fbk | .wcap | .datum | .sec | .fwu | .arb | .pmc | .part | .twin | .fab
  | .iic0 | .xspi | .host | .neg | .gauge | .bmk | .crown | .hold | .felt => 0

/-- PG_CAPS.PMC: the page has counters (R524). -/
def PageKind.hasPmc : PageKind → Bool
  | .fbk | .arb | .fab | .xspi | .host | .clu | .ce | .spg | .sp => true
  | .sys | .plumb | .seq | .thm | .fcu | .wcap | .datum | .sec | .fwu | .pmc | .part | .twin
  | .iic0 | .iic1 | .iic2 | .neg | .gauge | .bmk | .crown | .hold | .felt => false

/-- PG_CAPS.TENANT: a tenant may own the page (R524). -/
def PageKind.tenant : PageKind → Bool
  | .ce | .sp => true
  | .sys | .plumb | .seq | .thm | .fcu | .fbk | .wcap | .datum | .sec | .fwu | .arb | .pmc | .part | .twin | .fab
  | .iic0 | .iic1 | .iic2 | .xspi | .host | .neg | .gauge | .bmk | .crown | .hold | .felt | .clu | .spg => false

/-- PG_CAPS.AON: a page of the Plumb island, which belongs to each chip alone (R339, R477). -/
def PageKind.aon : PageKind → Bool
  | .sys | .plumb | .seq | .thm | .fcu | .fbk | .iic2 => true
  | .wcap | .datum | .sec | .fwu | .arb | .pmc | .part | .twin | .fab
  | .iic0 | .iic1 | .xspi | .host | .neg | .gauge | .bmk | .crown | .hold | .felt | .clu | .ce | .spg | .sp => false

/-- Pages whose ENABLE resets to 1 (R15). -/
def PageKind.alwaysOn : PageKind → Bool
  | .sys | .plumb | .seq | .thm | .fcu => true
  | .fbk | .iic2 | .wcap | .datum | .sec | .fwu | .arb | .pmc | .part | .twin | .fab
  | .iic0 | .iic1 | .xspi | .host | .neg | .gauge | .bmk | .crown | .hold | .felt | .clu | .ce | .spg | .sp => false

/-- The map key of copy `i` of a field in the page that begins at `b`. -/
def fldKey (f : Fld) (b i : Nat) : Nat := 32 * (b + f.off + f.stride * i) + f.lo

def pgSYS : Nat := 0x0
def pgPLUMB : Nat := 0x1000
def pgSEQ : Nat := 0x2000
def pgTHM : Nat := 0x3000
def pgFCU : Nat := 0x4000
def pgFBK : Nat := 0x5000
def pgWCAP : Nat := 0x6000
def pgDATUM : Nat := 0x7000
def pgSEC : Nat := 0x8000
def pgFWU : Nat := 0x9000
def pgARB : Nat := 0xA000
def pgPMC : Nat := 0xB000
def pgPART : Nat := 0xC000
def pgTWIN : Nat := 0xD000
def pgFAB : Nat := 0xE000
def pgIIC0 : Nat := 0xF000
def pgIIC1 : Nat := 0x10000
def pgIIC2 : Nat := 0x11000
def pgXSPI : Nat := 0x12000
def pgHOST : Nat := 0x13000
def pgNEG : Nat := 0x14000
def pgGAUGE : Nat := 0x15000
def pgBMK : Nat := 0x16000
def pgCROWN : Nat := 0x17000
def pgHOLD : Nat := 0x18000
def pgFELT : Nat := 0x19000
/-- The page of cluster `n`. -/
def pgCLU (n : Nat) : Nat := 0x20000 + 0x1000 * n
/-- The page of engine `n`. -/
def pgCE (n : Nat) : Nat := 0x30000 + 0x1000 * n
/-- The page of port group `n`. -/
def pgSPG (n : Nat) : Nat := 0x100000 + 0x1000 * n
/-- The page of stage port `n`. -/
def pgSP (n : Nat) : Nat := 0x200000 + 0x1000 * n

end Sys2Proof.Machine
end

