-- ==== Sys2Proof/Machine/State.lean ====
section
/-! DEFINITION. State.lean: everything the specification gives the chip and the stage ends it drives, as plain data.

`State` has four parts. `pending` is the queue of commands, first in, first out. `mem` is descriptor memory (R185) and
`cap` the capture SRAM (R463), each a list of cells in one canonical form. `chip` is everything else: register fields,
kept by address and bit, and what the manual gives the blocks beside their registers.

Registers, ports, engines and other numbered things are kept in maps from a number to their contents, in which a number
that is not listed holds the reset contents. -/

namespace Sys2Proof.Machine


/-- One received or taken sample of a channel (R142, R143, R144). -/
structure Sample where
  /-- Raw int16 code (R142). -/
  code : BitVec 16 := 0
  /-- The code is at an overrange (R143). -/
  ovr : Bool := false
  /-- Marked SUSPECT (R144). -/
  susp : Bool := false
  /-- The sample tick, as a full tick count (R26). -/
  tick : Nat := 0
  /-- A frame that was used has supplied it (R26). -/
  valid : Bool := false
deriving DecidableEq, Repr, Inhabited

/-- A CMD frame's content (R102, R112) as sent, held pending or applied. -/
structure Cmd where
  /-- Header LEAD (R102). -/
  lead : Bool := false
  /-- Header DEGRADED (R102). -/
  degraded : Bool := false
  /-- Header EPOCH (R102). -/
  epoch : BitVec 8 := 0
  /-- Header SEQ (R102). -/
  seq : BitVec 16 := 0
  /-- APPLY_TICK (R112). -/
  applyTick : BitVec 16 := 0
  /-- PERIOD, dq (R112). -/
  period : Nat := 0
  /-- ON0 (R112). -/
  on0 : Nat := 0
  /-- OFF0 (R112). -/
  off0 : Nat := 0
  /-- ON1 (R112). -/
  on1 : Nat := 0
  /-- OFF1 (R112). -/
  off1 : Nat := 0
  /-- MODE (R113). -/
  mode : Nat := 0
  /-- ENV_IDX (R112). -/
  envIdx : Nat := 0
  /-- EWARN (R112). -/
  ewarn : Bool := false
deriving DecidableEq, Repr, Inhabited

/-- A stage-end receiver of one link (R100). -/
structure LinkRx where
  /-- It has alignment (R100). -/
  aligned : Bool := false
  /-- Frame slots in a row without a delimiter or with a code violation, up to 4 (R100). -/
  bad : Nat := 0
  /-- A frame has come in the present tick (R99). -/
  got : Bool := false
  /-- Frames in a row that passed their CRC, up to 64 (R100). -/
  good : Nat := 0
  /-- The link is UP (R100). -/
  up : Bool := false
  /-- Time of the last frame that passed its CRC (R100). -/
  last : Nat := 0
deriving DecidableEq, Repr, Inhabited

/-- The edges of a switching period, dq from its start (R112). -/
structure Edges where
  /-- On edge of pair 0 (R112). -/
  on0 : Nat := 0
  /-- Off edge of pair 0 (R112). -/
  off0 : Nat := 0
  /-- On edge of pair 1 (R112). -/
  on1 : Nat := 0
  /-- Off edge of pair 1 (R112). -/
  off1 : Nat := 0
deriving DecidableEq, Repr, Inhabited

/-- A FENCE frame that a stage end has checked in the present tick (R121, R122). -/
structure FenceRx where
  /-- The link that carried it (R122). -/
  link : Link := .a
  /-- Header EPOCH (R102). -/
  epoch : Nat := 0
  /-- OP (R121). -/
  op : Nat := 0
  /-- NEW_EPOCH (R121). -/
  newEpoch : Nat := 0
deriving DecidableEq, Repr, Inhabited

/-- A CFG or SIDE_DN request of a port, waiting for its response (R127, R129, R130). -/
structure CfgReq where
  /-- OP; 14 stands for a SIDE_DN fragment (R127). -/
  op : Nat := 0
  /-- TAG (R127). -/
  tag : Nat := 0
  /-- ADDR (R127). -/
  addr : Nat := 0
  /-- COUNT (R127). -/
  count : Nat := 0
  /-- DATA0 (R127). -/
  d0 : Word := 0
  /-- DATA1 (R127). -/
  d1 : Word := 0
  /-- SIDE_DN fragment: its LEN, MORE and MSG_REF bytes and its data (R130). -/
  side : Bytes := []
  /-- Full tick of the response (R127). -/
  rspTick : Nat := 0
  /-- Repeats sent (R129). -/
  tries : Nat := 0
  /-- It waits for a free slot of its link (R111). -/
  wait : Bool := false
deriving DecidableEq, Repr, Inhabited

/-- What a telemetry window has summed so far (R224, R234). -/
structure TlmSum where
  /-- Sum of voltages (R224). -/
  v : F32 := 0
  /-- Sum of currents (R224). -/
  i : F32 := 0
  /-- Sum of products (R224). -/
  p : F32 := 0
  /-- Samples summed (R224). -/
  n : Nat := 0
  /-- Sum of input voltages (R234). -/
  vin : F32 := 0
  /-- Their number (R234). -/
  vinN : Nat := 0
  /-- Sum of law outputs (R234). -/
  u : F32 := 0
  /-- Their number (R234). -/
  uN : Nat := 0
deriving DecidableEq, Repr, Inhabited

/-- The GT9192's side of a stage port: link receiver, discovery, requests, epoch, commands (chapter 04), and the hardware that follows its samples (chapter 08). -/
structure PortSt where
  /-- The receiver has alignment (R100). -/
  aligned : Bool := false
  /-- Inverted polarity is being corrected (R98). -/
  inverted : Bool := false
  /-- Frame slots in a row without a delimiter or with a code violation, up to 4 (R100). -/
  badSlots : Nat := 0
  /-- A frame has come in the present tick (R99). -/
  got : Bool := false
  /-- A frame has been sent in the present tick (R99). -/
  slotUsed : Bool := false
  /-- Consecutive good frames, up to 64 (R100). -/
  goodRun : Nat := 0
  /-- The link is UP (R100). -/
  linkUp : Bool := false
  /-- It has been UP since the page was enabled (R139). -/
  everUp : Bool := false
  /-- Time of the last good frame (R100). -/
  lastGood : Nat := 0
  /-- SEQ of the last good frame (R138). -/
  prevSeq : Option (BitVec 16) := none
  /-- Times of the last four CRC failures (R139). -/
  crcTimes : List Nat := []
  /-- Failed discovery attempts (R134). -/
  attempts : Nat := 0
  /-- Requests still to be sent (R133). -/
  cfgQ : List CfgReq := []
  /-- The request in flight (R129). -/
  req : Option CfgReq := none
  /-- Next TAG (R127). -/
  nextTag : Nat := 0
  /-- The ANNOUNCE held (R135). -/
  announce : Option SeIdent := none
  /-- What the LEAD has from it, in a join (R357). -/
  leadIdent : List Word := []
  /-- CONFIG is complete (R133). -/
  cfgDone : Bool := false
  /-- Discovery resumed at TIMING with the stage end's epoch held (R135). -/
  resume : Bool := false
  /-- Consecutive offsets within 16 dq (R133). -/
  echoOk : Nat := 0
  /-- The last eight measured delays (R119). -/
  delays : List Int := []
  /-- Echo requests without their echo: response tick, T1 (R118). -/
  syncT1 : List (Nat × Nat) := []
  /-- This twin's epoch of the port (R352). -/
  epoch : BitVec 8 := 0
  /-- NEW_EPOCH of a FENCE being sent (R124). -/
  fencing : Option (BitVec 8) := none
  /-- An ADMIT is being sent (R124). -/
  admitting : Bool := false
  /-- Slot phase of the command slots (R111). -/
  slotPhase : Nat := 0
  /-- The last command sent (R148). -/
  cmd : Cmd := default
  /-- A new command waiting for its slot (R111). -/
  cmdNew : Option Cmd := none
  /-- Tick in which it was computed (R111). -/
  cmdTick : Nat := 0
  /-- Full apply tick of the last CMD sent (R124). -/
  lastApply : Nat := 0
  /-- Sample ticks whose frames the twin supplied, not the port's own link (R342). -/
  supplied : List Nat := []
  /-- A DOUBLE_FAULT record of this stage end stands for the present recovery window (R356). -/
  doubleRec : Bool := false
  /-- MODE of the command before the last, in effect until that tick (R314). -/
  modePrev : Nat := 0
  /-- Apply tick since which every command sent has had MODE STOP (R321). -/
  stopSince : Option Nat := none
  /-- A CMD has been sent since the port was placed (R148). -/
  sentCmd : Bool := false
  /-- The port is delegated to the FOLLOW (R353). -/
  delegated : Bool := false
  /-- EPOCH_VALID last reported (R108). -/
  epochValid : Bool := false
  /-- The stage end sends SAMPLE frames (R107). -/
  sampled : Bool := false
  /-- FAST_TRIP last reported (R108). -/
  fastTrip : Bool := false
  /-- CROWBAR last reported (R108). -/
  crowbar : Bool := false
  /-- ENV_CLIP last reported (R108). -/
  envClip : Bool := false
  /-- MOISTURE last reported (R108). -/
  moisture : Bool := false
  /-- LOCAL_FAULT last reported (R108). -/
  localFault : Bool := false
  /-- SIDE_PENDING last reported (R108). -/
  sidePending : Bool := false
  /-- Latest sample of channel 0 (R108). -/
  smp0 : Sample := default
  /-- Latest sample of channel 1 (R108). -/
  smp1 : Sample := default
  /-- Latest sample of channel 2 (R108). -/
  smp2 : Sample := default
  /-- Latest sample of channel 3 (R108). -/
  smp3 : Sample := default
  /-- SAMPLE bodies received in the last 512 ticks, as in the sample rings of its engines (R163). -/
  hist : List (Nat × Bytes) := []
  /-- Sample tick asked of the twin (R31). -/
  eqWait : Option Nat := none
  /-- The frame of the present sample tick is missing (R31). -/
  missing : Bool := false
  /-- The latest overrange code was 0x7FFF (R210). -/
  ovrHigh : Bool := false
  /-- TEMP0 item (R109). -/
  temp0 : BitVec 20 := 0x80000
  /-- TEMP1 item (R109). -/
  temp1 : BitVec 20 := 0x80000
  /-- Time at which TEMP0 last changed (R439). -/
  t0Since : Nat := 0
  /-- Time at which TEMP1 last changed (R439). -/
  t1Since : Nat := 0
  /-- Since when TEMP0 has been in range (R439). -/
  t0Good : Nat := 0
  /-- Since when TEMP1 has been in range (R439). -/
  t1Good : Nat := 0
  /-- Lowest TEMP1 since TEMP0 last changed (R439). -/
  t0Lo : Int := 0
  /-- Highest TEMP1 since TEMP0 last changed (R439). -/
  t0Hi : Int := 0
  /-- Lowest TEMP0 since TEMP1 last changed (R439). -/
  t1Lo : Int := 0
  /-- Highest TEMP0 since TEMP1 last changed (R439). -/
  t1Hi : Int := 0
  /-- A current has been seen since the stage's one item last changed (R439). -/
  iSeen : Bool := false
  /-- Lowest such current (R439). -/
  iLo : F32 := 0
  /-- Highest such current (R439). -/
  iHi : F32 := 0
  /-- Addresses of the envelope writes answered OK since they were last changed, two for each set (R160). -/
  envOk : List Nat := []
  /-- An SE_CLEAR waits for a STOP command to be applied (R222). -/
  clearReq : Bool := false
  /-- Sums of telemetry windows that have not ended, by the sample tick at which the window begins (R224, R234). -/
  tlm : List (Nat × TlmSum) := []
  /-- Mean input voltage of the last window (R234). -/
  vinMean : Option F32 := none
  /-- Mean law output of the last window (R234). -/
  uMean : Option F32 := none
  /-- Descriptor of the law last bound to the port, whose telemetry continues (R226). -/
  tlmDesc : Bytes := []
  /-- Carrier offset of the slew, r (R237). -/
  phiR : F32 := 0
  /-- Its rate (R237). -/
  phiV : F32 := 0
  /-- Its acceleration (R237). -/
  phiA : F32 := 0
  /-- |delta| / max |delta| of the slew (R237). -/
  phiScale : F32 := 0
  /-- The port's offset is moving (R237). -/
  moving : Bool := false
  /-- SIDE_UP message being assembled (R131). -/
  sideMsg : Bytes := []
  /-- MSG_REF of the message being assembled (R131). -/
  prevSide : Nat := 0
deriving DecidableEq, Repr, Inhabited

/-- A response a stage end will send at its response tick (R107). -/
structure SeRsp where
  /-- The link that carried the request (R107). -/
  link : Link := .a
  /-- Response tick (R116). -/
  tick : Nat := 0
  /-- Upstream TYPE (R106). -/
  typ : Nat := 3
  /-- The 16 body bytes (R128). -/
  body : Bytes := []
deriving DecidableEq, Repr, Inhabited

/-- A stage end on a port (chapters 04 and 05). -/
structure StageEnd where
  /-- What it announces (R132). -/
  ident : SeIdent := ⟨0, 0, 0, 0, 0, 0, 1, 0⟩
  /-- It has power (R123). -/
  powered : Bool := false
  /-- EPOCH_VALID (R122). -/
  epochValid : Bool := false
  /-- E (R122). -/
  epoch : BitVec 8 := 0
  /-- The A-link is admitted (R122). -/
  admitA : Bool := false
  /-- The B-link is admitted (R122). -/
  admitB : Bool := false
  /-- 0 OFF, 1 RUN, 2 HOLD, 3 SAFE (R145). -/
  state : Nat := 0
  /-- Ticks since the last applied command (R145). -/
  miss : Nat := 0
  /-- The last applied command, after the clip (R146). -/
  cmd : Cmd := default
  /-- Last_len of pair 0 (R150). -/
  len0 : Nat := 0
  /-- Last_len of pair 1 (R150). -/
  len1 : Nat := 0
  /-- The carrier runs (R115). -/
  carrier : Bool := false
  /-- Local Datum at which the running switching period began (R115). -/
  perStart : Nat := 0
  /-- Its length, dq (R115). -/
  perLen : Nat := 0
  /-- Its edges, those already passed where they occurred (R115). -/
  edges : Edges := {}
  /-- Pair 0 conducted at its start (R114). -/
  start0 : Bool := false
  /-- Pair 1 conducted at its start (R114). -/
  start1 : Bool := false
  /-- The stage end's own loop regulates: SAFE action LOCAL_LOOP (R147). -/
  loop : Bool := false
  /-- Receiver of the A-link (R100). -/
  rxA : LinkRx := {}
  /-- Receiver of the B-link (R100). -/
  rxB : LinkRx := {}
  /-- FENCE frames checked in the present tick (R122). -/
  fences : List FenceRx := []
  /-- Pending CMD frames of the A-link (R116). -/
  pendA : List Cmd := []
  /-- Pending CMD frames of the B-link (R116). -/
  pendB : List Cmd := []
  /-- The last copy applied came from the B-link (R126). -/
  appliedB : Bool := false
  /-- DISAGREE for the next SAMPLE frame (R126). -/
  disagree : Bool := false
  /-- ENV_CLIP for the next SAMPLE frame (R150). -/
  envClip : Bool := false
  /-- The register map, by word address (R160). -/
  words : List (Nat × Word) := []
  /-- Writes of envelope words and of OV_CFG (tick, word, value) not yet in effect (R161, R221). -/
  envNew : List (Nat × Nat × Word) := []
  /-- FAST_TRIP latched (R151). -/
  fastTrip : Bool := false
  /-- CROWBAR latched (R152). -/
  crowbar : Bool := false
  /-- MOISTURE (R157). -/
  moisture : Bool := false
  /-- LOCAL_FAULT (R155). -/
  localFault : Bool := false
  /-- The pass FET is closed or ramping (R147). -/
  passFet : Bool := false
  /-- What PASS_RAMP drives the tray side to, in twentieths of a code of VCH (R292). -/
  passRef : Int := 0
  /-- The pass FET regulates linearly at ILIM (R292). -/
  passLim : Bool := false
  /-- A moisture measurement runs (R156). -/
  measuring : Bool := false
  /-- Time of the last measurement (R156). -/
  measured : Option Nat := none
  /-- Its reading, kΩ (R157); the saturated value before the first (DESIGN CHOICE, log 153). -/
  moistVal : Nat := 0xFFFFF
  /-- AUX item of the next SAMPLE frame (R109). -/
  auxId : Nat := 1
  /-- TEMP0 item (R109). -/
  temp0 : BitVec 20 := 0x80000
  /-- TEMP1 item (R109). -/
  temp1 : BitVec 20 := 0x80000
  /-- Present sample of channel 0 (R141). -/
  smp0 : Sample := default
  /-- Present sample of channel 1 (R141). -/
  smp1 : Sample := default
  /-- Present sample of channel 2 (R141). -/
  smp2 : Sample := default
  /-- Present sample of channel 3 (R141). -/
  smp3 : Sample := default
  /-- The samples of the sample tick before, while their frame is still to be sent (R107). -/
  prev : List Sample := []
  /-- Tick of the latest overrange of each channel (R144). -/
  ovrTick : List (Option Nat) := [none, none, none, none]
  /-- CNT_CRC (R109). -/
  cntCrc : Word := 0
  /-- CNT_MISS (R109). -/
  cntMiss : Word := 0
  /-- CNT_DISAGREE (R109). -/
  cntDisagree : Word := 0
  /-- CNT_STALE (R109). -/
  cntStale : Word := 0
  /-- CNT_LATE (R109). -/
  cntLate : Word := 0
  /-- CNT_INVALID (R109). -/
  cntInvalid : Word := 0
  /-- CNT_HOLD (R109). -/
  cntHold : Word := 0
  /-- Local Datum (R120). -/
  datum : Nat := 0
  /-- Time of the last SYNC followed (R120). -/
  slewAt : Option Nat := none
  /-- Time of the last leading SYNC on the A-link (R120). -/
  syncA : Option Nat := none
  /-- Time of the last leading SYNC on the B-link (R120). -/
  syncB : Option Nat := none
  /-- Responses still to be sent (R107). -/
  rsps : List SeRsp := []
  /-- The frames of the present tick have been sent (R99, R107). -/
  sentUp : Bool := false
  /-- Upstream sideband messages held, with RX_CRC_OK (R131). -/
  sideUp : List (Bytes × Bool) := []
  /-- Bytes of the first of them already sent (R131). -/
  sideOff : Nat := 0
  /-- Its MSG_REF (R131). -/
  sideRef : Byte := 0
  /-- OVERFLOW (R131). -/
  sideLost : Bool := false
  /-- Fragments of the downstream message held (R130). -/
  sideDn : List Bytes := []
  /-- The complete message waiting for the sideband (R159). -/
  sideTx : Option Bytes := none
  /-- Time from which the sideband line is idle (R158). -/
  lineFree : Nat := 0
  /-- A reception in progress: message and CRC (R158). -/
  sideRx : Option (Bytes × Word) := none
deriving DecidableEq, Repr, Inhabited

/-- A bound law (chapter 07), or SHARE_MPC (chapter 08). -/
structure LawSt where
  /-- The law is bound (R179). -/
  bound : Bool := false
  /-- The committed copy of its descriptor (R187). -/
  desc : Bytes := []
  /-- A committed copy that waits for an update boundary (R193). -/
  next : Option Bytes := none
  /-- The engine, slot and OFFSET planned for that copy (R178, R179). -/
  plan : Option (Nat × Nat × Nat) := none
  /-- It is unbound at its next boundary (R187). -/
  unbind : Bool := false
  /-- Tick from which it starts or changes (R179). -/
  startTick : Nat := 0
  /-- Its engine (R178). -/
  engine : Nat := 0
  /-- Its task slot (R178). -/
  slot : Nat := 0
  /-- Integrator (R198). -/
  integ : F32 := 0
  /-- Derivative term (R198). -/
  dPrev : F32 := 0
  /-- Last measurement (R198). -/
  yPrev : F32 := 0
  /-- Output of the previous update, dither included (R201). -/
  uPrev : F32 := 0
  /-- Last output, U_LAST (R192). -/
  uOut : F32 := 0
  /-- E[n-1] (R200). -/
  e1 : F32 := 0
  /-- E[n-2] (R200). -/
  e2 : F32 := 0
  /-- E[n-3] (R200). -/
  e3 : F32 := 0
  /-- U[n-1] (R200). -/
  u1 : F32 := 0
  /-- U[n-2] (R200). -/
  u2 : F32 := 0
  /-- U[n-3] (R200). -/
  u3 : F32 := 0
  /-- Estimate of the inductor current (R203). -/
  x1 : F32 := 0
  /-- Estimate of the voltage (R203). -/
  x2 : F32 := 0
  /-- U times vin (R203). -/
  w1 : F32 := 0
  /-- I_o (R203). -/
  w2 : F32 := 0
  /-- Updates in a row with an excluded or missing input (R210). -/
  run : Nat := 0
  /-- Stored prediction of each channel (R210). -/
  preds : List F32 := [0, 0, 0, 0]
  /-- Profile reference r (R208). -/
  profR : F32 := 0
  /-- Its rate v (R208). -/
  profV : F32 := 0
  /-- Its acceleration a (R208). -/
  profA : F32 := 0
  /-- The last update was automatic (R205). -/
  auto : Bool := false
  /-- U_MANUAL has been tracked and awaits its write into the descriptor (R206). -/
  manWrite : Bool := false
  /-- The profile's reference has been set since the law was bound (R208). -/
  profSet : Bool := false
  /-- U_MANUAL of a transfer that is due (R205). -/
  preset : Option F32 := none
  /-- Soft-start reference (R219). -/
  rSs : F32 := 0
  /-- Reference in use, R_PROF (R192). -/
  rUsed : F32 := 0
  /-- Last calibrated CH_Y (R192). -/
  yLast : F32 := 0
  /-- STATUS, its CODE apart (R190). -/
  status : BitVec 16 := 0
  /-- STATUS.CODE (R190). -/
  code : BitVec 4 := 0
  /-- CNT_SAT (R190). -/
  cntSat : Word := 0
  /-- CNT_OVR_HOLD (R190). -/
  cntOvr : Word := 0
  /-- CNT_MISS (R190). -/
  cntMiss : Word := 0
  /-- References a SHARE_MPC publishes, by port (R229). -/
  refs : List (Nat × F32) := []
  /-- Demand of the previous update (R229). -/
  iTotPrev : F32 := 0
  /-- The section cannot deliver (R231). -/
  satRef : Bool := false
  /-- The last update ran on a missing frame (R210). -/
  degraded : Bool := false
  /-- An output computed and not yet used (R172). -/
  pending : Option F32 := none
deriving DecidableEq, Repr, Inhabited

/-- A task instance that an engine is running (R172). -/
structure Run where
  /-- Task slot (R172). -/
  slot : Nat := 0
  /-- Its ready tick (R175). -/
  ready : Nat := 0
  /-- Tick of dispatch (R174). -/
  start : Nat := 0
  /-- A class-A instance past the end of its tick, whose result is discarded (R174). -/
  late : Bool := false
deriving DecidableEq, Repr, Inhabited

/-- A stream slot of an engine: a destination of the sample fabric and its ring of 512 samples (R162 to R164). -/
structure Stream where
  /-- Port of the stream (R30). -/
  port : Nat := 0
  /-- Channel of the stream (R30). -/
  ch : Nat := 0
  /-- Decimation ratio D (R164). -/
  dec : Nat := 1
  /-- The ring: position, sample tick and code (R164). -/
  ring : List (Nat × Nat × BitVec 16) := []
deriving DecidableEq, Repr, Inhabited

/-- An engine (chapter 06). -/
structure EngSt where
  /-- The engine is running (R182). -/
  up : Bool := false
  /-- Ready slots and their ready ticks (R172). -/
  ready : List (Nat × Nat) := []
  /-- Running class-A instance (R172). -/
  runA : Option Run := none
  /-- Running class-B instance (R172). -/
  runB : Option Run := none
  /-- Running class-C instance (R172). -/
  runC : Option Run := none
  /-- Class-C slot served last (R172). -/
  lastC : Nat := 63
  /-- Class-A instances that have overrun before they were dispatched: slot and ready tick (R174). -/
  lateA : List (Nat × Nat) := []
  /-- Event slots of class B that were triggered again while an instance waited or ran (R175). -/
  again : List Nat := []
  /-- Contents of kernel bank 0 (R163, R180). -/
  img0 : Bytes := []
  /-- Contents of kernel bank 1 (R163, R180). -/
  img1 : Bytes := []
  /-- Stream slots in use (R162, R163). -/
  streams : List (Nat × Stream) := []
  /-- Accumulators of the multiply-accumulate lanes, by 32 x work class + lane (R162). -/
  acc : List (Nat × BitVec 48) := []
  /-- Registers of the fused multiply-add lanes, by 16 x work class + lane (R162). -/
  freg : List (Nat × F32) := []
  /-- Words of tile memory that hold an error, and whether it is of two bits (R165). -/
  flips : List (Nat × Bool) := []
  /-- A class-A residue mismatch of this tick awaits its raise, until the command built from it has gone (R168). -/
  residueDue : Option Nat := none
  /-- Kernel version in bank 0 (R163). -/
  bank0 : Word := 0
  /-- Kernel version in bank 1 (R163). -/
  bank1 : Word := 0
  /-- Slots that run from the shadow bank (R181). -/
  swapped : List Nat := []
  /-- Next line the scrubber reads (R166). -/
  scrub : Nat := 0
  /-- Slots and times of their last residue mismatch (R168). -/
  residueAt : List (Nat × Nat) := []
  /-- The evaluation in hand found a residue mismatch (R168). -/
  degraded : Bool := false
deriving DecidableEq, Repr, Inhabited

/-- The settings of a section's Benchmark, which a window takes at its start (R330). -/
structure BmkCfg where
  /-- DEN (R330). -/
  den : Bool := false
  /-- ZEN (R330). -/
  zen : Bool := false
  /-- CHIP (R330). -/
  chip : Nat := 8
  /-- REF_I_PORT (R330). -/
  refI : Nat := 0xFF
  /-- REF_V_PORT (R330). -/
  refV : Nat := 0xFF
  /-- WIN_MS (R330). -/
  win : Nat := 0x64
  /-- DITHER_AMP (R330). -/
  amp : Nat := 0x83
  /-- SPAN_MIN (R330). -/
  span : Nat := 0xCCD
  /-- IZ_MIN (R330). -/
  izMin : F32 := 0x3F000000
deriving DecidableEq, Repr, Inhabited

/-- A bus-bar section: hold-up, Felting and Benchmark state that is not in registers. -/
structure SecSt where
  /-- Time OVERLOAD has been set, dq (R253). -/
  ovlUsed : Nat := 0
  /-- Since when OVERLOAD is set (R253). -/
  ovlSince : Option Nat := none
  /-- The allowance is spent (R253). -/
  ovlSpent : Bool := false
  /-- Sample tick at which QUALIFY began (R249). -/
  qualFrom : Nat := 0
  /-- Battery references of the last update (R244). -/
  battRefs : List (Nat × F32) := []
  /-- Measured source current of the last SHARE_MPC update (R250). -/
  srcNow : F32 := 0
  /-- A recompute has been triggered (R236). -/
  feltTrig : Bool := false
  /-- Bus voltage at slew start (R239). -/
  slewBus : F32 := 0
  /-- The limits of the present slew are halved (R239). -/
  slewHalf : Bool := false
  /-- Scale of the limits of the present slew (R238). -/
  velScale : F32 := 0x3F800000
  /-- Resonance at the last recompute Benchmark caused (R236). -/
  feltRes : F32 := 0
  /-- Peak impedance at that recompute (R236). -/
  feltPk : F32 := 0
  /-- Felting members of the last solution (R233). -/
  members : List Nat := []
  /-- What the window in progress took from the registers at its start (R330). -/
  bmk : BmkCfg := {}
  /-- PRBS31 generator (R315). -/
  prbs : BitVec 31 := 0
  /-- Members that the present chips were drawn for (R315). -/
  chipSet : List Nat := []
  /-- Chips drawn, one row for each chip of all members, oldest first, as far as a member still has to take one (R315). -/
  chipRows : List (List (Nat × Bool)) := []
  /-- Number of the first of those rows since the generator began (R315). -/
  chipBase : Nat := 0
  /-- Updates of each member since then (R315). -/
  chipPos : SMap Nat := []
  /-- Sample tick at which the window in progress began (R318). -/
  winFrom : Nat := 0
  /-- The window in progress began before the twins were PAIRED, and counts in the LEAD alone (R312, R357). -/
  winOld : Bool := false
  /-- Dither of each member (R315). -/
  dither : List (Nat × F32) := []
  /-- String under measurement (R329). -/
  zStr : Option Nat := none
  /-- Tick at which its injection began (R329). -/
  zStart : Nat := 0
  /-- Time of the last accepted impedance point (R328). -/
  zAt : Nat := 0
  /-- Accepted impedance points as Benchmark holds them: frequency, magnitude, and the tick of the last result (R327, R328). -/
  zpts : List (F32 × F32 × Nat) := []
  /-- The points in effect, which both twins have applied (R37, R328). -/
  zUse : List (F32 × F32 × Nat) := []
  /-- Sums of the state of charge and temperature over the present measurement, and their number (R278). -/
  zSum : F32 × F32 × Nat := (0, 0, 0)
  /-- The present measurement is to be discarded (R277). -/
  zBad : Bool := false
  /-- Cosine and sine sums of the voltage over the present measurement (R277). -/
  zV : F32 × F32 := (0, 0)
  /-- Cosine and sine sums of the current over it (R277). -/
  zI : F32 × F32 := (0, 0)
  /-- Last fit: f0, Z_PK, Q (R328). -/
  zfit : Option (F32 × F32 × F32) := none
deriving DecidableEq, Repr, Inhabited

/-- What Crown keeps of a leaf (R265). -/
structure CapSt where
  /-- Power limit last sent to the tray (R265). -/
  cap : F32 := 0x7F800000
  /-- Limit enforced after grace (R265). -/
  limit : Option F32 := none
  /-- A CAP message is queued (R265). -/
  capMsg : Bool := false
  /-- A WARN message is queued (R309). -/
  warnMsg : Bool := false
deriving DecidableEq, Repr, Inhabited

/-- What the battery estimation of a string has computed, in effect once both twins apply it (R37, R272 to R275, R279). -/
structure StrWork where
  /-- State of charge (R272). -/
  soc : F32 := 0
  /-- Its uncertainty (R272). -/
  unc : F32 := 0
  /-- Usable energy, Wh (R275). -/
  wh : F32 := 0
  /-- State of health (R279). -/
  soh : F32 := 0
  /-- Temperature, as T_STR holds it (R272). -/
  tStr : Nat := 0
  /-- BELOW_TGT (R274). -/
  below : Bool := false
  /-- REST (R273). -/
  rest : Bool := false
  /-- EMPTY (R275). -/
  empty : Bool := false
  /-- SOH_HELD (R279). -/
  held : Bool := false
deriving DecidableEq, Repr, Inhabited

/-- What the valid ticks of a millisecond have summed of a string's samples (R272). -/
structure StrSum where
  /-- Sum of V (R272). -/
  v : F32 := 0
  /-- Sum of I (R272). -/
  i : F32 := 0
  /-- Sum of T (R272). -/
  t : F32 := 0
  /-- Valid ticks (R272). -/
  n : Nat := 0
deriving DecidableEq, Repr, Inhabited

/-- A battery string (chapter 10). -/
structure StrSt where
  /-- What the estimation has computed; none while its registers hold it (R37, R272). -/
  work : Option StrWork := none
  /-- Filled impedance cells, by (index, SoC bin, temperature bin) (R278). -/
  cells : List (Nat × F32 × F32) := []
  /-- Time of the last result of each cell (R278). -/
  cellAt : List (Nat × Nat) := []
  /-- Discharge accumulator, Ah (R280). -/
  dAcc : F32 := 0
  /-- Since when the current has been low (R273). -/
  restFrom : Option Nat := none
  /-- Sums over the valid ticks of a ms, by the ms (R272). -/
  sums : List (Nat × StrSum) := []
deriving DecidableEq, Repr, Inhabited

/-- A feeder: thermal model and contract state that is not in registers (chapter 11). -/
structure FdSt where
  /-- Engine and slot of its task (R287). -/
  placed : Option (Nat × Nat) := none
  /-- Temperature rises of the four poles (R295). -/
  dT : List F32 := [0, 0, 0, 0]
  /-- Datum of the previous run (R295). -/
  lastRun : Nat := 0
  /-- Runs in a row without a valid CH_I (R295). -/
  missI : Nat := 0
  /-- Runs in a row without a valid bus voltage (R295). -/
  missV : Nat := 0
  /-- Runs in a row without a valid tray voltage (R295). -/
  missO : Nat := 0
  /-- Last valid current (R295). -/
  lastI : F32 := 0
  /-- Last valid bus voltage (R295). -/
  lastVbus : F32 := 0
  /-- Last valid tray voltage (R295). -/
  lastVout : F32 := 0
  /-- Power sum of the Crown period (R286). -/
  pAcc : F32 := 0
  /-- Samples of that sum (R286). -/
  pCnt : Nat := 0
  /-- MSG_ID of the next new message (R304). -/
  txId : Nat := 0
  /-- MSG_ID of the last message accepted (R304). -/
  rxId : Option Nat := none
  /-- Messages still to be sent (R303). -/
  out : List NegMsg := []
  /-- Message waiting for GOODCRC (R303). -/
  wait : Option NegMsg := none
  /-- Its MSG_ID (R303). -/
  waitId : Nat := 0
  /-- Repeats sent (R303). -/
  waitTries : Nat := 0
  /-- The response timer runs (R305). -/
  rspTimer : Bool := false
  /-- TRY_SOURCE is in its source window (R307). -/
  srcTry : Bool := true
  /-- PMAX of the offer that the last CAPS made (R308). -/
  pmax : Nat := 0
  /-- Offers of the tray (R308). -/
  offers : List Offer := []
  /-- Power of the request in hand (R308). -/
  pReq : F32 := 0
  /-- A soft-reset exchange is in hand (R306). -/
  softEx : Bool := false
  /-- A contract has been accepted and waits for its agreed tick (R300). -/
  making : Bool := false
  /-- An SE_CLEAR.TRIP waits or was sent (R291). -/
  clearWait : Bool := false
deriving DecidableEq, Repr, Inhabited

/-- A Benchmark bin (R322). -/
structure Bin where
  /-- Gain (R322). -/
  gain : F32 := 0x7FC00000
  /-- Offset, codes (R322). -/
  offset : F32 := 0
  /-- Gain uncertainty when last accepted (R322). -/
  uncG : F32 := 0
  /-- Offset uncertainty when last accepted (R322). -/
  uncO : F32 := 0
  /-- Results held (R322). -/
  n : Nat := 0
  /-- Datum of the last result (R325). -/
  atT : Nat := 0
deriving DecidableEq, Repr, Inhabited

/-- What the window in progress has summed of a channel (R318, R320, R322). -/
structure WinSum where
  /-- Samples taken (R318). -/
  n : Nat := 0
  /-- Samples excluded (R318). -/
  bad : Nat := 0
  /-- Sum of |x| in 2^-32 of FS (R322). -/
  load : Int := 0
  /-- Sum of the stage temperature in 2^-32 °C (R322). -/
  temp : Int := 0
  /-- Lowest code (R320). -/
  lo : Int := 0
  /-- Highest code (R320). -/
  hi : Int := 0
  /-- Samples that had a reference of their node (R320). -/
  rn : Nat := 0
  /-- Sum of their codes (R320). -/
  sc : Int := 0
  /-- Sum of the squares of their codes (R320). -/
  scc : Int := 0
  /-- Sum of the references in 2^-32 V (R320). -/
  sr : Int := 0
  /-- Sum of the products of reference and code (R320). -/
  scr : Int := 0
deriving DecidableEq, Repr, Inhabited

/-- Calibration state of a channel that is not in registers (chapter 12). -/
structure CalSt where
  /-- Bins, by 8 x temperature bin + load bin (R322). -/
  bins : List (Nat × Bin) := []
  /-- Datum of the last offset update (R325). -/
  offAt : Nat := 0
  /-- Gain uncertainty as last published (R325). -/
  useG : F32 := 0
  /-- Offset uncertainty as last published (R325). -/
  useO : F32 := 0
  /-- Tick at which that publication took effect (R325). -/
  useAt : Nat := 0
  /-- Mean |x| ÷ FS of the last ms (R323). -/
  opPoint : F32 := 0
  /-- Tick at which a zero-current window opened (R321). -/
  zero : Option Nat := none
  /-- Sum of the codes over the zero-current window (R321). -/
  zeroSum : Int := 0
  /-- Sum of their squares (R321). -/
  zeroSq : Nat := 0
  /-- Samples in those sums (R321). -/
  zeroN : Nat := 0
  /-- Sum of |x| in 2^-32 of FS and the number of samples, by ms (R323). -/
  ops : SMap (Nat × Nat) := []
  /-- Sums of the window in progress (R318). -/
  win : WinSum := {}
  /-- Inductance estimated for the phase, not yet published (R319). -/
  ind : F32 := 0
  /-- Offset and uncertainty of the last zero-current window (R321). -/
  zeroOff : Option (F32 × F32) := none
deriving DecidableEq, Repr, Inhabited

/-- A proposal for an agreed tick (R340). -/
structure Agreed where
  /-- The tick X (R340). -/
  x : Nat := 0
  /-- The change (R340). -/
  item : AgreedItem := .crown
  /-- The FOLLOW has acknowledged it (R340). -/
  acked : Bool := false
  /-- This twin proposed it (R340). -/
  mine : Bool := true
deriving DecidableEq, Repr, Inhabited

/-- A class-C result waiting for both digests (R37). -/
structure CRes where
  /-- Its number: a port's calibration, 256 + a string, 512 + a section's impedance (R37). -/
  item : Nat := 0
  /-- The twin's digest has matched (R37). -/
  peerOk : Bool := false
  /-- Agreed tick, 0 while none is agreed (R37). -/
  atT : Nat := 0
  /-- The values it sets, by field key (R37). -/
  writes : List (Nat × Nat) := []
  /-- The impedance points it sets (R327). -/
  zs : List (F32 × F32 × Nat) := []
deriving DecidableEq, Repr, Inhabited

/-- Twin operation (chapter 13) beside the TWIN page. -/
structure TwinSt where
  /-- Commits whose agreed tick is awaited: region and the COMMIT_GEN that was copied (R187). -/
  commits : List (Nat × Nat) := []
  /-- Time of the last valid Chain message (R349). -/
  heard : Nat := 0
  /-- Proposals in hand (R340). -/
  agree : List Agreed := []
  /-- Class-C results in hand (R37). -/
  classC : List CRes := []
  /-- The twin has been declared lost (R349). -/
  lost : Bool := false
  /-- The takeover wait runs (R351). -/
  takeover : Bool := false
  /-- Consecutive failures to join (R358). -/
  joinFails : Nat := 0
  /-- The chip is in start step 6 (R94). -/
  step6 : Bool := false
  /-- The joiner has stepped its Datum (R357). -/
  stepped : Bool := false
  /-- Commits held until PAIRED (R357). -/
  heldCommits : List Part := []
  /-- The twin's HELLO (R357). -/
  peer : Option Hello := none
  /-- Engines whose self-check is pending for a resolution (R345). -/
  selfTests : List Nat := []
  /-- Own result (R346). -/
  ownPass : Option Bool := none
  /-- The twin's result (R346). -/
  peerPass : Option Bool := none
  /-- Time of the disagreement of the present recovery window (R348). -/
  mismatchAt : Option Nat := none
  /-- CMD frames sent: tick, port, body (R343). -/
  own : List (Nat × Nat × Bytes) := []
  /-- The CMD frames of the last 64 ticks that were DEGRADED for a missing frame: tick and port (R344). -/
  explained : List (Nat × Nat) := []
  /-- Laws still to be resynchronised (R347). -/
  affected : List Nat := []
  /-- Time of the last entry to PAIRED (R359). -/
  pairedAt : Nat := 0
  /-- Engine of the next in-service self-check (R363). -/
  nextEngine : Nat := 0
  /-- An extra Crown update has been agreed (R264). -/
  crownDue : Bool := false
  /-- Tick of the requests last answered (R342). -/
  eqTick : Nat := 0
  /-- Requests answered in it (R342). -/
  eqCount : Nat := 0
  /-- Since when the time error is within 16 dq (R357). -/
  timeGood : Option Nat := none
  /-- Since when digests have matched in phase STATE (R357). -/
  digestGood : Option Nat := none
  /-- Since when the time error exceeds 16 dq (R341). -/
  timeBad : Option Nat := none
  /-- The join in hand started at CONFIG after a debug hold (R365). -/
  rejoinCfg : Bool := false
  /-- MIRROR messages taken since phase CONFIG began (R357). -/
  cfgGot : Nat := 0
  /-- How many the LEAD has sent as its copy (R357). -/
  cfgAll : Option Nat := none
deriving DecidableEq, Repr, Inhabited

/-- What a fabric port has heard of a neighbour (R378). -/
structure Adj where
  /-- Fabric port (R378). -/
  fport : Nat := 0
  /-- Station ID (R378). -/
  station : Nat := 0
  /-- Time of its last HELLO (R378). -/
  heardAt : Nat := 0
  /-- It lists this station (R378). -/
  heardMe : Bool := false
  /-- The neighbour's own port, as its HELLO names it (R378). -/
  farPort : Nat := 0
deriving DecidableEq, Repr, Inhabited

/-- A reliable message without its ACK (R387). -/
structure RelMsg where
  /-- MSG_ID (R387). -/
  id : Word := 0
  /-- Its header (R374). -/
  hdr : SurveyHdr := ⟨1, 0, 0, true, true, 0, 32, 0, 0, false, false, false, 0, 0, 0, 0, 0⟩
  /-- Its payload (R374). -/
  payload : Bytes := []
  /-- Time of the first transmission (R387). -/
  atT : Nat := 0
  /-- Repeats sent (R387). -/
  tries : Nat := 0
deriving DecidableEq, Repr, Inhabited

/-- The window of a source node (R386). -/
structure RxWin where
  /-- Source node (R386). -/
  node : Nat := 0
  /-- INCARN held (R386). -/
  incarn : BitVec 16 := 0
  /-- The last 64 MSG_ID values accepted, newest first (R386). -/
  ids : List Word := []
deriving DecidableEq, Repr, Inhabited

/-- Survey fabric (chapter 14) beside the FAB page. -/
structure FabSt where
  /-- State code of FA0, FA1, FB0, FB1 (R397). -/
  portUp : List Nat := [0, 0, 0, 0]
  /-- Neighbours heard (R378). -/
  adjs : List Adj := []
  /-- LSAs kept, with the time of receipt (R379). -/
  lsas : List (Lsa × Nat) := []
  /-- Sequence number of the station's own LSA (R379). -/
  lsaSeq : Word := 0
  /-- The LSAs last flooded by this station (R379). -/
  lsaSent : List Lsa := []
  /-- Since when plane A has had no adjacency (R389). -/
  goneA : Option Nat := some 0
  /-- Since when plane B has had no adjacency (R389). -/
  goneB : Option Nat := some 0
  /-- Transit frames ended with an invalid FCS (R376). -/
  badTransit : Nat := 0
  /-- PRP sequence number of the station (R375). -/
  prpSeq : BitVec 16 := 0
  /-- Copies seen: source MAC, sequence number, time (R375). -/
  prpSeen : List (Nat × BitVec 16 × Nat) := []
  /-- Next MSG_ID of the node (R386). -/
  msgId : Word := 0
  /-- Reliable messages without ACK (R387). -/
  rel : List RelMsg := []
  /-- Windows of the source nodes (R386). -/
  rx : List RxWin := []
  /-- Plane of the QUIET in hand (R393). -/
  quiet : Option Plane := none
  /-- Sleep instant Q, a fabric Datum (R393). -/
  quietQ : Nat := 0
  /-- This node is the initiator (R393). -/
  quietMine : Bool := false
  /-- MSG_ID of the proposal (R393). -/
  quietId : Word := 0
  /-- Nodes that have acknowledged (R393). -/
  quietAcks : List Nat := []
  /-- QUIET_COMMIT sent or received (R393). -/
  quietCommit : Bool := false
  /-- The plane is QUIET (R394). -/
  asleep : Bool := false
  /-- Its ports are in electrical idle (R394). -/
  idle : Bool := false
  /-- A wake request is held (R395). -/
  wake : Bool := false
  /-- SHARE payloads received, by source station (R383). -/
  shares : List (Nat × Bytes) := []
  /-- EVENT records received, by source station (R383). -/
  events : List (Nat × Bytes) := []
  /-- Fabric Datum of the last TIME message (R383). -/
  fabTime : Nat := 0
  /-- TAI time of the last TIME message (R383). -/
  tai : Nat := 0
  /-- Last MGMT RESPONSE received (R385). -/
  mgmtRsp : Option (Nat × Bytes) := none
  /-- Time each partition's session was last used (R377). -/
  sessAt : List (Nat × Nat) := []
  /-- Plane A has a SLAVE port (R391). -/
  slaveA : Bool := false
  /-- Plane B has a SLAVE port (R391). -/
  slaveB : Bool := false
  /-- Time has been locked since the start (R392). -/
  locked : Bool := false
  /-- Since when the time error exceeds 400 dq (R391). -/
  errSince : Option Nat := none
deriving DecidableEq, Repr, Inhabited

/-- A queue of the shared ring (R410). -/
structure RingQ where
  /-- Requester slot (R410). -/
  slot : Nat := 0
  /-- Partition (R410). -/
  part : Nat := 0
  /-- Transfers waiting, in beats, oldest first (R411). -/
  xfers : List Nat := []
  /-- Consecutive losses (R416). -/
  losses : Nat := 0
  /-- Time until which it is backed off (R416). -/
  backoff : Nat := 0
  /-- Time until which it is blocked (R418). -/
  blocked : Nat := 0
  /-- First presentation of its oldest transfer (R419). -/
  since : Nat := 0
  /-- Consecutive turns taken (R414). -/
  turns : Nat := 0
  /-- It waits beyond STARVE_LIMIT (R419). -/
  starving : Bool := false
deriving DecidableEq, Repr, Inhabited

/-- The tenure in progress (R411). -/
structure Tenure where
  /-- Slot (R411). -/
  slot : Nat := 0
  /-- Partition (R411). -/
  part : Nat := 0
  /-- Beats (R411). -/
  beats : Nat := 0
  /-- Time of its first cycle, or of the window start within it (R411, R413). -/
  start : Nat := 0
  /-- Time of its first cycle (R418). -/
  began : Nat := 0
  /-- Granted in tier 1 (R414). -/
  tier1 : Bool := false
deriving DecidableEq, Repr, Inhabited

/-- The shared ring's arbiter (chapter 15) beside the ARB page. -/
structure ArbSt where
  /-- Queues with something to keep (R410). -/
  qs : List RingQ := []
  /-- The tenure in progress (R411). -/
  tenure : Option Tenure := none
  /-- Remaining credit (R413). -/
  credit : List Nat := [1000, 0, 0, 0, 0, 0, 0, 0]
  /-- Partition of the last tier-1 grant (R414). -/
  lastPart : Nat := 7
  /-- Slot each partition served last in tier 1 (R414). -/
  lastSlot : List Nat := [23, 23, 23, 23, 23, 23, 23, 23]
  /-- Queue of the last tier-2 grant, as 8 x slot + partition (R414). -/
  lastT2 : Nat := 191
  /-- Tenure cycles of the present window (R421). -/
  used : List Nat := [0, 0, 0, 0, 0, 0, 0, 0]
  /-- Time at which the ring last fell free (R412). -/
  freeAt : Nat := 0
  /-- It fell free by a revocation (R417). -/
  cut : Bool := false
deriving DecidableEq, Repr, Inhabited

/-- A Field Book record (R442). -/
structure FbRec where
  /-- SEQ (R442). -/
  seq : Word := 0
  /-- Fabric Datum of the event (R442). -/
  datum : Nat := 0
  /-- SOURCE (R442). -/
  source : Nat := 0
  /-- CODE (R442). -/
  code : Nat := 0
  /-- SEV (R442). -/
  sev : Nat := 0
  /-- PART (R442). -/
  part : Nat := 0
  /-- TWIN_ID of the writer (R442). -/
  twin : Bool := false
  /-- The writer held LEAD or was SOLO (R442). -/
  lead : Bool := false
  /-- Shelf record (R442). -/
  shelf : Bool := false
  /-- 32 payload bytes (R442). -/
  payload : Bytes := []
  /-- MAC as stored (R445). -/
  mac : BitVec 64 := 0
  /-- Its write was cut off (R79). -/
  torn : Bool := false
deriving DecidableEq, Repr, Inhabited

/-- The Field Book (chapter 17) beside the FBK page. -/
structure FbkSt where
  /-- Occupied slots of the record array (R442). -/
  slots : List (Nat × FbRec) := []
  /-- Records waiting, oldest first (R448). -/
  queue : List FbRec := []
  /-- The record whose write is in progress (R448). -/
  writing : Option FbRec := none
  /-- Time at which the last write began (R448). -/
  lastWrite : Nat := 0
  /-- Plumb's running SEQ (R443). -/
  seq : Word := 0
  /-- FR_CURSOR of each partition (R455). -/
  cursor : List Word := [0, 0, 0, 0, 0, 0, 0, 0]
  /-- FR_DATA latch of each partition (R455). -/
  latch : List (Option FbRec) := [none, none, none, none, none, none, none, none]
  /-- FR_DROPPED of each partition (R456). -/
  dropped : List Word := [0, 0, 0, 0, 0, 0, 0, 0]
  /-- FR_OVERWRITTEN of each partition (R456). -/
  overwritten : List Word := [0, 0, 0, 0, 0, 0, 0, 0]
  /-- An erase is in progress (R451). -/
  erasing : Bool := false
deriving DecidableEq, Repr, Inhabited

/-- A capture set (R459) beside the WCAP page. -/
structure WcSet where
  /-- Tick of ARM (R459). -/
  armTick : Nat := 0
  /-- Tick of the trigger while its entry is awaited (R459). -/
  trigTick : Nat := 0
  /-- A trigger awaits its entry (R459). -/
  trig : Bool := false
  /-- Index of the next entry (R458). -/
  entry : Nat := 0
  /-- Entries still to come in POST (R459). -/
  left : Nat := 0
  /-- Fabric Datum of the trigger (R461). -/
  trigDatum : Nat := 0
  /-- Archive offset of the flush (R461). -/
  arch : Nat := 0
  /-- The set's trigger source has occurred (R459). -/
  cause : Bool := false
  /-- Sample tick after the last one recorded or lost (R458). -/
  last : Nat := 0
deriving DecidableEq, Repr, Inhabited

/-- What an access path keeps (R5, R452). -/
structure PathSt where
  /-- Read shadow: address of the high word, its value (R5). -/
  shadow : Option (Nat × Word) := none
  /-- Held low word: its address and value (R5). -/
  held : Option (Nat × Word) := none
  /-- Latched slot of the Field Book window (R452). -/
  fbk : Option (Nat × List Word) := none
  /-- The word the last read returned (R4). -/
  rdata : Word := 0
deriving DecidableEq, Repr, Inhabited

/-- A two-wire target's register file (R475). -/
structure IicSt where
  /-- The pointer (R475). -/
  ptr : Nat := 0
  /-- WIN_BASE as committed (R476). -/
  base : Word := 0
  /-- WIN_OFFSET (R476). -/
  off : Nat := 0
  /-- WIN_BASE bytes written and not committed (R476). -/
  baseNew : List (Nat × Byte) := []
  /-- WIN_ERR, PEC_ERR, PARTIAL (R475). -/
  flags : BitVec 3 := 0
  /-- Window word latched in this transaction (R476). -/
  latch : Option (Nat × Word) := none
  /-- Window bytes written in this transaction (R476). -/
  wr : List (Nat × Byte) := []
  /-- Bytes of a write held until its STOP (R478). -/
  pec : Bytes := []
  /-- Bytes the last read returned (R475). -/
  reads : Bytes := []
  /-- SCL is held low for the Plumb clock (R479). -/
  stretch : Bool := false
deriving DecidableEq, Repr, Inhabited

/-- Host interfaces (chapter 18) beside their pages. -/
structure HostSt where
  /-- Masked vectors (R469). -/
  masked : BitVec 64 := 0xFFFFFFFFFFFFFFFF
  /-- Pending bits (R469). -/
  pba : BitVec 64 := 0
  /-- Mailbox request in hand (R470). -/
  posted : Option (Nat × Bytes) := none
  /-- The request has been acted on (R494). -/
  served : Bool := false
  /-- MB_STATUS.DONE (R471). -/
  mbDone : Bool := false
  /-- MB_STATUS.CODE (R471). -/
  mbCode : Nat := 0
  /-- RESULT of the response (R494). -/
  mbResult : Nat := 0
  /-- Response buffer (R470). -/
  rsp : Bytes := []
  /-- The twin has still to complete the command (R494). -/
  awaitTwin : Bool := false
  /-- An IIC1 transaction waits for the end of a pause (R496). -/
  iic1Wait : Bool := false
  /-- PCIE_PERST_N is low (R466). -/
  perstLow : Bool := true
deriving DecidableEq, Repr, Inhabited

/-- Images and update (chapter 19) beside the FWU page. -/
structure FwuSt where
  /-- A staging has begun (R494). -/
  staging : Bool := false
  /-- Image types being activated: bit 0 MGMT, bit 1 NEG_POLICY (R494). -/
  sel : Nat := 0
  /-- Management services are paused (R496). -/
  paused : Bool := false
  /-- The settle runs (R498). -/
  settling : Bool := false
  /-- The twin goes back to its ACTIVE images (R498). -/
  reverting : Bool := false
  /-- Container types still to be copied to ACTIVE (R498). -/
  copying : List Nat := []
  /-- An activation is in progress (R497). -/
  activating : Bool := false
  /-- Its step (R497). -/
  turn : Nat := 0
  /-- A kernel swap is in progress (R500). -/
  swapping : Bool := false
  /-- The swap is being undone (R500). -/
  swapBack : Bool := false
  /-- Tick of the last law's swap, while its first command waits for the digest comparison (R181). -/
  swapTick : Option Nat := none
  /-- The digest's entry of that law's command or output (R181). -/
  swapKey : Nat := 0
  /-- Time at which the pause began (R496). -/
  pauseAt : Nat := 0
  /-- MIRROR_FMT of the running MGMT image (R495). -/
  mirrorFmt : Nat := 0
  /-- The set that the start runs from (R491). -/
  bootSet : List Bytes := []
  /-- Kernel bank in use before the swap (R500). -/
  swapFrom : Nat := 0
deriving DecidableEq, Repr, Inhabited

/-- The xSPI flash (R483). -/
structure FlashSt where
  /-- Containers of GOLDEN (R483). -/
  golden : List Bytes := []
  /-- Containers of ACTIVE (R483). -/
  active : List Bytes := []
  /-- Containers of STAGED, once STAGE_END has read them (R483). -/
  staged : List Bytes := []
  /-- Bytes programmed into STAGED (R494). -/
  image : List (Nat × Byte) := []
  /-- STAGED is marked pending (R491). -/
  pending : Bool := false
  /-- STAGED is marked rejected (R491). -/
  rejected : Bool := false
  /-- Copy A: generation, register fields, descriptor memory (R485). -/
  cfgA : Option (Nat × List (Nat × Nat) × List (Nat × Byte)) := none
  /-- Copy B (R485). -/
  cfgB : Option (Nat × List (Nat × Nat) × List (Nat × Byte)) := none
  /-- Committed archive entries, oldest first: offset, ARCH_SEQ, header (R484). -/
  archive : List (Nat × Nat × Bytes) := []
  /-- ARCH_SEQ of the newest entry (R484). -/
  archSeq : Nat := 0
deriving DecidableEq, Repr, Inhabited

/-- One rail of a sequencer set (R69). -/
structure RailCfg where
  /-- USED (R69). -/
  used : Bool := true
  /-- ORDER (R69). -/
  order : Nat := 0
  /-- PG_WINDOW, ms (R69). -/
  window : Nat := 10
  /-- DELAY, ms (R69). -/
  delay : Nat := 1
deriving DecidableEq, Repr, Inhabited

/-- The parameter array of Plumb MRAM, and OTP (R444, R488). -/
structure Mram where
  /-- Stored sequencer set (R444). -/
  seqSet : Option (List RailCfg) := none
  /-- Battery records: string, cells and accumulator, SOC, SOC_UNC, SOH, CYCLES (R280). -/
  battery : List (Nat × StrSt × F32 × F32 × F32 × Word) := []
  /-- INCARN (R386). -/
  incarn : BitVec 16 := 0
  /-- SEQ floor (R443). -/
  seqFloor : Word := 0
  /-- ACTIVE_BAD (R493). -/
  activeBad : Bool := false
  /-- CNT_SHUTDOWN (R444). -/
  cntShutdown : Word := 0
  /-- CNT_GLITCH (R444). -/
  cntGlitch : Word := 0
  /-- CNT_BROWNOUT (R444). -/
  cntBrownout : Word := 0
  /-- Times of the last three thermal shutdowns (R444). -/
  shutdowns : List Nat := []
  /-- Blown anti-rollback fuses (R501). -/
  svn : Nat := 0
  /-- Signer revocation fuses (R488). -/
  revoked : BitVec 4 := 0
  /-- DEVICE_ID (R488). -/
  deviceId : BitVec 64 := 0
  /-- Production lock (R503). -/
  jtagLocked : Bool := true
  /-- The flag held in VAON that makes ROM write PLUMB_FAIL (R432). -/
  wdogFlag : Bool := false
deriving DecidableEq, Repr, Inhabited

/-- Plumb, the sequencer, the PLLs and the resets (chapter 03) beside their pages. -/
structure PlumbSt where
  /-- PORST_N is low (R67). -/
  porst : Bool := true
  /-- Stopped by a brown-out (R79). -/
  stopped : Bool := false
  /-- A brown-out has stopped Plumb since the last start (R79, R526). -/
  brown : Bool := false
  /-- A full reset has begun and waits, at Plumb, for a record write: the number of its cause, and whether RESET_N is its source (R90). -/
  rstWait : Option (Nat × Bool) := none
  /-- Plumb ROM self-test is running (R93). -/
  rom : Bool := false
  /-- RESET_N is low after a recognised pulse (R90). -/
  resetN : Bool := false
  /-- The run set (R71). -/
  runSet : List RailCfg := []
  /-- The set that replaces it at the next sequence (R71). -/
  newSet : Option (List RailCfg) := none
  /-- Position of the sequence (R73). -/
  pos : Nat := 0
  /-- It waits for power-good (R73). -/
  waitPg : Bool := false
  /-- Rails whose power-good has been seen in the sequence (R74). -/
  seen : BitVec 8 := 0
  /-- Time of each rail's last enable (R81). -/
  railAt : List Nat := [0, 0, 0, 0, 0, 0, 0, 0]
  /-- Time of sequence start (R81). -/
  seqAt : Nat := 0
  /-- Rail the sequence enables or waits for (R73). -/
  rail : Nat := 0
  /-- Order of the rail released last in a power-down (R78). -/
  downPos : Option Nat := none
  /-- 1 thermal shutdown, 2 hibernation (R78). -/
  downWhy : Nat := 0
  /-- Islands whose PLL is locked (R83). -/
  locked : List Nat := []
  /-- Failed lock attempts by island (R83). -/
  tries : List (Nat × Nat) := []
  /-- Islands whose PLL is held in reset (R83). -/
  pllReset : List Nat := []
  /-- REFCLK is present (R85). -/
  refclk : Bool := true
  /-- Start-up has halted (R83). -/
  halted : Bool := false
  /-- Time of the end of reset (R96). -/
  resetAt : Nat := 0
  /-- State of the SYS.RESET key: 1 a first write is held, 2 completed (R91). -/
  key : Nat := 0
  /-- State of the erase key (R451). -/
  eraseKey : Nat := 0
  /-- MGMT has been started (R466). -/
  mgmtUp : Bool := false
  /-- MGMT is halted by a debugger (R513). -/
  mgmtHalt : Bool := false
  /-- MGMT has failed (R431). -/
  mgmtFail : Bool := false
  /-- A HALT waits for the end of a pause (R513). -/
  haltReq : Bool := false
  /-- The watchdog pair has expired (R432). -/
  wdog : Bool := false
  /-- Since when a die sensor disagrees (R434). -/
  failed : List (Nat × Nat) := []
  /-- An S3 sequence is in force (R427). -/
  s3 : Bool := false
  /-- Its step 3 is due (R427). -/
  s3Reset : Bool := false
  /-- A thermal shutdown is in force (R437). -/
  thermal : Bool := false
  /-- From a sequencer abort until the next UP (R429). -/
  seqFault : Bool := false
  /-- THERMAL_THROTTLE has been raised since the reset (R436). -/
  throttled : Bool := false
  /-- Step 1 of R427 has stopped the port groups (R427). -/
  fenced : Bool := false
  /-- Hibernation is entered or in force (R281). -/
  hib : Bool := false
  /-- Causes of wake seen in the present interval (R283). -/
  hibWake : Nat := 0
  /-- HIB_I_SCALE as the hibernation began with it (R282). -/
  hibScale : F32 := 0
  /-- HIB_WAKE_A as the hibernation began with it (R283). -/
  hibLimit : F32 := 0
  /-- Plumb ROM's self-test has not passed since power-on (R429). -/
  por : Bool := true
  /-- Outstanding fault sources and the highest severity of their raises (R428). -/
  outSev : SMap Nat := []
  /-- Outstanding raises: source, instance and severity (R43, R424, R428). -/
  outBy : List (Nat × Nat × Nat) := []
  /-- MGMT has failed and the chip goes on without it (R431). -/
  mgmtSolo : Bool := false
  /-- Time of the last Plumb millisecond event (R91). -/
  msTick : Nat := 0
deriving DecidableEq, Repr, Inhabited

/-- The debug port (chapter 20). -/
structure DbgSt where
  /-- DBG_CTRL.CONSUME (R511). -/
  consume : Bool := false
  /-- Nonce of the challenge that can still be answered (R512). -/
  challenge : Option Bytes := none
  /-- Failed responses (R512). -/
  fails : Nat := 0
  /-- Pins driven by EXTEST (R511). -/
  pins : Bytes := []
  /-- Steps taken by the halted MGMT (R511). -/
  steps : Nat := 0
deriving DecidableEq, Repr, Inhabited

/-- The counter snapshot (R509). -/
structure SnapSt where
  /-- A snapshot waits for its tick (R509). -/
  pend : Bool := false
  /-- That tick (R509). -/
  tick : Nat := 0
  /-- Counters and selections being copied, by field key (R509). -/
  copy : List (Nat × Nat) := []
  /-- Those of the last snapshot (R509). -/
  shown : List (Nat × Nat) := []
  /-- Datum of the copy (R510). -/
  datum : Nat := 0
deriving DecidableEq, Repr, Inhabited

/-- A message to the twin over Chain (R335). -/
inductive ChainMsg where
  /-- Asks for a missing SAMPLE frame (R31). -/
  | frameReq (port : Port) (tick : Nat)
  /-- Answers with the 16 body bytes of the frame (R342). -/
  | frameAns (port : Port) (tick : Nat) (body : Bytes)
  /-- Digests of a tick (R343). -/
  | digest (tick : Nat) (ds : List Nat)
  /-- Digests of the items of the groups that differ in a tick (R344). -/
  | items (tick : Nat) (ds : List ItemDigest)
  /-- Result of the self-checks of a disagreement (R345). -/
  | outcome (pass : Bool)
  /-- Proposes a change at an agreed tick (R340). -/
  | propose (x : Nat) (item : AgreedItem)
  /-- Acknowledges a proposal (R340). -/
  | ack (x : Nat)
  /-- Cancels a proposal (R340). -/
  | cancel (x : Nat)
  /-- Mirrors state (R339). -/
  | mirror (m : MirrorMsg)
  /-- Identity at discovery and joining (R65, R357). -/
  | hello (h : Hello)
  /-- Time transfer (R341). -/
  | time
  /-- Heartbeat with the health word (R336, R362). -/
  | health (w : Word)
  /-- This chip has fenced itself (R350, R351). -/
  | fenced
  /-- This chip has entered a debug hold (R364). -/
  | debugHold
  /-- MGMT of this chip has failed (R431). -/
  | mgmtFail
  /-- Acknowledges the twin's failed MGMT (R431). -/
  | mgmtFailAck
  /-- A phase of joining is complete (R357). -/
  | joinPhase (p : Nat)
deriving DecidableEq, Repr

/-- Something the chip or a stage end sends or drives. -/
inductive Out where
  /-- A frame sent to the stage end of a port: its 24 data characters (R101). -/
  | seFrame (port : Port) (bytes : Bytes)
  /-- A frame sent by the stage end of a port on one link (R106). -/
  | upFrame (port : Port) (link : Link) (bytes : Bytes)
  /-- A frame sent by a stage end on its sideband: preamble, start byte, message, CRC (R158). -/
  | sideband (port : Port) (bytes : Bytes)
  /-- A message to the twin (R335). -/
  | chain (m : ChainMsg)
  /-- A frame sent on a fabric port (R371), with its bytes from the Survey header to the redundancy control trailer (R374, R375). -/
  | fabFrame (fport : FPort) (f : FabFrame) (bytes : Bytes)
  /-- A fabric HELLO (R378). -/
  | fabHello (fport : FPort) (h : FabHello)
  /-- A link-state advertisement (R379). -/
  | lsa (fport : FPort) (l : Lsa)
  /-- A gPTP message on a plane (R390): 0 Sync, 1 a peer-delay request, 2 an Announce with its priority1 (clockClass 248, timescale
  ARB). -/
  | ptp (plane : Plane) (kind : Nat) (prio1 : Nat)
  /-- A PRP supervision frame on a plane (R375). -/
  | supervision (plane : Plane)
  /-- A Survey message originated by this node (R374). -/
  | survey (h : SurveyHdr) (payload : Bytes)
  /-- An MSI-X message (R469). -/
  | msix (vector : Vector64)
  /-- Bytes written on IIC1 (R480). -/
  | iic1 (tgt : Nat) (bytes : Bytes)
  /-- A sample stream multicast to engines (R30). -/
  | multicast (port : Port) (engines : List Engine)
  /-- An edge of an output pin, by name (R58). -/
  | pin (name : String) (level : Bool)
  /-- Bytes that a DMA channel has written to host memory from an address on (R472). -/
  | dma (chan : Chan) (dst : Nat) (data : Bytes)
  /-- A challenge or verdict of the debug port (R512). -/
  | debug (bytes : Bytes)
deriving DecidableEq, Repr


/-- The chip and its stage ends, apart from its queue and its byte memories. -/
structure Chip where
  /-- Model clock: dq since power was first applied, never set back. -/
  now : Nat := 0
  /-- Datum, dq (R24). -/
  datum : Nat := 0
  /-- Datum rate correction carried, in parts per 10^9 of a dq (R88). -/
  rateAcc : Int := 0
  /-- Register fields, by 32 x address + lowest bit; one not listed holds its reset value (R6). -/
  regs : SMap Nat := []
  /-- Configuration in force where a write waits for the next update of its service, as `regs` lists it (R258, R284). -/
  inForce : SMap Nat := []
  /-- Event bits live for the present tick only: page base, bit (R547). -/
  pulses : List (Nat × Nat) := []
  /-- Bases of the pages that raise their interrupt (R18). -/
  irqs : List Nat := []
  /-- Access paths (R5). -/
  paths : SMap PathSt := []
  /-- Running timers: timer key, time at which it elapses (model clock). -/
  timers : SMap Nat := []
  /-- Plumb, sequencer, PLLs, resets (R67). -/
  plumb : PlumbSt := {}
  /-- Parameter MRAM and fuses (R444). -/
  mram : Mram := {}
  /-- XSPI flash (R483). -/
  flash : FlashSt := {}
  /-- Field Book (R442). -/
  fbk : FbkSt := {}
  /-- Twin operation (R334). -/
  twin : TwinSt := {}
  /-- Stage ports (R97). -/
  ports : SMap PortSt := []
  /-- Stage ends (R97). -/
  stages : SMap StageEnd := []
  /-- Engines (R162). -/
  engines : SMap EngSt := []
  /-- Bound laws, by descriptor index (R187). -/
  laws : SMap LawSt := []
  /-- Bus-bar sections (R213). -/
  secs : SMap SecSt := []
  /-- What asserts each early-warning group: a section, or 8 + a leaf's node (R266). -/
  ewBy : SMap (List Nat) := []
  /-- Crown leaves: node, or 96 + port (R265). -/
  caps : SMap CapSt := []
  /-- Battery strings (R269). -/
  strs : SMap StrSt := []
  /-- Feeders (R286). -/
  feeders : SMap FdSt := []
  /-- Calibration, by 4 x port + channel (R322). -/
  cals : SMap CalSt := []
  /-- Survey fabric (R368). -/
  fab : FabSt := {}
  /-- Shared ring (R410). -/
  arb : ArbSt := {}
  /-- Capture sets (R459). -/
  wcap : SMap WcSet := []
  /-- Host interfaces (R465). -/
  host : HostSt := {}
  /-- Two-wire targets: 0 IIC0, 1 IIC2 (R475). -/
  iics : SMap IicSt := []
  /-- Images and update (R494). -/
  fwu : FwuSt := {}
  /-- Debug port (R511). -/
  dbg : DbgSt := {}
  /-- Counter snapshot (R509). -/
  snap : SnapSt := {}
  /-- Everything the model has sent, newest first (the model's own record). -/
  sent : List Out := []
  /-- Counter of the free values taken (the model's own). -/
  freeCtr : Nat := 0
deriving DecidableEq, Repr, Inhabited

/-- The state of the block. -/
structure State where
  /-- Commands waiting, first in, first out. -/
  pending : List Instr := []
  /-- Descriptor memory (R185): the cells that are not zero, by byte offset from 0x0040_0000. -/
  mem : Memory := []
  /-- Capture SRAM (R463): the cells that are not zero, by byte offset from 0x0100_0000. -/
  cap : Memory := []
  /-- Everything else. -/
  chip : Chip := {}
deriving DecidableEq, Repr, Inhabited

/-- Reasons for which a step stops with a fault. The specification gives every command an effect on every operand, so no
meaning raises one. -/
inductive Fault where
  /-- Raised by no meaning; safe. -/
  | never
deriving DecidableEq, Repr

/-- Reasons for which a command has no meaning. -/
inductive Refusal where
  /-- Raised by the dispatch arm of a command that has no meaning yet; safe. -/
  | notModelled (mnemonic : String)
deriving DecidableEq, Repr

/-- The factory sequencer set (R69). -/
def factorySet : List RailCfg :=
  (List.range 8).map (fun n => { used := decide (n < 7), order := n })

/-- A register map in which SEQ_RAIL0-7 read a set (R69, R71). -/
def loadRails (m : SMap Nat) (set : List RailCfg) : SMap Nat :=
  (List.range 8).foldl (fun m n =>
    let r := (set[n]?).getD {}
    mapSet (mapSet (mapSet (mapSet m (fldKey R.SEQ_USED pgSEQ n) (b2n r.used)) (fldKey R.SEQ_ORDER pgSEQ n) r.order)
      (fldKey R.SEQ_PG_WINDOW pgSEQ n) r.window) (fldKey R.SEQ_DELAY pgSEQ n) r.delay) m

/-- The register fields whose reset value is not that of their table: P0's ring credit and BAR2 window (R421, R406), the
driven fault code (R429). -/
def resetRegs : SMap Nat :=
  mapSet (mapSet (mapSet [] (fldKey R.FCU_FLT_OUT pgFCU 0) 1) (fldKey R.ARB_CREDIT pgARB 0) 1000) (fldKey R.PART_WIN_EN pgPART 0) 1

/-- The machine right after power-on reset, PORST_N still low: every register at its reset value (R6), RESET_CAUSE naming
the power-on reset (R92), the sequencer set loaded (R69), the default two-wire addresses (R63, R479), nothing running and
no command waiting. -/
def State.reset : State :=
  { chip :=
    { regs := mapSet (mapSet (mapSet (loadRails resetRegs factorySet) (fldKey R.SYS_PORST pgSYS 0) 1)
        (fldKey R.IIC_ADDR pgIIC0 0) 0x2C) (fldKey R.IIC_ADDR pgIIC2 0) 0x28
      plumb := { runSet := factorySet } } }

end Sys2Proof.Machine
end

