-- ==== Sys2Proof/Machine/Ops.lean ====
section
/-! DEFINITION. Ops.lean: the named operations over registers, events, timers and the Field Book queue, and raising a
fault, from which the meanings are built. -/

namespace Sys2Proof.Machine

/-- What a meaning answers. -/
abbrev Result := Host.Outcome State Fault Refusal

/-- A change of everything but the queue and the byte memories. -/
def State.onChip (s : State) (f : Chip → Chip) : State := { s with chip := f s.chip }

/-! Time: the model clock and Datum count dq of 125 ps (R86). -/

/-- dq in a tick. -/
def dqTick : Nat := 400
/-- dq in a microsecond. -/
def dqUs : Nat := 8000
/-- dq in a millisecond. -/
def dqMs : Nat := 8000000
/-- dq in a second. -/
def dqS : Nat := 8000000000

/-- The present tick (R86). -/
def Chip.tick (c : Chip) : Nat := c.datum / dqTick

/-! Register fields. -/

/-- The value of copy `i` of a field in the page that begins at `b`. -/
def Chip.rd (c : Chip) (f : Fld) (b : Nat) (i : Nat := 0) : Nat := mapGet c.regs (fldKey f b i) f.rst

/-- A field as a truth value: not zero. -/
def Chip.on (c : Chip) (f : Fld) (b : Nat) (i : Nat := 0) : Bool := c.rd f b i != 0

/-- A field as a signed number. -/
def Chip.rdS (c : Chip) (f : Fld) (b : Nat) (i : Nat := 0) : Int := sgn f.w (c.rd f b i)

/-- A field as a binary32 number. -/
def Chip.rdF (c : Chip) (f : Fld) (b : Nat) (i : Nat := 0) : F32 := BitVec.ofNat 32 (c.rd f b i)

/-- The value in force of a field whose changes wait for the next update of its service (R258, R284). -/
def Chip.rdV (c : Chip) (f : Fld) (b : Nat) (i : Nat := 0) : Nat := mapGet c.inForce (fldKey f b i) f.rst

/-- A field in force as a truth value. -/
def Chip.onV (c : Chip) (f : Fld) (b : Nat) (i : Nat := 0) : Bool := c.rdV f b i != 0

/-- A field in force as a binary32 number. -/
def Chip.rdVF (c : Chip) (f : Fld) (b : Nat) (i : Nat := 0) : F32 := BitVec.ofNat 32 (c.rdV f b i)

/-- The fields at the addresses from `lo` up to but not including `hi` come into force as they stand (R258, R284). -/
def Chip.takeCfg (c : Chip) (lo hi : Nat) : Chip :=
  let here (e : Nat × Nat) : Bool := decide (32 * lo ≤ e.1) && decide (e.1 < 32 * hi)
  let old := c.inForce.filter (fun e => !here e)
  { c with inForce := (c.regs.filter here).foldl (fun m e => mapSet m e.1 e.2) old }

/-- Sets a field, cut to its width, with no other effect. -/
def Chip.wr (c : Chip) (f : Fld) (b v : Nat) (i : Nat := 0) : Chip :=
  { c with regs := mapSet c.regs (fldKey f b i) (v % 2 ^ f.w) }

/-- Adds to a wrapping counter (R19: a counter moves no PG_SEQ). -/
def Chip.bump (c : Chip) (f : Fld) (b : Nat) (i : Nat := 0) (n : Nat := 1) : Chip := c.wr f b (c.rd f b i + n) i

/-- PG_CTRL.ENABLE of the page that begins at `b` (R15). -/
def Chip.enabled (c : Chip) (b : Nat) : Bool :=
  (match pageOf b with
   | some (k, _) => k.alwaysOn
   | none => false) || c.on R.PG_ENABLE b

/-- A block that is not quiesced accepts new work that is not control (R15, R16). -/
def Chip.takesWork (c : Chip) (b : Nat) : Bool := !c.on R.PG_QUIESCE b

/-- The partition that owns a page (R13). -/
def Chip.owner (c : Chip) (b : Nat) : Nat := c.rd R.PG_OWNER b

/-- Whether counter `j` of a page counts event `e` (R506). -/
def Chip.pmcSelects (c : Chip) (b j e : Nat) : Bool :=
  c.rd R.PMC_EVENT b j == e && (j == 0 || c.rd R.PMC_CHAIN b j == 0)

/-- Adds `n` to counter `j` of a page; a wrap sets OVF and counts in the next counters that chain (R506). -/
def Chip.pmcAdd (c : Chip) (b : Nat) : Nat → Nat → Chip
  | j, n =>
    let v := c.rd R.PMC_CNT b j + n
    let c1 := c.wr R.PMC_CNT b v j
    if v < 2 ^ 32 then c1
    else
      let c2 := c1.wr R.PMC_OVF b 1 j
      let k := j + 1
      if k < 4 && c2.on R.PMC_CHAIN b k then
        let v2 := c2.rd R.PMC_CNT b k + v / 2 ^ 32
        let c3 := c2.wr R.PMC_CNT b v2 k
        if v2 < 2 ^ 32 then c3
        else
          let c4 := c3.wr R.PMC_OVF b 1 k
          let l := k + 1
          if l < 4 && c4.on R.PMC_CHAIN b l then
            let v3 := c4.rd R.PMC_CNT b l + v2 / 2 ^ 32
            let c5 := c4.wr R.PMC_CNT b v3 l
            if v3 < 2 ^ 32 then c5
            else
              let c6 := c5.wr R.PMC_OVF b 1 l
              let m := l + 1
              if m < 4 && c6.on R.PMC_CHAIN b m then
                let v4 := c6.rd R.PMC_CNT b m + v3 / 2 ^ 32
                let c7 := c6.wr R.PMC_CNT b v4 m
                if v4 < 2 ^ 32 then c7 else c7.wr R.PMC_OVF b 1 m
              else c6
          else c4
      else c2

/-- Counts `n` occurrences of event `e` in the counters of a page that select it (R506, R508, R522). -/
def Chip.pmcEvent (c : Chip) (b e : Nat) (n : Nat := 1) : Chip :=
  if c.enabled b && (match pageOf b with | some (k, _) => k.hasPmc | none => false) && e != 0 then
    foldc [0, 1, 2, 3] (fun j c => if c.pmcSelects b j e then c.pmcAdd b j n else c) c
  else c

/-- PG_SEQ increments by one (R19). -/
def Chip.seqInc (c : Chip) (b : Nat) : Chip := (c.bump R.PG_SEQ b).pmcEvent b 3

/-- The device replaces fields of a page together: PG_SEQ increments once if one of them is a status field (R19). -/
def Chip.hw (c : Chip) (b : Nat) (us : List (Fld × Nat × Nat)) : Chip :=
  let c1 := foldc us (fun u c => c.wr u.1 b u.2.2 u.2.1) c
  if us.any (fun u => u.1.stat) then c1.seqInc b else c1

/-- The device replaces one field of a page. -/
def Chip.up (c : Chip) (f : Fld) (b v : Nat) (i : Nat := 0) : Chip := c.hw b [(f, i, v)]

/-! Sending. -/

/-- The IO and HS banks have power: the main rails are UP, Plumb has not stopped, and no power-down has released a rail (R57, R78, R79).
From the first release of a power-down on both banks count as off, whichever rail it is (DEDUCED, log 204). -/
def Chip.banksOn (c : Chip) : Bool := c.on R.PLUMB_MAIN_UP pgPLUMB && !c.plumb.stopped && c.plumb.downPos.isNone

/-- A Chain message can leave: the HS bank has power (R57), and a FENCED twin sends only its notice, HELLO and HEALTH (R338). -/
def Chip.chainOpen (c : Chip) (m : ChainMsg) : Bool :=
  c.banksOn && (c.rd R.TWIN_STATE pgTWIN != 4 || (match m with | .fenced => true | .hello _ => true | .health _ => true | _ => false))

/-- The chip sends or drives something; the fabric, PCIe and IIC1 pins drive nothing while their banks have no power (R57). -/
def Chip.send (c : Chip) (o : Out) : Chip :=
  match o with
  | .chain m => if c.chainOpen m then { c with sent := o :: c.sent } else c
  | .fabFrame _ _ _ | .fabHello _ _ | .lsa _ _ | .ptp _ _ _ | .supervision _ | .msix _ | .iic1 _ _ | .dma _ _ _ =>
    if c.banksOn then { c with sent := o :: c.sent } else c
  | .seFrame _ _ | .upFrame _ _ _ | .sideband _ _ | .survey _ _ | .multicast _ _ | .pin _ _ | .debug _ => { c with sent := o :: c.sent }

/-- What arrives on Chain is taken while the HS bank has power (R57). -/
def Chip.chainIn (c : Chip) (f : Chip → Chip) : Chip := if c.banksOn then f c else c

/-- A valid Chain message has arrived (R336, R349). -/
def Chip.hear (c : Chip) : Chip := { c with twin := { c.twin with heard := c.now } }

/-- Takes the next free value. -/
def Chip.free (c : Chip) : Nat × Chip := (Config.freeValue c.freeCtr, { c with freeCtr := c.freeCtr + 1 })

/-! Interrupts (R18, R468, R469). -/

/-- The MSI-X vector of a page's interrupt (R468). -/
def Chip.vectorOf (c : Chip) (b : Nat) : Option Nat :=
  match pageOf b with
  | none => none
  | some (.clu, n) => some n
  | some (.ce, n) => let o := c.owner b; some (if o = 0 then n / 8 else 55 + o)
  | some (.spg, n) => some (16 + n)
  | some (.sp, n) => let o := c.owner b; some (if o = 0 then 16 + n / 16 else 55 + o)
  | some _ => some (28 + b / 0x1000)

/-- The page raises its interrupt (R18, R522). -/
def Chip.pageIrq (c : Chip) (b : Nat) : Bool :=
  c.enabled b && (c.rd R.EVT_LATCH b &&& c.rd R.EVT_IRQEN b) != 0

/-- The OR of a vector's interrupts. -/
def Chip.vecOr (c : Chip) (v : Nat) : Bool := c.irqs.any (fun b => c.vectorOf b == some v)

/-- Messages can be sent to the host: link up, Bus Master Enable, D0 (R466). -/
def Chip.hostCan (c : Chip) : Bool := c.on R.HOST_LINK_UP pgHOST && c.on R.HOST_BME pgHOST && !c.on R.HOST_D3 pgHOST

/-- Sends a vector's message, or holds it pending while the vector is masked or nothing can be sent (R469). -/
def Chip.sendVec (c : Chip) (v : Nat) : Chip :=
  if h : v < 64 then
    if c.host.masked.getLsbD v || !c.hostCan then
      { c with host := { c.host with pba := c.host.pba ||| (1#64 <<< v) } }
    else c.send (.msix ⟨v, h⟩)
  else c

/-- Sets or clears bit `n` of a 32-bit word field. -/
def setBitN (w n : Nat) (on : Bool) : Nat := if on then w ||| 2 ^ n else w &&& (2 ^ 32 - 1 - 2 ^ n)

/-- HOST.PEND_CE and HOST.PEND_SP follow the pages that assert their interrupts (R469). -/
def Chip.pendBit (c : Chip) (b : Nat) (on : Bool) : Chip :=
  match pageOf b with
  | some (.ce, n) => c.up R.HOST_PEND_CE pgHOST (setBitN (c.rd R.HOST_PEND_CE pgHOST (n / 32)) (n % 32) on) (n / 32)
  | some (.sp, n) => c.up R.HOST_PEND_SP pgHOST (setBitN (c.rd R.HOST_PEND_SP pgHOST (n / 32)) (n % 32) on) (n / 32)
  | some _ => c
  | none => c

/-- Judges a page's interrupt again after its latch, enables or owner changed. `resend` marks a write of a latch, after
which the message is sent again if the OR of its vector stays 1 (R469). -/
def Chip.reIrq (c : Chip) (b : Nat) (resend : Bool := false) : Chip :=
  match c.vectorOf b with
  | none => c
  | some v =>
    let was := c.vecOr v
    let on := c.pageIrq b
    let had := c.irqs.contains b
    let c1 := if on == had then c
      else ({ c with irqs := if on then b :: c.irqs else c.irqs.filter (fun x => x != b) } : Chip).pendBit b on
    if c1.vecOr v && (!was || resend) then c1.sendVec v else c1

/-! Events (R18, R547). -/

/-- The latch of event bit `n` is set and the interrupt judged. -/
def Chip.latchEvt (c : Chip) (b n : Nat) : Chip :=
  (c.wr R.EVT_LATCH b (c.rd R.EVT_LATCH b ||| 2 ^ n)).reIrq b

/-- A trigger source of the capture sets has occurred (R459, R463). -/
def Chip.capCause (c : Chip) (hit : Nat → Nat → Nat → Bool) : Chip :=
  foldc (upTo 8) (fun k c =>
    if hit (c.rd R.WCAP_TRIG_SRC pgWCAP k) (c.rd R.WCAP_ARG0 pgWCAP k) (c.rd R.WCAP_ARG1 pgWCAP k) then
      { c with wcap := mapMod c.wcap k {} (fun w => { w with cause := true }) } else c) c

/-- An event bit becomes live: its rising edge sets the latch (R18). -/
def Chip.riseEvt (c : Chip) (b n : Nat) : Chip :=
  if bitOf (c.rd R.EVT_LIVE b) n then c.latchEvt b n
  else
    let c1 := ((c.wr R.EVT_LIVE b (c.rd R.EVT_LIVE b ||| 2 ^ n)).pmcEvent b (0x10 + n)).latchEvt b n
    match pageOf b with
    | some (.sp, p) => c1.capCause (fun t a g => t == 2 && a == p && g == n)
    | some _ => c1
    | none => c1

/-- An occurrence of an event that is live for one tick (R547). -/
def Chip.pulse (c : Chip) (b n : Nat) : Chip :=
  if bitOf (c.rd R.EVT_LIVE b) n then c.latchEvt b n
  else ({ c with pulses := (b, n) :: c.pulses } : Chip).riseEvt b n

/-- An event bit that is live while a condition holds follows it. -/
def Chip.level (c : Chip) (b n : Nat) (on : Bool) : Chip :=
  if on then (if bitOf (c.rd R.EVT_LIVE b) n then c else c.riseEvt b n)
  else c.wr R.EVT_LIVE b (setBitN (c.rd R.EVT_LIVE b) n false)

/-- The one-tick bits of the past tick end (R547). -/
def Chip.endPulses (c : Chip) : Chip :=
  let c1 := foldc c.pulses (fun p c => c.wr R.EVT_LIVE p.1 (setBitN (c.rd R.EVT_LIVE p.1) p.2 false)) c
  { c1 with pulses := [] }

/-! Timers. A timer is named by its kind and an index. -/

/-- The key of timer `i` of a kind. -/
def tmKey (kind i : Nat) : Nat := 65536 * kind + i

/-- Starts a timer that elapses `t` dq from now. -/
def Chip.arm (c : Chip) (k t : Nat) : Chip := { c with timers := mapSet c.timers k (c.now + t + 1) }

/-- Stops a timer. -/
def Chip.disarm (c : Chip) (k : Nat) : Chip := { c with timers := mapSet c.timers k 0 }

/-- The timer runs. -/
def Chip.armed (c : Chip) (k : Nat) : Bool := mapGet c.timers k 0 != 0

/-- The timer runs and has elapsed. -/
def Chip.due (c : Chip) (k : Nat) : Bool :=
  let t := mapGet c.timers k 0
  t != 0 && decide (t ≤ c.now + 1)

/-! The kinds of timer. -/
def tmEqualise : Nat := 1
def tmRail : Nat := 2
def tmPgWin : Nat := 3
def tmPgLost : Nat := 4
def tmRetry : Nat := 5
def tmAborts : Nat := 6
def tmDown : Nat := 7
def tmPll : Nat := 8
def tmPllRst : Nat := 9
def tmKeyReset : Nat := 10
def tmResetBegin : Nat := 11
def tmKeyErase : Nat := 12
def tmBoot : Nat := 13
def tmProbe : Nat := 14
def tmRecovery : Nat := 15
def tmTakeover : Nat := 16
def tmPhase : Nat := 17
def tmRejoin : Nat := 18
def tmTrav : Nat := 19
def tmSelf : Nat := 20
def tmChain : Nat := 21
def tmS3 : Nat := 22
def tmMgmtAck : Nat := 23
def tmWdog : Nat := 24
def tmWdogRst : Nat := 25
def tmCool : Nat := 26
def tmDisc : Nat := 27
def tmDiscRetry : Nat := 28
def tmHiccup : Nat := 29
def tmCrowbar : Nat := 30
def tmTlm : Nat := 31
def tmSlew : Nat := 32
def tmTrans : Nat := 33
def tmQualify : Nat := 34
def tmGrace : Nat := 35
def tmEwHold : Nat := 36
def tmFdRetry : Nat := 37
def tmInrush : Nat := 38
def tmFdClear : Nat := 39
def tmGoodCrc : Nat := 40
def tmRsp : Nat := 41
def tmHrHold : Nat := 42
def tmCaps : Nat := 43
def tmRole : Nat := 44
def tmErase : Nat := 45
def tmPause : Nat := 46
def tmSettle : Nat := 47
def tmResume : Nat := 48
def tmStretch : Nat := 49
def tmQuietAck : Nat := 50
def tmSettleWin : Nat := 51
def tmRetries : Nat := 52
def tmHicClear : Nat := 53
def tmLate : Nat := 54
def tmHibSample : Nat := 55
def tmPubl : Nat := 56
def tmCrown : Nat := 57
def tmGauge : Nat := 58
def tmBatt : Nat := 59
def tmFabHello : Nat := 60
def tmShare : Nat := 61
def tmOvl : Nat := 62
def tmMoist : Nat := 63
def tmSafe : Nat := 64
def tmFbk : Nat := 65
def tmScl : Nat := 66
def tmHibRec : Nat := 67
def tmCredit : Nat := 68
def tmAdjA : Nat := 69
def tmLsa : Nat := 70
def tmSync : Nat := 71
def tmPdelay : Nat := 72
def tmSuperv : Nat := 73
def tmTwinTime : Nat := 74
def tmSide : Nat := 75
def tmRom : Nat := 76
def tmSnap : Nat := 77

/-! Roles (R36, R337, R338). -/

/-- The port groups send LEAD = 0 and DEGRADED = 1: MGMT is halted by a debugger, or has failed and the twin has still to answer
(R364, R431). -/
def Chip.held (c : Chip) : Bool := c.on R.TWIN_DEBUG_HOLD pgTWIN || (c.plumb.mgmtFail && !c.plumb.mgmtSolo)

/-- The twin has the role LEAD: it is in SOLO, or PAIRED as LEAD (R338). -/
def Chip.leadRole (c : Chip) : Bool :=
  let st := c.rd R.TWIN_STATE pgTWIN
  !c.held && (st == 1 || (st == 3 && c.rd R.TWIN_ROLE pgTWIN == 0))

/-- The twin performs the single-sourced duties (R36); a chip that goes on without MGMT performs none (R431). -/
def Chip.leads (c : Chip) : Bool := c.leadRole && !c.plumb.mgmtSolo

/-- Management services run (R431, R496, R513). -/
def Chip.services (c : Chip) : Bool := c.plumb.mgmtUp && !c.plumb.mgmtHalt && !c.plumb.mgmtFail && !c.fwu.paused

/-- The pause of an activation that selects NEG_POLICY: NEG stops with the management services (R496). -/
def Chip.negPaused (c : Chip) : Bool := c.fwu.paused && bitOf c.fwu.sel 1

/-- NEG_STATUS (R529): the policy is loaded and runs from start step 4 on, also while MGMT is halted; it is paused; this twin sends and
polls contract messages. DEDUCED (178). -/
def Chip.negStatus (c : Chip) : List (Fld × Nat) :=
  let run := c.plumb.mgmtUp && decide (4 ≤ c.rd R.SYS_STEP pgSYS)
  [(R.NEG_RUNNING, b2n run), (R.NEG_PAUSED, b2n c.negPaused),
   (R.NEG_SERVING, b2n (run && c.leads && !c.plumb.mgmtHalt && !c.plumb.mgmtFail && !c.negPaused))]

/-- NEG_STATUS is brought up to date; a change counts in PG_SEQ (R19, R529). -/
def Chip.negShow (c : Chip) : Chip :=
  if c.negStatus.all (fun x => c.rd x.1 pgNEG == x.2) then c else c.hw pgNEG (c.negStatus.map (fun x => (x.1, 0, x.2)))

/-- SOLO (R337). -/
def Chip.solo (c : Chip) : Bool := c.rd R.TWIN_STATE pgTWIN == 1
/-- PAIRED (R337). -/
def Chip.paired (c : Chip) : Bool := c.rd R.TWIN_STATE pgTWIN == 3

/-- Fabric Datum (R391): Datum plus FAB_DATUM_OFS. -/
def Chip.fabDatum (c : Chip) : Nat :=
  (c.datum + c.rd R.FAB_DATUM_OFS_LO pgFAB + 2 ^ 32 * c.rd R.FAB_DATUM_OFS_HI pgFAB) % 2 ^ 64

/-! Ports, stage ends, engines and the other numbered things. -/

def Chip.port (c : Chip) (p : Nat) : PortSt := mapGet c.ports p {}
def Chip.setPort (c : Chip) (p : Nat) (v : PortSt) : Chip := { c with ports := mapSet c.ports p v }
def Chip.modPort (c : Chip) (p : Nat) (f : PortSt → PortSt) : Chip := c.setPort p (f (c.port p))
def Chip.stage (c : Chip) (p : Nat) : StageEnd := mapGet c.stages p {}
def Chip.setStage (c : Chip) (p : Nat) (v : StageEnd) : Chip := { c with stages := mapSet c.stages p v }
def Chip.modStage (c : Chip) (p : Nat) (f : StageEnd → StageEnd) : Chip := c.setStage p (f (c.stage p))
def Chip.eng (c : Chip) (e : Nat) : EngSt := mapGet c.engines e {}
def Chip.setEng (c : Chip) (e : Nat) (v : EngSt) : Chip := { c with engines := mapSet c.engines e v }
def Chip.modEng (c : Chip) (e : Nat) (f : EngSt → EngSt) : Chip := c.setEng e (f (c.eng e))
def Chip.law (c : Chip) (i : Nat) : LawSt := mapGet c.laws i {}
def Chip.setLaw (c : Chip) (i : Nat) (v : LawSt) : Chip := { c with laws := mapSet c.laws i v }
def Chip.modLaw (c : Chip) (i : Nat) (f : LawSt → LawSt) : Chip := c.setLaw i (f (c.law i))
def Chip.sec (c : Chip) (n : Nat) : SecSt := mapGet c.secs n {}
def Chip.setSec (c : Chip) (n : Nat) (v : SecSt) : Chip := { c with secs := mapSet c.secs n v }
def Chip.modSec (c : Chip) (n : Nat) (f : SecSt → SecSt) : Chip := c.setSec n (f (c.sec n))
def Chip.capst (c : Chip) (n : Nat) : CapSt := mapGet c.caps n {}
def Chip.setCap (c : Chip) (n : Nat) (v : CapSt) : Chip := { c with caps := mapSet c.caps n v }
def Chip.modCap (c : Chip) (n : Nat) (f : CapSt → CapSt) : Chip := c.setCap n (f (c.capst n))
def Chip.strg (c : Chip) (n : Nat) : StrSt := mapGet c.strs n {}
def Chip.setStr (c : Chip) (n : Nat) (v : StrSt) : Chip := { c with strs := mapSet c.strs n v }
def Chip.modStr (c : Chip) (n : Nat) (f : StrSt → StrSt) : Chip := c.setStr n (f (c.strg n))
def Chip.fd (c : Chip) (p : Nat) : FdSt := mapGet c.feeders p {}
def Chip.setFd (c : Chip) (p : Nat) (v : FdSt) : Chip := { c with feeders := mapSet c.feeders p v }
def Chip.modFd (c : Chip) (p : Nat) (f : FdSt → FdSt) : Chip := c.setFd p (f (c.fd p))
def Chip.cal (c : Chip) (n : Nat) : CalSt := mapGet c.cals n {}
def Chip.setCal (c : Chip) (n : Nat) (v : CalSt) : Chip := { c with cals := mapSet c.cals n v }
def Chip.modCal (c : Chip) (n : Nat) (f : CalSt → CalSt) : Chip := c.setCal n (f (c.cal n))
def Chip.wset (c : Chip) (k : Nat) : WcSet := mapGet c.wcap k {}
def Chip.setWset (c : Chip) (k : Nat) (v : WcSet) : Chip := { c with wcap := mapSet c.wcap k v }
def Chip.modWset (c : Chip) (k : Nat) (f : WcSet → WcSet) : Chip := c.setWset k (f (c.wset k))
def Chip.path (c : Chip) (k : Nat) : PathSt := mapGet c.paths k {}
def Chip.setPath (c : Chip) (k : Nat) (v : PathSt) : Chip := { c with paths := mapSet c.paths k v }
def Chip.modPath (c : Chip) (k : Nat) (f : PathSt → PathSt) : Chip := c.setPath k (f (c.path k))
def Chip.iic (c : Chip) (k : Nat) : IicSt := mapGet c.iics k {}
def Chip.setIic (c : Chip) (k : Nat) (v : IicSt) : Chip := { c with iics := mapSet c.iics k v }
def Chip.modIic (c : Chip) (k : Nat) (f : IicSt → IicSt) : Chip := c.setIic k (f (c.iic k))
def Chip.modPlumb (c : Chip) (f : PlumbSt → PlumbSt) : Chip := { c with plumb := f c.plumb }
def Chip.modTwin (c : Chip) (f : TwinSt → TwinSt) : Chip := { c with twin := f c.twin }
def Chip.modFab (c : Chip) (f : FabSt → FabSt) : Chip := { c with fab := f c.fab }
def Chip.modArb (c : Chip) (f : ArbSt → ArbSt) : Chip := { c with arb := f c.arb }
def Chip.modFbk (c : Chip) (f : FbkSt → FbkSt) : Chip := { c with fbk := f c.fbk }
def Chip.modHost (c : Chip) (f : HostSt → HostSt) : Chip := { c with host := f c.host }
def Chip.modFwu (c : Chip) (f : FwuSt → FwuSt) : Chip := { c with fwu := f c.fwu }
def Chip.modFlash (c : Chip) (f : FlashSt → FlashSt) : Chip := { c with flash := f c.flash }
def Chip.modMram (c : Chip) (f : Mram → Mram) : Chip := { c with mram := f c.mram }
def Chip.modDbg (c : Chip) (f : DbgSt → DbgSt) : Chip := { c with dbg := f c.dbg }
def Chip.modSnap (c : Chip) (f : SnapSt → SnapSt) : Chip := { c with snap := f c.snap }

/-! Field Book records (R442, R446, R448). -/

/-- Counts a record as dropped or displaced (R448). -/
def Chip.countDrop (c : Chip) (r : FbRec) : Chip :=
  let w := (c.fbk.dropped[r.part]?).getD 0
  ((c.bump R.FBK_DROPPED pgFBK).modFbk (fun k => { k with dropped := setAt k.dropped r.part (w + 1) })).pulse pgFBK 1

/-- The index of the newest queued record whose severity is below `sev`. -/
def displaced (sev : Nat) (q : List FbRec) : Option Nat :=
  ((List.range q.length).filter (fun i => match q[i]? with | some r => decide (r.sev < sev) | none => false)).getLast?

/-- A record enters Plumb's queue of 256 entries, displaces one, or is dropped (R448). -/
def Chip.enqueue (c : Chip) (r : FbRec) : Chip :=
  let q := c.fbk.queue
  if c.plumb.porst || c.plumb.stopped then c
  else if q.length < 256 then
    let c1 := (c.modFbk (fun k => { k with queue := q ++ [r] })).up R.FBK_QUEUE pgFBK (q.length + 1)
    c1.level pgFBK 2 (decide (q.length + 1 = 256))
  else
    match displaced r.sev q with
    | none => c.countDrop r
    | some i => (c.modFbk (fun k => { k with queue := q.eraseIdx i ++ [r] })).countDrop ((q[i]?).getD {})

/-- Queues a record of the chip, or a shelf record, which only a LEAD or SOLO chip writes (R446), and of a DOUBLE_FAULT also a FOLLOW that
waits to take over (R356). A payload that no rule lays out
is a free value. -/
def Chip.record (c0 : Chip) (code source sev part : Nat) (payload0 : Bytes) (shelf : Bool := false) : Chip :=
  let (v, cf) := c0.free
  let c := if payload0 = [] then cf else c0
  let payload := if payload0 = [] then leBytes v 32 else payload0
  if shelf && !(c0.leads || (code == 0x113 && c0.twin.takeover)) then c0
  else c.enqueue { datum := c.fabDatum, source := source, code := code, sev := sev, part := part,
                   twin := c.on R.SYS_TWIN_ID pgSYS, lead := c.leads, shelf := shelf, payload := sliceBytes payload 0 32 }

/-! Raising a fault (R424 to R429). -/

/-- Default severity of a fault source and whether it is locked (R425); none for a reserved number. -/
def srcInfo (n : Nat) : Option (Nat × Bool) :=
  if n < 4 then some (3, true)
  else if n < 8 then some (3, false)
  else if n = 8 then some (3, true)
  else if n < 11 then some (1, false)
  else if n = 11 then some (0, false)
  else if n < 14 then some (1, false)
  else if n = 0x20 then some (0, false)
  else if n = 0x21 ∨ n = 0x22 then some (3, true)
  else if n = 0x23 then some (1, false)
  else if n = 0x24 then some (3, true)
  else if 0x25 ≤ n ∧ n ≤ 0x27 then some (2, false)
  else if 0x40 ≤ n ∧ n ≤ 0x45 then some (if n = 0x43 then 2 else 1, false)
  else if 0x60 ≤ n ∧ n ≤ 0x62 then some (if n = 0x61 then 2 else 1, false)
  else if n = 0x82 ∨ n = 0x83 then some (1, false)
  else if 0x80 ≤ n ∧ n ≤ 0x89 then some (2, false)
  else if n = 0x8A then some (3, true)
  else if 0xA0 ≤ n ∧ n ≤ 0xA4 then some (if n < 0xA3 then 1 else 2, false)
  else if n = 0xC0 ∨ n = 0xC1 then some (1, false)
  else none

/-- The severity in force of a source (R425, R440). -/
def Chip.srcSev (c : Chip) (n : Nat) : Nat :=
  match srcInfo n with
  | none => 0
  | some (d, true) => d
  | some (d, false) => mapGet c.regs (fldKey R.FCU_SEV pgFCU n) d

/-- The partition that owns the page of a source's item (R424). -/
def Chip.srcOwner (c : Chip) (src inst : Nat) : Nat :=
  if 0x20 ≤ src ∧ src ≤ 0x25 ∨ src = 0x27 then (if inst < 128 then c.owner (pgCE inst) else 0)
  else if 0x40 ≤ src ∧ src ≤ 0x45 ∨ src = 0xA ∨ src = 0x26 ∨ src = 0x62 then (if inst < 192 then c.owner (pgSP inst) else 0)
  else 0

/-- The chip drives the fault code on FLT_OUT (R429). -/
def Chip.fltFault (c : Chip) : Bool :=
  c.plumb.por || c.plumb.stopped || c.plumb.seqFault || c.plumb.thermal || c.plumb.wdog || c.plumb.mgmtSolo
  || (c.rd R.TWIN_STATE pgTWIN == 4 && c.rd R.TWIN_FENCE_CAUSE pgTWIN == 1) || c.on R.SYS_RESULT pgSYS

/-- FLT_OUT follows its conditions (R429): 1 is the fault code (0, 1), 2 the healthy code (1, 0). -/
def Chip.reFlt (c : Chip) : Chip :=
  let v := if c.fltFault then 1 else 2
  if c.rd R.FCU_FLT_OUT pgFCU = v then c else c.up R.FCU_FLT_OUT pgFCU v

/-- A recovery window opens or is extended: RECOVERING for 100 ms (R354). -/
def Chip.openRecovery (c : Chip) : Chip := (c.up R.TWIN_RECOVERING pgTWIN 1).arm (tmKey tmRecovery 0) (100 * dqMs)

/-- PATH_DOWN is live while a path is DOWN (R367). -/
def Chip.pathLevel (c : Chip) : Chip := c.level pgTWIN 6 (!(c.on R.TWIN_CH0_UP pgTWIN && c.on R.TWIN_CH1_UP pgTWIN))

/-- The twin takes a role (R338, R367). -/
def Chip.setRole (c : Chip) (follow : Bool) : Chip :=
  if c.on R.TWIN_ROLE pgTWIN == follow then c
  else (c.up R.TWIN_ROLE pgTWIN (b2n follow)).pulse pgTWIN 5

/-- The chip enters FENCED with a cause (R337, R338): no CMD frames, no role, one notice to the twin. -/
def Chip.enterFenced (c : Chip) (cause : Nat) : Chip :=
  if c.rd R.TWIN_STATE pgTWIN = 4 then (c.up R.TWIN_FENCE_CAUSE pgTWIN cause).reFlt
  else
    let c1 := (c.hw pgTWIN [(R.TWIN_STATE, 0, 4), (R.TWIN_FENCE_CAUSE, 0, cause)]).setRole true
    let c2 := (c1.modPlumb (fun p => { p with fenced := true })).send (.chain .fenced)
    (((c2.pulse pgTWIN 3).openRecovery.disarm (tmKey tmTakeover 0)).modTwin (fun t => { t with takeover := false })).reFlt

/-- Highest severity among outstanding sources (R428). -/
def Chip.maxSev (c : Chip) : Nat := c.plumb.outSev.foldl (fun m e => max m e.2) 0

/-- TW_HEALTH (R366). -/
def Chip.healthWord (c : Chip) : Nat :=
  c.rd R.TWIN_ENG_UP pgTWIN + 2 ^ 8 * c.rd R.TWIN_PORTS_READY pgTWIN + 2 ^ 16 * c.rd R.TWIN_MAX_SEV pgTWIN
    + 2 ^ 18 * c.rd R.TWIN_C_PAUSED pgTWIN + 2 ^ 19 * c.rd R.TWIN_C_SHED pgTWIN + 2 ^ 20 * c.rd R.TWIN_SELFTEST_FAIL pgTWIN

/-- Fields of TW_HEALTH take values; a change is sent on Chain (R335, R362). -/
def Chip.putHealth (c : Chip) (us : List (Fld × Nat × Nat)) : Chip :=
  if us.all (fun u => c.rd u.1 pgTWIN u.2.1 == u.2.2) then c
  else let c1 := c.hw pgTWIN us; c1.send (.chain (.health (BitVec.ofNat 32 c1.healthWord)))

/-- TW_HEALTH follows the engines, the ports and the throttle step (R366, R436). -/
def Chip.reHealth (c : Chip) : Chip :=
  let k := c.rd R.THM_STEP pgTHM
  c.putHealth [(R.TWIN_ENG_UP, 0, (c.engines.filter (fun e => e.2.up)).length),
    (R.TWIN_PORTS_READY, 0, ((upTo 192).filter (fun p => c.rd R.SP_LINK (pgSP p) == 5)).length),
    (R.TWIN_C_PAUSED, 0, b2n (decide (1 ≤ k) && decide (k ≤ 8))), (R.TWIN_C_SHED, 0, b2n (k == 9)),
    (R.TWIN_SELFTEST_FAIL, 0, b2n ((upTo 128).any (fun e => c.on R.CE_SELFTEST_FAIL (pgCE e))))]

/-- FC_STATUS.MAX_SEV and TW_HEALTH.MAX_SEV follow the outstanding sources (R428). -/
def Chip.reMaxSev (c : Chip) : Chip :=
  let m := c.maxSev
  let c1 := if c.rd R.FCU_MAX_SEV pgFCU = m then c else c.up R.FCU_MAX_SEV pgFCU m
  c1.putHealth [(R.TWIN_MAX_SEV, 0, m)]

/-- QUIESCE of every page a tenant owns takes a value (R406, R408). -/
def Chip.quiescePages (c : Chip) (p : Nat) (on : Bool) : Chip :=
  let set (b : Nat) (c : Chip) : Chip :=
    if c.owner b = p then
      let c1 := c.wr R.PG_QUIESCE b (b2n on)
      if !on && c1.on R.PG_QUIESCED b then c1.up R.PG_QUIESCED b 0 else c1
    else c
  foldc (upTo 192) (fun n c => set (pgSP n) c) (foldc (upTo 128) (fun n c => set (pgCE n) c) c)

/-- QUIESCE of a tenant partition is set (R408). -/
def Chip.quiescePart (c : Chip) (p : Nat) : Chip :=
  if p = 0 then c else (c.wr R.PART_QUIESCE pgPART 1 p).quiescePages p true

/-- Whether step 3 of R427 follows the raise of a source: it does not for the raises that R427 lists. -/
def Chip.s3Resets (c : Chip) (src : Nat) : Bool :=
  !(src == 6 || src == 7 || src == 8 || src == 3 || ((src == 4 || src == 5) && decide (c.rd R.SYS_STEP pgSYS < 3)))

/-- The S3 sequence (R427). A raise while one is in force starts no other. MGMT_FAIL and PLUMB_FAIL follow their own. -/
def Chip.s3Sequence (c : Chip) (src : Nat) : Chip :=
  if src = 1 ∨ src = 2 then c
  else if c.plumb.s3 then c
  else
    let c1 := (c.modPlumb (fun p => { p with s3 := true, s3Reset := c.s3Resets src, fenced := true })).enterFenced 1
    if c.s3Resets src then c1.arm (tmKey tmS3 0) (c.rd R.FCU_RESET_DELAY_MS pgFCU * dqMs) else c1

/-- A kernel swap in progress is undone: its laws return to the active bank and STAGED is marked rejected (R500). Where no law
has swapped yet, it ends at once. -/
def Chip.swapAbort (c : Chip) (code : Nat) : Chip :=
  if c.fwu.swapping && !c.fwu.swapBack then
    let none' := c.rd R.FWU_LAWS_SWAPPED pgFWU == 0
    let c1 := ((c.modFwu (fun f => { f with swapBack := !none', swapping := !none', swapTick := none })).modFlash (fun f => { f with rejected := true })).hw pgFWU
      [(R.FWU_REJECTED, 0, 1), (R.FWU_RESULT, 0, code)]
    if none' then
      (foldc (upTo 128) (fun e c => if c.on R.CE_SWAP_BUSY (pgCE e) then c.up R.CE_SWAP_BUSY (pgCE e) 0 else c) c1).up R.FWU_OP pgFWU 0 |>.pulse pgFWU 1
    else c1
  else c

/-- A settle fails: the twin pauses once more, to resume on the images of its ACTIVE slot (R498). -/
def Chip.settleFail (c : Chip) : Chip :=
  if c.fwu.settling then
    let c1 := c.modFwu (fun f => { f with settling := false, reverting := true, paused := true, pauseAt := c.now })
    (((c1.disarm (tmKey tmSettle 0)).arm (tmKey tmResume 0) (80 * dqMs)).up R.FWU_OP pgFWU 7).pulse pgFWU 2
  else c

/-- A source is raised for an item (R424, R426): one record, the FCU registers, and the action of its severity. THERMAL_MODEL_LATE sets the
port's MODEL_LATE for the 1 ms after it (R297). -/
def Chip.raise (c : Chip) (src inst : Nat) (payload : Bytes := []) : Chip :=
  match srcInfo src with
  | none => c
  | some _ =>
    if c.plumb.porst || c.plumb.stopped then c else
    let sev := c.srcSev src
    let own := c.srcOwner src inst
    let c1 := c.record src inst sev own payload
    let c2 := (c1.hw pgFCU [(R.FCU_LAST_SRC, 0, src), (R.FCU_LAST_INST, 0, inst), (R.FCU_LAST_SEV, 0, sev)]).bump R.FCU_CNT_RAISE pgFCU
    let c3 := if src = 0 then c2.bump R.FCU_CNT_WIRE pgFCU else c2
    let w := src / 32
    let c4 := c3.wr R.FCU_OUTSTANDING pgFCU (c3.rd R.FCU_OUTSTANDING pgFCU w ||| 2 ^ (src % 32)) w
    let c5 := (c4.modPlumb (fun p => { p with
      outSev := mapMod p.outSev src 0 (fun v => max v sev)
      outBy := (src, inst, sev) :: p.outBy.filter (fun e => !(e.1 == src && e.2.1 == inst)) })).reMaxSev
    let c6 := if sev = 0 then c5 else c5.pulse pgFCU (sev - 1)
    let c7 := c6.capCause (fun t a _ => (t == 1 && a == src) || (t == 4 && decide (2 ≤ sev)))
    let c8 := if sev = 2 then c7.quiescePart own else c7
    let c9 := if 2 ≤ sev then c8.settleFail else c8
    let c10 := if src = 0x22 ∨ src = 0x23 ∨ src = 0x27 then c9.swapAbort 0xC else c9
    let c11 := if src = 0x26 ∧ inst < 192 then (c10.up R.SP_MODEL_LATE (pgSP inst) 1).arm (tmKey tmLate inst) dqMs else c10
    if sev = 3 then c11.s3Sequence src else c11

/-! QUIESCED (R17). -/

/-- Work is in flight in a page's block (R17). -/
def Chip.inFlight (c : Chip) (k : PageKind) (n : Nat) : Bool :=
  match k with
  | .ce => let g := c.eng n
    g.ready != [] || g.runA.isSome || g.runB.isSome || g.runC.isSome || c.on R.CE_SELFTEST_BUSY (pgCE n) || c.on R.CE_SWAP_BUSY (pgCE n)
  | .sp => (c.port n).req.isSome || (c.port n).cfgQ != []
  | .host => (upTo 4).any (fun ch => c.rd R.HOST_STATE pgHOST ch == 1)
  | .wcap => (upTo 8).any (fun s => let st := c.rd R.WCAP_STATE pgWCAP s; st == 1 || st == 2 || st == 4)
  | .fwu => c.rd R.FWU_OP pgFWU != 0
  | .pmc => c.on R.PMC_BUSY pgPMC
  | .iic1 => c.on R.IIC_BUSY pgIIC1
  | .arb => c.arb.tenure.isSome
  | .fbk => c.fbk.queue != [] || c.fbk.writing.isSome || c.fbk.erasing
  | .fab => c.fab.rel != [] || c.fab.quiet.isSome
  | .xspi => c.on R.XSPI_BUSY pgXSPI
  | .gauge => c.secs.any (fun e => e.2.zStr.isSome)
  | .bmk => c.cals.any (fun e => e.2.zero.isSome) || (upTo 8).any (fun k => c.armed (tmKey tmPubl (1 + k)))
  | .felt => c.ports.any (fun e => e.2.moving)
  | .neg => c.feeders.any (fun e => e.2.wait.isSome || e.2.out != [] || e.2.rspTimer)
  | .seq => c.rd R.SEQ_STATE pgSEQ == 1 || c.plumb.downPos.isSome
  | .twin => c.twin.agree != []
  | .sec => c.dbg.challenge.isSome
  | .fcu => c.armed (tmKey tmS3 0)
  | .iic0 => (c.iic 0).pec != []
  | .iic2 => (c.iic 1).pec != []
  | .crown => c.twin.agree.any (fun a => a.item == .crown)
  | .sys | .plumb | .thm | .datum | .part | .hold | .clu | .spg => false

/-- PG_STATUS.QUIESCED follows QUIESCE and the work in flight; a change counts in PG_SEQ (R17, R19). -/
def Chip.reQuiesced (c : Chip) (k : PageKind) (n : Nat) : Chip :=
  let b := pageBase k n
  let v := b2n (c.on R.PG_QUIESCE b && !c.inFlight k n)
  if c.rd R.PG_QUIESCED b = v then c else c.up R.PG_QUIESCED b v

/-- PG event bit CFG_REJECT of a page is latched (R547). -/
def Chip.cfgReject (c : Chip) (b n : Nat) : Chip := c.pulse b n

end Sys2Proof.Machine
end

