-- ==== Sys2Proof/Machine/Desc.lean ====
section
/-! DEFINITION. Desc.lean: the fields of law descriptors, supervision blocks and SHARE_MPC bodies (R186, R190, R213, R227). -/

namespace Sys2Proof.Machine

/-- A binary32 field of a descriptor. -/
def dF (d : Bytes) (o : Nat) : F32 := BitVec.ofNat 32 (leAt d o 4)

def dType (d : Bytes) : Nat := leAt d 0 1
def dClass (d : Bytes) : Nat := bitsOf (leAt d 1 1) 1 0
def dBind (d : Bytes) : Bool := bitOf (leAt d 1 1) 2
def dAuto (d : Bytes) : Bool := bitOf (leAt d 1 1) 3
def dManTrack (d : Bytes) : Bool := bitOf (leAt d 1 1) 4
def dProfile (d : Bytes) : Bool := bitOf (leAt d 1 1) 5
def dOvrHi (d : Bytes) : Bool := bitOf (leAt d 1 1) 6
def dOvrLo (d : Bytes) : Bool := bitOf (leAt d 1 1) 7
def dN (d : Bytes) : Nat := leAt d 2 2
def dPort (d : Bytes) : Nat := leAt d 4 2
def dEngine (d : Bytes) : Nat := leAt d 6 1
def dEnvIdx (d : Bytes) : Nat := bitsOf (leAt d 7 1) 3 0
def dPair1 (d : Bytes) : Nat := bitsOf (leAt d 7 1) 5 4
def dChY (d : Bytes) : Nat := bitsOf (leAt d 8 1) 1 0
def dChI (d : Bytes) : Nat := bitsOf (leAt d 8 1) 3 2
def dChVin (d : Bytes) : Nat := bitsOf (leAt d 8 1) 5 4
def dChX (d : Bytes) : Nat := bitsOf (leAt d 8 1) 7 6
def dRefSrc (d : Bytes) : Nat := bitsOf (leAt d 9 1) 3 0
def dRefLaw (d : Bytes) : Nat := leAt d 10 2
def dPeriod (d : Bytes) : Nat := leAt d 12 4
def dDeadtime (d : Bytes) : Nat := leAt d 16 4
def dUMin (d : Bytes) : F32 := dF d 20
def dUMax (d : Bytes) : F32 := dF d 24
def dUManual (d : Bytes) : F32 := dF d 28
def dSetpt (d : Bytes) : F32 := dF d 32
def dVel (d : Bytes) : F32 := dF d 36
def dAcc (d : Bytes) : F32 := dF d 40
def dJerk (d : Bytes) : F32 := dF d 44
/-- Word `k` of the envelope set the descriptor carries (R190). -/
def dEnvWord (d : Bytes) (k : Nat) : Word := BitVec.ofNat 32 (leAt d (192 + 4 * k) 4)

/-- The law drives a stage port (R190). -/
def dHasPort (d : Bytes) : Bool := dPort d < 192

/-! Supervision block (R213). -/
def dILimit (d : Bytes) : F32 := dF d 160
def dLimScale (d : Bytes) : F32 := dF d 164
def dOvLimit (d : Bytes) : F32 := dF d 168
def dSsRate (d : Bytes) : F32 := dF d 172
def dHicOff (d : Bytes) : Nat := leAt d 176 2
def dHicN (d : Bytes) : Nat := leAt d 178 1
def dHicMax (d : Bytes) : Nat := leAt d 179 1
def dICh (d : Bytes) : Nat := bitsOf (leAt d 180 1) 1 0
def dOvCh (d : Bytes) : Nat := bitsOf (leAt d 180 1) 3 2
def dTlmV (d : Bytes) : Nat := bitsOf (leAt d 180 1) 5 4
def dTlmI (d : Bytes) : Nat := bitsOf (leAt d 180 1) 7 6
def dSection (d : Bytes) : Nat := bitsOf (leAt d 181 1) 2 0
def dFeltEn (d : Bytes) : Bool := bitOf (leAt d 181 1) 3
def dTlmWin (d : Bytes) : Nat := leAt d 182 2
def dTDerate (d : Bytes) : F32 := dF d 184
def dTTrip (d : Bytes) : F32 := dF d 188

/-! SHARE_MPC body (R227). -/
def dMember (d : Bytes) (p : Nat) : Bool := bitOf (leAt d (64 + p / 8) 1) (p % 8)
def dMembers (d : Bytes) : List Nat := (List.range 192).filter (dMember d)
def dMpcSection (d : Bytes) : Nat := bitsOf (leAt d 88 1) 2 0
def dIter (d : Bytes) : Nat := leAt d 89 1
def dIMax (d : Bytes) : F32 := dF d 92
def dIMin (d : Bytes) : F32 := dF d 96
def dDiMax (d : Bytes) : F32 := dF d 100
def dWShare (d : Bytes) : F32 := dF d 104
def dWMove (d : Bytes) : F32 := dF d 108
def dKpred (d : Bytes) : F32 := dF d 112

/-- The indexes of the bound laws that satisfy a test. -/
def Chip.lawsWhere (c : Chip) (t : LawSt → Bool) : List Nat := (c.laws.filter (fun e => e.2.bound && t e.2)).map (·.1)

/-- The bound law that drives a port. -/
def Chip.portLaw (c : Chip) (p : Nat) : Option (Nat × LawSt) :=
  c.laws.find? (fun e => e.2.bound && dHasPort e.2.desc && dPort e.2.desc == p)

/-- The bound SHARE_MPC law of a section (R227). -/
def Chip.shareLaw (c : Chip) (s : Nat) : Option (Nat × LawSt) :=
  c.laws.find? (fun e => e.2.bound && dType e.2.desc == 0x10 && dMpcSection e.2.desc == s)

end Sys2Proof.Machine
end

