-- ==== Sys2Proof/Machine/CalLib.lean ====
section
/-! DEFINITION. CalLib.lean: calibration of a stage channel as the rest of the chip uses it (R194, R312, R313, R550), the codes of
thresholds, and stage temperatures (R223, R322, R439). -/

namespace Sys2Proof.Machine

/-- A finite number above 0. -/
def fPos (x : F32) : Bool := fIsFin x && flt fZero x
/-- A finite number, 0 or more. -/
def fNonNeg (x : F32) : Bool := fIsFin x && fle fZero x
/-- 1 000 000 and other round constants. -/
def fMillion : F32 := 0x49742400#32
/-- Seconds in a number of dq. -/
def fSecs (dq : Nat) : F32 := fdiv (fOfNat dq) (fOfNat dqS)

/-- A number in units of 2^-32, rounded down. -/
def fix32 (x : F32) : Int := fFloor (fmul x (fOfNat (2 ^ 32)))
/-- The binary32 number nearest to a ratio of integers. -/
def fRatI (n d : Int) : F32 :=
  if d = 0 then fNan
  else
    let a := n.natAbs * 2 ^ 200
    let m := 2 * (a / d.natAbs) + (if a % d.natAbs = 0 then 0 else 1)
    fRound (decide (n < 0) != decide (d < 0)) m (-201)

/-- Full scale of a channel (R332). -/
def Chip.calFs (c : Chip) (p ch : Nat) : F32 := c.rdF R.SP_CAL_FS (pgSP p) ch
/-- The channel has a scale (R550). -/
def Chip.scaled (c : Chip) (p ch : Nat) : Bool := fPos (c.calFs p ch)
/-- The channel holds no estimate: UNCAL (R312). -/
def Chip.uncal (c : Chip) (p ch : Nat) : Bool := c.on R.SP_CAL_UNCAL (pgSP p) ch || !c.scaled p ch
/-- In-use gain (R312, R550). -/
def Chip.calGain (c : Chip) (p ch : Nat) : F32 :=
  if !c.scaled p ch then fZero
  else if c.uncal p ch then fdiv (c.calFs p ch) (fOfNat 32766) else c.rdF R.SP_CAL_GAIN (pgSP p) ch
/-- In-use offset, codes (R312). -/
def Chip.calOffset (c : Chip) (p ch : Nat) : F32 := if c.uncal p ch then fZero else c.rdF R.SP_CAL_OFFSET (pgSP p) ch
/-- In-use gain uncertainty (R312). -/
def Chip.calUncG (c : Chip) (p ch : Nat) : F32 :=
  if c.uncal p ch then c.rdVF R.BMK_UNC0_G pgBMK else c.rdF R.SP_CAL_UNC_G (pgSP p) ch
/-- In-use offset uncertainty, physical units (R312). -/
def Chip.calUncO (c : Chip) (p ch : Nat) : F32 :=
  if c.uncal p ch then fmul (c.rdVF R.BMK_UNC0_O pgBMK) (c.calFs p ch) else c.rdF R.SP_CAL_UNC_O (pgSP p) ch
/-- Uncertainty at a physical value (R313). -/
def Chip.calUnc (c : Chip) (p ch : Nat) (x : F32) : F32 := ffma (c.calUncG p ch) (fabs x) (c.calUncO p ch)
/-- Physical value of a code (R194). -/
def Chip.calPhys (c : Chip) (p ch : Nat) (code : Int) : F32 :=
  fmul (c.calGain p ch) (fsub (fOfInt code) (c.calOffset p ch))

/-- The int16 code of a physical value, towards lower codes (R45); the ends of the range where it lies beyond them. -/
def Chip.calCode (c : Chip) (p ch : Nat) (x : F32) : Int :=
  let q := fadd (fdiv x (c.calGain p ch)) (c.calOffset p ch)
  if fIsNan q then 0x7FFF
  else if fle (fOfInt 32767) q then 0x7FFF
  else if fle q (fOfInt (-32768)) then -0x8000
  else fFloor q

/-- The int16 code of a physical value, towards higher codes (R247); the ends of the range where it lies beyond them. -/
def Chip.calCodeUp (c : Chip) (p ch : Nat) (x : F32) : Int :=
  let q := fadd (fdiv x (c.calGain p ch)) (c.calOffset p ch)
  if fIsNan q then 0x7FFF
  else if fle (fOfInt 32767) q then 0x7FFF
  else if fle q (fOfInt (-32768)) then -0x8000
  else -(fFloor (fneg q))

/-- A current or other magnitude as a u16 code, lowered by the present uncertainty (R45, R293). -/
def Chip.magCode (c : Chip) (p ch : Nat) (x : F32) : Nat :=
  if c.scaled p ch then (c.calCode p ch (fsub x (c.calUnc p ch x))).toNat else 0

/-! Samples. -/

/-- Sample of channel `ch` last received on a port. -/
def PortSt.smp (t : PortSt) (ch : Nat) : Sample :=
  if ch = 0 then t.smp0 else if ch = 1 then t.smp1 else if ch = 2 then t.smp2 else t.smp3

/-- The code of a sample as an integer. -/
def Sample.int (s : Sample) : Int := s.code.toInt

/-- Physical value of the latest sample of a channel. -/
def Chip.smpPhys (c : Chip) (p ch : Nat) : F32 := c.calPhys p ch ((c.port p).smp ch).int

/-- A sample that OVR and SUSPECT do not exclude. -/
def Sample.clean (s : Sample) : Bool := s.valid && !s.ovr && !s.susp

/-! Temperatures. -/

/-- Item value of a sensor that is not fitted (R109). -/
def tempAbsent : BitVec 20 := 0x80000

/-- A temperature item in °C (R109). -/
def tempC (v : BitVec 20) : F32 := fdiv (fOfInt v.toInt) (fOfNat 16)

/-- THM.SS_FAILED bit of an item of a port (R439). -/
def Chip.ssFailed (c : Chip) (p item : Nat) : Bool :=
  let n := 2 * p + item
  bitOf (c.rd R.THM_SS_FAILED pgTHM (n / 32)) (n % 32)

/-- The reading of one item: none where not fitted, the trip temperature where failed (R223, R297, R439). -/
def Chip.tempOf (c : Chip) (p item : Nat) (trip : F32) : Option F32 :=
  let v := if item = 0 then (c.port p).temp0 else (c.port p).temp1
  if v = tempAbsent then none else if c.ssFailed p item then some trip else some (tempC v)

/-- The stage temperature: the higher of the items; none where no item is fitted (R223, R322). -/
def Chip.stageTemp (c : Chip) (p : Nat) (trip : F32) : Option F32 :=
  match c.tempOf p 0 trip, c.tempOf p 1 trip with
  | some a, some b => some (fmax a b)
  | some a, none => some a
  | none, b => b

/-- The trip temperature of a port's phase or feeder (R439): T_TRIP of its bound law, or TJ_TRIP. -/
def Chip.tripTemp (c : Chip) (p : Nat) : F32 :=
  match c.portLaw p with
  | some (_, l) => dTTrip l.desc
  | none => c.rdF R.SP_TJ_TRIP (pgSP p)

/-- Temperature bin of a stage (R322); a stage without a fitted sensor is in bin 0. -/
def Chip.tempBin (c : Chip) (p : Nat) : Nat :=
  match c.stageTemp p (c.tripTemp p) with
  | none => 0
  | some t => if flt t (fOfNat 25) then 0 else if flt t (fOfNat 50) then 1 else if flt t (fOfNat 75) then 2 else 3

/-! Thresholds that a stage end compares codes with. -/

/-- OV_CFG of a port whose phase is driven by a bound law: level and channel (R215, R221, R550). -/
def Chip.ovWord (c : Chip) (p : Nat) (d : Bytes) : Nat :=
  let ch := dOvCh d
  let lim := dOvLimit d
  let lvl : Int :=
    if feq lim fZero then 0x7FFF
    else if c.scaled p ch then c.calCode p ch (fsub lim (c.calUnc p ch lim)) else 0x7FFF
  unsgn 16 lvl + 65536 * ch

/-- TRIP_CFG of a feeder: level and channel (R293, R550). -/
def Chip.tripWord (c : Chip) (p : Nat) : Nat :=
  let b := pgSP p
  let ch := c.rd R.SP_CH_I b
  c.magCode p ch (c.rdF R.SP_TRIP_A b) + 65536 * ch

end Sys2Proof.Machine
end

