-- ==== Sys2Proof/Machine/PhaseLib.lean ====
section
/-! DEFINITION. PhaseLib.lean: proposals to the twin (R340), the states of phases and feeders, and the triggers their changes
cause (R216, R219, R236, R264, R289). -/

namespace Sys2Proof.Machine

/-! Proposals (R340). In SOLO, and before the chip has a role, a change is made at the next tick boundary (R171). -/

/-- Proposes a change at an agreed tick not before tick `x0` and at least 8 ticks ahead; in SOLO it stands for the next tick
boundary (R171, R340). -/
def Chip.proposeAt (c : Chip) (x0 : Nat) (item : AgreedItem) : Chip :=
  let st := c.rd R.TWIN_STATE pgTWIN
  if st = 0 ∨ st = 1 then
    c.modTwin (fun t => { t with agree := t.agree ++ [{ x := max x0 (c.tick + 1), item := item, acked := true, mine := true }] })
  else if c.leads then
    let x := max x0 (c.tick + 8)
    (c.modTwin (fun t => { t with agree := t.agree ++ [{ x := x, item := item, acked := false, mine := true }] })).send (.chain (.propose x item))
  else c

/-- Proposes a change at the earliest agreed tick. -/
def Chip.propose (c : Chip) (item : AgreedItem) : Chip := c.proposeAt 0 item

/-- Bit `n` of a page field of 8 or more bits takes a value. -/
def Chip.setBit (c : Chip) (f : Fld) (b n : Nat) (on : Bool) : Chip :=
  let v := c.rd f b
  let v1 := setBitN v n on
  if v1 = v then c else c.up f b v1

/-! Felting triggers (R236). -/

/-- A section number as an index. -/
def secFin (s : Nat) : Sec := ⟨s % 8, Nat.mod_lt _ (by decide)⟩
/-- A port number as an index. -/
def portFin (p : Nat) : Port := ⟨p % 192, Nat.mod_lt _ (by decide)⟩

/-- A recompute of a section's offsets is triggered and waits for its agreed tick (R236). -/
def Chip.feltTrigger (c : Chip) (s : Nat) : Chip :=
  (c.setBit R.FELT_PENDING pgFELT s true).propose (.felt (secFin s))

/-- The phase state of a port (R226). -/
def Chip.ph (c : Chip) (p : Nat) : Nat := c.rd R.SP_PH_STATE (pgSP p)

/-- A Felting member of its section (R233). -/
def Chip.feltMember (c : Chip) (p : Nat) : Bool :=
  match c.portLaw p with
  | none => false
  | some (_, l) => dFeltEn l.desc && (c.ph p == 1 || c.ph p == 2 || (c.port p).cmd.mode == 2)

/-- The section of a port's law. -/
def Chip.portSec (c : Chip) (p : Nat) : Option Nat := (c.portLaw p).map (fun e => dSection e.2.desc)

/-- The section in which a port is a Felting member. -/
def Chip.feltSec (c : Chip) (p : Nat) : Option Nat := if c.feltMember p then c.portSec p else none

/-- The offset of a port is 0 (R233, R241). -/
def Chip.phiZero (c : Chip) (p : Nat) : Chip :=
  if c.rd R.SP_PHI (pgSP p) == 0 && c.rd R.SP_PHI_TGT (pgSP p) == 0 && !(c.port p).moving then c
  else (c.hw (pgSP p) [(R.SP_PHI, 0, 0), (R.SP_PHI_TGT, 0, 0)]).modPort p (fun t => { t with phiR := 0, phiV := 0, phiA := 0, moving := false })

/-- A recompute of a section is triggered while Felting acts on it (R236, R241). -/
def Chip.feltPoke (c : Chip) (s : Option Nat) : Chip :=
  match s with
  | some s => if c.on R.FELT_EN pgFELT s then c.feltTrigger s else c
  | none => c

/-- MEMBERS of a section follows its Felting members (R233, R241). -/
def Chip.showFelt (c : Chip) (s : Nat) : Chip :=
  let n := ((upTo 192).filter (fun p => c.feltMember p && c.portSec p == some s)).length
  if c.rd R.FELT_MEMBERS pgFELT s = n then c else c.up R.FELT_MEMBERS pgFELT n s

/-- A port that has joined or left the members of a section triggers its recompute; one that joins where Felting does not act has the
offset 0 (R233, R236, R241). -/
def Chip.feltJudge (c : Chip) (p : Nat) (was : Option Nat) : Chip :=
  let is := c.feltSec p
  if is = was then c
  else
    let c0 := match was with
      | some s => ((c.modSec s (fun q => { q with members := q.members.filter (fun x => x != p) })).showFelt s)
      | none => c
    let c1 := (c0.feltPoke was).feltPoke is
    match is with
    | some s =>
      let c2 := c1.showFelt s
      if c2.on R.FELT_EN pgFELT s then c2 else (c2.phiZero p).modSec s (fun q => { q with members := q.members ++ [p] })
    | none => c1

/-- A port whose law has FELT_EN = 0 has the offset 0 (R233). -/
def Chip.phiRule (c : Chip) (p : Nat) : Chip :=
  match c.portLaw p with
  | some (_, l) => if dFeltEn l.desc then c else c.phiZero p
  | none => c

/-- SS_BLOCKED: SS_RATE is 0 in SOFT_START (R215, R226). -/
def Chip.ssJudge (c : Chip) (p : Nat) : Chip :=
  let blocked := c.ph p == 1 && (match c.portLaw p with | some (_, l) => feq (dSsRate l.desc) fZero | none => false)
  if c.on R.SP_SS_BLOCKED (pgSP p) == blocked then c else c.up R.SP_SS_BLOCKED (pgSP p) (b2n blocked)

/-! Commands waiting for their slot. -/

/-- A port's new command, to be sent in the first command slot (R111). -/
def Chip.setCmd (c : Chip) (p : Nat) (k : Cmd) : Chip := c.modPort p (fun t => { t with cmdNew := some k, cmdTick := c.tick })
/-- A command with MODE STOP (R113). -/
def stopCmd : Cmd := { mode := 0 }

/-! Phase states (R216). -/

/-- What leaving a state clears: HIC_COUNT with LATCHED, a clear asked for and CLEAR_FAIL with CROWBAR (R218, R222). -/
def Chip.phLeave (c : Chip) (p was : Nat) : Chip :=
  if was = 4 then c.up R.SP_HIC_COUNT (pgSP p) 0
  else if was = 5 then (let c1 := c.modPort p (fun t => { t with clearReq := false }); if c1.on R.SP_CLEAR_FAIL (pgSP p) then c1.up R.SP_CLEAR_FAIL (pgSP p) 0 else c1)
  else c

/-- The phase takes a state; a member that joins or leaves the Felting members triggers a recompute (R216, R218, R236). -/
def Chip.phSet (c : Chip) (p st : Nat) : Chip :=
  let was := c.ph p
  let c1 := if was = st then c else (c.up R.SP_PH_STATE (pgSP p) st).phLeave p was
  let c2 := if st = 2 then (if was = 2 then c1 else c1.arm (tmKey tmHicClear p) dqS) else c1.disarm (tmKey tmHicClear p)
  (c2.ssJudge p).feltJudge p (c.feltSec p)

/-- The phase enters SOFT_START: its law starts as a transfer with U_MANUAL taken as U_MIN, and the ramp starts from the
measured value; a law in manual enters RUN at once (R219). -/
def Chip.phStart (c : Chip) (p : Nat) : Chip :=
  match c.portLaw p with
  | none => c
  | some (i, l) =>
    let d := l.desc
    let c1 := c.setLaw i { l with auto := false, preset := some (dUMin d), profSet := false, rSs := c.smpPhys p (dChY d) }
    let c2 := c1.up R.SP_LIM_RUN (pgSP p) 0
    c2.phSet p (if dAuto d then 1 else 2)

/-- A hiccup is allowed (R218). -/
def Chip.hicAllowed (c : Chip) (p : Nat) (d : Bytes) : Bool :=
  dHicMax d == 0 || decide (c.rd R.SP_HIC_COUNT (pgSP p) < dHicMax d)

/-- The phase latches off (R216, R217, R218). -/
def Chip.phLatch (c : Chip) (p : Nat) : Chip := ((c.phSet p 4).setCmd p stopCmd).raise 0x42 p

/-- The phase hiccups, or latches off where no hiccup is allowed (R216 to R218). -/
def Chip.phHiccup (c : Chip) (p : Nat) (d : Bytes) : Chip :=
  if c.hicAllowed p d then
    let n := c.rd R.SP_HIC_COUNT (pgSP p)
    let c1 := (c.up R.SP_HIC_COUNT (pgSP p) (min 255 (n + 1))).bump R.SP_CNT_HICCUP (pgSP p)
    (((c1.phSet p 3).setCmd p stopCmd).arm (tmKey tmHiccup p) (dHicOff d * dqMs)).raise 0x41 p
  else c.phLatch p

/-- The phase enters CROWBAR (R222). -/
def Chip.phCrowbar (c : Chip) (p : Nat) : Chip :=
  if c.ph p = 0 ∨ c.ph p = 5 then c
  else (((c.phSet p 5).disarm (tmKey tmHiccup p)).setCmd p stopCmd).raise 0x43 p

/-- The phase is LOST (R216). -/
def Chip.phLost (c : Chip) (p : Nat) : Chip :=
  if c.ph p = 0 ∨ c.ph p = 6 then c else (c.phSet p 6).disarm (tmKey tmHiccup p)

/-! Feeder states (R289). -/

/-- The feeder state of a port. -/
def Chip.fdState (c : Chip) (p : Nat) : Nat := c.rd R.SP_FD_STATE (pgSP p)

/-- The SIDE_DN messages that wait for a port are dropped, the one in hand with them (R310). -/
def Chip.sideDrop (c : Chip) (p : Nat) : Chip :=
  c.modPort p (fun t => { t with
    cfgQ := t.cfgQ.filter (fun q => q.op != 14)
    req := match t.req with | some q => if q.op = 14 then none else some q | none => none })

/-- The feeder takes a state; every change is written to the Field Book, and the limits of the state begin (R289, R306, R307). -/
def Chip.fdSet (c : Chip) (p st : Nat) : Chip :=
  let was := c.fdState p
  if was = st then c
  else
    let c1 := c.up R.SP_FD_STATE (pgSP p) st
    let c2 := c1.record 0x112 p 0 (c.owner (pgSP p)) [BitVec.ofNat 8 was, BitVec.ofNat 8 st] true
    let c4 := if st = 5 ∨ st = 6 then (if was = 5 ∨ was = 6 then c2 else c2.arm (tmKey tmRetries p) (10 * dqS))
      else c2.disarm (tmKey tmRetries p)
    let c5 := if st = 4 then c4.arm (tmKey tmInrush p) (c4.rd R.SP_INRUSH_MS (pgSP p) * dqMs) else c4.disarm (tmKey tmInrush p)
    let c6 := if st = 8 then c5.arm (tmKey tmFdRetry p) (c5.rd R.SP_RETRY_MS (pgSP p) * dqMs) else c5.disarm (tmKey tmFdRetry p)
    if st = 2 then
      let c7 := (c6.modFd p (fun f => { f with srcTry := true })).arm (tmKey tmCaps p) 0
      if c7.rd R.SP_ROLE_PREF (pgSP p) = 1 then c7.arm (tmKey tmRole p) (75 * dqMs) else c7
    else
      let c7 := (c6.disarm (tmKey tmRole p)).disarm (tmKey tmCaps p)
      if st = 1 then c7.sideDrop p else c7

/-- NEG_CONTRACTS follows the contracts in force. -/
def Chip.countContracts (c : Chip) : Chip :=
  let n := ((upTo 192).filter (fun p => c.on R.SP_CONTRACT (pgSP p))).length
  if c.rd R.NEG_CONTRACTS pgNEG = n then c else c.up R.NEG_CONTRACTS pgNEG n

/-- The feeder's contract is dropped: its messages and timers end (R289, R306). -/
def Chip.fdDrop (c : Chip) (p : Nat) : Chip :=
  let c1 := if c.on R.SP_CONTRACT (pgSP p) || c.rd R.SP_P_CONTRACT (pgSP p) != 0 then
    (c.hw (pgSP p) [(R.SP_CONTRACT, 0, 0), (R.SP_P_CONTRACT, 0, 0)]).countContracts else c
  let c2 := c1.modFd p (fun f => { f with out := [], wait := none, rspTimer := false, offers := [], pReq := 0, softEx := false, making := false })
  (c2.disarm (tmKey tmGoodCrc p)).disarm (tmKey tmRsp p)

/-- The feeder goes to OFF with its contract dropped (R289). -/
def Chip.fdOff (c : Chip) (p : Nat) : Chip :=
  if c.fdState p = 0 then c else ((c.fdDrop p).fdSet p 0).setCmd p stopCmd

end Sys2Proof.Machine
end

