-- ==== Sys2Proof/Machine/Frames.lean ====
section
/-! DEFINITION. Frames.lean: the 24-byte frames of the stage link (R101 to R132): CRC-32C, header, and the bodies, built and taken
apart. -/

namespace Sys2Proof.Machine

/-- One bit of the reflected CRC-32C (R103). -/
def crcBit (c : Nat) : Nat := if c % 2 = 1 then (c / 2) ^^^ 0x82F63B78 else c / 2

/-- One byte of the CRC. -/
def crcByte (c b : Nat) : Nat := crcBit (crcBit (crcBit (crcBit (crcBit (crcBit (crcBit (crcBit (c ^^^ b))))))))

/-- CRC-32C of a byte string (R103). -/
def crc32c (bs : Bytes) : Nat := (bs.foldl (fun c b => crcByte c b.toNat) 0xFFFFFFFF) ^^^ 0xFFFFFFFF

/-- The check value that R103 gives over "123456789". -/
theorem crc32c_check : crc32c [0x31, 0x32, 0x33, 0x34, 0x35, 0x36, 0x37, 0x38, 0x39] = 0xE3069283 := by decide +kernel

/-- A frame header (R102). -/
structure Hdr where
  typ : Nat
  twin : Bool
  lead : Bool
  degraded : Bool
  epoch : Nat
  seq : Nat
deriving DecidableEq, Repr

/-- The four header bytes (R102). -/
def hdrBytes (h : Hdr) : Bytes :=
  leBytes (h.typ % 16 + 16 * b2n h.twin + 32 * b2n h.lead + 64 * b2n h.degraded + 256 * (h.epoch % 256) + 65536 * (h.seq % 65536)) 4

/-- The header of a frame's bytes (R102). -/
def hdrOf (bs : Bytes) : Hdr :=
  let v := leAt bs 0 4
  { typ := v % 16, twin := bitOf v 4, lead := bitOf v 5, degraded := bitOf v 6, epoch := bitsOf v 15 8, seq := bitsOf v 31 16 }

/-- A frame: header, 16 body bytes, CRC (R101, R103). -/
def mkFrame (h : Hdr) (body : Bytes) : Bytes :=
  let d := hdrBytes h ++ sliceBytes body 0 16
  d ++ leBytes (crc32c d) 4

/-- A received frame passes: no code violation, 24 characters, CRC right (R103). -/
def frameOk (f : Frame) : Bool :=
  !f.codeErr && f.bytes.length == 24 && leAt f.bytes 20 4 == crc32c (f.bytes.take 20)

/-- The 16 body bytes of a frame. -/
def bodyOf (f : Frame) : Bytes := sliceBytes f.bytes 4 16

/-- Upstream TYPE codes (R106). -/
def upType (t : Nat) : Bool := t == 0 || t == 1 || t == 3 || t == 5 || t == 7
/-- Downstream TYPE codes (R106). -/
def downType (t : Nat) : Bool := t == 0 || t == 2 || t == 4 || t == 6 || t == 8 || t == 9

/-- The CMD body (R112). -/
def cmdBody (c : Cmd) : Bytes :=
  leBytes (c.applyTick.toNat + 2 ^ 16 * (c.period % 2 ^ 20) + 2 ^ 36 * (c.on0 % 2 ^ 20) + 2 ^ 56 * (c.off0 % 2 ^ 20)
    + 2 ^ 76 * (c.on1 % 2 ^ 20) + 2 ^ 96 * (c.off1 % 2 ^ 20) + 2 ^ 116 * (c.mode % 16) + 2 ^ 120 * (c.envIdx % 16)
    + 2 ^ 124 * b2n c.ewarn) 16

/-- The command in a CMD frame (R112). -/
def cmdOf (h : Hdr) (body : Bytes) : Cmd :=
  let v := leAt body 0 16
  { lead := h.lead, degraded := h.degraded, epoch := BitVec.ofNat 8 h.epoch, seq := BitVec.ofNat 16 h.seq,
    applyTick := BitVec.ofNat 16 v, period := bitsOf v 35 16, on0 := bitsOf v 55 36, off0 := bitsOf v 75 56,
    on1 := bitsOf v 95 76, off1 := bitsOf v 115 96, mode := bitsOf v 119 116, envIdx := bitsOf v 123 120, ewarn := bitOf v 124 }

/-- The body of the worked example of R117, written out there byte by byte. -/
theorem cmdBody_example :
    cmdBody { applyTick := 0x4246, period := 32000, on0 := 8000, off0 := 23360, mode := 1, envIdx := 2 }
      = [0x46, 0x42, 0x00, 0x7D, 0x00, 0xF4, 0x01, 0x40, 0x5B, 0x00, 0x00, 0x00, 0x00, 0x00, 0x10, 0x02] := by decide +kernel

/-- The SYNC body (R118). -/
def syncBody (t1 delay rspTick : Nat) (echo step : Bool) : Bytes :=
  leBytes t1 8 ++ leBytes delay 4 ++ leBytes rspTick 2 ++ leBytes (b2n echo + 2 * b2n step) 2

/-- The FENCE body (R121). -/
def fenceBody (adm : Bool) (newEpoch : Nat) : Bytes := leBytes (b2n adm + 256 * (newEpoch % 256)) 16

/-- The CFG body (R127). -/
def cfgBody (q : CfgReq) : Bytes :=
  leBytes (q.op % 16 + 16 * (q.tag % 16)) 2 ++ leBytes q.rspTick 2 ++ leBytes q.addr 2 ++ leBytes (q.count % 4) 2
    ++ leBytes q.d0.toNat 4 ++ leBytes q.d1.toNat 4

/-- The CFG_RSP body (R128). -/
def rspBody (op tag status reqSeq addr count d0 d1 : Nat) : Bytes :=
  leBytes (op % 16 + 16 * (tag % 16) + 256 * status) 2 ++ leBytes reqSeq 2 ++ leBytes addr 2 ++ leBytes (count % 4) 2
    ++ leBytes d0 4 ++ leBytes d1 4

/-- The ANNOUNCE body (R132). -/
def announceBody (i : SeIdent) : Bytes :=
  [0, i.stype, i.channels, i.pairs] ++ leBytes i.vendor.toNat 2 ++ leBytes i.model.toNat 2 ++ leBytes i.serial.toNat 4
    ++ [i.linkVer, i.caps, 0, 0]

/-- What an ANNOUNCE body says (R132). -/
def announceOf (b : Bytes) : SeIdent :=
  { stype := BitVec.ofNat 8 (leAt b 1 1), channels := BitVec.ofNat 8 (leAt b 2 1), pairs := BitVec.ofNat 8 (leAt b 3 1),
    vendor := BitVec.ofNat 16 (leAt b 4 2), model := BitVec.ofNat 16 (leAt b 6 2), serial := BitVec.ofNat 32 (leAt b 8 4),
    linkVer := BitVec.ofNat 8 (leAt b 12 1), caps := BitVec.ofNat 8 (leAt b 13 1) }

/-- The TIME_ECHO body (R132). -/
def echoBody (t2 t3 : Nat) : Bytes := [1, 0, 0, 0] ++ leBytes t2 4 ++ leBytes t3 4 ++ leBytes 0 4

/-- The four samples of a tick. -/
structure Smps where
  s0 : Sample
  s1 : Sample
  s2 : Sample
  s3 : Sample
deriving DecidableEq, Repr

/-- The SAMPLE body (R108). -/
def sampleBody (s : StageEnd) (tick auxId auxVal : Nat) : Bytes :=
  let flags (f : Sample → Bool) : Nat := b2n (f s.smp0) + 2 * b2n (f s.smp1) + 4 * b2n (f s.smp2) + 8 * b2n (f s.smp3)
  leBytes s.smp0.code.toNat 2 ++ leBytes s.smp1.code.toNat 2 ++ leBytes s.smp2.code.toNat 2 ++ leBytes s.smp3.code.toNat 2
    ++ leBytes (flags Sample.ovr + 16 * flags Sample.susp) 1
    ++ leBytes (s.state % 4 + 4 * b2n s.disagree + 8 * b2n s.appliedB + 16 * b2n s.epochValid + 32 * b2n s.admitA
        + 64 * b2n s.admitB + 128 * b2n (s.sideUp != [])) 1
    ++ leBytes (b2n s.fastTrip + 2 * b2n s.crowbar + 4 * b2n s.envClip + 8 * b2n s.moisture + 16 * b2n s.localFault) 1
    ++ leBytes (tick % 65536 + 2 ^ 16 * (auxId % 16) + 2 ^ 20 * (auxVal % 2 ^ 20)) 5

/-- Channel `c` of a SAMPLE body (R108). -/
def sampleOf (body : Bytes) (tick c : Nat) : Sample :=
  let f := leAt body 8 1
  { code := BitVec.ofNat 16 (leAt body (2 * c) 2), ovr := bitOf f c, susp := bitOf f (4 + c), tick := tick, valid := true }

end Sys2Proof.Machine
end

