-- ==== Sys2Proof/Machine/StageEnd.lean ====
section
/-! DEFINITION. StageEnd.lean: what a stage end does on its own and with the frames it receives (chapters Skoiz stage link and
Stage-end duties). A stage end works by its local Datum. -/

namespace Sys2Proof.Machine

/-- The stage end's present tick (R120). -/
def StageEnd.tick (s : StageEnd) : Nat := s.datum / dqTick

/-- CAPS bits of an ANNOUNCE (R132). -/
def seCap (i : SeIdent) (n : Nat) : Bool := i.caps.getLsbD n
/-- A FEED stage end (R132). -/
def seFeed (i : SeIdent) : Bool := i.stype == 2

/-- The link is admitted (R122). -/
def StageEnd.admitted (s : StageEnd) : Link → Bool
  | .a => s.admitA
  | .b => s.admitB

/-! Register map (R160). -/

/-- Reset value of a word of the register map. -/
def seReset (w : Nat) : Nat := if w = 3 ∨ w = 4 then 0x7FFF else if w = 5 then 0xC8 else 0

/-- The bits a word of the register map has (R160). -/
def seMask (w : Nat) : Nat :=
  if w = 0 then 3 else if w = 1 then 7 else if w = 3 ∨ w = 4 ∨ w = 6 then 0x3FFFF else if w = 5 then 0xFFFFF
  else if 0x10 ≤ w ∧ w < 0x50 then (if w % 4 = 0 then 0x800FFFFF else if w % 4 = 1 then 0xFFFFF else 0xFFFFFFFF)
  else 0

/-- The word exists on this stage end: listed, and of a function it declares (R160). -/
def seExists (i : SeIdent) (w : Nat) : Bool :=
  w == 0 || w == 1 || (w == 3 && seCap i 1) || (w == 4 && seCap i 0) || (w == 5 && seCap i 2) || (w == 6 && seCap i 5)
  || (decide (0x10 ≤ w) && decide (w < 0x50)) || (decide (0x60 ≤ w) && decide (w ≤ 0x66))

/-- The value of a word in effect. -/
def StageEnd.word (s : StageEnd) (w : Nat) : Nat :=
  if 0x60 ≤ w ∧ w ≤ 0x66 then
    (([s.cntCrc, s.cntMiss, s.cntDisagree, s.cntStale, s.cntLate, s.cntInvalid, s.cntHold] : List Word)[w - 0x60]?.getD 0).toNat
  else if w = 1 then 0
  else (mapGet s.words w (BitVec.ofNat 32 (seReset w))).toNat

/-- The value a READ returns: an envelope write that is not yet in effect included (R161). -/
def StageEnd.readWord (s : StageEnd) (w : Nat) : Nat :=
  match (s.envNew.filter (fun e => e.2.1 == w)).getLast? with
  | some e => e.2.2.toNat
  | none => s.word w

/-- A word may be written (R160): it exists, is not read-only, and SAFE_ACT is an action the stage end has. -/
def seWritable (i : SeIdent) (w v : Nat) : Bool :=
  seExists i w && decide (w < 0x60) && !(w == 0 && (v % 4 == 3 || (v % 4 == 2 && !seCap i 5)))

/-! The passed FET, latches and the SAFE action. -/

/-- Discards a frame as STALE (R122, R123). -/
def StageEnd.stale (s : StageEnd) : StageEnd := { s with cntStale := s.cntStale + 1 }
/-- Discards a frame as INVALID. -/
def StageEnd.invalid (s : StageEnd) : StageEnd := { s with cntInvalid := s.cntInvalid + 1 }
/-- Discards a request or command as LATE (R116). -/
def StageEnd.late (s : StageEnd) : StageEnd := { s with cntLate := s.cntLate + 1 }

/-- The full tick that a 16-bit target names, when it lies in the window of R116 and has not begun. -/
def StageEnd.window (s : StageEnd) (target seq : Nat) : Option Nat :=
  let d := (target + 65536 - seq % 65536) % 65536
  let ahead := (target + 65536 - s.tick % 65536) % 65536
  if 2 ≤ d ∧ d ≤ 16 ∧ later 16 target s.tick then some (s.tick + ahead) else none

/-! The receivers (R100). -/

/-- A frame reaches a receiver: its K28.5 gives alignment, four code violations in a row take it, 64 frames that pass make the
link UP. -/
def LinkRx.frame (r : LinkRx) (codeErr good : Bool) (now : Nat) : LinkRx :=
  let bad := if codeErr then min 4 (r.bad + 1) else 0
  let run := if good then min 64 (r.good + 1) else 0
  { aligned := !codeErr || (r.aligned && decide (bad < 4)), bad := bad, got := true, good := run, up := r.up || run == 64,
    last := if good then now else r.last }

/-- A tick ends at a receiver: a slot without a frame counts, and 1,024 ticks without a good frame make the link DOWN. -/
def LinkRx.tick (r : LinkRx) (now : Nat) : LinkRx :=
  let bad := if r.got then r.bad else min 4 (r.bad + 1)
  let down := r.up && decide (r.last + 1024 * dqTick ≤ now)
  { r with aligned := r.aligned && decide (bad < 4), bad := bad, got := false, good := if down then 0 else r.good, up := r.up && !down }

/-- A frame has come on a link. -/
def StageEnd.rxFrame (s : StageEnd) (l : Link) (f : Frame) (now : Nat) : StageEnd :=
  match l with
  | .a => { s with rxA := s.rxA.frame f.codeErr (frameOk f) now }
  | .b => { s with rxB := s.rxB.frame f.codeErr (frameOk f) now }

/-- Checks of R103 and R105 on a downstream frame; `h` handles one of the wanted type. A good frame of another type is not
this event and changes nothing but the receiver. -/
def seReceive (c : Chip) (p : Nat) (l : Link) (f : Frame) (want : Nat) (h : Hdr → Bytes → StageEnd → StageEnd) : Chip :=
  let s := (c.stage p).rxFrame l f c.now
  if !s.powered then c
  else if !frameOk f then c.setStage p { s with cntCrc := s.cntCrc + 1 }
  else
    let hd := hdrOf f.bytes
    if !downType hd.typ then c.setStage p s.invalid
    else if hd.typ = want then c.setStage p (h hd (bodyOf f) s)
    else c.setStage p s

/-! Commands (R116, R117, R123, R125, R149, R150). -/

/-- MODE RUN or SPIN. -/
def runMode (m : Nat) : Bool := m == 1 || m == 2
/-- MODE PASS_ON or PASS_RAMP. -/
def passMode (m : Nat) : Bool := m == 3 || m == 4

/-- A CMD frame is well formed for this stage end (R117, R292). -/
def StageEnd.cmdOk (s : StageEnd) (c : Cmd) : Bool :=
  if runMode c.mode then
    c.period != 0 && (s.ident.pairs == 0 || (decide (c.on0 < c.period) && decide (c.off0 < c.period)))
    && (decide (s.ident.pairs.toNat < 2) || (decide (c.on1 < c.period) && decide (c.off1 < c.period)))
  else if passMode c.mode then seFeed s.ident
  else c.mode == 0

/-- Commands pending from a link. -/
def StageEnd.pend (s : StageEnd) : Link → List Cmd
  | .a => s.pendA
  | .b => s.pendB

/-- The stage end takes a CMD frame (R116, R117, R123); without an epoch, no epoch and no admission is checked. -/
def StageEnd.takeCmd (s : StageEnd) (l : Link) (h : Hdr) (body : Bytes) : StageEnd :=
  let c := cmdOf h body
  if s.epochValid && !(s.admitted l && c.epoch == s.epoch) then s.stale
  else match s.window c.applyTick.toNat h.seq with
    | none => s.late
    | some _ =>
      if !s.cmdOk c || decide (4 ≤ (s.pend l).length) || (s.pend l).any (fun x => x.applyTick == c.applyTick) then s.invalid
      else match l with
        | .a => { s with pendA := s.pendA ++ [c] }
        | .b => { s with pendB := s.pendB ++ [c] }

/-- An envelope set can be used (R149, R150). -/
def StageEnd.envUsable (s : StageEnd) (e : Nat) : Bool :=
  let w0 := s.word (0x10 + 4 * e)
  let pmax := s.word (0x11 + 4 * e) % 2 ^ 20
  bitOf w0 31 && pmax != 0 && decide (w0 % 2 ^ 20 ≤ pmax)

/-- The clip of R150 for one switch pair: the new edges and on-duration. -/
def clipPair (w2 w3 period p on off last : Nat) : Nat × Nat × Nat :=
  let on1 := if p = period then on else on * p / period
  let off1 := if p = period then off else off * p / period
  let len := (off1 + p - on1 % p) % p
  let step := (w2 / 65536) * p / 65536
  let len1 := min (max len (last - step)) (last + step)
  let len2 := min (min len1 (w2 % 65536 * p / 65536)) (p - w3 / 65536)
  let len3 := if len2 < w3 % 65536 then 0 else len2
  (on1, (on1 + len3) % p, len3)

/-- A command in RUN or SPIN passes through its envelope set (R150). -/
def StageEnd.clip (s : StageEnd) (c : Cmd) : StageEnd :=
  let b := 0x10 + 4 * c.envIdx
  let p := min (max c.period (s.word b % 2 ^ 20)) (s.word (b + 1) % 2 ^ 20)
  let w2 := s.word (b + 2)
  let w3 := s.word (b + 3)
  let n := s.ident.pairs.toNat
  let r0 := clipPair w2 w3 c.period p c.on0 c.off0 s.len0
  let r1 := clipPair w2 w3 c.period p c.on1 c.off1 s.len1
  let c1 := if n = 0 then c else { c with on0 := r0.1, off0 := r0.2.1 }
  let c2 := if n < 2 then c1 else { c1 with on1 := r1.1, off1 := r1.2.1 }
  let c3 := { c2 with period := p }
  { s with cmd := c3, envClip := decide (c3 ≠ c), len0 := if n = 0 then s.len0 else r0.2.2, len1 := if n < 2 then s.len1 else r1.2.2 }

/-- VOUT_TGT of a PASS command (R292). -/
def Cmd.voutTgt (c : Cmd) : Int := sgn 16 (c.on0 % 65536)
/-- ILIM of a PASS command (R292). -/
def Cmd.ilim (c : Cmd) : Nat := c.off0 % 65536
/-- DVDT of a PASS command (R292). -/
def Cmd.dvdt (c : Cmd) : Nat := c.on1 % 65536
/-- VCH of a PASS command (R292). -/
def Cmd.vch (c : Cmd) : Nat := c.off1 % 4
/-- ICH of a PASS command (R292). -/
def Cmd.ich (c : Cmd) : Nat := c.off1 / 4 % 4

/-- The present sample of a channel (R141). -/
def StageEnd.smp (s : StageEnd) (ch : Nat) : Sample :=
  if ch = 0 then s.smp0 else if ch = 1 then s.smp1 else if ch = 2 then s.smp2 else s.smp3

/-- The current of a PASS command's ICH has reached ILIM (R292). -/
def StageEnd.atIlim (s : StageEnd) : Bool := decide (s.cmd.ilim ≤ (s.smp s.cmd.ich).code.toInt.natAbs)

/-- How the pass FET is driven (R292): 0 open, 1 linearly along the ramp, 2 fully enhanced, 3 linearly at ILIM. -/
def StageEnd.passDrive (s : StageEnd) : Nat :=
  if !s.passFet then 0 else if s.passLim then 3 else if s.cmd.mode = 4 then 1 else 2

/-- A tick of a closed pass FET under a PASS command (R292): at ILIM it regulates, which holds the ramp; below it the ramp of PASS_RAMP
moves on towards VOUT_TGT by at most DVDT, and PASS_ON is fully enhanced. The target of a tick is one sample old, and a ramp begins from
the sample of VCH (DESIGN CHOICE, log 198). -/
def StageEnd.passStep (s : StageEnd) : StageEnd :=
  if !s.passFet || !passMode s.cmd.mode then { s with passLim := false }
  else if s.atIlim then { s with passLim := true }
  else if s.cmd.mode = 4 then
    let tgt := 20 * s.cmd.voutTgt
    let step : Int := s.cmd.dvdt
    { s with passLim := false, passRef := if s.passRef < tgt then min tgt (s.passRef + step) else max tgt (s.passRef - step) }
  else { s with passLim := false }

/-- Moisture must be measured before the pass FET closes: the last measurement is 100 ms old or more (R156). -/
def StageEnd.mustMeasure (s : StageEnd) (now : Nat) : Bool :=
  seCap s.ident 2 && (match s.measured with | none => true | some t => decide (t + 100 * dqMs ≤ now))

/-- A TRIP_LEVEL of 0 holds the pass FET open (R151). -/
def StageEnd.heldOpen (s : StageEnd) : Bool := seFeed s.ident && seCap s.ident 1 && s.word 3 % 65536 == 0

/-- The sideband is silent: no frame of the stage end's own, and none from the tray, is on the line (R156, R158). -/
def StageEnd.sideIdle (s : StageEnd) (now : Nat) : Bool := decide (s.lineFree ≤ now)

/-- The pass FET follows a PASS command: closed unless tripped, held open, wet or measuring (R151, R153, R156, R157, R292). A measurement
that it needs begins once the sideband is silent; the ramp of PASS_RAMP begins at the present value of VCH. -/
def StageEnd.passCmd (s : StageEnd) (now : Nat) : StageEnd :=
  if s.fastTrip || s.heldOpen then { s with passFet := false }
  else if s.passFet then s
  else if s.measuring || s.moisture then s
  else if s.mustMeasure now then (if s.sideIdle now then { s with measuring := true } else s)
  else { s with passFet := true, passRef := 20 * (s.smp s.cmd.vch).code.toInt, passLim := false }

/-! The carrier and the switches (R114, R115, R152, R153). -/

/-- The edges of a command. -/
def Cmd.edges (c : Cmd) : Edges := ⟨c.on0, c.off0, c.on1, c.off1⟩

/-- Period boundaries up to local Datum `t` pass: a period that begins takes the PERIOD and the edges in force (R115). Before an apply
instant the boundaries up to and at that instant pass first, so a period that begins exactly there keeps the PERIOD and the edges from
before: the manual does not say which comes first (DESIGN CHOICE, log 199). -/
def StageEnd.rollTo (s : StageEnd) (t : Nat) : StageEnd :=
  let b := s.perStart + s.perLen
  if !s.carrier || s.cmd.period = 0 || t < b then s
  else { s with
    perStart := b + (t - b) / s.cmd.period * s.cmd.period
    perLen := s.cmd.period
    edges := s.cmd.edges
    start0 := decide (s.cmd.off0 < s.cmd.on0)
    start1 := decide (s.cmd.off1 < s.cmd.on1) }

/-- Where an edge of the running period lies after a change at phase `x`: one that has passed stays, one that has not takes its
new position, at the earliest at once (R115). The manual leaves two cases open: an edge that lies exactly at `x` counts as not passed, and
where both edges of a pair move to `x` they coincide, which R114 reads as off (DESIGN CHOICE, log 199). -/
def moveEdge (x old new : Nat) : Nat := if old < x then old else max x new

/-- The edges of the running period follow those of the command in force, at local Datum `t` (R115). -/
def StageEnd.moveEdges (s : StageEnd) (t : Nat) : StageEnd :=
  let x := t - s.perStart
  { s with edges := ⟨moveEdge x s.edges.on0 s.cmd.on0, moveEdge x s.edges.off0 s.cmd.off0, moveEdge x s.edges.on1 s.cmd.on1,
      moveEdge x s.edges.off1 s.cmd.off1⟩ }

/-- The carrier takes the command in force at local Datum `t`: a stopped one starts with a period boundary, a running one adopts
PERIOD at its next boundary (R115). -/
def StageEnd.runCarrier (s : StageEnd) (t : Nat) : StageEnd :=
  if s.carrier then s.moveEdges t
  else { s with
    carrier := true
    perStart := t
    perLen := s.cmd.period
    edges := s.cmd.edges
    start0 := decide (s.cmd.off0 < s.cmd.on0)
    start1 := decide (s.cmd.off1 < s.cmd.on1) }

/-- A pair conducts at phase `x` of a period: the last edge that has occurred decides, before any the start of the period; with ON
equal to OFF it is off (R114). -/
def pairOn (start : Bool) (on off x : Nat) : Bool :=
  if on = off then false
  else if on ≤ x ∧ off ≤ x then decide (off < on)
  else if on ≤ x then true
  else if off ≤ x then false
  else start

/-- A switch pair's high side conducts: by its edges while the carrier runs, never under CROWBAR (R114, R152, R153). -/
def StageEnd.highOn (s : StageEnd) (k : Nat) : Bool :=
  let x := s.datum - s.perStart
  s.carrier && !s.crowbar && decide (k < s.ident.pairs.toNat)
    && (if k = 0 then pairOn s.start0 s.edges.on0 s.edges.off0 x else pairOn s.start1 s.edges.on1 s.edges.off1 x)

/-- A switch pair's low side is latched on: under CROWBAR (R152, R153). -/
def StageEnd.lowLatched (s : StageEnd) (k : Nat) : Bool := s.crowbar && decide (k < s.ident.pairs.toNat)

/-- The stage end applies a selected copy (R113, R115, R145, R150, R292). -/
def StageEnd.applyCmd (s0 : StageEnd) (c : Cmd) (now : Nat) : StageEnd :=
  let s : StageEnd := { s0 with loop := false }
  if c.mode = 0 then
    { s with cmd := c, state := 0, miss := 0, carrier := false, len0 := 0, len1 := 0, envClip := false, passFet := false }
  else if passMode c.mode then
    ({ s with cmd := c, state := 1, miss := 0, envClip := false } : StageEnd).passCmd now
  else
    { (s.clip c).runCarrier (s.tick * dqTick) with state := 1, miss := 0 }

/-- A pending copy of apply tick `t` that still carries the epoch on an admitted link and names a usable set (R123, R149). One that names
an unusable set is dropped before copies are selected (DESIGN CHOICE, log 151). -/
def StageEnd.cand (s : StageEnd) (l : Link) (t : Nat) : Option Cmd × StageEnd :=
  match (s.pend l).find? (fun c => c.applyTick.toNat == t % 65536) with
  | none => (none, s)
  | some c =>
    if !s.epochValid then (none, s)
    else if !(s.admitted l && c.epoch == s.epoch) then (none, s.stale)
    else if runMode c.mode && !s.envUsable c.envIdx then (none, s.invalid)
    else (some c, s)

/-- What two copies must share to be equal: SEQ and body (R125). -/
def sameCopy (a b : Cmd) : Bool := decide (a.seq = b.seq) && cmdBody a == cmdBody b

/-- Copy selection and application at the start of an apply tick (R125, R126, R145, R161). Period boundaries at the apply instant pass
before (DESIGN CHOICE, log 199). -/
def StageEnd.applyTick (s : StageEnd) (now : Nat) : StageEnd :=
  let t := s.tick
  let r := s.rollTo (t * dqTick)
  let inForce := s.envNew.filter (fun e => decide (e.1 < t))
  let s0 := { r with words := inForce.foldl (fun (m : List (Nat × Word)) (e : Nat × Nat × Word) => mapSet m e.2.1 e.2.2) s.words,
                     envNew := s.envNew.filter (fun e => !decide (e.1 < t)) }
  let (a, s1) := s0.cand .a t
  let (b, s2) := s1.cand .b t
  let s3 := { s2 with pendA := s2.pendA.filter (fun c => c.applyTick.toNat != t % 65536),
                      pendB := s2.pendB.filter (fun c => c.applyTick.toNat != t % 65536) }
  let miss (s : StageEnd) : StageEnd := if s.admitA && s.admitB then { s with cntMiss := s.cntMiss + 1 } else s
  match a, b with
  | none, none => { s3 with miss := s3.miss + 1 }
  | some x, none => ({ miss s3 with appliedB := false } : StageEnd).applyCmd x now
  | none, some y => ({ miss s3 with appliedB := true } : StageEnd).applyCmd y now
  | some x, some y =>
    if sameCopy x y then ({ s3 with appliedB := false } : StageEnd).applyCmd x now
    else
      let s4 := { s3 with disagree := true, cntDisagree := s3.cntDisagree + 1 }
      let useB := if x.degraded != y.degraded then x.degraded else if x.lead != y.lead then y.lead else false
      ({ s4 with appliedB := useB } : StageEnd).applyCmd (if useB then y else x) now

/-! Time (R118 to R120). -/

/-- Which link's SYNC the stage end follows (R120); the 1,024 ticks run by model time, which a step of the local Datum leaves alone. -/
def StageEnd.follows (s : StageEnd) (l : Link) (lead : Bool) (now : Nat) : Bool :=
  let recent (o : Option Nat) : Bool := match o with | none => false | some t => decide (now ≤ t + 1024 * dqTick)
  if s.epochValid then
    s.admitted l && (lead || (!(s.admitA && recent s.syncA) && !(s.admitB && recent s.syncB)))
  else lead && (match l with | .a => true | .b => !recent s.syncA)

/-- A response leaves at its tick unless another is due then on the link (R129). -/
def StageEnd.respond (s : StageEnd) (l : Link) (t typ : Nat) (body : Bytes) : StageEnd :=
  if s.rsps.any (fun r => r.link == l && r.tick == t) then s.invalid
  else { s with rsps := s.rsps ++ [{ link := l, tick := t, typ := typ, body := body }] }

/-- The stage end follows the time of a SYNC frame (R118, R120): it steps, or slews by at most 500 ppm of the time since the last one;
its Datum has 64 bits. -/
def StageEnd.followSync (s : StageEnd) (l : Link) (lead : Bool) (t1 delay : Nat) (step : Bool) (now : Nat) : StageEnd :=
  let err : Int := sgn 64 ((s.datum + 2 ^ 64 - (t1 + delay) % 2 ^ 64) % 2 ^ 64)
  let lim : Int := (((now - s.slewAt.getD now) * 500 / 1000000 : Nat) : Int)
  let corr : Int := if delay = 0 then 0 else if step && decide (400 < err.natAbs) then -err else max (-lim) (min lim (-err))
  let s1 : StageEnd := if s.follows l lead now then { s with datum := (((s.datum : Int) + corr) % 2 ^ 64).toNat, slewAt := some now } else s
  if lead then (match l with
    | .a => { s1 with syncA := some now }
    | .b => { s1 with syncB := some now }) else s1

/-- The stage end takes a SYNC frame (R118, R120, R123). One whose echo names a response tick outside the window is LATE, and one whose
response tick is taken is INVALID: either is discarded whole (R116, R129). -/
def StageEnd.takeSync (s : StageEnd) (l : Link) (h : Hdr) (b : Bytes) (now : Nat) : StageEnd :=
  if s.epochValid && h.epoch != s.epoch.toNat then s.stale
  else
    let s1 := s.followSync l h.lead (leAt b 0 8) (leAt b 8 4) (bitOf (leAt b 14 1) 1) now
    if !bitOf (leAt b 14 1) 0 then s1
    else match s.window (leAt b 12 2) h.seq with
      | none => s.late
      | some t => if s.rsps.any (fun r => r.link == l && r.tick == t) then s.invalid
        else s1.respond l t 7 (echoBody (s.datum % 2 ^ 32) 0)

/-! Epochs (R122). -/

/-- The stage end takes a FENCE frame (R122): it judges it as the tick ends. -/
def StageEnd.takeFence (s : StageEnd) (l : Link) (h : Hdr) (b : Bytes) : StageEnd :=
  if !h.lead then s.stale
  else { s with fences := s.fences ++ [{ link := l, epoch := h.epoch, op := leAt b 0 1, newEpoch := leAt b 1 1 }] }

/-- A FENCE frame with LEAD = 1 is judged against the present epoch and admitted links (R122). -/
def StageEnd.judgeFence (s : StageEnd) (f : FenceRx) : StageEnd :=
  let l := f.link
  let ne := f.newEpoch
  let op := f.op
  let e := s.epoch.toNat
  if !s.epochValid then
    if op = 0 then { s with epochValid := true, epoch := BitVec.ofNat 8 ne, admitA := l == .a, admitB := l == .b } else s.stale
  else if s.admitted l && f.epoch == e && op == 0 && ne == (e + 1) % 256 then
    { s with epoch := BitVec.ofNat 8 ne, admitA := l == .a, admitB := l == .b }
  else if s.admitted l && f.epoch == e && op == 1 && ne == e then { s with admitA := true, admitB := true }
  else if s.admitted l && ne == e && f.epoch == (e + 255) % 256 then s
  else s.stale

/-- The FENCE frames of a tick take effect as it ends, the A-link's first (R122). -/
def StageEnd.endFences (s : StageEnd) : StageEnd :=
  let s1 := (s.fences.filter (fun f => f.link == .a)).foldl StageEnd.judgeFence s
  { (s.fences.filter (fun f => f.link == .b)).foldl StageEnd.judgeFence s1 with fences := [] }

/-! Requests (R123, R127 to R131). -/

/-- Answers a request at its response tick, or discards it as LATE; `f` performs it and gives the answer's status and data. -/
def StageEnd.answer (s : StageEnd) (l : Link) (h : Hdr) (b : Bytes) (f : StageEnd → Nat × Nat × Nat × StageEnd) : StageEnd :=
  match s.window (leAt b 2 2) h.seq with
  | none => s.late
  | some t =>
    if s.rsps.any (fun r => r.link == l && r.tick == t) then s.invalid
    else
      let (st, d0, d1, s1) := f s
      s1.respond l t 3 (rspBody (leAt b 0 1 % 16) (leAt b 0 1 / 16) st h.seq (leAt b 4 2) (leAt b 6 1 % 4) d0 d1)

/-- A CFG frame is for this stage end's epoch (R123); one of another epoch is discarded. -/
def StageEnd.cfgEpoch (s : StageEnd) (h : Hdr) : Bool := !s.epochValid || h.epoch == s.epoch.toNat

/-- A READ (R127, R129). -/
def StageEnd.takeRead (s : StageEnd) (l : Link) (h : Hdr) (b : Bytes) : StageEnd :=
  if !s.cfgEpoch h then s.stale
  else s.answer l h b (fun s =>
    let n := leAt b 6 1 % 4
    let a := leAt b 4 2
    if n = 3 then (3, 0, 0, s)
    else if n = 0 then (0, 0, 0, s)
    else if seExists s.ident a && (n == 1 || seExists s.ident (a + 1)) then
      (0, s.readWord a, if n = 2 then s.readWord (a + 1) else 0, s)
    else (2, 0, 0, s))

/-- Writes one word: envelope words and OV_CFG wait for the next apply tick (R161, R221), the others take effect at once; a TRIP_LEVEL
of 0 opens the pass FET (R151). `still` says that the
condition behind a cleared latch is still present (R154). -/
def StageEnd.putWord (s : StageEnd) (w v : Nat) (still : Bool) : StageEnd :=
  if w = 1 then
    let s1 := if bitOf v 0 then { s with fastTrip := still && s.fastTrip } else s
    let s2 := if bitOf v 1 then { s1 with crowbar := still && s1.crowbar } else s1
    if bitOf v 2 then { s2 with localFault := false } else s2
  else if w = 4 ∨ (0x10 ≤ w ∧ w < 0x50) then { s with envNew := s.envNew ++ [(s.tick, w, BitVec.ofNat 32 (v &&& seMask w))] }
  else
    let s1 := { s with words := mapSet s.words w (BitVec.ofNat 32 (v &&& seMask w)) }
    { s1 with passFet := s1.passFet && !s1.heldOpen }

/-- A WRITE (R123, R127, R129, R154, R160). One from a link not admitted, or of another epoch, is STALE and not DENIED (DEDUCED, log 150).
One with COUNT 3 is answered BAD_OP also where LEAD is 0: the manual gives no order between that and DENIED (DESIGN CHOICE, log 200). -/
def StageEnd.takeWrite (s : StageEnd) (l : Link) (h : Hdr) (b : Bytes) (still : Bool) : StageEnd :=
  if !s.cfgEpoch h || (s.epochValid && !s.admitted l) then s.stale
  else s.answer l h b (fun s =>
    let n := leAt b 6 1 % 4
    let a := leAt b 4 2
    let v0 := leAt b 8 4
    let v1 := leAt b 12 4
    if n = 3 then (3, 0, 0, s)
    else if !h.lead then (1, 0, 0, s)
    else if n = 0 then (0, 0, 0, s)
    else if !(seWritable s.ident a v0 && (n == 1 || seWritable s.ident (a + 1) v1)) then (2, 0, 0, s)
    else
      let clr (w v : Nat) : Bool := w == 1 && (bitOf v 0 || bitOf v 1)
      if (clr a v0 || (n == 2 && clr (a + 1) v1)) && s.cmd.mode != 0 then (4, 0, 0, s)
      else
        let s1 := s.putWord a v0 still
        (0, 0, 0, if n = 2 then s1.putWord (a + 1) v1 still else s1))

/-- The words a WRITE covers. -/
def cfgCovers (b : Bytes) (w bit : Nat) : Bool :=
  let n := leAt b 6 1 % 4
  let a := leAt b 4 2
  (n != 0 && n != 3 && a == w && bitOf (leAt b 8 4) bit) || (n == 2 && a + 1 == w && bitOf (leAt b 12 4) bit)

/-- An IDENT request (R127, R132). -/
def StageEnd.takeIdent (s : StageEnd) (l : Link) (h : Hdr) (b : Bytes) : StageEnd :=
  if !s.cfgEpoch h then s.stale
  else match s.window (leAt b 2 2) h.seq with
    | none => s.late
    | some t => s.respond l t 7 (announceBody s.ident)

/-- A POLL: a SIDE_UP frame when a fragment is held, and an empty CFG_RSP otherwise (R131). -/
def StageEnd.takePoll (s : StageEnd) (l : Link) (h : Hdr) (b : Bytes) : StageEnd :=
  if !s.cfgEpoch h then s.stale
  else match s.window (leAt b 2 2) h.seq with
    | none => s.late
    | some t =>
      if s.rsps.any (fun r => r.link == l && r.tick == t) then s.invalid
      else match s.sideUp with
        | [] => s.respond l t 3 (rspBody 0 (leAt b 0 1 / 16) 0 h.seq (leAt b 4 2) 0 0 0)
        | (m, ok) :: rest =>
          let left := m.drop s.sideOff
          let n := min 12 left.length
          let more := decide (12 < left.length)
          let body := leBytes (n + 16 * b2n more + 32 * b2n ok + 64 * b2n s.sideLost) 1 ++ [s.sideRef] ++ leBytes h.seq 2
            ++ sliceBytes left 0 n
          let s1 := if more then { s with sideOff := s.sideOff + 12, sideLost := false }
            else { s with sideUp := rest, sideOff := 0, sideRef := s.sideRef + 1, sideLost := false }
          s1.respond l t 5 body

/-- A request with a reserved OP is answered BAD_OP (R129). -/
def StageEnd.takeBadOp (s : StageEnd) (l : Link) (h : Hdr) (b : Bytes) : StageEnd :=
  if !s.cfgEpoch h then s.stale else s.answer l h b (fun s => (3, 0, 0, s))

/-- A SIDE_DN fragment (R123, R130). It is appended to the message being gathered whatever its MSG_REF (DESIGN CHOICE, log 149). -/
def StageEnd.takeSide (s : StageEnd) (l : Link) (h : Hdr) (b : Bytes) : StageEnd :=
  if s.epochValid && (!(s.admitted l) || h.epoch != s.epoch.toNat) then s.stale
  else match s.window (leAt b 2 2) h.seq with
    | none => s.late
    | some t =>
      let n := leAt b 0 1 % 16
      let more := bitOf (leAt b 0 1) 4
      let ans (st : Nat) (s : StageEnd) : StageEnd := s.respond l t 3 (rspBody 0xE 0 st h.seq 0 0 0 0)
      if s.rsps.any (fun r => r.link == l && r.tick == t) then s.invalid
      else if !h.lead then ans 1 s
      else if 12 < n ∨ (n ≠ 0 ∧ 4 ≤ s.sideDn.length) then ans 3 { s with sideDn := [] }
      else if n = 0 then ans 0 s
      else if s.sideTx != none then ans 4 s
      else
        let fr := s.sideDn ++ [sliceBytes b 4 n]
        ans 0 (if more then { s with sideDn := fr } else { s with sideDn := [], sideTx := some fr.flatten })

/-! Sampling and sending (R107 to R110, R141 to R144). -/

/-- A converter result as the code sent, and whether it is at an overrange (R142, R143). -/
def limitCode (x : Int) : BitVec 16 × Bool :=
  if 0x7FFF ≤ x then (0x7FFF, true) else if x ≤ -0x8000 then (0x8000, true) else (BitVec.ofInt 16 x, false)

/-- The samples of a tick (R141 to R144). -/
def StageEnd.sample (s : StageEnd) (r : RawSample) : StageEnd :=
  let t := s.tick
  let n := s.ident.channels.toNat
  let l (k : Nat) (x : Int) : BitVec 16 × Bool := if k < n then limitCode x else (0, false)
  let v0 := l 0 r.c0
  let v1 := l 1 r.c1
  let v2 := l 2 r.c2
  let v3 := l 3 r.c3
  let up (o : Bool) (i : Nat) : Option Nat := if o then some t else (s.ovrTick[i]?).getD none
  let ot := [up v0.2 0, up v1.2 1, up v2.2 2, up v3.2 3]
  let susp (k : Nat) : Bool :=
    decide (k < n) && (List.range 4).any (fun j => j != k && (match (ot[j]?).getD none with | some u => decide (t ≤ u + 4) | none => false))
  let mk (v : BitVec 16 × Bool) (k : Nat) : Sample := { code := v.1, ovr := v.2, susp := susp k, tick := t, valid := true }
  let temp (x : Option Int) : BitVec 20 := match x with | some y => BitVec.ofInt 20 y | none => 0x80000
  { s with smp0 := mk v0 0, smp1 := mk v1 1, smp2 := mk v2 2, smp3 := mk v3 3, ovrTick := ot, temp0 := temp r.t0, temp1 := temp r.t1 }

/-- The own loop of LOCAL_LOOP moves the OFF edges within the envelope set last applied; PERIOD and ON edges stay (R147). -/
def StageEnd.loopStep (s : StageEnd) : StageEnd :=
  if !s.loop then s
  else
    let w := s.word 6
    let x := (if w / 65536 % 4 = 0 then s.smp0 else if w / 65536 % 4 = 1 then s.smp1 else if w / 65536 % 4 = 2 then s.smp2 else s.smp3).code.toInt
    let b := 0x10 + 4 * s.cmd.envIdx
    let p := s.cmd.period
    let move (k on last : Nat) : Nat × Nat × Nat :=
      clipPair (s.word (b + 2)) (s.word (b + 3)) p p on ((on + Config.loopLen k (sgn 16 w) x last) % p) last
    let r0 := move 0 s.cmd.on0 s.len0
    let r1 := move 1 s.cmd.on1 s.len1
    let n := s.ident.pairs.toNat
    let c1 := if n = 0 then s.cmd else { s.cmd with off0 := r0.2.1 }
    let c2 := if n < 2 then c1 else { c1 with off1 := r1.2.1 }
    ({ s with cmd := c2, len0 := if n = 0 then s.len0 else r0.2.2, len1 := if n < 2 then s.len1 else r1.2.2 } : StageEnd).moveEdges
      (s.tick * dqTick)

/-- The AUX item of a number (R109). -/
def StageEnd.aux (s : StageEnd) (id : Nat) : Nat :=
  if id = 1 then s.temp0.toNat else if id = 2 then s.temp1.toNat else if id = 3 then (if seCap s.ident 2 then s.moistVal else 0x80000)
  else (([s.cntCrc, s.cntMiss, s.cntDisagree, s.cntStale, s.cntLate, s.cntInvalid, s.cntHold] : List Word)[id - 4]?.getD 0).toNat

/-- The stage end with the samples of the tick before its present one in place: those its SAMPLE frame carries (R107). -/
def StageEnd.lastSamples (s : StageEnd) : StageEnd :=
  match s.prev with
  | [a, b, c, d] => if s.smp0.tick = s.tick then { s with smp0 := a, smp1 := b, smp2 := c, smp3 := d } else s
  | _ => s

/-- The frame a link carries in this tick: a response that is due, else SAMPLE, else IDLE (R107). -/
def StageEnd.upFrame (s : StageEnd) (l : Link) : Bytes :=
  let h (typ : Nat) : Hdr := ⟨typ, l == .b, false, s.localFault, if s.epochValid then s.epoch.toNat else 0, s.tick⟩
  match s.rsps.find? (fun r => r.link == l && r.tick == s.tick) with
  | some r =>
    mkFrame (h r.typ) (if r.typ = 7 ∧ leAt r.body 0 1 = 1 then echoBody (leAt r.body 4 4) (s.tick * dqTick) else r.body)
  | none =>
    if s.epochValid then mkFrame (h 1) (sampleBody s.lastSamples (s.tick - 1) s.auxId (s.aux s.auxId)) else mkFrame (h 0) []

/-- The stage end sends the frames of its tick on both links, once in the tick (R99, R107, R109, R126). -/
def seUpstream (c : Chip) (p : Port) : Chip :=
  let s := c.stage p
  if !s.powered || s.sentUp then c
  else
    let has (l : Link) : Bool := s.rsps.any (fun x => x.link == l && x.tick == s.tick)
    let smp := s.epochValid && !(has .a && has .b)
    let s1 : StageEnd := { s with
      sentUp := true
      rsps := s.rsps.filter (fun x => decide (s.tick < x.tick))
      auxId := if smp then (if s.auxId ≥ 10 then 1 else s.auxId + 1) else s.auxId
      disagree := if smp then false else s.disagree }
    ((c.send (.upFrame p .a (s.upFrame .a))).send (.upFrame p .b (s.upFrame .b))).setStage p s1

/-- The stage end samples every channel at the start of a tick (R141 to R144); its own loop follows (R147). -/
def seSampleTick (c : Chip) (p : Port) (r : RawSample) : Chip :=
  let s := c.stage p
  if !s.powered then c
  else c.setStage p (({ s with prev := [s.smp0, s.smp1, s.smp2, s.smp3] }.sample r).rollTo (s.tick * dqTick)).loopStep.passStep

/-! The rows. -/

/-- A CMD frame reaches the stage end. -/
def seCmdRx (c : Chip) (p : Port) (l : Link) (f : Frame) : Chip := seReceive c p l f 2 (fun h b s => s.takeCmd l h b)
/-- A SYNC frame reaches the stage end. -/
def seSyncRx (c : Chip) (p : Port) (l : Link) (f : Frame) : Chip := seReceive c p l f 8 (fun h b s => s.takeSync l h b c.now)
/-- A FENCE frame reaches the stage end. -/
def seFenceRx (c : Chip) (p : Port) (l : Link) (f : Frame) : Chip := seReceive c p l f 9 (fun h b s => s.takeFence l h b)
/-- A SIDE_DN frame reaches the stage end. -/
def seSideRx (c : Chip) (p : Port) (l : Link) (f : Frame) : Chip := seReceive c p l f 6 (fun h b s => s.takeSide l h b)
/-- A POLL, or a request with a reserved OP, reaches the stage end. -/
def seCfgPoll (c : Chip) (p : Port) (l : Link) (f : Frame) : Chip :=
  seReceive c p l f 4 (fun h b s => let op := leAt b 0 1 % 16
    if op = 0 then s.takePoll l h b else if 3 < op then s.takeBadOp l h b else s)
/-- A READ reaches the stage end. -/
def seCfgRead (c : Chip) (p : Port) (l : Link) (f : Frame) : Chip :=
  seReceive c p l f 4 (fun h b s => if leAt b 0 1 % 16 = 1 then s.takeRead l h b else s)
/-- A WRITE that clears no latch reaches the stage end. -/
def seCfgWrite (c : Chip) (p : Port) (l : Link) (f : Frame) : Chip :=
  seReceive c p l f 4 (fun h b s => if leAt b 0 1 % 16 = 2 ∧ !(cfgCovers b 1 0) ∧ !(cfgCovers b 1 1) ∧ !(cfgCovers b 1 2) then
    s.takeWrite l h b false else s)
/-- A WRITE of a bit of SE_CLEAR reaches the stage end. -/
def seClear (c : Chip) (p : Port) (l : Link) (f : Frame) (bit : Nat) (still : Bool) : Chip :=
  seReceive c p l f 4 (fun h b s => if leAt b 0 1 % 16 = 2 ∧ cfgCovers b 1 bit then s.takeWrite l h b still else s)
/-- An IDENT request reaches the stage end. -/
def seCfgIdent (c : Chip) (p : Port) (l : Link) (f : Frame) : Chip :=
  seReceive c p l f 4 (fun h b s => if leAt b 0 1 % 16 = 3 then s.takeIdent l h b else s)

/-- An apply tick begins at the stage end. -/
def seApplyTick (c : Chip) (p : Port) : Chip :=
  let s := c.stage p
  if s.powered then c.setStage p (s.applyTick c.now) else c

/-- The end of the 8th tick in a row without an applied command: HOLD (R145). -/
def seHoldEntry (c : Chip) (p : Port) : Chip :=
  let s := c.stage p
  if s.powered && s.state == 1 && decide (8 ≤ s.miss) then c.setStage p { s with state := 2, cntHold := s.cntHold + 1 } else c

/-- The end of the 64th tick in a row without an applied command: SAFE, with the action of SE_CTRL (R145, R147). -/
def seSafeEntry (c : Chip) (p : Port) : Chip :=
  let s := c.stage p
  if s.powered && s.state == 2 && decide (64 ≤ s.miss) then
    c.setStage p (if s.word 0 % 4 = 0 then { s with state := 3, carrier := false, len0 := 0, len1 := 0, passFet := false }
      else { s with state := 3, loop := s.word 0 % 4 == 2 && s.carrier })
  else c

/-- The magnitude of channel TRIP_CH reaches TRIP_LEVEL (R151). -/
def seFastTrip (c : Chip) (p : Port) (r : RawSample) : Chip :=
  let s := c.stage p
  if s.powered && seFeed s.ident && seCap s.ident 1 && decide (s.word 3 % 65536 ≤ (r.chan (s.word 3 / 65536 % 4)).natAbs) then
    c.setStage p { s with fastTrip := true, passFet := false } else c

/-- The voltage of channel OV_CH reaches OV_LEVEL (R152). -/
def seCrowbar (c : Chip) (p : Port) (r : RawSample) : Chip :=
  let s := c.stage p
  if s.powered && s.ident.stype == 0 && seCap s.ident 0 && decide (sgn 16 (s.word 4) ≤ r.chan (s.word 4 / 65536 % 4)) then
    c.setStage p { s with crowbar := true } else c

/-- The stage end finds a fault in its self-check (R155). -/
def seSelfcheckFail (c : Chip) (p : Port) : Chip :=
  let s := c.stage p
  if s.powered then c.setStage p { s with localFault := true } else c

/-- The stage end's own power is cycled: it starts again without an epoch (R123, R160). -/
def sePowerCycle (c : Chip) (p : Port) (i : SeIdent) : Chip :=
  c.setStage p { ident := i, powered := true, datum := (c.stage p).datum }

/-- A moisture measurement begins, while the sideband is silent (R156): every 10 s while the pass FET is open, and before a PASS command in
force acts. The manual does not say when the first is due, nor from what the 10 s run: the first is due at once, and the 10 s run from the
end of the last measurement, one before a PASS command included (DESIGN CHOICE, log 201). -/
def seMoistureMeasure (c : Chip) (p : Port) : Chip :=
  let s := c.stage p
  if s.powered && seFeed s.ident && seCap s.ident 2 && !s.passFet && !s.measuring
      && s.sideIdle c.now && ((match s.measured with | none => true | some t => decide (t + 10 * dqS ≤ c.now))
        || (s.state == 1 && passMode s.cmd.mode && s.mustMeasure c.now)) then
    c.setStage p { s with measuring := true } else c

/-- A moisture measurement ends (R156, R157); a PASS command in force then acts, in RUN only (DESIGN CHOICE, log 152). The reading is
compared as it saturates (DESIGN CHOICE, log 154). -/
def seMoistureDone (c : Chip) (p : Port) (kohm : Nat) : Chip :=
  let s := c.stage p
  if s.powered && s.measuring then
    let th := s.word 5 % 2 ^ 20
    let v := min kohm 0xFFFFF
    let wet := if th = 0 then false else if v < th then true else if 5 * th ≤ 4 * v then false else s.moisture
    let s1 := { s with measuring := false, measured := some c.now, moistVal := v, moisture := wet }
    c.setStage p (if s1.state = 1 ∧ passMode s1.cmd.mode then s1.passCmd c.now else s1)
  else c

/-- A frame on the tray sideband: 32 alternating bits beginning with 1, the start byte, the message and its CRC (R158). -/
def sideFrame (m : Bytes) : Bytes := [0x55, 0x55, 0x55, 0x55, 0xD5] ++ m ++ leBytes (crc32c m) 4

/-- A bit of the sideband, 4 us, in dq (R158). -/
def sideBit : Nat := 4 * dqUs

/-- The stage end has a sideband relay (R158). -/
def seRelay (i : SeIdent) : Bool := seFeed i && seCap i 3

/-- The relay sends the complete message on the tray sideband, once the line has been idle for 12 bit times (R158, R159); it stays
silent during a measurement (R156). -/
def seSidebandTx (c : Chip) (p : Port) : Chip :=
  let s := c.stage p
  match s.sideTx with
  | none => c
  | some m =>
    if s.powered && seRelay s.ident && !s.measuring && decide (s.lineFree + 12 * sideBit ≤ c.now) then
      (c.send (.sideband p (sideFrame m))).setStage p
        { s with sideTx := none, lineFree := c.now + (8 * (sideFrame m).length + 2) * sideBit }
    else c

/-- The relay begins to receive a frame from the tray, whose message and CRC the command brings; the line is then busy for the frame's
length, and the relay sends nothing (R158, R159). It is not received while the relay itself sends, receives or measures (R156, R158; DESIGN
CHOICE, log 156). -/
def seSidebandRx (c : Chip) (p : Port) (m : Bytes) (crc : Word) : Chip :=
  let s := c.stage p
  if !s.powered || !seRelay s.ident || m == [] || s.measuring || !s.sideIdle c.now then c
  else c.setStage p { s with sideRx := some (m, crc), lineFree := c.now + (8 * (sideFrame m).length + 2) * sideBit }

/-- A reception ends: the relay checks the CRC and holds up to four messages (R131, R159). -/
def StageEnd.endSide (s : StageEnd) (now : Nat) : StageEnd :=
  match s.sideRx with
  | none => s
  | some (m, crc) =>
    if !s.sideIdle now then s
    else if s.sideUp.length < 4 then { s with sideRx := none, sideUp := s.sideUp ++ [(m, crc.toNat == crc32c m)] }
    else { s with sideRx := none, sideLost := true }

/-! A tick at the stage end. -/

/-- A tick passes at a powered stage end: FENCE frames take effect, its local Datum of 64 bits runs, its carrier, its receivers and a
reception on the sideband go on (R100, R115, R120, R122, R158). -/
def StageEnd.oneTick (s : StageEnd) (now : Nat) : StageEnd :=
  let s1 := s.endFences
  let d := (s1.datum + dqTick) % 2 ^ 64
  ({ s1.rollTo (d / dqTick * dqTick) with datum := d, rxA := s1.rxA.tick now, rxB := s1.rxB.tick now, sentUp := false } : StageEnd).endSide now

/-! Meanings of the rows. -/

/-- UPSTREAM_FRAME_SEND (R107): Each tick a stage end sends a response, a SAMPLE frame or IDLE. -/
def execUpstreamFrameSend (port : Port) (s : State) : Result :=
  .next (s.onChip (fun c => seUpstream c port))

/-- SE_SAMPLE_TICK (R141): A stage end samples every channel at the start of each tick and marks overrange and SUSPECT. -/
def execSeSampleTick (port : Port) (raw : RawSample) (s : State) : Result :=
  .next (s.onChip (fun c => seSampleTick c port raw))

/-- SE_CMD_RX (R116): A stage end checks a received CMD frame's tick window, epoch and fields and holds it pending. -/
def execSeCmdRx (port : Port) (link : Link) (frame : Frame) (s : State) : Result :=
  .next (s.onChip (fun c => seCmdRx c port link frame))

/-- SE_SYNC_RX (R120): A stage end follows a SYNC frame's time, stepping or slewing its local Datum. -/
def execSeSyncRx (port : Port) (link : Link) (frame : Frame) (s : State) : Result :=
  .next (s.onChip (fun c => seSyncRx c port link frame))

/-- SE_FENCE_RX (R122): A stage end judges a FENCE or ADMIT frame and changes its epoch or admitted links. -/
def execSeFenceRx (port : Port) (link : Link) (frame : Frame) (s : State) : Result :=
  .next (s.onChip (fun c => seFenceRx c port link frame))

/-- SE_CFG_POLL (R131): A stage end answers a POLL with a SIDE_UP frame or an empty CFG_RSP. -/
def execSeCfgPoll (port : Port) (link : Link) (frame : Frame) (s : State) : Result :=
  .next (s.onChip (fun c => seCfgPoll c port link frame))

/-- SE_CFG_READ (R129): A stage end performs a READ and answers at the response tick. -/
def execSeCfgRead (port : Port) (link : Link) (frame : Frame) (s : State) : Result :=
  .next (s.onChip (fun c => seCfgRead c port link frame))

/-- SE_CFG_WRITE (R129): A stage end performs or refuses a WRITE and answers at the response tick. -/
def execSeCfgWrite (port : Port) (link : Link) (frame : Frame) (s : State) : Result :=
  .next (s.onChip (fun c => seCfgWrite c port link frame))

/-- SE_CLEAR_TRIP (R154): SE_CLEAR.TRIP clears FAST_TRIP when the last applied MODE is STOP, else answers BUSY. -/
def execSeClearTrip (port : Port) (link : Link) (frame : Frame) (still : Bool) (s : State) : Result :=
  .next (s.onChip (fun c => seClear c port link frame 0 still))

/-- SE_CLEAR_CROWBAR (R154): SE_CLEAR.CROWBAR clears CROWBAR when the last applied MODE is STOP, else answers BUSY. -/
def execSeClearCrowbar (port : Port) (link : Link) (frame : Frame) (still : Bool) (s : State) : Result :=
  .next (s.onChip (fun c => seClear c port link frame 1 still))

/-- SE_CLEAR_LOCAL_FAULT (R155): SE_CLEAR.LOCAL_FAULT clears the stage end's LOCAL_FAULT. -/
def execSeClearLocalFault (port : Port) (link : Link) (frame : Frame) (s : State) : Result :=
  .next (s.onChip (fun c => seClear c port link frame 2 false))

/-- SE_CFG_IDENT (R132): A stage end answers a CFG of OP IDENT with IDENT ANNOUNCE. -/
def execSeCfgIdent (port : Port) (link : Link) (frame : Frame) (s : State) : Result :=
  .next (s.onChip (fun c => seCfgIdent c port link frame))

/-- SE_SIDE_DN_RX (R130): A stage end accepts or refuses a SIDE_DN fragment and acknowledges it. -/
def execSeSideDnRx (port : Port) (link : Link) (frame : Frame) (s : State) : Result :=
  .next (s.onChip (fun c => seSideRx c port link frame))

/-- SE_APPLY_TICK (R125): At each apply tick the stage end selects one copy and applies it through the envelope clip. -/
def execSeApplyTick (port : Port) (s : State) : Result :=
  .next (s.onChip (fun c => seApplyTick c port))

/-- SE_HOLD_ENTRY (R145): After 8 ticks without an applied command a running stage end enters HOLD. -/
def execSeHoldEntry (port : Port) (s : State) : Result :=
  .next (s.onChip (fun c => seHoldEntry c port))

/-- SE_SAFE_ENTRY (R147): After 64 ticks without an applied command the stage end enters SAFE and performs its SAFE action. -/
def execSeSafeEntry (port : Port) (s : State) : Result :=
  .next (s.onChip (fun c => seSafeEntry c port))

/-- SE_FAST_TRIP (R151): A FEED stage end whose current reaches TRIP_LEVEL opens its pass FET and latches FAST_TRIP. -/
def execSeFastTrip (port : Port) (raw : RawSample) (s : State) : Result :=
  .next (s.onChip (fun c => seFastTrip c port raw))

/-- SE_CROWBAR (R152): A PHASE stage end whose voltage reaches OV_LEVEL crowbars and latches CROWBAR. -/
def execSeCrowbar (port : Port) (raw : RawSample) (s : State) : Result :=
  .next (s.onChip (fun c => seCrowbar c port raw))

/-- SE_SELFCHECK_FAIL (R155): A stage end's self-check fault sets LOCAL_FAULT and DEGRADED upstream. -/
def execSeSelfcheckFail (port : Port) (s : State) : Result :=
  .next (s.onChip (fun c => seSelfcheckFail c port))

/-- SE_POWER_CYCLE (R123): A stage end powering up starts OFF with no epoch. -/
def execSePowerCycle (port : Port) (ident : SeIdent) (s : State) : Result :=
  .next (s.onChip (fun c => sePowerCycle c port ident))

/-- SE_MOISTURE_MEASURE (R156): A FEED stage end starts a moisture measurement every 10 s or before closing the pass FET. -/
def execSeMoistureMeasure (port : Port) (s : State) : Result :=
  .next (s.onChip (fun c => seMoistureMeasure c port))

/-- SE_MOISTURE_DONE (R157): A moisture measurement ends and sets or clears MOISTURE. -/
def execSeMoistureDone (port : Port) (kohm : Nat) (s : State) : Result :=
  .next (s.onChip (fun c => seMoistureDone c port kohm))

/-- SIDEBAND_TX (R159): The relay sends a complete downstream message on the sideband. -/
def execSidebandTx (port : Port) (s : State) : Result :=
  .next (s.onChip (fun c => seSidebandTx c port))

/-- SIDEBAND_RX (R159): The relay receives a sideband message, checks its CRC and passes it upstream. -/
def execSidebandRx (port : Port) (msg : Bytes) (crc : Word) (s : State) : Result :=
  .next (s.onChip (fun c => seSidebandRx c port msg crc))

end Sys2Proof.Machine
end

