-- ==== Sys2Proof/Machine/PortLib.lean ====
section
/-! DEFINITION. PortLib.lean: the GT9192's end of a stage link: frames sent, requests and their answers, the steps of discovery
and the configuration written to a stage end (R102, R111, R124, R127 to R136, R160). -/

namespace Sys2Proof.Machine

/-- Timer of the 256 ticks of a FENCE (R124). -/
def tmFence : Nat := 78
/-- Timer of the 256 ticks of an ADMIT (R124). -/
def tmAdmit : Nat := 79

/-! LINK codes (R137). -/
def lkDown : Nat := 0
def lkAlign : Nat := 1
def lkTiming : Nat := 2
def lkIdent : Nat := 3
def lkConfig : Nat := 4
def lkReady : Nat := 5
def lkFailed : Nat := 6

/-- SP_STATUS.LINK of a port. -/
def Chip.link (c : Chip) (p : Nat) : Nat := c.rd R.SP_LINK (pgSP p)
/-- The port is READY (R133). -/
def Chip.linkReady (c : Chip) (p : Nat) : Bool := c.link p == lkReady

/-! Whose duties a port's are (R36, R102, R353). -/

/-- The twin holds no role: start steps 5 and 6 (R93). -/
def Chip.noRole (c : Chip) : Bool := c.rd R.TWIN_STATE pgTWIN == 0

/-- This twin holds the port's LEAD role: its own, or that of a port delegated to it (R36, R353). -/
def Chip.portRole (c : Chip) (p : Nat) : Bool :=
  !c.held && (c.solo || (c.paired && ((c.rd R.TWIN_ROLE pgTWIN == 0) != (c.port p).delegated)))

/-- This twin performs the port's single-sourced duties (R36, R353, R431). -/
def Chip.portLeads (c : Chip) (p : Nat) : Bool := c.portRole p && !c.plumb.mgmtSolo

/-- The header LEAD bit of a port: also before any role, on a link whose stage end sends no SAMPLE frames (R102). -/
def Chip.hdrLead (c : Chip) (p : Nat) : Bool := c.portRole p || (c.noRole && !(c.port p).sampled)

/-- The stage end reports this twin's link admitted (R108). -/
def Chip.ownAdmit (c : Chip) (p : Nat) : Bool :=
  if c.on R.SYS_TWIN_ID pgSYS then c.on R.SP_ADMIT_B (pgSP p) else c.on R.SP_ADMIT_A (pgSP p)
/-- The stage end reports the twin's link admitted (R108). -/
def Chip.peerAdmit (c : Chip) (p : Nat) : Bool :=
  if c.on R.SYS_TWIN_ID pgSYS then c.on R.SP_ADMIT_A (pgSP p) else c.on R.SP_ADMIT_B (pgSP p)

/-! Sending (R99, R111). A link carries one frame in a tick. CMD, FENCE and SYNC frames go at the commands that send them; SIDE_DN,
CFG and IDLE frames take a slot that is still free as its tick ends. -/

/-- The chip is FENCED: its stage links carry IDLE only (R338). -/
def Chip.fencedState (c : Chip) : Bool := c.rd R.TWIN_STATE pgTWIN == 4

/-- Sends a frame on a stage link, while the page is enabled (R101, R102, R136); the slot of the tick is then used (R99). A FENCED chip
sends IDLE only (R338). -/
def Chip.sendSe (c : Chip) (p typ : Nat) (body : Bytes) (degraded : Bool := false) (epoch : Option Nat := none) : Chip :=
  if c.enabled (pgSP p) && (typ == 0 || !c.fencedState) then
    let e := epoch.getD (c.port p).epoch.toNat
    let h : Hdr := ⟨typ, c.on R.SYS_TWIN_ID pgSYS, c.hdrLead p, degraded, e, c.tick % 65536⟩
    (c.modPort p (fun t => { t with slotUsed := true })).send (.seFrame (portFin p) (mkFrame h body))
  else c

/-- This twin sends CMD frames at all (R63, R94, R148, R337, R338, R427): with SOLO_ALLOWED = 0 none before its first PAIRED. -/
def Chip.cmdAllowed (c : Chip) : Bool :=
  let st := c.rd R.TWIN_STATE pgTWIN
  !c.plumb.fenced && (st == 3 || ((st == 1 || st == 2) && (c.on R.SYS_SOLO_ALLOWED pgSYS || c.twin.pairedAt != 0)))

/-- A joining twin sends on a port once the stage end reports its link admitted; in phase STATE it only digests (R343, R357, R365). -/
def Chip.joinerSends (c : Chip) (p : Nat) : Bool := c.rd R.TWIN_STATE pgTWIN != 2 || (c.ownAdmit p && (c.twin.rejoinCfg || c.rd R.TWIN_JOIN_PHASE pgTWIN == 5))

/-- The present tick is a command slot of the port, whose stage end holds this twin's epoch (R111, R148, R352). -/
def Chip.cmdDue (c : Chip) (p : Nat) : Bool :=
  let t := c.port p
  c.enabled (pgSP p) && c.cmdAllowed && t.epochValid && c.rd R.SP_SE_EPOCH (pgSP p) == t.epoch.toNat && t.fencing.isNone
    && c.tick % 4 == t.slotPhase && !t.slotUsed

/-- A FENCE or an ADMIT of the port is to be sent (R124). -/
def Chip.fenceDue (c : Chip) (p : Nat) : Bool :=
  let t := c.port p
  c.portLeads p && ((t.fencing.isSome && (!t.sentCmd || decide (t.lastApply < c.tick))) || (t.admitting && !c.peerAdmit p))

/-- The slot of the present tick is free for a FENCE frame: no frame has used it and no CMD frame is due (R111). -/
def Chip.fenceSlot (c : Chip) (p : Nat) : Bool :=
  c.enabled (pgSP p) && !(c.port p).slotUsed && !(c.cmdDue p && c.joinerSends p)

/-- The slot of the present tick is free for a SYNC frame, or one of lower priority (R111). -/
def Chip.syncSlot (c : Chip) (p : Nat) : Bool := c.fenceSlot p && !c.fenceDue p

/-! Requests (R127 to R131). -/

/-- The port at the root of a law's REF_LAW chain, within `n` steps. -/
def Chip.rootPortN (c : Chip) : Nat → Bytes → Option Nat
  | 0, _ => none
  | n + 1, d =>
    if dHasPort d then some (dPort d)
    else
      let l := c.law (dRefLaw d)
      if l.bound then c.rootPortN n l.desc else none

/-- The port from whose stage a law reads its channels: its own, or that of the root of its REF_LAW chain (R197). -/
def Chip.rootPort (c : Chip) (d : Bytes) : Option Nat := c.rootPortN (c.laws.length + 1) d

/-- A class-A law takes its input from the sample of the port that a response in tick `r` displaces (R107, R178). -/
def Chip.displaces (c : Chip) (p r : Nat) : Bool :=
  c.laws.any (fun e => e.2.bound && dClass e.2.desc == 1 && c.rootPort e.2.desc == some p
    && (r + 2) % dN e.2.desc == c.rd R.CE_OFFSET (pgCE e.2.engine) e.2.slot % dN e.2.desc)

/-- A response tick of the port is asked for already: by the request in flight or by an echo (R129). -/
def Chip.rspTaken (c : Chip) (p r : Nat) : Bool :=
  (match (c.port p).req with | some q => !q.wait && q.rspTick == r | none => false) || (c.port p).syncT1.any (fun e => e.1 == r)

/-- A response tick, 4 to 16 ticks ahead, at which no class-A law takes its input and for which nothing else asks (R107, R116, R129).
Where there is none the manual does not say what gives way: the request waits for a later slot, and SYNC goes without ECHO_REQ (DESIGN
CHOICE, log 202). -/
def Chip.rspTick (c : Chip) (p : Nat) : Option Nat :=
  ((upTo 13).map (fun k => c.tick + k + 4)).find? (fun r => !c.displaces p r && !c.rspTaken p r)

/-- A request of a port is in hand and waits for a free slot (R111, R127, R130). -/
def Chip.sendReq (c : Chip) (p : Nat) (q : CfgReq) : Chip := c.modPort p (fun t => { t with req := some { q with wait := true } })

/-- The request in hand goes out in a free slot, with its response tick (R107, R127, R130). -/
def Chip.emitReq (c : Chip) (p : Nat) (q : CfgReq) : Chip :=
  match c.rspTick p with
  | none => c.sendSe p 0 []
  | some r =>
    let q1 := { q with rspTick := r, wait := false }
    let c1 := (c.modPort p (fun t => { t with req := some q1 })).pmcEvent (pgSP p) 0x103
    if q.op = 14 then
      c1.sendSe p 6 (sliceBytes q.side 0 2 ++ leBytes r 2 ++ sliceBytes (q.side.drop 2) 0 12)
    else c1.sendSe p 4 (cfgBody q1)

/-- A CFG request in hand that still waits for a slot gives way to a SIDE_DN, and is first again after it (R111). -/
def PortSt.yieldReq (t : PortSt) : PortSt :=
  match t.req with
  | some q => if q.wait && q.op != 14 && t.cfgQ.any (fun x => x.op == 14) then { t with req := none, cfgQ := q :: t.cfgQ } else t
  | none => t

/-- Takes the next waiting request in hand, when none is: a SIDE_DN before a CFG (R111). -/
def Chip.nextReq (c : Chip) (p : Nat) : Chip :=
  let t := (c.port p).yieldReq
  match t.req with
  | some _ => c
  | none =>
    let k := (t.cfgQ.findIdx? (fun q => q.op == 14)).getD 0
    match t.cfgQ[k]? with
    | none => c
    | some q =>
      let q1 := { q with tag := t.nextTag % 16 }
      (c.setPort p { t with cfgQ := t.cfgQ.eraseIdx k, nextTag := (t.nextTag + 1) % 16 }).sendReq p q1

/-- A tick ends on a link: its slot, if no frame has used it, carries the request in hand, or IDLE (R99, R111); of a FENCED chip IDLE
(R338). -/
def Chip.fillSlot (c : Chip) (p : Nat) : Chip :=
  if !c.enabled (pgSP p) || (c.port p).slotUsed then c
  else match (c.port p).req with
    | some q => if q.wait && !c.fencedState then c.emitReq p q else c.sendSe p 0 []
    | none => c.sendSe p 0 []

/-- Queues a request. -/
def Chip.pushReq (c : Chip) (p : Nat) (q : CfgReq) : Chip :=
  (c.modPort p (fun t => { t with cfgQ := t.cfgQ ++ [q] })).nextReq p

/-- A WRITE of one or two words (R127). -/
def cfgWrite (addr count d0 d1 : Nat) : CfgReq :=
  { op := 2, addr := addr, count := count, d0 := BitVec.ofNat 32 d0, d1 := BitVec.ofNat 32 d1 }

/-- A READ of one or two words (R127). -/
def cfgRead (addr count : Nat) : CfgReq := { op := 1, addr := addr, count := count }

/-- The words of envelope set `e` that the GT9192 intends for a port (R135, R160). -/
def Chip.envWord (c : Chip) (p e k : Nat) : Nat :=
  match c.portLaw p with
  | some (_, l) => if dEnvIdx l.desc = e then (dEnvWord l.desc k).toNat else 0
  | none => 0

/-- Requests that write one envelope set (R160). -/
def envReqs (e : Nat) (w : Nat → Nat) : List CfgReq :=
  [cfgWrite (0x10 + 4 * e) 2 (w 0) (w 1), cfgWrite (0x12 + 4 * e) 2 (w 2) (w 3)]

/-- Both writes of an envelope set have been answered OK (R160). -/
def PortSt.envUsable (t : PortSt) (e : Nat) : Bool := t.envOk.contains (0x10 + 4 * e) && t.envOk.contains (0x12 + 4 * e)
/-- An envelope set is to be written anew (R160). -/
def Chip.envClear (c : Chip) (p e : Nat) : Chip :=
  c.modPort p (fun t => { t with envOk := t.envOk.filter (fun a => a != 0x10 + 4 * e && a != 0x12 + 4 * e) })
/-- One half of an envelope set has been answered OK (R160). -/
def Chip.envAnswered (c : Chip) (p addr : Nat) : Chip :=
  c.modPort p (fun t => { t with envOk := addr :: t.envOk.filter (· != addr) })

/-- The safe action that is written to a port's stage end (R136): a value not yet set is STAGE_SAFE_DEFAULT. -/
def Chip.safeAct (c : Chip) (p : Nat) : Nat :=
  mapGet c.regs (fldKey R.SP_SAFE_ACT (pgSP p) 0) (c.rd R.SYS_STAGE_SAFE_DEFAULT pgSYS)

/-- OV_CFG of a port: from the supervision block of its law, else full scale (R160, R221). -/
def Chip.ovCfg (c : Chip) (p : Nat) : Nat :=
  match c.portLaw p with
  | some (_, l) => c.ovWord p l.desc
  | none => 0x7FFF

/-- Step 3 of R160: TRIP_CFG, OV_CFG, MOIST_CFG and LL_CFG, each where the stage end declares the function. -/
def Chip.step3Reqs (c : Chip) (p : Nat) (i : SeIdent) : List CfgReq :=
  (if seCap i 1 then [cfgWrite 3 1 (c.tripWord p) 0] else [])
  ++ (if seCap i 0 then [cfgWrite 4 1 (c.ovCfg p) 0] else [])
  ++ (if seCap i 2 then [cfgWrite 5 1 0xC8 0] else [])
  ++ (if seCap i 5 then [cfgWrite 6 1 0 0] else [])

/-- The writes of CONFIG (R160), or with `resume` those of R135. -/
def Chip.configReqs (c : Chip) (p : Nat) (i : SeIdent) (resume : Bool) : List CfgReq :=
  [cfgWrite 0 1 (c.safeAct p) 0]
  ++ (List.range 16).flatMap (fun e => envReqs e (fun k => if resume && !seFeed i then c.envWord p e k else 0))
  ++ c.step3Reqs p i

/-- The reads of CONFIG of a FOLLOW or JOINING twin (R133). -/
def configReads (i : SeIdent) : List CfgReq :=
  [cfgRead 0 1] ++ (List.range 32).map (fun k => cfgRead (0x10 + 2 * k) 2)
  ++ (if seCap i 1 then [cfgRead 3 1] else []) ++ (if seCap i 0 then [cfgRead 4 1] else [])
  ++ (if seCap i 2 then [cfgRead 5 1] else []) ++ (if seCap i 5 then [cfgRead 6 1] else [])

/-- Queues the writes of step 3 of R160 again after their source has changed; TRIP_CFG of a feeder, OV_CFG of a phase (R221, R293). -/
def Chip.rewriteThresholds (c : Chip) (p : Nat) : Chip :=
  match (c.port p).announce with
  | none => c
  | some i =>
    if c.hdrLead p && (c.port p).cfgDone then
      let c1 := if seCap i 1 && seFeed i then c.pushReq p (cfgWrite 3 1 (c.tripWord p) 0) else c
      if seCap i 0 then c1.pushReq p (cfgWrite 4 1 (c1.ovCfg p) 0) else c1
    else c

/-! Discovery (R133 to R135). -/

/-- DISC_FAIL, the phase, the feeder, TW_HEALTH and the delegation of the port follow its LINK (R139, R216, R289, R353, R366). -/
def Chip.setLink (c : Chip) (p v : Nat) : Chip :=
  let was := c.link p
  let c1 := (if was = v then c else c.up R.SP_LINK (pgSP p) v).level (pgSP p) 5 (v == lkFailed)
  if was = lkReady && v != lkReady then
    ((c1.phLost p).fdOff p).reHealth
  else if was != lkReady && v == lkReady then
    let c2 := (if c1.ph p = 6 then c1.phStart p else c1).reHealth
    if c2.paired && c2.leads && (c2.port p).delegated then c2.propose (.delegate (portFin p) false) else c2
  else c1

/-- The port enters a step of discovery, which may take 10 ms (R134). -/
def Chip.discStep (c : Chip) (p v : Nat) : Chip := (c.setLink p v).arm (tmKey tmDisc p) (10 * dqMs)

/-- All that discovery and its requests hold is dropped (R133). -/
def Chip.discClear (c : Chip) (p : Nat) : Chip :=
  let c1 := c.modPort p (fun t => { t with
    cfgQ := [], req := none, announce := none, cfgDone := false, resume := false, echoOk := 0, fencing := none, admitting := false })
  (c1.disarm (tmKey tmFence p)).disarm (tmKey tmAdmit p)

/-- Discovery starts, or restarts, from ALIGN (R133); the limit of R134 runs also while no stage end answers (R139). -/
def Chip.discAlign (c : Chip) (p : Nat) : Chip := (c.discClear p).discStep p lkAlign

/-- Discovery is begun anew: attempts count from none (R133). TYPE_VALID falls here and nowhere else: the manual does not say when
(R137; DESIGN CHOICE, log 146). -/
def Chip.discStart (c : Chip) (p : Nat) : Chip :=
  (((c.modPort p (fun t => { t with attempts := 0 })).up R.SP_TYPE_VALID (pgSP p) 0).disarm (tmKey tmDiscRetry p)).discAlign p

/-- A port's page has been enabled: its receiver begins anew (R100, R136, R139), and with AUTO_DISC discovery starts (R133). -/
def Chip.portOn (c : Chip) (p : Nat) : Chip :=
  let c1 := c.modPort p (fun t => { t with aligned := false, badSlots := 0, goodRun := 0, linkUp := false, everUp := false })
  if c1.on R.SP_AUTO_DISC (pgSP p) then c1.discStart p else c1

/-- A port group falls idle as its page is disabled (R136, R139). -/
def Chip.portOff (c : Chip) (p : Nat) : Chip :=
  let c1 := c.modPort p (fun t => { t with aligned := false, badSlots := 0, goodRun := 0, linkUp := false, everUp := false })
  ((((c1.discClear p).setLink p lkDown).disarm (tmKey tmDisc p)).disarm (tmKey tmDiscRetry p)).level (pgSP p) 0 false

/-- The port is FAILED: STAGE_DISC_FAIL, and another try every second (R134). -/
def Chip.discFailed (c : Chip) (p : Nat) : Chip :=
  let c1 := (c.setLink p lkFailed).disarm (tmKey tmDisc p)
  let c2 := c1.modPort p (fun t => { t with cfgQ := [], req := none, attempts := 0 })
  (c2.arm (tmKey tmDiscRetry p) dqS).raise 0x40 p

/-- A step has failed: discovery restarts from ALIGN, four attempts in all (R134). -/
def Chip.discStepFail (c : Chip) (p : Nat) : Chip :=
  let n := (c.port p).attempts + 1
  if n ≥ 4 then c.discFailed p
  else (c.modPort p (fun t => { t with attempts := n })).discAlign p

/-- An ANNOUNCE that R134 accepts: this manual's LINK_VER, CHANNELS and PAIRS in range. -/
def identOk (i : SeIdent) : Bool :=
  i.linkVer == 1 && decide (1 ≤ i.channels.toNat) && decide (i.channels.toNat ≤ 4) && decide (i.pairs.toNat ≤ 2)

/-- The stage end's identity goes to SP_IDENT0-2 and SP_STATUS (R137, R138); TYPE_VALID only from a valid ANNOUNCE. -/
def Chip.showIdent (c : Chip) (p : Nat) (i : SeIdent) : Chip :=
  c.hw (pgSP p) [(R.SP_IDENT0, 0, i.vendor.toNat + 65536 * i.model.toNat), (R.SP_IDENT1, 0, i.serial.toNat),
    (R.SP_IDENT2, 0, i.linkVer.toNat + 256 * i.caps.toNat + 65536 * (i.channels.toNat % 8) + 2 ^ 20 * (i.pairs.toNat % 4)),
    (R.SP_STAGE_TYPE, 0, i.stype.toNat % 4), (R.SP_TYPE_VALID, 0, b2n (identOk i && decide (i.stype.toNat ≤ 3)))]

/-- The port is READY: it needs no further step (R133). -/
def Chip.discReady (c : Chip) (p : Nat) : Chip :=
  ((c.setLink p lkReady).disarm (tmKey tmDisc p)).modPort p (fun t => { t with attempts := 0 })

/-- The FENCE step begins towards a new epoch (R124, R133); its 256 ticks count from the first FENCE frame. -/
def Chip.startFence (c : Chip) (p : Nat) : Chip :=
  let t := c.port p
  let n : BitVec 8 := if t.epochValid then BitVec.ofNat 8 (c.rd R.SP_SE_EPOCH (pgSP p)) + 1 else t.epoch + 1
  (c.setPort p { t with fencing := some n }).disarm (tmKey tmFence p)

/-- CONFIG is complete (R133): a twin with reads only is READY, one without a role waits, the other fences, or after a resume goes to
READY where the stage end still holds its epoch (R135). -/
def Chip.configDone (c : Chip) (p : Nat) : Chip :=
  let c1 := c.modPort p (fun t => { t with cfgDone := true })
  let t := c1.port p
  if c1.portLeads p then
    if t.resume && t.epochValid && c1.rd R.SP_SE_EPOCH (pgSP p) == t.epoch.toNat then c1.discReady p
    else (c1.startFence p).arm (tmKey tmDisc p) (10 * dqMs)
  else if c1.noRole then c1.disarm (tmKey tmDisc p)
  else c1.discReady p

/-- The twin takes the role of LEAD or SOLO: ports that wait in CONFIG fence (R133). -/
def Chip.fenceWaiting (c : Chip) : Chip :=
  foldc (upTo 192) (fun p c =>
    if c.link p = lkConfig && (c.port p).cfgDone && (c.port p).fencing.isNone then
      (c.startFence p).arm (tmKey tmDisc p) (10 * dqMs) else c) c

/-- A FENCE is complete: the port is READY; a paired LEAD admits the other link (R124, R133). -/
def Chip.fenceDone (c : Chip) (p : Nat) : Chip :=
  let c1 := (c.modPort p (fun t => { t with fencing := none })).disarm (tmKey tmFence p)
  let c2 := if c1.link p = lkConfig then c1.discReady p else c1
  if c2.paired && c2.portLeads p && !c2.peerAdmit p then
    (c2.modPort p (fun t => { t with admitting := true })).disarm (tmKey tmAdmit p)
  else c2

/-- CONFIG begins: the writes, or the reads, are queued (R133, R160). -/
def Chip.startConfig (c : Chip) (p : Nat) (i : SeIdent) (resume : Bool) : Chip :=
  let qs := if c.hdrLead p then c.configReqs p i resume else configReads i
  let c1 := (c.discStep p lkConfig).modPort p (fun t => { t with cfgQ := qs, req := none, cfgDone := false })
  c1.nextReq p

/-- SAFE_ACT is checked against the stage end's CAPS: a value it lacks falls back to STAGE_SAFE_DEFAULT (R136). -/
def Chip.checkSafeAct (c : Chip) (p : Nat) (i : SeIdent) : Chip :=
  let v := c.safeAct p
  if v = 3 || (v = 2 && !seCap i 5) then
    (c.wr R.SP_SAFE_ACT (pgSP p) (c.rd R.SYS_STAGE_SAFE_DEFAULT pgSYS)).cfgReject (pgSP p) 8
  else c

/-- Every port fences from its epoch E to E + 1, counted once (R350). -/
def Chip.fenceAll (c : Chip) : Chip :=
  foldc (upTo 192) (fun p c =>
    if (c.port p).epochValid && (c.port p).linkUp then
      (c.modPort p (fun t => { t with fencing := some (BitVec.ofNat 8 (c.rd R.SP_SE_EPOCH (pgSP p)) + 1), admitting := false })).disarm
        (tmKey tmFence p)
    else c) (c.bump R.TWIN_CNT pgTWIN 3)

end Sys2Proof.Machine
end

