-- ==== Sys2Proof/Machine/Link.lean ====
section
/-! DEFINITION. Link.lean: the GT9192's side of the stage links: alignment, UP and DOWN, time alignment, discovery, requests,
FENCE and ADMIT (R97 to R139). -/

namespace Sys2Proof.Machine

/-! Receiving a frame (R103 to R105, R137 to R139). -/

/-- CRC_BURST: CNT_CRC rose by 4 or more in the last 64 ticks (R139). -/
def Chip.crcBurst (c : Chip) (p : Nat) : Chip :=
  let ts := ((c.port p).crcTimes.filter (fun t => decide (c.now < t + 64 * dqTick))).take 4
  (c.modPort p (fun t => { t with crcTimes := ts })).level (pgSP p) 4 (decide (4 ≤ ts.length))

/-- A frame that fails its CRC or shows a code violation is discarded and counted (R103); a violation counts towards the loss of
alignment (R100). -/
def Chip.upBad (c : Chip) (p : Nat) (codeErr : Bool) : Chip :=
  let c1 := (c.bump R.SP_CNT_CRC (pgSP p)).modPort p (fun t => { t with
    goodRun := 0, crcTimes := c.now :: t.crcTimes, got := true, badSlots := if codeErr then min 4 (t.badSlots + 1) else 0 })
  c1.crcBurst p

/-- A frame that passes its CRC: the state of the link and the frames lost before it (R100, R104, R138). A repeated SEQ counts as no
loss, and one that has gone back as a loss of the frames up to it, modulo 65,536 (DESIGN CHOICE, log 56). -/
def Chip.upGood (c : Chip) (p : Nat) (h : Hdr) : Chip :=
  let t := c.port p
  let gap := match t.prevSeq with
    | none => 0
    | some s => if s.toNat = h.seq then 0 else (h.seq + 65536 - s.toNat - 1) % 65536
  let c1 := if gap = 0 then c else c.bump R.SP_CNT_SEQGAP (pgSP p) 0 gap
  (c1.setPort p { t with
    prevSeq := some (BitVec.ofNat 16 h.seq), goodRun := min 64 (t.goodRun + 1), lastGood := c.now, got := true, badSlots := 0 }).crcBurst p

/-- The full sample tick of a frame, or none if it lies more than 16 ticks back (R26). -/
def extendTick (now low : Nat) : Option Nat :=
  let back := (now + 65536 - low % 65536) % 65536
  if back ≤ 16 ∧ back ≤ now then some (now - back) else none

/-- EPOCH_MATCH follows SE_EPOCH and this twin's epoch of the port (R137). -/
def Chip.reEpoch (c : Chip) (p : Nat) : Chip :=
  let same := b2n (c.rd R.SP_SE_EPOCH (pgSP p) == (c.port p).epoch.toNat)
  if c.rd R.SP_EPOCH_MATCH (pgSP p) = same then c else c.up R.SP_EPOCH_MATCH (pgSP p) same

/-- What the header of a frame that is used brings: the stage end's epoch, and the end of a FENCE (R124, R137, R138). -/
def Chip.upHeader (c : Chip) (p : Nat) (h : Hdr) : Chip :=
  let t := c.port p
  let same := b2n (h.epoch == t.epoch.toNat)
  let c3 := if c.rd R.SP_SE_EPOCH (pgSP p) = h.epoch ∧ c.rd R.SP_EPOCH_MATCH (pgSP p) = same then c
    else c.hw (pgSP p) [(R.SP_SE_EPOCH, 0, h.epoch), (R.SP_EPOCH_MATCH, 0, same)]
  let c4 := if same = 0 ∧ c3.link p = lkReady then c3.bump R.SP_CNT_EPOCH (pgSP p) else c3
  match t.fencing with
  | some n => if h.typ ≠ 0 ∧ h.epoch = n.toNat then c4.fenceDone p else c4
  | none => c4

/-- Checks a received upstream frame: ignored while the page is disabled (R136) or the receiver is not aligned (R100), counted and
discarded when it is bad (R103), of an undefined TYPE (R105) or a LATE SAMPLE (R26). Any other brings its header's news; its header
and body are answered. -/
def Chip.upCheck (c : Chip) (p : Nat) (f : Frame) : Chip × Option (Hdr × Bytes) :=
  if !c.enabled (pgSP p) || !(c.port p).aligned then (c, none)
  else if !frameOk f then (c.upBad p f.codeErr, none)
  else
    let h := hdrOf f.bytes
    let c1 := c.upGood p h
    if !upType h.typ then (c1.bump R.SP_CNT_INVALID (pgSP p), none)
    else if h.typ = 1 ∧ (extendTick c.tick (leAt (bodyOf f) 11 2)).isNone then (c1.bump R.SP_CNT_LATE (pgSP p), none)
    else
      let c2 := c1.upHeader p h
      let c3 := if h.typ = 0 then c2.modPort p (fun t => { t with epochValid := false, sampled := false }) else c2
      (c3, some (h, bodyOf f))

/-- What a good frame of one type does; a good frame of another type brings its header's news only. -/
def Chip.onFrame (c : Chip) (p : Nat) (f : Frame) (typ : Nat) (g : Chip → Bytes → Chip) : Chip :=
  match c.upCheck p f with
  | (c1, some (h, b)) => if h.typ = typ then g c1 b else c1
  | (c1, none) => c1

/-! Rows: alignment and the state of the link (R98, R100). -/

/-- A receiver loses alignment after 4 slots in a row without a good delimiter (R100). -/
def linkAlignLoss (c : Chip) (p : Nat) : Chip :=
  if c.enabled (pgSP p) && (c.port p).aligned && decide (4 ≤ (c.port p).badSlots) then
    c.modPort p (fun t => { t with aligned := false, goodRun := 0, badSlots := 0 })
  else c

/-- A receiver acquires alignment on K28.5 and corrects inverted polarity (R98, R100). -/
def linkAlignAcquire (c : Chip) (p : Nat) (inv : Bool) : Chip :=
  if c.enabled (pgSP p) then c.modPort p (fun t => { t with aligned := true, inverted := inv, badSlots := 0 }) else c

/-- The link is DOWN after 1,024 ticks without a good frame (R100): LINK_DOWN, and the port leaves READY (R139, R216). A step of
discovery that runs then runs into its limit (R134). -/
def linkDown (c : Chip) (p : Nat) : Chip :=
  let t := c.port p
  if c.enabled (pgSP p) && t.linkUp && decide (t.lastGood + 1024 * dqTick ≤ c.now) then
    let c1 := c.setPort p { t with linkUp := false, goodRun := 0, cfgQ := [], req := none, cfgDone := false,
                                   fencing := none, admitting := false, sampled := false }
    let c2 := (c1.disarm (tmKey tmFence p)).disarm (tmKey tmAdmit p)
    (if c.armed (tmKey tmDisc p) || c.link p == lkFailed then c2 else c2.setLink p lkDown).level (pgSP p) 0 t.everUp
  else c

/-- The link is UP after 64 good frames in a row (R100): with AUTO_DISC discovery starts, unless it waits in ALIGN (R133). A link that
held an identified stage end waits for the stage end's report, by which it resumes or starts afresh (R135). With AUTO_DISC = 0 and no
discovery, LINK goes on reading DOWN (R137; DESIGN CHOICE, log 147). -/
def linkUp (c : Chip) (p : Nat) : Chip :=
  let t := c.port p
  if c.enabled (pgSP p) && !t.linkUp && decide (64 ≤ t.goodRun) then
    let c1 := (c.setPort p { t with linkUp := true, everUp := true }).level (pgSP p) 0 false
    if c1.on R.SP_AUTO_DISC (pgSP p) && c.link p != lkAlign && !(t.announce.isSome && t.epochValid) then c1.discStart p else c1
  else c

/-- A link that returns while the stage end still holds E resumes at TIMING (R135). -/
def linkResume (c : Chip) (p : Nat) : Chip :=
  let t := c.port p
  if c.enabled (pgSP p) && t.linkUp && t.announce.isSome && t.epochValid && c.link p == lkDown && c.on R.SP_AUTO_DISC (pgSP p) then
    (c.modPort p (fun t => { t with attempts := 0, echoOk := 0, cfgDone := false, resume := true })).discStep p lkTiming
  else c

/-! Rows: time alignment (R118 to R120). -/

/-- Sends SYNC in a slot that is free for it (R111): with ECHO_REQ in discovery and at least once in 1,024 ticks, with STEP while the
stage end is OFF or holds no epoch (R119, R120). -/
def syncSend (c : Chip) (p : Nat) : Chip :=
  if !c.syncSlot p || c.fencedState then c
  else
    let t := c.port p
    let echo := (decide (lkAlign ≤ c.link p) && decide (c.link p ≤ lkConfig)) || !c.armed (tmKey tmSync p) || c.due (tmKey tmSync p)
    let step := !t.epochValid || c.rd R.SP_STAGE_STATE (pgSP p) == 0
    match (if echo then c.rspTick p else none) with
    | some r =>
      ((c.sendSe p 8 (syncBody c.datum (c.rd R.SP_DELAY (pgSP p)) r true step)).modPort p (fun t =>
        { t with syncT1 := ((r, c.datum) :: t.syncT1).take 16 })).arm (tmKey tmSync p) (960 * dqTick)
    | none => c.sendSe p 8 (syncBody c.datum (c.rd R.SP_DELAY (pgSP p)) 0 false step)

/-- Mean of a list of integers, towards zero. -/
def meanInt (xs : List Int) : Int := if xs.length = 0 then 0 else (xs.foldl (· + ·) 0).tdiv xs.length

/-- A TIME_ECHO arrives (R119, R120): the delay is filtered over 8 echoes, as the mean of the last 8 from the first on (DESIGN CHOICE,
log 148); in TIMING, 8 offsets in a row within 16 dq end the step (R133). An odd sum or difference is halved toward zero: the manual states
no rounding of the halves either (DESIGN CHOICE, log 148). -/
def timeEchoRx (c : Chip) (p : Nat) (f : Frame) (t4 : Nat) : Chip :=
  c.onFrame p f 7 (fun c b =>
    if leAt b 0 1 ≠ 1 then c
    else
      let t := c.port p
      let seq := (hdrOf f.bytes).seq
      match t.syncT1.find? (fun e => e.1 % 65536 == seq) with
      | none => c
      | some (r, t1) =>
      let down := sgn 32 (leAt b 4 4 + 2 ^ 32 - t1 % 2 ^ 32)
      let up := sgn 32 (t4 % 2 ^ 32 + 2 ^ 32 - leAt b 8 4)
      let d := (down + up).tdiv 2
      let ofs := (down - up).tdiv 2
      let ds := (d :: t.delays).take 8
      let ok := if ofs.natAbs ≤ 16 then t.echoOk + 1 else 0
      let c1 := (c.setPort p { t with delays := ds, echoOk := ok, syncT1 := t.syncT1.filter (fun e => e.1 != r) }).hw (pgSP p)
        [(R.SP_DELAY, 0, (max 0 (meanInt ds)).toNat), (R.SP_OFFSET, 0, unsgn 32 ofs)]
      let c2 := if c1.link p = lkAlign then (c1.discStep p lkTiming).modPort p (fun t => { t with echoOk := if ofs.natAbs ≤ 16 then 1 else 0 }) else c1
      if c2.link p = lkTiming ∧ 8 ≤ (c2.port p).echoOk then
        match t.announce with
        | some i => c2.startConfig p i true
        | none => (c2.discStep p lkIdent).pushReq p { op := 3 }
      else c2)

/-! Rows: answers (R127 to R135). -/

/-- An ANNOUNCE arrives in IDENT: checked, shown, and CONFIG begins (R132 to R137). -/
def announceRx (c : Chip) (p : Nat) (f : Frame) : Chip :=
  c.onFrame p f 7 (fun c b =>
    if leAt b 0 1 ≠ 0 ∨ c.link p ≠ lkIdent then c
    else
      let i := announceOf b
      let c1 := (c.modPort p (fun t => { t with req := none, announce := some i })).showIdent p i
      if !identOk i then
        (c1.modPort p (fun t => { t with announce := none })).discFailed p
      else (c1.checkSafeAct p i).startConfig p i false)

/-- An answered WRITE: each half of an envelope set is noted, in the twin too, whose CMD frames may then name the set; a clear counts its
100 us from here (R160, R222, R291, R339). -/
def Chip.writeOk (c : Chip) (p : Nat) (q : CfgReq) : Chip :=
  if 0x10 ≤ q.addr ∧ q.addr < 0x50 then
    let c1 := c.envAnswered p q.addr
    if c1.paired then c1.send (.chain (.mirror (.envOk (portFin p) q.addr))) else c1
  else if q.addr = 1 then
    if bitOf q.d0.toNat 1 then c.arm (tmKey tmCrowbar p) (100 * dqUs)
    else
      let at' := c.datum + 100 * dqUs
      let c1 := c.arm (tmKey tmFdClear p) (100 * dqUs)
      if c1.paired then c1.send (.chain (.mirror (.service 10 p [BitVec.ofNat 32 at', BitVec.ofNat 32 (at' / 2 ^ 32)]))) else c1
  else c

/-- A twin that does not lead a port passes the response to a request of its own on to its twin (R353, R361). -/
def Chip.forwardRsp (c : Chip) (p : Nat) (b : Bytes) : Chip :=
  match (c.port p).req with
  | some q =>
    if c.paired && !c.portLeads p && leAt b 0 1 % 16 == q.op then
      c.send (.chain (.mirror (.service 15 p [BitVec.ofNat 32 q.op, BitVec.ofNat 32 (leAt b 1 1), BitVec.ofNat 32 q.addr, q.d0])))
    else c
  | none => c

/-- The twin passes a response on: an answered WRITE has its effect here too (R361). -/
def Chip.takeRsp (c : Chip) (p op st addr : Nat) (d0 : Word) : Chip :=
  if op = 2 ∧ st = 0 then c.writeOk p { op := 2, addr := addr, d0 := d0 } else c

/-- A response arrives (R128, R129). BUSY repeats the request; DENIED or BAD_ADDR in CONFIG ends the attempt (R133). -/
def cfgRspRx (c : Chip) (p : Nat) (f : Frame) : Chip :=
  c.onFrame p f 3 (fun c0 b =>
    let c := c0.forwardRsp p b
    match (c.port p).req with
    | none => c
    | some q =>
      let op := leAt b 0 1 % 16
      let tag := leAt b 0 1 / 16
      let st := leAt b 1 1
      if op ≠ q.op ∨ (op ≠ 14 ∧ tag ≠ q.tag) then c
      else if st = 4 then c.sendReq p { q with tries := 0 }
      else
        let c1 := c.modPort p (fun t => { t with req := none })
        let inCfg := c1.link p == lkConfig && !(c1.port p).cfgDone
        if st = 0 then
          let c2 := if q.op = 2 then c1.writeOk p q else c1
          if inCfg && (c2.port p).cfgQ == [] then c2.configDone p else c2.nextReq p
        else if inCfg && (st = 1 || st = 2) then c1.discStepFail p
        else if inCfg then c1.modPort p (fun t => { t with cfgQ := [] })
        else c1.nextReq p)

/-- A request without an answer by RSP_TICK + 4 is repeated up to three times, then abandoned: RSP_TIMEOUT (R129, R139). -/
def cfgRspTimeout (c : Chip) (p : Nat) : Chip :=
  match (c.port p).req with
  | none => c
  | some q =>
    if q.wait || decide (c.tick ≤ q.rspTick + 4) then c
    else if q.tries < 3 then c.sendReq p { q with tries := q.tries + 1 }
    else
      let inCfg := c.link p == lkConfig && !(c.port p).cfgDone
      let c1 := c.modPort p (fun t => { t with req := none, cfgQ := if inCfg then [] else t.cfgQ })
      ((c1.bump R.SP_CNT_RSP_TIMEOUT (pgSP p)).pulse (pgSP p) 7).nextReq p

/-- The LEAD polls a stage end that reports SIDE_PENDING (R131). -/
def sidePendingPoll (c : Chip) (p : Nat) : Chip :=
  let t := c.port p
  let busy := (match t.req with | some q => q.op == 0 | none => false) || t.cfgQ.any (fun q => q.op == 0)
  if c.portLeads p && t.sidePending && c.linkReady p && !busy then c.pushReq p { op := 0 } else c

/-! Rows: FENCE and ADMIT (R121 to R124, R352). -/

/-- A timer of 256 ticks that runs from the first frame on (R124). -/
def Chip.armOnce (c : Chip) (k : Nat) : Chip := if c.armed k then c else c.arm k (256 * dqTick)

/-- Sends FENCE in a slot that is free for it: after the apply ticks of all CMD frames sent, with the epoch it follows in the header
(R111, R122, R124, R137). -/
def fenceSend (c : Chip) (p : Nat) : Chip :=
  match (c.port p).fencing with
  | none => c
  | some n =>
    if c.fenceSlot p && c.portLeads p && (!(c.port p).sentCmd || decide ((c.port p).lastApply < c.tick)) then
      (((c.sendSe p 9 (fenceBody false n.toNat) false (some ((n.toNat + 255) % 256))).modPort p (fun t => { t with epoch := n })).armOnce
        (tmKey tmFence p)).reEpoch p
    else c

/-- Sends ADMIT for the twin's link until it is reported admitted (R124). -/
def admitSend (c : Chip) (p : Nat) : Chip :=
  let t := c.port p
  if t.admitting && c.portLeads p then
    if c.peerAdmit p then (c.setPort p { t with admitting := false }).disarm (tmKey tmAdmit p)
    else if c.fenceSlot p then (c.sendSe p 9 (fenceBody true t.epoch.toNat)).armOnce (tmKey tmAdmit p)
    else c
  else c

/-- A FENCE or ADMIT has been repeated for 256 ticks in vain: EPOCH_MISMATCH (R124, R139). -/
def epochMismatch (c : Chip) (p : Nat) : Chip :=
  let f := c.due (tmKey tmFence p) && (c.port p).fencing.isSome
  let a := c.due (tmKey tmAdmit p) && (c.port p).admitting && !c.peerAdmit p
  if f || a then
    let c1 := c.modPort p (fun t => { t with fencing := if f then none else t.fencing, admitting := if a then false else t.admitting })
    let c2 := if f then c1.disarm (tmKey tmFence p) else c1
    let c3 := if a then c2.disarm (tmKey tmAdmit p) else c2
    c3.pulse (pgSP p) 6
  else c

/-! Rows: limits of discovery (R134). -/

/-- A step has not completed within 10 ms (R134). -/
def discStepTimeout (c : Chip) (p : Nat) : Chip :=
  if c.due (tmKey tmDisc p) && decide (lkAlign ≤ c.link p) && decide (c.link p ≤ lkConfig) then
    (c.disarm (tmKey tmDisc p)).discStepFail p
  else c

/-- A FAILED port is tried again every second (R134). -/
def discRetry (c : Chip) (p : Nat) : Chip :=
  if c.due (tmKey tmDiscRetry p) && c.link p == lkFailed then c.discStart p else c

/-! Meanings of the rows. -/

/-- LINK_ALIGN_LOSS (R100): Four slots without a delimiter or with a code violation declare loss of alignment and reacquire. -/
def execLinkAlignLoss (port : Port) (s : State) : Result :=
  .next (s.onChip (fun c => linkAlignLoss c port.val))

/-- LINK_DOWN (R100): A link is DOWN after 1,024 ticks without a good frame. -/
def execLinkDown (port : Port) (s : State) : Result :=
  .next (s.onChip (fun c => linkDown c port.val))

/-- LINK_UP (R100): A link is UP after 64 consecutive good frames. -/
def execLinkUp (port : Port) (s : State) : Result :=
  .next (s.onChip (fun c => linkUp c port.val))

/-- LINK_RESUME (R135): A link returning while the stage end holds its epoch resumes at TIMING and reruns CONFIG. -/
def execLinkResume (port : Port) (s : State) : Result :=
  .next (s.onChip (fun c => linkResume c port.val))

/-- SYNC_SEND (R119): The GT9192 sends a SYNC frame on a link at least every 64 ticks. -/
def execSyncSend (port : Port) (s : State) : Result :=
  .next (s.onChip (fun c => syncSend c port.val))

/-- TIME_ECHO_RX (R119): From an IDENT TIME_ECHO the GT9192 computes and filters the link delay. -/
def execTimeEchoRx (port : Port) (frame : Frame) (t4 : Nat) (s : State) : Result :=
  .next (s.onChip (fun c => timeEchoRx c port.val frame t4))

/-- ANNOUNCE_RX (R133): The GT9192 receives an ANNOUNCE and records identity, or fails the port for bad values. -/
def execAnnounceRx (port : Port) (frame : Frame) (s : State) : Result :=
  .next (s.onChip (fun c => announceRx c port.val frame))

/-- CFG_RSP_RX (R129): The GT9192 receives a CFG_RSP and acts on its status. -/
def execCfgRspRx (port : Port) (frame : Frame) (s : State) : Result :=
  .next (s.onChip (fun c => cfgRspRx c port.val frame))

/-- CFG_RSP_TIMEOUT (R129): No response by RSP_TICK + 4 repeats the request, or after 3 repeats counts CNT_RSP_TIMEOUT. -/
def execCfgRspTimeout (port : Port) (s : State) : Result :=
  .next (s.onChip (fun c => cfgRspTimeout c port.val))

/-- SIDE_PENDING_POLL (R131): The LEAD polls a stage end reporting SIDE_PENDING within 2,000 ticks. -/
def execSidePendingPoll (port : Port) (s : State) : Result :=
  .next (s.onChip (fun c => sidePendingPoll c port.val))

/-- FENCE_SEND (R124): The GT9192 sends or repeats a FENCE on a link until the upstream epoch matches. -/
def execFenceSend (port : Port) (s : State) : Result :=
  .next (s.onChip (fun c => fenceSend c port.val))

/-- ADMIT_SEND (R124): The GT9192 sends or repeats an ADMIT until the other link is reported admitted. -/
def execAdmitSend (port : Port) (s : State) : Result :=
  .next (s.onChip (fun c => admitSend c port.val))

/-- EPOCH_MISMATCH (R124): A FENCE or ADMIT unanswered after 256 ticks raises EPOCH_MISMATCH. -/
def execEpochMismatch (port : Port) (s : State) : Result :=
  .next (s.onChip (fun c => epochMismatch c port.val))

/-- DISC_STEP_TIMEOUT (R134): A discovery step not done in 10 ms restarts discovery, or after four attempts fails the port. -/
def execDiscStepTimeout (port : Port) (s : State) : Result :=
  .next (s.onChip (fun c => discStepTimeout c port.val))

/-- DISC_RETRY (R134): A FAILED port retries discovery every 1 s. -/
def execDiscRetry (port : Port) (s : State) : Result :=
  .next (s.onChip (fun c => discRetry c port.val))

/-- LINK_ALIGN_ACQUIRE (R100): A stage-link receiver finds K28.5, corrects inverted polarity and acquires frame alignment. -/
def execLinkAlignAcquire (port : Port) (inverted : Bool) (s : State) : Result :=
  .next (s.onChip (fun c => linkAlignAcquire c port.val inverted))

end Sys2Proof.Machine
end

