-- ==== Sys2Proof/Machine/LawLib.lean ====
section
/-! DEFINITION. LawLib.lean: one update of a law in binary32 (R194 to R211), its supervision (R213 to R223) and the command it
gives its port (R195). -/

namespace Sys2Proof.Machine

/-! Inputs. -/

/-- The SAMPLE body of a sample tick, if the port has it (R26, R31). -/
def Chip.bodyAt (c : Chip) (p t : Nat) : Option Bytes := ((c.port p).hist.find? (fun e => e.1 == t)).map (·.2)

/-- The sample of a channel at a sample tick. -/
def Chip.sampleAt (c : Chip) (p t ch : Nat) : Option Sample := (c.bodyAt p t).map (fun b => sampleOf b t ch)

/-- What an update reads of one role's channel: its value, or that it is excluded or missing (R210). -/
inductive InVal where
  | ok (x : F32)
  | excluded
  | missing
deriving DecidableEq, Repr

/-- The input of a channel at a sample tick (R194, R210). -/
def Chip.input (c : Chip) (p t ch : Nat) : InVal :=
  match c.sampleAt p t ch with
  | none => .missing
  | some s => if s.ovr || s.susp then .excluded else .ok (c.calPhys p ch s.int)

/-- The roles a law type uses, in the order CH_Y, CH_I, CH_VIN, CH_X (R197). -/
def lawRoles (ty : Nat) : List Nat :=
  if ty = 5 then [0, 1] else if ty = 6 ∨ ty = 7 ∨ ty = 8 then [0, 2, 3] else [0]

/-- The channel a descriptor gives a role. -/
def dRoleCh (d : Bytes) (r : Nat) : Nat := if r = 0 then dChY d else if r = 1 then dChI d else if r = 2 then dChVin d else dChX d

/-- T_U in seconds (R194). -/
def dTu (d : Bytes) : F32 := fRat (dN d) 20000000

/-! Profile generator (R208, R209). -/

/-- Reference, rate and acceleration of a profile. -/
structure Prof where
  r : F32
  v : F32
  a : F32
deriving DecidableEq, Repr

/-- One step of the generator (R208), and the intermediates that R211 watches: those it forms; dstop is formed where vpk is above 0. -/
def profStep (setpt velMax accMax jerkMax tu : F32) (g : Prof) : Prof × List F32 :=
  let e := fsub setpt g.r
  let s : F32 := if flt e fZero then fneg fOne else if flt fZero e then fOne else fZero
  let vs := fmul s g.v
  let as := fmul s g.a
  let two := fOfNat 2
  let vpk := fadd vs (fdiv (fmul as (fabs as)) (fmul two jerkMax))
  let knee := fdiv (fmul accMax accMax) jerkMax
  let (dstop, ds) : F32 × List F32 :=
    if !flt fZero vpk then (fZero, [])
    else if fle knee vpk then
      let d := fadd (fdiv (fmul vpk vpk) (fmul two accMax)) (fdiv (fmul vpk accMax) (fmul two jerkMax))
      (d, [fmul accMax accMax, knee, fmul vpk vpk, fmul two accMax, fmul vpk accMax, d])
    else
      let d := fmul vpk (fsqrt (fdiv vpk jerkMax))
      (d, [fmul accMax accMax, knee, fdiv vpk jerkMax, d])
  let tgt : F32 :=
    if flt fZero vpk && fle (fabs e) dstop then fneg (fmul s accMax)
    else if flt vpk velMax then fmul s accMax else fZero
  let lim := fmul jerkMax tu
  let a := fadd g.a (fclamp (fneg lim) lim (fsub tgt g.a))
  let v := fclamp (fneg velMax) velMax (ffma a tu g.v)
  let r := ffma v tu g.r
  let near := flt (fabs (fsub setpt r)) (fmul lim (fmul tu tu)) && flt (fabs v) (fmul lim tu)
  (if near then ⟨setpt, fZero, fZero⟩ else ⟨r, v, a⟩, [e, vs, as, fmul two jerkMax, vpk, lim, a, v, r] ++ ds)

/-! Evaluation. -/

/-- What an evaluation is given: the inputs by role, the reference, and what its update forbids. -/
structure EvalIn where
  y : F32
  i : F32
  vin : F32
  x : F32
  /-- v is excluded (R203) -/
  yEx : Bool
  r : F32
  tLat : F32
  ind : F32
  /-- the integrator may change -/
  integrate : Bool
  /-- U_MANUAL of a transfer to automatic that this update makes (R205) -/
  preset : Option F32
deriving DecidableEq, Repr

/-- What an evaluation yields: the law's new state, the output before clamping, the output after it, the prediction of the
next CH_Y, whether a guard forces saturation, and the other intermediates (R211). -/
structure EvalOut where
  st : LawSt
  uPre : F32
  u : F32
  pred : F32
  guard : Bool
  mids : List F32
deriving DecidableEq, Repr

/-- What the PI core yields: integrator, output before clamping, output, and the intermediates. -/
structure PiOut where
  integ : F32
  pre : F32
  u : F32
  mids : List F32
deriving DecidableEq, Repr

/-- The sum p + integ + d + ff of R198 as this model groups it: fma(kp, e, integ), then d, then ff are added, each rounded. The manual
gives no grouping, DESIGN CHOICE (174). -/
def piSum (kp e integ d ff : F32) : F32 := fadd (fadd (ffma kp e integ) d) ff

/-- The PI core of R198 with its preset (R205). The sum p + d + ff of the preset is grouped in the same way; the output of a preset is
U_MANUAL itself, clamped, as R205 says that it equals. DESIGN CHOICE (174). -/
def piCore (kp ki ff d e tu lo hi : F32) (integ : F32) (q : EvalIn) : PiOut :=
  match q.preset with
  | some um =>
    let s := fadd (ffma kp e d) ff
    let integ1 := fsub um s
    ⟨integ1, um, fclamp lo hi um, [s]⟩
  | none =>
    let pre := piSum kp e integ d ff
    let inside := fle lo pre && fle pre hi
    let integ1 := if inside && q.integrate then ffma (fmul ki tu) e integ else integ
    let u0 := piSum kp e integ1 d ff
    ⟨integ1, pre, fclamp lo hi u0, [ffma kp e integ, fmul ki tu, u0]⟩

/-- PI, PID and DROOP_PI (R198). In the derivative the product alpha x d_prev is fused with the addition and the product with KD is rounded
first; R198 groups neither (DESIGN CHOICE, log 174). -/
def evalPid (l : LawSt) (d : Bytes) (q : EvalIn) : EvalOut :=
  let tu := dTu d
  let e0 := if dType d = 5 then fsub (ffma (fneg (dF d 84)) q.i q.r) q.y else fsub q.r q.y
  let tf := dF d 76
  let alpha := fdiv tf (fadd tf tu)
  let dPrev := if q.preset.isSome then fZero else l.dPrev
  let dTerm : F32 :=
    if dType d = 2 then
      ffma alpha dPrev (fneg (fmul (fmul (fsub fOne alpha) (fdiv (dF d 72) tu)) (fsub q.y l.yPrev)))
    else fZero
  let o := piCore (dF d 64) (dF d 68) (dF d 80) dTerm e0 tu (dUMin d) (dUMax d) l.integ q
  { st := { l with integ := o.integ, dPrev := dTerm, yPrev := q.y }, uPre := o.pre, u := o.u, pred := q.y, guard := false
    mids := [e0, dTerm, if dType d = 2 then fadd tf tu else fZero] ++ o.mids }

/-- C2P2Z and C3P3Z (R200); the history is filled in when the output of the update is known. -/
def evalComp (l : LawSt) (d : Bytes) (q : EvalIn) : EvalOut :=
  let l1 : LawSt := match q.preset with
    | some um => { l with e1 := 0, e2 := 0, e3 := 0, u1 := um, u2 := um, u3 := um }
    | none => l
  let e := fsub q.r q.y
  let m3 := decide (dType d = 4)
  let s1 := ffma (dF d 72) l1.e2 (ffma (dF d 68) l1.e1 (fmul (dF d 64) e))
  let s2 := if m3 then ffma (dF d 76) l1.e3 s1 else s1
  let s3 := ffma (fneg (dF d 84)) l1.u2 (ffma (fneg (dF d 80)) l1.u1 s2)
  let pre := if m3 then ffma (fneg (dF d 88)) l1.u3 s3 else s3
  { st := { l1 with e1 := e, e2 := l1.e1, e3 := l1.e2 }, uPre := pre, u := fclamp (dUMin d) (dUMax d) pre, pred := q.y, guard := false
    mids := [e, s1, s2, s3] }

/-- The on-state slope m1 of a phase (R202). -/
def slopeOn (boost : Bool) (vin vout ind : F32) : F32 := if boost then fdiv vin ind else fdiv (fsub vin vout) ind

/-- The slope of the averaged model under an output, times the inductance (R201). -/
def modelNet (d : Bytes) (vin vout u : F32) : F32 :=
  if bitOf (leAt d 76 1) 0 then ffma (fneg (fsub fOne u)) vout vin else ffma u vin (fneg vout)

/-- The prediction of R201 for the next sample, under the output that the update gives. -/
def predCurrent (d : Bytes) (q : EvalIn) (iHat u : F32) : F32 :=
  ffma (fdiv (fsub (dTu d) q.tLat) q.ind) (modelNet d q.vin q.x u) iHat

/-- DEADBEAT_AVG and PEAK_EMU (R201, R202); `pred` is i_hat until the output of the update is known. -/
def evalCurrent (l : LawSt) (d : Bytes) (q : EvalIn) : EvalOut :=
  let boost := bitOf (leAt d 76 1) 0
  let tu := dTu d
  let uPrev := q.preset.getD l.uPrev
  let iHat := ffma (fdiv q.tLat q.ind) (modelNet d q.vin q.x uPrev) q.y
  let vMin := dF d 72
  let e := fsub q.r iHat
  let (pre, guard, mids) : F32 × Bool × List F32 :=
    if dType d = 6 then
      let k := fdiv (fmul (fmul (dF d 68) q.ind) e) tu
      if boost then (if flt q.x vMin then (dUMin d, true, [k]) else (fsub fOne (fdiv (fsub q.vin k) q.x), false, [k]))
      else (if flt q.vin vMin then (dUMin d, true, [k]) else (fdiv (fadd k q.x) q.vin, false, [k]))
    else
      let tsw := fRat (dPeriod d) dqS
      let m1 := slopeOn boost q.vin q.x q.ind
      let m2 := if boost then fdiv (fsub q.x q.vin) q.ind else fdiv q.x q.ind
      let valley := fsub iHat (fdiv (fmul (fmul m2 (fsub fOne uPrev)) tsw) (fOfNat 2))
      let den := fadd m1 (dF d 80)
      if flt den vMin then (dUMin d, true, [m1, m2, valley, den]) else (fdiv (fdiv (fsub q.r valley) den) tsw, false, [m1, m2, valley, den])
  let u := fclamp (dUMin d) (dUMax d) pre
  { st := l, uPre := pre, u := u, pred := iHat, guard := guard, mids := [fdiv q.tLat q.ind, modelNet d q.vin q.x uPrev, e] ++ mids }

/-- OBSERVER_PI (R203). -/
def evalObserver (l : LawSt) (d : Bytes) (q : EvalIn) : EvalOut :=
  let tu := dTu d
  let p1 := ffma (dF d 84) l.w2 (ffma (dF d 80) l.w1 (ffma (dF d 68) l.x2 (fmul (dF d 64) l.x1)))
  let p2 := ffma (dF d 92) l.w2 (ffma (dF d 88) l.w1 (ffma (dF d 76) l.x2 (fmul (dF d 72) l.x1)))
  let er := fsub q.y p2
  let x1 := if q.yEx then p1 else ffma (dF d 96) er p1
  let x2 := if q.yEx then p2 else ffma (dF d 100) er p2
  let o := piCore (dF d 104) (dF d 108) (dF d 112) fZero (fsub q.r x2) tu (dUMin d) (dUMax d) l.integ q
  { st := { l with integ := o.integ, x1 := x1, x2 := x2, yPrev := x2 }, uPre := o.pre, u := o.u, pred := p2, guard := false
    mids := [p1, p2, er, x1, fsub q.r x2] ++ o.mids }

/-- One evaluation of a law's equations. -/
def evalLaw (l : LawSt) (d : Bytes) (q : EvalIn) : EvalOut :=
  let t := dType d
  if t = 3 ∨ t = 4 then evalComp l d q
  else if t = 6 ∨ t = 7 then evalCurrent l d q
  else if t = 8 then evalObserver l d q
  else evalPid l d q

/-- What follows the output of an update: the history of the compensators, the input vector of the observer (R200, R203). -/
def lawAfter (l : LawSt) (d : Bytes) (u vin io : F32) : LawSt :=
  let t := dType d
  if t = 3 ∨ t = 4 then { l with u1 := u, u2 := l.u1, u3 := l.u2 }
  else if t = 8 then { l with w1 := fmul u vin, w2 := io }
  else l

/-- Nothing that an evaluation forms is a NaN or infinite (R211). -/
def lawFinite (o : EvalOut) : Bool :=
  ([o.uPre, o.u, o.pred, o.st.integ, o.st.dPrev, o.st.e1, o.st.x1, o.st.x2] ++ o.mids).all fIsFin

/-! Edges (R195). -/

/-- The command of a law's output (R195). The product u x P is rounded to binary32 and then to a whole dq, each time ties to even: R195 asks
for one rounding of the product and does not say whether the product is formed exactly (DESIGN CHOICE, log 207). -/
def dutyCmd (d : Bytes) (u : F32) (phi mode : Nat) : Cmd :=
  let p := dPeriod d
  let len := fToNat (fmul u (fOfNat p))
  let on0 := phi % p
  let off0 := (on0 + len) % p
  let dt := dDeadtime d
  let (on1, off1) : Nat × Nat :=
    if dPair1 d = 1 then (let o := (on0 + p / 2) % p; (o, (o + len) % p))
    else if dPair1 d = 2 ∧ len + 2 * dt < p then ((off0 + dt) % p, (on0 + p - dt % p) % p)
    else (0, 0)
  { period := p, on0 := on0, off0 := off0, on1 := on1, off1 := off1, mode := mode, envIdx := dEnvIdx d }

/-- The worked example of the predictive current law: a duty of 0.519254 gives 16,616 dq, ON0 8,000 and OFF0 24,616. -/
theorem dutyCmd_example :
    (dutyCmd ([0x06, 0x0d, 0x04, 0x00, 0x29, 0x00, 0x14, 0x02, 0x60, 0x02, 0x00, 0x00, 0x00, 0x7d, 0x00, 0x00]) (fRat 519254 1000000)
      8000 1).off0 = 24616 := by decide +kernel

/-! Battery members (R243 to R245). -/

/-- A BATT stage end (R243). -/
def Chip.isBatt (c : Chip) (p : Nat) : Bool := match (c.port p).announce with | some i => i.stype == 1 | none => false

/-- The battery members of a section run; otherwise they spin at zero net current (R244, R245, R256). -/
def Chip.battRun (c : Chip) (s : Nat) : Bool :=
  let st := c.rd R.HOLD_STATE pgHOLD s
  (decide (2 ≤ st) && decide (st ≤ 5))
  || (st == 1 && (c.on R.HOLD_SHAVING pgHOLD s || c.on R.HOLD_RECHARGING pgHOLD s
      || (c.sec s).battRefs.any (fun e => !feq e.2 fZero)))

/-- The MODE of a law's commands (R195, R245, R256): a battery member of a section spins in standby and stops while the Brim
is empty. -/
def Chip.phaseMode (c : Chip) (p : Nat) (d : Bytes) : Nat :=
  if c.isBatt p && dRefSrc d == 2 then
    let s := dSection d
    if c.on R.HOLD_BRIM_EMPTY pgHOLD s then 0 else if c.battRun s then 1 else 2
  else 1

/-! Dither (R314 to R317). -/

/-- The dither of a member in its section's present chip. -/
def Chip.ditherOf (c : Chip) (s p : Nat) : F32 :=
  match (c.sec s).dither.find? (fun e => e.1 == p) with
  | some e => e.2
  | none => fZero

end Sys2Proof.Machine
end

