-- ==== Sys2Proof/Machine/LawRun.lean ====
section
/-! DEFINITION. LawRun.lean: what one instance of a law's task does: the carrier slew and the dither that go with it, the update
of R194 to R211 with its supervision (R216 to R220), and the use of its output; unbinding (R187). -/

namespace Sys2Proof.Machine

/-! Descriptor bytes held by a law. -/

/-- A byte string with bytes replaced from offset `o` on. -/
def putAt (bs : Bytes) (o : Nat) (v : Bytes) : Bytes := bs.take o ++ v ++ bs.drop (o + v.length)

/-- STATUS bits (R190). -/
def stBits (sat ovr blocked nonfin : Bool) : BitVec 16 :=
  BitVec.ofNat 16 (0x10 + 32 * b2n sat + 64 * b2n ovr + 128 * b2n blocked + 256 * b2n nonfin)

/-! Unbinding (R187, R216). -/

/-- A task slot is free again (R183). -/
def Chip.freeSlot (c : Chip) (e s : Nat) : Chip :=
  let c1 := c.hw (pgCE e) [(R.CE_CLASS, s, 0), (R.CE_ENABLE, s, 0), (R.CE_LAW_REF, s, 0), (R.CE_PERIOD, s, 0), (R.CE_OFFSET, s, 0)]
  c1.modEng e (fun g => { g with
    ready := g.ready.filter (fun r => r.1 != s)
    lateA := g.lateA.filter (fun r => r.1 != s)
    again := g.again.filter (· != s)
    swapped := g.swapped.filter (· != s) })

/-- The law is unbound: its slot is free and its port receives MODE STOP (R187, R216). -/
def Chip.unbindLaw (c : Chip) (i : Nat) : Chip :=
  let l := c.law i
  let p := dPort l.desc
  let c1 := if dHasPort l.desc then
    let c0 := ((c.phSet p 0).setCmd p stopCmd).hw (pgSP p)
      [(R.SP_LIMITED, 0, 0), (R.SP_LIM_RUN, 0, 0), (R.SP_HIC_COUNT, 0, 0), (R.SP_DERATED, 0, 0)]
    (c0.disarm (tmKey tmHiccup p)).modPort p (fun t => { t with moving := false, tlmDesc := l.desc })
    else c
  let c2 := c1.setLaw i { l with bound := false, unbind := false, next := none, plan := none, status := 0 }
  let c3 := if dHasPort l.desc then c2.feltJudge p (c1.feltSec p) else c2
  c3.freeSlot l.engine l.slot

/-! Felting's movement of a carrier (R237, R239). -/

/-- Signed difference of two offsets, reduced into (-P/2, P/2] (R235). -/
def wrapDelta (per a b : Nat) : Int :=
  let m := (a + per - b % per) % per
  if 2 * m ≤ per then (m : Int) else (m : Int) - (per : Int)

/-- The bus voltage that Felting watches: the CH_Y of the REF_LAW of the section's SHARE_MPC (R239). -/
def Chip.feltBus (c : Chip) (s : Nat) : Option F32 :=
  match c.shareLaw s with
  | some (_, l) => if dRefSrc l.desc = 1 then some (c.law (dRefLaw l.desc)).yLast else none
  | none => none

/-- A deviation of the bus during a slew is noted, and one beyond FS_TRANS_LIM halves the limits (R239). -/
def Chip.feltWatch (c : Chip) (s : Nat) : Chip :=
  match c.feltBus s with
  | none => c
  | some v =>
    let q := c.sec s
    let dev := fabs (fsub v q.slewBus)
    let c1 := if flt (c.rdF R.FELT_FS_PEAK pgFELT s) dev then c.up R.FELT_FS_PEAK pgFELT dev.toNat s else c
    let lim := fmul (fRat (c.rd R.FELT_FS_TRANS_LIM pgFELT s) 10000) (c.rdF R.FELT_FS_VBUS pgFELT s)
    if flt lim dev && !q.slewHalf then
      let c2 := (c1.modSec s (fun q => { q with slewHalf := true })).up R.FELT_RATE_HALVED pgFELT 1 s
      ((c2.bump R.FELT_CNT_TRANS_EXCEED pgFELT).pulse pgFELT (8 + s)).raise 0x60 s
    else c1

/-- Some limit of a section's offset movements is 0 (R237). -/
def Chip.feltFrozen (c : Chip) (s : Nat) : Bool :=
  c.rd R.FELT_FS_VEL pgFELT s == 0 || c.rd R.FELT_FS_ACC pgFELT s == 0 || c.rd R.FELT_FS_JERK pgFELT s == 0

/-- One step of the movement of a port's offset, at its law's update (R237). While a limit is 0 it stands, and goes on when none is. -/
def Chip.feltStep (c : Chip) (p : Nat) (d : Bytes) : Chip :=
  let t := c.port p
  let s := dSection d
  if !t.moving then c
  else if c.feltFrozen s then c.setPort p { t with phiV := 0, phiA := 0 }
  else
    let per := dPeriod d
    let tgt := c.rd R.SP_PHI_TGT (pgSP p)
    let k0 := fmul t.phiScale (c.sec s).velScale
    let k := if c.on R.FELT_RATE_HALVED pgFELT s then fmul k0 (fRat 1 2) else k0
    let lim (f : Fld) : F32 := fmul k (fOfNat (c.rd f pgFELT s))
    let here := fToInt t.phiR
    let goal := fadd t.phiR (fsub (fOfInt (wrapDelta per tgt (here % (per : Int)).toNat)) (fsub t.phiR (fOfInt here)))
    let (g, _) := profStep goal (lim R.FELT_FS_VEL) (lim R.FELT_FS_ACC) (lim R.FELT_FS_JERK) (fRat (dN d) 20000) ⟨t.phiR, t.phiV, t.phiA⟩
    let there := (fToInt g.r % (per : Int)).toNat
    let done := feq g.v fZero && feq g.a fZero && there == tgt
    let c1 := c.setPort p { t with phiR := g.r, phiV := g.v, phiA := g.a, moving := !done }
    (if c1.rd R.SP_PHI (pgSP p) = there then c1 else c1.up R.SP_PHI (pgSP p) there).feltWatch s

/-! Dither (R314 to R317, R43). -/

/-- The last MODE that a port's stage end has applied (R314). -/
def PortSt.appliedMode (t : PortSt) (tick : Nat) : Nat := if t.lastApply ≤ tick then t.cmd.mode else t.modePrev

/-- A dither member of a section (R314). -/
def Chip.ditherMember (c : Chip) (s p : Nat) : Bool :=
  match c.portLaw p, c.shareLaw s with
  | some (_, l), some (_, m) =>
    dRefSrc l.desc == 2 && dSection l.desc == s && dMember m.desc p && c.ph p == 2 && (c.port p).appliedMode c.tick == 1
    && (List.range 4).any (fun k => c.rd R.SP_CAL_KIND (pgSP p) k == 1) && !c.isBatt p
    && decide (4 * (c.sec s).bmk.amp ≤ (dEnvWord l.desc 2).toNat / 65536)
  | some _, none => false
  | none, _ => false

/-- The dither members of a section, in ascending port number (R314). -/
def Chip.ditherMembers (c : Chip) (s : Nat) : List Nat :=
  match c.shareLaw s with
  | some (_, m) => (dMembers m.desc).filter (c.ditherMember s)
  | none => []

/-- The item of a fault source lies on a bus-bar section (R43, R424): the section itself, a port of one of its laws, an engine that
runs one, or the whole chip. DEDUCED (164). -/
def Chip.faultSec (c : Chip) (s src inst : Nat) : Bool :=
  let laws := c.laws.filter (fun e => e.2.bound && (if dType e.2.desc = 0x10 then dMpcSection e.2.desc else dSection e.2.desc) == s)
  if src = 0x60 ∨ src = 0x61 then inst == s
  else if src < 0x20 ∧ src ≠ 0x0A then true
  else if src = 0x0A ∨ src = 0x26 ∨ src = 0x62 ∨ 0x40 ≤ src ∧ src ≤ 0x45 then laws.any (fun e => dHasPort e.2.desc && dPort e.2.desc == inst)
  else if 0x20 ≤ src ∧ src ≤ 0x27 then laws.any (fun e => e.2.engine == inst)
  else false

/-- A fault of severity S2 or S3 is active on a section: it is outstanding (R43, R428). DEDUCED (164). -/
def Chip.faultOn (c : Chip) (s : Nat) : Bool := c.plumb.outBy.any (fun e => decide (2 ≤ e.2.2) && c.faultSec s e.1 e.2.1)

/-- The output of a law in the dithered set is saturated (R43): of those that are dithered, and of those that would be where none is. -/
def Chip.ditherSat (c : Chip) (s : Nat) : Bool :=
  let ps := if (c.sec s).dither = [] then c.ditherMembers s else (c.sec s).dither.map (fun e => e.1)
  ps.any (fun p => match c.portLaw p with | some (_, l) => l.status.getLsbD 5 | none => false)

/-- A suspending condition of R43 holds for a section: a hold-up in TRANSFER, a saturated law, a fault, that of an empty Brim
for as long as the Brim is empty (R256), or a disagreement of the twins. -/
def Chip.ditherBad (c : Chip) (s : Nat) : Bool :=
  c.faultOn s || c.rd R.HOLD_STATE pgHOLD s == 2 || (c.on R.HOLD_BRIM_EMPTY pgHOLD s && decide (2 ≤ c.srcSev 0x61))
  || c.on R.TWIN_RESOLVING pgTWIN || c.ditherSat s

/-- One step of the PRBS31 generator x^31 + x^28 + 1 (R315). -/
def prbsStep (g : BitVec 31) : BitVec 31 := (g <<< 1) ||| (if g.getLsbD 30 != g.getLsbD 27 then 1#31 else 0#31)

/-- The seed at a window's start (R315). -/
def prbsSeed (s tick : Nat) : BitVec 31 :=
  let v : BitVec 31 := BitVec.ofNat 31 (s % 8 + 8 * (tick % 2 ^ 28))
  if v = 0 then 0x7FFFFFFF else v

/-- A chip for each member: the generator after them, and their signs (R315). -/
def drawChips (g : BitVec 31) : List Nat → BitVec 31 × List (Nat × Bool)
  | [] => (g, [])
  | p :: ps =>
    let g1 := prbsStep g
    let (g2, r) := drawChips g1 ps
    (g2, (p, g1.getLsbD 0) :: r)

/-- The zero-sum dithers of a set of chips (R315). -/
def zeroSum (amp : Nat) (cs : List (Nat × Bool)) : List (Nat × F32) :=
  let n := cs.length
  let pos := (cs.filter (·.2)).length
  let mean := fdiv (fOfInt ((pos : Int) - ((n - pos : Nat) : Int))) (fOfNat n)
  let a := fRat amp 65536
  cs.map (fun e => (e.1, fmul a (fsub (if e.2 then fOne else fneg fOne) mean)))

/-- The chips of a section begin anew for a set of members, all with the first one drawn (R315). So they do at a window's start, when the
generator is seeded, and when the members change. DESIGN CHOICE (216). -/
def Chip.chipsBegin (c : Chip) (s : Nat) (ms : List Nat) : Chip :=
  let (g, cs) := drawChips (c.sec s).prbs ms
  c.modSec s (fun q => { q with
    prbs := g
    chipSet := ms
    chipRows := [cs]
    chipBase := 0
    chipPos := ms.map (fun p => (p, 0))
    dither := zeroSum q.bmk.amp cs })

/-- The rows that some member still has to take: those from the lowest row of a member on (R315). -/
def SecSt.pruneRows (q : SecSt) : SecSt :=
  let low := (q.chipPos.map (fun e => e.2 / max 1 q.bmk.chip)).foldl min (q.chipBase + q.chipRows.length)
  { q with chipRows := q.chipRows.drop (low - q.chipBase), chipBase := max low q.chipBase }

/-- A member's update under dither (R315): after CHIP of them it takes its chip of the next row, which is drawn for all members when the
first of them comes to it. -/
def Chip.chipStep (c : Chip) (s p : Nat) : Chip :=
  let q := c.sec s
  let n := mapGet q.chipPos p 0 + 1
  let row := n / max 1 q.bmk.chip
  let q1 := { q with chipPos := mapSet q.chipPos p n }
  if n % max 1 q.bmk.chip ≠ 0 then c.setSec s q1
  else
    let q2 : SecSt := if row < q.chipBase + q.chipRows.length then q1
      else
        let (g, cs) := drawChips q.prbs q.chipSet
        { q1 with prbs := g, chipRows := q.chipRows ++ [cs] }
    let z := zeroSum q.bmk.amp ((q2.chipRows[row - q.chipBase]?).getD [])
    let mine := match z.find? (fun x => x.1 == p) with | some x => x.2 | none => fZero
    let q3 : SecSt := { q2 with dither := q2.dither.map (fun e => if e.1 = p then (p, mine) else e) }
    c.setSec s q3.pruneRows

/-- The settings of a section's Benchmark as its registers stand (R330). -/
def Chip.bmkCfg (c : Chip) (s : Nat) : BmkCfg :=
  { den := c.on R.BMK_DEN pgBMK s
    zen := c.on R.BMK_ZEN pgBMK s
    win := c.rd R.BMK_WIN_MS pgBMK s
    chip := c.rd R.BMK_CHIP pgBMK s
    refI := c.rd R.BMK_REF_I_PORT pgBMK s
    refV := c.rd R.BMK_REF_V_PORT pgBMK s
    amp := c.rd R.BMK_DITHER_AMP pgBMK s
    span := c.rd R.BMK_SPAN_MIN pgBMK s
    izMin := c.rdF R.BMK_IZ_MIN pgBMK s }

/-- The section in whose windows a port's channels are estimated (R318): that of its bound law; a port without one, a feeder's or a SENSE
stage's, is estimated with the lowest section that has a SHARE_MPC. DESIGN CHOICE (217). -/
def Chip.calSec (c : Chip) (p : Nat) : Nat :=
  match c.portLaw p with
  | some (_, l) => dSection l.desc
  | none => ((upTo 8).find? (fun s => (c.shareLaw s).isSome)).getD 0

/-- A Benchmark window begins, with the settings of that moment (R315, R318, R330). -/
def Chip.startWindow (c : Chip) (s : Nat) : Chip :=
  let c0 := c.takeCfg (pgBMK + 0x100) (pgBMK + 0x120)
  let c1 := c0.modSec s (fun q => { q with bmk := c.bmkCfg s, prbs := prbsSeed s c.tick, chipSet := [], winFrom := c.tick, winOld := false })
  let c2 : Chip := { c1 with cals := c1.cals.map (fun e => if c.calSec (e.1 / 4) = s then (e.1, { e.2 with win := {} }) else e) }
  c2.arm (tmKey tmPubl (1 + s)) (c.rd R.BMK_WIN_MS pgBMK s * dqMs)

/-- The window in progress in a section is discarded (R317, R318). -/
def Chip.dropWindow (c : Chip) (s : Nat) : Chip :=
  if c.armed (tmKey tmPubl (1 + s)) then (c.disarm (tmKey tmPubl (1 + s))).bump R.BMK_CNT pgBMK 1 else c

/-- A window begins where none is in progress, unless Benchmark is quiesced (R15). -/
def Chip.needWindow (c : Chip) (s : Nat) : Chip := if c.armed (tmKey tmPubl (1 + s)) || !c.takesWork pgBMK then c else c.startWindow s

/-- MEMBERS of a section follows its dither members (R330). -/
def Chip.showMembers (c : Chip) (s n : Nat) : Chip := if c.rd R.BMK_MEMBERS pgBMK s = n then c else c.up R.BMK_MEMBERS pgBMK n s

/-- A section is to be dithered (R314). -/
def Chip.ditherActive (c : Chip) (s : Nat) : Bool :=
  c.on R.BMK_EN pgBMK && (c.sec s).bmk.den && decide (2 ≤ (c.ditherMembers s).length)

/-- The dither of a section as it stands (R314 to R317): MEMBERS follows the members; a suspending condition ends the dither, and the window
with it; with fewer than two members it ends; and other members take other chips. -/
def Chip.ditherWatch (c0 : Chip) (s : Nat) : Chip :=
  let ms := c0.ditherMembers s
  let c := c0.showMembers s ms.length
  if !c.on R.BMK_DITHERING pgBMK s then c
  else if c.ditherBad s then
    (((c.hw pgBMK [(R.BMK_DITHERING, s, 0), (R.BMK_SUSPENDED, s, 1)]).bump R.BMK_CNT pgBMK 2).modSec s (fun q => { q with dither := [] })).dropWindow s
  else if !c.ditherActive s then (c.up R.BMK_DITHERING pgBMK 0 s).modSec s (fun q => { q with dither := [] })
  else if (c.sec s).chipSet = ms then c
  else c.chipsBegin s ms

/-- The dither of a section is judged at a member's update: it goes on with the member's chip, begins, or resumes (R314 to R317). -/
def Chip.ditherJudge (c0 : Chip) (s p : Nat) : Chip :=
  let c := c0.ditherWatch s
  let bad := c.ditherBad s
  if c.on R.BMK_DITHERING pgBMK s then
    (if c0.on R.BMK_DITHERING pgBMK s && (c0.sec s).chipSet == (c.sec s).chipSet && (c.sec s).chipSet.contains p then c.chipStep s p else c)
  else if c.ditherActive s && !bad then
    let c1 := (c.hw pgBMK [(R.BMK_DITHERING, s, 1), (R.BMK_SUSPENDED, s, 0)]).needWindow s
    c1.chipsBegin s (c1.ditherMembers s)
  else if !bad && c.on R.BMK_SUSPENDED pgBMK s then
    let c1 := c.up R.BMK_SUSPENDED pgBMK 0 s
    if c1.on R.BMK_EN pgBMK then c1.needWindow s else c1
  else c

/-! References (R207, R219, R229, R329). -/

/-- Twice the frequencies of R276, in Hz. -/
def zFreq2 : List Nat := [1, 2, 4, 10, 20, 40, 100, 200, 400, 600, 1000, 1400, 2000, 3000, 4000, 6000]

/-- The phase of the injection at a number of ticks after its start (R276, R277). -/
def zAngle (f ticks : Nat) : F32 := fmul fPi (fRat ((zFreq2[f]?).getD 1 * ticks) 20000000)

/-- The injection of a battery impedance measurement into a member's reference: a sine that begins with the measurement, in equal shares
(R277, R329). It ends where the measurement is to be discarded. -/
def Chip.zInject (c : Chip) (s p ready : Nat) : F32 :=
  match (c.sec s).zStr with
  | none => fZero
  | some n =>
    if (c.sec s).zBad then fZero else
    let p0 := c.rdV R.GAUGE_PORT0 pgGAUGE n
    let p1 := c.rdV R.GAUGE_PORT1 pgGAUGE n
    if p = p0 ∨ p = p1 then
      let k := if p1 < 192 ∧ p1 ≠ p0 then 2 else 1
      fmul (fdiv (c.rdVF R.GAUGE_Z_AMP_A pgGAUGE) (fOfNat k)) (fsin (zAngle (c.rd R.BMK_ZFREQ pgBMK s) (ready - (c.sec s).zStart)))
    else fZero

/-- The reference that SHARE_MPC publishes for a port (R207, R229, R329). -/
def Chip.shareRef (c : Chip) (s p ready : Nat) : F32 :=
  match c.shareLaw s with
  | none => fZero
  | some (_, m) =>
    let r := match m.refs.find? (fun e => e.1 == p) with | some e => e.2 | none => fZero
    if (c.sec s).zStr.isSome then fadd r (c.zInject s p ready) else r

/-- The profile generator's step of an update: the law with its reference, whether a limit of 0 blocks it, and the intermediates (R208,
R209). In manual the reference is the present value of CH_Y; so it is at the first update of a binding. -/
def lawProfile (l : LawSt) (d : Bytes) (y : F32) : LawSt × Bool × List F32 :=
  let l1 : LawSt := if !dAuto d || !l.profSet then { l with profR := y, profV := 0, profA := 0, profSet := true } else l
  if feq (dVel d) fZero || feq (dAcc d) fZero || feq (dJerk d) fZero then ({ l1 with profV := 0, profA := 0 }, true, [])
  else if !dAuto d then (l1, false, [])
  else
    let (g, mids) := profStep (dSetpt d) (dVel d) (dAcc d) (dJerk d) (dTu d) ⟨l1.profR, l1.profV, l1.profA⟩
    ({ l1 with profR := g.r, profV := g.v, profA := g.a }, false, mids)

/-! The update. -/

/-- Ticks from the sample tick of an instance to the apply tick of its command (R111, R194). -/
def Chip.latTicks (c : Chip) (p ready : Nat) : Nat :=
  let ph := (c.port p).slotPhase
  let first := ready + 1
  let slot := first + (ph + 4 - first % 4) % 4
  slot + 2 - (ready - 3)

/-- The inductance a law uses: Benchmark's, or L_NOM (R201, R234). -/
def Chip.lawInd (c : Chip) (p : Nat) (d : Bytes) : F32 :=
  let e := c.rdF R.SP_L_EST (pgSP p) (dChY d)
  if fPos e then e else if dType d = 6 ∨ dType d = 7 then dF d 64 else Config.noInductance p

/-- The update is limited (R220). -/
def Chip.isLimited (c : Chip) (p t : Nat) (d : Bytes) : Bool :=
  !feq (dILimit d) fZero &&
  (match c.sampleAt p t (dICh d) with
   | none => false
   | some s => s.ovr || fle (dILimit d) (fabs (c.calPhys p (dICh d) s.int)))

/-- The phase registers of an update of a port's law, and what a run of limited updates leads to (R216, R220). -/
def Chip.phLimit (c : Chip) (p : Nat) (d : Bytes) (limited : Bool) : Chip :=
  let b := pgSP p
  if limited then
    let n := min 255 (c.rd R.SP_LIM_RUN b + 1)
    let c1 := (c.hw b [(R.SP_LIMITED, 0, 1), (R.SP_LIM_RUN, 0, n)]).bump R.SP_CNT_LIMITED b
    if c1.ph p = 1 ∨ c1.ph p = 2 then
      if dHicN d = 0 then c1.phLatch p else if dHicN d ≤ n then c1.phHiccup p d else c1
    else c1
  else if c.on R.SP_LIMITED b || c.rd R.SP_LIM_RUN b != 0 then c.hw b [(R.SP_LIMITED, 0, 0), (R.SP_LIM_RUN, 0, 0)]
  else c

/-- The soft-start ramp of an update (R219): the reference used, the ramp, and whether the phase reaches RUN. -/
def softStart (d : Bytes) (rSs r : F32) : F32 × F32 × Bool :=
  if feq (dSsRate d) fZero then (fmin r rSs, rSs, false)
  else
    let s := ffma (dSsRate d) (dTu d) rSs
    (fmin r s, s, fle r s)

/-- The reference of an update and what goes with it (R207 to R209, R219). -/
structure LawRef where
  /-- the law with its profile's state -/
  l : LawSt
  blocked : Bool
  /-- the reference in use -/
  rUsed : F32
  rSs : F32
  /-- the phase's ramp has ended -/
  reached : Bool
  mids : List F32
deriving DecidableEq, Repr

/-- The reference of an update (R207 to R209), under the ramp of a phase that starts (R219). `y` is the present value of CH_Y. -/
def Chip.lawRef (c : Chip) (l : LawSt) (rp ready : Nat) (y : F32) : LawRef :=
  let d := l.desc
  let (lp, blocked, mids) : LawSt × Bool × List F32 := if dRefSrc d = 0 ∧ dProfile d then lawProfile l d y else (l, false, [])
  let r := if dRefSrc d = 0 then (if dProfile d then lp.profR else dSetpt d)
    else if dRefSrc d = 1 then (c.law (dRefLaw d)).uOut else c.shareRef (dSection d) rp ready
  let ss := dHasPort d && c.ph rp == 1
  let (rUsed, rSs, reached) : F32 × F32 × Bool := if ss && dAuto d then softStart d l.rSs r else (r, l.rSs, ss)
  ⟨lp, blocked, rUsed, rSs, reached, r :: rUsed :: rSs :: mids⟩

/-- The section that takes this law's output as its demand cannot deliver it (R231). -/
def Chip.shareSat (c : Chip) (i : Nat) : Bool :=
  c.laws.any (fun e => e.2.bound && dType e.2.desc == 0x10 && dRefSrc e.2.desc == 1 && dRefLaw e.2.desc == i && e.2.satRef)

/-- U_MANUAL of an update: the first manual update after automatic takes the last output where MAN_TRACK is 1, and MGMT then writes it
into the descriptor (R206). -/
def LawSt.track (l : LawSt) : LawSt :=
  if l.auto && !dAuto l.desc && dManTrack l.desc then { l with desc := putAt l.desc 28 (leBytes l.uOut.toNat 4), manWrite := true } else l

/-- A limited update's output is at most LIM_SCALE of the last (R220). -/
def limitU (l : LawSt) (limited : Bool) (u : F32) : F32 :=
  if limited then fmax (dUMin l.desc) (fmin u (fmul (dLimScale l.desc) l.uOut)) else u

/-- What an update does to the phase of a port's law: the end of the ramp, and the consequences of a limited update (R219, R220). -/
def Chip.phUpdate (c : Chip) (rp : Nat) (d : Bytes) (reached limited : Bool) : Chip :=
  if dHasPort d then (if reached && c.ph rp == 1 then c.phSet rp 2 else c).phLimit rp d limited else c

/-- An update that evaluates the law (R194 to R207, R219, R220). An update that dither takes beyond a limit is saturated, so its
integrator stays as it was (R199, R316). The history of a compensator and the input vector of an observer take the output without its
dither (R200, R203, R316). A first automatic update presets its state also where it runs on a substituted input: R205 makes the preset in
place of the integration that R210 freezes (DESIGN CHOICE, log 210). -/
def Chip.lawEval (c : Chip) (i : Nat) (l0 : LawSt) (rp ready : Nat) (miss ex : Bool) (run : Nat) (limited : Bool) : Chip :=
  let l := l0.track
  let d := l.desc
  let t := ready - 3
  let isPort := dHasPort d
  let val (r : Nat) : F32 := match c.input rp t (dRoleCh d r) with
    | .ok x => x
    | .excluded => (l.preds[r]?).getD 0
    | .missing => (l.preds[r]?).getD 0
  let yIn := c.input rp t (dChY d)
  let y := val 0
  let auto := dAuto d
  let preset := if auto && !l.auto then some (l.preset.getD (dUManual d)) else none
  let q0 := c.lawRef l rp ready y
  let clip := isPort && (c.port rp).envClip
  let shareSat := c.shareSat i
  let q : EvalIn := ⟨y, val 1, val 2, val 3, yIn == .excluded, q0.rUsed, fRat (c.latTicks rp ready) 20000000, c.lawInd rp d,
    auto && !(miss || ex || clip || limited || shareSat), preset⟩
  let o := evalLaw q0.l d q
  let u1 := limitU l limited (if auto then o.u else fclamp (dUMin d) (dUMax d) (dUManual d))
  let dl := if isPort && c.on R.BMK_DITHERING pgBMK (dSection d) then c.ditherOf (dSection d) rp else fZero
  let ud := fadd u1 dl
  let satD := flt ud (dUMin d) || flt (dUMax d) ud
  let u2 := fclamp (dUMin d) (dUMax d) ud
  let pred := if dType d = 6 ∨ dType d = 7 then predCurrent d q o.pred u2 else o.pred
  let st1 := lawAfter o.st d u1 q.vin q.x
  if !lawFinite o || !([pred, u1, ud, st1.w1] ++ q0.mids).all fIsFin then
    ((c.setLaw i { l with cntSat := l.cntSat + 1, status := stBits true false q0.blocked true }).phUpdate rp d false limited).raise 0x27 l.engine
  else
    let sat := clip || limited || shareSat || satD || (auto && (o.guard || flt o.uPre (dUMin d) || flt (dUMax d) o.uPre))
    let good := !(miss || ex)
    let l1 : LawSt := { st1 with
      integ := if satD && preset.isNone then l.integ else st1.integ
      auto := auto
      preset := none
      run := run
      preds := if good then [pred, q.i, q.vin, q.x] else l.preds
      rSs := q0.rSs
      rUsed := q0.rUsed
      yLast := match yIn with | .ok x => x | .excluded => l.yLast | .missing => l.yLast
      uPrev := u2
      pending := some u1
      degraded := miss
      status := stBits sat false q0.blocked false
      cntSat := l.cntSat + (if sat then 1 else 0)
      cntOvr := l.cntOvr + (if !good && !miss then 1 else 0)
      cntMiss := l.cntMiss + (if miss then 1 else 0) }
    (c.setLaw i l1).phUpdate rp d q0.reached limited

/-- An update after two in a row with an excluded or missing input (R210): the last output, or a limit, and the section's dither with it
(R316). The profile and the ramp go on.
A law in manual keeps the output of R204, which R210 then does not force, DESIGN CHOICE (175). A first automatic update that falls here
evaluates nothing and so takes no preset, now or later, as R210 lets none apply afterwards (DESIGN CHOICE, log 210). -/
def Chip.lawHold (c : Chip) (i : Nat) (l0 : LawSt) (rp ready : Nat) (miss : Bool) (run : Nat) (limited : Bool) : Chip :=
  let l := l0.track
  let d := l.desc
  let auto := dAuto d
  let yIn := c.input rp (ready - 3) (dChY d)
  let y := match yIn with | .ok x => x | .excluded => (l.preds[0]?).getD 0 | .missing => (l.preds[0]?).getD 0
  let q0 := c.lawRef l rp ready y
  let act := if (c.port rp).ovrHigh then dOvrHi d else dOvrLo d
  let u1 := limitU l limited (if !auto then fclamp (dUMin d) (dUMax d) (dUManual d) else if miss then l.uOut else if act then dUMax d else dUMin d)
  let dl := if dHasPort d && c.on R.BMK_DITHERING pgBMK (dSection d) then c.ditherOf (dSection d) rp else fZero
  let ud := fadd u1 dl
  let satD := flt ud (dUMin d) || flt (dUMax d) ud
  let forced := auto && !miss
  let sat := forced || limited || c.shareSat i || satD || (dHasPort d && (c.port rp).envClip)
  if !(u1 :: ud :: q0.mids).all fIsFin then
    ((c.setLaw i { l with cntSat := l.cntSat + 1, status := stBits true false q0.blocked true }).phUpdate rp d false limited).raise 0x27 l.engine
  else
    let l1 : LawSt := { q0.l with
      auto := auto
      preset := none
      run := run
      rSs := q0.rSs
      rUsed := q0.rUsed
      yLast := match yIn with | .ok x => x | .excluded => l.yLast | .missing => l.yLast
      uPrev := fclamp (dUMin d) (dUMax d) ud
      pending := some u1
      degraded := miss
      status := stBits sat forced q0.blocked false
      cntSat := l.cntSat + (if sat then 1 else 0)
      cntOvr := l.cntOvr + (if miss then 0 else 1)
      cntMiss := l.cntMiss + (if miss then 1 else 0) }
    (c.setLaw i l1).phUpdate rp d q0.reached limited

/-- The committed copy that waits takes effect at this boundary (R193). -/
def LawSt.atBoundary (l : LawSt) (ready : Nat) : LawSt :=
  match l.next with
  | some d => if l.startTick < ready then { l with desc := d, next := none } else l
  | none => l

/-- A law's update boundary: a committed copy that waits takes effect, and with it what its port shows (R193, R215, R233, R236). -/
def Chip.lawBoundary (c : Chip) (i ready : Nat) : Chip :=
  let l0 := c.law i
  let l := l0.atBoundary ready
  if l0.next = l.next then c
  else
    let c1 := c.setLaw i l
    if dHasPort l.desc then
      let p := dPort l.desc
      ((c1.feltJudge p (c.feltSec p)).phiRule p).ssJudge p
    else c1

/-- One instance of a law's task with ready tick `ready` (R194, R210, R217). -/
def Chip.lawRun (c0 : Chip) (i ready : Nat) : Chip :=
  let l0 := c0.law i
  if ready ≤ l0.startTick && l0.next.isNone && !l0.unbind then c0
  else
    let c := c0.lawBoundary i ready
    let l := c.law i
    let d := l.desc
    match c.rootPort d with
    | none => c
    | some rp =>
      let isPort := dHasPort d
      let ph := c.ph rp
      if isPort && (ph == 0 || ph == 3 || ph == 4 || ph == 5) then c
      else
        let cf := if isPort then c.feltStep rp d else c
        let c1 := if isPort && dRefSrc d == 2 then cf.ditherJudge (dSection d) rp else cf
        let ins := (lawRoles (dType d)).map (fun r => c1.input rp (ready - 3) (dRoleCh d r))
        let miss := ins.any (fun v => v == .missing)
        let ex := ins.any (fun v => v == .excluded)
        let run := if miss || ex then l.run + 1 else 0
        let lim := isPort && c1.isLimited rp (ready - 3) d
        if run ≤ 2 then c1.lawEval i l rp ready miss ex run lim else c1.lawHold i l rp ready miss run lim

/-- The output of a completed instance is used: it is the law's output, and its port's next command (R111, R195). A command
that names an envelope set waits for the set's write to be answered (R160). -/
def Chip.lawUse (c : Chip) (i : Nat) (degraded : Bool) : Chip :=
  let l := c.law i
  match l.pending with
  | none => c
  | some u =>
    let d := l.desc
    let c1 := c.setLaw i { l with uOut := u, pending := none }
    if dHasPort d then
      let p := dPort d
      let ph := c1.ph p
      let deg := degraded || l.degraded
      if ph = 1 ∨ ph = 2 ∨ ph = 6 then
        let m := c1.phaseMode p d
        if m = 0 then c1.setCmd p { stopCmd with degraded := deg }
        else if (c1.port p).envUsable (dEnvIdx d) then
          c1.setCmd p { dutyCmd d l.uPrev (c1.rd R.SP_PHI (pgSP p)) m with degraded := deg }
        else c1
      else c1
    else c1

end Sys2Proof.Machine
end

