-- ==== Sys2Proof/Machine/Share.lean ====
section
/-! DEFINITION. Share.lean: hold-up states, the Brim, early warning, and the update of SHARE_MPC with its two passes (R227 to R232,
R243 to R257, R266). -/

namespace Sys2Proof.Machine

/-! Members and availability (R223, R243, R250, R256). -/

/-- The derate factor of a phase (R223); 1 where no sensor is fitted. -/
def Chip.derate (c : Chip) (p : Nat) (d : Bytes) : F32 :=
  match c.stageTemp p (dTTrip d) with
  | none => fOne
  | some t => fclamp fZero fOne (fdiv (fsub (dTTrip d) t) (fsub (dTTrip d) (dTDerate d)))

/-- The derate factor of the phase on a port. -/
def Chip.portDerate (c : Chip) (p : Nat) : F32 := match c.portLaw p with | some (_, l) => c.derate p l.desc | none => fOne

/-- The members of a section: those of its SHARE_MPC (R243). -/
def Chip.members (c : Chip) (s : Nat) : List Nat := match c.shareLaw s with | some (_, l) => dMembers l.desc | none => []
/-- The battery members of a section (R243). -/
def Chip.battMembers (c : Chip) (s : Nat) : List Nat := (c.members s).filter c.isBatt
/-- The source members of a section (R243). -/
def Chip.srcMembers (c : Chip) (s : Nat) : List Nat := (c.members s).filter (fun p => !c.isBatt p)

/-- The strings mapped to a port (R270). -/
def Chip.stringsOf (c : Chip) (p : Nat) : List Nat :=
  (upTo 24).filter (fun n => c.onV R.GAUGE_VALID pgGAUGE n && (c.rdV R.GAUGE_PORT0 pgGAUGE n == p || c.rdV R.GAUGE_PORT1 pgGAUGE n == p))

/-- A battery member is available (R250); the stop that an empty Brim causes does not count (R256). -/
def Chip.available (c : Chip) (p : Nat) : Bool :=
  c.linkReady p && (c.ph p == 1 || c.ph p == 2) && flt fZero (c.portDerate p)
  && (c.stringsOf p).all (fun n => !c.on R.GAUGE_EMPTY pgGAUGE n)

/-- The measured current of a member: its law's regulated quantity (R229). -/
def Chip.measured (c : Chip) (p : Nat) : F32 := match c.portLaw p with | some (_, l) => c.smpPhys p (dChY l.desc) | none => fZero

/-! Crown nodes (R260) and early warning (R266). -/

/-- The node is in use; node 0 always is (R267). -/
def Chip.crValid (c : Chip) (n : Nat) : Bool := n == 0 || c.on R.CROWN_VALID pgCROWN n
/-- Owner of a node; the root is P0's (R260). -/
def Chip.crOwner (c : Chip) (n : Nat) : Nat := if n = 0 then 0 else c.rd R.CROWN_OWNER pgCROWN n
def Chip.crParent (c : Chip) (n : Nat) : Nat := c.rd R.CROWN_PARENT pgCROWN n
/-- The stage on a port is a feeder. -/
def Chip.isFeed (c : Chip) (p : Nat) : Bool := match (c.port p).announce with | some i => seFeed i | none => false

/-- Climbing from a node through its parents meets node `goal` within `fuel` steps. -/
def Chip.climbsTo (c : Chip) (goal : Nat) : Nat → Nat → Bool
  | 0, _ => false
  | k + 1, n => n == goal || (n != 0 && decide (n < 96) && c.crValid n && c.climbsTo goal k (c.crParent n))

/-- A node lies on a loop of parents (R260). -/
def Chip.crLoop (c : Chip) (n : Nat) : Bool := n != 0 && c.climbsTo n 97 (c.crParent n)

/-- A node of a tenant whose parent P0 owns (R260). -/
def Chip.isCrownNode (c : Chip) (n : Nat) : Bool := n != 0 && c.crValid n && c.crOwner n != 0 && c.crOwner (c.crParent n) == 0

/-- The Crown node of a partition: its lowest such node; the root for P0 (R260). -/
def Chip.crownNodeOf (c : Chip) (part : Nat) : Option Nat :=
  if part = 0 then some 0 else (upTo 96).find? (fun n => c.isCrownNode n && c.crOwner n == part)

/-- A node is ORPHAN (R260). -/
def Chip.crOrphan (c : Chip) (n : Nat) : Bool :=
  if n = 0 || !c.crValid n then false
  else
    let par := c.crParent n
    let f := c.rd R.CROWN_FEEDER pgCROWN n
    !(decide (par < 96) && c.crValid par) || c.crLoop par || !(c.crOwner par == c.crOwner n || c.crOwner par == 0)
    || (c.isCrownNode n && c.crownNodeOf (c.crOwner n) != some n)
    || (f != 0xFF && (!(decide (f < 192) && c.isFeed f && c.owner (pgSP f) == c.crOwner n)
        || (upTo n).any (fun m => m != 0 && c.crValid m && c.rd R.CROWN_FEEDER pgCROWN m == f)))

/-- A node takes part: neither it nor a node above it is ORPHAN. -/
def Chip.crPart (c : Chip) : Nat → Nat → Bool
  | 0, _ => false
  | k + 1, n => n == 0 || (c.crValid n && !c.crOrphan n && c.crPart k (c.crParent n))

/-- The Crown node of a port's leaf: the node that names it and takes part (R260). -/
def Chip.leafOf (c : Chip) (p : Nat) : Option Nat :=
  (upTo 96).find? (fun n => n != 0 && c.rd R.CROWN_FEEDER pgCROWN n == p && c.crPart 97 n)

/-- The early-warning group of a port's leaf. -/
def Chip.ewGroup (c : Chip) (p : Nat) : Option Nat := (c.leafOf p).map (fun n => c.rd R.CROWN_EW_GROUP pgCROWN n)

/-- The EWARN bit of a port's CMD frames (R266). -/
def Chip.ewarnOf (c : Chip) (p : Nat) : Bool :=
  match c.ewGroup p with
  | some g => bitOf (c.rd R.HOLD_EW_LIVE pgHOLD) g
  | none => false

/-- The causes of early warning of a group that hold: a section by its number, a leaf as 8 + its node (R266). -/
def Chip.ewCauses (c : Chip) (g : Nat) : List Nat :=
  (upTo 8).filter (fun s => bitOf (c.rdV R.HOLD_EW_GROUPS pgHOLD s) g && decide (2 ≤ c.rd R.HOLD_STATE pgHOLD s))
  ++ ((upTo 96).filter (fun n => c.on R.CROWN_GRACE pgCROWN n && c.rd R.CROWN_EW_GROUP pgCROWN n == g)).map (fun n => 8 + n)

/-- A cause of early warning of a group holds (R266). -/
def Chip.ewCause (c : Chip) (g : Nat) : Bool := !(c.ewCauses g).isEmpty

/-- EW_HOLD_MS after a leaf's grace, of which the manual names no section: the longest of the sections that name the group, else its reset
value. DESIGN CHOICE (213). -/
def Chip.ewHold (c : Chip) (g : Nat) : Nat :=
  let ss := (upTo 8).filter (fun s => bitOf (c.rdV R.HOLD_EW_GROUPS pgHOLD s) g)
  if ss.isEmpty then 100 else (ss.map (fun s => c.rdV R.HOLD_EW_HOLD_MS pgHOLD s)).foldl max 0

/-- The name of an early-warning ball. -/
def ewPin (g : Nat) : String := "EWARN" ++ toString g

/-- A group's early warning takes a value: its ball, HOLD.EW_LIVE, and the WARN of its leaves' trays (R266, R309). -/
def Chip.ewSet (c : Chip) (g : Nat) (on : Bool) : Chip :=
  if bitOf (c.rd R.HOLD_EW_LIVE pgHOLD) g == on then c
  else
    let c1 := (c.setBit R.HOLD_EW_LIVE pgHOLD g on).send (.pin (ewPin g) (!on))
    foldc (upTo 192) (fun p c => if c.ewGroup p == some g then c.modCap (96 + p) (fun k => { k with warnMsg := true }) else c) c1

/-- EW_HOLD_MS of a cause that has ended: that of its section (R266). -/
def Chip.ewHoldOf (c : Chip) (g cause : Nat) : Nat := if cause < 8 then c.rdV R.HOLD_EW_HOLD_MS pgHOLD cause else c.ewHold g

/-- The hold of a group lasts at least `ms` from now (R266). -/
def Chip.ewExtend (c : Chip) (g ms : Nat) : Chip :=
  if ms = 0 ∨ c.now + ms * dqMs ≤ mapGet c.timers (tmKey tmEwHold g) 0 then c else c.arm (tmKey tmEwHold g) (ms * dqMs)

/-- The early warning of one group is judged again: asserted while a cause holds and for EW_HOLD_MS after each has ended (R266, R268). -/
def Chip.ewGroupJudge (c : Chip) (g : Nat) : Chip :=
  let now := c.ewCauses g
  let was := mapGet c.ewBy g []
  let live := bitOf (c.rd R.HOLD_EW_LIVE pgHOLD) g
  let ended := was.filter (fun x => !now.contains x)
  let ms := if ended.isEmpty && now.isEmpty && live && !c.armed (tmKey tmEwHold g) then c.ewHold g
    else (ended.map (c.ewHoldOf g)).foldl max 0
  let c1 := (if now = was then c else ({ c with ewBy := mapSet c.ewBy g now } : Chip)).ewExtend g ms
  if !now.isEmpty then c1.ewSet g true
  else if live && !c1.armed (tmKey tmEwHold g) then c1.ewSet g false
  else c1

/-- The early warnings are judged again (R266). -/
def Chip.ewJudge (c : Chip) : Chip := foldc (upTo 8) (fun g c => c.ewGroupJudge g) c

/-! Hold-up states (R249 to R252). -/

/-- A change of a section's hold-up state: its events and counters, the early warnings and an extra Crown update
(R249, R259, R264, R266). -/
def Chip.huSet (c : Chip) (s st : Nat) : Chip :=
  let was := c.rd R.HOLD_STATE pgHOLD s
  if was = st then c
  else
    let c1 := (c.up R.HOLD_STATE pgHOLD st s).setBit R.HOLD_OFF_SOURCE pgHOLD s (decide (2 ≤ st))
    let c2 := if st = 2 then ((((c1.up R.HOLD_REPLUGS pgHOLD 0 s).hw pgHOLD [(R.HOLD_SHAVING, s, 0), (R.HOLD_RECHARGING, s, 0)]).bump
        R.HOLD_CNT_TRANSFER pgHOLD s).pulse pgHOLD s).capCause (fun t _ g => t == 3 && g == s)
      else if st = 1 ∧ was = 5 then (c1.bump R.HOLD_CNT_RETURN pgHOLD s).pulse pgHOLD (8 + s)
      else c1
    let c3 := if st = 1 then c2.modSec s (fun q => { q with ovlSpent := false }) else c2
    let c4 := if st = 2 then c3.arm (tmKey tmTrans s) (c3.rdV R.HOLD_TR_US pgHOLD s * dqUs) else c3.disarm (tmKey tmTrans s)
    let c5 := if st = 4 then c4.arm (tmKey tmQualify s) (c4.rdV R.HOLD_QUALIFY_MS pgHOLD s * dqMs) else c4.disarm (tmKey tmQualify s)
    let c6 := if st = 0 ∨ st = 1 then c5.modSec s (fun q => { q with battRefs := [] }) else c5
    (c6.ewJudge).propose .crown

/-- Entry to TRANSFER: the preload becomes the reference of every available battery member, and every source member's
reference is 0 A (R250). -/
def Chip.enterTransfer (c : Chip) (s : Nat) : Chip :=
  let av := (c.battMembers s).filter c.available
  let pre := if av.isEmpty then fZero
    else fmin (c.rdVF R.HOLD_BATT_I_PK pgHOLD s) (fdiv (c.sec s).srcNow (fOfNat av.length))
  let c1 := c.modSec s (fun q => { q with battRefs := av.map (fun p => (p, pre)) })
  let c2 := match c1.shareLaw s with
    | some (i, l) => c1.setLaw i { l with refs := av.map (fun p => (p, pre)) }
    | none => c1
  c2.huSet s 2

/-! The Brim and the hold-up budget (R256). -/

/-- Usable energy of the strings mapped to a section's battery members (R256). -/
def Chip.brimWh (c : Chip) (s : Nat) : F32 :=
  let ns := (upTo 24).filter (fun n => (c.battMembers s).any (fun p => (c.stringsOf p).contains n))
  fsum (ns.map (fun n => c.rdF R.GAUGE_USABLE_WH pgGAUGE n))

/-- BRIM_WH, BRIM_EMPTY, READY and HU_BUDGET_W of a section follow their inputs (R256). -/
def Chip.brimJudge (c : Chip) (s : Nat) : Chip :=
  let bs := c.battMembers s
  let wh := c.brimWh s
  let empty := !bs.isEmpty && (fle wh fZero || !bs.any c.available)
  let n := (bs.filter (fun p => c.linkReady p && flt fZero (c.portDerate p))).length
  let byI := fmul (fmul (fOfNat n) (c.rdVF R.HOLD_BATT_I_CONT pgHOLD s)) (c.rdF R.FELT_FS_VBUS pgFELT s)
  let byE := fdiv (fmul wh (fOfNat 3600)) (c.rdVF R.HOLD_TGT_S pgHOLD s)
  let hu := if empty then fZero else fmin byI byE
  let ready := bs.all (fun p => c.linkReady p && (c.ph p == 1 || c.ph p == 2) && (c.port p).cmd.mode != 0)
  let was := c.on R.HOLD_BRIM_EMPTY pgHOLD s
  let us : List (Fld × Nat × Nat) := [(R.HOLD_BRIM_WH, s, wh.toNat), (R.HOLD_HU_BUDGET_W, s, hu.toNat), (R.HOLD_READY, s, b2n ready),
    (R.HOLD_BRIM_EMPTY, s, b2n empty)]
  let c1 := if us.all (fun u => c.rd u.1 pgHOLD u.2.1 = u.2.2) then c else c.hw pgHOLD us
  let c2 := c1.level pgHOLD (16 + s) empty
  if empty && !was then c2.raise 0x61 s else c2

/-- Contribution of the sections to the shelf's supply (R257). -/
def Chip.supplyW (c : Chip) : F32 :=
  let ss := (upTo 8).filter (fun s => (c.shareLaw s).isSome)
  if ss.isEmpty then fInf false
  else fsum (ss.map (fun s =>
    if c.rd R.HOLD_STATE pgHOLD s ≤ 1 then
      let n := ((c.srcMembers s).filter c.linkReady).length
      let im := match c.shareLaw s with | some (_, l) => dIMax l.desc | none => fZero
      fmul (fmul (fOfNat n) im) (c.rdF R.FELT_FS_VBUS pgFELT s)
    else c.rdF R.HOLD_HU_BUDGET_W pgHOLD s))

/-- EN of a section takes effect (R249). -/
def Chip.huEnable (c : Chip) (s : Nat) : Chip :=
  let st := c.rd R.HOLD_STATE pgHOLD s
  if c.onV R.HOLD_EN pgHOLD s then (if st = 0 then (c.huSet s 1).brimJudge s else c)
  else if st = 0 then c else (c.hw pgHOLD [(R.HOLD_SHAVING, s, 0), (R.HOLD_RECHARGING, s, 0)]).huSet s 0

/-- What has been written to a section's block comes into force at its SHARE_MPC update (R258). -/
def Chip.holdConfig (c : Chip) (s : Nat) : Chip :=
  let c1 := c.takeCfg (pgHOLD + 0x200 + 0x40 * s) (pgHOLD + 0x240 + 0x40 * s)
  let c2 := c1.huEnable s
  if c1.inForce = c.inForce then c2 else c2.ewJudge

/-! SHARE_MPC (R229 to R232, R243, R244). -/

/-- A member in a pass: derate factor, bounds and value. -/
structure ShMem where
  p : Nat
  d : F32
  lo : F32
  hi : F32
  prev : F32
  x : F32
deriving DecidableEq, Repr

/-- The bounds of a member in act (R229, R243). -/
def Chip.shareMem (c : Chip) (l : LawSt) (iMin iMax : F32) (p : Nat) : ShMem :=
  let dk := c.portDerate p
  let prev := match l.refs.find? (fun e => e.1 == p) with | some e => e.2 | none => c.measured p
  let lo := fmax iMin (fsub prev (dDiMax l.desc))
  let hi0 := fmin (fmul iMax dk) (fadd prev (dDiMax l.desc))
  let hi1 := if c.ph p = 1 then (match c.portLaw p with | some (_, q) => fmin hi0 q.rSs | none => hi0) else hi0
  let hi := if flt hi1 lo then lo else hi1
  ⟨p, dk, lo, hi, prev, prev⟩

/-- The share c_k of a member (R229). -/
def shareC (ms : List ShMem) (m : ShMem) : F32 :=
  let sd := fsum (ms.map (·.d))
  if feq sd fZero then fRat 1 ms.length else fdiv m.d sd

/-- The redistribution passes (R229). -/
def shareIter (iPred : F32) : Nat → List ShMem → List ShMem
  | 0, ms => ms
  | n + 1, ms =>
    let gap := fsub iPred (fsum (ms.map (·.x)))
    if flt (fabs gap) 0x3A83126F#32 then ms
    else
      let free (m : ShMem) : Bool := if flt fZero gap then flt m.x m.hi else flt m.lo m.x
      let fs := ms.filter free
      if fs.isEmpty then ms
      else
        let sc := fsum (fs.map (shareC ms))
        shareIter iPred n (ms.map (fun m =>
          if free m then { m with x := fclamp m.lo m.hi (fadd m.x (fdiv (fmul gap (shareC ms m)) sc)) } else m))

/-- One pass over its members (R229). -/
def sharePass (d : Bytes) (iPred : F32) (ms : List ShMem) : List ShMem :=
  let w := fadd (dWShare d) (dWMove d)
  shareIter iPred (dIter d) (ms.map (fun m =>
    { m with x := fclamp m.lo m.hi (fdiv (ffma (fmul (dWShare d) (shareC ms m)) iPred (fmul (dWMove d) m.prev)) w) }))

/-- Shaving and recharging of a section at an update (R254, R255). -/
def Chip.shaveJudge (c : Chip) (s : Nat) (iPred : F32) : Chip :=
  if c.rd R.HOLD_STATE pgHOLD s ≠ 1 then c
  else
    let lim := c.rdVF R.HOLD_PS_LIMIT_A pgHOLD s
    let wh := c.rdF R.HOLD_BRIM_WH pgHOLD s
    let fl := c.rdVF R.HOLD_BRIM_FLOOR_WH pgHOLD s
    let was := c.on R.HOLD_SHAVING pgHOLD s
    let stop := fle iPred (fmul (fRat 95 100) lim) || fle wh fl || !c.onV R.HOLD_PS_EN pgHOLD s
    let shave := if was then !stop else c.onV R.HOLD_PS_EN pgHOLD s && flt lim iPred && flt fl wh
    let low := (c.battMembers s).any (fun p => (c.stringsOf p).any (fun n => c.on R.GAUGE_BELOW_TGT pgGAUGE n))
    let rech := c.onV R.HOLD_RECHG_EN pgHOLD s && !shave && low
    if shave == was && rech == c.on R.HOLD_RECHARGING pgHOLD s then c
    else c.hw pgHOLD [(R.HOLD_SHAVING, s, b2n shave), (R.HOLD_RECHARGING, s, b2n rech)]

/-- OVERLOAD and its allowance after an update (R253, R268). -/
def Chip.overload (c : Chip) (s : Nat) (refs : List (Nat × F32)) : Chip :=
  let cont := c.rdVF R.HOLD_BATT_I_CONT pgHOLD s
  let on := refs.any (fun e => flt cont e.2)
  let was := c.on R.HOLD_OVERLOAD pgHOLD s
  let q := c.sec s
  let ms := c.rdV R.HOLD_OVL_MS pgHOLD s
  if on && !was then
    let c1 := (c.up R.HOLD_OVERLOAD pgHOLD 1 s).setSec s { q with ovlSince := some c.now }
    (c1.arm (tmKey tmOvl s) (ms * dqMs - q.ovlUsed)).disarm (tmKey tmOvl (8 + s))
  else if !on && was then
    let used := match q.ovlSince with | some t => q.ovlUsed + (c.now - t) | none => q.ovlUsed
    let c1 := (c.up R.HOLD_OVERLOAD pgHOLD 0 s).setSec s { q with ovlSince := none, ovlUsed := used }
    (c1.disarm (tmKey tmOvl s)).arm (tmKey tmOvl (8 + s)) (10 * ms * dqMs)
  else c

/-- The bound of a battery member's reference (R243, R253, R268). -/
def Chip.battMax (c : Chip) (s : Nat) : F32 :=
  if (c.sec s).ovlSpent || c.rdV R.HOLD_OVL_MS pgHOLD s = 0 then c.rdVF R.HOLD_BATT_I_CONT pgHOLD s else c.rdVF R.HOLD_BATT_I_PK pgHOLD s

/-- The references of one update: the source pass, then the battery pass (R229, R244, R252). -/
def Chip.shareRefs (c : Chip) (s : Nat) (l : LawSt) (iPred : F32) : List (Nat × F32) × List (Nat × F32) :=
  let d := l.desc
  let st := c.rd R.HOLD_STATE pgHOLD s
  let act (p : Nat) : Bool := c.ph p == 1 || c.ph p == 2
  let srcOn := st ≤ 1 || st = 5
  let tgt := if st = 1 && c.on R.HOLD_SHAVING pgHOLD s then fmin iPred (c.rdVF R.HOLD_PS_LIMIT_A pgHOLD s)
    else if st = 1 && c.on R.HOLD_RECHARGING pgHOLD s then fadd iPred (c.rdVF R.HOLD_RECHG_A pgHOLD s) else iPred
  let src := if srcOn then sharePass d tgt (((c.srcMembers s).filter act).map (c.shareMem l (dIMin d) (dIMax d))) else []
  let refS := src.map (fun m => (m.p, m.x))
  let rest := if srcOn then fsub iPred (fsum (refS.map (·.2))) else iPred
  let bMin := fneg (c.rdVF R.HOLD_BATT_I_CONT pgHOLD s)
  let batt := if c.battRun s && !c.on R.HOLD_BRIM_EMPTY pgHOLD s then
      sharePass d rest (((c.battMembers s).filter c.available).map (c.shareMem l bMin (c.battMax s))) else []
  (refS, batt.map (fun m => (m.p, m.x)))

/-- One update of SHARE_MPC (R229 to R232, R243 to R256). -/
def Chip.shareRun (cb : Chip) (i ready : Nat) : Chip :=
  let l0 := cb.law i
  if ready ≤ l0.startTick && l0.next.isNone && !l0.unbind then cb
  else
    let cl := cb.lawBoundary i ready
    let l1 := cl.law i
    let d := l1.desc
    let s := dMpcSection d
    let c := cl.holdConfig s
    let (l, blocked, mids) : LawSt × Bool × List F32 := if dRefSrc d = 0 ∧ dProfile d then lawProfile l1 d l1.profR else (l1, false, [])
    let iTot := if !dAuto d then fclamp (dUMin d) (dUMax d) (dUManual d)
      else if dRefSrc d = 1 then (c.law (dRefLaw d)).uOut else if dProfile d then l.profR else dSetpt d
    let iPred := ffma (dKpred d) (fsub iTot l.iTotPrev) iTot
    let c1 := ((c.setLaw i l).brimJudge s).shaveJudge s iPred
    let (src, batt) := c1.shareRefs s l iPred
    let refs := src ++ batt
    if !((iPred :: mids ++ refs.map (·.2)).all fIsFin) then
      (c1.setLaw i { l with cntSat := l.cntSat + 1, status := stBits true false blocked true }).raise 0x27 l.engine
    else
      let total := fsum (refs.map (·.2))
      let bound := fmax fOne (fmul (fRat 1 100) (fabs iPred))
      let sat := flt bound (fabs (fsub iPred total))
      let c2 := c1.setLaw i { l with refs := refs, iTotPrev := iTot, satRef := sat, rUsed := iPred, pending := some total,
                                     status := stBits sat false blocked false, cntSat := l.cntSat + (if sat then 1 else 0), auto := dAuto d }
      let srcNow := fsum ((c2.srcMembers s).map c2.measured)
      let c3 := (c2.modSec s (fun q => { q with battRefs := batt, srcNow := srcNow })).overload s batt
      if c3.rd R.HOLD_STATE pgHOLD s = 5 ∧ batt.all (fun e => feq e.2 fZero) then c3.huSet s 1 else c3

end Sys2Proof.Machine
end

