-- ==== Sys2Proof/Machine/Sched.lean ====
section
/-! DEFINITION. Sched.lean: validating and placing law sets and feeder tasks, and committing a region (R170 to R179, R185 to R193,
R196, R227, R228, R246, R287). -/

namespace Sys2Proof.Machine

/-! Costs and loads (R47, R173, R196, R227). -/

/-- Kernel cost of a law in engine cycles (R196). -/
def lawCost (d : Bytes) : Nat :=
  let t := dType d
  let base := if t = 1 then 18 else if t = 2 then 24 else if t = 3 then 20 else if t = 4 then 26 else if t = 5 then 22
    else if t = 6 then 30 else if t = 7 then 32 else if t = 8 then 36 else if t = 0x10 then 400 + 60 * (dMembers d).length else 0
  base + (if dProfile d then 4 else 0)

/-- A task placed on an engine. -/
structure Place where
  idx : Nat
  eng : Nat
  slot : Nat
  cls : Nat
  period : Nat
  offset : Nat
  cost : Nat
  port : Nat
  chans : List Nat
deriving DecidableEq, Repr

/-- The engine clock in MHz (R22, R182). -/
def Chip.engMhz (c : Chip) (e : Nat) : Nat := let f := c.rd R.CLU_FREQ_MHZ (pgCLU (e / 8)); if f = 0 then 1000 else f

/-- Sum of the loads of periodic tasks as a fraction of the cycles of an engine at `f` MHz, which are f ÷ 20 in a tick (R47, R196). -/
def loadSum (f : Nat) (xs : List Place) : Nat × Nat :=
  (xs.filter (fun x => x.period != 0)).foldl (fun q x => (q.1 * (f * x.period) + 20 * x.cost * q.2, q.2 * (f * x.period))) (0, 1)
/-- Load in per mille (R183). -/
def loadMille (f : Nat) (xs : List Place) : Nat := let q := loadSum f xs; if q.2 = 0 then 0 else 1000 * q.1 / q.2
/-- The load is within 60% (R47). -/
def loadOk (f : Nat) (xs : List Place) : Bool := let q := loadSum f xs; decide (10 * q.1 ≤ 6 * q.2)

/-- Two periodic slots become ready in one tick at some time (R170). -/
def meet (a b : Place) : Bool := let g := Nat.gcd a.period b.period; a.offset % g == b.offset % g

/-- Some slots that meet in one tick exceed the limit together with those chosen (R173). -/
def tickOver (lim : Nat) : Nat → List Place → List Place → Bool
  | acc, _, [] => decide (lim < acc)
  | acc, ch, x :: xs =>
    decide (lim < acc) || (ch.all (meet x) && tickOver lim (acc + x.cost) (x :: ch) xs) || tickOver lim acc ch xs

/-- Engine cycles that class A may use in a tick: 80% (R173). -/
def Chip.tickLimit (c : Chip) (e : Nat) : Nat := c.engMhz e / 25

/-- LAW_REF of a feeder's task. -/
def feederRef (p : Nat) : Nat := 0x8000 + p

/-- The channels whose sample streams a law takes: those of its roles, and that of its current limit (R197, R220). SHARE_MPC takes its
members' values over the shared ring. DEDUCED (169). -/
def lawChans (d : Bytes) : List Nat :=
  if dType d = 0x10 then []
  else ((lawRoles (dType d)).map (dRoleCh d) ++ (if dHasPort d && !feq (dILimit d) fZero then [dICh d] else [])).eraseDups

/-- The channels whose sample streams a feeder's task takes (R287). -/
def Chip.fdChans (c : Chip) (p : Nat) : List Nat :=
  [c.rd R.SP_CH_I (pgSP p), c.rd R.SP_CH_VOUT (pgSP p), c.rd R.SP_CH_VBUS (pgSP p)].eraseDups

/-- The tasks in the slots of an engine (R183). -/
def Chip.placesOn (c : Chip) (e : Nat) : List Place :=
  (upTo 64).filterMap (fun s =>
    let cls := c.rd R.CE_CLASS (pgCE e) s
    if cls = 0 then none
    else
      let ref := c.rd R.CE_LAW_REF (pgCE e) s
      let per := c.rd R.CE_PERIOD (pgCE e) s
      let off := c.rd R.CE_OFFSET (pgCE e) s
      let d := (c.law ref).desc
      if ref < 0x4000 then some ⟨ref, e, s, cls, per, off, lawCost d, (c.rootPort d).getD 0xFFFF, lawChans d⟩
      else if ref < 0x8000 then some ⟨ref, e, s, cls, per, off, 0, 0xFFFF, []⟩
      else some ⟨ref, e, s, cls, per, off, 40, ref - 0x8000, c.fdChans (ref - 0x8000)⟩)

/-- The places that committed sets have planned and that are not yet taken (R179). -/
def Chip.planned (c : Chip) : List Place :=
  c.laws.filterMap (fun e =>
    match e.2.next, e.2.plan with
    | some d, some (g, s, o) => some ⟨e.1, g, s, dClass d, dN d, o, lawCost d, (c.rootPort d).getD 0xFFFF, lawChans d⟩
    | some _, none => none
    | none, _ => none)

/-- Every task that is placed or planned. -/
def Chip.allPlaces (c : Chip) : List Place := (upTo 128).flatMap c.placesOn ++ c.planned

/-! Placement (R177, R178). -/

/-- The OFFSET of a slot (R178). -/
def Chip.pickOffset (c : Chip) (e cls period cost : Nat) (on : List Place) : Option Nat :=
  if cls = 1 then
    let as := on.filter (fun x => x.cls == 1)
    let ok (s : Nat) : Bool := let x : Place := ⟨0, e, 0, 1, period, (s + 3) % period, cost, 0, []⟩
      !tickOver (c.tickLimit e) cost [x] as
    ((upTo period).find? ok).map (fun s => (s + 3) % period)
  else
    let used := (on.filter (fun x => x.cls == cls && x.period == period)).map (·.offset)
    some (((upTo period).find? (fun o => !used.contains o)).getD 0)

/-- The engines that the stream of a port's channel reaches (R30). -/
def streamEngines (port ch : Nat) (all : List Place) : List Nat :=
  ((all.filter (fun x => x.port == port && x.chans.contains ch)).map (·.eng)).eraseDups

/-- The streams that tasks take, as pairs of port and channel (R30, R162). -/
def streamsOf (xs : List Place) : List (Nat × Nat) := ((xs.filter (fun x => decide (x.port < 192))).flatMap (fun x => x.chans.map (fun ch => (x.port, ch)))).eraseDups

/-- Bytes of the kernel bank in use (R163, R183). -/
def Chip.activeImage (c : Chip) (e : Nat) : Bytes := if c.on R.CE_ACTIVE_BANK (pgCE e) then (c.eng e).img1 else (c.eng e).img0

/-- A fault of severity S3 is outstanding on an engine (R177). -/
def Chip.engFault (c : Chip) (e : Nat) : Bool :=
  c.on R.CE_SELFTEST_FAIL (pgCE e) || c.plumb.outBy.any (fun x => decide (0x20 ≤ x.1) && decide (x.1 ≤ 0x27) && x.2.1 == e && x.2.2 == 3)

/-- Why an engine cannot run a task whatever else it runs (R177, R179): its partition, its state, its kernel image. 0 where it can. -/
def Chip.engCode (c : Chip) (part e port : Nat) (ty : Option Nat) : Nat :=
  if c.owner (pgCE e) ≠ part ∨ (port < 192 ∧ c.owner (pgSP port) ≠ part) then 3
  else if !(c.eng e).up || c.engFault e then 7
  else if (match ty with | some t => !Config.kernelHas (c.activeImage e) t | none => false) then 6
  else 0

/-- Places a task on one engine, or says the code that refuses it (R177 to R179). `all` holds every placed or planned task; `w` says
what is wanted, and `ty` the type of a law. A slot is free when no task stands in it but the law's own old binding. -/
def Chip.tryPlace (c : Chip) (all : List Place) (part e : Nat) (w : Place) (ty : Option Nat) : Nat × Option Place :=
  let on := all.filter (fun x => x.eng == e)
  if c.engCode part e w.port ty ≠ 0 then (c.engCode part e w.port ty, none)
  else if !loadOk (c.engMhz e) ({ w with eng := e } :: on) then (1, none)
  else
    match c.pickOffset e w.cls w.period w.cost on with
    | none => (2, none)
    | some off =>
      let full (ch : Nat) : Bool := let es := streamEngines w.port ch all; !es.contains e && decide (4 ≤ es.length)
      if decide (w.port < 192) && w.chans.any full then (4, none)
      else if 64 < (streamsOf (w :: on)).length then (5, none)
      else
        let free (s : Nat) : Bool :=
          !on.any (fun x => x.slot == s) && (c.rd R.CE_CLASS (pgCE e) s == 0 || c.rd R.CE_LAW_REF (pgCE e) s == w.idx)
        match (upTo 64).find? free with
        | none => (5, none)
        | some s => (0, some { w with eng := e, slot := s, offset := off })

/-- Places a task on the named engine, or on the lowest-numbered engine that takes it; if none does, the code of the first
candidate is given (R178, R179). -/
def Chip.place (c : Chip) (all : List Place) (part : Nat) (named : Option Nat) (w : Place) (ty : Option Nat) : Nat × Option Place :=
  match named with
  | some e => if e < 128 then c.tryPlace all part e w ty else (3, none)
  | none =>
    let es := (upTo 128).filter (fun e => c.owner (pgCE e) == part)
    match (es.filterMap (fun e => (c.tryPlace all part e w ty).2)).head? with
    | some x => (0, some x)
    | none => match es with
      | e :: _ => (c.tryPlace all part e w ty)
      | [] => (3, none)

/-! Validation (R191, R197, R213, R214, R227, R228, R246). -/

/-- A set of descriptors by index. -/
abbrev DescSet := List (Nat × Bytes)

def DescSet.find (ds : DescSet) (i : Nat) : Option Bytes := (ds.find? (fun e => e.1 == i)).map (·.2)

/-- The port at the root of a descriptor's REF_LAW chain within a set, none for a loop or a law that is not bound (R191, R197). -/
def rootIn (ds : DescSet) : Nat → Bytes → Option Nat
  | 0, _ => none
  | n + 1, d => if dHasPort d then some (dPort d) else match ds.find (dRefLaw d) with | some e => rootIn ds n e | none => none

/-- The references of a law end, all within its partition (R191). -/
def refsEnd (ds : DescSet) : Nat → Bytes → Bool
  | 0, _ => false
  | n + 1, d => if dRefSrc d = 1 then (match ds.find (dRefLaw d) with | some e => refsEnd ds n e | none => false) else true

/-- A finite number within bounds. -/
def fIn (lo hi x : F32) : Bool := fIsFin x && fle lo x && fle x hi

/-- The body of a descriptor is in range (R198 to R203, R212, R227). -/
def bodyOk (d : Bytes) : Bool :=
  let t := dType d
  let fin (os : List Nat) : Bool := os.all (fun o => fIsFin (dF d o))
  if t = 1 ∨ t = 2 ∨ t = 5 then
    fin [64, 68, 72, 76, 80, 84] && (t != 2 || fNonNeg (dF d 76)) && (t != 5 || fNonNeg (dF d 84))
  else if t = 3 ∨ t = 4 then fin [64, 68, 72, 76, 80, 84, 88]
  else if t = 6 ∨ t = 7 then
    fPos (dF d 64) && fPos (dF d 72) && fin [68, 80] && (t != 6 || fIn fZero fOne (dF d 68)) && (t != 7 || fNonNeg (dF d 80))
  else if t = 8 then fin [64, 68, 72, 76, 80, 84, 88, 92, 96, 100, 104, 108, 112]
  else if t = 0x10 then
    decide (1 ≤ (dMembers d).length) && decide ((dMembers d).length ≤ 48) && leAt d 88 1 / 8 == 0 && leAt d 90 2 == 0
    && decide (1 ≤ dIter d) && decide (dIter d ≤ 8) && fin [92, 96, 100, 104, 108, 112] && fle (dIMin d) (dIMax d) && fNonNeg (dDiMax d)
    && fNonNeg (dWShare d) && fNonNeg (dWMove d) && flt fZero (fadd (dWShare d) (dWMove d)) && fIn fZero fOne (dKpred d)
  else false

/-- The supervision block is in range (R213, R215). -/
def supervOk (d : Bytes) : Bool :=
  fNonNeg (dILimit d) && fIn fZero fOne (dLimScale d) && fNonNeg (dOvLimit d) && fNonNeg (dSsRate d) && decide (1 ≤ dHicOff d)
  && decide (dHicOff d ≤ 10000) && leAt d 181 1 / 16 == 0 && fIsFin (dTDerate d) && fIsFin (dTTrip d) && flt (dTDerate d) (dTTrip d)

/-- The classes a law type allows (R196). -/
def classOk (d : Bytes) : Bool :=
  let t := dType d
  if t = 6 ∨ t = 7 ∨ t = 8 then dClass d == 1 else if t = 0x10 then dClass d == 2 else dClass d == 1 || dClass d == 2

/-- The stage on a law's port has what the law uses (R191). -/
def Chip.stageOk (c : Chip) (p : Nat) (d : Bytes) : Bool :=
  match (c.port p).announce with
  | none => false
  | some i =>
    let chans := (lawRoles (dType d)).map (dRoleCh d) ++ (if feq (dILimit d) fZero then [] else [dICh d])
    let pairs := if dPair1 d = 0 then 1 else 2
    !seFeed i && chans.all (fun ch => decide (ch < i.channels.toNat)) && decide (pairs ≤ i.pairs.toNat)

/-- The envelope set is one a stage end can use, or none (R150, R191). -/
def envSetOk (d : Bytes) : Bool :=
  let mn := (dEnvWord d 0).toNat % 2 ^ 20
  let mx := (dEnvWord d 1).toNat % 2 ^ 20
  !(dEnvWord d 0).getLsbD 31 || (mx != 0 && decide (mn ≤ mx))

/-- A descriptor meets R191 in its set `ds`; `others` are the bound descriptors of other regions. -/
def Chip.paramOk (c : Chip) (part : Nat) (ds others : DescSet) (i : Nat) (d : Bytes) : Bool :=
  let t := dType d
  let n := dN d
  let hasPort := dHasPort d
  let share (s : Nat) (p : Nat) : Bool := ds.any (fun e => dType e.2 == 0x10 && dMpcSection e.2 == s && dMember e.2 p)
  bodyOk d && classOk d && envSetOk d && (hasPort || dPort d == 0xFFFF) && (decide (dEngine d < 128) || dEngine d == 0xFF)
  && [20, 24, 28, 32, 36, 40, 44].all (fun o => fIsFin (dF d o)) && fle (dUMin d) (dUMax d)
  && (if dClass d = 1 then decide (4 ≤ n) && decide (n ≤ 20000) else decide (200 ≤ n) && decide (n ≤ 20000))
  && dPair1 d != 3 && decide (dRefSrc d ≤ 2) && decide (dPeriod d < 2 ^ 20)
  && (if hasPort then
        dPeriod d != 0 && supervOk d && c.stageOk (dPort d) d
        && !(ds ++ others).any (fun e => e.1 != i && dHasPort e.2 && dPort e.2 == dPort d)
      else (rootIn ds (ds.length + 1) d).isSome && dRefSrc d != 2)
  && (dRefSrc d != 1 || refsEnd ds (ds.length + 1) d)
  && (part == 0 || (!(hasPort && dFeltEn d) && dRefSrc d != 2 && t != 0x10))
  && (dRefSrc d != 2 || share (dSection d) (dPort d))
  && (t != 0x10 || (!hasPort && !(ds ++ others).any (fun e => e.1 != i && dType e.2 == 0x10 && dMpcSection e.2 == dMpcSection d)
        && (dMembers d).all (fun p => ds.any (fun e => dHasPort e.2 && dPort e.2 == p && dRefSrc e.2 == 2 && dSection e.2 == dMpcSection d))))
  && !(dRefSrc d == 2 && hasPort && c.isBatt (dPort d) && decide (12 < n) && c.on R.HOLD_EN pgHOLD (dSection d))

/-! Committing a region (R187, R193). -/

/-- The law descriptors of a region whose BIND is 1, in ascending index (R187). -/
def bindSet (m : Memory) (part : Nat) : DescSet :=
  m.filterMap (fun e =>
    let d := e.1 / 256
    if e.1 % 256 = 1 ∧ d / 2048 = part ∧ d % 2048 ≠ 0 ∧ e.2.getLsbD 2 then some (d, memBytes m (256 * d) 256) else none)

/-- The fields whose change binds a law anew (R193). Bytes 192 to 207 are not among them: R193 does not list them as kept, but R160 has the
set they hold written again when a commit changes them, so a commit that changes them alone keeps the binding (DESIGN CHOICE, log 209). -/
def keepKey (d : Bytes) : Bytes :=
  let b1 := leAt d 1 1
  sliceBytes d 0 1 ++ [BitVec.ofNat 8 (b1 % 8)] ++ sliceBytes d 2 5 ++ [BitVec.ofNat 8 (leAt d 7 1 / 16 * 16)] ++ sliceBytes d 8 12

/-- One law of a set under commit: kept, or placed. -/
structure Planned where
  idx : Nat
  desc : Bytes
  place : Option Place
deriving DecidableEq, Repr

/-- What a law of a set asks of an engine (R177, R196). -/
def wanted (ds : DescSet) (i : Nat) (d : Bytes) : Place :=
  ⟨i, 0, 0, dClass d, dN d, 0, lawCost d, (rootIn ds (ds.length + 1) d).getD 0xFFFF, lawChans d⟩

/-- A law of a set keeps its binding (R193). -/
def Chip.keeps (c : Chip) (i : Nat) (d : Bytes) : Bool := let l := c.law i; l.bound && !l.unbind && keepKey l.desc == keepKey d

/-- Validates and places a set in ascending index: the plan, or the first failing index with its code (R179, R191). `all` holds the
tasks of other sets, and those laws of this one that keep their binding, at their new costs. -/
def Chip.plan (c : Chip) (part : Nat) (ds others : DescSet) : List (Nat × Bytes) → List Place → List Planned → (Nat × Nat) ⊕ List Planned
  | [], _, acc => .inr acc.reverse
  | (i, d) :: rest, all, acc =>
    let l := c.law i
    if !c.paramOk part ds others i d then .inl (i, 8)
    else if c.keeps i d then
      let e := l.engine
      let on := all.filter (fun x => x.eng == e)
      let code := c.engCode part e (wanted ds i d).port (some (dType d))
      if code ≠ 0 then .inl (i, code)
      else if !loadOk (c.engMhz e) on then .inl (i, 1)
      else if dClass d = 1 && (on.filter (fun x => x.idx == i)).any (fun x =>
          tickOver (c.tickLimit e) x.cost [x] (on.filter (fun y => y.cls == 1 && y.idx != i))) then .inl (i, 2)
      else if (lawChans d).any (fun ch => decide (4 < (streamEngines (wanted ds i d).port ch all).length)) then .inl (i, 4)
      else if 64 < (streamsOf on).length then .inl (i, 5)
      else c.plan part ds others rest all (⟨i, d, none⟩ :: acc)
    else
      let named := if dEngine d = 0xFF then none else some (dEngine d)
      match c.place all part named (wanted ds i d) (some (dType d)) with
      | (_, some x) => c.plan part ds others rest (x :: all) (⟨i, d, some x⟩ :: acc)
      | (code, none) => .inl (i, code)

/-- Bytes 0 to 3 of the control descriptor of a region: COMMIT_GEN (R186). -/
def commitGen (m : Memory) (part : Nat) : Nat := memWord m (2048 * 256 * part)
/-- DONE_GEN (R186). -/
def doneGen (m : Memory) (part : Nat) : Nat := memWord m (2048 * 256 * part + 4)

/-- MGMT writes the outcome of a commit into the control descriptor, DONE_GEN last (R186, R187). -/
def putResult (m : Memory) (part code fail : Nat) (tick : Option Nat) (gen : Nat) : Memory :=
  let b := 2048 * 256 * part
  let m1 := memPut (memPut m (b + 8) (leBytes code 1)) (b + 10) (leBytes fail 2)
  let m2 := match tick with | some t => memPut m1 (b + 16) (leBytes t 8) | none => m1
  memPut m2 (b + 4) (leBytes gen 4)

/-- The plan is held by the laws until its agreed tick: `startTick` is far ahead until then (R179). -/
def Chip.hold (c : Chip) (ds : DescSet) (part : Nat) (ps : List Planned) : Chip :=
  let never := 2 ^ 64
  let c1 := foldc ps (fun q c =>
    match q.place with
    | none => c.modLaw q.idx (fun l => { l with next := some q.desc, plan := none, startTick := never, unbind := false })
    | some x =>
      c.modLaw q.idx (fun l =>
        if l.bound then { l with next := some q.desc, plan := some (x.eng, x.slot, x.offset), startTick := never, unbind := true }
        else { bound := false, next := some q.desc, plan := some (x.eng, x.slot, x.offset), startTick := never })) c
  let gone := (c1.laws.filter (fun e => e.2.bound && e.1 / 2048 == part && (ds.find e.1).isNone)).map (·.1)
  foldc gone (fun i c => c.modLaw i (fun l => { l with unbind := true, next := none, plan := none, startTick := never })) c1

/-! Refresh (R190, R192, R206). -/

/-- MGMT writes STATUS, the counters, the readback block and a U_MANUAL that has been tracked of one bound law (R190, R192, R206). -/
def refreshLaw (m : Memory) (i : Nat) (l : LawSt) : Memory :=
  let b := 256 * i
  let st := l.status.toNat / 16 * 16 % 65536 + l.code.toNat
  let m1 := memPut m (b + 48) (leBytes st 2)
  let m2 := memPut m1 (b + 52) (leBytes l.cntSat.toNat 4 ++ leBytes l.cntOvr.toNat 4 ++ leBytes l.cntMiss.toNat 4)
  let t := dType l.desc
  let integ := if t = 3 ∨ t = 4 ∨ t = 6 ∨ t = 7 ∨ t = 0x10 then fZero else l.integ
  let m3 := memPut m2 (b + 208) (leBytes l.uOut.toNat 4 ++ leBytes integ.toNat 4 ++ leBytes l.rUsed.toNat 4 ++ leBytes l.yLast.toNat 4)
  if l.manWrite then memPut m3 (b + 28) (leBytes (dUManual l.desc).toNat 4) else m3

/-- MGMT refreshes every bound law (R192): at each commit and every 1 ms. -/
def refreshAll (s : State) : State :=
  let ls := s.chip.laws.filter (fun e => e.2.bound)
  { s with
    mem := foldc ls (fun e m => refreshLaw m e.1 e.2) s.mem
    chip := foldc (ls.filter (fun e => e.2.manWrite)) (fun e c => c.modLaw e.1 (fun l => { l with manWrite := false })) s.chip }

/-! Committing (R179, R187, R192, R193). -/

/-- MGMT validates and places the set of a region: a refused set changes nothing but the codes; a set that binds waits for its
agreed tick with the generation that was copied (R179, R187). -/
def commitRun (s : State) (part : Nat) : State :=
  let c := s.chip
  let gen := commitGen s.mem part
  let ds := bindSet s.mem part
  let others : DescSet := (c.laws.filter (fun e => e.2.bound && e.1 / 2048 != part)).map (fun e => (e.1, e.2.desc))
  let all := c.allPlaces.filterMap (fun x =>
    if 0x8000 ≤ x.idx ∨ x.idx / 2048 ≠ part then some x
    else match ds.find x.idx with
      | some d => if c.keeps x.idx d then some { x with cost := lawCost d, chans := lawChans d, port := (wanted ds x.idx d).port } else none
      | none => none)
  match c.plan part ds others ds all [] with
  | .inl (i, code) =>
    let s1 := refreshAll { s with chip := if (c.law i).bound then c.modLaw i (fun l => { l with code := BitVec.ofNat 4 code }) else c }
    let st := memWord s1.mem (256 * i + 48)
    let m1 := memPut s1.mem (256 * i + 48) [BitVec.ofNat 8 (st % 256 / 16 * 16 + code)]
    let addr := 0x400000 + 256 * i
    let c1 := s1.chip.record 0x110 i 1 part ([BitVec.ofNat 8 code, 0, 0, 0] ++ leBytes addr 4) true
    { s1 with mem := putResult m1 part code i none gen, chip := c1 }
  | .inr ps =>
    let c1 := (c.hold ds part ps).modTwin (fun t => { t with commits := mapSet t.commits part gen })
    { s with chip := c1.propose (.lawSet ⟨part % 8, Nat.mod_lt _ (by decide)⟩) }

/-- MGMT commits a region whose COMMIT_GEN differs from its DONE_GEN (R187), one commit at a time. In JOINING, and while a twin joins,
the commit is held (R357). -/
def commitRegion (s : State) (part : Nat) : State :=
  let c := s.chip
  if commitGen s.mem part = doneGen s.mem part ∨ !c.plumb.mgmtUp ∨ c.plumb.mgmtHalt ∨ c.plumb.mgmtFail ∨ c.fwu.paused
      ∨ c.twin.commits.any (fun e => e.1 == part) then s
  else if c.rd R.TWIN_STATE pgTWIN = 2 ∨ (c.solo ∧ c.on R.TWIN_JOIN_PHASE pgTWIN) then
    { s with chip := c.modTwin (fun t => { t with heldCommits := if t.heldCommits.any (fun x => x.val == part) then t.heldCommits
        else t.heldCommits ++ [⟨part % 8, Nat.mod_lt _ (by decide)⟩] }) }
  else commitRun s part

/-- A task slot is written (R178, R183). -/
def Chip.takeSlot (c : Chip) (x : Place) : Chip :=
  c.hw (pgCE x.eng) [(R.CE_CLASS, x.slot, x.cls), (R.CE_ENABLE, x.slot, 1), (R.CE_LAW_REF, x.slot, x.idx),
    (R.CE_PERIOD, x.slot, x.period), (R.CE_OFFSET, x.slot, x.offset)]

/-- The stream slots that remain, with one at the lowest free number for each stream that has none yet (R162, R164). D is 1 in each, as no
rule names a slot of another decimation (DESIGN CHOICE, log 234). -/
def addStreams (need : List (Nat × Nat)) (have' : List (Nat × Stream)) : List (Nat × Stream) :=
  need.foldl (fun xs k =>
    if xs.any (fun x => x.2.port == k.1 && x.2.ch == k.2) then xs
    else match (upTo 64).find? (fun s => !xs.any (fun x => x.1 == s)) with
      | some s => mapSet xs s { port := k.1, ch := k.2 }
      | none => xs) have'

/-- The stream slots of an engine follow its tasks (R30, R162, R177). -/
def Chip.reStreams (c : Chip) (e : Nat) : Chip :=
  let need := streamsOf (c.placesOn e)
  let kept := (c.eng e).streams.filter (fun x => need.contains (x.2.port, x.2.ch))
  c.modEng e (fun g => { g with streams := addStreams need kept })

/-- The sample fabric writes a sample of a port into the rings that take its stream (R30, R163, R164). -/
def Chip.fabricWrite (c : Chip) (e p t : Nat) (body : Bytes) : Chip :=
  c.modEng e (fun g => { g with
    streams := g.streams.map (fun x =>
      if x.2.port == p && t % max 1 x.2.dec == 0 then
        (x.1, { x.2 with ring := mapSet x.2.ring (t / max 1 x.2.dec % 512) (t, (sampleOf body t x.2.ch).code) })
      else x) })

/-- LOAD_A and LOAD_B of an engine, and its stream slots (R162, R183). -/
def Chip.reLoad (c0 : Chip) (e : Nat) : Chip :=
  let c := c0.reStreams e
  let on := c.placesOn e
  let a := loadMille (c.engMhz e) (on.filter (fun x => x.cls == 1))
  let b := loadMille (c.engMhz e) (on.filter (fun x => x.cls == 2))
  if c.rd R.CE_LOAD_A (pgCE e) = a ∧ c.rd R.CE_LOAD_B (pgCE e) = b then c
  else c.hw (pgCE e) [(R.CE_LOAD_A, 0, a), (R.CE_LOAD_B, 0, b)]

/-- A law is bound at tick `x`: its slot, its port's slot phase and envelope set, and its phase in SOFT_START (R111, R160, R178,
R216, R219). `um` is U_MANUAL of the transfer by which it starts. -/
def Chip.bindLaw (c : Chip) (i : Nat) (d : Bytes) (q : Place) (x : Nat) (um : Option F32) : Chip :=
  let l : LawSt := { bound := true, desc := d, startTick := x, engine := q.eng, slot := q.slot, preset := um, status := 0x10 }
  let c1 := ((c.setLaw i l).takeSlot q).reLoad q.eng
  if dHasPort d then
    let p := dPort d
    let e := dEnvIdx d
    let c2 := c1.modPort p (fun t => { t with slotPhase := (q.offset + 1) % 4 }) |>.envClear p e
    let c3 := foldc (envReqs e (fun k => (dEnvWord d k).toNat)) (fun r c => if c.hdrLead p then c.pushReq p r else c) c2
    let c4 := (c3.setCmd p stopCmd).rewriteThresholds p
    let c6 := (c4.phStart p).phiRule p
    match um with
    | some v => c6.modLaw i (fun l => { l with preset := some v })
    | none => c6
  else c1

/-- The place that a law's plan names (R178). -/
def Chip.planPlace (c : Chip) (i : Nat) (d : Bytes) (g s o : Nat) : Place :=
  ⟨i, g, s, dClass d, dN d, o, lawCost d, (c.rootPort d).getD 0xFFFF, lawChans d⟩

/-- A member's period changes: its offset is scaled by new P ÷ old P, to the nearest dq (R240). -/
def Chip.scalePhi (c : Chip) (p old new : Nat) : Chip :=
  if old = new ∨ old = 0 then c
  else
    let k := fRat new old
    let sc (f : Fld) : Nat := (2 * c.rd f (pgSP p) * new + old) / (2 * old) % max 1 new
    (c.hw (pgSP p) [(R.SP_PHI, 0, sc R.SP_PHI), (R.SP_PHI_TGT, 0, sc R.SP_PHI_TGT)]).modPort p (fun t =>
      { t with phiR := fmul t.phiR k, phiV := fmul t.phiV k, phiA := fmul t.phiA k })

/-- At the first update boundary after its agreed tick a law that a commit has changed is unbound and bound anew, as a transfer from its
last output (R193, R240). -/
def Chip.rebindLaw (c : Chip) (i : Nat) : Chip :=
  let l := c.law i
  let c1 := (c.unbindLaw i).reLoad l.engine
  match l.next, l.plan with
  | some d, some (g, s, o) =>
    let c2 := if dHasPort d && dHasPort l.desc && dPort d == dPort l.desc then c1.scalePhi (dPort d) (dPeriod l.desc) (dPeriod d) else c1
    c2.bindLaw i d (c2.planPlace i d g s o) l.startTick (some l.uOut)
  | some _, none => c1
  | none, _ => c1

/-- A twin that takes the port's duties writes the envelope sets of its laws that have not been answered OK (R36, R160). -/
def Chip.envPending (c : Chip) : Chip :=
  foldc (c.laws.filter (fun e => e.2.bound && dHasPort e.2.desc)) (fun e c =>
    let p := dPort e.2.desc
    let n := dEnvIdx e.2.desc
    if c.hdrLead p && c.linkReady p && !(c.port p).envUsable n && !(c.port p).cfgQ.any (fun q => q.op == 2 && (q.addr == 0x10 + 4 * n || q.addr == 0x12 + 4 * n)) then
      foldc (envReqs n (fun k => (dEnvWord e.2.desc k).toNat)) (fun r c => c.pushReq p r) c
    else c) c

/-- A kept law's changes wait for its first update boundary after tick `x`; a changed envelope set is written (R160, R193). -/
def Chip.keepLaw (c : Chip) (i x : Nat) : Chip :=
  let l := { c.law i with code := 0 }
  match l.next with
  | none => c.setLaw i { l with startTick := x }
  | some d =>
    let c1 := c.setLaw i { l with startTick := x }
    let p := dPort d
    let e := dEnvIdx d
    let env (b : Bytes) : Bytes := leBytes (dEnvIdx b) 1 ++ sliceBytes b 192 16
    if dHasPort d && env d != env l.desc then
      let c2 := c1.envClear p e
      if c2.hdrLead p then foldc (envReqs e (fun k => (dEnvWord d k).toNat)) (fun r c => c.pushReq p r) c2
      else c2
    else c1

/-- A set that a region has agreed to bind starts at tick `x` (R179, R187, R193): laws not bound before are bound, as planned; those that
are bound change, leave, or are bound anew at their own next boundary. The commit then reports, DONE_GEN being the generation that
was copied, and every bound law is refreshed (R186, R192). -/
def startSet (s : State) (part x : Nat) : State :=
  let c := s.chip
  let mine := c.laws.filter (fun e => e.1 / 2048 == part && decide (e.2.startTick = 2 ^ 64))
  let kept := mine.filter (fun e => e.2.bound && !e.2.unbind)
  let leave := mine.filter (fun e => e.2.bound && e.2.unbind)
  let c2 := foldc kept (fun e c => c.keepLaw e.1 x) c
  let c3 := foldc leave (fun e c => c.modLaw e.1 (fun l => { l with startTick := x })) c2
  let c4 := foldc (mine.filter (fun e => !e.2.bound)) (fun e c =>
    match e.2.next, e.2.plan with
    | some d, some (g, sl, o) => c.bindLaw e.1 d (c.planPlace e.1 d g sl o) x none
    | some _, none => c
    | none, _ => c) c3
  let gen := mapGet c.twin.commits part (commitGen s.mem part)
  let s1 := refreshAll { s with chip := c4.modTwin (fun t => { t with commits := mapDel t.commits part }) }
  { s1 with mem := putResult s1.mem part 0 0xFFFF (some x) gen }

/-! Feeder tasks (R287). -/

/-- Places a feeder's task (R287): class B, PERIOD 10, 40 cycles. -/
def Chip.placeFeeder (c : Chip) (p : Nat) : Chip :=
  match c.place c.allPlaces (c.owner (pgSP p)) none ⟨feederRef p, 0, 0, 2, 10, 0, 40, p, c.fdChans p⟩ none with
  | (_, some x) =>
    let c1 := (c.takeSlot x).reLoad x.eng
    ((c1.modFd p (fun f => { f with placed := some (x.eng, x.slot), lastRun := c.datum })).up R.SP_BIND_CODE (pgSP p) 0).modPort p
      (fun t => { t with slotPhase := (x.offset + 1) % 4 })
  | (code, none) => (c.up R.SP_BIND_CODE (pgSP p) code).wr R.SP_FD_EN (pgSP p) 0

/-- A feeder's task leaves its slot. -/
def Chip.dropFeeder (c : Chip) (p : Nat) : Chip :=
  match (c.fd p).placed with
  | none => c
  | some (e, s) => ((c.freeSlot e s).reLoad e).modFd p (fun f => { f with placed := none })

/-! Meanings of the rows. -/

/-- DESCRIPTOR_COMMIT (R187): MGMT copies, validates and binds or refuses a region's law set when COMMIT_GEN differs from DONE_GEN.
-/
def execDescriptorCommit (part : Part) (s : State) : Result :=
  .next (commitRegion s part.val)

/-- READBACK_REFRESH (R192): Every 1 ms MGMT writes STATUS, counters and readback of every bound law. -/
def execReadbackRefresh (s : State) : Result :=
  .next (refreshAll s)

end Sys2Proof.Machine
end

