-- ==== Sys2Proof/Machine/Tile.lean ====
section
/-! DEFINITION. Tile.lean: an engine's tile memory as its error correction sees it, and the lanes of its datapaths with their
residues (R162, R163, R165, R167). -/

namespace Sys2Proof.Machine

/-! The layout of tile memory (R162, R163). -/

/-- The contents of a kernel bank, of 64 KiB (R163). -/
def bankImage (img : Bytes) : Bytes := img.take 0x10000

/-- The code that a stream slot's ring holds at a position (R163, R164). -/
def EngSt.ringCode (g : EngSt) (slot pos : Nat) : BitVec 16 :=
  match g.streams.find? (fun x => x.1 == slot) with
  | some x => (mapGet x.2.ring pos (0, 0)).2
  | none => 0

/-- The byte at an offset of an engine's tile memory (R162, R163): the two kernel banks, and the ring of stream slot s at
0x2_0000 + 1,024 s. The law state, descriptor copies and working arrays above them have no layout in the manual; the model holds them in
`LawSt`, `SecSt` and `CalSt`, and gives none of their bytes (DESIGN CHOICE, log 208). -/
def EngSt.tileByte (g : EngSt) (a : Nat) : Option Byte :=
  if a < 0x10000 then some ((g.img0[a]?).getD 0)
  else if a < 0x20000 then some ((g.img1[a - 0x10000]?).getD 0)
  else if a < 0x30000 then
    let o := a - 0x20000
    let v := (g.ringCode (o / 1024) (o % 1024 / 2)).toNat
    some (BitVec.ofNat 8 (if o % 2 = 0 then v % 256 else v / 256))
  else none

/-! Error correction (R165). -/

/-- Errors come into words of tile memory; a second one in a word makes it a double error. -/
def flipIn (fs : List (Nat × Bool)) (u : Nat × Bool) : List (Nat × Bool) := mapSet fs u.1 (u.2 || fs.any (fun x => x.1 == u.1))

/-- Errors have come into an engine's tile memory (R165). -/
def Chip.upset (c : Chip) (e : Nat) (us : Upsets) : Chip :=
  if us = [] then c else c.modEng e (fun g => { g with flips := us.foldl flipIn g.flips })

/-- A word of tile memory is read (R165, R184). A single-bit error is corrected, and the word holds it no longer; a double-bit error
stays. DESIGN CHOICE (170). -/
def Chip.readWord (c : Chip) (e w : Nat) : Chip :=
  match (c.eng e).flips.find? (fun x => x.1 == w) with
  | none => c
  | some (_, false) =>
    (((c.modEng e (fun g => { g with flips := g.flips.filter (fun x => x.1 != w) })).bump R.CE_CNT (pgCE e) 0).pulse (pgCE e) 1).raise 0x20 e
  | some (_, true) => ((c.bump R.CE_CNT (pgCE e) 1).pulse (pgCE e) 2).raise 0x21 e

/-- Words are read in order. -/
def Chip.readWords (c : Chip) (e : Nat) (ws : List Nat) : Chip := foldc ws (fun w c => c.readWord e w) c

/-- Some of these words hold a double-bit error. -/
def EngSt.doubleIn (g : EngSt) (ws : List Nat) : Bool := ws.any (fun w => g.flips.any (fun x => x.1 == w && x.2))

/-! Lanes (R162, R167). -/

/-- A sum held in a 48-bit accumulator, saturating (R162). -/
def sat48 (i : Int) : BitVec 48 := BitVec.ofInt 48 (max (-(2 ^ 47)) (min (2 ^ 47 - 1) i))

/-- The sum that a multiply-accumulate lane forms of 16 x 16-bit factors (R162). -/
def macSum (acc : BitVec 48) (o : MacOp) : Int := (if o.clear then 0 else acc.toInt) + o.a.toInt * o.b.toInt + o.err

/-- The residue modulo 7 that a multiply-accumulate lane forms from the residues of its operands (R167). -/
def macResidue (acc : BitVec 48) (o : MacOp) : Int := ((if o.clear then 0 else acc.toInt % 7) + (o.a.toInt % 7) * (o.b.toInt % 7)) % 7

/-- The significand of a binary32 number, none where it is not finite. -/
def significand (x : F32) : Option Nat := match fVal x with | .fin _ m _ => some m | .inf _ => none | .nan => none

/-- The significand product that a fused multiply-add lane forms (R162). -/
def fmaProd (o : FmaOp) (m n : Nat) : Nat := ((m * n : Nat) + o.err : Int).toNat

/-- The residues of a fused multiply-add's significand product differ (R167). Only finite factors have such a product. -/
def fmaBad (o : FmaOp) : Bool :=
  match significand o.a, significand o.b with
  | some m, some n => decide (fmaProd o m n % 7 ≠ (m % 7) * (n % 7) % 7)
  | some _, none => false
  | none, _ => false

/-- What a fused multiply-add lane gives for the significand product that it forms (R162). -/
def fmaResult (o : FmaOp) : F32 :=
  match fVal o.a, fVal o.b, fVal o.c with
  | .fin s1 m1 e1, .fin s2 m2 e2, .fin s3 m3 e3 =>
    if o.err = 0 then ffma o.a o.b o.c
    else
      let (i, e) := addEx (sInt (s1 != s2) (fmaProd o m1 m2)) (e1 + e2) (sInt s3 m3) e3
      fRoundI i e
  | _, _, _ => ffma o.a o.b o.c

/-- The lane registers of a work class after its operations, and how many residues differed (R162, R167). -/
def EngSt.lanes (g : EngSt) (cls : Nat) (ops : LaneOps) : EngSt × Nat :=
  let mac (q : List (Nat × BitVec 48) × Nat) (o : MacOp) : List (Nat × BitVec 48) × Nat :=
    let k := 32 * cls + o.lane.val
    let acc := mapGet q.1 k 0
    let sum := macSum acc o
    (mapSet q.1 k (sat48 sum), q.2 + b2n (decide (sum % 7 ≠ macResidue acc o)))
  let fma (q : List (Nat × F32) × Nat) (o : FmaOp) : List (Nat × F32) × Nat :=
    (mapSet q.1 (16 * cls + o.lane.val) (fmaResult o), q.2 + b2n (fmaBad o))
  let a := ops.macs.foldl mac (g.acc, 0)
  let f := ops.fmas.foldl fma (g.freg, 0)
  ({ g with acc := a.1, freg := f.1 }, a.2 + f.2)

/-- Operations run in an engine's lanes: each mismatch is counted (R167, R184). -/
def Chip.lanes (c : Chip) (e cls : Nat) (ops : LaneOps) : Chip × Bool :=
  let (g, n) := (c.eng e).lanes cls ops
  let c1 := if ops.macs = [] ∧ ops.fmas = [] then c else c.setEng e g
  if n = 0 then (c1, false) else ((c1.bump R.CE_CNT (pgCE e) 2 n).pulse (pgCE e) 0, true)

end Sys2Proof.Machine
end

