-- ==== Sys2Proof/Machine/TwinLib.lean ====
section
/-! DEFINITION. TwinLib.lean: entering and leaving the twin states, a declared loss of the twin, and the resolution of a
disagreement (R337, R345 to R351, R354, R357, R358). -/

namespace Sys2Proof.Machine

/-- SYS.STRAPS[7:5]. -/
def Chip.straps75 (c : Chip) : Nat :=
  c.rd R.SYS_SOLO_ALLOWED pgSYS + 2 * c.rd R.SYS_STAGE_SAFE_DEFAULT pgSYS + 4 * c.rd R.SYS_FAB_PLANES pgSYS

/-- The HELLO that this chip sends (R65, R357). -/
def Chip.ownHello (c : Chip) (joining : Bool) : Hello :=
  { twinId := c.on R.SYS_TWIN_ID pgSYS, straps75 := BitVec.ofNat 3 c.straps75, verMgmt := BitVec.ofNat 32 (c.rd R.FWU_RUN_VER pgFWU 1),
    verCe := BitVec.ofNat 32 (c.rd R.FWU_RUN_VER pgFWU 2), verNeg := BitVec.ofNat 32 (c.rd R.FWU_RUN_VER pgFWU 3), joining := joining }

/-- A CMD frame is scheduled on a stage port (R87). -/
def Chip.cmdScheduled (c : Chip) : Bool := c.ports.any (fun e => e.2.sentCmd && decide (c.tick ≤ e.2.lastApply))

/-- DATUM.SOURCE of a twin that leads: PTP with a SLAVE port while it is not grandmaster, else FREE (R341, R391). -/
def Chip.leadSource (c : Chip) : Nat := if (c.fab.slaveA || c.fab.slaveB) && !c.on R.FAB_GM pgFAB then 2 else 0

/-- DATUM.SOURCE takes a value (R88). -/
def Chip.setSource (c : Chip) (v : Nat) : Chip :=
  if c.rd R.DATUM_SOURCE pgDATUM = v then c else c.up R.DATUM_SOURCE pgDATUM v

/-- The first in-service self-check after an entry to SOLO or PAIRED; twin B's schedule is offset by half the interval (R363). -/
def Chip.selfArm (c : Chip) : Chip :=
  let ms := c.rd R.TWIN_SELFTEST_MS pgTWIN
  if ms = 0 then c.disarm (tmKey tmSelf 0)
  else c.arm (tmKey tmSelf 0) (ms * dqMs + (if c.on R.SYS_TWIN_ID pgSYS then ms * dqMs / 2 else 0))

/-- The twin becomes SOLO, and so LEAD (R337, R338). Its own proposals no longer wait for an acknowledgement (R340). -/
def Chip.enterSolo (c : Chip) : Chip :=
  let c1 := (c.hw pgTWIN [(R.TWIN_STATE, 0, 1), (R.TWIN_TIME_ERR, 0, 0), (R.TWIN_RESOLVING, 0, 0), (R.TWIN_PEER_DEBUG_HOLD, 0, 0),
    (R.TWIN_JOIN_PHASE, 0, 0), (R.TWIN_FENCE_CAUSE, 0, 0)]).setRole false
  let c2 := c1.modTwin (fun t => { t with
    agree := t.agree.map (fun a => if a.mine then { a with acked := true } else a)
    takeover := false
    lost := false
    peer := none
    selfTests := []
    ownPass := none
    peerPass := none
    affected := []
    timeBad := none
    step6 := false })
  let c3 := ((c2.disarm (tmKey tmPhase 0)).disarm (tmKey tmTakeover 0)).disarm (tmKey tmTwinTime 0)
  ((((c3.level pgTWIN 8 false).setSource c3.leadSource).selfArm).fenceWaiting).envPending

/-- The twin enters JOINING at a phase, as FOLLOW (R337, R338, R357). -/
def Chip.enterJoining (c : Chip) (phase limitMs : Nat) : Chip :=
  let c1 := (c.hw pgTWIN [(R.TWIN_STATE, 0, 2), (R.TWIN_JOIN_PHASE, 0, phase), (R.TWIN_FENCE_CAUSE, 0, 0), (R.TWIN_RESOLVING, 0, 0)]).setRole true
  let c2 := c1.modTwin (fun t => { t with step6 := false, lost := false, takeover := false, stepped := decide (phase ≠ 0) })
  let c3 := (c2.arm (tmKey tmPhase 0) (limitMs * dqMs)).disarm (tmKey tmRejoin 0)
  if phase = 0 then c3.send (.chain (.hello (c3.ownHello true))) else c3

/-- A phase of joining has failed: JOINING starts again from HELLO 1 s later; a third failure in a row sets JOIN_FAIL. The LEAD
gives up the attempt (R358). -/
def Chip.joinFailed (c : Chip) : Chip :=
  if c.on R.TWIN_JOIN_FAIL pgTWIN then c
  else if c.rd R.TWIN_STATE pgTWIN = 2 then
    let n := c.twin.joinFails + 1
    let c1 := ((c.up R.TWIN_JOIN_PHASE pgTWIN 0).disarm (tmKey tmPhase 0)).modTwin (fun t =>
      { t with joinFails := n, stepped := false, peer := none, rejoinCfg := false })
    if 3 ≤ n then ((c1.up R.TWIN_JOIN_FAIL pgTWIN 1).pulse pgTWIN 7).raise 0x89 0 else c1.arm (tmKey tmRejoin 0) dqS
  else if c.solo || (c.paired && c.on R.TWIN_PEER_DEBUG_HOLD pgTWIN) then
    ((c.up R.TWIN_JOIN_PHASE pgTWIN 0).disarm (tmKey tmPhase 0)).modTwin (fun t => { t with peer := none })
  else c

/-- Every port that still reports this twin's epoch is fenced (R351). -/
def Chip.fenceOld (c : Chip) : Chip :=
  foldc (upTo 192) (fun p c =>
    let t := c.port p
    if t.epochValid && t.linkUp && c.rd R.SP_SE_EPOCH (pgSP p) == t.epoch.toNat then
      (c.modPort p (fun t => { t with fencing := some (t.epoch + 1), admitting := false })).disarm (tmKey tmFence p)
    else c) (c.bump R.TWIN_CNT pgTWIN 3)

/-- The twin is declared lost (R349): PEER_LOST and a recovery window, which a notice extends (R354); a LEAD goes on as SOLO, a FOLLOW takes
over at once on a notice and otherwise waits, a joining twin starts again (R350, R351). A chip in SOLO that no twin joins stays as it is. -/
def Chip.twinLost (c : Chip) (notice : Bool) : Chip :=
  let st := c.rd R.TWIN_STATE pgTWIN
  let heard := st = 3 ∨ st = 2 ∨ (st = 1 ∧ (c.twin.peer.isSome ∨ notice))
  if !decide heard then c
  else
    let first := !c.twin.lost
    let c1 := if first then (((c.modTwin (fun t => { t with lost := true })).raise 0x84 0).pulse pgTWIN 0).openRecovery
      else if notice then c.openRecovery else c
    if c1.rd R.TWIN_STATE pgTWIN = 4 then c1
    else if st = 2 ∨ st = 1 then c1.joinFailed.modTwin (fun t => { t with lost := false })
    else if c1.rd R.TWIN_ROLE pgTWIN = 0 ∨ notice then c1.enterSolo.fenceAll
    else if first then (c1.modTwin (fun t => { t with takeover := true })).arm (tmKey tmTakeover 0) (c.rd R.TWIN_TAKEOVER_US pgTWIN * dqUs)
    else c1

/-- The FOLLOW is fenced by its twin (R351). -/
def Chip.fencedByPeer (c : Chip) : Chip := (c.enterFenced 2).raise 0x85 0

/-! Self-checks and disagreements (R169, R344 to R348). -/

/-- A self-check of an engine begins (R169). -/
def Chip.selfcheckStart (c : Chip) (e : Nat) : Chip :=
  if (c.eng e).up && !c.on R.CE_SELFTEST_BUSY (pgCE e) then c.up R.CE_SELFTEST_BUSY (pgCE e) 1 else c

/-- The digest's entry of a class-B law's output (R343). -/
def lawKey (i : Nat) : Nat := 1000 + i
/-- The digest's entry of a class-C result (R37, R343). -/
def resKey (i : Nat) : Nat := 100000 + i

/-- The laws whose output is among the differing items of a digest: those of the ports, and those named by key (R344). -/
def Chip.lawsOfKeys (c : Chip) (ks : List Nat) : List Nat :=
  ks.filterMap (fun k => if k < 192 then (c.portLaw k).map (·.1) else if lawKey 0 ≤ k ∧ k < resKey 0 ∧ k - lawKey 0 < 0x4000 then some (k - lawKey 0) else none)

/-- The laws whose class-B output feeds a law: the one it takes its reference from, or the SHARE_MPC of its section (R347). -/
def Chip.feeding (c : Chip) (i : Nat) : List Nat :=
  let d := (c.law i).desc
  let ls := if dRefSrc d = 1 then [dRefLaw d] else if dRefSrc d = 2 then (match c.shareLaw (dSection d) with | some (j, _) => [j] | none => []) else []
  ls.filter (fun j => (c.law j).bound && (dClass (c.law j).desc == 2))

/-- The LEAD sends the state of affected laws, and of what feeds them, at agreed ticks; the FOLLOW waits for it (R347). -/
def Chip.resync (c : Chip) (ls0 : List Nat) : Chip :=
  let ls := (ls0 ++ ls0.flatMap c.feeding).eraseDups
  let c1 := c.modTwin (fun t => { t with affected := t.affected ++ ls.filter (fun i => !t.affected.contains i) })
  if c.leads then foldc ls (fun i c => c.propose (.resync i)) c1 else c1

/-- RESOLVING ends once both twins have passed and nothing is left to resynchronise (R345). -/
def Chip.resolved (c : Chip) : Chip :=
  if c.on R.TWIN_RESOLVING pgTWIN && c.twin.ownPass == some true && c.twin.peerPass == some true && c.twin.affected == [] then
    (((c.up R.TWIN_RESOLVING pgTWIN 0).bump R.TWIN_CNT pgTWIN 2).pulse pgTWIN 2).modTwin (fun t => { t with ownPass := none, peerPass := none })
  else c

/-- The outcome of a resolution, once both results are known (R346). A twin that failed has raised ENGINE_SELFTEST and is FENCED. -/
def Chip.outcome (c : Chip) : Chip :=
  match c.twin.ownPass, c.twin.peerPass with
  | some true, some true => (c.resync c.twin.affected).resolved
  | some true, some false => c.twinLost true
  | some false, some _ => c
  | some _, none => c
  | none, _ => c

/-- A disagreement of tick `u` is noted: DIGEST_MISMATCH, the tick, and a recovery window (R344, R354, R367). -/
def Chip.mismatchNote (c : Chip) (u : Nat) : Chip :=
  (((c.raise 0x83 0).pulse pgTWIN 1).hw pgTWIN [(R.TWIN_LAST_MISMATCH_LO, 0, u % 2 ^ 32), (R.TWIN_LAST_MISMATCH_HI, 0, u / 2 ^ 32)]).openRecovery

/-- A disagreement of tick `u` (R344, R345, R348): RESOLVING, a self-check of every engine, a recovery window. A second one in
the window makes the FOLLOW leave the pair. -/
def Chip.disagree (c : Chip) (u : Nat) (ls : List Nat) : Chip :=
  let again := c.on R.TWIN_RECOVERING pgTWIN && c.twin.mismatchAt.isSome
  let c1 := c.mismatchNote u
  let c2 := (c1.swapAbort 0xC).settleFail.modTwin (fun t => { t with mismatchAt := some c.now })
  if again && c.rd R.TWIN_ROLE pgTWIN == 1 then c2.raise 0x8A 0
  else
    let es := (upTo 128).filter (fun e => (c2.eng e).up)
    let c3 := (c2.up R.TWIN_RESOLVING pgTWIN 1).modTwin (fun t => { t with selfTests := es, ownPass := none, peerPass := none, affected := ls })
    foldc es (fun e c => c.selfcheckStart e) c3

/-- 64 test vectors for each datapath (R169). -/
def vectorsFull (v : LaneOps) : Bool := v.macs.length == 64 && v.fmas.length == 64

/-- A self-check ends (R169, R184), once its 64 vectors have run through each datapath: it has read every line of tile memory and run its test vectors through the datapaths. SELFTEST_DONE,
and ENGINE_SELFTEST where it failed: where it met an error that cannot be corrected, or a residue that differed, DEDUCED (170). The last
of a resolution gives this twin's result (R345). The background scrubber goes on at line 0, as the self-check has read every line; the manual
does not say that a self-check moves it (DESIGN CHOICE, log 206). -/
def Chip.selfcheckDone (c0 : Chip) (e : Nat) (us : Upsets) (vectors : LaneOps) : Chip :=
  if !c0.on R.CE_SELFTEST_BUSY (pgCE e) || !vectorsFull vectors then c0
  else
    let cu := c0.upset e us
    let ws := (cu.eng e).flips.map (fun x => x.1)
    let (cv, bad) := (cu.readWords e ws).lanes e 3 vectors
    let pass := !(cu.eng e).doubleIn ws && !bad
    let c := cv
    let c1 := (((c.hw (pgCE e) [(R.CE_SELFTEST_BUSY, 0, 0), (R.CE_SELFTEST_FAIL, 0, b2n !pass)]).pulse (pgCE e) 5).modEng e
      (fun g => { g with scrub := 0 })).reHealth
    let c2 := if c.twin.selfTests.contains e then
        let left := c.twin.selfTests.filter (· != e)
        let bad := !pass || c.twin.ownPass == some false
        let c3 := c1.modTwin (fun t => { t with selfTests := left, ownPass := if bad then some false else if left == [] then some true else none })
        if left == [] then (c3.send (.chain (.outcome !bad))).outcome else c3
      else c1
    if pass then c2 else c2.raise 0x24 e

end Sys2Proof.Machine
end

