-- ==== Sys2Proof/Machine/Engines.lean ====
section
/-! DEFINITION. Engines.lean: task slots, dispatch and completion, the residue and ECC checks, cancels, self-checks and scrubbing
(R162 to R184), and the command slots of the ports (R111, R148). -/

namespace Sys2Proof.Machine

/-! Task slots. -/

/-- Class of a task slot: 1 A, 2 B, 3 C, 0 unused (R183). -/
def Chip.slotClass (c : Chip) (e s : Nat) : Nat := c.rd R.CE_CLASS (pgCE e) s
/-- LAW_REF of a task slot (R183). -/
def Chip.slotRef (c : Chip) (e s : Nat) : Nat := c.rd R.CE_LAW_REF (pgCE e) s

/-- The instance of a slot that is running. -/
def EngSt.running (g : EngSt) (s : Nat) : Option Run :=
  [g.runA, g.runB, g.runC].findSome? (fun r => match r with | some x => if x.slot = s then some x else none | none => none)

/-- A slot becomes ready at the present tick; a class-B or class-C slot whose instance waits or runs is merged (R170, R175), and
an event slot is noted for the count of overruns. A quiesced engine accepts no new class-C work (R15, R16). -/
def Chip.slotReady (c : Chip) (e s : Nat) : Chip :=
  let g := c.eng e
  let cls := c.slotClass e s
  let waits := g.ready.any (fun r => r.1 == s) || (g.running s).isSome
  if !g.up || cls == 0 || !c.on R.CE_ENABLE (pgCE e) s || (cls == 3 && c.on R.PG_QUIESCE (pgCE e)) then c
  else if cls != 1 && waits then (c.setEng e { g with again := s :: g.again.filter (· != s) }).bump R.CE_CNT (pgCE e) 6
  else c.setEng e { g with ready := g.ready ++ [(s, c.tick)] }

/-- The slot has become ready in the present tick. -/
def EngSt.readyAt (g : EngSt) (s t : Nat) : Bool :=
  g.ready.any (fun r => r == (s, t)) || (match g.running s with | some r => r.ready == t | none => false)

/-- A periodic slot becomes ready, once, at the start of the ticks that its PERIOD and OFFSET name (R170). -/
def taskReadyPeriodic (c : Chip) (e s : Nat) : Chip :=
  let per := c.rd R.CE_PERIOD (pgCE e) s
  if per ≠ 0 ∧ c.tick % per = c.rd R.CE_OFFSET (pgCE e) s % per ∧ (c.eng e).readyAt s c.tick = false then c.slotReady e s else c

/-- Kernel cycles of the task in a slot (R196, R287). -/
def Chip.slotCost (c : Chip) (e s : Nat) : Nat :=
  let ref := c.slotRef e s
  if ref < 0x4000 then lawCost (c.law ref).desc else if ref < 0x8000 then 0 else 40

/-- A class-B or class-C instance with a residue mismatch is discarded and waits to run once more; a second one in the slot within
1 ms raises ENGINE_RESIDUE (R168). -/
def Chip.residueRetry (c : Chip) (e s ready : Nat) : Chip :=
  let g := c.eng e
  let twice := g.residueAt.any (fun r => r.1 == s && decide (c.now ≤ r.2 + dqMs))
  let c2 := c.modEng e (fun g => { g with
    residueAt := (s, c.now) :: g.residueAt.filter (fun r => r.1 != s)
    ready := if twice then g.ready else (s, ready) :: g.ready })
  if twice then c2.raise 0x22 e else c2.raise 0x23 e

/-- Runs the law or SHARE_MPC that a slot names on the inputs of its ready tick; at its first boundary after an agreed tick a law that
was changed or left out of its set is bound anew or unbound (R187, R193). A boundary that changes the channels of a kept law changes its
engine's streams (R30). -/
def Chip.runRef (c : Chip) (e s ready : Nat) : Chip :=
  let ref := c.slotRef e s
  if ref < 0x4000 then
    let l := c.law ref
    if !l.bound then c
    else if l.unbind && decide (l.startTick < ready) then
      (if l.next.isSome then c.rebindLaw ref else (c.unbindLaw ref).reLoad l.engine)
    else if dType l.desc = 0x10 then c.shareRun ref ready
    else
      let c1 := c.lawRun ref ready
      if lawChans (c1.law ref).desc = lawChans l.desc then c1 else c1.reLoad l.engine
  else c

/-- Dispatches a ready instance (R172): its task cycles are counted (R508) and its first words and operations are checked (R165, R167). A
class-A law is evaluated; that of another class is when its instance completes. -/
def Chip.dispatch (c : Chip) (e cls : Nat) (r : Nat × Nat) (k : EngCheck) : Chip :=
  let s := r.1
  let g := c.eng e
  let run : Run := { slot := s, ready := r.2, start := c.tick, late := g.lateA.contains r }
  let g1 := { g with ready := g.ready.erase r, lateA := g.lateA.erase r }
  let thr := c.rd R.THM_STEP pgTHM
  let c0 := c.setEng e (if cls = 1 then { g1 with runA := some run, degraded := false } else if cls = 2 then { g1 with runB := some run }
    else { g1 with runC := some run, lastC := s })
  let c1 := ((c0.pmcEvent (pgCE e) (0xFF + cls) (c.slotCost e s)).pmcEvent (pgCE e) 0x104).pmcEvent (pgCE e) 0x103
    (if cls = 3 ∧ 1 ≤ thr then 2 ^ (thr + 2) - 1 else 0)
  let (c2, bad) := ((c1.upset e k.upsets).readWords e k.reads).lanes e (cls - 1) k.ops
  if cls = 1 then (c2.modEng e (fun g => { g with degraded := bad })).runRef e s r.2
  else if bad then
    (c2.modEng e (fun g => if cls = 2 then { g with runB := none } else { g with runC := none })).residueRetry e s r.2
  else c2

/-- The lowest ready slot of a class. -/
def Chip.lowestReady (c : Chip) (e cls : Nat) : Option (Nat × Nat) :=
  let rs := (c.eng e).ready.filter (fun r => c.slotClass e r.1 == cls)
  (upTo 64).findSome? (fun s => rs.find? (fun r => r.1 == s))

/-- The next class-C slot after the one served last, round-robin (R172). -/
def Chip.nextC (c : Chip) (e : Nat) : Option (Nat × Nat) :=
  let g := c.eng e
  let rs := g.ready.filter (fun r => c.slotClass e r.1 == 3)
  ((upTo 64).map (fun k => (g.lastC + 1 + k) % 64)).findSome? (fun s => rs.find? (fun r => r.1 == s))

/-- An engine dispatches: class A pre-empts B and C, class B pre-empts C (R172); class C is shed at throttle step 9 (R436). -/
def taskDispatch (c : Chip) (e : Nat) (k : EngCheck) : Chip :=
  let g := c.eng e
  if !g.up || g.runA.isSome then c
  else match c.lowestReady e 1 with
    | some r => c.dispatch e 1 r k
    | none =>
      if g.runB.isSome then c
      else match c.lowestReady e 2 with
        | some r => c.dispatch e 2 r k
        | none =>
          if g.runC.isSome || c.rd R.THM_STEP pgTHM == 9 then c
          else match c.nextC e with
            | some r => c.dispatch e 3 r k
            | none => c

/-- A class-B instance that completes after the slot's next ready instant (R175): that of its period, or an event's; a feeder's thermal
model is then late (R297). -/
def Chip.lateB (c0 : Chip) (e : Nat) (r : Run) : Chip :=
  let per := c0.rd R.CE_PERIOD (pgCE e) r.slot
  let again := (c0.eng e).again.contains r.slot
  let c := if again then c0.modEng e (fun g => { g with again := g.again.filter (· != r.slot) }) else c0
  if (if per = 0 then again else decide (r.ready + per ≤ c.tick)) then
    let c1 := (c.bump R.CE_CNT (pgCE e) 5).pulse (pgCE e) 4
    let ref := c.slotRef e r.slot
    if 0x8000 ≤ ref then
      let p := ref - 0x8000
      c1.raise 0x26 p
    else c1
  else c

/-- Entries of the digests of the last 64 ticks (R343). -/
def Chip.ownAdd (c : Chip) (key : Nat) (body : Bytes) : Chip :=
  c.modTwin (fun t => { t with own := (c.tick, key, body) :: t.own.filter (fun x => decide (c.tick < x.1 + 64)) })

/-- The result of a completed instance is used (R111, R172, R195). -/
def Chip.useRef (c : Chip) (e s cls : Nat) (degraded : Bool) : Chip :=
  let ref := c.slotRef e s
  if ref < 0x4000 ∧ (c.law ref).bound then
    let c1 := c.lawUse ref degraded
    if cls = 2 then
      c1.ownAdd (lawKey ref) (leBytes (c1.law ref).uOut.toNat 4 ++ (c1.law ref).refs.flatMap (fun r => leBytes r.1 4 ++ leBytes r.2.toNat 4))
    else c1
  else c

/-- Discards a law's output that was computed and is not used (R174). -/
def Chip.discardRef (c : Chip) (e : Nat) (r : Run) : Chip :=
  let ref := c.slotRef e r.slot
  if ref < 0x4000 ∧ (c.law ref).bound then c.modLaw ref (fun l => { l with pending := none }) else c

/-- ENGINE_RESIDUE of a class-A mismatch is raised (R168). -/
def Chip.residueRaise (c : Chip) (e : Nat) : Chip :=
  if (c.eng e).residueDue.isSome then (c.modEng e (fun g => { g with residueDue := none })).raise 0x22 e else c

/-- The running instance of the highest class completes (R172): its result is used, or discarded after a residue mismatch or an
overrun (R168, R174). The fault of a class-A mismatch follows the command that is built from it, DEDUCED (171). -/
def taskComplete (c0 : Chip) (e : Nat) (ops : LaneOps) : Chip :=
  let cls := if (c0.eng e).runA.isSome then 0 else if (c0.eng e).runB.isSome then 1 else 2
  let (c, residue) := if cls = 2 && (c0.eng e).runC.isNone then (c0, false) else c0.lanes e cls ops
  let g := c.eng e
  match g.runA, g.runB, g.runC with
  | some r, _, _ =>
    let bad := g.degraded || residue
    let c1 := c.setEng e { g with runA := none, degraded := false, residueDue := if bad then some c.tick else g.residueDue }
    if r.late then c1.discardRef e r else c1.useRef e r.slot 1 bad
  | none, some r, _ =>
    let c1 := c.setEng e { g with runB := none }
    if residue then c1.residueRetry e r.slot r.ready else ((c1.runRef e r.slot r.ready).useRef e r.slot 2 false).lateB e r
  | none, none, some r =>
    let c1 := c.setEng e { g with runC := none }
    if residue then c1.residueRetry e r.slot r.ready else (c1.runRef e r.slot r.ready).useRef e r.slot 3 false
  | none, none, none => c

/-- The port of a law repeats its last command, DEGRADED (R174): the one that waits to be sent, or the last one sent, in the command slot
that the overrun instance would have used, from the tick after its ready tick on (R111). -/
def Chip.repeatDegraded (c : Chip) (ref ready : Nat) : Chip :=
  let d := (c.law ref).desc
  if ref < 0x4000 ∧ (c.law ref).bound ∧ dHasPort d then
    c.modPort (dPort d) (fun t => { t with cmdNew := some { t.cmdNew.getD t.cmd with degraded := true }, cmdTick := ready })
  else c

/-- One class-A task has overrun (R174): its port repeats the last command, DEGRADED. -/
def Chip.overrunA (c : Chip) (e s ready : Nat) : Chip :=
  (((c.bump R.CE_CNT (pgCE e) 4).pulse (pgCE e) 3).repeatDegraded (c.slotRef e s) ready).raise 0x25 e

/-- The class-A tasks of an engine that have not completed by the end of their tick overrun, whether they run or still wait (R174). -/
def classAOverrun (c : Chip) (e : Nat) : Chip :=
  let g := c.eng e
  let waits := g.ready.filter (fun r => c.slotClass e r.1 == 1 && decide (r.2 < c.tick) && !g.lateA.contains r)
  let runs := match g.runA with | some r => if r.late || decide (c.tick ≤ r.ready) then [] else [(r.slot, r.ready)] | none => []
  let c1 := if runs = [] then c else c.modEng e (fun g => { g with runA := g.runA.map (fun r => { r with late := true }) })
  let c2 := if waits = [] then c1 else c1.modEng e (fun g => { g with lateA := g.lateA ++ waits })
  foldc (runs ++ waits) (fun r c => c.overrunA e r.1 r.2) c2

/-- Withdraws the waiting instances of the slots that a mask names; class-A slots ignore it (R176). -/
def Chip.cancelSlots (c : Chip) (e base mask : Nat) : Chip :=
  foldc (upTo 32) (fun b c =>
    let s := base + b
    let waits := ((c.eng e).ready.filter (fun r => r.1 == s)).length
    if bitOf mask b && c.slotClass e s != 1 && waits != 0 then
      (c.modEng e (fun g => { g with ready := g.ready.filter (fun r => r.1 != s) })).bump R.CE_CNT (pgCE e) 3 waits
    else c) c

/-- Sets ready the event slots that a mask names (R170): those whose PERIOD is 0. The bit of a periodic slot does nothing, DESIGN CHOICE
(172). -/
def Chip.eventSlots (c : Chip) (e base mask : Nat) : Chip :=
  foldc (upTo 32) (fun b c =>
    if bitOf mask b && c.rd R.CE_PERIOD (pgCE e) (base + b) == 0 then c.slotReady e (base + b) else c) c

/-- Event triggers: class C at once, class B at a tick the twins agree (R170, R171). -/
def Chip.doorbell (c : Chip) (e : Nat) (hi : Bool) (mask : Nat) : Chip :=
  let base := if hi then 32 else 0
  let isB (b : Nat) : Bool := c.slotClass e (base + b) == 2
  let mB := ((upTo 32).filter (fun b => bitOf mask b && isB b)).foldl (fun m b => m + 2 ^ b) 0
  let c1 := c.eventSlots e base (mask - mB)
  if mB = 0 then c1 else c1.propose (.events ⟨e % 128, Nat.mod_lt _ (by decide)⟩ hi (BitVec.ofNat 32 mB))

/-- The scrubber reads and rewrites the next of the 4,096 lines of tile memory, eight words (R165, R166). -/
def scrubLine (c : Chip) (e : Nat) (us : Upsets) : Chip :=
  let n := (c.eng e).scrub
  if (c.eng e).up then
    ((c.upset e us).readWords e ((upTo 8).map (fun k => 8 * n + k))).modEng e (fun g => { g with scrub := (n + 1) % 4096 })
  else c

/-! Command slots (R111, R148). -/

/-- Why a port's CMD frames carry DEGRADED beside their law (R169, R345, R347, R364, R365). -/
def Chip.portDegraded (c : Chip) (p : Nat) : Bool :=
  c.held || c.on R.TWIN_RESOLVING pgTWIN || (c.rd R.TWIN_STATE pgTWIN == 2 && c.twin.rejoinCfg)
  || (match c.portLaw p with
      | some (i, l) => c.on R.CE_SELFTEST_BUSY (pgCE l.engine)
        || (!c.leadRole && (c.twin.affected.contains i || (c.feeding i).any (fun j => c.twin.affected.contains j)))
      | none => false)

/-- In a port's command slot the port group sends a command computed in an earlier tick, or repeats the last, with an apply tick two
ticks on (R28, R111, R148, R352); a member whose MODE changes, or that joins or leaves by it, triggers Felting (R236). A port that holds a latched FAST_TRIP receives MODE STOP (R290). -/
def cmdSlot (c : Chip) (p : Nat) : Chip :=
  let t := c.port p
  if !c.cmdDue p then c
  else
    let x := c.tick + 2
    let fresh := t.cmdNew.isSome && t.cmdTick != c.tick
    let rest := if fresh then none else t.cmdNew
    let base0 := if fresh then t.cmdNew.getD t.cmd else t.cmd
    let base : Cmd := if t.fastTrip && passMode base0.mode then { base0 with mode := 0 } else base0
    let k : Cmd := { base with epoch := t.epoch, seq := BitVec.ofNat 16 c.tick, applyTick := BitVec.ofNat 16 x, lead := c.hdrLead p, ewarn := c.ewarnOf p }
    let missed := base.degraded && (match c.portLaw p with | some (_, l) => l.degraded | none => false)
    let swapped := (t.cmd.mode == 1 && k.mode == 2) || (t.cmd.mode == 2 && k.mode == 1)
    let felt (c' : Chip) : Chip := if swapped && c'.feltSec p == c.feltSec p then c'.feltPoke (c.feltSec p) else c'.feltJudge p (c.feltSec p)
    let c1 := c.modTwin (fun w => { w with explained := (if missed then [(c.tick, p)] else []) ++ w.explained.filter (fun x => decide (c.tick < x.1 + 64)) })
    let c2 := c1.ownAdd p (leBytes p 2 ++ cmdBody k)
    let st : Option Nat := if k.mode = 0 then some (t.stopSince.getD x) else none
    let c3 := c2.setPort p { t with cmd := k, cmdNew := rest, modePrev := t.cmd.mode, lastApply := x, sentCmd := true, stopSince := st }
    if c.joinerSends p then
      let c4 := (c3.sendSe p 2 (cmdBody k) (base.degraded || c.portDegraded p)).pmcEvent (pgSP p) 0x101
      match c.portLaw p with
      | some (_, l) => felt (if base.degraded then c4.residueRaise l.engine else c4)
      | none => felt c4
    else felt (c3.modPort p (fun q => { q with sentCmd := t.sentCmd }))

/-! Meanings of the rows. -/

/-- TASK_READY_PERIODIC (R170): A periodic task slot becomes ready at the start of each tick matching its PERIOD and OFFSET. -/
def execTaskReadyPeriodic (engine : Engine) (slot : TSlot) (s : State) : Result :=
  .next (s.onChip (fun c => taskReadyPeriodic c engine.val slot.val))

/-- TASK_DISPATCH (R172): An engine dispatches the ready slot chosen by class pre-emption and slot order. -/
def execTaskDispatch (engine : Engine) (chk : EngCheck) (s : State) : Result :=
  .next (s.onChip (fun c => taskDispatch c engine.val chk))

/-- TASK_COMPLETE (R172): A task instance completes and its result is used or discarded. -/
def execTaskComplete (engine : Engine) (ops : LaneOps) (s : State) : Result :=
  .next (s.onChip (fun c => taskComplete c engine.val ops))

/-- CLASS_A_OVERRUN (R174): A class-A task not done by the end of its tick leads to a repeated DEGRADED command and CLASS_A_OVERRUN.
-/
def execClassAOverrun (engine : Engine) (s : State) : Result :=
  .next (s.onChip (fun c => classAOverrun c engine.val))

/-- CMD_SLOT (R111): In a port's command slot the port group sends the new CMD frame or repeats the last one. -/
def execCmdSlot (port : Port) (s : State) : Result :=
  .next (s.onChip (fun c => cmdSlot c port.val))

/-- SCRUB_LINE (R166): The scrubber reads and rewrites one tile memory line every 1,024 engine cycles. -/
def execScrubLine (line : ScrubRead) (s : State) : Result :=
  .next (s.onChip (fun c => scrubLine c line.engine.val line.upsets))

end Sys2Proof.Machine
end

