-- ==== Sys2Proof/Machine/Phase.lean ====
section
/-! DEFINITION. Phase.lean: phase supervision beside the updates of the laws: hiccups, clears, the crowbar and telemetry (R216 to
R226). -/

namespace Sys2Proof.Machine

/-- The off time of a hiccup has elapsed: the phase starts again (R216). -/
def hiccupEnd (c : Chip) (p : Nat) : Chip :=
  if c.due (tmKey tmHiccup p) && c.ph p == 3 then (c.disarm (tmKey tmHiccup p)).phStart p else c

/-- The phase has stayed in RUN for 1 s: HIC_COUNT clears (R218). -/
def hicCountClear (c : Chip) (p : Nat) : Chip :=
  if c.due (tmKey tmHicClear p) && c.ph p == 2 then
    let c1 := c.disarm (tmKey tmHicClear p)
    if c1.rd R.SP_HIC_COUNT (pgSP p) = 0 then c1 else c1.up R.SP_HIC_COUNT (pgSP p) 0
  else c

/-- A request of a port writes SE_CLEAR. -/
def CfgReq.isClear (q : CfgReq) : Bool := q.op == 2 && q.addr == 1

/-- A clear of the stage end's latches waits, or its answer is awaited. -/
def PortSt.clearing (t : PortSt) : Bool := t.cfgQ.any CfgReq.isClear || (match t.req with | some q => q.isClear | none => false)

/-- Sends SE_CLEAR.CROWBAR or SE_CLEAR.TRIP where one is due and a command with MODE STOP has been applied (R154, R222, R291). -/
def Chip.sendClear (c : Chip) (p : Nat) : Chip :=
  let t := c.port p
  let stopped := t.sentCmd && t.cmd.mode == 0 && t.cmdNew.isNone && decide (t.lastApply < c.tick)
  let crow := t.clearReq && !c.armed (tmKey tmCrowbar p)
  let trip := (c.fd p).clearWait && !c.armed (tmKey tmFdClear p)
  if stopped && c.portLeads p && !t.clearing && (crow || trip) then
    c.pushReq p (cfgWrite 1 1 (b2n trip + 2 * b2n crow) 0)
  else c

/-- PH_CTRL.CLEAR is written (R216, R222): LATCHED starts again; in CROWBAR the stage end's latch is cleared first. -/
def Chip.phClear (c : Chip) (p : Nat) : Chip :=
  if c.ph p = 4 then c.phStart p
  else if c.ph p = 5 then (c.modPort p (fun t => { t with clearReq := true })).sendClear p
  else c

/-- The stage end no longer reports a crowbar whose clear was asked for: the phase starts again (R216). -/
def Chip.crowbarGone (c : Chip) (p : Nat) : Chip :=
  if c.ph p = 5 ∧ (c.port p).clearReq ∧ !(c.port p).crowbar then
    (c.disarm (tmKey tmCrowbar p)).phStart p
  else c

/-- 100 us after the clear (R222): a crowbar still reported sets CLEAR_FAIL, and the phase stays. -/
def crowbarClearCheck (c : Chip) (p : Nat) : Chip :=
  if c.due (tmKey tmCrowbar p) then
    let c1 := c.disarm (tmKey tmCrowbar p)
    if (c1.port p).crowbar then (c1.modPort p (fun t => { t with clearReq := false })).up R.SP_CLEAR_FAIL (pgSP p) 1
    else c1.crowbarGone p
  else c

/-- A free value as a binary32 pattern. -/
def Chip.freeF (c : Chip) : F32 × Chip := let (v, c1) := c.free; (BitVec.ofNat 32 v, c1)

/-- The descriptor by which a port's telemetry goes: its law's, or that of the law last bound (R226). None until a law has been bound,
DESIGN CHOICE (177). -/
def Chip.tlmOf (c : Chip) (p : Nat) : Option Bytes :=
  match c.portLaw p with
  | some (_, l) => some l.desc
  | none => if (c.port p).tlmDesc = [] then none else some (c.port p).tlmDesc

/-- The telemetry registers are replaced together (R224). The temperature of a stage without a sensor is a value the manual does not
state. -/
def Chip.tlmPut (c : Chip) (p : Nat) (d : Bytes) (v i w : F32) (n : Nat) : Chip :=
  let (f, c1) := c.freeF
  let tmp := (c.stageTemp p (dTTrip d)).getD f
  c1.hw (pgSP p) [(R.SP_TLM_V, 0, v.toNat), (R.SP_TLM_I, 0, i.toNat), (R.SP_TLM_P, 0, w.toNat), (R.SP_TLM_T, 0, tmp.toNat), (R.SP_TLM_N, 0, n)]

/-- The end of a telemetry window (R224): the means replace the last ones together. It is reached when every frame of the window's last
tick has come or been given up under R31, two ticks after the next window has begun, DESIGN CHOICE (212). A mean over no sample is a value
the manual does not state. -/
def telemetryWindowEnd (c : Chip) (p : Nat) : Chip :=
  match c.tlmOf p with
  | none => c
  | some d =>
    let w := 20 * dTlmWin d
    if w = 0 ∨ c.tick < w + 2 ∨ (c.tick - 2) % w ≠ 0 ∨ (c.armed (tmKey tmTlm p) ∧ !c.due (tmKey tmTlm p)) then c
    else
      let t := c.port p
      let q := mapGet t.tlm (c.tick - 2 - w) {}
      let n := fOfNat q.n
      let (f1, c1) := c.freeF
      let (f2, c2) := c1.freeF
      let (f3, c3) := c2.freeF
      let m (f s : F32) : F32 := if q.n = 0 then f else fdiv s n
      let c4 := c3.setPort p { t with
        tlm := t.tlm.filter (fun e => decide (c.tick - 2 ≤ e.1))
        vinMean := if q.vinN = 0 then t.vinMean else some (fdiv q.vin (fOfNat q.vinN))
        uMean := if q.uN = 0 then t.uMean else some (fdiv q.u (fOfNat q.uN)) }
      (c4.tlmPut p d (m f1 q.v) (m f2 q.i) (m f3 q.p) q.n).arm (tmKey tmTlm p) dqTick

/-- A window's sums with one sample tick more: voltage and current where both are valid, input voltage, law output (R224, R234). -/
def TlmSum.add (q : TlmSum) (vi : Option (F32 × F32)) (vin u : Option F32) : TlmSum :=
  let q1 : TlmSum := match vi with | some (v, i) => { q with v := fadd q.v v, i := fadd q.i i, p := ffma v i q.p, n := q.n + 1 } | none => q
  let q2 : TlmSum := match vin with | some x => { q1 with vin := fadd q1.vin x, vinN := q1.vinN + 1 } | none => q1
  match u with | some x => { q2 with u := fadd q2.u x, uN := q2.uN + 1 } | none => q2

/-- The samples of a tick enter the sums of the window in which that tick lies (R224), with those of the means that Felting uses (R234);
with no window they are the telemetry. -/
def Chip.tlmAdd (c : Chip) (p t : Nat) (d : Bytes) (smp : Nat → Sample) : Chip :=
  let x (ch : Nat) : F32 := c.calPhys p ch (smp ch).int
  let v := x (dTlmV d)
  let i := x (dTlmI d)
  let vi := if (smp (dTlmV d)).clean && (smp (dTlmI d)).clean then some (v, i) else none
  let vin := if (smp (dChVin d)).clean then some (x (dChVin d)) else none
  let u := match c.portLaw p with | some (_, l) => some l.uOut | none => none
  let w := 20 * dTlmWin d
  if w = 0 then
    let c1 := c.modPort p (fun q => { q with vinMean := vin.or q.vinMean, uMean := u.or q.uMean })
    if vi.isSome then c1.tlmPut p d v i (fmul v i) 1 else c1
  else c.modPort p (fun q => { q with tlm := mapMod q.tlm (t / w * w) {} (fun s => s.add vi vin u) })

/-- The samples of a tick add to a port's telemetry and peaks (R215, R224 to R226), in whatever order the ticks come. -/
def Chip.telemetry (c : Chip) (p t : Nat) (smp : Nat → Sample) : Chip :=
  match c.tlmOf p with
  | none => c
  | some d =>
    let sv := smp (dTlmV d)
    let si := smp (dTlmI d)
    let v := c.calPhys p (dTlmV d) sv.int
    let i := c.calPhys p (dTlmI d) si.int
    let c1 := c.tlmAdd p t d smp
    let pk (f : Fld) (x : F32) (c : Chip) : Chip := if flt (c.rdF f (pgSP p)) (fabs x) then c.up f (pgSP p) (fabs x).toNat else c
    let atFs (f : Fld) (ch bit : Nat) (c : Chip) : Chip :=
      (c.up f (pgSP p) (c.calFs p ch).toNat).up R.SP_PK_FLAGS (pgSP p) (c.rd R.SP_PK_FLAGS (pgSP p) ||| bit)
    let c2 := if sv.ovr then atFs R.SP_PK_V (dTlmV d) 1 c1 else pk R.SP_PK_V v c1
    let c3 := if si.ovr then atFs R.SP_PK_I (dTlmI d) 2 c2 else pk R.SP_PK_I i c2
    if sv.ovr || si.ovr then c3 else pk R.SP_PK_P (fmul v i) c3

/-- DERATED follows the stage temperature; reaching a factor of 0 raises PHASE_OVERTEMP (R223). -/
def Chip.derateJudge (c : Chip) (p : Nat) : Chip :=
  match c.portLaw p with
  | none => c
  | some (_, l) =>
    let z := feq (c.derate p l.desc) fZero
    if c.on R.SP_DERATED (pgSP p) == z then c
    else
      let c1 := c.up R.SP_DERATED (pgSP p) (b2n z)
      if z then c1.raise 0x44 p else c1

/-! Meanings of the rows. -/

/-- HICCUP_END (R216): HIC_OFF_MS after a hiccup the phase re-enters SOFT_START. -/
def execHiccupEnd (port : Port) (s : State) : Result :=
  .next (s.onChip (fun c => hiccupEnd c port.val))

/-- HIC_COUNT_CLEAR (R218): HIC_COUNT clears once the phase has stayed in RUN for 1 s. -/
def execHicCountClear (port : Port) (s : State) : Result :=
  .next (s.onChip (fun c => hicCountClear c port.val))

/-- CROWBAR_CLEAR_CHECK (R222): 100 us after a crowbar clear a still-latched CROWBAR sets CLEAR_FAIL. -/
def execCrowbarClearCheck (port : Port) (s : State) : Result :=
  .next (s.onChip (fun c => crowbarClearCheck c port.val))

/-- TELEMETRY_WINDOW_END (R224): At each window end the telemetry registers are replaced together and PG_SEQ increments once. -/
def execTelemetryWindowEnd (port : Port) (s : State) : Result :=
  .next (s.onChip (fun c => telemetryWindowEnd c port.val))

end Sys2Proof.Machine
end

