-- ==== Sys2Proof/Machine/Felt.lean ====
section
/-! DEFINITION. Felt.lean: Felting: which members there are, the offsets chosen for them, and their movement (R233 to R242). -/

namespace Sys2Proof.Machine

/-- A member in a solution: port, present offset if it has one, peak-to-peak ripple current and duty (R233, R234). -/
structure FeltMem where
  p : Nat
  phi : Option Nat
  ipp : F32
  duty : F32
  slope : F32
deriving DecidableEq, Repr

/-- A port as a member of its section's solution; before a window has ended the latest values stand for its means, DESIGN CHOICE
(177). -/
def Chip.feltMem (c : Chip) (s p : Nat) : FeltMem :=
  match c.portLaw p with
  | none => ⟨p, none, fZero, fZero, fZero⟩
  | some (_, l) =>
    let d := l.desc
    let boost := (dType d == 6 || dType d == 7) && bitOf (leAt d 76 1) 0
    let t := c.port p
    let vin := t.vinMean.getD (c.smpPhys p (dChVin d))
    let u := t.uMean.getD l.uOut
    let vout := c.rdF R.SP_TLM_V (pgSP p)
    let ind := c.lawInd p d
    let tsw := fRat (dPeriod d) dqS
    let v := if boost then vin else fsub vin vout
    let old := (c.sec s).members.contains p
    ⟨p, if old then some (c.rd R.SP_PHI (pgSP p)) else none, fdiv (fmul (fmul v u) tsw) ind, u, slopeOn boost vin vout ind⟩

/-- The members of a section by carrier group: each period with its members, in ascending port number (R233). -/
def Chip.feltGroups (c : Chip) (s : Nat) : List (Nat × List FeltMem) :=
  let ms := (upTo 192).filter (fun p => c.feltMember p && c.portSec p == some s)
  let per (p : Nat) : Nat := match c.portLaw p with | some (_, l) => dPeriod l.desc | none => 0
  ((ms.map per).eraseDups).map (fun q => (q, (ms.filter (fun p => per p == q)).map (c.feltMem s)))

/-- The offset of member `k` for a spread (R234). -/
def feltTheta (per anchor sp k : Nat) : Nat := (anchor + k * sp) % per

/-- The anchor of a group: the present offset of member 0 (R234). -/
def feltAnchor (ms : List FeltMem) : Nat := match ms with | m :: _ => m.phi.getD 0 | [] => 0

/-- Total movement of a spread; joining members do not count (R235). -/
def feltMove (per sp : Nat) (ms : List FeltMem) : Nat :=
  (((List.range ms.length).zip ms).map (fun e => match e.2.phi with
    | some f => (wrapDelta per (feltTheta per (feltAnchor ms) sp e.1) f).natAbs
    | none => 0)).sum

/-- Benchmark's impedance points of a section that are less than 1 h old (R328). -/
def Chip.zFresh (c : Chip) (s : Nat) : List (F32 × F32 × Nat) := (c.sec s).zUse.filter (fun z => decide ((c.tick - z.2.2) * dqTick < 3600 * dqS))

/-- Benchmark holds no impedance for the section: no recent point, or no fit; every |z_h| is then 1 (R234, R328). -/
def Chip.flatZ (c : Chip) (s : Nat) : Bool := (c.zFresh s).isEmpty || !fPos (c.rdF R.BMK_Z_RES_HZ pgBMK s)

/-- |z| of a section at a frequency: the accepted point there if it is recent, and the fit otherwise (R328). -/
def Chip.zAbs (c : Chip) (s : Nat) (f : F32) : F32 :=
  if c.flatZ s then fOne
  else match (c.zFresh s).find? (fun z => feq z.1 f) with
    | some z => z.2.1
    | none =>
      let f0 := c.rdF R.BMK_Z_RES_HZ pgBMK s
      let qf := c.rdF R.BMK_Z_Q pgBMK s
      let x := fsub (fdiv f f0) (fdiv f0 f)
      fdiv (c.rdF R.BMK_Z_PK pgBMK s) (fsqrt (ffma (fmul qf qf) (fmul x x) fOne))

/-- a_kh of a member at a harmonic (R234). -/
def feltA (h : Nat) (m : FeltMem) : F32 :=
  fdiv (fmul m.ipp (fabs (fsin (fmul fPi (fmul (fOfNat h) m.duty)))))
    (fmul (fmul (fmul fPi fPi) (fOfNat (h * h))) (fmul m.duty (fsub fOne m.duty)))

/-- The score J of a spread (R234): for each harmonic |z_h| squared times the squared magnitude of the members' phasor sum. -/
def Chip.feltScore (c : Chip) (s per sp : Nat) (ms : List FeltMem) : F32 :=
  let tsw := fRat per dqS
  let term (h : Nat) : F32 :=
    let z := c.zAbs s (fdiv (fOfNat h) tsw)
    let ang (k : Nat) : F32 := fmul (fmul (fOfNat 2) fPi) (fRat (h * k * sp) per)
    let es := (List.range ms.length).zip ms
    let re := fsum (es.map (fun e => fmul (feltA h e.2) (fcos (ang e.1))))
    let im := fsum (es.map (fun e => fmul (feltA h e.2) (fsin (ang e.1))))
    fmul (fmul z z) (ffma re re (fmul im im))
  fsum ((List.range (c.rd R.FELT_HARM pgFELT s + 1)).map (fun k => term (k + 1)))

/-- `a ÷ b` to the nearest integer. -/
def nearest (a b : Nat) : Nat := if b = 0 then 0 else (2 * a + b) / (2 * b)

/-- The candidates of R235: spread and grid number j, 0 for the even ones. -/
def feltCands (per n harm : Nat) : List (Nat × Nat) :=
  (List.range 255).map (fun k => (nearest ((k + 1) * per) 256, k + 1)) ++ (List.range harm).map (fun m => (nearest per (n * (m + 1)), 0))

/-- The spread, grid number and score chosen for a group (R235). -/
def Chip.feltChoose (c : Chip) (s per : Nat) (ms : List FeltMem) : Nat × Nat × F32 :=
  if !c.on R.FELT_MODE pgFELT s then
    let sp := nearest per ms.length
    (sp, 0, c.feltScore s per sp ms)
  else
    let cs := (feltCands per ms.length (c.rd R.FELT_HARM pgFELT s + 1)).map (fun e => (e.1, e.2, c.feltScore s per e.1 ms))
    let jMin := (cs.map (fun e => e.2.2)).foldl fmin (fInf false)
    let lim := fmul jMin (fadd fOne (fRat (c.rd R.FELT_TIE_TOL pgFELT s) 1000))
    let ok := cs.filter (fun e => fle e.2.2 lim)
    let better (a b : Nat × Nat × F32) : Bool :=
      let ma := feltMove per a.1 ms
      let mb := feltMove per b.1 ms
      decide (ma < mb) || (ma == mb && decide (a.1 < b.1))
    (if ok.isEmpty then cs else ok).foldl (fun (b a : Nat × Nat × F32) => if better a b then a else b) ((ok.head?).getD ((cs.head?).getD (0, 0, fZero)))

/-- The target offsets of a group: a single member keeps its offset (R233). -/
def feltTargets (per sp : Nat) (ms : List FeltMem) : List (FeltMem × Nat) :=
  if ms.length = 1 then ms.map (fun m => (m, m.phi.getD 0))
  else ((List.range ms.length).zip ms).map (fun e => (e.2, feltTheta per (feltAnchor ms) sp e.1))

/-- One member takes its target: at once where it joins, else by its own movement, which stands while a limit is 0 (R237). A member that
moves and whose new way is 0 long has limits of 0 and holds where it is (R209). -/
def Chip.feltAim (c : Chip) (per maxD : Nat) (frozen : Bool) (m : FeltMem) (tgt : Nat) : Chip :=
  let b := pgSP m.p
  let c1 := if c.rd R.SP_PHI_TGT b = tgt then c else c.up R.SP_PHI_TGT b tgt
  match m.phi with
  | none =>
    (if c1.rd R.SP_PHI b = tgt then c1 else c1.up R.SP_PHI b tgt).modPort m.p (fun t =>
      { t with phiR := fOfNat tgt, phiV := 0, phiA := 0, moving := false })
  | some f =>
    let dl := (wrapDelta per tgt f).natAbs
    if dl = 0 then c1.modPort m.p (fun t => { t with phiV := 0, phiA := 0, moving := false })
    else c1.modPort m.p (fun t => { t with
      phiR := if t.moving then t.phiR else fOfNat f
      phiV := if t.moving && !frozen then t.phiV else 0
      phiA := if t.moving && !frozen then t.phiA else 0
      phiScale := if maxD = 0 then fOne else fRat dl maxD
      moving := true })

/-- dq per ms as a ratio of time: 125 ps in 1 ms. -/
def dqPerMs : F32 := fRat 125 1000000000

/-- The factor on all limits of a slew about to start, by the bus deviation that its movements would cause (R238). -/
def Chip.slewScale (c : Chip) (s : Nat) : F32 :=
  let vel0 := fOfNat (c.rd R.FELT_FS_VEL pgFELT s)
  let vel := if c.on R.FELT_RATE_HALVED pgFELT s then fmul vel0 (fRat 1 2) else vel0
  let ps := (c.sec s).members.filter (fun p => (c.port p).moving)
  let per (p : Nat) : Nat := match c.portLaw p with | some (_, l) => dPeriod l.desc | none => 0
  let pred := fmul (c.rdF R.FELT_FS_ZPK pgFELT s) (fsum (ps.map (fun p =>
    fmul (fmul (c.feltMem s p).slope (fmul (fmul vel (c.port p).phiScale) dqPerMs)) (fRat (per p) dqS))))
  let lim := fmul (fRat (c.rd R.FELT_FS_TRANS_LIM pgFELT s) 20000) (c.rdF R.FELT_FS_VBUS pgFELT s)
  if flt lim pred then fdiv lim pred else fOne

/-- A slew starts: its scale, the bus voltage it is watched against, and no deviation yet (R238, R239). -/
def Chip.slewStart (c : Chip) (s : Nat) : Chip :=
  (c.modSec s (fun q => { q with velScale := c.slewScale s, slewBus := (c.feltBus s).getD fZero, slewHalf := false })).hw pgFELT
    [(R.FELT_FS_SLEWING, s, 1), (R.FELT_FS_PEAK, s, 0)]

/-- A section's offsets are recomputed at its agreed trigger (R236 to R240); hold-up in TRANSFER defers it (R46), and so does QUIESCE
(R15). Without FS_CFG.EN
every member's target is 0. -/
def feltRecompute (c : Chip) (s : Nat) : Chip :=
  let q := c.sec s
  if !q.feltTrig || c.rd R.HOLD_STATE pgHOLD s == 2 || !c.takesWork pgFELT then c
  else
    let en := c.on R.FELT_EN pgFELT s
    let gs := c.feltGroups s
    let ch := gs.map (fun g => (g, c.feltChoose s g.1 g.2))
    let tg : List (Nat × FeltMem × Nat) := ch.flatMap (fun e =>
      (if en then feltTargets e.1.1 e.2.1 e.1.2 else e.1.2.map (fun m => (m, 0))).map (fun x => (e.1.1, x)))
    let dl (x : Nat × FeltMem × Nat) : Nat := match x.2.1.phi with | some f => (wrapDelta x.1 x.2.2 f).natAbs | none => 0
    let maxD := (tg.map dl).foldl max 0
    let frozen := c.feltFrozen s
    let big := ch.foldl (fun (b : Option ((Nat × List FeltMem) × Nat × Nat × F32)) e =>
      match b with | none => some e | some x => if x.1.2.length < e.1.2.length then some e else some x) none
    let flat := c.flatZ s
    let (sp, j, score) : Nat × Nat × F32 := match big with | some e => e.2 | none => (0, 0, fZero)
    let was := c.on R.FELT_FS_SLEWING pgFELT s
    let moves := !frozen && (decide (0 < maxD) || was)
    let c1 := foldc tg (fun x c => c.feltAim x.1 maxD frozen x.2.1 x.2.2) c
    let c2 := c1.modSec s (fun q => { q with feltTrig := false, members := tg.map (fun x => x.2.1.p) })
    let c3 := if moves && !was then c2.slewStart s else if was && !moves then c2.up R.FELT_FS_SLEWING pgFELT 0 s else c2
    let c4 := c3.hw pgFELT [(R.FELT_FROZEN, s, b2n frozen), (R.FELT_FLAT_Z, s, b2n flat),
      (R.FELT_SPREAD_J, s, j), (R.FELT_MEMBERS, s, tg.length), (R.FELT_FS_SPREAD, s, sp), (R.FELT_FS_RIPPLE, s, (fsqrt score).toNat)]
    let c5 := ((c4.setBit R.FELT_PENDING pgFELT s false).setBit R.FELT_SLEWING pgFELT s moves).bump R.FELT_CNT_RECOMPUTE pgFELT
    c5.pulse pgFELT s

/-- Every movement of a section has ended: SLEW_DONE (R237, R242). -/
def feltSlewDone (c : Chip) (s : Nat) : Chip :=
  if c.on R.FELT_FS_SLEWING pgFELT s && !((c.sec s).members.any (fun p => (c.port p).moving)) then
    ((c.up R.FELT_FS_SLEWING pgFELT 0 s).setBit R.FELT_SLEWING pgFELT s false).pulse pgFELT (16 + s)
  else c

/-- FS_CFG is written: RATE_HALVED clears and a recompute is triggered (R236, R239). -/
def Chip.fsCfg (c : Chip) (s : Nat) : Chip :=
  (if c.on R.FELT_RATE_HALVED pgFELT s then c.up R.FELT_RATE_HALVED pgFELT 0 s else c).feltTrigger s

/-- A movement limit of a section is written: FROZEN, and what slews, follow it; movements that stood at a limit of 0 start as a slew of
their own (R237 to R239, R241). -/
def Chip.feltLimits (c : Chip) (s : Nat) : Chip :=
  let frozen := c.feltFrozen s
  let slews := !frozen && (c.sec s).members.any (fun p => (c.port p).moving)
  let was := c.on R.FELT_FS_SLEWING pgFELT s
  let c0 := if c.on R.FELT_FROZEN pgFELT s == frozen then c else c.up R.FELT_FROZEN pgFELT (b2n frozen) s
  let c1 := if slews && !was then c0.slewStart s else if was && frozen then c0.up R.FELT_FS_SLEWING pgFELT 0 s else c0
  c1.setBit R.FELT_SLEWING pgFELT s (c1.on R.FELT_FS_SLEWING pgFELT s)

/-! Meanings of the rows. -/

/-- FELT_RECOMPUTE (R236): A recompute trigger takes effect and Felting computes new target offsets for the section. -/
def execFeltRecompute (sec : Sec) (s : State) : Result :=
  .next (s.onChip (fun c => feltRecompute c sec.val))

/-- FELT_SLEW_DONE (R237): All offset movements of a section finish and SLEW_DONE is raised. -/
def execFeltSlewDone (sec : Sec) (s : State) : Result :=
  .next (s.onChip (fun c => feltSlewDone c sec.val))

end Sys2Proof.Machine
end

