-- ==== Sys2Proof/Machine/Hold.lean ====
section
/-! DEFINITION. Hold.lean: the hold-up states of a section, input loss and presence, the overload allowance and the hold of early
warning (R246 to R253, R266). -/

namespace Sys2Proof.Machine

/-- The CH_VIN sample of a member at a sample tick, with its channel (R247). -/
def Chip.vinAt (c : Chip) (p t : Nat) : Option (Nat × Sample) :=
  match c.portLaw p with
  | none => none
  | some (_, l) => (c.sampleAt p t (dChVin l.desc)).map (fun s => (dChVin l.desc, s))

/-- A source member is below loss at a sample tick (R247). -/
def Chip.belowLoss (c : Chip) (s p t : Nat) : Bool :=
  match c.vinAt p t with
  | none => false
  | some (ch, x) =>
    let v := c.rdVF R.HOLD_VIN_LOSS pgHOLD s
    c.scaled p ch && !x.susp && !feq v fZero
    && ((x.ovr && x.code == 0x8000) || (!x.ovr && decide (x.int < c.calCodeUp p ch (fadd v (c.calUnc p ch v)))))

/-- A source member is present at a sample tick (R247). -/
def Chip.srcPresent (c : Chip) (s p t : Nat) : Bool :=
  match c.vinAt p t with
  | none => false
  | some (ch, x) =>
    let v := c.rdVF R.HOLD_VIN_OK pgHOLD s
    c.scaled p ch && !x.susp && !x.ovr && decide (c.calCodeUp p ch (fadd v (c.calUnc p ch v)) ≤ x.int)

/-- QUORUM of a section; 0 means every source member whose link is READY (R248). -/
def Chip.quorum (c : Chip) (s : Nat) : Nat :=
  let q := c.rdV R.HOLD_QUORUM pgHOLD s
  if q = 0 then ((c.srcMembers s).filter c.linkReady).length else q

/-- Members of a section that satisfy a test at a sample tick. -/
def Chip.quorumMet (c : Chip) (s : Nat) (f : Nat → Bool) : Bool :=
  let q := c.quorum s
  q != 0 && decide (q ≤ ((c.srcMembers s).filter f).length)

/-- The source is present at a sample tick (R248). -/
def Chip.sourcePresent (c : Chip) (s t : Nat) : Bool := c.quorumMet s (fun p => c.srcPresent s p t)

/-- Input loss is declared at the end of tick t + 2 (R248): the section enters TRANSFER from ON_SOURCE or RETURN (R249, R250). -/
def inputLossDeclared (c : Chip) (s : Nat) : Chip :=
  let st := c.rd R.HOLD_STATE pgHOLD s
  let lost (t : Nat) : Bool := c.quorumMet s (fun p => c.belowLoss s p t)
  if c.onV R.HOLD_EN pgHOLD s && (st == 1 || st == 5) && (lost (c.tick - 2) || lost (c.tick - 3)) then c.enterTransfer s else c

/-- The source is present at a sample tick: a section goes from ON_BRIM to QUALIFY (R249). -/
def Chip.presence (c : Chip) (s t : Nat) : Chip :=
  if c.rd R.HOLD_STATE pgHOLD s = 3 ∧ c.sourcePresent s t then
    ((c.huSet s 4).modSec s (fun q => { q with qualFrom := t })).up R.HOLD_REPLUGS pgHOLD (min 255 (c.rd R.HOLD_REPLUGS pgHOLD s + 1)) s
  else c

/-- The source was not present at the sample tick two ticks back, whose last frames have come: a section goes from QUALIFY back to ON_BRIM
(R31, R248, R249). -/
def Chip.absence (c : Chip) (s : Nat) : Chip :=
  let t := c.tick - 2
  if c.rd R.HOLD_STATE pgHOLD s = 4 ∧ (c.sec s).qualFrom < t ∧ !c.sourcePresent s t then c.huSet s 3 else c

/-- The sections in which a port is a source member. -/
def Chip.srcSections (c : Chip) (p : Nat) : List Nat := (upTo 8).filter (fun s => c.onV R.HOLD_EN pgHOLD s && (c.srcMembers s).contains p)

/-- TRANSFER has run for its full time (R249, R251). -/
def transferEnd (c : Chip) (s : Nat) : Chip :=
  if c.due (tmKey tmTrans s) && c.rd R.HOLD_STATE pgHOLD s == 2 then (c.disarm (tmKey tmTrans s)).huSet s 3 else c

/-- The source has been present for QUALIFY_MS (R249). -/
def qualifyEnd (c : Chip) (s : Nat) : Chip :=
  if c.due (tmKey tmQualify s) && c.rd R.HOLD_STATE pgHOLD s == 4 then (c.disarm (tmKey tmQualify s)).huSet s 5 else c

/-- The overload allowance is spent: the battery bound falls (R253). -/
def overloadSpent (c : Chip) (s : Nat) : Chip :=
  if c.due (tmKey tmOvl s) && c.on R.HOLD_OVERLOAD pgHOLD s then
    (c.disarm (tmKey tmOvl s)).modSec s (fun q => { q with ovlSpent := true })
  else c

/-- OVERLOAD has stayed clear for ten times OVL_MS: the allowance is available again; a bound lowered in a hold-up stays until its end
(R253). -/
def overloadRestore (c : Chip) (s : Nat) : Chip :=
  if c.due (tmKey tmOvl (8 + s)) && !c.on R.HOLD_OVERLOAD pgHOLD s then
    (c.disarm (tmKey tmOvl (8 + s))).modSec s (fun q => { q with ovlUsed := 0, ovlSpent := q.ovlSpent && decide (2 ≤ c.rd R.HOLD_STATE pgHOLD s) })
  else c

/-- EW_HOLD_MS after the last cause of a group's early warning it is released (R266). -/
def ewHoldExpiry (c : Chip) (g : Nat) : Chip :=
  if c.due (tmKey tmEwHold g) then
    let c1 := c.disarm (tmKey tmEwHold g)
    if c1.ewCause g then c1 else c1.ewSet g false
  else c

/-! Meanings of the rows. -/

/-- INPUT_LOSS_DECLARED (R248): At the end of tick t+2 a quorum of source members below loss declares input loss. -/
def execInputLossDeclared (sec : Sec) (s : State) : Result :=
  .next (s.onChip (fun c => inputLossDeclared c sec.val))

/-- TRANSFER_END (R249): TR_US after entry TRANSFER moves to ON_BRIM. -/
def execTransferEnd (sec : Sec) (s : State) : Result :=
  .next (s.onChip (fun c => transferEnd c sec.val))

/-- QUALIFY_END (R249): QUALIFY_MS of continuous presence moves the section to RETURN. -/
def execQualifyEnd (sec : Sec) (s : State) : Result :=
  .next (s.onChip (fun c => qualifyEnd c sec.val))

/-- OVERLOAD_SPENT (R253): OVERLOAD set for a total of OVL_MS lowers the battery bound to BATT_I_CONT. -/
def execOverloadSpent (sec : Sec) (s : State) : Result :=
  .next (s.onChip (fun c => overloadSpent c sec.val))

/-- OVERLOAD_RESTORE (R253): OVERLOAD clear for 10 x OVL_MS restores the overload allowance. -/
def execOverloadRestore (sec : Sec) (s : State) : Result :=
  .next (s.onChip (fun c => overloadRestore c sec.val))

/-- EW_HOLD_EXPIRY (R266): EW_HOLD_MS after its cause ends the early-warning group is released. -/
def execEwHoldExpiry (group : Oct) (s : State) : Result :=
  .next (s.onChip (fun c => ewHoldExpiry c group.val))

end Sys2Proof.Machine
end

