-- ==== Sys2Proof/Machine/Meas.lean ====
section
/-! DEFINITION. Meas.lean: what the samples of a tick add to the means of battery strings and of calibrated channels (R272, R323). -/

namespace Sys2Proof.Machine

/-- The ports of a string: PORT0, and PORT1 where it is present (R269). -/
def Chip.strPorts (c : Chip) (n : Nat) : List Nat :=
  [c.rdV R.GAUGE_PORT0 pgGAUGE n, c.rdV R.GAUGE_PORT1 pgGAUGE n].filter (fun p => decide (p < 192))

/-- The samples of a string at one sample tick: V, I summed over its ports, T; none where a frame is missing or an input carries
OVR or SUSPECT (R271, R272). -/
def Chip.strTick (c : Chip) (n t : Nat) : Option (F32 × F32 × F32) :=
  let p0 := c.rdV R.GAUGE_PORT0 pgGAUGE n
  let ci := c.rdV R.GAUGE_CH_I pgGAUGE n
  let val (p ch : Nat) : Option F32 := match c.sampleAt p t ch with
    | some s => if s.clean then some (c.calPhys p ch s.int) else none
    | none => none
  let is := (c.strPorts n).map (fun p => val p ci)
  match val p0 (c.rdV R.GAUGE_CH_V pgGAUGE n), val p0 (c.rdV R.GAUGE_CH_T pgGAUGE n) with
  | some v, some tt => if is.all Option.isSome then some (v, fsum (is.filterMap id), tt) else none
  | some _, none => none
  | none, _ => none

/-- A sample of a string at one sample tick carries OVR (R277). -/
def Chip.strOvr (c : Chip) (n t : Nat) : Bool :=
  let ovr (p ch : Nat) : Bool := match c.sampleAt p t ch with | some s => s.ovr | none => false
  let p0 := c.rdV R.GAUGE_PORT0 pgGAUGE n
  ovr p0 (c.rdV R.GAUGE_CH_V pgGAUGE n) || ovr p0 (c.rdV R.GAUGE_CH_T pgGAUGE n) || (c.strPorts n).any (fun p => ovr p (c.rdV R.GAUGE_CH_I pgGAUGE n))

/-- Length of a measurement in dq: four periods, at least 20 ms (R277). -/
def zTime (f : Nat) : Nat := max (8 * dqS / ((zFreq2[f]?).getD 1)) (20 * dqMs)

/-- A sample tick of a string under measurement: it is correlated with the injection, and OVR spoils the measurement (R277). -/
def Chip.zSample (c : Chip) (n t : Nat) (vi : Option (F32 × F32 × F32)) : Chip :=
  match (upTo 8).find? (fun s => (c.sec s).zStr == some n) with
  | none => c
  | some s =>
    let q := c.sec s
    let f := c.rd R.BMK_ZFREQ pgBMK s
    if t < q.zStart ∨ zTime f ≤ (t - q.zStart) * dqTick then c
    else if c.strOvr n t then c.modSec s (fun q => { q with zBad := true })
    else match vi with
      | none => c
      | some (v, i, _) =>
        let a := zAngle f (t - q.zStart)
        let co := fcos a
        let si := fsin a
        c.modSec s (fun q => { q with
          zV := (ffma v co q.zV.1, ffma v si q.zV.2)
          zI := (ffma i co q.zI.1, ffma i si q.zI.2) })

/-- A sample tick adds to the means of its millisecond of the strings that a port carries, once the frames of all their ports are there
(R272). -/
def Chip.gaugeSample (c : Chip) (p t : Nat) : Chip :=
  if !c.onV R.GAUGE_EN pgGAUGE then c
  else foldc (c.stringsOf p) (fun n c0 =>
    let x := c0.strTick n t
    let c := c0.zSample n t x
    match x with
    | none => c
    | some (v, i, tt) => c.modStr n (fun q => { q with sums := mapMod q.sums (t / 20000) {} (fun s =>
        { v := fadd s.v v, i := fadd s.i i, t := fadd s.t tt, n := s.n + 1 }) })) c

/-- A sample of a channel in its zero-current window adds to the window's sums (R321). -/
def CalSt.zeroSample (q : CalSt) (x : Sample) : CalSt :=
  match q.zero with
  | none => q
  | some z =>
    if x.clean && decide (z ≤ x.tick) && decide (x.tick < z + 256) then
      { q with zeroSum := q.zeroSum + x.int, zeroSq := q.zeroSq + (x.int * x.int).toNat, zeroN := q.zeroN + 1 }
    else q

/-- The magnitude of a sample in 2^-32 of FS (R322, R323). -/
def Chip.loadOf (c : Chip) (p ch : Nat) (code : Int) : Nat := (fix32 (fdiv (fabs (c.calPhys p ch code)) (c.calFs p ch))).toNat

/-- A sample adds to the mean |x| of its millisecond, of each channel that Benchmark calibrates: the channel's operating point (R323), and
to a zero-current window (R321). The sums are exact, in units of 2^-32 of FS; the manual names no rounding of theirs, DESIGN CHOICE
(218). -/
def Chip.calSample (c : Chip) (p t : Nat) (smp : Nat → Sample) : Chip :=
  foldc [0, 1, 2, 3] (fun ch c =>
    let k := c.rd R.SP_CAL_KIND (pgSP p) ch
    if k = 0 ∨ 4 ≤ k ∨ !c.scaled p ch then c
    else
      let s := smp ch
      let ms := t / 20000
      let x := c.loadOf p ch s.int
      c.modCal (4 * p + ch) (fun q0 =>
        let q := q0.zeroSample s
        if s.clean then
          { q with ops := mapMod (q.ops.filter (fun e => decide (ms ≤ e.1 + 1))) ms (0, 0) (fun o => (o.1 + x, o.2 + 1)) }
        else q)) c

/-! What a Benchmark window sums (R318, R320, R322). -/

/-- The value that a voltage node shows at a sample tick: that of its REF channel, or the mean of its VOLT channels where it has none
(R320). -/
def Chip.nodeAt (c : Chip) (node t : Nat) : Option F32 :=
  let chans (k : Nat) : List (Nat × Nat) := (c.ports.flatMap (fun e => (List.range 4).map (fun ch => (e.1, ch)))).filter (fun e =>
    c.rd R.SP_CAL_KIND (pgSP e.1) e.2 == k && c.rd R.SP_CAL_NODE (pgSP e.1) e.2 == node && c.scaled e.1 e.2)
  let vals (l : List (Nat × Nat)) : List F32 := l.filterMap (fun e => match c.sampleAt e.1 t e.2 with
    | some s => if s.clean then some (c.calPhys e.1 e.2 s.int) else none
    | none => none)
  let refs := (chans 4).take 1
  let vs := vals (if refs = [] then chans 3 else refs)
  if vs = [] then none else some (fdiv (fsum vs) (fOfNat vs.length))

/-- A sample that a window takes (R318 to R322). -/
def WinSum.take (w : WinSum) (code : Int) (load temp : Int) (ref : Option F32) : WinSum :=
  let w1 := { w with
    n := w.n + 1
    load := w.load + load
    temp := w.temp + temp
    lo := if w.n = 0 then code else min w.lo code
    hi := if w.n = 0 then code else max w.hi code }
  match ref with
  | none => w1
  | some r =>
    let x := fix32 r
    { w1 with rn := w1.rn + 1, sc := w1.sc + code, scc := w1.scc + code * code, sr := w1.sr + x, scr := w1.scr + x * code }

/-- A channel's sample of a tick of its section's window is taken, or excluded where it carries OVR or SUSPECT or its frame is missing
(R318). A stage without a fitted sensor counts as 0 °C, in bin 0 (R322). -/
def Chip.windowSample (c : Chip) (p ch t : Nat) : Chip :=
  let skip := c.modCal (4 * p + ch) (fun q => { q with win := { q.win with bad := q.win.bad + 1 } })
  match c.sampleAt p t ch with
  | none => if c.linkReady p then skip else c
  | some s =>
    if !s.clean then skip
    else
      let ref := if c.rd R.SP_CAL_KIND (pgSP p) ch = 3 then c.nodeAt (c.rd R.SP_CAL_NODE (pgSP p) ch) t else none
      let temp := match c.stageTemp p (c.tripTemp p) with | some x => fix32 x | none => 0
      c.modCal (4 * p + ch) (fun q => { q with win := q.win.take s.int (c.loadOf p ch s.int) temp ref })

/-- The windows in progress take the samples of the tick whose frames were due in the tick that ends, supplied ones too (R31, R318). -/
def Chip.windowTick (c : Chip) : Chip :=
  if !c.on R.BMK_EN pgBMK ∨ c.tick < 3 then c
  else
    let t := c.tick - 3
    foldc (c.cals.map (fun e => e.1)) (fun k c =>
      let p := k / 4
      let ch := k % 4
      let kind := c.rd R.SP_CAL_KIND (pgSP p) ch
      let s := c.calSec p
      if kind = 0 ∨ 4 ≤ kind ∨ !c.scaled p ch ∨ !c.armed (tmKey tmPubl (1 + s)) ∨ t < (c.sec s).winFrom
        ∨ (c.sec s).winFrom + 20000 * (c.sec s).bmk.win ≤ t then c
      else c.windowSample p ch t) c

end Sys2Proof.Machine
end

