-- ==== Sys2Proof/Machine/Samples.lean ====
section
/-! DEFINITION. Samples.lean: SAMPLE frames as the GT9192 takes them, and their equalisation over Chain (R26, R30, R31, R108, R109,
R342). -/

namespace Sys2Proof.Machine

/-- The item reads within the plausibility bounds (R439). -/
def Chip.stageInRange (c : Chip) (x : BitVec 20) : Bool :=
  decide (sgn 16 (c.rd R.THM_SS_PLAUS_LO pgTHM) ≤ x.toInt) && decide (x.toInt ≤ sgn 16 (c.rd R.THM_SS_PLAUS_HI pgTHM))

/-- A range widened by a value, or begun with it. -/
def spanAdd (fresh : Bool) (lo hi x : Int) : Int × Int := if fresh then (x, x) else (min lo x, max hi x)

/-- The channel whose current R439 compares a stage's one item with: TLM_I_CH of the port's law, else CH_I. -/
def Chip.stageCurCh (c : Chip) (p : Nat) : Nat :=
  match c.tlmOf p with
  | some d => dTlmI d
  | none => c.rd R.SP_CH_I (pgSP p)

/-- An item is stuck (R439): unchanged for 1 s while the other item has moved by 1 °C, or on a stage with one item the current by 20% of
FS. DEDUCED (186): the movement counts from the item's last change. -/
def Chip.stageStuck (c : Chip) (p : Nat) (item : Bool) : Bool :=
  let t := c.port p
  let since := if item then t.t1Since else t.t0Since
  let other := if item then t.temp0 else t.temp1
  let span := if item then t.t1Hi - t.t1Lo else t.t0Hi - t.t0Lo
  decide (since + dqS ≤ c.now)
    && (if other != tempAbsent then decide (16 ≤ span)
        else t.iSeen && fle (fmul (fdiv (fOfNat 1) (fOfNat 5)) (c.calFs p (c.stageCurCh p))) (fsub t.iHi t.iLo))

/-- The current of a stage with one temperature item is followed (R439). -/
def Chip.trackCurrent (c : Chip) (p : Nat) : Chip :=
  let t := c.port p
  let ch := c.stageCurCh p
  if (t.temp0 == tempAbsent) == (t.temp1 == tempAbsent) || !(t.smp ch).clean then c
  else
    let v := c.smpPhys p ch
    c.modPort p (fun q => { q with iSeen := true, iLo := if q.iSeen then fmin q.iLo v else v, iHi := if q.iSeen then fmax q.iHi v else v })

/-- A temperature item: its value and what R439 remembers of it. -/
def Chip.takeTemp (c : Chip) (p item v : Nat) : Chip :=
  let x : BitVec 20 := BitVec.ofNat 20 v
  let c1 := c.modPort p (fun t =>
    if item = 0 then
      let new := t.temp0 != x
      let sp := spanAdd (t.temp0 == tempAbsent) t.t1Lo t.t1Hi x.toInt
      { t with
        temp0 := x
        t0Since := if new then c.now else t.t0Since
        t0Lo := if new then t.temp1.toInt else t.t0Lo
        t0Hi := if new then t.temp1.toInt else t.t0Hi
        t1Lo := sp.1
        t1Hi := sp.2
        iSeen := t.iSeen && !new }
    else
      let new := t.temp1 != x
      let sp := spanAdd (t.temp1 == tempAbsent) t.t0Lo t.t0Hi x.toInt
      { t with
        temp1 := x
        t1Since := if new then c.now else t.t1Since
        t1Lo := if new then t.temp0.toInt else t.t1Lo
        t1Hi := if new then t.temp0.toInt else t.t1Hi
        t0Lo := sp.1
        t0Hi := sp.2
        iSeen := t.iSeen && !new })
  let good := c1.stageInRange x && !c1.stageStuck p (item != 0)
  let c2 := if good then c1 else c1.modPort p (fun t => if item = 0 then { t with t0Good := c.now } else { t with t1Good := c.now })
  c2.derateJudge p

/-- The AUX item of a frame (R109, R138). -/
def Chip.takeAux (c : Chip) (p id v : Nat) : Chip :=
  if id = 1 then c.takeTemp p 0 v
  else if id = 2 then c.takeTemp p 1 v
  else if 4 ≤ id ∧ id ≤ 10 then (if c.rd R.SP_SE_CNT (pgSP p) (id - 4) = v then c else c.up R.SP_SE_CNT (pgSP p) v (id - 4))
  else c

/-- The engines a port's samples are multicast to (R30). -/
def Chip.destEngines (c : Chip) (p : Nat) : List Engine :=
  ((upTo 128).filter (fun e => (c.eng e).streams.any (fun x => x.2.port == p))).map (fun e => ⟨e % 128, Nat.mod_lt _ (by decide)⟩)

/-- SP_STATUS and the port's flags follow a frame (R108, R137). -/
def Chip.takeStatus (c : Chip) (p : Nat) (body : Bytes) : Chip :=
  let b := pgSP p
  let st := leAt body 9 1
  let fl := leAt body 10 1
  let us : List (Fld × Nat × Nat) := [(R.SP_STAGE_STATE, 0, st % 4), (R.SP_ADMIT_A, 0, b2n (bitOf st 5)), (R.SP_ADMIT_B, 0, b2n (bitOf st 6))]
  let c1 := if us.all (fun u => c.rd u.1 b u.2.1 == u.2.2) then c else c.hw b us
  let c2 := (c1.level b 2 (st % 4 == 2)).level b 3 (st % 4 == 3)
  let c3 := if bitOf st 2 then c2.pulse b 1 else c2
  c3.modPort p (fun t => { t with
    epochValid := bitOf st 4
    sampled := true
    sidePending := bitOf st 7
    fastTrip := bitOf fl 0
    crowbar := bitOf fl 1
    envClip := bitOf fl 2
    moisture := bitOf fl 3
    localFault := bitOf fl 4 })

/-- The port's samples, kept for the laws as in the sample rings of its engines (R163, R164). A frame that comes after that of a later
tick, from the twin, leaves the latest samples as they are. -/
def Chip.takeChannels (c : Chip) (p t : Nat) (body : Bytes) : Chip :=
  let s (k : Nat) : Sample := sampleOf body t k
  let ovr := ([s 0, s 1, s 2, s 3].find? Sample.ovr).map (fun x => x.code == 0x7FFF)
  c.modPort p (fun q =>
    let old := q.smp0.valid && decide (t < q.smp0.tick)
    { q with
      smp0 := if old then q.smp0 else s 0
      smp1 := if old then q.smp1 else s 1
      smp2 := if old then q.smp2 else s 2
      smp3 := if old then q.smp3 else s 3
      hist := ((t, body) :: q.hist).take 512
      missing := q.missing && q.eqWait != some t && q.eqWait.isSome
      eqWait := if q.eqWait = some t then none else q.eqWait
      ovrHigh := if old then q.ovrHigh else ovr.getD q.ovrHigh })

/-- A SAMPLE frame that is used, from the link or from the twin (R26, R31): its status, its AUX item and its samples, and what
follows from them: the phase's crowbar (R216, R222), telemetry (R224), the means of strings and channels (R272, R323), presence of the source (R249), a fence by the twin (R351)
and the record of a double fault, one for each stage end and recovery window (R356). -/
def Chip.takeSample (c : Chip) (p t : Nat) (body : Bytes) : Chip :=
  let c1 := (c.takeStatus p body).takeChannels p t body
  let aux := leAt body 13 3
  let c2 := c1.takeAux p (aux % 16) (aux / 16 % 2 ^ 20)
  let es := c2.destEngines p
  let c3 := if es.isEmpty then c2 else foldc es (fun e c => c.fabricWrite e.val p t body) (c2.send (.multicast (portFin p) es))
  let c4 := (((c3.telemetry p t (sampleOf body t)).gaugeSample p t).calSample p t (sampleOf body t)).trackCurrent p
  let c5 := if (c4.port p).crowbar then c4.phCrowbar p else c4.crowbarGone p
  let c6 := foldc (c5.srcSections p) (fun s c => c.presence s t) c5
  let epoch := c6.rd R.SP_SE_EPOCH (pgSP p)
  let foreign := epoch != (c6.port p).epoch.toNat
  let c7 := if !c6.portRole p && !c6.noRole && c6.ownAdmit p && foreign && (c6.port p).epochValid then
      (c6.modPort p (fun q => { q with epoch := BitVec.ofNat 8 epoch })).reEpoch p else c6
  let solo := c7.rd R.TWIN_STATE pgTWIN == 1 && (c7.port p).fencing.isNone && BitVec.ofNat 8 epoch != (c7.port p).epoch - 1
  let c8 := if (c7.twin.takeover || solo) && c7.linkReady p && (c7.port p).epochValid && foreign && !c7.ownAdmit p then c7.fencedByPeer else c7
  let st := c8.rd R.SP_STAGE_STATE (pgSP p)
  if c8.on R.TWIN_RECOVERING pgTWIN && 2 ≤ st && !(c8.port p).doubleRec then
    (c8.modPort p (fun q => { q with doubleRec := true })).record 0x113 p 3 (c8.owner (pgSP p)) [BitVec.ofNat 8 st] true
  else c8

/-- An upstream frame arrives on a port's link (R26, R103 to R105). -/
def sampleRx (c : Chip) (p : Nat) (f : Frame) : Chip :=
  c.onFrame p f 1 (fun c body =>
    let c1 := c.pmcEvent (pgSP p) 0x100
    match extendTick c.tick (leAt body 11 2) with
    | none => c1
    | some t =>
      if (c1.bodyAt p t).isSome then c1.modPort p (fun q => { q with supplied := q.supplied.filter (· != t) }) else c1.takeSample p t body)

/-- Two twins run the port groups (R31, R357, R364): in a pair, also while MGMT of one is held by a debugger, and from phase STATE of a
join on. -/
def Chip.pairRunning (c : Chip) : Bool :=
  let ph := c.rd R.TWIN_JOIN_PHASE pgTWIN
  c.paired || ((c.solo || c.rd R.TWIN_STATE pgTWIN == 2) && (ph == 4 || ph == 5))

/-- A port group that lacks the frame of sample tick t at tick t + 2 asks the twin for it (R31). -/
def equaliseRequest (c : Chip) (p : Nat) : Chip :=
  let t := c.tick - 2
  if c.pairRunning && c.enabled (pgSP p) && 2 ≤ c.tick && (c.bodyAt p t).isNone && (c.port p).eqWait != some t then
    (c.modPort p (fun q => { q with eqWait := some t, missing := true })).send (.chain (.frameReq (portFin p) t))
  else c

/-- A port group answers the twin from the frames of the last 16 ticks that its own link brought, or with NONE, an empty body; at most 12 in a
tick (R342). -/
def equaliseAnswer (c : Chip) (p t : Nat) : Chip :=
  if c.rd R.TWIN_STATE pgTWIN = 4 then c else
  let w := c.twin
  let n := if w.eqTick = c.tick then w.eqCount else 0
  let c1 := c.modTwin (fun w => { w with eqTick := c.tick, eqCount := n + 1 })
  if 12 ≤ n then (c1.bump R.TWIN_CNT pgTWIN 6).send (.chain (.frameAns (portFin p) t []))
  else
    let body := if c.tick ≤ t + 16 ∧ !(c.port p).supplied.contains t then (c.bodyAt p t).getD [] else []
    c1.send (.chain (.frameAns (portFin p) t body))

/-- A frame from the twin tells a LEAD whose own link is not READY that the twin's is: it delegates the port (R353). -/
def Chip.delegateTo (c : Chip) (p : Nat) : Chip :=
  let asked := c.twin.agree.any (fun a => match a.item with | .delegate q true => q.val == p | _ => false)
  if c.paired && c.leads && !c.linkReady p && !(c.port p).delegated && !asked then c.propose (.delegate (portFin p) true) else c

/-- The twin's answer (R31): a frame that arrives before tick t + 3 is used as if the link had brought it. -/
def equaliseFrameRx (c : Chip) (p : Nat) (body : Bytes) : Chip :=
  match (c.port p).eqWait with
  | none => c
  | some t =>
    if c.tick ≥ t + 3 then c
    else if body = [] then c.modPort p (fun q => { q with eqWait := none })
    else if leAt body 11 2 ≠ t % 65536 then c
    else
      let c1 := c.modPort p (fun q => { q with supplied := t :: q.supplied.filter (fun x => decide (t < x + 16)) })
      ((c1.bump R.SP_CNT_EQUAL (pgSP p)).pmcEvent (pgSP p) 0x102).takeSample p t (sliceBytes body 0 16) |>.delegateTo p

/-- No answer when tick t + 3 begins (R342): counted; the law runs under its missing-input rule. -/
def equaliseDeadline (c : Chip) (p : Nat) : Chip :=
  match (c.port p).eqWait with
  | none => c
  | some t =>
    if c.tick < t + 3 then c
    else
      (c.modPort p (fun q => { q with eqWait := none })).bump R.TWIN_CNT pgTWIN 6

/-! Meanings of the rows. -/

/-- SAMPLE_RX (R26): A port group receives an upstream frame, checks it, extends the sample tick and takes the SAMPLE contents. -/
def execSampleRx (port : Port) (frame : Frame) (s : State) : Result :=
  .next (s.onChip (fun c => sampleRx c port.val frame))

/-- EQUALISE_REQUEST (R31): A port group lacking a valid SAMPLE frame at tick t+2 asks the twin for it over Chain. -/
def execEqualiseRequest (port : Port) (s : State) : Result :=
  .next (s.onChip (fun c => equaliseRequest c port.val))

/-- EQUALISE_ANSWER (R342): A port group answers equalisation requests from its frames of the last 16 ticks, or with NONE. -/
def execEqualiseAnswer (port : Port) (tick : Nat) (s : State) : Result :=
  .next (s.onChip (fun c => c.chainIn (fun c => equaliseAnswer c.hear port.val tick)))

/-- EQUALISE_FRAME_RX (R31): A frame supplied by the twin arriving before tick t+3 is used as if received on the link. -/
def execEqualiseFrameRx (port : Port) (body : Bytes) (s : State) : Result :=
  .next (s.onChip (fun c => c.chainIn (fun c => equaliseFrameRx c.hear port.val body)))

/-- EQUALISE_DEADLINE (R342): A requester holding no answer when tick t+3 begins counts CNT_EQ_FAIL and the law runs its missing-
input rule. -/
def execEqualiseDeadline (port : Port) (s : State) : Result :=
  .next (s.onChip (fun c => equaliseDeadline c port.val))

end Sys2Proof.Machine
end

