-- ==== Sys2Proof/Machine/Crown.lean ====
section
/-! DEFINITION. Crown.lean: the Crown tree, its updates and what they do to the leaves (R260 to R268). Keys: a node's number, or
96 + port for the implicit leaf of a port that no leaf governs (R261). -/

namespace Sys2Proof.Machine

/-- A node in an allocation. -/
structure CrNode where
  k : Nat
  parent : Nat
  depth : Nat
  limit : F32
  floor : F32
  weight : Nat
  demand : F32
deriving DecidableEq, Repr

/-- Depth of a node below the root. -/
def Chip.crDepth (c : Chip) : Nat → Nat → Nat
  | 0, _ => 0
  | k + 1, n => if n = 0 then 0 else 1 + c.crDepth k (c.crParent n)

/-- The port that a leaf key governs. -/
def Chip.leafPort (c : Chip) (k : Nat) : Option Nat :=
  if 96 ≤ k then some (k - 96)
  else let f := c.rd R.CROWN_FEEDER pgCROWN k; if k ≠ 0 ∧ f < 192 then some f else none

/-- The feed ports that no leaf governs, with the node above their implicit leaf (R261). -/
def Chip.implicitLeaves (c : Chip) : List (Nat × Nat) :=
  (upTo 192).filterMap (fun p =>
    if c.isFeed p && !(upTo 96).any (fun n => n != 0 && c.crPart 97 n && c.rd R.CROWN_FEEDER pgCROWN n == p) then
      match c.crownNodeOf (c.owner (pgSP p)) with
      | some n => if c.crPart 97 n then some (p, n) else none
      | none => none
    else none)

/-- The nodes that take part, in order of depth and, within a depth, of number (R263); demands are those of the leaves. -/
def Chip.crNodes (c : Chip) : List CrNode :=
  let real := ((upTo 96).filter (c.crPart 97)).map (fun n =>
    let lim := c.rdF R.CROWN_LIMIT_W pgCROWN n
    let dem := match c.leafPort n with | some p => c.rdF R.SP_P_OUT (pgSP p) | none => fZero
    (⟨n, c.crParent n, c.crDepth 97 n, lim, c.rdF R.CROWN_FLOOR_W pgCROWN n, c.rd R.CROWN_WEIGHT pgCROWN n, dem⟩ : CrNode))
  let impl := c.implicitLeaves.map (fun e =>
    (⟨96 + e.1, e.2, c.crDepth 97 e.2 + 1, c.rdF R.SP_P_CONTRACT (pgSP e.1), fZero, 1, c.rdF R.SP_P_OUT (pgSP e.1)⟩ : CrNode))
  let all := real ++ impl
  (upTo 98).flatMap (fun dep => all.filter (fun x => x.depth == dep))

/-- The children of a node. -/
def crKids (ns : List CrNode) (k : Nat) : List CrNode := ns.filter (fun x => x.k != 0 && x.parent == k && decide (k < 96))

/-- A node's demand: that of a leaf, or the sum over its children (R263). -/
def crDemand (ns : List CrNode) : Nat → CrNode → F32
  | 0, x => x.demand
  | f + 1, x => let ks := crKids ns x.k; if ks.isEmpty then x.demand else fsum (ks.map (crDemand ns f))

/-- One of the four rounds by which children approach what they want (R263). -/
def crRounds : Nat → F32 → List (CrNode × F32 × F32) → F32 × List (CrNode × F32 × F32)
  | 0, rest, xs => (rest, xs)
  | n + 1, rest, xs =>
    let open' (x : CrNode × F32 × F32) : Bool := flt x.2.2 x.2.1 && decide (0 < x.1.weight)
    let os := xs.filter open'
    if os.isEmpty || fle rest fZero then (rest, xs)
    else
      let sw := fOfNat ((os.map (fun x => x.1.weight)).sum)
      let give (x : CrNode × F32 × F32) : F32 := fmin (fdiv (fmul rest (fOfNat x.1.weight)) sw) (fsub x.2.1 x.2.2)
      crRounds n (fsub rest (fsum (os.map give))) (xs.map (fun x => if open' x then (x.1, x.2.1, fadd x.2.2 (give x)) else x))

/-- The grants of a node's children out of what it has, and whether it falls short (R263). -/
def crShare (headroom : Nat) (avail : F32) (ks : List (CrNode × F32)) : Bool × List (Nat × F32) :=
  let fl (x : CrNode) : F32 := fmin x.floor x.limit
  let sf := fsum (ks.map (fun e => fl e.1))
  if flt avail sf then (true, ks.map (fun e => (e.1.k, fdiv (fmul avail (fl e.1)) sf)))
  else
    let up := fadd fOne (fRat headroom 100)
    let (rest, xs) := crRounds 4 (fsub avail sf) (ks.map (fun e => (e.1, fmin e.1.limit (fmul e.2 up), fl e.1)))
    let sw := (ks.map (fun e => e.1.weight)).sum
    (false, xs.map (fun x =>
      (x.1.k, if sw = 0 then x.2.2 else fadd x.2.2 (fmin (fdiv (fmul rest (fOfNat x.1.weight)) (fOfNat sw)) (fsub x.1.limit x.2.2)))))

/-- The outcome of an allocation: grants and the nodes that fall short. -/
structure CrOut where
  grants : List (Nat × F32)
  short : List Nat
deriving DecidableEq, Repr

/-- The allocation of one update (R263): node by node, in order of depth. -/
def crAllocate (headroom : Nat) (root : F32) (ns : List CrNode) : CrOut :=
  ns.foldl (fun (o : CrOut) x =>
    let ks := crKids ns x.k
    if ks.isEmpty then o
    else
      let mine := match o.grants.find? (fun e => e.1 == x.k) with | some e => e.2 | none => fZero
      let avail := if x.k = 0 then root else fmin x.limit mine
      let (sh, gs) := crShare headroom avail (ks.map (fun q => (q, crDemand ns 97 q)))
      ⟨o.grants ++ gs, if sh then x.k :: o.short else o.short⟩) ⟨[], []⟩

/-- avail(0) (R263): the lowest of the root's limit, the fabric budget and the supply. -/
def Chip.rootAvail (c : Chip) : F32 :=
  fmin (fmin (c.rdF R.CROWN_LIMIT_W pgCROWN 0) (c.rdF R.CROWN_FAB_BUDGET_W pgCROWN)) c.supplyW

/-- NODE_STATUS bit of a leaf key; an implicit leaf has no register. -/
def Chip.nodeBit (c : Chip) (f : Fld) (k : Nat) (on : Bool) : Chip :=
  if k < 96 then (if c.on f pgCROWN k == on then c else c.up f pgCROWN (b2n on) k) else c

/-- GRACE_US of a leaf key; the default for an implicit leaf (R261). -/
def Chip.graceUs (c : Chip) (k : Nat) : Nat := if k < 96 then c.rd R.CROWN_GRACE_US pgCROWN k else 2000

/-- The power limit of a leaf is enforced: the latest grant is its current limit's power, and the leaf is CAPPED (R265). -/
def Chip.enforce (c : Chip) (k : Nat) : Chip :=
  let c1 := (c.modCap k (fun q => { q with limit := some q.cap })).bump R.CROWN_CNT_ENFORCE pgCROWN
  ((c1.nodeBit R.CROWN_CAPPED k true).nodeBit R.CROWN_GRACE k false).disarm (tmKey tmGrace k)

/-- What a leaf has been granted and limited to: a leaf that Crown has not granted anything starts from the contract (R308). -/
def Chip.capOf (c : Chip) (k p : Nat) : CapSt :=
  match c.caps.find? (fun e => e.1 == k) with
  | some e => e.2
  | none => { cap := if c.on R.SP_CONTRACT (pgSP p) then c.rdF R.SP_P_CONTRACT (pgSP p) else fInf false }

/-- A leaf takes its grant (R265). A grant at or above the cap that lies below the contract is the limit at once, also where it cancels a
grace: the limit never exceeds the cap but for a grace. DESIGN CHOICE (214). -/
def Chip.takeGrant (c : Chip) (k p : Nat) (g : F32) : Chip :=
  let q := c.capOf k p
  if flt g q.cap then
    let c1 := c.setCap k { q with cap := g, capMsg := true }
    if c1.graceUs k = 0 then c1.enforce k
    else (c1.nodeBit R.CROWN_GRACE k true).arm (tmKey tmGrace k) (c1.graceUs k * dqUs)
  else
    let full := fle (c.rdF R.SP_P_CONTRACT (pgSP p)) g
    let lim := if full then none else some g
    let c1 := c.setCap k { q with cap := g, capMsg := true, limit := lim }
    ((c1.nodeBit R.CROWN_CAPPED k lim.isSome).nodeBit R.CROWN_GRACE k false).disarm (tmKey tmGrace k)

/-- One Crown update (R263, R265): registers are replaced together, then every leaf takes its grant and the early warnings are
judged. -/
def Chip.crownRun (c : Chip) : Chip :=
  let ns := c.crNodes
  let root := c.rootAvail
  let o := crAllocate (c.rd R.CROWN_HEADROOM pgCROWN) root ns
  let grant (k : Nat) : F32 := match o.grants.find? (fun e => e.1 == k) with | some e => e.2 | none => fZero
  let us := (upTo 96).flatMap (fun n =>
    let part := c.crPart 97 n
    let dem := match ns.find? (fun x => x.k == n) with | some x => crDemand ns 97 x | none => fZero
    if c.crValid n then
      [(R.CROWN_GRANT_W, n, (if n = 0 then root else if part then grant n else fZero).toNat), (R.CROWN_DEMAND_W, n, dem.toNat),
        (R.CROWN_SHORT, n, b2n (o.short.contains n)), (R.CROWN_ORPHAN, n, b2n (c.crOrphan n))]
    else [])
  let c1 := (c.hw pgCROWN ([(R.CROWN_SUPPLY_W, 0, c.supplyW.toNat), (R.CROWN_ROOT_AVAIL_W, 0, root.toNat)] ++ us)).bump R.CROWN_CNT_UPDATE pgCROWN
  let c2 := foldc ns (fun x c => match c.leafPort x.k with | some p => c.takeGrant x.k p (grant x.k) | none => c) c1
  c2.ewJudge

/-- Mean power of a feeder over the Crown period that ends (R286); a feeder whose task has not run carries none. -/
def Chip.meanOut (c : Chip) (p : Nat) : Chip :=
  let f := c.fd p
  let v := if f.pCnt = 0 then fZero else fdiv f.pAcc (fOfNat f.pCnt)
  let c1 := c.setFd p { f with pAcc := 0, pCnt := 0 }
  if c1.rdF R.SP_P_OUT (pgSP p) = v then c1 else c1.up R.SP_P_OUT (pgSP p) v.toNat

/-- The periodic update, every CR_CTRL.PERIOD ticks (R264). -/
def crownUpdate (c : Chip) : Chip :=
  if c.tick % c.rd R.CROWN_PERIOD pgCROWN ≠ 0 ∨ (c.armed (tmKey tmCrown 0) ∧ !c.due (tmKey tmCrown 0)) then c
  else
    let c1 := (foldc ((c.feeders.map (·.1)).filter (fun p => decide (p < 192))) (fun p c => c.meanOut p) c).arm (tmKey tmCrown 0) dqTick
    if c1.on R.CROWN_EN pgCROWN then c1.crownRun else c1

/-- An extra update after an agreed cause (R264). -/
def crownExtraUpdate (c : Chip) : Chip :=
  if c.twin.crownDue then
    let c1 := c.modTwin (fun t => { t with crownDue := false })
    if c1.on R.CROWN_EN pgCROWN then c1.crownRun else c1
  else c

/-- The grace of a leaf has elapsed: the current limit acts (R265). -/
def graceExpiry (c : Chip) (k : Nat) : Chip :=
  if c.due (tmKey tmGrace k) then (c.enforce k).ewJudge else c

/-- Crown is switched off: nothing is enforced any more, and a later grant starts from the contract again. DESIGN CHOICE (214). -/
def Chip.crownOff (c : Chip) : Chip :=
  let c1 := foldc (c.caps.map (·.1)) (fun k c => ((c.nodeBit R.CROWN_CAPPED k false).nodeBit R.CROWN_GRACE k false).disarm (tmKey tmGrace k)) c
  ({ c1 with caps := c1.caps.filter (fun e => e.2.warnMsg) |>.map (fun e => (e.1, { warnMsg := true })) } : Chip).ewJudge

/-- The key of a port's Crown leaf (R260, R261). -/
def Chip.leafKey (c : Chip) (p : Nat) : Nat := (c.leafOf p).getD (96 + p)

/-- A node write has changed the leaves of ports: each port's cap, limit and grace go with it to its new leaf. `was` is the chip before.
DESIGN CHOICE (214). -/
def Chip.leafMoves (c was : Chip) : Chip :=
  let mv := ((upTo 192).filter (fun p => c.isFeed p && was.leafKey p != c.leafKey p)).map (fun p => (was.leafKey p, c.leafKey p, p))
  if mv.isEmpty then c
  else
    let olds := mv.map (·.1)
    let c1 : Chip := { c with
      caps := c.caps.filter (fun e => !olds.contains e.1)
      timers := c.timers.filter (fun e => !(olds.map (tmKey tmGrace)).contains e.1) }
    let c2 := foldc olds (fun k c => (c.nodeBit R.CROWN_CAPPED k false).nodeBit R.CROWN_GRACE k false) c1
    foldc mv (fun m c =>
      let q := was.capOf m.1 m.2.2
      let c3 := (c.setCap m.2.1 q).nodeBit R.CROWN_CAPPED m.2.1 q.limit.isSome
      if was.armed (tmKey tmGrace m.1) then
        (c3.arm (tmKey tmGrace m.2.1) (mapGet was.timers (tmKey tmGrace m.1) 0 - c.now)).nodeBit R.CROWN_GRACE m.2.1 true
      else c3) c2

/-! Meanings of the rows. -/

/-- CROWN_UPDATE (R263): Every CR_CTRL.PERIOD ticks Crown allocates grants down the tree. -/
def execCrownUpdate (s : State) : Result :=
  .next (s.onChip (fun c => crownUpdate c))

/-- CROWN_EXTRA_UPDATE (R264): An extra Crown update runs at an agreed tick after a hold-up change, budget or node write. -/
def execCrownExtraUpdate (s : State) : Result :=
  .next (s.onChip (fun c => crownExtraUpdate c))

/-- GRACE_EXPIRY (R265): GRACE_US after a decrease the leaf's current limit is applied and it becomes CAPPED. -/
def execGraceExpiry (leaf : Leaf) (s : State) : Result :=
  .next (s.onChip (fun c => graceExpiry c leaf.val))

end Sys2Proof.Machine
end

