-- ==== Sys2Proof/Machine/Gauge.lean ====
section
/-! DEFINITION. Gauge.lean: battery strings: charge, usable energy, rest, impedance cells and health (R269 to R285, R329). -/

namespace Sys2Proof.Machine

/-- A GAUGE field of a string as a number. -/
def Chip.gF (c : Chip) (f : Fld) (n : Nat) : F32 := c.rdF f pgGAUGE n

/-- A GAUGE field of a string in force as a number (R284). -/
def Chip.gV (c : Chip) (f : Fld) (n : Nat) : F32 := c.rdVF f pgGAUGE n

/-- What the estimation of a string has computed last: its registers, until it has computed anything (R37, R272). -/
def Chip.strWork (c : Chip) (n : Nat) : StrWork :=
  match (c.strg n).work with
  | some w => w
  | none =>
    { soc := c.gF R.GAUGE_SOC n, unc := c.gF R.GAUGE_SOC_UNC n, wh := c.gF R.GAUGE_USABLE_WH n, soh := c.gF R.GAUGE_SOH n,
      tStr := c.rd R.GAUGE_T_STR pgGAUGE n, below := c.on R.GAUGE_BELOW_TGT pgGAUGE n, rest := c.on R.GAUGE_REST pgGAUGE n,
      empty := c.on R.GAUGE_EMPTY pgGAUGE n, held := c.on R.GAUGE_SOH_HELD pgGAUGE n }

/-- The registers that a string's estimation sets, by field key (R37, R272 to R275, R279). -/
def StrWork.writes (w : StrWork) (n : Nat) : List (Nat × Nat) :=
  let key (f : Fld) : Nat := fldKey f pgGAUGE n
  [(key R.GAUGE_SOC, w.soc.toNat), (key R.GAUGE_SOC_UNC, w.unc.toNat), (key R.GAUGE_USABLE_WH, w.wh.toNat), (key R.GAUGE_SOH, w.soh.toNat),
    (key R.GAUGE_T_STR, w.tStr), (key R.GAUGE_BELOW_TGT, b2n w.below), (key R.GAUGE_REST, b2n w.rest), (key R.GAUGE_EMPTY, b2n w.empty),
    (key R.GAUGE_SOH_HELD, b2n w.held)]

/-- Twins in SOLO, or with the other in a debug hold, need no match of digests (R37, R364). -/
def Chip.ownRule (c : Chip) : Bool := !c.paired || c.on R.TWIN_PEER_DEBUG_HOLD pgTWIN

/-- A field's value by key. -/
def Chip.byKey (c : Chip) (k : Nat) : Option Nat := (c.regs.find? (fun e => e.1 == k)).map (·.2)

/-- A class-C result differs from what is in effect. -/
def Chip.unpublished (c : Chip) (item : Nat) (ws : List (Nat × Nat)) (zs : List (F32 × F32 × Nat)) : Bool :=
  !(ws.all (fun w => c.byKey w.1 == some w.2) && (decide (item < 512) || (c.sec (item - 512)).zUse == zs))

/-- A class-C result, of values by field key and of impedance points, waits for both twins' digests (R37). A publication of Benchmark's
that the next one finds still waiting was withheld, and counts CNT_DIGEST_HOLD (R324). DESIGN CHOICE (220). -/
def Chip.publish (c : Chip) (item : Nat) (ws : List (Nat × Nat)) (zs : List (F32 × F32 × Nat) := []) : Chip :=
  if !c.unpublished item ws zs then c
  else if c.twin.classC.any (fun r => r.item == item && (r.peerOk || r.atT != 0)) then c
  else
    let held := c.twin.classC.any (fun r => r.item == item)
    let c1 := if held && (decide (item < 192) || decide (512 ≤ item)) then c.bump R.BMK_CNT pgBMK 3 else c
    let c2 := c1.modTwin (fun t => { t with classC := t.classC.filter (fun r => r.item != item) ++ [{ item := item, peerOk := c.ownRule, writes := ws, zs := zs }] })
    let c3 := c2.ownAdd (resKey item) (ws.flatMap (fun w => leBytes w.1 4 ++ leBytes w.2 4)
      ++ zs.flatMap (fun z => leBytes z.1.toNat 4 ++ leBytes z.2.1.toNat 4 ++ leBytes z.2.2 8))
    if c.ownRule then c3.propose (.classC item) else c3

/-- A string's estimation is submitted as one class-C result (R37). -/
def Chip.publishStr (c : Chip) (n : Nat) : Chip := c.publish (256 + n) ((c.strWork n).writes n)

/-- The effective capacity at a state of health (R272). -/
def Chip.capEff (c : Chip) (n : Nat) (soh : F32) : F32 :=
  let e := c.gV R.GAUGE_CAP_EOL n
  fmul (c.gV R.GAUGE_CAP_AH n) (ffma (fsub fOne e) soh e)

/-- The state of charge after a charge dq has left the string (R272). -/
def Chip.socAfter (c : Chip) (n : Nat) (w : StrWork) (dq : F32) : F32 :=
  let k : F32 := if flt fZero dq then fOne else fRat 99 100
  fclamp fZero fOne (fsub w.soc (fdiv (fmul dq k) (c.capEff n w.soh)))

/-- Discharge adds to the accumulator; each CAP_AH is a cycle (R280). -/
def Chip.countCycle (c : Chip) (n : Nat) (dq : F32) : Chip :=
  if flt fZero dq then
    let a := fadd (c.strg n).dAcc dq
    let cap := c.gV R.GAUGE_CAP_AH n
    if fle cap a then (c.modStr n (fun q => { q with dAcc := fsub a cap })).up R.GAUGE_CYCLES pgGAUGE (c.rd R.GAUGE_CYCLES pgGAUGE n + 1) n
    else c.modStr n (fun q => { q with dAcc := a })
  else c

/-- Usable energy (R275). -/
def Chip.usable (c : Chip) (n : Nat) (soc unc : F32) : F32 :=
  fmul (fmul (fmax fZero (fsub (fsub soc unc) (c.gV R.GAUGE_SOC_CUT n))) (c.capEff n (c.strWork n).soh)) (c.gV R.GAUGE_V_NOM n)

/-- The state of charge that the open-circuit table gives for a voltage; none outside its span (R273). -/
def Chip.ocvSoc (c : Chip) (v : F32) : Option F32 :=
  (upTo 15).findSome? (fun k =>
    let a := c.rdVF R.GAUGE_OCV pgGAUGE k
    let b := c.rdVF R.GAUGE_OCV pgGAUGE (k + 1)
    if fle a v && fle v b && flt a b then
      some (fdiv (fadd (fOfNat k) (fdiv (fsub v a) (fsub b a))) (fOfNat 15))
    else none)

/-- The impedance cell index of a frequency, charge bin and temperature bin (R278). -/
def zCell (f sb tb : Nat) : Nat := (f * 8 + sb) * 4 + tb
/-- The charge bin (R278). -/
def socBin (soc : F32) : Nat := min 7 (fFloor (fmul (fOfNat 8) soc)).toNat
/-- The temperature bin of a string (R278). -/
def strTempBin (t : F32) : Nat := if flt t (fOfNat 10) then 0 else if flt t (fOfNat 25) then 1 else if flt t (fOfNat 40) then 2 else 3

/-- The cell that SOH is computed from: 1 kHz, charge bin 5, temperature bin 2 (R279). -/
def sohCell : Nat := zCell 12 5 2

/-- Uncertainty of a string's current (R272). -/
def Chip.strUnc (c : Chip) (n : Nat) : F32 :=
  let ch := c.rdV R.GAUGE_CH_I pgGAUGE n
  fsum ((c.strPorts n).map (fun p => c.calUnc p ch (c.smpPhys p ch)))

/-- REST after an update with mean current `i`: the flag, and since when the current has been low (R273). -/
def Chip.restJudge (c : Chip) (n : Nat) (i : F32) : Bool × Option Nat :=
  let q := c.strg n
  if flt (fabs i) (fdiv (c.gV R.GAUGE_CAP_AH n) (fOfNat 100)) then
    let since := q.restFrom.getD c.now
    (decide (since + 1800 * dqS ≤ c.now), some since)
  else (false, none)

/-- The millisecond update of one string (R272 to R275), which is a class-C result (R32, R37). -/
def Chip.strUpdate (c : Chip) (n : Nat) : Chip :=
  let q := c.strg n
  let w := c.strWork n
  let sum := mapGet q.sums (c.tick / 20000 - 1) {}
  let k := fOfNat sum.n
  let none' := sum.n == 0
  let i := if none' then fZero else fdiv sum.i k
  let v := if none' then fZero else fdiv sum.v k
  let dt := fRat 1 1000
  let dq := fdiv (fmul i dt) (fOfNat 3600)
  let cap := c.capEff n w.soh
  let soc0 := c.socAfter n w dq
  let unc0 := fadd w.unc (fdiv (ffma (fRat 1 100) (fabs dq) (fdiv (fmul (c.strUnc n) dt) (fOfNat 3600))) cap)
  let unc1 := if none' then fadd unc0 (fRat 1 1000) else unc0
  let (rest, since) := c.restJudge n i
  let fix := rest && !w.rest && !none'
  let (soc, unc) : F32 × F32 := match fix, c.ocvSoc v with
    | true, some s => (ffma (fRat 1 2) (fsub s soc0) soc0, fmin unc1 (fRat 3 100))
    | true, none => (soc0, unc1)
    | false, _ => (soc0, unc1)
  let tgt := c.gV R.GAUGE_CHG_TGT n
  let wh := c.usable n soc unc
  let lim := fmul (fmul (fRat 1 100) cap) (c.gV R.GAUGE_V_NOM n)
  let w1 : StrWork := {
    soc := soc
    unc := unc
    wh := wh
    soh := w.soh
    tStr := if none' then w.tStr else (fdiv sum.t k).toNat
    below := if flt soc (fsub tgt (fRat 2 100)) then true else if fle tgt soc then false else w.below
    rest := rest
    empty := if fle wh fZero then true else if flt lim wh then false else w.empty
    held := !(q.cells.any (fun e => e.1 == sohCell)) }
  let c1 := c.setStr n { q with work := some w1, restFrom := since, sums := q.sums.filter (fun e => decide (c.tick / 20000 ≤ e.1)) }
  let c2 := match (upTo 8).find? (fun s => (c1.sec s).zStr == some n) with
    | some s => c1.modSec s (fun x => { x with zSum := (fadd x.zSum.1 soc, fadd x.zSum.2.1 (BitVec.ofNat 32 w1.tStr), x.zSum.2.2 + 1) })
    | none => c1
  (c2.countCycle n dq).publishStr n

/-- A string's estimation takes effect (R37, R256, R275). -/
def Chip.strApplied (c : Chip) (n : Nat) : Chip :=
  let c1 := (c.seqInc pgGAUGE).level pgGAUGE n (c.on R.GAUGE_EMPTY pgGAUGE n)
  foldc ((upTo 8).filter (fun s => (c1.shareLaw s).isSome)) (fun s c => c.brimJudge s) c1

/-- The strings in use. -/
def Chip.validStrs (c : Chip) : List Nat := (upTo 24).filter (fun n => c.onV R.GAUGE_VALID pgGAUGE n)

/-- Class C is shed: no instance of it is dispatched (R32, R436). -/
def Chip.shed (c : Chip) : Bool := c.rd R.THM_STEP pgTHM == 9

/-- A millisecond passes without an update of a string: the sums of its ticks are dropped, and the current was not seen low throughout
(R273). DEDUCED (165). -/
def Chip.strSkip (c : Chip) (n : Nat) : Chip :=
  c.modStr n (fun q => { q with restFrom := none, sums := q.sums.filter (fun e => decide (c.tick / 20000 ≤ e.1)) })

/-- Every 1 ms each string is updated (R272), while estimation runs and class C is not shed (R32); what has been written to the page comes
into force (R284). The update comes when every frame of the millisecond has come or been given up under R31, two ticks into the next,
DESIGN CHOICE (212). -/
def gaugeUpdate (c : Chip) : Chip :=
  if c.tick < 20002 ∨ (c.tick - 2) % 20000 ≠ 0 ∨ (c.armed (tmKey tmGauge 0) ∧ !c.due (tmKey tmGauge 0)) then c
  else
    let runs (n : Nat) : Bool := c.onV R.GAUGE_EN pgGAUGE && c.onV R.GAUGE_VALID pgGAUGE n && !c.shed
    let c1 := foldc ((c.strs.map (·.1)).filter (fun n => !runs n)) (fun n c => c.strSkip n) (c.arm (tmKey tmGauge 0) dqTick)
    (foldc ((upTo 24).filter runs) (fun n c => c.strUpdate n) c1).takeCfg pgGAUGE (pgGAUGE + 0x1000)

/-- The section whose SHARE_MPC has a port as member. -/
def Chip.memberSec (c : Chip) (p : Nat) : Option Nat := (upTo 8).find? (fun s => (c.members s).contains p)

/-- A port is a bound battery member (R270). -/
def Chip.boundBatt (c : Chip) (p : Nat) : Bool := decide (p < 192) && c.isBatt p && (c.portLaw p).isSome && (c.memberSec p).isSome

/-- The fields of a string's block as they would stand, for the checks of R270. -/
def Chip.strOk (c : Chip) (n : Nat) : Bool :=
  let p0 := c.rd R.GAUGE_PORT0 pgGAUGE n
  let p1 := c.rd R.GAUGE_PORT1 pgGAUGE n
  let used (p : Nat) : Bool := (upTo 24).any (fun m => m != n && c.on R.GAUGE_VALID pgGAUGE m
    && (c.rd R.GAUGE_PORT0 pgGAUGE m == p || c.rd R.GAUGE_PORT1 pgGAUGE m == p))
  let unit (f : Fld) : Bool := let x := c.gF f n; fIsFin x && fle fZero x && fle x fOne
  c.boundBatt p0 && (p1 == 0xFF || (c.boundBatt p1 && c.memberSec p1 == c.memberSec p0)) && !used p0 && (p1 == 0xFF || !used p1)
  && fPos (c.gF R.GAUGE_CAP_AH n) && fPos (c.gF R.GAUGE_V_NOM n) && fPos (fsub (c.gF R.GAUGE_R_EOL n) (c.gF R.GAUGE_R_BOL n))
  && unit R.GAUGE_SOC_CUT && unit R.GAUGE_CHG_TGT && unit R.GAUGE_CAP_EOL

/-! Impedance (R276 to R279, R329). -/

/-- A string can be measured: its section is ON_SOURCE and its members spin or recharge (R277). -/
def Chip.zCan (c : Chip) (s n : Nat) : Bool :=
  c.rd R.HOLD_STATE pgHOLD s == 1 && !c.on R.HOLD_SHAVING pgHOLD s
  && (c.strPorts n).all (fun p => c.memberSec p == some s && (c.port p).cmd.mode != 0 && (c.ph p == 1 || c.ph p == 2)
      && ((c.port p).cmd.mode == 2 || c.on R.HOLD_RECHARGING pgHOLD s))

/-- The lowest frequency index of a string whose cell in its present bins is 1 h old or unfilled (R329). -/
def Chip.zDue (c : Chip) (n : Nat) : Option Nat :=
  let q := c.strg n
  let sb := socBin (c.gF R.GAUGE_SOC n)
  let tb := strTempBin (c.gF R.GAUGE_T_STR n)
  (upTo 16).find? (fun f => match q.cellAt.find? (fun e => e.1 == zCell f sb tb) with
    | some e => decide (e.2 + 3600 * dqS ≤ c.now)
    | none => true)

/-- Benchmark begins a measurement in a section: the lowest string and frequency that are due (R329). -/
def zMeasureStart (c : Chip) (s : Nat) : Chip :=
  if (c.sec s).zStr.isSome || !c.on R.BMK_EN pgBMK || !c.onV R.GAUGE_EN pgGAUGE || c.ditherBad s || c.shed || !c.takesWork pgGAUGE then c
  else
    let ns := c.validStrs.filter (fun n => c.zCan s n)
    match ns.findSome? (fun n => (c.zDue n).map (fun f => (n, f))) with
    | none => c
    | some (n, f) =>
      ((c.modSec s (fun q => { q with zStr := some n, zStart := c.tick, zSum := (0, 0, 0), zBad := false, zV := (0, 0), zI := (0, 0) })).hw pgBMK [(R.BMK_ZSTRING, s, n), (R.BMK_ZFREQ, s, f)]).up
        R.GAUGE_Z_ACTIVE pgGAUGE 1 n

/-- The LEAD or SOLO twin writes a changed cell to the record at once (R280). -/
def Chip.writeCell (c : Chip) (n k : Nat) (v : F32 × F32) : Chip :=
  if !c.leads then c
  else c.modMram (fun m =>
    let old : Nat × StrSt × F32 × F32 × F32 × Word := match m.battery.find? (fun e => e.1 == n) with | some e => e | none => (n, {}, 0, 0, fOne, 0)
    let q : StrSt := { old.2.1 with cells := mapSet old.2.1.cells k v, cellAt := mapSet old.2.1.cellAt k c.now }
    { m with battery := m.battery.filter (fun e => e.1 != n) ++ [(n, q, old.2.2)] })

/-- A result goes into the cell of the means over its measurement (R278): the first fills it, a later one moves it by a quarter, at most
one an hour. SOH follows its cell (R279). -/
def Chip.zStore (c : Chip) (s n f : Nat) (re im : F32) : Chip :=
  let q := c.strg n
  let w := c.strWork n
  let z := (c.sec s).zSum
  let m := fOfNat z.2.2
  let k := if z.2.2 = 0 then zCell f (socBin w.soc) (strTempBin (BitVec.ofNat 32 w.tStr)) else zCell f (socBin (fdiv z.1 m)) (strTempBin (fdiv z.2.1 m))
  let young := match q.cellAt.find? (fun e => e.1 == k) with | some e => decide (c.now < e.2 + 3600 * dqS) | none => false
  if young then c
  else
    let v : F32 × F32 := match q.cells.find? (fun e => e.1 == k) with
      | some e => (ffma (fRat 1 4) (fsub re e.2.1) e.2.1, ffma (fRat 1 4) (fsub im e.2.2) e.2.2)
      | none => (re, im)
    let q1 : StrSt := { q with cells := mapSet q.cells k v, cellAt := mapSet q.cellAt k c.now }
    if k = sohCell then
      let e := c.gV R.GAUGE_R_EOL n
      let soh := fclamp fZero fOne (fdiv (fsub e v.1) (fsub e (c.gV R.GAUGE_R_BOL n)))
      ((c.setStr n { q1 with work := some { w with soh := soh, held := false } }).writeCell n k v).publishStr n
    else (c.setStr n q1).writeCell n k v

/-- Something spoils the measurement of a section: dither is suspended, the string has left its conditions, or class C is shed (R32,
R277). -/
def Chip.zSpoilt (c : Chip) (s : Nat) : Bool :=
  match (c.sec s).zStr with
  | none => false
  | some n => !c.zCan s n || c.ditherBad s || c.shed || !c.onV R.GAUGE_EN pgGAUGE || !c.onV R.GAUGE_VALID pgGAUGE n

/-- A tick of a measurement (R277). -/
def Chip.zTick (c : Chip) (s : Nat) : Chip := if c.zSpoilt s then c.modSec s (fun q => { q with zBad := true }) else c

/-- The complex ratio of the phasors a - jb and p - jq (R277). -/
def zRatio (v i : F32 × F32) : F32 × F32 :=
  let m := ffma i.1 i.1 (fmul i.2 i.2)
  (fdiv (ffma v.1 i.1 (fmul v.2 i.2)) m, fdiv (fsub (fmul v.1 i.2) (fmul v.2 i.1)) m)

/-- A measurement ends (R277, R278) when its time is over, and at once when it is to be discarded. The command names the measurement by
its string, its frequency index and the tick in which it began; naming another it does nothing, DESIGN CHOICE (197). -/
def zMeasureEnd (c : Chip) (s n f start : Nat) : Chip :=
  let q := c.sec s
  if q.zStr ≠ some n ∨ c.rd R.BMK_ZFREQ pgBMK s ≠ f ∨ q.zStart ≠ start then c
  else
    let ok := !q.zBad && !c.zSpoilt s
    let z := zRatio q.zV q.zI
    if ok && decide ((c.tick - q.zStart) * dqTick < zTime f) then c
    else
      let c1 := ((c.modSec s (fun q => { q with zStr := none })).up R.BMK_ZSTRING pgBMK 0x1F s).up R.GAUGE_Z_ACTIVE pgGAUGE 0 n
      if ok then c1.zStore s n f z.1 z.2 else c1

/-! Battery records (R280). -/

/-- The stored form of a string's record. -/
def Chip.battRecord (c : Chip) (n : Nat) : Nat × StrSt × F32 × F32 × F32 × Word :=
  let w := c.strWork n
  (n, { (c.strg n) with work := none, restFrom := none, sums := [] }, w.soc, w.unc, w.soh, BitVec.ofNat 32 (c.rd R.GAUGE_CYCLES pgGAUGE n))

/-- Writes the records of strings to MRAM. -/
def Chip.writeBatt (c : Chip) (ns : List Nat) : Chip :=
  c.modMram (fun m => { m with battery := m.battery.filter (fun e => !ns.contains e.1) ++ ns.map c.battRecord })

/-- The LEAD or SOLO twin writes battery records every 60 s, the first time when it becomes so (R280); changed cells have been written at
once. -/
def batteryRecordWrite (c : Chip) : Chip :=
  if !c.leads then c
  else if !c.armed (tmKey tmBatt 0) || c.due (tmKey tmBatt 0) then (c.writeBatt c.validStrs).arm (tmKey tmBatt 0) (60 * dqS)
  else c

/-- A start loads the stored records (R280). -/
def Chip.loadBatt (c : Chip) : Chip :=
  foldc c.mram.battery (fun e c =>
    (c.setStr e.1 e.2.1).hw pgGAUGE [(R.GAUGE_SOC, e.1, e.2.2.1.toNat), (R.GAUGE_SOC_UNC, e.1, e.2.2.2.1.toNat),
      (R.GAUGE_SOH, e.1, e.2.2.2.2.1.toNat), (R.GAUGE_CYCLES, e.1, e.2.2.2.2.2.toNat)]) c

/-! Meanings of the rows. -/

/-- GAUGE_UPDATE (R272): Every 1 ms each string's SOC, uncertainty and temperature are updated. -/
def execGaugeUpdate (s : State) : Result :=
  .next (s.onChip (fun c => gaugeUpdate c))

/-- Z_MEASURE_START (R329): Benchmark chooses a string and frequency and starts injecting the sine current. -/
def execZMeasureStart (sec : Sec) (s : State) : Result :=
  .next (s.onChip (fun c => zMeasureStart c sec.val))

/-- Z_MEASURE_END (R278): A battery impedance measurement ends and fills or updates its cell, or is discarded. -/
def execZMeasureEnd (sec : Sec) (strN : Str) (freq : Hex) (start : Nat) (s : State) : Result :=
  .next (s.onChip (fun c => zMeasureEnd c sec.val strN.val freq.val start))

/-- BATTERY_RECORD_WRITE (R280): The LEAD or SOLO twin writes battery records to MRAM every 60 s. -/
def execBatteryRecordWrite (s : State) : Result :=
  .next (s.onChip (fun c => batteryRecordWrite c))

end Sys2Proof.Machine
end

