-- ==== Sys2Proof/Machine/Cal.lean ====
section
/-! DEFINITION. Cal.lean: Benchmark's windows, bins and publications, zero-current windows and the impedance of the bus bar (R311 to
R332). The correlations with the dither, the current balance and the transforms of a window come with the command that ends it: the
manual names what they relate, and neither their equations nor their uncertainties. DESIGN CHOICE (219). -/

namespace Sys2Proof.Machine

/-- Uncertainties grow by a rate per hour of Datum (R325), up to a cap. -/
def aged (u rate cap : F32) (dq : Nat) : F32 := fmin cap (ffma rate (fdiv (fSecs dq) (fOfNat 3600)) u)

/-- The Datum of the present tick, which both twins share (R326). -/
def Chip.timeTick (c : Chip) : Nat := c.tick * dqTick

/-- A bin in use at the present time: its values with aged uncertainties (R322, R325). -/
structure BinNow where
  b : Nat
  gain : F32
  offset : F32
  uncG : F32
  uncO : F32
  age : Nat
deriving DecidableEq, Repr

/-- The filled bins of a channel, by 8 x temperature bin + load bin (R322, R325). -/
def Chip.filledBins (c : Chip) (p ch : Nat) : List BinNow :=
  let q := c.cal (4 * p + ch)
  let fs := c.calFs p ch
  (q.bins.filter (fun e => decide (c.rdV R.BMK_FILL_WIN pgBMK ≤ e.2.n))).map (fun e =>
    ⟨e.1, e.2.gain, e.2.offset, aged e.2.uncG (c.rdVF R.BMK_AGE_G pgBMK) (c.rdVF R.BMK_UNC_MAX_G pgBMK) (c.timeTick - e.2.atT),
      aged e.2.uncO (fmul (c.rdVF R.BMK_AGE_O pgBMK) fs) (fmul (c.rdVF R.BMK_UNC_MAX_O pgBMK) fs) (c.timeTick - q.offAt), c.timeTick - e.2.atT⟩)

/-- Linear interpolation. -/
def lerp (a b w : F32) : F32 := ffma w (fsub b a) a

/-- The centre of a load bin, as a fraction of FS. -/
def binCentre (b : Nat) : F32 := fRat (2 * (b % 8) + 1) 16

/-- What one row of R323 gives: the bin values, and whether the point lies above the highest filled bin's range. -/
def rowOf (q : F32) (bs : List BinNow) : Option (BinNow × Bool) :=
  match bs.reverse.find? (fun b => fle (binCentre b.b) q), bs.find? (fun b => flt q (binCentre b.b)) with
  | some lo, some hi =>
    let w := fdiv (fsub q (binCentre lo.b)) (fsub (binCentre hi.b) (binCentre lo.b))
    some ({ lo with
      gain := lerp lo.gain hi.gain w
      offset := lerp lo.offset hi.offset w
      uncG := fmax lo.uncG hi.uncG
      uncO := fmax lo.uncO hi.uncO
      age := min lo.age hi.age }, false)
  | none, some hi => some (hi, false)
  | some lo, none => some (lo, flt (fRat (lo.b % 8 + 1) 8) q)
  | none, none => none

/-- The temperature bin whose filled bins are used: the present one, else the nearest, the hotter on a tie (R323). -/
def nearTemp (tb : Nat) (bs : List BinNow) : Option Nat :=
  let has (t : Nat) : Bool := bs.any (fun b => b.b / 8 == t)
  if has tb then some tb
  else [1, 2, 3].findSome? (fun k => if has (tb + k) && decide (tb + k < 4) then some (tb + k) else if k ≤ tb && has (tb - k) then some (tb - k) else none)

/-- In-use values of a channel (R323): gain, offset, uncertainties, extrapolated, age. None where no bin is filled. -/
def Chip.inUse (c : Chip) (p ch : Nat) : Option (BinNow × Bool) :=
  let bs := c.filledBins p ch
  let q := (c.cal (4 * p + ch)).opPoint
  let tb := c.tempBin p
  match nearTemp tb bs with
  | none => none
  | some t =>
    match rowOf q (bs.filter (fun b => b.b / 8 == t)) with
    | none => none
    | some (b, above) =>
      if above || t != tb then
        let d := c.rdVF R.BMK_EXTRAP_DERATE pgBMK
        let worst (f : BinNow → F32) : F32 := (bs.map f).foldl fmax fZero
        some ({ b with uncG := fmul (worst BinNow.uncG) d, uncO := fmul (worst BinNow.uncO) d }, true)
      else some (b, false)

/-- Minutes of a number of dq, saturating at 65,535. -/
def minutes (dq : Nat) : Nat := min 65535 (dq / (60 * dqS))

/-- The field values a publication gives one channel, by field key (R323, R325, R332). Without a filled bin the values of R312 return. A
PHASE_I channel has no offset but that of zero-current windows (R311). STALE is set at a cap and stays until an accepted result clears
it (R325). -/
def Chip.calWrites (c : Chip) (p ch : Nat) : List (Nat × Nat) :=
  let b := pgSP p
  let q := c.cal (4 * p + ch)
  let key (f : Fld) : Nat := fldKey f b ch
  let l : List (Nat × Nat) := if feq q.ind fZero then [] else [(key R.SP_L_EST, q.ind.toNat)]
  let fs := c.calFs p ch
  let maxO := fmul (c.rdVF R.BMK_UNC_MAX_O pgBMK) fs
  match c.inUse p ch with
  | none => (if c.on R.SP_CAL_UNCAL b ch then [] else [(key R.SP_CAL_UNCAL, 1), (key R.SP_CAL_EXTRAP, 0), (key R.SP_CAL_FILLED, 0), (key R.SP_CAL_AGE_MIN, 0)]) ++ l
  | some (u, ex) =>
    let (off, uo) : F32 × F32 := match q.zeroOff with
      | some z => (z.1, if ex then u.uncO else aged z.2 (fmul (c.rdVF R.BMK_AGE_O pgBMK) fs) maxO (c.timeTick - q.offAt))
      | none => if c.rd R.SP_CAL_KIND b ch = 1 then (fZero, fmul (c.rdVF R.BMK_UNC0_O pgBMK) fs) else (u.offset, u.uncO)
    let stale := fle (c.rdVF R.BMK_UNC_MAX_G pgBMK) u.uncG || fle maxO uo
    [(key R.SP_CAL_GAIN, u.gain.toNat), (key R.SP_CAL_OFFSET, off.toNat), (key R.SP_CAL_UNC_G, u.uncG.toNat), (key R.SP_CAL_UNC_O, uo.toNat),
      (key R.SP_CAL_EXTRAP, b2n ex), (key R.SP_CAL_UNCAL, 0),
      (key R.SP_CAL_FILLED, (c.filledBins p ch).length), (key R.SP_CAL_AGE_MIN, minutes u.age)]
      ++ (if stale then [(key R.SP_CAL_STALE, 1)] else []) ++ l

/-- A port's calibrated channels: those Benchmark estimates, with a scale (R311, R550). -/
def Chip.calChans (c : Chip) (p : Nat) : List Nat :=
  [0, 1, 2, 3].filter (fun ch => let k := c.rd R.SP_CAL_KIND (pgSP p) ch; decide (1 ≤ k) && decide (k ≤ 3) && c.scaled p ch)

/-- CAL_STALE of the BMK page is live while any channel has STALE (R331). -/
def Chip.staleLevel (c : Chip) : Chip :=
  c.level pgBMK 8 ((upTo 192).any (fun p => (List.range 4).any (fun ch => c.on R.SP_CAL_STALE (pgSP p) ch)))

/-- What a port's calibration derives: STALE and the thresholds at its stage end (R221, R293, R325); `was` tells which channels were
stale before. -/
def Chip.calChanged (c : Chip) (p : Nat) (was : Nat → Bool) : Chip :=
  let c2 := (c.seqInc (pgSP p)).rewriteThresholds p
  let new := (List.range 4).any (fun ch => c2.on R.SP_CAL_STALE (pgSP p) ch && !was ch)
  let c3 := c2.staleLevel
  if new then c3.raise 0x62 p else c3

/-- The uncertainties in use of a channel, aged since they were published; one that reaches its cap sets STALE (R45, R325, R326). -/
def Chip.ageWrites (c : Chip) (p ch : Nat) : List (Nat × Nat) :=
  let q := c.cal (4 * p + ch)
  let key (f : Fld) : Nat := fldKey f (pgSP p) ch
  let fs := c.calFs p ch
  let dq := (c.tick - q.useAt) * dqTick
  let maxO := fmul (c.rdVF R.BMK_UNC_MAX_O pgBMK) fs
  let maxG := c.rdVF R.BMK_UNC_MAX_G pgBMK
  if c.on R.SP_CAL_UNCAL (pgSP p) ch || q.useAt == 0 then []
  else
    let g := fmax q.useG (aged q.useG (c.rdVF R.BMK_AGE_G pgBMK) maxG dq)
    let o := fmax q.useO (aged q.useO (fmul (c.rdVF R.BMK_AGE_O pgBMK) fs) maxO dq)
    let stale := (fle maxG g && !fle maxG (c.rdF R.SP_CAL_UNC_G (pgSP p) ch)) || (fle maxO o && !fle maxO (c.rdF R.SP_CAL_UNC_O (pgSP p) ch))
    [(key R.SP_CAL_UNC_G, g.toNat), (key R.SP_CAL_UNC_O, o.toNat), (key R.SP_CAL_STALE, b2n (stale || c.on R.SP_CAL_STALE (pgSP p) ch))]

/-- A port's calibration ages in both twins alike, whatever Benchmark publishes (R45, R326). -/
def Chip.agePort (c : Chip) (p : Nat) : Chip :=
  let ws := (c.calChans p).flatMap (c.ageWrites p)
  if ws.all (fun w => c.byKey w.1 == some w.2) then c
  else
    let was (ch : Nat) : Bool := c.on R.SP_CAL_STALE (pgSP p) ch
    ({ c with regs := ws.foldl (fun m w => mapSet m w.1 w.2) c.regs } : Chip).calChanged p was

/-- FLAT_Z of a section with Felting members follows the impedance as it ages (R234, R328). -/
def Chip.flatFollow (c : Chip) (s : Nat) : Chip :=
  if (c.sec s).members = [] ∨ c.on R.FELT_FLAT_Z pgFELT s = c.flatZ s then c else c.hw pgFELT [(R.FELT_FLAT_Z, s, b2n (c.flatZ s))]

/-- Z_STALE of a section: no fit, or no point within the last hour (R328, R331). -/
def Chip.zStale (c : Chip) (s : Nat) : Chip :=
  let q := c.sec s
  let st := q.zfit.isNone || decide (q.zAt + 3600 * dqS ≤ c.now)
  let c1 := if c.on R.BMK_Z_STALE pgBMK s == st then c else c.up R.BMK_Z_STALE pgBMK (b2n st) s
  c1.level pgBMK s st

/-- The operating points of a port's channels: the mean magnitude over the last millisecond whose frames are all in (R323). -/
def Chip.takeOps (c : Chip) (p : Nat) : Chip :=
  let ms := (c.tick - 2) / 20000 - 1
  foldc (c.calChans p) (fun ch c =>
    let o := mapGet (c.cal (4 * p + ch)).ops ms (0, 0)
    if o.2 = 0 then c else c.modCal (4 * p + ch) (fun q => { q with opPoint := fRatI o.1 ((o.2 : Int) * 2 ^ 32) })) c

/-- A class-C result is submitted, or withheld while the twins resolve a disagreement (R37, R324, R345). -/
def Chip.submit (c : Chip) (item : Nat) (ws : List (Nat × Nat)) (zs : List (F32 × F32 × Nat)) : Chip :=
  if c.on R.TWIN_RESOLVING pgTWIN then
    (if c.unpublished item ws zs then c.bump R.BMK_CNT pgBMK 3 else c)
  else c.publish item ws zs

/-- Settings that take effect at the next window are in force at once where no window is in progress (R330). -/
def Chip.bmkSettle (c : Chip) : Chip :=
  if (upTo 8).any (fun s => c.armed (tmKey tmPubl (1 + s))) then c else c.takeCfg (pgBMK + 0x100) (pgBMK + 0x120)

/-- Every PUB_MS the calibration in use ages (R325, R326), and Benchmark publishes (R324): not while class C is shed (R326), nor in a chip
that is joining, which the LEAD hands what it publishes. The instants are those two ticks after a multiple of PUB_MS, when the frames of the
last millisecond are in. DESIGN CHOICE (212). -/
def calPublish (c : Chip) : Chip :=
  let per := 20000 * (c.bmkSettle).rdV R.BMK_PUB_MS pgBMK
  if c.tick < 20002 ∨ (c.tick - 2) % per ≠ 0 ∨ (c.armed (tmKey tmPubl 0) ∧ !c.due (tmKey tmPubl 0)) then c
  else
    let c0 := foldc (upTo 192) (fun p c => c.agePort p) (c.bmkSettle.arm (tmKey tmPubl 0) dqTick)
    let c1 := foldc (upTo 8) (fun s c => (if c.on R.BMK_EN pgBMK then c.zStale s else c).flatFollow s) c0
    if !c1.on R.BMK_EN pgBMK || c1.shed || c1.rd R.TWIN_STATE pgTWIN == 2 then c1
    else
      let c2 := foldc (upTo 192) (fun p c =>
        let c' := c.takeOps p
        let chs := c'.calChans p
        if chs.isEmpty then c' else c'.submit p (chs.flatMap (c'.calWrites p)) []) c1
      foldc (upTo 8) (fun s c =>
        let q := c.sec s
        let fit : List (Nat × Nat) := match q.zfit with
          | some (f0, pk, qf) => [(fldKey R.BMK_Z_RES_HZ pgBMK s, f0.toNat), (fldKey R.BMK_Z_PK pgBMK s, pk.toNat), (fldKey R.BMK_Z_Q pgBMK s, qf.toNat)]
          | none => []
        if fit.isEmpty && q.zpts.isEmpty then c else c.submit (512 + s) fit q.zpts) c2

/-! News of the calibration for a twin that joins (R312, R357). -/

/-- A twin is being handed the state: it has reached CONFIG (R357). -/
def Chip.joinerHears (c : Chip) : Bool := c.solo && decide (2 ≤ c.rd R.TWIN_JOIN_PHASE pgTWIN)

/-- What a channel keeps beside its registers and bins, as a MIRROR message (R312, R357). -/
def CalSt.msg (k : Nat) (q : CalSt) : MirrorMsg :=
  let w (n : Nat) : Word := BitVec.ofNat 32 n
  let z := q.zeroOff.getD (0, 0)
  .service 5 k [q.useG, q.useO, w q.useAt, w (q.useAt / 2 ^ 32), w q.offAt, w (q.offAt / 2 ^ 32), q.opPoint, q.ind, w (b2n q.zeroOff.isSome), z.1, z.2]

/-- The LEAD sends a channel's bins and what goes with them (R312, R357). -/
def Chip.sendBins (c : Chip) (k : Nat) : Chip :=
  let q := c.cal k
  (foldc q.bins (fun b c =>
    c.send (.chain (.mirror (.bin (portFin (k / 4)) ⟨k % 4, Nat.mod_lt _ (by decide)⟩ b.1 b.2.gain b.2.offset b.2.uncG b.2.uncO b.2.n b.2.atT)))) c).send
    (.chain (.mirror (q.msg k)))

/-- The LEAD sends the calibration block of a channel as it stands, but KIND, NODE and FS (R312, R347). -/
def Chip.sendCalRegs (c : Chip) (p ch : Nat) : Chip :=
  foldc [R.SP_CAL_GAIN, R.SP_CAL_OFFSET, R.SP_CAL_UNC_G, R.SP_CAL_UNC_O, R.SP_CAL_EXTRAP, R.SP_CAL_STALE, R.SP_CAL_UNCAL, R.SP_CAL_NODE_CONSENSUS,
    R.SP_CAL_FILLED, R.SP_CAL_AGE_MIN, R.SP_L_EST] (fun f c =>
      c.send (.chain (.mirror (.status (fldKey f (pgSP p) ch) (c.rd f (pgSP p) ch))))) c

/-- A change of a channel's calibration goes to a twin that joins (R312, R357). -/
def Chip.tellCal (c : Chip) (p ch : Nat) : Chip :=
  if c.joinerHears || (c.paired && c.leads && (c.sec (c.calSec p)).winOld) then (c.sendBins (4 * p + ch)).sendCalRegs p ch else c

/-- Impedance points as words. -/
def zWords (l : List (F32 × F32 × Nat)) : List Word :=
  l.flatMap (fun z => [z.1, z.2.1, BitVec.ofNat 32 z.2.2, BitVec.ofNat 32 (z.2.2 / 2 ^ 32)])

/-- What a section keeps of its bus-bar impedance, as MIRROR messages (R328, R357). -/
def SecSt.zMsgs (q : SecSt) (s : Nat) (datum now : Nat) : List MirrorMsg :=
  let z := q.zfit.getD (0, 0, 0)
  let at' := datum - (now - q.zAt)
  [.service 6 s (zWords q.zUse), .service 7 s (zWords q.zpts),
   .service 13 s [BitVec.ofNat 32 (b2n q.zfit.isSome), z.1, z.2.1, z.2.2, BitVec.ofNat 32 at', BitVec.ofNat 32 (at' / 2 ^ 32)]]

/-- A change of a section's impedance goes to a twin that joins (R312, R357). -/
def Chip.tellZ (c : Chip) (s : Nat) : Chip :=
  if c.joinerHears || (c.paired && c.leads && (c.sec s).winOld) then
    foldc ((c.sec s).zMsgs s c.datum c.now) (fun m c => c.send (.chain (.mirror m))) c
  else c

/-- A value has moved by more than a fraction of the one before. -/
def movedBy (old new : F32) (num den : Nat) : Bool := flt (fmul (fabs old) (fRat num den)) (fabs (fsub new old))

/-- A publication has set a port's calibration: its uncertainties age from now on (R325). -/
def Chip.calBase (c : Chip) (p : Nat) : Chip :=
  foldc ((List.range 4).filter (fun ch => !c.on R.SP_CAL_UNCAL (pgSP p) ch)) (fun ch c =>
    c.modCal (4 * p + ch) (fun q => { q with useG := c.rdF R.SP_CAL_UNC_G (pgSP p) ch, useO := c.rdF R.SP_CAL_UNC_O (pgSP p) ch, useAt := c.tick })) c

/-- The channel whose calibration block a register key lies in (R332). -/
def calChanOf (key : Nat) : Nat := (key / 32 % 0x1000 - 0x300) / 0x20

/-- A class-C result takes effect as one set (R37, R44): a calibration with the thresholds derived from it (R221, R293) and its
staleness (R325), of the channels that Benchmark still estimates and that have a scale (R332, R550), a battery string's estimation, or an impedance with the recompute it triggers (R236). -/
def classCResultApply (c : Chip) (item : Nat) : Chip :=
  match c.twin.classC.find? (fun r => r.item == item) with
  | none => c
  | some r =>
    if !r.peerOk ∨ r.atT = 0 ∨ c.tick < r.atT then c
    else
      let c1 := c.modTwin (fun t => { t with classC := t.classC.filter (fun q => q.item != item) })
      let ws := if item < 192 then r.writes.filter (fun w => (c.calChans item).contains (calChanOf w.1)) else r.writes
      let c2 : Chip := { c1 with regs := ws.foldl (fun m w => mapSet m w.1 w.2) c1.regs }
      if item < 192 then
        foldc (c.calChans item) (fun ch c => c.tellCal item ch) ((c2.calBase item).calChanged item (fun ch => c.on R.SP_CAL_STALE (pgSP item) ch))
      else if 256 ≤ item ∧ item < 280 then c2.strApplied (item - 256)
      else if 512 ≤ item ∧ item < 520 then
        let s := item - 512
        let c3 := (c2.modSec s (fun q => { q with zUse := r.zs })).seqInc pgBMK
        let f0 := c3.rdF R.BMK_Z_RES_HZ pgBMK s
        let pk := c3.rdF R.BMK_Z_PK pgBMK s
        let q := c3.sec s
        let c4 := c3.hw pgFELT [(R.FELT_FS_RES_HZ, s, f0.toNat), (R.FELT_FS_ZPK, s, pk.toNat)]
        if movedBy q.feltRes f0 2 100 || movedBy q.feltPk pk 10 100 then
          (c4.modSec s (fun q => { q with feltRes := f0, feltPk := pk })).feltTrigger s
        else c4
      else c2

/-! Windows (R318 to R322, R327, R328). -/

/-- A quarter of the way to a new value (R322). -/
def quarter (old new : F32) : F32 := ffma (fRat 1 4) (fsub new old) old

/-- The temperature bin of a fit: that of the mean stage temperature, of the trip temperature where a sensor has failed, and bin 0 without
a sensor (R322). -/
def Chip.fitBin (c : Chip) (p : Nat) (t : F32) : Nat :=
  if (c.stageTemp p (c.tripTemp p)).isNone || c.ssFailed p 0 || c.ssFailed p 1 then c.tempBin p
  else if flt t (fOfNat 25) then 0 else if flt t (fOfNat 50) then 1 else if flt t (fOfNat 75) then 2 else 3

/-- Some channel of a voltage node is a REF channel (R320). -/
def Chip.nodeRef (c : Chip) (node : Nat) : Bool :=
  (upTo 192).any (fun p => (List.range 4).any (fun ch => c.rd R.SP_CAL_KIND (pgSP p) ch == 4 && c.rd R.SP_CAL_NODE (pgSP p) ch == node))

/-- The magnitude of a window's samples, as a fraction of FS (R322). -/
def WinSum.meanLoad (w : WinSum) : F32 := fRatI w.load ((w.n : Int) * 2 ^ 32)
/-- The mean stage temperature of a window, °C (R322). -/
def WinSum.meanTemp (w : WinSum) : F32 := fRatI w.temp ((w.n : Int) * 2 ^ 32)
/-- The span of a window's codes as a fraction of FS (R320). -/
def WinSum.span (w : WinSum) (gain fs : F32) : F32 := fdiv (fmul (fabs gain) (fOfInt (w.hi - w.lo))) fs

/-- The least-squares line of the references of a window over its codes (R318, R320): the gain and the offset in codes; none where the codes
or the references do not vary. -/
def WinSum.line (w : WinSum) : Option (F32 × F32) :=
  let n : Int := w.rn
  let num := n * w.scr - w.sc * w.sr
  let den := n * w.scc - w.sc * w.sc
  if num = 0 ∨ den = 0 then none
  else some (fRatI num (den * 2 ^ 32), fRatI (w.sc * num - w.sr * den) (n * num))

/-- The offset alone that a window's references give under a gain (R320): that of their means. -/
def WinSum.level (w : WinSum) (gain : F32) : F32 := fsub (fRatI w.sc w.rn) (fdiv (fRatI w.sr ((w.rn : Int) * 2 ^ 32)) gain)

/-- The inductance of a phase for a window: that of the window, else the last one, else the law's (R201, R319). -/
def Chip.windowInd (c : Chip) (w : CalWindow) (p : Nat) : F32 :=
  match w.ind.find? (fun e => e.1.val == p) with
  | some e => e.2
  | none => match c.portLaw p with | some (_, l) => c.lawInd p l.desc | none => fZero

/-- The gain that a window gives a PHASE_I channel (R319): the product of GAIN ÷ L and L; without a reference current, the present gain
corrected by the ratio of its product to the mean of those ratios over the window's members. -/
def Chip.phaseGain (c : Chip) (k : BmkCfg) (w : CalWindow) (f : CalFit) : F32 :=
  let gain (x : CalFit) : F32 := fmul x.gain (c.windowInd w x.port.val)
  if k.refI ≠ 0xFF then gain f
  else
    let here (x : CalFit) : F32 := c.calGain x.port.val x.ch.val
    let ratio (x : CalFit) : F32 := fdiv (gain x) (here x)
    let ms := w.fits.filter (fun x => c.rd R.SP_CAL_KIND (pgSP x.port.val) x.ch.val == 1)
    let mean := fdiv (fsum (ms.map ratio)) (fOfNat ms.length)
    fmul (here f) (fdiv (ratio f) mean)

/-- A window's result for a channel: gain and offset, and whether the gain was fitted (R319, R320). Values that span less than SPAN_MIN fit
the offset alone. -/
def Chip.fitOf (c : Chip) (k : BmkCfg) (w : CalWindow) (f : CalFit) : F32 × F32 × Bool :=
  let p := f.port.val
  let ch := f.ch.val
  let kind := c.rd R.SP_CAL_KIND (pgSP p) ch
  let g := c.calGain p ch
  let q := (c.cal (4 * p + ch)).win
  let wide := !flt (q.span g (c.calFs p ch)) (fRat k.span 65536)
  if kind = 1 then (c.phaseGain k w f, f.offset, true)
  else if kind = 3 then
    match (if wide then q.line else none) with
    | some (a, b) => (a, b, true)
    | none => (g, q.level g, false)
  else (if wide then f.gain else g, f.offset, wide)

/-- An accepted fit of a section's window goes into the bin of its mean load and temperature: the first sets the bin, a later one moves it
by a quarter, its uncertainty from what it has grown to (R320, R322, R325). Without a reference current the common scale of the phases keeps
its uncertainty (R319). An offset of zero-current windows stays the channel's, with its age (R321, R325). -/
def Chip.storeFit (c : Chip) (s : Nat) (w : CalWindow) (f : CalFit) : Chip :=
  let p := f.port.val
  let ch := f.ch.val
  let q := c.cal (4 * p + ch)
  let lb := min 7 (fFloor (fmul (fOfNat 8) q.win.meanLoad)).toNat
  let idx := 8 * c.fitBin p q.win.meanTemp + lb
  let kind := c.rd R.SP_CAL_KIND (pgSP p) ch
  let k := (c.sec s).bmk
  let (gain, offset, gainFit) := c.fitOf k w f
  let ug := if kind = 1 ∧ k.refI = 0xFF then fmax f.uncG (c.rdVF R.BMK_UNC0_G pgBMK) else f.uncG
  let fs := c.calFs p ch
  let b : Bin := match q.bins.find? (fun e => e.1 == idx) with
    | some e =>
      { e.2 with
        gain := if gainFit then quarter e.2.gain gain else e.2.gain
        offset := quarter e.2.offset offset
        uncG :=
          let old := aged e.2.uncG (c.rdVF R.BMK_AGE_G pgBMK) (c.rdVF R.BMK_UNC_MAX_G pgBMK) (c.timeTick - e.2.atT)
          if gainFit then quarter old ug else old
        uncO := quarter (aged e.2.uncO (fmul (c.rdVF R.BMK_AGE_O pgBMK) fs) (fmul (c.rdVF R.BMK_UNC_MAX_O pgBMK) fs) (c.timeTick - q.offAt)) f.uncO
        n := min 255 (e.2.n + 1)
        atT := c.timeTick }
    | none => { gain := gain, offset := offset, uncG := if gainFit then ug else c.calUncG p ch, uncO := f.uncO, n := 1, atT := c.timeTick }
  let c1 := c.setCal (4 * p + ch) { q with
    bins := mapSet q.bins idx b
    offAt := if kind = 1 ∨ q.zeroOff.isSome then q.offAt else c.timeTick
    ind := if kind = 1 then (match w.ind.find? (fun e => e.1 == f.port) with | some e => e.2 | none => q.ind) else q.ind }
  let us : List (Fld × Nat × Nat) := [(R.SP_CAL_STALE, ch, 0), (R.SP_CAL_NODE_CONSENSUS, ch, b2n (kind == 3 && !c.nodeRef (c.rd R.SP_CAL_NODE (pgSP p) ch)))]
  (if us.all (fun u => c1.rd u.1 (pgSP p) u.2.1 == u.2.2) then c1 else (c1.hw (pgSP p) us).staleLevel).tellCal p ch

/-- The harmonics of the switching frequencies of a section's carrier groups (R233, R327). -/
def Chip.zFreqs (c : Chip) (s : Nat) : List F32 :=
  (c.feltGroups s).flatMap (fun g => (List.range 8).map (fun h => fRat ((h + 1) * dqS) (max 1 g.1)))

/-- An impedance point that meets IZ_MIN and the coherence of 0.9 updates its store (R327). -/
def Chip.storeZ (c : Chip) (s : Nat) (z : ZPoint) : Chip :=
  if fle (c.sec s).bmk.izMin z.irms && fle (fRat 9 10) z.coherence then
    c.modSec s (fun q => { q with
      zAt := c.now
      zpts := if q.zpts.any (fun y => y.1 == z.freq) then
          q.zpts.map (fun y => if y.1 == z.freq then (z.freq, quarter y.2.1 z.mag, c.tick) else y)
        else q.zpts ++ [(z.freq, z.mag, c.tick)] })
  else c

/-- A sample that a window reads has been overwritten: its stream has written the sample 512 positions later (R164). -/
def lapped (w : CalWindow) (tick : Nat) : Bool := decide (w.oldest + 512 * max 1 w.dec + 2 ≤ tick)

/-- The computation of a section's window ends more than 2 x WIN_MS after its start (R318). -/
def Chip.windowLate (c : Chip) (s : Nat) : Bool :=
  decide (mapGet c.timers (tmKey tmPubl (1 + s)) 0 + (c.sec s).bmk.win * dqMs < c.now)

/-- More than 1% of a window's samples were excluded, over the channels of its section (R318). -/
def Chip.windowGaps (c : Chip) (s : Nat) : Bool :=
  let ws := (c.cals.filter (fun e => c.calSec (e.1 / 4) == s)).map (fun e => e.2.win)
  let bad := (ws.map WinSum.bad).sum
  let n := (ws.map WinSum.n).sum
  decide (n + bad < 100 * bad)

/-- The engine that Benchmark's class-C work of a section runs on: that of the section's SHARE_MPC, else of its lowest law, else engine 0;
the manual names none. DESIGN CHOICE (217). -/
def Chip.bmkEngine (c : Chip) (s : Nat) : Nat :=
  match c.shareLaw s with
  | some (_, l) => l.engine
  | none => match c.laws.find? (fun e => e.2.bound && dSection e.2.desc == s) with
    | some e => e.2.engine
    | none => 0

/-- The square of a ratio of two numbers above 0, in 2^-64 (R328). -/
def sqRatio (a b : F32) : Int := let x := fix32 (fdiv a b); x * x

/-- The determinant of three columns. -/
def det3 (a b c : Int × Int × Int) : Int :=
  a.1 * (b.2.1 * c.2.2 - b.2.2 * c.2.1) - a.2.1 * (b.1 * c.2.2 - b.2.2 * c.1) + a.2.2 * (b.1 * c.2.1 - b.2.1 * c.1)

/-- The fit of R328 over accepted points, frequency and magnitude: f0, Z_PK and Q. |Z|^-2 is linear in 1, f^2 and f^-2, and its least squares
give them; none where they do not determine a resonance. R328 states no weighting and no method, DESIGN CHOICE (221). -/
def zFit (pts : List (F32 × F32)) : Option (F32 × F32 × F32) :=
  let ps := pts.filter (fun z => fPos z.1 && fPos z.2)
  let fs := ps.map (fun z => z.1)
  let fmx := fs.foldl fmax fZero
  let fmn := fs.foldl fmin fmx
  let zmn := (ps.map (fun z => z.2)).foldl fmin (fInf false)
  let one : Int := 2 ^ 64
  let rows : List (Int × Int × Int) := ps.map (fun z => (sqRatio z.1 fmx, sqRatio fmn z.1, sqRatio zmn z.2))
  let sum (g : Int × Int × Int → Int) : Int := (rows.map g).sum
  let n : Int := one * one * rows.length
  let su := one * sum (fun r => r.1)
  let sv := one * sum (fun r => r.2.1)
  let c0 := (n, su, sv)
  let c1 := (su, sum (fun r => r.1 * r.1), sum (fun r => r.1 * r.2.1))
  let c2 := (sv, sum (fun r => r.1 * r.2.1), sum (fun r => r.2.1 * r.2.1))
  let y := (one * sum (fun r => r.2.2), sum (fun r => r.1 * r.2.2), sum (fun r => r.2.1 * r.2.2))
  let d := det3 c0 c1 c2
  let a := fRatI (det3 y c1 c2) d
  let b := fRatI (det3 c0 y c2) d
  let k := fRatI (det3 c0 c1 y) d
  let root := fmul (fsqrt (fmul b k)) (fdiv fmn fmx)
  let top := ffma (fOfNat 2) root a
  if rows.length < 3 ∨ d = 0 ∨ !fPos b ∨ !fPos k ∨ !fPos top then none
  else some (fmul (fsqrt (fmul fmn fmx)) (fsqrt (fsqrt (fdiv k b))), fdiv zmn (fsqrt top), fsqrt (fdiv root top))

/-- The points of a window that are harmonics of the section's carrier groups update their stores, and the section is fitted anew (R327,
R328). -/
def Chip.takeZ (c : Chip) (s : Nat) (zs : List ZPoint) : Chip :=
  let fs := c.zFreqs s
  let c1 := foldc (zs.filter (fun z => fs.contains z.freq)) (fun z c => c.storeZ s z) c
  match zFit (((c1.sec s).zpts).map (fun z => (z.1, z.2.1))) with
  | some z => c1.modSec s (fun q => { q with zfit := some z })
  | none => c1

/-- A window ends (R318): it is accepted, or discarded for one of the stated reasons; the next one begins. A chip that is joining accepts
none, nor a FOLLOW that of a window begun before the twins were PAIRED: the LEAD hands it the results (R312, R357). -/
def calWindowEnd (c : Chip) (s : Nat) (w : CalWindow) : Chip :=
  if !c.on R.BMK_EN pgBMK || !c.due (tmKey tmPubl (1 + s)) || c.shed then c
  else
    let k := (c.sec s).bmk
    let bad := c.windowGaps s || lapped w c.tick || c.windowLate s
    let c0 := if lapped w c.tick then c.bump R.CE_CNT (pgCE (c.bmkEngine s)) 7 else c
    let noI := b2n (k.refI == 0xFF)
    let c1 := if c0.rd R.BMK_NO_REF_I pgBMK s = noI then c0 else c0.up R.BMK_NO_REF_I pgBMK noI s
    let c2 := if bad then c1.bump R.BMK_CNT pgBMK 1
      else if c.rd R.TWIN_STATE pgTWIN = 2 ∨ ((c.sec s).winOld ∧ !c.leads) then c1
      else
        let fits := w.fits.filter (fun f => (c1.calChans f.port.val).contains f.ch.val && c1.calSec f.port.val == s
          && decide ((c1.cal (4 * f.port.val + f.ch.val)).win.n ≠ 0))
        let c3 := foldc fits (fun f c => c.storeFit s { w with fits := fits } f) (c1.bump R.BMK_CNT pgBMK 0)
        if k.zen && k.refV != 0xFF then (c3.takeZ s w.zpoints).tellZ s else c3
    let c3 := c2.zStale s
    if c3.takesWork pgBMK then c3.startWindow s else c3.disarm (tmKey tmPubl (1 + s))

/-- BM_CTRL.EN is cleared: no window is in progress (R330). -/
def Chip.bmkStop (c : Chip) : Chip := foldc (upTo 8) (fun s c => c.disarm (tmKey tmPubl (1 + s))) c

/-- BM_CTRL.EN is set, or QUIESCE is cleared: windows begin in every section that has none (R15, R318). -/
def Chip.bmkStart (c : Chip) : Chip :=
  foldc (upTo 8) (fun s c =>
    if c.on R.BMK_EN pgBMK && c.takesWork pgBMK && !c.armed (tmKey tmPubl (1 + s)) then c.startWindow s else c) c

/-! Zero-current windows (R321). -/

/-- A channel that has zero-current windows: a current. -/
def Chip.zeroKind (c : Chip) (p ch : Nat) : Bool := let k := c.rd R.SP_CAL_KIND (pgSP p) ch; (k == 1 || k == 2) && c.scaled p ch

/-- The pass FET of a port's feeder is driven: INRUSH, ON or CAPPED (R287, R292). -/
def Chip.fdDriven (c : Chip) (p : Nat) : Bool := c.on R.SP_FD_EN (pgSP p) && [4, 5, 6].contains (c.rd R.SP_FD_STATE (pgSP p))

/-- The stage has stood in STOP for `n` ticks, with no latch set, and with its pass FET open where it is a feeder (R321). -/
def Chip.stoodStill (c : Chip) (p n : Nat) : Bool :=
  let t := c.port p
  !c.fdDriven p && !t.fastTrip && !t.crowbar && t.sentCmd && (match t.stopSince with | some x => decide (x + n ≤ c.tick) | none => false)

/-- A zero-current window opens (R321). -/
def zeroWindowOpen (c : Chip) (p ch : Nat) : Chip :=
  if c.on R.BMK_EN pgBMK && !c.shed && c.takesWork pgBMK && c.zeroKind p ch && c.stoodStill p 400 && (c.cal (4 * p + ch)).zero.isNone then
    c.modCal (4 * p + ch) (fun q => { q with zero := some c.tick, zeroSum := 0, zeroSq := 0, zeroN := 0 })
  else c

/-- The standard error of the mean of n codes, from their sum and the sum of their squares (R321). -/
def stdErr (n : Nat) (sum : Int) (sq : Nat) : F32 :=
  fsqrt (fRat ((n * sq : Int) - sum * sum).toNat (max 1 (n * n * (n - 1))))

/-- A zero-current window ends: the mean code is the offset, its uncertainty the standard error plus one code (R321), and the
channel has an accepted result (R325); one that ends while class C is shed gives none (R32). The command names the first and the last of the window's 256 ticks; naming others it
does nothing, DESIGN CHOICE (197). -/
def zeroWindowEnd (c : Chip) (p ch first last : Nat) : Chip :=
  if (c.cal (4 * p + ch)).zero ≠ some first ∨ last ≠ first + 255 ∨ c.tick ≤ last then c
  else
    let q := c.cal (4 * p + ch)
    let mean := fdiv (fOfInt q.zeroSum) (fOfNat q.zeroN)
    let se := stdErr q.zeroN q.zeroSum q.zeroSq
    let c1 := c.modCal (4 * p + ch) (fun q => { q with zero := none })
    if q.zeroN != 0 && c.stoodStill p 400 && c.zeroKind p ch && !c.shed && c.rd R.TWIN_STATE pgTWIN != 2 then
      let c2 := c1.modCal (4 * p + ch) (fun q => { q with zeroOff := some (mean, fmul (fadd se fOne) (c.calGain p ch)), offAt := c.timeTick })
      (if c2.on R.SP_CAL_STALE (pgSP p) ch then (c2.up R.SP_CAL_STALE (pgSP p) 0 ch).staleLevel else c2).tellCal p ch
    else c1

/-! Calibration registers that P0 writes (R332, R550). -/

/-- KIND of a channel changes: a channel that becomes REF, or leaves it, is uncalibrated again, and only a PHASE_I channel has an inductance
(R332). -/
def Chip.calKind (c0 : Chip) (p ch old new : Nat) : Chip :=
  let c := if new ≠ 1 ∧ c0.rd R.SP_L_EST (pgSP p) ch ≠ 0 then (c0.up R.SP_L_EST (pgSP p) 0 ch).modCal (4 * p + ch) (fun q => { q with ind := 0 }) else c0
  if decide (old = 4) != decide (new = 4) && !c.on R.SP_CAL_UNCAL (pgSP p) ch then (c.up R.SP_CAL_UNCAL (pgSP p) 1 ch).rewriteThresholds p else c

/-- FS of a channel is written: without a scale it is uncalibrated, and the thresholds follow (R550). -/
def Chip.calFsSet (c : Chip) (p ch : Nat) : Chip :=
  (if !c.scaled p ch && !c.on R.SP_CAL_UNCAL (pgSP p) ch then c.up R.SP_CAL_UNCAL (pgSP p) 1 ch else c).rewriteThresholds p

/-- One of the four values of a REF channel is written: the first write clears UNCAL, and the fields not written keep the values of
R312 (R332). -/
def Chip.calRef (c : Chip) (p ch word v : Nat) : Chip :=
  let b := pgSP p
  let fs : List Fld := [R.SP_CAL_GAIN, R.SP_CAL_OFFSET, R.SP_CAL_UNC_G, R.SP_CAL_UNC_O]
  let c1 := if c.on R.SP_CAL_UNCAL b ch && c.scaled p ch then
      (c.wr R.SP_CAL_GAIN b (c.calGain p ch).toNat ch |>.wr R.SP_CAL_OFFSET b 0 ch |>.wr R.SP_CAL_UNC_G b (c.calUncG p ch).toNat ch
        |>.wr R.SP_CAL_UNC_O b (c.calUncO p ch).toNat ch).up R.SP_CAL_UNCAL b 0 ch
    else c
  match fs[word]? with
  | some f => (c1.wr f b v ch).rewriteThresholds p
  | none => c1

/-! Meanings of the rows. -/

/-- CLASS_C_RESULT_APPLY (R37): A class-C result with matching digests takes effect in both twins at the agreed tick. -/
def execClassCResultApply (item : Nat) (s : State) : Result :=
  .next (s.onChip (fun c => classCResultApply c item))

/-- CAL_WINDOW_END (R318): A Benchmark window ends and its fit is accepted into a bin or discarded. -/
def execCalWindowEnd (sec : Sec) (win : CalWindow) (s : State) : Result :=
  .next (s.onChip (fun c => calWindowEnd c sec.val win))

/-- ZERO_WINDOW_OPEN (R321): A current channel's zero-current window opens after 400 ticks of STOP. -/
def execZeroWindowOpen (port : Port) (ch : Chan) (s : State) : Result :=
  .next (s.onChip (fun c => zeroWindowOpen c port.val ch.val))

/-- ZERO_WINDOW_END (R321): After 256 ticks the zero-current window sets the channel's OFFSET. -/
def execZeroWindowEnd (port : Port) (ch : Chan) (first : Nat) (last : Nat) (s : State) : Result :=
  .next (s.onChip (fun c => zeroWindowEnd c port.val ch.val first last))

/-- CAL_PUBLISH (R324): Every PUB_MS Benchmark derives in-use calibration and publishes it under R37. -/
def execCalPublish (s : State) : Result :=
  .next (s.onChip (fun c => calPublish c))

end Sys2Proof.Machine
end

