-- ==== Sys2Proof/Machine/Feeder.lean ====
section
/-! DEFINITION. Feeder.lean: feeders, their fusing and their power contracts (R286 to R310). Trip causes: 1 FAST, 2 TCC, 3 TJ, 4 INRUSH
(R286). -/

namespace Sys2Proof.Machine

/-! The feeder descriptor (R286, R288). -/

/-- Points 0 to n of the time-current curve: currents ascending, times non-increasing, all above 0 (R286). -/
def Chip.curveOk (c : Chip) (b : Nat) : Nat → Bool
  | 0 => fPos (c.rdF R.SP_TCC_I b 0) && fPos (c.rdF R.SP_TCC_T b 0)
  | n + 1 =>
    c.curveOk b n && fPos (c.rdF R.SP_TCC_I b (n + 1)) && fPos (c.rdF R.SP_TCC_T b (n + 1))
    && flt (c.rdF R.SP_TCC_I b n) (c.rdF R.SP_TCC_I b (n + 1)) && fle (c.rdF R.SP_TCC_T b (n + 1)) (c.rdF R.SP_TCC_T b n)

/-- Every field of the feeder descriptor is in its range (R286, R288). -/
def Chip.feederOk (c : Chip) (p : Nat) : Bool :=
  let b := pgSP p
  let f (x : Fld) : F32 := c.rdF x b
  c.rd R.SP_ROLE_PREF b != 3 && fNonNeg (f R.SP_P_MAX) && fPos (f R.SP_ILIM_A) && fIsFin (f R.SP_TRIP_A) && flt (f R.SP_ILIM_A) (f R.SP_TRIP_A)
  && fNonNeg (f R.SP_INRUSH_DVDT) && fPos (f R.SP_INRUSH_ILIM) && fle (f R.SP_INRUSH_ILIM) (f R.SP_ILIM_A)
  && decide (1 ≤ c.rd R.SP_INRUSH_MS b) && decide (c.rd R.SP_INRUSH_MS b ≤ 1000)
  && decide (1 ≤ c.rd R.SP_RETRY_MS b) && decide (c.rd R.SP_RETRY_MS b ≤ 10000)
  && fIsFin (f R.SP_TJ_DERATE) && fIsFin (f R.SP_TJ_TRIP) && flt (f R.SP_TJ_DERATE) (f R.SP_TJ_TRIP) && fIsFin (f R.SP_T_AMB)
  && (upTo 4).all (fun k => fNonNeg (c.rdF R.SP_RTH b k) && (feq (c.rdF R.SP_RTH b k) fZero || fPos (c.rdF R.SP_TAU b k)))
  && fNonNeg (f R.SP_TCC_RESET_S) && c.curveOk b (c.rd R.SP_TCC_N b)
  && flt (fmul (f R.SP_ILIM_A) 0x3F000000#32) (c.rdF R.SP_TCC_I b 0)

/-! Contract messages (R300 to R305). -/

/-- The running NEG that serves a port's tray (R300, R496): in every state but OFF and MOISTURE (R310), and in OFF for the hold of a hard
reset (R306). -/
def Chip.negServes (c : Chip) (p : Nat) : Bool :=
  c.portLeads p && c.plumb.mgmtUp && !c.plumb.mgmtHalt && !c.plumb.mgmtFail && !c.negPaused && c.fdState p != 1
  && (c.fdState p != 0 || (c.on R.SP_HR_HOLD (pgSP p) && (c.fd p).placed.isSome))

/-- The feeder holds the source role, or tries it in ATTACH (R301, R307). -/
def Chip.negSource (c : Chip) (p : Nat) : Bool :=
  if c.fdState p = 2 then
    (match c.rd R.SP_ROLE_PREF (pgSP p) with
     | 0 => true
     | 1 => (c.fd p).srcTry
     | _ => false)
  else !c.on R.SP_FD_ROLE (pgSP p)

/-- The fragments of a message as SIDE_DN requests (R130). -/
def sideReqs (ref : Nat) (msg : Bytes) : List CfgReq :=
  let n := (msg.length + 11) / 12
  (upTo n).map (fun k =>
    let part := (msg.drop (12 * k)).take 12
    { op := 14, side := [BitVec.ofNat 8 (part.length + 16 * b2n (decide (k + 1 < n))), BitVec.ofNat 8 ref] ++ part })

/-- A contract message in the layout of R301. -/
def negBytes (typ id : Nat) (src : Bool) (payload : Bytes) : Bytes :=
  [BitVec.ofNat 8 (typ + 16 * (id % 8) + 128 * b2n src), BitVec.ofNat 8 payload.length] ++ payload

/-- Time that a message of `n` bytes takes on the sideband (R158): 74 bits beside its bytes, 4 us each. -/
def sideTime (n : Nat) : Nat := (74 + 8 * n) * (4 * dqUs)

/-- The NEG state of a port (R300). -/
def Chip.negView (c : Chip) (p : Nat) : NegView :=
  let f := c.fd p
  let b := pgSP p
  let st := c.fdState p
  { settled := st != 0 && st != 1 && st != 2
    sink := c.on R.SP_FD_ROLE b
    contract := c.on R.SP_CONTRACT b || f.making
    power := if f.making then f.pReq else c.rdF R.SP_P_CONTRACT b
    txId := f.txId
    rxId := f.rxId
    out := f.out
    wait := f.wait
    waitId := f.waitId
    waitTries := f.waitTries
    rspTimer := f.rspTimer
    softEx := f.softEx
    softFails := c.rd R.SP_SOFT_FAILS b
    hold := c.on R.SP_HR_HOLD b
    pmax := f.pmax
    pReq := f.pReq
    backfeed := c.rdF R.SP_BACKFEED_W b
    capMsg := (c.capst (c.leafKey p)).capMsg
    warnMsg := (c.capst (96 + p)).warnMsg }

/-- NEG state of a port goes to the twin (R300). -/
def Chip.negMirror (c : Chip) (p : Nat) : Chip := c.send (.chain (.mirror (.neg (portFin p) (c.negView p))))

/-- Bytes as words of a MIRROR message. -/
def byteWords (bs : Bytes) : List Word := bs.map (fun x => x.zeroExtend 32)

/-- Puts a message on the way to the tray; on a port that is delegated the twin sends it (R353). -/
def Chip.negPut (c : Chip) (p id : Nat) (m : NegMsg) : Chip :=
  let bs := negBytes m.typ id (c.negSource p) m.payload
  let c1 := if (c.port p).delegated then c.send (.chain (.mirror (.service 14 p (BitVec.ofNat 32 id :: byteWords bs))))
    else foldc (sideReqs id bs) (fun q c => c.pushReq p q) c
  (c1.bump R.NEG_CNT pgNEG 0).negMirror p

/-- A message that the twin's NEG hands over for a delegated port (R353). -/
def Chip.takeSideDn (c : Chip) (p : Nat) (v : List Word) : Chip :=
  match v with
  | id :: bs => if c.portLeads p then foldc (sideReqs id.toNat (bs.map (fun x => x.truncate 8))) (fun q c => c.pushReq p q) c else c
  | [] => c

/-- Sends the next waiting message, when none waits for its GOODCRC: a new one takes the next MSG_ID, which starts again at 0 after a
SOFT_RESET (R304). In ATTACH no timer runs (R305). -/
def Chip.negNext (c : Chip) (p : Nat) : Chip :=
  let f := c.fd p
  match f.wait, f.out with
  | some _, _ => c
  | none, [] => c
  | none, m :: rest =>
    let id := f.txId
    let c1 := (c.setFd p { f with out := rest, wait := some m, waitId := id, waitTries := 0, txId := if m.typ = 9 then 0 else (id + 1) % 8 }).negPut p id m
    if c1.fdState p = 2 then c1 else c1.arm (tmKey tmGoodCrc p) (3 * dqMs + sideTime (2 + m.payload.length))

/-- NEG sends a message to the tray. -/
def Chip.negSend (c : Chip) (p : Nat) (m : NegMsg) : Chip :=
  if c.negServes p then (c.modFd p (fun f => { f with out := f.out ++ [m] })).negNext p else c

/-- NEG answers a message with GOODCRC (R303). -/
def Chip.negAck (c : Chip) (p id : Nat) : Chip := c.negPut p id { typ := 1 }

/-- A CAPS message with one offer of P_MAX (R288, R302). The manual does not say how NEG chooses its voltage window. -/
def Chip.capsMsg (c : Chip) (p : Nat) : NegMsg × Chip :=
  let (lo, c0) := c.free
  let (hi, c1) := c0.free
  let c2 := c1.modFd p (fun f => { f with pmax := (fFloor (c.rdF R.SP_P_MAX (pgSP p))).toNat })
  ({ typ := 2, payload := [1, 0] ++ leBytes (lo % 65536) 2 ++ leBytes (hi % 65536) 2
      ++ leBytes (fFloor (c.rdF R.SP_P_MAX (pgSP p))).toNat 4 }, c2)

/-- NEG sends CAPS (R307, R308). A new CAPS in ATTACH takes the place of one that was not acknowledged. -/
def Chip.sendCaps (c : Chip) (p : Nat) : Chip :=
  let (m, c1) := c.capsMsg p
  let c2 := if c1.fdState p = 2 then c1.modFd p (fun f => { f with wait := none, out := [] }) else c1
  c2.negSend p m

/-! States (R289). -/

/-- A feeder leaves HICCUP or TRIPPED, or takes up its contract: INRUSH with a contract, ATTACH without (R289). -/
def Chip.fdResume (c : Chip) (p : Nat) : Chip := c.fdSet p (if c.on R.SP_CONTRACT (pgSP p) then 4 else 2)

/-- A new contract: its leaf starts from it, with no limit, no grace and nothing to be sent (R308, R309). -/
def Chip.leafStart (c : Chip) (p : Nat) (w : F32) : Chip :=
  let k := c.leafKey p
  let c1 := (c.modCap (96 + p) (fun q => { q with warnMsg := false })).modCap k (fun q => { q with cap := w, limit := none, capMsg := false })
  ((c1.nodeBit R.CROWN_CAPPED k false).nodeBit R.CROWN_GRACE k false).disarm (tmKey tmGrace k)

/-- An ACCEPT is still to be acknowledged. -/
def FdSt.accepting (f : FdSt) : Bool := (match f.wait with | some m => m.typ == 4 | none => false) || f.out.any (fun m => m.typ == 4)

/-- A contract is made (R306, R308): P_CONTRACT, the leaf's cap, which starts from it, and INRUSH from NEGOTIATE. One that is in force
moves; while its ACCEPT is not acknowledged, a soft-reset exchange stays open (R306). -/
def Chip.fdContract (c : Chip) (p : Nat) : Chip :=
  let f := c.fd p
  if !f.making then c
  else
    let c1 := (c.setFd p { f with making := false, softEx := f.softEx && f.accepting }).hw (pgSP p)
      [(R.SP_P_CONTRACT, 0, f.pReq.toNat), (R.SP_CONTRACT, 0, 1), (R.SP_SOFT_FAILS, 0, if f.accepting then c.rd R.SP_SOFT_FAILS (pgSP p) else 0)]
    let c2 := if c.on R.SP_CONTRACT (pgSP p) then c1 else (c1.countContracts).leafStart p f.pReq
    if c2.fdState p = 3 then c2.fdSet p 4 else c2

/-- A contract has been accepted: in a pair both twins make it at an agreed tick (R300, R308). -/
def Chip.fdAccepted (c : Chip) (p : Nat) : Chip :=
  let c1 := (c.modFd p (fun f => { f with making := true })).negMirror p
  if c1.paired then c1.propose (.negState (portFin p)) else c1.fdContract p

/-- The feeder drops its contract and sends MODE STOP for the 100 ms of a hard reset (R306); HICCUP and TRIPPED stay. -/
def Chip.fdHold (c : Chip) (p : Nat) : Chip :=
  let c1 := (c.fdDrop p).modFd p (fun f => { f with txId := 0, rxId := none, making := false })
  let st := c1.fdState p
  let c2 := if st = 7 ∨ st = 8 then c1 else (c1.fdSet p 0).setCmd p stopCmd
  (c2.up R.SP_HR_HOLD (pgSP p) 1).arm (tmKey tmHrHold p) (100 * dqMs)

/-- A HARD_RESET was sent or received (R306). -/
def Chip.fdHardReset (c : Chip) (p : Nat) : Chip := (c.fdHold p).negMirror p

/-- The twin's NEG state takes the place of the own (R300): its messages and timers, its roles, and the hold of a hard reset. -/
def Chip.negTake (c : Chip) (p : Nat) (v : NegView) : Chip :=
  let b := pgSP p
  let c0 := if v.hold && !c.on R.SP_HR_HOLD b then c.fdHold p else c
  let c1 := if v.contract then c0 else c0.fdDrop p
  let c2 := (c1.modFd p (fun f => { f with
      txId := v.txId
      rxId := v.rxId
      out := v.out
      wait := v.wait
      waitId := v.waitId
      waitTries := v.waitTries
      rspTimer := v.rspTimer
      softEx := v.softEx
      pmax := v.pmax
      pReq := v.pReq })).hw b [(R.SP_FD_ROLE, 0, b2n v.sink), (R.SP_SOFT_FAILS, 0, v.softFails), (R.SP_BACKFEED_W, 0, v.backfeed.toNat)]
  let c3 := match v.wait with
    | some m => if v.settled then c2.arm (tmKey tmGoodCrc p) (3 * dqMs + sideTime (2 + m.payload.length)) else c2
    | none => c2.disarm (tmKey tmGoodCrc p)
  let c4 := if v.rspTimer then c3.arm (tmKey tmRsp p) (5 * dqMs) else c3.disarm (tmKey tmRsp p)
  let c5 := (c4.modCap (c4.leafKey p) (fun q => { q with capMsg := v.capMsg })).modCap (96 + p) (fun q => { q with warnMsg := v.warnMsg })
  if v.settled && c5.fdState p == 2 then c5.fdSet p 3 else c5

/-- NEG sends HARD_RESET (R306), and waits for its GOODCRC as for that of any message (R303). -/
def Chip.sendHardReset (c : Chip) (p : Nat) : Chip :=
  let c1 := (c.modFd p (fun f => { f with out := [], wait := none })).bump R.SP_FD_CNT (pgSP p) 2
  let id := (c1.fd p).txId
  let c2 := ((c1.negPut p id { typ := 10 }).fdHold p).modFd p (fun f => { f with wait := some { typ := 10 }, waitId := id, waitTries := 0 })
  (c2.arm (tmKey tmGoodCrc p) (3 * dqMs + sideTime 2)).negMirror p

/-- NEG sends SOFT_RESET (R304 to R306): the stored IDs clear, and the source follows it with CAPS. -/
def Chip.sendSoftReset (c : Chip) (p : Nat) : Chip :=
  let c1 := (c.modFd p (fun f => { f with out := [], wait := none, rxId := none, softEx := true })).bump R.SP_FD_CNT (pgSP p) 1
  ((c1.disarm (tmKey tmGoodCrc p)).disarm (tmKey tmRsp p)).negSend p { typ := 9 }

/-- A soft-reset exchange has failed (R306): the third failure in a row sends HARD_RESET. -/
def Chip.softFailed (c : Chip) (p : Nat) : Chip :=
  let n := min 3 (c.rd R.SP_SOFT_FAILS (pgSP p) + 1)
  let c1 := (c.up R.SP_SOFT_FAILS (pgSP p) n).modFd p (fun f => { f with softEx := false })
  if n = 3 then c1.sendHardReset p else c1

/-- The response timer has expired, or a message was repeated in vain (R303, R305). In ATTACH no timer runs. -/
def Chip.negExpiry (c : Chip) (p : Nat) : Chip :=
  let c1 := (((c.bump R.NEG_CNT pgNEG 3).disarm (tmKey tmRsp p)).disarm (tmKey tmGoodCrc p)).modFd p (fun f => { f with wait := none, rspTimer := false })
  if c1.fdState p = 2 then c1
  else
    let c2 := if (c1.fd p).softEx then c1.softFailed p else c1
    if c2.on R.SP_HR_HOLD (pgSP p) then c2 else c2.sendSoftReset p

/-- The response timer starts (R305). -/
def Chip.rspStart (c : Chip) (p : Nat) : Chip :=
  (c.modFd p (fun f => { f with rspTimer := true })).arm (tmKey tmRsp p) (5 * dqMs)
/-- The response timer stops at the reply (R305). -/
def Chip.rspStop (c : Chip) (p : Nat) : Chip :=
  (c.modFd p (fun f => { f with rspTimer := false })).disarm (tmKey tmRsp p)

/-- A reply stands for the GOODCRC of the message that it answers. -/
def Chip.negReplied (c : Chip) (p typ : Nat) : Chip :=
  match (c.fd p).wait with
  | some m => if m.typ = typ then (c.modFd p (fun f => { f with wait := none })).disarm (tmKey tmGoodCrc p) else c
  | none => c

/-- NEG waits for the answer to its REQUEST, acknowledged or not (R305, R308). -/
def FdSt.requested (f : FdSt) : Bool := f.rspTimer || (match f.wait with | some m => m.typ == 3 | none => false)

/-- A message of the tray other than GOODCRC (R303, R304): acknowledged; acted on by `g` unless its MSG_ID is that of the last
one accepted, and then mirrored (R300). In the hold of a hard reset it is acknowledged alone (R306). -/
def Chip.negRx (c : Chip) (p id : Nat) (g : Chip → Chip) : Chip :=
  if !c.negServes p then c
  else
    let c1 := (c.bump R.NEG_CNT pgNEG 1).negAck p id
    if (c1.fd p).rxId = some id then c1.bump R.SP_FD_CNT (pgSP p) 3
    else
      let c2 := c1.modFd p (fun f => { f with rxId := some id })
      (if c2.on R.SP_HR_HOLD (pgSP p) then c2 else g c2).negMirror p

/-! Rows: messages of the tray (R302 to R308). -/

/-- GOODCRC of the message in hand (R303, R305, R307, R308). -/
def goodcrcRx (c : Chip) (p id : Nat) : Chip :=
  let f := c.fd p
  match f.wait with
  | none => c
  | some m =>
    if !c.negServes p || id % 8 != f.waitId then c
    else
      let c1 := (((c.bump R.NEG_CNT pgNEG 1).setFd p { f with wait := none }).disarm (tmKey tmGoodCrc p))
      let c2 :=
        if m.typ = 2 then
          let c3 := if c1.fdState p = 2 then (c1.up R.SP_FD_ROLE (pgSP p) 0).fdSet p 3 else c1
          c3.rspStart p
        else if m.typ = 3 then c1.rspStart p
        else if m.typ = 4 then c1.fdAccepted p
        else if m.typ = 9 then (if c1.negSource p then c1.sendCaps p else c1.rspStart p)
        else c1
      (c2.negNext p).negMirror p

/-- A CAPS of the tray (R302, R307, R308): in the sink role, or its window of ATTACH, NEG requests P_MAX of the first offer that
reaches it. A CAPS whose LEN is not that of 1 to 4 offers is discarded. -/
def capsRx (c : Chip) (p id : Nat) (os : List Offer) : Chip :=
  if os.length = 0 ∨ 4 < os.length ∨ (c.fdState p = 2 ∧ c.negSource p) then c
  else c.negRx p id (fun c =>
    let c1 := if c.fdState p = 2 then (c.up R.SP_FD_ROLE (pgSP p) 1).fdSet p 3 else c
    if !c1.on R.SP_FD_ROLE (pgSP p) || c1.fdState p = 2 then c1
    else
      let w := (fFloor (c1.rdF R.SP_P_MAX (pgSP p))).toNat
      let k := ((upTo os.length).find? (fun k => match os[k]? with | some o => decide (w ≤ o.pmax) | none => false)).getD 0
      let c2 := (c1.rspStop p).modFd p (fun f => { f with offers := os, pReq := fOfNat w })
      c2.negSend p { typ := 3, payload := [BitVec.ofNat 8 k, 0] ++ leBytes w 4 ++ leBytes 0 4 })

/-- A REQUEST of the tray in the source role (R305, R308): NEG's policy accepts at most P_MAX and the PMAX of
its one offer. -/
def requestRx (c : Chip) (p id offer : Nat) (srcCap : Bool) (pReq backfeed : Nat) : Chip :=
  c.negRx p id (fun c =>
    let st := c.fdState p
    if c.on R.SP_FD_ROLE (pgSP p) || decide (st < 3) then c
    else
      let c1 := c.rspStop p
      let c2 := if srcCap then c1.up R.SP_BACKFEED_W (pgSP p) (fOfNat backfeed).toNat else c1
      let ok := fle (fOfNat pReq) (c2.rdF R.SP_P_MAX (pgSP p)) && decide (pReq ≤ (c2.fd p).pmax)
      let rejected (r : Byte) (c : Chip) : Chip :=
        let c3 := c.negSend p { typ := 5, payload := [r] }
        if (c3.fd p).softEx then c3.softFailed p else c3
      if offer ≠ 0 then rejected 1 c2
      else if !ok then rejected 0 c2
      else
        let c3 := (c2.modFd p (fun f => { f with pReq := fOfNat pReq })).negSend p { typ := 4 }
        if c3.on R.SP_CONTRACT (pgSP p) then c3.fdAccepted p else c3)

/-- An ACCEPT of the tray in the sink role (R305, R308). -/
def acceptRx (c : Chip) (p id : Nat) : Chip :=
  c.negRx p id (fun c => if c.on R.SP_FD_ROLE (pgSP p) && (c.fd p).requested then ((c.rspStop p).negReplied p 3).fdAccepted p else c)

/-- A REJECT of the tray (R306, R308): the feeder stays in NEGOTIATE, or keeps its contract. -/
def rejectRx (c : Chip) (p id : Nat) : Chip :=
  c.negRx p id (fun c =>
    if c.on R.SP_FD_ROLE (pgSP p) then
      let c1 := (c.rspStop p).negReplied p 3
      if (c1.fd p).softEx then c1.softFailed p else c1
    else c)

/-- A PS_READY of a source tray (R308): acknowledged. -/
def psReadyRx (c : Chip) (p id : Nat) : Chip := c.negRx p id (fun c => c)

/-- A SOFT_RESET of the tray (R304, R306): always acted on. The source follows it with CAPS. -/
def softResetRx (c : Chip) (p id : Nat) : Chip :=
  if !c.negServes p then c
  else
    let c1 := (c.bump R.NEG_CNT pgNEG 1).negAck p id
    let c2 := ((c1.disarm (tmKey tmGoodCrc p)).disarm (tmKey tmRsp p)).modFd p (fun f =>
      { f with out := [], wait := none, txId := 0, rxId := none, rspTimer := false, softEx := c1.fdState p != 2 })
    (if c2.fdState p != 2 && c2.negSource p then c2.sendCaps p else c2).negMirror p

/-- A HARD_RESET of the tray (R304, R306): always acted on. -/
def hardResetRx (c : Chip) (p id : Nat) : Chip :=
  if !c.negServes p then c else ((c.bump R.NEG_CNT pgNEG 1).negAck p id).fdHardReset p

/-- The LEAD sends CAP at a step of R265 while a contract is in force (R309); it does not apply in the sink role. -/
def capSend (c : Chip) (p : Nat) : Chip :=
  let k := c.leafKey p
  if c.negServes p && c.on R.SP_CONTRACT (pgSP p) && !c.on R.SP_FD_ROLE (pgSP p) && (c.capst k).capMsg then
    let w := (fFloor (c.capst k).cap).toNat
    (c.modCap k (fun q => { q with capMsg := false })).negSend p { typ := 7, payload := leBytes w 4 ++ leBytes (c.graceUs k) 2 }
  else c

/-- The LEAD sends WARN at a change of the leaf's early-warning group while a contract is in force (R309). -/
def warnSend (c : Chip) (p : Nat) : Chip :=
  let k := 96 + p
  if c.negServes p && c.on R.SP_CONTRACT (pgSP p) && (c.capst k).warnMsg then
    (c.modCap k (fun q => { q with warnMsg := false })).negSend p { typ := 8, payload := [BitVec.ofNat 8 (b2n (c.ewarnOf p))] }
  else c

/-- No GOODCRC 3 ms after a message (R303): it is sent again, at most twice; then the response timer counts as expired. -/
def goodcrcTimeout (c : Chip) (p : Nat) : Chip :=
  let f := c.fd p
  match f.wait with
  | none => c
  | some m =>
    if !(c.due (tmKey tmGoodCrc p) && c.negServes p) then c
    else if f.waitTries < 2 then
      ((c.setFd p { f with waitTries := f.waitTries + 1 }).negPut p f.waitId m).arm (tmKey tmGoodCrc p) (3 * dqMs + sideTime (2 + m.payload.length))
    else c.negExpiry p

/-- The response timer expires (R305). -/
def responseTimerExpiry (c : Chip) (p : Nat) : Chip :=
  if c.due (tmKey tmRsp p) && (c.fd p).rspTimer && c.negServes p then c.negExpiry p else c

/-- The hold of a hard reset ends (R306): ATTACH, or HICCUP and TRIPPED stay. -/
def hrHoldEnd (c : Chip) (p : Nat) : Chip :=
  if c.due (tmKey tmHrHold p) then
    let c1 := (c.disarm (tmKey tmHrHold p)).up R.SP_HR_HOLD (pgSP p) 0
    if c1.fdState p = 0 ∧ (c1.fd p).placed.isSome ∧ c1.linkReady p then c1.fdSet p 2 else c1
  else c

/-- In the source role of ATTACH, NEG sends CAPS every 25 ms (R307). -/
def capsSend (c : Chip) (p : Nat) : Chip :=
  if c.due (tmKey tmCaps p) && c.fdState p == 2 && c.negSource p && c.negServes p && c.takesWork pgNEG then
    (c.sendCaps p).arm (tmKey tmCaps p) (25 * dqMs)
  else c

/-- TRY_SOURCE changes between its source and its sink window every 75 ms (R307). -/
def roleWindowSwitch (c : Chip) (p : Nat) : Chip :=
  if c.due (tmKey tmRole p) && c.fdState p == 2 && c.rd R.SP_ROLE_PREF (pgSP p) == 1 then
    let c1 := (c.modFd p (fun f => { f with srcTry := !f.srcTry, wait := none, out := [] })).arm (tmKey tmRole p) (75 * dqMs)
    if c1.negSource p then c1.arm (tmKey tmCaps p) 0 else c1
  else c

/-! Trips and clears (R289 to R291, R297). -/

/-- A trip (R289, R299): counted and raised; HICCUP while retries are allowed, else TRIPPED. -/
def Chip.fdTrip (c : Chip) (p cause : Nat) : Chip :=
  let trips := c.rd R.SP_RETRIES (pgSP p) + 1
  let n := min 255 trips
  let c1 := (c.hw (pgSP p) [(R.SP_TRIP_CAUSE, 0, cause), (R.SP_RETRIES, 0, n)]).bump R.SP_FD_CNT (pgSP p) 0
  ((c1.fdSet p (if trips ≤ c.rd R.SP_RETRY_N (pgSP p) then 8 else 7)).setCmd p stopCmd).raise 0x45 p

/-- Leaving HICCUP or TRIPPED (R289, R291): a latched FAST_TRIP is cleared at the stage end first. -/
def Chip.fdLeave (c : Chip) (p : Nat) : Chip :=
  if (c.port p).fastTrip then (c.modFd p (fun f => { f with clearWait := true })).sendClear p else c.fdResume p

/-- FD_CTRL.CLEAR is written (R289, R291). -/
def Chip.fdClear (c : Chip) (p : Nat) : Chip :=
  let c1 := if c.rd R.SP_RETRIES (pgSP p) = 0 then c else c.up R.SP_RETRIES (pgSP p) 0
  if c1.fdState p = 7 then c1.fdLeave p else c1

/-- FD_CTRL.EN is set: the task is placed (R287). -/
def Chip.fdEnable (c : Chip) (p : Nat) : Chip := c.placeFeeder p

/-- FD_CTRL.EN is cleared (R289): OFF, the contract dropped. -/
def Chip.fdDisable (c : Chip) (p : Nat) : Chip := (c.fdOff p).dropFeeder p

/-- RETRY_MS after a trip (R289, R291). -/
def feederRetry (c : Chip) (p : Nat) : Chip :=
  if c.due (tmKey tmFdRetry p) && c.fdState p == 8 then (c.disarm (tmKey tmFdRetry p)).fdLeave p else c

/-- 10 s without a trip in ON or CAPPED (R289). -/
def retriesClear (c : Chip) (p : Nat) : Chip :=
  if c.due (tmKey tmRetries p) then
    let c1 := c.disarm (tmKey tmRetries p)
    if c1.rd R.SP_RETRIES (pgSP p) = 0 then c1 else c1.up R.SP_RETRIES (pgSP p) 0
  else c

/-- INRUSH_MS has elapsed in INRUSH: a trip (R289). -/
def inrushTimeout (c : Chip) (p : Nat) : Chip :=
  if c.due (tmKey tmInrush p) && c.fdState p == 4 then c.fdTrip p 4 else c

/-- 1 ms without an overrun of the thermal model (R297). -/
def modelLateClear (c : Chip) (p : Nat) : Chip :=
  if c.due (tmKey tmLate p) then (c.disarm (tmKey tmLate p)).up R.SP_MODEL_LATE (pgSP p) 0 else c

/-- 100 us after SE_CLEAR.TRIP (R291): a FAST_TRIP still reported keeps the feeder in TRIPPED. -/
def tripClearCheck (c : Chip) (p : Nat) : Chip :=
  if c.due (tmKey tmFdClear p) then
    let c1 := (c.disarm (tmKey tmFdClear p)).modFd p (fun f => { f with clearWait := false })
    let st := c1.fdState p
    if st = 7 ∨ st = 8 then (if (c1.port p).fastTrip then c1.fdSet p 7 else c1.fdResume p) else c1
  else c

/-! The feeder task (R290, R293 to R299). -/

/-- The inputs of a run: current, bus voltage, tray voltage (R295). -/
structure FdIn where
  i : F32
  vbus : F32
  vout : F32
deriving DecidableEq, Repr

/-- Takes the inputs of a run: a value that is missing or excluded is replaced by the last valid one for two runs, then by the
worst case (R295). A run takes the latest samples; they are missing where the twin is still asked for them, and where they are more than
three ticks old, DESIGN CHOICE (215). -/
def Chip.fdInputs (c : Chip) (p : Nat) : FdIn × Chip :=
  let b := pgSP p
  let t := c.port p
  let f := c.fd p
  let chI := c.rd R.SP_CH_I b
  let chO := c.rd R.SP_CH_VOUT b
  let chB := c.rd R.SP_CH_VBUS b
  let late := t.missing || decide (t.smp0.tick + 3 < c.tick)
  let okI := (t.smp chI).clean && !late
  let okB := (t.smp chB).clean && !late
  let okO := (t.smp chO).clean && !late
  let nI := if okI then 0 else f.missI + 1
  let nB := if okB then 0 else f.missV + 1
  let nO := if okO then 0 else f.missO + 1
  let i := if okI then c.smpPhys p chI else if nI ≤ 2 then f.lastI else c.calFs p chI
  let vb := if okB then c.smpPhys p chB else if nB ≤ 2 then f.lastVbus else c.calFs p chB
  let vo := if okO then c.smpPhys p chO else if nO ≤ 2 then f.lastVout else fZero
  let f1 := { f with
    missI := nI
    missV := nB
    missO := nO
    lastI := if okI then i else f.lastI
    lastVbus := if okB then vb else f.lastVbus
    lastVout := if okO then vo else f.lastVout }
  (⟨i, vb, vo⟩, c.setFd p f1)

/-- A temperature item that the feeder uses; the manual states none for an item that is not fitted. -/
def Chip.fdTemp (c : Chip) (p item : Nat) : F32 × Chip :=
  match c.tempOf p item (c.rdF R.SP_TJ_TRIP (pgSP p)) with
  | some t => (t, c)
  | none => c.freeF

/-- The temperature rises of the four poles after a run; one whose resistance is 0 is unused (R288, R295). -/
def Chip.fdPoles (c : Chip) (p : Nat) (dt pw : F32) : List F32 :=
  let b := pgSP p
  (upTo 4).map (fun k =>
    let old := ((c.fd p).dT[k]?).getD fZero
    let r := c.rdF R.SP_RTH b k
    if flt fZero r then
      let a := fexp (fneg (fdiv dt (c.rdF R.SP_TAU b k)))
      fadd (fmul old a) (fmul (fmul r pw) (fsub fOne a))
    else fZero)

/-- The trip time of the curve at a current at or above its first point (R298). -/
def Chip.curveTime (c : Chip) (p : Nat) (ihi : F32) : F32 :=
  let b := pgSP p
  let n := c.rd R.SP_TCC_N b + 1
  let k := (((upTo n).filter (fun k => fle (c.rdF R.SP_TCC_I b k) ihi)).getLast?).getD 0
  let ti (k : Nat) : F32 := c.rdF R.SP_TCC_I b k
  let tt (k : Nat) : F32 := c.rdF R.SP_TCC_T b k
  if k + 1 = n then tt k
  else fmul (tt k) (fpow (fdiv (tt (k + 1)) (tt k)) (fdiv (fln (fdiv ihi (ti k))) (fln (fdiv (ti (k + 1)) (ti k)))))

/-- The curve accumulator after a run (R288, R298). -/
def Chip.curveAcc (c : Chip) (p : Nat) (dt ihi : F32) : F32 :=
  let b := pgSP p
  let acc := c.rdF R.SP_TCC_ACC b
  if flt ihi (c.rdF R.SP_TCC_I b 0) then
    let r := c.rdF R.SP_TCC_RESET_S b
    if feq r fZero then fZero else fmax fZero (fsub acc (fdiv dt r))
  else fadd acc (fdiv dt (c.curveTime p ihi))

/-- The command of a feeder in INRUSH, ON or CAPPED (R292, R293). -/
def Chip.fdCmd (c : Chip) (p st : Nat) (x : FdIn) : Cmd :=
  let b := pgSP p
  let chI := c.rd R.SP_CH_I b
  let chO := c.rd R.SP_CH_VOUT b
  let lim := if st = 4 then c.rdF R.SP_INRUSH_ILIM b else c.rdF R.SP_ILIM_NOW b
  let dv := fdiv (fdiv (c.rdF R.SP_INRUSH_DVDT b) (fOfNat 1000)) (c.calGain p chO)
  { mode := if st = 4 then 4 else 3
    on0 := unsgn 16 (c.calCode p chO x.vbus)
    off0 := c.magCode p chI lim
    on1 := if st = 4 ∧ c.scaled p chO then min 65535 (fFloor dv).toNat else 0
    off1 := chO + 4 * chI }

/-- The transitions of one run, a higher row of R289 before a lower one, after the trips. -/
def Chip.fdMove (c : Chip) (p : Nat) (x : FdIn) : Chip :=
  let b := pgSP p
  let st := c.fdState p
  let wet := (c.port p).moisture
  if wet && (st == 0 || st == 2 || st == 3 || st == 4 || st == 7 || st == 8) && c.linkReady p then
    (((c.fdDrop p).fdSet p 1).setCmd p stopCmd).nextReq p
  else if st = 1 then (if wet || c.on R.SP_HR_HOLD b then c else c.fdSet p 2)
  else if st = 2 then
    if c.rd R.SP_ROLE_PREF b = 1 ∧ !c.armed (tmKey tmRole p) then
      ((c.modFd p (fun f => { f with srcTry := true })).arm (tmKey tmRole p) (75 * dqMs)).arm (tmKey tmCaps p) 0
    else c
  else if st = 0 then (if c.linkReady p && c.isFeed p && !c.on R.SP_HR_HOLD b then c.fdSet p 2 else c)
  else if st = 4 then
    if fle (fabs (fsub x.vbus x.vout)) (fmul 0x3CA3D70A#32 x.vbus) then
      let c1 := c.fdSet p 5
      if c1.on R.SP_FD_ROLE b then c1 else c1.negSend p { typ := 6 }
    else if c.due (tmKey tmInrush p) then c.fdTrip p 4
    else c
  else
    let capped := !c.on R.SP_FD_ROLE b && (c.capst (c.leafKey p)).limit.isSome
    if st = 5 ∧ capped then c.fdSet p 6
    else if st = 6 ∧ !capped then c.fdSet p 5
    else c

/-- A run of the feeder task (R289 to R299). A leaf capped at 0 W has its pass FET held open (R268). -/
def feederTaskRun (c : Chip) (p : Nat) : Chip :=
  let b := pgSP p
  if (c.fd p).placed.isNone || !c.isFeed p then c
  else
    let (x, c1) := c.fdInputs p
    let chI := c.rd R.SP_CH_I b
    let dt := fSecs (c.datum - (c.fd p).lastRun)
    let ihi := fadd (fabs x.i) (c.calUnc p chI x.i)
    let uncV := fadd (c.calUnc p (c.rd R.SP_CH_VBUS b) x.vbus) (c.calUnc p (c.rd R.SP_CH_VOUT b) x.vout)
    let pw := fmul (fadd (fabs (fsub x.vbus x.vout)) uncV) ihi
    let poles := c1.fdPoles p dt pw
    let (tref, c2) := if c1.on R.SP_TREF_SENSE b then c1.fdTemp p 1 else (c1.rdF R.SP_T_AMB b, c1)
    let tj0 := fadd tref (fsum poles)
    let (tj, c3) := if c2.on R.SP_TJ_SENSE b then (let (t, c') := c2.fdTemp p 0; (fmax tj0 t, c')) else (tj0, c2)
    let acc := c3.curveAcc p dt ihi
    let over' := fle fOne acc
    let trip := c3.rdF R.SP_TJ_TRIP b
    let der := fclamp fZero fOne (fdiv (fsub trip tj) (fsub trip (c3.rdF R.SP_TJ_DERATE b)))
    let source := !c3.on R.SP_FD_ROLE b
    let ilimA := c3.rdF R.SP_ILIM_A b
    let icr := match (if source then (c3.capst (c3.leafKey p)).limit else none) with | some g => fdiv g x.vout | none => ilimA
    let il0 := fmul (fmin ilimA icr) der
    let il := if c3.on R.SP_MODEL_LATE b then fmin il0 (c3.rdF R.SP_TCC_I b 0) else il0
    let c4 := c3.modFd p (fun f => { f with
      dT := poles
      lastRun := c.datum
      pAcc := if source then fadd f.pAcc (fmul x.vout x.i) else f.pAcc
      pCnt := f.pCnt + 1 })
    let us : List (Fld × Nat × Nat) := [(R.SP_TJ, 0, tj.toNat), (R.SP_TCC_ACC, 0, (if over' then fZero else acc).toNat), (R.SP_ILIM_NOW, 0, il.toNat)]
    let c5 := if us.all (fun u => c4.rd u.1 b u.2.1 == u.2.2) then c4 else c4.hw b us
    let st := c5.fdState p
    let on := st == 4 || st == 5 || st == 6
    let c6 :=
      if on && (c5.port p).fastTrip then c5.fdTrip p 1
      else if on && fle trip tj then c5.fdTrip p 3
      else if on && over' then c5.fdTrip p 2
      else c5.fdMove p x
    let now := c6.fdState p
    let dark := source && (match (c6.capst (c6.leafKey p)).limit with | some g => fle g fZero | none => false)
    let c7 := c6.ownAdd (lawKey (feederRef p)) (leBytes il.toNat 4 ++ leBytes tj.toNat 4 ++ [BitVec.ofNat 8 now])
    (if (now = 4 ∨ now = 5 ∨ now = 6) ∧ !dark then c7.setCmd p (c7.fdCmd p now x) else if (c7.port p).cmd.mode = 0 then c7 else c7.setCmd p stopCmd).sendClear p

/-! Messages from the sideband (R131, R300 to R302). -/

/-- The offers of a CAPS payload (R302). -/
def capsOffers (pl : Bytes) : Offers :=
  (List.range (leAt pl 0 1)).map (fun k => { vmin := leAt pl (2 + 8 * k) 2, vmax := leAt pl (4 + 8 * k) 2, pmax := leAt pl (6 + 8 * k) 4 })

/-- A whole message of the tray, in the layout of R301: it acts as the row of its type does. One whose LEN is not that of its type, or
that is shorter than its LEN, is discarded without GOODCRC (R302). -/
def Chip.negBytesRx (c : Chip) (p : Nat) (m : Bytes) : Chip :=
  let typ := leAt m 0 1 % 16
  let id := leAt m 0 1 / 16 % 8
  let len := leAt m 1 1
  let pl := sliceBytes m 2 len
  if m.length < 2 + len then c
  else match typ with
    | 1 => if len = 0 then goodcrcRx c p id else c
    | 2 => if 1 ≤ leAt pl 0 1 ∧ leAt pl 0 1 ≤ 4 ∧ len = 2 + 8 * leAt pl 0 1 then capsRx c p id (capsOffers pl) else c
    | 3 => if len = 10 then requestRx c p id (leAt pl 0 1) (bitOf (leAt pl 1 1) 0) (leAt pl 2 4) (leAt pl 6 4) else c
    | 4 => if len = 0 then acceptRx c p id else c
    | 5 => if len = 1 then rejectRx c p id else c
    | 6 => if len = 0 then psReadyRx c p id else c
    | 7 => if len = 6 then c.negRx p id (fun c => c) else c
    | 8 => if len = 1 then c.negRx p id (fun c => c) else c
    | 9 => if len = 0 then softResetRx c p id else c
    | 10 => if len = 0 then hardResetRx c p id else c
    | _ => c

/-- A SIDE_UP fragment arrives (R131): it is added to its message. A complete message goes to NEG, in a pair the LEAD's (R353, R361), and one that failed its check is
discarded (R300). -/
def sideUpRx (c : Chip) (p : Nat) (f : Frame) : Chip :=
  c.onFrame p f 5 (fun c b =>
    let v := leAt b 0 1
    let n := v % 16
    let ref := leAt b 1 1
    let t := c.port p
    let base := if t.prevSide = ref then t.sideMsg else []
    let msg := base ++ sliceBytes b 4 (min n 12)
    let keep := if bitOf v 4 then msg else if bitOf v 5 then msg else []
    let isPoll := match t.req with | some q => q.op == 0 | none => false
    let c1 := c.setPort p { t with sideMsg := keep, prevSide := ref, req := if isPoll then none else t.req }
    let c2 := if bitOf v 4 then c1
      else if !bitOf v 5 then c1.bump R.NEG_CNT pgNEG 2
      else if c1.paired && !c1.leads then c1.send (.chain (.mirror (.service 16 p (byteWords msg))))
      else c1.negBytesRx p msg
    c2.nextReq p)

/-! Meanings of the rows. -/

/-- SIDE_UP_RX (R131): The GT9192 receives a SIDE_UP fragment and passes it to NEG. -/
def execSideUpRx (port : Port) (frame : Frame) (s : State) : Result :=
  .next (s.onChip (fun c => sideUpRx c port.val frame))

/-- FEEDER_TASK_RUN (R295): Every 10 ticks the feeder task updates junction temperature, curve accumulator, limit and state. -/
def execFeederTaskRun (port : Port) (s : State) : Result :=
  .next (s.onChip (fun c => feederTaskRun c port.val))

/-- FEEDER_RETRY (R289): RETRY_MS after a trip the feeder re-enters INRUSH or ATTACH. -/
def execFeederRetry (port : Port) (s : State) : Result :=
  .next (s.onChip (fun c => feederRetry c port.val))

/-- RETRIES_CLEAR (R289): RETRIES clears after 10 s without a trip in ON or CAPPED. -/
def execRetriesClear (port : Port) (s : State) : Result :=
  .next (s.onChip (fun c => retriesClear c port.val))

/-- INRUSH_TIMEOUT (R289): INRUSH_MS elapsed in INRUSH trips with TRIP_CAUSE INRUSH. -/
def execInrushTimeout (port : Port) (s : State) : Result :=
  .next (s.onChip (fun c => inrushTimeout c port.val))

/-- MODEL_LATE_CLEAR (R297): MODEL_LATE clears after 1 ms without a thermal model overrun. -/
def execModelLateClear (port : Port) (s : State) : Result :=
  .next (s.onChip (fun c => modelLateClear c port.val))

/-- TRIP_CLEAR_CHECK (R291): 100 us after SE_CLEAR.TRIP a still-reported FAST_TRIP holds the feeder in TRIPPED. -/
def execTripClearCheck (port : Port) (s : State) : Result :=
  .next (s.onChip (fun c => tripClearCheck c port.val))

/-- GOODCRC (R303): Receipt of a GOODCRC acknowledges a contract message and starts any response timer. -/
def execGoodcrc (port : Port) (msgId : Oct) (s : State) : Result :=
  .next (s.onChip (fun c => goodcrcRx c port.val msgId.val))

/-- CAPS (R307): Receipt of a tray CAPS fixes the sink role or restarts negotiation. -/
def execCaps (port : Port) (msgId : Oct) (offers : Offers) (s : State) : Result :=
  .next (s.onChip (fun c => capsRx c port.val msgId.val offers))

/-- REQUEST (R308): NEG's policy accepts or rejects a tray REQUEST. -/
def execRequest (port : Port) (msgId : Oct) (offer : Nat) (srcCap : Bool) (pReq : Nat) (backfeed : Nat) (s : State) : Result :=
  .next (s.onChip (fun c => requestRx c port.val msgId.val offer srcCap pReq backfeed))

/-- ACCEPT (R308): Receipt of ACCEPT makes or moves a contract. -/
def execAccept (port : Port) (msgId : Oct) (s : State) : Result :=
  .next (s.onChip (fun c => acceptRx c port.val msgId.val))

/-- REJECT (R308): Receipt of REJECT leaves the feeder negotiating or the contract unchanged. -/
def execReject (port : Port) (msgId : Oct) (_reason : Byte) (s : State) : Result :=
  .next (s.onChip (fun c => rejectRx c port.val msgId.val))

/-- PS_READY (R308): Receipt of PS_READY from a source tray in the sink role. -/
def execPsReady (port : Port) (msgId : Oct) (s : State) : Result :=
  .next (s.onChip (fun c => psReadyRx c port.val msgId.val))

/-- CAP (R309): A CAP message carries the leaf's cap and grace, advisory to the tray. -/
def execCap (port : Port) (s : State) : Result :=
  .next (s.onChip (fun c => capSend c port.val))

/-- WARN (R309): A WARN message reports a change of the leaf's early-warning group. -/
def execWarn (port : Port) (s : State) : Result :=
  .next (s.onChip (fun c => warnSend c port.val))

/-- SOFT_RESET (R306): A SOFT_RESET clears stored message IDs and restarts negotiation without dropping the contract. -/
def execSoftReset (port : Port) (msgId : Oct) (s : State) : Result :=
  .next (s.onChip (fun c => softResetRx c port.val msgId.val))

/-- HARD_RESET (R306): A HARD_RESET drops the contract, stops the feeder and sets HR_HOLD. -/
def execHardReset (port : Port) (msgId : Oct) (s : State) : Result :=
  .next (s.onChip (fun c => hardResetRx c port.val msgId.val))

/-- GOODCRC_TIMEOUT (R303): No GOODCRC 3 ms after a message repeats it, at most twice. -/
def execGoodcrcTimeout (port : Port) (s : State) : Result :=
  .next (s.onChip (fun c => goodcrcTimeout c port.val))

/-- RESPONSE_TIMER_EXPIRY (R305): The 5 ms response timer expires and its owner sends SOFT_RESET. -/
def execResponseTimerExpiry (port : Port) (s : State) : Result :=
  .next (s.onChip (fun c => responseTimerExpiry c port.val))

/-- HR_HOLD_END (R306): 100 ms after a hard reset the feeder enters ATTACH. -/
def execHrHoldEnd (port : Port) (s : State) : Result :=
  .next (s.onChip (fun c => hrHoldEnd c port.val))

/-- CAPS_SEND (R307): In the source role of ATTACH NEG sends CAPS every 25 ms. -/
def execCapsSend (port : Port) (s : State) : Result :=
  .next (s.onChip (fun c => capsSend c port.val))

/-- ROLE_WINDOW_SWITCH (R307): TRY_SOURCE alternates between source and sink every 75 ms. -/
def execRoleWindowSwitch (port : Port) (s : State) : Result :=
  .next (s.onChip (fun c => roleWindowSwitch c port.val))

end Sys2Proof.Machine
end

