-- ==== Sys2Proof/Machine/Twin.lean ====
section
/-! DEFINITION. Twin.lean: what arrives over Chain and over the fault pair, the recovery window, Traverse and the in-service
self-checks (R334 to R367). -/

namespace Sys2Proof.Machine

/-! What a joining twin is handed (R189, R312, R357). -/

/-- The line of a page's register tables, and the copy, that a register key names. -/
def keyRow (k : PageKind) (b key : Nat) : Option (Row × Nat) :=
  let off := key / 32 - b
  (rowsCommon ++ k.rows).findSome? (fun r =>
    let f := r.fld
    if f.lo != key % 32 || decide (off < f.off) then none
    else
      let d := off - f.off
      if f.stride = 0 then (if d = 0 then some (r, 0) else none)
      else if d % f.stride = 0 ∧ d / f.stride < r.cnt then some (r, d / f.stride) else none)

/-- A listed register field is handed over in CONFIG: Felting's and the in-use calibration (R312, R357). -/
def statusInConfig (key : Nat) : Bool :=
  match pageOf (key / 32) with
  | some (.felt, _) => (match keyRow .felt pgFELT key with | some (r, _) => r.acc == .ro && r.fld.stat | none => false)
  | some (.sp, _) => let o := key / 32 % 0x1000; decide (0x308 ≤ o) && decide (o < 0x380) && o % 0x20 != 0 && o % 0x20 != 4
  | some _ => false
  | none => false

/-- A listed register field is handed over in STATE: the status fields of the services (R357). -/
def statusInState (key : Nat) : Bool :=
  let a := key / 32
  match pageOf a with
  | some (k, n) =>
    (k == .hold || k == .crown || k == .gauge || k == .bmk || k == .neg || (k == .sp && decide (0x180 ≤ a % 0x1000) && decide (a % 0x1000 < 0x300)))
    && (match keyRow k (pageBase k n) key with | some (r, _) => r.acc == .ro && r.fld.stat | none => false)
  | none => false

/-- Status fields that a predicate picks fall to their reset values; PG_SEQ of their pages counts (R19). -/
def Chip.dropStatus (c : Chip) (pick : Nat → Bool) : Chip :=
  let bs := (((c.regs.filter (fun e => pick e.1)).map (fun e => e.1 / 32 / 0x1000 * 0x1000))).eraseDups
  foldc bs (fun b c => c.seqInc b) { c with regs := c.regs.filter (fun e => !pick e.1) }

/-- A status field takes the value that the twin sends; PG_SEQ counts a change (R19, R339). -/
def Chip.putStatus (c : Chip) (key v : Nat) : Chip :=
  let b := key / 32 / 0x1000 * 0x1000
  let c1 : Chip := { c with regs := mapSet c.regs key v }
  match pageOf b with
  | none => c1
  | some (k, _) => match keyRow k b key with
    | some (r, _) => if r.fld.stat && mapGet c.regs key r.fld.rst != v then c1.seqInc b else c1
    | none => c1

/-- The live event bits that follow a status field: CAL_STALE and Z_STALE (R331). -/
def Chip.liveLevels (c : Chip) (key : Nat) : Chip :=
  match pageOf (key / 32) with
  | some (.sp, _) => c.staleLevel
  | some (.bmk, _) => foldc (upTo 8) (fun s c => c.level pgBMK s (c.on R.BMK_Z_STALE pgBMK s)) c
  | some _ => c
  | none => c

/-- A joining twin begins CONFIG with nothing of what the LEAD is about to send, so that it ends with an identical copy (R189, R357). -/
def State.beginConfig (s : State) : State :=
  let c := s.chip
  { s with
    mem := []
    chip := { (c.dropStatus statusInConfig).modTwin (fun t => { t with cfgGot := 0, cfgAll := none }) with
      cals := c.cals.map (fun e => (e.1, { e.2 with bins := [] }))
      ports := c.ports.map (fun e => (e.1, { e.2 with leadIdent := [] })) } }

/-- A joining twin begins STATE with no law bound, unless its engines have gone on under a debug hold (R189, R357, R365). -/
def Chip.beginState (c : Chip) : Chip :=
  let c1 := if c.twin.rejoinCfg then c else foldc ((c.laws.filter (fun e => e.2.bound)).map (fun e => e.1)) (fun i c => c.unbindLaw i) c
  c1.dropStatus statusInState

/-! Paths (R336, R367). -/

/-- The UP bit of a path. -/
def chUp (ch1 : Bool) : Fld := if ch1 then R.TWIN_CH1_UP else R.TWIN_CH0_UP

/-- A Chain path goes DOWN (R336). -/
def chainPathDown (c : Chip) (ch1 : Bool) : Chip :=
  if c.on (chUp ch1) pgTWIN then ((c.up (chUp ch1) pgTWIN 0).pathLevel).raise 0x82 (b2n ch1) else c

/-- A chip that its twin has fenced joins again while a Chain path is UP (R337). -/
def Chip.fencedRejoin (c : Chip) : Chip :=
  if c.rd R.TWIN_STATE pgTWIN = 4 ∧ c.rd R.TWIN_FENCE_CAUSE pgTWIN = 2 ∧ !c.plumb.s3 ∧ (c.on R.TWIN_CH0_UP pgTWIN || c.on R.TWIN_CH1_UP pgTWIN) then
    ((c.modPlumb (fun p => { p with fenced := false })).enterJoining 0 5).reFlt
  else c

/-- A Chain path comes UP (R336); a twin fenced by its twin then joins again (R337). -/
def chainPathUp (c : Chip) (ch1 : Bool) : Chip :=
  if c.on (chUp ch1) pgTWIN then c
  else
    let c1 := ((c.up (chUp ch1) pgTWIN 1).pathLevel).hear
    c1.fencedRejoin

/-! Digests (R343, R344). -/

/-- The group of an entry: the port group of a port, or the outputs and results (R343). -/
def digestGroup (key : Nat) : Nat := if key < 192 then key / 16 else 12

/-- The bytes that a group's digest of tick `u` covers, in order of port or number (R343). -/
def Chip.groupBytes (c : Chip) (u g : Nat) : Bytes :=
  let es := c.twin.own.filter (fun e => e.1 == u && digestGroup e.2.1 == g)
  (es.foldl (fun (m : SMap Bytes) e => mapSet m e.2.1 e.2.2) []).flatMap (fun e => e.2)

/-- This twin's digest of a group of tick `u` (R343). -/
def Chip.ownDigest (c : Chip) (u g : Nat) : Nat := Config.digest64 (c.groupBytes u g) % 2 ^ 64

/-- The keys of a group that this twin has in tick `u`. -/
def Chip.groupKeys (c : Chip) (u g : Nat) : List Nat :=
  ((c.twin.own.filter (fun e => e.1 == u && digestGroup e.2.1 == g)).map (fun e => e.2.1)).eraseDups

/-- Class-C results, by key, whose digests have matched (R37): the LEAD proposes the tick at which they apply. -/
def Chip.classCMatch (c : Chip) (ks : List Nat) : Chip :=
  let items := (ks.filter (fun k => decide (resKey 0 ≤ k))).map (fun k => k - resKey 0)
  foldc items (fun i c =>
    let c1 := c.modTwin (fun t => { t with classC := t.classC.map (fun r => if r.item = i then { r with peerOk := true } else r) })
    if c1.leads then c1.propose (.classC i) else c1) c

/-- The first command of a law that was swapped has passed the comparison (R181). -/
def Chip.swapPassed (c : Chip) (u : Nat) (gs : List Nat) : Chip :=
  match c.fwu.swapTick with
  | some t => if t ≤ u && (gs.flatMap (c.groupKeys u)).contains c.fwu.swapKey then c.modFwu (fun f => { f with swapTick := none }) else c
  | none => c

/-- Digests of a tick match (R343): class-C results, a law that was swapped (R181), and the phase STATE of joining (R357). -/
def Chip.digestMatch (c : Chip) (u : Nat) (gs : List Nat) : Chip :=
  let c1 := (if gs.contains 12 then c.classCMatch (c.groupKeys u 12) else c).swapPassed u gs
  if c1.rd R.TWIN_JOIN_PHASE pgTWIN = 4 then c1.modTwin (fun t => { t with digestGood := some (t.digestGood.getD c.now) }) else c1

/-- The bytes of one item of a tick: the CMD frame of a port, the output of a law, or a result. -/
def Chip.itemBytes (c : Chip) (u k : Nat) : Bytes :=
  match c.twin.own.find? (fun e => e.1 == u && e.2.1 == k) with
  | some e => e.2.2
  | none => []

/-- This twin's digest of an item (R344). -/
def Chip.itemDigest (c : Chip) (u k : Nat) : Nat := Config.digest64 (c.itemBytes u k) % 2 ^ 64

/-- What this twin sends of the items of the groups that differ (R344). -/
def Chip.ownItems (c : Chip) (u : Nat) (gs : List Nat) : List ItemDigest :=
  (gs.flatMap (c.groupKeys u)).map (fun k => ⟨k, BitVec.ofNat 64 (c.itemDigest u k), c.twin.explained.contains (u, k)⟩)

/-- The items of a group that differ, by the digests that the twin gave of its items; all of the group where it gave none (R344). -/
def Chip.differing (c : Chip) (u : Nat) (its : List ItemDigest) (g : Nat) : List Nat :=
  let mine := c.groupKeys u g
  let theirs := its.filter (fun x => digestGroup x.key == g)
  if theirs.isEmpty then mine
  else (mine ++ (theirs.map (fun x => x.key)).filter (fun k => !mine.contains k)).filter (fun k =>
    !(mine.contains k && theirs.any (fun x => x.key == k && x.digest.toNat == c.itemDigest u k)))

/-- The differing items that count as a mismatch: a class-C result that one twin alone has computed only waits for the other (R37, R326). -/
def Chip.realDiff (c : Chip) (u : Nat) (its : List ItemDigest) (ks : List Nat) : List Nat :=
  ks.filter (fun k => decide (k < resKey 0) || ((c.groupKeys u 12).contains k && its.any (fun x => x.key == k)))

/-- The class-C results of tick `u` whose digest the twin has given alike (R37). -/
def Chip.alikeC (c : Chip) (u : Nat) (its : List ItemDigest) : List Nat :=
  (c.groupKeys u 12).filter (fun k => decide (resKey 0 ≤ k) && its.any (fun x => x.key == k && x.digest.toNat == c.itemDigest u k))

/-- The twins compare digests (R343, R364, R365): in PAIRED, but not while MGMT of the twin is held, and in phases STATE and ADMIT of a join. -/
def Chip.compares (c : Chip) : Bool :=
  let st := c.rd R.TWIN_STATE pgTWIN
  let ph := c.rd R.TWIN_JOIN_PHASE pgTWIN
  if c.on R.TWIN_PEER_DEBUG_HOLD pgTWIN then st == 3 && ph == 4 else st == 3 || ((st == 2 || st == 1) && (ph == 4 || ph == 5))

/-- The twin's digests of a tick arrive (R343, R344), with those of the items of the groups that differ. A mismatch that comes only from
ports whose frame in either twin repeated for a missing SAMPLE frame is explained and resynchronised; any other mismatch is a
disagreement, which in phase STATE ends the join (R358). -/
def digestRx (c : Chip) (u : Nat) (ds : Digests) (its : List ItemDigest) : Chip :=
  let c0 := c.hear
  if !c.compares || c.tick ≤ u || u + 64 ≤ c.tick then c0
  else
    let bad := (ds.filter (fun d => decide (d.1 ≤ 12) && c.ownDigest u d.1 != d.2.toNat)).map (fun d => d.1)
    let good := (ds.map (fun d => d.1)).filter (fun g => !bad.contains g)
    let c1 := c0.digestMatch u good
    let keys := c.realDiff u its (bad.flatMap (c.differing u its))
    if bad = [] then c1
    else if keys = [] then (c1.classCMatch (c.alikeC u its)).send (.chain (.items u (c.ownItems u bad)))
    else
      let c2 := (((c1.classCMatch (c.alikeC u its)).bump R.TWIN_CNT pgTWIN 0).modTwin (fun t => { t with digestGood := none })).send
        (.chain (.items u (c.ownItems u bad)))
      let ports := keys.filter (fun k => decide (k < 192))
      let why (k : Nat) : Bool := c.twin.explained.contains (u, k) || its.any (fun x => x.key == k && x.repeated)
      let ls := c2.lawsOfKeys keys
      if ports != [] && ports.length == keys.length && ports.all why then (c2.bump R.TWIN_CNT pgTWIN 1).resync ls
      else if c.rd R.TWIN_JOIN_PHASE pgTWIN = 4 then (c2.mismatchNote u).joinFailed
      else c2.disagree u ls

/-- The twin's result of a resolution (R345, R346). -/
def resolveOutcome (c : Chip) (peerPass : Bool) : Chip :=
  let c1 := c.hear
  if c1.on R.TWIN_RESOLVING pgTWIN then (c1.modTwin (fun t => { t with peerPass := some peerPass })).outcome else c1

/-! Agreed ticks (R340). -/

/-- A change that waits for the end of a pause of the FOLLOW (R497): a configuration write, a commit or a fabric budget. -/
def waitsPause (i : AgreedItem) : Bool :=
  match i with
  | .cfgWrite _ _ | .descWrite _ _ _ | .lawSet _ | .budget _ _ _ => true
  | _ => false

/-- The FOLLOW receives a proposal and acknowledges it; one that waits for the end of its pause is proposed again until then (R497). -/
def agreeProposal (c : Chip) (x : Nat) (item : AgreedItem) : Chip :=
  let st := c.rd R.TWIN_STATE pgTWIN
  let c1 := c.hear
  if c.fwu.paused && waitsPause item then c1
  else if (st = 2 ∨ (st = 3 ∧ !c.leads)) ∧ c.tick < x then
    (c1.modTwin (fun t => { t with agree := t.agree ++ [{ x := x, item := item, acked := true, mine := false }] })).send (.chain (.ack x))
  else c1

/-- The LEAD receives the acknowledgement. -/
def agreeAck (c : Chip) (x : Nat) : Chip :=
  c.hear.modTwin (fun t => { t with agree := t.agree.map (fun a => if a.mine && a.x == x then { a with acked := true } else a) })

/-- The FOLLOW receives a cancel before X. -/
def agreeCancel (c : Chip) (x : Nat) : Chip :=
  if c.tick < x then c.hear.modTwin (fun t => { t with agree := t.agree.filter (fun a => a.mine || a.x != x) }) else c.hear

/-- Without an acknowledgement 4 ticks before X the LEAD cancels and proposes again. -/
def agreeAckDeadline (c : Chip) (x : Nat) : Chip :=
  let late := c.twin.agree.filter (fun a => a.mine && !a.acked && a.x == x)
  if late = [] ∨ c.tick + 4 < x then c
  else
    let c1 := (c.modTwin (fun t => { t with agree := t.agree.filter (fun a => !(a.mine && !a.acked && a.x == x)) })).send (.chain (.cancel x))
    foldc late (fun a c =>
      (c.modTwin (fun t => { t with agree := t.agree ++ [{ a with x := c.tick + 8 }] })).send (.chain (.propose (c.tick + 8) a.item))) c1

/-! Time (R341, R357). -/

/-- The mean of the offsets that an exchange has measured on the paths that are UP, rounded toward 0: none while both are DOWN (R341). The
rounding is the model's, DESIGN CHOICE (222). -/
def Chip.meanOffset (c : Chip) (m : TimeMeas) : Option Int :=
  match c.on R.TWIN_CH0_UP pgTWIN, c.on R.TWIN_CH1_UP pgTWIN with
  | true, true => some ((m.ch0 + m.ch1).tdiv 2)
  | true, false => some m.ch0
  | false, true => some m.ch1
  | false, false => none

/-- The rate that corrects an offset (R87, R341): against its sign, by an amount that the manual leaves open within the range; 0 for none. -/
def rateFor (offset : Int) (v : Nat) : Int :=
  let a : Int := ((v % 200001 : Nat) : Int)
  if offset = 0 then 0 else if 0 < offset then -a else a

/-- The result of a TIME exchange (R341): own Datum minus the twin's. A joiner steps its Datum first, once it has no CMD frame scheduled (R87, R357); from then on only
the rate adjustment moves it, by an amount that the manual leaves open within its range. -/
def timeStep (c : Chip) (offset : Int) : Chip :=
  let st := c.rd R.TWIN_STATE pgTWIN
  let follows := (st == 3 && c.on R.TWIN_ROLE pgTWIN) || (st == 2 && decide (1 ≤ c.rd R.TWIN_JOIN_PHASE pgTWIN))
  let c0 := c.hear
  if !follows then (if c.paired then c0.up R.TWIN_TIME_ERR pgTWIN (unsgn 32 offset) else c0)
  else if st = 2 ∧ !c.twin.stepped ∧ !c.cmdScheduled then
    let c1 := { c0 with datum := unsgn 64 ((c0.datum : Int) - offset) }
    ((c1.modTwin (fun t => { t with stepped := true, timeGood := some c.now, timeBad := none })).up R.TWIN_TIME_ERR pgTWIN 0).setSource 1
  else
    let (v, c1) := c0.free
    let rate := rateFor offset v
    let good := decide (offset.natAbs ≤ 16)
    let c2 := (c1.up R.TWIN_TIME_ERR pgTWIN (unsgn 32 offset)).up R.DATUM_RATE pgDATUM (unsgn 32 rate)
    let c3 := c2.setSource 1
    let w := c3.twin
    if good then (c3.modTwin (fun t => { t with timeGood := some (w.timeGood.getD c.now), timeBad := none })).disarm (tmKey tmTwinTime 0)
    else
      let c4 := c3.modTwin (fun t => { t with timeGood := none, timeBad := some (w.timeBad.getD c.now) })
      if w.timeBad.isSome then c4 else c4.arm (tmKey tmTwinTime 0) dqMs

/-- A TIME exchange (R341): what the UP paths have measured is taken. -/
def timeExchange (c : Chip) (m : TimeMeas) : Chip := match c.meanOffset m with | some x => timeStep c x | none => c.hear

/-- The time error has stayed above 16 dq for 1 ms (R341). -/
def twinTime (c : Chip) : Chip :=
  if c.due (tmKey tmTwinTime 0) then (c.disarm (tmKey tmTwinTime 0)).raise 0x87 0 else c

/-- The twin's TW_HEALTH (R362). -/
def healthRx (c : Chip) (v : Word) : Chip :=
  if c.rd R.TWIN_PEER_HEALTH pgTWIN = v.toNat then c.hear else c.hear.up R.TWIN_PEER_HEALTH pgTWIN v.toNat

/-! Joining (R65, R337, R357, R358). -/

/-- A phase of joining exceeds its limit (R358). -/
def joinPhaseTimeout (c : Chip) : Chip :=
  if c.due (tmKey tmPhase 0) then (c.disarm (tmKey tmPhase 0)).joinFailed else c

/-- 1 s after a failed phase, JOINING starts again (R358). -/
def joinRestart (c : Chip) : Chip :=
  if c.due (tmKey tmRejoin 0) && c.rd R.TWIN_STATE pgTWIN == 2 then c.enterJoining 0 5 else c

/-- TW_CTRL.REJOIN is written (R358, R366). -/
def Chip.rejoin (c : Chip) : Chip :=
  if c.on R.TWIN_JOIN_FAIL pgTWIN ∨ c.rd R.TWIN_STATE pgTWIN = 2 then
    ((c.up R.TWIN_JOIN_FAIL pgTWIN 0).modTwin (fun t => { t with joinFails := 0 })).enterJoining 0 5
  else c

/-! Losing the twin (R349 to R351). -/

/-- A FENCED notice is a declared loss (R349). -/
def fencedNotice (c : Chip) : Chip := c.hear.twinLost true

/-- The twin's MGMT is held: this twin takes LEAD, compares no digests and applies class-C results alone (R364). -/
def Chip.peerHeld (c : Chip) : Chip :=
  if c.paired then
    let c1 := ((c.up R.TWIN_PEER_DEBUG_HOLD pgTWIN 1).level pgTWIN 8 true).setRole false
    let c2 := (c1.setSource c1.leadSource).modTwin (fun t => { t with classC := t.classC.map (fun r => { r with peerOk := true }) })
    foldc (c2.twin.classC.filter (fun r => r.atT == 0)) (fun r c => c.propose (.classC r.item)) c2
  else c

/-- DEBUG_HOLD of the twin (R364). -/
def debugHoldRx (c : Chip) : Chip := c.hear.peerHeld

/-- MGMT_FAIL of the twin (R431): handled as DEBUG_HOLD, and acknowledged. -/
def mgmtFailNotice (c : Chip) : Chip := (c.hear.peerHeld).send (.chain .mgmtFailAck)

/-- No valid Chain message on either path for CHAIN_TIMEOUT_US (R349). -/
def chainTimeout (c : Chip) : Chip :=
  if c.twin.heard + c.rd R.TWIN_CHAIN_TIMEOUT_US pgTWIN * dqUs ≤ c.now then c.twinLost false else c

/-- The code received on FLT_IN (R429, R430). -/
def Chip.fltIn (c : Chip) (code : Nat) : Chip :=
  let c1 := (if c.rd R.FCU_FLT_IN pgFCU = code then c else c.up R.FCU_FLT_IN pgFCU code).level pgFCU 3 (code == 1)
  if c1.rd R.TWIN_FLT_IN_OK pgTWIN = b2n (code == 2) then c1 else c1.up R.TWIN_FLT_IN_OK pgTWIN (b2n (code == 2))

/-- FLT_IN has shown the fault code for 1 us (R349). -/
def fltInFault (c : Chip) : Chip := (c.fltIn 1).twinLost true

/-- A line fault on FLT_IN, both inputs at the level `p` (R349): raised while a Chain path is UP. -/
def fltInLine (c : Chip) (p : Bool) : Chip :=
  let c1 := c.fltIn (if p then 3 else 0)
  if c1.on R.TWIN_CH0_UP pgTWIN || c1.on R.TWIN_CH1_UP pgTWIN then c1.raise 0x86 0 else c1

/-- TAKEOVER_US has elapsed (R351): a FOLLOW that no port reported fenced takes LEAD, and fences the ports at the old epoch. -/
def takeoverExpiry (c : Chip) : Chip :=
  if c.due (tmKey tmTakeover 0) && c.twin.takeover then ((c.disarm (tmKey tmTakeover 0)).enterSolo).fenceOld else c

/-- 100 ms after the latest cause the recovery window closes (R354). -/
def recoveryWindowEnd (c : Chip) : Chip :=
  if c.due (tmKey tmRecovery 0) then
    let c1 := ((c.disarm (tmKey tmRecovery 0)).up R.TWIN_RECOVERING pgTWIN 0).modTwin (fun t => { t with mismatchAt := none })
    { c1 with ports := c1.ports.map (fun e => (e.1, { e.2 with doubleRec := false })) }
  else c

/-! Traverse (R359, R360). -/

/-- A swap may take place (R360); `act` marks the swap of an activation, for which the condition on ACTIVATE is left out (R497). -/
def Chip.swapOk (c : Chip) (act : Bool := false) : Bool :=
  let mine := c.healthWord
  let peer := c.rd R.TWIN_PEER_HEALTH pgTWIN
  !c.on R.TWIN_RESOLVING pgTWIN && !c.on R.TWIN_RECOVERING pgTWIN && !c.on R.TWIN_DEBUG_HOLD pgTWIN && !c.on R.TWIN_PEER_DEBUG_HOLD pgTWIN
  && !c.fwu.swapping && (act || !c.fwu.activating) && (upTo 8).all (fun s => decide (c.rd R.HOLD_STATE pgHOLD s ≤ 1))
  && mine % 65536 == peer % 65536 && decide (bitsOf mine 17 16 ≤ 1) && decide (bitsOf peer 17 16 ≤ 1)

/-- The LEAD attempts a swap; otherwise it is skipped and counted (R359, R360). -/
def Chip.traverse (c : Chip) : Chip :=
  if c.paired && c.leads then (if c.swapOk then c.propose .swap else c.bump R.TWIN_CNT pgTWIN 5) else c

/-- Time to the next attempt of the schedule: TRAV_PERIOD_S within the span after PAIRED, then TRAV_SVC_H, none where that is 0
(R359). -/
def Chip.travNext (c : Chip) : Nat :=
  let per := c.rd R.TWIN_TRAV_PERIOD_S pgTWIN * dqS
  if c.now + per ≤ c.twin.pairedAt + c.rd R.TWIN_TRAV_SPAN_S pgTWIN * dqS then per else c.rd R.TWIN_TRAV_SVC_H pgTWIN * (3600 * dqS)

/-- The schedule's next attempt is set. -/
def Chip.travArm (c : Chip) : Chip :=
  if c.travNext = 0 then c.disarm (tmKey tmTrav 0) else c.arm (tmKey tmTrav 0) c.travNext

/-- The schedule's period has elapsed (R359). -/
def traverseSchedule (c : Chip) : Chip :=
  if c.due (tmKey tmTrav 0) then (c.travArm).traverse else c

/-! In-service self-checks (R363). -/

/-- The next engine is checked; skipped while RESOLVING or RECOVERING, and where the engine is quiesced (R15, R363). -/
def inserviceSelftest (c : Chip) : Chip :=
  let st := c.rd R.TWIN_STATE pgTWIN
  let ms := c.rd R.TWIN_SELFTEST_MS pgTWIN
  if !(c.due (tmKey tmSelf 0) && (st == 1 || st == 3) && ms != 0) then c
  else
    let e := c.twin.nextEngine
    let c1 := (c.arm (tmKey tmSelf 0) (ms * dqMs)).modTwin (fun t => { t with nextEngine := (e + 1) % 128 })
    if c1.on R.TWIN_RESOLVING pgTWIN || c1.on R.TWIN_RECOVERING pgTWIN || !c1.takesWork (pgCE e) then c1 else c1.selfcheckStart e

/-! Debug hold (R364, R365). -/

/-- A halted MGMT resumes (R365): in a pair its twin joins again at CONFIG, with its links admitted. -/
def mgmtResume (s : State) : State :=
  let c := s.chip
  if !c.plumb.mgmtHalt then s
  else
    let c1 := (c.modPlumb (fun p => { p with mgmtHalt := false })).up R.TWIN_DEBUG_HOLD pgTWIN 0
    if c1.paired then ({ s with chip := (c1.modTwin (fun t => { t with rejoinCfg := true })).enterJoining 2 400 } : State).beginConfig else { s with chip := c1 }

/-! Meanings of the rows. -/

/-- CE_SELFTEST_DONE (R169): An engine self-check completes, passing or raising ENGINE_SELFTEST. -/
def execCeSelftestDone (engine : Engine) (found : SelfcheckRun) (s : State) : Result :=
  .next (s.onChip (fun c => c.selfcheckDone engine.val found.upsets found.vectors))

/-- CHAIN_PATH_DOWN (R336): A Chain path without a valid message for 1 us is DOWN and raises CHAIN_PATH_DOWN. -/
def execChainPathDown (ch1 : Bool) (s : State) : Result :=
  .next (s.onChip (fun c => chainPathDown c ch1))

/-- CHAIN_PATH_UP (R336): A Chain path is UP after 64 consecutive valid messages. -/
def execChainPathUp (ch1 : Bool) (s : State) : Result :=
  .next (s.onChip (fun c => c.chainIn (fun c => chainPathUp c ch1)))

/-- DIGEST_RX (R343): The twin's digests for a tick arrive and are compared. -/
def execDigestRx (tick : Nat) (digests : TwinDigests) (s : State) : Result :=
  .next (s.onChip (fun c => c.chainIn (fun c => digestRx c tick digests.groups digests.items)))

/-- RESOLVE_OUTCOME (R346): With both self-check results held the twins resync, fence or swap roles. -/
def execResolveOutcome (peerPass : Bool) (s : State) : Result :=
  .next (s.onChip (fun c => c.chainIn (fun c => resolveOutcome c peerPass)))

/-- AGREE_PROPOSAL (R340): The FOLLOW receives and acknowledges a proposed agreed tick. -/
def execAgreeProposal (x : Nat) (item : AgreedItem) (s : State) : Result :=
  .next (s.onChip (fun c => c.chainIn (fun c => agreeProposal c x item)))

/-- AGREE_ACK (R340): The LEAD receives the acknowledgement of its proposal. -/
def execAgreeAck (x : Nat) (s : State) : Result :=
  .next (s.onChip (fun c => c.chainIn (fun c => agreeAck c x)))

/-- AGREE_CANCEL (R340): The FOLLOW receives a cancel of a proposed tick. -/
def execAgreeCancel (x : Nat) (s : State) : Result :=
  .next (s.onChip (fun c => c.chainIn (fun c => agreeCancel c x)))

/-- AGREE_ACK_DEADLINE (R340): Without an acknowledgement 4 ticks before X the LEAD cancels and proposes again. -/
def execAgreeAckDeadline (x : Nat) (s : State) : Result :=
  .next (s.onChip (fun c => agreeAckDeadline c x))

/-- TIME_EXCHANGE (R341): A Chain TIME exchange measures the Datum offset and adjusts the rate. -/
def execTimeExchange (offset : TimeMeas) (s : State) : Result :=
  .next (s.onChip (fun c => c.chainIn (fun c => timeExchange c offset)))

/-- TWIN_TIME (R341): A twin time error above 16 dq for 1 ms raises TWIN_TIME. -/
def execTwinTime (s : State) : Result :=
  .next (s.onChip (fun c => twinTime c))

/-- HEALTH_RX (R362): The twin's TW_HEALTH is received and held in TW_PEER_HEALTH. -/
def execHealthRx (value : Word) (s : State) : Result :=
  .next (s.onChip (fun c => c.chainIn (fun c => healthRx c value)))

/-- FENCED_NOTICE (R349): A FENCED notice from the twin is a declared loss of the twin. -/
def execFencedNotice (s : State) : Result :=
  .next (s.onChip (fun c => c.chainIn (fun c => fencedNotice c)))

/-- DEBUG_HOLD_RX (R364): On DEBUG_HOLD the other twin takes LEAD, performs single-sourced duties and stops digest comparison. -/
def execDebugHoldRx (s : State) : Result :=
  .next (s.onChip (fun c => c.chainIn (fun c => debugHoldRx c)))

/-- MGMT_FAIL_NOTICE (R431): On an MGMT_FAIL notice the twin treats it as DEBUG_HOLD, takes LEAD and acknowledges. -/
def execMgmtFailNotice (s : State) : Result :=
  .next (s.onChip (fun c => c.chainIn (fun c => mgmtFailNotice c)))

/-- CHAIN_TIMEOUT (R349): No valid Chain message on either path for CHAIN_TIMEOUT_US declares the twin lost. -/
def execChainTimeout (s : State) : Result :=
  .next (s.onChip (fun c => chainTimeout c))

/-- FLT_IN_FAULT (R349): FLT_IN showing the fault code for 1 us declares the twin lost. -/
def execFltInFault (s : State) : Result :=
  .next (s.onChip (fun c => fltInFault c))

/-- FLT_IN_LINE (R349): A line fault or loss of FLT_IN with a Chain path UP raises FLT_IN_LINE. -/
def execFltInLine (p : Bool) (s : State) : Result :=
  .next (s.onChip (fun c => fltInLine c p))

/-- TAKEOVER_EXPIRY (R351): At the end of TAKEOVER_US a FOLLOW not fenced takes LEAD, enters SOLO and fences. -/
def execTakeoverExpiry (s : State) : Result :=
  .next (s.onChip (fun c => takeoverExpiry c))

/-- RECOVERY_WINDOW_END (R354): 100 ms after the latest triggering event the recovery window closes. -/
def execRecoveryWindowEnd (s : State) : Result :=
  .next (s.onChip (fun c => recoveryWindowEnd c))

/-- JOIN_PHASE_TIMEOUT (R358): A joining phase exceeding its limit schedules a restart or sets JOIN_FAIL. -/
def execJoinPhaseTimeout (s : State) : Result :=
  .next (s.onChip (fun c => joinPhaseTimeout c))

/-- JOIN_RESTART (R358): One second after a failed phase JOINING restarts from HELLO. -/
def execJoinRestart (s : State) : Result :=
  .next (s.onChip (fun c => joinRestart c))

/-- TRAVERSE_SCHEDULE (R359): The Traverse schedule proposes a role swap when its period elapses. -/
def execTraverseSchedule (s : State) : Result :=
  .next (s.onChip (fun c => traverseSchedule c))

/-- INSERVICE_SELFTEST (R363): Every SELFTEST_MS a twin self-checks its next engine. -/
def execInserviceSelftest (s : State) : Result :=
  .next (s.onChip (fun c => inserviceSelftest c))

/-- MGMT_RESUME (R365): A halted MGMT resumes and the twin rejoins at phase CONFIG. -/
def execMgmtResume (s : State) : Result :=
  .next (mgmtResume s)

end Sys2Proof.Machine
end

