-- ==== Sys2Proof/Machine/Fabric.lean ====
section
/-! DEFINITION. Fabric.lean: the Survey fabric (R369 to R399): ports and planes, discovery and routing, messages, reliable delivery,
time and QUIET. Fabric ports: 0 FA0, 1 FA1, 2 FB0, 3 FB1. Port states: 0 DOWN, 1 TRAINING, 2 UP, 3 IDLE, 4 MISWIRE (R397). -/

namespace Sys2Proof.Machine

/-! Violations of a partition's rights (R10, R404, R409). -/

/-- An access that a partition has no right to make (R404): one record, VIOL_ADDR and VIOL_INFO, the counters and the event.
`path` is 0 for BAR2 and 1 for a fabric session (R406). -/
def Chip.violation (c : Chip) (part addr : Nat) (wr : Bool) (path : Nat) : Chip :=
  let c1 := c.record 0x111 part 1 part (leBytes addr 4 ++ [BitVec.ofNat 8 path, BitVec.ofNat 8 (b2n wr)]) true
  let c2 := c1.hw pgPART [(R.PART_VIOL_ADDR, 0, addr), (R.PART_PART, 0, part), (R.PART_WRITE, 0, b2n wr), (R.PART_PATH, 0, path)]
  ((c2.bump R.PART_CNT_VIOLATION pgPART).bump R.PART_CNT_VIOL pgPART part).pulse pgPART 0

/-- The 28 bytes of a Survey header (R374). -/
def surveyBytes (h : SurveyHdr) : Bytes :=
  leBytes (h.ver + 16 * h.cls) 1 ++ leBytes (h.sub + 16 * b2n h.rel + 32 * b2n h.lead) 1 ++ leBytes h.domain 1 ++ leBytes h.hops 1
  ++ leBytes h.src 2 ++ leBytes (h.dstNode + 2 ^ 10 * b2n h.dstTwin + 2 ^ 11 * b2n h.station + 2 ^ 12 * b2n h.bcast) 2
  ++ leBytes h.msgId.toNat 4 ++ leBytes h.incarn.toNat 2 ++ leBytes h.part.val 2 ++ leBytes h.len 4 ++ leBytes h.stamp 8

/-- What follows a Survey payload of `n` bytes: the padding to the smallest Ethernet frame, then the redundancy control trailer of
IEC 62439-3, in network order: the sequence number, LanId with the size of what it covers, and the PRP suffix (R374, R375). -/
def prpTail (n : Nat) (seq : BitVec 16) (p : Plane) : Bytes :=
  let pad := 12 - n
  let lan := (match p with | .a => 0xA | .b => 0xB) * 4096 + (34 + n + pad) % 4096
  List.replicate pad 0 ++ [BitVec.ofNat 8 (seq.toNat / 256), BitVec.ofNat 8 seq.toNat, BitVec.ofNat 8 (lan / 256), BitVec.ofNat 8 lan, 0x88, 0xFB]

/-! Ports and planes (R370, R389, R397 to R399). -/

/-- Plane of a fabric port. -/
def fpPlane (k : Nat) : Plane := if k < 2 then .a else .b
/-- The ports of a plane. -/
def planePorts : Plane → List Nat
  | .a => [0, 1]
  | .b => [2, 3]
/-- The other plane. -/
def otherPlane : Plane → Plane
  | .a => .b
  | .b => .a
/-- 0 for plane A, 1 for plane B. -/
def planeNo : Plane → Nat
  | .a => 0
  | .b => 1
/-- FAB_STATUS field of a plane. -/
def planeFld : Plane → Fld
  | .a => R.FAB_PLANE_A
  | .b => R.FAB_PLANE_B
/-- A fabric port as an index. -/
def fpFin (k : Nat) : FPort := ⟨k % 4, Nat.mod_lt _ (by decide)⟩

/-- State of a fabric port. -/
def Chip.fpState (c : Chip) (k : Nat) : Nat := (c.fab.portUp[k]?).getD 0
/-- An adjacency exists with a neighbour on a port (R378). -/
def Chip.fpAdj (c : Chip) (k : Nat) : Bool := c.fab.adjs.any (fun a => a.fport == k && a.heardMe)
/-- The plane is present (R63, R370). -/
def Chip.planeHere (c : Chip) (p : Plane) : Bool := p == .a || !c.on R.SYS_FAB_PLANES pgSYS
/-- The plane sleeps: no frame is sent on it (R394). -/
def Chip.planeSleeps (c : Chip) (p : Plane) : Bool := c.fab.asleep && c.fab.quiet == some p

/-- PORT_STATUS follows the ports (R397); `fec` keeps the RS-FEC bits. -/
def Chip.fpShow (c : Chip) (fec : Nat → Bool) : Chip :=
  let byte (k : Nat) : Nat := c.fpState k + 8 * b2n (c.fpAdj k) + 16 * b2n (decide (1 < ((c.fab.adjs.filter (fun a => a.fport == k)).length))) + 32 * b2n (fec k)
  let v := byte 0 + 2 ^ 8 * byte 1 + 2 ^ 16 * byte 2 + 2 ^ 24 * byte 3
  if c.rd R.FAB_PORT_STATUS pgFAB = v then c else c.up R.FAB_PORT_STATUS pgFAB v

/-- RS-FEC of a port as last shown. -/
def Chip.fpFec (c : Chip) (k : Nat) : Bool := bitOf (c.rd R.FAB_PORT_STATUS pgFAB) (8 * k + 5)

/-- Since when a plane has had no adjacency (R389). -/
def Chip.goneAt (c : Chip) (p : Plane) : Option Nat :=
  match p with
  | .a => c.fab.goneA
  | .b => c.fab.goneB

/-- A plane that has its first adjacency, or has lost its last one, is marked with the time (R389). -/
def Chip.markGone (c : Chip) (p : Plane) : Chip :=
  let v := if (planePorts p).any c.fpAdj then none else some ((c.goneAt p).getD c.now)
  c.modFab (fun q => match p with | .a => { q with goneA := v } | .b => { q with goneB := v })

/-- The state a plane has: QUIET, DOWN without an UP port, UP with an adjacency, and ALONE once it has had none for 35 ms (R389, R394,
R397). DESIGN CHOICE (176): until then a plane that was UP still reads UP, and any other reads ALONE. -/
def Chip.planeState (c : Chip) (p : Plane) : Nat :=
  if c.planeSleeps p || (c.fab.wake && c.fab.quiet == some p) then 3
  else if !(planePorts p).any (fun k => c.fpState k == 2) then 0
  else if (planePorts p).any c.fpAdj then 2
  else if c.rd (planeFld p) pgFAB = 2 ∧ c.now < (c.goneAt p).getD c.now + 35 * dqMs then 2
  else 1

/-- Timer of the 1 s of R391. -/
def tmFabTime : Nat := 80

/-- DATUM.SOURCE of the LEAD follows its SLAVE ports (R391). -/
def Chip.fabSource (c : Chip) : Chip := if c.leads then c.setSource c.leadSource else c

/-- The last SLAVE port of a plane is lost (R391): the other plane is followed, or Datum runs free. -/
def ptpSlaveLoss (c : Chip) (p : Plane) : Chip :=
  let c1 := c.modFab (fun q => match p with | .a => { q with slaveA := false } | .b => { q with slaveB := false })
  let c2 := if c1.fab.slaveA || c1.fab.slaveB then c1
    else ((if c1.on R.FAB_SYNCED pgFAB then c1.up R.FAB_SYNCED pgFAB 0 else c1).modFab (fun q => { q with errSince := none })).disarm (tmKey tmFabTime 0)
  c2.fabSource

/-- The planes are judged again: FAB_STATUS, the events that are live, FAB_PLANE_DOWN and FAB_ALONE (R389, R398, R399). A
plane that is not UP has no SLAVE port, and with neither Datum runs free (R38, R391). -/
def Chip.planeJudge (c : Chip) : Chip :=
  let one (p : Plane) (c0 : Chip) : Chip :=
    if !c0.planeHere p then c0
    else
      let c := c0.markGone p
      let st := c.planeState p
      let c1 := if c.rd (planeFld p) pgFAB = st then c else c.up (planeFld p) pgFAB st
      let down := st == 0 && c1.on R.FAB_EN pgFAB
      let had := bitOf (c1.rd R.EVT_LIVE pgFAB) (planeNo p)
      let c2 := c1.level pgFAB (planeNo p) down
      let c3 := if st = 2 then c2 else ptpSlaveLoss c2 p
      if down && !had then c3.raise 0xA2 (planeNo p) else c3
  let c1 := one .b (one .a c)
  let alone := c1.on R.FAB_EN pgFAB && decide (c1.rd R.FAB_PLANE_A pgFAB ≤ 1) && decide (c1.rd R.FAB_PLANE_B pgFAB ≤ 1)
  let had := c1.on R.FAB_ALONE pgFAB
  let c2 := (if alone == had then c1 else c1.up R.FAB_ALONE pgFAB (b2n alone)).level pgFAB 2 alone
  if alone && !had then c2.raise 0xA1 0 else c2

/-! Identity and sending (R372 to R375, R382). -/

def Chip.grid (c : Chip) : Nat := c.rd R.FAB_GRID pgFAB
/-- Station ID (R372). -/
def Chip.station (c : Chip) : Nat := c.grid * 2 + c.rd R.SYS_TWIN_ID pgSYS
/-- MAC address of a station of this domain (R372). -/
def Chip.macOf (c : Chip) (st : Nat) : Nat := 0x024739000000 + c.rd R.FAB_DOMAIN pgFAB * 65536 + st
/-- The fabric ports operate. -/
def Chip.fabOn (c : Chip) : Bool := c.on R.FAB_EN pgFAB
/-- FAB_GRID_CLASH holds: nothing is sent but HELLO (R373). -/
def Chip.gridClash (c : Chip) : Bool := bitOf (c.rd R.EVT_LIVE pgFAB) 8
/-- The station originates messages of its node (R373, R382). -/
def Chip.fabLead (c : Chip) : Bool := c.fabOn && c.leads && !c.gridClash
/-- The station is a grandmaster candidate (R390). -/
def Chip.gmCand (c : Chip) : Bool := c.fabOn && c.leads && c.on R.FAB_GM_CAND pgFAB
/-- The priority1 that the station announces (R390). -/
def Chip.gmPrio (c : Chip) : Nat := if c.gmCand then c.rd R.FAB_PRIO1 pgFAB else 255

/-- Only a candidate is grandmaster, and one that is alone is grandmaster of its own planes (R389, R390, R397). -/
def Chip.gmJudge (c : Chip) : Chip :=
  let gm := c.gmCand && (c.on R.FAB_GM pgFAB || c.on R.FAB_ALONE pgFAB)
  if c.on R.FAB_GM pgFAB == gm then c else (c.up R.FAB_GM pgFAB (b2n gm)).fabSource

/-- Ports on which a frame may be sent (R394). -/
def Chip.fabPorts (c : Chip) (p : Plane) : List Nat :=
  if c.planeSleeps p then [] else (planePorts p).filter (fun k => c.fpState k == 2)

/-! Routing (R380, R381). -/

/-- The adjacencies that the LSA of a station or pseudo-node lists. -/
def Chip.lsaOf (c : Chip) (p : Plane) (st : Nat) : List Nat :=
  match c.fab.lsas.find? (fun l => l.1.plane == p && l.1.station == st) with
  | some l => l.1.links
  | none => []

/-- The number of the pseudo-node of a station's port (R378). DESIGN CHOICE (179). -/
def pseudoNode (st k : Nat) : Nat := 2048 + 4 * st + k

/-- The stations one hop away from a station by its LSA: its neighbours, and the other stations of its segments, as a bridged segment
counts as one hop (R380). -/
def Chip.lsaLinks (c : Chip) (p : Plane) (st : Nat) : List Nat :=
  (c.lsaOf p st).flatMap (fun l => if l < 2048 then [l] else (c.lsaOf p l).filter (· != st))

/-- Adds a station reached by a first hop; of two at one distance the lower first hop stands (R380). -/
def addReach (m : List (Nat × Nat)) (e : Nat × Nat) : List (Nat × Nat) :=
  match m.find? (fun x => x.1 == e.1) with
  | none => m ++ [e]
  | some x => if e.2 < x.2 then m.map (fun y => if y.1 == e.1 then e else y) else m

/-- Stations reached within a number of hops, with their first hops (R380). -/
def Chip.reach (c : Chip) (p : Plane) : Nat → List (Nat × Nat) → List (Nat × Nat) → List (Nat × Nat)
  | 0, known, _ => known
  | n + 1, known, edge =>
    let next := (edge.flatMap (fun e => (c.lsaLinks p e.1).map (fun s => (s, e.2)))).foldl
      (fun m e => if known.any (fun x => x.1 == e.1) || e.1 == c.station then m else addReach m e) []
    if next = [] then known else c.reach p n (known ++ next) next

/-- Neighbours of a plane with an adjacency. -/
def Chip.neighbours (c : Chip) (p : Plane) : List Nat :=
  ((c.fab.adjs.filter (fun a => fpPlane a.fport == p && a.heardMe)).map (fun a => a.station)).eraseDups

/-- Stations of a plane within `hops` hops, with their first hops (R380). -/
def Chip.routesIn (c : Chip) (p : Plane) (hops : Nat) : List (Nat × Nat) :=
  let ns := (c.neighbours p).map (fun s => (s, s))
  c.reach p (hops - 1) ns ns

/-- Stations reachable on a plane, with their first hops: those within 32 hops (R380). -/
def Chip.routes (c : Chip) (p : Plane) : List (Nat × Nat) := c.routesIn p 32

/-- A port on which more than one station is heard (R378). -/
def Chip.isSegment (c : Chip) (k : Nat) : Bool := decide (1 < (c.fab.adjs.filter (fun a => a.fport == k)).length)

/-- The station of the lowest ID on a port, with its port there (R378). -/
def Chip.lowest (c : Chip) (k : Nat) : Nat × Nat :=
  (c.fab.adjs.filter (fun a => a.fport == k)).foldl (fun m a => if a.station < m.1 then (a.station, a.farPort) else m) (c.station, k)

/-- The adjacencies of a plane as an LSA lists them: each neighbour, and one link to the pseudo-node of each segment (R378, R379). -/
def Chip.ownLinks (c : Chip) (p : Plane) : List Nat :=
  ((planePorts p).flatMap (fun k =>
    let ns := (c.fab.adjs.filter (fun a => a.fport == k && a.heardMe)).map (fun a => a.station)
    if ns = [] ∨ c.isSegment k = false then ns else [pseudoNode (c.lowest k).1 (c.lowest k).2])).eraseDups

/-- The segments of a plane that this station advertises, as the lowest on them, with their stations (R378). -/
def Chip.ownSegments (c : Chip) (p : Plane) : List (Nat × List Nat) :=
  ((planePorts p).filter (fun k => c.isSegment k && (c.lowest k).1 == c.station)).map (fun k =>
    (pseudoNode c.station k, c.station :: (c.fab.adjs.filter (fun a => a.fport == k && a.heardMe)).map (fun a => a.station)))

/-- The port towards a station on a plane. -/
def Chip.routeTo (c : Chip) (p : Plane) (st : Nat) : Option Nat :=
  match (c.routes p).find? (fun r => r.1 == st) with
  | some r => ((c.fab.adjs.find? (fun a => fpPlane a.fport == p && a.heardMe && a.station == r.2)).map (fun a => a.fport)).filter
      (fun k => (c.fabPorts p).contains k)
  | none => none

/-- The LEAD station of a node by its current LSAs (R381). -/
def Chip.leadStation (c : Chip) (p : Plane) (node : Nat) : Nat :=
  match c.fab.lsas.find? (fun l => l.1.plane == p && decide (l.1.station < 2048) && l.1.station / 2 == node && l.1.lead) with
  | some l => l.1.station
  | none => 2 * node

/-- The port a message takes on a plane (R381): to a station, or to a node's LEAD, else its other station. -/
def Chip.route (c : Chip) (p : Plane) (h : SurveyHdr) : Option Nat :=
  if h.station then c.routeTo p (2 * h.dstNode + b2n h.dstTwin)
  else
    let l := c.leadStation p h.dstNode
    match c.routeTo p l with
    | some k => some k
    | none => c.routeTo p (4 * h.dstNode + 1 - l)

/-- NODES and DIAMETER (R380, R397). -/
def Chip.reRoute (c : Chip) : Chip :=
  let ss := ((c.routes .a) ++ (c.routes .b)).map (fun r => r.1 / 2)
  let n := ((c.grid :: ss).eraseDups).length
  let beyond (p : Plane) : Bool := decide ((c.routes p).length < (c.routesIn p 2048).length)
  let far := beyond .a || beyond .b
  let c1 := if c.rd R.FAB_NODES pgFAB = n then c else c.up R.FAB_NODES pgFAB n
  if c1.on R.FAB_DIAMETER pgFAB == far then c1 else c1.up R.FAB_DIAMETER pgFAB (b2n far)

/-- An LSA of this station's own number is one of those it has sent, come back on the plane. -/
def Chip.ownEcho (c : Chip) (l : Lsa) : Bool :=
  l.station == c.station && (decide (l.seq.toNat < c.fab.lsaSeq.toNat) || c.fab.lsaSent.any (fun x => { x with ageMs := l.ageMs } == l))
    && l.incarn.toNat == c.rd R.FAB_INCARN pgFAB

/-- An LSA cannot come from this node although it bears its GRID (R373): it is of this very station, or of the twin's station with
another INCARN, or as LEAD, where the twin is neither. DESIGN CHOICE (180). -/
def Chip.clashLsa (c : Chip) (l : Lsa) : Bool :=
  decide (l.station < 2048) && l.station / 2 == c.grid
    && (l.station == c.station || (c.paired && l.incarn.toNat != c.rd R.FAB_INCARN pgFAB) || (c.leads && !c.paired && l.lead))

/-- Two nodes of the domain hold this GRID (R373). -/
def Chip.clashHeard (c : Chip) : Bool := c.fab.lsas.any (fun l => c.clashLsa l.1)

/-- GRID_CLASH follows what is heard (R373, R398). -/
def Chip.clashJudge (c : Chip) : Chip :=
  let on := c.clashHeard
  if on == c.gridClash then c
  else
    let c1 := c.level pgFAB 8 on
    if on && c1.leads then c1.raise 0xA4 0 else c1

/-! Messages (R374, R375, R386 to R388). -/

/-- The header of a message of this node (R374). -/
def Chip.hdrFor (c : Chip) (cls sub : Nat) (rel : Bool) (node : Nat) (sta : Option Bool) (bcast : Bool) (part : Nat) (len : Nat) (id : Word) : SurveyHdr :=
  { ver := 1, cls := cls, sub := sub, rel := rel, lead := c.leads, domain := c.rd R.FAB_DOMAIN pgFAB, hops := 32, src := c.station,
    dstNode := node, dstTwin := sta.getD false, station := sta.isSome, bcast := bcast, msgId := id,
    incarn := BitVec.ofNat 16 (c.rd R.FAB_INCARN pgFAB), part := ⟨part % 8, Nat.mod_lt _ (by decide)⟩, len := len, stamp := c.fabDatum }

/-- A frame leaves by a port. -/
def Chip.sendFab (c : Chip) (k : Nat) (f : FabFrame) : Chip :=
  c.send (.fabFrame (fpFin k) f (surveyBytes f.hdr ++ f.payload ++ prpTail f.payload.length f.prpSeq (fpPlane k)))

/-- Puts one message on the planes that have a route, under one PRP sequence number (R375, R388). A FENCED station sends none (R382). -/
def Chip.fabTx (c : Chip) (h : SurveyHdr) (payload : Bytes) : Chip :=
  if !c.fabOn || c.gridClash || c.rd R.TWIN_STATE pgTWIN == 4 then c
  else
    let f : FabFrame := ⟨0x88B5, false, c.macOf c.station, c.fab.prpSeq, true, h, payload⟩
    let ks := if h.bcast then (c.fabPorts .a) ++ (c.fabPorts .b) else (c.route .a h).toList ++ (c.route .b h).toList
    if ks = [] then c.bump R.FAB_CNT pgFAB 4
    else
      let c1 := (c.modFab (fun q => { q with prpSeq := q.prpSeq + 1 })).send (.survey h payload)
      foldc ks (fun k c => c.sendFab k f) c1

/-- The message series and the fabric offset go to the twin (R386, R392). -/
def Chip.fabMirror (c : Chip) : Chip :=
  if c.paired then c.send (.chain (.mirror (.fab c.fab.msgId (BitVec.ofNat 16 (c.rd R.FAB_INCARN pgFAB))
    (BitVec.ofNat 32 (c.rd R.FAB_DATUM_OFS_LO pgFAB)) (BitVec.ofNat 32 (c.rd R.FAB_DATUM_OFS_HI pgFAB))))) else c

/-- Sends a reliable message (R386, R387). -/
def Chip.fabRel (c : Chip) (cls sub node : Nat) (sta : Option Bool) (part : Nat) (payload : Bytes) : Chip :=
  let id := c.fab.msgId
  let h := c.hdrFor cls sub true node sta false part payload.length id
  let c1 := (c.modFab (fun q => { q with msgId := id + 1, rel := q.rel ++ [{ id := id, hdr := h, payload := payload, atT := c.now }] })).fabMirror
  c1.fabTx h payload

/-- Sends an ACK to the source station of a message (R387). -/
def Chip.fabAck (c : Chip) (h : SurveyHdr) : Chip :=
  let a := c.hdrFor 0 2 false (h.src / 2) (some (decide (h.src % 2 = 1))) false 0 4 0
  c.fabTx a (leBytes h.msgId.toNat 4)

/-- Broadcasts a control message (R393, R395). -/
def Chip.fabBcast (c : Chip) (sub : Nat) (id : Word) (payload : Bytes) : Chip :=
  c.fabTx (c.hdrFor 0 sub false 0 none true 0 payload.length id) payload

/-- A message is for this station (R374, R381). -/
def Chip.forMe (c : Chip) (h : SurveyHdr) : Bool :=
  h.domain == c.rd R.FAB_DOMAIN pgFAB && (h.bcast || (h.dstNode == c.grid && (!h.station || h.dstTwin == c.on R.SYS_TWIN_ID pgSYS)))

/-- A message of class `cls` that this station accepts as LEAD (R382), not in a pause of its services (R496); a keepalive has no further
effect (R377). -/
def Chip.accepts (c : Chip) (h : SurveyHdr) (cls : Nat) : Bool :=
  c.fabOn && c.leads && c.services && h.ver == 1 && h.cls == cls && h.len != 0 && c.forMe h

/-- The window of a source node (R386). -/
def Chip.rxWin (c : Chip) (node : Nat) : Option RxWin := c.fab.rx.find? (fun w => w.node == node)

/-- A reliable message passes the window of its source (R386): whether it is to be applied. It is acknowledged unless it was
broadcast (R387). -/
def Chip.relRx (c : Chip) (h : SurveyHdr) : Chip × Bool :=
  if !h.rel then (c, true)
  else
    let node := h.src / 2
    let w := (c.rxWin node).getD { node := node, incarn := h.incarn }
    let ack (c : Chip) : Chip := if h.bcast then c else c.fabAck h
    let put (v : RxWin) : Chip := c.modFab (fun q => { q with rx := v :: q.rx.filter (fun x => x.node != node) })
    let fresh := later 16 h.incarn.toNat w.incarn.toNat
    if !fresh && h.incarn != w.incarn then (c.bump R.FAB_CNT pgFAB 2, false)
    else
      let ids := if fresh then [] else w.ids
      if ids.contains h.msgId then (ack (c.bump R.FAB_CNT pgFAB 1), false)
      else
        let newest := ids.foldl (fun m i => BitVec.ofNat 32 (laterOf 32 i.toNat m.toNat)) (ids.head?.getD h.msgId)
        let behind := (newest - h.msgId).toNat
        if ids ≠ [] ∧ !later 32 h.msgId.toNat newest.toNat ∧ 64 < behind then (c.bump R.FAB_CNT pgFAB 2, false)
        else (ack (put { node := node, incarn := h.incarn, ids := (h.msgId :: ids).take 64 }), true)

/-! Wake requests (R395, R396). -/

/-- A port takes a state. -/
def Chip.fpSet (c : Chip) (k st : Nat) : Chip := c.modFab (fun q => { q with portUp := setAt q.portUp k st })

/-- Adjacencies or ports changed: statuses, planes, routes, and the LSA that is due (R379, R389). -/
def Chip.fabJudge (c : Chip) : Chip := ((((c.fpShow c.fpFec).planeJudge).reRoute).arm (tmKey tmLsa 0) 0)

/-- The QUIET in hand ends. -/
def Chip.quietClear (c : Chip) : Chip :=
  (c.modFab (fun q => { q with quiet := none, quietMine := false, quietAcks := [], quietCommit := false, asleep := false, idle := false })).disarm (tmKey tmQuietAck 0)

/-- dq since the sleep instant by the station's own fabric Datum, and none before it (R394, R396). -/
def Chip.sinceQ (c : Chip) : Option Nat :=
  let d := (c.fabDatum + 2 ^ 64 - c.fab.quietQ) % 2 ^ 64
  if 2 ^ 63 ≤ d then none else some d

/-- A wake request is held (R395, R396). By the station's own fabric Datum: before Q, and without a commit, the sleep does not
happen; within the settle window frames resume at once; afterwards the ports train again. -/
def Chip.wakeRequest (c : Chip) : Chip :=
  match c.fab.quiet with
  | none => c
  | some p =>
    let tx (c : Chip) : Chip := c.fabBcast 5 0 [BitVec.ofNat 8 (planeNo p)]
    let at0 := c.sinceQ
    if c.fab.wake then c
    else if !c.fab.quietCommit || at0 == none then
      let c1 := tx (c.quietClear)
      if c.fab.quietMine && !c.fab.quietCommit then c1.bump R.FAB_CNT pgFAB 8 else c1
    else if decide (at0.getD 0 < 10 * dqUs) && !c.fab.idle then (tx (((c.quietClear).disarm (tmKey tmSettleWin 0)).fabJudge)).pulse pgFAB 6
    else
      let c1 := foldc (planePorts p) (fun k c => if c.fpState k = 3 ∨ c.fpState k = 2 then c.fpSet k 1 else c) (c.disarm (tmKey tmSettleWin 0))
      let c2 := c1.modFab (fun q => { q with asleep := false, idle := false, wake := true, adjs := q.adjs.filter (fun a => fpPlane a.fport != p) })
      ((tx c2).fabJudge).pulse pgFAB 6

/-- The QUIET plane is woken when the other plane leaves UP (R395). -/
def Chip.wakeIfLost (c : Chip) (was : Plane → Nat) : Chip :=
  match c.fab.quiet with
  | none => c
  | some p => if was (otherPlane p) = 2 ∧ c.rd (planeFld (otherPlane p)) pgFAB ≠ 2 then c.wakeRequest else c

/-- What a plane reads in FAB_STATUS. -/
def Chip.planeNow (c : Chip) (p : Plane) : Nat := c.rd (planeFld p) pgFAB

/-- Adjacencies or ports changed; a plane that leaves UP wakes the other one from its sleep (R395). -/
def Chip.fabChanged (c : Chip) : Chip := (c.fabJudge).wakeIfLost c.planeNow

/-- What passes with time at the fabric: a plane without an adjacency for 35 ms is ALONE, and the grandmaster's role follows the
candidacy (R389, R390). -/
def Chip.fabTick (c : Chip) : Chip :=
  let due (p : Plane) : Bool := c.planeNow p == 2 && c.planeState p != 2
  (if c.fabOn && (due .a || due .b) then c.fabChanged else c).gmJudge

/-! Rows: discovery and routing. -/

/-- Every 10 ms HELLO goes out on each UP port (R378). -/
def fabHelloSend (c : Chip) : Chip :=
  if !c.fabOn || (c.armed (tmKey tmFabHello 0) && !c.due (tmKey tmFabHello 0)) then c
  else
    let hello (k : Nat) : FabHello := ⟨c.station, c.rd R.FAB_DOMAIN pgFAB, fpPlane k, fpFin k, c.leads, BitVec.ofNat 16 (c.rd R.FAB_INCARN pgFAB),
      (c.fab.adjs.filter (fun a => a.fport == k && decide (c.now < a.heardAt + 35 * dqMs))).map (fun a => a.station)⟩
    foldc ((c.fabPorts .a) ++ (c.fabPorts .b)) (fun k c => c.send (.fabHello (fpFin k) (hello k))) (c.arm (tmKey tmFabHello 0) (10 * dqMs))

/-- A HELLO of a neighbour (R370, R373, R378). -/
def fabHelloRx (c : Chip) (k : Nat) (h : FabHello) : Chip :=
  if !c.fabOn || !c.planeHere (fpPlane k) || !(c.fpState k == 2 || c.fpState k == 4) then c
  else if h.plane ≠ fpPlane k then
    if c.fpState k = 4 then c
    else (((c.fpSet k 4).modFab (fun q => { q with adjs := q.adjs.filter (fun a => a.fport != k) })).fabChanged).raise 0xA0 k
  else if h.domain ≠ c.rd R.FAB_DOMAIN pgFAB ∨ h.station = c.station then c
  else
    let c1 := if c.fpState k = 4 then c.fpSet k 2 else c
    let me := h.heard.contains c.station
    let was := c1.fab.adjs.find? (fun a => a.fport == k && a.station == h.station)
    let mine : Adj := { fport := k, station := h.station, heardAt := c.now, heardMe := me, farPort := h.fport.val }
    let c2 := c1.modFab (fun q => { q with adjs := mine :: q.adjs.filter (fun a => !(a.fport == k && a.station == h.station)) })
    if (match was with | some a => a.heardMe == me && a.farPort == h.fport.val | none => false) then c2 else c2.fabChanged

/-- 35 ms without a HELLO of a neighbour (R378). -/
def adjacencyTimeout (c : Chip) (k st : Nat) : Chip :=
  match c.fab.adjs.find? (fun a => a.fport == k && a.station == st) with
  | none => c
  | some a =>
    if c.now < a.heardAt + 35 * dqMs then c
    else (c.modFab (fun q => { q with adjs := q.adjs.filter (fun a => !(a.fport == k && a.station == st)) })).fabChanged

/-- The station's LEAD bit or INCARN differs from what it last flooded (R379). -/
def Chip.lsaStale (c : Chip) : Bool :=
  c.fab.lsaSent.any (fun l => l.lead != c.leads || l.incarn.toNat != c.rd R.FAB_INCARN pgFAB)

/-- The LSAs of a station on a plane: its own, and one for each segment that it advertises (R378, R379). -/
def Chip.ownLsas (c : Chip) (seq : Word) (p : Plane) : List Lsa :=
  ((c.station, c.ownLinks p) :: c.ownSegments p).map (fun x =>
    ⟨p, x.1, c.grid, c.rd R.FAB_DOMAIN pgFAB, seq, c.leads, BitVec.ofNat 16 (c.rd R.FAB_INCARN pgFAB), x.2, 0⟩)

/-- A station floods its LSA on each plane (R379): when its adjacencies, its LEAD bit or INCARN change, and every 10 s. -/
def lsaFlood (c : Chip) : Chip :=
  if !c.fabOn || c.gridClash || (c.armed (tmKey tmLsa 0) && !c.due (tmKey tmLsa 0) && !c.lsaStale) then c
  else
    let seq := c.fab.lsaSeq + 1
    let sent := c.ownLsas seq .a ++ c.ownLsas seq .b
    let c1 := (c.modFab (fun q => { q with lsaSeq := seq, lsaSent := sent })).arm (tmKey tmLsa 0) (10 * dqS)
    foldc sent (fun l c => foldc (c.fabPorts l.plane) (fun k c => c.send (.lsa (fpFin k) l)) c) c1

/-- An LSA arrives (R373, R379): the newest of each station is kept and passed on. -/
def lsaRx (c : Chip) (k : Nat) (l : Lsa) : Chip :=
  let p := fpPlane k
  if !c.fabOn || c.fpState k != 2 || l.plane != p || l.domain != c.rd R.FAB_DOMAIN pgFAB || decide (30000 < l.ageMs) || c.ownEcho l then c
  else
    let old := c.fab.lsas.find? (fun x => x.1.plane == p && x.1.station == l.station)
    let newer := match old with | some x => decide (x.1.seq.toNat < l.seq.toNat) | none => true
    if !newer then c
    else
      let mine := (l, c.now - min c.now (l.ageMs * dqMs))
      let c1 := (c.modFab (fun q => { q with lsas := mine :: q.lsas.filter (fun x => !(x.1.plane == p && x.1.station == l.station)) })).clashJudge
      let c2 := if c1.gridClash then c1 else foldc ((c1.fabPorts p).filter (· != k)) (fun j c => c.send (.lsa (fpFin j) l)) c1
      c2.reRoute

/-- An LSA is older than 30 s (R379). -/
def lsaAgeOut (c : Chip) (p : Plane) (st : Nat) : Chip :=
  match c.fab.lsas.find? (fun x => x.1.plane == p && x.1.station == st) with
  | none => c
  | some x =>
    if c.now < x.2 + 30 * dqS then c
    else ((c.modFab (fun q => { q with lsas := q.lsas.filter (fun x => !(x.1.plane == p && x.1.station == st)) })).clashJudge).reRoute

/-- A Survey frame in transit leaves by the other port of the plane, unchanged but for HOPS; one whose FCS proves bad leaves with an
invalid FCS and is counted (R376). DESIGN CHOICE (181): HELLO goes no further than the neighbour. -/
def transitForward (c : Chip) (k : Nat) (f : FabFrame) : Chip :=
  let mine := c.forMe f.hdr && !f.hdr.bcast
  if !c.fabOn || c.fpState k != 2 || mine || f.tagged || f.etherType != 0x88B5 || (f.hdr.cls == 0 && f.hdr.sub == 0) then c
  else if f.hdr.hops = 0 then (if c.forMe f.hdr then c else c.bump R.FAB_CNT pgFAB 9)
  else if c.gridClash then c
  else
    let c1 := if f.fcsOk then c else c.modFab (fun q => { q with badTransit := q.badTransit + 1 })
    foldc ((c1.fabPorts (fpPlane k)).filter (· != k)) (fun j c => c.sendFab j { f with hdr := { f.hdr with hops := f.hdr.hops - 1 } }) c1

/-- A keepalive (R377): it is delivered like any message of its class and counted; one of MGMT restarts its session's idle timer. -/
def Chip.keepalive (c : Chip) (h : SurveyHdr) : Chip :=
  let c1 := c.bump R.FAB_CNT pgFAB 5
  if h.cls = 4 then c1.modFab (fun q => { q with sessAt := mapSet q.sessAt h.part.val c.now })
  else if (h.cls = 1 ∨ h.cls = 2 ∨ h.cls = 5) ∧ h.part ≠ 0 then c1.violation h.part.val 0 true 1
  else c1

/-- A frame arrives (R371, R375, R377, R381): other frames, second copies and keepalives are counted; a message for the node's
LEAD that reaches a station without that role goes to the twin. -/
def fabFrameRx (c : Chip) (k : Nat) (f : FabFrame) : Chip :=
  if !c.fabOn || c.fpState k != 2 then c
  else if f.tagged || !(f.etherType == 0x88B5 || f.etherType == 0x88F7 || f.etherType == 0x88FB) then c.bump R.FAB_CNT pgFAB 7
  else if !f.fcsOk || f.etherType != 0x88B5 then c
  else
    let seen := c.fab.prpSeen.filter (fun e => decide (c.now < e.2.2 + 400 * dqMs))
    if seen.any (fun e => e.1 == f.srcMac && e.2.1 == f.prpSeq) then
      (c.modFab (fun q => { q with prpSeen := seen })).bump R.FAB_CNT pgFAB 0
    else
      let c1 := c.modFab (fun q => { q with prpSeen := (f.srcMac, f.prpSeq, c.now) :: seen })
      let h := f.hdr
      if !c1.forMe h || h.ver != 1 || decide (5 < h.cls) then c1
      else if !h.station && !h.bcast && !c1.leads && h.cls != 0 then
        (if c1.rd R.TWIN_STATE pgTWIN = 4 then c1 else c1.send (.chain (.mirror (.relay h f.payload))))
      else if h.len = 0 && (c1.leads || h.cls == 0) then c1.keepalive h
      else c1

/-! Rows: messages. -/

/-- A BUDGET (R384): accepted once, acknowledged, and set at the first agreed tick at or after EFFECT. -/
def budgetRx (c : Chip) (h : SurveyHdr) (pl : Bytes) : Chip :=
  if !c.accepts h 1 then c
  else if h.part ≠ 0 then c.violation h.part.val 0 true 1
  else if !h.rel then c
  else
    let (c1, ok) := c.relRx h
    let w := f32 (leAt pl 4 4)
    if !ok || fIsNan w || (fSign w && !feq w fZero) then c1
    else
      let eff := leAt pl 8 8
      let ahead := (eff + 2 ^ 64 - c1.fabDatum) % 2 ^ 64
      let x0 := if eff = 0 ∨ 2 ^ 63 ≤ ahead then 0 else (c1.datum + ahead + dqTick - 1) / dqTick
      c1.proposeAt x0 (.budget w h.src (BitVec.ofNat 32 (leAt pl 0 4)))

/-- A SHARE (R383): its values are held for FAB. -/
def shareRx (c : Chip) (h : SurveyHdr) (pl : Bytes) : Chip :=
  if !c.accepts h 2 then c
  else if h.part ≠ 0 then c.violation h.part.val 0 true 1
  else
    let (c1, ok) := c.relRx h
    if ok then c1.modFab (fun q => { q with shares := mapSet q.shares h.src pl }) else c1

/-- A section's SHARE payload: its number and hold-up state, BRIM_WH, and the telemetry means of its members. The manual names
these values and does not lay them out. -/
def Chip.shareBody (c : Chip) (s : Nat) : Bytes :=
  [BitVec.ofNat 8 s, BitVec.ofNat 8 (c.rd R.HOLD_STATE pgHOLD s)] ++ leBytes (c.rd R.HOLD_BRIM_WH pgHOLD s) 4
  ++ (c.members s).flatMap (fun p => [BitVec.ofNat 8 p] ++ leBytes (c.rd R.SP_TLM_V (pgSP p)) 4 ++ leBytes (c.rd R.SP_TLM_I (pgSP p)) 4
      ++ leBytes (c.rd R.SP_TLM_P (pgSP p)) 4)

/-- Every Crown period a node with SHARE_TX sends SHARE (R383). -/
def shareSend (c : Chip) : Chip :=
  if !c.fabLead || !c.takesWork pgFAB || !c.on R.FAB_SHARE_TX pgFAB || c.tick % c.rd R.CROWN_PERIOD pgCROWN != 0 || (c.armed (tmKey tmShare 0) && !c.due (tmKey tmShare 0)) then c
  else
    let ss := (upTo 8).filter (fun s => (c.shareLaw s).isSome)
    foldc ss (fun s c => let b := c.shareBody s; c.fabTx (c.hdrFor 2 0 false 0 none true 0 b.length 0) b) (c.arm (tmKey tmShare 0) dqTick)

/-- An EVENT (R383): one Field Book record of another node. -/
def eventRx (c : Chip) (h : SurveyHdr) (pl : Bytes) : Chip :=
  if !c.accepts h 3 then c
  else
    let (c1, ok) := c.relRx h
    if ok then c1.modFab (fun q => { q with events := mapSet q.events h.src pl }) else c1

/-- A TIME message (R383). -/
def timeRx (c : Chip) (h : SurveyHdr) (pl : Bytes) : Chip :=
  if !c.accepts h 5 then c
  else if h.part ≠ 0 then c.violation h.part.val 0 true 1
  else
    let (c1, ok) := c.relRx h
    if ok then c1.modFab (fun q => { q with fabTime := leAt pl 0 8, tai := leAt pl 8 8 }) else c1

/-- An ACK (R387, R393). -/
def ackRx (c : Chip) (h : SurveyHdr) (pl : Bytes) : Chip :=
  if !(c.fabOn && h.cls == 0 && h.sub == 2 && h.len == 4 && c.forMe h) then c
  else
    let id := BitVec.ofNat 32 (leAt pl 0 4)
    c.modFab (fun q => { q with
      rel := q.rel.filter (fun m => m.id != id)
      quietAcks := if q.quietMine && q.quiet.isSome && q.quietId == id && !c.due (tmKey tmQuietAck 0) then (h.src / 2) :: q.quietAcks.filter (· != h.src / 2) else q.quietAcks })

/-- A repeat of a reliable message at 1, 2 and 3 ms (R387, R388); a station that no longer leads its node sends none (R382). -/
def relRetry (c : Chip) (id : Nat) : Chip :=
  match c.fab.rel.find? (fun m => m.id.toNat == id) with
  | none => c
  | some m =>
    if m.tries < 3 ∧ m.atT + (m.tries + 1) * dqMs ≤ c.now then
      let c1 := c.modFab (fun q => { q with rel := q.rel.map (fun x => if x.id == m.id then { x with tries := x.tries + 1 } else x) })
      if c1.leads && c1.services then c1.fabTx m.hdr m.payload else c1
    else c

/-- No ACK by 4 ms (R387). -/
def relFail (c : Chip) (id : Nat) : Chip :=
  match c.fab.rel.find? (fun m => m.id.toNat == id) with
  | none => c
  | some m =>
    if m.atT + 4 * dqMs ≤ c.now then
      ((c.modFab (fun q => { q with rel := q.rel.filter (fun x => x.id != m.id) })).bump R.FAB_CNT pgFAB 3).pulse pgFAB 3
    else c

/-- A session's idle timer runs out (R377): the session is no longer held open. -/
def sessionIdleTimeout (c : Chip) (part : Nat) : Chip := c.modFab (fun q => { q with sessAt := mapDel q.sessAt part })

/-! Rows: time (R390 to R392). -/

/-- A gPTP message (R390, R391): the offset at a SLAVE port, or the election of a grandmaster. Only the rate adjustment moves
Datum, by an amount that the manual leaves open within its range. -/
def ptpMessageRx (c : Chip) (p : Plane) (m : PtpMsg) : Chip :=
  if !c.fabOn || !c.planeHere p then c
  else match m with
    | .grandmaster elected =>
      let self := elected && c.gmCand
      let c1 := if c.on R.FAB_GM pgFAB == self then c else c.up R.FAB_GM pgFAB (b2n self)
      (if self then c1.modFab (fun q => { q with slaveA := false, slaveB := false }) else c1).fabSource
    | .slave err =>
      let c1 := c.modFab (fun q => match p with | .a => { q with slaveA := true } | .b => { q with slaveB := true })
      if p = .b ∧ c1.fab.slaveA then c1.fabSource
      else
        let good := decide (err.natAbs ≤ 400)
        let c2 := c1.hw pgFAB [(R.FAB_TIME_ERR, 0, unsgn 32 err), (R.FAB_SYNCED, 0, b2n good)]
        let since := c2.fab.errSince
        let c3 := if good then (c2.modFab (fun q => { q with errSince := none })).disarm (tmKey tmFabTime 0)
          else if since.isSome then c2
          else if !c2.leads then c2
          else (c2.modFab (fun q => { q with errSince := some c.now })).arm (tmKey tmFabTime 0) dqS
        let c4 := c3.fabSource
        if c4.leads && c4.fab.locked && !c4.on R.FAB_GM pgFAB then
          let (v, c5) := c4.free
          c5.up R.DATUM_RATE pgDATUM (unsgn 32 (rateFor err v))
        else c4

/-- A plane has a SLAVE port at this station (R391). -/
def Chip.slaveOn (c : Chip) (p : Plane) : Bool :=
  match p with
  | .a => c.fab.slaveA
  | .b => c.fab.slaveB

/-- Sends gPTP messages on the planes in use: a Sync only where the station is grandmaster or relays time of the plane. -/
def Chip.ptpSend (c : Chip) (tm period : Nat) (kinds : List Nat) : Chip :=
  if !c.fabOn || c.gridClash || (c.armed (tmKey tm 0) && !c.due (tmKey tm 0)) then c
  else
    let one (p : Plane) (c : Chip) : Chip :=
      if (c.fabPorts p) = [] then c
      else foldc (kinds.filter (fun k => k != 0 || c.on R.FAB_GM pgFAB || c.slaveOn p)) (fun k c => c.send (.ptp p k c.gmPrio)) c
    one .b (one .a (c.arm (tmKey tm 0) period))

/-- Sync, every 125 ms (R390). -/
def ptpSyncSend (c : Chip) : Chip := c.ptpSend tmSync (125 * dqMs) [0]
/-- A peer-delay request, every 1 s, and with it what the station announces (R390). DESIGN CHOICE (182). -/
def pdelaySend (c : Chip) : Chip := c.ptpSend tmPdelay dqS [1, 2]

/-- PRP supervision frames, every 2 s (R375). -/
def prpSupervisionSend (c : Chip) : Chip :=
  if !c.fabOn || c.gridClash || c.rd R.TWIN_STATE pgTWIN == 4 || (c.armed (tmKey tmSuperv 0) && !c.due (tmKey tmSuperv 0)) then c
  else
    let one (p : Plane) (c : Chip) : Chip := if (c.fabPorts p) = [] then c else c.send (.supervision p)
    one .b (one .a (c.arm (tmKey tmSuperv 0) (2 * dqS)))

/-- The twin learns that the pair has locked to fabric time, so that its first lock as LEAD is none after a start (R392). -/
def Chip.tellLocked (c : Chip) : Chip :=
  if c.fab.locked && (c.paired || c.joinerHears) then c.send (.chain (.mirror (.service 18 0 [1]))) else c

/-- A lock to fabric time (R392): `diff` is fabric time less own fabric Datum. At the first lock, and at a relock whose error
exceeds 80,000 dq, the LEAD steps Datum where no CMD frame is scheduled, and otherwise sets the offset. -/
def timeLock (c : Chip) (diff : Int) : Chip :=
  if !c.leads || !c.fabOn then c
  else
    let first := !c.fab.locked
    let c1 := ((c.modFab (fun q => { q with locked := true })).fabSource).tellLocked
    if first || decide (80000 < diff.natAbs) then
      let ofs := sgn 64 (c1.rd R.FAB_DATUM_OFS_LO pgFAB + 2 ^ 32 * c1.rd R.FAB_DATUM_OFS_HI pgFAB)
      let total := ofs + diff
      if c1.cmdScheduled then
        let v := unsgn 64 total
        (c1.hw pgFAB [(R.FAB_DATUM_OFS_LO, 0, v % 2 ^ 32), (R.FAB_DATUM_OFS_HI, 0, v / 2 ^ 32)]).fabMirror
      else
        let c2 := { c1 with datum := unsgn 64 ((c1.datum : Int) + total) }
        (c2.hw pgFAB [(R.FAB_DATUM_OFS_LO, 0, 0), (R.FAB_DATUM_OFS_HI, 0, 0)]).fabMirror
    else
      let (v, c2) := c1.free
      c2.up R.DATUM_RATE pgDATUM (unsgn 32 (rateFor (-diff) v))

/-- The time error has stayed above 400 dq for 1 s (R391): FAB_TIME and TIME_UNLOCK. -/
def fabTimeRow (c : Chip) : Chip :=
  if c.due (tmKey tmFabTime 0) && c.leads then ((c.disarm (tmKey tmFabTime 0)).pulse pgFAB 7).raise 0xA3 0 else c

/-! Rows: QUIET (R393 to R396). -/

/-- QUIET of a plane cannot be agreed here (R393). -/
def Chip.quietRefuses (c : Chip) (p : Plane) : Bool :=
  c.on R.SYS_FAB_PLANES pgSYS || c.fab.quiet.isSome || c.rd (planeFld (otherPlane p)) pgFAB != 2

/-- FAB_CTRL.QUIET_A or QUIET_B is written (R393): the LEAD proposes a sleep instant 50 ms ahead. -/
def Chip.quietStart (c : Chip) (p : Plane) : Chip :=
  if !c.fabLead then c
  else if c.quietRefuses p then c.bump R.FAB_CNT pgFAB 8
  else
    let q := (c.fabDatum + 50 * dqMs) % 2 ^ 64
    let id := c.fab.msgId
    let c1 := c.modFab (fun s => { s with quiet := some p, quietQ := q, quietMine := true, quietAcks := [], quietCommit := false, quietId := id, msgId := id + 1 })
    (c1.fabMirror.arm (tmKey tmQuietAck 0) (20 * dqMs)).fabBcast 3 id ([BitVec.ofNat 8 (planeNo p)] ++ leBytes q 8)

/-- FAB_CTRL.WAKE is written (R395): WAKE is broadcast, whether or not this station holds a QUIET. -/
def Chip.fabWake (c : Chip) : Chip :=
  if !c.fabOn then c else if c.fab.quiet = none then c.fabBcast 5 0 [0] else c.wakeRequest

/-- A QUIET_PROPOSE (R393): the LEAD acknowledges it, or refuses with WAKE. -/
def quietPropose (c : Chip) (h : SurveyHdr) (p : Plane) (q : Nat) : Chip :=
  if !c.fabOn || !c.forMe h || h.src == c.station then c
  else if c.quietRefuses p then (if c.fabLead then c.fabBcast 5 0 [BitVec.ofNat 8 (planeNo p)] else c)
  else
    let c1 := c.modFab (fun s => { s with quiet := some p, quietQ := q, quietMine := false, quietAcks := [], quietCommit := false })
    if c1.fabLead && c1.services then c1.fabAck h else c1

/-- A QUIET_COMMIT (R394). -/
def quietCommit (c : Chip) (h : SurveyHdr) (p : Plane) (q : Nat) : Chip :=
  if c.fabOn && c.forMe h && c.fab.quiet == some p && c.fab.quietQ == q then c.modFab (fun s => { s with quietCommit := true }) else c

/-- A WAKE message (R396). -/
def wakeRx (c : Chip) (h : SurveyHdr) : Chip := if c.fabOn && c.forMe h then c.wakeRequest else c

/-- The other nodes that are reachable on either plane (R393). -/
def Chip.quietNodes (c : Chip) : List Nat := ((((c.routes .a) ++ (c.routes .b)).map (fun r => r.1 / 2)).eraseDups).filter (· != c.grid)

/-- Every reachable node has acknowledged the proposal (R393). -/
def Chip.quietAgreed (c : Chip) : Bool := c.quietNodes.all (fun n => c.fab.quietAcks.contains n)

/-- 20 ms after its proposal the initiator commits, or gives up (R393). -/
def quietAckDeadline (c : Chip) : Chip :=
  if !(c.due (tmKey tmQuietAck 0) && c.fab.quietMine && c.fab.quiet.isSome && !c.fab.quietCommit) then c
  else
    let c1 := c.disarm (tmKey tmQuietAck 0)
    if c.quietAgreed then
      match c1.fab.quiet with
      | some p => (c1.modFab (fun s => { s with quietCommit := true })).fabBcast 4 c1.fab.quietId ([BitVec.ofNat 8 (planeNo p)] ++ leBytes c1.fab.quietQ 8)
      | none => c1
    else (c1.quietClear).bump R.FAB_CNT pgFAB 8

/-- The sleep instant (R394). -/
def quietInstant (c : Chip) : Chip :=
  match c.fab.quiet with
  | none => c
  | some p =>
    if c.fab.asleep || c.fab.wake || c.sinceQ == none then c
    else if c.fab.quietCommit then
      (((c.modFab (fun s => { s with asleep := true, idle := false })).planeJudge).arm (tmKey tmSettleWin 0) (10 * dqUs - (c.sinceQ).getD 0)).pulse pgFAB 5
    else (c.quietClear).fabBcast 5 0 [BitVec.ofNat 8 (planeNo p)]

/-- The settle window ends (R394): the plane's ports enter electrical idle. -/
def settleWindowEnd (c : Chip) : Chip :=
  match c.fab.quiet with
  | none => c
  | some p =>
    if c.due (tmKey tmSettleWin 0) && c.fab.asleep then
      let c1 := (c.disarm (tmKey tmSettleWin 0)).modFab (fun s => { s with idle := true })
      let c2 := foldc (planePorts p) (fun k c => if c.fpState k = 2 then c.fpSet k 3 else c) c1
      (c2.fpShow c2.fpFec).planeJudge
    else c

/-- Signal for 1 us on a port in electrical idle (R395). -/
def signalDetectWake (c : Chip) (k : Nat) : Chip := if c.fabOn && c.fpState k == 3 then c.wakeRequest else c

/-! Rows: the physical ports (R369, R399). -/

/-- A fabric port comes UP (R369, R396). -/
def fabPortLinkUp (c : Chip) (k : Nat) (fec : Bool) : Chip :=
  let p := fpPlane k
  if !c.fabOn || !c.planeHere p || c.planeSleeps p then c
  else
    let want := c.on (match p with | .a => R.FAB_FEC_A | .b => R.FAB_FEC_B) pgFAB
    let woke := c.fab.wake && c.fab.quiet == some p
    let c1 := (c.fpSet k 2).modFab (fun q => if woke then { q with wake := false, quiet := none, quietCommit := false, quietMine := false } else q)
    (c1.fpShow (fun j => if j = k then fec && want else c1.fpFec j)).fabChanged

/-- A fabric port goes DOWN (R399). -/
def fabPortLinkDown (c : Chip) (k : Nat) : Chip :=
  let c1 := (c.fpSet k 0).modFab (fun q => { q with adjs := q.adjs.filter (fun a => a.fport != k) })
  (c1.fpShow (fun j => j != k && c1.fpFec j)).fabChanged

/-- The fabric ports stop operating: FAB_CFG.EN is cleared. -/
def Chip.fabStop (c : Chip) : Chip :=
  let c1 := c.modFab (fun q => { q with portUp := [0, 0, 0, 0], adjs := [], lsas := [], lsaSent := [], rel := [], quiet := none, asleep := false, idle := false, wake := false, slaveA := false, slaveB := false })
  ((((c1.fpShow (fun _ => false)).planeJudge).reRoute).fabSource).disarm (tmKey tmQuietAck 0)

/-- GRID or DOMAIN changes: the station has another number, or other neighbours; adjacencies form anew and, in another domain, so do
routes (R372, R373). -/
def Chip.fabRename (c : Chip) (domain : Bool) : Chip :=
  (((c.modFab (fun q => { q with adjs := [], lsaSent := [], lsas := if domain then [] else q.lsas })).clashJudge).fabChanged)

/-- The fabric is joined at start step 7 (R93): the ports of the planes that are present train, and the LSA is due (R369). -/
def Chip.fabStart (c : Chip) : Chip :=
  let c0 := foldc ((upTo 4).filter (fun k => c.planeHere (fpPlane k) && c.fpState k == 0)) (fun k c => c.fpSet k 1) c
  ((((c0.fpShow c0.fpFec).planeJudge).arm (tmKey tmLsa 0) 0).arm (tmKey tmFabHello 0) 0)

/-! Meanings of the rows. -/

/-- FAB_HELLO_SEND (R378): Every 10 ms a station sends HELLO on each UP port. -/
def execFabHelloSend (s : State) : Result :=
  .next (s.onChip (fun c => fabHelloSend c))

/-- FAB_HELLO_RX (R378): A received HELLO forms or refreshes an adjacency. -/
def execFabHelloRx (fport : FPort) (hello : FabHello) (s : State) : Result :=
  .next (s.onChip (fun c => fabHelloRx c fport.val hello))

/-- ADJACENCY_TIMEOUT (R378): An adjacency ends after 35 ms without HELLO. -/
def execAdjacencyTimeout (fport : FPort) (station : Nat) (s : State) : Result :=
  .next (s.onChip (fun c => adjacencyTimeout c fport.val station))

/-- LSA_FLOOD (R379): A station floods its LSA on change or every 10 s. -/
def execLsaFlood (s : State) : Result :=
  .next (s.onChip (fun c => lsaFlood c))

/-- LSA_RX (R379): A received LSA is kept, forwarded and used to recompute routes. -/
def execLsaRx (fport : FPort) (lsa : Lsa) (s : State) : Result :=
  .next (s.onChip (fun c => lsaRx c fport.val lsa))

/-- LSA_AGE_OUT (R379): An LSA older than 30 s is discarded. -/
def execLsaAgeOut (plane : Plane) (station : Nat) (s : State) : Result :=
  .next (s.onChip (fun c => lsaAgeOut c plane station))

/-- TRANSIT_FORWARD (R376): A station forwards a transit frame with HOPS decremented. -/
def execTransitForward (fport : FPort) (frame : FabFrame) (s : State) : Result :=
  .next (s.onChip (fun c => transitForward c fport.val frame))

/-- FAB_FRAME_RX (R371): A station receives a fabric frame, discarding other EtherTypes and PRP duplicates. -/
def execFabFrameRx (fport : FPort) (frame : FabFrame) (s : State) : Result :=
  .next (s.onChip (fun c => fabFrameRx c fport.val frame))

/-- BUDGET_RX (R384): A BUDGET message is accepted, acknowledged and scheduled at an agreed tick. -/
def execBudgetRx (hdr : SurveyHdr) (payload : Bytes) (s : State) : Result :=
  .next (s.onChip (fun c => budgetRx c hdr payload))

/-- SHARE_RX (R383): A SHARE message's section values are stored in FAB. -/
def execShareRx (hdr : SurveyHdr) (payload : Bytes) (s : State) : Result :=
  .next (s.onChip (fun c => shareRx c hdr payload))

/-- SHARE_SEND (R383): A node with SHARE_TX sends SHARE every Crown period. -/
def execShareSend (s : State) : Result :=
  .next (s.onChip (fun c => shareSend c))

/-- EVENT_RX (R383): An EVENT message delivers one Field Book record. -/
def execEventRx (hdr : SurveyHdr) (payload : Bytes) (s : State) : Result :=
  .next (s.onChip (fun c => eventRx c hdr payload))

/-- TIME_RX (R383): A TIME message delivers the fabric Datum of a second boundary and TAI time. -/
def execTimeRx (hdr : SurveyHdr) (payload : Bytes) (s : State) : Result :=
  .next (s.onChip (fun c => timeRx c hdr payload))

/-- ACK_RX (R387): An ACK ends the repeats of a reliable message. -/
def execAckRx (hdr : SurveyHdr) (payload : Bytes) (s : State) : Result :=
  .next (s.onChip (fun c => ackRx c hdr payload))

/-- REL_RETRY (R387): A reliable message without ACK is repeated at 1, 2 and 3 ms. -/
def execRelRetry (msgId : Nat) (s : State) : Result :=
  .next (s.onChip (fun c => relRetry c msgId))

/-- REL_FAIL (R387): No ACK by 4 ms counts CNT_REL_FAIL and raises DELIVERY_FAIL. -/
def execRelFail (msgId : Nat) (s : State) : Result :=
  .next (s.onChip (fun c => relFail c msgId))

/-- PTP_MESSAGE_RX (R390): A gPTP message is handled by the station's time-aware system. -/
def execPtpMessageRx (plane : Plane) (msg : PtpMsg) (s : State) : Result :=
  .next (s.onChip (fun c => ptpMessageRx c plane msg))

/-- PTP_SYNC_SEND (R390): A grandmaster or relay sends Sync every 125 ms. -/
def execPtpSyncSend (s : State) : Result :=
  .next (s.onChip (fun c => ptpSyncSend c))

/-- PDELAY_SEND (R390): A station sends peer-delay requests every 1 s. -/
def execPdelaySend (s : State) : Result :=
  .next (s.onChip (fun c => pdelaySend c))

/-- PRP_SUPERVISION_SEND (R375): A station sends PRP supervision frames every 2 s. -/
def execPrpSupervisionSend (s : State) : Result :=
  .next (s.onChip (fun c => prpSupervisionSend c))

/-- TIME_LOCK (R392): At first lock or a large relock the LEAD steps Datum or sets FAB_DATUM_OFS. -/
def execTimeLock (diff : Int) (s : State) : Result :=
  .next (s.onChip (fun c => timeLock c diff))

/-- FAB_TIME (R391): A fabric time error above 400 dq for 1 s raises FAB_TIME. -/
def execFabTime (s : State) : Result :=
  .next (s.onChip (fun c => fabTimeRow c))

/-- QUIET_PROPOSE (R393): A node acknowledges or refuses with WAKE a received QUIET_PROPOSE. -/
def execQuietPropose (hdr : SurveyHdr) (plane : Plane) (q : Nat) (s : State) : Result :=
  .next (s.onChip (fun c => quietPropose c hdr plane q))

/-- QUIET_COMMIT (R394): A node receives QUIET_COMMIT and prepares to sleep the plane at Q. -/
def execQuietCommit (hdr : SurveyHdr) (plane : Plane) (q : Nat) (s : State) : Result :=
  .next (s.onChip (fun c => quietCommit c hdr plane q))

/-- WAKE (R396): A received WAKE prevents, aborts or ends a plane's sleep. -/
def execWake (hdr : SurveyHdr) (s : State) : Result :=
  .next (s.onChip (fun c => wakeRx c hdr))

/-- QUIET_ACK_DEADLINE (R393): After 20 ms the initiator commits or aborts the QUIET proposal. -/
def execQuietAckDeadline (s : State) : Result :=
  .next (s.onChip (fun c => quietAckDeadline c))

/-- QUIET_INSTANT (R394): At Q stations stop sending on the plane, or send WAKE without a commit. -/
def execQuietInstant (s : State) : Result :=
  .next (s.onChip (fun c => quietInstant c))

/-- SETTLE_WINDOW_END (R394): 10 us after Q the plane's ports enter electrical idle. -/
def execSettleWindowEnd (s : State) : Result :=
  .next (s.onChip (fun c => settleWindowEnd c))

/-- SIGNAL_DETECT_WAKE (R395): Signal detected for 1 us on an idle port, or the other plane leaving UP, is a wake request. -/
def execSignalDetectWake (fport : FPort) (s : State) : Result :=
  .next (s.onChip (fun c => signalDetectWake c fport.val))

/-- FAB_PORT_LINK_UP (R369): A fabric port completes auto-negotiation or training and its PHY link comes UP. -/
def execFabPortLinkUp (fport : FPort) (fec : Bool) (s : State) : Result :=
  .next (s.onChip (fun c => fabPortLinkUp c fport.val fec))

/-- FAB_PORT_LINK_DOWN (R399): A fabric port's PHY link fails, possibly taking its plane DOWN and raising FAB_PLANE_DOWN. -/
def execFabPortLinkDown (fport : FPort) (s : State) : Result :=
  .next (s.onChip (fun c => fabPortLinkDown c fport.val))

/-- SESSION_IDLE_TIMEOUT (R377): The idle timer of a fabric MGMT session runs out. -/
def execSessionIdleTimeout (part : Part) (s : State) : Result :=
  .next (s.onChip (fun c => sessionIdleTimeout c part.val))

/-- PTP_SLAVE_LOSS (R391): The LEAD's last SLAVE port on a plane is lost, so it follows the other plane or its Datum source becomes
FREE. -/
def execPtpSlaveLoss (plane : Plane) (s : State) : Result :=
  .next (s.onChip (fun c => ptpSlaveLoss c plane))

end Sys2Proof.Machine
end

