-- ==== Sys2Proof/Machine/Ring.lean ====
section
/-! DEFINITION. Ring.lean: the shared ring's arbiter (R410 to R422). A ring cycle is 8 dq (R86). -/

namespace Sys2Proof.Machine

/-- Ring cycles in a time. -/
def ringCycles (dq : Nat) : Nat := dq / 8

/-! Queues (R410, R416). -/

/-- A queue of a slot and partition. -/
def Chip.ringQ (c : Chip) (slot part : Nat) : RingQ :=
  (c.arb.qs.find? (fun q => q.slot == slot && q.part == part)).getD { slot := slot, part := part }

/-- Replaces a queue, in order of slot and partition. -/
def Chip.setRingQ (c : Chip) (v : RingQ) : Chip :=
  let key (q : RingQ) : Nat := 8 * q.slot + q.part
  let rest := c.arb.qs.filter (fun q => key q != key v)
  c.modArb (fun a => { a with qs := rest.filter (fun q => decide (key q < key v)) ++ [v] ++ rest.filter (fun q => decide (key v < key q)) })

/-- The queue presents a request: it holds a transfer, and neither back-off nor block withholds it. -/
def Chip.presents (_c : Chip) (q : RingQ) : Bool := q.xfers != [] && q.backoff == 0 && q.blocked == 0

/-- Remaining credit of a partition (R413). -/
def Chip.credit (c : Chip) (p : Nat) : Nat := (c.arb.credit[p]?).getD 0

/-- The request is in tier 1 (R414). -/
def Chip.tier1 (c : Chip) (q : RingQ) : Bool := decide (q.xfers.head?.getD 0 ≤ c.credit q.part)

/-- Slots that carry the transfers of tenants; the others act for P0 (R410). Slot 23 never requests. -/
def slotTakes (slot part : Nat) : Bool := decide (slot < 23) && (part == 0 || decide (slot < 16) || slot == 17 || slot == 18 || slot == 19)

/-- A partition whose transfers a slot carries: those of a cluster's engines enter the queues of the engines' owners (R410). -/
def Chip.slotCarries (c : Chip) (slot part : Nat) : Bool :=
  slotTakes slot part && (decide (16 ≤ slot) || part == 0 || (upTo 8).any (fun i => c.owner (pgCE (8 * slot + i)) == part))

/-- The page whose counters follow a slot's requests (R508). -/
def slotPage (slot : Nat) : Option Nat :=
  if slot < 16 then some (pgCLU slot) else if slot = 17 then some pgHOST else if slot = 18 ∨ slot = 19 then some pgFAB
  else if slot = 20 then some pgFBK else none

/-- A transfer enters its queue (R410, R411): one of no beats completes at once. -/
def Chip.ringAdd (c : Chip) (r : RingReq) : Chip :=
  let s := r.slot.val
  let p := r.part.val
  if r.beats = 0 ∨ 64 < r.beats ∨ !c.slotCarries s p then c
  else
    let q := c.ringQ s p
    let c1 := c.setRingQ { q with xfers := q.xfers ++ [r.beats], since := if q.xfers = [] then c.now else q.since }
    match slotPage s with | some b => c1.pmcEvent b 0x200 r.beats | none => c1

/-- STARVE and OVERHOLD show the slots of starving and blocked queues, and their events follow (R418, R419, R422). -/
def Chip.ringShow (c : Chip) : Chip :=
  let mask (t : RingQ → Bool) : Nat := ((upTo 24).filter (fun s => c.arb.qs.any (fun q => q.slot == s && t q))).foldl (fun m s => m + 2 ^ s) 0
  let st := mask (fun q => q.starving)
  let ov := mask (fun q => q.blocked != 0)
  let c1 := if c.rd R.ARB_STARVE pgARB = st then c else c.up R.ARB_STARVE pgARB st
  let c2 := if c1.rd R.ARB_OVERHOLD pgARB = ov then c1 else c1.up R.ARB_OVERHOLD pgARB ov
  (c2.level pgARB 0 (st != 0)).level pgARB 1 (ov != 0)

/-! Choice (R414). -/

/-- The numbers after `k`, in turn, below `n`. -/
def turnOrder (n k : Nat) : List Nat := (upTo n).map (fun i => (k + 1 + i) % n)

/-- The queue of a partition whose turn it is in tier 1. -/
def Chip.turnQueue (c : Chip) (p : Nat) (qs : List RingQ) : Option RingQ :=
  let last := (c.arb.lastSlot[p]?).getD 23
  match qs.find? (fun q => q.slot == last && decide (q.turns < c.rd R.ARB_WEIGHT pgARB last) && q.turns != 0) with
  | some q => some q
  | none => (turnOrder 24 last).findSome? (fun s => qs.find? (fun q => q.slot == s))

/-- The queue that is granted next, and whether in tier 1. -/
def Chip.ringChoice (c : Chip) : Option (RingQ × Bool) :=
  let qs := c.arb.qs.filter c.presents
  let t1 := qs.filter c.tier1
  if t1 ≠ [] then
    ((turnOrder 8 c.arb.lastPart).findSome? (fun p => c.turnQueue p (t1.filter (fun q => q.part == p)))).map (fun q => (q, true))
  else ((turnOrder 192 c.arb.lastT2).findSome? (fun k => qs.find? (fun q => 8 * q.slot + q.part == k))).map (fun q => (q, false))

/-- A queue loses (R416): it backs off when it loses to its own partition, or in tier 2. -/
def Chip.ringLose (c : Chip) (w q : RingQ) : Chip :=
  let off := q.part == w.part || !c.tier1 q
  c.setRingQ { q with losses := q.losses + 1, backoff := if off then c.now + 4 * 2 ^ (min 10 q.losses) * 8 else 0 }

/-! The DMA channels and the flash port, where the ring ends a transfer (R418, R472, R473, R527). -/

/-- XS_STATUS.BUSY follows what uses the flash (R527). -/
def Chip.reBusy (c : Chip) : Chip :=
  let busy := (upTo 8).any (fun k => c.rd R.WCAP_STATE pgWCAP k == 4)
    || (upTo 4).any (fun k => c.rd R.HOST_STATE pgHOST k == 1 && c.on R.HOST_KIND pgHOST k) || c.fwu.copying != []
  if c.on R.XSPI_BUSY pgXSPI == busy then c else c.up R.XSPI_BUSY pgXSPI (b2n busy)

/-- A channel ends: its state, the bytes written and the event (R473). -/
def Chip.dmaEnd (c : Chip) (k err bytes : Nat) : Chip :=
  ((c.hw pgHOST [(R.HOST_STATE, k, if err = 0 then 2 else 3), (R.HOST_ERR, k, err), (R.HOST_DONE_BYTES, k, bytes)]).pulse pgHOST
    (if err = 0 then k else 4 + k)).reBusy

/-- Bytes that a channel cut off by an error has written: the manual states no number. -/
def Chip.dmaCut (c : Chip) (k err : Nat) : Chip :=
  let (v, c1) := c.free
  c1.dmaEnd k err (v % (c1.rd R.HOST_LEN pgHOST k + 1))

/-- The DMA channel whose ring transfer is in hand: the lowest that is BUSY (R472). DEDUCED (184). -/
def Chip.dmaChan (c : Chip) : Option Nat := (upTo 4).find? (fun k => c.rd R.HOST_STATE pgHOST k == 1)

/-- A transfer cut off on the ring ends its DMA channel with error RING (R418, R472). -/
def Chip.ringErr (c : Chip) (slot : Nat) : Chip :=
  match (if slot = 17 then c.dmaChan else none) with
  | some k => c.dmaCut k 3
  | none => c

/-! Rows. -/

/-- A window of 1 us begins (R413, R421). -/
def creditWindowStart (c : Chip) : Chip :=
  if c.datum % 8000 ≠ 0 ∨ (c.armed (tmKey tmCredit 0) ∧ !c.due (tmKey tmCredit 0)) then c
  else
    let (used, ten) := match c.arb.tenure with
      | some t =>
        let n := ringCycles (c.now - t.start)
        (setAt c.arb.used t.part ((c.arb.used[t.part]?).getD 0 + n), some { t with start := max t.start c.now, beats := t.beats - n })
      | none => (c.arb.used, none)
    let c1 := c.modArb (fun a => { a with
      credit := (upTo 8).map (fun p => c.rd R.ARB_CREDIT pgARB p)
      used := [0, 0, 0, 0, 0, 0, 0, 0]
      tenure := ten })
    let us := (upTo 8).map (fun p => (R.ARB_USED, p, (used[p]?).getD 0))
    let c2 := if us.all (fun u => c1.rd u.1 pgARB u.2.1 == u.2.2) then c1 else c1.hw pgARB us
    c2.arm (tmKey tmCredit 0) dqTick

/-- The first cycle of the tenure that a queue is granted (R412): right after the last tenure for a request presented during it, else 2
cycles after the request or the ring's falling free. DESIGN CHOICE (185): never before the grant's own time. -/
def Chip.tenureStart (c : Chip) (q : RingQ) : Nat :=
  max c.now (if q.since < c.arb.freeAt ∧ !c.arb.cut then c.arb.freeAt else max q.since c.arb.freeAt + 16)

/-- Requests are presented, and the next tenure is granted when the ring is free (R412, R414, R416). -/
def ringGrant (c : Chip) (rs : RingReqs) : Chip :=
  let c1 := foldc rs (fun r c => c.ringAdd r) c
  if c1.arb.tenure.isSome then c1
  else match c1.ringChoice with
    | none => c1
    | some (q, t1) =>
      let first := c1.tenureStart q
      let wait := ringCycles (first - q.since)
      let losers := (c1.arb.qs.filter c1.presents).filter (fun x => !(x.slot == q.slot && x.part == q.part))
      let c2 := foldc losers (fun x c => c.ringLose q x) c1
      let same := t1 && (c.arb.lastSlot[q.part]?).getD 23 == q.slot && decide (q.turns < c.rd R.ARB_WEIGHT pgARB q.slot)
      let c3 := c2.setRingQ { q with losses := 0, starving := false, turns := if t1 then (if same then q.turns + 1 else 1) else q.turns }
      let ten : Tenure := { slot := q.slot, part := q.part, beats := q.xfers.head?.getD 0, start := first, began := first, tier1 := t1 }
      let c4 := c3.modArb (fun a => { a with
        tenure := some ten
        lastPart := if t1 then q.part else a.lastPart
        lastSlot := if t1 then setAt a.lastSlot q.part q.slot else a.lastSlot
        lastT2 := if t1 then a.lastT2 else 8 * q.slot + q.part })
      let c5 := c4.bump R.ARB_CNT pgARB 0
      let c6 := if t1 && decide (c5.rd R.ARB_MAX_WAIT pgARB q.part < wait) then c5.up R.ARB_MAX_WAIT pgARB wait q.part else c5
      (match slotPage q.slot with | some b => c6.pmcEvent b 0x201 wait | none => c6).ringShow

/-- A queue's back-off ends: its request is presented again (R416). -/
def backoffEnd (c : Chip) (slot part : Nat) : Chip :=
  let q := c.ringQ slot part
  if q.backoff ≠ 0 ∧ q.backoff ≤ c.now then c.setRingQ { q with backoff := 0 } else c

/-- The cycles of a tenure are used up (R413, R421, R508). -/
def Chip.ringUse (c : Chip) (t : Tenure) (n : Nat) : Chip :=
  let a := c.arb
  let cr := (a.credit[t.part]?).getD 0
  (c.modArb (fun a => { a with
    tenure := none
    freeAt := t.start + 8 * n
    cut := false
    used := setAt a.used t.part ((a.used[t.part]?).getD 0 + n)
    credit := if t.tier1 then setAt a.credit t.part (cr - n) else a.credit })).pmcEvent pgARB (0x100 + t.slot) n

/-- The head transfer of a queue is complete. -/
def Chip.ringPop (c : Chip) (slot part : Nat) (block : Nat) : Chip :=
  let q := c.ringQ slot part
  c.setRingQ { q with xfers := q.xfers.drop 1, since := c.now, blocked := block }

/-- The tenure ends with its last beat (R411). -/
def tenureEnd (c : Chip) : Chip :=
  match c.arb.tenure with
  | none => c
  | some t => (c.ringUse t (max t.beats (ringCycles (c.now - t.start)))).ringPop t.slot t.part (c.ringQ t.slot t.part).blocked

/-- A tenure is revoked for a tier-1 request of another partition (R417). -/
def ringRevoke (c : Chip) : Chip :=
  match c.arb.tenure with
  | none => c
  | some t =>
    let n := ringCycles (c.now - t.start)
    let q := c.ringQ t.slot t.part
    let asked := c.arb.qs.any (fun x => x.part != t.part && c.presents x && c.tier1 x)
    let open' := !t.tier1 || decide (c.credit t.part ≤ n)
    if asked && open' && q.xfers.head?.getD 0 != 1 then
      let c1 := ((c.ringUse t n).modArb (fun a => { a with cut := true })).bump R.ARB_CNT_REVOKED pgARB t.part
      (c1.bump R.ARB_CNT pgARB 1).pulse pgARB 2
    else c

/-- A tenure reaches MAX_HOLD (R418): it ends in error, and its queue is blocked for 16,384 cycles. -/
def ringOverhold (c : Chip) : Chip :=
  match c.arb.tenure with
  | none => c
  | some t =>
    let most := c.rd R.ARB_MAX_HOLD pgARB
    if ringCycles (c.now - t.began) < most then c
    else
      let c1 := (c.ringUse t (most - ringCycles (t.start - t.began))).ringPop t.slot t.part (c.now + 16384 * 8)
      (((c1.bump R.ARB_CNT pgARB 2).ringShow).ringErr t.slot).raise 0xC0 t.slot

/-- The block of a queue ends (R418). -/
def overholdBlockEnd (c : Chip) (slot part : Nat) : Chip :=
  let q := c.ringQ slot part
  if q.blocked ≠ 0 ∧ q.blocked ≤ c.now then (c.setRingQ { q with blocked := 0, since := c.now }).ringShow else c

/-- A queue has waited longer than STARVE_LIMIT (R419). -/
def ringStarve (c : Chip) (slot part : Nat) : Chip :=
  let q := c.ringQ slot part
  let lim := c.rd R.ARB_STARVE_LIMIT pgARB
  let held := match c.arb.tenure with | some t => t.slot == slot && t.part == part | none => false
  if !held ∧ q.blocked = 0 ∧ lim ≠ 0 ∧ q.xfers ≠ [] ∧ !q.starving ∧ lim < ringCycles (c.now - q.since) then
    (((c.setRingQ { q with starving := true }).bump R.ARB_CNT pgARB 3).ringShow).raise 0xC1 slot
  else c

/-! Meanings of the rows. -/

/-- CREDIT_WINDOW_START (R413): Every 1 us each partition's ring credit is reset to its CREDIT. -/
def execCreditWindowStart (s : State) : Result :=
  .next (s.onChip (fun c => creditWindowStart c))

/-- RING_GRANT (R414): The arbiter decides and grants the next tenure by tier, partition turn and weight. -/
def execRingGrant (reqs : RingReqs) (s : State) : Result :=
  .next (s.onChip (fun c => ringGrant c reqs))

/-- BACKOFF_END (R416): A backed-off queue presents its request again. -/
def execBackoffEnd (slot : RSlot) (part : Part) (s : State) : Result :=
  .next (s.onChip (fun c => backoffEnd c slot.val part.val))

/-- TENURE_END (R411): A tenure's last beat completes its transfer. -/
def execTenureEnd (s : State) : Result :=
  .next (s.onChip (fun c => tenureEnd c))

/-- RING_REVOKE (R417): A tier-2 or creditless tenure is revoked when another partition presents tier 1. -/
def execRingRevoke (s : State) : Result :=
  .next (s.onChip (fun c => ringRevoke c))

/-- RING_OVERHOLD (R418): A tenure reaching MAX_HOLD is ended with an error and its queue blocked. -/
def execRingOverhold (s : State) : Result :=
  .next (s.onChip (fun c => ringOverhold c))

/-- OVERHOLD_BLOCK_END (R418): After 16,384 cycles a blocked queue is presented again. -/
def execOverholdBlockEnd (slot : RSlot) (part : Part) (s : State) : Result :=
  .next (s.onChip (fun c => overholdBlockEnd c slot.val part.val))

/-- RING_STARVE (R419): A transfer waiting beyond STARVE_LIMIT sets STARVE and raises RING_STARVE. -/
def execRingStarve (slot : RSlot) (part : Part) (s : State) : Result :=
  .next (s.onChip (fun c => ringStarve c slot.val part.val))

end Sys2Proof.Machine
end

