-- ==== Sys2Proof/Machine/FieldBook.lean ====
section
/-! DEFINITION. FieldBook.lean: the Field Book, its readers and its erase, the two-write keys, and waveform capture (R91, R442 to R464,
R484). -/

namespace Sys2Proof.Machine

/-! Records as bytes (R442, R445). -/

/-- Bytes 0 to 55 of a record. -/
def FbRec.bytes56 (r : FbRec) : Bytes :=
  leBytes r.seq.toNat 4 ++ leBytes r.datum 8 ++ leBytes r.source 2 ++ leBytes r.code 2 ++ leBytes (r.sev % 4 + 4 * (r.part % 8)) 1
    ++ leBytes (b2n r.twin + 2 * b2n r.lead + 4 * b2n r.shelf) 1 ++ List.replicate 6 0 ++ sliceBytes r.payload 0 32

/-- The 64 bytes of a record. -/
def FbRec.bytes64 (r : FbRec) : Bytes := r.bytes56 ++ leBytes r.mac.toNat 8

/-- The sixteen words of a record. -/
def FbRec.words (r : FbRec) : List Word := (upTo 16).map (fun k => BitVec.ofNat 32 (leAt r.bytes64 (4 * k) 4))

/-- Sixteen zero words. -/
def zeroWords : List Word := List.replicate 16 0

/-! Placing a record (R449). -/

/-- Records that a partition holds (R449). -/
def Chip.fbHeld (c : Chip) (p : Nat) : Nat := (c.fbk.slots.filter (fun e => e.2.part == p)).length

/-- The share of a partition (R449). -/
def Chip.fbShare (c : Chip) (p : Nat) : Nat :=
  if p = 0 then 131072 - ((upTo 8).foldl (fun n q => if q = 0 then n else n + c.rd R.PART_FBK_QUOTA pgPART q) 0)
  else c.rd R.PART_FBK_QUOTA pgPART p

/-- The lowest number from `k` on that a map does not list. -/
def lowestFree {α : Type} : SMap α → Nat → Nat
  | [], k => k
  | (j, _) :: m, k => if j = k then lowestFree m (k + 1) else k

/-- The oldest of some occupied slots: the lowest SEQ (R449, R546). -/
def oldestOf (es : List (Nat × FbRec)) : Option (Nat × FbRec) :=
  es.foldl (fun b e => match b with
    | none => some e
    | some x => if x.2.seq ≠ e.2.seq ∧ laterOf 32 x.2.seq.toNat e.2.seq.toNat = x.2.seq.toNat then some e else some x) none

/-- Where a record goes: a free slot, an older record's slot, or nowhere (R449). -/
def Chip.fbPlace (c : Chip) (r : FbRec) : Option (Nat × Option FbRec) :=
  let es := c.fbk.slots
  let held := c.fbHeld r.part
  let share := c.fbShare r.part
  let free := lowestFree es 0
  if held < share ∧ free < 131072 then some (free, none)
  else
    let v := if share ≤ held then oldestOf (es.filter (fun e => e.2.part == r.part && decide (e.2.sev ≤ r.sev)))
      else oldestOf (es.filter (fun e => decide (c.fbShare e.2.part < c.fbHeld e.2.part) && decide (e.2.sev ≤ r.sev)))
    v.map (fun e => (e.1, some e.2))

/-- The SEQ after another (R443). -/
def nextSeq (s : Word) : Word := if s = 0xFFFFFFFF then 1 else s + 1

/-! Registers of the FBK page (R454, R456, R457). -/

/-- Unread records (R454). -/
def Chip.fbUnread (c : Chip) : Nat :=
  let h := c.rd R.FBK_HEAD_SEQ pgFBK
  let a := c.rd R.FBK_ACK_SEQ pgFBK
  if later 32 h a then min ((h + 2 ^ 32 - a) % 2 ^ 32) (c.rd R.FBK_HELD pgFBK) else 0

/-- WATERMARK follows the unread records (R454). -/
def Chip.fbMark (c : Chip) : Chip :=
  let w := c.rd R.FBK_WMARK pgFBK
  c.level pgFBK 0 (w != 0 && decide (w ≤ c.fbUnread))

/-- HEAD_SEQ and HELD follow the slots. -/
def Chip.fbShow (c : Chip) : Chip :=
  let h := c.fbk.slots.length
  (if c.rd R.FBK_HEAD_SEQ pgFBK = c.fbk.seq.toNat ∧ c.rd R.FBK_HELD pgFBK = h then c
   else c.hw pgFBK [(R.FBK_HEAD_SEQ, 0, c.fbk.seq.toNat), (R.FBK_HELD, 0, h)]).fbMark

/-! Rows: queueing and writing. -/

/-- The codes whose records are shelf records (R447). -/
def shelfCode (code : Nat) : Bool := 0x110 ≤ code && code ≤ 0x113

/-- A record arrives at Plumb's queue (R446, R448). -/
def recordQueue (c : Chip) (code source sev part : Nat) (payload : Bytes) : Chip :=
  c.record code source sev part payload (shelfCode code)

/-- Plumb can write: it runs, its ROM has checked the slots, and 4 us have passed since the last write began (R448, R450). -/
def Chip.fbCanWrite (c : Chip) : Bool :=
  !c.plumb.porst && !c.plumb.stopped && !c.plumb.rom && !c.plumb.por && !c.plumb.resetN
  && (c.fbk.writing.isNone || decide (c.fbk.lastWrite + 4 * dqUs ≤ c.now))

/-- An S3 sequence whose step 3 is not performed ends with the writing of its record (R427). -/
def Chip.s3Recorded (c : Chip) (r : FbRec) : Chip :=
  if r.sev = 3 ∧ r.code < 256 ∧ c.plumb.s3 ∧ !c.plumb.s3Reset then c.modPlumb (fun p => { p with s3 := false }) else c

/-- Plumb writes the first record of its queue, with the next SEQ and its MAC (R443, R445, R448, R449). -/
def recordWrite (c : Chip) : Chip :=
  match c.fbk.queue with
  | [] => c
  | q :: rest =>
    if !c.fbCanWrite then c
    else
      let c0 := (c.modFbk (fun k => { k with queue := rest, lastWrite := c.now, writing := none })).up R.FBK_QUEUE pgFBK rest.length
      let c1 := (c0.level pgFBK 2 false).s3Recorded q
      match c1.fbPlace q with
      | none => c1.countDrop q
      | some (i, old) =>
        let r := { q with seq := nextSeq c.fbk.seq }
        let m := { r with mac := Config.recordMac r.bytes56 }
        let c2 := c1.modFbk (fun k => { k with slots := mapSet k.slots i m, seq := r.seq, writing := some m })
        let c3 := match old with
          | some v => c2.modFbk (fun k => { k with overwritten := setAt k.overwritten v.part ((k.overwritten[v.part]?).getD 0 + 1) })
          | none => c2
        c3.fbShow

/-- Power fails while a record is being written: the record is torn (R79, R448). The queue is lost. -/
def Chip.fbTear (c : Chip) : Chip :=
  let c1 := match c.fbk.writing with
    | some w =>
      let tear (e : Nat × FbRec) : Nat × FbRec := if e.2.seq = w.seq then (e.1, { e.2 with torn := true }) else e
      if c.now < c.fbk.lastWrite + 4 * dqUs then c.modFbk (fun k => { k with slots := k.slots.map tear }) else c
    | none => c
  c1.modFbk (fun k => { k with writing := none, queue := [] })

/-- Plumb ROM checks every slot: a slot whose MAC fails is free and counted; HEAD_SEQ, HELD and ACK_SEQ take their values
(R443, R450, R456). -/
def Chip.fbCheck (c : Chip) : Chip :=
  let good := c.fbk.slots.filter (fun e => !e.2.torn)
  let torn := c.fbk.slots.length - good.length
  let top := good.foldl (fun m e => laterOf 32 e.2.seq.toNat m) c.mram.seqFloor.toNat
  let seq := if c.fbk.seq = 0 then BitVec.ofNat 32 top else c.fbk.seq
  let c1 := c.modFbk (fun k => { k with slots := good, seq := seq, writing := none })
  (((c1.wr R.FBK_CNT_TORN pgFBK torn).wr R.FBK_ACK_SEQ pgFBK seq.toNat).wr R.FBK_QUEUE pgFBK c1.fbk.queue.length).fbShow

/-! The two-write keys (R91, R451). -/

/-- A write to a key register: the key's new state, whether it completes, whether it aborts (R91). -/
def keyWrite (st v : Nat) : Nat × Bool × Bool :=
  if st = 1 then (if v = 0x5A5A then (0, true, false) else (0, false, true))
  else (if v = 0xA5A5 then (1, false, false) else (st, false, false))

/-- A write to FB_CTRL.ERASE (R451). -/
def Chip.eraseWrite (c : Chip) (v : Nat) : Chip :=
  let (st, done, abort) := keyWrite c.plumb.eraseKey v
  let c1 := c.modPlumb (fun p => { p with eraseKey := st })
  if done then (let c2 := c1.disarm (tmKey tmKeyErase 0); if c.takesWork pgFBK then c2.modFbk (fun k => { k with erasing := true }) else c2)
  else if abort then (c1.disarm (tmKey tmKeyErase 0)).raise 0xD 0
  else if st = 1 ∧ c.plumb.eraseKey = 0 then c1.arm (tmKey tmKeyErase 0) dqMs
  else c1

/-- The 1 ms of the erase key lapses (R451). -/
def eraseLapse (c : Chip) : Chip :=
  if c.due (tmKey tmKeyErase 0) && c.plumb.eraseKey == 1 then
    ((c.disarm (tmKey tmKeyErase 0)).modPlumb (fun p => { p with eraseKey := 0 })).raise 0xD 0
  else c

/-- The erase is complete: every slot is free, the floor holds the HEAD_SEQ from before, FBK_ERASED is written (R443, R451). -/
def eraseDone (c : Chip) : Chip :=
  if !c.fbk.erasing then c
  else
    let n := c.fbk.slots.length
    let h := c.fbk.seq
    let c1 := (c.modFbk (fun k => { k with slots := [], erasing := false, writing := none })).modMram (fun m => { m with seqFloor := h })
    (c1.fbShow).record 0x120 0 2 0 (leBytes h.toNat 4 ++ leBytes n 4)

/-! Reading (R452, R455). -/

/-- What a slot reads as: its words, zero for a free slot or a failing MAC (R452). -/
def Chip.fbSlot (c : Chip) (i : Nat) : List Word :=
  match c.fbk.slots.find? (fun e => e.1 == i) with
  | some (_, r) => if r.torn || r.mac != Config.recordMac r.bytes56 then zeroWords else r.words
  | none => zeroWords

/-- A read of word `w` of slot `i` on path `k`: the latch is loaded by word 0 and by another slot (R452). -/
def Chip.fbRead (c : Chip) (k i w : Nat) : Chip × Word :=
  let held := match (c.path k).fbk with | some (j, ws) => if j = i then some ws else none | none => none
  match held, w with
  | some ws, m + 1 => (c, (ws[m + 1]?).getD 0)
  | some _, 0 => let ws := c.fbSlot i; (c.modPath k (fun p => { p with fbk := some (i, ws) }), (ws[0]?).getD 0)
  | none, m => let ws := c.fbSlot i; (c.modPath k (fun p => { p with fbk := some (i, ws) }), (ws[m]?).getD 0)

/-- What a read of word `w` of slot `i` returns with no effect (R514). -/
def Chip.fbPeek (c : Chip) (k i w : Nat) : Word :=
  let held := match (c.path k).fbk with | some (j, ws) => if j = i then some ws else none | none => none
  match held, w with
  | some ws, m + 1 => (ws[m + 1]?).getD 0
  | some _, 0 => ((c.fbSlot i)[0]?).getD 0
  | none, m => ((c.fbSlot i)[m]?).getD 0

/-- The record a partition's reader reaches next (R455). -/
def Chip.frNext (c : Chip) (p : Nat) : Option FbRec :=
  let cur := ((c.fbk.cursor[p]?).getD 0).toNat
  let mine := c.fbk.slots.filter (fun e => (p == 0 || e.2.part == p) && !e.2.torn && later 32 e.2.seq.toNat cur)
  (oldestOf mine).map (·.2)

/-- The words a partition's latch shows. -/
def Chip.frWords (c : Chip) (p : Nat) : List Word :=
  match (c.fbk.latch[p]?).getD none with | some r => r.words | none => zeroWords

/-- A read of FR_DATA word `w` by partition `p`: word 0 latches the next record and advances the cursor (R455). -/
def Chip.frRead (c : Chip) (p w : Nat) : Chip × Word :=
  match w with
  | m + 1 => (c, ((c.frWords p)[m + 1]?).getD 0)
  | 0 =>
    match c.frNext p with
    | none => (c.modFbk (fun k => { k with latch := setAt k.latch p none }), 0)
    | some r => (c.modFbk (fun k => { k with latch := setAt k.latch p (some r), cursor := setAt k.cursor p r.seq }), (r.words[0]?).getD 0)

/-- FR_HELD of a partition (R456). -/
def Chip.frHeld (c : Chip) (p : Nat) : Nat := c.fbHeld p

/-! The flash port (R484, R527). -/

/-- A program or erase of the flash fails (R527). -/
def Chip.progErr (c : Chip) : Chip := (c.bump R.XSPI_CNT_PROG_ERR pgXSPI).pulse pgXSPI 0

/-! Capture sets (R458 to R462). -/

/-- Entries in a set's region. -/
def Chip.wcSize (c : Chip) (k : Nat) : Nat := c.rd R.WCAP_SIZE pgWCAP k * 2048

/-- Two sets' regions overlap (R460). -/
def Chip.wcOverlap (c : Chip) (k j : Nat) : Bool :=
  let b (n : Nat) : Nat := c.rd R.WCAP_BASE pgWCAP n
  let e (n : Nat) : Nat := b n + c.rd R.WCAP_SIZE pgWCAP n
  decide (b k < e j) && decide (b j < e k)

/-- A set's configuration allows ARM (R462). -/
def Chip.wcValid (c : Chip) (k : Nat) : Bool :=
  let size := c.rd R.WCAP_SIZE pgWCAP k
  let pre := c.rd R.WCAP_PRE pgWCAP k
  let len := c.rd R.WCAP_LEN pgWCAP k
  decide (pre < len) && decide (len ≤ c.wcSize k) && c.rd R.WCAP_DECIM pgWCAP k != 0 && size != 0
  && decide (c.rd R.WCAP_BASE pgWCAP k + size ≤ 128)

/-- ARM of a set (R459, R460, R462). -/
def Chip.wcArm (c : Chip) (k : Nat) : Chip :=
  let st := c.rd R.WCAP_STATE pgWCAP k
  if c.rd R.WCAP_LEN pgWCAP k = 0 ∨ st = 1 ∨ st = 2 then c
  else if st = 4 ∨ !c.wcValid k ∨ (upTo 8).any (fun j => j != k && c.rd R.WCAP_STATE pgWCAP j != 0 && c.wcOverlap k j) then c.cfgReject pgWCAP 16
  else
    (c.setWset k { armTick := c.tick, last := c.tick + 1 }).hw pgWCAP
      [(R.WCAP_STATE, k, 1), (R.WCAP_PRE_SHORT, k, 0), (R.WCAP_GAP, k, 0), (R.WCAP_PRE_GOT, k, 0), (R.WCAP_FIRST, k, 0)]

/-- A trigger of a set (R459, R460). -/
def Chip.wcTrigger (c : Chip) (k : Nat) : Chip :=
  let st := c.rd R.WCAP_STATE pgWCAP k
  let w := c.wset k
  if st = 1 then
    if w.armTick < c.tick ∧ !w.trig then c.setWset k { w with trig := true, trigTick := c.tick, trigDatum := c.fabDatum } else c
  else if 2 ≤ st ∧ st ≤ 4 then c.bump R.WCAP_CNT_RETRIG pgWCAP
  else c

/-- ABORT of a set (R459). -/
def Chip.wcAbort (c : Chip) (k : Nat) : Chip :=
  let st := c.rd R.WCAP_STATE pgWCAP k
  if st = 1 ∨ st = 2 then (c.modWset k (fun w => { w with trig := false })).up R.WCAP_STATE pgWCAP 0 k else c

/-- A set's trigger source has occurred (R459, R463). -/
def wcTrigEvent (c : Chip) (k : Nat) : Chip :=
  if (c.wset k).cause then (c.modWset k (fun w => { w with cause := false })).wcTrigger k else c

/-- A channel selector of a set (R463). -/
def Chip.wcSel (c : Chip) (k ch : Nat) : Nat :=
  let f := if ch / 2 = 0 then R.WCAP_CH_SEL0 else if ch / 2 = 1 then R.WCAP_CH_SEL1 else if ch / 2 = 2 then R.WCAP_CH_SEL2 else R.WCAP_CH_SEL3
  c.rd f pgWCAP k / 2 ^ (16 * (ch % 2)) % 65536

/-- The sample of a channel in an entry of tick `u`: none where it is not selected; zero with OVR and SUSPECT where neither
source supplies it (R458). -/
def Chip.wcSample (c : Chip) (k ch u : Nat) : Nat × Bool × Bool :=
  let s := c.wcSel k ch
  if !bitOf s 15 then (0, false, false)
  else match c.sampleAt (s % 256) u (s / 256 % 4) with
    | some x => (x.code.toNat, x.ovr, x.susp)
    | none => (0, true, true)

/-- The 32 bytes of an entry (R458). -/
def Chip.wcEntryBytes (c : Chip) (k u : Nat) : Bytes :=
  let xs := (upTo 8).map (fun ch => c.wcSample k ch u)
  let bits (f : Nat × Bool × Bool → Bool) : Nat := (upTo 8).foldl (fun n ch => n + 2 ^ ch * b2n (match xs[ch]? with | some x => f x | none => false)) 0
  leBytes u 4 ++ leBytes (bits (fun x => x.2.1)) 1 ++ leBytes (bits (fun x => x.2.2)) 1 ++ [0, 0] ++ xs.flatMap (fun x => leBytes x.1 2)
    ++ List.replicate 8 0

/-- Where entry `e` of a set lies in the capture SRAM (R458). -/
def Chip.wcAddr (c : Chip) (k e : Nat) : Nat := c.rd R.WCAP_BASE pgWCAP k * 65536 + 32 * (e % c.wcSize k)

/-- The sample tick whose entry is due in the present tick: every sample of it has come, from the link or from the twin, or is
missing (R31, R458). -/
def Chip.wcTick (c : Chip) : Nat := c.tick - 3

/-- An entry of sample tick `u` is due in a set (R458, R459). -/
def Chip.wcDue (c : Chip) (k : Nat) : Bool :=
  let st := c.rd R.WCAP_STATE pgWCAP k
  let w := c.wset k
  let u := c.wcTick
  decide (3 ≤ c.tick) && (st == 1 || (st == 2 && w.left != 0)) && decide (w.armTick < u) && decide (w.last ≤ u)
  && u % c.rd R.WCAP_DECIM pgWCAP k == 0

/-- The registers of a set after an entry of tick `u` is written (R459). -/
def Chip.wcAfter (c : Chip) (k u : Nat) : Chip :=
  let w := c.wset k
  let c1 := c.setWset k { w with entry := w.entry + 1, last := u + 1 }
  if c.rd R.WCAP_STATE pgWCAP k = 2 then c1.modWset k (fun w => { w with left := w.left - 1 })
  else if w.trig && decide (w.trigTick ≤ u) then
    let pre := c.rd R.WCAP_PRE pgWCAP k
    let got := c.rd R.WCAP_PRE_GOT pgWCAP k
    (c1.modWset k (fun w => { w with trig := false, left := c.rd R.WCAP_LEN pgWCAP k - pre - 1 })).hw pgWCAP
      [(R.WCAP_STATE, k, 2), (R.WCAP_TRIG_TICK_LO, k, u % 2 ^ 32), (R.WCAP_TRIG_TICK_HI, k, u / 2 ^ 32),
       (R.WCAP_PRE_SHORT, k, b2n (decide (got < pre))), (R.WCAP_FIRST, k, w.entry - min pre got)]
  else c1.up R.WCAP_PRE_GOT pgWCAP (c.rd R.WCAP_PRE_GOT pgWCAP k + 1) k

/-- An entry of a set is written, or lost where it could not reach the ring in time (R458). -/
def wcEntry (s : State) (k : Nat) (moved : Bool) : State :=
  let c := s.chip
  let u := c.wcTick
  if !c.wcDue k then s
  else if !moved then
    { s with chip := ((c.modWset k (fun w => { w with last := u + 1 })).up R.WCAP_GAP pgWCAP 1 k).bump R.WCAP_CNT_GAP pgWCAP }
  else
    { s with cap := memPut s.cap (c.wcAddr k (c.wset k).entry) (c.wcEntryBytes k u), chip := c.wcAfter k u }

/-- POST ends (R459): DONE, its event and CAPTURE_DONE. -/
def wcPostEnd (c : Chip) (k : Nat) : Chip :=
  if c.rd R.WCAP_STATE pgWCAP k = 2 ∧ (c.wset k).left = 0 then
    let t := leBytes (c.rd R.WCAP_TRIG_TICK_LO pgWCAP k) 4 ++ leBytes (c.rd R.WCAP_TRIG_TICK_HI pgWCAP k) 4
    ((c.up R.WCAP_STATE pgWCAP 3 k).pulse pgWCAP k).record 0x121 k 0 0 t
  else c

/-! Flushing to the archive (R461, R484). -/

/-- First byte of the archive (R483). -/
def archBase : Nat := 0x07010000
/-- Bytes of the archive: the rest of the flash, at most 1 GiB (R483). -/
def Chip.archLen (c : Chip) : Nat := min (2 ^ 30) (c.rd R.XSPI_SIZE_MIB pgXSPI * 2 ^ 20 - archBase)
/-- Bytes an entry takes, in whole 64 KiB blocks (R484). -/
def archRoom (bs : Bytes) : Nat := (bs.length + 65535) / 65536 * 65536

/-- Where the next archive entry begins: after the newest, or at the start where it would pass the end (R484). -/
def Chip.archNext (c : Chip) (room : Nat) : Nat :=
  match c.flash.archive.getLast? with
  | none => archBase
  | some (o, _, bs) => if o + archRoom bs + room ≤ archBase + c.archLen then o + archRoom bs else archBase

/-- ARCH_HEAD, ARCH_TAIL and ARCH_COUNT follow the committed entries (R484, R527). -/
def Chip.archShow (c : Chip) : Chip :=
  let a := c.flash.archive
  let h := match a.getLast? with | some e => e.1 | none => 0xFFFFFFFF
  let t := match a.head? with | some e => e.1 | none => 0xFFFFFFFF
  if c.rd R.XSPI_ARCH_HEAD pgXSPI = h ∧ c.rd R.XSPI_ARCH_TAIL pgXSPI = t ∧ c.rd R.XSPI_ARCH_COUNT pgXSPI = a.length then c
  else c.hw pgXSPI [(R.XSPI_ARCH_HEAD, 0, h), (R.XSPI_ARCH_TAIL, 0, t), (R.XSPI_ARCH_COUNT, 0, a.length)]

/-- The oldest entries are erased until 9 MiB after the write pointer are erased (R484); `n` bounds the number of entries. -/
def Chip.archErase (c : Chip) : Nat → Chip
  | 0 => c
  | n + 1 =>
    match c.flash.archive with
    | [] => c
    | [_] => c
    | (o, _, _) :: rest =>
      match rest.getLast? with
      | none => c
      | some (h, _, bs) =>
        let len := c.archLen
        let ptr := h + archRoom bs
        let dist := (o + len - ptr) % (max len 1)
        if dist < 9 * 2 ^ 20 then ((c.modFlash (fun f => { f with archive := rest })).pulse pgXSPI 1).archErase n else c

/-- The header of an archive entry: ARCH_SEQ, the capture length, CS_CFG, TRIG_TICK, PRE_GOT and the fabric Datum of the trigger
(R461, R484), and the commit word, whose value the manual does not state. The order of the fields is the model's (231). -/
def Chip.archHeader (c : Chip) (k seq commit : Nat) : Bytes :=
  let cfg := c.rd R.WCAP_BASE pgWCAP k + 2 ^ 8 * c.rd R.WCAP_SIZE pgWCAP k + 2 ^ 16 * c.rd R.WCAP_DECIM pgWCAP k + 2 ^ 24 * c.rd R.WCAP_FLUSH_EN pgWCAP k
  leBytes seq 4 ++ leBytes (c.rd R.WCAP_LEN pgWCAP k) 4 ++ leBytes cfg 4 ++ leBytes (c.rd R.WCAP_TRIG_TICK_LO pgWCAP k) 4
    ++ leBytes (c.rd R.WCAP_TRIG_TICK_HI pgWCAP k) 4 ++ leBytes (c.rd R.WCAP_PRE_GOT pgWCAP k) 4 ++ leBytes (c.wset k).trigDatum 8 ++ leBytes commit 4

/-- The entries of a set's capture, oldest first (R459). -/
def State.capture (s : State) (k : Nat) : Bytes :=
  let c := s.chip
  let first := c.rd R.WCAP_FIRST pgWCAP k
  (List.range ((c.wset k).entry - first)).flatMap (fun j => memBytes s.cap (c.wcAddr k (first + j)) 32)

/-- A set in DONE with FLUSH_EN begins its flush (R461). -/
def wcFlushStart (c : Chip) (k : Nat) : Chip :=
  if c.rd R.WCAP_STATE pgWCAP k = 3 ∧ c.on R.WCAP_FLUSH_EN pgWCAP k then
    let room := (4096 + 32 * ((c.wset k).entry - c.rd R.WCAP_FIRST pgWCAP k) + 65535) / 65536 * 65536
    ((c.modWset k (fun w => { w with arch := c.archNext room })).up R.WCAP_STATE pgWCAP 4 k).reBusy
  else c

/-- The flush completes (R461): its entry commits, CAPTURE_FLUSHED is written. -/
def wcFlushDone (s : State) (k : Nat) : State :=
  let c := s.chip
  if c.rd R.WCAP_STATE pgWCAP k = 4 then
    let seq := c.flash.archSeq + 1
    let (word, c0) := c.free
    let bs := sliceBytes (c.archHeader k seq word) 0 4096 ++ s.capture k
    let c1 := c0.modFlash (fun f => { f with archive := f.archive ++ [((c.wset k).arch, seq, bs)], archSeq := seq })
    let c2 := (c1.archErase c1.flash.archive.length).archShow
    { s with chip := (((c2.up R.WCAP_STATE pgWCAP 5 k).reBusy).pulse pgWCAP (8 + k)).record 0x122 k 0 0 [] }
  else s

/-- A programming error ends the flush (R461). -/
def wcFlushFail (c : Chip) (k : Nat) : Chip :=
  if c.rd R.WCAP_STATE pgWCAP k = 4 then ((c.up R.WCAP_STATE pgWCAP 6 k).reBusy).progErr else c

/-! Meanings of the rows. -/

/-- FBK_RECORD_QUEUE (R448): A record enters the Plumb queue, displacing a lower-severity one or dropped when full. -/
def execFbkRecordQueue (code : Nat) (source : Nat) (sev : Chan) (part : Part) (payload : Bytes) (s : State) : Result :=
  .next (s.onChip (fun c => recordQueue c code source sev.val part.val payload))

/-- FBK_RECORD_WRITE (R448): Plumb writes the next queued record to MRAM with its SEQ and MAC. -/
def execFbkRecordWrite (s : State) : Result :=
  .next (s.onChip (fun c => recordWrite c))

/-- FBK_ERASE_LAPSE (R451): The 1 ms of an erase key lapses, aborting it and raising LOCK_ABORT. -/
def execFbkEraseLapse (s : State) : Result :=
  .next (s.onChip (fun c => eraseLapse c))

/-- FBK_ERASE_DONE (R451): The erase completes, frees every slot and writes FBK_ERASED. -/
def execFbkEraseDone (s : State) : Result :=
  .next (s.onChip (fun c => eraseDone c))

/-- WCAP_TRIG_EVENT (R459): A configured trigger source triggers an armed set. -/
def execWcapTrigEvent (setN : Oct) (s : State) : Result :=
  .next (s.onChip (fun c => wcTrigEvent c setN.val))

/-- WCAP_ENTRY (R458): At each DECIM tick a capture entry is written into the set's region. -/
def execWcapEntry (setN : Oct) (moved : Bool) (s : State) : Result :=
  .next (wcEntry s setN.val moved)

/-- WCAP_POST_END (R459): The last post-trigger entry makes the set DONE and writes CAPTURE_DONE. -/
def execWcapPostEnd (setN : Oct) (s : State) : Result :=
  .next (s.onChip (fun c => wcPostEnd c setN.val))

/-- WCAP_FLUSH_START (R461): A DONE set with FLUSH_EN starts copying to the capture archive. -/
def execWcapFlushStart (setN : Oct) (s : State) : Result :=
  .next (s.onChip (fun c => wcFlushStart c setN.val))

/-- WCAP_FLUSH_DONE (R461): The archive entry commits, the set is FLUSHED and CAPTURE_FLUSHED is written. -/
def execWcapFlushDone (setN : Oct) (s : State) : Result :=
  .next (wcFlushDone s setN.val)

/-- WCAP_FLUSH_FAIL (R461): A programming error leaves the set in FLUSH_FAIL. -/
def execWcapFlushFail (setN : Oct) (s : State) : Result :=
  .next (s.onChip (fun c => wcFlushFail c setN.val))

end Sys2Proof.Machine
end

