-- ==== Sys2Proof/Machine/ImageLib.lean ====
section
/-! DEFINITION. ImageLib.lean: Fennu containers, their checks, the image slots of the flash and what FWU shows of them (R483, R486 to
R491, R504, R505). -/

namespace Sys2Proof.Machine

/-! The SMBus packet error code, x^8 + x^2 + x + 1 (R478). -/

/-- One bit of the code. -/
def pecBit (c : Nat) : Nat := if 128 ≤ c then (2 * c % 256) ^^^ 7 else 2 * c
/-- One byte of the code. -/
def pecByte (c b : Nat) : Nat := pecBit (pecBit (pecBit (pecBit (pecBit (pecBit (pecBit (pecBit (c ^^^ b))))))))
/-- The code over a string of bytes. -/
def pec (bs : Bytes) : Nat := bs.foldl (fun c b => pecByte c b.toNat) 0

/-! IIC1 (R480, R481). -/

/-- The bytes that IIC1 writes in a transaction: those of TX, and a PEC where PEC_EN asks for one. -/
def Chip.iic1Bytes (c : Chip) : Bytes :=
  let n := c.rd R.IIC_WR_LEN pgIIC1
  let bs := ((upTo 8).flatMap (fun w => leBytes (c.rd R.IIC_TX pgIIC1 w) 4)).take n
  let adr := BitVec.ofNat 8 (2 * c.rd R.IIC_TADDR pgIIC1)
  if c.on R.IIC_PEC_EN pgIIC1 && n != 0 then bs ++ [BitVec.ofNat 8 (pec (adr :: bs))] else bs

/-- An attempt begins on the bus. -/
def Chip.iic1Send (c : Chip) : Chip := c.send (.iic1 (c.rd R.IIC_TADDR pgIIC1) c.iic1Bytes)

/-! Fields of a container (R486). -/

def ctType (b : Bytes) : Nat := leAt b 5 1
def ctSvn (b : Bytes) : Nat := leAt b 6 1
def ctSigner (b : Bytes) : Nat := leAt b 7 1 % 4
def ctVersion (b : Bytes) : Nat := leAt b 8 4
def ctPayload (b : Bytes) : Nat := leAt b 12 4
def ctPlain (b : Bytes) : Nat := leAt b 16 4
def ctFmt (b : Bytes) : Nat := leAt b 20 1
def ctFmtMin (b : Bytes) : Nat := leAt b 21 1
def ctWraps (b : Bytes) : Nat := leAt b 22 2

/-- Whole length of a container: header, wrap table, ciphertext, signature (R486). -/
def ctLen (b : Bytes) : Nat := 64 + 48 * ctWraps b + ctPayload b + 96

/-- MAGIC (R486). -/
def ctMagic : Nat := 0x464E4655

/-- MAGIC, FORMAT, SLOT_TYPE, lengths and zero fields are as R486 and R487 require. -/
def ctFormatOk (b : Bytes) : Bool :=
  let t := ctType b
  leAt b 0 4 == ctMagic && leAt b 4 1 == 1 && decide (1 ≤ t) && decide (t ≤ 4) && decide (ctSvn b ≤ 64) && leAt b 7 1 / 4 == 0
  && ctPlain b == ctPayload b && decide (1 ≤ ctWraps b) && decide (ctWraps b ≤ 64) && leAt b 52 12 == 0
  && (t == 2 || t == 4 || ctFmt b == 0) && (t != 3 || decide (ctPlain b ≤ 65536)) && b.length == ctLen b

/-- A wrap record carries this device's identity (R489). -/
def ctForDevice (b : Bytes) (id : Nat) : Bool := (upTo (ctWraps b)).any (fun w => leAt b (64 + 48 * w) 8 == id)

/-- The checks of R489 in order: the code of the first that fails. -/
def Chip.ctCheck (c : Chip) (b : Bytes) : Option Nat :=
  if !ctFormatOk b then some 1
  else if c.mram.revoked.getLsbD (ctSigner b) || !Config.signatureValid (ctSigner b) b then some 2
  else if ctSvn b < c.mram.svn then some 3
  else if !ctForDevice b c.mram.deviceId.toNat then some 4
  else if !Config.tagValid b then some 5
  else none

/-- A container is checked; a refusal is counted and shown (R489, R505). -/
def Chip.ctVerify (c : Chip) (b : Bytes) : Chip × Option Nat :=
  match c.ctCheck b with
  | some k => ((c.bump R.SEC_CNT_VERIFY_FAIL pgSEC).pulse pgSEC 0, some k)
  | none => (c, none)

/-- Containers are checked one by one: the code of the first refused (R489). -/
def Chip.ctVerifyAll (c : Chip) : List Bytes → Option Nat → Chip × Option Nat
  | [], r => (c, r)
  | b :: bs, r =>
    let (c1, k) := c.ctVerify b
    c1.ctVerifyAll bs (match r with | some x => some x | none => k)

/-! Slots (R483, R487). -/

/-- The container of a type in a slot. -/
def ctOf (bs : List Bytes) (t : Nat) : Option Bytes := bs.find? (fun b => ctType b == t)

/-- VERSION of a type in a slot, 0 where it is absent (R504). -/
def ctVer (bs : List Bytes) (t : Nat) : Nat := match ctOf bs t with | some b => ctVersion b | none => 0

/-- What a slot may hold: at most one container of a type, and an MGMT and a NEG_POLICY payload of together at most 3 MiB (R487). -/
def ctFits (bs : List Bytes) : Bool :=
  let len (t : Nat) : Nat := match ctOf bs t with | some b => ctPlain b | none => 0
  [1, 2, 3, 4].all (fun t => decide ((bs.filter (fun b => ctType b == t)).length ≤ 1)) && decide (len 2 + len 4 ≤ 3 * 2 ^ 20)

/-- A slot holds MGMT, CE_KERNELS and NEG_POLICY within these limits (R487). -/
def ctComplete (bs : List Bytes) : Bool := [2, 3, 4].all (fun t => (ctOf bs t).isSome) && ctFits bs

/-- A slot after the containers of another are copied over those of the same type (R491). -/
def ctCopy (into from' : List Bytes) : List Bytes :=
  into.filter (fun b => !from'.any (fun x => ctType x == ctType b)) ++ from'

/-- The programmed byte at an offset of STAGED, 0xFF where it is erased. -/
def Chip.stagedByte (c : Chip) (o : Nat) : Byte := match c.flash.image.find? (fun e => e.1 == o) with | some e => e.2 | none => 0xFF

/-- `n` bytes of STAGED from an offset. -/
def Chip.stagedBytes (c : Chip) (o : Nat) : Nat → Bytes
  | 0 => []
  | n + 1 => c.stagedByte o :: c.stagedBytes (o + 1) n

/-- The containers that stand one after another in STAGED, at most one of each type and one more (R487). -/
def Chip.stagedParse (c : Chip) (o : Nat) : Nat → List Bytes
  | 0 => []
  | n + 1 =>
    let h := c.stagedBytes o 64
    if leAt h 0 4 ≠ ctMagic then (if o = 0 then [h] else [])
    else
      let len := min (ctLen h) (32 * 2 ^ 20 - o)
      c.stagedBytes o len :: c.stagedParse (o + len) n

/-! FWU and SEC (R504, R505). -/

/-- FW_STATUS flags and the versions of the slots follow the flash and MRAM (R504). -/
def Chip.fwuFields (c : Chip) : List (Fld × Nat × Nat) :=
  let f := c.flash
  [(R.FWU_PENDING, 0, b2n f.pending), (R.FWU_REJECTED, 0, b2n f.rejected), (R.FWU_ACTIVE_BAD, 0, b2n c.mram.activeBad)]
  ++ (upTo 4).map (fun k => (R.FWU_ACTIVE_VER, k, ctVer f.active (k + 1)))
  ++ (upTo 4).map (fun k => (R.FWU_STAGED_VER, k, ctVer f.staged (k + 1)))
  ++ (upTo 4).map (fun k => (R.FWU_GOLDEN_VER, k, ctVer f.golden (k + 1)))

/-- The FWU page follows the slots. -/
def Chip.fwuShow (c : Chip) : Chip :=
  let us := c.fwuFields
  if us.all (fun u => c.rd u.1 pgFWU u.2.1 == u.2.2) then c else c.hw pgFWU us

/-- The SEC page shows OTP and MRAM (R505). -/
def Chip.secLoad (c : Chip) : Chip :=
  let m := c.mram
  let us : List (Fld × Nat) := [(R.SEC_DEVICE_ID_LO, m.deviceId.toNat % 2 ^ 32), (R.SEC_DEVICE_ID_HI, m.deviceId.toNat / 2 ^ 32),
    (R.SEC_SVN_FUSED, m.svn), (R.SEC_SIGNER_REVOKED, m.revoked.toNat), (R.SEC_JTAG_LOCKED, b2n m.jtagLocked), (R.SEC_CNT_GLITCH, m.cntGlitch.toNat)]
  foldc us (fun u c => c.wr u.1 pgSEC u.2) c

/-- The FWU operation in hand (R504). -/
def Chip.fwuOp (c : Chip) (v : Nat) : Chip := if c.rd R.FWU_OP pgFWU = v then c else c.up R.FWU_OP pgFWU v

/-- An update operation ends with a result (R504). -/
def Chip.fwuEnd (c : Chip) (result : Nat) : Chip :=
  (((c.up R.FWU_RESULT pgFWU result).fwuOp 0)).pulse pgFWU (if result = 0 then 0 else 1)

end Sys2Proof.Machine
end

