-- ==== Sys2Proof/Machine/Power.lean ====
section
/-! DEFINITION. Power.lean: the resets, the sequencer of the main rails, the PLLs and the Plumb oscillator, hibernation (R66 to R92, R96,
R281 to R283, R526). -/

namespace Sys2Proof.Machine

/-! What a reset does (R89, R427). -/

/-- The timers that run in the Plumb island. -/
def plumbTimers : List Nat :=
  [tmRail, tmPgWin, tmRetry, tmAborts, tmDown, tmKeyReset, tmResetBegin, tmKeyErase, tmS3, tmWdogRst, tmCool, tmHibSample, tmHibRec, tmScl, tmStretch, tmRom]

/-- The page of a register key lies in the Plumb island (R477). -/
def aonKey (k : Nat) : Bool := match pageOf (k / 32) with | some (t, _) => t.aon | none => false

/-- Register fields after the main islands have come up: those of the Plumb island stay, the others take their Reset values (R89,
R400, R406, R421). In hibernation Plumb keeps the strings' configuration (R282). -/
def Chip.mainRegs (c : Chip) : SMap Nat :=
  let keep := c.regs.filter (fun e => aonKey e.1 || (c.plumb.hib && e.1 / 32 / 0x1000 == pgGAUGE / 0x1000))
  mapSet (mapSet (mapSet keep (fldKey R.ARB_CREDIT pgARB 0) 1000) (fldKey R.PART_WIN_EN pgPART 0) 1)
    (fldKey R.IIC_ADDR pgIIC0 0) (0x2C + c.rd R.SYS_IIC0_ADDR_LO pgSYS)

/-- Every island but Plumb is at its Reset values (R89, R427). -/
def Chip.mainReset (c : Chip) : Chip :=
  let pl : PlumbSt := { c.plumb with
    locked := []
    tries := []
    pllReset := []
    halted := false
    mgmtUp := false
    mgmtHalt := false
    mgmtFail := false
    haltReq := false
    mgmtSolo := false
    fenced := false }
  let tms := c.timers.filter (fun e => plumbTimers.contains (e.1 / 65536))
  let c1 : Chip := {
    now := c.now
    datum := c.datum
    regs := c.mainRegs
    inForce := if c.plumb.hib then c.inForce.filter (fun e => e.1 / 32 / 0x1000 == pgGAUGE / 0x1000) else []
    pulses := c.pulses.filter (fun e => aonKey (32 * e.1))
    irqs := c.irqs.filter (fun b => aonKey (32 * b))
    paths := c.paths.filter (fun e => e.1 == 2 || e.1 == 3)
    timers := tms
    plumb := pl
    mram := c.mram
    flash := c.flash
    fbk := c.fbk
    stages := c.stages
    strs := if c.plumb.hib then c.strs else []
    host := { perstLow := c.host.perstLow }
    iics := c.iics.filter (fun e => e.1 == 1)
    dbg := c.dbg
    sent := c.sent
    freeCtr := c.freeCtr }
  let c2 := (c1.wr R.FAB_INCARN pgFAB c.mram.incarn.toNat).secLoad
  let c3 := foldc c2.fwuFields (fun u c => c.wr u.1 pgFWU u.2.2 u.2.1) c2
  let c4 := if c.plumb.hib then c3 else c3.loadBatt
  let c5 := c4.wr R.TWIN_MAX_SEV pgTWIN (c.rd R.FCU_MAX_SEV pgFCU)
  let c6 := c5.wr R.TWIN_FLT_IN_OK pgTWIN (b2n (c.rd R.FCU_FLT_IN pgFCU == 2))
  if c6.rd R.PLUMB_TRIM_SRC pgPLUMB = 2 then c6.up R.PLUMB_TRIM_SRC pgPLUMB 0 else c6

/-- The chip with the main islands fenced and without power (R427). -/
def Chip.mainDown (c : Chip) : Chip :=
  let st := c.rd R.TWIN_STATE pgTWIN
  let cause := c.rd R.TWIN_FENCE_CAUSE pgTWIN
  let c1 := c.mainReset.modPlumb (fun p => { p with fenced := true })
  if st = 4 then (((c1.wr R.TWIN_STATE pgTWIN 4).wr R.TWIN_FENCE_CAUSE pgTWIN cause).wr R.TWIN_ROLE pgTWIN 1).reFlt else c1.reFlt

/-- RESET_CAUSE names one cause (R92). -/
def causeFields : List Fld := [R.SYS_PORST, R.SYS_PIN, R.SYS_KEY, R.SYS_WDOG, R.SYS_GLITCH, R.SYS_THERMAL, R.SYS_FAULT, R.SYS_BOOT_TIMEOUT]

/-- The fields of SYS.STRAPS. -/
def strapFields : List Fld :=
  [R.SYS_TWIN_ID, R.SYS_BOOT_SRC, R.SYS_IIC0_ADDR_LO, R.SYS_SOLO_ALLOWED, R.SYS_STAGE_SAFE_DEFAULT, R.SYS_FAB_PLANES]

/-- The fields of SEQ_STATUS. -/
def seqStatus : List Fld := [R.SEQ_STATE, R.SEQ_FAIL_RAIL, R.SEQ_FAIL_CAUSE, R.SEQ_ABORTS, R.SEQ_PG, R.SEQ_EN]

/-- Fields copied from one register map into another. -/
def keepFields (old new : SMap Nat) (b : Nat) (fs : List Fld) : SMap Nat :=
  foldc fs (fun f m => mapSet m (fldKey f b 0) (mapGet old (fldKey f b 0) f.rst)) new

/-- The sequencer set stored in MRAM, or the factory's (R69). -/
def Chip.storedSet (c : Chip) : List RailCfg := c.mram.seqSet.getD factorySet

/-- Registers that every reset loads from straps, MRAM and pins (R69, R429, R441, R479, R526). -/
def Chip.loadRegs (c : Chip) (m : SMap Nat) : SMap Nat :=
  let m1 := loadRails m c.storedSet
  let m2 := mapSet m1 (fldKey R.IIC_ADDR pgIIC2 0) (0x28 + c.rd R.SYS_TWIN_ID pgSYS)
  let m3 := mapSet m2 (fldKey R.THM_CNT_SHUTDOWN pgTHM 0) c.mram.cntShutdown.toNat
  mapSet m3 (fldKey R.PLUMB_CNT_BROWNOUT pgPLUMB 0) c.mram.cntBrownout.toNat

/-- The rails that a set uses, as a mask of SEQ lines. -/
def usedMask (set : List RailCfg) : Nat :=
  (upTo 8).foldl (fun n k => match set[k]? with | some r => if r.used then n + 2 ^ k else n | none => n) 0

/-- THM_STATUS.SHUTDOWN_LOCK is kept over a full reset whose source is not RESET_N (R89). -/
def Chip.lockKept (c : Chip) (pin : Bool) : Bool := c.on R.THM_SHUTDOWN_LOCK pgTHM && !pin

/-- The rails stay on over a full reset (R89): they are UP with every used power-good high, and no kept lock releases them. A reset that
comes while a controlled power-down has released some of them: the manual does not say whether the others stay on; they are released and
the start begins at step 2 (DESIGN CHOICE, log 205). -/
def Chip.railsStay (c : Chip) (pin : Bool) : Bool :=
  let used := usedMask c.plumb.runSet
  c.rd R.SEQ_STATE pgSEQ == 2 && c.rd R.SEQ_PG pgSEQ &&& used == used && c.plumb.downPos.isNone && !c.lockKept pin

/-- Plumb enters a full device reset (R89, R90, R92), for the cause whose bit is given. -/
def Chip.plumbReset (c : Chip) (cause : Fld) (pin : Bool) : Chip :=
  let p := c.plumb
  let stayUp := c.railsStay pin
  let lockout := c.rd R.SEQ_STATE pgSEQ == 4 && !pin
  let m0 : SMap Nat := keepFields c.regs [] pgSYS strapFields
  let m1 := keepFields c.regs m0 pgFCU [R.FCU_FLT_IN, R.FCU_FLT_OUT]
  let m2 := mapSet m1 (fldKey cause pgSYS 0) 1
  let m3 := if stayUp || lockout then keepFields c.regs m2 pgSEQ seqStatus else keepFields c.regs m2 pgSEQ [R.SEQ_PG]
  let m4 := if pin then m3 else keepFields c.regs m3 pgTHM [R.THM_SHUTDOWN_LOCK]
  let m5 := if stayUp then mapSet m4 (fldKey R.PLUMB_MAIN_UP pgPLUMB 0) 1 else m4
  let m6 := if lockout then mapSet m5 (fldKey R.SYS_RESULT pgSYS 0) 2 else m5
  let q : PlumbSt := { porst := false, rom := true, resetN := p.resetN, runSet := c.storedSet, resetAt := c.now, por := p.por, railAt := p.railAt, seqAt := p.seqAt }
  let tms := if stayUp then c.timers.filter (fun e => e.1 == tmKey tmAborts 0) else []
  let k := c.fbk
  let fb : FbkSt := { slots := k.slots, queue := k.queue, lastWrite := k.lastWrite, seq := k.seq }
  let c1 : Chip := { c with regs := c.loadRegs m6, plumb := q, timers := tms, pulses := [], irqs := [], paths := [], iics := [], dbg := {}, fbk := fb }
  (c1.mainReset.wr R.FBK_QUEUE pgFBK k.queue.length).reFlt

/-- A Field Book record is being written (R448). -/
def Chip.writeBusy (c : Chip) : Bool := c.fbk.writing.isSome && decide (c.now < c.fbk.lastWrite + 4 * dqUs)

/-- A full device reset begins (R90): the islands other than Plumb enter it at once, Plumb once a record write in progress has ended.
A further one in that time adds nothing but its source (R92). -/
def Chip.fullReset (c : Chip) (cause : Fld) (pin : Bool) : Chip :=
  let c1 := c.modPlumb (fun p => { p with resetN := p.resetN || pin })
  if c1.writeBusy then
    let n := (causeFields.findIdx? (· == cause)).getD 0
    c1.mainReset.modPlumb (fun p => { p with rstWait := some (match p.rstWait with | some x => (x.1, x.2 || pin) | none => (n, pin)) })
  else c1.plumbReset cause pin

/-- The record write that a full reset waited for has ended (R90). -/
def Chip.resetTick (c : Chip) : Chip :=
  match c.plumb.rstWait with
  | none => c
  | some (n, pin) => if c.writeBusy then c else c.plumbReset (causeFields[n]?.getD R.SYS_PIN) pin

/-- A full device reset clears descriptor memory (R189); the capture SRAM starts again from zero. -/
def State.fullReset (s : State) (cause : Fld) (pin : Bool) : State :=
  { s with mem := [], cap := [], chip := s.chip.fullReset cause pin }

/-- PORST_N low: everything is reset, Plumb included (R89). MRAM, flash, pins, the stage ends and the straps sampled last keep their own
(R61). -/
def Chip.powerReset (c : Chip) : Chip :=
  let c0 := c.fbTear
  let r := State.reset.chip
  let m := keepFields c.regs (keepFields c.regs (keepFields c.regs r.regs pgFCU [R.FCU_FLT_IN]) pgSYS strapFields) pgSEQ [R.SEQ_PG]
  { r with
    now := c.now
    regs := m
    stages := c.stages
    mram := c.mram
    flash := c.flash
    fbk := { slots := c0.fbk.slots }
    host := { perstLow := c.host.perstLow }
    sent := c.sent
    freeCtr := c.freeCtr
    plumb := { r.plumb with stopped := c.plumb.stopped, brown := c.plumb.brown } }

/-! The sequencer (R69 to R78). -/

/-- SEQ_STATUS.STATE takes a value; PLUMB.MAIN_UP reads 1 in UP (R526). -/
def Chip.seqState (c : Chip) (v : Nat) : Chip :=
  let c1 := if c.rd R.SEQ_STATE pgSEQ = v then c else c.up R.SEQ_STATE pgSEQ v
  if c1.rd R.PLUMB_MAIN_UP pgPLUMB = b2n (v == 2) then c1 else c1.up R.PLUMB_MAIN_UP pgPLUMB (b2n (v == 2))

/-- BOOT_STATUS.STEP takes a value (R96). -/
def Chip.setStep (c : Chip) (v : Nat) : Chip := if c.rd R.SYS_STEP pgSYS = v then c else c.up R.SYS_STEP pgSYS v

/-- The used rail of a position in the run set (R73). -/
def railAtPos (set : List RailCfg) (pos : Nat) : Option Nat :=
  (upTo 8).find? (fun n => match set[n]? with | some r => r.used && r.order == pos | none => false)

/-- One rail of a set. -/
def railOf (set : List RailCfg) (n : Nat) : RailCfg := (set[n]?).getD {}

/-- Plumb checks REFCLK and starts every PLL (R83). -/
def Chip.startPlls (c : Chip) : Chip :=
  if !c.plumb.refclk then
    ((c.modPlumb (fun p => { p with halted := true })).hw pgSYS [(R.SYS_RESULT, 0, 1), (R.SYS_FAIL_ISLAND, 0, 0x3F)]).raise 4 0 |>.reFlt
  else foldc (upTo 31) (fun i c => c.arm (tmKey tmPll i) (200 * dqUs)) c

/-- The rails have reached UP (R73, R96, R427): the main islands come up and the start goes on at step 3. -/
def Chip.seqUp (c : Chip) : Chip :=
  let c1 := ((c.modPlumb (fun p => { p with seqFault := false, hib := false })).seqState 2).record 0x101 0 0 0 []
  let c2 := c1.mainReset.pathLevel
  let c3 := (c2.setStep 2).arm (tmKey tmAborts 0) (60 * dqS)
  let c4 := if c3.rd R.SYS_RESULT pgSYS = 2 then c3.up R.SYS_RESULT pgSYS 0 else c3
  let w := c.plumb.hibWake
  let c5 := if w = 0 then c4 else
    ((c4.modPlumb (fun p => { p with hibWake := 0 })).hw pgGAUGE [(R.GAUGE_WAKE_CUR, 0, w % 2), (R.GAUGE_WAKE_IIC2, 0, w / 2)]).pulse pgGAUGE 24
  c5.reFlt.startPlls

/-- The sequence goes on to the next used position, or is complete (R73); `n` bounds the positions left. -/
def Chip.seqGo (c : Chip) (pos : Nat) : Nat → Chip
  | 0 => (c.modPlumb (fun p => { p with waitPg := false })).seqUp
  | n + 1 =>
    match railAtPos c.plumb.runSet pos with
    | some r => (c.modPlumb (fun p => { p with pos := pos, rail := r, waitPg := false })).arm (tmKey tmRail 0) ((railOf c.plumb.runSet r).delay * dqMs)
    | none => c.seqGo (pos + 1) n

/-- A sequence starts from position 0 with the newest validated set (R71, R73). -/
def Chip.seqStart (c : Chip) : Chip :=
  let set := c.plumb.newSet.getD c.plumb.runSet
  let seen := BitVec.ofNat 8 (c.rd R.SEQ_PG pgSEQ &&& usedMask set)
  let c1 := c.modPlumb (fun p => { p with runSet := set, newSet := none, pos := 0, waitPg := false, seqAt := c.now, downPos := none, downWhy := 0, seen := seen })
  (((c1.record 0x100 0 0 0 []).up R.SEQ_EN pgSEQ 0).seqState 1).seqGo 0 8

/-- Every SEQ_EN line is released (R75). The power-good inputs follow their regulators, not the enables (R72). -/
def Chip.releaseAll (c : Chip) : Chip := c.hw pgSEQ [(R.SEQ_EN, 0, 0)]

/-- The payload of a SEQ_ABORT record (R81). -/
def Chip.seqSnapshot (c : Chip) (cause rail aborts : Nat) (a : AdcRead) : Bytes :=
  let us (t : Nat) : Nat := (c.now - t) / dqUs
  [BitVec.ofNat 8 (rail + 16 * cause), BitVec.ofNat 8 (c.rd R.SEQ_EN pgSEQ), BitVec.ofNat 8 (c.rd R.SEQ_PG pgSEQ), BitVec.ofNat 8 (railOf c.plumb.runSet rail).order]
  ++ leBytes a.vaon.toNat 2 ++ leBytes a.a0.toNat 2 ++ leBytes a.a1.toNat 2 ++ leBytes a.a2.toNat 2 ++ leBytes a.a3.toNat 2 ++ leBytes a.tPlumb.toNat 2
  ++ leBytes (us ((c.plumb.railAt[rail]?).getD 0)) 4 ++ leBytes (us c.plumb.seqAt) 4
  ++ [BitVec.ofNat 8 (c.rd R.PLUMB_XTAL_RUN pgPLUMB), BitVec.ofNat 8 aborts, 0, 0, 0, 0, 0, 0]

/-- The sequence is aborted (R75, R77, R96, R427). -/
def Chip.seqAbort (c : Chip) (cause rail : Nat) (a : AdcRead) : Chip :=
  let n := min 3 (c.rd R.SEQ_ABORTS pgSEQ + 1)
  let snap := c.seqSnapshot cause rail n a
  let lock := n = 3
  let c1 := ((((c.disarm (tmKey tmRail 0)).disarm (tmKey tmPgWin 0)).disarm (tmKey tmAborts 0)).disarm (tmKey tmDown 0)).releaseAll
  let c2 := (c1.seqState (if lock then 4 else 3)).hw pgSEQ [(R.SEQ_FAIL_RAIL, 0, rail), (R.SEQ_FAIL_CAUSE, 0, cause), (R.SEQ_ABORTS, 0, n)]
  let c3 := (c2.modPlumb (fun p => { p with seqFault := true, waitPg := false, downPos := none })).setStep 1
  let c4 := if lock then c3.up R.SYS_RESULT pgSYS 2 else c3.arm (tmKey tmRetry 0) dqS
  (c4.raise 7 rail snap).mainDown

/-- A chip whose sequencer was aborted has no main island running: descriptor memory and the capture SRAM are lost with it. -/
def State.mainOff (s : State) (c : Chip) : State := { s with mem := [], cap := [], chip := c }

/-! Rows: the sequencer. -/

/-- The delay before a rail's enable has elapsed (R73). -/
def seqRailEnable (c : Chip) : Chip :=
  if c.due (tmKey tmRail 0) && !c.plumb.stopped && c.rd R.SEQ_STATE pgSEQ == 1 && !c.plumb.waitPg then
    let n := c.plumb.rail
    let c1 := (c.disarm (tmKey tmRail 0)).up R.SEQ_EN pgSEQ (c.rd R.SEQ_EN pgSEQ ||| 2 ^ n)
    let c2 := c1.modPlumb (fun p => { p with waitPg := true, railAt := setAt p.railAt n c.now })
    if bitOf (c2.rd R.SEQ_PG pgSEQ) n then c2.seqGo (c2.plumb.pos + 1) (7 - c2.plumb.pos)
    else c2.arm (tmKey tmPgWin 0) ((railOf c2.plumb.runSet n).window * dqMs)
  else c

/-- A power-good input rises (R72 to R74): PG shows the level at any time, and a sequence that runs takes note of it. -/
def seqPgRise (c : Chip) (n : Nat) : Chip :=
  let c1 := c.wr R.SEQ_PG pgSEQ (c.rd R.SEQ_PG pgSEQ ||| 2 ^ n)
  if c1.rd R.SEQ_STATE pgSEQ = 1 ∧ !c1.plumb.stopped ∧ (railOf c1.plumb.runSet n).used then
    let c2 := c1.modPlumb (fun p => { p with seen := p.seen ||| BitVec.ofNat 8 (2 ^ n) })
    if c2.plumb.waitPg ∧ c2.plumb.rail = n then (c2.disarm (tmKey tmPgWin 0)).seqGo (c2.plumb.pos + 1) (7 - c2.plumb.pos) else c2
  else c1

/-- The power-good window of a rail ends (R73, R75). -/
def seqPgTimeout (s : State) (a : AdcRead) : State :=
  let c := s.chip
  if c.due (tmKey tmPgWin 0) && c.rd R.SEQ_STATE pgSEQ == 1 && c.plumb.waitPg then s.mainOff (c.seqAbort 1 c.plumb.rail a) else s

/-- A power-good input has been low for 10 us (R72, R74). In a controlled power-down a rail is watched for as long as its enable is
driven. DEDUCED (160). -/
def seqPgLost (s : State) (n : Nat) (a : AdcRead) : State :=
  let c := s.chip
  let c1 := c.wr R.SEQ_PG pgSEQ (setBitN (c.rd R.SEQ_PG pgSEQ) n false)
  let used := (railOf c1.plumb.runSet n).used
  let driven := bitOf (c1.rd R.SEQ_EN pgSEQ) n
  let st := c1.rd R.SEQ_STATE pgSEQ
  if c1.plumb.stopped then { s with chip := c1 }
  else if st = 2 ∧ used ∧ driven then s.mainOff ((c1.raise 6 n).seqAbort 2 n a)
  else if st = 1 ∧ used ∧ c1.plumb.seen.getLsbD n ∧ (c1.plumb.downPos = none ∨ driven) then s.mainOff (c1.seqAbort 2 n a)
  else { s with chip := c1 }

/-- 1 s after an abort the sequence restarts (R77), unless a power-down on purpose is due. DEDUCED (160). -/
def seqRetry (c : Chip) : Chip :=
  if c.due (tmKey tmRetry 0) && !c.plumb.stopped && c.rd R.SEQ_STATE pgSEQ == 3 && c.plumb.downWhy == 0 then (c.disarm (tmKey tmRetry 0)).seqStart else c

/-- The state has stayed UP for 60 s (R77). -/
def abortsClear (c : Chip) : Chip :=
  if c.due (tmKey tmAborts 0) && c.rd R.SEQ_STATE pgSEQ == 2 then
    let c1 := c.disarm (tmKey tmAborts 0)
    if c1.rd R.SEQ_ABORTS pgSEQ = 0 then c1 else c1.up R.SEQ_ABORTS pgSEQ 0
  else c

/-- The set that SEQ_RAIL0-7 spell (R69). -/
def Chip.railRegs (c : Chip) : List RailCfg :=
  (upTo 8).map (fun n => { used := c.on R.SEQ_USED pgSEQ n, order := c.rd R.SEQ_ORDER pgSEQ n, window := c.rd R.SEQ_PG_WINDOW pgSEQ n, delay := c.rd R.SEQ_DELAY pgSEQ n })

/-- A set is valid (R71). -/
def railsValid (set : List RailCfg) : Bool :=
  let us := set.filter (·.used)
  us.all (fun r => decide (1 ≤ r.window) && decide (r.window ≤ 100)) && decide ((us.map (·.order)).eraseDups.length = us.length)

/-- SEQ_CTRL.SAVE (R71). -/
def Chip.seqSave (c : Chip) : Chip :=
  let set := c.railRegs
  if railsValid set then (c.modMram (fun m => { m with seqSet := some set })).modPlumb (fun p => { p with newSet := some set })
  else c.cfgReject pgSEQ 0

/-- SEQ_CTRL.RESTART (R70, R77). -/
def Chip.seqRestart (c : Chip) : Chip :=
  let st := c.rd R.SEQ_STATE pgSEQ
  if st = 3 ∨ st = 4 then ((c.disarm (tmKey tmRetry 0)).up R.SEQ_ABORTS pgSEQ 0).seqStart else c

/-- The used rail of the highest position up to `pos`. -/
def railBelow (set : List RailCfg) (pos : Nat) : Option Nat :=
  ((upTo 8).filterMap (fun k => railAtPos set (7 - k))).find? (fun n => decide ((railOf set n).order ≤ pos))

/-- A rail's enable is released; the next lower one follows after this rail's DELAY, and after the last the state is DOWN (R78). -/
def Chip.downRelease (c : Chip) (n : Nat) : Chip :=
  let c1 := c.hw pgSEQ [(R.SEQ_EN, 0, setBitN (c.rd R.SEQ_EN pgSEQ) n false)]
  let r := railOf c1.plumb.runSet n
  let c2 := c1.modPlumb (fun p => { p with downPos := some r.order })
  match (if r.order = 0 then none else railBelow c2.plumb.runSet (r.order - 1)) with
  | some _ => c2.arm (tmKey tmDown 0) (r.delay * dqMs)
  | none => ((c2.seqState 5).record 0x102 0 0 0 []).modPlumb (fun p => { p with downPos := none, downWhy := 0 })

/-- The state is DOWN: the main islands have no power; a wake that came meanwhile starts the rails (R283). -/
def State.afterDown (s : State) (c : Chip) : State :=
  if c.rd R.SEQ_STATE pgSEQ = 5 then
    let c1 := c.mainDown
    s.mainOff (if c1.plumb.hib && c1.plumb.hibWake != 0 then c1.seqStart else c1)
  else { s with chip := c }

/-- Plumb powers the main rails down on purpose, where a thermal shutdown or hibernation calls for it (R78, R281, R437); LOCKOUT stands
(R77). -/
def seqPowerDown (s : State) : State :=
  let c := s.chip
  let st := c.rd R.SEQ_STATE pgSEQ
  if c.plumb.stopped ∨ c.plumb.downWhy = 0 ∨ c.plumb.downPos ≠ none ∨ st = 5 ∨ st = 4 ∨ st = 0 then s
  else
    let c1 := (((c.disarm (tmKey tmRail 0)).disarm (tmKey tmPgWin 0)).disarm (tmKey tmRetry 0)).disarm (tmKey tmAborts 0)
    let c2 := (c1.setStep 1).modPlumb (fun p => { p with waitPg := false })
    match railBelow c2.plumb.runSet 7 with
    | some n => s.afterDown (c2.downRelease n)
    | none => s.afterDown (((c2.seqState 5).record 0x102 0 0 0 []).modPlumb (fun p => { p with downWhy := 0 }))

/-- The DELAY after a released rail has elapsed (R78). -/
def seqDownStep (s : State) : State :=
  let c := s.chip
  match c.due (tmKey tmDown 0), c.plumb.downPos with
  | true, some k =>
    match (if k = 0 then none else railBelow c.plumb.runSet (k - 1)) with
    | some n => s.afterDown ((c.disarm (tmKey tmDown 0)).downRelease n)
    | none => s
  | true, none => s
  | false, _ => s

/-- VAON has stayed below 1.62 V for 1 us (R79): Plumb releases every enable and stops; no rail is up from then on, and the sequencer does
nothing until PORST_N has been low (R57, R67). -/
def brownOut (s : State) : State :=
  let c := s.chip
  if c.plumb.porst || c.plumb.stopped then s
  else
    let c1 := ((c.fbTear.hw pgSEQ [(R.SEQ_EN, 0, 0)]).up R.PLUMB_MAIN_UP pgPLUMB 0).mainDown
    s.mainOff (({ c1 with timers := [] } : Chip).modPlumb (fun p => { p with stopped := true, brown := true, rstWait := none, waitPg := false, seen := 0, downPos := none, downWhy := 0 })).reFlt

/-! Rows: resets. -/

/-- PORST_N goes low (R67, R89). -/
def porstAssert (s : State) : State := { s with mem := [], cap := [], chip := s.chip.powerReset }

/-- PORST_N rises (R62, R64, R67, R86): the straps are sampled, Datum starts at 0, Plumb ROM starts. -/
def porstRise (c : Chip) (straps : Byte) : Chip :=
  if !c.plumb.porst then c
  else
    let b (n : Nat) : Nat := b2n (straps.getLsbD n)
    let c1 := c.hw pgSYS [(R.SYS_TWIN_ID, 0, b 0), (R.SYS_BOOT_SRC, 0, b 1 + 2 * b 2), (R.SYS_IIC0_ADDR_LO, 0, b 3 + 2 * b 4),
      (R.SYS_SOLO_ALLOWED, 0, b 5), (R.SYS_STAGE_SAFE_DEFAULT, 0, b 6), (R.SYS_FAB_PLANES, 0, b 7)]
    let c2 := { c1 with datum := 0, rateAcc := 0, regs := c1.loadRegs c1.regs }
    let c3 := c2.modPlumb (fun p => { p with porst := false, stopped := false, rom := true, resetAt := c.now, runSet := c.storedSet })
    c3.mainReset

/-- RESET_N has been low for a time in ns (R90, R541). -/
def resetNAssert (s : State) (lowNs : Nat) : State :=
  if s.chip.plumb.porst || s.chip.plumb.stopped || s.chip.plumb.resetN then s
  else if lowNs < 100 then s
  else if 1000 ≤ lowNs ∨ Config.recognisesPulse lowNs then s.fullReset R.SYS_PIN true
  else s

/-- RESET_N is released: Plumb ROM starts (R90). -/
def resetNRelease (c : Chip) : Chip :=
  if c.plumb.resetN then c.modPlumb (fun p => { p with resetN := false, resetAt := c.now }) else c

/-- The most recent SEQ_START has no closing record (R80). -/
def Chip.interrupted (c : Chip) : Bool :=
  let closes (k : Nat) : Bool := k == 0x101 || k == 0x102 || k == 0x103 || k == 7
  let es := c.fbk.slots.map (·.2)
  let start := es.foldl (fun (b : Option FbRec) r => if r.code = 0x100 then
    (match b with | none => some r | some x => if laterOf 32 r.seq.toNat x.seq.toNat = r.seq.toNat then some r else b) else b) none
  match start with
  | none => false
  | some x => !es.any (fun r => closes r.code && later 32 r.seq.toNat x.seq.toNat)

/-- Plumb ROM's self-test passes (R80, R89, R93, R96, R429, R432, R450): the slots are checked, then the rails are started, or the
start goes on at step 3 where they stayed UP, or halts. -/
def romDone (c : Chip) : Chip :=
  if !c.plumb.rom || c.plumb.porst || c.plumb.resetN || c.plumb.stopped then c
  else
    let power := c.plumb.por
    let c0 := if c.plumb.brown then
        (c.modMram (fun m => { m with cntBrownout := m.cntBrownout + 1 })).wr R.PLUMB_CNT_BROWNOUT pgPLUMB (c.mram.cntBrownout.toNat + 1) else c
    let c1 := ((c0.modPlumb (fun p => { p with rom := false, por := false, brown := false })).fbCheck).setStep 1
    let c2 := if power && c1.interrupted then (c1.record 0x103 0 2 0 []).up R.SEQ_FAIL_CAUSE pgSEQ 3 else c1
    let c3 := if c2.mram.wdogFlag then (c2.modMram (fun m => { m with wdogFlag := false })).raise 1 0 else c2
    let c4 := c3.reFlt
    let st := c4.rd R.SEQ_STATE pgSEQ
    if st = 2 then (c4.setStep 2).startPlls
    else if st = 4 ∨ c4.on R.THM_SHUTDOWN_LOCK pgTHM then c4
    else c4.seqStart

/-- A write to SYS.RESET (R91). -/
def Chip.resetKeyWrite (c : Chip) (v : Nat) : Chip :=
  let (st, done, abort) := keyWrite c.plumb.key v
  let c1 := c.modPlumb (fun p => { p with key := st })
  if done then (c1.disarm (tmKey tmKeyReset 0)).arm (tmKey tmResetBegin 0) (10 * dqUs)
  else if abort then (c1.disarm (tmKey tmKeyReset 0)).raise 0xD 0
  else if st = 1 ∧ c.plumb.key = 0 then c1.arm (tmKey tmKeyReset 0) dqMs
  else c1

/-- The 1 ms of the reset key lapses (R91, R515). -/
def resetKeyLapse (c : Chip) : Chip :=
  if c.due (tmKey tmKeyReset 0) && c.plumb.key == 1 then
    ((c.disarm (tmKey tmKeyReset 0)).modPlumb (fun p => { p with key := 0 })).raise 0xD 0
  else c

/-- The full reset of the key begins 10 us after its second write (R91). -/
def keyResetStart (s : State) : State :=
  if s.chip.due (tmKey tmResetBegin 0) then s.fullReset R.SYS_KEY false else s

/-! Rows: clocks (R83 to R85, R526). -/

/-- A PLL locks (R83, R84). -/
def pllLock (c : Chip) (i : Nat) : Chip :=
  if c.armed (tmKey tmPll i) && !c.plumb.halted then
    let c1 := (c.disarm (tmKey tmPll i)).modPlumb (fun p => { p with locked := i :: p.locked.filter (· != i) })
    if i = 29 ∧ c1.rd R.PLUMB_TRIM_SRC pgPLUMB = 0 then c1.up R.PLUMB_TRIM_SRC pgPLUMB 2 else c1
  else c

/-- A lock attempt has lasted 200 us (R83): the PLL is held in reset, or after the fourth attempt start-up halts. -/
def pllLockTimeout (c : Chip) (i : Nat) : Chip :=
  if c.due (tmKey tmPll i) && !c.plumb.halted then
    let n := mapGet c.plumb.tries i 0 + 1
    let c1 := (c.disarm (tmKey tmPll i)).modPlumb (fun p => { p with tries := mapSet p.tries i n })
    if n < 4 then (c1.modPlumb (fun p => { p with pllReset := i :: p.pllReset })).arm (tmKey tmPllRst i) (10 * dqUs)
    else (((c1.modPlumb (fun p => { p with halted := true })).hw pgSYS [(R.SYS_RESULT, 0, 1), (R.SYS_FAIL_ISLAND, 0, i)]).raise 5 i).reFlt
  else c

/-- After 10 us in reset the PLL tries again (R83). -/
def pllRetry (c : Chip) (i : Nat) : Chip :=
  if c.due (tmKey tmPllRst i) && !c.plumb.halted then
    ((c.disarm (tmKey tmPllRst i)).modPlumb (fun p => { p with pllReset := p.pllReset.filter (· != i) })).arm (tmKey tmPll i) (200 * dqUs)
  else c

/-- An island loses lock in service (R23). -/
def islandUnlock (c : Chip) (i : Nat) : Chip :=
  if 3 ≤ c.rd R.SYS_STEP pgSYS ∧ c.plumb.locked.contains i then
    (c.modPlumb (fun p => { p with locked := p.locked.filter (· != i) })).raise 5 i
  else c

/-- REFCLK has been absent for 1 us (R83, R85). -/
def refclkLoss (c : Chip) : Chip :=
  if c.plumb.porst || c.plumb.stopped || !c.plumb.refclk then c
  else
    let c1 := c.modPlumb (fun p => { p with refclk := false })
    let k := c1.rd R.SYS_STEP pgSYS
    if 3 ≤ k then c1.raise 4 0
    else if k = 2 ∧ !c1.plumb.halted then c1.startPlls
    else c1

/-- Plumb detects that the crystal has started or stopped (R84, R526). -/
def xtalDetect (c : Chip) (run : Bool) : Chip :=
  if c.plumb.porst || c.plumb.stopped || c.on R.PLUMB_XTAL_RUN pgPLUMB == run then c
  else
    let src := if run then 1 else if c.plumb.locked.contains 29 then 2 else 0
    (c.hw pgPLUMB [(R.PLUMB_XTAL_RUN, 0, b2n run), (R.PLUMB_TRIM_SRC, 0, src)]).pulse pgPLUMB 0

/-- The PLUMB page takes a set of ADC readings (R526). -/
def Chip.putAdc (c : Chip) (a : AdcRead) : Chip :=
  c.hw pgPLUMB [(R.PLUMB_VAON_MV, 0, a.vaon.toNat), (R.PLUMB_ADC_MV, 0, a.a0.toNat), (R.PLUMB_ADC_MV, 1, a.a1.toNat),
    (R.PLUMB_ADC_MV, 2, a.a2.toNat), (R.PLUMB_ADC_MV, 3, a.a3.toNat)]

/-- The ADC values are refreshed every 1 ms while MAIN_UP is 1 (R526). -/
def adcRefresh (c : Chip) (a : AdcRead) (rcErr : Word) : Chip :=
  if c.on R.PLUMB_MAIN_UP pgPLUMB && decide (c.plumb.msTick ≤ c.now) then
    ((c.putAdc a).up R.PLUMB_RC_ERR_PPB pgPLUMB rcErr.toNat).modPlumb (fun p => { p with msTick := c.now + dqMs })
  else c

/-! Hibernation (R281 to R283). -/

/-- Hibernation ends: the rails start (R283). -/
def Chip.hibWakeUp (c : Chip) (cause : Nat) : Chip :=
  if !c.plumb.hib then c
  else
    let c1 := (c.modPlumb (fun p => { p with hibWake := p.hibWake ||| cause })).up R.PLUMB_HIBERNATING pgPLUMB 0
    if c1.rd R.SEQ_STATE pgSEQ = 5 then (if c1.leads then c1.writeBatt c1.validStrs else c1).seqStart else c1

/-- A string's estimation goes into its registers at once, for Plumb to go on from (R282). -/
def Chip.strSettle (c : Chip) (n : Nat) : Chip :=
  let ws := (c.strWork n).writes n
  let c1 := c.modStr n (fun q => { q with work := none })
  if ws.all (fun w => c.byKey w.1 == some w.2) then c1
  else (({ c1 with regs := ws.foldl (fun m w => mapSet m w.1 w.2) c1.regs } : Chip)).seqInc pgGAUGE

/-- GA_CTRL.HIB_ENTER is written (R281). The LEAD or SOLO twin writes the records (R280). -/
def Chip.hibEnter (c : Chip) : Chip :=
  if (upTo 8).any (fun s => c.onV R.HOLD_EN pgHOLD s && c.rd R.HOLD_STATE pgHOLD s != 1) then c.cfgReject pgGAUGE 25
  else
    let c0 := foldc c.validStrs (fun n c => c.strSettle n) c
    let c1 := (if c0.leads then c0.writeBatt c0.validStrs else c0).modPlumb (fun p => { p with
      fenced := true
      hib := true
      hibWake := 0
      hibScale := c0.rdF R.GAUGE_HIB_I_SCALE pgGAUGE
      hibLimit := c0.rdF R.GAUGE_HIB_WAKE_A pgGAUGE
      downWhy := 2 })
    ((c1.up R.PLUMB_HIBERNATING pgPLUMB 1).arm (tmKey tmHibSample 0) (10 * dqS)).arm (tmKey tmHibRec 0) (3600 * dqS)

/-- One string takes its part of a hibernation sample (R272, R282). -/
def Chip.hibCharge (c : Chip) (iAgg capSum : F32) (n : Nat) : Chip :=
  let dq := fdiv (fdiv (fmul (fmul iAgg (fOfNat 10)) (c.gV R.GAUGE_CAP_AH n)) capSum) (fOfNat 3600)
  let w := c.strWork n
  let soc := c.socAfter n w dq
  let grow := fadd (fdiv (fmul (fRat 1 100) (fabs dq)) (c.capEff n w.soh)) (fdiv (fmul (fRat 5 1000) (fOfNat 10)) (fOfNat 86400))
  (c.hw pgGAUGE [(R.GAUGE_SOC, n, soc.toNat), (R.GAUGE_SOC_UNC, n, (fadd (c.gF R.GAUGE_SOC_UNC n) grow).toNat)]).countCycle n dq

/-- The current of a set of readings that all strings share in hibernation (R282). -/
def Chip.hibAgg (c : Chip) (a : AdcRead) : F32 := fmul c.plumb.hibScale (fOfInt ((a.a1.toNat : Int) - 900))

/-- A current that wakes the chip from hibernation (R283). -/
def Chip.hibHigh (c : Chip) (a : AdcRead) : Bool :=
  let wake := c.plumb.hibLimit
  !feq wake fZero && fle wake (fabs (c.hibAgg a))

/-- Every 10 s in hibernation Plumb samples its ADC (R282, R283); the sample of an interval that a wake has ended may add the other cause. -/
def hibSample (c : Chip) (a : AdcRead) : Chip :=
  if !(c.due (tmKey tmHibSample 0)) then c
  else
    let c1 := (c.disarm (tmKey tmHibSample 0)).putAdc a
    let iAgg := c.hibAgg a
    let high := c.hibHigh a
    if c1.plumb.hib && c1.plumb.hibWake == 0 then
      let cap := fsum (c1.validStrs.map (fun n => c1.gV R.GAUGE_CAP_AH n))
      let c2 := (foldc c1.validStrs (fun n c => c.hibCharge iAgg cap n) c1).arm (tmKey tmHibSample 0) (10 * dqS)
      if high then (c2.disarm (tmKey tmHibSample 0)).hibWakeUp 1 else c2
    else if high && c1.plumb.hibWake != 0 then c1.modPlumb (fun p => { p with hibWake := p.hibWake ||| 1 })
    else if high && !c1.plumb.hib && c1.rd R.SEQ_STATE pgSEQ == 2 then c1.up R.GAUGE_WAKE_CUR pgGAUGE 1
    else c1

/-- Every hour in hibernation Plumb writes the battery records (R282). -/
def hibRecordWrite (c : Chip) : Chip :=
  if c.due (tmKey tmHibRec 0) && c.plumb.hib then (c.writeBatt c.validStrs).arm (tmKey tmHibRec 0) (3600 * dqS) else c

/-! Meanings of the rows. -/

/-- ISLAND_UNLOCK (R23): An island losing PLL lock after start step 3 raises ISLAND_UNLOCK at S3. -/
def execIslandUnlock (island : Island) (s : State) : Result :=
  .next (s.onChip (fun c => islandUnlock c island.val))

/-- PORST_N_RISE (R67): The rising edge of PORST_N starts Plumb ROM and Datum at 0. -/
def execPorstNRise (straps : Byte) (s : State) : Result :=
  .next (s.onChip (fun c => porstRise c straps))

/-- PORST_N_ASSERT (R89): PORST_N low performs the power-on reset of everything, Plumb included. -/
def execPorstNAssert (s : State) : Result :=
  .next (porstAssert s)

/-- RESET_N_ASSERT (R90): A recognised low pulse on RESET_N starts a full device reset. -/
def execResetNAssert (lowNs : Nat) (s : State) : Result :=
  .next (resetNAssert s lowNs)

/-- ROM_SELFTEST_DONE (R96): Plumb ROM self-test passes and the start completes step 1. -/
def execRomSelftestDone (s : State) : Result :=
  .next (s.onChip (fun c => romDone c))

/-- SEQ_RAIL_ENABLE (R73): After a rail's DELAY Plumb drives its SEQ_EN high. -/
def execSeqRailEnable (s : State) : Result :=
  .next (s.onChip (fun c => seqRailEnable c))

/-- SEQ_PG_RISE (R73): A rail's power-good arrives and the sequence moves to the next position or to UP. -/
def execSeqPgRise (rail : Rail) (s : State) : Result :=
  .next (s.onChip (fun c => seqPgRise c rail.val))

/-- SEQ_PG_TIMEOUT (R73): PG_WINDOW expires without power-good and the sequence aborts with PG_TIMEOUT. -/
def execSeqPgTimeout (adc : AdcRead) (s : State) : Result :=
  .next (seqPgTimeout s adc)

/-- SEQ_PG_LOST (R74): A used rail's power-good low for 10 us aborts with PG_LOST, and in UP raises MAIN_RAIL_LOST. -/
def execSeqPgLost (rail : Rail) (adc : AdcRead) (s : State) : Result :=
  .next (seqPgLost s rail.val adc)

/-- SEQ_RETRY (R77): One second after an abort the sequence restarts from position 0. -/
def execSeqRetry (s : State) : Result :=
  .next (s.onChip (fun c => seqRetry c))

/-- ABORTS_CLEAR (R77): ABORTS clears once the state has stayed UP for 60 s. -/
def execAbortsClear (s : State) : Result :=
  .next (s.onChip (fun c => abortsClear c))

/-- SEQ_POWER_DOWN (R78): A controlled power-down releases the highest-ORDER rail and begins reverse sequencing. -/
def execSeqPowerDown (s : State) : Result :=
  .next (seqPowerDown s)

/-- SEQ_DOWN_STEP (R78): After a released rail's DELAY the next lower rail is released, and at the last SEQ_DOWN is written. -/
def execSeqDownStep (s : State) : Result :=
  .next (seqDownStep s)

/-- BROWN_OUT (R79): VAON below 1.62 V for 1 us releases every enable, stops Plumb and drives FLT_OUT to fault. -/
def execBrownOut (s : State) : Result :=
  .next (brownOut s)

/-- PLL_LOCK (R83): An island PLL locks and the island starts. -/
def execPllLock (island : Island) (s : State) : Result :=
  .next (s.onChip (fun c => pllLock c island.val))

/-- PLL_LOCK_TIMEOUT (R83): A PLL not locked within 200 us is held in reset for retry, or after the fourth attempt start-up halts.
-/
def execPllLockTimeout (island : Island) (s : State) : Result :=
  .next (s.onChip (fun c => pllLockTimeout c island.val))

/-- PLL_RETRY (R83): After 10 us in reset the PLL is released for another lock attempt. -/
def execPllRetry (island : Island) (s : State) : Result :=
  .next (s.onChip (fun c => pllRetry c island.val))

/-- REFCLK_LOSS (R85): REFCLK absent for 1 us after step 3 raises REFCLK_LOSS at S3. -/
def execRefclkLoss (s : State) : Result :=
  .next (s.onChip (fun c => refclkLoss c))

/-- RESET_KEY_LAPSE (R91): The 1 ms of a key sequence lapses without a next write, aborting it and raising LOCK_ABORT. -/
def execResetKeyLapse (s : State) : Result :=
  .next (s.onChip (fun c => resetKeyLapse c))

/-- KEY_RESET_START (R91): The full reset begins 10 us after the second key write. -/
def execKeyResetStart (s : State) : Result :=
  .next (keyResetStart s)

/-- XTAL_DETECT (R84): Plumb detects the crystal starting or stopping and changes the RC trim reference. -/
def execXtalDetect (running : Bool) (s : State) : Result :=
  .next (s.onChip (fun c => xtalDetect c running))

/-- PLUMB_ADC_REFRESH (R526): Plumb refreshes its ADC readings every 1 ms while the main rails are up. -/
def execPlumbAdcRefresh (adc : AdcRead) (rcErr : Word) (s : State) : Result :=
  .next (s.onChip (fun c => adcRefresh c adc rcErr))

/-- HIB_SAMPLE (R282): Every 10 s in hibernation Plumb samples the ADCs and charges each string. -/
def execHibSample (adc : AdcRead) (s : State) : Result :=
  .next (s.onChip (fun c => hibSample c adc))

/-- HIB_RECORD_WRITE (R282): Plumb writes the battery records every hour in hibernation. -/
def execHibRecordWrite (s : State) : Result :=
  .next (s.onChip (fun c => hibRecordWrite c))

/-- RESET_N_RELEASE (R90): RESET_N rises after a recognised reset and Plumb ROM restarts the chip from step 1, resuming at step 2 or
3. -/
def execResetNRelease (s : State) : Result :=
  .next (s.onChip (fun c => resetNRelease c))

end Sys2Proof.Machine
end

