-- ==== Sys2Proof/Machine/Thermal.lean ====
section
/-! DEFINITION. Thermal.lean: raised faults, the S3 reset, a failed MGMT, the watchdog pair, die and stage temperature sensors, thermal
shutdown and the glitch detectors (R423 to R441, R502). -/

namespace Sys2Proof.Machine

/-! A failed MGMT (R431). -/

/-- Plumb raises MGMT_FAIL (R431): MGMT is halted and the twin is told; in SOLO the chip goes on at once. -/
def mgmtFailed (c : Chip) : Chip :=
  if !c.plumb.mgmtUp || c.plumb.mgmtFail then c
  else
    let c1 := ((c.raise 2 28).modPlumb (fun p => { p with mgmtFail := true })).send (.chain .mgmtFail)
    if c1.solo then (c1.modPlumb (fun p => { p with mgmtSolo := true })).reFlt else c1.arm (tmKey tmMgmtAck 0) dqMs

/-- The twin acknowledges (R431): the chip fences itself and resets as after an S3 fault. -/
def mgmtFailAck (c0 : Chip) : Chip :=
  let c := c0.hear
  if c.armed (tmKey tmMgmtAck 0) && c.plumb.mgmtFail then
    let c1 := (c.disarm (tmKey tmMgmtAck 0)).modPlumb (fun p => { p with s3 := true, s3Reset := true, fenced := true })
    (c1.enterFenced 1).arm (tmKey tmS3 0) (c1.rd R.FCU_RESET_DELAY_MS pgFCU * dqMs)
  else c

/-- No acknowledgement within 1 ms (R431): the chip goes on without MGMT, with LEAD = 1. -/
def mgmtFailTimeout (c : Chip) : Chip :=
  if c.due (tmKey tmMgmtAck 0) && c.plumb.mgmtFail then
    let c1 := (c.disarm (tmKey tmMgmtAck 0)).modPlumb (fun p => { p with mgmtSolo := true })
    (if c1.rd R.TWIN_STATE pgTWIN = 4 then c1 else c1.setRole false).reFlt
  else c

/-! Thermal shutdown (R437, R438). -/

/-- The times of the last three thermal shutdowns lie within one hour. -/
def threeInHour (ts : List Nat) (now : Nat) : Bool := decide ((ts.filter (fun t => decide (now < t + 3600 * dqS))).length = 3)

/-- The comparator acts (R437): step 1 of R427, THERMAL_SHUTDOWN, and the rails go down; any pending reset is abandoned (R427). The third
shutdown within one hour sets SHUTDOWN_LOCK (R438). -/
def thermalShutdown (c : Chip) : Chip :=
  if c.plumb.thermal || c.plumb.porst || c.plumb.stopped then c
  else
    let ts := (c.now :: c.mram.shutdowns).take 3
    let n := c.mram.cntShutdown + 1
    let c1 := (c.modMram (fun m => { m with shutdowns := ts, cntShutdown := n })).wr R.THM_CNT_SHUTDOWN pgTHM n.toNat
    let c2 := (c1.modPlumb (fun p => { p with thermal := true, fenced := true, downWhy := 1, hib := false })).enterFenced 1
    let c3 := (foldc [tmS3, tmResetBegin, tmWdogRst, tmCool] (fun k c => c.disarm (tmKey k 0)) (c2.raise 8 0)).modPlumb (fun p => { p with rstWait := none })
    (if threeInHour ts c.now then c3.up R.THM_SHUTDOWN_LOCK pgTHM 1 else c3).reFlt

/-- Every sensor in use has stayed below 100 °C for 10 s (R438): a full reset restarts the chip, unless SHUTDOWN_LOCK is set. -/
def thermalRestart (s : State) : State :=
  let c := s.chip
  if c.due (tmKey tmCool 0) && c.plumb.thermal && c.rd R.SEQ_STATE pgSEQ != 2 && c.plumb.downPos.isNone && !c.on R.THM_SHUTDOWN_LOCK pgTHM then
    s.fullReset R.SYS_THERMAL false
  else s

/-! Glitch (R502). -/

/-- A glitch detector acts (R502): GLITCH, step 1 of R427, and a full device reset, whatever sequence is in force. -/
def glitchDetect (s : State) : State :=
  let c := s.chip
  if c.plumb.porst || c.plumb.stopped then s
  else
    let c1 := (c.raise 3 0).enterFenced 1
    let c2 := c1.modMram (fun m => { m with cntGlitch := m.cntGlitch + 1 })
    ({ s with chip := c2 } : State).fullReset R.SYS_GLITCH false

/-! Rows: sources (R423, R424, R427). -/

/-- A source is raised for an instance (R424). MGMT_FAIL, GLITCH and THERMAL_SHUTDOWN bring their own sequences. -/
def faultRaise (s : State) (src inst : Nat) : State :=
  if src = 2 then { s with chip := mgmtFailed s.chip }
  else if src = 3 then glitchDetect s
  else if src = 8 then { s with chip := thermalShutdown s.chip }
  else { s with chip := s.chip.raise src inst }

/-- Both rails of a source's pair have been equal for two samples (R423). -/
def wireFault (c : Chip) (src : Nat) : Chip := if (srcInfo src).isSome then c.raise 0 src else c

/-- RESET_DELAY_MS has elapsed (R427): a full reset, none while S3_HOLD is 1, where the sequence is then over. -/
def s3ResetDelay (s : State) : State :=
  let c := s.chip
  if c.due (tmKey tmS3 0) then
    (if c.on R.FCU_S3_HOLD pgFCU then { s with chip := (c.disarm (tmKey tmS3 0)).modPlumb (fun p => { p with s3 := false, s3Reset := false }) } else s.fullReset R.SYS_FAULT false)
  else s

/-- FC_OUTSTANDING is written (R428): sources raised at S3 stay. -/
def Chip.fcClear (c : Chip) (w v : Nat) : Chip :=
  let gone := (upTo 32).filter (fun b => bitOf v b && bitOf (c.rd R.FCU_OUTSTANDING pgFCU w) b && decide (mapGet c.plumb.outSev (32 * w + b) 0 < 3))
  let left := gone.foldl (fun n b => setBitN n b false) (c.rd R.FCU_OUTSTANDING pgFCU w)
  let c1 := c.wr R.FCU_OUTSTANDING pgFCU left w
  let stays (n : Nat) : Bool := !(n / 32 == w && gone.contains (n % 32))
  (c1.modPlumb (fun p => { p with
    outSev := p.outSev.filter (fun e => stays e.1)
    outBy := p.outBy.filter (fun e => stays e.1) })).reMaxSev

/-! Rows: the watchdog pair (R432). -/

/-- The Plumb lockstep pair services both counters (R432). -/
def watchdogService (c : Chip) : Chip := if c.plumb.wdog then c else c.arm (tmKey tmWdog 0) dqMs

/-- The pair expires (R432): FLT_OUT shows the fault code and every port group goes to IDLE. -/
def watchdogExpiry (c : Chip) : Chip :=
  if c.plumb.wdog || c.plumb.porst || c.plumb.stopped then c
  else
    let c1 := (c.modPlumb (fun p => { p with wdog := true, fenced := true })).modMram (fun m => { m with wdogFlag := true })
    ((c1.disarm (tmKey tmWdog 0)).arm (tmKey tmWdogRst 0) (10 * dqMs)).reFlt

/-- 10 ms after the expiry the pair resets the chip (R432). -/
def watchdogReset (s : State) : State := if s.chip.due (tmKey tmWdogRst 0) then s.fullReset R.SYS_WDOG false else s

/-! Rows: die sensors (R433 to R436). -/

/-- The neighbours of a sensor (R433). -/
def dieNeighbours (i : Nat) : Nat × Nat :=
  if i < 48 then (let b := i / 3 * 3; if i % 3 = 0 then (b + 1, b + 2) else if i % 3 = 1 then (b, b + 2) else (b, b + 1))
  else if i < 60 then (48 + (i - 48 + 11) % 12, 48 + (i - 48 + 1) % 12)
  else if i = 60 then (61, 62) else if i = 61 then (60, 62) else if i = 62 then (60, 61) else (60, 61)

/-- The sensor is FAILED (R434). -/
def Chip.dieFailed (c : Chip) (i : Nat) : Bool := c.on R.THM_FAILED pgTHM i

/-- A reading of a list of readings. -/
def tempAt (ts : Temps) (i : Nat) : Int := (ts[i]?).getD 0

/-- A sensor disagrees with two neighbours that agree (R434). -/
def Chip.dieOdd (c : Chip) (ts : Temps) (i : Nat) : Bool :=
  let (a, b) := dieNeighbours i
  let x := tempAt ts i
  let p := tempAt ts a
  let q := tempAt ts b
  !c.dieFailed i && !c.dieFailed a && !c.dieFailed b && decide (128 < (x - p).natAbs) && decide (128 < (x - q).natAbs) && decide ((p - q).natAbs ≤ 48)

/-- The value in use of a sensor: its reading, or where it is FAILED its neighbours' mean plus 5 °C (R434). -/
def Chip.dieValue (c : Chip) (ts : Temps) (i : Nat) : Int :=
  if !c.dieFailed i then tempAt ts i
  else
    let v (j : Nat) : Int := if c.dieFailed j then c.rdS R.THM_T pgTHM j else tempAt ts j
    let (a, b) := dieNeighbours i
    (v a + v b) / 2 + 80

/-- The throttle step that T_MAX and ONSET give, in 1/16 °C (R436). -/
def throttleOf (tMax onset : Int) : Nat := if tMax < onset then 0 else min 9 (((tMax - onset) / 32).toNat + 1)

/-- The throttle step follows T_MAX, and falls only once T_MAX is 2 °C below the lower edge of the present step (R436). -/
def Chip.reThrottle (c : Chip) : Chip :=
  let tMax := c.rdS R.THM_T_MAX pgTHM
  let onset : Int := ((16 * c.rd R.THM_ONSET pgTHM : Nat) : Int)
  let cur := c.rd R.THM_STEP pgTHM
  let k := throttleOf tMax onset
  let edge := onset + 32 * ((cur : Int) - 1)
  let new := if cur < k then k else if k < cur ∧ tMax ≤ edge - 32 then k else cur
  if new = cur then c
  else
    let c1 := ((c.up R.THM_STEP pgTHM new).level pgTHM 0 (decide (1 ≤ new))).level pgTHM 1 (new == 9)
    let c2 := if cur = 0 ∧ !c1.plumb.throttled then (c1.modPlumb (fun p => { p with throttled := true })).raise 0xB 0 else c1
    (if new = 9 then c2.raise 0xC 0 else c2).reHealth

/-- The values in use, T_MAX and HOT_SENSOR follow the readings (R434, R435). -/
def Chip.diePut (c : Chip) (ts : Temps) : Chip :=
  let vs := (upTo 64).map (fun i => (i, c.dieValue ts i))
  let top := vs.foldl (fun (b : Nat × Int) e => if b.2 < e.2 then e else b) (0, (vs.head?.getD (0, 0)).2)
  let us : List (Fld × Nat × Nat) := vs.map (fun e => (R.THM_T, e.1, unsgn 16 e.2)) ++ [(R.THM_T_MAX, 0, unsgn 16 top.2), (R.THM_HOT_SENSOR, 0, top.1)]
  (if us.all (fun u => c.rd u.1 pgTHM u.2.1 == u.2.2) then c else c.hw pgTHM us).reThrottle

/-- Every sensor is read (R433): which disagree, which values are in use, the throttle, and how long the die has been cool after a
shutdown (R434 to R436, R438). -/
def dieSensorRead (c : Chip) (ts : Temps) : Chip :=
  if c.plumb.porst || c.plumb.stopped then c
  else
    let odd := (upTo 64).filter (fun i => c.dieOdd ts i)
    let since (i : Nat) : Nat := match c.plumb.failed.find? (fun e => e.1 == i) with | some e => e.2 | none => c.now
    let c1 := (c.modPlumb (fun p => { p with failed := odd.map (fun i => (i, since i)) })).diePut ts
    if c1.plumb.thermal then
      let cool := (upTo 64).all (fun i => c1.dieFailed i || decide (tempAt ts i < 1600))
      if cool then (if c1.armed (tmKey tmCool 0) then c1 else c1.arm (tmKey tmCool 0) (10 * dqS)) else c1.disarm (tmKey tmCool 0)
    else c1

/-- A sensor has disagreed for 100 ms (R434): FAILED, its value in use is its neighbours' mean plus 5 °C. -/
def dieSensorFailed (c : Chip) (i : Nat) : Chip :=
  match c.plumb.failed.find? (fun e => e.1 == i) with
  | some (_, t) =>
    if t + 100 * dqMs ≤ c.now ∧ !c.dieFailed i then
      let c1 := (c.up R.THM_FAILED pgTHM 1 i).modPlumb (fun p => { p with failed := p.failed.filter (fun e => e.1 != i) })
      let ts := (upTo 64).map (fun j => c.rdS R.THM_T pgTHM j)
      ((c1.pulse pgTHM 2).raise 9 i).diePut ts
    else c
  | none => c

/-! Rows: stage sensors (R439). -/

/-- Item `item` of a port: its value, since when it is unchanged and since when in range. -/
def Chip.stageItem (c : Chip) (p : Nat) (item : Bool) : BitVec 20 × Nat × Nat :=
  let t := c.port p
  if item then (t.temp1, t.t1Since, t.t1Good) else (t.temp0, t.t0Since, t.t0Good)

/-- A bit of SS_FAILED takes a value (R441). -/
def Chip.stageFailed (c : Chip) (p : Nat) (item on : Bool) : Chip :=
  let k := 2 * p + b2n item
  c.up R.THM_SS_FAILED pgTHM (setBitN (c.rd R.THM_SS_FAILED pgTHM (k / 32)) (k % 32) on) (k / 32)

/-- A fitted stage temperature item fails (R439): it is out of range, or unchanged for 1 s while what it should follow has moved. -/
def stageSensorFail (c : Chip) (p : Nat) (item : Bool) : Chip :=
  let (x, _, _) := c.stageItem p item
  let k := 2 * p + b2n item
  if x = 0x80000 ∨ bitOf (c.rd R.THM_SS_FAILED pgTHM (k / 32)) (k % 32) then c
  else if !c.stageInRange x || c.stageStuck p item then
    (((c.stageFailed p item true).pulse pgTHM 2).raise 0xA p).derateJudge p
  else c

/-- A failed item recovers after 10 s of readings in range (R439). -/
def stageSensorRecover (c : Chip) (p : Nat) (item : Bool) : Chip :=
  let (x, _, good) := c.stageItem p item
  let k := 2 * p + b2n item
  if bitOf (c.rd R.THM_SS_FAILED pgTHM (k / 32)) (k % 32) && c.stageInRange x && !c.stageStuck p item && decide (good + 10 * dqS ≤ c.now) then
    (c.stageFailed p item false).derateJudge p
  else c

/-! Meanings of the rows. -/

/-- FAULT_RAISE (R424): A source changing to raised is recorded and its severity action taken. -/
def execFaultRaise (src : Byte) (inst : Nat) (s : State) : Result :=
  .next (faultRaise s src.toNat inst)

/-- WIRE_FAULT (R423): A pair with equal rails for 2 samples raises WIRE_FAULT. -/
def execWireFault (src : Byte) (s : State) : Result :=
  .next (s.onChip (fun c => wireFault c src.toNat))

/-- S3_RESET_DELAY (R427): RESET_DELAY_MS after an S3 fence Plumb performs a full device reset. -/
def execS3ResetDelay (s : State) : Result :=
  .next (s3ResetDelay s)

/-- MGMT_FAIL (R431): A lockstep mismatch or missing heartbeat halts MGMT and notifies the twin. -/
def execMgmtFail (s : State) : Result :=
  .next (s.onChip (fun c => mgmtFailed c))

/-- MGMT_FAIL_ACK_RX (R431): The twin's acknowledgement within 1 ms makes the chip fence under R427. -/
def execMgmtFailAckRx (s : State) : Result :=
  .next (s.onChip (fun c => mgmtFailAck c))

/-- MGMT_FAIL_ACK_TIMEOUT (R431): Without acknowledgement the chip keeps its laws running and shows the fault code. -/
def execMgmtFailAckTimeout (s : State) : Result :=
  .next (s.onChip (fun c => mgmtFailTimeout c))

/-- WATCHDOG_SERVICE (R432): The Plumb lockstep pair services both watchdog counters. -/
def execWatchdogService (s : State) : Result :=
  .next (s.onChip (fun c => watchdogService c))

/-- WATCHDOG_EXPIRY (R432): The watchdog pair expires, driving FLT_OUT to fault and forcing port groups to IDLE. -/
def execWatchdogExpiry (s : State) : Result :=
  .next (s.onChip (fun c => watchdogExpiry c))

/-- WATCHDOG_RESET (R432): 10 ms after expiry the watchdog performs a full device reset. -/
def execWatchdogReset (s : State) : Result :=
  .next (watchdogReset s)

/-- DIE_SENSOR_READ (R433): Every 100 us the die sensors are read and T_MAX recomputed. -/
def execDieSensorRead (temps : Temps) (s : State) : Result :=
  .next (s.onChip (fun c => dieSensorRead c temps))

/-- DIE_SENSOR_FAILED (R434): A sensor disagreeing with agreeing neighbours for 100 ms is marked FAILED. -/
def execDieSensorFailed (sensor : Sensor) (s : State) : Result :=
  .next (s.onChip (fun c => dieSensorFailed c sensor.val))

/-- THERMAL_SHUTDOWN (R437): A sensor at 125 C for 10 us fences the chip and powers the main rails down. -/
def execThermalShutdown (s : State) : Result :=
  .next (s.onChip (fun c => thermalShutdown c))

/-- THERMAL_RESTART (R438): After 10 s below 100 C Plumb restarts the chip, or after three shutdowns locks it. -/
def execThermalRestart (s : State) : Result :=
  .next (thermalRestart s)

/-- STAGE_SENSOR_FAIL (R439): An implausible or stuck stage temperature item is failed and raises STAGE_SENSOR_FAIL. -/
def execStageSensorFail (port : Port) (item : Bool) (s : State) : Result :=
  .next (s.onChip (fun c => stageSensorFail c port.val item))

/-- STAGE_SENSOR_RECOVER (R439): A failed stage item recovers after 10 s of good readings. -/
def execStageSensorRecover (port : Port) (item : Bool) (s : State) : Result :=
  .next (s.onChip (fun c => stageSensorRecover c port.val item))

/-- GLITCH_DETECT (R502): A glitch detection raises GLITCH, fences and resets the chip within 10 us. -/
def execGlitchDetect (s : State) : Result :=
  .next (glitchDetect s)

end Sys2Proof.Machine
end

