-- ==== Sys2Proof/Machine/Boot.lean ====
section
/-! DEFINITION. Boot.lean: start steps 3 to 7, and the configuration store (R93 to R96, R337, R485, R491 to R493, R522). -/

namespace Sys2Proof.Machine

/-! The configuration store (R485). -/

/-- A register key is part of the shelf configuration: PG_OWNER, RW and RWL fields and session keys of the mirrored pages (R485). -/
def cfgKey (key : Nat) : Bool :=
  let b := key / 32 / 0x1000 * 0x1000
  match pageOf b with
  | none => false
  | some (k, _) =>
    !k.aon && (match keyRow k b key with
      | none => false
      | some (r, _) => r.acc == .rw || r.acc == .rwl || (k == .fab && r.fld.off ≥ 0x200 && r.acc == .wo))

/-- The register part of the shelf configuration. -/
def Chip.cfgRegs (c : Chip) : List (Nat × Nat) := c.regs.filter (fun e => cfgKey e.1)

/-- The generation of a copy, 0 where there is none. -/
def copyGen (x : Option (Nat × List (Nat × Nat) × List (Nat × Byte))) : Nat := match x with | some y => y.1 | none => 0

/-- The running configuration is written into the older copy (R485). -/
def State.cfgSave (s : State) : State :=
  let f := s.chip.flash
  let ga := copyGen f.cfgA
  let gb := copyGen f.cfgB
  let y := (max ga gb + 1, s.chip.cfgRegs, s.mem)
  { s with chip := s.chip.modFlash (fun f => if ga ≤ gb then { f with cfgA := some y } else { f with cfgB := some y }) }

/-- A restored page takes effect: QUIESCED and the interrupt follow QUIESCE and PG_EVT_IRQEN (R17, R18); a port whose ENABLE has changed is
switched on or off (R136), and its stage end is written its SAFE action and thresholds (R136, R160). -/
def Chip.restorePage (was : Chip) (b : Nat) (c : Chip) : Chip :=
  match pageOf b with
  | none => c
  | some (k, n) =>
    let c1 := (c.reQuiesced k n).reIrq b
    if k ≠ .sp then c1
    else
      let c2 := if was.enabled b && !c1.enabled b then (c1.portOff n).seqInc b
        else if !was.enabled b && c1.enabled b then (c1.seqInc b).portOn n else c1
      match (c2.port n).announce with
      | some i =>
        let c3 := c2.checkSafeAct n i
        (if c3.safeAct n != was.safeAct n && c3.hdrLead n then c3.pushReq n (cfgWrite 0 1 (c3.safeAct n) 0) else c3).rewriteThresholds n
      | none => c2

/-- What takes effect with the restored fields: what follows PG_CTRL, PG_EVT_IRQEN and SP_CTRL, the feeders that are enabled, and
Benchmark's windows (R17, R18, R136, R287, R318). `bs` are the pages restored, and `was` the chip before. -/
def Chip.restoreHooks (c : Chip) (was : Chip) (bs : List Nat) : Chip :=
  let c0 := foldc bs (fun b c => was.restorePage b c) c
  (foldc (upTo 192) (fun p c => if c.on R.SP_FD_EN (pgSP p) then c.fdEnable p else c) c0).bmkStart

/-- The valid copy of the higher generation is loaded; with none, every stage end receives MODE STOP (R485). -/
def State.cfgRestore (s : State) : State :=
  let f := s.chip.flash
  match (if copyGen f.cfgB ≤ copyGen f.cfgA then f.cfgA else f.cfgB) with
  | none => { s with chip := foldc (upTo 192) (fun p c => c.setCmd p stopCmd) s.chip }
  | some (_, rs, m) =>
    let c1 := { s.chip with regs := foldc rs (fun e m => mapSet m e.1 e.2) s.chip.regs }
    { s with mem := foldc m (fun e m => memSet m e.1 e.2) s.mem, chip := c1.restoreHooks s.chip ((rs.map (fun e => e.1 / 32 / 0x1000 * 0x1000)).eraseDups) }

/-- Every region in which a law descriptor has BIND = 1 is committed (R485). -/
def State.commitBound (s : State) : State :=
  foldc (upTo 8) (fun p s => if bindSet s.mem p = [] then s else commitRun s p) s

/-! Step 3 (R83, R95, R482, R491, R527). -/

/-- The flash is reset for 10 us and answers at start step 3 (R482, R527). -/
def Chip.xspiStart (c : Chip) (f : FlashInfo) : Chip :=
  (((c.send (.pin "XSPI_RST_N" false)).send (.pin "XSPI_RST_N" true)).hw pgXSPI [(R.XSPI_READY, 0, b2n (decide (128 ≤ f.sizeMib))), (R.XSPI_DTR, 0, b2n f.dtr), (R.XSPI_FREQ_MHZ, 0, f.freqMhz),
    (R.XSPI_SIZE_MIB, 0, f.sizeMib)]).archShow

/-- A set is complete and every container passes its checks (R487, R489, R491). -/
def Chip.setPasses (c : Chip) (bs : List Bytes) : Chip × Bool :=
  let (c1, r) := c.ctVerifyAll bs none
  (c1, ctComplete bs && r.isNone)

/-- Start-up halts with BOOT_FAIL_IMAGE (R95). -/
def Chip.bootFailImage (c : Chip) : Chip :=
  ((c.modPlumb (fun p => { p with halted := true })).up R.SYS_RESULT pgSYS 3).reFlt

/-- MGMT is started from a set (R93, R491). -/
def Chip.startMgmt (c : Chip) (slot : Nat) (bs : List Bytes) : Chip :=
  let fmt := match ctOf bs 2 with | some b => ctFmt b | none => 0
  let c1 := (c.modFwu (fun f => { f with bootSet := bs, mirrorFmt := fmt })).modPlumb (fun p => { p with mgmtUp := true })
  let c2 := c1.hw pgFWU [(R.FWU_RUN_VER, 0, ctVer bs 1), (R.FWU_RUN_VER, 1, ctVer bs 2)]
  let c3 := (c2.up R.SYS_SLOT pgSYS slot).setStep 3
  if slot = 0 then c3.arm (tmKey tmBoot 0) dqS else c3

/-- STAGED_COPY of R492: a pending STAGED that is not rejected is copied over ACTIVE, type by type (R491, R493). Pending falls only with
the finished copy, and a full reset keeps flash, so a start that ends before it copies again; the seconds that it takes are no part of
the model. -/
def Chip.stagedCopy (c : Chip) : Chip :=
  if c.flash.pending && !c.flash.rejected then
    let c1 := c.modFlash (fun f => { f with active := ctCopy f.active f.staged, pending := false })
    (c1.modMram (fun m => { m with activeBad := false })).fwuShow
  else c

/-- Start step 3 (R93, R491): every PLL has locked, Plumb selects and verifies a set and starts MGMT from it. -/
def bootImageSelect (c : Chip) (f : FlashInfo) (recovery : Containers) : Chip :=
  if c.rd R.SYS_STEP pgSYS ≠ 2 ∨ c.plumb.halted ∨ (upTo 31).any (fun i => !c.plumb.locked.contains i) then c
  else
    let c1 := c.xspiStart f
    if c1.rd R.SYS_BOOT_SRC pgSYS ≠ 0 then
      let (c2, ok) := c1.setPasses recovery
      if ok then c2.startMgmt 2 recovery else c2.bootFailImage
    else if !c1.on R.XSPI_READY pgXSPI then c1.bootFailImage
    else
      let c2 := c1.stagedCopy
      let (c3, okA) := c2.setPasses c2.flash.active
      if okA && !c3.mram.activeBad then c3.startMgmt 0 c3.flash.active
      else
        let (c4, okG) := c3.setPasses c3.flash.golden
        if okG then c4.startMgmt 1 c4.flash.golden else c4.bootFailImage

/-! Step 4 (R93, R180, R182, R522). -/

/-- The pages whose ENABLE resets to 0 (R15, R522). -/
def enabledPages : List Nat :=
  ((singlePages.filter (fun k => !k.alwaysOn)).map (fun k => pageBase k 0)) ++ (upTo 16).map pgCLU ++ (upTo 128).map pgCE
    ++ (upTo 12).map pgSPG ++ (upTo 192).map pgSP

/-- One engine starts with the kernels of an image in bank 0, its active bank (R163, R180, R183). The load writes the bank's 8,192 words
anew. -/
def Chip.engineStart (c : Chip) (img : Bytes) (ver e : Nat) : Chip :=
  let c1 := c.modEng e (fun g => { g with up := true, bank0 := BitVec.ofNat 32 ver, img0 := bankImage img, scrub := 0, flips := g.flips.filter (fun x => decide (8192 ≤ x.1)) })
  c1.up R.CE_KERNEL_VER (pgCE e) (ver % 65536)

/-- MGMT sets ENABLE of a page; in SPn ACTIVE follows (R19, R136, R522). -/
def Chip.enablePage (c : Chip) (b : Nat) : Chip :=
  let c1 := c.wr R.PG_ENABLE b 1
  (match pageOf b with
   | some (.sp, n) => if c.on R.PG_ENABLE b then c1 else (c1.seqInc b).portOn n
   | some _ => c1
   | none => c1).reIrq b

/-- Start step 4 (R93, R180, R491, R522): kernels and policy are loaded, every page is enabled. -/
def ceKernelLoad (c : Chip) : Chip :=
  if c.rd R.SYS_STEP pgSYS ≠ 3 ∨ !c.plumb.mgmtUp then c
  else
    let ver := ctVer c.fwu.bootSet 3
    let img := match ctOf c.fwu.bootSet 3 with | some b => Config.plain b | none => []
    let c1 := foldc (upTo 128) (fun e c => c.engineStart img ver e) c
    let c2 := foldc (upTo 16) (fun n c => c.hw (pgCLU n) [(R.CLU_FREQ_MHZ, 0, min 1000 (Config.clusterMHz n)), (R.CLU_ENG_UP, 0, 0xFF)]) c1
    let c3 := foldc enabledPages (fun b c => c.enablePage b) c2
    let c4 := c3.hw pgFWU [(R.FWU_RUN_VER, 2, ver), (R.FWU_RUN_VER, 3, ctVer c.fwu.bootSet 4)]
    (c4.setStep 4).reHealth

/-! Steps 5 to 7. -/

/-- Every port has completed CONFIG or is FAILED (R93, R134). -/
def Chip.discoveryDone (c : Chip) : Bool :=
  (upTo 192).all (fun p => (c.port p).cfgDone || c.link p == lkFailed || c.link p == lkReady)

/-- Start step 5 completes (R93): the Chain is probed for 20 ms. -/
def stageDiscoveryDone (c : Chip) : Chip :=
  if c.rd R.SYS_STEP pgSYS = 4 ∧ c.discoveryDone then
    (((c.setStep 5).disarm (tmKey tmBoot 0)).modTwin (fun t => { t with step6 := true })).arm (tmKey tmProbe 0) (20 * dqMs)
  else c

/-- Time since the end of reset, ms (R96). -/
def Chip.readyMs (c : Chip) : Nat := (c.now - c.plumb.resetAt) / dqMs

/-- The chip regulates, as SOLO or as FOLLOW: step 6 is complete (R93, R96). -/
def Chip.regulates (c : Chip) : Chip :=
  if c.rd R.SYS_STEP pgSYS = 5 then (c.up R.SYS_READY_MS pgSYS c.readyMs).setStep 6 else c

/-- A chip that finds no running twin restores the saved configuration, enters SOLO, commits its laws and advances INCARN (R93,
R386, R485). With SOLO_ALLOWED = 0 it sends no CMD frame and stays in step 6 (R94). -/
def State.startSolo (s : State) : State :=
  let s1 := s.cfgRestore
  let n := s1.chip.mram.incarn + 1
  let c1 := (s1.chip.modMram (fun m => { m with incarn := n })).up R.FAB_INCARN pgFAB n.toNat
  let c2 := (c1.enterSolo).disarm (tmKey tmProbe 0)
  let s2 := ({ s1 with chip := c2 } : State).commitBound
  if s2.chip.on R.SYS_SOLO_ALLOWED pgSYS then { s2 with chip := s2.chip.regulates } else s2

/-- What a HELLO violates (R65, R357). -/
def Chip.helloFaults (c : Chip) (h : Hello) : List Nat :=
  (if h.twinId == c.on R.SYS_TWIN_ID pgSYS then [0x80] else [])
  ++ (if h.straps75.toNat = c.straps75 then [] else [0x81])
  ++ (if h.verMgmt.toNat = c.rd R.FWU_RUN_VER pgFWU 1 ∧ h.verCe.toNat = c.rd R.FWU_RUN_VER pgFWU 2 ∧ h.verNeg.toNat = c.rd R.FWU_RUN_VER pgFWU 3
      then [] else [0x88])

/-- A violation of R65 has ended the attempt to pair: the chip goes on under its own SOLO_ALLOWED. Where it has not yet regulated it
starts as one that finds no twin does, without that strap it stays in its step and sends no CMD frame (R65, R93, R94). DEDUCED (159). -/
def State.unpaired (s : State) : State :=
  let c := s.chip
  if !c.on R.SYS_SOLO_ALLOWED pgSYS then { s with chip := (c.disarm (tmKey tmPhase 0)).disarm (tmKey tmProbe 0) }
  else if c.rd R.SYS_STEP pgSYS = 5 then s.startSolo
  else ({ s with chip := c.enterSolo } : State).commitBound

/-- A HELLO of the twin (R357): both twins check it. A violation of R65 ends joining; unequal versions refuse the join. -/
def chainHello (s : State) (h : Hello) : State :=
  let c := s.chip
  if !c.banksOn then s
  else
    let st := c.rd R.TWIN_STATE pgTWIN
    let c0 := c.hear
    let fs := c0.helloFaults h
    let c1 := foldc fs (fun f c => c.raise f 0) c0
    if st = 2 ∧ c.rd R.TWIN_JOIN_PHASE pgTWIN = 0 ∧ !c.on R.TWIN_JOIN_FAIL pgTWIN then
      if fs.contains 0x80 || fs.contains 0x81 then ({ s with chip := c1 } : State).unpaired
      else if fs = [] then { s with chip := c1.modTwin (fun t => { t with peer := some h }) }
      else { s with chip := c1.joinFailed }
    else if st = 1 ∧ h.joining then
      let c2 := c1.send (.chain (.hello (c1.ownHello false)))
      if fs = [] then
        { s with chip := ((c2.modTwin (fun t => { t with peer := some h, timeGood := none })).up R.TWIN_JOIN_PHASE pgTWIN 1).arm (tmKey tmPhase 0) (50 * dqMs) }
      else { s with chip := c2 }
    else { s with chip := c0 }

/-- The 20 ms probe of Chain ends (R65, R93, R94, R337). -/
def chainProbeEnd (s : State) (probe : Probe) : State :=
  let c := s.chip
  if !(c.due (tmKey tmProbe 0) && c.twin.step6 && c.noRole) then s
  else
    match probe with
    | .noTwin => if c.on R.SYS_SOLO_ALLOWED pgSYS then s.startSolo else { s with chip := c.arm (tmKey tmProbe 0) (20 * dqMs) }
    | .running => { s with chip := (c.disarm (tmKey tmProbe 0)).enterJoining 0 5 }
    | .alsoStep6 id =>
      if id == c.on R.SYS_TWIN_ID pgSYS then ({ s with chip := c.raise 0x80 0 } : State).unpaired
      else if c.on R.SYS_TWIN_ID pgSYS then { s with chip := (c.disarm (tmKey tmProbe 0)).enterJoining 0 5 } else s.startSolo

/-- Start step 7 (R93): MGMT joins the Survey fabric. -/
def fabricJoin (c : Chip) : Chip :=
  if c.rd R.SYS_STEP pgSYS = 6 then
    let c1 := c.setStep 7
    if c1.on R.FAB_EN pgFAB then c1.fabStart else c1
  else c

/-- MGMT started from ACTIVE has not completed step 5 within 1 s (R493). -/
def bootTimeout (s : State) : State :=
  let c := s.chip
  if c.due (tmKey tmBoot 0) && decide (c.rd R.SYS_STEP pgSYS < 5) then
    ({ s with chip := c.modMram (fun m => { m with activeBad := true }) } : State).fullReset R.SYS_BOOT_TIMEOUT false
  else s

/-! Meanings of the rows. -/

/-- BOOT_IMAGE_SELECT (R491): Plumb ROM copies a pending STAGED slot, selects ACTIVE or GOLDEN, and decrypts and starts MGMT. -/
def execBootImageSelect (flash : FlashInfo) (recovery : Containers) (s : State) : Result :=
  .next (s.onChip (fun c => bootImageSelect c flash recovery))

/-- CE_KERNEL_LOAD (R180): At start step 4 MGMT loads every engine's kernel bank 0 and the NEG policy. -/
def execCeKernelLoad (s : State) : Result :=
  .next (s.onChip (fun c => ceKernelLoad c))

/-- STAGE_DISCOVERY_DONE (R93): Start step 5 completes when every port has completed CONFIG or is FAILED. -/
def execStageDiscoveryDone (s : State) : Result :=
  .next (s.onChip (fun c => stageDiscoveryDone c))

/-- CHAIN_PROBE_END (R93): After the 20 ms Chain probe the twin enters SOLO or JOINING. -/
def execChainProbeEnd (probe : Probe) (s : State) : Result :=
  .next (chainProbeEnd s probe)

/-- CHAIN_HELLO (R357): A HELLO exchange over Chain starts or continues joining. -/
def execChainHello (hello : Hello) (s : State) : Result :=
  .next (chainHello s hello)

/-- FABRIC_JOIN (R93): At start step 7 MGMT joins the Survey fabric. -/
def execFabricJoin (s : State) : Result :=
  .next (s.onChip (fun c => fabricJoin c))

/-- BOOT_TIMEOUT (R493): MGMT from ACTIVE not completing step 5 within 1 s sets ACTIVE_BAD and resets the chip. -/
def execBootTimeout (s : State) : Result :=
  .next (bootTimeout s)

end Sys2Proof.Machine
end

