-- ==== Sys2Proof/Machine/Images.lean ====
section
/-! DEFINITION. Images.lean: the mailbox, staging, activation, kernel swap and anti-rollback (R180, R181, R470, R471, R485, R494 to R501). -/

namespace Sys2Proof.Machine

/-! The mailbox (R470, R471, R494). -/

/-- The requests that have a meaning. -/
def mbKnown (cmd : Nat) : Bool := (0x101 ≤ cmd && cmd ≤ 0x108) || cmd == 0x201

/-- The payload has the length its request gives it (R485, R494). -/
def mbLenOk (cmd : Nat) (b : Bytes) : Bool :=
  if cmd = 0x102 then decide (260 ≤ b.length) && decide (b.length ≤ 16132) && (b.length - 4) % 256 == 0
  else if cmd = 0x104 ∨ cmd = 0x107 then b.length == 1
  else b.length == 0

/-- A write to MB_DOORBELL posts a request, while none is in hand (R470). -/
def mbDoorbell (c : Chip) (value cmd : Nat) (payload : Bytes) : Chip :=
  if bitOf value 0 && c.host.posted.isNone && c.on R.HOST_LINK_UP pgHOST && c.plumb.mgmtUp then
    c.modHost (fun h => { h with posted := some (cmd, payload), served := false, awaitTwin := false, mbResult := 0 })
  else c

/-- The payload of a posted request that this twin is to serve now (R471, R494). -/
def Chip.mbRequest (c : Chip) (cmd : Nat) : Option Bytes :=
  match c.host.posted with
  | some (k, b) => if k = cmd ∧ mbLenOk k b ∧ !c.host.served ∧ c.services ∧ c.leads then some b else none
  | none => none

/-- The request has been acted on, with a result (R494). -/
def Chip.mbServed (c : Chip) (result : Nat) : Chip := c.modHost (fun h => { h with served := true, mbResult := result })

/-- The code a request completes with at once: NOT_LEAD, BAD_CMD or BAD_LEN (R471). -/
def Chip.mbRefuse (c : Chip) (cmd : Nat) (b : Bytes) : Option Nat :=
  if !c.leads then some 2 else if !mbKnown cmd then some 1 else if !mbLenOk cmd b then some 3 else none

/-- Commands that both twins must be able to carry out before either does: ACTIVATE, SWAP_KERNELS and RAISE_SVN (R495, R500, R501). -/
def twinFirst (cmd : Nat) : Bool := cmd == 0x104 || cmd == 0x105 || cmd == 0x107

/-- A request completes once both twins have completed it: DONE, the response, its message (R468, R470, R471, R494). DESIGN CHOICE (183):
a command that waits for a twin that is then lost ends with ABORTED. -/
def mailboxCompletion (c : Chip) : Chip :=
  match c.host.posted with
  | none => c
  | some (k, b) =>
    if !c.services then c
    else
      let fin (code : Nat) (rsp : Bytes) : Chip :=
        (c.modHost (fun h => { h with posted := none, served := false, awaitTwin := false, mbDone := true, mbCode := code, rsp := rsp })).sendVec 54
      if c.host.served then
        (if c.host.awaitTwin && c.paired then c
         else fin 0 (leBytes (if c.host.awaitTwin && twinFirst k then 0xC else c.host.mbResult) 2))
      else match c.mbRefuse k b with
        | some code => fin code []
        | none => c

/-! Staging (R494). -/

/-- Another update command is in progress (R494). -/
def Chip.fwuBusy (c : Chip) : Bool := c.fwu.activating || c.fwu.swapping || c.fwu.copying != []

/-- Bytes are programmed into STAGED. -/
def Chip.program (c : Chip) (o : Nat) (bs : Bytes) : Chip :=
  let put (p : SMap Byte × Nat) (b : Byte) : SMap Byte × Nat := (mapSet p.1 p.2 b, p.2 + 1)
  c.modFlash (fun f => { f with image := (bs.foldl put (f.image, o)).1 })

/-- STAGE_BEGIN: STAGED is erased (R494). -/
def Chip.stageBegin (c : Chip) : Chip × Nat :=
  let c1 := (c.modFlash (fun f => { f with image := [], staged := [], pending := false, rejected := false })).modFwu (fun f => { f with staging := true })
  ((c1.fwuShow).fwuOp 1, 0)

/-- STAGE_DATA: data is programmed at its offset (R494). -/
def Chip.stageData (c : Chip) (b : Bytes) : Chip × Nat :=
  let o := leAt b 0 4
  let d := b.drop 4
  if o + d.length ≤ 32 * 2 ^ 20 then (c.program o d, 0) else (c, 1)

/-- STAGE_END: every container of STAGED is verified; STAGED is then pending (R489, R494). -/
def Chip.stageEnd (c : Chip) : Chip × Nat :=
  let bs := c.stagedParse 0 5
  let (c1, r) := c.ctVerifyAll bs none
  let code := match r with | some k => k | none => if ctFits bs then 0 else 1
  let c2 := (c1.modFwu (fun f => { f with staging := false })).modFlash (fun f =>
    if code = 0 then { f with staged := bs, pending := true, rejected := false } else { f with staged := [], pending := false })
  ((c2.fwuShow).fwuEnd code, code)

/-- PROMOTE_GOLDEN: ACTIVE is copied over GOLDEN once it verifies (R494). -/
def Chip.promote (c : Chip) : Chip × Nat :=
  let (c1, r) := c.ctVerifyAll c.flash.active none
  let code := match r with | some k => k | none => if ctComplete c.flash.active then 0 else 1
  let c2 := if code = 0 then (c1.modFlash (fun f => { f with golden := f.active })).fwuShow else c1
  (c2.fwuEnd code, code)

/-- RAISE_SVN: fuses are blown up to the requested value (R501). -/
def Chip.raiseSvn (c : Chip) (b : Bytes) : Chip × Nat :=
  let v := leAt b 0 1
  if v < c.mram.svn ∨ 64 < v ∨ (c.flash.active ++ c.flash.golden).any (fun b => decide (ctSvn b < v)) then (c.fwuEnd 3, 3)
  else (((c.modMram (fun m => { m with svn := v })).up R.SEC_SVN_FUSED pgSEC v).fwuEnd 0, 0)

/-- FW_ABORT: a staging or a swap in progress stops (R494, R500). -/
def Chip.fwAbort (c : Chip) : Chip × Nat :=
  if c.fwu.swapping then (c.swapAbort 0xC, 0)
  else if c.fwu.staging then ((c.modFwu (fun f => { f with staging := false })).fwuEnd 0xC, 0)
  else (c, 0)

/-! Activation (R495 to R499). -/

/-- The types an ACTIVATE selects: 2 is MGMT, 4 is NEG_POLICY. -/
def selTypes (sel : Nat) : List Nat := (if bitOf sel 0 then [2] else []) ++ (if bitOf sel 1 then [4] else [])

/-- STAGED is pending and holds the given types (R495). -/
def Chip.stagedHas (c : Chip) (ts : List Nat) : Bool := c.flash.pending && !c.flash.rejected && ts.all (fun t => (ctOf c.flash.staged t).isSome)

/-- No recovery window, and no debug hold of either twin (R495). -/
def Chip.windowShut (c : Chip) : Bool :=
  !c.on R.TWIN_RECOVERING pgTWIN && !c.on R.TWIN_DEBUG_HOLD pgTWIN && !c.on R.TWIN_PEER_DEBUG_HOLD pgTWIN

/-- Why an ACTIVATE is refused (R495). -/
def Chip.activateRefuse (c : Chip) (b0 : Nat) : Option Nat :=
  let ts := selTypes b0
  if !c.stagedHas ts then some 0xD
  else if (ts.filterMap (ctOf c.flash.staged)).any (fun b => decide (c.fwu.mirrorFmt < ctFmtMin b)) then some 1
  else if !c.windowShut then some 7
  else if c.solo && bitOf b0 1 && !bitOf b0 7 then some 8
  else none

/-- An activation begins: the FOLLOW takes the first turn (1), the LEAD waits (0); in SOLO the one twin has the turn (R497, R499). -/
def Chip.activateBegin (c : Chip) (sel turn : Nat) : Chip :=
  c.modFwu (fun f => { f with activating := decide (selTypes sel ≠ []), sel := sel % 4, turn := turn })

/-- The services of this twin pause (R496, R497). -/
def activationPause (c : Chip) : Chip :=
  let f := c.fwu
  if f.activating && !f.paused && !f.settling && !f.reverting && (f.turn == 1 || f.turn == 3 || (f.turn == 0 && c.solo)) then
    let c1 := c.modFwu (fun f => { f with paused := true, pauseAt := c.now, turn := if f.turn = 0 then 1 else f.turn })
    ((c1.arm (tmKey tmResume 0) (80 * dqMs)).fwuOp 3).pulse pgFWU 2
  else c

/-- The versions of the images that run after a pause: those staged, or after a failed settle those of ACTIVE (R498, R504). -/
def Chip.runVersions (c : Chip) (from' : List Bytes) : Chip :=
  let ts := selTypes c.fwu.sel
  let c1 := c.hw pgFWU (ts.map (fun t => (R.FWU_RUN_VER, t - 1, ctVer from' t)))
  match (if ts.contains 2 then ctOf from' 2 else none) with
  | some b => c1.modFwu (fun f => { f with mirrorFmt := ctFmt b })
  | none => c1

/-- The twin is told how this twin's turn of an activation ended. -/
def Chip.tellTurn (c : Chip) (ok : Bool) : Chip := if c.paired then c.send (.chain (.mirror (.image 0x104 (if ok then [] else [1, 1])))) else c

/-- A halt asked for during the pause takes effect (R513). -/
def Chip.lateHalt (c : Chip) : Chip :=
  if c.plumb.haltReq then
    ((c.modPlumb (fun p => { p with haltReq := false, mgmtHalt := true })).up R.TWIN_DEBUG_HOLD pgTWIN 1).send (.chain .debugHold)
  else c

/-- The pause ends: services resume on the new images and the settle begins, or on those of ACTIVE and the activation has failed
(R496, R498). -/
def pauseEnd (c : Chip) : Chip :=
  let f := c.fwu
  if !f.paused then c
  else
    let ms := (c.now - f.pauseAt) / dqMs
    let c0 := if c.host.iic1Wait then (c.modHost (fun h => { h with iic1Wait := false })).iic1Send else c
    let c1 := (c0.disarm (tmKey tmResume 0)).up R.FWU_PAUSE_MS pgFWU ms
    if f.reverting then
      let c2 := (c1.runVersions c.flash.active).modFwu (fun f => { f with paused := false, reverting := false, activating := false, settling := false })
      let c3 := (c2.modFlash (fun f => { f with rejected := true })).fwuShow
      ((c3.fwuEnd 0xB).tellTurn false).lateHalt
    else
      let c2 := (c1.runVersions c.flash.staged).modFwu (fun f => { f with paused := false, settling := true })
      ((c2.arm (tmKey tmSettle 0) dqS).fwuOp 4).lateHalt

/-- Management services have not resumed 80 ms after the pause began (R498): the settle fails, and the twin pauses once more. -/
def resumeTimeout (c : Chip) : Chip :=
  if c.due (tmKey tmResume 0) && c.fwu.paused && !c.fwu.reverting then
    let c1 := c.modFwu (fun f => { f with reverting := true, pauseAt := c.now })
    ((c1.arm (tmKey tmResume 0) (80 * dqMs)).fwuOp 7).pulse pgFWU 2
  else c

/-- The settle has lasted 1 s (R497, R498): the activated containers are copied into ACTIVE, and the other twin has its turn. -/
def settleEnd (c : Chip) : Chip :=
  if !(c.due (tmKey tmSettle 0) && c.fwu.settling) then c
  else
    let last := c.fwu.turn == 3 || !c.paired
    let c1 := (c.disarm (tmKey tmSettle 0)).modFwu (fun f =>
      { f with settling := false, copying := selTypes f.sel, activating := !last, turn := if last then 0 else 2 })
    let c2 := ((c1.reBusy).fwuOp 5).tellTurn true
    if last then (c2.up R.FWU_RESULT pgFWU 0).pulse pgFWU 0 else c2

/-- The copy into ACTIVE is complete (R493, R498, R500). -/
def activeCopyDone (c : Chip) : Chip :=
  let ts := c.fwu.copying
  if ts = [] then c
  else
    let new := c.flash.staged.filter (fun b => ts.contains (ctType b))
    let c1 := c.modFlash (fun f => { f with active := ctCopy f.active new, pending := false })
    let c2 := (c1.modFwu (fun f => { f with copying := [] })).modMram (fun m => { m with activeBad := false })
    let c3 := (c2.fwuShow).reBusy
    if ts = [3] then c3.fwuEnd 0 else c3.fwuOp 0

/-- The twin reports the end of its turn (R497): the LEAD then proposes the swap of roles; a twin that has settled is done; a
failed settle ends the activation. -/
def Chip.turnOver (c : Chip) (ok : Bool) : Chip :=
  if !c.fwu.activating then c
  else if !ok then ((c.modFwu (fun f => { f with activating := false, turn := 0 })).up R.FWU_RESULT pgFWU 0xB).pulse pgFWU 1
  else if c.fwu.turn = 0 then (if c.swapOk true then c.propose .swap else c.bump R.TWIN_CNT pgTWIN 5)
  else if c.fwu.turn = 2 then ((c.modFwu (fun f => { f with activating := false, turn := 0 })).up R.FWU_RESULT pgFWU 0).pulse pgFWU 0
  else c

/-! Kernel swap (R180, R181, R500). -/

/-- The slots of an engine that hold laws, in ascending order. -/
def Chip.lawSlots (c : Chip) (e : Nat) : List Nat :=
  (upTo 64).filter (fun s => c.rd R.CE_CLASS (pgCE e) s != 0 && decide (c.rd R.CE_LAW_REF (pgCE e) s < 0x4000))

/-- The law in a slot runs on the new kernel. -/
def Chip.onNew (c : Chip) (e s : Nat) : Bool :=
  (c.rd R.CE_ACTIVE_BANK (pgCE e) != c.fwu.swapFrom) != (c.eng e).swapped.contains s

/-- Every law with its engine and slot, in ascending order. -/
def Chip.lawPlaces (c : Chip) : List (Nat × Nat) := (upTo 128).flatMap (fun e => (c.lawSlots e).map (fun s => (e, s)))

/-- Import and evaluation of some class-A law together exceed the limit of its engine's tick (R173, R181). -/
def Chip.swapTooLong (c : Chip) (ver : Nat) : Bool :=
  (upTo 128).any (fun e =>
    let on := (c.placesOn e).filter (fun x => x.cls == 1)
    on.any (fun x => decide (x.idx < 0x4000) && tickOver (c.tickLimit e) (x.cost + Config.importCost ver) [x] (on.filter (fun y => y.slot != x.slot))))

/-- Why SWAP_KERNELS is refused (R500). -/
def Chip.swapRefuse (c : Chip) : Option Nat :=
  if !c.stagedHas [3] then some 0xD
  else if !c.windowShut then some 7
  else if c.swapTooLong (ctVer c.flash.staged 3) then some 0xA
  else none

/-- An engine's active bank becomes `k` (R181). -/
def Chip.takeBank (c : Chip) (e k : Nat) : Chip :=
  let g := c.eng e
  let ver := (if k = 0 then g.bank0 else g.bank1).toNat % 65536
  (c.modEng e (fun g => { g with swapped := [] })).hw (pgCE e) [(R.CE_ACTIVE_BANK, 0, k), (R.CE_KERNEL_VER, 0, ver)]

/-- LAWS_SWAPPED follows the laws on the new kernel. -/
def Chip.showSwapped (c : Chip) : Chip :=
  let n := (c.lawPlaces.filter (fun x => c.onNew x.1 x.2)).length
  if c.rd R.FWU_LAWS_SWAPPED pgFWU = n then c else c.up R.FWU_LAWS_SWAPPED pgFWU n

/-- SWAP_BUSY of every engine. -/
def Chip.swapBusy (c : Chip) (on : Bool) : Chip :=
  foldc (upTo 128) (fun e c => if (c.eng e).up && c.on R.CE_SWAP_BUSY (pgCE e) != on then c.up R.CE_SWAP_BUSY (pgCE e) (b2n on) else c) c

/-- Every law has swapped: the remaining engines take the new bank, and CE_KERNELS is copied into ACTIVE (R181, R500). -/
def Chip.swapFinish (c : Chip) : Chip :=
  let nb := 1 - c.fwu.swapFrom
  let es := (upTo 128).filter (fun e => (c.eng e).up && c.rd R.CE_ACTIVE_BANK (pgCE e) == c.fwu.swapFrom)
  let c1 := foldc es (fun e c => (c.takeBank e nb).pulse (pgCE e) 6) c
  let c2 := (c1.swapBusy false).modFwu (fun f => { f with swapping := false, swapTick := none, copying := [3] })
  ((c2.up R.FWU_RUN_VER pgFWU (ctVer c.flash.staged 3) 2).reBusy).fwuOp 5

/-- Every law is back on the old kernel: the swap has failed (R500). -/
def Chip.swapUndone (c : Chip) : Chip :=
  let c1 := (c.swapBusy false).modFwu (fun f => { f with swapping := false, swapBack := false, swapTick := none })
  (c1.fwuOp 0).pulse pgFWU 1

/-- The swap is judged after a law has moved. -/
def Chip.swapJudge (c : Chip) : Chip :=
  let c1 := c.showSwapped
  if c1.fwu.swapBack then (if c1.lawPlaces.all (fun x => !c1.onNew x.1 x.2) then c1.swapUndone else c1)
  else if c1.lawPlaces.all (fun x => c1.onNew x.1 x.2) && c1.fwu.swapTick.isNone then c1.swapFinish
  else c1

/-- SWAP_KERNELS: the staged kernels go into every shadow bank and the laws swap one by one (R180, R500). -/
def Chip.swapBegin (c : Chip) : Chip :=
  let ver := BitVec.ofNat 32 (ctVer c.flash.staged 3)
  let k := c.rd R.CE_ACTIVE_BANK (pgCE 0)
  let img := match ctOf c.flash.staged 3 with | some b => Config.plain b | none => []
  let load (e : Nat) (c : Chip) : Chip := c.modEng e (fun g =>
    if k = 0 then { g with bank1 := ver, img1 := bankImage img, swapped := [], flips := g.flips.filter (fun x => decide (x.1 < 8192 ∨ 16384 ≤ x.1)) }
    else { g with bank0 := ver, img0 := bankImage img, swapped := [], flips := g.flips.filter (fun x => decide (8192 ≤ x.1)) })
  let c1 := foldc ((upTo 128).filter (fun e => (c.eng e).up)) load c
  let c2 := (c1.modFwu (fun f => { f with swapping := true, swapBack := false, swapFrom := k, swapTick := none })).fwuOp 6
  (c2.swapBusy true).swapJudge

/-- The present tick is an update boundary of a slot (R170, R193). -/
def Chip.slotBoundary (c : Chip) (e s : Nat) : Bool :=
  let per := c.rd R.CE_PERIOD (pgCE e) s
  per == 0 || c.tick % per == c.rd R.CE_OFFSET (pgCE e) s % per

/-- The digest's entry in which the law of a slot first shows: a class-B law's output, else its port's command; a class-A law without a
port has none of its own (R343). -/
def Chip.slotKey (c : Chip) (e s : Nat) : Option Nat :=
  let i := c.slotRef e s
  if c.slotClass e s = 2 then some (lawKey i) else if dHasPort (c.law i).desc then some (dPort (c.law i).desc) else none

/-- A law moves to the other bank (R181). A kernel of this model has one law state, which the state-import entry takes as it is, DESIGN
CHOICE (173). -/
def Chip.moveLaw (c : Chip) (e s : Nat) : Chip :=
  let f := c.fwu
  let toggle (xs : List Nat) : List Nat := if xs.contains s then xs.filter (· != s) else s :: xs
  let c1 := (c.modEng e (fun g => { g with swapped := toggle g.swapped })).modFwu (fun q =>
    { q with swapTick := if c.paired && !f.swapBack && (c.slotKey e s).isSome then some (c.tick + 1) else none, swapKey := (c.slotKey e s).getD 0 })
  let away := (c1.lawSlots e).all (fun s => (c1.eng e).swapped.contains s)
  let c2 := if away then (c1.takeBank e (1 - c1.rd R.CE_ACTIVE_BANK (pgCE e))).pulse (pgCE e) 6 else c1
  c2.swapJudge

/-- The law that moves next, in ascending engine and slot order: to the new kernel, or back (R500). -/
def Chip.nextToMove (c : Chip) : Option (Nat × Nat) := c.lawPlaces.find? (fun x => c.onNew x.1 x.2 == c.fwu.swapBack)

/-- A law moves at its agreed tick, in both twins (R500). A tick that a second proposal has taken off the law's update boundary moves nothing,
and the law is proposed anew (R181, R340). -/
def Chip.swapLawAt (c : Chip) (e s : Nat) (back : Bool) : Chip :=
  if c.fwu.swapping && c.fwu.swapBack == back && c.nextToMove == some (e, s) && c.slotBoundary e s then c.moveLaw e s else c

/-- The first update boundary of a slot from tick `t` on (R170, R193). -/
def Chip.boundaryFrom (c : Chip) (e s t : Nat) : Nat :=
  let per := c.rd R.CE_PERIOD (pgCE e) s
  if per = 0 then t else t + (c.rd R.CE_OFFSET (pgCE e) s % per + per - t % per) % per

/-- One law moves to the other bank at its update boundary (R181, R500): the next in order, once the first command of the one before has
passed the comparison of digests. In a pair the LEAD proposes the boundary as an agreed tick, at which the law moves in both twins. -/
def kernelSwapLaw (c : Chip) (e : Engine) (s : TSlot) : Chip :=
  let f := c.fwu
  if !f.swapping || c.rd R.FWU_OP pgFWU != 6 then c
  else if f.swapTick.isSome && !f.swapBack then c
  else match c.nextToMove with
    | none => c.swapJudge
    | some x =>
      if x != (e.val, s.val) then c
      else if c.paired then
        (if c.twin.agree.any (fun a => a.item == .swapLaw e s f.swapBack) then c
         else c.proposeAt (c.boundaryFrom e.val s.val (c.tick + 8)) (.swapLaw e s f.swapBack))
      else if c.slotBoundary e.val s.val then c.moveLaw e.val s.val
      else c

/-! One update command in one twin, as the mailbox or the twin brings it (R494). -/

/-- The effect of a staging command and its result; a quiesced FWU page takes no new one (R15). -/
def Chip.imageCmd (c : Chip) (cmd : Nat) (b : Bytes) : Chip × Nat :=
  if cmd = 0x108 then c.fwAbort
  else if c.fwuBusy || !c.takesWork pgFWU then (c, 6)
  else if cmd = 0x101 then c.stageBegin
  else if cmd = 0x102 then c.stageData b
  else if cmd = 0x103 then c.stageEnd
  else if cmd = 0x104 then
    (match c.activateRefuse (leAt b 0 1) with
     | some k => (c, k)
     | none => (c.activateBegin (leAt b 0 1) (if c.paired && c.leads then 0 else 1), 0))
  else if cmd = 0x105 then (match c.swapRefuse with | some k => (c, k) | none => (c.swapBegin, 0))
  else if cmd = 0x106 then c.promote
  else if cmd = 0x107 then c.raiseSvn b
  else (c, 1)

/-- The result of a command in this twin (R504). -/
def Chip.putResultCode (c : Chip) (r : Nat) : Chip := if c.rd R.FWU_RESULT pgFWU = r then c else c.up R.FWU_RESULT pgFWU r

/-- A command is forwarded to the twin, whose completion is awaited (R494). -/
def Chip.toTwin (c : Chip) (cmd : Nat) (b : Bytes) : Chip :=
  if c.paired then (c.send (.chain (.mirror (.image cmd b)))).modHost (fun h => { h with awaitTwin := true }) else c

/-- The LEAD serves an update request: it acts and forwards it to its twin (R494). A command that either twin may refuse is first tried
here without effect, then in the twin, and is carried out here once the twin has done so (R495, R500, R501). -/
def imageServe (c : Chip) (cmd : Nat) : Chip :=
  match c.mbRequest cmd with
  | none => c
  | some b =>
    let (c1, r) := c.imageCmd cmd b
    if c.paired && twinFirst cmd && r == 0 then (c.toTwin cmd b).mbServed 0
    else ((if r = 6 ∨ twinFirst cmd then c1 else c1.toTwin cmd b).putResultCode r).mbServed r

/-- The twin has completed a forwarded command with a result (R494). -/
def Chip.twinDone (c : Chip) (cmd r : Nat) : Chip :=
  match (if c.host.awaitTwin then c.host.posted else none) with
  | some (k, b) =>
    if k ≠ cmd then c
    else
      let c1 := c.modHost (fun h => { h with awaitTwin := false })
      if r ≠ 0 then (c1.putResultCode r).modHost (fun h => { h with mbResult := r })
      else if twinFirst cmd then
        let (c2, r2) := c1.imageCmd cmd b
        (c2.putResultCode r2).modHost (fun h => { h with mbResult := r2 })
      else c1
  | none => c

/-- CFG_SAVE (R485): the running configuration is written in both twins. -/
def cfgSaveServe (s : State) : State :=
  let c := s.chip
  match c.mbRequest 0x201 with
  | none => s
  | some _ =>
    if c.on R.XSPI_BUSY pgXSPI ∨ c.fwuBusy then { s with chip := c.mbServed 6 }
    else
      ({ s with chip := (c.toTwin 0x201 []).mbServed 0 } : State).cfgSave

/-- What this twin tells the LEAD of a forwarded command. -/
def Chip.tellDone (c : Chip) (cmd r : Nat) : Chip := c.send (.chain (.mirror (.image (0x8000 + cmd) [BitVec.ofNat 8 r])))

/-- A command of the LEAD arrives over Chain, or the twin's result of one (R485, R494, R497). -/
def State.imageMirror (s : State) (cmd : Nat) (b : Bytes) : State :=
  let c := s.chip
  if 0x8000 ≤ cmd then { s with chip := c.twinDone (cmd - 0x8000) (leAt b 0 1) }
  else if cmd = 0x201 then (let s1 := s.cfgSave; { s1 with chip := s1.chip.tellDone 0x201 0 })
  else if cmd = 0x104 ∧ b = [] then { s with chip := c.turnOver true }
  else if cmd = 0x104 ∧ b.length = 2 then { s with chip := c.turnOver false }
  else let (c1, r) := c.imageCmd cmd b; { s with chip := c1.tellDone cmd r }

/-! Meanings of the rows. -/

/-- KERNEL_SWAP_LAW (R181): At its update boundary a law moves to the shadow kernel bank through the state-import entry. -/
def execKernelSwapLaw (engine : Engine) (slot : TSlot) (s : State) : Result :=
  .next (s.onChip (fun c => kernelSwapLaw c engine slot))

/-- MB_DOORBELL (R470): A write to MB_DOORBELL posts a mailbox request, answered NOT_LEAD by a FOLLOW. -/
def execMbDoorbell (value : Word) (cmd : Nat) (payload : Bytes) (s : State) : Result :=
  .next (s.onChip (fun c => mbDoorbell c value.toNat cmd payload))

/-- STAGE_BEGIN (R494): Mailbox STAGE_BEGIN erases STAGED in both twins. -/
def execStageBegin (s : State) : Result :=
  .next (s.onChip (fun c => imageServe c 0x101))

/-- STAGE_DATA (R494): Mailbox STAGE_DATA programs data into STAGED in both twins. -/
def execStageData (s : State) : Result :=
  .next (s.onChip (fun c => imageServe c 0x102))

/-- STAGE_END (R494): Mailbox STAGE_END verifies STAGED and marks it pending. -/
def execStageEnd (s : State) : Result :=
  .next (s.onChip (fun c => imageServe c 0x103))

/-- ACTIVATE (R495): Mailbox ACTIVATE starts replacement of MGMT or NEG_POLICY, or is refused. -/
def execActivate (s : State) : Result :=
  .next (s.onChip (fun c => imageServe c 0x104))

/-- SWAP_KERNELS (R500): Mailbox SWAP_KERNELS loads staged kernels and swaps the laws one by one. -/
def execSwapKernels (s : State) : Result :=
  .next (s.onChip (fun c => imageServe c 0x105))

/-- PROMOTE_GOLDEN (R494): Mailbox PROMOTE_GOLDEN copies ACTIVE over GOLDEN in both twins. -/
def execPromoteGolden (s : State) : Result :=
  .next (s.onChip (fun c => imageServe c 0x106))

/-- RAISE_SVN (R501): Mailbox RAISE_SVN blows anti-rollback fuses, or is refused. -/
def execRaiseSvn (s : State) : Result :=
  .next (s.onChip (fun c => imageServe c 0x107))

/-- FW_ABORT (R500): Mailbox FW_ABORT stops a staging or kernel swap in progress. -/
def execFwAbort (s : State) : Result :=
  .next (s.onChip (fun c => imageServe c 0x108))

/-- CFG_SAVE (R485): Mailbox CFG_SAVE writes the running configuration into the older store copy in both twins. -/
def execCfgSave (s : State) : Result :=
  .next (cfgSaveServe s)

/-- ACTIVATION_PAUSE (R496): A twin pauses MGMT, decrypts the selected images and restarts at warm entry. -/
def execActivationPause (s : State) : Result :=
  .next (s.onChip (fun c => activationPause c))

/-- PAUSE_END (R496): Management services resume and settling begins. -/
def execPauseEnd (s : State) : Result :=
  .next (s.onChip (fun c => pauseEnd c))

/-- SETTLE_END (R498): After 1 s of settling the twin keeps its images and copies them to ACTIVE. -/
def execSettleEnd (s : State) : Result :=
  .next (s.onChip (fun c => settleEnd c))

/-- MAILBOX_COMPLETION (R494): A mailbox command finishes in both twins, writes its response and sets MB_STATUS.DONE on vector 54.
-/
def execMailboxCompletion (s : State) : Result :=
  .next (s.onChip (fun c => mailboxCompletion c))

/-- ACTIVE_COPY_DONE (R498): The background copy of activated or swapped containers into ACTIVE finishes and PENDING clears, also
clearing ACTIVE_BAD. -/
def execActiveCopyDone (s : State) : Result :=
  .next (s.onChip (fun c => activeCopyDone c))

/-- RESUME_TIMEOUT (R498): Management services not resumed within 80 ms of a pause fail the settle and revert to the ACTIVE images.
-/
def execResumeTimeout (s : State) : Result :=
  .next (s.onChip (fun c => resumeTimeout c))

end Sys2Proof.Machine
end

