-- ==== Sys2Proof/Machine/HostIo.lean ====
section
/-! DEFINITION. HostIo.lean: the PCIe endpoint, its messages and DMA, the IIC1 controller, the counter snapshot and the debug port
(R465 to R473, R480, R509 to R513). -/

namespace Sys2Proof.Machine

/-- The MGMT island runs and MGMT has been started: the PCIe endpoint and IIC0 operate (R466). -/
def Chip.hostUp (c : Chip) : Bool := c.plumb.mgmtUp && c.banksOn

/-! DMA (R472, R473). Channel states: 0 IDLE, 1 BUSY, 2 DONE, 3 ERROR. Errors: 1 RANGE, 2 HOST, 3 RING, 4 FLASH. -/

/-- Every transfer in flight ends with error HOST (R466). -/
def Chip.dmaHostGone (c : Chip) : Chip :=
  foldc (upTo 4) (fun k c => if c.rd R.HOST_STATE pgHOST k = 1 then c.dmaCut k 2 else c) c

/-- The source of a channel lies in its range, in units of 64 bytes, of at most 16 MiB (R472). An archive offset is a flash offset, as
ARCH_HEAD and ARCH_TAIL are (R527). DEDUCED (230). -/
def Chip.dmaRange (c : Chip) (k : Nat) : Bool :=
  let src := c.rd R.HOST_SRC pgHOST k
  let len := c.rd R.HOST_LEN pgHOST k
  src % 64 == 0 && len % 64 == 0 && decide (len ≤ 2 ^ 24)
  && (if c.on R.HOST_KIND pgHOST k then decide (archBase ≤ src) && decide (src + len ≤ archBase + c.archLen) else decide (0x800000 ≤ src) && decide (src + len ≤ 0x1800000))

/-- START of a channel (R472, R473): refused while BUSY; nothing to do for LEN 0; RANGE; HOST where nothing can be written. -/
def Chip.dmaStart (c : Chip) (k : Nat) : Chip :=
  if c.rd R.HOST_STATE pgHOST k = 1 then c.cfgReject pgHOST 9
  else if c.rd R.HOST_LEN pgHOST k = 0 then c.dmaEnd k 0 0
  else if !c.dmaRange k then c.dmaEnd k 1 0
  else if !c.hostCan then c.dmaEnd k 2 0
  else (c.hw pgHOST [(R.HOST_STATE, k, 1), (R.HOST_ERR, k, 0), (R.HOST_DONE_BYTES, k, 0)]).reBusy

/-- The byte of the capture archive at a flash offset: of the entry that covers it, else erased flash (R484). -/
def Chip.archByte (c : Chip) (o : Nat) : Byte :=
  match c.flash.archive.find? (fun e => decide (e.1 ≤ o) && decide (o < e.1 + e.2.2.length)) with
  | some e => (e.2.2[o - e.1]?).getD 0xFF
  | none => 0xFF

/-- The byte that a DMA channel reads from a BAR0 address: the Field Book window or the capture window (R452, R463). -/
def State.dmaByte (s : State) (a : Nat) : Byte :=
  if a < 0x1000000 then
    let o := a - 0x800000
    BitVec.ofNat 8 ((((s.chip.fbSlot (o / 64))[o % 64 / 4]?).getD 0).toNat / 256 ^ (o % 4))
  else memGet s.cap (a - 0x1000000)

/-- A channel finishes, or ends with an error (R472, R473): `err` 0, or 2 HOST, 3 RING, 4 FLASH. -/
def dmaComplete (s : State) (k : Chan) (err : Nat) : State :=
  let c := s.chip
  if c.rd R.HOST_STATE pgHOST k.val ≠ 1 ∨ err = 1 ∨ 4 < err then s
  else if err ≠ 0 then { s with chip := c.dmaCut k.val err }
  else
    let src := c.rd R.HOST_SRC pgHOST k.val
    let len := c.rd R.HOST_LEN pgHOST k.val
    let dst := c.rd R.HOST_DST_LO pgHOST k.val + 2 ^ 32 * c.rd R.HOST_DST_HI pgHOST k.val
    let arch := c.on R.HOST_KIND pgHOST k.val
    let data := (upTo len).map (fun i => if arch then c.archByte (src + i) else s.dmaByte (src + i))
    { s with chip := (c.send (.dma k dst data)).dmaEnd k.val 0 len }

/-! Link and configuration (R466, R469). -/

/-- A vector that is pending and may send does so (R469). -/
def Chip.msixFlush (c : Chip) (v : Nat) : Chip :=
  if h : v < 64 then
    if c.host.pba.getLsbD v && !c.host.masked.getLsbD v && c.hostCan then
      (c.modHost (fun q => { q with pba := q.pba &&& ~~~(1#64 <<< v) })).send (.msix ⟨v, h⟩)
    else c
  else c

/-- The PCIe link goes down: its status, and the transfers in flight (R466). -/
def Chip.pcieDown (c : Chip) : Chip :=
  let c1 := if c.on R.HOST_LINK_UP pgHOST then c.hw pgHOST [(R.HOST_LINK_UP, 0, 0), (R.HOST_WIDTH, 0, 0), (R.HOST_SPEED, 0, 0)] else c
  c1.dmaHostGone

/-- PCIE_PERST_N goes low (R466): the link is down, the configuration space and the MSI-X table return to their defaults. -/
def pciePerst (c : Chip) : Chip :=
  let c1 := c.pcieDown
  let c2 := if c1.on R.HOST_BME pgHOST || c1.on R.HOST_D3 pgHOST then c1.hw pgHOST [(R.HOST_BME, 0, 0), (R.HOST_D3, 0, 0)] else c1
  c2.modHost (fun q => { q with perstLow := true, masked := 0xFFFFFFFFFFFFFFFF, pba := 0 })

/-- The link trains, PCIE_PERST_N being high (R465, R466): Gen1 to Gen4, 1, 2 or 4 lanes. -/
def pcieLinkUp (c : Chip) (width speed : Nat) : Chip :=
  if c.hostUp && (width == 1 || width == 2 || width == 4) && decide (1 ≤ speed) && decide (speed ≤ 4) then
    let c1 := (c.modHost (fun q => { q with perstLow := false })).hw pgHOST
      [(R.HOST_LINK_UP, 0, 1), (R.HOST_WIDTH, 0, width), (R.HOST_SPEED, 0, speed)]
    foldc (upTo 64) (fun v c => c.msixFlush v) c1
  else c

/-- The link goes down without PCIE_PERST_N (R466). -/
def pcieLinkDown (c : Chip) : Chip := c.pcieDown

/-- A configuration write sets the power state and Bus Master Enable (R466). -/
def pcieConfigWrite (c : Chip) (d3 bme : Bool) : Chip :=
  if !c.on R.HOST_LINK_UP pgHOST then c
  else
    let c1 := if c.on R.HOST_D3 pgHOST == d3 && c.on R.HOST_BME pgHOST == bme then c
      else c.hw pgHOST [(R.HOST_D3, 0, b2n d3), (R.HOST_BME, 0, b2n bme)]
    let c2 := if d3 || !bme then c1.dmaHostGone else c1
    foldc (upTo 64) (fun v c => c.msixFlush v) c2

/-- A vector is unmasked: a pending message is sent (R469). -/
def msixVectorUnmask (c : Chip) (v : Nat) : Chip :=
  if c.on R.HOST_LINK_UP pgHOST then
    (c.modHost (fun q => { q with masked := q.masked &&& ~~~(1#64 <<< v) })).msixFlush v
  else c

/-! IIC1 (R480, R481). -/

/-- START of IIC1 (R480): refused while BUSY; in a pause of management services it waits for their return (R496). -/
def Chip.iic1Start (c : Chip) : Chip :=
  if c.on R.IIC_BUSY pgIIC1 then c.cfgReject pgIIC1 2
  else
    let c1 := c.hw pgIIC1 [(R.IIC_BUSY, 0, 1), (R.IIC_ERR, 0, 0), (R.IIC_TRIES, 0, 0)]
    if c1.fwu.paused then c1.modHost (fun h => { h with iic1Wait := true }) else c1.iic1Send

/-- Word `w` of RX after a read of `n` bytes. -/
def Chip.iic1Rx (c : Chip) (rx : Bytes) (n w : Nat) : Nat :=
  let old := leBytes (c.rd R.IIC_RX pgIIC1 w) 4
  leNat ((upTo 4).map (fun i => if 4 * w + i < n then (rx[4 * w + i]?).getD 0 else (old[i]?).getD 0))

/-- An attempt of IIC1 has ended (R480, R481): ADDR_NACK and ARB_LOST are retried up to RETRY times; else DONE or ERROR. -/
def iic1Done (c : Chip) (err : Nat) (rx : Bytes) : Chip :=
  let t := c.rd R.IIC_TRIES pgIIC1
  if !c.on R.IIC_BUSY pgIIC1 || decide (7 < err) || (err == 7 && !c.on R.IIC_PEC_EN pgIIC1) then c
  else if (err = 1 ∨ err = 3) ∧ t < c.rd R.IIC_RETRY pgIIC1 then (c.up R.IIC_TRIES pgIIC1 (t + 1)).iic1Send
  else
    let n := c.rd R.IIC_RD_LEN pgIIC1
    let us := if err = 0 then (upTo 8).map (fun w => (R.IIC_RX, w, c.iic1Rx rx n w)) else []
    let c1 := (c.hw pgIIC1 ([(R.IIC_BUSY, 0, 0), (R.IIC_ERR, 0, err)] ++ us)).bump R.IIC_CNT pgIIC1 0
    let c2 := if err = 6 then c1.bump R.IIC_CNT pgIIC1 1 else c1
    c2.pulse pgIIC1 (if err = 0 then 0 else 1)

/-! Counter snapshot (R509, R510). -/

/-- SNAP_TICK. -/
def Chip.snapTick (c : Chip) : Nat := c.rd R.PMC_SNAP_TICK_LO pgPMC + 2 ^ 32 * c.rd R.PMC_SNAP_TICK_HI pgPMC

/-- SNAP is written (R509): refused while BUSY and for a tick that has begun. -/
def Chip.snapStart (c : Chip) : Chip :=
  let t := c.snapTick
  if c.on R.PMC_BUSY pgPMC || (t != 0 && decide (t ≤ c.tick)) then c.cfgReject pgPMC 1
  else (c.modSnap (fun q => { q with pend := true, tick := if t = 0 then c.tick + 1 else t })).up R.PMC_BUSY pgPMC 1

/-- A key of PMC_SEL0-3 or PMC_CNT0-3. -/
def pmcKey (k : Nat) : Bool := let o := k / 32 % 0x1000; decide (0x40 ≤ o) && decide (o < 0x60)

/-- At the snapshot tick every counter and selection is copied (R509). -/
def snapTake (c : Chip) : Chip :=
  if c.snap.pend && decide (c.snap.tick ≤ c.tick) then
    c.modSnap (fun q => { q with pend := false, copy := c.regs.filter (fun e => pmcKey e.1), datum := dqTick * q.tick })
  else c

/-- The copy is complete: the snapshot registers are replaced together (R509, R510). -/
def snapDone (c : Chip) : Chip :=
  if c.on R.PMC_BUSY pgPMC && !c.snap.pend then
    let d := c.snap.datum
    let c1 := (c.modSnap (fun q => { q with shown := q.copy })).bump R.PMC_CNT_SNAP pgPMC
    (c1.hw pgPMC [(R.PMC_BUSY, 0, 0), (R.PMC_SNAP_DATUM_LO, 0, d % 2 ^ 32), (R.PMC_SNAP_DATUM_HI, 0, d / 2 ^ 32)]).pulse pgPMC 0
  else c

/-- A field of SNAP_PAGE at the last snapshot; zero for a page without counters (R510). -/
def Chip.snapShown (c : Chip) (f : Fld) (k : Nat) : Nat :=
  let b := c.rd R.PMC_SNAP_PAGE pgPMC / 0x1000 * 0x1000
  match pageOf b with
  | some (t, _) => if t.hasPmc then mapGet c.snap.shown (fldKey f b k) 0 else 0
  | none => 0

/-! The debug port (R511 to R513). -/

/-- Plumb runs: the test access port answers. -/
def Chip.plumbRuns (c : Chip) : Bool := !c.plumb.porst && !c.plumb.stopped

/-- The instructions marked Unlock act (R511). -/
def Chip.unlocked (c : Chip) : Bool := c.plumbRuns && (!c.mram.jtagLocked || c.on R.SEC_DEBUG_UNLOCKED pgSEC)

/-- DBG_CHALLENGE: DEVICE_ID and a fresh nonce are shifted out (R511). -/
def dbgChallenge (c : Chip) (nonce : Bytes) : Chip :=
  if c.plumbRuns then
    let ch := leBytes c.mram.deviceId.toNat 8 ++ sliceBytes nonce 0 32
    (c.modDbg (fun d => { d with challenge := some ch })).send (.debug ch)
  else c

/-- DBG_RESPONSE (R512): a challenge is answerable once; three failures refuse every further response. -/
def dbgResponse (c : Chip) (sig : Bytes) : Chip :=
  match c.dbg.challenge with
  | none => c
  | some ch =>
    if !c.plumbRuns || decide (3 ≤ c.dbg.fails) then c
    else
      let c1 := c.modDbg (fun d => { d with challenge := none })
      if (upTo 4).any (fun k => !c.mram.revoked.getLsbD k && Config.responseValid k ch sig) then c1.up R.SEC_DEBUG_UNLOCKED pgSEC 1
      else c1.modDbg (fun d => { d with fails := d.fails + 1 })

/-- DBG_CTRL.HALT (R364, R513): MGMT halts; during an activation pause, when it resumes. -/
def dbgHalt (c : Chip) : Chip :=
  if !c.unlocked || !c.plumb.mgmtUp || c.plumb.mgmtHalt || c.plumb.mgmtFail then c
  else
    let c1 := c.modPlumb (fun p => { p with haltReq := true })
    if c.fwu.paused then c1 else c1.lateHalt

/-- DBG_CTRL.STEP: the halted MGMT executes one step (R511). -/
def dbgStep (c : Chip) : Chip := if c.unlocked && c.plumb.mgmtHalt then c.modDbg (fun d => { d with steps := d.steps + 1 }) else c

/-- DBG_CTRL.RESUME (R365, R511, R513). -/
def dbgResume (s : State) : State :=
  if s.chip.unlocked then mgmtResume (s.onChip (fun c => c.modPlumb (fun p => { p with haltReq := false }))) else s

/-- A port group sends CMD frames (R148, R511). -/
def Chip.sendsCmd (c : Chip) : Bool := c.cmdAllowed && c.ports.any (fun e => c.enabled (pgSP e.1) && e.2.sentCmd && c.joinerSends e.1)

/-- EXTEST drives the pins, or acts as BYPASS while a port group sends CMD frames (R511). -/
def extest (c : Chip) (pins : Bytes) : Chip := if c.sendsCmd then c else c.modDbg (fun d => { d with pins := pins })

/-! Meanings of the rows. -/

/-- PCIE_PERST (R466): PCIE_PERST_N low takes the link down and resets configuration space only. -/
def execPciePerst (s : State) : Result :=
  .next (s.onChip (fun c => pciePerst c))

/-- DMA_COMPLETE (R472): A DMA channel finishes its transfer or ends with an error. -/
def execDmaComplete (chan : Chan) (err : Nat) (s : State) : Result :=
  .next (dmaComplete s chan err)

/-- IIC1_DONE (R480): An IIC1 transaction completes, retries or ends with an error. -/
def execIic1Done (err : Nat) (rx : Bytes) (s : State) : Result :=
  .next (s.onChip (fun c => iic1Done c err rx))

/-- SNAP_TAKE (R509): At the snapshot tick every counter and selection is copied. -/
def execSnapTake (s : State) : Result :=
  .next (s.onChip (fun c => snapTake c))

/-- SNAP_DONE (R509): The snapshot registers are replaced together and PG_SEQ increments once. -/
def execSnapDone (s : State) : Result :=
  .next (s.onChip (fun c => snapDone c))

/-- DBG_CHALLENGE (R511): The debugger shifts out DEVICE_ID and a fresh nonce. -/
def execDbgChallenge (nonce : Bytes) (s : State) : Result :=
  .next (s.onChip (fun c => dbgChallenge c nonce))

/-- DBG_RESPONSE (R512): A signed response is verified and unlocks debug, or counts a failure. -/
def execDbgResponse (sig : Bytes) (s : State) : Result :=
  .next (s.onChip (fun c => dbgResponse c sig))

/-- DBG_HALT (R513): DBG_CTRL.HALT halts MGMT, which announces DEBUG_HOLD. -/
def execDbgHalt (s : State) : Result :=
  .next (s.onChip (fun c => dbgHalt c))

/-- DBG_STEP (R511): DBG_CTRL.STEP steps the halted MGMT. -/
def execDbgStep (s : State) : Result :=
  .next (s.onChip (fun c => dbgStep c))

/-- DBG_RESUME (R513): DBG_CTRL.RESUME resumes the halted MGMT. -/
def execDbgResume (s : State) : Result :=
  .next (dbgResume s)

/-- PCIE_LINK_UP (R466): The PCIe link trains after PERST release and HOST.LINK_UP, WIDTH and SPEED are set. -/
def execPcieLinkUp (width : Nat) (speed : Nat) (s : State) : Result :=
  .next (s.onChip (fun c => pcieLinkUp c width speed))

/-- PCIE_LINK_DOWN (R466): The PCIe link goes down without PERST and any in-flight DMA ends with error HOST. -/
def execPcieLinkDown (s : State) : Result :=
  .next (s.onChip (fun c => pcieLinkDown c))

/-- PCIE_CONFIG_WRITE (R466): A host configuration write enters D3hot or clears Bus Master Enable, ending in-flight DMA with error
HOST. -/
def execPcieConfigWrite (d3 : Bool) (bme : Bool) (s : State) : Result :=
  .next (s.onChip (fun c => pcieConfigWrite c d3 bme))

/-- MSIX_VECTOR_UNMASK (R469): A host write unmasking an MSI-X vector whose pending bit is set sends its message. -/
def execMsixVectorUnmask (vector : Vector64) (s : State) : Result :=
  .next (s.onChip (fun c => msixVectorUnmask c vector.val))

/-- EXTEST (R511): The EXTEST boundary-scan instruction drives pins, or acts as BYPASS while any port group sends CMD frames. -/
def execExtest (pins : Bytes) (s : State) : Result :=
  .next (s.onChip (fun c => extest c pins))

end Sys2Proof.Machine
end

