-- ==== Sys2Proof/Machine/BusRead.lean ====
section
/-! DEFINITION. BusRead.lean: what a register word reads (R4, R7, R11 to R20, R517, R520 to R523), and who may access it (R10, R403,
R405, R462). -/

namespace Sys2Proof.Machine

/-! Register words. -/

/-- The fields at offset `o` of a page of kind `k`, each with the number of its copy. -/
def PageKind.rowsAt (k : PageKind) (o : Nat) : List (Row × Nat) :=
  (rowsCommon ++ k.rows).filterMap (fun r =>
    let f := r.fld
    if o < f.off then none
    else
      let d := o - f.off
      if f.stride = 0 then (if d = 0 then some (r, 0) else none)
      else if d % f.stride = 0 ∧ d / f.stride < r.cnt then some (r, d / f.stride) else none)

/-- What a field reads (R7): WO reads zero, and so does W1S, whose bits the hardware clears as it acts. -/
def Chip.fieldRead (c : Chip) (b : Nat) (r : Row × Nat) : Nat :=
  match r.1.acc with
  | .wo | .w1s => 0
  | .ro | .rw | .rwl | .w1c | .rc => c.rd r.1.fld b r.2

/-- The word of the stored fields at offset `o`. -/
def Chip.storedWord (c : Chip) (k : PageKind) (b o : Nat) : Nat :=
  (k.rowsAt o).foldl (fun w r => w + 2 ^ r.1.fld.lo * c.fieldRead b r) 0

/-- PG_STATUS (R17, R522): ACTIVE, which in SPn reads ENABLE (R136), and QUIESCED. -/
def Chip.pgStatus (c : Chip) (k : PageKind) (n : Nat) : Nat :=
  let b := pageBase k n
  b2n (k != .sp || c.enabled b) + 2 * c.rd R.PG_QUIESCED b

/-- PG_ID (R12, R520). -/
def pgId (k : PageKind) (n : Nat) : Nat := 2 ^ 20 * k.blockType + 2 ^ 12 * k.inst n + 2 ^ 4 + 1

/-- PG_CAPS (R521, R524). -/
def pgCaps (k : PageKind) : Nat := b2n k.hasPmc + 2 * b2n k.tenant + 4 * b2n !k.aon + 8 * b2n k.aon

/-- The doorbell bits of an engine that wait for their agreed tick (R7, R171). -/
def Chip.bellWaits (c : Chip) (e : Nat) (hi : Bool) : Nat :=
  c.twin.agree.foldl (fun m a => match a.item with
    | .events x h w => if x.val = e ∧ h = hi then m ||| w.toNat else m
    | .cfgWrite a w => if a.toNat = pgCE e + 0x10C + 4 * b2n hi then m ||| w.toNat else m
    | .descWrite _ _ _ | .lawSet _ | .crown | .budget _ _ _ | .felt _ | .delegate _ _ | .swap | .paired | .classC _
    | .resync _ | .negState _ | .swapLaw _ _ _ => m) 0

/-- A word of BIN_DATA (R330): bin `i` of the channel that BIN_SEL names. -/
def Chip.binWord (c : Chip) (i w : Nat) : Nat :=
  let p := c.rd R.BMK_PORT pgBMK
  let x : Bin := mapGet (c.cal (4 * p + c.rd R.BMK_CH pgBMK)).bins i {}
  let age := c.datum - x.atT
  match w with
  | 0 => x.gain.toNat
  | 1 => x.offset.toNat
  | 2 => (aged x.uncG (c.rdVF R.BMK_AGE_G pgBMK) (c.rdVF R.BMK_UNC_MAX_G pgBMK) age).toNat
  | _ => min x.n 255 + 2 ^ 8 * b2n (x.n != 0 && decide (c.rdV R.BMK_FILL_WIN pgBMK ≤ x.n)) + 2 ^ 16 * (if x.n = 0 then 0 else minutes age)

/-- The words that the device computes when they are read; none for a word of stored fields. `idp` is the accessing partition. -/
def Chip.liveWord (c : Chip) (k : PageKind) (n o idp : Nat) : Option Nat :=
  match k with
  | .datum => if o = 0x100 then some (c.datum % 2 ^ 32) else if o = 0x104 then some (c.datum / 2 ^ 32 % 2 ^ 32) else none
  | .part =>
    if 0x200 ≤ o ∧ o < 0x280 ∧ o % 16 = 8 then
      let p := (o - 0x200) / 16
      some (((upTo 192).filter (fun q => c.owner (pgSP q) == p)).length + 2 ^ 8 * ((upTo 128).filter (fun q => c.owner (pgCE q) == p)).length)
    else none
  | .fbk =>
    if o = 0x800 then some ((c.fbk.cursor[idp]?).getD 0).toNat
    else if o = 0x804 then some (c.frHeld idp)
    else if o = 0x808 then some ((c.fbk.dropped[idp]?).getD 0).toNat
    else if o = 0x80C then some ((c.fbk.overwritten[idp]?).getD 0).toNat
    else if 0x840 ≤ o ∧ o < 0x880 then some (((c.frWords idp)[(o - 0x840) / 4]?).getD 0).toNat
    else none
  | .fcu =>
    if 0x200 ≤ o ∧ o < 0x600 then
      let s := (o - 0x200) / 4
      some (match srcInfo s with | some (_, l) => c.srcSev s + 4 * b2n l | none => 0)
    else none
  | .gauge =>
    if 0x800 ≤ o ∧ o < 0x880 then
      let i := (o - 0x800) / 4
      let z := zCell (i / 2) (c.rd R.GAUGE_SBIN pgGAUGE) (c.rd R.GAUGE_TBIN pgGAUGE)
      let (re, im) : F32 × F32 := mapGet (c.strg (c.rd R.GAUGE_STRING pgGAUGE)).cells z (0x7FC00000, 0x7FC00000)
      some (if i % 2 = 0 then re.toNat else im.toNat)
    else none
  | .bmk => if 0x800 ≤ o ∧ o < 0xA00 then some (c.binWord ((o - 0x800) / 16) (o % 16 / 4)) else none
  | .pmc =>
    if 0x200 ≤ o ∧ o < 0x210 then some (c.snapShown R.PMC_CNT ((o - 0x200) / 4))
    else if 0x210 ≤ o ∧ o < 0x220 then
      let i := (o - 0x210) / 4
      some (c.snapShown R.PMC_EVENT i + 2 ^ 16 * c.snapShown R.PMC_CHAIN i + 2 ^ 24 * c.snapShown R.PMC_OVF i)
    else none
  | .crown => if o = 0x200 then some (c.storedWord k pgCROWN o / 2 * 2 + 1) else none
  | .sp =>
    let b := pgSP n
    if o = 0x100 then some (c.safeAct n + 4 * c.rd R.SP_AUTO_DISC b)
    else if 0x300 ≤ o ∧ o < 0x380 then
      let ch := (o - 0x300) / 32
      match o % 32 with
      | 8 => some (c.calGain n ch).toNat
      | 12 => some (c.calOffset n ch).toNat
      | 16 => some (c.calUncG n ch).toNat
      | 20 => some (c.calUncO n ch).toNat
      | _ => none
    else none
  | .arb => if o = 0x1DC then some 0 else none
  | .iic0 => if o = 0x100 ∨ o = 0x104 ∨ o = 0x108 then none else some 0
  | .iic1 => if o = 0x100 ∨ o = 0x10C then some 0 else none
  | .iic2 => if o = 0x100 ∨ o = 0x104 ∨ o = 0x108 ∨ o = 0x10C then none else some 0
  | .neg => if o = 0x100 then some (c.negStatus.foldl (fun w x => w + 2 ^ x.1.lo * x.2) 0) else none
  | .ce => if o = 0x10C then some (c.bellWaits n false) else if o = 0x110 then some (c.bellWaits n true) else none
  | .sys | .plumb | .seq | .thm | .wcap | .sec | .fwu | .twin | .fab | .xspi | .host | .hold | .felt | .clu | .spg => none

/-- What the word at offset `o` of a page reads, with no side effect (R11, R517). -/
def Chip.regWord (c : Chip) (k : PageKind) (n o idp : Nat) : Nat :=
  let b := pageBase k n
  if o = 0 then pgId k n
  else if o = 4 then pgCaps k
  else if o = 0xC then b2n (c.enabled b) + 2 * c.rd R.PG_QUIESCE b
  else if o = 0x10 then c.pgStatus k n
  else if 0x40 ≤ o ∧ o < 0x60 then (if k.hasPmc ∧ idp = 0 then c.storedWord k b o else 0)
  else if o < 0x100 then c.storedWord k b o
  else match c.liveWord k n o idp with
    | some w => w
    | none => c.storedWord k b o

/-- The RC fields of a word clear as they are read (R7). -/
def Chip.rcClear (c : Chip) (k : PageKind) (b o : Nat) : Chip :=
  (k.rowsAt o).foldl (fun c r => match r.1.acc with
    | .rc => c.wr r.1.fld b 0 r.2
    | .ro | .rw | .rwl | .w1c | .w1s | .wo => c) c

/-- The low words of the registers wider than 32 bits that are read under R5. -/
def wideRead (k : PageKind) (o : Nat) : Bool :=
  match k with
  | .datum | .sec => o == 0x100
  | .twin => o == 0x140
  | .fab => o == 0x118
  | .pmc => o == 0x10C || o == 0x104
  | .wcap => decide (0x200 ≤ o) && decide (o < 0x400) && o % 0x40 == 0x28
  | .host => decide (0x200 ≤ o) && decide (o < 0x280) && o % 0x20 == 4
  | .sys | .plumb | .seq | .thm | .fcu | .fbk | .fwu | .arb | .part | .iic0 | .iic1 | .iic2 | .xspi | .neg | .gauge | .bmk | .crown
  | .hold | .felt | .clu | .ce | .spg | .sp => false

/-- The low words of the registers wider than 32 bits that are written under R5: SNAP_TICK and DST. -/
def wideWrite (k : PageKind) (o : Nat) : Bool :=
  match k with
  | .pmc => o == 0x104
  | .host => decide (0x200 ≤ o) && decide (o < 0x280) && o % 0x20 == 4
  | .sys | .plumb | .seq | .thm | .fcu | .fbk | .wcap | .datum | .sec | .fwu | .arb | .part | .twin | .fab | .iic0 | .iic1 | .iic2
  | .xspi | .neg | .gauge | .bmk | .crown | .hold | .felt | .clu | .ce | .spg | .sp => false

/-! Access paths (R5, R402). -/

end Sys2Proof.Machine

namespace Sys2Proof

/-- The number of a path. -/
def Path.key : Path → Nat
  | .bar0 => 0
  | .iic0 => 1
  | .iic2 => 2
  | .dbg => 3
  | .bar2 p => 8 + p.val
  | .mgmt p => 16 + p.val

/-- The identity of a path (R402). -/
def Path.ident : Path → Nat
  | .bar0 | .iic0 | .iic2 | .dbg => 0
  | .bar2 p | .mgmt p => p.val

/-- The partition of a window or session (R403, R385). -/
def Path.window : Path → Option Nat
  | .bar0 | .iic0 | .iic2 | .dbg => none
  | .bar2 p | .mgmt p => some p.val

/-- VIOL_INFO.PATH of a path (R406). -/
def Path.code : Path → Nat
  | .bar0 | .iic0 | .iic2 | .dbg | .bar2 _ => 0
  | .mgmt _ => 1

end Sys2Proof

namespace Sys2Proof.Machine

/-- The pages and the window reached while MAIN_UP is 0 (R477). -/
def aonAddr (a : Nat) : Bool :=
  (match pageOf a with | some (k, _) => k.aon | none => false) || (decide (0x800000 ≤ a) && decide (a < 0x1000000))

/-- A path reaches an address (R466, R477, R511, R531). -/
def Chip.reaches (c : Chip) (p : Path) (a : Nat) : Bool :=
  match p with
  | .bar0 => c.hostUp && c.on R.HOST_LINK_UP pgHOST
  | .bar2 _ => c.hostUp && c.on R.HOST_LINK_UP pgHOST && decide (a < 0x800000)
  | .iic0 => c.hostUp
  | .mgmt _ => c.hostUp && decide (a < 0x800000)
  | .iic2 => c.plumbRuns && (c.on R.PLUMB_MAIN_UP pgPLUMB || aonAddr a)
  | .dbg => c.unlocked && (c.on R.PLUMB_MAIN_UP pgPLUMB || aonAddr a)

/-! Rights (R10, R20, R185, R262, R332, R403, R405). -/

/-- How an access fares: it is made; it reads zero and is ignored; it is a violation. -/
inductive Right where
  | ok | zero | viol
deriving DecidableEq, Repr

/-- An address is in a reserved range of R516 or at an offset of a page that no register has (R517). -/
def reservedAddr (a : Nat) : Bool :=
  match pageOf a with
  | some (k, _) =>
    let o := a % 0x1000
    o != 0 && o != 4 && o != 0x10 && !(k == .fbk && decide (0x800 ≤ o) && decide (o < 0x880)) && (k.rowsAt o) == []
  | none => decide (a < 0x400000) || decide (0x1800000 ≤ a)

/-- The rights of partition `p` through its window or session to the word at `a` (R403): its pages, its descriptor region, its
Crown blocks, the Field Book reader. `wr` tells a write. -/
def Chip.right (c : Chip) (p a : Nat) (wr : Bool) : Right :=
  if 0x400000 ≤ a ∧ a < 0x800000 then (if p = 0 ∨ (a - 0x400000) / 0x80000 = p then .ok else .viol)
  else match pageOf a with
    | none => .zero
    | some (k, n) =>
      let o := a % 0x1000
      let b := pageBase k n
      if k == .fbk && p != 0 then (if 0x800 ≤ o ∧ o < 0x880 then .ok else .viol)
      else if k == .crown && p != 0 then
        (if 0x200 ≤ o ∧ o < 0xE00 ∧ c.crOwner ((o - 0x200) / 32) = p then .ok else .viol)
      else if c.owner b ≠ p then .viol
      else if p = 0 then .ok
      else if 0x40 ≤ o ∧ o < 0x60 then .zero
      else if reservedAddr a then .zero
      else if wr && (o == 8 || (k == .ce && (o == 0x108 || decide (0x10C ≤ o) && decide (o < 0x11C)))
        || (k == .sp && decide (0x300 ≤ o) && decide (o < 0x380) && o % 32 < 24)) then .viol
      else .ok

/-- A write to an address is refused by R262 or by a lock: it would change a field that the writer may not change. `v` is the
word written. -/
def Chip.writeBarred (c : Chip) (p a v : Nat) : Bool :=
  match pageOf a with
  | none => false
  | some (k, n) =>
    let o := a % 0x1000
    let b := pageBase k n
    let changes (f : Fld) (i : Nat) : Bool := bitsOf v (f.lo + f.w - 1) f.lo != c.rd f b i
    let locked := c.on R.PG_LOCKED b && (k.rowsAt o).any (fun r => r.1.acc == .rwl && changes r.1.fld r.2)
    let crown := k == .crown && p != 0 && decide (0x200 ≤ o) && decide (o < 0xE00) &&
      (let m := (o - 0x200) / 32
       let par := bitsOf v 14 8
       let fs := [R.CROWN_VALID, R.CROWN_OWNER, R.CROWN_PARENT, R.CROWN_FEEDER, R.CROWN_EW_GROUP]
       if c.crownNodeOf p = some m then
         (match o % 32 with
          | 0 => fs.any (fun f => changes f m)
          | 4 => changes R.CROWN_LIMIT_W m
          | 8 => changes R.CROWN_FLOOR_W m
          | _ => false)
       else o % 32 == 0 && (changes R.CROWN_OWNER m || (changes R.CROWN_PARENT m && !(decide (par < 96) && c.crOwner par == p))))
    locked || crown

end Sys2Proof.Machine
end

