-- ==== Sys2Proof/Machine/BusWrite.lean ====
section
/-! DEFINITION. BusWrite.lean: what a write of a register word does, page by page (R7, R13 to R15, R18, R507, R523 and the rules of the
pages). Rights, paths and the destination in a pair are judged before, in Bus.lean. -/

namespace Sys2Proof.Machine

/-- The part of a written word that falls in a field. -/
def fldOf (v : Nat) (f : Fld) : Nat := v / 2 ^ f.lo % 2 ^ f.w

/-- The RW, RWL and W1C fields of a word take a write (R7). -/
def Chip.putWord (c : Chip) (k : PageKind) (b o v : Nat) : Chip :=
  let locked := c.on R.PG_LOCKED b
  (k.rowsAt o).foldl (fun c r =>
    let f := r.1.fld
    match r.1.acc with
    | .rw => c.wr f b (fldOf v f) r.2
    | .rwl => if locked then c else c.wr f b (fldOf v f) r.2
    | .w1c => c.wr f b ((List.range f.w).foldl (fun n i => if bitOf (fldOf v f) i then setBitN n i false else n) (c.rd f b r.2)) r.2
    | .ro | .w1s | .rc | .wo => c) c

/-! The common registers. -/

/-- The event bits that a page's chapter assigns (R523). -/
def evtMask : PageKind → Nat
  | .sp => 0x1FF | .ce => 0x7F | .fwu => 7 | .sec => 1 | .thm => 7 | .fcu => 0xF | .fbk => 0xF | .wcap => 0x1FFFF
  | .host => 0x3FF | .iic0 | .iic2 => 5 | .iic1 => 7 | .xspi => 3 | .pmc => 3 | .part => 3 | .arb => 0xF | .gauge => 0x3FFFFFF
  | .seq => 1 | .plumb => 1 | .felt => 0xFFFFFF | .hold => 0x1FFFFFF | .bmk => 0x3FF | .fab => 0x1FF | .twin => 0x1FF
  | .sys | .datum | .neg | .crown | .clu | .spg => 0

/-- A change of OWNER is ignored (R401): the port is used by a bound law, a feeder task or a valid string; the engine has a task slot
in use. -/
def Chip.ownerBusy (c : Chip) (k : PageKind) (n : Nat) : Bool :=
  match k with
  | .sp => (c.portLaw n).isSome || c.on R.SP_FD_EN (pgSP n)
      || (upTo 24).any (fun s => c.on R.GAUGE_VALID pgGAUGE s && (c.rd R.GAUGE_PORT0 pgGAUGE s == n || c.rd R.GAUGE_PORT1 pgGAUGE s == n))
  | .ce => (upTo 64).any (fun s => c.rd R.CE_CLASS (pgCE n) s != 0)
  | .sys | .plumb | .seq | .thm | .fcu | .fbk | .wcap | .datum | .sec | .fwu | .arb | .pmc | .part | .twin | .fab | .iic0 | .iic1 | .iic2
  | .xspi | .host | .neg | .gauge | .bmk | .crown | .hold | .felt | .clu | .spg => false

/-- A write of PG_OWNER (R13, R14, R400, R401), which changes PORTS or ENGINES of two partitions (R19, R406). A new owner's QUIESCE governs the page (R406), and its vector the interrupt (R468). -/
def Chip.ownerWrite (c : Chip) (k : PageKind) (n v : Nat) : Chip :=
  let b := pageBase k n
  let new := v % 8
  if c.on R.PG_LOCKED b then c
  else if new ≠ 0 ∧ !k.tenant then c.cfgReject pgPART 1
  else if new = c.owner b then c.wr R.PG_LOCKED b (b2n (bitOf v 31))
  else if c.ownerBusy k n then (if k = .sp then c.cfgReject pgPART 1 else c)
  else
    let had := c.irqs.contains b
    let c1 := (c.wr R.PG_OWNER b new).wr R.PG_LOCKED b (b2n (bitOf v 31))
    let c2 := ((if new = 0 then c1 else c1.wr R.PG_QUIESCE b (c1.rd R.PART_QUIESCE pgPART new)).reQuiesced k n).seqInc pgPART
    match c2.vectorOf b with
    | some w => if had && !(c2.irqs.any (fun x => x != b && c2.vectorOf x == some w)) then c2.sendVec w else c2
    | none => c2

/-- A write of PG_CTRL (R15, R17, R19, R136, R522). QUIESCE stays 1 on the pages of a tenant whose PT_CFG.QUIESCE is 1 (R406, R408). -/
def Chip.ctrlWrite (c : Chip) (k : PageKind) (n v : Nat) : Chip :=
  let b := pageBase k n
  let onWas := c.enabled b
  let c1 := ((if k.alwaysOn then c else c.wr R.PG_ENABLE b (v % 2)).wr R.PG_QUIESCE b (b2n (bitOf v 1 || c.on R.PART_QUIESCE pgPART (c.owner b))))
  let c2 := if k = .sp ∧ onWas ∧ !c1.enabled b then c1.portOff n
    else if k = .sp ∧ !onWas ∧ c1.enabled b then c1.portOn n
    else if k = .bmk then c1.bmkStart else c1
  ((if k = .sp ∧ onWas ≠ c2.enabled b then c2.seqInc b else c2).reQuiesced k n).reIrq b

/-- A write of PG_EVT_LATCH: ones clear, and a message is sent again while the vector's OR stays 1 (R18, R469). -/
def Chip.latchWrite (c : Chip) (b v : Nat) : Chip :=
  let old := c.rd R.EVT_LATCH b
  (c.wr R.EVT_LATCH b (old - (old &&& v))).reIrq b true

/-- A write of PMC_SELn: a change of EVENT or CHAIN clears PMC_CNTn (R506, R507). -/
def Chip.pmcSelWrite (c : Chip) (k : PageKind) (b j v : Nat) : Chip :=
  if !k.hasPmc then c
  else
    let new := c.rd R.PMC_EVENT b j != v % 65536 || c.rd R.PMC_CHAIN b j != b2n (bitOf v 16)
    let c1 := c.putWord k b (0x40 + 4 * j) v
    if new then c1.wr R.PMC_CNT b 0 j else c1

/-! The pages. Offsets `o` are those of the chapters' tables. -/

/-- SEQ. SAVE and RESTART written together: the manual gives no order; the set is saved first, so the restarted sequence takes it (R70;
DESIGN CHOICE, log 203). -/
def Chip.wrSeq (c : Chip) (o v : Nat) : Chip :=
  if o = 0x120 then
    let c1 := if bitOf v 0 then c.seqSave else c
    if bitOf v 1 then c1.seqRestart else c1
  else c.putWord .seq pgSEQ o v

def Chip.wrThm (c : Chip) (o v : Nat) : Chip :=
  if o = 0x100 then
    let x := v % 128
    if 85 ≤ x ∧ x ≤ 115 then (c.putWord .thm pgTHM o v).reThrottle else c
  else c.putWord .thm pgTHM o v

def Chip.wrFcu (c : Chip) (o v : Nat) : Chip :=
  if o = 0x108 then (if 10 ≤ bitsOf v 15 8 then c.putWord .fcu pgFCU o v else c)
  else if 0x200 ≤ o ∧ o < 0x600 then
    let s := (o - 0x200) / 4
    (match srcInfo s with
     | some (_, false) => c.wr R.FCU_SEV pgFCU (v % 4) s
     | some (_, true) => c
     | none => c)
  else if 0x600 ≤ o ∧ o < 0x620 then c.fcClear ((o - 0x600) / 4) v
  else c

/-- FBK; `idp` is the partition that writes (R455). -/
def Chip.wrFbk (c : Chip) (o v idp : Nat) : Chip :=
  if o = 0x10C then (c.putWord .fbk pgFBK o v).fbMark
  else if o = 0x110 then (if v % 2 ^ 18 ≤ 131072 then (c.putWord .fbk pgFBK o v).fbMark else c.cfgReject pgFBK 3)
  else if o = 0x114 then c.eraseWrite v
  else if o = 0x800 then c.modFbk (fun k => { k with cursor := setAt k.cursor idp (BitVec.ofNat 32 v) })
  else c

def Chip.wrWcap (c : Chip) (o v : Nat) : Chip :=
  if 0x200 ≤ o ∧ o < 0x400 ∧ o % 0x40 = 0x20 then
    let k := (o - 0x200) / 0x40
    let c1 := if bitOf v 0 && c.takesWork pgWCAP then c.wcArm k else c
    let c2 := if bitOf v 1 then c1.wcTrigger k else c1
    if bitOf v 2 then c2.wcAbort k else c2
  else c.putWord .wcap pgWCAP o v

def Chip.wrArb (c : Chip) (o v : Nat) : Chip :=
  let put := c.putWord .arb pgARB o v
  let bad := c.cfgReject pgARB 3
  if o = 0x100 then (if 256 ≤ v % 65536 then put else bad)
  else if o = 0x104 then (let x := v % 2 ^ 24; if x = 0 ∨ 4096 ≤ x then put else bad)
  else if 0x180 ≤ o ∧ o < 0x1DC then (if v % 16 = 0 then bad else put)
  else if 0x200 ≤ o ∧ o < 0x280 ∧ o % 16 = 0 then
    let p := (o - 0x200) / 16
    let x := v % 1024
    let sum := (upTo 8).foldl (fun n q => n + (if q = p then x else c.rd R.ARB_CREDIT pgARB q)) 0
    if (x = 0 ∨ 128 ≤ x) ∧ x ≤ 1000 ∧ sum ≤ 1000 then put else bad
  else c

def Chip.wrPmc (c : Chip) (o v : Nat) : Chip :=
  if o = 0x100 then (if bitOf v 0 && c.takesWork pgPMC then c.snapStart else c)
  else if o = 0x114 then c.putWord .pmc pgPMC o (v / 4096 * 4096)
  else c.putWord .pmc pgPMC o v

def Chip.wrPart (c : Chip) (o v : Nat) : Chip :=
  if 0x200 ≤ o ∧ o < 0x280 then
    let p := (o - 0x200) / 16
    match o % 16 with
    | 0 =>
      let c1 := (c.wr R.PART_WIN_EN pgPART (v % 2) p).wr R.PART_SESS_EN pgPART (b2n (bitOf v 1)) p
      if p = 0 then c1
      else if bitOf v 2 then c1.quiescePart p
      else (c1.wr R.PART_QUIESCE pgPART 0 p).quiescePages p false
    | 4 =>
      let x := v % 2 ^ 17
      let sum := (upTo 8).foldl (fun n q => n + (if q = 0 then 0 else if q = p then x else c.rd R.PART_FBK_QUOTA pgPART q)) 0
      if p = 0 then c else if x ≤ 65536 ∧ sum ≤ 65536 then c.putWord .part pgPART o v else c.cfgReject pgPART 1
    | _ => c
  else c

def Chip.wrTwin (c : Chip) (o v : Nat) : Chip :=
  let put := c.putWord .twin pgTWIN o v
  let st := c.rd R.TWIN_STATE pgTWIN
  if o = 0x100 then
    let c1 := if bitOf v 0 then c.traverse else c
    if bitOf v 1 then c1.rejoin else c1
  else if o = 0x104 then
    if 1 ≤ bitsOf v 7 0 ∧ 5 ≤ bitsOf v 15 8 ∧ 2 ≤ bitsOf v 23 16 then (if st = 3 then put.travArm else put) else c
  else if o = 0x108 then (if st = 3 then put.travArm else put)
  else if o = 0x10C then
    let x := v % 65536
    if x = c.rd R.TWIN_SELFTEST_MS pgTWIN then c
    else if x = 0 ∨ (100 ≤ x ∧ x ≤ 60000) then (if st = 1 ∨ st = 3 then put.selfArm else put)
    else c
  else c

def Chip.wrFab (c : Chip) (o v : Nat) : Chip :=
  if o = 0x100 then
    let c1 := c.putWord .fab pgFAB o v
    let was := c.fabOn
    let same := c.grid == c1.grid && c.rd R.FAB_DOMAIN pgFAB == c1.rd R.FAB_DOMAIN pgFAB
    if was && !c1.fabOn then c1.fabStop
    else if !was && c1.fabOn then c1.fabStart
    else if was && !same then c1.fabRename (c.rd R.FAB_DOMAIN pgFAB != c1.rd R.FAB_DOMAIN pgFAB)
    else c1
  else if o = 0x104 then
    let c1 := c.putWord .fab pgFAB o v
    let c2 := if bitOf v 0 && c.takesWork pgFAB then c1.quietStart .a else c1
    let c3 := if bitOf v 1 && c.takesWork pgFAB then c2.quietStart .b else c2
    if bitOf v 2 then c3.fabWake else c3
  else if 0x200 ≤ o ∧ o < 0x300 then ((PageKind.fab).rowsAt o).foldl (fun c r => c.wr r.1.fld pgFAB v r.2) c
  else c

/-- IIC1; an own write starts the controller (R480). -/
def Chip.wrIic1 (c : Chip) (o v : Nat) (own : Bool) : Chip :=
  if o = 0x114 then
    let c1 := c.putWord .iic1 pgIIC1 o v
    if own && bitOf v 31 && c.takesWork pgIIC1 then c1.iic1Start else c1
  else if o = 0x110 ∨ (0x120 ≤ o ∧ o < 0x140) then c.putWord .iic1 pgIIC1 o v
  else c

/-- HOST; an own write starts a channel (R472, R473). -/
def Chip.wrHost (c : Chip) (o v : Nat) (own : Bool) : Chip :=
  let c1 := c.putWord .host pgHOST o v
  if 0x200 ≤ o ∧ o < 0x280 ∧ o % 32 = 0x10 ∧ own ∧ bitOf v 0 ∧ c.takesWork pgHOST then c1.dmaStart ((o - 0x200) / 32) else c1

def Chip.wrGauge (c : Chip) (o v : Nat) (own : Bool) : Chip :=
  let c1 := c.putWord .gauge pgGAUGE o v
  if o = 0x100 then (if own && bitOf v 1 then c1.hibEnter else c1)
  else if 0x200 ≤ o ∧ o < 0x800 ∧ o % 0x40 = 0 then
    let s := (o - 0x200) / 0x40
    if bitOf v 0 && !c1.strOk s then c.cfgReject pgGAUGE 25 else c1
  else c1

def Chip.wrBmk (c : Chip) (o v : Nat) : Chip :=
  let put := (c.putWord .bmk pgBMK o v).bmkSettle
  let bad := c.cfgReject pgBMK 9
  if o = 0x100 then
    let ms := bitsOf v 15 8
    if 1 ≤ ms ∧ ms ≤ 100 ∧ 1 ≤ bitsOf v 19 16 then (if bitOf v 0 && !c.on R.BMK_EN pgBMK then put.bmkStart else if !bitOf v 0 && c.on R.BMK_EN pgBMK then put.bmkStop else put) else bad
  else if o = 0x104 then (if fle fOne (BitVec.ofNat 32 v) then put else bad)
  else if 0x200 ≤ o ∧ o < 0x400 then
    (match o % 0x40 with
     | 0 => if 1 ≤ bitsOf v 7 4 ∧ 10 ≤ bitsOf v 15 8 then put else bad
     | 8 => if 1 ≤ v % 65536 ∧ v % 65536 ≤ 655 then put else bad
     | _ => put)
  else put

def Chip.wrCrown (c : Chip) (o v : Nat) : Chip :=
  let put := c.putWord .crown pgCROWN o v
  if o = 0x100 then
    let per := v % 65536
    if 200 ≤ per ∧ per ≤ 20000 ∧ bitsOf v 23 16 ≤ 100 then (if c.on R.CROWN_EN pgCROWN && !bitOf v 24 then put.crownOff else put) else c
  else if 0x200 ≤ o ∧ o < 0xE00 then
    let n := (o - 0x200) / 32
    let fd := bitsOf v 23 16
    match o % 32 with
    | 0 =>
      if bitsOf v 14 8 ≤ 95 ∧ (fd < 192 ∨ fd = 0xFF) then
        (((if n = 0 then put.wr R.CROWN_VALID pgCROWN 1 else put).leafMoves c).ewJudge).propose .crown
      else c
    | 4 | 8 | 12 => put.propose .crown
    | _ => c
  else c

/-- A battery member bound with N above 12 in a section (R246). -/
def Chip.slowBatt (c : Chip) (s : Nat) : Bool :=
  (c.battMembers s).any (fun p => match c.portLaw p with | some (_, l) => decide (12 < dN l.desc) | none => false)

def Chip.wrHold (c : Chip) (o v : Nat) : Chip :=
  let put := c.putWord .hold pgHOLD o v
  let bad := c.cfgReject pgHOLD 24
  if 0x200 ≤ o ∧ o < 0x400 then
    let s := (o - 0x200) / 0x40
    match o % 0x40 with
    | 0 =>
      if bitOf v 0 && (c.slowBatt s || !flt (c.rdF R.HOLD_VIN_LOSS pgHOLD s) (c.rdF R.HOLD_VIN_OK pgHOLD s)
          || flt (c.rdF R.HOLD_BATT_I_PK pgHOLD s) (c.rdF R.HOLD_BATT_I_CONT pgHOLD s)) then bad
      else put
    | 12 => if 1 ≤ v % 2048 ∧ v % 2048 ≤ 2000 ∧ 20 ≤ bitsOf v 25 16 ∧ bitsOf v 25 16 ≤ 1000 then put else bad
    | 0x28 => if feq (BitVec.ofNat 32 v) fZero then bad else put
    | _ => put
  else put

def Chip.wrFelt (c : Chip) (o v : Nat) : Chip :=
  let put := c.putWord .felt pgFELT o v
  let s := (o - 0x200) / 0x40
  if 0x200 ≤ o ∧ o < 0x400 ∧ o % 0x40 = 0 then put.fsCfg s
  else if 0x200 ≤ o ∧ o < 0x400 ∧ (o % 0x40 = 8 ∨ o % 0x40 = 12 ∨ o % 0x40 = 16) then put.feltLimits s
  else put

/-- CEn (R183); an event trigger that comes at an agreed tick acts at once (R171). -/
def Chip.wrCe (c : Chip) (e o v : Nat) (agreed : Bool) : Chip :=
  if o = 0x108 then (if bitOf v 0 && c.takesWork (pgCE e) then c.selfcheckStart e else c)
  else if o = 0x10C ∨ o = 0x110 then
    let hi := decide (o = 0x110)
    if agreed then c.eventSlots e (32 * b2n hi) v else c.doorbell e hi v
  else if o = 0x114 then c.cancelSlots e 0 v
  else if o = 0x118 then c.cancelSlots e 32 v
  else c

/-- SP_CTRL (R136). AUTO_DISC set on an enabled port whose link is DOWN starts discovery, as it runs while the page is enabled and AUTO_DISC
is 1 (R133); a link that has an identified stage end waits for its return, by which it resumes or starts afresh (R135). -/
def Chip.wrSpCtrl (c : Chip) (p v : Nat) : Chip :=
  let b := pgSP p
  let a := v % 4
  let lacks := match (c.port p).announce with | some i => a == 3 || (a == 2 && !seCap i 5) | none => false
  let c1 := if a = c.safeAct p then c
    else if lacks then c.cfgReject b 8
    else
      let c2 := c.wr R.SP_SAFE_ACT b a
      if c2.hdrLead p && (c2.port p).announce.isSome then c2.pushReq p (cfgWrite 0 1 a 0) else c2
  let begins := bitOf v 2 && !c.on R.SP_AUTO_DISC b && c.enabled b && c.link p == lkDown && !(c.port p).announce.isSome
  let c3 := c1.wr R.SP_AUTO_DISC b (b2n (bitOf v 2))
  if bitOf v 3 || begins then c3.discStart p else c3

/-- The feeder descriptor (R286 to R291): a write that leaves EN set over a field out of range is ignored. -/
def Chip.wrFeeder (c : Chip) (p o v : Nat) : Chip :=
  let b := pgSP p
  let c1 := c.putWord .sp b o v
  let was := c.on R.SP_FD_EN b
  let now := c1.on R.SP_FD_EN b
  if now && !c1.feederOk p then c.cfgReject b 8
  else
    let c2 := if !was && now then (c1.fdEnable p).rewriteThresholds p else if was && !now then c1.fdDisable p
      else if now && (o == 0x200 || o == 0x20C) then c1.rewriteThresholds p else c1
    if o = 0x200 ∧ bitOf v 1 then c2.fdClear p else c2

/-- The calibration block of a channel (R332). -/
def Chip.wrCal (c : Chip) (p ch w v : Nat) : Chip :=
  let b := pgSP p
  let put := c.putWord .sp b (0x300 + 32 * ch + 4 * w) v
  match w with
  | 0 => if 5 ≤ v % 8 then c.cfgReject b 8 else put.calKind p ch (c.rd R.SP_CAL_KIND b ch) (v % 8)
  | 1 => put.calFsSet p ch
  | 2 | 3 | 4 | 5 => if c.rd R.SP_CAL_KIND b ch = 4 then c.calRef p ch (w - 2) v else c
  | _ => c

def Chip.wrSp (c : Chip) (p o v : Nat) : Chip :=
  if o = 0x100 then c.wrSpCtrl p v
  else if o = 0x180 then (if bitOf v 0 then c.phClear p else c)
  else if 0x200 ≤ o ∧ o < 0x2D0 then c.wrFeeder p o v
  else if 0x300 ≤ o ∧ o < 0x380 then c.wrCal p ((o - 0x300) / 32) (o % 32 / 4) v
  else c

/-- A register word is written (R7). `own`: this chip took the write from one of its paths; `agreed`: it acts at an agreed tick;
`idp`: the partition that writes. -/
def Chip.applyWord (c : Chip) (a v : Nat) (own agreed : Bool) (idp : Nat) : Chip :=
  match pageOf a with
  | none => c
  | some (k, n) =>
    let o := a % 0x1000
    let b := pageBase k n
    if o = 8 then c.ownerWrite k n v
    else if o = 0xC then c.ctrlWrite k n v
    else if o = 0x18 then c.latchWrite b v
    else if o = 0x1C then (c.wr R.EVT_IRQEN b (v &&& evtMask k)).reIrq b
    else if 0x40 ≤ o ∧ o < 0x50 then (if idp = 0 then c.pmcSelWrite k b ((o - 0x40) / 4) v else c)
    else if o < 0x100 then c
    else match k with
      | .sys => if o = 0x104 then c.resetKeyWrite v else c
      | .plumb | .datum | .sec | .fwu | .xspi | .neg | .clu | .spg => c
      | .seq => c.wrSeq o v
      | .thm => c.wrThm o v
      | .fcu => c.wrFcu o v
      | .fbk => c.wrFbk o v idp
      | .wcap => c.wrWcap o v
      | .arb => c.wrArb o v
      | .pmc => c.wrPmc o v
      | .part => c.wrPart o v
      | .twin => c.wrTwin o v
      | .fab => c.wrFab o v
      | .iic0 => if o = 0x100 then c.wr R.IIC_TGT_PEC_EN pgIIC0 (b2n (bitOf v 8)) else c
      | .iic1 => c.wrIic1 o v own
      | .iic2 => if o = 0x100 then (c.wr R.IIC_ADDR pgIIC2 (v % 128)).wr R.IIC_TGT_PEC_EN pgIIC2 (b2n (bitOf v 8)) else c
      | .host => c.wrHost o v own
      | .gauge => c.wrGauge o v own
      | .bmk => c.wrBmk o v
      | .crown => c.wrCrown o v
      | .hold => c.wrHold o v
      | .felt => c.wrFelt o v
      | .ce => c.wrCe n o v agreed
      | .sp => c.wrSp n o v

end Sys2Proof.Machine
end

