-- ==== Sys2Proof/Machine/Bus.lean ====
section
/-! DEFINITION. Bus.lean: an access on an access path: reach, rights, byte enables, the pairing of R5, side effects, and where an
accepted write goes (R4, R5, R10, R185, R339, R403 to R405, R452, R455, R463, R518). -/

namespace Sys2Proof.Machine

/-- The address of a word operand, brought to a word boundary (R4). -/
def wordAddr (a : Word) : Nat := a.toNat / 4 * 4

/-- The bytes of a word that byte enables name, the others zero (R4). -/
def maskBytes (w : Nat) (be : BE) : Nat := leNat ((upTo 4).map (fun i => if be.getLsbD i then BitVec.ofNat 8 (w / 256 ^ i) else 0))

/-- A register access drops the low word held on its path (R5). -/
def Chip.dropHeld (c : Chip) (k : Nat) : Chip := if (c.path k).held.isSome then c.modPath k (fun t => { t with held := none }) else c

/-! Reads. -/

/-- A read of a register word, with every side effect: the shadow, FR_DATA, RC fields (R5, R7, R455). -/
def Chip.pageRead (c0 : Chip) (p : Path) (k : PageKind) (n a : Nat) : Chip × Nat :=
  let o := a % 0x1000
  let b := pageBase k n
  let idp := p.ident
  let c := c0.dropHeld p.key
  if k = .fbk ∧ 0x840 ≤ o ∧ o < 0x880 then
    let (c1, w) := c.frRead idp ((o - 0x840) / 4)
    (c1, w.toNat)
  else if wideRead k o then
    (c.modPath p.key (fun t => { t with shadow := some (a + 4, BitVec.ofNat 32 (c.regWord k n (o + 4) idp)) }), c.regWord k n o idp)
  else if 4 ≤ o ∧ wideRead k (o - 4) then
    (match (c.path p.key).shadow with
     | some (x, v) => if x = a then (c.modPath p.key (fun t => { t with shadow := none }), v.toNat) else (c, c.regWord k n o idp)
     | none => (c, c.regWord k n o idp))
  else (c.rcClear k b o, c.regWord k n o idp)

/-- A full read of the word at `a`, its rights settled (R4, R185, R452, R463, R516). -/
def State.busRead (s : State) (p : Path) (a : Nat) : State × Nat :=
  if a < 0x400000 then
    (match pageOf a with
     | some (k, n) => let (c, w) := s.chip.pageRead p k n a; ({ s with chip := c }, w)
     | none => (s, 0))
  else if a < 0x800000 then (s, memWord s.mem (a - 0x400000))
  else if a < 0x1000000 then
    let (c, w) := s.chip.fbRead p.key ((a - 0x800000) / 64) (a % 64 / 4)
    ({ s with chip := c }, w.toNat)
  else if a < 0x1800000 then (s, memWord s.cap (a - 0x1000000))
  else (s, 0)

/-- What a read of the word at `a` returns, with no effect (R514). -/
def State.busPeek (s : State) (p : Path) (a : Nat) : Nat :=
  if a < 0x400000 then
    (match pageOf a with
     | some (k, n) => s.chip.regWord k n (a % 0x1000) p.ident
     | none => 0)
  else if a < 0x800000 then memWord s.mem (a - 0x400000)
  else if a < 0x1000000 then (s.chip.fbPeek p.key ((a - 0x800000) / 64) (a % 64 / 4)).toNat
  else if a < 0x1800000 then memWord s.cap (a - 0x1000000)
  else 0

/-- A window or a session is open to its partition (R405). -/
def Chip.pathOpen (c : Chip) (p : Path) : Bool :=
  match p with
  | .bar0 | .iic0 | .iic2 | .dbg => true
  | .bar2 q => c.on R.PART_WIN_EN pgPART q.val
  | .mgmt q => c.on R.PART_SESS_EN pgPART q.val

/-- How an access of a path to the word at `a` fares (R403, R405). -/
def Chip.pathRight (c : Chip) (p : Path) (a : Nat) (wr : Bool) : Right :=
  match p.window with
  | none => .ok
  | some q => if c.pathOpen p then c.right q a wr else .viol

/-- A violation of the path's partition (R404). -/
def Chip.pathViol (c : Chip) (p : Path) (a : Nat) (wr : Bool) : Chip := c.violation p.ident a wr p.code

/-- A full read of the word at `a` on a path that reaches it: what it returns, and whether it was a violation (R404, R405). -/
def State.readWord (s : State) (p : Path) (a : Nat) : State × Nat × Bool :=
  match s.chip.pathRight p a false with
  | .ok => let (s1, w) := s.busRead p a; (s1, w, false)
  | .zero => ({ s with chip := s.chip.dropHeld p.key }, 0, false)
  | .viol => ({ s with chip := (s.chip.dropHeld p.key).pathViol p a false }, 0, true)

/-- A read on a path: the addressed bytes of the word, with the side effects of a full read (R4). -/
def State.pathRead (s : State) (p : Path) (a : Nat) (be : BE) : State :=
  if !s.chip.reaches p a then s
  else
    let (s1, w, _) := s.readWord p a
    { s1 with chip := s1.chip.modPath p.key (fun t => { t with rdata := BitVec.ofNat 32 (maskBytes w be) }) }

/-! Writes. -/

/-- A write of a word acts on this chip alone, in any state of the pair: the pages of R339, the event latches, and TWIN in FOLLOW and
JOINING. -/
def Chip.localWord (c : Chip) (a : Nat) : Bool :=
  let st := c.rd R.TWIN_STATE pgTWIN
  match pageOf a with
  | some (k, _) => k.aon || a % 0x1000 == 0x18 || (k == .twin && (st == 2 || (st == 3 && !c.leads)))
  | none => true

/-- An accepted write of register words goes where R339 sends it. -/
def State.putWords (s : State) (p : Path) (ws : List (Nat × Nat)) : State :=
  let c := s.chip
  let st := c.rd R.TWIN_STATE pgTWIN
  let now (c : Chip) : Chip := foldc ws (fun w c => c.applyWord w.1 w.2 true false p.ident) c
  if ws.all (fun w => c.localWord w.1) then { s with chip := now c }
  else if st = 0 ∨ st = 1 ∨ st = 4 then
    let c1 := now c
    { s with chip := if c.joinerHears then
        foldc ws (fun w c => c.send (.chain (.mirror (.cfg (BitVec.ofNat 32 w.1) (BitVec.ofNat 32 w.2))))) c1 else c1 }
  else if c.paired && c.leads then
    { s with chip := foldc ws (fun w c => c.propose (.cfgWrite (BitVec.ofNat 32 w.1) (BitVec.ofNat 32 w.2))) c }
  else { s with chip := c.bump R.TWIN_CNT pgTWIN 7 }

/-- DMA can be started only through BAR0 (R472): START is not taken from another path. -/
def stripStart (p : Path) (k : PageKind) (o v : Nat) : Nat :=
  if k = .host ∧ 0x200 ≤ o ∧ o < 0x280 ∧ o % 32 = 0x10 ∧ p ≠ .bar0 then v / 2 * 2 else v

/-- A write of a register word with all byte enables, its rights settled: the pairing of R5. `held` is the low word that the path
held before. -/
def State.pairWrite (s : State) (p : Path) (k : PageKind) (a v : Nat) (held : Option (Nat × Word)) : State :=
  let o := a % 0x1000
  if wideWrite k o then { s with chip := s.chip.modPath p.key (fun t => { t with held := some (a, BitVec.ofNat 32 v) }) }
  else if 4 ≤ o ∧ wideWrite k (o - 4) then
    (match held with
     | some (x, lo) => if x + 4 = a then s.putWords p [(x, lo.toNat), (a, v)] else s
     | none => s)
  else s.putWords p [(a, stripStart p k o v)]

/-- A partial register write is discarded, counted and signalled (R4, R473); the host interface counts while it operates (R466). -/
def Chip.partialWrite (c : Chip) : Chip := if !c.hostUp then c else (c.bump R.HOST_CNT_PARTIAL pgHOST).pulse pgHOST 8

/-- Bytes of a word of descriptor memory, by its byte enables, are written; no other address has any (R185, R518). -/
def State.descPut (s : State) (a v : Nat) (be : BE) : State :=
  if 0x400000 ≤ a ∧ a < 0x800000 then
    { s with mem := (upTo 4).foldl (fun m i => if be.getLsbD i then memSet m (a - 0x400000 + i) (BitVec.ofNat 8 (v / 256 ^ i)) else m) s.mem }
  else s

/-- Descriptor memory takes naturally aligned accesses of 1, 2 or 4 bytes (R518). -/
def alignedBE (be : BE) : Bool := [1, 2, 4, 8, 3, 12, 15].contains be.toNat

/-- An accepted write to descriptor memory goes where R339 sends it. -/
def State.descWrite (s : State) (a v : Nat) (be : BE) : State :=
  let c := s.chip
  let st := c.rd R.TWIN_STATE pgTWIN
  let aw := BitVec.ofNat 32 a
  let vw := BitVec.ofNat 32 v
  if st = 0 ∨ st = 1 ∨ st = 4 then
    let s1 := s.descPut a v be
    if c.joinerHears then { s1 with chip := c.send (.chain (.mirror (.desc aw vw be))) } else s1
  else if c.paired && c.leads then { s with chip := c.propose (.descWrite aw vw be) }
  else { s with chip := c.bump R.TWIN_CNT pgTWIN 7 }

/-- A write of the word at `a` on a path that reaches it. Its rights are those of the chip `r`, as the first word of a request of several
words found it (R519, R530). -/
def State.writeWordBy (s : State) (r : Chip) (p : Path) (a v : Nat) (be : BE) : State :=
  let c := s.chip
  if 0x400000 ≤ a ∧ a < 0x800000 then
    if !alignedBE be then s
    else match r.pathRight p a true with
      | .ok => s.descWrite a v be
      | .zero => s
      | .viol => { s with chip := c.pathViol p a true }
  else match pageOf a with
    | none => (match r.pathRight p a true with
      | .ok | .zero => s
      | .viol => { s with chip := c.pathViol p a true })
    | some (k, _) =>
      let held := (c.path p.key).held
      let c1 := c.dropHeld p.key
      if be ≠ 15 then { s with chip := c1.partialWrite }
      else match r.pathRight p a true with
        | .viol => { s with chip := c1.pathViol p a true }
        | .zero => { s with chip := c1 }
        | .ok =>
          if c1.writeBarred p.ident a v then { s with chip := c1.pathViol p a true }
          else ({ s with chip := c1 } : State).pairWrite p k a v held

/-- A write of one word on a path that reaches it. -/
def State.writeWord (s : State) (p : Path) (a v : Nat) (be : BE) : State := s.writeWordBy s.chip p a v be

/-- A write on a path. -/
def State.pathWrite (s : State) (p : Path) (a v : Nat) (be : BE) : State :=
  if s.chip.reaches p a then s.writeWord p a v be else s

/-! Rows: register accesses. -/

/-- The word at an address is the low word of a register read under R5. -/
def isWideLow (a : Nat) : Bool := match pageOf a with | some (k, _) => wideRead k (a % 0x1000) | none => false
/-- The word at an address is the high word of such a register. -/
def isWideHigh (a : Nat) : Bool := match pageOf a with | some (k, _) => decide (4 ≤ a % 0x1000) && wideRead k (a % 0x1000 - 4) | none => false
/-- The word at an address is the low word of a register written under R5. -/
def isWideLowWr (a : Nat) : Bool := match pageOf a with | some (k, _) => wideWrite k (a % 0x1000) | none => false
/-- The word at an address is the high word of such a register. -/
def isWideHighWr (a : Nat) : Bool := match pageOf a with | some (k, _) => decide (4 ≤ a % 0x1000) && wideWrite k (a % 0x1000 - 4) | none => false
/-- The word at an address holds an RC field. -/
def isRc (a : Nat) : Bool := match pageOf a with | some (k, _) => (k.rowsAt (a % 0x1000)).any (fun r => r.1.acc == .rc) | none => false

/-- A register write (R7). -/
def regWrite (s : State) (p : Path) (a v : Word) (be : BE) : State := s.pathWrite p (wordAddr a) v.toNat be

/-- A read of a word of a class of registers. -/
def regRead (s : State) (p : Path) (a : Word) (be : BE) (kind : Nat → Bool) : State :=
  if kind (wordAddr a) then s.pathRead p (wordAddr a) be else s

/-- A write of a word of a class of registers. -/
def regWriteOf (s : State) (p : Path) (a v : Word) (be : BE) (kind : Nat → Bool) : State :=
  if kind (wordAddr a) then s.pathWrite p (wordAddr a) v.toNat be else s

/-- A write of a register at offset `o` of a page; pages lie below descriptor memory (R516). -/
def pageWrite (s : State) (p : Path) (page o : Nat) (v : Word) (be : BE) : State :=
  if page + o < 0x400000 then s.pathWrite p (page + o) v.toNat be else s

/-- An access to descriptor memory (R185, R518). -/
def descAccess (s : State) (p : Path) (a : Word) (wr : Bool) (v : Word) (be : BE) : State :=
  let x := wordAddr a
  if !(decide (0x400000 ≤ x) && decide (x < 0x800000)) then s
  else if wr then s.pathWrite p x v.toNat be
  else if alignedBE be then s.pathRead p x be else s

/-- A read of the Field Book window (R452). -/
def fbkWindowRead (s : State) (p : Path) (a : Word) (be : BE) : State :=
  let x := wordAddr a
  if 0x800000 ≤ x ∧ x < 0x1000000 then s.pathRead p x be else s

/-- A read of FR_DATA (R455). -/
def frDataRead (s : State) (p : Path) (w : Hex) (be : BE) : State := s.pathRead p (pgFBK + 0x840 + 4 * w.val) be

/-- A debugger access (R511, R514). The CONSUME that the debugger selects comes with each read and stands until the next, DESIGN CHOICE
(38). -/
def dbgAccess (s0 : State) (a : Word) (op : DbgOp) (v : Word) : State :=
  let x := wordAddr a
  if !s0.chip.unlocked then s0
  else match op with
  | .write => s0.pathWrite .dbg x v.toNat 15
  | .read consume =>
    let s := s0.onChip (fun c => c.modDbg (fun d => { d with consume := consume }))
    let put (s : State) (w : Nat) : State := { s with chip := s.chip.modPath (Path.key .dbg) (fun t => { t with rdata := BitVec.ofNat 32 w }) }
    if !s0.chip.reaches .dbg x then put s 0
    else if consume then let (s1, w, _) := s.readWord .dbg x; put s1 w
    else put s (s0.busPeek .dbg x)

/-! Meanings of the rows. -/

/-- REGISTER_WRITE (R7): A write to a register that has no row of its own, with each field acting under its access code. -/
def execRegisterWrite (path : Path) (addr : Word) (value : Word) (be : BE) (s : State) : Result :=
  .next (regWrite s path addr value be)

/-- WIDE_LOW_READ (R5): A read of the low word of a 64-bit register loads the path's read shadow with the high word. -/
def execWideLowRead (path : Path) (addr : Word) (be : BE) (s : State) : Result :=
  .next (regRead s path addr be isWideLow)

/-- WIDE_HIGH_READ (R5): A read of the high word returns and empties the path's shadow, or returns the live word. -/
def execWideHighRead (path : Path) (addr : Word) (be : BE) (s : State) : Result :=
  .next (regRead s path addr be isWideHigh)

/-- WIDE_LOW_WRITE (R5): A write of the low word of a 64-bit register is held on the path. -/
def execWideLowWrite (path : Path) (addr : Word) (value : Word) (be : BE) (s : State) : Result :=
  .next (regWriteOf s path addr value be isWideLowWr)

/-- WIDE_HIGH_WRITE (R5): A high-word write directly following its low word takes effect as one 64-bit write; otherwise it is
discarded. -/
def execWideHighWrite (path : Path) (addr : Word) (value : Word) (be : BE) (s : State) : Result :=
  .next (regWriteOf s path addr value be isWideHighWr)

/-- RC_READ (R7): A read of an RC field, peak registers included, returns the value and clears it. -/
def execRcRead (path : Path) (addr : Word) (be : BE) (s : State) : Result :=
  .next (regRead s path addr be isRc)

/-- PG_OWNER_WRITE (R13): A write to PG_OWNER changes owner and lock, subject to page kind and port or engine use. -/
def execPgOwnerWrite (path : Path) (page : Word) (value : Word) (be : BE) (s : State) : Result :=
  .next (pageWrite s path (page.toNat / 0x1000 * 0x1000) 8 value be)

/-- PG_EVT_LATCH_WRITE (R18): A W1C write to PG_EVT_LATCH clears latched event bits and may resend the MSI-X message. -/
def execPgEvtLatchWrite (path : Path) (page : Word) (value : Word) (be : BE) (s : State) : Result :=
  .next (pageWrite s path (page.toNat / 0x1000 * 0x1000) 0x18 value be)

/-- SEQ_SAVE (R71): SEQ_CTRL.SAVE validates SEQ_RAIL0-7 and stores them as the run set, or latches SEQ_CFG_REJECT. -/
def execSeqSave (path : Path) (value : Word) (be : BE) (s : State) : Result :=
  .next (pageWrite s path (pgSEQ) 0x120 value be)

/-- SEQ_RESTART (R70): SEQ_CTRL.RESTART clears ABORTS and starts the sequence from ABORTED or LOCKOUT. -/
def execSeqRestart (path : Path) (value : Word) (be : BE) (s : State) : Result :=
  .next (pageWrite s path (pgSEQ) 0x120 value be)

/-- RESET_KEY_WRITE (R91): A write to SYS.RESET starts, completes or aborts the two-write reset key sequence. -/
def execResetKeyWrite (path : Path) (value : Word) (be : BE) (s : State) : Result :=
  .next (pageWrite s path (pgSYS) 0x104 value be)

/-- DISC_START (R133): A write of SP_CTRL.DISC_START restarts discovery from ALIGN. -/
def execDiscStart (path : Path) (port : Port) (value : Word) (be : BE) (s : State) : Result :=
  .next (pageWrite s path (pgSP port.val) 0x100 value be)

/-- SAFE_ACT_WRITE (R136): A write of SP_CTRL.SAFE_ACT is checked against CAPS and sent to the stage end. -/
def execSafeActWrite (path : Path) (port : Port) (value : Word) (be : BE) (s : State) : Result :=
  .next (pageWrite s path (pgSP port.val) 0x100 value be)

/-- CE_SELFTEST_START (R169): CE_SELFTEST.START begins an engine self-check. -/
def execCeSelftestStart (path : Path) (engine : Engine) (value : Word) (be : BE) (s : State) : Result :=
  .next (pageWrite s path (pgCE engine.val) 0x108 value be)

/-- CE_DOORBELL (R170): A write to CE_DOORBELL makes event slots ready. -/
def execCeDoorbell (path : Path) (engine : Engine) (hi : Bool) (value : Word) (be : BE) (s : State) : Result :=
  .next (pageWrite s path (pgCE engine.val) (if hi then 0x110 else 0x10C) value be)

/-- CE_CANCEL (R176): A write to CE_CANCEL withdraws pending instances of class-B and class-C slots. -/
def execCeCancel (path : Path) (engine : Engine) (hi : Bool) (value : Word) (be : BE) (s : State) : Result :=
  .next (pageWrite s path (pgCE engine.val) (if hi then 0x118 else 0x114) value be)

/-- DESCRIPTOR_ACCESS (R185): A read or write of descriptor memory is served within the partition's own region. -/
def execDescriptorAccess (path : Path) (addr : Word) (wr : Bool) (value : Word) (be : BE) (s : State) : Result :=
  .next (descAccess s path addr wr value be)

/-- PH_CTRL_CLEAR (R222): PH_CTRL.CLEAR leaves LATCHED, or clears the stage-end crowbar after a STOP command. -/
def execPhCtrlClear (path : Path) (port : Port) (value : Word) (be : BE) (s : State) : Result :=
  .next (pageWrite s path (pgSP port.val) 0x180 value be)

/-- FS_CFG_WRITE (R239): A write to FS_CFG clears RATE_HALVED and triggers a recompute. -/
def execFsCfgWrite (path : Path) (sec : Sec) (value : Word) (be : BE) (s : State) : Result :=
  .next (pageWrite s path (pgFELT) (0x200 + 0x40 * sec.val) value be)

/-- HU_CFG_WRITE (R246): A write to HU_CFG enables or disables hold-up, or is refused with CFG_REJECT. -/
def execHuCfgWrite (path : Path) (sec : Sec) (value : Word) (be : BE) (s : State) : Result :=
  .next (pageWrite s path (pgHOLD) (0x200 + 0x40 * sec.val) value be)

/-- CROWN_NODE_WRITE (R262): A write to a Crown node block, limited for tenants, triggers an extra update. -/
def execCrownNodeWrite (path : Path) (node : CNode) (word : Oct) (value : Word) (be : BE) (s : State) : Result :=
  .next (pageWrite s path (pgCROWN) (0x200 + 0x20 * node.val + 4 * word.val) value be)

/-- STR_CFG_WRITE (R270): A write setting a string's VALID is accepted or refused with CFG_REJECT. -/
def execStrCfgWrite (path : Path) (strN : Str) (value : Word) (be : BE) (s : State) : Result :=
  .next (pageWrite s path (pgGAUGE) (0x200 + 0x40 * strN.val) value be)

/-- HIB_ENTER (R281): GA_CTRL.HIB_ENTER stops CMD frames, writes battery records and powers the main rails down. -/
def execHibEnter (path : Path) (value : Word) (be : BE) (s : State) : Result :=
  .next (pageWrite s path (pgGAUGE) 0x100 value be)

/-- FEEDER_ENABLE (R287): A write setting FD_CTRL.EN places the feeder task or refuses it. -/
def execFeederEnable (path : Path) (port : Port) (value : Word) (be : BE) (s : State) : Result :=
  .next (pageWrite s path (pgSP port.val) 0x200 value be)

/-- FEEDER_CLEAR (R291): FD_CTRL.CLEAR leaves TRIPPED, clearing a stage-end fast trip after a STOP command. -/
def execFeederClear (path : Path) (port : Port) (value : Word) (be : BE) (s : State) : Result :=
  .next (pageWrite s path (pgSP port.val) 0x200 value be)

/-- CAL_CFG_WRITE (R332): A write of a channel's CAL_CFG sets its kind, resetting REF values, or is refused. -/
def execCalCfgWrite (path : Path) (port : Port) (ch : Chan) (value : Word) (be : BE) (s : State) : Result :=
  .next (pageWrite s path (pgSP port.val) (0x300 + 0x20 * ch.val) value be)

/-- CAL_REF_WRITE (R332): A P0 write to GAIN, OFFSET or uncertainty of a REF channel sets it and clears UNCAL. -/
def execCalRefWrite (path : Path) (port : Port) (ch : Chan) (word : Chan) (value : Word) (be : BE) (s : State) : Result :=
  .next (pageWrite s path (pgSP port.val) (0x308 + 0x20 * ch.val + 4 * word.val) value be)

/-- TW_REJOIN (R366): TW_CTRL.REJOIN clears JOIN_FAIL and restarts JOINING. -/
def execTwRejoin (path : Path) (value : Word) (be : BE) (s : State) : Result :=
  .next (pageWrite s path (pgTWIN) 0x100 value be)

/-- TW_TRAVERSE (R359): TW_CTRL.TRAVERSE requests one role swap. -/
def execTwTraverse (path : Path) (value : Word) (be : BE) (s : State) : Result :=
  .next (pageWrite s path (pgTWIN) 0x100 value be)

/-- QUIET_A (R393): FAB_CTRL.QUIET_A makes the LEAD propose sleep of plane A. -/
def execQuietA (path : Path) (value : Word) (be : BE) (s : State) : Result :=
  .next (pageWrite s path (pgFAB) 0x104 value be)

/-- QUIET_B (R393): FAB_CTRL.QUIET_B makes the LEAD propose sleep of plane B. -/
def execQuietB (path : Path) (value : Word) (be : BE) (s : State) : Result :=
  .next (pageWrite s path (pgFAB) 0x104 value be)

/-- FAB_WAKE (R395): FAB_CTRL.WAKE is a wake request, broadcast as WAKE. -/
def execFabWake (path : Path) (value : Word) (be : BE) (s : State) : Result :=
  .next (pageWrite s path (pgFAB) 0x104 value be)

/-- PT_CFG_WRITE (R406): A write to PT_CFG sets window, session and QUIESCE of a partition's pages. -/
def execPtCfgWrite (path : Path) (part : Part) (value : Word) (be : BE) (s : State) : Result :=
  .next (pageWrite s path (pgPART) (0x200 + 0x10 * part.val) value be)

/-- CREDIT_WRITE (R415): A write to CREDIT is accepted for the next window or refused with CFG_REJECT. -/
def execCreditWrite (path : Path) (part : Part) (value : Word) (be : BE) (s : State) : Result :=
  .next (pageWrite s path (pgARB) (0x200 + 0x10 * part.val) value be)

/-- QUOTA_WRITE (R407): A write to FBK_QUOTA is accepted or refused when tenant quotas would exceed 65,536. -/
def execQuotaWrite (path : Path) (part : Part) (value : Word) (be : BE) (s : State) : Result :=
  .next (pageWrite s path (pgPART) (0x204 + 0x10 * part.val) value be)

/-- FC_OUTSTANDING_CLEAR (R428): A W1C write to FC_OUTSTANDING clears outstanding sources other than S3. -/
def execFcOutstandingClear (path : Path) (word : Oct) (value : Word) (be : BE) (s : State) : Result :=
  .next (pageWrite s path (pgFCU) (0x600 + 4 * word.val) value be)

/-- FBK_ERASE_KEY (R451): A write to FB_CTRL.ERASE starts, completes or aborts the erase key sequence. -/
def execFbkEraseKey (path : Path) (value : Word) (be : BE) (s : State) : Result :=
  .next (pageWrite s path (pgFBK) 0x114 value be)

/-- FBK_WINDOW_READ (R452): A read of the Field Book window latches and checks a slot or returns the latched copy. -/
def execFbkWindowRead (path : Path) (addr : Word) (be : BE) (s : State) : Result :=
  .next (fbkWindowRead s path addr be)

/-- FR_DATA_READ (R455): A read of FR_DATA word 0 latches the partition's next record and advances its cursor. -/
def execFrDataRead (path : Path) (word : Hex) (be : BE) (s : State) : Result :=
  .next (frDataRead s path word be)

/-- WCAP_ARM (R459): CS_CTRL.ARM arms a capture set or is refused. -/
def execWcapArm (path : Path) (setN : Oct) (value : Word) (be : BE) (s : State) : Result :=
  .next (pageWrite s path (pgWCAP) (0x220 + 0x40 * setN.val) value be)

/-- WCAP_TRIGGER (R459): CS_CTRL.TRIGGER triggers an armed set manually. -/
def execWcapTrigger (path : Path) (setN : Oct) (value : Word) (be : BE) (s : State) : Result :=
  .next (pageWrite s path (pgWCAP) (0x220 + 0x40 * setN.val) value be)

/-- WCAP_ABORT (R459): CS_CTRL.ABORT returns an armed or posting set to IDLE. -/
def execWcapAbort (path : Path) (setN : Oct) (value : Word) (be : BE) (s : State) : Result :=
  .next (pageWrite s path (pgWCAP) (0x220 + 0x40 * setN.val) value be)

/-- DMA_START (R472): A write of START begins a host DMA channel, or ends it with RANGE. -/
def execDmaStart (path : Path) (chan : Chan) (value : Word) (be : BE) (s : State) : Result :=
  .next (pageWrite s path (pgHOST) (0x210 + 0x20 * chan.val) value be)

/-- IIC1_START (R480): A write of IIC1 CMD.START begins a controller transaction. -/
def execIic1Start (path : Path) (value : Word) (be : BE) (s : State) : Result :=
  .next (pageWrite s path (pgIIC1) 0x114 value be)

/-- PMC_SEL_WRITE (R507): A write changing EVENT or CHAIN clears the counter and starts counting the new selection. -/
def execPmcSelWrite (path : Path) (page : Word) (sel : Chan) (value : Word) (be : BE) (s : State) : Result :=
  .next (pageWrite s path (page.toNat / 0x1000 * 0x1000) (0x40 + 4 * sel.val) value be)

/-- SNAP (R509): A write of SNAP_CTRL.SNAP schedules a counter snapshot, or is refused. -/
def execSnap (path : Path) (value : Word) (be : BE) (s : State) : Result :=
  .next (pageWrite s path (pgPMC) 0x100 value be)

/-- DBG_ACCESS (R514): A debugger BAR0 read or write with P0 identity, with or without side effects. -/
def execDbgAccess (addr : Word) (op : DbgOp) (value : Word) (s : State) : Result :=
  .next (dbgAccess s addr op value)

end Sys2Proof.Machine
end

