-- ==== Sys2Proof/Machine/Targets.lean ====
section
/-! DEFINITION. Targets.lean: the two-wire targets IIC0 and IIC2 (R474 to R479) and the management messages of the fabric (R385,
R405, R530). -/

namespace Sys2Proof.Machine

/-! Two-wire targets. Both targets share one register file layout (R475). -/

end Sys2Proof.Machine

namespace Sys2Proof

open Sys2Proof.Machine

/-- The number of a target's register file. -/
def Tgt.key : Tgt → Nat
  | .iic0 => 0
  | .iic2 => 1
/-- The page of a target. -/
def Tgt.page : Tgt → Nat
  | .iic0 => pgIIC0
  | .iic2 => pgIIC2
/-- The access path of a target (R5). -/
def Tgt.path : Tgt → Path
  | .iic0 => .iic0
  | .iic2 => .iic2

end Sys2Proof

namespace Sys2Proof.Machine

/-- The target answers its address (R466, R479): IIC0 while MGMT runs; IIC2 while Plumb runs and its clock is running. -/
def Chip.tgtOn (c : Chip) (t : Tgt) : Bool :=
  match t with
  | .iic0 => c.hostUp
  | .iic2 => c.plumbRuns && !c.on R.PLUMB_HIBERNATING pgPLUMB && !(c.iic 1).stretch

/-- The register file of a target. -/
def Chip.tgt (c : Chip) (t : Tgt) : IicSt := c.iic t.key
def Chip.modTgt (c : Chip) (t : Tgt) (f : IicSt → IicSt) : Chip := c.modIic t.key f

/-- A flag of byte 0x07 is set: 0 WIN_ERR, 1 PEC_ERR, 2 PARTIAL (R475). -/
def Chip.tgtFlag (c : Chip) (t : Tgt) (n : Nat) : Chip := c.modTgt t (fun q => { q with flags := q.flags ||| (1#3 <<< n) })

/-- A transaction ends: it is counted and DONE is signalled (R481). -/
def Chip.tgtDone (c : Chip) (t : Tgt) : Chip := (c.bump R.IIC_CNT t.page 0).pulse t.page 0

/-- The page byte of window byte `k` (R475, R476). -/
def Chip.winAddr (c : Chip) (t : Tgt) (k : Nat) : Nat := (c.tgt t).base.toNat + 128 * (c.tgt t).off + k

/-- The selected page is reachable (R477, R517). -/
def Chip.winReach (c : Chip) (t : Tgt) : Bool :=
  let b := (c.tgt t).base.toNat
  decide (b < 0x1800000) && (decide (0x400000 ≤ b) || (pageOf b).isSome) && c.reaches t.path b

/-- A byte of the register file outside the window, as read (R475). -/
def Chip.tgtByte (c : Chip) (t : Tgt) (i : Nat) : Nat :=
  let q := c.tgt t
  match i with
  | 0x00 => 0x92
  | 0x01 => 0x91
  | 0x02 => 1
  | 0x03 => c.rd R.SYS_TWIN_ID pgSYS + 2 * c.rd R.TWIN_STATE pgTWIN + 16 * c.rd R.TWIN_ROLE pgTWIN
  | 0x04 => c.rd R.SYS_STEP pgSYS + 16 * c.rd R.SYS_RESULT pgSYS
  | 0x05 => c.rd R.FCU_MAX_SEV pgFCU + 4 * c.rd R.FCU_FLT_OUT pgFCU + 16 * c.rd R.FCU_FLT_IN pgFCU
  | 0x06 => c.rd R.THM_STEP pgTHM + 16 * c.rd R.PLUMB_HIBERNATING pgPLUMB + 32 * c.rd R.PLUMB_MAIN_UP pgPLUMB
  | 0x07 => q.flags.toNat
  | 0x08 => c.rd R.THM_T_MAX pgTHM % 256
  | 0x09 => c.rd R.THM_T_MAX pgTHM / 256
  | 0x10 => q.base.toNat % 256
  | 0x11 => q.base.toNat / 2 ^ 8 % 256
  | 0x12 => q.base.toNat / 2 ^ 16 % 256
  | 0x13 => q.base.toNat / 2 ^ 24
  | 0x14 => q.off
  | _ => 0

/-- A byte read through the window: the full read of its word, unless the transaction's latch holds it (R476). -/
def State.winRead (s : State) (t : Tgt) (k : Nat) : State × Nat :=
  let c := s.chip
  if !c.winReach t then ({ s with chip := c.tgtFlag t 0 }, 0)
  else
    let a := c.winAddr t k / 4 * 4
    let sh := 256 ^ (k % 4)
    match (c.tgt t).latch with
    | some (x, w) => if x = a then (s, w.toNat / sh % 256) else
        let (s1, v, _) := s.readWord t.path a
        ({ s1 with chip := s1.chip.modTgt t (fun q => { q with latch := some (a, BitVec.ofNat 32 v) }) }, v / sh % 256)
    | none =>
      let (s1, v, _) := s.readWord t.path a
      ({ s1 with chip := s1.chip.modTgt t (fun q => { q with latch := some (a, BitVec.ofNat 32 v) }) }, v / sh % 256)

/-- One byte of a read at the pointer, which then increments (R475). -/
def State.tgtReadByte (s : State) (t : Tgt) : State × Nat :=
  let p := (s.chip.tgt t).ptr
  let (s1, v) := if 0x80 ≤ p then s.winRead t (p - 0x80) else (s, s.chip.tgtByte t p)
  ({ s1 with chip := s1.chip.modTgt t (fun q => { q with ptr := (p + 1) % 256 }) }, v)

/-- The bytes of a read. -/
def State.tgtReads (s : State) (t : Tgt) : Nat → Bytes → State × Bytes
  | 0, acc => (s, acc.reverse)
  | n + 1, acc => let (s1, v) := s.tgtReadByte t; s1.tgtReads t n (BitVec.ofNat 8 v :: acc)

/-- A read transaction (R475). -/
def iicTargetRead (s : State) (t : Tgt) (n : Nat) : State :=
  if !s.chip.tgtOn t then s
  else
    let s0 : State := { s with chip := s.chip.modTgt t (fun q => { q with latch := none }) }
    let (s1, bs) := s0.tgtReads t n []
    { s1 with chip := (s1.chip.modTgt t (fun q => { q with reads := bs, latch := none })).tgtDone t }

/-- A window write that commits no word is discarded under R4 (R476). -/
def Chip.winDrop (c : Chip) (t : Tgt) : Chip := ((c.modTgt t (fun q => { q with wr := [] })).tgtFlag t 2).partialWrite

/-- A byte written through the window: a word commits at its byte 3 when bytes 0 to 2 came in the same transaction (R476). -/
def State.winWrite (s : State) (t : Tgt) (k : Nat) (v : Byte) : State :=
  let c := s.chip
  let ws := (c.tgt t).wr ++ [(k, v)]
  if k % 4 ≠ 3 then { s with chip := c.modTgt t (fun q => { q with wr := ws }) }
  else if !c.winReach t then { s with chip := (c.modTgt t (fun q => { q with wr := [] })).tgtFlag t 0 }
  else if ws.length = 4 then
    ({ s with chip := c.modTgt t (fun q => { q with wr := [] }) } : State).writeWord t.path (c.winAddr t k / 4 * 4) (leNat (ws.map (·.2))) 15
  else { s with chip := c.winDrop t }

/-- One byte of a write at the pointer, which then increments (R475, R476). -/
def State.tgtWriteByte (s : State) (t : Tgt) (v : Byte) : State :=
  let c := s.chip
  let p := (c.tgt t).ptr
  let s1 : State :=
    if 0x80 ≤ p then s.winWrite t (p - 0x80) v
    else { s with chip := c.modTgt t (fun q =>
      if p = 7 then { q with flags := q.flags &&& ~~~(BitVec.ofNat 3 v.toNat) }
      else if 0x10 ≤ p ∧ p < 0x13 then { q with baseNew := mapSet q.baseNew p v }
      else if p = 0x13 then
        let byte (i : Nat) : Nat := (mapGet q.baseNew i (BitVec.ofNat 8 (q.base.toNat / 256 ^ (i - 0x10)))).toNat
        let b := byte 0x10 + 2 ^ 8 * byte 0x11 + 2 ^ 16 * byte 0x12 + 2 ^ 24 * v.toNat
        { q with base := BitVec.ofNat 32 (b / 4096 * 4096), baseNew := [] }
      else if p = 0x14 then { q with off := v.toNat % 32 }
      else q) }
  { s1 with chip := s1.chip.modTgt t (fun q => { q with ptr := (p + 1) % 256 }) }

/-- The bytes of a write: the first sets the pointer; what the window was given of a word that did not commit is discarded. -/
def State.tgtWrite (s : State) (t : Tgt) (bs : Bytes) : State :=
  match bs with
  | [] => s
  | b :: rest =>
    let s0 : State := { s with chip := s.chip.modTgt t (fun q => { q with ptr := b.toNat, latch := none, wr := [] }) }
    let s1 := foldc rest (fun v s => s.tgtWriteByte t v) s0
    if (s1.chip.tgt t).wr = [] then s1
    else if s1.chip.winReach t then { s1 with chip := s1.chip.winDrop t }
    else { s1 with chip := (s1.chip.modTgt t (fun q => { q with wr := [] })).tgtFlag t 0 }

/-- A write transaction (R475). With PEC_EN it is held until its STOP (R478). -/
def iicTargetWrite (s : State) (t : Tgt) (bs : Bytes) : State :=
  let c := s.chip
  if !c.tgtOn t then s
  else if c.on R.IIC_TGT_PEC_EN t.page then { s with chip := c.modTgt t (fun q => { q with pec := bs }) }
  else let s1 := s.tgtWrite t bs; { s1 with chip := s1.chip.tgtDone t }

/-- The STOP of a write under PEC_EN: it is applied when its last byte is the PEC over the address and every preceding byte (R478). -/
def iicPecStop (s : State) (t : Tgt) : State :=
  let c := s.chip
  let bs := (c.tgt t).pec
  if !c.tgtOn t || !c.on R.IIC_TGT_PEC_EN t.page || bs == [] then s
  else
    let c1 := c.modTgt t (fun q => { q with pec := [] })
    let adr := BitVec.ofNat 8 (2 * c.rd R.IIC_ADDR t.page)
    if pec (adr :: bs.dropLast) == (bs.getLastD 0).toNat then
      let s1 := ({ s with chip := c1 } : State).tgtWrite t bs.dropLast
      { s1 with chip := s1.chip.tgtDone t }
    else { s with chip := (c1.tgtFlag t 1).tgtDone t }

/-- SCL has been low for 25 ms: the bus is released and the transaction discarded (R474). -/
def iicSclTimeout (c : Chip) (t : Tgt) : Chip :=
  if c.tgtOn t then (c.modTgt t (fun q => { q with latch := none, wr := [], pec := [] })).bump R.IIC_CNT t.page 1 else c

/-- IIC2 recognises its address without a clock: in hibernation this is the wake, and SCL is held for at most 2 ms (R283, R479). -/
def iic2AddrMatch (c : Chip) (addr : Nat) : Chip :=
  if c.plumbRuns && c.on R.PLUMB_HIBERNATING pgPLUMB && addr == c.rd R.IIC_ADDR pgIIC2 then
    ((c.hibWakeUp 2).modIic 1 (fun q => { q with stretch := true })).arm (tmKey tmStretch 0) (2 * dqMs)
  else c

/-- SCL is released: the Plumb clock runs, or 2 ms have passed and the next byte is not acknowledged (R479). -/
def iic2StretchEnd (c : Chip) (clock : Bool) : Chip :=
  if !(c.iic 1).stretch || (!clock && !c.due (tmKey tmStretch 0)) then c
  else
    let c1 := (c.modIic 1 (fun q => { q with stretch := false })).disarm (tmKey tmStretch 0)
    if clock then c1 else c1.bump R.IIC_CNT pgIIC2 2

/-! Management messages (R385). -/

/-- What the check of an authenticator takes beside the key: the nonce, the header, and the payload with its TAG. -/
def mgmtCover (h : SurveyHdr) (pl : Bytes) : Bytes := leBytes h.src 6 ++ leBytes h.msgId.toNat 6 ++ surveyBytes h ++ pl

/-- The session key of a partition (R397). -/
def Chip.sessKey (c : Chip) (p : Nat) : Bytes :=
  [R.FAB_SESS_KEY0, R.FAB_SESS_KEY1, R.FAB_SESS_KEY2, R.FAB_SESS_KEY3, R.FAB_SESS_KEY4, R.FAB_SESS_KEY5, R.FAB_SESS_KEY6, R.FAB_SESS_KEY7].flatMap
    (fun f => leBytes (c.rd f pgFAB p) 4)

/-- A management message is taken (R385, R405): the chip after the checks, and whether the message is to be applied. -/
def Chip.mgmtTake (c : Chip) (h : SurveyHdr) (pl : Bytes) (wr : Bool) : Chip × Bool :=
  let p := h.part.val
  let a := leAt pl 4 4
  if !c.accepts h 4 then (c, false)
  else if !c.on R.PART_SESS_EN pgPART p then (c.violation p a wr 1, false)
  else if !Config.sessionTagValid p (c.sessKey p ++ mgmtCover h pl) then ((c.bump R.FAB_CNT pgFAB 6).violation p a wr 1, false)
  else
    let (c1, ok) := c.relRx h
    (c1.modFab (fun q => { q with sessAt := mapSet q.sessAt p c.now }), ok)

/-- The answer to a READ or WRITE, sent reliably; its TAG depends on a key and is a free value of the model (R385). -/
def Chip.mgmtAnswer (c : Chip) (h : SurveyHdr) (count status addr : Nat) (data : Bytes) : Chip :=
  let (tag, c1) := c.free
  c1.fabRel 4 0 (h.src / 2) (some (decide (h.src % 2 = 1))) h.part.val
    ([3, BitVec.ofNat 8 count, BitVec.ofNat 8 status, 0] ++ leBytes addr 4 ++ data ++ leBytes tag 8)

/-- The words of a message lie outside what a session can address (R530). -/
def mgmtBad (addr count : Nat) : Bool :=
  addr % 4 != 0 || count == 0 || decide (64 < count) || decide (0x800000 < addr + 4 * count) || addr / 4096 != (addr + 4 * count - 1) / 4096

/-- The words of a READ, in ascending order, and whether one was a violation (R519). -/
def State.mgmtReads (s : State) (p : Part) (addr : Nat) : Nat → Bytes → Bool → State × Bytes × Bool
  | 0, acc, bad => (s, acc, bad)
  | n + 1, acc, bad =>
    let (s1, w, v) := s.readWord (.mgmt p) addr
    s1.mgmtReads p (addr + 4) n (acc ++ leBytes w 4) (bad || v)

/-- The words of a WRITE, in ascending order and by the ownership that the first found (R530), and whether one was a violation. -/
def State.mgmtWrites (s : State) (r : Chip) (p : Part) (addr : Nat) : List Nat → Bool → State × Bool
  | [], bad => (s, bad)
  | v :: vs, bad =>
    let was := s.chip.rd R.PART_CNT_VIOL pgPART p.val
    let s1 := s.writeWordBy r (.mgmt p) addr v 15
    s1.mgmtWrites r p (addr + 4) vs (bad || s1.chip.rd R.PART_CNT_VIOL pgPART p.val != was)

/-- A READ message (R385, R530). -/
def mgmtRead (s : State) (h : SurveyHdr) (pl : Bytes) : State :=
  if leAt pl 0 1 ≠ 1 then s
  else
    let (c1, ok) := s.chip.mgmtTake h pl false
    let s1 : State := { s with chip := c1 }
    if !ok then s1
    else
      let a := leAt pl 4 4
      let n := leAt pl 1 1
      if mgmtBad a n then { s1 with chip := c1.mgmtAnswer h 0 2 a [] }
      else
        let (s2, bs, bad) := s1.mgmtReads h.part a n [] false
        { s2 with chip := s2.chip.mgmtAnswer h n (b2n bad) a bs }

/-- A WRITE message (R385, R530). -/
def mgmtWrite (s : State) (h : SurveyHdr) (pl : Bytes) : State :=
  if leAt pl 0 1 ≠ 2 then s
  else
    let (c1, ok) := s.chip.mgmtTake h pl true
    let s1 : State := { s with chip := c1 }
    if !ok then s1
    else
      let a := leAt pl 4 4
      let n := leAt pl 1 1
      if mgmtBad a n then { s1 with chip := c1.mgmtAnswer h 0 2 a [] }
      else
        let (s2, bad) := s1.mgmtWrites s1.chip h.part a ((upTo n).map (fun i => leAt pl (8 + 4 * i) 4)) false
        { s2 with chip := s2.chip.mgmtAnswer h n (b2n bad) a [] }

/-- A RESPONSE message: it answers a request of this node (R385). -/
def mgmtResponse (c : Chip) (h : SurveyHdr) (pl : Bytes) : Chip :=
  if leAt pl 0 1 ≠ 3 then c
  else
    let (c1, ok) := c.mgmtTake h pl false
    if ok then c1.modFab (fun q => { q with mgmtRsp := some (h.part.val, pl) }) else c1

/-! Meanings of the rows. -/

/-- MGMT_READ (R385): A fabric MGMT READ is authenticated, applied through the partition window and answered. -/
def execMgmtRead (hdr : SurveyHdr) (payload : Bytes) (s : State) : Result :=
  .next (mgmtRead s hdr payload)

/-- MGMT_WRITE (R385): A fabric MGMT WRITE is authenticated, applied under R339 and answered. -/
def execMgmtWrite (hdr : SurveyHdr) (payload : Bytes) (s : State) : Result :=
  .next (mgmtWrite s hdr payload)

/-- MGMT_RESPONSE (R385): A fabric MGMT RESPONSE is received by the requester. -/
def execMgmtResponse (hdr : SurveyHdr) (payload : Bytes) (s : State) : Result :=
  .next (s.onChip (fun c => mgmtResponse c hdr payload))

/-- IIC_TARGET_WRITE (R475): An IIC0 or IIC2 write transaction sets the pointer and writes the register file. -/
def execIicTargetWrite (tgt : Tgt) (bytes : Bytes) (s : State) : Result :=
  .next (iicTargetWrite s tgt bytes)

/-- IIC_TARGET_READ (R475): An IIC0 or IIC2 read transaction returns bytes from the pointer. -/
def execIicTargetRead (tgt : Tgt) (count : Nat) (s : State) : Result :=
  .next (iicTargetRead s tgt count)

/-- IIC_PEC_STOP (R478): With PEC_EN a write is applied at STOP only if its PEC is correct. -/
def execIicPecStop (tgt : Tgt) (s : State) : Result :=
  .next (iicPecStop s tgt)

/-- IIC_SCL_TIMEOUT (R474): SCL low for 25 ms makes a target release the bus and discard the transaction. -/
def execIicSclTimeout (tgt : Tgt) (s : State) : Result :=
  .next (s.onChip (fun c => iicSclTimeout c tgt))

/-- IIC2_ADDR_MATCH (R479): IIC2 recognises its address without a clock, acknowledges and stretches SCL. -/
def execIic2AddrMatch (addr : Nat) (s : State) : Result :=
  .next (s.onChip (fun c => iic2AddrMatch c addr))

/-- IIC2_STRETCH_END (R479): SCL is released when the Plumb clock runs, or after 2 ms with a NACK of the next byte. -/
def execIic2StretchEnd (clock : Bool) (s : State) : Result :=
  .next (s.onChip (fun c => iic2StretchEnd c clock))

end Sys2Proof.Machine
end

