-- ==== Sys2Proof/Machine/Agreed.lean ====
section
/-! DEFINITION. Agreed.lean: agreed ticks (R171, R340), MIRROR messages (R335, R339, R347, R357) and the phases of joining (R357,
R365). -/

namespace Sys2Proof.Machine

/-! Law state as it is mirrored (R347, R357). -/

/-- The numeric state of a law, in the order of a MIRROR message: its registers, the run of missing updates, whether the last
update was automatic, the four predictions, and the references that a SHARE_MPC publishes. -/
def LawSt.vals (l : LawSt) : List F32 :=
  [l.integ, l.dPrev, l.yPrev, l.uPrev, l.uOut, l.e1, l.e2, l.e3, l.u1, l.u2, l.u3, l.x1, l.x2, l.w1, l.w2, l.profR, l.profV, l.profA,
    l.rSs, l.rUsed, l.yLast, l.iTotPrev, BitVec.ofNat 32 l.run, BitVec.ofNat 32 (b2n l.auto)]
  ++ (List.range 4).map (fun k => (l.preds[k]?).getD 0)
  ++ [BitVec.ofNat 32 (b2n l.profSet), BitVec.ofNat 32 (b2n l.preset.isSome), l.preset.getD 0, BitVec.ofNat 32 l.status.toNat,
      BitVec.ofNat 32 l.code.toNat, l.cntSat, l.cntOvr, l.cntMiss, BitVec.ofNat 32 (b2n l.satRef), BitVec.ofNat 32 (b2n l.degraded)]
  ++ l.refs.flatMap (fun r => [BitVec.ofNat 32 r.1, r.2])

/-- References from a flat list of ports and values. -/
def pairUp : List F32 → List (Nat × F32)
  | p :: v :: rest => (p.toNat, v) :: pairUp rest
  | _ => []

/-- A law with the numeric state of a MIRROR message. -/
def LawSt.install (l : LawSt) (v : List F32) : LawSt :=
  let g (k : Nat) : F32 := (v[k]?).getD 0
  { l with
    integ := g 0, dPrev := g 1, yPrev := g 2, uPrev := g 3, uOut := g 4, e1 := g 5, e2 := g 6, e3 := g 7, u1 := g 8, u2 := g 9
    u3 := g 10, x1 := g 11, x2 := g 12, w1 := g 13, w2 := g 14, profR := g 15, profV := g 16, profA := g 17, rSs := g 18
    rUsed := g 19, yLast := g 20, iTotPrev := g 21, run := (g 22).toNat, auto := g 23 != 0
    preds := (v.drop 24).take 4, profSet := g 28 != 0, preset := if g 29 = 0 then none else some (g 30)
    status := BitVec.ofNat 16 (g 31).toNat, code := BitVec.ofNat 4 (g 32).toNat, cntSat := g 33, cntOvr := g 34, cntMiss := g 35
    satRef := g 36 != 0, degraded := g 37 != 0, refs := pairUp (v.drop 38) }

/-- What a string's estimation keeps, as a MIRROR message (R347, R357). -/
def Chip.strMsg (c : Chip) (n : Nat) : MirrorMsg :=
  let w (n : Nat) : Word := BitVec.ofNat 32 n
  let v := c.strWork n
  .service 4 n [v.soc, v.unc, v.wh, v.soh, w v.tStr, w (b2n v.below), w (b2n v.rest), w (b2n v.empty), w (b2n v.held)]

/-- The LEAD sends the calibration in use of a port, a class-C result (R347). -/
def Chip.mirrorCal (c : Chip) (p : Nat) : Chip :=
  foldc [0, 1, 2, 3] (fun ch c => (c.sendCalRegs p ch).send (.chain (.mirror ((c.cal (4 * p + ch)).msg (4 * p + ch))))) c

/-- The ports whose calibration feeds a law: its own, that of the phase its reference chain ends in, and those of the section whose SHARE_MPC it
is or takes its reference from (R347). -/
def Chip.feedPorts (c : Chip) (d : Bytes) : List Nat :=
  let root := match c.rootPort d with | some p => [p] | none => []
  let share := if dType d = 0x10 then dMembers d
    else if dRefSrc d = 2 then (match c.shareLaw (dSection d) with | some (_, m) => dMembers m.desc | none => []) else []
  ((if dHasPort d then [dPort d] else []) ++ root ++ share).eraseDups

/-- The LEAD sends the class-C results that feed a law: calibrations, the estimation of its section's strings, and the section's impedance
(R347). -/
def Chip.mirrorFeeds (c : Chip) (d : Bytes) : Chip :=
  let c1 := foldc (c.feedPorts d) (fun p c => c.mirrorCal p) c
  if dType d = 0x10 then
    let s := dMpcSection d
    let strs := (upTo 24).filter (fun n => (c.strPorts n).any (fun p => (dMembers d).contains p))
    let c2 := foldc strs (fun n c => c.send (.chain (.mirror (c.strMsg n)))) c1
    foldc ((c.sec s).zMsgs s c.datum c.now) (fun m c => c.send (.chain (.mirror m))) c2
  else c1

/-- The LEAD sends the binding and the state of a law (R347, R357). -/
def Chip.mirrorLaw (c : Chip) (i : Nat) : Chip :=
  let l := c.law i
  c.send (.chain (.mirror (.law i l.engine l.slot (c.rd R.CE_OFFSET (pgCE l.engine) l.slot) l.startTick l.desc l.vals)))

/-- The FOLLOW or joining twin installs the state of a law, binding it first where it is not bound (R189, R347, R357). -/
def Chip.installLaw (c : Chip) (i e s o x : Nat) (d : Bytes) (v : List F32) : Chip :=
  let c1 := if (c.law i).bound then c else c.bindLaw i d (c.planPlace i d e s o) x none
  ((c1.modLaw i (fun l => l.install v)).modTwin (fun t => { t with affected := t.affected.filter (· != i) })).resolved

/-! Handover to a joining twin (R280, R312, R357). -/

/-- The pages whose state is mirrored (R339). -/
def mirrorPages : List (PageKind × Nat) :=
  (singlePages.filter (fun k => !k.aon)).map (fun k => (k, 0)) ++ (upTo 16).map (fun n => (.clu, n)) ++ (upTo 128).map (fun n => (.ce, n))
    ++ (upTo 12).map (fun n => (.spg, n)) ++ (upTo 192).map (fun n => (.sp, n))

/-- A field is configuration: RW or RWL. -/
def Row.isCfg (r : Row) : Bool := r.acc == .rw || r.acc == .rwl

/-- The offsets of the words of a page that hold configuration. -/
def PageKind.cfgOffsets (k : PageKind) : List Nat :=
  (((rowsCommon ++ k.rows).filter Row.isCfg).flatMap (fun r =>
    if r.fld.stride = 0 then [r.fld.off] else (List.range r.cnt).map (fun i => r.fld.off + r.fld.stride * i))).eraseDups

/-- The configuration that a word of a page holds. -/
def Chip.cfgWord (c : Chip) (k : PageKind) (b o : Nat) : Nat :=
  ((k.rowsAt o).filter (fun r => r.1.isCfg)).foldl (fun w r => w + 2 ^ r.1.fld.lo * c.rd r.1.fld b r.2) 0

/-- The LEAD sends every RW and RWL field of the mirrored pages (R357). -/
def Chip.mirrorCfg (c : Chip) : Chip :=
  foldc mirrorPages (fun kn c =>
    let b := pageBase kn.1 kn.2
    foldc kn.1.cfgOffsets (fun o c =>
      c.send (.chain (.mirror (.cfg (BitVec.ofNat 32 (b + o)) (BitVec.ofNat 32 (c.cfgWord kn.1 b o)))))) c) c

/-- The LEAD sends the register fields that a predicate picks. -/
def Chip.mirrorStatus (c : Chip) (pick : Nat → Bool) : Chip :=
  foldc (c.regs.filter (fun e => pick e.1)) (fun e c => c.send (.chain (.mirror (.status e.1 e.2)))) c

/-- The LEAD sends descriptor memory, word by word (R189, R357). -/
def State.mirrorDesc (s : State) : State :=
  let ws := (s.mem.map (fun e => e.1 / 4 * 4)).eraseDups
  { s with chip := foldc ws (fun o c => c.send (.chain (.mirror (.desc (BitVec.ofNat 32 (0x400000 + o)) (BitVec.ofNat 32 (memWord s.mem o)) 15)))) s.chip }

/-- The LEAD sends the battery records (R280, R357). -/
def Chip.mirrorBattery (c : Chip) : Chip :=
  foldc c.strs (fun e c => if h : e.1 < 24 then c.send (.chain (.mirror (.battery ⟨e.1, h⟩ e.2.cells e.2.dAcc))) else c) c

/-- The LEAD sends the Benchmark bins (R312, R357). -/
def Chip.mirrorBins (c : Chip) : Chip := foldc c.cals (fun e c => c.sendBins e.1) c

/-- What Benchmark keeps of a section's window and dither, as a MIRROR message (R315, R318, R330, R357). The members' dithers follow from their
chips. -/
def Chip.ditherMsg (c : Chip) (s : Nat) : MirrorMsg :=
  let w (n : Nat) : Word := BitVec.ofNat 32 n
  let q := c.sec s
  let k := q.bmk
  let key := tmKey tmPubl (1 + s)
  let endAt := c.datum + (mapGet c.timers key 0 - c.now)
  .service 12 s ([w (b2n (c.armed key)), w endAt, w (endAt / 2 ^ 32), w q.winFrom, w (q.winFrom / 2 ^ 32), w (b2n k.den), w (b2n k.zen), w k.win,
      w k.chip, w k.refI, w k.refV, w k.amp, w k.span, k.izMin, w q.prbs.toNat, w q.chipBase, w q.chipSet.length]
    ++ q.chipSet.flatMap (fun p => [w p, w (mapGet q.chipPos p 0)])
    ++ q.chipRows.flatMap (fun r => r.map (fun e => w (b2n e.2))))

/-- The rows of chips in a flat list of words, for a set of members (R315). -/
def chipRowsOf (ms : List Nat) : Nat → List Word → List (List (Nat × Bool))
  | 0, _ => []
  | n + 1, v => if v = [] ∨ ms = [] then [] else ms.zip ((v.take ms.length).map (fun x => x != 0)) :: chipRowsOf ms n (v.drop ms.length)

/-- A joining twin takes a section's window and dither (R315, R318, R330, R357). -/
def Chip.installDither (c : Chip) (s : Nat) (v : List Word) : Chip :=
  let n (k : Nat) : Nat := ((v[k]?).getD 0).toNat
  let k : BmkCfg := { den := n 5 != 0, zen := n 6 != 0, win := n 7, chip := n 8, refI := n 9, refV := n 10, amp := n 11, span := n 12, izMin := (v[13]?).getD 0 }
  let ms := (List.range (n 16)).map (fun j => n (17 + 2 * j))
  let pos : SMap Nat := (List.range (n 16)).foldl (fun m j => mapSet m (n (17 + 2 * j)) (n (18 + 2 * j))) []
  let rest := v.drop (17 + 2 * n 16)
  let rows := chipRowsOf ms rest.length rest
  let mine (p : Nat) : F32 :=
    let r := zeroSum k.amp ((rows[mapGet pos p 0 / max 1 k.chip - n 15]?).getD [])
    match r.find? (fun x => x.1 == p) with | some x => x.2 | none => fZero
  let c1 := c.modSec s (fun q => { q with
    bmk := k
    prbs := BitVec.ofNat 31 (n 14)
    chipSet := ms
    chipRows := rows
    chipBase := n 15
    chipPos := pos
    winFrom := n 3 + 2 ^ 32 * n 4
    dither := ms.map (fun p => (p, mine p)) })
  let key := tmKey tmPubl (1 + s)
  if n 0 = 1 then c1.arm key (n 1 + 2 ^ 32 * n 2 - c.datum) else c1.disarm key

/-- What a service keeps beside its registers, as words. -/
def Chip.serviceMsgs (c : Chip) : List MirrorMsg :=
  let w (n : Nat) : Word := BitVec.ofNat 32 n
  c.feeders.map (fun e =>
    let q := e.2
    let pl : List Word := match q.placed with | some (g, s) => [1, w g, w s, w (c.rd R.CE_OFFSET (pgCE g) s)] | none => [0, 0, 0, 0]
    .service 2 e.1 (pl ++ [w q.missI, w q.missV, q.lastI, q.lastVbus, q.lastVout, w q.lastRun, w (q.lastRun / 2 ^ 32), w q.missO] ++ q.dT))
  ++ c.secs.map (fun e =>
    let q := e.2
    .service 0 e.1 ([w q.ovlUsed, w (q.ovlUsed / 2 ^ 32), w (b2n q.ovlSpent), q.srcNow, q.slewBus, w (b2n q.slewHalf), q.velScale, q.feltRes, q.feltPk]
      ++ q.members.map w))
  ++ c.ports.map (fun e => .service 11 e.1 [e.2.epoch.zeroExtend 32])
  ++ c.ports.map (fun e => .service 1 e.1 [e.2.phiR, e.2.phiV, e.2.phiA, e.2.phiScale, w (b2n e.2.moving)])
  ++ c.strs.map (fun e => c.strMsg e.1)
  ++ c.cals.map (fun e => e.2.msg e.1)
  ++ c.secs.flatMap (fun e => e.2.zMsgs e.1 c.datum c.now)
  ++ c.secs.map (fun e => c.ditherMsg e.1)
  ++ [.service 9 0 (c.inForce.flatMap (fun e => [w e.1, w e.2]))]
  ++ c.caps.map (fun e => .service 3 e.1 [e.2.cap, w (b2n e.2.limit.isSome), e.2.limit.getD 0])

/-- The words of an ANNOUNCE (R132). -/
def identWords (i : SeIdent) : List Word :=
  [i.stype.zeroExtend 32, i.channels.zeroExtend 32, i.pairs.zeroExtend 32, i.vendor.zeroExtend 32, i.model.zeroExtend 32, i.serial,
    i.linkVer.zeroExtend 32, i.caps.zeroExtend 32]

/-- The LEAD sends the ANNOUNCE that it holds of every port (R357). -/
def Chip.mirrorIdents (c : Chip) : Chip :=
  foldc c.ports (fun e c => match e.2.announce with
    | some i => c.send (.chain (.mirror (.service 8 e.1 (identWords i))))
    | none => c) c

/-- What the LEAD sends in phase CONFIG, and at its end of how many messages it consists (R357). -/
def State.handConfig (s : State) : State :=
  let n0 := s.chip.sent.length
  let s1 := ({ s with chip := s.chip.mirrorCfg } : State).mirrorDesc
  let c1 := (((s1.chip.mirrorBattery).mirrorBins).mirrorIdents).mirrorStatus statusInConfig
  let c2 := foldc (upTo 192) (fun p c => if c.on R.SP_FD_EN (pgSP p) then c.negMirror p else c) c1
  let c3 := c2.send (.chain (.mirror (.fab c2.fab.msgId (BitVec.ofNat 16 (c2.rd R.FAB_INCARN pgFAB))
      (BitVec.ofNat 32 (c2.rd R.FAB_DATUM_OFS_LO pgFAB)) (BitVec.ofNat 32 (c2.rd R.FAB_DATUM_OFS_HI pgFAB)))))
  let c3 := c3.tellLocked
  { s1 with chip := c3.send (.chain (.mirror (.service 17 0 [BitVec.ofNat 32 (c3.sent.length - n0)]))) }

/-- The LEAD sends which envelope writes its stage ends have answered OK (R160, R357). -/
def Chip.mirrorEnv (c : Chip) : Chip :=
  foldc c.ports (fun e c => foldc e.2.envOk (fun a c => c.send (.chain (.mirror (.envOk (portFin e.1) a)))) c) c

/-- What the LEAD sends in phase STATE: the state of every law and service, and what Benchmark has accepted or published since CONFIG (R312,
R357). -/
def Chip.handState (c : Chip) : Chip :=
  let c1 := foldc c.serviceMsgs (fun m c => c.send (.chain (.mirror m))) c
  let c2 := foldc ((c1.laws.filter (fun e => e.2.bound)).map (fun e => e.1)) (fun i c => c.mirrorLaw i) c1
  (c2.mirrorBins.mirrorEnv.mirrorStatus statusInConfig).mirrorStatus statusInState

/-- Impedance points from a flat list. -/
def zTriples : List Word → List (F32 × F32 × Nat)
  | f :: m :: lo :: hi :: rest => (f, m, lo.toNat + 2 ^ 32 * hi.toNat) :: zTriples rest
  | _ => []

/-- Pairs from a flat list. -/
def pairsOf : List Word → SMap Nat
  | a :: b :: rest => (a.toNat, b.toNat) :: pairsOf rest
  | _ => []

/-- A joining twin takes the state of a service. A feeder's task takes the slot that it has in the LEAD. -/
def Chip.installService (c : Chip) (kind i : Nat) (v : List Word) : Chip :=
  let g (k : Nat) : Word := (v[k]?).getD 0
  let n (k : Nat) : Nat := (g k).toNat
  if kind = 0 then
    c.modSec i (fun q => { q with
      ovlUsed := n 0 + 2 ^ 32 * n 1
      ovlSpent := n 2 != 0
      srcNow := g 3
      slewBus := g 4
      slewHalf := n 5 != 0
      velScale := g 6
      feltRes := g 7
      feltPk := g 8
      members := (v.drop 9).map (fun (x : Word) => x.toNat) })
  else if kind = 1 then
    c.modPort i (fun t => { t with phiR := g 0, phiV := g 1, phiA := g 2, phiScale := g 3, moving := n 4 != 0 })
  else if kind = 2 then
    let c1 := match (c.fd i).placed with
      | some (e, s) => if c.rd R.CE_LAW_REF (pgCE e) s = feederRef i then (c.freeSlot e s).reLoad e else c
      | none => c
    let c2 := c1.modFd i (fun f => { f with
      placed := if n 0 = 1 then some (n 1, n 2) else none
      missI := n 4
      missV := n 5
      lastI := g 6
      lastVbus := g 7
      lastVout := g 8
      lastRun := n 9 + 2 ^ 32 * n 10
      missO := n 11
      dT := v.drop 12 })
    if n 0 = 1 then (c2.takeSlot ⟨feederRef i, n 1, n 2, 2, 10, n 3, 40, i, c2.fdChans i⟩).reLoad (n 1) else c2
  else if kind = 4 then
    let x : StrWork := { soc := g 0, unc := g 1, wh := g 2, soh := g 3, tStr := n 4, below := n 5 != 0, rest := n 6 != 0, empty := n 7 != 0, held := n 8 != 0 }
    c.modStr i (fun q => { q with work := some x })
  else if kind = 5 then
    c.modCal i (fun q => { q with
      useG := g 0
      useO := g 1
      useAt := n 2 + 2 ^ 32 * n 3
      offAt := n 4 + 2 ^ 32 * n 5
      opPoint := g 6
      ind := g 7
      zeroOff := if n 8 = 0 then none else some (g 9, g 10) })
  else if kind = 6 then c.modSec i (fun q => { q with zUse := zTriples v })
  else if kind = 10 then c.arm (tmKey tmFdClear i) (n 0 + 2 ^ 32 * n 1 - c.datum)
  else if kind = 11 then (c.modPort i (fun t => { t with epoch := BitVec.ofNat 8 (n 0) }))
  else if kind = 17 then c.modTwin (fun t => { t with cfgAll := some (n 0) })
  else if kind = 18 then c.modFab (fun q => { q with locked := true })
  else if kind = 14 then c.takeSideDn i v
  else if kind = 15 then c.takeRsp i (n 0) (n 1) (n 2) (g 3)
  else if kind = 16 then c.negBytesRx i (v.map (fun x => x.truncate 8))
  else if kind = 12 then c.installDither i v
  else if kind = 13 then c.modSec i (fun q => { q with zfit := if n 0 = 0 then none else some (g 1, g 2, g 3), zAt := c.now - (c.datum - (n 4 + 2 ^ 32 * n 5)) })
  else if kind = 9 then { c with inForce := pairsOf v }
  else if kind = 8 then c.modPort i (fun t => { t with leadIdent := v })
  else if kind = 7 then c.modSec i (fun q => { q with zpts := zTriples v })
  else if kind = 3 then c.modCap i (fun q => { q with cap := g 0, limit := if n 1 = 1 then some (g 2) else none })
  else c

/-- The LEAD acts on a message that its twin took for it (R381). -/
def State.relayed (s : State) (h : SurveyHdr) (pl : Bytes) : State :=
  if h.len = 0 then { s with chip := s.chip.keepalive h }
  else if h.cls = 4 then
    let s1 := mgmtWrite (mgmtRead s h pl) h pl
    { s1 with chip := mgmtResponse s1.chip h pl }
  else { s with chip := timeRx (eventRx (shareRx (budgetRx s.chip h pl) h pl) h pl) h pl }

/-- A MIRROR message arrives. State is taken by a FOLLOW or a joining twin; news of an image operation by either (R339, R347, R357). -/
def mirrorRx (s : State) (m : MirrorMsg) : State :=
  let count := match m with | .service k _ _ => decide (k ≠ 17) | _ => true
  let c := s.chip.hear.modTwin (fun t => { t with cfgGot := t.cfgGot + b2n count })
  let s1 : State := { s with chip := c }
  let takes := c.rd R.TWIN_STATE pgTWIN = 2 ∨ (c.paired ∧ !c.leads)
  match m with
  | .image cmd b => s1.imageMirror cmd b
  | .relay h pl => if c.leads then s1.relayed h pl else s1
  | .cfg a v => if takes then { s with chip := c.applyWord a.toNat v.toNat false false 0 } else s1
  | .desc a v be => if takes then s1.descPut (wordAddr a) v.toNat be else s1
  | .neg p v =>
    if takes then
      let c1 := c.negTake p.val v
      let here := c1.on R.SP_CONTRACT (pgSP p.val) && feq (c1.rdF R.SP_P_CONTRACT (pgSP p.val)) v.power
      let c2 := if v.contract && !here then c1.modFd p.val (fun f => { f with pReq := v.power, making := true }) else c1
      { s with chip := if v.contract && c2.rd R.TWIN_STATE pgTWIN == 2 then c2.fdContract p.val else c2 }
    else s1
  | .law i e sl o x d v => if takes then { s with chip := c.installLaw i e sl o x d v } else s1
  | .status key v =>
    if takes ∧ (statusInConfig key || statusInState key) = true then { s with chip := (c.putStatus key v).liveLevels key } else s1
  | .service k i v => if takes ∨ (c.paired ∧ [10, 14, 15, 16].contains k) then { s with chip := c.installService k i v } else s1
  | .bin p ch i g o ug uo n t =>
    if takes then
      let b : Bin := { gain := g, offset := o, uncG := ug, uncO := uo, n := n, atT := t }
      { s with chip := c.modCal (4 * p.val + ch.val) (fun q => { q with bins := mapSet q.bins i b }) }
    else s1
  | .envOk p a => if takes ∨ c.paired then { s with chip := c.envAnswered p.val a } else s1
  | .battery n cells d => if takes then { s with chip := c.modStr n.val (fun q => { q with cells := cells, dAcc := d }) } else s1
  | .fab id inc lo hi =>
    if takes then
      let us := [(R.FAB_INCARN, 0, inc.toNat), (R.FAB_DATUM_OFS_LO, 0, lo.toNat), (R.FAB_DATUM_OFS_HI, 0, hi.toNat)]
      { s with chip := ((c.modFab (fun q => { q with msgId := id })).modMram (fun r => { r with incarn := inc })).hw pgFAB us }
    else s1

/-! Agreed ticks (R171, R340, R361). -/

/-- The twins swap roles (R361, R497): a port that was delegated is now led by the LEAD itself (R353); their Datum sources exchange, and in an activation the old LEAD has the second turn. -/
def Chip.swapRoles (c : Chip) : Chip :=
  if !c.paired then c
  else
    let lead := c.rd R.TWIN_ROLE pgTWIN == 0
    let c1 := (c.setRole lead).bump R.TWIN_CNT pgTWIN 4
    let c2 := c1.setSource (if lead then 1 else c1.leadSource)
    let c2 : Chip := { c2 with ports := c2.ports.map (fun e => (e.1, { e.2 with delegated := false })) }
    (if lead && c2.fwu.activating && c2.fwu.turn == 0 then c2.modFwu (fun f => { f with turn := 3 }) else c2).envPending

/-- The twin is PAIRED: as FOLLOW where it has joined, else as LEAD (R337, R357, R363, R365, R367). Commits that were held are
made. -/
def State.enterPaired (s : State) : State :=
  let c := s.chip
  let st := c.rd R.TWIN_STATE pgTWIN
  if !(st == 1 || st == 2 || (st == 3 && c.on R.TWIN_PEER_DEBUG_HOLD pgTWIN)) then s
  else
    let c1 := (c.hw pgTWIN [(R.TWIN_STATE, 0, 3), (R.TWIN_JOIN_PHASE, 0, 0), (R.TWIN_PEER_DEBUG_HOLD, 0, 0)]).setRole (st == 2)
    let held := c1.twin.heldCommits
    let c2 := c1.modTwin (fun t => { t with
      pairedAt := c1.now
      joinFails := 0
      rejoinCfg := false
      peer := none
      lost := false
      takeover := false
      digestGood := none
      heldCommits := [] })
    let c3 := (((c2.disarm (tmKey tmPhase 0)).level pgTWIN 8 false).pulse pgTWIN 4).selfArm
    let c4 := { (c3.travArm).regulates with secs := c3.secs.map (fun e => (e.1, { e.2 with winOld := true })) }
    foldc held (fun (p : Part) s => commitRegion s p.val) { s with chip := c4 }

/-- One agreed change takes effect. -/
def State.applyAgreed (s : State) (a : Agreed) : State :=
  let c := s.chip
  match a.item with
  | .cfgWrite ad v => { s with chip := c.applyWord ad.toNat v.toNat a.mine true 0 }
  | .descWrite ad v be => s.descPut (wordAddr ad) v.toNat be
  | .lawSet p => startSet s p.val a.x
  | .crown => { s with chip := c.modTwin (fun t => { t with crownDue := true }) }
  | .budget w src gen =>
    let c1 := (c.up R.CROWN_FAB_BUDGET_W pgCROWN w.toNat).hw pgFAB [(R.FAB_BUDGET_SRC, 0, src), (R.FAB_BUDGET_GEN, 0, gen.toNat)]
    { s with chip := (c1.pulse pgFAB 4).modTwin (fun t => { t with crownDue := true }) }
  | .felt n => { s with chip := c.modSec n.val (fun q => { q with feltTrig := true }) }
  | .delegate p b => { s with chip := c.modPort p.val (fun t => { t with delegated := b }) }
  | .swap => { s with chip := c.swapRoles }
  | .paired => s.enterPaired
  | .classC i => { s with chip := c.modTwin (fun t => { t with classC := t.classC.map (fun r => if r.item = i then { r with peerOk := true, atT := max 1 a.x } else r) }) }
  | .events e hi m => { s with chip := c.eventSlots e.val (if hi then 32 else 0) m.toNat }
  | .resync i =>
    let d := (c.law i).desc
    if c.leads then { s with chip := (((c.mirrorFeeds d).mirrorLaw i).modTwin (fun t => { t with affected := t.affected.filter (· != i) })).resolved } else s
  | .negState p => { s with chip := c.fdContract p.val }
  | .swapLaw e n back => { s with chip := c.swapLawAt e.val n.val back }

/-- The changes agreed for the present tick, or one before it, take effect in the order in which they were proposed (R340). -/
def agreedTick (s : State) : State :=
  let c := s.chip
  let due (a : Agreed) : Bool := a.acked && decide (a.x ≤ c.tick)
  let s1 : State := { s with chip := c.modTwin (fun t => { t with agree := t.agree.filter (fun a => !due a) }) }
  foldc (c.twin.agree.filter due) (fun a s => s.applyAgreed a) s1

/-! Joining (R357, R365). -/

/-- A phase of joining begins, with its limit. -/
def Chip.joinPhase (c : Chip) (p ms : Nat) : Chip :=
  ((c.up R.TWIN_JOIN_PHASE pgTWIN p).arm (tmKey tmPhase 0) (ms * dqMs)).send (.chain (.joinPhase p))

/-- A condition has held for 1 ms. -/
def Chip.heldMs (c : Chip) (t : Option Nat) : Bool := match t with | some x => decide (x + dqMs ≤ c.now) | none => false

/-- The ANNOUNCE of a port is the one that the LEAD holds, where it holds one (R357). -/
def Chip.identMatches (c : Chip) (p : Nat) : Bool :=
  let t := c.port p
  t.leadIdent == [] || (match t.announce with | some i => identWords i == t.leadIdent | none => false)

/-- Every enabled port of this twin is READY with the LEAD's ANNOUNCE, or FAILED (R357). -/
def Chip.portsSettled (c : Chip) : Bool :=
  (upTo 192).all (fun p => !c.enabled (pgSP p) || (c.link p == lkReady && c.identMatches p) || c.link p == lkFailed)

/-- Every READY port satisfies a condition. -/
def Chip.readyAll (c : Chip) (f : Nat → Bool) : Bool := (upTo 192).all (fun p => !c.linkReady p || f p)

/-- The joiner holds all that the LEAD has sent as its copy, and what followed it (R357). -/
def Chip.copyComplete (c : Chip) : Bool := match c.twin.cfgAll with | some n => decide (n ≤ c.twin.cfgGot) | none => false

/-- The joining twin ends a phase. A twin that joins again after a debug hold passes CONFIG and STATE alone (R365). -/
def Chip.joinerPhaseEnd (c : Chip) : Chip :=
  let ph := c.rd R.TWIN_JOIN_PHASE pgTWIN
  if ph = 0 then (if c.twin.peer.isSome then c.joinPhase 1 50 else c)
  else if ph = 1 then (if c.heldMs c.twin.timeGood then c.joinPhase 2 400 else c)
  else if ph = 2 then
    (if !c.copyComplete then c else if c.twin.rejoinCfg then (c.modTwin (fun t => { t with digestGood := none })).joinPhase 4 50 else c.joinPhase 3 300)
  else if ph = 3 then (if c.portsSettled then (c.modTwin (fun t => { t with digestGood := none })).joinPhase 4 50 else c)
  else if ph = 4 then (if c.heldMs c.twin.digestGood && !c.twin.rejoinCfg then c.joinPhase 5 1 else c)
  else if c.readyAll c.ownAdmit then c.disarm (tmKey tmPhase 0) else c

/-- The LEAD ends a phase of its twin's join. PAIRED is agreed at the end of ADMIT, or of STATE where the links stayed admitted. -/
def State.leadPhaseEnd (s : State) : State :=
  let c := s.chip
  let ph := c.rd R.TWIN_JOIN_PHASE pgTWIN
  let again := c.paired
  let pair (c : Chip) : Chip :=
    let x := c.tick + 8
    (c.modTwin (fun t => { t with agree := t.agree ++ [{ x := x, item := .paired, acked := false, mine := true }] })).send (.chain (.propose x .paired))
  let proposed := c.twin.agree.any (fun a => a.item == .paired)
  if ph = 1 ∨ (again ∧ ph = 0) then ({ s with chip := c.joinPhase 2 400 } : State).handConfig
  else if ph = 2 ∧ !again then { s with chip := c.joinPhase 3 300 }
  else if ph = 3 ∨ (again ∧ ph = 2) then
    { s with chip := ((c.modTwin (fun t => { t with digestGood := none })).joinPhase 4 50).handState }
  else if ph = 4 then
    if !c.heldMs c.twin.digestGood || proposed then s
    else if again then { s with chip := pair c }
    else { s with chip := foldc (upTo 192) (fun p c =>
        if c.linkReady p && !c.peerAdmit p then (c.modPort p (fun t => { t with admitting := true })).arm (tmKey tmAdmit p) (256 * dqTick) else c) (c.joinPhase 5 1) }
  else if ph = 5 ∧ !proposed ∧ c.readyAll c.peerAdmit then { s with chip := pair c }
  else s

/-- The joining twin goes on with what its next phase begins from. -/
def State.joinerNext (s : State) (c : Chip) : State :=
  let s1 : State := { s with chip := c }
  if c.rd R.TWIN_JOIN_PHASE pgTWIN = s.chip.rd R.TWIN_JOIN_PHASE pgTWIN then s1
  else if c.rd R.TWIN_JOIN_PHASE pgTWIN = 2 then s1.beginConfig
  else if c.rd R.TWIN_JOIN_PHASE pgTWIN = 4 then { s1 with chip := c.beginState }
  else s1

/-- A joining phase reaches its end (R357, R365). -/
def joinPhaseEnd (s : State) : State :=
  let c := s.chip
  let st := c.rd R.TWIN_STATE pgTWIN
  if st = 2 then s.joinerNext c.joinerPhaseEnd
  else if (st = 1 ∧ c.twin.peer.isSome) ∨ (c.paired ∧ c.on R.TWIN_PEER_DEBUG_HOLD pgTWIN ∧ c.leads) then s.leadPhaseEnd
  else s

/-! Meanings of the rows. -/

/-- AGREED_TICK (R340): A change agreed over Chain takes effect in both twins at tick X. -/
def execAgreedTick (s : State) : Result :=
  .next (agreedTick s)

/-- MIRROR_RX (R339): A twin receives a MIRROR message of configuration, NEG state or law state. -/
def execMirrorRx (msg : MirrorMsg) (s : State) : Result :=
  .next (if s.chip.banksOn then mirrorRx s msg else s)

/-- JOIN_PHASE_END (R357): A joining phase reaches its end condition and the next phase, or PAIRED, begins. -/
def execJoinPhaseEnd (s : State) : Result :=
  .next (joinPhaseEnd s)

end Sys2Proof.Machine
end

