-- ==== Sys2Proof/Machine/Dispatch.lean ====
section
/-! DEFINITION. Dispatch.lean: one arm per command, each one call of its meaning. -/

namespace Sys2Proof.Machine

def exec (i : Instr) (s : State) : Host.Outcome State Fault Refusal :=
  match i with
  | .registerWrite path addr value be => Sys2Proof.Machine.execRegisterWrite path addr value be s
  | .wideLowRead path addr be => Sys2Proof.Machine.execWideLowRead path addr be s
  | .wideHighRead path addr be => Sys2Proof.Machine.execWideHighRead path addr be s
  | .wideLowWrite path addr value be => Sys2Proof.Machine.execWideLowWrite path addr value be s
  | .wideHighWrite path addr value be => Sys2Proof.Machine.execWideHighWrite path addr value be s
  | .rcRead path addr be => Sys2Proof.Machine.execRcRead path addr be s
  | .pgOwnerWrite path page value be => Sys2Proof.Machine.execPgOwnerWrite path page value be s
  | .pgEvtLatchWrite path page value be => Sys2Proof.Machine.execPgEvtLatchWrite path page value be s
  | .sampleRx port frame => Sys2Proof.Machine.execSampleRx port frame s
  | .equaliseRequest port => Sys2Proof.Machine.execEqualiseRequest port s
  | .equaliseAnswer port tick => Sys2Proof.Machine.execEqualiseAnswer port tick s
  | .equaliseFrameRx port body => Sys2Proof.Machine.execEqualiseFrameRx port body s
  | .equaliseDeadline port => Sys2Proof.Machine.execEqualiseDeadline port s
  | .taskReadyPeriodic engine slot => Sys2Proof.Machine.execTaskReadyPeriodic engine slot s
  | .taskDispatch engine chk => Sys2Proof.Machine.execTaskDispatch engine chk s
  | .taskComplete engine ops => Sys2Proof.Machine.execTaskComplete engine ops s
  | .classAOverrun engine => Sys2Proof.Machine.execClassAOverrun engine s
  | .cmdSlot port => Sys2Proof.Machine.execCmdSlot port s
  | .classCResultApply item => Sys2Proof.Machine.execClassCResultApply item s
  | .islandUnlock island => Sys2Proof.Machine.execIslandUnlock island s
  | .porstNRise straps => Sys2Proof.Machine.execPorstNRise straps s
  | .porstNAssert => Sys2Proof.Machine.execPorstNAssert s
  | .resetNAssert lowNs => Sys2Proof.Machine.execResetNAssert lowNs s
  | .romSelftestDone => Sys2Proof.Machine.execRomSelftestDone s
  | .seqRailEnable => Sys2Proof.Machine.execSeqRailEnable s
  | .seqPgRise rail => Sys2Proof.Machine.execSeqPgRise rail s
  | .seqPgTimeout adc => Sys2Proof.Machine.execSeqPgTimeout adc s
  | .seqPgLost rail adc => Sys2Proof.Machine.execSeqPgLost rail adc s
  | .seqRetry => Sys2Proof.Machine.execSeqRetry s
  | .abortsClear => Sys2Proof.Machine.execAbortsClear s
  | .seqSave path value be => Sys2Proof.Machine.execSeqSave path value be s
  | .seqRestart path value be => Sys2Proof.Machine.execSeqRestart path value be s
  | .seqPowerDown => Sys2Proof.Machine.execSeqPowerDown s
  | .seqDownStep => Sys2Proof.Machine.execSeqDownStep s
  | .brownOut => Sys2Proof.Machine.execBrownOut s
  | .pllLock island => Sys2Proof.Machine.execPllLock island s
  | .pllLockTimeout island => Sys2Proof.Machine.execPllLockTimeout island s
  | .pllRetry island => Sys2Proof.Machine.execPllRetry island s
  | .refclkLoss => Sys2Proof.Machine.execRefclkLoss s
  | .bootImageSelect flash recovery => Sys2Proof.Machine.execBootImageSelect flash recovery s
  | .ceKernelLoad => Sys2Proof.Machine.execCeKernelLoad s
  | .stageDiscoveryDone => Sys2Proof.Machine.execStageDiscoveryDone s
  | .chainProbeEnd probe => Sys2Proof.Machine.execChainProbeEnd probe s
  | .fabricJoin => Sys2Proof.Machine.execFabricJoin s
  | .bootTimeout => Sys2Proof.Machine.execBootTimeout s
  | .resetKeyWrite path value be => Sys2Proof.Machine.execResetKeyWrite path value be s
  | .resetKeyLapse => Sys2Proof.Machine.execResetKeyLapse s
  | .keyResetStart => Sys2Proof.Machine.execKeyResetStart s
  | .xtalDetect running => Sys2Proof.Machine.execXtalDetect running s
  | .plumbAdcRefresh adc rcErr => Sys2Proof.Machine.execPlumbAdcRefresh adc rcErr s
  | .linkAlignLoss port => Sys2Proof.Machine.execLinkAlignLoss port s
  | .linkDown port => Sys2Proof.Machine.execLinkDown port s
  | .linkUp port => Sys2Proof.Machine.execLinkUp port s
  | .linkResume port => Sys2Proof.Machine.execLinkResume port s
  | .upstreamFrameSend port => Sys2Proof.Machine.execUpstreamFrameSend port s
  | .seSampleTick port raw => Sys2Proof.Machine.execSeSampleTick port raw s
  | .seCmdRx port link frame => Sys2Proof.Machine.execSeCmdRx port link frame s
  | .seSyncRx port link frame => Sys2Proof.Machine.execSeSyncRx port link frame s
  | .seFenceRx port link frame => Sys2Proof.Machine.execSeFenceRx port link frame s
  | .seCfgPoll port link frame => Sys2Proof.Machine.execSeCfgPoll port link frame s
  | .seCfgRead port link frame => Sys2Proof.Machine.execSeCfgRead port link frame s
  | .seCfgWrite port link frame => Sys2Proof.Machine.execSeCfgWrite port link frame s
  | .seClearTrip port link frame still => Sys2Proof.Machine.execSeClearTrip port link frame still s
  | .seClearCrowbar port link frame still => Sys2Proof.Machine.execSeClearCrowbar port link frame still s
  | .seClearLocalFault port link frame => Sys2Proof.Machine.execSeClearLocalFault port link frame s
  | .seCfgIdent port link frame => Sys2Proof.Machine.execSeCfgIdent port link frame s
  | .seSideDnRx port link frame => Sys2Proof.Machine.execSeSideDnRx port link frame s
  | .seApplyTick port => Sys2Proof.Machine.execSeApplyTick port s
  | .seHoldEntry port => Sys2Proof.Machine.execSeHoldEntry port s
  | .seSafeEntry port => Sys2Proof.Machine.execSeSafeEntry port s
  | .seFastTrip port raw => Sys2Proof.Machine.execSeFastTrip port raw s
  | .seCrowbar port raw => Sys2Proof.Machine.execSeCrowbar port raw s
  | .seSelfcheckFail port => Sys2Proof.Machine.execSeSelfcheckFail port s
  | .sePowerCycle port ident => Sys2Proof.Machine.execSePowerCycle port ident s
  | .seMoistureMeasure port => Sys2Proof.Machine.execSeMoistureMeasure port s
  | .seMoistureDone port kohm => Sys2Proof.Machine.execSeMoistureDone port kohm s
  | .sidebandTx port => Sys2Proof.Machine.execSidebandTx port s
  | .sidebandRx port msg crc => Sys2Proof.Machine.execSidebandRx port msg crc s
  | .syncSend port => Sys2Proof.Machine.execSyncSend port s
  | .timeEchoRx port frame t4 => Sys2Proof.Machine.execTimeEchoRx port frame t4 s
  | .announceRx port frame => Sys2Proof.Machine.execAnnounceRx port frame s
  | .cfgRspRx port frame => Sys2Proof.Machine.execCfgRspRx port frame s
  | .sideUpRx port frame => Sys2Proof.Machine.execSideUpRx port frame s
  | .cfgRspTimeout port => Sys2Proof.Machine.execCfgRspTimeout port s
  | .sidePendingPoll port => Sys2Proof.Machine.execSidePendingPoll port s
  | .fenceSend port => Sys2Proof.Machine.execFenceSend port s
  | .admitSend port => Sys2Proof.Machine.execAdmitSend port s
  | .epochMismatch port => Sys2Proof.Machine.execEpochMismatch port s
  | .discStepTimeout port => Sys2Proof.Machine.execDiscStepTimeout port s
  | .discRetry port => Sys2Proof.Machine.execDiscRetry port s
  | .discStart path port value be => Sys2Proof.Machine.execDiscStart path port value be s
  | .safeActWrite path port value be => Sys2Proof.Machine.execSafeActWrite path port value be s
  | .scrubLine line => Sys2Proof.Machine.execScrubLine line s
  | .ceSelftestStart path engine value be => Sys2Proof.Machine.execCeSelftestStart path engine value be s
  | .ceSelftestDone engine found => Sys2Proof.Machine.execCeSelftestDone engine found s
  | .ceDoorbell path engine hi value be => Sys2Proof.Machine.execCeDoorbell path engine hi value be s
  | .ceCancel path engine hi value be => Sys2Proof.Machine.execCeCancel path engine hi value be s
  | .kernelSwapLaw engine slot => Sys2Proof.Machine.execKernelSwapLaw engine slot s
  | .descriptorAccess path addr wr value be => Sys2Proof.Machine.execDescriptorAccess path addr wr value be s
  | .descriptorCommit part => Sys2Proof.Machine.execDescriptorCommit part s
  | .readbackRefresh => Sys2Proof.Machine.execReadbackRefresh s
  | .agreedTick => Sys2Proof.Machine.execAgreedTick s
  | .hiccupEnd port => Sys2Proof.Machine.execHiccupEnd port s
  | .hicCountClear port => Sys2Proof.Machine.execHicCountClear port s
  | .phCtrlClear path port value be => Sys2Proof.Machine.execPhCtrlClear path port value be s
  | .crowbarClearCheck port => Sys2Proof.Machine.execCrowbarClearCheck port s
  | .telemetryWindowEnd port => Sys2Proof.Machine.execTelemetryWindowEnd port s
  | .feltRecompute sec => Sys2Proof.Machine.execFeltRecompute sec s
  | .feltSlewDone sec => Sys2Proof.Machine.execFeltSlewDone sec s
  | .fsCfgWrite path sec value be => Sys2Proof.Machine.execFsCfgWrite path sec value be s
  | .inputLossDeclared sec => Sys2Proof.Machine.execInputLossDeclared sec s
  | .transferEnd sec => Sys2Proof.Machine.execTransferEnd sec s
  | .qualifyEnd sec => Sys2Proof.Machine.execQualifyEnd sec s
  | .huCfgWrite path sec value be => Sys2Proof.Machine.execHuCfgWrite path sec value be s
  | .overloadSpent sec => Sys2Proof.Machine.execOverloadSpent sec s
  | .overloadRestore sec => Sys2Proof.Machine.execOverloadRestore sec s
  | .crownUpdate => Sys2Proof.Machine.execCrownUpdate s
  | .crownExtraUpdate => Sys2Proof.Machine.execCrownExtraUpdate s
  | .crownNodeWrite path node word value be => Sys2Proof.Machine.execCrownNodeWrite path node word value be s
  | .graceExpiry leaf => Sys2Proof.Machine.execGraceExpiry leaf s
  | .ewHoldExpiry group => Sys2Proof.Machine.execEwHoldExpiry group s
  | .gaugeUpdate => Sys2Proof.Machine.execGaugeUpdate s
  | .strCfgWrite path strN value be => Sys2Proof.Machine.execStrCfgWrite path strN value be s
  | .zMeasureStart sec => Sys2Proof.Machine.execZMeasureStart sec s
  | .zMeasureEnd sec strN freq start => Sys2Proof.Machine.execZMeasureEnd sec strN freq start s
  | .batteryRecordWrite => Sys2Proof.Machine.execBatteryRecordWrite s
  | .hibEnter path value be => Sys2Proof.Machine.execHibEnter path value be s
  | .hibSample adc => Sys2Proof.Machine.execHibSample adc s
  | .hibRecordWrite => Sys2Proof.Machine.execHibRecordWrite s
  | .feederEnable path port value be => Sys2Proof.Machine.execFeederEnable path port value be s
  | .feederClear path port value be => Sys2Proof.Machine.execFeederClear path port value be s
  | .feederTaskRun port => Sys2Proof.Machine.execFeederTaskRun port s
  | .feederRetry port => Sys2Proof.Machine.execFeederRetry port s
  | .retriesClear port => Sys2Proof.Machine.execRetriesClear port s
  | .inrushTimeout port => Sys2Proof.Machine.execInrushTimeout port s
  | .modelLateClear port => Sys2Proof.Machine.execModelLateClear port s
  | .tripClearCheck port => Sys2Proof.Machine.execTripClearCheck port s
  | .goodcrc port msgId => Sys2Proof.Machine.execGoodcrc port msgId s
  | .caps port msgId offers => Sys2Proof.Machine.execCaps port msgId offers s
  | .request port msgId offer srcCap pReq backfeed => Sys2Proof.Machine.execRequest port msgId offer srcCap pReq backfeed s
  | .accept port msgId => Sys2Proof.Machine.execAccept port msgId s
  | .reject port msgId reason => Sys2Proof.Machine.execReject port msgId reason s
  | .psReady port msgId => Sys2Proof.Machine.execPsReady port msgId s
  | .cap port => Sys2Proof.Machine.execCap port s
  | .warn port => Sys2Proof.Machine.execWarn port s
  | .softReset port msgId => Sys2Proof.Machine.execSoftReset port msgId s
  | .hardReset port msgId => Sys2Proof.Machine.execHardReset port msgId s
  | .goodcrcTimeout port => Sys2Proof.Machine.execGoodcrcTimeout port s
  | .responseTimerExpiry port => Sys2Proof.Machine.execResponseTimerExpiry port s
  | .hrHoldEnd port => Sys2Proof.Machine.execHrHoldEnd port s
  | .capsSend port => Sys2Proof.Machine.execCapsSend port s
  | .roleWindowSwitch port => Sys2Proof.Machine.execRoleWindowSwitch port s
  | .calWindowEnd sec win => Sys2Proof.Machine.execCalWindowEnd sec win s
  | .zeroWindowOpen port ch => Sys2Proof.Machine.execZeroWindowOpen port ch s
  | .zeroWindowEnd port ch first last => Sys2Proof.Machine.execZeroWindowEnd port ch first last s
  | .calPublish => Sys2Proof.Machine.execCalPublish s
  | .calCfgWrite path port ch value be => Sys2Proof.Machine.execCalCfgWrite path port ch value be s
  | .calRefWrite path port ch word value be => Sys2Proof.Machine.execCalRefWrite path port ch word value be s
  | .chainPathDown ch1 => Sys2Proof.Machine.execChainPathDown ch1 s
  | .chainPathUp ch1 => Sys2Proof.Machine.execChainPathUp ch1 s
  | .digestRx tick digests => Sys2Proof.Machine.execDigestRx tick digests s
  | .resolveOutcome peerPass => Sys2Proof.Machine.execResolveOutcome peerPass s
  | .agreeProposal x item => Sys2Proof.Machine.execAgreeProposal x item s
  | .agreeAck x => Sys2Proof.Machine.execAgreeAck x s
  | .agreeCancel x => Sys2Proof.Machine.execAgreeCancel x s
  | .agreeAckDeadline x => Sys2Proof.Machine.execAgreeAckDeadline x s
  | .mirrorRx msg => Sys2Proof.Machine.execMirrorRx msg s
  | .timeExchange offset => Sys2Proof.Machine.execTimeExchange offset s
  | .twinTime => Sys2Proof.Machine.execTwinTime s
  | .healthRx value => Sys2Proof.Machine.execHealthRx value s
  | .chainHello hello => Sys2Proof.Machine.execChainHello hello s
  | .fencedNotice => Sys2Proof.Machine.execFencedNotice s
  | .debugHoldRx => Sys2Proof.Machine.execDebugHoldRx s
  | .mgmtFailNotice => Sys2Proof.Machine.execMgmtFailNotice s
  | .chainTimeout => Sys2Proof.Machine.execChainTimeout s
  | .fltInFault => Sys2Proof.Machine.execFltInFault s
  | .fltInLine p => Sys2Proof.Machine.execFltInLine p s
  | .takeoverExpiry => Sys2Proof.Machine.execTakeoverExpiry s
  | .recoveryWindowEnd => Sys2Proof.Machine.execRecoveryWindowEnd s
  | .joinPhaseEnd => Sys2Proof.Machine.execJoinPhaseEnd s
  | .joinPhaseTimeout => Sys2Proof.Machine.execJoinPhaseTimeout s
  | .joinRestart => Sys2Proof.Machine.execJoinRestart s
  | .twRejoin path value be => Sys2Proof.Machine.execTwRejoin path value be s
  | .twTraverse path value be => Sys2Proof.Machine.execTwTraverse path value be s
  | .traverseSchedule => Sys2Proof.Machine.execTraverseSchedule s
  | .inserviceSelftest => Sys2Proof.Machine.execInserviceSelftest s
  | .mgmtResume => Sys2Proof.Machine.execMgmtResume s
  | .fabHelloSend => Sys2Proof.Machine.execFabHelloSend s
  | .fabHelloRx fport hello => Sys2Proof.Machine.execFabHelloRx fport hello s
  | .adjacencyTimeout fport station => Sys2Proof.Machine.execAdjacencyTimeout fport station s
  | .lsaFlood => Sys2Proof.Machine.execLsaFlood s
  | .lsaRx fport lsa => Sys2Proof.Machine.execLsaRx fport lsa s
  | .lsaAgeOut plane station => Sys2Proof.Machine.execLsaAgeOut plane station s
  | .transitForward fport frame => Sys2Proof.Machine.execTransitForward fport frame s
  | .fabFrameRx fport frame => Sys2Proof.Machine.execFabFrameRx fport frame s
  | .budgetRx hdr payload => Sys2Proof.Machine.execBudgetRx hdr payload s
  | .shareRx hdr payload => Sys2Proof.Machine.execShareRx hdr payload s
  | .shareSend => Sys2Proof.Machine.execShareSend s
  | .eventRx hdr payload => Sys2Proof.Machine.execEventRx hdr payload s
  | .mgmtRead hdr payload => Sys2Proof.Machine.execMgmtRead hdr payload s
  | .mgmtWrite hdr payload => Sys2Proof.Machine.execMgmtWrite hdr payload s
  | .mgmtResponse hdr payload => Sys2Proof.Machine.execMgmtResponse hdr payload s
  | .timeRx hdr payload => Sys2Proof.Machine.execTimeRx hdr payload s
  | .ackRx hdr payload => Sys2Proof.Machine.execAckRx hdr payload s
  | .relRetry msgId => Sys2Proof.Machine.execRelRetry msgId s
  | .relFail msgId => Sys2Proof.Machine.execRelFail msgId s
  | .ptpMessageRx plane msg => Sys2Proof.Machine.execPtpMessageRx plane msg s
  | .ptpSyncSend => Sys2Proof.Machine.execPtpSyncSend s
  | .pdelaySend => Sys2Proof.Machine.execPdelaySend s
  | .prpSupervisionSend => Sys2Proof.Machine.execPrpSupervisionSend s
  | .timeLock diff => Sys2Proof.Machine.execTimeLock diff s
  | .fabTime => Sys2Proof.Machine.execFabTime s
  | .quietA path value be => Sys2Proof.Machine.execQuietA path value be s
  | .quietB path value be => Sys2Proof.Machine.execQuietB path value be s
  | .fabWake path value be => Sys2Proof.Machine.execFabWake path value be s
  | .quietPropose hdr plane q => Sys2Proof.Machine.execQuietPropose hdr plane q s
  | .quietCommit hdr plane q => Sys2Proof.Machine.execQuietCommit hdr plane q s
  | .wake hdr => Sys2Proof.Machine.execWake hdr s
  | .quietAckDeadline => Sys2Proof.Machine.execQuietAckDeadline s
  | .quietInstant => Sys2Proof.Machine.execQuietInstant s
  | .settleWindowEnd => Sys2Proof.Machine.execSettleWindowEnd s
  | .signalDetectWake fport => Sys2Proof.Machine.execSignalDetectWake fport s
  | .creditWindowStart => Sys2Proof.Machine.execCreditWindowStart s
  | .ringGrant reqs => Sys2Proof.Machine.execRingGrant reqs s
  | .backoffEnd slot part => Sys2Proof.Machine.execBackoffEnd slot part s
  | .tenureEnd => Sys2Proof.Machine.execTenureEnd s
  | .ringRevoke => Sys2Proof.Machine.execRingRevoke s
  | .ringOverhold => Sys2Proof.Machine.execRingOverhold s
  | .overholdBlockEnd slot part => Sys2Proof.Machine.execOverholdBlockEnd slot part s
  | .ringStarve slot part => Sys2Proof.Machine.execRingStarve slot part s
  | .ptCfgWrite path part value be => Sys2Proof.Machine.execPtCfgWrite path part value be s
  | .creditWrite path part value be => Sys2Proof.Machine.execCreditWrite path part value be s
  | .quotaWrite path part value be => Sys2Proof.Machine.execQuotaWrite path part value be s
  | .faultRaise src inst => Sys2Proof.Machine.execFaultRaise src inst s
  | .wireFault src => Sys2Proof.Machine.execWireFault src s
  | .s3ResetDelay => Sys2Proof.Machine.execS3ResetDelay s
  | .mgmtFail => Sys2Proof.Machine.execMgmtFail s
  | .mgmtFailAckRx => Sys2Proof.Machine.execMgmtFailAckRx s
  | .mgmtFailAckTimeout => Sys2Proof.Machine.execMgmtFailAckTimeout s
  | .watchdogService => Sys2Proof.Machine.execWatchdogService s
  | .watchdogExpiry => Sys2Proof.Machine.execWatchdogExpiry s
  | .watchdogReset => Sys2Proof.Machine.execWatchdogReset s
  | .dieSensorRead temps => Sys2Proof.Machine.execDieSensorRead temps s
  | .dieSensorFailed sensor => Sys2Proof.Machine.execDieSensorFailed sensor s
  | .thermalShutdown => Sys2Proof.Machine.execThermalShutdown s
  | .thermalRestart => Sys2Proof.Machine.execThermalRestart s
  | .stageSensorFail port item => Sys2Proof.Machine.execStageSensorFail port item s
  | .stageSensorRecover port item => Sys2Proof.Machine.execStageSensorRecover port item s
  | .fcOutstandingClear path word value be => Sys2Proof.Machine.execFcOutstandingClear path word value be s
  | .glitchDetect => Sys2Proof.Machine.execGlitchDetect s
  | .fbkRecordQueue code source sev part payload => Sys2Proof.Machine.execFbkRecordQueue code source sev part payload s
  | .fbkRecordWrite => Sys2Proof.Machine.execFbkRecordWrite s
  | .fbkEraseKey path value be => Sys2Proof.Machine.execFbkEraseKey path value be s
  | .fbkEraseLapse => Sys2Proof.Machine.execFbkEraseLapse s
  | .fbkEraseDone => Sys2Proof.Machine.execFbkEraseDone s
  | .fbkWindowRead path addr be => Sys2Proof.Machine.execFbkWindowRead path addr be s
  | .frDataRead path word be => Sys2Proof.Machine.execFrDataRead path word be s
  | .wcapArm path setN value be => Sys2Proof.Machine.execWcapArm path setN value be s
  | .wcapTrigger path setN value be => Sys2Proof.Machine.execWcapTrigger path setN value be s
  | .wcapAbort path setN value be => Sys2Proof.Machine.execWcapAbort path setN value be s
  | .wcapTrigEvent setN => Sys2Proof.Machine.execWcapTrigEvent setN s
  | .wcapEntry setN moved => Sys2Proof.Machine.execWcapEntry setN moved s
  | .wcapPostEnd setN => Sys2Proof.Machine.execWcapPostEnd setN s
  | .wcapFlushStart setN => Sys2Proof.Machine.execWcapFlushStart setN s
  | .wcapFlushDone setN => Sys2Proof.Machine.execWcapFlushDone setN s
  | .wcapFlushFail setN => Sys2Proof.Machine.execWcapFlushFail setN s
  | .pciePerst => Sys2Proof.Machine.execPciePerst s
  | .dmaStart path chan value be => Sys2Proof.Machine.execDmaStart path chan value be s
  | .dmaComplete chan err => Sys2Proof.Machine.execDmaComplete chan err s
  | .mbDoorbell value cmd payload => Sys2Proof.Machine.execMbDoorbell value cmd payload s
  | .stageBegin => Sys2Proof.Machine.execStageBegin s
  | .stageData => Sys2Proof.Machine.execStageData s
  | .stageEnd => Sys2Proof.Machine.execStageEnd s
  | .activate => Sys2Proof.Machine.execActivate s
  | .swapKernels => Sys2Proof.Machine.execSwapKernels s
  | .promoteGolden => Sys2Proof.Machine.execPromoteGolden s
  | .raiseSvn => Sys2Proof.Machine.execRaiseSvn s
  | .fwAbort => Sys2Proof.Machine.execFwAbort s
  | .cfgSave => Sys2Proof.Machine.execCfgSave s
  | .activationPause => Sys2Proof.Machine.execActivationPause s
  | .pauseEnd => Sys2Proof.Machine.execPauseEnd s
  | .settleEnd => Sys2Proof.Machine.execSettleEnd s
  | .iicTargetWrite tgt bytes => Sys2Proof.Machine.execIicTargetWrite tgt bytes s
  | .iicTargetRead tgt count => Sys2Proof.Machine.execIicTargetRead tgt count s
  | .iicPecStop tgt => Sys2Proof.Machine.execIicPecStop tgt s
  | .iicSclTimeout tgt => Sys2Proof.Machine.execIicSclTimeout tgt s
  | .iic2AddrMatch addr => Sys2Proof.Machine.execIic2AddrMatch addr s
  | .iic2StretchEnd clock => Sys2Proof.Machine.execIic2StretchEnd clock s
  | .iic1Start path value be => Sys2Proof.Machine.execIic1Start path value be s
  | .iic1Done err rx => Sys2Proof.Machine.execIic1Done err rx s
  | .pmcSelWrite path page sel value be => Sys2Proof.Machine.execPmcSelWrite path page sel value be s
  | .snap path value be => Sys2Proof.Machine.execSnap path value be s
  | .snapTake => Sys2Proof.Machine.execSnapTake s
  | .snapDone => Sys2Proof.Machine.execSnapDone s
  | .dbgChallenge nonce => Sys2Proof.Machine.execDbgChallenge nonce s
  | .dbgResponse sig => Sys2Proof.Machine.execDbgResponse sig s
  | .dbgAccess addr op value => Sys2Proof.Machine.execDbgAccess addr op value s
  | .dbgHalt => Sys2Proof.Machine.execDbgHalt s
  | .dbgStep => Sys2Proof.Machine.execDbgStep s
  | .dbgResume => Sys2Proof.Machine.execDbgResume s
  | .resetNRelease => Sys2Proof.Machine.execResetNRelease s
  | .linkAlignAcquire port inverted => Sys2Proof.Machine.execLinkAlignAcquire port inverted s
  | .fabPortLinkUp fport fec => Sys2Proof.Machine.execFabPortLinkUp fport fec s
  | .fabPortLinkDown fport => Sys2Proof.Machine.execFabPortLinkDown fport s
  | .pcieLinkUp width speed => Sys2Proof.Machine.execPcieLinkUp width speed s
  | .pcieLinkDown => Sys2Proof.Machine.execPcieLinkDown s
  | .pcieConfigWrite d3 bme => Sys2Proof.Machine.execPcieConfigWrite d3 bme s
  | .msixVectorUnmask vector => Sys2Proof.Machine.execMsixVectorUnmask vector s
  | .mailboxCompletion => Sys2Proof.Machine.execMailboxCompletion s
  | .activeCopyDone => Sys2Proof.Machine.execActiveCopyDone s
  | .resumeTimeout => Sys2Proof.Machine.execResumeTimeout s
  | .sessionIdleTimeout part => Sys2Proof.Machine.execSessionIdleTimeout part s
  | .ptpSlaveLoss plane => Sys2Proof.Machine.execPtpSlaveLoss plane s
  | .extest pins => Sys2Proof.Machine.execExtest pins s

end Sys2Proof.Machine
end

