-- ==== Sys2Proof/Machine/Tick.lean ====
section
/-! DEFINITION. Tick.lean: what passes with time alone: one tick of 50 ns (R24, R86, R87, R120, R335, R343, R508, R547). The table has no
row for it, so it is what the block does while no command waits. -/

namespace Sys2Proof.Machine

/-- Datum runs for a tick, corrected by RATE in parts per 10^9 (R86 to R88); it stands while the chip has no power. -/
def Chip.runDatum (c : Chip) : Chip :=
  if c.plumb.porst || c.plumb.stopped then c
  else
    let acc := c.rateAcc + dqTick * c.rdS R.DATUM_RATE pgDATUM
    { c with datum := ((c.datum : Int) + dqTick + acc / 1000000000).toNat, rateAcc := acc % 1000000000 }

/-- A tick ends at every powered stage end (R99, R107): it has sent a frame on each link. -/
def Chip.stageSlots (c : Chip) : Chip := foldc (c.stages.filter (fun e => e.2.powered)) (fun e c => seUpstream c (portFin e.1)) c

/-- A tick passes at every powered stage end (R120). -/
def Chip.runStages (c : Chip) : Chip :=
  { c with stages := c.stages.map (fun e => (e.1, if e.2.powered then e.2.oneTick c.now else e.2)) }

/-- The pages that have PMC counters (R506). -/
def pmcPages : List Nat :=
  ((singlePages.filter PageKind.hasPmc).map (fun k => pageBase k 0)) ++ (upTo 16).map pgCLU ++ (upTo 128).map pgCE ++ (upTo 12).map pgSPG
    ++ (upTo 192).map pgSP

/-- Cycles of a clock of `mhz` MHz in tick `t`. -/
def cyclesIn (mhz t : Nat) : Nat := (t + 1) * mhz / 20 - t * mhz / 20

/-- Island clock cycles in the present tick, for a page's counters (R508): the engine clock of the page's cluster, 1.0 GHz of the shared
ring, 1.2 GHz of MGMT and 32 MHz of Plumb (R82, R182); the clocks of the other islands are not stated. Nominal rates, DEDUCED (232). -/
def Chip.islandCycles (c : Chip) (b : Nat) : Nat :=
  match pageOf b with
  | some (.clu, n) => cyclesIn (c.rd R.CLU_FREQ_MHZ (pgCLU n)) c.tick
  | some (.ce, n) => cyclesIn (c.rd R.CLU_FREQ_MHZ (pgCLU (n / 8))) c.tick
  | some (.arb, _) => cyclesIn 1000 c.tick
  | some (.host, _) | some (.xspi, _) => cyclesIn 1200 c.tick
  | some (.fbk, _) => cyclesIn 32 c.tick
  | _ => Config.islandCycles b c.tick

/-- Ticks and island clock cycles are counted (R508). -/
def Chip.pmcTick (c : Chip) : Chip :=
  foldc pmcPages (fun b c => (c.pmcEvent b 1).pmcEvent b 2 (c.islandCycles b)) c

/-- Every page, by kind and number. -/
def everyPage : List (PageKind × Nat) :=
  singlePages.map (fun k => (k, 0)) ++ (upTo 16).map (fun n => (.clu, n)) ++ (upTo 128).map (fun n => (.ce, n))
    ++ (upTo 12).map (fun n => (.spg, n)) ++ (upTo 192).map (fun n => (.sp, n))

/-- QUIESCED of the pages that are quiesced follows the work in flight (R17). -/
def Chip.quiesceTick (c : Chip) : Chip :=
  foldc (everyPage.filter (fun e => c.on R.PG_QUIESCE (pageBase e.1 e.2))) (fun e c => c.reQuiesced e.1 e.2) c

/-- A tick ends on a port's link: a clear that has waited for STOP is asked for (R222), its slot is filled, and what its receiver counts by slots and by time follows (R99, R100, R111,
R139). -/
def Chip.portTick (c0 : Chip) (p : Nat) : Chip :=
  let c := if (c0.port p).clearReq then c0.sendClear p else c0
  let c1 := c.fillSlot p
  let t := c1.port p
  let c2 := c1.setPort p { t with
    slotUsed := false
    got := false
    badSlots := if t.aligned && !t.got then min 4 (t.badSlots + 1) else t.badSlots }
  if t.crcTimes = [] then c2 else c2.crcBurst p

/-- A tick ends on the links of the enabled ports, and of those whose CRC failures are still to be forgotten. -/
def Chip.linkTicks (c : Chip) : Chip :=
  foldc ((upTo 192).filter (fun p => c.enabled (pgSP p) || (c.port p).crcTimes != [])) (fun p c => c.portTick p) c

/-- What a twin sends on Chain with a tick (R335): its digests of the tick that ends (R343), else HELLO while it looks for its twin and
its health otherwise, as one message goes every tick; a TIME exchange every 1 us (R341), and its health every 1 ms (R362). -/
def Chip.chainTick (c : Chip) (u : Nat) : Chip :=
  let st := c.rd R.TWIN_STATE pgTWIN
  let ph := c.rd R.TWIN_JOIN_PHASE pgTWIN
  let c1 := if st = 3 ∨ ((st = 1 ∨ st = 2) ∧ (ph = 4 ∨ ph = 5)) then c.send (.chain (.digest u ((upTo 13).map (c.ownDigest u))))
    else if st = 4 ∨ (st = 2 ∧ ph = 0) ∨ (st = 0 ∧ c.twin.step6) then c.send (.chain (.hello (c.ownHello (st == 2))))
    else c.send (.chain (.health (BitVec.ofNat 32 c.healthWord)))
  let c2 := if (st = 1 ∨ st = 2 ∨ st = 3) ∧ u % 20 = 0 then c1.send (.chain .time) else c1
  if st ≠ 0 ∧ u % 20000 = 0 then c2.send (.chain (.health (BitVec.ofNat 32 c2.healthWord))) else c2

/-- A class-A mismatch whose command has not gone within 8 ticks is raised all the same (R168). DESIGN CHOICE (171). -/
def Chip.residueTick (c : Chip) : Chip :=
  foldc (c.engines.filter (fun e => match e.2.residueDue with | some t => decide (t + 8 ≤ c.tick) | none => false)) (fun e c => c.residueRaise e.1) c

/-- One tick passes: the one-tick event bits end, the clocks run, the counters count and Chain carries what is due. -/
def Chip.oneTick (c : Chip) : Chip :=
  let c0 := foldc (upTo 8) (fun s c => ((c.absence s).zTick s).ditherWatch s) ((c.stageSlots).linkTicks).residueTick.windowTick
  let c1 := ((({ c0 with now := c0.now + dqTick } : Chip).endPulses).runDatum).runStages
  ((((c1.pmcTick).quiesceTick.negShow).chainTick c.tick).fencedRejoin.fabTick).resetTick

end Sys2Proof.Machine
end

