-- ==== Sys2Proof/Safety.lean ====
section
/-! DEFINITION. Safety.lean: what statements call a sound state, and the reads through which they speak of memory. -/

namespace Sys2Proof.Machine

/-- Both byte memories are in their canonical form: ascending addresses, no zero byte listed. -/
def State.canonical (s : State) : Bool := Memory.wf s.mem && Memory.wf s.cap

/-- The byte of descriptor memory at a device address (R185); an address outside it has none. -/
def State.descByte (s : State) (a : Nat) : Byte := if 0x400000 ≤ a ∧ a < 0x800000 then memGet s.mem (a - 0x400000) else 0

/-- The byte of capture SRAM at a device address (R463). -/
def State.captureByte (s : State) (a : Nat) : Byte := if 0x1000000 ≤ a ∧ a < 0x1800000 then memGet s.cap (a - 0x1000000) else 0

/-- A write of the word `v` at `a` by P0 through BAR0 reaches this chip, is barred by no lock, follows no held low word, and is taken by
this chip alone, without a twin (R4, R5, R10, R339). -/
def State.takesAlone (s : State) (a v : Nat) : Bool :=
  s.chip.reaches .bar0 a && !s.chip.writeBarred 0 a v && (s.chip.path 0).held.isNone && s.chip.rd R.TWIN_STATE pgTWIN == 1
    && s.chip.rd R.TWIN_JOIN_PHASE pgTWIN == 0

/-- A write of the word `v` at `a` on a path reaches this chip, is within the path's rights, is barred by no lock, and acts on this chip
in place of going to its twin (R10, R339, R403). -/
def State.takesWrite (s : State) (p : Path) (a v : Nat) : Bool :=
  s.chip.reaches p a && decide (s.chip.pathRight p a true = .ok) && !s.chip.writeBarred p.ident a v
    && (s.chip.localWord a || decide (s.chip.rd R.TWIN_STATE pgTWIN = 0) || decide (s.chip.rd R.TWIN_STATE pgTWIN = 1)
      || decide (s.chip.rd R.TWIN_STATE pgTWIN = 4))

/-- Every command but those that can write a byte memory or empty it: accesses that can name any address, capture entries, the commit
and the refresh, what a twin sends, the end of start step 6, joining in phase CONFIG, and the commands that reset or power down. -/
def keepsMemories : Instr → Bool
  | .registerWrite _ _ _ _ | .descriptorAccess _ _ _ _ _ | .dbgAccess _ _ _ | .descriptorCommit _ | .readbackRefresh | .agreedTick
  | .mirrorRx _ | .mgmtWrite _ _ | .iicTargetWrite _ _ | .iicPecStop _ | .chainProbeEnd _ | .bootTimeout | .porstNAssert
  | .resetNAssert _ | .seqPgTimeout _ | .seqPgLost _ _ | .seqPowerDown | .seqDownStep | .brownOut | .keyResetStart | .s3ResetDelay
  | .watchdogReset | .thermalRestart | .glitchDetect | .faultRaise _ _ | .wcapEntry _ _ | .joinPhaseEnd | .chainHello _ | .mgmtResume
  | .dbgResume => false
  | _ => true

/-- A step goes on to a next state. -/
def State.goesOn (s : State) : Prop := ∃ t, step s = .next t

end Sys2Proof.Machine
end

