-- ==== Sys2Proof/Certificates/Slice0/Obligations.lean ====
section
/-! DEFINITION. Obligations.lean: the statements, each named after what it says. A clause of a group gives, for one command, hypotheses on the
state and the operands, and the next state that exec then answers. -/

open Sys2Proof Sys2Proof.Machine

/-- The sample and equalisation commands act. The frames a port group takes from its link and over Chain, the request and the answer it sends, and the deadline of a request. Each clause holds under the conditions that it names. (R26, R30, R31, R108, R342) -/
def Obligations.SampleAndEqualisationCommandsAct : Prop :=
  (∀ (s : State) (p : Port) (f : Frame) (c1 : Chip) (h : Hdr) (b : Bytes) (k : Nat), (s.chip.upCheck p.val f = (c1, some (h, b))) → (h.typ = 1) → (extendTick c1.tick (leAt b 11 2) = some k) → (c1.bodyAt p.val k = none) → ∃ t, exec (.sampleRx p f) s = .next t ∧ t = s.onChip (fun _ => (c1.pmcEvent (pgSP p.val) 0x100).takeSample p.val k b))
  ∧ (∀ (s : State) (p : Port), (s.chip.banksOn = true) → (s.chip.pairRunning = true) → (s.chip.enabled (pgSP p.val) = true) → (2 ≤ s.chip.tick) → (s.chip.bodyAt p.val (s.chip.tick - 2) = none) → ((s.chip.port p.val).eqWait ≠ some (s.chip.tick - 2)) → ∃ t, exec (.equaliseRequest p) s = .next t ∧ (t.chip.port p.val).eqWait = some (s.chip.tick - 2) ∧ (t.chip.port p.val).missing = true ∧ t.chip.sent = Out.chain (.frameReq p (s.chip.tick - 2)) :: s.chip.sent)
  ∧ (∀ (s : State) (p : Port) (k : Nat), (s.chip.banksOn = true) → (s.chip.rd R.TWIN_STATE pgTWIN ≠ 4) → (s.chip.twin.eqTick ≠ s.chip.tick ∨ s.chip.twin.eqCount < 12) → ∃ t, exec (.equaliseAnswer p k) s = .next t ∧ t.chip.sent = Out.chain (.frameAns p k (if s.chip.tick ≤ k + 16 then (s.chip.bodyAt p.val k).getD [] else [])) :: s.chip.sent ∧ t.chip.twin.eqTick = s.chip.tick)
  ∧ (∀ (s : State) (p : Port) (k : Nat), (s.chip.banksOn = true) → (s.chip.rd R.TWIN_STATE pgTWIN ≠ 4) → (s.chip.twin.eqTick = s.chip.tick) → (12 ≤ s.chip.twin.eqCount) → ∃ t, exec (.equaliseAnswer p k) s = .next t ∧ t.chip.sent = Out.chain (.frameAns p k []) :: s.chip.sent ∧ t.chip.rd R.TWIN_CNT pgTWIN 6 = (s.chip.rd R.TWIN_CNT pgTWIN 6 + 1) % 2 ^ 32)
  ∧ (∀ (s : State) (p : Port) (body : Bytes) (k : Nat), (s.chip.banksOn = true) → ((s.chip.port p.val).eqWait = some k) → (s.chip.tick < k + 3) → (body ≠ []) → (leAt body 11 2 = k % 65536) → ∃ t, exec (.equaliseFrameRx p body) s = .next t ∧ t = s.onChip (fun c => (((((c.hear.modPort p.val (fun q => { q with supplied := k :: q.supplied.filter (fun x => decide (k < x + 16)) })).bump R.SP_CNT_EQUAL (pgSP p.val)).pmcEvent (pgSP p.val) 0x102).takeSample p.val k (sliceBytes body 0 16)).delegateTo p.val)))
  ∧ (∀ (s : State) (p : Port) (k : Nat), ((s.chip.port p.val).eqWait = some k) → (k + 3 ≤ s.chip.tick) → ∃ t, exec (.equaliseDeadline p) s = .next t ∧ (t.chip.port p.val).eqWait = none ∧ t.chip.rd R.TWIN_CNT pgTWIN 6 = (s.chip.rd R.TWIN_CNT pgTWIN 6 + 1) % 2 ^ 32)

/-- Task slots become ready, are dispatched, complete, overrun, and drive the command slots. The task and command slots of the engines, the scrubber, the self-check. Each clause holds under the conditions that it names. (R111, R148, R166, R169, R170, R172, R174, R181, R352) -/
def Obligations.EngineCommandsAct : Prop :=
  (∀ (s : State) (e : Engine) (k : TSlot), (s.chip.rd R.CE_PERIOD (pgCE e.val) k.val ≠ 0) → (s.chip.tick % s.chip.rd R.CE_PERIOD (pgCE e.val) k.val = s.chip.rd R.CE_OFFSET (pgCE e.val) k.val % s.chip.rd R.CE_PERIOD (pgCE e.val) k.val) → ((s.chip.eng e.val).readyAt k.val s.chip.tick = false) → ((s.chip.eng e.val).up = true) → (s.chip.on R.CE_ENABLE (pgCE e.val) k.val = true) → (s.chip.slotClass e.val k.val = 1 ∨ ((s.chip.slotClass e.val k.val = 2 ∨ (s.chip.slotClass e.val k.val = 3 ∧ s.chip.on R.PG_QUIESCE (pgCE e.val) = false)) ∧ ((s.chip.eng e.val).ready.any (fun r => r.1 == k.val) || ((s.chip.eng e.val).running k.val).isSome) = false)) → ∃ t, exec (.taskReadyPeriodic e k) s = .next t ∧ (t.chip.eng e.val).ready = (s.chip.eng e.val).ready ++ [(k.val, s.chip.tick)])
  ∧ (∀ (s : State) (e : Engine) (k : TSlot), (s.chip.rd R.CE_PERIOD (pgCE e.val) k.val ≠ 0) → (s.chip.tick % s.chip.rd R.CE_PERIOD (pgCE e.val) k.val = s.chip.rd R.CE_OFFSET (pgCE e.val) k.val % s.chip.rd R.CE_PERIOD (pgCE e.val) k.val) → ((s.chip.eng e.val).readyAt k.val s.chip.tick = false) → ((s.chip.eng e.val).up = true) → (s.chip.on R.CE_ENABLE (pgCE e.val) k.val = true) → (s.chip.slotClass e.val k.val = 2 ∨ (s.chip.slotClass e.val k.val = 3 ∧ s.chip.on R.PG_QUIESCE (pgCE e.val) = false)) → (((s.chip.eng e.val).ready.any (fun r => r.1 == k.val) || ((s.chip.eng e.val).running k.val).isSome) = true) → ∃ t, exec (.taskReadyPeriodic e k) s = .next t ∧ t.chip.rd R.CE_CNT (pgCE e.val) 6 = (s.chip.rd R.CE_CNT (pgCE e.val) 6 + 1) % 2 ^ 32 ∧ (t.chip.eng e.val).ready = (s.chip.eng e.val).ready)
  ∧ (∀ (s : State) (e : Engine) (k : EngCheck) (r : Nat × Nat), ((s.chip.eng e.val).up = true) → ((s.chip.eng e.val).runA = none) → (s.chip.lowestReady e.val 1 = some r) → ∃ t, exec (.taskDispatch e k) s = .next t ∧ t = s.onChip (fun c => c.dispatch e.val 1 r k))
  ∧ (∀ (s : State) (e : Engine) (k : EngCheck) (r : Nat × Nat), ((s.chip.eng e.val).up = true) → ((s.chip.eng e.val).runA = none) → (s.chip.lowestReady e.val 1 = none) → ((s.chip.eng e.val).runB = none) → (s.chip.lowestReady e.val 2 = some r) → ∃ t, exec (.taskDispatch e k) s = .next t ∧ t = s.onChip (fun c => c.dispatch e.val 2 r k))
  ∧ (∀ (s : State) (e : Engine) (k : EngCheck) (r : Nat × Nat), ((s.chip.eng e.val).up = true) → ((s.chip.eng e.val).runA = none) → (s.chip.lowestReady e.val 1 = none) → ((s.chip.eng e.val).runB = none) → (s.chip.lowestReady e.val 2 = none) → ((s.chip.eng e.val).runC = none) → (s.chip.rd R.THM_STEP pgTHM ≠ 9) → (s.chip.nextC e.val = some r) → ∃ t, exec (.taskDispatch e k) s = .next t ∧ t = s.onChip (fun c => c.dispatch e.val 3 r k))
  ∧ (∀ (s : State) (e : Engine) (ops : LaneOps) (r : Run), ((s.chip.eng e.val).runA = some r) → ∃ t, exec (.taskComplete e ops) s = .next t ∧ (t.chip.eng e.val).runA = none)
  ∧ (∀ (s : State) (e : Engine) (ops : LaneOps) (r : Run), ((s.chip.eng e.val).runA = none) → ((s.chip.eng e.val).runB = some r) → ((s.chip.lanes e.val 1 ops).2 = true) → ∃ t, exec (.taskComplete e ops) s = .next t ∧ (t.chip.eng e.val).runB = none ∧ ((s.chip.eng e.val).residueAt.any (fun x => x.1 == r.slot && decide (s.chip.now ≤ x.2 + dqMs)) = false → (r.slot, r.ready) ∈ (t.chip.eng e.val).ready))
  ∧ (∀ (s : State) (e : Engine) (ops : LaneOps) (r : Run), ((s.chip.eng e.val).runA = none) → ((s.chip.eng e.val).runB = none) → ((s.chip.eng e.val).runC = some r) → ((s.chip.lanes e.val 2 ops).2 = false) → ((s.chip.eng e.val).residueAt = []) → (s.chip.slotRef e.val r.slot ≥ 0x4000) → ∃ t, exec (.taskComplete e ops) s = .next t ∧ (t.chip.eng e.val).runC = none)
  ∧ (∀ (s : State) (e : Engine) (r : Run), ((s.chip.eng e.val).runA = some r) → (r.late = false) → (r.ready < s.chip.tick) → ((s.chip.eng e.val).ready.any (fun x => s.chip.slotClass e.val x.1 == 1) = false) → ∃ t, exec (.classAOverrun e) s = .next t ∧ (t.chip.eng e.val).runA = some { r with late := true } ∧ t.chip.rd R.CE_CNT (pgCE e.val) 4 = (s.chip.rd R.CE_CNT (pgCE e.val) 4 + 1) % 2 ^ 32)
  ∧ (∀ (s : State) (e : Engine) (x : Nat × Nat), ((s.chip.eng e.val).runA = none) → ((s.chip.eng e.val).ready = [x]) → (s.chip.slotClass e.val x.1 = 1) → (x.2 < s.chip.tick) → ((s.chip.eng e.val).lateA = []) → ∃ t, exec (.classAOverrun e) s = .next t ∧ (t.chip.eng e.val).lateA = [x] ∧ t.chip.rd R.CE_CNT (pgCE e.val) 4 = (s.chip.rd R.CE_CNT (pgCE e.val) 4 + 1) % 2 ^ 32)
  ∧ (∀ (s : State) (p : Port), (s.chip.cmdDue p.val = true) → (s.chip.joinerSends p.val = true) → ((s.chip.port p.val).cmdTick ≠ s.chip.tick) → ∃ t, exec (.cmdSlot p) s = .next t ∧ (t.chip.port p.val).lastApply = s.chip.tick + 2 ∧ (t.chip.port p.val).cmdNew = none ∧ (t.chip.port p.val).sentCmd = true ∧ (t.chip.port p.val).cmd.applyTick = BitVec.ofNat 16 (s.chip.tick + 2) ∧ (t.chip.port p.val).cmd.mode = (if (s.chip.port p.val).fastTrip && passMode ((s.chip.port p.val).cmdNew.getD (s.chip.port p.val).cmd).mode then 0 else ((s.chip.port p.val).cmdNew.getD (s.chip.port p.val).cmd).mode) ∧ ((∀ e, (s.chip.eng e).residueDue = none) → ∃ d, t.chip.sent = (s.chip.sendSe p.val 2 (cmdBody (t.chip.port p.val).cmd) d).sent))
  ∧ (∀ (s : State) (p : Port), (s.chip.cmdDue p.val = true) → (s.chip.joinerSends p.val = true) → ((s.chip.port p.val).cmdNew = none ∨ (s.chip.port p.val).cmdTick = s.chip.tick) → ∃ t, exec (.cmdSlot p) s = .next t ∧ (t.chip.port p.val).lastApply = s.chip.tick + 2 ∧ (t.chip.port p.val).cmdNew = (s.chip.port p.val).cmdNew ∧ (t.chip.port p.val).sentCmd = true ∧ (t.chip.port p.val).cmd.applyTick = BitVec.ofNat 16 (s.chip.tick + 2) ∧ (t.chip.port p.val).cmd.mode = (if (s.chip.port p.val).fastTrip && passMode (s.chip.port p.val).cmd.mode then 0 else (s.chip.port p.val).cmd.mode) ∧ ((∀ e, (s.chip.eng e).residueDue = none) → ∃ d, t.chip.sent = (s.chip.sendSe p.val 2 (cmdBody (t.chip.port p.val).cmd) d).sent))
  ∧ (∀ (s : State) (e : Engine) (us : Upsets), ((s.chip.eng e.val).up = true) → ∃ t, exec (.scrubLine ⟨e, us⟩) s = .next t ∧ (t.chip.eng e.val).scrub = ((s.chip.eng e.val).scrub + 1) % 4096)

/-- A stage end takes the frames that its links bring. CMD, SYNC, FENCE, POLL, READ, WRITE, the three clears, IDENT and SIDE_DN at a stage end that has power, on a frame with a good CRC. Each clause holds under the conditions that it names. (R116, R120, R122, R123, R125, R127, R129, R130, R131, R132, R154, R160) -/
def Obligations.StageEndFramesAct : Prop :=
  (∀ (s : State) (p : Port) (l : Link) (f : Frame) (x : Nat), ((s.chip.stage p.val).powered = true) → (frameOk f = true) → ((hdrOf f.bytes).typ = 2) → ((s.chip.stage p.val).epochValid = true → ((s.chip.stage p.val).admitted l = true ∧ (cmdOf (hdrOf f.bytes) (bodyOf f)).epoch = (s.chip.stage p.val).epoch)) → ((s.chip.stage p.val).window (cmdOf (hdrOf f.bytes) (bodyOf f)).applyTick.toNat (hdrOf f.bytes).seq = some x) → ((s.chip.stage p.val).cmdOk (cmdOf (hdrOf f.bytes) (bodyOf f)) = true) → (((s.chip.stage p.val).pend l).length < 4) → (((s.chip.stage p.val).pend l).any (fun y => y.applyTick == (cmdOf (hdrOf f.bytes) (bodyOf f)).applyTick) = false) → ∃ t, exec (.seCmdRx p l f) s = .next t ∧ (t.chip.stage p.val).pend l = (s.chip.stage p.val).pend l ++ [cmdOf (hdrOf f.bytes) (bodyOf f)])
  ∧ (∀ (s : State) (p : Port) (l : Link) (f : Frame), ((s.chip.stage p.val).powered = true) → (frameOk f = true) → ((hdrOf f.bytes).typ = 8) → ((s.chip.stage p.val).epochValid = true → (hdrOf f.bytes).epoch = (s.chip.stage p.val).epoch.toNat) → ((s.chip.stage p.val).follows l (hdrOf f.bytes).lead s.chip.now = true) → (bitOf (leAt (bodyOf f) 14 1) 0 = false ∨ ((s.chip.stage p.val).window (leAt (bodyOf f) 12 2) (hdrOf f.bytes).seq).any (fun x => !(s.chip.stage p.val).rsps.any (fun r => r.link == l && r.tick == x)) = true) → (leAt (bodyOf f) 8 4 ≠ 0) → (bitOf (leAt (bodyOf f) 14 1) 1 = true) → (400 < (sgn 64 (((s.chip.stage p.val).datum + 2 ^ 64 - (leAt (bodyOf f) 0 8 + leAt (bodyOf f) 8 4) % 2 ^ 64) % 2 ^ 64)).natAbs) → ∃ t, exec (.seSyncRx p l f) s = .next t ∧ (t.chip.stage p.val).datum = (leAt (bodyOf f) 0 8 + leAt (bodyOf f) 8 4) % 2 ^ 64)
  ∧ (∀ (s : State) (p : Port) (l : Link) (f : Frame), ((s.chip.stage p.val).powered = true) → (frameOk f = true) → ((hdrOf f.bytes).typ = 8) → ((s.chip.stage p.val).epochValid = true → (hdrOf f.bytes).epoch = (s.chip.stage p.val).epoch.toNat) → ((s.chip.stage p.val).follows l (hdrOf f.bytes).lead s.chip.now = false ∨ (leAt (bodyOf f) 8 4 = 0 ∧ (s.chip.stage p.val).datum < 2 ^ 64)) → ∃ t, exec (.seSyncRx p l f) s = .next t ∧ (t.chip.stage p.val).datum = (s.chip.stage p.val).datum)
  ∧ (∀ (s : State) (p : Port) (l : Link) (f : Frame), ((s.chip.stage p.val).powered = true) → (frameOk f = true) → ((hdrOf f.bytes).typ = 8) → ((s.chip.stage p.val).epochValid = true → (hdrOf f.bytes).epoch = (s.chip.stage p.val).epoch.toNat) → (bitOf (leAt (bodyOf f) 14 1) 0 = true) → ((s.chip.stage p.val).window (leAt (bodyOf f) 12 2) (hdrOf f.bytes).seq = none) → ∃ t, exec (.seSyncRx p l f) s = .next t ∧ (t.chip.stage p.val).cntLate = (s.chip.stage p.val).cntLate + 1 ∧ (t.chip.stage p.val).datum = (s.chip.stage p.val).datum ∧ (t.chip.stage p.val).rsps = (s.chip.stage p.val).rsps)
  ∧ (∀ (s : State) (p : Port) (l : Link) (f : Frame), ((s.chip.stage p.val).powered = true) → (frameOk f = true) → ((hdrOf f.bytes).typ = 9) → ((hdrOf f.bytes).lead = true) → ∃ t, exec (.seFenceRx p l f) s = .next t ∧ (t.chip.stage p.val).fences = (s.chip.stage p.val).fences ++ [{ link := l, epoch := (hdrOf f.bytes).epoch, op := leAt (bodyOf f) 0 1, newEpoch := leAt (bodyOf f) 1 1 }])
  ∧ (∀ (s : State) (p : Port) (l : Link) (f : Frame), ((s.chip.stage p.val).powered = true) → (frameOk f = true) → ((hdrOf f.bytes).typ = 9) → ((hdrOf f.bytes).lead = false) → ∃ t, exec (.seFenceRx p l f) s = .next t ∧ (t.chip.stage p.val).cntStale = (s.chip.stage p.val).cntStale + 1 ∧ (t.chip.stage p.val).fences = (s.chip.stage p.val).fences)
  ∧ (∀ (s : State) (p : Port) (l : Link) (f : Frame) (x : Nat), ((s.chip.stage p.val).powered = true) → (frameOk f = true) → ((hdrOf f.bytes).typ = 4) → ((s.chip.stage p.val).cfgEpoch (hdrOf f.bytes) = true) → ((s.chip.stage p.val).window (leAt (bodyOf f) 2 2) (hdrOf f.bytes).seq = some x) → ((s.chip.stage p.val).rsps.any (fun r => r.link == l && r.tick == x) = false) → (leAt (bodyOf f) 0 1 % 16 = 0) → ((s.chip.stage p.val).sideUp = []) → ∃ t, exec (.seCfgPoll p l f) s = .next t ∧ (t.chip.stage p.val).rsps = (s.chip.stage p.val).rsps ++ [{ link := l, tick := x, typ := 3, body := rspBody 0 (leAt (bodyOf f) 0 1 / 16) 0 (hdrOf f.bytes).seq (leAt (bodyOf f) 4 2) 0 0 0 }])
  ∧ (∀ (s : State) (p : Port) (l : Link) (f : Frame) (x : Nat), ((s.chip.stage p.val).powered = true) → (frameOk f = true) → ((hdrOf f.bytes).typ = 4) → ((s.chip.stage p.val).cfgEpoch (hdrOf f.bytes) = true) → ((s.chip.stage p.val).window (leAt (bodyOf f) 2 2) (hdrOf f.bytes).seq = some x) → ((s.chip.stage p.val).rsps.any (fun r => r.link == l && r.tick == x) = false) → (leAt (bodyOf f) 0 1 % 16 = 1) → (leAt (bodyOf f) 6 1 % 4 = 1) → (seExists (s.chip.stage p.val).ident (leAt (bodyOf f) 4 2) = true) → ∃ t, exec (.seCfgRead p l f) s = .next t ∧ (t.chip.stage p.val).rsps = (s.chip.stage p.val).rsps ++ [{ link := l, tick := x, typ := 3, body := rspBody 1 (leAt (bodyOf f) 0 1 / 16) 0 (hdrOf f.bytes).seq (leAt (bodyOf f) 4 2) 1 ((s.chip.stage p.val).readWord (leAt (bodyOf f) 4 2)) 0 }])
  ∧ (∀ (s : State) (p : Port) (l : Link) (f : Frame) (x : Nat), ((s.chip.stage p.val).powered = true) → (frameOk f = true) → ((hdrOf f.bytes).typ = 4) → ((s.chip.stage p.val).cfgEpoch (hdrOf f.bytes) = true) → ((s.chip.stage p.val).window (leAt (bodyOf f) 2 2) (hdrOf f.bytes).seq = some x) → ((s.chip.stage p.val).rsps.any (fun r => r.link == l && r.tick == x) = false) → (leAt (bodyOf f) 0 1 % 16 = 2) → ((s.chip.stage p.val).epochValid = true → (s.chip.stage p.val).admitted l = true) → ((hdrOf f.bytes).lead = true) → (leAt (bodyOf f) 6 1 % 4 = 1) → (leAt (bodyOf f) 4 2 ≠ 1) → (seWritable (s.chip.stage p.val).ident (leAt (bodyOf f) 4 2) (leAt (bodyOf f) 8 4) = true) → ∃ t, exec (.seCfgWrite p l f) s = .next t ∧ (if leAt (bodyOf f) 4 2 = 4 ∨ (0x10 ≤ leAt (bodyOf f) 4 2 ∧ leAt (bodyOf f) 4 2 < 0x50) then (t.chip.stage p.val).envNew = (s.chip.stage p.val).envNew ++ [((s.chip.stage p.val).tick, leAt (bodyOf f) 4 2, BitVec.ofNat 32 (leAt (bodyOf f) 8 4 &&& seMask (leAt (bodyOf f) 4 2)))] else (t.chip.stage p.val).words = mapSet (s.chip.stage p.val).words (leAt (bodyOf f) 4 2) (BitVec.ofNat 32 (leAt (bodyOf f) 8 4 &&& seMask (leAt (bodyOf f) 4 2)))))
  ∧ (∀ (s : State) (p : Port) (l : Link) (f : Frame) (still : Bool) (x : Nat), ((s.chip.stage p.val).powered = true) → (frameOk f = true) → ((hdrOf f.bytes).typ = 4) → ((s.chip.stage p.val).cfgEpoch (hdrOf f.bytes) = true) → ((s.chip.stage p.val).window (leAt (bodyOf f) 2 2) (hdrOf f.bytes).seq = some x) → ((s.chip.stage p.val).rsps.any (fun r => r.link == l && r.tick == x) = false) → (leAt (bodyOf f) 0 1 % 16 = 2) → ((s.chip.stage p.val).epochValid = true → (s.chip.stage p.val).admitted l = true) → ((hdrOf f.bytes).lead = true) → (leAt (bodyOf f) 6 1 % 4 = 1) → (leAt (bodyOf f) 4 2 = 1) → (bitOf (leAt (bodyOf f) 8 4) 0 = true) → ((s.chip.stage p.val).cmd.mode = 0) → ∃ t, exec (.seClearTrip p l f still) s = .next t ∧ (t.chip.stage p.val).fastTrip = (still && (s.chip.stage p.val).fastTrip))
  ∧ (∀ (s : State) (p : Port) (l : Link) (f : Frame) (still : Bool) (x : Nat), ((s.chip.stage p.val).powered = true) → (frameOk f = true) → ((hdrOf f.bytes).typ = 4) → ((s.chip.stage p.val).cfgEpoch (hdrOf f.bytes) = true) → ((s.chip.stage p.val).window (leAt (bodyOf f) 2 2) (hdrOf f.bytes).seq = some x) → ((s.chip.stage p.val).rsps.any (fun r => r.link == l && r.tick == x) = false) → (leAt (bodyOf f) 0 1 % 16 = 2) → ((s.chip.stage p.val).epochValid = true → (s.chip.stage p.val).admitted l = true) → ((hdrOf f.bytes).lead = true) → (leAt (bodyOf f) 6 1 % 4 = 1) → (leAt (bodyOf f) 4 2 = 1) → (bitOf (leAt (bodyOf f) 8 4) 1 = true) → ((s.chip.stage p.val).cmd.mode = 0) → ∃ t, exec (.seClearCrowbar p l f still) s = .next t ∧ (t.chip.stage p.val).crowbar = (still && (s.chip.stage p.val).crowbar))
  ∧ (∀ (s : State) (p : Port) (l : Link) (f : Frame) (x : Nat), ((s.chip.stage p.val).powered = true) → (frameOk f = true) → ((hdrOf f.bytes).typ = 4) → ((s.chip.stage p.val).cfgEpoch (hdrOf f.bytes) = true) → ((s.chip.stage p.val).window (leAt (bodyOf f) 2 2) (hdrOf f.bytes).seq = some x) → ((s.chip.stage p.val).rsps.any (fun r => r.link == l && r.tick == x) = false) → (leAt (bodyOf f) 0 1 % 16 = 2) → ((s.chip.stage p.val).epochValid = true → (s.chip.stage p.val).admitted l = true) → ((hdrOf f.bytes).lead = true) → (leAt (bodyOf f) 6 1 % 4 = 1) → (leAt (bodyOf f) 4 2 = 1) → (bitOf (leAt (bodyOf f) 8 4) 2 = true) → ((s.chip.stage p.val).cmd.mode = 0 ∨ (bitOf (leAt (bodyOf f) 8 4) 0 = false ∧ bitOf (leAt (bodyOf f) 8 4) 1 = false)) → ∃ t, exec (.seClearLocalFault p l f) s = .next t ∧ (t.chip.stage p.val).localFault = false)
  ∧ (∀ (s : State) (p : Port) (l : Link) (f : Frame) (x : Nat), ((s.chip.stage p.val).powered = true) → (frameOk f = true) → ((hdrOf f.bytes).typ = 4) → ((s.chip.stage p.val).cfgEpoch (hdrOf f.bytes) = true) → ((s.chip.stage p.val).window (leAt (bodyOf f) 2 2) (hdrOf f.bytes).seq = some x) → ((s.chip.stage p.val).rsps.any (fun r => r.link == l && r.tick == x) = false) → (leAt (bodyOf f) 0 1 % 16 = 3) → ∃ t, exec (.seCfgIdent p l f) s = .next t ∧ (t.chip.stage p.val).rsps = (s.chip.stage p.val).rsps ++ [{ link := l, tick := x, typ := 7, body := announceBody (s.chip.stage p.val).ident }])
  ∧ (∀ (s : State) (p : Port) (l : Link) (f : Frame) (x : Nat), ((s.chip.stage p.val).powered = true) → (frameOk f = true) → ((hdrOf f.bytes).typ = 6) → ((s.chip.stage p.val).epochValid = true → ((s.chip.stage p.val).admitted l = true ∧ (hdrOf f.bytes).epoch = (s.chip.stage p.val).epoch.toNat)) → ((s.chip.stage p.val).window (leAt (bodyOf f) 2 2) (hdrOf f.bytes).seq = some x) → ((s.chip.stage p.val).rsps.any (fun r => r.link == l && r.tick == x) = false) → ((hdrOf f.bytes).lead = true) → (leAt (bodyOf f) 0 1 % 16 ≠ 0) → (leAt (bodyOf f) 0 1 % 16 ≤ 12) → ((s.chip.stage p.val).sideDn.length < 4) → ((s.chip.stage p.val).sideTx = none) → (bitOf (leAt (bodyOf f) 0 1) 4 = false) → ∃ t, exec (.seSideDnRx p l f) s = .next t ∧ (t.chip.stage p.val).sideTx = some ((s.chip.stage p.val).sideDn ++ [sliceBytes (bodyOf f) 4 (leAt (bodyOf f) 0 1 % 16)]).flatten ∧ (t.chip.stage p.val).sideDn = [])

/-- A stage end applies commands, holds, goes safe, trips, measures and relays by itself. The events of a stage end that no frame causes. Each clause holds under the conditions that it names. (R107, R126, R131, R141, R145, R147, R151, R152, R155, R156, R159) -/
def Obligations.StageEndOwnEventsAct : Prop :=
  (∀ (s : State) (p : Port) (x : Cmd), ((s.chip.stage p.val).powered = true) → ((s.chip.stage p.val).envNew = []) → ((s.chip.stage p.val).epochValid = true) → ((s.chip.stage p.val).admitA = true) → ((s.chip.stage p.val).pendA.find? (fun k => k.applyTick.toNat == (s.chip.stage p.val).tick % 65536) = some x) → (x.epoch = (s.chip.stage p.val).epoch) → (x.mode = 0) → ((s.chip.stage p.val).pendB.find? (fun k => k.applyTick.toNat == (s.chip.stage p.val).tick % 65536) = none) → ∃ t, exec (.seApplyTick p) s = .next t ∧ (t.chip.stage p.val).cmd = x ∧ (t.chip.stage p.val).state = 0 ∧ (t.chip.stage p.val).miss = 0 ∧ (t.chip.stage p.val).carrier = false ∧ (t.chip.stage p.val).passFet = false)
  ∧ (∀ (s : State) (p : Port) (x : Cmd), ((s.chip.stage p.val).powered = true) → ((s.chip.stage p.val).envNew = []) → ((s.chip.stage p.val).epochValid = true) → ((s.chip.stage p.val).admitB = true) → ((s.chip.stage p.val).pendB.find? (fun k => k.applyTick.toNat == (s.chip.stage p.val).tick % 65536) = some x) → (x.epoch = (s.chip.stage p.val).epoch) → (x.mode = 1) → ((s.chip.stage p.val).envUsable x.envIdx = true) → ((s.chip.stage p.val).pendA.find? (fun k => k.applyTick.toNat == (s.chip.stage p.val).tick % 65536) = none) → ∃ t, exec (.seApplyTick p) s = .next t ∧ (t.chip.stage p.val).state = 1 ∧ (t.chip.stage p.val).miss = 0 ∧ (t.chip.stage p.val).carrier = true ∧ (t.chip.stage p.val).appliedB = true ∧ (t.chip.stage p.val).cmd.on1 = (if (s.chip.stage p.val).ident.pairs.toNat < 2 then x.on1 else (t.chip.stage p.val).cmd.on1))
  ∧ (∀ (s : State) (p : Port), ((s.chip.stage p.val).powered = true) → ((s.chip.stage p.val).pendA.find? (fun k => k.applyTick.toNat == (s.chip.stage p.val).tick % 65536) = none) → ((s.chip.stage p.val).pendB.find? (fun k => k.applyTick.toNat == (s.chip.stage p.val).tick % 65536) = none) → ∃ t, exec (.seApplyTick p) s = .next t ∧ (t.chip.stage p.val).miss = (s.chip.stage p.val).miss + 1 ∧ (t.chip.stage p.val).cmd = (s.chip.stage p.val).cmd ∧ (t.chip.stage p.val).state = (s.chip.stage p.val).state)
  ∧ (∀ (s : State) (p : Port), ((s.chip.stage p.val).powered = true) → ((s.chip.stage p.val).state = 1) → (8 ≤ (s.chip.stage p.val).miss) → ∃ t, exec (.seHoldEntry p) s = .next t ∧ (t.chip.stage p.val).state = 2 ∧ (t.chip.stage p.val).cntHold = (s.chip.stage p.val).cntHold + 1)
  ∧ (∀ (s : State) (p : Port), ((s.chip.stage p.val).powered = true) → ((s.chip.stage p.val).state = 2) → (64 ≤ (s.chip.stage p.val).miss) → ∃ t, exec (.seSafeEntry p) s = .next t ∧ (t.chip.stage p.val).state = 3 ∧ ((s.chip.stage p.val).word 0 % 4 = 0 → (t.chip.stage p.val).carrier = false ∧ (t.chip.stage p.val).passFet = false) ∧ ((s.chip.stage p.val).word 0 % 4 ≠ 0 → (t.chip.stage p.val).carrier = (s.chip.stage p.val).carrier ∧ (t.chip.stage p.val).passFet = (s.chip.stage p.val).passFet ∧ (t.chip.stage p.val).cmd = (s.chip.stage p.val).cmd))
  ∧ (∀ (s : State) (p : Port) (r : RawSample), ((s.chip.stage p.val).powered = true) → (seFeed (s.chip.stage p.val).ident = true) → (seCap (s.chip.stage p.val).ident 1 = true) → ((s.chip.stage p.val).word 3 % 65536 ≤ (r.chan ((s.chip.stage p.val).word 3 / 65536 % 4)).natAbs) → ∃ t, exec (.seFastTrip p r) s = .next t ∧ (t.chip.stage p.val).fastTrip = true ∧ (t.chip.stage p.val).passFet = false)
  ∧ (∀ (s : State) (p : Port) (r : RawSample), ((s.chip.stage p.val).powered = true) → ((s.chip.stage p.val).ident.stype = 0) → (seCap (s.chip.stage p.val).ident 0 = true) → (sgn 16 ((s.chip.stage p.val).word 4) ≤ r.chan ((s.chip.stage p.val).word 4 / 65536 % 4)) → ∃ t, exec (.seCrowbar p r) s = .next t ∧ (t.chip.stage p.val).crowbar = true ∧ ∀ k, (t.chip.stage p.val).highOn k = false ∧ (t.chip.stage p.val).lowLatched k = decide (k < (s.chip.stage p.val).ident.pairs.toNat))
  ∧ (∀ (s : State) (p : Port), ((s.chip.stage p.val).powered = true) → ∃ t, exec (.seSelfcheckFail p) s = .next t ∧ (t.chip.stage p.val).localFault = true)
  ∧ (∀ (s : State) (p : Port) (i : SeIdent), ∃ t, exec (.sePowerCycle p i) s = .next t ∧ (t.chip.stage p.val).epochValid = false ∧ (t.chip.stage p.val).ident = i ∧ (t.chip.stage p.val).state = 0 ∧ (t.chip.stage p.val).words = [])
  ∧ (∀ (s : State) (p : Port), ((s.chip.stage p.val).powered = true) → (seFeed (s.chip.stage p.val).ident = true) → (seCap (s.chip.stage p.val).ident 2 = true) → ((s.chip.stage p.val).passFet = false) → ((s.chip.stage p.val).measuring = false) → (∀ u, (s.chip.stage p.val).measured = some u → u + 10 * dqS ≤ s.chip.now) → ∃ t, exec (.seMoistureMeasure p) s = .next t ∧ (t.chip.stage p.val).measuring = true)
  ∧ (∀ (s : State) (p : Port) (k : Nat), ((s.chip.stage p.val).powered = true) → ((s.chip.stage p.val).measuring = true) → ∃ t, exec (.seMoistureDone p k) s = .next t ∧ (t.chip.stage p.val).measured = some s.chip.now ∧ (t.chip.stage p.val).moistVal = min k 0xFFFFF ∧ ((s.chip.stage p.val).word 5 % 2 ^ 20 ≠ 0 → min k 0xFFFFF < (s.chip.stage p.val).word 5 % 2 ^ 20 → (t.chip.stage p.val).moisture = true) ∧ (5 * ((s.chip.stage p.val).word 5 % 2 ^ 20) ≤ 4 * min k 0xFFFFF → (t.chip.stage p.val).moisture = false))
  ∧ (∀ (s : State) (p : Port) (m : Bytes), ((s.chip.stage p.val).powered = true) → (seRelay (s.chip.stage p.val).ident = true) → ((s.chip.stage p.val).sideTx = some m) → ((s.chip.stage p.val).measuring = false) → ((s.chip.stage p.val).lineFree + 12 * sideBit ≤ s.chip.now) → ∃ t, exec (.sidebandTx p) s = .next t ∧ (t.chip.stage p.val).sideTx = none ∧ t.chip.sent = Out.sideband p ([0x55, 0x55, 0x55, 0x55, 0xD5] ++ m ++ leBytes (crc32c m) 4) :: s.chip.sent)
  ∧ (∀ (s : State) (p : Port) (m : Bytes) (crc : Word), ((s.chip.stage p.val).powered = true) → (seRelay (s.chip.stage p.val).ident = true) → (m ≠ []) → ((s.chip.stage p.val).measuring = false) → ((s.chip.stage p.val).sideIdle s.chip.now = true) → ∃ t, exec (.sidebandRx p m crc) s = .next t ∧ (t.chip.stage p.val).sideRx = some (m, crc) ∧ (t.chip.stage p.val).lineFree = s.chip.now + (8 * (sideFrame m).length + 2) * sideBit ∧ (t.chip.stage p.val).sideUp = (s.chip.stage p.val).sideUp)
  ∧ (∀ (s : State) (p : Port) (m : Bytes) (crc : Word), ((s.chip.stage p.val).powered = true) → ((s.chip.stage p.val).measuring = true ∨ (s.chip.stage p.val).sideIdle s.chip.now = false) → ∃ t, exec (.sidebandRx p m crc) s = .next t ∧ t = s)
  ∧ (∀ (s : State) (p : Port), ((s.chip.stage p.val).powered = true) → ∃ t, exec (.upstreamFrameSend p) s = .next t ∧ t.chip.sent = Out.upFrame p .b ((s.chip.stage p.val).upFrame .b) :: Out.upFrame p .a ((s.chip.stage p.val).upFrame .a) :: s.chip.sent)
  ∧ (∀ (s : State) (p : Port) (r : RawSample), ((s.chip.stage p.val).powered = true) → ∃ t, exec (.seSampleTick p r) s = .next t ∧ (t.chip.stage p.val).smp0.code = (if 0 < (s.chip.stage p.val).ident.channels.toNat then (limitCode r.c0).1 else 0) ∧ (t.chip.stage p.val).smp0.tick = (s.chip.stage p.val).tick)

/-- A stage link is aligned, comes up, goes down, resumes and is timed. Alignment, UP and DOWN, SYNC and TIME_ECHO of a stage link, and the limits of discovery. Each clause holds under the conditions that it names. (R98, R100, R118, R119, R120, R133, R134, R135) -/
def Obligations.LinkStateCommandsAct : Prop :=
  (∀ (s : State) (p : Port), (s.chip.enabled (pgSP p.val) = true) → ((s.chip.port p.val).aligned = true) → (4 ≤ (s.chip.port p.val).badSlots) → ∃ t, exec (.linkAlignLoss p) s = .next t ∧ (t.chip.port p.val).aligned = false ∧ (t.chip.port p.val).goodRun = 0)
  ∧ (∀ (s : State) (p : Port) (i : Bool), (s.chip.enabled (pgSP p.val) = true) → ∃ t, exec (.linkAlignAcquire p i) s = .next t ∧ (t.chip.port p.val).aligned = true ∧ (t.chip.port p.val).inverted = i)
  ∧ (∀ (s : State) (p : Port), (s.chip.enabled (pgSP p.val) = true) → ((s.chip.port p.val).linkUp = true) → ((s.chip.port p.val).lastGood + 1024 * dqTick ≤ s.chip.now) → ∃ t, exec (.linkDown p) s = .next t ∧ (t.chip.port p.val).linkUp = false ∧ (t.chip.port p.val).req = none ∧ (s.chip.armed (tmKey tmDisc p.val) = false → s.chip.link p.val ≠ lkFailed → t.chip.link p.val = lkDown))
  ∧ (∀ (s : State) (p : Port), (s.chip.enabled (pgSP p.val) = true) → ((s.chip.port p.val).linkUp = false) → (64 ≤ (s.chip.port p.val).goodRun) → ∃ t, exec (.linkUp p) s = .next t ∧ (t.chip.port p.val).linkUp = true ∧ (t.chip.port p.val).everUp = true)
  ∧ (∀ (s : State) (p : Port), (s.chip.enabled (pgSP p.val) = true) → ((s.chip.port p.val).linkUp = true) → ((s.chip.port p.val).announce.isSome = true) → ((s.chip.port p.val).epochValid = true) → (s.chip.link p.val = lkDown) → (s.chip.on R.SP_AUTO_DISC (pgSP p.val) = true) → ∃ t, exec (.linkResume p) s = .next t ∧ t.chip.link p.val = lkTiming ∧ (t.chip.port p.val).echoOk = 0 ∧ mapGet t.chip.timers (tmKey tmDisc p.val) 0 = t.chip.now + 10 * dqMs + 1)
  ∧ (∀ (s : State) (p : Port), (s.chip.syncSlot p.val = true) → ∃ t, exec (.syncSend p) s = .next t ∧ ∃ r echo step, t.chip.sent = (s.chip.sendSe p.val 8 (syncBody s.chip.datum (s.chip.rd R.SP_DELAY (pgSP p.val)) r echo step)).sent ∧ ((lkAlign ≤ s.chip.link p.val ∧ s.chip.link p.val ≤ lkConfig) → echo = true))
  ∧ (∀ (s : State) (p : Port) (f : Frame) (t4 : Nat) (c1 : Chip) (h : Hdr) (b : Bytes) (r t1 : Nat), (s.chip.upCheck p.val f = (c1, some (h, b))) → (h.typ = 7) → (leAt b 0 1 = 1) → ((c1.port p.val).syncT1.find? (fun e => e.1 % 65536 == (hdrOf f.bytes).seq) = some (r, t1)) → (c1.link p.val = lkReady) → ∃ t, exec (.timeEchoRx p f t4) s = .next t ∧ t.chip.rd R.SP_OFFSET (pgSP p.val) = unsgn 32 ((sgn 32 (leAt b 4 4 + 2 ^ 32 - t1 % 2 ^ 32) - sgn 32 (t4 % 2 ^ 32 + 2 ^ 32 - leAt b 8 4)).tdiv 2))
  ∧ (∀ (s : State) (p : Port), (s.chip.due (tmKey tmDisc p.val) = true) → (lkAlign ≤ s.chip.link p.val) → (s.chip.link p.val ≤ lkConfig) → ((s.chip.port p.val).attempts < 3) → ∃ t, exec (.discStepTimeout p) s = .next t ∧ (t.chip.port p.val).attempts = (s.chip.port p.val).attempts + 1 ∧ (t.chip.port p.val).announce = none ∧ t.chip.link p.val = lkAlign)
  ∧ (∀ (s : State) (p : Port), (s.chip.due (tmKey tmDiscRetry p.val) = true) → (s.chip.link p.val = lkFailed) → ∃ t, exec (.discRetry p) s = .next t ∧ (t.chip.port p.val).attempts = 0 ∧ (t.chip.port p.val).announce = none ∧ t.chip.link p.val = lkAlign)

/-- Requests and their answers, SIDE fragments, FENCE and ADMIT act. Answers that arrive on a stage link, requests that time out, the poll of a stage end, FENCE and ADMIT. Each clause holds under the conditions that it names. (R124, R127, R128, R129, R131, R132, R137, R139) -/
def Obligations.LinkRequestCommandsAct : Prop :=
  (∀ (s : State) (p : Port) (f : Frame) (c1 : Chip) (h : Hdr) (b : Bytes), (s.chip.upCheck p.val f = (c1, some (h, b))) → (h.typ = 7) → (leAt b 0 1 = 0) → (c1.link p.val = lkIdent) → ((announceOf b).linkVer = 1) → (1 ≤ (announceOf b).channels.toNat) → ((announceOf b).channels.toNat ≤ 4) → ((announceOf b).pairs.toNat ≤ 2) → ∃ t, exec (.announceRx p f) s = .next t ∧ (t.chip.port p.val).announce = some (announceOf b) ∧ t.chip.link p.val = lkConfig)
  ∧ (∀ (s : State) (p : Port) (f : Frame) (c1 : Chip) (h : Hdr) (b : Bytes) (q : CfgReq), (s.chip.upCheck p.val f = (c1, some (h, b))) → (h.typ = 3) → ((c1.port p.val).req = some q) → (leAt b 0 1 % 16 = q.op) → (leAt b 0 1 / 16 = q.tag) → (leAt b 1 1 = 0) → ((c1.port p.val).cfgQ = []) → (c1.link p.val = lkReady) → ∃ t, exec (.cfgRspRx p f) s = .next t ∧ (t.chip.port p.val).req = none)
  ∧ (∀ (s : State) (p : Port) (f : Frame) (c1 : Chip) (h : Hdr) (b : Bytes), (s.chip.upCheck p.val f = (c1, some (h, b))) → (h.typ = 5) → (bitOf (leAt b 0 1) 4 = true) → ((c1.port p.val).prevSide = leAt b 1 1) → ∃ t, exec (.sideUpRx p f) s = .next t ∧ (t.chip.port p.val).sideMsg = (c1.port p.val).sideMsg ++ sliceBytes b 4 (min (leAt b 0 1 % 16) 12))
  ∧ (∀ (s : State) (p : Port) (q : CfgReq), ((s.chip.port p.val).req = some q) → (q.wait = false) → (q.rspTick + 4 < s.chip.tick) → (q.tries < 3) → ∃ t, exec (.cfgRspTimeout p) s = .next t ∧ (t.chip.port p.val).req = some { q with tries := q.tries + 1, wait := true })
  ∧ (∀ (s : State) (p : Port) (q : CfgReq), ((s.chip.port p.val).req = some q) → (q.wait = false) → (q.rspTick + 4 < s.chip.tick) → (3 ≤ q.tries) → ((s.chip.port p.val).cfgQ = []) → ∃ t, exec (.cfgRspTimeout p) s = .next t ∧ (t.chip.port p.val).req = none ∧ t.chip.rd R.SP_CNT_RSP_TIMEOUT (pgSP p.val) = (s.chip.rd R.SP_CNT_RSP_TIMEOUT (pgSP p.val) + 1) % 2 ^ 32 ∧ bitOf (t.chip.rd R.EVT_LATCH (pgSP p.val)) 7 = true)
  ∧ (∀ (s : State) (p : Port), (s.chip.portLeads p.val = true) → ((s.chip.port p.val).sidePending = true) → (s.chip.linkReady p.val = true) → ((s.chip.port p.val).req = none) → ((s.chip.port p.val).cfgQ = []) → ∃ t, exec (.sidePendingPoll p) s = .next t ∧ ∃ q, (t.chip.port p.val).req = some q ∧ q.op = 0 ∧ q.wait = true)
  ∧ (∀ (s : State) (p : Port) (n : BitVec 8), ((s.chip.port p.val).fencing = some n) → (s.chip.fenceSlot p.val = true) → (s.chip.portLeads p.val = true) → ((s.chip.port p.val).sentCmd = false ∨ (s.chip.port p.val).lastApply < s.chip.tick) → ∃ t, exec (.fenceSend p) s = .next t ∧ (t.chip.port p.val).epoch = n ∧ t.chip.sent = (s.chip.sendSe p.val 9 (fenceBody false n.toNat) false (some ((n.toNat + 255) % 256))).sent)
  ∧ (∀ (s : State) (p : Port), ((s.chip.port p.val).admitting = true) → (s.chip.portLeads p.val = true) → (s.chip.peerAdmit p.val = false) → (s.chip.fenceSlot p.val = true) → ∃ t, exec (.admitSend p) s = .next t ∧ t.chip.sent = (s.chip.sendSe p.val 9 (fenceBody true (s.chip.port p.val).epoch.toNat)).sent)
  ∧ (∀ (s : State) (p : Port), ((s.chip.port p.val).admitting = true) → (s.chip.portLeads p.val = true) → (s.chip.peerAdmit p.val = true) → ∃ t, exec (.admitSend p) s = .next t ∧ (t.chip.port p.val).admitting = false)
  ∧ (∀ (s : State) (p : Port), (s.chip.due (tmKey tmFence p.val) = true) → ((s.chip.port p.val).fencing.isSome = true) → ∃ t, exec (.epochMismatch p) s = .next t ∧ (t.chip.port p.val).fencing = none ∧ bitOf (t.chip.rd R.EVT_LATCH (pgSP p.val)) 6 = true)

/-- A phase starts again after a hiccup, clears its count and its crowbar, and publishes its telemetry. The rows that end a phase's intervals. Each clause holds under the conditions that it names. (R216, R218, R222, R224) -/
def Obligations.PhaseTimersAct : Prop :=
  (∀ (s : State) (p : Port) (i : Nat) (l : LawSt), (s.chip.due (tmKey tmHiccup p.val) = true) → (s.chip.ph p.val = 3) → (s.chip.portLaw p.val = some (i, l)) → ∃ t, exec (.hiccupEnd p) s = .next t ∧ t = s.onChip (fun c => (c.disarm (tmKey tmHiccup p.val)).phStart p.val) ∧ t.chip.armed (tmKey tmHiccup p.val) = false ∧ t.chip.ph p.val = (if dAuto l.desc then 1 else 2))
  ∧ (∀ (s : State) (p : Port), (s.chip.due (tmKey tmHicClear p.val) = true) → (s.chip.ph p.val = 2) → ∃ t, exec (.hicCountClear p) s = .next t ∧ t.chip.rd R.SP_HIC_COUNT (pgSP p.val) = 0 ∧ t.chip.armed (tmKey tmHicClear p.val) = false)
  ∧ (∀ (s : State) (p : Port), (s.chip.due (tmKey tmCrowbar p.val) = true) → ((s.chip.port p.val).crowbar = true) → ∃ t, exec (.crowbarClearCheck p) s = .next t ∧ t.chip.rd R.SP_CLEAR_FAIL (pgSP p.val) = 1 ∧ (t.chip.port p.val).clearReq = false ∧ t.chip.ph p.val = s.chip.ph p.val)
  ∧ (∀ (s : State) (p : Port), (s.chip.due (tmKey tmCrowbar p.val) = true) → ((s.chip.port p.val).crowbar = false) → ((s.chip.port p.val).clearReq = true) → (s.chip.ph p.val = 5) → ∃ t, exec (.crowbarClearCheck p) s = .next t ∧ t = s.onChip (fun c => ((c.disarm (tmKey tmCrowbar p.val)).disarm (tmKey tmCrowbar p.val)).phStart p.val))
  ∧ (∀ (s : State) (p : Port) (d : Bytes), (s.chip.tlmOf p.val = some d) → (dTlmWin d ≠ 0) → (20 * dTlmWin d + 2 ≤ s.chip.tick) → ((s.chip.tick - 2) % (20 * dTlmWin d) = 0) → (s.chip.armed (tmKey tmTlm p.val) = false ∨ s.chip.due (tmKey tmTlm p.val) = true) → ∃ t, exec (.telemetryWindowEnd p) s = .next t ∧ t.chip.rd R.SP_TLM_N (pgSP p.val) = (mapGet (s.chip.port p.val).tlm (s.chip.tick - 2 - 20 * dTlmWin d) {}).n % 2 ^ R.SP_TLM_N.w ∧ (t.chip.port p.val).tlm = (s.chip.port p.val).tlm.filter (fun e => decide (s.chip.tick - 2 ≤ e.1)) ∧ ((mapGet (s.chip.port p.val).tlm (s.chip.tick - 2 - 20 * dTlmWin d) {}).n ≠ 0 → t.chip.rd R.SP_TLM_V (pgSP p.val) = (fdiv (mapGet (s.chip.port p.val).tlm (s.chip.tick - 2 - 20 * dTlmWin d) {}).v (fOfNat (mapGet (s.chip.port p.val).tlm (s.chip.tick - 2 - 20 * dTlmWin d) {}).n)).toNat ∧ t.chip.rd R.SP_TLM_I (pgSP p.val) = (fdiv (mapGet (s.chip.port p.val).tlm (s.chip.tick - 2 - 20 * dTlmWin d) {}).i (fOfNat (mapGet (s.chip.port p.val).tlm (s.chip.tick - 2 - 20 * dTlmWin d) {}).n)).toNat ∧ t.chip.rd R.SP_TLM_P (pgSP p.val) = (fdiv (mapGet (s.chip.port p.val).tlm (s.chip.tick - 2 - 20 * dTlmWin d) {}).p (fOfNat (mapGet (s.chip.port p.val).tlm (s.chip.tick - 2 - 20 * dTlmWin d) {}).n)).toNat))

/-- Felting recomputes and ends its movements; a section's hold-up states change. Felting and hold-up of a section, and the release of an early warning. Each clause holds under the conditions that it names. (R236, R237, R248, R249, R253, R266) -/
def Obligations.SectionCommandsAct : Prop :=
  (∀ (s : State) (k : Sec), ((s.chip.sec k.val).feltTrig = true) → (s.chip.rd R.HOLD_STATE pgHOLD k.val ≠ 2) → (s.chip.takesWork pgFELT = true) → ∃ t, exec (.feltRecompute k) s = .next t ∧ (t.chip.sec k.val).feltTrig = false ∧ t.chip.rd R.FELT_CNT_RECOMPUTE pgFELT = (s.chip.rd R.FELT_CNT_RECOMPUTE pgFELT + 1) % 2 ^ 32 ∧ bitOf (t.chip.rd R.EVT_LATCH pgFELT) k.val = true)
  ∧ (∀ (s : State) (k : Sec), (s.chip.on R.FELT_FS_SLEWING pgFELT k.val = true) → ((s.chip.sec k.val).members.any (fun p => (s.chip.port p).moving) = false) → ∃ t, exec (.feltSlewDone k) s = .next t ∧ t.chip.rd R.FELT_FS_SLEWING pgFELT k.val = 0 ∧ bitOf (t.chip.rd R.EVT_LATCH pgFELT) (16 + k.val) = true)
  ∧ (∀ (s : State) (k : Sec), (s.chip.onV R.HOLD_EN pgHOLD k.val = true) → (s.chip.rd R.HOLD_STATE pgHOLD k.val = 1 ∨ s.chip.rd R.HOLD_STATE pgHOLD k.val = 5) → (s.chip.quorumMet k.val (fun p => s.chip.belowLoss k.val p (s.chip.tick - 2)) = true ∨ s.chip.quorumMet k.val (fun p => s.chip.belowLoss k.val p (s.chip.tick - 3)) = true) → ∃ t, exec (.inputLossDeclared k) s = .next t ∧ t.chip.rd R.HOLD_STATE pgHOLD k.val = 2)
  ∧ (∀ (s : State) (k : Sec), (s.chip.due (tmKey tmTrans k.val) = true) → (s.chip.rd R.HOLD_STATE pgHOLD k.val = 2) → ∃ t, exec (.transferEnd k) s = .next t ∧ t.chip.rd R.HOLD_STATE pgHOLD k.val = 3)
  ∧ (∀ (s : State) (k : Sec), (s.chip.due (tmKey tmQualify k.val) = true) → (s.chip.rd R.HOLD_STATE pgHOLD k.val = 4) → ∃ t, exec (.qualifyEnd k) s = .next t ∧ t.chip.rd R.HOLD_STATE pgHOLD k.val = 5)
  ∧ (∀ (s : State) (k : Sec), (s.chip.due (tmKey tmOvl k.val) = true) → (s.chip.on R.HOLD_OVERLOAD pgHOLD k.val = true) → ∃ t, exec (.overloadSpent k) s = .next t ∧ (t.chip.sec k.val).ovlSpent = true)
  ∧ (∀ (s : State) (k : Sec), (s.chip.due (tmKey tmOvl (8 + k.val)) = true) → (s.chip.on R.HOLD_OVERLOAD pgHOLD k.val = false) → ∃ t, exec (.overloadRestore k) s = .next t ∧ (t.chip.sec k.val).ovlUsed = 0 ∧ (t.chip.sec k.val).ovlSpent = ((s.chip.sec k.val).ovlSpent && decide (2 ≤ s.chip.rd R.HOLD_STATE pgHOLD k.val)))
  ∧ (∀ (s : State) (g : Oct), (s.chip.due (tmKey tmEwHold g.val) = true) → ((s.chip.disarm (tmKey tmEwHold g.val)).ewCause g.val = false) → ∃ t, exec (.ewHoldExpiry g) s = .next t ∧ bitOf (t.chip.rd R.HOLD_EW_LIVE pgHOLD) g.val = false ∧ t.chip.armed (tmKey tmEwHold g.val) = false)

/-- Crown's updates, the grace of a leaf, the string updates, impedance and the records act. The periodic and extra updates of Crown, enforcement after the grace time, the millisecond update of the strings, impedance measurements and battery records. Each clause holds under the conditions that it names. (R263, R264, R265, R272, R277, R280, R329) -/
def Obligations.CrownAndGaugeCommandsAct : Prop :=
  (∀ (s : State), (s.chip.tick % s.chip.rd R.CROWN_PERIOD pgCROWN = 0) → (s.chip.armed (tmKey tmCrown 0) = false ∨ s.chip.due (tmKey tmCrown 0) = true) → (s.chip.on R.CROWN_EN pgCROWN = true) → (s.chip.feeders = []) → ∃ t, exec (.crownUpdate) s = .next t ∧ t.chip.rd R.CROWN_CNT_UPDATE pgCROWN = (s.chip.rd R.CROWN_CNT_UPDATE pgCROWN + 1) % 2 ^ 32 ∧ t.chip.armed (tmKey tmCrown 0) = true)
  ∧ (∀ (s : State), (s.chip.twin.crownDue = true) → (s.chip.on R.CROWN_EN pgCROWN = true) → ∃ t, exec (.crownExtraUpdate) s = .next t ∧ t.chip.twin.crownDue = false ∧ t.chip.rd R.CROWN_CNT_UPDATE pgCROWN = (s.chip.rd R.CROWN_CNT_UPDATE pgCROWN + 1) % 2 ^ 32)
  ∧ (∀ (s : State) (n : Leaf), (s.chip.due (tmKey tmGrace n.val) = true) → ∃ t, exec (.graceExpiry n) s = .next t ∧ (t.chip.capst n.val).limit = some (s.chip.capst n.val).cap ∧ (n.val < 96 → t.chip.on R.CROWN_CAPPED pgCROWN n.val = true) ∧ t.chip.rd R.CROWN_CNT_ENFORCE pgCROWN = (s.chip.rd R.CROWN_CNT_ENFORCE pgCROWN + 1) % 2 ^ 32 ∧ t.chip.armed (tmKey tmGrace n.val) = false)
  ∧ (∀ (s : State), (20002 ≤ s.chip.tick) → ((s.chip.tick - 2) % 20000 = 0) → (s.chip.onV R.GAUGE_EN pgGAUGE = true) → (s.chip.shed = false) → (s.chip.armed (tmKey tmGauge 0) = false ∨ s.chip.due (tmKey tmGauge 0) = true) → (∀ e ∈ s.chip.strs, s.chip.onV R.GAUGE_VALID pgGAUGE e.1 = true) → ∃ t, exec (.gaugeUpdate) s = .next t ∧ t = s.onChip (fun c => (foldc ((upTo 24).filter (fun n => c.onV R.GAUGE_VALID pgGAUGE n)) (fun n c => c.strUpdate n) (c.arm (tmKey tmGauge 0) dqTick)).takeCfg pgGAUGE (pgGAUGE + 0x1000)))
  ∧ (∀ (s : State), (20002 ≤ s.chip.tick) → ((s.chip.tick - 2) % 20000 = 0) → (s.chip.onV R.GAUGE_EN pgGAUGE = false ∨ s.chip.shed = true) → (s.chip.armed (tmKey tmGauge 0) = false ∨ s.chip.due (tmKey tmGauge 0) = true) → ∃ t, exec (.gaugeUpdate) s = .next t ∧ t = s.onChip (fun c => (foldc (c.strs.map (·.1)) (fun n c => c.strSkip n) (c.arm (tmKey tmGauge 0) dqTick)).takeCfg pgGAUGE (pgGAUGE + 0x1000)))
  ∧ (∀ (s : State) (k : Sec) (n f : Nat), ((s.chip.sec k.val).zStr = none) → (s.chip.on R.BMK_EN pgBMK = true) → (s.chip.onV R.GAUGE_EN pgGAUGE = true) → (s.chip.ditherBad k.val = false) → (s.chip.shed = false) → (s.chip.takesWork pgGAUGE = true) → ((s.chip.validStrs.filter (fun n => s.chip.zCan k.val n)).findSome? (fun n => (s.chip.zDue n).map (fun f => (n, f))) = some (n, f)) → ∃ t, exec (.zMeasureStart k) s = .next t ∧ (t.chip.sec k.val).zStr = some n ∧ (t.chip.sec k.val).zStart = s.chip.tick ∧ (t.chip.sec k.val).zBad = false ∧ t.chip.rd R.GAUGE_Z_ACTIVE pgGAUGE n = 1 ∧ t.chip.rd R.BMK_ZSTRING pgBMK k.val = n % 2 ^ R.BMK_ZSTRING.w ∧ t.chip.rd R.BMK_ZFREQ pgBMK k.val = f % 2 ^ R.BMK_ZFREQ.w)
  ∧ (∀ (s : State) (k : Sec) (n : Str) (f : Hex) (u : Nat), ((s.chip.sec k.val).zStr = some n.val) → (s.chip.rd R.BMK_ZFREQ pgBMK k.val = f.val) → ((s.chip.sec k.val).zStart = u) → ((s.chip.sec k.val).zBad = true ∨ s.chip.zSpoilt k.val = true ∨ zTime f.val ≤ (s.chip.tick - u) * dqTick) → ∃ t, exec (.zMeasureEnd k n f u) s = .next t ∧ (t.chip.sec k.val).zStr = none ∧ t.chip.rd R.GAUGE_Z_ACTIVE pgGAUGE n.val = 0 ∧ t.chip.rd R.BMK_ZSTRING pgBMK k.val = 0x1F)
  ∧ (∀ (s : State), (s.chip.leads = true) → (s.chip.armed (tmKey tmBatt 0) = false ∨ s.chip.due (tmKey tmBatt 0) = true) → ∃ t, exec (.batteryRecordWrite) s = .next t ∧ t.chip.mram.battery = s.chip.mram.battery.filter (fun e => !s.chip.validStrs.contains e.1) ++ s.chip.validStrs.map s.chip.battRecord ∧ t.chip.armed (tmKey tmBatt 0) = true)

/-- Benchmark's windows end, its values are published, and a class-C result takes effect. Calibration windows, zero-current windows, publication, and the application of a class-C result. Each clause holds under the conditions that it names. (R37, R44, R318, R321, R324) -/
def Obligations.BenchmarkCommandsAct : Prop :=
  (∀ (s : State) (k : Sec) (w : CalWindow), (s.chip.on R.BMK_EN pgBMK = true) → (s.chip.due (tmKey tmPubl (1 + k.val)) = true) → (s.chip.shed = false) → (s.chip.windowGaps k.val = true ∨ lapped w s.chip.tick = true ∨ s.chip.windowLate k.val = true) → ∃ t, exec (.calWindowEnd k w) s = .next t ∧ t.chip.rd R.BMK_CNT pgBMK 1 = (s.chip.rd R.BMK_CNT pgBMK 1 + 1) % 2 ^ 32)
  ∧ (∀ (s : State) (k : Sec) (w : CalWindow), (s.chip.on R.BMK_EN pgBMK = true) → (s.chip.due (tmKey tmPubl (1 + k.val)) = true) → (s.chip.shed = false) → (s.chip.rd R.TWIN_STATE pgTWIN ≠ 2) → ((s.chip.sec k.val).winOld = false ∨ s.chip.leads = true) → (s.chip.windowGaps k.val = false) → (lapped w s.chip.tick = false) → (s.chip.windowLate k.val = false) → ∃ t, exec (.calWindowEnd k w) s = .next t ∧ t.chip.rd R.BMK_CNT pgBMK 0 = (s.chip.rd R.BMK_CNT pgBMK 0 + 1) % 2 ^ 32)
  ∧ (∀ (s : State) (p : Port) (ch : Chan), (s.chip.on R.BMK_EN pgBMK = true) → (s.chip.shed = false) → (s.chip.takesWork pgBMK = true) → (s.chip.zeroKind p.val ch.val = true) → (s.chip.stoodStill p.val 400 = true) → ((s.chip.cal (4 * p.val + ch.val)).zero = none) → ∃ t, exec (.zeroWindowOpen p ch) s = .next t ∧ (t.chip.cal (4 * p.val + ch.val)).zero = some s.chip.tick ∧ (t.chip.cal (4 * p.val + ch.val)).zeroN = 0 ∧ (t.chip.cal (4 * p.val + ch.val)).zeroSum = 0)
  ∧ (∀ (s : State) (p : Port) (ch : Chan) (u : Nat), ((s.chip.cal (4 * p.val + ch.val)).zero = some u) → (u + 256 ≤ s.chip.tick) → (s.chip.stoodStill p.val 400 = true) → (s.chip.zeroKind p.val ch.val = true) → (s.chip.shed = false) → (s.chip.rd R.TWIN_STATE pgTWIN ≠ 2) → ((s.chip.cal (4 * p.val + ch.val)).zeroN ≠ 0) → ∃ t, exec (.zeroWindowEnd p ch u (u + 255)) s = .next t ∧ (t.chip.cal (4 * p.val + ch.val)).zero = none ∧ ((t.chip.cal (4 * p.val + ch.val)).zeroOff.map (·.1)) = some (fdiv (fOfInt (s.chip.cal (4 * p.val + ch.val)).zeroSum) (fOfNat (s.chip.cal (4 * p.val + ch.val)).zeroN)) ∧ (t.chip.cal (4 * p.val + ch.val)).offAt = s.chip.timeTick)
  ∧ (∀ (s : State) (p : Port) (ch : Chan) (u : Nat), ((s.chip.cal (4 * p.val + ch.val)).zero = some u) → (u + 256 ≤ s.chip.tick) → (s.chip.stoodStill p.val 400 = false ∨ s.chip.zeroKind p.val ch.val = false ∨ s.chip.shed = true ∨ s.chip.rd R.TWIN_STATE pgTWIN = 2 ∨ (s.chip.cal (4 * p.val + ch.val)).zeroN = 0) → ∃ t, exec (.zeroWindowEnd p ch u (u + 255)) s = .next t ∧ (t.chip.cal (4 * p.val + ch.val)).zero = none ∧ (t.chip.cal (4 * p.val + ch.val)).zeroOff = (s.chip.cal (4 * p.val + ch.val)).zeroOff)
  ∧ (∀ (s : State) (c1 : Chip), (20002 ≤ s.chip.tick) → ((s.chip.tick - 2) % (20000 * s.chip.bmkSettle.rdV R.BMK_PUB_MS pgBMK) = 0) → (s.chip.armed (tmKey tmPubl 0) = false ∨ s.chip.due (tmKey tmPubl 0) = true) → (c1 = foldc (upTo 8) (fun k c => (if c.on R.BMK_EN pgBMK then c.zStale k else c).flatFollow k) (foldc (upTo 192) (fun p c => c.agePort p) (s.chip.bmkSettle.arm (tmKey tmPubl 0) dqTick))) → (c1.on R.BMK_EN pgBMK = false ∨ c1.shed = true ∨ c1.rd R.TWIN_STATE pgTWIN = 2) → ∃ t, exec (.calPublish) s = .next t ∧ t = s.onChip (fun _ => c1))
  ∧ (∀ (s : State) (c1 : Chip), (20002 ≤ s.chip.tick) → ((s.chip.tick - 2) % (20000 * s.chip.bmkSettle.rdV R.BMK_PUB_MS pgBMK) = 0) → (s.chip.armed (tmKey tmPubl 0) = false ∨ s.chip.due (tmKey tmPubl 0) = true) → (c1 = foldc (upTo 8) (fun k c => (if c.on R.BMK_EN pgBMK then c.zStale k else c).flatFollow k) (foldc (upTo 192) (fun p c => c.agePort p) (s.chip.bmkSettle.arm (tmKey tmPubl 0) dqTick))) → (c1.on R.BMK_EN pgBMK = true) → (c1.shed = false) → (c1.rd R.TWIN_STATE pgTWIN ≠ 2) → (∀ k < 8, (c1.sec k).zfit = none ∧ (c1.sec k).zpts = []) → ∃ t, exec (.calPublish) s = .next t ∧ t = s.onChip (fun _ => foldc (upTo 192) (fun p c => if ((c.takeOps p).calChans p).isEmpty then c.takeOps p else (c.takeOps p).submit p (((c.takeOps p).calChans p).flatMap ((c.takeOps p).calWrites p)) []) c1))
  ∧ (∀ (s : State) (i : Nat) (r : CRes), (s.chip.twin.classC.find? (fun r => r.item == i) = some r) → (r.peerOk = true) → (r.atT ≠ 0) → (r.atT ≤ s.chip.tick) → (520 ≤ i) → ∃ t, exec (.classCResultApply i) s = .next t ∧ t.chip.twin.classC = s.chip.twin.classC.filter (fun q => q.item != i) ∧ t.chip.regs = r.writes.foldl (fun m w => mapSet m w.1 w.2) s.chip.regs)
  ∧ (∀ (s : State) (i : Nat) (r : CRes), (s.chip.twin.classC.find? (fun r => r.item == i) = some r) → (r.peerOk = true) → (r.atT ≠ 0) → (r.atT ≤ s.chip.tick) → ∃ t, exec (.classCResultApply i) s = .next t ∧ ∀ q ∈ t.chip.twin.classC, q.item ≠ i)

/-- The feeder task runs, and the feeder's intervals end. The feeder's task, retries, the limits of its states, and the clear of its latched trip. Each clause holds under the conditions that it names. (R289, R291, R297, R299, R306, R307) -/
def Obligations.FeederTaskAndTimersAct : Prop :=
  (∀ (s : State) (p : Port), ((s.chip.fd p.val).placed.isSome = true) → (s.chip.isFeed p.val = true) → ∃ t, exec (.feederTaskRun p) s = .next t ∧ (t.chip.fd p.val).lastRun = s.chip.datum)
  ∧ (∀ (s : State) (p : Port), (s.chip.due (tmKey tmFdRetry p.val) = true) → (s.chip.fdState p.val = 8) → ((s.chip.port p.val).fastTrip = false) → ∃ t, exec (.feederRetry p) s = .next t ∧ t.chip.fdState p.val = if s.chip.on R.SP_CONTRACT (pgSP p.val) then 4 else 2)
  ∧ (∀ (s : State) (p : Port), (s.chip.due (tmKey tmRetries p.val) = true) → ∃ t, exec (.retriesClear p) s = .next t ∧ t.chip.rd R.SP_RETRIES (pgSP p.val) = 0 ∧ t.chip.armed (tmKey tmRetries p.val) = false)
  ∧ (∀ (s : State) (p : Port), (s.chip.due (tmKey tmInrush p.val) = true) → (s.chip.fdState p.val = 4) → ∃ t, exec (.inrushTimeout p) s = .next t ∧ t.chip.fdState p.val = (if s.chip.rd R.SP_RETRIES (pgSP p.val) + 1 ≤ s.chip.rd R.SP_RETRY_N (pgSP p.val) then 8 else 7) ∧ t.chip.rd R.SP_TRIP_CAUSE (pgSP p.val) = 4)
  ∧ (∀ (s : State) (p : Port), (s.chip.due (tmKey tmLate p.val) = true) → ∃ t, exec (.modelLateClear p) s = .next t ∧ t.chip.rd R.SP_MODEL_LATE (pgSP p.val) = 0)
  ∧ (∀ (s : State) (p : Port), (s.chip.due (tmKey tmFdClear p.val) = true) → (s.chip.fdState p.val = 7) → ((s.chip.port p.val).fastTrip = false) → ∃ t, exec (.tripClearCheck p) s = .next t ∧ (t.chip.fd p.val).clearWait = false ∧ t.chip.fdState p.val = if s.chip.on R.SP_CONTRACT (pgSP p.val) then 4 else 2)
  ∧ (∀ (s : State) (p : Port), (s.chip.due (tmKey tmFdClear p.val) = true) → (s.chip.fdState p.val = 7 ∨ s.chip.fdState p.val = 8) → ((s.chip.port p.val).fastTrip = true) → ∃ t, exec (.tripClearCheck p) s = .next t ∧ (t.chip.fd p.val).clearWait = false ∧ t.chip.fdState p.val = 7)
  ∧ (∀ (s : State) (p : Port), (s.chip.due (tmKey tmHrHold p.val) = true) → ∃ t, exec (.hrHoldEnd p) s = .next t ∧ t.chip.rd R.SP_HR_HOLD (pgSP p.val) = 0 ∧ (s.chip.fdState p.val = 0 → (s.chip.fd p.val).placed.isSome = true → s.chip.linkReady p.val = true → t.chip.fdState p.val = 2))
  ∧ (∀ (s : State) (p : Port), (s.chip.due (tmKey tmCaps p.val) = true) → (s.chip.fdState p.val = 2) → (s.chip.negSource p.val = true) → (s.chip.negServes p.val = true) → (s.chip.takesWork pgNEG = true) → ∃ t, exec (.capsSend p) s = .next t ∧ mapGet t.chip.timers (tmKey tmCaps p.val) 0 = t.chip.now + 25 * dqMs + 1 ∧ t.chip.rd R.NEG_CNT pgNEG 0 = (s.chip.rd R.NEG_CNT pgNEG 0 + 1) % 2 ^ 32)
  ∧ (∀ (s : State) (p : Port), (s.chip.due (tmKey tmRole p.val) = true) → (s.chip.fdState p.val = 2) → (s.chip.rd R.SP_ROLE_PREF (pgSP p.val) = 1) → ∃ t, exec (.roleWindowSwitch p) s = .next t ∧ (t.chip.fd p.val).srcTry = (!(s.chip.fd p.val).srcTry) ∧ t.chip.armed (tmKey tmRole p.val) = true)

/-- The messages of a tray are acknowledged and acted on. GOODCRC, CAPS, REQUEST, ACCEPT, REJECT, PS_READY, SOFT_RESET, HARD_RESET; CAP and WARN to the tray; the two timers of the message layer. Each clause holds under the conditions that it names. (R301, R302, R303, R304, R305, R306, R308, R309) -/
def Obligations.ContractMessagesAct : Prop :=
  (∀ (s : State) (p : Port) (id : Oct) (m : NegMsg), (s.chip.negServes p.val = true) → ((s.chip.fd p.val).wait = some m) → (id.val % 8 = (s.chip.fd p.val).waitId) → ((s.chip.fd p.val).out = []) → (m.typ = 6 ∨ m.typ = 7 ∨ m.typ = 8) → ∃ t, exec (.goodcrc p id) s = .next t ∧ (t.chip.fd p.val).wait = none ∧ t.chip.rd R.NEG_CNT pgNEG 1 = (s.chip.rd R.NEG_CNT pgNEG 1 + 1) % 2 ^ 32)
  ∧ (∀ (s : State) (p : Port) (id : Oct) (os : Offers), (s.chip.negServes p.val = true) → (os.length ≠ 0) → (os.length ≤ 4) → (¬(s.chip.fdState p.val = 2 ∧ s.chip.negSource p.val = true)) → ∃ t, exec (.caps p id os) s = .next t ∧ t.chip.rd R.NEG_CNT pgNEG 1 = (s.chip.rd R.NEG_CNT pgNEG 1 + 1) % 2 ^ 32)
  ∧ (∀ (s : State) (p : Port) (id : Oct) (os : Offers), (s.chip.negServes p.val = true) → (os.length ≠ 0) → (os.length ≤ 4) → ((s.chip.fd p.val).rxId ≠ some id.val) → (s.chip.on R.SP_HR_HOLD (pgSP p.val) = false) → (s.chip.fdState p.val = 2 ∧ s.chip.negSource p.val = false ∨ (s.chip.fdState p.val ≠ 2 ∧ s.chip.on R.SP_FD_ROLE (pgSP p.val) = true)) → ∃ t, exec (.caps p id os) s = .next t ∧ (t.chip.fd p.val).offers = os ∧ (t.chip.fd p.val).pReq = fOfNat (fFloor (s.chip.rdF R.SP_P_MAX (pgSP p.val))).toNat ∧ t.chip.on R.SP_FD_ROLE (pgSP p.val) = true)
  ∧ (∀ (s : State) (p : Port) (id : Oct) (o : Nat) (sc : Bool) (pr bf : Nat), (s.chip.negServes p.val = true) → ∃ t, exec (.request p id o sc pr bf) s = .next t ∧ t.chip.rd R.NEG_CNT pgNEG 1 = (s.chip.rd R.NEG_CNT pgNEG 1 + 1) % 2 ^ 32)
  ∧ (∀ (s : State) (p : Port) (id : Oct) (sc : Bool) (pr bf : Nat), (s.chip.negServes p.val = true) → ((s.chip.fd p.val).rxId ≠ some id.val) → (s.chip.on R.SP_HR_HOLD (pgSP p.val) = false) → (s.chip.on R.SP_FD_ROLE (pgSP p.val) = false) → (3 ≤ s.chip.fdState p.val) → (fle (fOfNat pr) (s.chip.rdF R.SP_P_MAX (pgSP p.val)) = true) → (pr ≤ (s.chip.fd p.val).pmax) → ∃ t, exec (.request p id 0 sc pr bf) s = .next t ∧ (t.chip.fd p.val).pReq = fOfNat pr ∧ (t.chip.fd p.val).rspTimer = false ∧ (t.chip.fd p.val).rxId = some id.val)
  ∧ (∀ (s : State) (p : Port) (id : Oct), (s.chip.negServes p.val = true) → ∃ t, exec (.accept p id) s = .next t ∧ t.chip.rd R.NEG_CNT pgNEG 1 = (s.chip.rd R.NEG_CNT pgNEG 1 + 1) % 2 ^ 32)
  ∧ (∀ (s : State) (p : Port) (id : Oct), (s.chip.negServes p.val = true) → ((s.chip.fd p.val).rxId ≠ some id.val) → (s.chip.on R.SP_HR_HOLD (pgSP p.val) = false) → (s.chip.on R.SP_FD_ROLE (pgSP p.val) = true) → ((s.chip.fd p.val).requested = true) → (s.chip.paired = false) → ∃ t, exec (.accept p id) s = .next t ∧ (t.chip.fd p.val).rspTimer = false ∧ t.chip.on R.SP_CONTRACT (pgSP p.val) = true ∧ t.chip.rd R.SP_P_CONTRACT (pgSP p.val) = (s.chip.fd p.val).pReq.toNat)
  ∧ (∀ (s : State) (p : Port) (id : Oct) (r : Byte), (s.chip.negServes p.val = true) → ∃ t, exec (.reject p id r) s = .next t ∧ t.chip.rd R.NEG_CNT pgNEG 1 = (s.chip.rd R.NEG_CNT pgNEG 1 + 1) % 2 ^ 32)
  ∧ (∀ (s : State) (p : Port) (id : Oct) (r : Byte), (s.chip.negServes p.val = true) → ((s.chip.fd p.val).rxId ≠ some id.val) → (s.chip.on R.SP_HR_HOLD (pgSP p.val) = false) → (s.chip.on R.SP_FD_ROLE (pgSP p.val) = true) → ((s.chip.fd p.val).softEx = false) → ∃ t, exec (.reject p id r) s = .next t ∧ (t.chip.fd p.val).rspTimer = false ∧ t.chip.fdState p.val = s.chip.fdState p.val ∧ t.chip.rd R.SP_CONTRACT (pgSP p.val) = s.chip.rd R.SP_CONTRACT (pgSP p.val))
  ∧ (∀ (s : State) (p : Port) (id : Oct), (s.chip.negServes p.val = true) → ∃ t, exec (.psReady p id) s = .next t ∧ t.chip.rd R.NEG_CNT pgNEG 1 = (s.chip.rd R.NEG_CNT pgNEG 1 + 1) % 2 ^ 32 ∧ (t.chip.fd p.val).rxId = some id.val)
  ∧ (∀ (s : State) (p : Port) (id : Oct), (s.chip.negServes p.val = true) → ∃ t, exec (.softReset p id) s = .next t ∧ t.chip.rd R.NEG_CNT pgNEG 1 = (s.chip.rd R.NEG_CNT pgNEG 1 + 1) % 2 ^ 32 ∧ (t.chip.fd p.val).rxId = none ∧ t.chip.rd R.SP_CONTRACT (pgSP p.val) = s.chip.rd R.SP_CONTRACT (pgSP p.val))
  ∧ (∀ (s : State) (p : Port) (id : Oct), (s.chip.negServes p.val = true) → ∃ t, exec (.hardReset p id) s = .next t ∧ t.chip.rd R.NEG_CNT pgNEG 1 = (s.chip.rd R.NEG_CNT pgNEG 1 + 1) % 2 ^ 32 ∧ t.chip.rd R.SP_HR_HOLD (pgSP p.val) = 1 ∧ t.chip.rd R.SP_CONTRACT (pgSP p.val) = 0)
  ∧ (∀ (s : State) (p : Port), (s.chip.negServes p.val = true) → (s.chip.on R.SP_CONTRACT (pgSP p.val) = true) → (s.chip.on R.SP_FD_ROLE (pgSP p.val) = false) → ((s.chip.capst (s.chip.leafKey p.val)).capMsg = true) → ∃ t, exec (.cap p) s = .next t ∧ (t.chip.capst (s.chip.leafKey p.val)).capMsg = false)
  ∧ (∀ (s : State) (p : Port), (s.chip.negServes p.val = true) → (s.chip.on R.SP_CONTRACT (pgSP p.val) = true) → (s.chip.on R.SP_FD_ROLE (pgSP p.val) = false) → ((s.chip.capst (s.chip.leafKey p.val)).capMsg = true) → ∃ t, exec (.cap p) s = .next t ∧ t = s.onChip (fun c => (c.modCap (c.leafKey p.val) (fun q => { q with capMsg := false })).negSend p.val { typ := 7, payload := leBytes (fFloor (c.capst (c.leafKey p.val)).cap).toNat 4 ++ leBytes (c.graceUs (c.leafKey p.val)) 2 }))
  ∧ (∀ (s : State) (p : Port), (s.chip.negServes p.val = true) → (s.chip.on R.SP_CONTRACT (pgSP p.val) = true) → ((s.chip.capst (96 + p.val)).warnMsg = true) → ∃ t, exec (.warn p) s = .next t ∧ (t.chip.capst (96 + p.val)).warnMsg = false)
  ∧ (∀ (s : State) (p : Port), (s.chip.negServes p.val = true) → (s.chip.on R.SP_CONTRACT (pgSP p.val) = true) → ((s.chip.capst (96 + p.val)).warnMsg = true) → ∃ t, exec (.warn p) s = .next t ∧ t = s.onChip (fun c => (c.modCap (96 + p.val) (fun q => { q with warnMsg := false })).negSend p.val { typ := 8, payload := [BitVec.ofNat 8 (b2n (c.ewarnOf p.val))] }))
  ∧ (∀ (s : State) (p : Port) (m : NegMsg), (s.chip.negServes p.val = true) → ((s.chip.fd p.val).wait = some m) → (s.chip.due (tmKey tmGoodCrc p.val) = true) → ((s.chip.fd p.val).waitTries < 2) → ∃ t, exec (.goodcrcTimeout p) s = .next t ∧ (t.chip.fd p.val).waitTries = (s.chip.fd p.val).waitTries + 1 ∧ t.chip.armed (tmKey tmGoodCrc p.val) = true)
  ∧ (∀ (s : State) (p : Port), (s.chip.negServes p.val = true) → (s.chip.due (tmKey tmRsp p.val) = true) → ((s.chip.fd p.val).rspTimer = true) → ∃ t, exec (.responseTimerExpiry p) s = .next t ∧ t.chip.rd R.NEG_CNT pgNEG 3 = (s.chip.rd R.NEG_CNT pgNEG 3 + 1) % 2 ^ 32)

/-- What arrives over Chain acts: paths, digests, proposals, time and health. The Chain paths, digests, the result of a resolution, agreed ticks, the mirror, time and health. Each clause holds under the conditions that it names. (R336, R340, R341, R343, R345, R362) -/
def Obligations.ChainMessagesAct : Prop :=
  (∀ (s : State) (k : Bool), (s.chip.on (chUp k) pgTWIN = true) → ∃ t, exec (.chainPathDown k) s = .next t ∧ t.chip.on (chUp k) pgTWIN = false ∧ bitOf (t.chip.rd R.EVT_LIVE pgTWIN) 6 = true)
  ∧ (∀ (s : State) (k : Bool), (s.chip.banksOn = true) → (s.chip.on (chUp k) pgTWIN = false) → ∃ t, exec (.chainPathUp k) s = .next t ∧ t.chip.on (chUp k) pgTWIN = true ∧ t.chip.twin.heard = s.chip.now)
  ∧ (∀ (s : State) (u : Nat) (ds : Digests) (its : ItemDigests), (s.chip.banksOn = true) → (s.chip.compares = true) → (u < s.chip.tick) → (s.chip.tick < u + 64) → (ds.all (fun d => !decide (d.1 ≤ 12) || s.chip.ownDigest u d.1 == d.2.toNat) = true) → ∃ t, exec (.digestRx u ⟨ds, its⟩) s = .next t ∧ t = s.onChip (fun c => c.hear.digestMatch u (ds.map (fun d => d.1))))
  ∧ (∀ (s : State) (u : Nat) (ds : Digests) (its : ItemDigests), (s.chip.banksOn = true) → (s.chip.compares = true) → (u < s.chip.tick) → (s.chip.tick < u + 64) → (s.chip.realDiff u its (((ds.filter (fun d => decide (d.1 ≤ 12) && s.chip.ownDigest u d.1 != d.2.toNat)).map (fun d => d.1)).flatMap (s.chip.differing u its)) ≠ []) → ∃ t, exec (.digestRx u ⟨ds, its⟩) s = .next t ∧ t.chip.rd R.TWIN_CNT pgTWIN 0 = (s.chip.rd R.TWIN_CNT pgTWIN 0 + 1) % 2 ^ 32)
  ∧ (∀ (s : State) (u : Nat) (ds : Digests) (its : ItemDigests), (s.chip.banksOn = true) → (s.chip.compares = true) → (u < s.chip.tick) → (s.chip.tick < u + 64) → (s.chip.realDiff u its (((ds.filter (fun d => decide (d.1 ≤ 12) && s.chip.ownDigest u d.1 != d.2.toNat)).map (fun d => d.1)).flatMap (s.chip.differing u its)) = []) → ∃ t, exec (.digestRx u ⟨ds, its⟩) s = .next t ∧ t.chip.rd R.TWIN_CNT pgTWIN 0 = s.chip.rd R.TWIN_CNT pgTWIN 0)
  ∧ (∀ (s : State) (r : Bool), (s.chip.banksOn = true) → (s.chip.on R.TWIN_RESOLVING pgTWIN = true) → (s.chip.twin.ownPass = none) → ∃ t, exec (.resolveOutcome r) s = .next t ∧ t.chip.twin.peerPass = some r ∧ t.chip.twin.heard = s.chip.now)
  ∧ (∀ (s : State) (x : Nat) (i : AgreedItem), (s.chip.banksOn = true) → (s.chip.rd R.TWIN_STATE pgTWIN = 2 ∨ (s.chip.rd R.TWIN_STATE pgTWIN = 3 ∧ s.chip.leads = false)) → (s.chip.tick < x) → (s.chip.fwu.paused = false ∨ waitsPause i = false) → ∃ t, exec (.agreeProposal x i) s = .next t ∧ t.chip.twin.agree = s.chip.twin.agree ++ [{ x := x, item := i, acked := true, mine := false }] ∧ t.chip.sent = Out.chain (.ack x) :: s.chip.sent)
  ∧ (∀ (s : State) (x : Nat), (s.chip.banksOn = true) → ∃ t, exec (.agreeAck x) s = .next t ∧ t.chip.twin.agree = s.chip.twin.agree.map (fun a => if a.mine && a.x == x then { a with acked := true } else a) ∧ t.chip.twin.heard = s.chip.now)
  ∧ (∀ (s : State) (x : Nat), (s.chip.banksOn = true) → (s.chip.tick < x) → ∃ t, exec (.agreeCancel x) s = .next t ∧ t.chip.twin.agree = s.chip.twin.agree.filter (fun a => a.mine || a.x != x) ∧ t.chip.twin.heard = s.chip.now)
  ∧ (∀ (s : State) (x : Nat) (a : Agreed), (s.chip.twin.agree = [a]) → (a.mine = true) → (a.acked = false) → (a.x = x) → (x ≤ s.chip.tick + 4) → ∃ t, exec (.agreeAckDeadline x) s = .next t ∧ t.chip.twin.agree = [{ a with x := s.chip.tick + 8 }])
  ∧ (∀ (s : State) (key v : Nat), (s.chip.banksOn = true) → (s.chip.rd R.TWIN_STATE pgTWIN = 2) → (statusInState key = true) → ∃ t, exec (.mirrorRx (.status key v)) s = .next t ∧ mapGet t.chip.regs key 0 = v ∧ t.chip.twin.heard = s.chip.now)
  ∧ (∀ (s : State) (a v : Word) (be : BE), (s.chip.banksOn = true) → (s.chip.rd R.TWIN_STATE pgTWIN = 2) → ∃ t, exec (.mirrorRx (.desc a v be)) s = .next t ∧ t = (s.onChip (fun c => c.hear.modTwin (fun t => { t with cfgGot := t.cfgGot + 1 }))).descPut (wordAddr a) v.toNat be)
  ∧ (∀ (s : State) (a v : Word), (s.chip.banksOn = true) → (s.chip.rd R.TWIN_STATE pgTWIN = 3) → (s.chip.leads = false) → ∃ t, exec (.mirrorRx (.cfg a v)) s = .next t ∧ t = s.onChip (fun c => (c.hear.modTwin (fun t => { t with cfgGot := t.cfgGot + 1 })).applyWord a.toNat v.toNat false false 0))
  ∧ (∀ (s : State) (p : Port) (ch : Chan) (i : Nat) (g o ug uo : F32) (n u : Nat), (s.chip.banksOn = true) → (s.chip.rd R.TWIN_STATE pgTWIN = 2) → ∃ t, exec (.mirrorRx (.bin p ch i g o ug uo n u)) s = .next t ∧ (t.chip.cal (4 * p.val + ch.val)).bins = mapSet (s.chip.cal (4 * p.val + ch.val)).bins i { gain := g, offset := o, uncG := ug, uncO := uo, n := n, atT := u })
  ∧ (∀ (s : State) (n : Str) (cells : List (Nat × (F32 × F32))) (d : F32), (s.chip.banksOn = true) → (s.chip.rd R.TWIN_STATE pgTWIN = 2) → ∃ t, exec (.mirrorRx (.battery n cells d)) s = .next t ∧ (t.chip.strg n.val).cells = cells ∧ (t.chip.strg n.val).dAcc = d)
  ∧ (∀ (s : State) (m : TimeMeas) (o : Int), (s.chip.banksOn = true) → (s.chip.meanOffset m = some o) → (s.chip.rd R.TWIN_STATE pgTWIN = 2) → (1 ≤ s.chip.rd R.TWIN_JOIN_PHASE pgTWIN) → (s.chip.twin.stepped = false) → (s.chip.cmdScheduled = false) → ∃ t, exec (.timeExchange m) s = .next t ∧ t.chip.datum = unsgn 64 ((s.chip.datum : Int) - o) ∧ t.chip.twin.stepped = true ∧ t.chip.rd R.TWIN_TIME_ERR pgTWIN = 0 ∧ t.chip.rd R.DATUM_SOURCE pgDATUM = 1)
  ∧ (∀ (s : State) (m : TimeMeas) (o : Int), (s.chip.banksOn = true) → (s.chip.meanOffset m = some o) → (s.chip.rd R.TWIN_STATE pgTWIN = 3) → (s.chip.on R.TWIN_ROLE pgTWIN = true) → ∃ t, exec (.timeExchange m) s = .next t ∧ t.chip.datum = s.chip.datum ∧ t.chip.rd R.TWIN_TIME_ERR pgTWIN = unsgn 32 o ∧ t.chip.rd R.DATUM_SOURCE pgDATUM = 1 ∧ (o.natAbs ≤ 16 → t.chip.armed (tmKey tmTwinTime 0) = false) ∧ (16 < o.natAbs → s.chip.twin.timeBad = none → mapGet t.chip.timers (tmKey tmTwinTime 0) 0 = t.chip.now + dqMs + 1))
  ∧ (∀ (s : State), (s.chip.due (tmKey tmTwinTime 0) = true) → ∃ t, exec (.twinTime) s = .next t ∧ t = s.onChip (fun c => (c.disarm (tmKey tmTwinTime 0)).raise 0x87 0))
  ∧ (∀ (s : State) (v : Word), (s.chip.banksOn = true) → ∃ t, exec (.healthRx v) s = .next t ∧ t.chip.rd R.TWIN_PEER_HEALTH pgTWIN = v.toNat ∧ t.chip.twin.heard = s.chip.now)

/-- The twins join, part, take over, traverse and check themselves. HELLO, loss of the twin, takeover, the recovery window, Traverse, in-service self-checks and the end of a debug hold. Each clause holds under the conditions that it names. (R337, R338, R349, R351, R354, R357, R358, R359, R363, R364, R365) -/
def Obligations.TwinLifeCommandsAct : Prop :=
  (∀ (s : State) (h : Hello), (s.chip.banksOn = true) → (s.chip.rd R.TWIN_STATE pgTWIN = 1) → (h.joining = true) → (s.chip.hear.helloFaults h = []) → ∃ t, exec (.chainHello h) s = .next t ∧ t.chip.twin.peer = some h ∧ t.chip.rd R.TWIN_JOIN_PHASE pgTWIN = 1 ∧ t.chip.sent = Out.chain (.hello (s.chip.ownHello false)) :: s.chip.sent ∧ mapGet t.chip.timers (tmKey tmPhase 0) 0 = t.chip.now + 50 * dqMs + 1)
  ∧ (∀ (s : State) (h : Hello), (s.chip.banksOn = true) → (s.chip.rd R.TWIN_STATE pgTWIN = 2) → (s.chip.rd R.TWIN_JOIN_PHASE pgTWIN = 0) → (s.chip.on R.TWIN_JOIN_FAIL pgTWIN = false) → (s.chip.hear.helloFaults h = []) → ∃ t, exec (.chainHello h) s = .next t ∧ t.chip.twin.peer = some h ∧ t.chip.twin.heard = s.chip.now)
  ∧ (∀ (s : State), (s.chip.banksOn = true) → (s.chip.rd R.TWIN_STATE pgTWIN = 3) → (s.chip.srcSev 0x84 ≠ 3) → ∃ t, exec (.fencedNotice) s = .next t ∧ t.chip.rd R.TWIN_STATE pgTWIN = 1 ∧ t.chip.rd R.TWIN_ROLE pgTWIN = 0)
  ∧ (∀ (s : State), (s.chip.banksOn = true) → (s.chip.paired = true) → ∃ t, exec (.debugHoldRx) s = .next t ∧ t.chip.rd R.TWIN_PEER_DEBUG_HOLD pgTWIN = 1 ∧ t.chip.rd R.TWIN_ROLE pgTWIN = 0)
  ∧ (∀ (s : State), (s.chip.banksOn = true) → (s.chip.rd R.TWIN_STATE pgTWIN ≠ 4) → ∃ t, exec (.mgmtFailNotice) s = .next t ∧ t.chip.sent.head? = some (Out.chain .mgmtFailAck) ∧ (s.chip.paired = true → t.chip.rd R.TWIN_PEER_DEBUG_HOLD pgTWIN = 1 ∧ t.chip.rd R.TWIN_ROLE pgTWIN = 0))
  ∧ (∀ (s : State), (s.chip.twin.heard + s.chip.rd R.TWIN_CHAIN_TIMEOUT_US pgTWIN * dqUs ≤ s.chip.now) → (s.chip.rd R.TWIN_STATE pgTWIN = 3) → (s.chip.twin.lost = false) → (s.chip.srcSev 0x84 ≠ 3) → (s.chip.rd R.TWIN_ROLE pgTWIN = 0) → ∃ t, exec (.chainTimeout) s = .next t ∧ t.chip.rd R.TWIN_STATE pgTWIN = 1 ∧ t.chip.rd R.TWIN_RECOVERING pgTWIN = 1)
  ∧ (∀ (s : State), (s.chip.twin.heard + s.chip.rd R.TWIN_CHAIN_TIMEOUT_US pgTWIN * dqUs ≤ s.chip.now) → (s.chip.rd R.TWIN_STATE pgTWIN = 3) → (s.chip.twin.lost = false) → (s.chip.srcSev 0x84 ≠ 3) → (s.chip.rd R.TWIN_ROLE pgTWIN = 1) → ∃ t, exec (.chainTimeout) s = .next t ∧ t.chip.twin.takeover = true ∧ t.chip.rd R.TWIN_STATE pgTWIN = 3 ∧ mapGet t.chip.timers (tmKey tmTakeover 0) 0 = t.chip.now + s.chip.rd R.TWIN_TAKEOVER_US pgTWIN * dqUs + 1)
  ∧ (∀ (s : State), (s.chip.rd R.TWIN_STATE pgTWIN = 3) → (s.chip.twin.lost = false) → (s.chip.srcSev 0x84 ≠ 3) → ∃ t, exec (.fltInFault) s = .next t ∧ t.chip.rd R.TWIN_STATE pgTWIN = 1 ∧ t.chip.rd R.FCU_FLT_IN pgFCU = 1 ∧ t.chip.rd R.TWIN_FLT_IN_OK pgTWIN = 0)
  ∧ (∀ (s : State) (b : Bool), ∃ t, exec (.fltInLine b) s = .next t ∧ t.chip.rd R.FCU_FLT_IN pgFCU = (if b then 3 else 0) ∧ t.chip.rd R.TWIN_FLT_IN_OK pgTWIN = 0)
  ∧ (∀ (s : State), (s.chip.due (tmKey tmTakeover 0) = true) → (s.chip.twin.takeover = true) → ∃ t, exec (.takeoverExpiry) s = .next t ∧ t.chip.rd R.TWIN_STATE pgTWIN = 1 ∧ t.chip.rd R.TWIN_ROLE pgTWIN = 0 ∧ t.chip.twin.takeover = false ∧ t.chip.rd R.TWIN_CNT pgTWIN 3 = (s.chip.rd R.TWIN_CNT pgTWIN 3 + 1) % 2 ^ 32)
  ∧ (∀ (s : State), (s.chip.due (tmKey tmRecovery 0) = true) → ∃ t, exec (.recoveryWindowEnd) s = .next t ∧ t.chip.rd R.TWIN_RECOVERING pgTWIN = 0 ∧ t.chip.twin.mismatchAt = none ∧ t.chip.armed (tmKey tmRecovery 0) = false)
  ∧ (∀ (s : State), (s.chip.due (tmKey tmPhase 0) = true) → (s.chip.rd R.TWIN_STATE pgTWIN = 2) → (s.chip.on R.TWIN_JOIN_FAIL pgTWIN = false) → ∃ t, exec (.joinPhaseTimeout) s = .next t ∧ t.chip.rd R.TWIN_JOIN_PHASE pgTWIN = 0 ∧ t.chip.twin.joinFails = s.chip.twin.joinFails + 1 ∧ (s.chip.twin.joinFails < 2 → mapGet t.chip.timers (tmKey tmRejoin 0) 0 = t.chip.now + dqS + 1) ∧ (2 ≤ s.chip.twin.joinFails → t.chip.rd R.TWIN_JOIN_FAIL pgTWIN = 1))
  ∧ (∀ (s : State), (s.chip.banksOn = true) → (s.chip.due (tmKey tmRejoin 0) = true) → (s.chip.rd R.TWIN_STATE pgTWIN = 2) → ∃ t, exec (.joinRestart) s = .next t ∧ t.chip.rd R.TWIN_JOIN_PHASE pgTWIN = 0 ∧ mapGet t.chip.timers (tmKey tmPhase 0) 0 = t.chip.now + 5 * dqMs + 1 ∧ t.chip.sent.head? = some (Out.chain (.hello (t.chip.ownHello true))))
  ∧ (∀ (s : State), (s.chip.due (tmKey tmTrav 0) = true) → (s.chip.paired = true) → (s.chip.leads = true) → ((s.chip.travArm).swapOk = false) → ∃ t, exec (.traverseSchedule) s = .next t ∧ t.chip.rd R.TWIN_CNT pgTWIN 5 = (s.chip.rd R.TWIN_CNT pgTWIN 5 + 1) % 2 ^ 32 ∧ t.chip.twin.agree = s.chip.twin.agree)
  ∧ (∀ (s : State), (s.chip.due (tmKey tmTrav 0) = true) → (s.chip.paired = true) → (s.chip.leads = true) → ((s.chip.travArm).swapOk = true) → ∃ t, exec (.traverseSchedule) s = .next t ∧ t.chip.twin.agree = s.chip.twin.agree ++ [{ x := s.chip.tick + 8, item := .swap, acked := false, mine := true }])
  ∧ (∀ (s : State), (s.chip.due (tmKey tmSelf 0) = true) → (s.chip.rd R.TWIN_STATE pgTWIN = 1 ∨ s.chip.rd R.TWIN_STATE pgTWIN = 3) → (s.chip.rd R.TWIN_SELFTEST_MS pgTWIN ≠ 0) → ∃ t, exec (.inserviceSelftest) s = .next t ∧ t.chip.twin.nextEngine = (s.chip.twin.nextEngine + 1) % 128 ∧ mapGet t.chip.timers (tmKey tmSelf 0) 0 = t.chip.now + s.chip.rd R.TWIN_SELFTEST_MS pgTWIN * dqMs + 1 ∧ (s.chip.on R.TWIN_RESOLVING pgTWIN = false → s.chip.on R.TWIN_RECOVERING pgTWIN = false → (s.chip.eng s.chip.twin.nextEngine).up = true → s.chip.takesWork (pgCE s.chip.twin.nextEngine) = true → s.chip.twin.nextEngine < 128 → t.chip.on R.CE_SELFTEST_BUSY (pgCE s.chip.twin.nextEngine) = true))
  ∧ (∀ (s : State), (s.chip.plumb.mgmtHalt = true) → (s.chip.paired = false) → ∃ t, exec (.mgmtResume) s = .next t ∧ t.chip.plumb.mgmtHalt = false ∧ t.chip.rd R.TWIN_DEBUG_HOLD pgTWIN = 0 ∧ t.mem = s.mem)
  ∧ (∀ (s : State), (s.chip.plumb.mgmtHalt = true) → (s.chip.paired = true) → ∃ t, exec (.mgmtResume) s = .next t ∧ t.chip.plumb.mgmtHalt = false ∧ t.chip.rd R.TWIN_DEBUG_HOLD pgTWIN = 0 ∧ t.chip.rd R.TWIN_STATE pgTWIN = 2 ∧ t.chip.rd R.TWIN_JOIN_PHASE pgTWIN = 2 ∧ t.chip.twin.rejoinCfg = true ∧ t.mem = [])

/-- HELLO, adjacencies, LSAs and frames of the fabric act. Discovery and routing of Survey, frames in transit and frames for this station, the physical ports. Each clause holds under the conditions that it names. (R369, R371, R375, R376, R378, R379, R390, R399) -/
def Obligations.FabricDiscoveryActs : Prop :=
  (∀ (s : State), (s.chip.banksOn = true) → (s.chip.fabOn = true) → (s.chip.armed (tmKey tmFabHello 0) = false ∨ s.chip.due (tmKey tmFabHello 0) = true) → ∃ t, exec (.fabHelloSend) s = .next t ∧ mapGet t.chip.timers (tmKey tmFabHello 0) 0 = s.chip.now + 10 * dqMs + 1 ∧ t.chip.sent.length = s.chip.sent.length + (s.chip.fabPorts .a ++ s.chip.fabPorts .b).length)
  ∧ (∀ (s : State) (k : FPort) (h : FabHello), (s.chip.fabOn = true) → (s.chip.planeHere (fpPlane k.val) = true) → (s.chip.fpState k.val = 2 ∨ s.chip.fpState k.val = 4) → (h.plane = fpPlane k.val) → (h.domain = s.chip.rd R.FAB_DOMAIN pgFAB) → (h.station ≠ s.chip.station) → (s.chip.fab.quiet ≠ some (fpPlane k.val)) → ∃ t, exec (.fabHelloRx k h) s = .next t ∧ ∃ a ∈ t.chip.fab.adjs, a.fport = k.val ∧ a.station = h.station ∧ a.heardAt = s.chip.now ∧ a.heardMe = h.heard.contains s.chip.station ∧ a.farPort = h.fport.val)
  ∧ (∀ (s : State) (k : FPort) (h : FabHello), (s.chip.fabOn = true) → (s.chip.planeHere (fpPlane k.val) = true) → (s.chip.fpState k.val = 2) → (h.plane ≠ fpPlane k.val) → (s.chip.fab.portUp.length = 4) → ∃ t, exec (.fabHelloRx k h) s = .next t ∧ t.chip.fpState k.val = 4 ∧ ∀ a ∈ t.chip.fab.adjs, a.fport ≠ k.val)
  ∧ (∀ (s : State) (k : FPort) (n : Nat) (a : Adj), (s.chip.fab.adjs.find? (fun a => a.fport == k.val && a.station == n) = some a) → (a.heardAt + 35 * dqMs ≤ s.chip.now) → ∃ t, exec (.adjacencyTimeout k n) s = .next t ∧ ∀ a ∈ t.chip.fab.adjs, ¬(a.fport = k.val ∧ a.station = n))
  ∧ (∀ (s : State), (s.chip.fabOn = true) → (s.chip.gridClash = false) → (s.chip.armed (tmKey tmLsa 0) = false ∨ s.chip.due (tmKey tmLsa 0) = true ∨ s.chip.lsaStale = true) → ∃ t, exec (.lsaFlood) s = .next t ∧ t.chip.fab.lsaSeq = s.chip.fab.lsaSeq + 1 ∧ t.chip.fab.lsaSent = s.chip.ownLsas (s.chip.fab.lsaSeq + 1) .a ++ s.chip.ownLsas (s.chip.fab.lsaSeq + 1) .b ∧ mapGet t.chip.timers (tmKey tmLsa 0) 0 = s.chip.now + 10 * dqS + 1)
  ∧ (∀ (s : State) (k : FPort) (l : Lsa), (s.chip.fabOn = true) → (s.chip.fpState k.val = 2) → (l.plane = fpPlane k.val) → (l.domain = s.chip.rd R.FAB_DOMAIN pgFAB) → (s.chip.ownEcho l = false) → (l.ageMs ≤ 30000) → (s.chip.fab.lsas.find? (fun x => x.1.plane == fpPlane k.val && x.1.station == l.station) = none) → ∃ t, exec (.lsaRx k l) s = .next t ∧ ∃ x ∈ t.chip.fab.lsas, x.1 = l)
  ∧ (∀ (s : State) (p : Plane) (n : Nat) (x : Lsa × Nat), (s.chip.fab.lsas.find? (fun x => x.1.plane == p && x.1.station == n) = some x) → (x.2 + 30 * dqS ≤ s.chip.now) → ∃ t, exec (.lsaAgeOut p n) s = .next t ∧ ∀ y ∈ t.chip.fab.lsas, ¬(y.1.plane = p ∧ y.1.station = n))
  ∧ (∀ (s : State) (k : FPort) (f : FabFrame), (s.chip.fabOn = true) → (s.chip.fpState k.val = 2) → (f.tagged = false) → (f.etherType = 0x88B5) → (f.hdr.cls ≠ 0 ∨ f.hdr.sub ≠ 0) → (s.chip.forMe f.hdr = false) → (f.hdr.hops = 0) → ∃ t, exec (.transitForward k f) s = .next t ∧ t.chip.rd R.FAB_CNT pgFAB 9 = (s.chip.rd R.FAB_CNT pgFAB 9 + 1) % 2 ^ 32 ∧ t.chip.sent = s.chip.sent)
  ∧ (∀ (s : State) (k : FPort) (f : FabFrame), (s.chip.fabOn = true) → (s.chip.fpState k.val = 2) → (f.tagged = false) → (f.etherType = 0x88B5) → (f.hdr.cls ≠ 0 ∨ f.hdr.sub ≠ 0) → (s.chip.forMe f.hdr = false ∨ f.hdr.bcast = true) → (f.hdr.hops ≠ 0) → (s.chip.gridClash = false) → ∃ t, exec (.transitForward k f) s = .next t ∧ t.chip.sent = ((s.chip.fabPorts (fpPlane k.val)).filter (· != k.val)).reverse.map (fun j => Out.fabFrame (fpFin j) { f with hdr := { f.hdr with hops := f.hdr.hops - 1 } } (surveyBytes { f.hdr with hops := f.hdr.hops - 1 } ++ f.payload ++ prpTail f.payload.length f.prpSeq (fpPlane j))) ++ s.chip.sent ∧ t.chip.fab.badTransit = s.chip.fab.badTransit + b2n (!f.fcsOk))
  ∧ (∀ (s : State) (k : FPort) (f : FabFrame), (s.chip.fabOn = true) → (s.chip.fpState k.val = 2) → (f.tagged = false) → (f.etherType = 0x88B5) → (f.fcsOk = true) → ((s.chip.fab.prpSeen.filter (fun e => decide (s.chip.now < e.2.2 + 400 * dqMs))).any (fun e => e.1 == f.srcMac && e.2.1 == f.prpSeq) = false) → ∃ t, exec (.fabFrameRx k f) s = .next t ∧ (f.srcMac, f.prpSeq, s.chip.now) ∈ t.chip.fab.prpSeen)
  ∧ (∀ (s : State) (k : FPort) (f : FabFrame), (s.chip.fabOn = true) → (s.chip.fpState k.val = 2) → (f.tagged = false) → (f.etherType = 0x88B5) → (f.fcsOk = true) → ((s.chip.fab.prpSeen.filter (fun e => decide (s.chip.now < e.2.2 + 400 * dqMs))).any (fun e => e.1 == f.srcMac && e.2.1 == f.prpSeq) = true) → ∃ t, exec (.fabFrameRx k f) s = .next t ∧ t.chip.rd R.FAB_CNT pgFAB 0 = (s.chip.rd R.FAB_CNT pgFAB 0 + 1) % 2 ^ 32)
  ∧ (∀ (s : State) (k : FPort) (b : Bool), (s.chip.fabOn = true) → (s.chip.planeHere (fpPlane k.val) = true) → (s.chip.planeSleeps (fpPlane k.val) = false) → (s.chip.fab.portUp.length = 4) → (s.chip.fab.quiet ≠ some (fpPlane k.val)) → ∃ t, exec (.fabPortLinkUp k b) s = .next t ∧ t.chip.fpState k.val = 2)
  ∧ (∀ (s : State) (k : FPort), (s.chip.fab.portUp.length = 4) → ∃ t, exec (.fabPortLinkDown k) s = .next t ∧ t.chip.fpState k.val = 0 ∧ ∀ a ∈ t.chip.fab.adjs, a.fport ≠ k.val)
  ∧ (∀ (s : State), (s.chip.fabOn = true) → (s.chip.gridClash = false) → (s.chip.armed (tmKey tmSync 0) = false ∨ s.chip.due (tmKey tmSync 0) = true) → ∃ t, exec (.ptpSyncSend) s = .next t ∧ mapGet t.chip.timers (tmKey tmSync 0) 0 = s.chip.now + 125 * dqMs + 1)
  ∧ (∀ (s : State), (s.chip.fabOn = true) → (s.chip.gridClash = false) → (s.chip.armed (tmKey tmPdelay 0) = false ∨ s.chip.due (tmKey tmPdelay 0) = true) → ∃ t, exec (.pdelaySend) s = .next t ∧ mapGet t.chip.timers (tmKey tmPdelay 0) 0 = s.chip.now + dqS + 1)
  ∧ (∀ (s : State), (s.chip.fabOn = true) → (s.chip.gridClash = false) → (s.chip.rd R.TWIN_STATE pgTWIN ≠ 4) → (s.chip.armed (tmKey tmSuperv 0) = false ∨ s.chip.due (tmKey tmSuperv 0) = true) → ∃ t, exec (.prpSupervisionSend) s = .next t ∧ mapGet t.chip.timers (tmKey tmSuperv 0) 0 = s.chip.now + 2 * dqS + 1)
  ∧ (∀ (s : State), (s.chip.banksOn = true) → (s.chip.fabPorts .a ≠ []) → (s.chip.fabPorts .b ≠ []) → (s.chip.fabOn = true) → (s.chip.gridClash = false) → (s.chip.on R.FAB_GM pgFAB = true) → (s.chip.armed (tmKey tmSync 0) = false ∨ s.chip.due (tmKey tmSync 0) = true) → ∃ t, exec (.ptpSyncSend) s = .next t ∧ t.chip.sent = Out.ptp .b 0 s.chip.gmPrio :: Out.ptp .a 0 s.chip.gmPrio :: s.chip.sent)
  ∧ (∀ (s : State), (s.chip.banksOn = true) → (s.chip.fabPorts .a ≠ []) → (s.chip.fabPorts .b ≠ []) → (s.chip.fabOn = true) → (s.chip.gridClash = false) → (s.chip.armed (tmKey tmPdelay 0) = false ∨ s.chip.due (tmKey tmPdelay 0) = true) → ∃ t, exec (.pdelaySend) s = .next t ∧ t.chip.sent = Out.ptp .b 2 s.chip.gmPrio :: Out.ptp .b 1 s.chip.gmPrio :: Out.ptp .a 2 s.chip.gmPrio :: Out.ptp .a 1 s.chip.gmPrio :: s.chip.sent)
  ∧ (∀ (s : State), (s.chip.banksOn = true) → (s.chip.fabPorts .a ≠ []) → (s.chip.fabPorts .b ≠ []) → (s.chip.fabOn = true) → (s.chip.gridClash = false) → (s.chip.rd R.TWIN_STATE pgTWIN ≠ 4) → (s.chip.armed (tmKey tmSuperv 0) = false ∨ s.chip.due (tmKey tmSuperv 0) = true) → ∃ t, exec (.prpSupervisionSend) s = .next t ∧ t.chip.sent = Out.supervision .b :: Out.supervision .a :: s.chip.sent)

/-- The messages of Survey act at a station that accepts them. BUDGET, SHARE, EVENT, TIME and ACK, the repeats of a reliable message and its failure, the idle timer of a session, and SHARE of this node. Each clause holds under the conditions that it names. (R377, R382, R383, R384, R387) -/
def Obligations.SurveyMessagesAct : Prop :=
  (∀ (s : State) (h : SurveyHdr) (pl : Bytes) (c1 : Chip), (s.chip.accepts h 1 = true) → (h.part = 0) → (h.rel = true) → (s.chip.relRx h = (c1, true)) → (fIsNan (f32 (leAt pl 4 4)) = false) → (fSign (f32 (leAt pl 4 4)) = false) → (leAt pl 8 8 = 0) → ∃ t, exec (.budgetRx h pl) s = .next t ∧ t = s.onChip (fun _ => c1.proposeAt 0 (.budget (f32 (leAt pl 4 4)) h.src (BitVec.ofNat 32 (leAt pl 0 4)))))
  ∧ (∀ (s : State) (h : SurveyHdr) (pl : Bytes), (s.chip.accepts h 2 = true) → (h.part = 0) → ((s.chip.relRx h).2 = true) → ∃ t, exec (.shareRx h pl) s = .next t ∧ mapGet t.chip.fab.shares h.src [] = pl)
  ∧ (∀ (s : State), (s.chip.fabLead = true) → (s.chip.takesWork pgFAB = true) → (s.chip.on R.FAB_SHARE_TX pgFAB = true) → (s.chip.tick % s.chip.rd R.CROWN_PERIOD pgCROWN = 0) → (s.chip.armed (tmKey tmShare 0) = false ∨ s.chip.due (tmKey tmShare 0) = true) → ∃ t, exec (.shareSend) s = .next t ∧ mapGet t.chip.timers (tmKey tmShare 0) 0 = s.chip.now + dqTick + 1)
  ∧ (∀ (s : State), (s.chip.fabLead = true) → (s.chip.takesWork pgFAB = true) → (s.chip.on R.FAB_SHARE_TX pgFAB = true) → (s.chip.tick % s.chip.rd R.CROWN_PERIOD pgCROWN = 0) → (s.chip.armed (tmKey tmShare 0) = false ∨ s.chip.due (tmKey tmShare 0) = true) → ∃ t, exec (.shareSend) s = .next t ∧ t = s.onChip (fun c => foldc ((upTo 8).filter (fun k => (c.shareLaw k).isSome)) (fun k c => c.fabTx (c.hdrFor 2 0 false 0 none true 0 (c.shareBody k).length 0) (c.shareBody k)) (c.arm (tmKey tmShare 0) dqTick)))
  ∧ (∀ (s : State) (h : SurveyHdr) (pl : Bytes), (s.chip.accepts h 3 = true) → ((s.chip.relRx h).2 = true) → ∃ t, exec (.eventRx h pl) s = .next t ∧ mapGet t.chip.fab.events h.src [] = pl)
  ∧ (∀ (s : State) (h : SurveyHdr) (pl : Bytes), (s.chip.accepts h 5 = true) → (h.part = 0) → ((s.chip.relRx h).2 = true) → ∃ t, exec (.timeRx h pl) s = .next t ∧ t.chip.fab.fabTime = leAt pl 0 8 ∧ t.chip.fab.tai = leAt pl 8 8)
  ∧ (∀ (s : State) (h : SurveyHdr) (pl : Bytes), (s.chip.fabOn = true) → (h.cls = 0) → (h.sub = 2) → (h.len = 4) → (s.chip.forMe h = true) → ∃ t, exec (.ackRx h pl) s = .next t ∧ ∀ m ∈ t.chip.fab.rel, m.id ≠ BitVec.ofNat 32 (leAt pl 0 4))
  ∧ (∀ (s : State) (n : Nat) (m : RelMsg), (s.chip.fab.rel.find? (fun m => m.id.toNat == n) = some m) → (m.tries < 3) → (m.atT + (m.tries + 1) * dqMs ≤ s.chip.now) → ∃ t, exec (.relRetry n) s = .next t ∧ t.chip.fab.rel = s.chip.fab.rel.map (fun x => if x.id == m.id then { x with tries := x.tries + 1 } else x))
  ∧ (∀ (s : State) (n : Nat) (m : RelMsg), (s.chip.fab.rel.find? (fun m => m.id.toNat == n) = some m) → (m.atT + 4 * dqMs ≤ s.chip.now) → ∃ t, exec (.relFail n) s = .next t ∧ t.chip.fab.rel = s.chip.fab.rel.filter (fun x => x.id != m.id) ∧ t.chip.rd R.FAB_CNT pgFAB 3 = (s.chip.rd R.FAB_CNT pgFAB 3 + 1) % 2 ^ 32 ∧ bitOf (t.chip.rd R.EVT_LATCH pgFAB) 3 = true)
  ∧ (∀ (s : State) (p : Part), ∃ t, exec (.sessionIdleTimeout p) s = .next t ∧ mapGet t.chip.fab.sessAt p.val 0 = 0)

/-- gPTP messages, the loss of a SLAVE port, the lock to fabric time and FAB_TIME act. What a gPTP message shows and elects, the last SLAVE port of a plane lost, the step of Datum or of its offset at a lock, and the alarm of the time error. Each clause holds under the conditions that it names. (R390, R391, R392) -/
def Obligations.FabricTimeMessagesAct : Prop :=
  (∀ (s : State) (p : Plane) (e : Int), (s.chip.fabOn = true) → (s.chip.planeHere p = true) → (p = .a ∨ s.chip.fab.slaveA = false) → ∃ t, exec (.ptpMessageRx p (.slave e)) s = .next t ∧ t.chip.rd R.FAB_TIME_ERR pgFAB = unsgn 32 e ∧ t.chip.rd R.FAB_SYNCED pgFAB = b2n (decide (e.natAbs ≤ 400)) ∧ t.chip.slaveOn p = true)
  ∧ (∀ (s : State) (e : Int), (s.chip.fabOn = true) → (s.chip.planeHere .b = true) → (s.chip.fab.slaveA = true) → ∃ t, exec (.ptpMessageRx .b (.slave e)) s = .next t ∧ t.chip.fab.slaveB = true ∧ t.chip.rd R.FAB_TIME_ERR pgFAB = s.chip.rd R.FAB_TIME_ERR pgFAB)
  ∧ (∀ (s : State) (p : Plane) (g : Bool), (s.chip.fabOn = true) → (s.chip.planeHere p = true) → ∃ t, exec (.ptpMessageRx p (.grandmaster g)) s = .next t ∧ t.chip.rd R.FAB_GM pgFAB = b2n (g && s.chip.gmCand) ∧ ((g && s.chip.gmCand) = true → t.chip.fab.slaveA = false ∧ t.chip.fab.slaveB = false))
  ∧ (∀ (s : State) (p : Plane), ∃ t, exec (.ptpSlaveLoss p) s = .next t ∧ t.chip.slaveOn p = false ∧ t.chip.slaveOn (otherPlane p) = s.chip.slaveOn (otherPlane p))
  ∧ (∀ (s : State) (p : Plane), (s.chip.slaveOn (otherPlane p) = false) → ∃ t, exec (.ptpSlaveLoss p) s = .next t ∧ t.chip.on R.FAB_SYNCED pgFAB = false ∧ t.chip.fab.errSince = none ∧ t.chip.armed (tmKey tmFabTime 0) = false)
  ∧ (∀ (s : State) (d : Int), (s.chip.leads = true) → (s.chip.fabOn = true) → (s.chip.fab.locked = false ∨ 80000 < d.natAbs) → (s.chip.cmdScheduled = false) → ∃ t, exec (.timeLock d) s = .next t ∧ t.chip.fab.locked = true ∧ t.chip.datum = unsgn 64 ((s.chip.datum : Int) + (sgn 64 (s.chip.rd R.FAB_DATUM_OFS_LO pgFAB + 2 ^ 32 * s.chip.rd R.FAB_DATUM_OFS_HI pgFAB) + d)) ∧ t.chip.rd R.FAB_DATUM_OFS_LO pgFAB = 0 ∧ t.chip.rd R.FAB_DATUM_OFS_HI pgFAB = 0)
  ∧ (∀ (s : State) (d : Int), (s.chip.leads = true) → (s.chip.fabOn = true) → (s.chip.fab.locked = false ∨ 80000 < d.natAbs) → (s.chip.cmdScheduled = true) → ∃ t, exec (.timeLock d) s = .next t ∧ t.chip.fab.locked = true ∧ t.chip.datum = s.chip.datum ∧ t.chip.rd R.FAB_DATUM_OFS_LO pgFAB = unsgn 64 (sgn 64 (s.chip.rd R.FAB_DATUM_OFS_LO pgFAB + 2 ^ 32 * s.chip.rd R.FAB_DATUM_OFS_HI pgFAB) + d) % 2 ^ 32)
  ∧ (∀ (s : State) (d : Int), (s.chip.leads = true) → (s.chip.fabOn = true) → (s.chip.fab.locked = true) → (d.natAbs ≤ 80000) → ∃ t, exec (.timeLock d) s = .next t ∧ t.chip.fab.locked = true ∧ t.chip.datum = s.chip.datum)
  ∧ (∀ (s : State), (s.chip.due (tmKey tmFabTime 0) = true) → (s.chip.leads = true) → ∃ t, exec (.fabTime) s = .next t ∧ t.chip.armed (tmKey tmFabTime 0) = false ∧ bitOf (t.chip.rd R.EVT_LATCH pgFAB) 7 = true)

/-- QUIET acts: one plane of the fabric is agreed to sleep, sleeps and wakes. The agreement by which one plane sleeps, its commit, the sleep instant, the settle window and the wake requests. Each clause holds under the conditions that it names. (R393, R394, R395, R396) -/
def Obligations.FabricTimeAndQuietAct : Prop :=
  (∀ (s : State) (h : SurveyHdr) (p : Plane) (q : Nat), (s.chip.fabOn = true) → (s.chip.forMe h = true) → (h.src / 2 ≠ s.chip.grid) → (s.chip.quietRefuses p = false) → ∃ t, exec (.quietPropose h p q) s = .next t ∧ t.chip.fab.quiet = some p ∧ t.chip.fab.quietQ = q ∧ t.chip.fab.quietMine = false ∧ t.chip.fab.quietCommit = false)
  ∧ (∀ (s : State) (h : SurveyHdr) (p : Plane) (q : Nat), (s.chip.fabOn = true) → (s.chip.forMe h = true) → (h.src / 2 ≠ s.chip.grid) → (s.chip.quietRefuses p = true) → (s.chip.fabLead = true) → ∃ t, exec (.quietPropose h p q) s = .next t ∧ t = s.onChip (fun c => c.fabBcast 5 0 [BitVec.ofNat 8 (planeNo p)]))
  ∧ (∀ (s : State) (h : SurveyHdr) (p : Plane) (q : Nat), (s.chip.fabOn = true) → (s.chip.forMe h = true) → (s.chip.fab.quiet = some p) → (s.chip.fab.quietQ = q) → ∃ t, exec (.quietCommit h p q) s = .next t ∧ t.chip.fab.quietCommit = true)
  ∧ (∀ (s : State) (h : SurveyHdr) (p : Plane), (s.chip.fabOn = true) → (s.chip.forMe h = true) → (s.chip.fab.quiet = some p) → (s.chip.fab.wake = false) → (s.chip.fab.quietCommit = false ∨ s.chip.sinceQ = none) → ∃ t, exec (.wake h) s = .next t ∧ t.chip.fab.quiet = none ∧ t.chip.fab.asleep = false)
  ∧ (∀ (s : State) (h : SurveyHdr) (p : Plane) (d : Nat), (s.chip.fabOn = true) → (s.chip.forMe h = true) → (s.chip.fab.quiet = some p) → (s.chip.fab.wake = false) → (s.chip.fab.quietCommit = true) → (s.chip.sinceQ = some d) → (d < 10 * dqUs) → (s.chip.fab.idle = false) → ∃ t, exec (.wake h) s = .next t ∧ t.chip.fab.quiet = none ∧ t.chip.fab.asleep = false ∧ bitOf (t.chip.rd R.EVT_LATCH pgFAB) 6 = true)
  ∧ (∀ (s : State) (h : SurveyHdr) (p : Plane) (d : Nat), (s.chip.fabOn = true) → (s.chip.forMe h = true) → (s.chip.fab.quiet = some p) → (s.chip.fab.wake = false) → (s.chip.fab.quietCommit = true) → (s.chip.sinceQ = some d) → (10 * dqUs ≤ d ∨ s.chip.fab.idle = true) → ∃ t, exec (.wake h) s = .next t ∧ t.chip.fab.wake = true ∧ t.chip.fab.asleep = false ∧ t.chip.fab.idle = false ∧ (∀ k ∈ planePorts p, t.chip.fpState k ≠ 2 ∧ t.chip.fpState k ≠ 3) ∧ bitOf (t.chip.rd R.EVT_LATCH pgFAB) 6 = true)
  ∧ (∀ (s : State), (s.chip.due (tmKey tmQuietAck 0) = true) → (s.chip.fab.quietMine = true) → (s.chip.fab.quiet.isSome = true) → (s.chip.fab.quietCommit = false) → (s.chip.quietAgreed = true) → ∃ t, exec (.quietAckDeadline) s = .next t ∧ t.chip.armed (tmKey tmQuietAck 0) = false ∧ t.chip.fab.quietCommit = true ∧ t.chip.fab.quiet = s.chip.fab.quiet)
  ∧ (∀ (s : State), (s.chip.due (tmKey tmQuietAck 0) = true) → (s.chip.fab.quietMine = true) → (s.chip.fab.quiet.isSome = true) → (s.chip.fab.quietCommit = false) → (s.chip.quietAgreed = false) → ∃ t, exec (.quietAckDeadline) s = .next t ∧ t.chip.armed (tmKey tmQuietAck 0) = false ∧ t.chip.fab.quiet = none ∧ t.chip.fab.quietMine = false ∧ t.chip.rd R.FAB_CNT pgFAB 8 = (s.chip.rd R.FAB_CNT pgFAB 8 + 1) % 2 ^ 32)
  ∧ (∀ (s : State) (p : Plane), (s.chip.fab.quiet = some p) → (s.chip.fab.asleep = false) → (s.chip.fab.wake = false) → (s.chip.sinceQ ≠ none) → (s.chip.fab.quietCommit = true) → ∃ t, exec (.quietInstant) s = .next t ∧ t.chip.fab.asleep = true ∧ t.chip.fab.idle = false ∧ t.chip.fab.quiet = some p ∧ bitOf (t.chip.rd R.EVT_LATCH pgFAB) 5 = true)
  ∧ (∀ (s : State) (p : Plane), (s.chip.fab.quiet = some p) → (s.chip.fab.asleep = false) → (s.chip.fab.wake = false) → (s.chip.sinceQ ≠ none) → (s.chip.fab.quietCommit = false) → ∃ t, exec (.quietInstant) s = .next t ∧ t.chip.fab.quiet = none ∧ t.chip.fab.asleep = false)
  ∧ (∀ (s : State) (p : Plane), (s.chip.fab.quiet = some p) → (s.chip.due (tmKey tmSettleWin 0) = true) → (s.chip.fab.asleep = true) → ∃ t, exec (.settleWindowEnd) s = .next t ∧ t.chip.fab.idle = true ∧ ∀ k ∈ planePorts p, t.chip.fpState k ≠ 2)
  ∧ (∀ (s : State) (k : FPort) (p : Plane) (d : Nat), (s.chip.fabOn = true) → (s.chip.fpState k.val = 3) → (s.chip.fab.quiet = some p) → (s.chip.fab.wake = false) → (s.chip.fab.quietCommit = true) → (s.chip.sinceQ = some d) → (s.chip.fab.idle = true) → ∃ t, exec (.signalDetectWake k) s = .next t ∧ t.chip.fab.asleep = false ∧ t.chip.fab.idle = false ∧ t.chip.fab.wake = true ∧ bitOf (t.chip.rd R.EVT_LATCH pgFAB) 6 = true)

/-- The shared ring opens windows, grants, ends and revokes tenures, and watches its queues. The credit window, a grant, the end of a tenure, of a back-off and of a block, revocation, overhold and starvation. Each clause holds under the conditions that it names. (R411, R412, R413, R416, R417, R418, R419) -/
def Obligations.RingCommandsAct : Prop :=
  (∀ (s : State), (s.chip.datum % 8000 = 0) → (s.chip.armed (tmKey tmCredit 0) = false ∨ s.chip.due (tmKey tmCredit 0) = true) → ∃ t, exec (.creditWindowStart) s = .next t ∧ t.chip.arb.credit = (upTo 8).map (fun p => s.chip.rd R.ARB_CREDIT pgARB p) ∧ t.chip.arb.used = [0, 0, 0, 0, 0, 0, 0, 0] ∧ t.chip.arb.tenure = s.chip.arb.tenure.map (fun u => { u with start := s.chip.now, beats := u.beats - ringCycles (s.chip.now - u.start) }))
  ∧ (∀ (s : State) (rs : RingReqs) (c1 : Chip) (q : RingQ) (b : Bool), (foldc rs (fun r c => c.ringAdd r) s.chip = c1) → (c1.arb.tenure = none) → (c1.ringChoice = some (q, b)) → ∃ t, exec (.ringGrant rs) s = .next t ∧ t.chip.arb.tenure = some { slot := q.slot, part := q.part, beats := q.xfers.head?.getD 0, start := c1.tenureStart q, began := c1.tenureStart q, tier1 := b } ∧ t.chip.rd R.ARB_CNT pgARB 0 = (c1.rd R.ARB_CNT pgARB 0 + 1) % 2 ^ 32)
  ∧ (∀ (s : State) (k : RSlot) (p : Part), ((s.chip.ringQ k.val p.val).backoff ≠ 0) → ((s.chip.ringQ k.val p.val).backoff ≤ s.chip.now) → ((s.chip.ringQ k.val p.val).slot = k.val) → ((s.chip.ringQ k.val p.val).part = p.val) → ∃ t, exec (.backoffEnd k p) s = .next t ∧ t = s.onChip (fun c => c.setRingQ { c.ringQ k.val p.val with backoff := 0 }))
  ∧ (∀ (s : State) (u : Tenure), (s.chip.arb.tenure = some u) → ∃ t, exec (.tenureEnd) s = .next t ∧ t.chip.arb.tenure = none ∧ t.chip.arb.freeAt = u.start + 8 * max u.beats (ringCycles (s.chip.now - u.start)) ∧ t.chip.arb.cut = false)
  ∧ (∀ (s : State) (u : Tenure), (s.chip.arb.tenure = some u) → (s.chip.arb.qs.any (fun x => x.part != u.part && s.chip.presents x && s.chip.tier1 x) = true) → (u.tier1 = false ∨ s.chip.credit u.part ≤ ringCycles (s.chip.now - u.start)) → ((s.chip.ringQ u.slot u.part).xfers.head?.getD 0 ≠ 1) → ∃ t, exec (.ringRevoke) s = .next t ∧ t.chip.arb.tenure = none ∧ t.chip.arb.freeAt = u.start + 8 * ringCycles (s.chip.now - u.start) ∧ t.chip.arb.cut = true ∧ t.chip.rd R.ARB_CNT pgARB 1 = (s.chip.rd R.ARB_CNT pgARB 1 + 1) % 2 ^ 32 ∧ bitOf (t.chip.rd R.EVT_LATCH pgARB) 2 = true)
  ∧ (∀ (s : State) (u : Tenure), (s.chip.arb.tenure = some u) → (s.chip.rd R.ARB_MAX_HOLD pgARB ≤ ringCycles (s.chip.now - u.began)) → ∃ t, exec (.ringOverhold) s = .next t ∧ t.chip.arb.tenure = none ∧ t.chip.rd R.ARB_CNT pgARB 2 = (s.chip.rd R.ARB_CNT pgARB 2 + 1) % 2 ^ 32)
  ∧ (∀ (s : State) (k : RSlot) (p : Part), ((s.chip.ringQ k.val p.val).blocked ≠ 0) → ((s.chip.ringQ k.val p.val).blocked ≤ s.chip.now) → ∃ t, exec (.overholdBlockEnd k p) s = .next t ∧ t = s.onChip (fun c => (c.setRingQ { c.ringQ k.val p.val with blocked := 0, since := c.now }).ringShow))
  ∧ (∀ (s : State) (k : RSlot) (p : Part), ((match s.chip.arb.tenure with | some u => u.slot == k.val && u.part == p.val | none => false) = false) → ((s.chip.ringQ k.val p.val).blocked = 0) → (s.chip.rd R.ARB_STARVE_LIMIT pgARB ≠ 0) → ((s.chip.ringQ k.val p.val).xfers ≠ []) → ((s.chip.ringQ k.val p.val).starving = false) → (s.chip.rd R.ARB_STARVE_LIMIT pgARB < ringCycles (s.chip.now - (s.chip.ringQ k.val p.val).since)) → ∃ t, exec (.ringStarve k p) s = .next t ∧ t.chip.rd R.ARB_CNT pgARB 3 = (s.chip.rd R.ARB_CNT pgARB 3 + 1) % 2 ^ 32)

/-- Faults are raised, the S3 sequence, MGMT's failure, sensors and shutdown act. Sources raised, the S3 reset, a failed MGMT, die and stage temperature sensors, thermal shutdown and restart. Each clause holds under the conditions that it names. (R423, R424, R427, R431, R434, R435, R437, R438, R439) -/
def Obligations.FaultAndThermalCommandsAct : Prop :=
  (∀ (s : State) (k : Byte) (i : Nat), (s.chip.plumb.porst = false) → (s.chip.plumb.stopped = false) → ((srcInfo k.toNat).isSome = true) → (k.toNat ≠ 2) → (k.toNat ≠ 3) → (k.toNat ≠ 8) → ∃ t, exec (.faultRaise k i) s = .next t ∧ t.chip.rd R.FCU_LAST_SRC pgFCU = k.toNat ∧ t.chip.rd R.FCU_LAST_SEV pgFCU = s.chip.srcSev k.toNat % 4 ∧ t.chip.rd R.FCU_CNT_RAISE pgFCU = (s.chip.rd R.FCU_CNT_RAISE pgFCU + 1) % 2 ^ 32)
  ∧ (∀ (s : State) (k : Byte), (s.chip.plumb.porst = false) → (s.chip.plumb.stopped = false) → ((srcInfo k.toNat).isSome = true) → ∃ t, exec (.wireFault k) s = .next t ∧ t.chip.rd R.FCU_LAST_SRC pgFCU = 0 ∧ t.chip.rd R.FCU_LAST_INST pgFCU = k.toNat ∧ t.chip.rd R.FCU_CNT_WIRE pgFCU = (s.chip.rd R.FCU_CNT_WIRE pgFCU + 1) % 2 ^ 32)
  ∧ (∀ (s : State), (s.chip.due (tmKey tmS3 0) = true) → (s.chip.on R.FCU_S3_HOLD pgFCU = false) → (s.chip.writeBusy = false) → ∃ t, exec (.s3ResetDelay) s = .next t ∧ t.chip.rd R.SYS_FAULT pgSYS = 1 ∧ t.chip.plumb.porst = false ∧ t.chip.plumb.rom = true ∧ t.chip.plumb.rstWait = none ∧ t.mem = [] ∧ t.cap = [])
  ∧ (∀ (s : State), (s.chip.due (tmKey tmS3 0) = true) → (s.chip.on R.FCU_S3_HOLD pgFCU = false) → (s.chip.writeBusy = true) → ∃ t, exec (.s3ResetDelay) s = .next t ∧ t.chip.plumb.rstWait.isSome = true ∧ t.chip.plumb.locked = [] ∧ t.chip.plumb.mgmtUp = false ∧ t.mem = [] ∧ t.cap = [])
  ∧ (∀ (s : State), (s.chip.due (tmKey tmS3 0) = true) → (s.chip.on R.FCU_S3_HOLD pgFCU = true) → ∃ t, exec (.s3ResetDelay) s = .next t ∧ t.chip.plumb.s3 = false ∧ t.chip.armed (tmKey tmS3 0) = false ∧ t.mem = s.mem)
  ∧ (∀ (s : State), (s.chip.plumb.mgmtUp = true) → (s.chip.plumb.mgmtFail = false) → (s.chip.solo = true) → ∃ t, exec (.mgmtFail) s = .next t ∧ t.chip.plumb.mgmtFail = true ∧ t.chip.plumb.mgmtSolo = true)
  ∧ (∀ (s : State), (s.chip.plumb.mgmtUp = true) → (s.chip.plumb.mgmtFail = false) → (s.chip.solo = false) → ∃ t, exec (.mgmtFail) s = .next t ∧ t.chip.plumb.mgmtFail = true ∧ mapGet t.chip.timers (tmKey tmMgmtAck 0) 0 = s.chip.now + dqMs + 1)
  ∧ (∀ (s : State), (s.chip.armed (tmKey tmMgmtAck 0) = true) → (s.chip.plumb.mgmtFail = true) → ∃ t, exec (.mgmtFailAckRx) s = .next t ∧ t.chip.plumb.fenced = true ∧ t.chip.plumb.s3 = true ∧ mapGet t.chip.timers (tmKey tmS3 0) 0 = t.chip.now + t.chip.rd R.FCU_RESET_DELAY_MS pgFCU * dqMs + 1)
  ∧ (∀ (s : State), (s.chip.due (tmKey tmMgmtAck 0) = true) → (s.chip.plumb.mgmtFail = true) → ∃ t, exec (.mgmtFailAckTimeout) s = .next t ∧ t.chip.plumb.mgmtSolo = true ∧ (s.chip.rd R.TWIN_STATE pgTWIN ≠ 4 → t.chip.rd R.TWIN_ROLE pgTWIN = 0))
  ∧ (∀ (s : State) (ts : Temps), (s.chip.plumb.porst = false) → (s.chip.plumb.stopped = false) → (∀ i < 64, s.chip.dieFailed i = false) → ∃ t, exec (.dieSensorRead ts) s = .next t ∧ ∀ i < 64, t.chip.rd R.THM_T pgTHM i = unsgn 16 (tempAt ts i))
  ∧ (∀ (s : State) (k : Sensor) (u : Nat), (s.chip.plumb.failed.find? (fun e => e.1 == k.val) = some (k.val, u)) → (u + 100 * dqMs ≤ s.chip.now) → (s.chip.dieFailed k.val = false) → ∃ t, exec (.dieSensorFailed k) s = .next t ∧ t.chip.rd R.THM_FAILED pgTHM k.val = 1)
  ∧ (∀ (s : State), (s.chip.plumb.porst = false) → (s.chip.plumb.stopped = false) → (s.chip.plumb.thermal = false) → ∃ t, exec (.thermalShutdown) s = .next t ∧ t.chip.plumb.thermal = true ∧ t.chip.plumb.fenced = true ∧ t.chip.plumb.downWhy = 1 ∧ t.chip.plumb.rstWait = none ∧ t.chip.mram.cntShutdown = s.chip.mram.cntShutdown + 1 ∧ t.chip.armed (tmKey tmS3 0) = false)
  ∧ (∀ (s : State), (s.chip.due (tmKey tmCool 0) = true) → (s.chip.plumb.thermal = true) → (s.chip.rd R.SEQ_STATE pgSEQ ≠ 2) → (s.chip.plumb.downPos = none) → (s.chip.on R.THM_SHUTDOWN_LOCK pgTHM = false) → (s.chip.writeBusy = false) → ∃ t, exec (.thermalRestart) s = .next t ∧ t.chip.rd R.SYS_THERMAL pgSYS = 1 ∧ t.chip.plumb.porst = false ∧ t.chip.plumb.rom = true ∧ t.chip.plumb.rstWait = none ∧ t.mem = [] ∧ t.cap = [])
  ∧ (∀ (s : State), (s.chip.due (tmKey tmCool 0) = true) → (s.chip.plumb.thermal = true) → (s.chip.rd R.SEQ_STATE pgSEQ ≠ 2) → (s.chip.plumb.downPos = none) → (s.chip.on R.THM_SHUTDOWN_LOCK pgTHM = false) → (s.chip.writeBusy = true) → ∃ t, exec (.thermalRestart) s = .next t ∧ t.chip.plumb.rstWait.isSome = true ∧ t.chip.plumb.locked = [] ∧ t.chip.plumb.mgmtUp = false ∧ t.mem = [] ∧ t.cap = [])
  ∧ (∀ (s : State) (p : Port) (b : Bool), ((s.chip.stageItem p.val b).1 ≠ 0x80000) → (bitOf (s.chip.rd R.THM_SS_FAILED pgTHM ((2 * p.val + b2n b) / 32)) ((2 * p.val + b2n b) % 32) = false) → (s.chip.stageInRange (s.chip.stageItem p.val b).1 = false ∨ s.chip.stageStuck p.val b = true) → ∃ t, exec (.stageSensorFail p b) s = .next t ∧ bitOf (t.chip.rd R.THM_SS_FAILED pgTHM ((2 * p.val + b2n b) / 32)) ((2 * p.val + b2n b) % 32) = true ∧ bitOf (t.chip.rd R.EVT_LATCH pgTHM) 2 = true)
  ∧ (∀ (s : State) (p : Port) (b : Bool), (bitOf (s.chip.rd R.THM_SS_FAILED pgTHM ((2 * p.val + b2n b) / 32)) ((2 * p.val + b2n b) % 32) = true) → (s.chip.stageInRange (s.chip.stageItem p.val b).1 = true) → (s.chip.stageStuck p.val b = false) → ((s.chip.stageItem p.val b).2.2 + 10 * dqS ≤ s.chip.now) → ∃ t, exec (.stageSensorRecover p b) s = .next t ∧ bitOf (t.chip.rd R.THM_SS_FAILED pgTHM ((2 * p.val + b2n b) / 32)) ((2 * p.val + b2n b) % 32) = false)
  ∧ (∀ (s : State), (s.chip.plumb.porst = false) → (s.chip.plumb.stopped = false) → (s.chip.writeBusy = false) → ∃ t, exec (.glitchDetect) s = .next t ∧ t.chip.rd R.SYS_GLITCH pgSYS = 1 ∧ t.chip.plumb.porst = false ∧ t.chip.plumb.rom = true ∧ t.chip.plumb.rstWait = none ∧ t.mem = [] ∧ t.cap = [] ∧ t.chip.mram.cntGlitch = s.chip.mram.cntGlitch + 1)
  ∧ (∀ (s : State), (s.chip.plumb.porst = false) → (s.chip.plumb.stopped = false) → (s.chip.writeBusy = true) → ∃ t, exec (.glitchDetect) s = .next t ∧ t.chip.plumb.rstWait.isSome = true ∧ t.chip.plumb.locked = [] ∧ t.chip.plumb.mgmtUp = false ∧ t.mem = [] ∧ t.cap = [] ∧ t.chip.mram.cntGlitch = s.chip.mram.cntGlitch + 1)

/-- The watchdog pair, the reset pins and the reset key act. PORST_N, RESET_N, Plumb ROM, the reset key, the watchdog pair and the timeout of a start. Each clause holds under the conditions that it names. (R64, R67, R86, R89, R90, R91, R432, R515) -/
def Obligations.WatchdogAndResetCommandsAct : Prop :=
  (∀ (s : State), (s.chip.plumb.wdog = false) → ∃ t, exec (.watchdogService) s = .next t ∧ mapGet t.chip.timers (tmKey tmWdog 0) 0 = s.chip.now + dqMs + 1)
  ∧ (∀ (s : State), (s.chip.plumb.porst = false) → (s.chip.plumb.stopped = false) → (s.chip.plumb.wdog = false) → ∃ t, exec (.watchdogExpiry) s = .next t ∧ t.chip.plumb.wdog = true ∧ t.chip.plumb.fenced = true ∧ t.chip.mram.wdogFlag = true ∧ t.chip.rd R.FCU_FLT_OUT pgFCU = 1 ∧ mapGet t.chip.timers (tmKey tmWdogRst 0) 0 = s.chip.now + 10 * dqMs + 1)
  ∧ (∀ (s : State), (s.chip.due (tmKey tmWdogRst 0) = true) → (s.chip.writeBusy = false) → ∃ t, exec (.watchdogReset) s = .next t ∧ t.chip.rd R.SYS_WDOG pgSYS = 1 ∧ t.chip.plumb.porst = false ∧ t.chip.plumb.rom = true ∧ t.chip.plumb.rstWait = none ∧ t.mem = [] ∧ t.cap = [])
  ∧ (∀ (s : State), (s.chip.due (tmKey tmWdogRst 0) = true) → (s.chip.writeBusy = true) → ∃ t, exec (.watchdogReset) s = .next t ∧ t.chip.plumb.rstWait.isSome = true ∧ t.chip.plumb.locked = [] ∧ t.chip.plumb.mgmtUp = false ∧ t.mem = [] ∧ t.cap = [])
  ∧ (∀ (s : State), ∃ t, exec (.porstNAssert) s = .next t ∧ t.chip.plumb.porst = true ∧ t.mem = [] ∧ t.cap = [] ∧ t.chip.stages = s.chip.stages ∧ t.chip.mram = s.chip.mram ∧ t.chip.timers = [] ∧ t.chip.rd R.SYS_TWIN_ID pgSYS = s.chip.rd R.SYS_TWIN_ID pgSYS ∧ t.chip.rd R.SEQ_PG pgSEQ = s.chip.rd R.SEQ_PG pgSEQ)
  ∧ (∀ (s : State) (b : Byte), (s.chip.plumb.porst = true) → ∃ t, exec (.porstNRise b) s = .next t ∧ t.chip.datum = 0 ∧ t.chip.plumb.porst = false ∧ t.chip.plumb.rom = true ∧ t.chip.rd R.SYS_TWIN_ID pgSYS = b2n (b.getLsbD 0) ∧ t.chip.rd R.SYS_SOLO_ALLOWED pgSYS = b2n (b.getLsbD 5))
  ∧ (∀ (s : State) (n : Nat), (s.chip.plumb.porst = false) → (s.chip.plumb.stopped = false) → (s.chip.plumb.resetN = false) → (1000 ≤ n) → (s.chip.writeBusy = false) → ∃ t, exec (.resetNAssert n) s = .next t ∧ t.chip.rd R.SYS_PIN pgSYS = 1 ∧ t.chip.plumb.porst = false ∧ t.chip.plumb.rom = true ∧ t.chip.plumb.rstWait = none ∧ t.mem = [] ∧ t.cap = [] ∧ t.chip.plumb.resetN = true)
  ∧ (∀ (s : State) (n : Nat), (s.chip.plumb.porst = false) → (s.chip.plumb.stopped = false) → (s.chip.plumb.resetN = false) → (1000 ≤ n) → (s.chip.writeBusy = true) → ∃ t, exec (.resetNAssert n) s = .next t ∧ t.chip.plumb.rstWait.isSome = true ∧ t.chip.plumb.locked = [] ∧ t.chip.plumb.mgmtUp = false ∧ t.mem = [] ∧ t.cap = [] ∧ t.chip.plumb.resetN = true)
  ∧ (∀ (s : State) (n : Nat), (s.chip.plumb.porst = false) → (s.chip.plumb.stopped = false) → (s.chip.plumb.resetN = false) → (100 ≤ n) → (n < 1000) → ∃ t, exec (.resetNAssert n) s = .next t ∧ (Config.recognisesPulse n = false → t = s) ∧ (Config.recognisesPulse n = true → t.chip.plumb.resetN = true ∧ t.mem = []))
  ∧ (∀ (s : State) (n : Nat), (n < 100) → ∃ t, exec (.resetNAssert n) s = .next t ∧ t = s)
  ∧ (∀ (s : State), (s.chip.plumb.resetN = true) → ∃ t, exec (.resetNRelease) s = .next t ∧ t.chip.plumb.resetN = false ∧ t.chip.plumb.resetAt = s.chip.now)
  ∧ (∀ (s : State), (s.chip.plumb.rom = true) → (s.chip.plumb.porst = false) → (s.chip.plumb.resetN = false) → (s.chip.plumb.stopped = false) → ∃ t, exec (.romSelftestDone) s = .next t ∧ t.chip.plumb.rom = false ∧ t.chip.plumb.por = false ∧ t.chip.plumb.brown = false)
  ∧ (∀ (s : State), (s.chip.due (tmKey tmKeyReset 0) = true) → (s.chip.plumb.key = 1) → ∃ t, exec (.resetKeyLapse) s = .next t ∧ t.chip.plumb.key = 0 ∧ t.chip.armed (tmKey tmKeyReset 0) = false)
  ∧ (∀ (s : State), (s.chip.due (tmKey tmResetBegin 0) = true) → (s.chip.writeBusy = false) → ∃ t, exec (.keyResetStart) s = .next t ∧ t.chip.rd R.SYS_KEY pgSYS = 1 ∧ t.chip.plumb.porst = false ∧ t.chip.plumb.rom = true ∧ t.chip.plumb.rstWait = none ∧ t.mem = [] ∧ t.cap = [])
  ∧ (∀ (s : State), (s.chip.due (tmKey tmResetBegin 0) = true) → (s.chip.writeBusy = true) → ∃ t, exec (.keyResetStart) s = .next t ∧ t.chip.plumb.rstWait.isSome = true ∧ t.chip.plumb.locked = [] ∧ t.chip.plumb.mgmtUp = false ∧ t.mem = [] ∧ t.cap = [])
  ∧ (∀ (s : State), (s.chip.due (tmKey tmBoot 0) = true) → (s.chip.rd R.SYS_STEP pgSYS < 5) → (s.chip.writeBusy = false) → ∃ t, exec (.bootTimeout) s = .next t ∧ t.chip.rd R.SYS_BOOT_TIMEOUT pgSYS = 1 ∧ t.chip.plumb.porst = false ∧ t.chip.plumb.rom = true ∧ t.chip.plumb.rstWait = none ∧ t.mem = [] ∧ t.cap = [] ∧ t.chip.mram.activeBad = true)
  ∧ (∀ (s : State), (s.chip.due (tmKey tmBoot 0) = true) → (s.chip.rd R.SYS_STEP pgSYS < 5) → (s.chip.writeBusy = true) → ∃ t, exec (.bootTimeout) s = .next t ∧ t.chip.plumb.rstWait.isSome = true ∧ t.chip.plumb.locked = [] ∧ t.chip.plumb.mgmtUp = false ∧ t.mem = [] ∧ t.cap = [] ∧ t.chip.mram.activeBad = true)

/-- The sequencer of the main rails acts. Enables, power-good inputs, aborts and retries, the power-down and a brown-out. Each clause holds under the conditions that it names. (R70, R71, R73, R74, R75, R77, R78, R79, R80) -/
def Obligations.SequencerCommandsAct : Prop :=
  (∀ (s : State), (s.chip.plumb.stopped = false) → (s.chip.due (tmKey tmRail 0) = true) → (s.chip.rd R.SEQ_STATE pgSEQ = 1) → (s.chip.plumb.waitPg = false) → (s.chip.plumb.rail < 8) → (bitOf (s.chip.rd R.SEQ_PG pgSEQ) s.chip.plumb.rail = false) → ∃ t, exec (.seqRailEnable) s = .next t ∧ bitOf (t.chip.rd R.SEQ_EN pgSEQ) s.chip.plumb.rail = true ∧ t.chip.plumb.waitPg = true ∧ mapGet t.chip.timers (tmKey tmPgWin 0) 0 = t.chip.now + (railOf s.chip.plumb.runSet s.chip.plumb.rail).window * dqMs + 1)
  ∧ (∀ (s : State) (k : Rail), ∃ t, exec (.seqPgRise k) s = .next t ∧ bitOf (t.chip.rd R.SEQ_PG pgSEQ) k.val = true)
  ∧ (∀ (s : State) (k : Rail) (m r : Nat), (s.chip.plumb.stopped = false) → (s.chip.rd R.SEQ_STATE pgSEQ = 1) → ((railOf s.chip.plumb.runSet k.val).used = true) → (s.chip.plumb.waitPg = true) → (s.chip.plumb.rail = k.val) → (s.chip.plumb.pos < 8) → (m + 1 ≤ 7 - s.chip.plumb.pos) → (∀ j < m, railAtPos s.chip.plumb.runSet (s.chip.plumb.pos + 1 + j) = none) → (railAtPos s.chip.plumb.runSet (s.chip.plumb.pos + 1 + m) = some r) → ∃ t, exec (.seqPgRise k) s = .next t ∧ t.chip.plumb.pos = s.chip.plumb.pos + 1 + m ∧ t.chip.plumb.rail = r ∧ t.chip.plumb.waitPg = false ∧ t.chip.armed (tmKey tmPgWin 0) = false ∧ mapGet t.chip.timers (tmKey tmRail 0) 0 = s.chip.now + (railOf s.chip.plumb.runSet r).delay * dqMs + 1)
  ∧ (∀ (s : State) (k : Rail), (s.chip.plumb.stopped = false) → (s.chip.rd R.SEQ_STATE pgSEQ = 1) → ((railOf s.chip.plumb.runSet k.val).used = true) → (s.chip.plumb.waitPg = true) → (s.chip.plumb.rail = k.val) → (s.chip.plumb.pos < 8) → (∀ j < 8, s.chip.plumb.pos < j → railAtPos s.chip.plumb.runSet j = none) → (s.chip.plumb.refclk = true) → ∃ t, exec (.seqPgRise k) s = .next t ∧ t.chip.rd R.SEQ_STATE pgSEQ = 2 ∧ t.chip.rd R.PLUMB_MAIN_UP pgPLUMB = 1 ∧ t.chip.rd R.SYS_STEP pgSYS = 2 ∧ (∀ i < 31, mapGet t.chip.timers (tmKey tmPll i) 0 = s.chip.now + 200 * dqUs + 1))
  ∧ (∀ (s : State) (a : AdcRead), (s.chip.plumb.stopped = false) → (s.chip.due (tmKey tmPgWin 0) = true) → (s.chip.rd R.SEQ_STATE pgSEQ = 1) → (s.chip.plumb.waitPg = true) → (s.chip.plumb.rail < 8) → ∃ t, exec (.seqPgTimeout a) s = .next t ∧ t.chip.rd R.SEQ_FAIL_CAUSE pgSEQ = 1 ∧ t.chip.rd R.SEQ_FAIL_RAIL pgSEQ = s.chip.plumb.rail ∧ t.chip.rd R.SEQ_EN pgSEQ = 0 ∧ t.mem = [])
  ∧ (∀ (s : State) (k : Rail) (a : AdcRead), (s.chip.plumb.stopped = false) → (s.chip.rd R.SEQ_STATE pgSEQ = 2) → ((railOf s.chip.plumb.runSet k.val).used = true) → (bitOf (s.chip.rd R.SEQ_EN pgSEQ) k.val = true) → ∃ t, exec (.seqPgLost k a) s = .next t ∧ t.chip.rd R.SEQ_FAIL_CAUSE pgSEQ = 2 ∧ t.chip.rd R.SEQ_FAIL_RAIL pgSEQ = k.val ∧ t.chip.rd R.SEQ_EN pgSEQ = 0 ∧ bitOf (t.chip.rd R.SEQ_PG pgSEQ) k.val = false ∧ t.mem = [])
  ∧ (∀ (s : State) (k : Rail) (a : AdcRead), (s.chip.plumb.stopped = false) → (s.chip.rd R.SEQ_STATE pgSEQ = 1) → ((railOf s.chip.plumb.runSet k.val).used = true) → (s.chip.plumb.seen.getLsbD k.val = true) → (s.chip.plumb.downPos = none) → ∃ t, exec (.seqPgLost k a) s = .next t ∧ t.chip.rd R.SEQ_FAIL_CAUSE pgSEQ = 2 ∧ t.chip.rd R.SEQ_FAIL_RAIL pgSEQ = k.val ∧ t.chip.rd R.SEQ_EN pgSEQ = 0 ∧ bitOf (t.chip.rd R.SEQ_PG pgSEQ) k.val = false ∧ t.mem = [])
  ∧ (∀ (s : State) (k : Rail) (a : AdcRead), (s.chip.plumb.stopped = true ∨ (s.chip.rd R.SEQ_STATE pgSEQ ≠ 1 ∧ s.chip.rd R.SEQ_STATE pgSEQ ≠ 2) ∨ (railOf s.chip.plumb.runSet k.val).used = false) → ∃ t, exec (.seqPgLost k a) s = .next t ∧ t = s.onChip (fun c => c.wr R.SEQ_PG pgSEQ (setBitN (c.rd R.SEQ_PG pgSEQ) k.val false)))
  ∧ (∀ (s : State) (m r : Nat), (s.chip.plumb.stopped = false) → (s.chip.due (tmKey tmRetry 0) = true) → (s.chip.rd R.SEQ_STATE pgSEQ = 3) → (s.chip.plumb.downWhy = 0) → (m < 8) → (∀ j < m, railAtPos (s.chip.plumb.newSet.getD s.chip.plumb.runSet) j = none) → (railAtPos (s.chip.plumb.newSet.getD s.chip.plumb.runSet) m = some r) → ∃ t, exec (.seqRetry) s = .next t ∧ t.chip.rd R.SEQ_STATE pgSEQ = 1 ∧ t.chip.rd R.SEQ_EN pgSEQ = 0 ∧ t.chip.plumb.runSet = s.chip.plumb.newSet.getD s.chip.plumb.runSet ∧ t.chip.plumb.newSet = none ∧ t.chip.plumb.pos = m ∧ t.chip.plumb.rail = r ∧ t.chip.plumb.seqAt = s.chip.now ∧ t.chip.armed (tmKey tmRetry 0) = false ∧ mapGet t.chip.timers (tmKey tmRail 0) 0 = s.chip.now + (railOf (s.chip.plumb.newSet.getD s.chip.plumb.runSet) r).delay * dqMs + 1)
  ∧ (∀ (s : State), (s.chip.due (tmKey tmAborts 0) = true) → (s.chip.rd R.SEQ_STATE pgSEQ = 2) → ∃ t, exec (.abortsClear) s = .next t ∧ t.chip.rd R.SEQ_ABORTS pgSEQ = 0 ∧ t.chip.armed (tmKey tmAborts 0) = false)
  ∧ (∀ (s : State) (k : Nat), (s.chip.plumb.stopped = false) → (s.chip.plumb.downWhy ≠ 0) → (s.chip.plumb.downPos = none) → (s.chip.rd R.SEQ_STATE pgSEQ ≠ 5) → (s.chip.rd R.SEQ_STATE pgSEQ ≠ 4) → (s.chip.rd R.SEQ_STATE pgSEQ ≠ 0) → (railBelow s.chip.plumb.runSet 7 = some k) → ((railOf s.chip.plumb.runSet k).order ≠ 0) → ((railBelow s.chip.plumb.runSet ((railOf s.chip.plumb.runSet k).order - 1)).isSome = true) → (k < 8) → ∃ t, exec (.seqPowerDown) s = .next t ∧ bitOf (t.chip.rd R.SEQ_EN pgSEQ) k = false ∧ t.chip.plumb.downPos = some (railOf s.chip.plumb.runSet k).order ∧ t.chip.armed (tmKey tmDown 0) = true)
  ∧ (∀ (s : State) (j k : Nat), (s.chip.plumb.stopped = false) → (s.chip.due (tmKey tmDown 0) = true) → (s.chip.plumb.downPos = some j) → (j ≠ 0) → (railBelow s.chip.plumb.runSet (j - 1) = some k) → (s.chip.rd R.SEQ_STATE pgSEQ ≠ 5) → ((railOf s.chip.plumb.runSet k).order ≠ 0) → ((railBelow s.chip.plumb.runSet ((railOf s.chip.plumb.runSet k).order - 1)).isSome = true) → (k < 8) → ∃ t, exec (.seqDownStep) s = .next t ∧ bitOf (t.chip.rd R.SEQ_EN pgSEQ) k = false ∧ t.chip.plumb.downPos = some (railOf s.chip.plumb.runSet k).order)
  ∧ (∀ (s : State), (s.chip.plumb.porst = false) → (s.chip.plumb.stopped = false) → ∃ t, exec (.brownOut) s = .next t ∧ t.chip.plumb.stopped = true ∧ t.chip.timers = [] ∧ t.mem = [] ∧ t.chip.rd R.SEQ_EN pgSEQ = 0 ∧ t.chip.rd R.FCU_FLT_OUT pgFCU = 1)

/-- PLLs lock and fail, clocks are lost, the crystal and the ADC are shown. The PLLs, REFCLK, the crystal and the readings of Plumb. Each clause holds under the conditions that it names. (R23, R83, R84, R85, R526) -/
def Obligations.ClockCommandsAct : Prop :=
  (∀ (s : State) (i : Island), (s.chip.armed (tmKey tmPll i.val) = true) → (s.chip.plumb.halted = false) → ∃ t, exec (.pllLock i) s = .next t ∧ i.val ∈ t.chip.plumb.locked ∧ t.chip.armed (tmKey tmPll i.val) = false)
  ∧ (∀ (s : State) (i : Island), (s.chip.due (tmKey tmPll i.val) = true) → (s.chip.plumb.halted = false) → (mapGet s.chip.plumb.tries i.val 0 < 3) → ∃ t, exec (.pllLockTimeout i) s = .next t ∧ i.val ∈ t.chip.plumb.pllReset ∧ mapGet t.chip.plumb.tries i.val 0 = mapGet s.chip.plumb.tries i.val 0 + 1 ∧ mapGet t.chip.timers (tmKey tmPllRst i.val) 0 = s.chip.now + 10 * dqUs + 1)
  ∧ (∀ (s : State) (i : Island), (s.chip.due (tmKey tmPll i.val) = true) → (s.chip.plumb.halted = false) → (3 ≤ mapGet s.chip.plumb.tries i.val 0) → ∃ t, exec (.pllLockTimeout i) s = .next t ∧ t.chip.plumb.halted = true ∧ t.chip.rd R.SYS_RESULT pgSYS = 1 ∧ t.chip.rd R.SYS_FAIL_ISLAND pgSYS = i.val)
  ∧ (∀ (s : State) (i : Island), (s.chip.due (tmKey tmPllRst i.val) = true) → (s.chip.plumb.halted = false) → ∃ t, exec (.pllRetry i) s = .next t ∧ i.val ∉ t.chip.plumb.pllReset ∧ mapGet t.chip.timers (tmKey tmPll i.val) 0 = s.chip.now + 200 * dqUs + 1)
  ∧ (∀ (s : State) (i : Island), (s.chip.plumb.porst = false) → (s.chip.plumb.stopped = false) → (3 ≤ s.chip.rd R.SYS_STEP pgSYS) → (s.chip.plumb.locked.contains i.val = true) → ∃ t, exec (.islandUnlock i) s = .next t ∧ i.val ∉ t.chip.plumb.locked ∧ t.chip.rd R.FCU_LAST_SRC pgFCU = 5 ∧ t.chip.rd R.FCU_LAST_INST pgFCU = i.val)
  ∧ (∀ (s : State), (s.chip.plumb.porst = false) → (s.chip.plumb.stopped = false) → (s.chip.plumb.refclk = true) → (3 ≤ s.chip.rd R.SYS_STEP pgSYS) → ∃ t, exec (.refclkLoss) s = .next t ∧ t.chip.plumb.refclk = false ∧ t.chip.rd R.FCU_LAST_SRC pgFCU = 4)
  ∧ (∀ (s : State), (s.chip.plumb.porst = false) → (s.chip.plumb.stopped = false) → (s.chip.plumb.refclk = true) → (s.chip.rd R.SYS_STEP pgSYS = 2) → (s.chip.plumb.halted = false) → ∃ t, exec (.refclkLoss) s = .next t ∧ t.chip.plumb.refclk = false ∧ t.chip.plumb.halted = true ∧ t.chip.rd R.SYS_RESULT pgSYS = 1 ∧ t.chip.rd R.SYS_FAIL_ISLAND pgSYS = 0x3F)
  ∧ (∀ (s : State), (s.chip.plumb.porst = false) → (s.chip.plumb.stopped = false) → (s.chip.plumb.refclk = true) → (s.chip.rd R.SYS_STEP pgSYS < 2) → ∃ t, exec (.refclkLoss) s = .next t ∧ t.chip.plumb.refclk = false)
  ∧ (∀ (s : State) (b : Bool), (s.chip.plumb.porst = false) → (s.chip.plumb.stopped = false) → (s.chip.on R.PLUMB_XTAL_RUN pgPLUMB ≠ b) → ∃ t, exec (.xtalDetect b) s = .next t ∧ t.chip.rd R.PLUMB_XTAL_RUN pgPLUMB = b2n b ∧ t.chip.rd R.PLUMB_TRIM_SRC pgPLUMB = (if b then 1 else if s.chip.plumb.locked.contains 29 then 2 else 0) ∧ bitOf (t.chip.rd R.EVT_LATCH pgPLUMB) 0 = true)

/-- Plumb's readings are refreshed, hibernation is sampled and its records are written. The ADC values while the main rails are up, the 10 s sample of hibernation with its wake, and the hourly battery records. Each clause holds under the conditions that it names. (R281, R282, R283, R526) -/
def Obligations.PlumbReadingsAct : Prop :=
  (∀ (s : State) (a : AdcRead) (w : Word), (s.chip.on R.PLUMB_MAIN_UP pgPLUMB = true) → (s.chip.plumb.msTick ≤ s.chip.now) → ∃ t, exec (.plumbAdcRefresh a w) s = .next t ∧ t.chip.rd R.PLUMB_VAON_MV pgPLUMB = a.vaon.toNat ∧ t.chip.rd R.PLUMB_ADC_MV pgPLUMB 3 = a.a3.toNat ∧ t.chip.rd R.PLUMB_RC_ERR_PPB pgPLUMB = w.toNat ∧ t.chip.plumb.msTick = s.chip.now + dqMs)
  ∧ (∀ (s : State) (a : AdcRead), (s.chip.due (tmKey tmHibSample 0) = true) → (s.chip.plumb.hib = true) → (s.chip.plumb.hibWake = 0) → (s.chip.hibHigh a = false) → ∃ t, exec (.hibSample a) s = .next t ∧ t.chip.rd R.PLUMB_VAON_MV pgPLUMB = a.vaon.toNat ∧ t.chip.rd R.PLUMB_ADC_MV pgPLUMB 1 = a.a1.toNat ∧ t.chip.plumb.hibWake = 0 ∧ mapGet t.chip.timers (tmKey tmHibSample 0) 0 = s.chip.now + 10 * dqS + 1)
  ∧ (∀ (s : State) (a : AdcRead), (s.chip.due (tmKey tmHibSample 0) = true) → (s.chip.plumb.hib = true) → (s.chip.plumb.hibWake = 0) → (s.chip.hibHigh a = true) → ∃ t, exec (.hibSample a) s = .next t ∧ t.chip.plumb.hibWake = 1 ∧ t.chip.rd R.PLUMB_HIBERNATING pgPLUMB = 0 ∧ t.chip.armed (tmKey tmHibSample 0) = false)
  ∧ (∀ (s : State) (a : AdcRead), (s.chip.due (tmKey tmHibSample 0) = true) → (s.chip.plumb.hib = false ∨ s.chip.plumb.hibWake ≠ 0) → (s.chip.hibHigh a = false ∨ s.chip.plumb.hibWake = 0) → ∃ t, exec (.hibSample a) s = .next t ∧ t = s.onChip (fun c => (c.disarm (tmKey tmHibSample 0)).putAdc a))
  ∧ (∀ (s : State) (a : AdcRead), (s.chip.due (tmKey tmHibSample 0) = true) → (s.chip.plumb.hibWake ≠ 0) → (s.chip.hibHigh a = true) → ∃ t, exec (.hibSample a) s = .next t ∧ t.chip.plumb.hibWake = s.chip.plumb.hibWake ||| 1 ∧ t.chip.rd R.PLUMB_VAON_MV pgPLUMB = a.vaon.toNat ∧ t.chip.armed (tmKey tmHibSample 0) = false)
  ∧ (∀ (s : State), (s.chip.due (tmKey tmHibRec 0) = true) → (s.chip.plumb.hib = true) → ∃ t, exec (.hibRecordWrite) s = .next t ∧ t.chip.mram.battery = s.chip.mram.battery.filter (fun e => !s.chip.validStrs.contains e.1) ++ s.chip.validStrs.map s.chip.battRecord ∧ mapGet t.chip.timers (tmKey tmHibRec 0) 0 = t.chip.now + 3600 * dqS + 1)

/-- Start steps 3 to 7 act. The choice of an image, the start of the engines, the end of discovery, the probe of the twin and the fabric. Each clause holds under the conditions that it names. (R93, R94, R95, R491) -/
def Obligations.StartStepsAct : Prop :=
  (∀ (s : State) (i : FlashInfo) (r : Containers), (s.chip.rd R.SYS_STEP pgSYS = 2) → (s.chip.plumb.halted = false) → ((upTo 31).all (fun k => s.chip.plumb.locked.contains k) = true) → (s.chip.rd R.SYS_BOOT_SRC pgSYS ≠ 0) → (((s.chip.xspiStart i).setPasses r).2 = true) → ∃ t, exec (.bootImageSelect i r) s = .next t ∧ t.chip.rd R.SYS_STEP pgSYS = 3 ∧ t.chip.rd R.SYS_SLOT pgSYS = 2 ∧ t.chip.plumb.mgmtUp = true ∧ t.chip.fwu.bootSet = r)
  ∧ (∀ (s : State) (i : FlashInfo) (r : Containers), (s.chip.rd R.SYS_STEP pgSYS = 2) → (s.chip.plumb.halted = false) → ((upTo 31).all (fun k => s.chip.plumb.locked.contains k) = true) → (s.chip.rd R.SYS_BOOT_SRC pgSYS ≠ 0) → (((s.chip.xspiStart i).setPasses r).2 = false) → ∃ t, exec (.bootImageSelect i r) s = .next t ∧ t.chip.plumb.halted = true ∧ t.chip.rd R.SYS_RESULT pgSYS = 3)
  ∧ (∀ (s : State) (i : FlashInfo) (r : Containers), (s.chip.rd R.SYS_STEP pgSYS = 2) → (s.chip.plumb.halted = false) → ((upTo 31).all (fun k => s.chip.plumb.locked.contains k) = true) → (s.chip.rd R.SYS_BOOT_SRC pgSYS = 0) → (128 ≤ i.sizeMib) → (i.sizeMib < 2 ^ R.XSPI_SIZE_MIB.w) → (s.chip.flash.pending = false) → (s.chip.mram.activeBad = false) → (((s.chip.xspiStart i).setPasses s.chip.flash.active).2 = true) → ∃ t, exec (.bootImageSelect i r) s = .next t ∧ t.chip.rd R.SYS_STEP pgSYS = 3 ∧ t.chip.rd R.SYS_SLOT pgSYS = 0 ∧ t.chip.plumb.mgmtUp = true ∧ t.chip.fwu.bootSet = s.chip.flash.active ∧ mapGet t.chip.timers (tmKey tmBoot 0) 0 = t.chip.now + dqS + 1)
  ∧ (∀ (s : State), (s.chip.rd R.SYS_STEP pgSYS = 3) → (s.chip.plumb.mgmtUp = true) → ∃ t, exec (.ceKernelLoad) s = .next t ∧ t.chip.rd R.SYS_STEP pgSYS = 4 ∧ ∀ e < 128, (t.chip.eng e).up = true)
  ∧ (∀ (s : State), (s.chip.rd R.SYS_STEP pgSYS = 4) → (s.chip.discoveryDone = true) → ∃ t, exec (.stageDiscoveryDone) s = .next t ∧ t.chip.rd R.SYS_STEP pgSYS = 5 ∧ t.chip.twin.step6 = true ∧ mapGet t.chip.timers (tmKey tmProbe 0) 0 = s.chip.now + 20 * dqMs + 1)
  ∧ (∀ (s : State), (s.chip.due (tmKey tmProbe 0) = true) → (s.chip.twin.step6 = true) → (s.chip.noRole = true) → ∃ t, exec (.chainProbeEnd .running) s = .next t ∧ t.chip.rd R.TWIN_STATE pgTWIN = 2 ∧ t.chip.rd R.TWIN_JOIN_PHASE pgTWIN = 0)
  ∧ (∀ (s : State), (s.chip.due (tmKey tmProbe 0) = true) → (s.chip.twin.step6 = true) → (s.chip.noRole = true) → (s.chip.on R.SYS_SOLO_ALLOWED pgSYS = false) → ∃ t, exec (.chainProbeEnd .noTwin) s = .next t ∧ t.chip.rd R.TWIN_STATE pgTWIN = 0 ∧ mapGet t.chip.timers (tmKey tmProbe 0) 0 = t.chip.now + 20 * dqMs + 1)
  ∧ (∀ (s : State), (s.chip.due (tmKey tmProbe 0) = true) → (s.chip.twin.step6 = true) → (s.chip.noRole = true) → (s.chip.on R.SYS_SOLO_ALLOWED pgSYS = true) → (s.chip.flash.cfgA = none) → (s.chip.flash.cfgB = none) → (s.mem = []) → (s.chip.rd R.SYS_STEP pgSYS = 5) → ∃ t, exec (.chainProbeEnd .noTwin) s = .next t ∧ t.chip.rd R.TWIN_STATE pgTWIN = 1 ∧ t.chip.rd R.SYS_STEP pgSYS = 6 ∧ t.chip.mram.incarn = s.chip.mram.incarn + 1)
  ∧ (∀ (s : State) (b : Bool), (s.chip.due (tmKey tmProbe 0) = true) → (s.chip.twin.step6 = true) → (s.chip.noRole = true) → (s.chip.on R.SYS_TWIN_ID pgSYS = true) → (b = false) → ∃ t, exec (.chainProbeEnd (.alsoStep6 b)) s = .next t ∧ t.chip.rd R.TWIN_STATE pgTWIN = 2 ∧ t.chip.rd R.TWIN_JOIN_PHASE pgTWIN = 0)
  ∧ (∀ (s : State), (s.chip.rd R.SYS_STEP pgSYS = 6) → ∃ t, exec (.fabricJoin) s = .next t ∧ t.chip.rd R.SYS_STEP pgSYS = 7)

/-- The Field Book takes, writes and erases records. Queueing a record, writing it, and the erase. Each clause holds under the conditions that it names. (R443, R446, R448, R449, R451) -/
def Obligations.FieldBookCommandsAct : Prop :=
  (∀ (s : State) (k o : Nat) (v : Chan) (p : Part) (b : Bytes), (s.chip.plumb.porst = false) → (s.chip.plumb.stopped = false) → (s.chip.fbk.queue.length < 256) → (shelfCode k = false) → (b ≠ []) → ∃ t, exec (.fbkRecordQueue k o v p b) s = .next t ∧ ∃ r, t.chip.fbk.queue = s.chip.fbk.queue ++ [r] ∧ r.code = k ∧ r.source = o ∧ r.sev = v.val ∧ r.part = p.val ∧ r.payload = sliceBytes b 0 32 ∧ r.datum = s.chip.fabDatum)
  ∧ (∀ (s : State) (q : FbRec) (rest : List FbRec) (i : Nat) (o : Option FbRec), (s.chip.fbk.queue = q :: rest) → (s.chip.fbCanWrite = true) → (s.chip.fbPlace q = some (i, o)) → ∃ t, exec (.fbkRecordWrite) s = .next t ∧ t.chip.fbk.queue = rest ∧ t.chip.fbk.seq = nextSeq s.chip.fbk.seq ∧ (∃ r, mapGet t.chip.fbk.slots i {} = r ∧ r.seq = nextSeq s.chip.fbk.seq ∧ r.code = q.code ∧ r.payload = q.payload))
  ∧ (∀ (s : State), (s.chip.due (tmKey tmKeyErase 0) = true) → (s.chip.plumb.eraseKey = 1) → ∃ t, exec (.fbkEraseLapse) s = .next t ∧ t.chip.plumb.eraseKey = 0)
  ∧ (∀ (s : State), (s.chip.fbk.erasing = true) → ∃ t, exec (.fbkEraseDone) s = .next t ∧ t.chip.fbk.slots = [] ∧ t.chip.fbk.erasing = false ∧ t.chip.mram.seqFloor = s.chip.fbk.seq)

/-- Waveform capture triggers, stores entries, ends and flushes. Trigger events, entries, the end of POST and the flush of a capture set. Each clause holds under the conditions that it names. (R458, R459, R461, R463, R484) -/
def Obligations.CaptureCommandsAct : Prop :=
  (∀ (s : State) (k : Oct), ((s.chip.wset k.val).cause = true) → ((s.chip.wset k.val).trig = false) → (s.chip.rd R.WCAP_STATE pgWCAP k.val = 1) → ((s.chip.wset k.val).armTick < s.chip.tick) → ∃ t, exec (.wcapTrigEvent k) s = .next t ∧ (t.chip.wset k.val).trig = true ∧ (t.chip.wset k.val).trigTick = s.chip.tick ∧ (t.chip.wset k.val).cause = false)
  ∧ (∀ (s : State) (k : Oct), (s.chip.wcDue k.val = true) → ∃ t, exec (.wcapEntry k true) s = .next t ∧ t.cap = memPut s.cap (s.chip.wcAddr k.val (s.chip.wset k.val).entry) (s.chip.wcEntryBytes k.val s.chip.wcTick) ∧ (t.chip.wset k.val).entry = (s.chip.wset k.val).entry + 1)
  ∧ (∀ (s : State) (k : Oct), (s.chip.wcDue k.val = true) → ∃ t, exec (.wcapEntry k false) s = .next t ∧ t.cap = s.cap ∧ t.chip.rd R.WCAP_GAP pgWCAP k.val = 1 ∧ t.chip.rd R.WCAP_CNT_GAP pgWCAP = (s.chip.rd R.WCAP_CNT_GAP pgWCAP + 1) % 2 ^ 32)
  ∧ (∀ (s : State) (k : Oct), (s.chip.rd R.WCAP_STATE pgWCAP k.val = 2) → ((s.chip.wset k.val).left = 0) → ∃ t, exec (.wcapPostEnd k) s = .next t ∧ t.chip.rd R.WCAP_STATE pgWCAP k.val = 3 ∧ bitOf (t.chip.rd R.EVT_LATCH pgWCAP) k.val = true)
  ∧ (∀ (s : State) (k : Oct), (s.chip.rd R.WCAP_STATE pgWCAP k.val = 3) → (s.chip.on R.WCAP_FLUSH_EN pgWCAP k.val = true) → ∃ t, exec (.wcapFlushStart k) s = .next t ∧ t.chip.rd R.WCAP_STATE pgWCAP k.val = 4 ∧ t.chip.rd R.XSPI_BUSY pgXSPI = 1)
  ∧ (∀ (s : State) (k : Oct), (s.chip.rd R.WCAP_STATE pgWCAP k.val = 4) → ∃ t, exec (.wcapFlushDone k) s = .next t ∧ t.chip.rd R.WCAP_STATE pgWCAP k.val = 5 ∧ t.chip.flash.archSeq = s.chip.flash.archSeq + 1 ∧ bitOf (t.chip.rd R.EVT_LATCH pgWCAP) (8 + k.val) = true)
  ∧ (∀ (s : State) (k : Oct), (s.chip.rd R.WCAP_STATE pgWCAP k.val = 4) → ∃ t, exec (.wcapFlushFail k) s = .next t ∧ t.chip.rd R.WCAP_STATE pgWCAP k.val = 6 ∧ t.chip.rd R.XSPI_CNT_PROG_ERR pgXSPI = (s.chip.rd R.XSPI_CNT_PROG_ERR pgXSPI + 1) % 2 ^ 32)

/-- The mailbox, staging, activation and the kernel swap act. Requests of the mailbox, the nine commands that they carry, and the rows of an activation and of a swap. Each clause holds under the conditions that it names. (R181, R471, R485, R494, R496, R498, R500, R501) -/
def Obligations.ImageUpdateCommandsAct : Prop :=
  (∀ (s : State) (v : Word) (k : Nat) (b : Bytes), (bitOf v.toNat 0 = true) → (s.chip.host.posted = none) → (s.chip.on R.HOST_LINK_UP pgHOST = true) → (s.chip.plumb.mgmtUp = true) → ∃ t, exec (.mbDoorbell v k b) s = .next t ∧ t.chip.host.posted = some (k, b) ∧ t.chip.host.served = false)
  ∧ (∀ (s : State) (b : Bytes), (s.chip.mbRequest 0x101 = some b) → (s.chip.fwuBusy = false) → (s.chip.takesWork pgFWU = true) → ∃ t, exec (.stageBegin) s = .next t ∧ t.chip.flash.image = [] ∧ t.chip.flash.staged = [] ∧ t.chip.flash.pending = false ∧ t.chip.fwu.staging = true ∧ t.chip.host.served = true ∧ t.chip.host.mbResult = 0)
  ∧ (∀ (s : State) (b : Bytes), (s.chip.mbRequest 0x102 = some b) → (s.chip.fwuBusy = false) → (s.chip.takesWork pgFWU = true) → (leAt b 0 4 + (b.drop 4).length ≤ 32 * 2 ^ 20) → ∃ t, exec (.stageData) s = .next t ∧ t.chip.flash = (s.chip.program (leAt b 0 4) (b.drop 4)).flash ∧ t.chip.host.served = true ∧ t.chip.host.mbResult = 0)
  ∧ (∀ (s : State) (b : Bytes), (s.chip.mbRequest 0x102 = some b) → (s.chip.fwuBusy = false) → (s.chip.takesWork pgFWU = true) → (32 * 2 ^ 20 < leAt b 0 4 + (b.drop 4).length) → ∃ t, exec (.stageData) s = .next t ∧ t.chip.flash = s.chip.flash ∧ t.chip.host.served = true ∧ t.chip.host.mbResult = 1)
  ∧ (∀ (s : State) (b : Bytes), (s.chip.mbRequest 0x103 = some b) → (s.chip.fwuBusy = false) → (s.chip.takesWork pgFWU = true) → ∃ t, exec (.stageEnd) s = .next t ∧ t.chip.fwu.staging = false ∧ t.chip.host.served = true ∧ t.chip.host.mbResult = (match (s.chip.ctVerifyAll (s.chip.stagedParse 0 5) none).2 with | some k => k | none => if ctFits (s.chip.stagedParse 0 5) then 0 else 1) ∧ t.chip.flash.pending = decide (t.chip.host.mbResult = 0) ∧ t.chip.flash.staged = (if t.chip.host.mbResult = 0 then s.chip.stagedParse 0 5 else []))
  ∧ (∀ (s : State) (b : Bytes), (s.chip.mbRequest 0x104 = some b) → (s.chip.fwuBusy = false) → (s.chip.takesWork pgFWU = true) → (s.chip.activateRefuse (leAt b 0 1) = none) → (s.chip.paired = false) → ∃ t, exec (.activate) s = .next t ∧ t.chip.fwu.activating = decide (selTypes (leAt b 0 1) ≠ []) ∧ t.chip.fwu.sel = leAt b 0 1 % 4 ∧ t.chip.fwu.turn = 1 ∧ t.chip.host.served = true ∧ t.chip.host.mbResult = 0)
  ∧ (∀ (s : State) (b : Bytes), (s.chip.mbRequest 0x104 = some b) → (s.chip.fwuBusy = false) → (s.chip.takesWork pgFWU = true) → (s.chip.activateRefuse (leAt b 0 1) = none) → (s.chip.paired = true) → ∃ t, exec (.activate) s = .next t ∧ t.chip.host.served = true ∧ t.chip.host.awaitTwin = true ∧ t.chip.host.mbResult = 0 ∧ t.chip.fwu = s.chip.fwu ∧ t.chip.mram = s.chip.mram ∧ t.chip.sent = (s.chip.send (.chain (.mirror (.image 0x104 b)))).sent)
  ∧ (∀ (s : State) (b : Bytes) (n : Nat), (s.chip.mbRequest 0x104 = some b) → (s.chip.fwuBusy = false) → (s.chip.takesWork pgFWU = true) → (s.chip.activateRefuse (leAt b 0 1) = some n) → (n ≠ 0) → ∃ t, exec (.activate) s = .next t ∧ t.chip.fwu = s.chip.fwu ∧ t.chip.host.served = true ∧ t.chip.host.mbResult = n ∧ t.chip.rd R.FWU_RESULT pgFWU = n % 2 ^ R.FWU_RESULT.w)
  ∧ (∀ (s : State) (b : Bytes), (s.chip.mbRequest 0x105 = some b) → (s.chip.fwuBusy = false) → (s.chip.takesWork pgFWU = true) → (s.chip.swapRefuse = none) → (s.chip.paired = false) → ∃ t, exec (.swapKernels) s = .next t ∧ t.chip.host.served = true ∧ t.chip.host.mbResult = 0 ∧ t.chip.fwu.swapFrom = s.chip.rd R.CE_ACTIVE_BANK (pgCE 0))
  ∧ (∀ (s : State) (b : Bytes), (s.chip.mbRequest 0x105 = some b) → (s.chip.fwuBusy = false) → (s.chip.takesWork pgFWU = true) → (s.chip.swapRefuse = none) → (s.chip.paired = true) → ∃ t, exec (.swapKernels) s = .next t ∧ t.chip.host.served = true ∧ t.chip.host.awaitTwin = true ∧ t.chip.host.mbResult = 0 ∧ t.chip.fwu = s.chip.fwu ∧ t.chip.mram = s.chip.mram ∧ t.chip.sent = (s.chip.send (.chain (.mirror (.image 0x105 b)))).sent)
  ∧ (∀ (s : State) (b : Bytes), (s.chip.mbRequest 0x106 = some b) → (s.chip.fwuBusy = false) → (s.chip.takesWork pgFWU = true) → ∃ t, exec (.promoteGolden) s = .next t ∧ t.chip.flash.golden = (if (s.chip.ctVerifyAll s.chip.flash.active none).2 = none ∧ ctComplete s.chip.flash.active = true then s.chip.flash.active else s.chip.flash.golden) ∧ t.chip.host.served = true)
  ∧ (∀ (s : State) (b : Bytes), (s.chip.mbRequest 0x107 = some b) → (s.chip.fwuBusy = false) → (s.chip.takesWork pgFWU = true) → (s.chip.mram.svn ≤ leAt b 0 1) → (leAt b 0 1 ≤ 64) → ((s.chip.flash.active ++ s.chip.flash.golden).any (fun x => decide (ctSvn x < leAt b 0 1)) = false) → (s.chip.paired = false) → ∃ t, exec (.raiseSvn) s = .next t ∧ t.chip.mram.svn = leAt b 0 1 ∧ t.chip.rd R.SEC_SVN_FUSED pgSEC = leAt b 0 1 ∧ t.chip.host.served = true ∧ t.chip.host.mbResult = 0)
  ∧ (∀ (s : State) (b : Bytes), (s.chip.mbRequest 0x107 = some b) → (s.chip.fwuBusy = false) → (s.chip.takesWork pgFWU = true) → (s.chip.mram.svn ≤ leAt b 0 1) → (leAt b 0 1 ≤ 64) → ((s.chip.flash.active ++ s.chip.flash.golden).any (fun x => decide (ctSvn x < leAt b 0 1)) = false) → (s.chip.paired = true) → ∃ t, exec (.raiseSvn) s = .next t ∧ t.chip.host.served = true ∧ t.chip.host.awaitTwin = true ∧ t.chip.host.mbResult = 0 ∧ t.chip.fwu = s.chip.fwu ∧ t.chip.mram = s.chip.mram ∧ t.chip.sent = (s.chip.send (.chain (.mirror (.image 0x107 b)))).sent)
  ∧ (∀ (s : State) (b : Bytes), (s.chip.mbRequest 0x108 = some b) → (s.chip.fwu.swapping = false) → (s.chip.fwu.staging = true) → ∃ t, exec (.fwAbort) s = .next t ∧ t.chip.fwu.staging = false ∧ t.chip.rd R.FWU_OP pgFWU = 0 ∧ t.chip.host.served = true)
  ∧ (∀ (s : State) (b : Bytes), (s.chip.mbRequest 0x201 = some b) → (s.chip.on R.XSPI_BUSY pgXSPI = false) → (s.chip.fwuBusy = false) → ∃ t, exec (.cfgSave) s = .next t ∧ t.chip.host.served = true ∧ t.chip.host.mbResult = 0 ∧ t.mem = s.mem ∧ copyGen (if copyGen s.chip.flash.cfgA ≤ copyGen s.chip.flash.cfgB then t.chip.flash.cfgA else t.chip.flash.cfgB) = max (copyGen s.chip.flash.cfgA) (copyGen s.chip.flash.cfgB) + 1)

/-- An activation pauses, resumes, settles and is copied, the mailbox completes, laws swap kernels, a self-check ends. The rows of an activation and of a kernel swap, the completion of a mailbox request, and the end of an engine's self-check. Each clause holds under the conditions that it names. (R169, R181, R471, R493, R496, R497, R498, R500) -/
def Obligations.ActivationRowsAct : Prop :=
  (∀ (s : State), (s.chip.fwu.activating = true) → (s.chip.fwu.paused = false) → (s.chip.fwu.settling = false) → (s.chip.fwu.reverting = false) → (s.chip.fwu.turn = 1 ∨ s.chip.fwu.turn = 3 ∨ (s.chip.fwu.turn = 0 ∧ s.chip.solo = true)) → ∃ t, exec (.activationPause) s = .next t ∧ t.chip.fwu.paused = true ∧ t.chip.fwu.pauseAt = s.chip.now ∧ t.chip.armed (tmKey tmResume 0) = true ∧ t.chip.rd R.FWU_OP pgFWU = 3)
  ∧ (∀ (s : State), (s.chip.fwu.paused = true) → (s.chip.fwu.reverting = false) → ∃ t, exec (.pauseEnd) s = .next t ∧ t.chip.fwu.paused = false ∧ t.chip.fwu.settling = true ∧ mapGet t.chip.timers (tmKey tmSettle 0) 0 = s.chip.now + dqS + 1 ∧ t.chip.rd R.FWU_OP pgFWU = 4)
  ∧ (∀ (s : State), (s.chip.fwu.paused = true) → (s.chip.fwu.reverting = true) → ∃ t, exec (.pauseEnd) s = .next t ∧ t.chip.fwu.paused = false ∧ t.chip.fwu.activating = false ∧ t.chip.flash.rejected = true ∧ t.chip.rd R.FWU_RESULT pgFWU = 0xB ∧ t.chip.rd R.FWU_OP pgFWU = 0)
  ∧ (∀ (s : State), (s.chip.due (tmKey tmSettle 0) = true) → (s.chip.fwu.settling = true) → ∃ t, exec (.settleEnd) s = .next t ∧ t.chip.fwu.settling = false ∧ t.chip.fwu.copying = selTypes s.chip.fwu.sel ∧ t.chip.fwu.turn = (if s.chip.fwu.turn == 3 || !s.chip.paired then 0 else 2) ∧ t.chip.rd R.FWU_OP pgFWU = 5)
  ∧ (∀ (s : State), (s.chip.fwu.copying ≠ []) → ∃ t, exec (.activeCopyDone) s = .next t ∧ t.chip.fwu.copying = [] ∧ t.chip.flash.active = ctCopy s.chip.flash.active (s.chip.flash.staged.filter (fun b => s.chip.fwu.copying.contains (ctType b))) ∧ t.chip.flash.pending = false ∧ t.chip.mram.activeBad = false ∧ t.chip.rd R.FWU_OP pgFWU = 0)
  ∧ (∀ (s : State), (s.chip.due (tmKey tmResume 0) = true) → (s.chip.fwu.paused = true) → (s.chip.fwu.reverting = false) → ∃ t, exec (.resumeTimeout) s = .next t ∧ t.chip.fwu.reverting = true ∧ t.chip.rd R.FWU_OP pgFWU = 7 ∧ t.chip.armed (tmKey tmResume 0) = true)
  ∧ (∀ (s : State) (k : Nat) (b : Bytes), (s.chip.host.posted = some (k, b)) → (s.chip.services = true) → (s.chip.host.served = true) → (s.chip.host.awaitTwin = false ∨ s.chip.paired = false) → ∃ t, exec (.mailboxCompletion) s = .next t ∧ t.chip.host.posted = none ∧ t.chip.host.mbDone = true ∧ t.chip.host.mbCode = 0 ∧ t.chip.host.rsp = leBytes (if s.chip.host.awaitTwin && twinFirst k then 0xC else s.chip.host.mbResult) 2)
  ∧ (∀ (s : State) (k n : Nat) (b : Bytes), (s.chip.host.posted = some (k, b)) → (s.chip.services = true) → (s.chip.host.served = false) → (s.chip.mbRefuse k b = some n) → ∃ t, exec (.mailboxCompletion) s = .next t ∧ t.chip.host.posted = none ∧ t.chip.host.mbDone = true ∧ t.chip.host.mbCode = n ∧ t.chip.host.rsp = [])
  ∧ (∀ (s : State) (e : Engine) (k : TSlot), (s.chip.fwu.swapping = true) → (s.chip.rd R.FWU_OP pgFWU = 6) → (s.chip.fwu.swapTick = none ∨ s.chip.fwu.swapBack = true) → (s.chip.nextToMove = some (e.val, k.val)) → (s.chip.paired = true) → (s.chip.leads = true) → (s.chip.twin.agree.any (fun a => a.item == .swapLaw e k s.chip.fwu.swapBack) = false) → ∃ t, exec (.kernelSwapLaw e k) s = .next t ∧ t.chip.twin.agree = s.chip.twin.agree ++ [{ x := max (s.chip.boundaryFrom e.val k.val (s.chip.tick + 8)) (s.chip.tick + 8), item := .swapLaw e k s.chip.fwu.swapBack, acked := false, mine := true }] ∧ t.chip.engines = s.chip.engines)
  ∧ (∀ (s : State) (e : Engine) (k : TSlot), (s.chip.fwu.swapping = true) → (s.chip.rd R.FWU_OP pgFWU = 6) → (s.chip.fwu.swapTick = none ∨ s.chip.fwu.swapBack = true) → (s.chip.nextToMove = some (e.val, k.val)) → (s.chip.paired = false) → (s.chip.slotBoundary e.val k.val = true) → ∃ t, exec (.kernelSwapLaw e k) s = .next t ∧ t = s.onChip (fun c => c.moveLaw e.val k.val))
  ∧ (∀ (s : State) (e : Engine) (v : LaneOps), (s.chip.on R.CE_SELFTEST_BUSY (pgCE e.val) = true) → (vectorsFull v = true) → ((s.chip.eng e.val).flips = []) → ((s.chip.lanes e.val 3 v).2 = false) → ∃ t, exec (.ceSelftestDone e ⟨[], v⟩) s = .next t ∧ t.chip.rd R.CE_SELFTEST_BUSY (pgCE e.val) = 0 ∧ t.chip.rd R.CE_SELFTEST_FAIL (pgCE e.val) = 0 ∧ (t.chip.eng e.val).scrub = 0)
  ∧ (∀ (s : State) (e : Engine) (v : LaneOps), (s.chip.on R.CE_SELFTEST_BUSY (pgCE e.val) = true) → (vectorsFull v = true) → ((s.chip.eng e.val).flips = []) → ((s.chip.lanes e.val 3 v).2 = true) → ∃ t, exec (.ceSelftestDone e ⟨[], v⟩) s = .next t ∧ t.chip.rd R.CE_SELFTEST_BUSY (pgCE e.val) = 0 ∧ t.chip.rd R.CE_SELFTEST_FAIL (pgCE e.val) = 1)
  ∧ (∀ (s : State) (e : Engine) (us : Upsets) (v : LaneOps) (g : EngSt), (s.chip.on R.CE_SELFTEST_BUSY (pgCE e.val) = true) → (vectorsFull v = true) → ((s.chip.upset e.val us).eng e.val = g) → (g.doubleIn (g.flips.map (fun x => x.1)) = true) → ∃ t, exec (.ceSelftestDone e ⟨us, v⟩) s = .next t ∧ t.chip.rd R.CE_SELFTEST_BUSY (pgCE e.val) = 0 ∧ t.chip.rd R.CE_SELFTEST_FAIL (pgCE e.val) = 1)

/-- The PCIe endpoint, DMA, IIC1, the counter snapshot and the debug port act. Link and configuration of the endpoint, the end of a DMA transfer and of an IIC1 transaction, the snapshot and the debug commands. Each clause holds under the conditions that it names. (R466, R469, R472, R473, R480, R481, R509, R511, R512, R513) -/
def Obligations.HostInterfaceCommandsAct : Prop :=
  (∀ (s : State), ∃ t, exec (.pciePerst) s = .next t ∧ t.chip.host.perstLow = true ∧ t.chip.host.masked = 0xFFFFFFFFFFFFFFFF ∧ t.chip.host.pba = 0 ∧ t.chip.on R.HOST_LINK_UP pgHOST = false ∧ t.chip.on R.HOST_BME pgHOST = false)
  ∧ (∀ (s : State) (w v : Nat), (s.chip.hostUp = true) → (w = 1 ∨ w = 2 ∨ w = 4) → (1 ≤ v) → (v ≤ 4) → ∃ t, exec (.pcieLinkUp w v) s = .next t ∧ t.chip.rd R.HOST_LINK_UP pgHOST = 1 ∧ t.chip.rd R.HOST_WIDTH pgHOST = w ∧ t.chip.rd R.HOST_SPEED pgHOST = v ∧ t.chip.host.perstLow = false)
  ∧ (∀ (s : State), ∃ t, exec (.pcieLinkDown) s = .next t ∧ t.chip.on R.HOST_LINK_UP pgHOST = false)
  ∧ (∀ (s : State) (d m : Bool), (s.chip.on R.HOST_LINK_UP pgHOST = true) → ∃ t, exec (.pcieConfigWrite d m) s = .next t ∧ t.chip.on R.HOST_D3 pgHOST = d ∧ t.chip.on R.HOST_BME pgHOST = m)
  ∧ (∀ (s : State) (v : Vector64), (s.chip.on R.HOST_LINK_UP pgHOST = true) → ∃ t, exec (.msixVectorUnmask v) s = .next t ∧ t.chip.host.masked.getLsbD v.val = false)
  ∧ (∀ (s : State) (k : Chan) (e : Nat), (s.chip.rd R.HOST_STATE pgHOST k.val = 1) → (e = 0 ∨ e = 2 ∨ e = 3 ∨ e = 4) → ∃ t, exec (.dmaComplete k e) s = .next t ∧ t.chip.rd R.HOST_STATE pgHOST k.val = (if e = 0 then 2 else 3) ∧ t.chip.rd R.HOST_ERR pgHOST k.val = e ∧ (e = 0 → t.chip.rd R.HOST_DONE_BYTES pgHOST k.val = s.chip.rd R.HOST_LEN pgHOST k.val))
  ∧ (∀ (s : State) (e : Nat) (rx : Bytes), (s.chip.on R.IIC_BUSY pgIIC1 = true) → (e ≤ 6 ∨ (e = 7 ∧ s.chip.on R.IIC_PEC_EN pgIIC1 = true)) → ((e ≠ 1 ∧ e ≠ 3) ∨ s.chip.rd R.IIC_RETRY pgIIC1 ≤ s.chip.rd R.IIC_TRIES pgIIC1) → ∃ t, exec (.iic1Done e rx) s = .next t ∧ t.chip.rd R.IIC_BUSY pgIIC1 = 0 ∧ t.chip.rd R.IIC_ERR pgIIC1 = e ∧ bitOf (t.chip.rd R.EVT_LATCH pgIIC1) (if e = 0 then 0 else 1) = true)
  ∧ (∀ (s : State) (e : Nat) (rx : Bytes), (s.chip.on R.IIC_BUSY pgIIC1 = true) → (e = 1 ∨ e = 3) → (s.chip.rd R.IIC_TRIES pgIIC1 < s.chip.rd R.IIC_RETRY pgIIC1) → ∃ t, exec (.iic1Done e rx) s = .next t ∧ t.chip.rd R.IIC_TRIES pgIIC1 = s.chip.rd R.IIC_TRIES pgIIC1 + 1 ∧ t.chip.rd R.IIC_BUSY pgIIC1 = s.chip.rd R.IIC_BUSY pgIIC1)
  ∧ (∀ (s : State), (s.chip.snap.pend = true) → (s.chip.snap.tick ≤ s.chip.tick) → ∃ t, exec (.snapTake) s = .next t ∧ t.chip.snap.pend = false ∧ t.chip.snap.copy = s.chip.regs.filter (fun e => pmcKey e.1) ∧ t.chip.regs = s.chip.regs)
  ∧ (∀ (s : State), (s.chip.on R.PMC_BUSY pgPMC = true) → (s.chip.snap.pend = false) → ∃ t, exec (.snapDone) s = .next t ∧ t.chip.snap.shown = s.chip.snap.copy ∧ t.chip.rd R.PMC_BUSY pgPMC = 0 ∧ t.chip.rd R.PMC_CNT_SNAP pgPMC = (s.chip.rd R.PMC_CNT_SNAP pgPMC + 1) % 2 ^ 32)

/-- The debug port challenges, unlocks, halts, steps and resumes MGMT, and drives pins. The challenge and its response, the commands of DBG_CTRL with their CONSUME, and EXTEST. Each clause holds under the conditions that it names. (R364, R365, R511, R512, R513, R514) -/
def Obligations.DebugCommandsAct : Prop :=
  (∀ (s : State) (b : Bytes), (s.chip.plumbRuns = true) → ∃ t, exec (.dbgChallenge b) s = .next t ∧ t.chip.dbg.challenge = some (leBytes s.chip.mram.deviceId.toNat 8 ++ sliceBytes b 0 32) ∧ t.chip.sent = Out.debug (leBytes s.chip.mram.deviceId.toNat 8 ++ sliceBytes b 0 32) :: s.chip.sent)
  ∧ (∀ (s : State) (b ch : Bytes), (s.chip.plumbRuns = true) → (s.chip.dbg.challenge = some ch) → (s.chip.dbg.fails < 3) → ∃ t, exec (.dbgResponse b) s = .next t ∧ t.chip.dbg.challenge = none ∧ t.chip.rd R.SEC_DEBUG_UNLOCKED pgSEC = (if (upTo 4).any (fun k => !s.chip.mram.revoked.getLsbD k && Config.responseValid k ch b) then 1 else s.chip.rd R.SEC_DEBUG_UNLOCKED pgSEC) ∧ t.chip.dbg.fails = s.chip.dbg.fails + (if (upTo 4).any (fun k => !s.chip.mram.revoked.getLsbD k && Config.responseValid k ch b) then 0 else 1))
  ∧ (∀ (s : State) (b : Bytes), (3 ≤ s.chip.dbg.fails) → ∃ t, exec (.dbgResponse b) s = .next t ∧ t = s)
  ∧ (∀ (s : State), (s.chip.unlocked = true) → (s.chip.plumb.mgmtUp = true) → (s.chip.plumb.mgmtHalt = false) → (s.chip.plumb.mgmtFail = false) → (s.chip.fwu.paused = false) → ∃ t, exec (.dbgHalt) s = .next t ∧ t.chip.plumb.mgmtHalt = true ∧ t.chip.rd R.TWIN_DEBUG_HOLD pgTWIN = 1 ∧ t.chip.sent = (s.chip.send (.chain .debugHold)).sent)
  ∧ (∀ (s : State), (s.chip.unlocked = true) → (s.chip.plumb.mgmtUp = true) → (s.chip.plumb.mgmtHalt = false) → (s.chip.plumb.mgmtFail = false) → (s.chip.fwu.paused = true) → ∃ t, exec (.dbgHalt) s = .next t ∧ t.chip.plumb.haltReq = true ∧ t.chip.plumb.mgmtHalt = false)
  ∧ (∀ (s : State), (s.chip.unlocked = true) → (s.chip.plumb.mgmtHalt = true) → ∃ t, exec (.dbgStep) s = .next t ∧ t.chip.dbg.steps = s.chip.dbg.steps + 1)
  ∧ (∀ (s : State), (s.chip.unlocked = true) → (s.chip.plumb.mgmtHalt = true) → ∃ t, exec (.dbgResume) s = .next t ∧ t.chip.plumb.mgmtHalt = false ∧ t.chip.rd R.TWIN_DEBUG_HOLD pgTWIN = 0)
  ∧ (∀ (s : State) (b : Bytes), (s.chip.sendsCmd = false) → ∃ t, exec (.extest b) s = .next t ∧ t.chip.dbg.pins = b)
  ∧ (∀ (s : State) (b : Bytes), (s.chip.sendsCmd = true) → ∃ t, exec (.extest b) s = .next t ∧ t = s)

/-- Register accesses act as access codes and the pairing of words say. Writes that P0 makes through BAR0 and that this chip takes alone, reads of wide and of read-to-clear registers, ownership, event latches and counter selection. Each clause holds under the conditions that it names. (R4, R5, R7, R13, R18, R507) -/
def Obligations.RegisterAccessActs : Prop :=
  (∀ (s : State) (v : Word), (s.takesAlone (pgTHM + 0x1C) v.toNat = true) → ∃ t, exec (.registerWrite .bar0 (BitVec.ofNat 32 (pgTHM + 0x1C)) v 15) s = .next t ∧ t.chip.rd R.EVT_IRQEN pgTHM = v.toNat &&& 7)
  ∧ (∀ (s : State) (v : Word), (s.takesAlone (pgARB + 0x100) v.toNat = true) → (256 ≤ v.toNat % 65536) → ∃ t, exec (.registerWrite .bar0 (BitVec.ofNat 32 (pgARB + 0x100)) v 15) s = .next t ∧ t.chip.rd R.ARB_MAX_HOLD pgARB = v.toNat % 65536)
  ∧ (∀ (s : State), (s.chip.reaches .bar0 (pgDATUM + 0x100) = true) → ∃ t, exec (.wideLowRead .bar0 (BitVec.ofNat 32 (pgDATUM + 0x100)) 15) s = .next t ∧ (t.chip.path 0).rdata = BitVec.ofNat 32 (s.chip.datum % 2 ^ 32) ∧ (t.chip.path 0).shadow = some (pgDATUM + 0x104, BitVec.ofNat 32 (s.chip.datum / 2 ^ 32 % 2 ^ 32)) ∧ (t.chip.path 0).held = none)
  ∧ (∀ (s : State) (w : Word), (s.chip.reaches .bar0 (pgDATUM + 0x104) = true) → ((s.chip.path 0).shadow = some (pgDATUM + 0x104, w)) → ∃ t, exec (.wideHighRead .bar0 (BitVec.ofNat 32 (pgDATUM + 0x104)) 15) s = .next t ∧ (t.chip.path 0).rdata = w ∧ (t.chip.path 0).shadow = none)
  ∧ (∀ (s : State) (v : Word), (s.takesAlone (pgPMC + 0x104) v.toNat = true) → ∃ t, exec (.wideLowWrite .bar0 (BitVec.ofNat 32 (pgPMC + 0x104)) v 15) s = .next t ∧ (t.chip.path 0).held = some (pgPMC + 0x104, v) ∧ t.chip.regs = s.chip.regs)
  ∧ (∀ (s : State) (v lo : Word), (s.chip.reaches .bar0 (pgPMC + 0x108) = true) → (s.chip.writeBarred 0 (pgPMC + 0x108) v.toNat = false) → ((s.chip.path 0).held = some (pgPMC + 0x104, lo)) → (s.chip.rd R.TWIN_STATE pgTWIN = 1) → (s.chip.rd R.TWIN_JOIN_PHASE pgTWIN = 0) → ∃ t, exec (.wideHighWrite .bar0 (BitVec.ofNat 32 (pgPMC + 0x108)) v 15) s = .next t ∧ t.chip.rd R.PMC_SNAP_TICK_LO pgPMC = lo.toNat ∧ t.chip.rd R.PMC_SNAP_TICK_HI pgPMC = v.toNat ∧ (t.chip.path 0).held = none)
  ∧ (∀ (s : State) (v : Word), (s.takesAlone (pgPMC + 0x108) v.toNat = true) → ∃ t, exec (.wideHighWrite .bar0 (BitVec.ofNat 32 (pgPMC + 0x108)) v 15) s = .next t ∧ t.chip = s.chip)
  ∧ (∀ (s : State) (p : Part), (s.chip.reaches .bar0 (pgARB + R.ARB_MAX_WAIT.off + R.ARB_MAX_WAIT.stride * p.val) = true) → ∃ t, exec (.rcRead .bar0 (BitVec.ofNat 32 (pgARB + R.ARB_MAX_WAIT.off + R.ARB_MAX_WAIT.stride * p.val)) 15) s = .next t ∧ t.chip.rd R.ARB_MAX_WAIT pgARB p.val = 0 ∧ (t.chip.path 0).rdata = BitVec.ofNat 32 (s.chip.regWord .arb 0 (R.ARB_MAX_WAIT.off + R.ARB_MAX_WAIT.stride * p.val) 0))
  ∧ (∀ (s : State) (p : Port) (v : Word), (s.takesAlone (pgSP p.val + 8) v.toNat = true) → (s.chip.on R.PG_LOCKED (pgSP p.val) = false) → (v.toNat % 8 ≠ s.chip.owner (pgSP p.val)) → (s.chip.ownerBusy .sp p.val = false) → ∃ t, exec (.pgOwnerWrite .bar0 (BitVec.ofNat 32 (pgSP p.val)) v 15) s = .next t ∧ t.chip.owner (pgSP p.val) = v.toNat % 8 ∧ t.chip.on R.PG_LOCKED (pgSP p.val) = bitOf v.toNat 31)
  ∧ (∀ (s : State) (p : Port) (v : Word), (s.takesAlone (pgSP p.val + 0x18) v.toNat = true) → ∃ t, exec (.pgEvtLatchWrite .bar0 (BitVec.ofNat 32 (pgSP p.val)) v 15) s = .next t ∧ t.chip.rd R.EVT_LATCH (pgSP p.val) = (s.chip.rd R.EVT_LATCH (pgSP p.val) - (s.chip.rd R.EVT_LATCH (pgSP p.val) &&& v.toNat)) % 2 ^ 32)
  ∧ (∀ (s : State) (p : Port) (j : Chan) (v : Word), (s.takesAlone (pgSP p.val + (0x40 + 4 * j.val)) v.toNat = true) → (s.chip.rd R.PMC_EVENT (pgSP p.val) j.val ≠ v.toNat % 65536) → ∃ t, exec (.pmcSelWrite .bar0 (BitVec.ofNat 32 (pgSP p.val)) j v 15) s = .next t ∧ t = s.onChip (fun c => (c.putWord .sp (pgSP p.val) (0x40 + 4 * j.val) v.toNat).wr R.PMC_CNT (pgSP p.val) 0 j.val))
  ∧ (∀ (s : State) (a : Nat) (v : Word), (a < 0x100000) → (s.chip.reaches .bar0 (0x400000 + 4 * a) = true) → (s.chip.rd R.TWIN_STATE pgTWIN = 1) → (s.chip.rd R.TWIN_JOIN_PHASE pgTWIN = 0) → ∃ t, exec (.descriptorAccess .bar0 (BitVec.ofNat 32 (0x400000 + 4 * a)) true v 15) s = .next t ∧ t.chip = s.chip ∧ t.mem = memSet (memSet (memSet (memSet s.mem (4 * a) (BitVec.ofNat 8 v.toNat)) (4 * a + 1) (BitVec.ofNat 8 (v.toNat / 256))) (4 * a + 2) (BitVec.ofNat 8 (v.toNat / 65536))) (4 * a + 3) (BitVec.ofNat 8 (v.toNat / 16777216)))
  ∧ (∀ (s : State) (a : Nat) (v : Word), (a < 0x100000) → (s.chip.reaches .bar0 (0x400000 + 4 * a) = true) → ∃ t, exec (.descriptorAccess .bar0 (BitVec.ofNat 32 (0x400000 + 4 * a)) false v 15) s = .next t ∧ t.mem = s.mem ∧ (t.chip.path 0).rdata = BitVec.ofNat 32 (maskBytes (memWord s.mem (4 * a)) 15))
  ∧ (∀ (s : State) (a v : Word), (s.chip.unlocked = true) → (s.chip.reaches .dbg (wordAddr a) = true) → ∃ t, exec (.dbgAccess a (.read false) v) s = .next t ∧ t.chip.dbg = { s.chip.dbg with consume := false } ∧ (t.chip.path 3).rdata = BitVec.ofNat 32 (s.busPeek .dbg (wordAddr a)) ∧ t.chip.regs = s.chip.regs ∧ t.mem = s.mem)
  ∧ (∀ (s : State) (k : Nat), (k < 0x20000) → (s.chip.reaches .bar0 (0x800000 + 64 * k) = true) → ∃ t, exec (.fbkWindowRead .bar0 (BitVec.ofNat 32 (0x800000 + 64 * k)) 15) s = .next t ∧ (t.chip.path 0).fbk = some (k, s.chip.fbSlot k))
  ∧ (∀ (s : State) (w : Hex) (r : FbRec), (w.val = 0) → (s.chip.reaches .bar0 (pgFBK + 0x840 + 4 * w.val) = true) → (s.chip.frNext 0 = some r) → ∃ t, exec (.frDataRead .bar0 w 15) s = .next t ∧ t.chip.fbk.latch = setAt s.chip.fbk.latch 0 (some r) ∧ t.chip.fbk.cursor = setAt s.chip.fbk.cursor 0 r.seq)

/-- Control registers of power, engines, ports and sections act when written. Writes by P0 through BAR0 that this chip takes alone: sequencer control, the reset key, discovery, safe actions, engine self-check, doorbells and cancels, PH_CTRL, FS_CFG and HU_CFG. Each clause holds under the conditions that it names. (R70, R71, R91, R133, R136, R169, R170, R176, R222, R239) -/
def Obligations.ControlBitsAct : Prop :=
  (∀ (s : State), (s.takesAlone (pgSEQ + 0x120) 1 = true) → (railsValid s.chip.railRegs = true) → ∃ t, exec (.seqSave .bar0 1 15) s = .next t ∧ t.chip.mram.seqSet = some s.chip.railRegs ∧ t.chip.plumb.newSet = some s.chip.railRegs)
  ∧ (∀ (s : State), (s.takesAlone (pgSEQ + 0x120) 2 = true) → (s.chip.rd R.SEQ_STATE pgSEQ = 3 ∨ s.chip.rd R.SEQ_STATE pgSEQ = 4) → ∃ t, exec (.seqRestart .bar0 2 15) s = .next t ∧ t = s.onChip (fun c => ((c.disarm (tmKey tmRetry 0)).up R.SEQ_ABORTS pgSEQ 0).seqStart))
  ∧ (∀ (s : State), (s.takesAlone (pgSYS + 0x104) 0xA5A5 = true) → (s.chip.plumb.key = 0) → ∃ t, exec (.resetKeyWrite .bar0 0xA5A5 15) s = .next t ∧ t.chip.plumb.key = 1 ∧ mapGet t.chip.timers (tmKey tmKeyReset 0) 0 = s.chip.now + dqMs + 1)
  ∧ (∀ (s : State), (s.takesAlone (pgSYS + 0x104) 0x5A5A = true) → (s.chip.plumb.key = 1) → ∃ t, exec (.resetKeyWrite .bar0 0x5A5A 15) s = .next t ∧ t.chip.plumb.key = 0 ∧ mapGet t.chip.timers (tmKey tmResetBegin 0) 0 = s.chip.now + 10 * dqUs + 1)
  ∧ (∀ (s : State) (p : Port) (v : Word), (s.takesAlone (pgSP p.val + 0x100) v.toNat = true) → (bitOf v.toNat 3 = true) → (v.toNat % 4 = s.chip.safeAct p.val) → ∃ t, exec (.discStart .bar0 p v 15) s = .next t ∧ (t.chip.port p.val).attempts = 0 ∧ (t.chip.port p.val).req = none ∧ (t.chip.port p.val).cfgQ = [] ∧ (t.chip.port p.val).announce = none ∧ t.chip.rd R.SP_TYPE_VALID (pgSP p.val) = 0)
  ∧ (∀ (s : State) (p : Port) (v : Word), (s.takesAlone (pgSP p.val + 0x100) v.toNat = true) → (bitOf v.toNat 3 = false) → (v.toNat % 4 ≠ s.chip.safeAct p.val) → ((s.chip.port p.val).announce = none) → ((s.chip.port p.val).cfgDone = false) → ∃ t, exec (.safeActWrite .bar0 p v 15) s = .next t ∧ t.chip.safeAct p.val = v.toNat % 4 ∧ t.chip.rd R.SP_AUTO_DISC (pgSP p.val) = b2n (bitOf v.toNat 2))
  ∧ (∀ (s : State) (e : Engine), (s.takesAlone (pgCE e.val + 0x108) 1 = true) → ((s.chip.eng e.val).up = true) → (s.chip.takesWork (pgCE e.val) = true) → (s.chip.on R.CE_SELFTEST_BUSY (pgCE e.val) = false) → ∃ t, exec (.ceSelftestStart .bar0 e 1 15) s = .next t ∧ t.chip.rd R.CE_SELFTEST_BUSY (pgCE e.val) = 1)
  ∧ (∀ (s : State) (e : Engine) (h : Bool) (v : Word), (s.takesAlone (pgCE e.val + (if h then 0x110 else 0x10C)) v.toNat = true) → ∃ t, exec (.ceDoorbell .bar0 e h v 15) s = .next t ∧ t = s.onChip (fun c => c.doorbell e.val h v.toNat))
  ∧ (∀ (s : State) (e : Engine) (h : Bool) (v : Word), (s.takesAlone (pgCE e.val + (if h then 0x118 else 0x114)) v.toNat = true) → ∃ t, exec (.ceCancel .bar0 e h v 15) s = .next t ∧ t = s.onChip (fun c => c.cancelSlots e.val (if h then 32 else 0) v.toNat))
  ∧ (∀ (s : State) (p : Port), (s.takesAlone (pgSP p.val + 0x180) 1 = true) → (s.chip.ph p.val = 4) → ∃ t, exec (.phCtrlClear .bar0 p 1 15) s = .next t ∧ t = s.onChip (fun c => c.phStart p.val))
  ∧ (∀ (s : State) (p : Port), (s.takesAlone (pgSP p.val + 0x180) 1 = true) → (s.chip.ph p.val = 5) → ∃ t, exec (.phCtrlClear .bar0 p 1 15) s = .next t ∧ t = s.onChip (fun c => (c.modPort p.val (fun t => { t with clearReq := true })).sendClear p.val))
  ∧ (∀ (s : State) (k : Sec) (v : Word), (s.takesAlone (pgFELT + (0x200 + 0x40 * k.val)) v.toNat = true) → ∃ t, exec (.fsCfgWrite .bar0 k v 15) s = .next t ∧ t.chip.on R.FELT_RATE_HALVED pgFELT k.val = false ∧ bitOf (t.chip.rd R.FELT_PENDING pgFELT) k.val = true)
  ∧ (∀ (s : State) (k : Sec), (s.takesAlone (pgHOLD + (0x200 + 0x40 * k.val)) 0 = true) → ∃ t, exec (.huCfgWrite .bar0 k 0 15) s = .next t ∧ t.chip.rd R.HOLD_EN pgHOLD k.val = 0 ∧ t.chip.rd R.HOLD_STATE pgHOLD k.val = s.chip.rd R.HOLD_STATE pgHOLD k.val ∧ t.chip.rdV R.HOLD_EN pgHOLD k.val = s.chip.rdV R.HOLD_EN pgHOLD k.val)

/-- Control registers of Crown, Gauge, feeders, calibration, the twin, the fabric, partitions and the ring act when written. Writes by P0 through BAR0 that this chip takes alone, or proposes to its twin as LEAD. Each clause holds under the conditions that it names. (R262, R270, R281, R287, R291, R332, R359, R366, R393, R406, R407, R415) -/
def Obligations.ServiceControlActs : Prop :=
  (∀ (s : State) (n : CNode) (w : Oct) (v : Word), (s.takesAlone (pgCROWN + (0x200 + 0x20 * n.val + 4 * w.val)) v.toNat = true) → (w.val = 1) → ∃ t, exec (.crownNodeWrite .bar0 n w v 15) s = .next t ∧ t.chip.rd R.CROWN_LIMIT_W pgCROWN n.val = v.toNat)
  ∧ (∀ (s : State) (n : Str) (v : Word), (s.takesAlone (pgGAUGE + (0x200 + 0x40 * n.val)) v.toNat = true) → (bitOf v.toNat 0 = false) → ∃ t, exec (.strCfgWrite .bar0 n v 15) s = .next t ∧ t.chip.rd R.GAUGE_VALID pgGAUGE n.val = 0)
  ∧ (∀ (s : State), (s.takesAlone (pgGAUGE + 0x100) 2 = true) → (∀ k < 8, s.chip.on R.HOLD_EN pgHOLD k = false) → ∃ t, exec (.hibEnter .bar0 2 15) s = .next t ∧ t.chip.plumb.hib = true ∧ t.chip.plumb.fenced = true ∧ t.chip.plumb.downWhy = 2 ∧ t.chip.rd R.PLUMB_HIBERNATING pgPLUMB = 1)
  ∧ (∀ (s : State) (p : Port) (v : Word), (s.takesAlone (pgSP p.val + 0x200) v.toNat = true) → (bitOf v.toNat 1 = false) → (s.chip.on R.SP_FD_EN (pgSP p.val) = false) → ((s.chip.putWord .sp (pgSP p.val) 0x200 v.toNat).on R.SP_FD_EN (pgSP p.val) = true) → ((s.chip.putWord .sp (pgSP p.val) 0x200 v.toNat).feederOk p.val = true) → ∃ t, exec (.feederEnable .bar0 p v 15) s = .next t ∧ t = s.onChip (fun c => ((c.putWord .sp (pgSP p.val) 0x200 v.toNat).fdEnable p.val).rewriteThresholds p.val))
  ∧ (∀ (s : State) (p : Port) (v : Word), (s.takesAlone (pgSP p.val + 0x200) v.toNat = true) → (bitOf v.toNat 1 = true) → (s.chip.on R.SP_FD_EN (pgSP p.val) = false) → ((s.chip.putWord .sp (pgSP p.val) 0x200 v.toNat).on R.SP_FD_EN (pgSP p.val) = false) → ∃ t, exec (.feederClear .bar0 p v 15) s = .next t ∧ t = s.onChip (fun c => (c.putWord .sp (pgSP p.val) 0x200 v.toNat).fdClear p.val))
  ∧ (∀ (s : State) (p : Port) (ch : Chan) (v : Word), (s.takesAlone (pgSP p.val + (0x300 + 0x20 * ch.val)) v.toNat = true) → (v.toNat % 8 < 5) → ∃ t, exec (.calCfgWrite .bar0 p ch v 15) s = .next t ∧ t.chip.rd R.SP_CAL_KIND (pgSP p.val) ch.val = v.toNat % 8)
  ∧ (∀ (s : State) (p : Port) (ch w : Chan) (v : Word), (s.takesAlone (pgSP p.val + (0x308 + 0x20 * ch.val + 4 * w.val)) v.toNat = true) → (w.val = 0) → (s.chip.rd R.SP_CAL_KIND (pgSP p.val) ch.val = 4) → ∃ t, exec (.calRefWrite .bar0 p ch w v 15) s = .next t ∧ t.chip.rd R.SP_CAL_GAIN (pgSP p.val) ch.val = v.toNat ∧ (s.chip.scaled p.val ch.val = true → t.chip.on R.SP_CAL_UNCAL (pgSP p.val) ch.val = false))
  ∧ (∀ (s : State), (s.takesAlone (pgTWIN + 0x100) 2 = true) → (s.chip.on R.TWIN_JOIN_FAIL pgTWIN = true) → ∃ t, exec (.twRejoin .bar0 2 15) s = .next t ∧ t.chip.rd R.TWIN_STATE pgTWIN = 2 ∧ t.chip.rd R.TWIN_JOIN_PHASE pgTWIN = 0 ∧ t.chip.rd R.TWIN_JOIN_FAIL pgTWIN = 0 ∧ t.chip.twin.joinFails = 0)
  ∧ (∀ (s : State), (s.chip.reaches .bar0 (pgTWIN + 0x100) = true) → (s.chip.writeBarred 0 (pgTWIN + 0x100) 1 = false) → ((s.chip.path 0).held = none) → (s.chip.paired = true) → (s.chip.leads = true) → ∃ t, exec (.twTraverse .bar0 1 15) s = .next t ∧ t = s.onChip (fun c => c.propose (.cfgWrite (BitVec.ofNat 32 (pgTWIN + 0x100)) 1)))
  ∧ (∀ (s : State), (s.takesAlone (pgFAB + 0x104) 1 = true) → (s.chip.takesWork pgFAB = true) → (s.chip.fabLead = true) → (s.chip.quietRefuses .a = false) → ∃ t, exec (.quietA .bar0 1 15) s = .next t ∧ t.chip.fab.quiet = some .a ∧ t.chip.fab.quietMine = true ∧ t.chip.fab.quietQ = (s.chip.fabDatum + 50 * dqMs) % 2 ^ 64)
  ∧ (∀ (s : State), (s.takesAlone (pgFAB + 0x104) 2 = true) → (s.chip.takesWork pgFAB = true) → (s.chip.fabLead = true) → (s.chip.quietRefuses .b = false) → ∃ t, exec (.quietB .bar0 2 15) s = .next t ∧ t.chip.fab.quiet = some .b ∧ t.chip.fab.quietMine = true ∧ t.chip.fab.quietQ = (s.chip.fabDatum + 50 * dqMs) % 2 ^ 64)
  ∧ (∀ (s : State) (p : Plane), (s.takesAlone (pgFAB + 0x104) 4 = true) → (s.chip.fabOn = true) → (s.chip.fab.quiet = some p) → (s.chip.fab.wake = false) → (s.chip.fab.quietCommit = false ∨ s.chip.sinceQ = none) → ∃ t, exec (.fabWake .bar0 4 15) s = .next t ∧ t.chip.fab.quiet = none ∧ t.chip.fab.asleep = false)
  ∧ (∀ (s : State) (p : Part) (v : Word), (s.takesAlone (pgPART + (0x200 + 0x10 * p.val)) v.toNat = true) → ∃ t, exec (.ptCfgWrite .bar0 p v 15) s = .next t ∧ t.chip.rd R.PART_WIN_EN pgPART p.val = v.toNat % 2 ∧ t.chip.rd R.PART_SESS_EN pgPART p.val = b2n (bitOf v.toNat 1))
  ∧ (∀ (s : State) (p : Part) (v : Word), (s.takesAlone (pgARB + (0x200 + 0x10 * p.val)) v.toNat = true) → (v.toNat % 1024 = 0) → ((upTo 8).foldl (fun n q => n + (if q = p.val then 0 else s.chip.rd R.ARB_CREDIT pgARB q)) 0 ≤ 1000) → ∃ t, exec (.creditWrite .bar0 p v 15) s = .next t ∧ t.chip.rd R.ARB_CREDIT pgARB p.val = 0)
  ∧ (∀ (s : State) (p : Part) (v : Word), (s.takesAlone (pgPART + (0x204 + 0x10 * p.val)) v.toNat = true) → (p.val ≠ 0) → (v.toNat % 2 ^ 17 ≤ 65536) → ((upTo 8).foldl (fun n q => n + (if q = 0 then 0 else if q = p.val then v.toNat % 2 ^ 17 else s.chip.rd R.PART_FBK_QUOTA pgPART q)) 0 ≤ 65536) → ∃ t, exec (.quotaWrite .bar0 p v 15) s = .next t ∧ t.chip.rd R.PART_FBK_QUOTA pgPART p.val = v.toNat % 2 ^ 17)
  ∧ (∀ (s : State) (w : Oct) (v : Word), (s.takesAlone (pgFCU + (0x600 + 4 * w.val)) v.toNat = true) → ∃ t, exec (.fcOutstandingClear .bar0 w v 15) s = .next t ∧ t = s.onChip (fun c => c.fcClear w.val v.toNat))
  ∧ (∀ (s : State), (s.takesAlone (pgFBK + 0x114) 0xA5A5 = true) → (s.chip.plumb.eraseKey = 0) → ∃ t, exec (.fbkEraseKey .bar0 0xA5A5 15) s = .next t ∧ t.chip.plumb.eraseKey = 1 ∧ mapGet t.chip.timers (tmKey tmKeyErase 0) 0 = s.chip.now + dqMs + 1)
  ∧ (∀ (s : State), (s.takesAlone (pgFBK + 0x114) 0x5A5A = true) → (s.chip.takesWork pgFBK = true) → (s.chip.plumb.eraseKey = 1) → ∃ t, exec (.fbkEraseKey .bar0 0x5A5A 15) s = .next t ∧ t.chip.plumb.eraseKey = 0 ∧ t.chip.fbk.erasing = true)
  ∧ (∀ (s : State) (k : Oct), (s.takesAlone (pgWCAP + (0x220 + 0x40 * k.val)) 1 = true) → (s.chip.takesWork pgWCAP = true) → (s.chip.rd R.WCAP_STATE pgWCAP k.val = 0) → (s.chip.rd R.WCAP_LEN pgWCAP k.val ≠ 0) → (s.chip.wcValid k.val = true) → (∀ j < 8, j ≠ k.val → s.chip.rd R.WCAP_STATE pgWCAP j = 0) → ∃ t, exec (.wcapArm .bar0 k 1 15) s = .next t ∧ t.chip.rd R.WCAP_STATE pgWCAP k.val = 1 ∧ (t.chip.wset k.val).armTick = s.chip.tick)
  ∧ (∀ (s : State) (k : Oct), (s.takesAlone (pgWCAP + (0x220 + 0x40 * k.val)) 2 = true) → (s.chip.rd R.WCAP_STATE pgWCAP k.val = 1) → ((s.chip.wset k.val).armTick < s.chip.tick) → ((s.chip.wset k.val).trig = false) → ∃ t, exec (.wcapTrigger .bar0 k 2 15) s = .next t ∧ (t.chip.wset k.val).trig = true ∧ (t.chip.wset k.val).trigTick = s.chip.tick ∧ (t.chip.wset k.val).trigDatum = s.chip.fabDatum)
  ∧ (∀ (s : State) (k : Oct), (s.takesAlone (pgWCAP + (0x220 + 0x40 * k.val)) 4 = true) → (s.chip.rd R.WCAP_STATE pgWCAP k.val = 1 ∨ s.chip.rd R.WCAP_STATE pgWCAP k.val = 2) → ∃ t, exec (.wcapAbort .bar0 k 4 15) s = .next t ∧ t.chip.rd R.WCAP_STATE pgWCAP k.val = 0 ∧ (t.chip.wset k.val).trig = false)
  ∧ (∀ (s : State) (k : Chan), (s.takesAlone (pgHOST + (0x210 + 0x20 * k.val)) 1 = true) → (s.chip.takesWork pgHOST = true) → (s.chip.rd R.HOST_STATE pgHOST k.val ≠ 1) → (s.chip.rd R.HOST_LEN pgHOST k.val ≠ 0) → (s.chip.dmaRange k.val = true) → (s.chip.hostCan = true) → ∃ t, exec (.dmaStart .bar0 k 1 15) s = .next t ∧ t.chip.rd R.HOST_STATE pgHOST k.val = 1 ∧ t.chip.rd R.HOST_DONE_BYTES pgHOST k.val = 0)
  ∧ (∀ (s : State), (s.takesAlone (pgIIC1 + 0x114) 0x80000000 = true) → (s.chip.takesWork pgIIC1 = true) → (s.chip.on R.IIC_BUSY pgIIC1 = false) → ∃ t, exec (.iic1Start .bar0 0x80000000 15) s = .next t ∧ t.chip.rd R.IIC_BUSY pgIIC1 = 1 ∧ t.chip.rd R.IIC_ERR pgIIC1 = 0)
  ∧ (∀ (s : State), (s.takesAlone (pgPMC + 0x100) 1 = true) → (s.chip.takesWork pgPMC = true) → (s.chip.on R.PMC_BUSY pgPMC = false) → (s.chip.tick < s.chip.snapTick) → ∃ t, exec (.snap .bar0 1 15) s = .next t ∧ t.chip.snap.pend = true ∧ t.chip.snap.tick = s.chip.snapTick ∧ t.chip.rd R.PMC_BUSY pgPMC = 1)

/-- The two-wire targets and the management sessions of the fabric act. Transactions of IIC0 and IIC2, the SCL timeout, the address match in hibernation, and the three management messages. Each clause holds under the conditions that it names. (R385, R474, R475, R478, R479) -/
def Obligations.TargetsAndSessionsAct : Prop :=
  (∀ (s : State) (g : Tgt) (b : Byte), (s.chip.tgtOn g = true) → (s.chip.on R.IIC_TGT_PEC_EN g.page = false) → ∃ t, exec (.iicTargetWrite g [b]) s = .next t ∧ (t.chip.tgt g).ptr = b.toNat ∧ t.chip.rd R.IIC_CNT g.page 0 = (s.chip.rd R.IIC_CNT g.page 0 + 1) % 2 ^ 32)
  ∧ (∀ (s : State) (g : Tgt) (bs : Bytes), (s.chip.tgtOn g = true) → (s.chip.on R.IIC_TGT_PEC_EN g.page = true) → ∃ t, exec (.iicTargetWrite g bs) s = .next t ∧ t = s.onChip (fun c => c.modTgt g (fun q => { q with pec := bs })))
  ∧ (∀ (s : State) (g : Tgt), (s.chip.tgtOn g = true) → ((s.chip.tgt g).ptr < 0x80) → ∃ t, exec (.iicTargetRead g 1) s = .next t ∧ (t.chip.tgt g).reads = [BitVec.ofNat 8 (s.chip.tgtByte g (s.chip.tgt g).ptr)] ∧ (t.chip.tgt g).ptr = (s.chip.tgt g).ptr + 1 ∧ t.chip.rd R.IIC_CNT g.page 0 = (s.chip.rd R.IIC_CNT g.page 0 + 1) % 2 ^ 32)
  ∧ (∀ (s : State) (g : Tgt) (x : Byte) (bs : Bytes), (s.chip.tgtOn g = true) → (s.chip.on R.IIC_TGT_PEC_EN g.page = true) → ((s.chip.tgt g).pec = bs ++ [x]) → (pec (BitVec.ofNat 8 (2 * s.chip.rd R.IIC_ADDR g.page) :: bs) ≠ x.toNat) → ∃ t, exec (.iicPecStop g) s = .next t ∧ (t.chip.tgt g).pec = [] ∧ (t.chip.tgt g).flags = (s.chip.tgt g).flags ||| 2 ∧ t.chip.rd R.IIC_CNT g.page 0 = (s.chip.rd R.IIC_CNT g.page 0 + 1) % 2 ^ 32)
  ∧ (∀ (s : State) (g : Tgt) (x : Byte) (bs : Bytes), (s.chip.tgtOn g = true) → (s.chip.on R.IIC_TGT_PEC_EN g.page = true) → ((s.chip.tgt g).pec = bs ++ [x]) → (pec (BitVec.ofNat 8 (2 * s.chip.rd R.IIC_ADDR g.page) :: bs) = x.toNat) → ∃ t, exec (.iicPecStop g) s = .next t ∧ t = ((s.onChip (fun c => c.modTgt g (fun q => { q with pec := [] }))).tgtWrite g bs).onChip (fun c => c.tgtDone g))
  ∧ (∀ (s : State) (g : Tgt), (s.chip.tgtOn g = true) → ∃ t, exec (.iicSclTimeout g) s = .next t ∧ (t.chip.tgt g).pec = [] ∧ (t.chip.tgt g).wr = [] ∧ t.chip.rd R.IIC_CNT g.page 1 = (s.chip.rd R.IIC_CNT g.page 1 + 1) % 2 ^ 32)
  ∧ (∀ (s : State) (n : Nat), (s.chip.plumbRuns = true) → (s.chip.on R.PLUMB_HIBERNATING pgPLUMB = true) → (n = s.chip.rd R.IIC_ADDR pgIIC2) → ∃ t, exec (.iic2AddrMatch n) s = .next t ∧ (t.chip.iic 1).stretch = true ∧ t.chip.armed (tmKey tmStretch 0) = true)
  ∧ (∀ (s : State), ((s.chip.iic 1).stretch = true) → ∃ t, exec (.iic2StretchEnd true) s = .next t ∧ (t.chip.iic 1).stretch = false ∧ t.chip.armed (tmKey tmStretch 0) = false)
  ∧ (∀ (s : State), ((s.chip.iic 1).stretch = true) → (s.chip.due (tmKey tmStretch 0) = true) → ∃ t, exec (.iic2StretchEnd false) s = .next t ∧ (t.chip.iic 1).stretch = false ∧ t.chip.rd R.IIC_CNT pgIIC2 2 = (s.chip.rd R.IIC_CNT pgIIC2 2 + 1) % 2 ^ 32)
  ∧ (∀ (s : State) (h : SurveyHdr) (pl : Bytes), (leAt pl 0 1 = 1) → (mgmtBad (leAt pl 4 4) (leAt pl 1 1) = true) → ∃ t, exec (.mgmtRead h pl) s = .next t ∧ ∃ c1 ok, s.chip.mgmtTake h pl false = (c1, ok) ∧ t = s.onChip (fun _ => if ok then c1.mgmtAnswer h 0 2 (leAt pl 4 4) [] else c1))
  ∧ (∀ (s : State) (h : SurveyHdr) (pl : Bytes), (leAt pl 0 1 = 1) → (leAt pl 1 1 = 1) → (mgmtBad (leAt pl 4 4) 1 = false) → ∃ t, exec (.mgmtRead h pl) s = .next t ∧ ∃ c1 ok s2 w bad, s.chip.mgmtTake h pl false = (c1, ok) ∧ ({ s with chip := c1 } : State).readWord (.mgmt h.part) (leAt pl 4 4) = (s2, w, bad) ∧ t = if ok then s2.onChip (fun c => c.mgmtAnswer h 1 (b2n bad) (leAt pl 4 4) (leBytes w 4)) else { s with chip := c1 })
  ∧ (∀ (s : State) (h : SurveyHdr) (pl : Bytes), (leAt pl 0 1 = 2) → (mgmtBad (leAt pl 4 4) (leAt pl 1 1) = false) → (leAt pl 1 1 = 1) → ∃ t, exec (.mgmtWrite h pl) s = .next t ∧ ∃ c1 ok bad, s.chip.mgmtTake h pl true = (c1, ok) ∧ t = if ok then (({ s with chip := c1 } : State).writeWord (.mgmt h.part) (leAt pl 4 4) (leAt pl 8 4) 15).onChip (fun c => c.mgmtAnswer h 1 (b2n bad) (leAt pl 4 4) []) else { s with chip := c1 })
  ∧ (∀ (s : State) (h : SurveyHdr) (pl : Bytes), (leAt pl 0 1 = 3) → ∃ t, exec (.mgmtResponse h pl) s = .next t ∧ ∃ c1 ok, s.chip.mgmtTake h pl false = (c1, ok) ∧ t.chip.fab.mgmtRsp = if ok then some (h.part.val, pl) else s.chip.fab.mgmtRsp)

/-- Commits, readback, agreed ticks and the phases of joining act. A descriptor commit taken or held, the readback refresh, the changes due at an agreed tick, and phase ends of a joining twin. Each clause holds under the conditions that it names. (R187, R192, R340, R357) -/
def Obligations.CommitAndAgreementAct : Prop :=
  (∀ (s : State) (p : Part), (commitGen s.mem p.val ≠ doneGen s.mem p.val) → (s.chip.plumb.mgmtUp = true) → (s.chip.plumb.mgmtHalt = false) → (s.chip.plumb.mgmtFail = false) → (s.chip.fwu.paused = false) → (s.chip.twin.commits.any (fun e => e.1 == p.val) = false) → (s.chip.rd R.TWIN_STATE pgTWIN = 1) → (s.chip.rd R.TWIN_JOIN_PHASE pgTWIN = 0) → ∃ t, exec (.descriptorCommit p) s = .next t ∧ t = commitRun s p.val)
  ∧ (∀ (s : State) (p : Part), (commitGen s.mem p.val ≠ doneGen s.mem p.val) → (s.chip.plumb.mgmtUp = true) → (s.chip.plumb.mgmtHalt = false) → (s.chip.plumb.mgmtFail = false) → (s.chip.fwu.paused = false) → (s.chip.twin.commits.any (fun e => e.1 == p.val) = false) → (s.chip.rd R.TWIN_STATE pgTWIN = 2) → ∃ t, exec (.descriptorCommit p) s = .next t ∧ p ∈ t.chip.twin.heldCommits ∧ t.mem = s.mem)
  ∧ (∀ (s : State), ∃ t, exec (.readbackRefresh) s = .next t ∧ t = refreshAll s)
  ∧ (∀ (s : State), (∀ a ∈ s.chip.twin.agree, a.acked = true → s.chip.tick < a.x) → ∃ t, exec (.agreedTick) s = .next t ∧ t = s)
  ∧ (∀ (s : State) (x : Nat) (a v : Word) (b : Bool), (s.chip.twin.agree = [{ x := x, item := .cfgWrite a v, acked := true, mine := b }]) → (x ≤ s.chip.tick) → ∃ t, exec (.agreedTick) s = .next t ∧ t = s.onChip (fun c => (c.modTwin (fun q => { q with agree := [] })).applyWord a.toNat v.toNat b true 0))
  ∧ (∀ (s : State) (x : Nat) (p : Port) (b : Bool), (s.chip.twin.agree = [{ x := x, item := .delegate p b, acked := true, mine := true }]) → (x ≤ s.chip.tick) → ∃ t, exec (.agreedTick) s = .next t ∧ (t.chip.port p.val).delegated = b ∧ t.chip.twin.agree = [])
  ∧ (∀ (s : State), (s.chip.rd R.TWIN_STATE pgTWIN = 2) → (s.chip.rd R.TWIN_JOIN_PHASE pgTWIN = 0) → (s.chip.twin.peer.isSome = true) → ∃ t, exec (.joinPhaseEnd) s = .next t ∧ t.chip.rd R.TWIN_JOIN_PHASE pgTWIN = 1 ∧ mapGet t.chip.timers (tmKey tmPhase 0) 0 = t.chip.now + 50 * dqMs + 1)
  ∧ (∀ (s : State), (s.chip.rd R.TWIN_STATE pgTWIN = 1) → (s.chip.rd R.TWIN_JOIN_PHASE pgTWIN = 2) → (s.chip.twin.peer.isSome = true) → ∃ t, exec (.joinPhaseEnd) s = .next t ∧ t.chip.rd R.TWIN_JOIN_PHASE pgTWIN = 3 ∧ mapGet t.chip.timers (tmKey tmPhase 0) 0 = t.chip.now + 300 * dqMs + 1)

/-- A step runs the command at the front of the queue. For every command c and state s whose queue is c followed by rest, a step of s is exec c of s with rest as its queue. How a queue is fed is the model's own form (log entry 3). (R1) -/
def Obligations.FrontCommandRuns : Prop :=
  ∀ (c : Instr) (rest : List Instr) (s : State), s.pending = c :: rest → step s = exec c { s with pending := rest }

/-- With no command waiting a step passes one tick. A step of a state with an empty queue answers the same state one tick later: the model clock is 400 dq on, both memories and the queue stand. That time passes on an idle step is the model's choice (log entry 2). (R24, R86) -/
def Obligations.IdleStepPassesOneTick : Prop :=
  ∀ (s : State), s.pending = [] → ∃ t, step s = .next t ∧ t.chip.now = s.chip.now + 400 ∧ t.mem = s.mem ∧ t.cap = s.cap ∧ t.pending = [] ∧ (s.chip.plumb.porst = true → t.chip.datum = s.chip.datum) ∧ (s.chip.plumb.porst = false → s.chip.plumb.stopped = false → s.chip.rd R.DATUM_RATE pgDATUM = 0 → s.chip.rateAcc = 0 → t.chip.datum = s.chip.datum + 400)

/-- Every command completes, and leaves the queue of waiting commands as it was. Whatever the command and the state, exec answers a next state, not a fault or a refusal, and that state has the queue it was given. (R1) -/
def Obligations.CommandsKeepTheQueue : Prop :=
  ∀ (c : Instr) (s : State), ∃ t, exec c s = .next t ∧ t.pending = s.pending

/-- Only named commands can change descriptor memory or capture SRAM. Every command for which keepsMemories holds leaves every byte of descriptor memory and of capture SRAM as it was; page registers, reads, frames, messages and timers are among them. (R185, R463) -/
def Obligations.CommandsKeepMemories : Prop :=
  ∀ (c : Instr) (s t : State), keepsMemories c = true → exec c s = .next t → t.mem = s.mem ∧ t.cap = s.cap

/-- Every step keeps both byte memories in canonical form. From every state whose descriptor memory and capture SRAM are in canonical form, not only from reset, every step that answers a next state answers one whose memories are in that form. (R185, R189, R463) -/
def Obligations.StepKeepsMemoriesCanonical : Prop :=
  ∀ (s t : State), s.canonical = true → step s = .next t → t.canonical = true

/-- The reset state has canonical memories and no command waiting. State.reset lists no byte of either memory, and its queue is empty. (R189, R463) -/
def Obligations.ResetIsCanonical : Prop :=
  State.reset.canonical = true ∧ State.reset.mem = [] ∧ State.reset.cap = [] ∧ State.reset.pending = []

/-- The registers read their reset values. At power-on reset: RESET_CAUSE names PORST; P0 alone has ring credit, 1,000; only window 0 is enabled; ARB MAX_HOLD and STARVE_LIMIT, the factory sequencer set (USED for n = 0 to 6, ORDER n, PG_WINDOW 10, DELAY 1, with no set stored in MRAM, log entry 12), and Datum 0. (R69, R86, R92, R406, R421) -/
def Obligations.ResetRegisterValues : Prop :=
  State.reset.chip.regWord .sys 0 0x108 0 = 1 ∧ (∀ p < 8, State.reset.chip.regWord .arb 0 (0x200 + 0x10 * p) 0 = (if p = 0 then 1000 else 0)) ∧ (∀ p < 8, State.reset.chip.regWord .part 0 (0x200 + 0x10 * p) 0 = (if p = 0 then 1 else 0)) ∧ State.reset.chip.regWord .arb 0 0x100 0 = 0x800 ∧ State.reset.chip.regWord .arb 0 0x104 0 = 0x10000 ∧ (∀ n < 8, State.reset.chip.regWord .seq 0 (0x100 + 4 * n) 0 = (if n < 7 then 1 else 0) + 2 * n + 2 ^ 4 * 10 + 2 ^ 11) ∧ State.reset.chip.datum = 0

/-- After every reset RESET_CAUSE has exactly the bit of its cause. The word of RESET_CAUSE after a power-on reset is PORST alone; after a reset by RESET_N, the key, the watchdog, a glitch, a thermal restart, an S3 fault or the boot timeout, the one bit of that cause. Where a record write is in progress Plumb holds the cause, and enters the reset with it when the write has ended (R90). (R92) -/
def Obligations.ResetCauseIsOneBit : Prop :=
  (∀ (s : State), ∃ t, exec .porstNAssert s = .next t ∧ t.chip.regWord .sys 0 0x108 0 = 1)
  ∧ (∀ (c : Chip) (n : Nat) (pin : Bool), n < 8 → c.plumb.rstWait = some (n, pin) → c.writeBusy = false → c.resetTick.regWord .sys 0 0x108 0 = 2 ^ n)
  ∧ (∀ (s : State) (n : Nat), (s.chip.plumb.porst = false) → (s.chip.plumb.stopped = false) → (s.chip.plumb.resetN = false) → (1000 ≤ n) → (s.chip.writeBusy = true) → (s.chip.plumb.rstWait = none) → ∃ t, exec (.resetNAssert n) s = .next t ∧ ∃ q, t.chip.plumb.rstWait = some (1, q))
  ∧ (∀ (s : State) (n : Nat), (s.chip.plumb.porst = false) → (s.chip.plumb.stopped = false) → (s.chip.plumb.resetN = false) → (1000 ≤ n) → (s.chip.writeBusy = false) → ∃ t, exec (.resetNAssert n) s = .next t ∧ t.chip.regWord .sys 0 0x108 0 = 2)
  ∧ (∀ (s : State), (s.chip.due (tmKey tmResetBegin 0) = true) → (s.chip.writeBusy = true) → (s.chip.plumb.rstWait = none) → ∃ t, exec (.keyResetStart) s = .next t ∧ ∃ q, t.chip.plumb.rstWait = some (2, q))
  ∧ (∀ (s : State), (s.chip.due (tmKey tmResetBegin 0) = true) → (s.chip.writeBusy = false) → ∃ t, exec .keyResetStart s = .next t ∧ t.chip.regWord .sys 0 0x108 0 = 4)
  ∧ (∀ (s : State), (s.chip.due (tmKey tmWdogRst 0) = true) → (s.chip.writeBusy = true) → (s.chip.plumb.rstWait = none) → ∃ t, exec (.watchdogReset) s = .next t ∧ ∃ q, t.chip.plumb.rstWait = some (3, q))
  ∧ (∀ (s : State), (s.chip.due (tmKey tmWdogRst 0) = true) → (s.chip.writeBusy = false) → ∃ t, exec .watchdogReset s = .next t ∧ t.chip.regWord .sys 0 0x108 0 = 8)
  ∧ (∀ (s : State), (s.chip.plumb.porst = false) → (s.chip.plumb.stopped = false) → (s.chip.writeBusy = true) → (s.chip.plumb.rstWait = none) → ∃ t, exec (.glitchDetect) s = .next t ∧ ∃ q, t.chip.plumb.rstWait = some (4, q))
  ∧ (∀ (s : State), (s.chip.plumb.porst = false) → (s.chip.plumb.stopped = false) → (s.chip.writeBusy = false) → ∃ t, exec .glitchDetect s = .next t ∧ t.chip.regWord .sys 0 0x108 0 = 16)
  ∧ (∀ (s : State), (s.chip.due (tmKey tmCool 0) = true) → (s.chip.plumb.thermal = true) → (s.chip.rd R.SEQ_STATE pgSEQ ≠ 2) → (s.chip.plumb.downPos = none) → (s.chip.on R.THM_SHUTDOWN_LOCK pgTHM = false) → (s.chip.writeBusy = true) → (s.chip.plumb.rstWait = none) → ∃ t, exec (.thermalRestart) s = .next t ∧ ∃ q, t.chip.plumb.rstWait = some (5, q))
  ∧ (∀ (s : State), (s.chip.due (tmKey tmCool 0) = true) → (s.chip.plumb.thermal = true) → (s.chip.rd R.SEQ_STATE pgSEQ ≠ 2) → (s.chip.plumb.downPos = none) → (s.chip.on R.THM_SHUTDOWN_LOCK pgTHM = false) → (s.chip.writeBusy = false) → ∃ t, exec .thermalRestart s = .next t ∧ t.chip.regWord .sys 0 0x108 0 = 32)
  ∧ (∀ (s : State), (s.chip.due (tmKey tmS3 0) = true) → (s.chip.on R.FCU_S3_HOLD pgFCU = false) → (s.chip.writeBusy = true) → (s.chip.plumb.rstWait = none) → ∃ t, exec (.s3ResetDelay) s = .next t ∧ ∃ q, t.chip.plumb.rstWait = some (6, q))
  ∧ (∀ (s : State), (s.chip.due (tmKey tmS3 0) = true) → (s.chip.on R.FCU_S3_HOLD pgFCU = false) → (s.chip.writeBusy = false) → ∃ t, exec .s3ResetDelay s = .next t ∧ t.chip.regWord .sys 0 0x108 0 = 64)
  ∧ (∀ (s : State), (s.chip.due (tmKey tmBoot 0) = true) → (s.chip.rd R.SYS_STEP pgSYS < 5) → (s.chip.writeBusy = true) → (s.chip.plumb.rstWait = none) → ∃ t, exec (.bootTimeout) s = .next t ∧ ∃ q, t.chip.plumb.rstWait = some (7, q))
  ∧ (∀ (s : State), (s.chip.due (tmKey tmBoot 0) = true) → (s.chip.rd R.SYS_STEP pgSYS < 5) → (s.chip.writeBusy = false) → ∃ t, exec .bootTimeout s = .next t ∧ t.chip.regWord .sys 0 0x108 0 = 128)

/-- A write of PG_OWNER with LOCKED takes the new owner and then locks. On the pages whose owner can change (SPn and CEn), unlocked and not in use: after the write OWNER is the written one and LOCKED is 1. (R14) -/
def Obligations.OwnerWriteThenLocks : Prop :=
  ∀ (s : State) (p : Path) (k : PageKind) (n : Nat) (v : Word), ((k = .sp ∧ n < 192) ∨ (k = .ce ∧ n < 128)) → s.takesWrite p (pageBase k n + 8) v.toNat = true → s.chip.on R.PG_LOCKED (pageBase k n) = false → s.chip.ownerBusy k n = false → v.toNat % 8 ≠ s.chip.owner (pageBase k n) → v.getLsbD 31 = true → ∃ t, exec (.pgOwnerWrite p (BitVec.ofNat 32 (pageBase k n)) v 15) s = .next t ∧ t.chip.owner (pageBase k n) = v.toNat % 8 ∧ t.chip.on R.PG_LOCKED (pageBase k n) = true

/-- CREDIT is taken or refused by its value and the sum, and governs tier and window. A written CREDIT of 1 to 127, or one that brings the sum over all partitions above 1,000, changes no CREDIT and latches CFG_REJECT; any other is stored. The credit of the running window stands until the next window start, which takes every CREDIT. A partition without credit has no tier-1 request. (R415) -/
def Obligations.CreditWriteRule : Prop :=
  (∀ (s : State) (p : Path) (q : Part) (v : Word), s.takesWrite p (pgARB + (0x200 + 0x10 * q.val)) v.toNat = true → ((1 ≤ v.toNat % 1024 ∧ v.toNat % 1024 ≤ 127) ∨ 1000 < (upTo 8).foldl (fun n j => n + (if j = q.val then v.toNat % 1024 else s.chip.rd R.ARB_CREDIT pgARB j)) 0) → ∃ t, exec (.creditWrite p q v 15) s = .next t ∧ (∀ j < 8, t.chip.rd R.ARB_CREDIT pgARB j = s.chip.rd R.ARB_CREDIT pgARB j) ∧ bitOf (t.chip.rd R.EVT_LATCH pgARB) 3 = true ∧ t.chip.arb = s.chip.arb)
  ∧ (∀ (s : State) (p : Path) (q : Part) (v : Word), s.takesWrite p (pgARB + (0x200 + 0x10 * q.val)) v.toNat = true → (v.toNat % 1024 = 0 ∨ 128 ≤ v.toNat % 1024) → (upTo 8).foldl (fun n j => n + (if j = q.val then v.toNat % 1024 else s.chip.rd R.ARB_CREDIT pgARB j)) 0 ≤ 1000 → ∃ t, exec (.creditWrite p q v 15) s = .next t ∧ (∀ j < 8, t.chip.rd R.ARB_CREDIT pgARB j = (if j = q.val then v.toNat % 1024 else s.chip.rd R.ARB_CREDIT pgARB j)) ∧ t.chip.arb = s.chip.arb)
  ∧ (∀ (s : State), s.chip.datum % 8000 = 0 → s.chip.armed (tmKey tmCredit 0) = false → ∃ t, exec .creditWindowStart s = .next t ∧ ∀ p < 8, t.chip.credit p = s.chip.rd R.ARB_CREDIT pgARB p)
  ∧ (∀ (s : State) (x : RingQ) (n : Nat) (ns : List Nat), x.xfers = n :: ns → 1 ≤ n → s.chip.credit x.part = 0 → s.chip.tier1 x = false)

/-- Under PEC a two-wire write is applied at its STOP, when its PEC is right. A write with PEC_EN set is held and changes nothing else. At its STOP a right PEC, over the address and every byte before it, applies the bytes and counts the transaction; a wrong one applies nothing and sets PEC_ERR. A read returns the bytes asked for and no PEC. (R478) -/
def Obligations.PecTransactionRule : Prop :=
  (∀ (s : State) (g : Tgt) (bs : Bytes), s.chip.tgtOn g = true → s.chip.on R.IIC_TGT_PEC_EN g.page = true → ∃ t, exec (.iicTargetWrite g bs) s = .next t ∧ t = s.onChip (fun c => c.modTgt g (fun q => { q with pec := bs })))
  ∧ (∀ (s : State) (g : Tgt) (x : Byte) (bs : Bytes), s.chip.tgtOn g = true → s.chip.on R.IIC_TGT_PEC_EN g.page = true → (s.chip.tgt g).pec = bs ++ [x] → pec (BitVec.ofNat 8 (2 * s.chip.rd R.IIC_ADDR g.page) :: bs) = x.toNat → ∃ t, exec (.iicPecStop g) s = .next t ∧ t = ((s.onChip (fun c => c.modTgt g (fun q => { q with pec := [] }))).tgtWrite g bs).onChip (fun c => c.tgtDone g))
  ∧ (∀ (s : State) (g : Tgt) (x : Byte) (bs : Bytes), s.chip.tgtOn g = true → s.chip.on R.IIC_TGT_PEC_EN g.page = true → (s.chip.tgt g).pec = bs ++ [x] → pec (BitVec.ofNat 8 (2 * s.chip.rd R.IIC_ADDR g.page) :: bs) ≠ x.toNat → ∃ t, exec (.iicPecStop g) s = .next t ∧ t = s.onChip (fun c => (c.modTgt g (fun q => { q with pec := [], flags := q.flags ||| 2 })).tgtDone g))
  ∧ (∀ (s : State) (g : Tgt) (n : Nat), s.chip.tgtOn g = true → ∃ t, exec (.iicTargetRead g n) s = .next t ∧ (t.chip.tgt g).reads.length = n)

/-- PG_ID names the type, the instance and the revision of every page. A debugger's read of the first word of any page returns LAYOUT 1, REV 0x01, INSTANCE n of an array page (and of an IIC port its number, else 0) and the page's BLOCK_TYPE. (R520) -/
def Obligations.PageIdentity : Prop :=
  ∀ (s : State) (k : PageKind) (n ty : Nat) (o : Bool) (v : Word), pageOf (pageBase k n) = some (k, n) → (k, ty) ∈ ([(.sys, 1), (.plumb, 2), (.seq, 3), (.thm, 4), (.fcu, 5), (.fbk, 6), (.wcap, 7), (.datum, 8), (.sec, 9), (.fwu, 0xA), (.arb, 0xB), (.pmc, 0xC), (.part, 0xD), (.twin, 0xE), (.fab, 0xF), (.iic0, 0x10), (.iic1, 0x10), (.iic2, 0x10), (.xspi, 0x11), (.host, 0x12), (.neg, 0x13), (.gauge, 0x14), (.bmk, 0x15), (.crown, 0x16), (.hold, 0x17), (.felt, 0x18), (.clu, 0x20), (.ce, 0x21), (.spg, 0x22), (.sp, 0x23)] : List (PageKind × Nat)) → s.chip.unlocked = true → s.chip.reaches .dbg (pageBase k n) = true → ∃ t, exec (.dbgAccess (BitVec.ofNat 32 (pageBase k n)) (.read o) v) s = .next t ∧ (t.chip.path 3).rdata = BitVec.ofNat 32 (2 ^ 20 * ty + 2 ^ 12 * (if k = .clu ∨ k = .ce ∨ k = .spg ∨ k = .sp then n else if k = .iic1 then 1 else if k = .iic2 then 2 else 0) + 2 ^ 4 * 0x01 + 1)

/-- A descriptor write stores the enabled bytes and no other. An aligned write through any path that has the right, on a chip not PAIRED: every address of descriptor memory reads as before but the enabled bytes of the word, which read the written ones; capture SRAM stands. (R185, R518) -/
def Obligations.DescriptorWriteBytes : Prop :=
  ∀ (s : State) (p : Path) (a v : Word) (be : BE), s.canonical = true → 0x400000 ≤ wordAddr a → wordAddr a < 0x800000 → s.chip.reaches p (wordAddr a) = true → s.chip.pathRight p (wordAddr a) true = .ok → alignedBE be = true → (s.chip.rd R.TWIN_STATE pgTWIN = 0 ∨ s.chip.rd R.TWIN_STATE pgTWIN = 1 ∨ s.chip.rd R.TWIN_STATE pgTWIN = 4) → ∃ t, exec (.descriptorAccess p a true v be) s = .next t ∧ t.cap = s.cap ∧ ∀ y, t.descByte y = (if wordAddr a ≤ y ∧ y < wordAddr a + 4 ∧ be.getLsbD (y - wordAddr a) = true then BitVec.ofNat 8 (v.toNat / 256 ^ (y - wordAddr a)) else s.descByte y)

/-- A capture entry stores its own bytes in capture SRAM and no other. Where an entry is due and is moved in time: inside its slot capture SRAM reads the entry, outside it reads as before, and descriptor memory stands. (R459, R463) -/
def Obligations.CaptureEntryBytes : Prop :=
  ∀ (s : State) (k : Oct), s.canonical = true → s.chip.wcDue k.val = true → ∃ t, exec (.wcapEntry k true) s = .next t ∧ t.mem = s.mem ∧ (∀ y, (y < 0x1000000 + s.chip.wcAddr k.val (s.chip.wset k.val).entry ∨ 0x1000000 + s.chip.wcAddr k.val (s.chip.wset k.val).entry + (s.chip.wcEntryBytes k.val s.chip.wcTick).length ≤ y) → t.captureByte y = s.captureByte y) ∧ (∀ i, i < (s.chip.wcEntryBytes k.val s.chip.wcTick).length → s.chip.wcAddr k.val (s.chip.wset k.val).entry + i < 0x800000 → t.captureByte (0x1000000 + (s.chip.wcAddr k.val (s.chip.wset k.val).entry + i)) = (s.chip.wcEntryBytes k.val s.chip.wcTick).getD i 0)

/-- A tenant reaches no descriptor byte outside its region. An access through the window of partition p, other than P0, to a word of another region returns zero on a read, stores nothing on a write, and counts one violation of p. (R185, R403, R404) -/
def Obligations.TenantRegionIsolation : Prop :=
  ∀ (s : State) (p : Part) (a v : Word) (wr : Bool) (be : BE), p.val ≠ 0 → 0x400000 ≤ wordAddr a → wordAddr a < 0x800000 → (wordAddr a - 0x400000) / 0x80000 ≠ p.val → s.chip.reaches (.bar2 p) (wordAddr a) = true → alignedBE be = true → ∃ t, exec (.descriptorAccess (.bar2 p) a wr v be) s = .next t ∧ t.mem = s.mem ∧ t.cap = s.cap ∧ t.chip.rd R.PART_CNT_VIOL pgPART p.val = (s.chip.rd R.PART_CNT_VIOL pgPART p.val + 1) % 2 ^ 32 ∧ t.chip.rd R.PART_VIOL_ADDR pgPART = wordAddr a % 2 ^ 32 ∧ (wr = false → (t.chip.path (8 + p.val)).rdata = 0)

/-- A register write with partial byte enables changes no register but its count. On every path and page: the state after it is the one in which the path's held low word is dropped and the host interface, while it runs, has counted and signalled the partial write. (R4, R5) -/
def Obligations.PartialWriteDiscarded : Prop :=
  ∀ (s : State) (p : Path) (a v : Word) (be : BE) (k : PageKind) (n : Nat), pageOf (wordAddr a) = some (k, n) → s.chip.reaches p (wordAddr a) = true → be ≠ 15 → ∃ t, exec (.registerWrite p a v be) s = .next t ∧ t = s.onChip (fun c => (c.dropHeld p.key).partialWrite)

/-- The two words of a 64-bit register read on one path are of one instant. The high word read after the low word, whatever other commands came between that left the path's shadow alone, is the high word at the time of the low read; the shadow is then empty. (R5) -/
def Obligations.WideReadIsOneValue : Prop :=
  ∀ (s t u : State) (p : Path) (a b : Word) (k : PageKind) (n : Nat), pageOf (wordAddr a) = some (k, n) → wideRead k (wordAddr a % 0x1000) = true → wordAddr b = wordAddr a + 4 → s.chip.reaches p (wordAddr a) = true → s.chip.pathRight p (wordAddr a) false = .ok → exec (.wideLowRead p a 15) s = .next t → (u.chip.path p.key).shadow = (t.chip.path p.key).shadow → u.chip.reaches p (wordAddr b) = true → u.chip.pathRight p (wordAddr b) false = .ok → ∃ w, exec (.wideHighRead p b 15) u = .next w ∧ (w.chip.path p.key).rdata = BitVec.ofNat 32 (s.chip.regWord k n (wordAddr a % 0x1000 + 4) p.ident) ∧ (w.chip.path p.key).shadow = none

/-- A 64-bit register is written only by a low word and the high word directly after it. The low word is held and changes no register. A high word whose path does not hold the low word of the same register is discarded. (R5) -/
def Obligations.WideWriteNeedsItsPair : Prop :=
  (∀ (s : State) (p : Path) (a v : Word) (k : PageKind) (n : Nat), pageOf (wordAddr a) = some (k, n) → wideWrite k (wordAddr a % 0x1000) = true → s.takesWrite p (wordAddr a) v.toNat = true → ∃ t, exec (.wideLowWrite p a v 15) s = .next t ∧ t.chip.regs = s.chip.regs ∧ (t.chip.path p.key).held = some (wordAddr a, v) ∧ t.mem = s.mem)
  ∧ (∀ (s : State) (p : Path) (a v : Word) (k : PageKind) (n : Nat), pageOf (wordAddr a) = some (k, n) → 4 ≤ wordAddr a % 0x1000 → wideWrite k (wordAddr a % 0x1000 - 4) = true → s.takesWrite p (wordAddr a) v.toNat = true → (∀ x, (s.chip.path p.key).held = some x → x.1 + 4 ≠ wordAddr a) → ∃ t, exec (.wideHighWrite p a v 15) s = .next t ∧ t = s.onChip (fun c => c.dropHeld p.key))

/-- In a pair the LEAD proposes a write and the FOLLOW only counts it. A register word that does not belong to each chip alone, written in PAIRED: the LEAD changes no register and proposes the write for an agreed tick; the FOLLOW ignores it and counts CNT_FOLLOW_WRITE. (R339) -/
def Obligations.WritesOfAPair : Prop :=
  (∀ (s : State) (q : Part) (v : Word), s.chip.reaches .bar0 (pgARB + (0x200 + 0x10 * q.val)) = true → s.chip.writeBarred 0 (pgARB + (0x200 + 0x10 * q.val)) v.toNat = false → s.chip.paired = true → s.chip.leads = true → ∃ t, exec (.creditWrite .bar0 q v 15) s = .next t ∧ t = s.onChip (fun c => (c.dropHeld 0).propose (.cfgWrite (BitVec.ofNat 32 (pgARB + (0x200 + 0x10 * q.val))) v)))
  ∧ (∀ (s : State) (q : Part) (v : Word), s.chip.reaches .bar0 (pgARB + (0x200 + 0x10 * q.val)) = true → s.chip.writeBarred 0 (pgARB + (0x200 + 0x10 * q.val)) v.toNat = false → s.chip.paired = true → s.chip.leads = false → ∃ t, exec (.creditWrite .bar0 q v 15) s = .next t ∧ t = s.onChip (fun c => (c.dropHeld 0).bump R.TWIN_CNT pgTWIN 7))

/-- A command to a stage end changes that stage end alone. Frames. For each of 24 commands, on every state: the next state is the given one in every component of State but those the clause names; the queue and both memories stand, and where the clause says so every other port, stage end, engine or section stands too.  (R107, R120, R122, R131) -/
def Obligations.StageEndFrames : Prop :=
  (∀ (s t : State) (port : Port), exec (.upstreamFrameSend port) s = .next t → t = { s with chip := { s.chip with stages := t.chip.stages, sent := t.chip.sent } } ∧ ∀ q, q ≠ port.val → t.chip.stage q = s.chip.stage q)
  ∧ (∀ (s t : State) (port : Port) (raw : RawSample), exec (.seSampleTick port raw) s = .next t → t = { s with chip := { s.chip with stages := t.chip.stages } } ∧ ∀ q, q ≠ port.val → t.chip.stage q = s.chip.stage q)
  ∧ (∀ (s t : State) (port : Port) (link : Link) (frame : Frame), exec (.seCmdRx port link frame) s = .next t → t = { s with chip := { s.chip with stages := t.chip.stages } } ∧ ∀ q, q ≠ port.val → t.chip.stage q = s.chip.stage q)
  ∧ (∀ (s t : State) (port : Port) (link : Link) (frame : Frame), exec (.seSyncRx port link frame) s = .next t → t = { s with chip := { s.chip with stages := t.chip.stages } } ∧ ∀ q, q ≠ port.val → t.chip.stage q = s.chip.stage q)
  ∧ (∀ (s t : State) (port : Port) (link : Link) (frame : Frame), exec (.seFenceRx port link frame) s = .next t → t = { s with chip := { s.chip with stages := t.chip.stages } } ∧ ∀ q, q ≠ port.val → t.chip.stage q = s.chip.stage q)
  ∧ (∀ (s t : State) (port : Port) (link : Link) (frame : Frame), exec (.seCfgPoll port link frame) s = .next t → t = { s with chip := { s.chip with stages := t.chip.stages } } ∧ ∀ q, q ≠ port.val → t.chip.stage q = s.chip.stage q)
  ∧ (∀ (s t : State) (port : Port) (link : Link) (frame : Frame), exec (.seCfgRead port link frame) s = .next t → t = { s with chip := { s.chip with stages := t.chip.stages } } ∧ ∀ q, q ≠ port.val → t.chip.stage q = s.chip.stage q)
  ∧ (∀ (s t : State) (port : Port) (link : Link) (frame : Frame), exec (.seCfgWrite port link frame) s = .next t → t = { s with chip := { s.chip with stages := t.chip.stages } } ∧ ∀ q, q ≠ port.val → t.chip.stage q = s.chip.stage q)
  ∧ (∀ (s t : State) (port : Port) (link : Link) (frame : Frame) (still : Bool), exec (.seClearTrip port link frame still) s = .next t → t = { s with chip := { s.chip with stages := t.chip.stages } } ∧ ∀ q, q ≠ port.val → t.chip.stage q = s.chip.stage q)
  ∧ (∀ (s t : State) (port : Port) (link : Link) (frame : Frame) (still : Bool), exec (.seClearCrowbar port link frame still) s = .next t → t = { s with chip := { s.chip with stages := t.chip.stages } } ∧ ∀ q, q ≠ port.val → t.chip.stage q = s.chip.stage q)
  ∧ (∀ (s t : State) (port : Port) (link : Link) (frame : Frame), exec (.seClearLocalFault port link frame) s = .next t → t = { s with chip := { s.chip with stages := t.chip.stages } } ∧ ∀ q, q ≠ port.val → t.chip.stage q = s.chip.stage q)
  ∧ (∀ (s t : State) (port : Port) (link : Link) (frame : Frame), exec (.seCfgIdent port link frame) s = .next t → t = { s with chip := { s.chip with stages := t.chip.stages } } ∧ ∀ q, q ≠ port.val → t.chip.stage q = s.chip.stage q)
  ∧ (∀ (s t : State) (port : Port) (link : Link) (frame : Frame), exec (.seSideDnRx port link frame) s = .next t → t = { s with chip := { s.chip with stages := t.chip.stages } } ∧ ∀ q, q ≠ port.val → t.chip.stage q = s.chip.stage q)
  ∧ (∀ (s t : State) (port : Port), exec (.seApplyTick port) s = .next t → t = { s with chip := { s.chip with stages := t.chip.stages } } ∧ ∀ q, q ≠ port.val → t.chip.stage q = s.chip.stage q)
  ∧ (∀ (s t : State) (port : Port), exec (.seHoldEntry port) s = .next t → t = { s with chip := { s.chip with stages := t.chip.stages } } ∧ ∀ q, q ≠ port.val → t.chip.stage q = s.chip.stage q)
  ∧ (∀ (s t : State) (port : Port), exec (.seSafeEntry port) s = .next t → t = { s with chip := { s.chip with stages := t.chip.stages } } ∧ ∀ q, q ≠ port.val → t.chip.stage q = s.chip.stage q)
  ∧ (∀ (s t : State) (port : Port) (raw : RawSample), exec (.seFastTrip port raw) s = .next t → t = { s with chip := { s.chip with stages := t.chip.stages } } ∧ ∀ q, q ≠ port.val → t.chip.stage q = s.chip.stage q)
  ∧ (∀ (s t : State) (port : Port) (raw : RawSample), exec (.seCrowbar port raw) s = .next t → t = { s with chip := { s.chip with stages := t.chip.stages } } ∧ ∀ q, q ≠ port.val → t.chip.stage q = s.chip.stage q)
  ∧ (∀ (s t : State) (port : Port), exec (.seSelfcheckFail port) s = .next t → t = { s with chip := { s.chip with stages := t.chip.stages } } ∧ ∀ q, q ≠ port.val → t.chip.stage q = s.chip.stage q)
  ∧ (∀ (s t : State) (port : Port) (ident : SeIdent), exec (.sePowerCycle port ident) s = .next t → t = { s with chip := { s.chip with stages := t.chip.stages } } ∧ ∀ q, q ≠ port.val → t.chip.stage q = s.chip.stage q)
  ∧ (∀ (s t : State) (port : Port), exec (.seMoistureMeasure port) s = .next t → t = { s with chip := { s.chip with stages := t.chip.stages } } ∧ ∀ q, q ≠ port.val → t.chip.stage q = s.chip.stage q)
  ∧ (∀ (s t : State) (port : Port) (kohm : Nat), exec (.seMoistureDone port kohm) s = .next t → t = { s with chip := { s.chip with stages := t.chip.stages } } ∧ ∀ q, q ≠ port.val → t.chip.stage q = s.chip.stage q)
  ∧ (∀ (s t : State) (port : Port), exec (.sidebandTx port) s = .next t → t = { s with chip := { s.chip with stages := t.chip.stages, sent := t.chip.sent } } ∧ ∀ q, q ≠ port.val → t.chip.stage q = s.chip.stage q)
  ∧ (∀ (s t : State) (port : Port) (msg : Bytes) (crc : Word), exec (.sidebandRx port msg crc) s = .next t → t = { s with chip := { s.chip with stages := t.chip.stages } } ∧ ∀ q, q ≠ port.val → t.chip.stage q = s.chip.stage q)

/-- Commands of links, samples, engines and phases change only their own units. Frames. For each of 17 commands, on every state: the next state is the given one in every component of State but those the clause names; the queue and both memories stand, and where the clause says so every other port, stage end, engine or section stands too.  (R118, R139, R166, R218) -/
def Obligations.LinkAndEngineFrames : Prop :=
  (∀ (s t : State) (port : Port), exec (.equaliseRequest port) s = .next t → t = { s with chip := { s.chip with ports := t.chip.ports, sent := t.chip.sent } } ∧ ∀ q, q ≠ port.val → t.chip.port q = s.chip.port q)
  ∧ (∀ (s t : State) (port : Port) (tick : Nat), exec (.equaliseAnswer port tick) s = .next t → t = { s with chip := { s.chip with regs := t.chip.regs, pulses := t.chip.pulses, irqs := t.chip.irqs, twin := t.chip.twin, wcap := t.chip.wcap, host := t.chip.host, sent := t.chip.sent } })
  ∧ (∀ (s t : State) (port : Port), exec (.equaliseDeadline port) s = .next t → t = { s with chip := { s.chip with regs := t.chip.regs, pulses := t.chip.pulses, irqs := t.chip.irqs, ports := t.chip.ports, wcap := t.chip.wcap, host := t.chip.host, sent := t.chip.sent } } ∧ ∀ q, q ≠ port.val → t.chip.port q = s.chip.port q)
  ∧ (∀ (s t : State) (engine : Engine) (slot : TSlot), exec (.taskReadyPeriodic engine slot) s = .next t → t = { s with chip := { s.chip with regs := t.chip.regs, pulses := t.chip.pulses, irqs := t.chip.irqs, engines := t.chip.engines, wcap := t.chip.wcap, host := t.chip.host, sent := t.chip.sent } } ∧ ∀ q, q ≠ engine.val → t.chip.eng q = s.chip.eng q)
  ∧ (∀ (s t : State) (port : Port), exec (.cmdSlot port) s = .next t → t = { s with chip := { s.chip with regs := t.chip.regs, pulses := t.chip.pulses, irqs := t.chip.irqs, timers := t.chip.timers, plumb := t.chip.plumb, flash := t.chip.flash, fbk := t.chip.fbk, twin := t.chip.twin, ports := t.chip.ports, engines := t.chip.engines, secs := t.chip.secs, wcap := t.chip.wcap, host := t.chip.host, fwu := t.chip.fwu, sent := t.chip.sent, freeCtr := t.chip.freeCtr } } ∧ ∀ q, q ≠ port.val → t.chip.port q = s.chip.port q)
  ∧ (∀ (s t : State) (port : Port), exec (.linkAlignLoss port) s = .next t → t = { s with chip := { s.chip with ports := t.chip.ports } } ∧ ∀ q, q ≠ port.val → t.chip.port q = s.chip.port q)
  ∧ (∀ (s t : State) (port : Port), exec (.syncSend port) s = .next t → t = { s with chip := { s.chip with timers := t.chip.timers, ports := t.chip.ports, sent := t.chip.sent } } ∧ ∀ q, q ≠ port.val → t.chip.port q = s.chip.port q)
  ∧ (∀ (s t : State) (port : Port), exec (.cfgRspTimeout port) s = .next t → t = { s with chip := { s.chip with regs := t.chip.regs, pulses := t.chip.pulses, irqs := t.chip.irqs, ports := t.chip.ports, wcap := t.chip.wcap, host := t.chip.host, sent := t.chip.sent } } ∧ ∀ q, q ≠ port.val → t.chip.port q = s.chip.port q)
  ∧ (∀ (s t : State) (port : Port), exec (.sidePendingPoll port) s = .next t → t = { s with chip := { s.chip with ports := t.chip.ports } } ∧ ∀ q, q ≠ port.val → t.chip.port q = s.chip.port q)
  ∧ (∀ (s t : State) (port : Port), exec (.fenceSend port) s = .next t → t = { s with chip := { s.chip with regs := t.chip.regs, pulses := t.chip.pulses, irqs := t.chip.irqs, timers := t.chip.timers, ports := t.chip.ports, wcap := t.chip.wcap, host := t.chip.host, sent := t.chip.sent } } ∧ ∀ q, q ≠ port.val → t.chip.port q = s.chip.port q)
  ∧ (∀ (s t : State) (port : Port), exec (.admitSend port) s = .next t → t = { s with chip := { s.chip with timers := t.chip.timers, ports := t.chip.ports, sent := t.chip.sent } } ∧ ∀ q, q ≠ port.val → t.chip.port q = s.chip.port q)
  ∧ (∀ (s t : State) (port : Port), exec (.epochMismatch port) s = .next t → t = { s with chip := { s.chip with regs := t.chip.regs, pulses := t.chip.pulses, irqs := t.chip.irqs, timers := t.chip.timers, ports := t.chip.ports, wcap := t.chip.wcap, host := t.chip.host, sent := t.chip.sent } } ∧ ∀ q, q ≠ port.val → t.chip.port q = s.chip.port q)
  ∧ (∀ (s t : State) (line : ScrubRead), exec (.scrubLine line) s = .next t → t = { s with chip := { s.chip with regs := t.chip.regs, pulses := t.chip.pulses, irqs := t.chip.irqs, timers := t.chip.timers, plumb := t.chip.plumb, flash := t.chip.flash, fbk := t.chip.fbk, twin := t.chip.twin, engines := t.chip.engines, wcap := t.chip.wcap, host := t.chip.host, fwu := t.chip.fwu, sent := t.chip.sent, freeCtr := t.chip.freeCtr } } ∧ ∀ q, q ≠ line.engine.val → t.chip.eng q = s.chip.eng q)
  ∧ (∀ (s t : State) (port : Port), exec (.hiccupEnd port) s = .next t → t = { s with chip := { s.chip with regs := t.chip.regs, pulses := t.chip.pulses, irqs := t.chip.irqs, timers := t.chip.timers, twin := t.chip.twin, ports := t.chip.ports, laws := t.chip.laws, secs := t.chip.secs, wcap := t.chip.wcap, host := t.chip.host, sent := t.chip.sent } })
  ∧ (∀ (s t : State) (port : Port), exec (.hicCountClear port) s = .next t → t = { s with chip := { s.chip with regs := t.chip.regs, pulses := t.chip.pulses, irqs := t.chip.irqs, timers := t.chip.timers, wcap := t.chip.wcap, host := t.chip.host, sent := t.chip.sent } })
  ∧ (∀ (s t : State) (port : Port), exec (.crowbarClearCheck port) s = .next t → t = { s with chip := { s.chip with regs := t.chip.regs, pulses := t.chip.pulses, irqs := t.chip.irqs, timers := t.chip.timers, twin := t.chip.twin, ports := t.chip.ports, laws := t.chip.laws, secs := t.chip.secs, wcap := t.chip.wcap, host := t.chip.host, sent := t.chip.sent } })
  ∧ (∀ (s t : State) (port : Port) (inverted : Bool), exec (.linkAlignAcquire port inverted) s = .next t → t = { s with chip := { s.chip with ports := t.chip.ports } } ∧ ∀ q, q ≠ port.val → t.chip.port q = s.chip.port q)

/-- Commands of the shelf services change only their own units. Frames. For each of 25 commands, on every state: the next state is the given one in every component of State but those the clause names; the queue and both memories stand, and where the clause says so every other port, stage end, engine or section stands too.  (R236, R253, R265, R280, R306) -/
def Obligations.ServiceFrames : Prop :=
  (∀ (s t : State) (sec : Sec), exec (.feltRecompute sec) s = .next t → t = { s with chip := { s.chip with regs := t.chip.regs, pulses := t.chip.pulses, irqs := t.chip.irqs, ports := t.chip.ports, secs := t.chip.secs, wcap := t.chip.wcap, host := t.chip.host, sent := t.chip.sent } } ∧ ∀ q, q ≠ sec.val → t.chip.sec q = s.chip.sec q)
  ∧ (∀ (s t : State) (sec : Sec), exec (.feltSlewDone sec) s = .next t → t = { s with chip := { s.chip with regs := t.chip.regs, pulses := t.chip.pulses, irqs := t.chip.irqs, wcap := t.chip.wcap, host := t.chip.host, sent := t.chip.sent } })
  ∧ (∀ (s t : State) (sec : Sec), exec (.transferEnd sec) s = .next t → t = { s with chip := { s.chip with regs := t.chip.regs, pulses := t.chip.pulses, irqs := t.chip.irqs, timers := t.chip.timers, twin := t.chip.twin, secs := t.chip.secs, ewBy := t.chip.ewBy, caps := t.chip.caps, wcap := t.chip.wcap, host := t.chip.host, sent := t.chip.sent } } ∧ ∀ q, q ≠ sec.val → t.chip.sec q = s.chip.sec q)
  ∧ (∀ (s t : State) (sec : Sec), exec (.qualifyEnd sec) s = .next t → t = { s with chip := { s.chip with regs := t.chip.regs, pulses := t.chip.pulses, irqs := t.chip.irqs, timers := t.chip.timers, twin := t.chip.twin, secs := t.chip.secs, ewBy := t.chip.ewBy, caps := t.chip.caps, wcap := t.chip.wcap, host := t.chip.host, sent := t.chip.sent } } ∧ ∀ q, q ≠ sec.val → t.chip.sec q = s.chip.sec q)
  ∧ (∀ (s t : State) (sec : Sec), exec (.overloadSpent sec) s = .next t → t = { s with chip := { s.chip with timers := t.chip.timers, secs := t.chip.secs } } ∧ ∀ q, q ≠ sec.val → t.chip.sec q = s.chip.sec q)
  ∧ (∀ (s t : State) (sec : Sec), exec (.overloadRestore sec) s = .next t → t = { s with chip := { s.chip with timers := t.chip.timers, secs := t.chip.secs } } ∧ ∀ q, q ≠ sec.val → t.chip.sec q = s.chip.sec q)
  ∧ (∀ (s t : State), exec (.crownUpdate) s = .next t → t = { s with chip := { s.chip with regs := t.chip.regs, pulses := t.chip.pulses, irqs := t.chip.irqs, timers := t.chip.timers, ewBy := t.chip.ewBy, caps := t.chip.caps, feeders := t.chip.feeders, wcap := t.chip.wcap, host := t.chip.host, sent := t.chip.sent } })
  ∧ (∀ (s t : State), exec (.crownExtraUpdate) s = .next t → t = { s with chip := { s.chip with regs := t.chip.regs, pulses := t.chip.pulses, irqs := t.chip.irqs, timers := t.chip.timers, twin := t.chip.twin, ewBy := t.chip.ewBy, caps := t.chip.caps, wcap := t.chip.wcap, host := t.chip.host, sent := t.chip.sent } })
  ∧ (∀ (s t : State) (leaf : Leaf), exec (.graceExpiry leaf) s = .next t → t = { s with chip := { s.chip with regs := t.chip.regs, pulses := t.chip.pulses, irqs := t.chip.irqs, timers := t.chip.timers, ewBy := t.chip.ewBy, caps := t.chip.caps, wcap := t.chip.wcap, host := t.chip.host, sent := t.chip.sent } })
  ∧ (∀ (s t : State) (group : Oct), exec (.ewHoldExpiry group) s = .next t → t = { s with chip := { s.chip with regs := t.chip.regs, pulses := t.chip.pulses, irqs := t.chip.irqs, timers := t.chip.timers, caps := t.chip.caps, wcap := t.chip.wcap, host := t.chip.host, sent := t.chip.sent } })
  ∧ (∀ (s t : State), exec (.gaugeUpdate) s = .next t → t = { s with chip := { s.chip with regs := t.chip.regs, inForce := t.chip.inForce, pulses := t.chip.pulses, irqs := t.chip.irqs, timers := t.chip.timers, twin := t.chip.twin, secs := t.chip.secs, strs := t.chip.strs, wcap := t.chip.wcap, host := t.chip.host, sent := t.chip.sent } })
  ∧ (∀ (s t : State) (sec : Sec), exec (.zMeasureStart sec) s = .next t → t = { s with chip := { s.chip with regs := t.chip.regs, pulses := t.chip.pulses, irqs := t.chip.irqs, secs := t.chip.secs, wcap := t.chip.wcap, host := t.chip.host, sent := t.chip.sent } } ∧ ∀ q, q ≠ sec.val → t.chip.sec q = s.chip.sec q)
  ∧ (∀ (s t : State) (sec : Sec) (strN : Str) (freq : Hex) (start : Nat), exec (.zMeasureEnd sec strN freq start) s = .next t → t = { s with chip := { s.chip with regs := t.chip.regs, pulses := t.chip.pulses, irqs := t.chip.irqs, mram := t.chip.mram, twin := t.chip.twin, secs := t.chip.secs, strs := t.chip.strs, wcap := t.chip.wcap, host := t.chip.host, sent := t.chip.sent } } ∧ ∀ q, q ≠ sec.val → t.chip.sec q = s.chip.sec q)
  ∧ (∀ (s t : State), exec (.batteryRecordWrite) s = .next t → t = { s with chip := { s.chip with timers := t.chip.timers, mram := t.chip.mram } })
  ∧ (∀ (s t : State) (port : Port), exec (.retriesClear port) s = .next t → t = { s with chip := { s.chip with regs := t.chip.regs, pulses := t.chip.pulses, irqs := t.chip.irqs, timers := t.chip.timers, wcap := t.chip.wcap, host := t.chip.host, sent := t.chip.sent } })
  ∧ (∀ (s t : State) (port : Port), exec (.modelLateClear port) s = .next t → t = { s with chip := { s.chip with regs := t.chip.regs, pulses := t.chip.pulses, irqs := t.chip.irqs, timers := t.chip.timers, wcap := t.chip.wcap, host := t.chip.host, sent := t.chip.sent } })
  ∧ (∀ (s t : State) (port : Port), exec (.tripClearCheck port) s = .next t → t = { s with chip := { s.chip with regs := t.chip.regs, pulses := t.chip.pulses, irqs := t.chip.irqs, timers := t.chip.timers, fbk := t.chip.fbk, ports := t.chip.ports, feeders := t.chip.feeders, wcap := t.chip.wcap, host := t.chip.host, sent := t.chip.sent, freeCtr := t.chip.freeCtr } })
  ∧ (∀ (s t : State) (port : Port), exec (.cap port) s = .next t → t = { s with chip := { s.chip with regs := t.chip.regs, pulses := t.chip.pulses, irqs := t.chip.irqs, timers := t.chip.timers, ports := t.chip.ports, caps := t.chip.caps, feeders := t.chip.feeders, wcap := t.chip.wcap, host := t.chip.host, sent := t.chip.sent } })
  ∧ (∀ (s t : State) (port : Port), exec (.warn port) s = .next t → t = { s with chip := { s.chip with regs := t.chip.regs, pulses := t.chip.pulses, irqs := t.chip.irqs, timers := t.chip.timers, ports := t.chip.ports, caps := t.chip.caps, feeders := t.chip.feeders, wcap := t.chip.wcap, host := t.chip.host, sent := t.chip.sent } })
  ∧ (∀ (s t : State) (port : Port), exec (.hrHoldEnd port) s = .next t → t = { s with chip := { s.chip with regs := t.chip.regs, pulses := t.chip.pulses, irqs := t.chip.irqs, timers := t.chip.timers, fbk := t.chip.fbk, ports := t.chip.ports, feeders := t.chip.feeders, wcap := t.chip.wcap, host := t.chip.host, sent := t.chip.sent, freeCtr := t.chip.freeCtr } })
  ∧ (∀ (s t : State) (port : Port), exec (.roleWindowSwitch port) s = .next t → t = { s with chip := { s.chip with timers := t.chip.timers, feeders := t.chip.feeders } })
  ∧ (∀ (s t : State) (sec : Sec) (win : CalWindow), exec (.calWindowEnd sec win) s = .next t → t = { s with chip := { s.chip with regs := t.chip.regs, inForce := t.chip.inForce, pulses := t.chip.pulses, irqs := t.chip.irqs, timers := t.chip.timers, secs := t.chip.secs, cals := t.chip.cals, wcap := t.chip.wcap, host := t.chip.host, sent := t.chip.sent } } ∧ ∀ q, q ≠ sec.val → t.chip.sec q = s.chip.sec q)
  ∧ (∀ (s t : State) (port : Port) (ch : Chan), exec (.zeroWindowOpen port ch) s = .next t → t = { s with chip := { s.chip with cals := t.chip.cals } })
  ∧ (∀ (s t : State) (port : Port) (ch : Chan) (first : Nat) (last : Nat), exec (.zeroWindowEnd port ch first last) s = .next t → t = { s with chip := { s.chip with regs := t.chip.regs, irqs := t.chip.irqs, cals := t.chip.cals, wcap := t.chip.wcap, host := t.chip.host, sent := t.chip.sent } })
  ∧ (∀ (s t : State), exec (.calPublish) s = .next t → t = { s with chip := { s.chip with regs := t.chip.regs, inForce := t.chip.inForce, pulses := t.chip.pulses, irqs := t.chip.irqs, timers := t.chip.timers, plumb := t.chip.plumb, flash := t.chip.flash, fbk := t.chip.fbk, twin := t.chip.twin, ports := t.chip.ports, cals := t.chip.cals, wcap := t.chip.wcap, host := t.chip.host, fwu := t.chip.fwu, sent := t.chip.sent, freeCtr := t.chip.freeCtr } })

/-- Commands of the twin, the fabric and the ring change only their own units. Frames. For each of 40 commands, on every state: the next state is the given one in every component of State but those the clause names; the queue and both memories, but for descriptor memory where MGMT goes on, stand, and where the clause says so every other port, stage end, engine or section stands too.  (R340, R357, R382, R412) -/
def Obligations.TwinAndFabricFrames : Prop :=
  (∀ (s t : State) (ch1 : Bool), exec (.chainPathUp ch1) s = .next t → t = { s with chip := { s.chip with regs := t.chip.regs, pulses := t.chip.pulses, irqs := t.chip.irqs, timers := t.chip.timers, plumb := t.chip.plumb, twin := t.chip.twin, wcap := t.chip.wcap, host := t.chip.host, sent := t.chip.sent } })
  ∧ (∀ (s t : State) (x : Nat) (item : AgreedItem), exec (.agreeProposal x item) s = .next t → t = { s with chip := { s.chip with twin := t.chip.twin, sent := t.chip.sent } })
  ∧ (∀ (s t : State) (x : Nat), exec (.agreeAck x) s = .next t → t = { s with chip := { s.chip with twin := t.chip.twin } })
  ∧ (∀ (s t : State) (x : Nat), exec (.agreeCancel x) s = .next t → t = { s with chip := { s.chip with twin := t.chip.twin } })
  ∧ (∀ (s t : State) (x : Nat), exec (.agreeAckDeadline x) s = .next t → t = { s with chip := { s.chip with twin := t.chip.twin, sent := t.chip.sent } })
  ∧ (∀ (s t : State) (offset : TimeMeas), exec (.timeExchange offset) s = .next t → t = { s with chip := { s.chip with datum := t.chip.datum, regs := t.chip.regs, pulses := t.chip.pulses, irqs := t.chip.irqs, timers := t.chip.timers, twin := t.chip.twin, wcap := t.chip.wcap, host := t.chip.host, sent := t.chip.sent, freeCtr := t.chip.freeCtr } })
  ∧ (∀ (s t : State) (value : Word), exec (.healthRx value) s = .next t → t = { s with chip := { s.chip with regs := t.chip.regs, pulses := t.chip.pulses, irqs := t.chip.irqs, twin := t.chip.twin, wcap := t.chip.wcap, host := t.chip.host, sent := t.chip.sent } })
  ∧ (∀ (s t : State), exec (.debugHoldRx) s = .next t → t = { s with chip := { s.chip with regs := t.chip.regs, pulses := t.chip.pulses, irqs := t.chip.irqs, twin := t.chip.twin, wcap := t.chip.wcap, host := t.chip.host, sent := t.chip.sent } })
  ∧ (∀ (s t : State), exec (.mgmtFailNotice) s = .next t → t = { s with chip := { s.chip with regs := t.chip.regs, pulses := t.chip.pulses, irqs := t.chip.irqs, twin := t.chip.twin, wcap := t.chip.wcap, host := t.chip.host, sent := t.chip.sent } })
  ∧ (∀ (s t : State), exec (.takeoverExpiry) s = .next t → t = { s with chip := { s.chip with regs := t.chip.regs, pulses := t.chip.pulses, irqs := t.chip.irqs, timers := t.chip.timers, twin := t.chip.twin, ports := t.chip.ports, secs := t.chip.secs, wcap := t.chip.wcap, host := t.chip.host, sent := t.chip.sent } })
  ∧ (∀ (s t : State), exec (.recoveryWindowEnd) s = .next t → t = { s with chip := { s.chip with regs := t.chip.regs, pulses := t.chip.pulses, irqs := t.chip.irqs, timers := t.chip.timers, twin := t.chip.twin, ports := t.chip.ports, wcap := t.chip.wcap, host := t.chip.host, sent := t.chip.sent } })
  ∧ (∀ (s t : State), exec (.joinRestart) s = .next t → t = { s with chip := { s.chip with regs := t.chip.regs, pulses := t.chip.pulses, irqs := t.chip.irqs, timers := t.chip.timers, twin := t.chip.twin, wcap := t.chip.wcap, host := t.chip.host, sent := t.chip.sent } })
  ∧ (∀ (s t : State), exec (.traverseSchedule) s = .next t → t = { s with chip := { s.chip with regs := t.chip.regs, pulses := t.chip.pulses, irqs := t.chip.irqs, timers := t.chip.timers, twin := t.chip.twin, wcap := t.chip.wcap, host := t.chip.host, sent := t.chip.sent } })
  ∧ (∀ (s t : State), exec (.inserviceSelftest) s = .next t → t = { s with chip := { s.chip with regs := t.chip.regs, pulses := t.chip.pulses, irqs := t.chip.irqs, timers := t.chip.timers, twin := t.chip.twin, wcap := t.chip.wcap, host := t.chip.host, sent := t.chip.sent } })
  ∧ (∀ (s t : State), exec (.mgmtResume) s = .next t → t = { s with mem := t.mem, chip := { s.chip with regs := t.chip.regs, pulses := t.chip.pulses, irqs := t.chip.irqs, timers := t.chip.timers, plumb := t.chip.plumb, twin := t.chip.twin, ports := t.chip.ports, cals := t.chip.cals, wcap := t.chip.wcap, host := t.chip.host, sent := t.chip.sent } })
  ∧ (∀ (s t : State), exec (.fabHelloSend) s = .next t → t = { s with chip := { s.chip with timers := t.chip.timers, sent := t.chip.sent } })
  ∧ (∀ (s t : State), exec (.lsaFlood) s = .next t → t = { s with chip := { s.chip with timers := t.chip.timers, fab := t.chip.fab, sent := t.chip.sent } })
  ∧ (∀ (s t : State) (fport : FPort) (frame : FabFrame), exec (.transitForward fport frame) s = .next t → t = { s with chip := { s.chip with regs := t.chip.regs, pulses := t.chip.pulses, irqs := t.chip.irqs, fab := t.chip.fab, wcap := t.chip.wcap, host := t.chip.host, sent := t.chip.sent } })
  ∧ (∀ (s t : State) (fport : FPort) (frame : FabFrame), exec (.fabFrameRx fport frame) s = .next t → t = { s with chip := { s.chip with regs := t.chip.regs, pulses := t.chip.pulses, irqs := t.chip.irqs, fbk := t.chip.fbk, fab := t.chip.fab, wcap := t.chip.wcap, host := t.chip.host, sent := t.chip.sent, freeCtr := t.chip.freeCtr } })
  ∧ (∀ (s t : State) (hdr : SurveyHdr) (payload : Bytes), exec (.shareRx hdr payload) s = .next t → t = { s with chip := { s.chip with regs := t.chip.regs, pulses := t.chip.pulses, irqs := t.chip.irqs, fbk := t.chip.fbk, fab := t.chip.fab, wcap := t.chip.wcap, host := t.chip.host, sent := t.chip.sent, freeCtr := t.chip.freeCtr } })
  ∧ (∀ (s t : State), exec (.shareSend) s = .next t → t = { s with chip := { s.chip with regs := t.chip.regs, pulses := t.chip.pulses, irqs := t.chip.irqs, timers := t.chip.timers, fab := t.chip.fab, wcap := t.chip.wcap, host := t.chip.host, sent := t.chip.sent } })
  ∧ (∀ (s t : State) (hdr : SurveyHdr) (payload : Bytes), exec (.timeRx hdr payload) s = .next t → t = { s with chip := { s.chip with regs := t.chip.regs, pulses := t.chip.pulses, irqs := t.chip.irqs, fbk := t.chip.fbk, fab := t.chip.fab, wcap := t.chip.wcap, host := t.chip.host, sent := t.chip.sent, freeCtr := t.chip.freeCtr } })
  ∧ (∀ (s t : State) (hdr : SurveyHdr) (payload : Bytes), exec (.ackRx hdr payload) s = .next t → t = { s with chip := { s.chip with fab := t.chip.fab } })
  ∧ (∀ (s t : State) (msgId : Nat), exec (.relRetry msgId) s = .next t → t = { s with chip := { s.chip with regs := t.chip.regs, pulses := t.chip.pulses, irqs := t.chip.irqs, fab := t.chip.fab, wcap := t.chip.wcap, host := t.chip.host, sent := t.chip.sent } })
  ∧ (∀ (s t : State) (msgId : Nat), exec (.relFail msgId) s = .next t → t = { s with chip := { s.chip with regs := t.chip.regs, pulses := t.chip.pulses, irqs := t.chip.irqs, fab := t.chip.fab, wcap := t.chip.wcap, host := t.chip.host, sent := t.chip.sent } })
  ∧ (∀ (s t : State) (plane : Plane) (msg : PtpMsg), exec (.ptpMessageRx plane msg) s = .next t → t = { s with chip := { s.chip with regs := t.chip.regs, pulses := t.chip.pulses, irqs := t.chip.irqs, timers := t.chip.timers, fab := t.chip.fab, wcap := t.chip.wcap, host := t.chip.host, sent := t.chip.sent, freeCtr := t.chip.freeCtr } })
  ∧ (∀ (s t : State), exec (.ptpSyncSend) s = .next t → t = { s with chip := { s.chip with timers := t.chip.timers, sent := t.chip.sent } })
  ∧ (∀ (s t : State), exec (.pdelaySend) s = .next t → t = { s with chip := { s.chip with timers := t.chip.timers, sent := t.chip.sent } })
  ∧ (∀ (s t : State), exec (.prpSupervisionSend) s = .next t → t = { s with chip := { s.chip with timers := t.chip.timers, sent := t.chip.sent } })
  ∧ (∀ (s t : State) (diff : Int), exec (.timeLock diff) s = .next t → t = { s with chip := { s.chip with datum := t.chip.datum, regs := t.chip.regs, pulses := t.chip.pulses, irqs := t.chip.irqs, fab := t.chip.fab, wcap := t.chip.wcap, host := t.chip.host, sent := t.chip.sent, freeCtr := t.chip.freeCtr } })
  ∧ (∀ (s t : State) (hdr : SurveyHdr) (plane : Plane) (q : Nat), exec (.quietPropose hdr plane q) s = .next t → t = { s with chip := { s.chip with regs := t.chip.regs, pulses := t.chip.pulses, irqs := t.chip.irqs, fab := t.chip.fab, wcap := t.chip.wcap, host := t.chip.host, sent := t.chip.sent } })
  ∧ (∀ (s t : State) (hdr : SurveyHdr) (plane : Plane) (q : Nat), exec (.quietCommit hdr plane q) s = .next t → t = { s with chip := { s.chip with fab := t.chip.fab } })
  ∧ (∀ (s t : State), exec (.quietAckDeadline) s = .next t → t = { s with chip := { s.chip with regs := t.chip.regs, pulses := t.chip.pulses, irqs := t.chip.irqs, timers := t.chip.timers, fab := t.chip.fab, wcap := t.chip.wcap, host := t.chip.host, sent := t.chip.sent } })
  ∧ (∀ (s t : State), exec (.creditWindowStart) s = .next t → t = { s with chip := { s.chip with regs := t.chip.regs, pulses := t.chip.pulses, irqs := t.chip.irqs, timers := t.chip.timers, arb := t.chip.arb, wcap := t.chip.wcap, host := t.chip.host, sent := t.chip.sent } })
  ∧ (∀ (s t : State) (slot : RSlot) (part : Part), exec (.backoffEnd slot part) s = .next t → t = { s with chip := { s.chip with arb := t.chip.arb } })
  ∧ (∀ (s t : State), exec (.tenureEnd) s = .next t → t = { s with chip := { s.chip with regs := t.chip.regs, pulses := t.chip.pulses, irqs := t.chip.irqs, arb := t.chip.arb, wcap := t.chip.wcap, host := t.chip.host, sent := t.chip.sent } })
  ∧ (∀ (s t : State), exec (.ringRevoke) s = .next t → t = { s with chip := { s.chip with regs := t.chip.regs, pulses := t.chip.pulses, irqs := t.chip.irqs, arb := t.chip.arb, wcap := t.chip.wcap, host := t.chip.host, sent := t.chip.sent } })
  ∧ (∀ (s t : State) (slot : RSlot) (part : Part), exec (.overholdBlockEnd slot part) s = .next t → t = { s with chip := { s.chip with regs := t.chip.regs, pulses := t.chip.pulses, irqs := t.chip.irqs, arb := t.chip.arb, wcap := t.chip.wcap, host := t.chip.host, sent := t.chip.sent } })
  ∧ (∀ (s t : State) (part : Part), exec (.sessionIdleTimeout part) s = .next t → t = { s with chip := { s.chip with fab := t.chip.fab } })
  ∧ (∀ (s t : State) (plane : Plane), exec (.ptpSlaveLoss plane) s = .next t → t = { s with chip := { s.chip with regs := t.chip.regs, pulses := t.chip.pulses, irqs := t.chip.irqs, timers := t.chip.timers, fab := t.chip.fab, wcap := t.chip.wcap, host := t.chip.host, sent := t.chip.sent } })

/-- Commands of records, capture, images, hosts, power and debug change only their own units. Frames. For each of 44 commands, on every state: the next state is the given one in every component of State but those the clause names; the queue and both memories, but for descriptor memory where MGMT goes on, stand, and where the clause says so every other port, stage end, engine or section stands too.  (R448, R459, R494, R509, R511) -/
def Obligations.PlatformFrames : Prop :=
  (∀ (s t : State), exec (.abortsClear) s = .next t → t = { s with chip := { s.chip with regs := t.chip.regs, pulses := t.chip.pulses, irqs := t.chip.irqs, timers := t.chip.timers, wcap := t.chip.wcap, host := t.chip.host, sent := t.chip.sent } })
  ∧ (∀ (s t : State) (island : Island), exec (.pllLock island) s = .next t → t = { s with chip := { s.chip with regs := t.chip.regs, pulses := t.chip.pulses, irqs := t.chip.irqs, timers := t.chip.timers, plumb := t.chip.plumb, wcap := t.chip.wcap, host := t.chip.host, sent := t.chip.sent } })
  ∧ (∀ (s t : State) (island : Island), exec (.pllRetry island) s = .next t → t = { s with chip := { s.chip with timers := t.chip.timers, plumb := t.chip.plumb } })
  ∧ (∀ (s t : State), exec (.ceKernelLoad) s = .next t → t = { s with chip := { s.chip with regs := t.chip.regs, pulses := t.chip.pulses, irqs := t.chip.irqs, timers := t.chip.timers, fbk := t.chip.fbk, twin := t.chip.twin, ports := t.chip.ports, engines := t.chip.engines, laws := t.chip.laws, secs := t.chip.secs, feeders := t.chip.feeders, wcap := t.chip.wcap, host := t.chip.host, sent := t.chip.sent, freeCtr := t.chip.freeCtr } })
  ∧ (∀ (s t : State), exec (.stageDiscoveryDone) s = .next t → t = { s with chip := { s.chip with regs := t.chip.regs, pulses := t.chip.pulses, irqs := t.chip.irqs, timers := t.chip.timers, twin := t.chip.twin, wcap := t.chip.wcap, host := t.chip.host, sent := t.chip.sent } })
  ∧ (∀ (s t : State), exec (.fabricJoin) s = .next t → t = { s with chip := { s.chip with regs := t.chip.regs, pulses := t.chip.pulses, irqs := t.chip.irqs, timers := t.chip.timers, plumb := t.chip.plumb, flash := t.chip.flash, fbk := t.chip.fbk, twin := t.chip.twin, fab := t.chip.fab, wcap := t.chip.wcap, host := t.chip.host, fwu := t.chip.fwu, sent := t.chip.sent, freeCtr := t.chip.freeCtr } })
  ∧ (∀ (s t : State) (running : Bool), exec (.xtalDetect running) s = .next t → t = { s with chip := { s.chip with regs := t.chip.regs, pulses := t.chip.pulses, irqs := t.chip.irqs, wcap := t.chip.wcap, host := t.chip.host, sent := t.chip.sent } })
  ∧ (∀ (s t : State) (adc : AdcRead) (rcErr : Word), exec (.plumbAdcRefresh adc rcErr) s = .next t → t = { s with chip := { s.chip with regs := t.chip.regs, pulses := t.chip.pulses, irqs := t.chip.irqs, plumb := t.chip.plumb, wcap := t.chip.wcap, host := t.chip.host, sent := t.chip.sent } })
  ∧ (∀ (s t : State) (engine : Engine) (slot : TSlot), exec (.kernelSwapLaw engine slot) s = .next t → t = { s with chip := { s.chip with regs := t.chip.regs, pulses := t.chip.pulses, irqs := t.chip.irqs, twin := t.chip.twin, engines := t.chip.engines, wcap := t.chip.wcap, host := t.chip.host, fwu := t.chip.fwu, sent := t.chip.sent } })
  ∧ (∀ (s t : State), exec (.hibRecordWrite) s = .next t → t = { s with chip := { s.chip with timers := t.chip.timers, mram := t.chip.mram } })
  ∧ (∀ (s t : State), exec (.mgmtFailAckRx) s = .next t → t = { s with chip := { s.chip with regs := t.chip.regs, pulses := t.chip.pulses, irqs := t.chip.irqs, timers := t.chip.timers, plumb := t.chip.plumb, twin := t.chip.twin, wcap := t.chip.wcap, host := t.chip.host, sent := t.chip.sent } })
  ∧ (∀ (s t : State), exec (.mgmtFailAckTimeout) s = .next t → t = { s with chip := { s.chip with regs := t.chip.regs, pulses := t.chip.pulses, irqs := t.chip.irqs, timers := t.chip.timers, plumb := t.chip.plumb, wcap := t.chip.wcap, host := t.chip.host, sent := t.chip.sent } })
  ∧ (∀ (s t : State), exec (.watchdogService) s = .next t → t = { s with chip := { s.chip with timers := t.chip.timers } })
  ∧ (∀ (s t : State), exec (.watchdogExpiry) s = .next t → t = { s with chip := { s.chip with regs := t.chip.regs, pulses := t.chip.pulses, irqs := t.chip.irqs, timers := t.chip.timers, plumb := t.chip.plumb, mram := t.chip.mram, wcap := t.chip.wcap, host := t.chip.host, sent := t.chip.sent } })
  ∧ (∀ (s t : State) (code : Nat) (source : Nat) (sev : Chan) (part : Part) (payload : Bytes), exec (.fbkRecordQueue code source sev part payload) s = .next t → t = { s with chip := { s.chip with regs := t.chip.regs, pulses := t.chip.pulses, irqs := t.chip.irqs, fbk := t.chip.fbk, wcap := t.chip.wcap, host := t.chip.host, sent := t.chip.sent, freeCtr := t.chip.freeCtr } })
  ∧ (∀ (s t : State), exec (.fbkRecordWrite) s = .next t → t = { s with chip := { s.chip with regs := t.chip.regs, pulses := t.chip.pulses, irqs := t.chip.irqs, plumb := t.chip.plumb, fbk := t.chip.fbk, wcap := t.chip.wcap, host := t.chip.host, sent := t.chip.sent } })
  ∧ (∀ (s t : State), exec (.fbkEraseDone) s = .next t → t = { s with chip := { s.chip with regs := t.chip.regs, pulses := t.chip.pulses, irqs := t.chip.irqs, mram := t.chip.mram, fbk := t.chip.fbk, wcap := t.chip.wcap, host := t.chip.host, sent := t.chip.sent, freeCtr := t.chip.freeCtr } })
  ∧ (∀ (s t : State) (setN : Oct), exec (.wcapTrigEvent setN) s = .next t → t = { s with chip := { s.chip with regs := t.chip.regs, pulses := t.chip.pulses, irqs := t.chip.irqs, wcap := t.chip.wcap, host := t.chip.host, sent := t.chip.sent } })
  ∧ (∀ (s t : State) (setN : Oct), exec (.wcapPostEnd setN) s = .next t → t = { s with chip := { s.chip with regs := t.chip.regs, pulses := t.chip.pulses, irqs := t.chip.irqs, fbk := t.chip.fbk, wcap := t.chip.wcap, host := t.chip.host, sent := t.chip.sent, freeCtr := t.chip.freeCtr } })
  ∧ (∀ (s t : State) (setN : Oct), exec (.wcapFlushStart setN) s = .next t → t = { s with chip := { s.chip with regs := t.chip.regs, pulses := t.chip.pulses, irqs := t.chip.irqs, wcap := t.chip.wcap, host := t.chip.host, sent := t.chip.sent } })
  ∧ (∀ (s t : State) (setN : Oct), exec (.wcapFlushFail setN) s = .next t → t = { s with chip := { s.chip with regs := t.chip.regs, pulses := t.chip.pulses, irqs := t.chip.irqs, wcap := t.chip.wcap, host := t.chip.host, sent := t.chip.sent } })
  ∧ (∀ (s t : State), exec (.pciePerst) s = .next t → t = { s with chip := { s.chip with regs := t.chip.regs, pulses := t.chip.pulses, irqs := t.chip.irqs, wcap := t.chip.wcap, host := t.chip.host, sent := t.chip.sent, freeCtr := t.chip.freeCtr } })
  ∧ (∀ (s t : State) (value : Word) (cmd : Nat) (payload : Bytes), exec (.mbDoorbell value cmd payload) s = .next t → t = { s with chip := { s.chip with host := t.chip.host } })
  ∧ (∀ (s t : State), exec (.activationPause) s = .next t → t = { s with chip := { s.chip with regs := t.chip.regs, pulses := t.chip.pulses, irqs := t.chip.irqs, timers := t.chip.timers, wcap := t.chip.wcap, host := t.chip.host, fwu := t.chip.fwu, sent := t.chip.sent } })
  ∧ (∀ (s t : State), exec (.settleEnd) s = .next t → t = { s with chip := { s.chip with regs := t.chip.regs, pulses := t.chip.pulses, irqs := t.chip.irqs, timers := t.chip.timers, wcap := t.chip.wcap, host := t.chip.host, fwu := t.chip.fwu, sent := t.chip.sent } })
  ∧ (∀ (s t : State) (tgt : Tgt), exec (.iicSclTimeout tgt) s = .next t → t = { s with chip := { s.chip with regs := t.chip.regs, pulses := t.chip.pulses, irqs := t.chip.irqs, wcap := t.chip.wcap, host := t.chip.host, iics := t.chip.iics, sent := t.chip.sent } })
  ∧ (∀ (s t : State) (clock : Bool), exec (.iic2StretchEnd clock) s = .next t → t = { s with chip := { s.chip with regs := t.chip.regs, pulses := t.chip.pulses, irqs := t.chip.irqs, timers := t.chip.timers, wcap := t.chip.wcap, host := t.chip.host, iics := t.chip.iics, sent := t.chip.sent } })
  ∧ (∀ (s t : State) (err : Nat) (rx : Bytes), exec (.iic1Done err rx) s = .next t → t = { s with chip := { s.chip with regs := t.chip.regs, pulses := t.chip.pulses, irqs := t.chip.irqs, wcap := t.chip.wcap, host := t.chip.host, sent := t.chip.sent } })
  ∧ (∀ (s t : State), exec (.snapTake) s = .next t → t = { s with chip := { s.chip with snap := t.chip.snap } })
  ∧ (∀ (s t : State), exec (.snapDone) s = .next t → t = { s with chip := { s.chip with regs := t.chip.regs, pulses := t.chip.pulses, irqs := t.chip.irqs, wcap := t.chip.wcap, host := t.chip.host, snap := t.chip.snap, sent := t.chip.sent } })
  ∧ (∀ (s t : State) (nonce : Bytes), exec (.dbgChallenge nonce) s = .next t → t = { s with chip := { s.chip with dbg := t.chip.dbg, sent := t.chip.sent } })
  ∧ (∀ (s t : State) (sig : Bytes), exec (.dbgResponse sig) s = .next t → t = { s with chip := { s.chip with regs := t.chip.regs, pulses := t.chip.pulses, irqs := t.chip.irqs, wcap := t.chip.wcap, host := t.chip.host, dbg := t.chip.dbg, sent := t.chip.sent } })
  ∧ (∀ (s t : State), exec (.dbgHalt) s = .next t → t = { s with chip := { s.chip with regs := t.chip.regs, pulses := t.chip.pulses, irqs := t.chip.irqs, plumb := t.chip.plumb, wcap := t.chip.wcap, host := t.chip.host, sent := t.chip.sent } })
  ∧ (∀ (s t : State), exec (.dbgStep) s = .next t → t = { s with chip := { s.chip with dbg := t.chip.dbg } })
  ∧ (∀ (s t : State), exec (.dbgResume) s = .next t → t = { s with mem := t.mem, chip := { s.chip with regs := t.chip.regs, pulses := t.chip.pulses, irqs := t.chip.irqs, timers := t.chip.timers, plumb := t.chip.plumb, twin := t.chip.twin, ports := t.chip.ports, cals := t.chip.cals, wcap := t.chip.wcap, host := t.chip.host, sent := t.chip.sent } })
  ∧ (∀ (s t : State), exec (.resetNRelease) s = .next t → t = { s with chip := { s.chip with plumb := t.chip.plumb } })
  ∧ (∀ (s t : State) (width : Nat) (speed : Nat), exec (.pcieLinkUp width speed) s = .next t → t = { s with chip := { s.chip with regs := t.chip.regs, pulses := t.chip.pulses, irqs := t.chip.irqs, wcap := t.chip.wcap, host := t.chip.host, sent := t.chip.sent } })
  ∧ (∀ (s t : State), exec (.pcieLinkDown) s = .next t → t = { s with chip := { s.chip with regs := t.chip.regs, pulses := t.chip.pulses, irqs := t.chip.irqs, wcap := t.chip.wcap, host := t.chip.host, sent := t.chip.sent, freeCtr := t.chip.freeCtr } })
  ∧ (∀ (s t : State) (d3 : Bool) (bme : Bool), exec (.pcieConfigWrite d3 bme) s = .next t → t = { s with chip := { s.chip with regs := t.chip.regs, pulses := t.chip.pulses, irqs := t.chip.irqs, wcap := t.chip.wcap, host := t.chip.host, sent := t.chip.sent, freeCtr := t.chip.freeCtr } })
  ∧ (∀ (s t : State) (vector : Vector64), exec (.msixVectorUnmask vector) s = .next t → t = { s with chip := { s.chip with host := t.chip.host, sent := t.chip.sent } })
  ∧ (∀ (s t : State), exec (.mailboxCompletion) s = .next t → t = { s with chip := { s.chip with regs := t.chip.regs, pulses := t.chip.pulses, irqs := t.chip.irqs, wcap := t.chip.wcap, host := t.chip.host, sent := t.chip.sent } })
  ∧ (∀ (s t : State), exec (.activeCopyDone) s = .next t → t = { s with chip := { s.chip with regs := t.chip.regs, pulses := t.chip.pulses, irqs := t.chip.irqs, mram := t.chip.mram, flash := t.chip.flash, wcap := t.chip.wcap, host := t.chip.host, fwu := t.chip.fwu, sent := t.chip.sent } })
  ∧ (∀ (s t : State), exec (.resumeTimeout) s = .next t → t = { s with chip := { s.chip with regs := t.chip.regs, pulses := t.chip.pulses, irqs := t.chip.irqs, timers := t.chip.timers, wcap := t.chip.wcap, host := t.chip.host, fwu := t.chip.fwu, sent := t.chip.sent } })
  ∧ (∀ (s t : State) (pins : Bytes), exec (.extest pins) s = .next t → t = { s with chip := { s.chip with dbg := t.chip.dbg } })
end

