-- ==== Sys2Proof/Laws/Maps.lean ====
section
/-! SUPPORT. Laws/Maps.lean: reading a map or a byte memory after a write, and the canonical form that every write keeps. -/

namespace Sys2Proof.Machine

/-! Maps. -/

/-- A map holds for a number what was last put there. -/
@[simp] theorem mapGet_mapSet_same {α : Type} (m : SMap α) (k : Nat) (v d : α) : mapGet (mapSet m k v) k d = v := by
  induction m with
  | nil => simp [mapSet, mapGet]
  | cons e m ih =>
    obtain ⟨j, w⟩ := e
    simp only [mapSet]
    split
    · simp [mapGet]
    · split
      · simp [mapGet]
      · rename_i h; simp [mapGet, Ne.symm h, ih]

/-- A write at one number leaves what the map holds for every other. -/
theorem mapGet_mapSet_ne {α : Type} (m : SMap α) {k j : Nat} (h : j ≠ k) (v d : α) :
    mapGet (mapSet m k v) j d = mapGet m j d := by
  induction m with
  | nil => simp [mapSet, mapGet, Ne.symm h]
  | cons e m ih =>
    obtain ⟨i, w⟩ := e
    simp only [mapSet]
    split
    · simp [mapGet, Ne.symm h]
    · split
      · rename_i h2; subst h2; simp [mapGet, Ne.symm h]
      · simp only [mapGet]; split <;> simp_all

/-- Both cases of a read after a write. -/
theorem mapGet_mapSet {α : Type} (m : SMap α) (k j : Nat) (v d : α) :
    mapGet (mapSet m k v) j d = if j = k then v else mapGet m j d := by
  split
  · rename_i h; subst h; simp
  · rename_i h; exact mapGet_mapSet_ne m h v d

/-! Byte memories. -/

/-- A cell reads as what was last put there. -/
@[simp] theorem memGet_memSet_same (m : Memory) (k : Nat) (v : Byte) (h : Memory.wf m = true) :
    memGet (memSet m k v) k = v := by
  have low : ∀ (m : Memory) (b : Option Nat), memAbove b m = true → ∀ x, b = some x → ∀ k, k ≤ x → memGet m k = 0 := by
    intro m
    induction m with
    | nil => intros; rfl
    | cons e m ih =>
      obtain ⟨j, w⟩ := e
      intro b hb x hx k hk
      subst hx
      simp [memAbove] at hb
      have : j ≠ k := by omega
      simp only [memGet, if_neg this]
      exact ih (some j) hb.2 j rfl k (by omega)
  unfold Memory.wf at h
  generalize hb : (none : Option Nat) = b at h
  clear hb
  induction m generalizing b with
  | nil => simp only [memSet]; split <;> simp_all [memGet]
  | cons e m ih =>
    obtain ⟨j, w⟩ := e
    have h2 : memAbove (some j) m = true := by simp [memAbove] at h; exact h.2
    simp only [memSet]
    split
    · rename_i hk
      split
      · rename_i hv
        have : j ≠ k := by omega
        simp only [memGet, if_neg this, hv]
        exact low m (some j) h2 j rfl k (by omega)
      · simp [memGet]
    · split
      · rename_i hk
        subst hk
        split
        · rename_i hv; rw [hv]; exact low m (some k) h2 k rfl k (Nat.le_refl k)
        · simp [memGet]
      · rename_i hk
        simp only [memGet, if_neg (Ne.symm hk)]
        exact ih (some j) h2

/-- A write of one cell leaves every other. -/
theorem memGet_memSet_ne (m : Memory) {k j : Nat} (h : j ≠ k) (v : Byte) :
    memGet (memSet m k v) j = memGet m j := by
  induction m with
  | nil => simp only [memSet]; split <;> simp [memGet, Ne.symm h]
  | cons e m ih =>
    obtain ⟨i, w⟩ := e
    simp only [memSet]
    split
    · split <;> simp [memGet, Ne.symm h]
    · split
      · rename_i h2; subst h2; split <;> simp [memGet, Ne.symm h]
      · simp only [memGet]; split <;> simp_all

theorem memAbove_weaken (m : Memory) (x y : Nat) (h : y ≤ x) (hm : memAbove (some x) m = true) : memAbove (some y) m = true := by
  cases m with
  | nil => rfl
  | cons e m => obtain ⟨j, w⟩ := e; simp [memAbove] at *; exact ⟨⟨by omega, hm.1.2⟩, hm.2⟩

theorem memAbove_memSet (m : Memory) (b : Option Nat) (k : Nat) (v : Byte) (hb : ∀ x, b = some x → x < k)
    (h : memAbove b m = true) : memAbove b (memSet m k v) = true := by
  induction m generalizing b with
  | nil =>
    simp only [memSet]
    split
    · rfl
    · rename_i hv0; have hv : ¬ v = 0#8 := hv0
      cases b with
      | none => simp [memAbove, hv]
      | some x => simp [memAbove, hv, hb x rfl]
  | cons e m ih =>
    obtain ⟨j, w⟩ := e
    simp [memAbove] at h
    simp only [memSet]
    split
    · rename_i hk
      split
      · simp [memAbove, h]
      · rename_i hv0; have hv : ¬ v = 0#8 := hv0
        cases b with
        | none => simp [memAbove, hv, h.1.2, h.2, hk]
        | some x => simp [memAbove, hv, h.1.2, h.2, hk, hb x rfl]
    · split
      · rename_i hk
        subst hk
        split
        · cases b with
          | none =>
            cases m with
            | nil => rfl
            | cons e m => obtain ⟨i, u⟩ := e; have := h.2; simp [memAbove] at this ⊢; exact ⟨this.1.2, this.2⟩
          | some x => exact memAbove_weaken m k x (by have := hb x rfl; omega) h.2
        · rename_i hv0; have hv : ¬ v = 0#8 := hv0
          cases b with
          | none => simp [memAbove, hv, h.2]
          | some x => simp [memAbove, hv, h.2, hb x rfl]
      · rename_i h1 h2
        have : memAbove (some j) (memSet m k v) = true := ih (some j) (by intro x hx; cases hx; omega) h.2
        cases b with
        | none => simp [memAbove, h.1.2, this]
        | some x => simp [memAbove, h.1, this]

/-- A write of one cell keeps the canonical form. -/
theorem memSet_wf (m : Memory) (k : Nat) (v : Byte) (h : Memory.wf m = true) : Memory.wf (memSet m k v) = true :=
  memAbove_memSet m none k v (by intro x hx; cases hx) h

/-- A write of bytes keeps the canonical form. -/
theorem memPut_wf (m : Memory) (a : Nat) (bs : Bytes) (h : Memory.wf m = true) : Memory.wf (memPut m a bs) = true := by
  induction bs generalizing m a with
  | nil => exact h
  | cons b bs ih => exact ih _ _ (memSet_wf m a b h)

/-- A write of bytes leaves every cell outside them. -/
theorem memGet_memPut_outside (m : Memory) (a : Nat) (bs : Bytes) (k : Nat) (h : k < a ∨ a + bs.length ≤ k) (hm : Memory.wf m = true) :
    memGet (memPut m a bs) k = memGet m k := by
  induction bs generalizing m a with
  | nil => rfl
  | cons b bs ih =>
    simp at h
    have hk : k ≠ a := by omega
    simp only [memPut]
    rw [ih _ _ (by omega) (memSet_wf m a b hm), memGet_memSet_ne m hk b]

/-- A cell within the bytes written reads as the byte written there. -/
theorem memGet_memPut_inside (m : Memory) (a : Nat) (bs : Bytes) (i : Nat) (h : i < bs.length) (hm : Memory.wf m = true) :
    memGet (memPut m a bs) (a + i) = bs[i] := by
  induction bs generalizing m a i with
  | nil => simp at h
  | cons b bs ih =>
    simp only [memPut]
    cases i with
    | zero =>
      rw [memGet_memPut_outside _ _ _ _ (by omega) (memSet_wf m a b hm)]
      simp [hm]
    | succ i =>
      have := ih (memSet m a b) (a + 1) i (by simpa using h) (memSet_wf m a b hm)
      simpa [Nat.add_assoc, Nat.add_comm 1] using this

/-- A memory with nothing listed is canonical. -/
@[simp] theorem Memory.wf_nil : Memory.wf ([] : Memory) = true := rfl

end Sys2Proof.Machine
end

