-- ==== Sys2Proof/Laws/State.lean ====
section
/-! SUPPORT. Laws/State.lean: each field after each named update. -/

namespace Sys2Proof.Machine

/-! A change of the chip leaves the queue and the byte memories. -/

@[simp] theorem State.onChip_pending (s : State) (f : Chip → Chip) : (s.onChip f).pending = s.pending := rfl
@[simp] theorem State.onChip_mem (s : State) (f : Chip → Chip) : (s.onChip f).mem = s.mem := rfl
@[simp] theorem State.onChip_cap (s : State) (f : Chip → Chip) : (s.onChip f).cap = s.cap := rfl
@[simp] theorem State.onChip_chip (s : State) (f : Chip → Chip) : (s.onChip f).chip = f s.chip := rfl


/-! wr. -/

section
variable (c : Chip) (f : Fld) (b v i : Nat)
@[simp] theorem Chip.wr_now : (c.wr f b v i).now = c.now := rfl
@[simp] theorem Chip.wr_datum : (c.wr f b v i).datum = c.datum := rfl
@[simp] theorem Chip.wr_rateAcc : (c.wr f b v i).rateAcc = c.rateAcc := rfl
@[simp] theorem Chip.wr_regs : (c.wr f b v i).regs = mapSet c.regs (fldKey f b i) (v % 2 ^ f.w) := rfl
@[simp] theorem Chip.wr_pulses : (c.wr f b v i).pulses = c.pulses := rfl
@[simp] theorem Chip.wr_irqs : (c.wr f b v i).irqs = c.irqs := rfl
@[simp] theorem Chip.wr_inForce : (c.wr f b v i).inForce = c.inForce := rfl
@[simp] theorem Chip.wr_ewBy : (c.wr f b v i).ewBy = c.ewBy := rfl
@[simp] theorem Chip.wr_paths : (c.wr f b v i).paths = c.paths := rfl
@[simp] theorem Chip.wr_timers : (c.wr f b v i).timers = c.timers := rfl
@[simp] theorem Chip.wr_plumb : (c.wr f b v i).plumb = c.plumb := rfl
@[simp] theorem Chip.wr_mram : (c.wr f b v i).mram = c.mram := rfl
@[simp] theorem Chip.wr_flash : (c.wr f b v i).flash = c.flash := rfl
@[simp] theorem Chip.wr_fbk : (c.wr f b v i).fbk = c.fbk := rfl
@[simp] theorem Chip.wr_twin : (c.wr f b v i).twin = c.twin := rfl
@[simp] theorem Chip.wr_ports : (c.wr f b v i).ports = c.ports := rfl
@[simp] theorem Chip.wr_stages : (c.wr f b v i).stages = c.stages := rfl
@[simp] theorem Chip.wr_engines : (c.wr f b v i).engines = c.engines := rfl
@[simp] theorem Chip.wr_laws : (c.wr f b v i).laws = c.laws := rfl
@[simp] theorem Chip.wr_secs : (c.wr f b v i).secs = c.secs := rfl
@[simp] theorem Chip.wr_caps : (c.wr f b v i).caps = c.caps := rfl
@[simp] theorem Chip.wr_strs : (c.wr f b v i).strs = c.strs := rfl
@[simp] theorem Chip.wr_feeders : (c.wr f b v i).feeders = c.feeders := rfl
@[simp] theorem Chip.wr_cals : (c.wr f b v i).cals = c.cals := rfl
@[simp] theorem Chip.wr_fab : (c.wr f b v i).fab = c.fab := rfl
@[simp] theorem Chip.wr_arb : (c.wr f b v i).arb = c.arb := rfl
@[simp] theorem Chip.wr_wcap : (c.wr f b v i).wcap = c.wcap := rfl
@[simp] theorem Chip.wr_host : (c.wr f b v i).host = c.host := rfl
@[simp] theorem Chip.wr_iics : (c.wr f b v i).iics = c.iics := rfl
@[simp] theorem Chip.wr_fwu : (c.wr f b v i).fwu = c.fwu := rfl
@[simp] theorem Chip.wr_dbg : (c.wr f b v i).dbg = c.dbg := rfl
@[simp] theorem Chip.wr_snap : (c.wr f b v i).snap = c.snap := rfl
@[simp] theorem Chip.wr_sent : (c.wr f b v i).sent = c.sent := rfl
@[simp] theorem Chip.wr_freeCtr : (c.wr f b v i).freeCtr = c.freeCtr := rfl
end

/-! send. -/

section
variable (c : Chip) (o : Out)
/-- Sending adds to what has been sent, and does nothing else. -/
theorem Chip.send_eq : c.send o = { c with sent := (c.send o).sent } := by
  unfold Chip.send
  split <;> first | rfl | (split <;> rfl)
@[simp] theorem Chip.send_now : (c.send o).now = c.now := by rw [c.send_eq o]
@[simp] theorem Chip.send_datum : (c.send o).datum = c.datum := by rw [c.send_eq o]
@[simp] theorem Chip.send_rateAcc : (c.send o).rateAcc = c.rateAcc := by rw [c.send_eq o]
@[simp] theorem Chip.send_regs : (c.send o).regs = c.regs := by rw [c.send_eq o]
@[simp] theorem Chip.send_pulses : (c.send o).pulses = c.pulses := by rw [c.send_eq o]
@[simp] theorem Chip.send_irqs : (c.send o).irqs = c.irqs := by rw [c.send_eq o]
@[simp] theorem Chip.send_inForce : (c.send o).inForce = c.inForce := by rw [c.send_eq o]
@[simp] theorem Chip.send_ewBy : (c.send o).ewBy = c.ewBy := by rw [c.send_eq o]
@[simp] theorem Chip.send_paths : (c.send o).paths = c.paths := by rw [c.send_eq o]
@[simp] theorem Chip.send_timers : (c.send o).timers = c.timers := by rw [c.send_eq o]
@[simp] theorem Chip.send_plumb : (c.send o).plumb = c.plumb := by rw [c.send_eq o]
@[simp] theorem Chip.send_mram : (c.send o).mram = c.mram := by rw [c.send_eq o]
@[simp] theorem Chip.send_flash : (c.send o).flash = c.flash := by rw [c.send_eq o]
@[simp] theorem Chip.send_fbk : (c.send o).fbk = c.fbk := by rw [c.send_eq o]
@[simp] theorem Chip.send_twin : (c.send o).twin = c.twin := by rw [c.send_eq o]
@[simp] theorem Chip.send_ports : (c.send o).ports = c.ports := by rw [c.send_eq o]
@[simp] theorem Chip.send_stages : (c.send o).stages = c.stages := by rw [c.send_eq o]
@[simp] theorem Chip.send_engines : (c.send o).engines = c.engines := by rw [c.send_eq o]
@[simp] theorem Chip.send_laws : (c.send o).laws = c.laws := by rw [c.send_eq o]
@[simp] theorem Chip.send_secs : (c.send o).secs = c.secs := by rw [c.send_eq o]
@[simp] theorem Chip.send_caps : (c.send o).caps = c.caps := by rw [c.send_eq o]
@[simp] theorem Chip.send_strs : (c.send o).strs = c.strs := by rw [c.send_eq o]
@[simp] theorem Chip.send_feeders : (c.send o).feeders = c.feeders := by rw [c.send_eq o]
@[simp] theorem Chip.send_cals : (c.send o).cals = c.cals := by rw [c.send_eq o]
@[simp] theorem Chip.send_fab : (c.send o).fab = c.fab := by rw [c.send_eq o]
@[simp] theorem Chip.send_arb : (c.send o).arb = c.arb := by rw [c.send_eq o]
@[simp] theorem Chip.send_wcap : (c.send o).wcap = c.wcap := by rw [c.send_eq o]
@[simp] theorem Chip.send_host : (c.send o).host = c.host := by rw [c.send_eq o]
@[simp] theorem Chip.send_iics : (c.send o).iics = c.iics := by rw [c.send_eq o]
@[simp] theorem Chip.send_fwu : (c.send o).fwu = c.fwu := by rw [c.send_eq o]
@[simp] theorem Chip.send_dbg : (c.send o).dbg = c.dbg := by rw [c.send_eq o]
@[simp] theorem Chip.send_snap : (c.send o).snap = c.snap := by rw [c.send_eq o]
/-- Anything that does not go over Chain is sent while the banks of the high-speed pins have power (R57). -/
theorem Chip.send_sent (h : ∀ m, o ≠ .chain m) (on : c.banksOn = true) : (c.send o).sent = o :: c.sent := by
  unfold Chip.send
  split
  · exact absurd rfl (h _)
  all_goals simp [on]
/-- A Chain message is sent where Chain is open to it (R57, R337). -/
theorem Chip.send_chain (m : ChainMsg) (h : c.chainOpen m = true) : (c.send (.chain m)).sent = .chain m :: c.sent := by simp [Chip.send, h]
/-- A Chain message that Chain is not open to is not sent. -/
theorem Chip.send_shut (m : ChainMsg) (h : c.chainOpen m = false) : c.send (.chain m) = c := by simp [Chip.send, h]
@[simp] theorem Chip.send_freeCtr : (c.send o).freeCtr = c.freeCtr := by rw [c.send_eq o]
end

/-! arm. -/

section
variable (c : Chip) (k t : Nat)
@[simp] theorem Chip.arm_now : (c.arm k t).now = c.now := rfl
@[simp] theorem Chip.arm_datum : (c.arm k t).datum = c.datum := rfl
@[simp] theorem Chip.arm_rateAcc : (c.arm k t).rateAcc = c.rateAcc := rfl
@[simp] theorem Chip.arm_regs : (c.arm k t).regs = c.regs := rfl
@[simp] theorem Chip.arm_pulses : (c.arm k t).pulses = c.pulses := rfl
@[simp] theorem Chip.arm_irqs : (c.arm k t).irqs = c.irqs := rfl
@[simp] theorem Chip.arm_inForce : (c.arm k t).inForce = c.inForce := rfl
@[simp] theorem Chip.arm_ewBy : (c.arm k t).ewBy = c.ewBy := rfl
@[simp] theorem Chip.arm_paths : (c.arm k t).paths = c.paths := rfl
@[simp] theorem Chip.arm_timers : (c.arm k t).timers = mapSet c.timers k (c.now + t + 1) := rfl
@[simp] theorem Chip.arm_plumb : (c.arm k t).plumb = c.plumb := rfl
@[simp] theorem Chip.arm_mram : (c.arm k t).mram = c.mram := rfl
@[simp] theorem Chip.arm_flash : (c.arm k t).flash = c.flash := rfl
@[simp] theorem Chip.arm_fbk : (c.arm k t).fbk = c.fbk := rfl
@[simp] theorem Chip.arm_twin : (c.arm k t).twin = c.twin := rfl
@[simp] theorem Chip.arm_ports : (c.arm k t).ports = c.ports := rfl
@[simp] theorem Chip.arm_stages : (c.arm k t).stages = c.stages := rfl
@[simp] theorem Chip.arm_engines : (c.arm k t).engines = c.engines := rfl
@[simp] theorem Chip.arm_laws : (c.arm k t).laws = c.laws := rfl
@[simp] theorem Chip.arm_secs : (c.arm k t).secs = c.secs := rfl
@[simp] theorem Chip.arm_caps : (c.arm k t).caps = c.caps := rfl
@[simp] theorem Chip.arm_strs : (c.arm k t).strs = c.strs := rfl
@[simp] theorem Chip.arm_feeders : (c.arm k t).feeders = c.feeders := rfl
@[simp] theorem Chip.arm_cals : (c.arm k t).cals = c.cals := rfl
@[simp] theorem Chip.arm_fab : (c.arm k t).fab = c.fab := rfl
@[simp] theorem Chip.arm_arb : (c.arm k t).arb = c.arb := rfl
@[simp] theorem Chip.arm_wcap : (c.arm k t).wcap = c.wcap := rfl
@[simp] theorem Chip.arm_host : (c.arm k t).host = c.host := rfl
@[simp] theorem Chip.arm_iics : (c.arm k t).iics = c.iics := rfl
@[simp] theorem Chip.arm_fwu : (c.arm k t).fwu = c.fwu := rfl
@[simp] theorem Chip.arm_dbg : (c.arm k t).dbg = c.dbg := rfl
@[simp] theorem Chip.arm_snap : (c.arm k t).snap = c.snap := rfl
@[simp] theorem Chip.arm_sent : (c.arm k t).sent = c.sent := rfl
@[simp] theorem Chip.arm_freeCtr : (c.arm k t).freeCtr = c.freeCtr := rfl
end

/-! disarm. -/

section
variable (c : Chip) (k : Nat)
@[simp] theorem Chip.disarm_now : (c.disarm k).now = c.now := rfl
@[simp] theorem Chip.disarm_datum : (c.disarm k).datum = c.datum := rfl
@[simp] theorem Chip.disarm_rateAcc : (c.disarm k).rateAcc = c.rateAcc := rfl
@[simp] theorem Chip.disarm_regs : (c.disarm k).regs = c.regs := rfl
@[simp] theorem Chip.disarm_pulses : (c.disarm k).pulses = c.pulses := rfl
@[simp] theorem Chip.disarm_irqs : (c.disarm k).irqs = c.irqs := rfl
@[simp] theorem Chip.disarm_inForce : (c.disarm k).inForce = c.inForce := rfl
@[simp] theorem Chip.disarm_ewBy : (c.disarm k).ewBy = c.ewBy := rfl
@[simp] theorem Chip.disarm_paths : (c.disarm k).paths = c.paths := rfl
@[simp] theorem Chip.disarm_timers : (c.disarm k).timers = mapSet c.timers k 0 := rfl
@[simp] theorem Chip.disarm_plumb : (c.disarm k).plumb = c.plumb := rfl
@[simp] theorem Chip.disarm_mram : (c.disarm k).mram = c.mram := rfl
@[simp] theorem Chip.disarm_flash : (c.disarm k).flash = c.flash := rfl
@[simp] theorem Chip.disarm_fbk : (c.disarm k).fbk = c.fbk := rfl
@[simp] theorem Chip.disarm_twin : (c.disarm k).twin = c.twin := rfl
@[simp] theorem Chip.disarm_ports : (c.disarm k).ports = c.ports := rfl
@[simp] theorem Chip.disarm_stages : (c.disarm k).stages = c.stages := rfl
@[simp] theorem Chip.disarm_engines : (c.disarm k).engines = c.engines := rfl
@[simp] theorem Chip.disarm_laws : (c.disarm k).laws = c.laws := rfl
@[simp] theorem Chip.disarm_secs : (c.disarm k).secs = c.secs := rfl
@[simp] theorem Chip.disarm_caps : (c.disarm k).caps = c.caps := rfl
@[simp] theorem Chip.disarm_strs : (c.disarm k).strs = c.strs := rfl
@[simp] theorem Chip.disarm_feeders : (c.disarm k).feeders = c.feeders := rfl
@[simp] theorem Chip.disarm_cals : (c.disarm k).cals = c.cals := rfl
@[simp] theorem Chip.disarm_fab : (c.disarm k).fab = c.fab := rfl
@[simp] theorem Chip.disarm_arb : (c.disarm k).arb = c.arb := rfl
@[simp] theorem Chip.disarm_wcap : (c.disarm k).wcap = c.wcap := rfl
@[simp] theorem Chip.disarm_host : (c.disarm k).host = c.host := rfl
@[simp] theorem Chip.disarm_iics : (c.disarm k).iics = c.iics := rfl
@[simp] theorem Chip.disarm_fwu : (c.disarm k).fwu = c.fwu := rfl
@[simp] theorem Chip.disarm_dbg : (c.disarm k).dbg = c.dbg := rfl
@[simp] theorem Chip.disarm_snap : (c.disarm k).snap = c.snap := rfl
@[simp] theorem Chip.disarm_sent : (c.disarm k).sent = c.sent := rfl
@[simp] theorem Chip.disarm_freeCtr : (c.disarm k).freeCtr = c.freeCtr := rfl
end

/-! setPort. -/

section
variable (c : Chip) (p : Nat) (v : PortSt)
@[simp] theorem Chip.setPort_now : (c.setPort p v).now = c.now := rfl
@[simp] theorem Chip.setPort_datum : (c.setPort p v).datum = c.datum := rfl
@[simp] theorem Chip.setPort_rateAcc : (c.setPort p v).rateAcc = c.rateAcc := rfl
@[simp] theorem Chip.setPort_regs : (c.setPort p v).regs = c.regs := rfl
@[simp] theorem Chip.setPort_pulses : (c.setPort p v).pulses = c.pulses := rfl
@[simp] theorem Chip.setPort_irqs : (c.setPort p v).irqs = c.irqs := rfl
@[simp] theorem Chip.setPort_inForce : (c.setPort p v).inForce = c.inForce := rfl
@[simp] theorem Chip.setPort_ewBy : (c.setPort p v).ewBy = c.ewBy := rfl
@[simp] theorem Chip.setPort_paths : (c.setPort p v).paths = c.paths := rfl
@[simp] theorem Chip.setPort_timers : (c.setPort p v).timers = c.timers := rfl
@[simp] theorem Chip.setPort_plumb : (c.setPort p v).plumb = c.plumb := rfl
@[simp] theorem Chip.setPort_mram : (c.setPort p v).mram = c.mram := rfl
@[simp] theorem Chip.setPort_flash : (c.setPort p v).flash = c.flash := rfl
@[simp] theorem Chip.setPort_fbk : (c.setPort p v).fbk = c.fbk := rfl
@[simp] theorem Chip.setPort_twin : (c.setPort p v).twin = c.twin := rfl
@[simp] theorem Chip.setPort_ports : (c.setPort p v).ports = mapSet c.ports p v := rfl
@[simp] theorem Chip.setPort_stages : (c.setPort p v).stages = c.stages := rfl
@[simp] theorem Chip.setPort_engines : (c.setPort p v).engines = c.engines := rfl
@[simp] theorem Chip.setPort_laws : (c.setPort p v).laws = c.laws := rfl
@[simp] theorem Chip.setPort_secs : (c.setPort p v).secs = c.secs := rfl
@[simp] theorem Chip.setPort_caps : (c.setPort p v).caps = c.caps := rfl
@[simp] theorem Chip.setPort_strs : (c.setPort p v).strs = c.strs := rfl
@[simp] theorem Chip.setPort_feeders : (c.setPort p v).feeders = c.feeders := rfl
@[simp] theorem Chip.setPort_cals : (c.setPort p v).cals = c.cals := rfl
@[simp] theorem Chip.setPort_fab : (c.setPort p v).fab = c.fab := rfl
@[simp] theorem Chip.setPort_arb : (c.setPort p v).arb = c.arb := rfl
@[simp] theorem Chip.setPort_wcap : (c.setPort p v).wcap = c.wcap := rfl
@[simp] theorem Chip.setPort_host : (c.setPort p v).host = c.host := rfl
@[simp] theorem Chip.setPort_iics : (c.setPort p v).iics = c.iics := rfl
@[simp] theorem Chip.setPort_fwu : (c.setPort p v).fwu = c.fwu := rfl
@[simp] theorem Chip.setPort_dbg : (c.setPort p v).dbg = c.dbg := rfl
@[simp] theorem Chip.setPort_snap : (c.setPort p v).snap = c.snap := rfl
@[simp] theorem Chip.setPort_sent : (c.setPort p v).sent = c.sent := rfl
@[simp] theorem Chip.setPort_freeCtr : (c.setPort p v).freeCtr = c.freeCtr := rfl
end

/-! modPort. -/

section
variable (c : Chip) (p : Nat) (f : PortSt → PortSt)
@[simp] theorem Chip.modPort_now : (c.modPort p f).now = c.now := rfl
@[simp] theorem Chip.modPort_datum : (c.modPort p f).datum = c.datum := rfl
@[simp] theorem Chip.modPort_rateAcc : (c.modPort p f).rateAcc = c.rateAcc := rfl
@[simp] theorem Chip.modPort_regs : (c.modPort p f).regs = c.regs := rfl
@[simp] theorem Chip.modPort_pulses : (c.modPort p f).pulses = c.pulses := rfl
@[simp] theorem Chip.modPort_irqs : (c.modPort p f).irqs = c.irqs := rfl
@[simp] theorem Chip.modPort_inForce : (c.modPort p f).inForce = c.inForce := rfl
@[simp] theorem Chip.modPort_ewBy : (c.modPort p f).ewBy = c.ewBy := rfl
@[simp] theorem Chip.modPort_paths : (c.modPort p f).paths = c.paths := rfl
@[simp] theorem Chip.modPort_timers : (c.modPort p f).timers = c.timers := rfl
@[simp] theorem Chip.modPort_plumb : (c.modPort p f).plumb = c.plumb := rfl
@[simp] theorem Chip.modPort_mram : (c.modPort p f).mram = c.mram := rfl
@[simp] theorem Chip.modPort_flash : (c.modPort p f).flash = c.flash := rfl
@[simp] theorem Chip.modPort_fbk : (c.modPort p f).fbk = c.fbk := rfl
@[simp] theorem Chip.modPort_twin : (c.modPort p f).twin = c.twin := rfl
@[simp] theorem Chip.modPort_ports : (c.modPort p f).ports = mapMod c.ports p {} f := rfl
@[simp] theorem Chip.modPort_stages : (c.modPort p f).stages = c.stages := rfl
@[simp] theorem Chip.modPort_engines : (c.modPort p f).engines = c.engines := rfl
@[simp] theorem Chip.modPort_laws : (c.modPort p f).laws = c.laws := rfl
@[simp] theorem Chip.modPort_secs : (c.modPort p f).secs = c.secs := rfl
@[simp] theorem Chip.modPort_caps : (c.modPort p f).caps = c.caps := rfl
@[simp] theorem Chip.modPort_strs : (c.modPort p f).strs = c.strs := rfl
@[simp] theorem Chip.modPort_feeders : (c.modPort p f).feeders = c.feeders := rfl
@[simp] theorem Chip.modPort_cals : (c.modPort p f).cals = c.cals := rfl
@[simp] theorem Chip.modPort_fab : (c.modPort p f).fab = c.fab := rfl
@[simp] theorem Chip.modPort_arb : (c.modPort p f).arb = c.arb := rfl
@[simp] theorem Chip.modPort_wcap : (c.modPort p f).wcap = c.wcap := rfl
@[simp] theorem Chip.modPort_host : (c.modPort p f).host = c.host := rfl
@[simp] theorem Chip.modPort_iics : (c.modPort p f).iics = c.iics := rfl
@[simp] theorem Chip.modPort_fwu : (c.modPort p f).fwu = c.fwu := rfl
@[simp] theorem Chip.modPort_dbg : (c.modPort p f).dbg = c.dbg := rfl
@[simp] theorem Chip.modPort_snap : (c.modPort p f).snap = c.snap := rfl
@[simp] theorem Chip.modPort_sent : (c.modPort p f).sent = c.sent := rfl
@[simp] theorem Chip.modPort_freeCtr : (c.modPort p f).freeCtr = c.freeCtr := rfl
end

/-! setStage. -/

section
variable (c : Chip) (p : Nat) (v : StageEnd)
@[simp] theorem Chip.setStage_now : (c.setStage p v).now = c.now := rfl
@[simp] theorem Chip.setStage_datum : (c.setStage p v).datum = c.datum := rfl
@[simp] theorem Chip.setStage_rateAcc : (c.setStage p v).rateAcc = c.rateAcc := rfl
@[simp] theorem Chip.setStage_regs : (c.setStage p v).regs = c.regs := rfl
@[simp] theorem Chip.setStage_pulses : (c.setStage p v).pulses = c.pulses := rfl
@[simp] theorem Chip.setStage_irqs : (c.setStage p v).irqs = c.irqs := rfl
@[simp] theorem Chip.setStage_inForce : (c.setStage p v).inForce = c.inForce := rfl
@[simp] theorem Chip.setStage_ewBy : (c.setStage p v).ewBy = c.ewBy := rfl
@[simp] theorem Chip.setStage_paths : (c.setStage p v).paths = c.paths := rfl
@[simp] theorem Chip.setStage_timers : (c.setStage p v).timers = c.timers := rfl
@[simp] theorem Chip.setStage_plumb : (c.setStage p v).plumb = c.plumb := rfl
@[simp] theorem Chip.setStage_mram : (c.setStage p v).mram = c.mram := rfl
@[simp] theorem Chip.setStage_flash : (c.setStage p v).flash = c.flash := rfl
@[simp] theorem Chip.setStage_fbk : (c.setStage p v).fbk = c.fbk := rfl
@[simp] theorem Chip.setStage_twin : (c.setStage p v).twin = c.twin := rfl
@[simp] theorem Chip.setStage_ports : (c.setStage p v).ports = c.ports := rfl
@[simp] theorem Chip.setStage_stages : (c.setStage p v).stages = mapSet c.stages p v := rfl
@[simp] theorem Chip.setStage_engines : (c.setStage p v).engines = c.engines := rfl
@[simp] theorem Chip.setStage_laws : (c.setStage p v).laws = c.laws := rfl
@[simp] theorem Chip.setStage_secs : (c.setStage p v).secs = c.secs := rfl
@[simp] theorem Chip.setStage_caps : (c.setStage p v).caps = c.caps := rfl
@[simp] theorem Chip.setStage_strs : (c.setStage p v).strs = c.strs := rfl
@[simp] theorem Chip.setStage_feeders : (c.setStage p v).feeders = c.feeders := rfl
@[simp] theorem Chip.setStage_cals : (c.setStage p v).cals = c.cals := rfl
@[simp] theorem Chip.setStage_fab : (c.setStage p v).fab = c.fab := rfl
@[simp] theorem Chip.setStage_arb : (c.setStage p v).arb = c.arb := rfl
@[simp] theorem Chip.setStage_wcap : (c.setStage p v).wcap = c.wcap := rfl
@[simp] theorem Chip.setStage_host : (c.setStage p v).host = c.host := rfl
@[simp] theorem Chip.setStage_iics : (c.setStage p v).iics = c.iics := rfl
@[simp] theorem Chip.setStage_fwu : (c.setStage p v).fwu = c.fwu := rfl
@[simp] theorem Chip.setStage_dbg : (c.setStage p v).dbg = c.dbg := rfl
@[simp] theorem Chip.setStage_snap : (c.setStage p v).snap = c.snap := rfl
@[simp] theorem Chip.setStage_sent : (c.setStage p v).sent = c.sent := rfl
@[simp] theorem Chip.setStage_freeCtr : (c.setStage p v).freeCtr = c.freeCtr := rfl
end

/-! modStage. -/

section
variable (c : Chip) (p : Nat) (f : StageEnd → StageEnd)
@[simp] theorem Chip.modStage_now : (c.modStage p f).now = c.now := rfl
@[simp] theorem Chip.modStage_datum : (c.modStage p f).datum = c.datum := rfl
@[simp] theorem Chip.modStage_rateAcc : (c.modStage p f).rateAcc = c.rateAcc := rfl
@[simp] theorem Chip.modStage_regs : (c.modStage p f).regs = c.regs := rfl
@[simp] theorem Chip.modStage_pulses : (c.modStage p f).pulses = c.pulses := rfl
@[simp] theorem Chip.modStage_irqs : (c.modStage p f).irqs = c.irqs := rfl
@[simp] theorem Chip.modStage_inForce : (c.modStage p f).inForce = c.inForce := rfl
@[simp] theorem Chip.modStage_ewBy : (c.modStage p f).ewBy = c.ewBy := rfl
@[simp] theorem Chip.modStage_paths : (c.modStage p f).paths = c.paths := rfl
@[simp] theorem Chip.modStage_timers : (c.modStage p f).timers = c.timers := rfl
@[simp] theorem Chip.modStage_plumb : (c.modStage p f).plumb = c.plumb := rfl
@[simp] theorem Chip.modStage_mram : (c.modStage p f).mram = c.mram := rfl
@[simp] theorem Chip.modStage_flash : (c.modStage p f).flash = c.flash := rfl
@[simp] theorem Chip.modStage_fbk : (c.modStage p f).fbk = c.fbk := rfl
@[simp] theorem Chip.modStage_twin : (c.modStage p f).twin = c.twin := rfl
@[simp] theorem Chip.modStage_ports : (c.modStage p f).ports = c.ports := rfl
@[simp] theorem Chip.modStage_stages : (c.modStage p f).stages = mapMod c.stages p {} f := rfl
@[simp] theorem Chip.modStage_engines : (c.modStage p f).engines = c.engines := rfl
@[simp] theorem Chip.modStage_laws : (c.modStage p f).laws = c.laws := rfl
@[simp] theorem Chip.modStage_secs : (c.modStage p f).secs = c.secs := rfl
@[simp] theorem Chip.modStage_caps : (c.modStage p f).caps = c.caps := rfl
@[simp] theorem Chip.modStage_strs : (c.modStage p f).strs = c.strs := rfl
@[simp] theorem Chip.modStage_feeders : (c.modStage p f).feeders = c.feeders := rfl
@[simp] theorem Chip.modStage_cals : (c.modStage p f).cals = c.cals := rfl
@[simp] theorem Chip.modStage_fab : (c.modStage p f).fab = c.fab := rfl
@[simp] theorem Chip.modStage_arb : (c.modStage p f).arb = c.arb := rfl
@[simp] theorem Chip.modStage_wcap : (c.modStage p f).wcap = c.wcap := rfl
@[simp] theorem Chip.modStage_host : (c.modStage p f).host = c.host := rfl
@[simp] theorem Chip.modStage_iics : (c.modStage p f).iics = c.iics := rfl
@[simp] theorem Chip.modStage_fwu : (c.modStage p f).fwu = c.fwu := rfl
@[simp] theorem Chip.modStage_dbg : (c.modStage p f).dbg = c.dbg := rfl
@[simp] theorem Chip.modStage_snap : (c.modStage p f).snap = c.snap := rfl
@[simp] theorem Chip.modStage_sent : (c.modStage p f).sent = c.sent := rfl
@[simp] theorem Chip.modStage_freeCtr : (c.modStage p f).freeCtr = c.freeCtr := rfl
end

/-! setEng. -/

section
variable (c : Chip) (p : Nat) (v : EngSt)
@[simp] theorem Chip.setEng_now : (c.setEng p v).now = c.now := rfl
@[simp] theorem Chip.setEng_datum : (c.setEng p v).datum = c.datum := rfl
@[simp] theorem Chip.setEng_rateAcc : (c.setEng p v).rateAcc = c.rateAcc := rfl
@[simp] theorem Chip.setEng_regs : (c.setEng p v).regs = c.regs := rfl
@[simp] theorem Chip.setEng_pulses : (c.setEng p v).pulses = c.pulses := rfl
@[simp] theorem Chip.setEng_irqs : (c.setEng p v).irqs = c.irqs := rfl
@[simp] theorem Chip.setEng_inForce : (c.setEng p v).inForce = c.inForce := rfl
@[simp] theorem Chip.setEng_ewBy : (c.setEng p v).ewBy = c.ewBy := rfl
@[simp] theorem Chip.setEng_paths : (c.setEng p v).paths = c.paths := rfl
@[simp] theorem Chip.setEng_timers : (c.setEng p v).timers = c.timers := rfl
@[simp] theorem Chip.setEng_plumb : (c.setEng p v).plumb = c.plumb := rfl
@[simp] theorem Chip.setEng_mram : (c.setEng p v).mram = c.mram := rfl
@[simp] theorem Chip.setEng_flash : (c.setEng p v).flash = c.flash := rfl
@[simp] theorem Chip.setEng_fbk : (c.setEng p v).fbk = c.fbk := rfl
@[simp] theorem Chip.setEng_twin : (c.setEng p v).twin = c.twin := rfl
@[simp] theorem Chip.setEng_ports : (c.setEng p v).ports = c.ports := rfl
@[simp] theorem Chip.setEng_stages : (c.setEng p v).stages = c.stages := rfl
@[simp] theorem Chip.setEng_engines : (c.setEng p v).engines = mapSet c.engines p v := rfl
@[simp] theorem Chip.setEng_laws : (c.setEng p v).laws = c.laws := rfl
@[simp] theorem Chip.setEng_secs : (c.setEng p v).secs = c.secs := rfl
@[simp] theorem Chip.setEng_caps : (c.setEng p v).caps = c.caps := rfl
@[simp] theorem Chip.setEng_strs : (c.setEng p v).strs = c.strs := rfl
@[simp] theorem Chip.setEng_feeders : (c.setEng p v).feeders = c.feeders := rfl
@[simp] theorem Chip.setEng_cals : (c.setEng p v).cals = c.cals := rfl
@[simp] theorem Chip.setEng_fab : (c.setEng p v).fab = c.fab := rfl
@[simp] theorem Chip.setEng_arb : (c.setEng p v).arb = c.arb := rfl
@[simp] theorem Chip.setEng_wcap : (c.setEng p v).wcap = c.wcap := rfl
@[simp] theorem Chip.setEng_host : (c.setEng p v).host = c.host := rfl
@[simp] theorem Chip.setEng_iics : (c.setEng p v).iics = c.iics := rfl
@[simp] theorem Chip.setEng_fwu : (c.setEng p v).fwu = c.fwu := rfl
@[simp] theorem Chip.setEng_dbg : (c.setEng p v).dbg = c.dbg := rfl
@[simp] theorem Chip.setEng_snap : (c.setEng p v).snap = c.snap := rfl
@[simp] theorem Chip.setEng_sent : (c.setEng p v).sent = c.sent := rfl
@[simp] theorem Chip.setEng_freeCtr : (c.setEng p v).freeCtr = c.freeCtr := rfl
end

/-! modEng. -/

section
variable (c : Chip) (p : Nat) (f : EngSt → EngSt)
@[simp] theorem Chip.modEng_now : (c.modEng p f).now = c.now := rfl
@[simp] theorem Chip.modEng_datum : (c.modEng p f).datum = c.datum := rfl
@[simp] theorem Chip.modEng_rateAcc : (c.modEng p f).rateAcc = c.rateAcc := rfl
@[simp] theorem Chip.modEng_regs : (c.modEng p f).regs = c.regs := rfl
@[simp] theorem Chip.modEng_pulses : (c.modEng p f).pulses = c.pulses := rfl
@[simp] theorem Chip.modEng_irqs : (c.modEng p f).irqs = c.irqs := rfl
@[simp] theorem Chip.modEng_inForce : (c.modEng p f).inForce = c.inForce := rfl
@[simp] theorem Chip.modEng_ewBy : (c.modEng p f).ewBy = c.ewBy := rfl
@[simp] theorem Chip.modEng_paths : (c.modEng p f).paths = c.paths := rfl
@[simp] theorem Chip.modEng_timers : (c.modEng p f).timers = c.timers := rfl
@[simp] theorem Chip.modEng_plumb : (c.modEng p f).plumb = c.plumb := rfl
@[simp] theorem Chip.modEng_mram : (c.modEng p f).mram = c.mram := rfl
@[simp] theorem Chip.modEng_flash : (c.modEng p f).flash = c.flash := rfl
@[simp] theorem Chip.modEng_fbk : (c.modEng p f).fbk = c.fbk := rfl
@[simp] theorem Chip.modEng_twin : (c.modEng p f).twin = c.twin := rfl
@[simp] theorem Chip.modEng_ports : (c.modEng p f).ports = c.ports := rfl
@[simp] theorem Chip.modEng_stages : (c.modEng p f).stages = c.stages := rfl
@[simp] theorem Chip.modEng_engines : (c.modEng p f).engines = mapMod c.engines p {} f := rfl
@[simp] theorem Chip.modEng_laws : (c.modEng p f).laws = c.laws := rfl
@[simp] theorem Chip.modEng_secs : (c.modEng p f).secs = c.secs := rfl
@[simp] theorem Chip.modEng_caps : (c.modEng p f).caps = c.caps := rfl
@[simp] theorem Chip.modEng_strs : (c.modEng p f).strs = c.strs := rfl
@[simp] theorem Chip.modEng_feeders : (c.modEng p f).feeders = c.feeders := rfl
@[simp] theorem Chip.modEng_cals : (c.modEng p f).cals = c.cals := rfl
@[simp] theorem Chip.modEng_fab : (c.modEng p f).fab = c.fab := rfl
@[simp] theorem Chip.modEng_arb : (c.modEng p f).arb = c.arb := rfl
@[simp] theorem Chip.modEng_wcap : (c.modEng p f).wcap = c.wcap := rfl
@[simp] theorem Chip.modEng_host : (c.modEng p f).host = c.host := rfl
@[simp] theorem Chip.modEng_iics : (c.modEng p f).iics = c.iics := rfl
@[simp] theorem Chip.modEng_fwu : (c.modEng p f).fwu = c.fwu := rfl
@[simp] theorem Chip.modEng_dbg : (c.modEng p f).dbg = c.dbg := rfl
@[simp] theorem Chip.modEng_snap : (c.modEng p f).snap = c.snap := rfl
@[simp] theorem Chip.modEng_sent : (c.modEng p f).sent = c.sent := rfl
@[simp] theorem Chip.modEng_freeCtr : (c.modEng p f).freeCtr = c.freeCtr := rfl
end

/-! setLaw. -/

section
variable (c : Chip) (p : Nat) (v : LawSt)
@[simp] theorem Chip.setLaw_now : (c.setLaw p v).now = c.now := rfl
@[simp] theorem Chip.setLaw_datum : (c.setLaw p v).datum = c.datum := rfl
@[simp] theorem Chip.setLaw_rateAcc : (c.setLaw p v).rateAcc = c.rateAcc := rfl
@[simp] theorem Chip.setLaw_regs : (c.setLaw p v).regs = c.regs := rfl
@[simp] theorem Chip.setLaw_pulses : (c.setLaw p v).pulses = c.pulses := rfl
@[simp] theorem Chip.setLaw_irqs : (c.setLaw p v).irqs = c.irqs := rfl
@[simp] theorem Chip.setLaw_inForce : (c.setLaw p v).inForce = c.inForce := rfl
@[simp] theorem Chip.setLaw_ewBy : (c.setLaw p v).ewBy = c.ewBy := rfl
@[simp] theorem Chip.setLaw_paths : (c.setLaw p v).paths = c.paths := rfl
@[simp] theorem Chip.setLaw_timers : (c.setLaw p v).timers = c.timers := rfl
@[simp] theorem Chip.setLaw_plumb : (c.setLaw p v).plumb = c.plumb := rfl
@[simp] theorem Chip.setLaw_mram : (c.setLaw p v).mram = c.mram := rfl
@[simp] theorem Chip.setLaw_flash : (c.setLaw p v).flash = c.flash := rfl
@[simp] theorem Chip.setLaw_fbk : (c.setLaw p v).fbk = c.fbk := rfl
@[simp] theorem Chip.setLaw_twin : (c.setLaw p v).twin = c.twin := rfl
@[simp] theorem Chip.setLaw_ports : (c.setLaw p v).ports = c.ports := rfl
@[simp] theorem Chip.setLaw_stages : (c.setLaw p v).stages = c.stages := rfl
@[simp] theorem Chip.setLaw_engines : (c.setLaw p v).engines = c.engines := rfl
@[simp] theorem Chip.setLaw_laws : (c.setLaw p v).laws = mapSet c.laws p v := rfl
@[simp] theorem Chip.setLaw_secs : (c.setLaw p v).secs = c.secs := rfl
@[simp] theorem Chip.setLaw_caps : (c.setLaw p v).caps = c.caps := rfl
@[simp] theorem Chip.setLaw_strs : (c.setLaw p v).strs = c.strs := rfl
@[simp] theorem Chip.setLaw_feeders : (c.setLaw p v).feeders = c.feeders := rfl
@[simp] theorem Chip.setLaw_cals : (c.setLaw p v).cals = c.cals := rfl
@[simp] theorem Chip.setLaw_fab : (c.setLaw p v).fab = c.fab := rfl
@[simp] theorem Chip.setLaw_arb : (c.setLaw p v).arb = c.arb := rfl
@[simp] theorem Chip.setLaw_wcap : (c.setLaw p v).wcap = c.wcap := rfl
@[simp] theorem Chip.setLaw_host : (c.setLaw p v).host = c.host := rfl
@[simp] theorem Chip.setLaw_iics : (c.setLaw p v).iics = c.iics := rfl
@[simp] theorem Chip.setLaw_fwu : (c.setLaw p v).fwu = c.fwu := rfl
@[simp] theorem Chip.setLaw_dbg : (c.setLaw p v).dbg = c.dbg := rfl
@[simp] theorem Chip.setLaw_snap : (c.setLaw p v).snap = c.snap := rfl
@[simp] theorem Chip.setLaw_sent : (c.setLaw p v).sent = c.sent := rfl
@[simp] theorem Chip.setLaw_freeCtr : (c.setLaw p v).freeCtr = c.freeCtr := rfl
end

/-! modLaw. -/

section
variable (c : Chip) (p : Nat) (f : LawSt → LawSt)
@[simp] theorem Chip.modLaw_now : (c.modLaw p f).now = c.now := rfl
@[simp] theorem Chip.modLaw_datum : (c.modLaw p f).datum = c.datum := rfl
@[simp] theorem Chip.modLaw_rateAcc : (c.modLaw p f).rateAcc = c.rateAcc := rfl
@[simp] theorem Chip.modLaw_regs : (c.modLaw p f).regs = c.regs := rfl
@[simp] theorem Chip.modLaw_pulses : (c.modLaw p f).pulses = c.pulses := rfl
@[simp] theorem Chip.modLaw_irqs : (c.modLaw p f).irqs = c.irqs := rfl
@[simp] theorem Chip.modLaw_inForce : (c.modLaw p f).inForce = c.inForce := rfl
@[simp] theorem Chip.modLaw_ewBy : (c.modLaw p f).ewBy = c.ewBy := rfl
@[simp] theorem Chip.modLaw_paths : (c.modLaw p f).paths = c.paths := rfl
@[simp] theorem Chip.modLaw_timers : (c.modLaw p f).timers = c.timers := rfl
@[simp] theorem Chip.modLaw_plumb : (c.modLaw p f).plumb = c.plumb := rfl
@[simp] theorem Chip.modLaw_mram : (c.modLaw p f).mram = c.mram := rfl
@[simp] theorem Chip.modLaw_flash : (c.modLaw p f).flash = c.flash := rfl
@[simp] theorem Chip.modLaw_fbk : (c.modLaw p f).fbk = c.fbk := rfl
@[simp] theorem Chip.modLaw_twin : (c.modLaw p f).twin = c.twin := rfl
@[simp] theorem Chip.modLaw_ports : (c.modLaw p f).ports = c.ports := rfl
@[simp] theorem Chip.modLaw_stages : (c.modLaw p f).stages = c.stages := rfl
@[simp] theorem Chip.modLaw_engines : (c.modLaw p f).engines = c.engines := rfl
@[simp] theorem Chip.modLaw_laws : (c.modLaw p f).laws = mapMod c.laws p {} f := rfl
@[simp] theorem Chip.modLaw_secs : (c.modLaw p f).secs = c.secs := rfl
@[simp] theorem Chip.modLaw_caps : (c.modLaw p f).caps = c.caps := rfl
@[simp] theorem Chip.modLaw_strs : (c.modLaw p f).strs = c.strs := rfl
@[simp] theorem Chip.modLaw_feeders : (c.modLaw p f).feeders = c.feeders := rfl
@[simp] theorem Chip.modLaw_cals : (c.modLaw p f).cals = c.cals := rfl
@[simp] theorem Chip.modLaw_fab : (c.modLaw p f).fab = c.fab := rfl
@[simp] theorem Chip.modLaw_arb : (c.modLaw p f).arb = c.arb := rfl
@[simp] theorem Chip.modLaw_wcap : (c.modLaw p f).wcap = c.wcap := rfl
@[simp] theorem Chip.modLaw_host : (c.modLaw p f).host = c.host := rfl
@[simp] theorem Chip.modLaw_iics : (c.modLaw p f).iics = c.iics := rfl
@[simp] theorem Chip.modLaw_fwu : (c.modLaw p f).fwu = c.fwu := rfl
@[simp] theorem Chip.modLaw_dbg : (c.modLaw p f).dbg = c.dbg := rfl
@[simp] theorem Chip.modLaw_snap : (c.modLaw p f).snap = c.snap := rfl
@[simp] theorem Chip.modLaw_sent : (c.modLaw p f).sent = c.sent := rfl
@[simp] theorem Chip.modLaw_freeCtr : (c.modLaw p f).freeCtr = c.freeCtr := rfl
end

/-! setSec. -/

section
variable (c : Chip) (p : Nat) (v : SecSt)
@[simp] theorem Chip.setSec_now : (c.setSec p v).now = c.now := rfl
@[simp] theorem Chip.setSec_datum : (c.setSec p v).datum = c.datum := rfl
@[simp] theorem Chip.setSec_rateAcc : (c.setSec p v).rateAcc = c.rateAcc := rfl
@[simp] theorem Chip.setSec_regs : (c.setSec p v).regs = c.regs := rfl
@[simp] theorem Chip.setSec_pulses : (c.setSec p v).pulses = c.pulses := rfl
@[simp] theorem Chip.setSec_irqs : (c.setSec p v).irqs = c.irqs := rfl
@[simp] theorem Chip.setSec_inForce : (c.setSec p v).inForce = c.inForce := rfl
@[simp] theorem Chip.setSec_ewBy : (c.setSec p v).ewBy = c.ewBy := rfl
@[simp] theorem Chip.setSec_paths : (c.setSec p v).paths = c.paths := rfl
@[simp] theorem Chip.setSec_timers : (c.setSec p v).timers = c.timers := rfl
@[simp] theorem Chip.setSec_plumb : (c.setSec p v).plumb = c.plumb := rfl
@[simp] theorem Chip.setSec_mram : (c.setSec p v).mram = c.mram := rfl
@[simp] theorem Chip.setSec_flash : (c.setSec p v).flash = c.flash := rfl
@[simp] theorem Chip.setSec_fbk : (c.setSec p v).fbk = c.fbk := rfl
@[simp] theorem Chip.setSec_twin : (c.setSec p v).twin = c.twin := rfl
@[simp] theorem Chip.setSec_ports : (c.setSec p v).ports = c.ports := rfl
@[simp] theorem Chip.setSec_stages : (c.setSec p v).stages = c.stages := rfl
@[simp] theorem Chip.setSec_engines : (c.setSec p v).engines = c.engines := rfl
@[simp] theorem Chip.setSec_laws : (c.setSec p v).laws = c.laws := rfl
@[simp] theorem Chip.setSec_secs : (c.setSec p v).secs = mapSet c.secs p v := rfl
@[simp] theorem Chip.setSec_caps : (c.setSec p v).caps = c.caps := rfl
@[simp] theorem Chip.setSec_strs : (c.setSec p v).strs = c.strs := rfl
@[simp] theorem Chip.setSec_feeders : (c.setSec p v).feeders = c.feeders := rfl
@[simp] theorem Chip.setSec_cals : (c.setSec p v).cals = c.cals := rfl
@[simp] theorem Chip.setSec_fab : (c.setSec p v).fab = c.fab := rfl
@[simp] theorem Chip.setSec_arb : (c.setSec p v).arb = c.arb := rfl
@[simp] theorem Chip.setSec_wcap : (c.setSec p v).wcap = c.wcap := rfl
@[simp] theorem Chip.setSec_host : (c.setSec p v).host = c.host := rfl
@[simp] theorem Chip.setSec_iics : (c.setSec p v).iics = c.iics := rfl
@[simp] theorem Chip.setSec_fwu : (c.setSec p v).fwu = c.fwu := rfl
@[simp] theorem Chip.setSec_dbg : (c.setSec p v).dbg = c.dbg := rfl
@[simp] theorem Chip.setSec_snap : (c.setSec p v).snap = c.snap := rfl
@[simp] theorem Chip.setSec_sent : (c.setSec p v).sent = c.sent := rfl
@[simp] theorem Chip.setSec_freeCtr : (c.setSec p v).freeCtr = c.freeCtr := rfl
end

/-! modSec. -/

section
variable (c : Chip) (p : Nat) (f : SecSt → SecSt)
@[simp] theorem Chip.modSec_now : (c.modSec p f).now = c.now := rfl
@[simp] theorem Chip.modSec_datum : (c.modSec p f).datum = c.datum := rfl
@[simp] theorem Chip.modSec_rateAcc : (c.modSec p f).rateAcc = c.rateAcc := rfl
@[simp] theorem Chip.modSec_regs : (c.modSec p f).regs = c.regs := rfl
@[simp] theorem Chip.modSec_pulses : (c.modSec p f).pulses = c.pulses := rfl
@[simp] theorem Chip.modSec_irqs : (c.modSec p f).irqs = c.irqs := rfl
@[simp] theorem Chip.modSec_inForce : (c.modSec p f).inForce = c.inForce := rfl
@[simp] theorem Chip.modSec_ewBy : (c.modSec p f).ewBy = c.ewBy := rfl
@[simp] theorem Chip.modSec_paths : (c.modSec p f).paths = c.paths := rfl
@[simp] theorem Chip.modSec_timers : (c.modSec p f).timers = c.timers := rfl
@[simp] theorem Chip.modSec_plumb : (c.modSec p f).plumb = c.plumb := rfl
@[simp] theorem Chip.modSec_mram : (c.modSec p f).mram = c.mram := rfl
@[simp] theorem Chip.modSec_flash : (c.modSec p f).flash = c.flash := rfl
@[simp] theorem Chip.modSec_fbk : (c.modSec p f).fbk = c.fbk := rfl
@[simp] theorem Chip.modSec_twin : (c.modSec p f).twin = c.twin := rfl
@[simp] theorem Chip.modSec_ports : (c.modSec p f).ports = c.ports := rfl
@[simp] theorem Chip.modSec_stages : (c.modSec p f).stages = c.stages := rfl
@[simp] theorem Chip.modSec_engines : (c.modSec p f).engines = c.engines := rfl
@[simp] theorem Chip.modSec_laws : (c.modSec p f).laws = c.laws := rfl
@[simp] theorem Chip.modSec_secs : (c.modSec p f).secs = mapMod c.secs p {} f := rfl
@[simp] theorem Chip.modSec_caps : (c.modSec p f).caps = c.caps := rfl
@[simp] theorem Chip.modSec_strs : (c.modSec p f).strs = c.strs := rfl
@[simp] theorem Chip.modSec_feeders : (c.modSec p f).feeders = c.feeders := rfl
@[simp] theorem Chip.modSec_cals : (c.modSec p f).cals = c.cals := rfl
@[simp] theorem Chip.modSec_fab : (c.modSec p f).fab = c.fab := rfl
@[simp] theorem Chip.modSec_arb : (c.modSec p f).arb = c.arb := rfl
@[simp] theorem Chip.modSec_wcap : (c.modSec p f).wcap = c.wcap := rfl
@[simp] theorem Chip.modSec_host : (c.modSec p f).host = c.host := rfl
@[simp] theorem Chip.modSec_iics : (c.modSec p f).iics = c.iics := rfl
@[simp] theorem Chip.modSec_fwu : (c.modSec p f).fwu = c.fwu := rfl
@[simp] theorem Chip.modSec_dbg : (c.modSec p f).dbg = c.dbg := rfl
@[simp] theorem Chip.modSec_snap : (c.modSec p f).snap = c.snap := rfl
@[simp] theorem Chip.modSec_sent : (c.modSec p f).sent = c.sent := rfl
@[simp] theorem Chip.modSec_freeCtr : (c.modSec p f).freeCtr = c.freeCtr := rfl
end

/-! setCap. -/

section
variable (c : Chip) (p : Nat) (v : CapSt)
@[simp] theorem Chip.setCap_now : (c.setCap p v).now = c.now := rfl
@[simp] theorem Chip.setCap_datum : (c.setCap p v).datum = c.datum := rfl
@[simp] theorem Chip.setCap_rateAcc : (c.setCap p v).rateAcc = c.rateAcc := rfl
@[simp] theorem Chip.setCap_regs : (c.setCap p v).regs = c.regs := rfl
@[simp] theorem Chip.setCap_pulses : (c.setCap p v).pulses = c.pulses := rfl
@[simp] theorem Chip.setCap_irqs : (c.setCap p v).irqs = c.irqs := rfl
@[simp] theorem Chip.setCap_inForce : (c.setCap p v).inForce = c.inForce := rfl
@[simp] theorem Chip.setCap_ewBy : (c.setCap p v).ewBy = c.ewBy := rfl
@[simp] theorem Chip.setCap_paths : (c.setCap p v).paths = c.paths := rfl
@[simp] theorem Chip.setCap_timers : (c.setCap p v).timers = c.timers := rfl
@[simp] theorem Chip.setCap_plumb : (c.setCap p v).plumb = c.plumb := rfl
@[simp] theorem Chip.setCap_mram : (c.setCap p v).mram = c.mram := rfl
@[simp] theorem Chip.setCap_flash : (c.setCap p v).flash = c.flash := rfl
@[simp] theorem Chip.setCap_fbk : (c.setCap p v).fbk = c.fbk := rfl
@[simp] theorem Chip.setCap_twin : (c.setCap p v).twin = c.twin := rfl
@[simp] theorem Chip.setCap_ports : (c.setCap p v).ports = c.ports := rfl
@[simp] theorem Chip.setCap_stages : (c.setCap p v).stages = c.stages := rfl
@[simp] theorem Chip.setCap_engines : (c.setCap p v).engines = c.engines := rfl
@[simp] theorem Chip.setCap_laws : (c.setCap p v).laws = c.laws := rfl
@[simp] theorem Chip.setCap_secs : (c.setCap p v).secs = c.secs := rfl
@[simp] theorem Chip.setCap_caps : (c.setCap p v).caps = mapSet c.caps p v := rfl
@[simp] theorem Chip.setCap_strs : (c.setCap p v).strs = c.strs := rfl
@[simp] theorem Chip.setCap_feeders : (c.setCap p v).feeders = c.feeders := rfl
@[simp] theorem Chip.setCap_cals : (c.setCap p v).cals = c.cals := rfl
@[simp] theorem Chip.setCap_fab : (c.setCap p v).fab = c.fab := rfl
@[simp] theorem Chip.setCap_arb : (c.setCap p v).arb = c.arb := rfl
@[simp] theorem Chip.setCap_wcap : (c.setCap p v).wcap = c.wcap := rfl
@[simp] theorem Chip.setCap_host : (c.setCap p v).host = c.host := rfl
@[simp] theorem Chip.setCap_iics : (c.setCap p v).iics = c.iics := rfl
@[simp] theorem Chip.setCap_fwu : (c.setCap p v).fwu = c.fwu := rfl
@[simp] theorem Chip.setCap_dbg : (c.setCap p v).dbg = c.dbg := rfl
@[simp] theorem Chip.setCap_snap : (c.setCap p v).snap = c.snap := rfl
@[simp] theorem Chip.setCap_sent : (c.setCap p v).sent = c.sent := rfl
@[simp] theorem Chip.setCap_freeCtr : (c.setCap p v).freeCtr = c.freeCtr := rfl
end

/-! modCap. -/

section
variable (c : Chip) (p : Nat) (f : CapSt → CapSt)
@[simp] theorem Chip.modCap_now : (c.modCap p f).now = c.now := rfl
@[simp] theorem Chip.modCap_datum : (c.modCap p f).datum = c.datum := rfl
@[simp] theorem Chip.modCap_rateAcc : (c.modCap p f).rateAcc = c.rateAcc := rfl
@[simp] theorem Chip.modCap_regs : (c.modCap p f).regs = c.regs := rfl
@[simp] theorem Chip.modCap_pulses : (c.modCap p f).pulses = c.pulses := rfl
@[simp] theorem Chip.modCap_irqs : (c.modCap p f).irqs = c.irqs := rfl
@[simp] theorem Chip.modCap_inForce : (c.modCap p f).inForce = c.inForce := rfl
@[simp] theorem Chip.modCap_ewBy : (c.modCap p f).ewBy = c.ewBy := rfl
@[simp] theorem Chip.modCap_paths : (c.modCap p f).paths = c.paths := rfl
@[simp] theorem Chip.modCap_timers : (c.modCap p f).timers = c.timers := rfl
@[simp] theorem Chip.modCap_plumb : (c.modCap p f).plumb = c.plumb := rfl
@[simp] theorem Chip.modCap_mram : (c.modCap p f).mram = c.mram := rfl
@[simp] theorem Chip.modCap_flash : (c.modCap p f).flash = c.flash := rfl
@[simp] theorem Chip.modCap_fbk : (c.modCap p f).fbk = c.fbk := rfl
@[simp] theorem Chip.modCap_twin : (c.modCap p f).twin = c.twin := rfl
@[simp] theorem Chip.modCap_ports : (c.modCap p f).ports = c.ports := rfl
@[simp] theorem Chip.modCap_stages : (c.modCap p f).stages = c.stages := rfl
@[simp] theorem Chip.modCap_engines : (c.modCap p f).engines = c.engines := rfl
@[simp] theorem Chip.modCap_laws : (c.modCap p f).laws = c.laws := rfl
@[simp] theorem Chip.modCap_secs : (c.modCap p f).secs = c.secs := rfl
@[simp] theorem Chip.modCap_caps : (c.modCap p f).caps = mapMod c.caps p {} f := rfl
@[simp] theorem Chip.modCap_strs : (c.modCap p f).strs = c.strs := rfl
@[simp] theorem Chip.modCap_feeders : (c.modCap p f).feeders = c.feeders := rfl
@[simp] theorem Chip.modCap_cals : (c.modCap p f).cals = c.cals := rfl
@[simp] theorem Chip.modCap_fab : (c.modCap p f).fab = c.fab := rfl
@[simp] theorem Chip.modCap_arb : (c.modCap p f).arb = c.arb := rfl
@[simp] theorem Chip.modCap_wcap : (c.modCap p f).wcap = c.wcap := rfl
@[simp] theorem Chip.modCap_host : (c.modCap p f).host = c.host := rfl
@[simp] theorem Chip.modCap_iics : (c.modCap p f).iics = c.iics := rfl
@[simp] theorem Chip.modCap_fwu : (c.modCap p f).fwu = c.fwu := rfl
@[simp] theorem Chip.modCap_dbg : (c.modCap p f).dbg = c.dbg := rfl
@[simp] theorem Chip.modCap_snap : (c.modCap p f).snap = c.snap := rfl
@[simp] theorem Chip.modCap_sent : (c.modCap p f).sent = c.sent := rfl
@[simp] theorem Chip.modCap_freeCtr : (c.modCap p f).freeCtr = c.freeCtr := rfl
end

/-! setStr. -/

section
variable (c : Chip) (p : Nat) (v : StrSt)
@[simp] theorem Chip.setStr_now : (c.setStr p v).now = c.now := rfl
@[simp] theorem Chip.setStr_datum : (c.setStr p v).datum = c.datum := rfl
@[simp] theorem Chip.setStr_rateAcc : (c.setStr p v).rateAcc = c.rateAcc := rfl
@[simp] theorem Chip.setStr_regs : (c.setStr p v).regs = c.regs := rfl
@[simp] theorem Chip.setStr_pulses : (c.setStr p v).pulses = c.pulses := rfl
@[simp] theorem Chip.setStr_irqs : (c.setStr p v).irqs = c.irqs := rfl
@[simp] theorem Chip.setStr_inForce : (c.setStr p v).inForce = c.inForce := rfl
@[simp] theorem Chip.setStr_ewBy : (c.setStr p v).ewBy = c.ewBy := rfl
@[simp] theorem Chip.setStr_paths : (c.setStr p v).paths = c.paths := rfl
@[simp] theorem Chip.setStr_timers : (c.setStr p v).timers = c.timers := rfl
@[simp] theorem Chip.setStr_plumb : (c.setStr p v).plumb = c.plumb := rfl
@[simp] theorem Chip.setStr_mram : (c.setStr p v).mram = c.mram := rfl
@[simp] theorem Chip.setStr_flash : (c.setStr p v).flash = c.flash := rfl
@[simp] theorem Chip.setStr_fbk : (c.setStr p v).fbk = c.fbk := rfl
@[simp] theorem Chip.setStr_twin : (c.setStr p v).twin = c.twin := rfl
@[simp] theorem Chip.setStr_ports : (c.setStr p v).ports = c.ports := rfl
@[simp] theorem Chip.setStr_stages : (c.setStr p v).stages = c.stages := rfl
@[simp] theorem Chip.setStr_engines : (c.setStr p v).engines = c.engines := rfl
@[simp] theorem Chip.setStr_laws : (c.setStr p v).laws = c.laws := rfl
@[simp] theorem Chip.setStr_secs : (c.setStr p v).secs = c.secs := rfl
@[simp] theorem Chip.setStr_caps : (c.setStr p v).caps = c.caps := rfl
@[simp] theorem Chip.setStr_strs : (c.setStr p v).strs = mapSet c.strs p v := rfl
@[simp] theorem Chip.setStr_feeders : (c.setStr p v).feeders = c.feeders := rfl
@[simp] theorem Chip.setStr_cals : (c.setStr p v).cals = c.cals := rfl
@[simp] theorem Chip.setStr_fab : (c.setStr p v).fab = c.fab := rfl
@[simp] theorem Chip.setStr_arb : (c.setStr p v).arb = c.arb := rfl
@[simp] theorem Chip.setStr_wcap : (c.setStr p v).wcap = c.wcap := rfl
@[simp] theorem Chip.setStr_host : (c.setStr p v).host = c.host := rfl
@[simp] theorem Chip.setStr_iics : (c.setStr p v).iics = c.iics := rfl
@[simp] theorem Chip.setStr_fwu : (c.setStr p v).fwu = c.fwu := rfl
@[simp] theorem Chip.setStr_dbg : (c.setStr p v).dbg = c.dbg := rfl
@[simp] theorem Chip.setStr_snap : (c.setStr p v).snap = c.snap := rfl
@[simp] theorem Chip.setStr_sent : (c.setStr p v).sent = c.sent := rfl
@[simp] theorem Chip.setStr_freeCtr : (c.setStr p v).freeCtr = c.freeCtr := rfl
end

/-! modStr. -/

section
variable (c : Chip) (p : Nat) (f : StrSt → StrSt)
@[simp] theorem Chip.modStr_now : (c.modStr p f).now = c.now := rfl
@[simp] theorem Chip.modStr_datum : (c.modStr p f).datum = c.datum := rfl
@[simp] theorem Chip.modStr_rateAcc : (c.modStr p f).rateAcc = c.rateAcc := rfl
@[simp] theorem Chip.modStr_regs : (c.modStr p f).regs = c.regs := rfl
@[simp] theorem Chip.modStr_pulses : (c.modStr p f).pulses = c.pulses := rfl
@[simp] theorem Chip.modStr_irqs : (c.modStr p f).irqs = c.irqs := rfl
@[simp] theorem Chip.modStr_inForce : (c.modStr p f).inForce = c.inForce := rfl
@[simp] theorem Chip.modStr_ewBy : (c.modStr p f).ewBy = c.ewBy := rfl
@[simp] theorem Chip.modStr_paths : (c.modStr p f).paths = c.paths := rfl
@[simp] theorem Chip.modStr_timers : (c.modStr p f).timers = c.timers := rfl
@[simp] theorem Chip.modStr_plumb : (c.modStr p f).plumb = c.plumb := rfl
@[simp] theorem Chip.modStr_mram : (c.modStr p f).mram = c.mram := rfl
@[simp] theorem Chip.modStr_flash : (c.modStr p f).flash = c.flash := rfl
@[simp] theorem Chip.modStr_fbk : (c.modStr p f).fbk = c.fbk := rfl
@[simp] theorem Chip.modStr_twin : (c.modStr p f).twin = c.twin := rfl
@[simp] theorem Chip.modStr_ports : (c.modStr p f).ports = c.ports := rfl
@[simp] theorem Chip.modStr_stages : (c.modStr p f).stages = c.stages := rfl
@[simp] theorem Chip.modStr_engines : (c.modStr p f).engines = c.engines := rfl
@[simp] theorem Chip.modStr_laws : (c.modStr p f).laws = c.laws := rfl
@[simp] theorem Chip.modStr_secs : (c.modStr p f).secs = c.secs := rfl
@[simp] theorem Chip.modStr_caps : (c.modStr p f).caps = c.caps := rfl
@[simp] theorem Chip.modStr_strs : (c.modStr p f).strs = mapMod c.strs p {} f := rfl
@[simp] theorem Chip.modStr_feeders : (c.modStr p f).feeders = c.feeders := rfl
@[simp] theorem Chip.modStr_cals : (c.modStr p f).cals = c.cals := rfl
@[simp] theorem Chip.modStr_fab : (c.modStr p f).fab = c.fab := rfl
@[simp] theorem Chip.modStr_arb : (c.modStr p f).arb = c.arb := rfl
@[simp] theorem Chip.modStr_wcap : (c.modStr p f).wcap = c.wcap := rfl
@[simp] theorem Chip.modStr_host : (c.modStr p f).host = c.host := rfl
@[simp] theorem Chip.modStr_iics : (c.modStr p f).iics = c.iics := rfl
@[simp] theorem Chip.modStr_fwu : (c.modStr p f).fwu = c.fwu := rfl
@[simp] theorem Chip.modStr_dbg : (c.modStr p f).dbg = c.dbg := rfl
@[simp] theorem Chip.modStr_snap : (c.modStr p f).snap = c.snap := rfl
@[simp] theorem Chip.modStr_sent : (c.modStr p f).sent = c.sent := rfl
@[simp] theorem Chip.modStr_freeCtr : (c.modStr p f).freeCtr = c.freeCtr := rfl
end

/-! setFd. -/

section
variable (c : Chip) (p : Nat) (v : FdSt)
@[simp] theorem Chip.setFd_now : (c.setFd p v).now = c.now := rfl
@[simp] theorem Chip.setFd_datum : (c.setFd p v).datum = c.datum := rfl
@[simp] theorem Chip.setFd_rateAcc : (c.setFd p v).rateAcc = c.rateAcc := rfl
@[simp] theorem Chip.setFd_regs : (c.setFd p v).regs = c.regs := rfl
@[simp] theorem Chip.setFd_pulses : (c.setFd p v).pulses = c.pulses := rfl
@[simp] theorem Chip.setFd_irqs : (c.setFd p v).irqs = c.irqs := rfl
@[simp] theorem Chip.setFd_inForce : (c.setFd p v).inForce = c.inForce := rfl
@[simp] theorem Chip.setFd_ewBy : (c.setFd p v).ewBy = c.ewBy := rfl
@[simp] theorem Chip.setFd_paths : (c.setFd p v).paths = c.paths := rfl
@[simp] theorem Chip.setFd_timers : (c.setFd p v).timers = c.timers := rfl
@[simp] theorem Chip.setFd_plumb : (c.setFd p v).plumb = c.plumb := rfl
@[simp] theorem Chip.setFd_mram : (c.setFd p v).mram = c.mram := rfl
@[simp] theorem Chip.setFd_flash : (c.setFd p v).flash = c.flash := rfl
@[simp] theorem Chip.setFd_fbk : (c.setFd p v).fbk = c.fbk := rfl
@[simp] theorem Chip.setFd_twin : (c.setFd p v).twin = c.twin := rfl
@[simp] theorem Chip.setFd_ports : (c.setFd p v).ports = c.ports := rfl
@[simp] theorem Chip.setFd_stages : (c.setFd p v).stages = c.stages := rfl
@[simp] theorem Chip.setFd_engines : (c.setFd p v).engines = c.engines := rfl
@[simp] theorem Chip.setFd_laws : (c.setFd p v).laws = c.laws := rfl
@[simp] theorem Chip.setFd_secs : (c.setFd p v).secs = c.secs := rfl
@[simp] theorem Chip.setFd_caps : (c.setFd p v).caps = c.caps := rfl
@[simp] theorem Chip.setFd_strs : (c.setFd p v).strs = c.strs := rfl
@[simp] theorem Chip.setFd_feeders : (c.setFd p v).feeders = mapSet c.feeders p v := rfl
@[simp] theorem Chip.setFd_cals : (c.setFd p v).cals = c.cals := rfl
@[simp] theorem Chip.setFd_fab : (c.setFd p v).fab = c.fab := rfl
@[simp] theorem Chip.setFd_arb : (c.setFd p v).arb = c.arb := rfl
@[simp] theorem Chip.setFd_wcap : (c.setFd p v).wcap = c.wcap := rfl
@[simp] theorem Chip.setFd_host : (c.setFd p v).host = c.host := rfl
@[simp] theorem Chip.setFd_iics : (c.setFd p v).iics = c.iics := rfl
@[simp] theorem Chip.setFd_fwu : (c.setFd p v).fwu = c.fwu := rfl
@[simp] theorem Chip.setFd_dbg : (c.setFd p v).dbg = c.dbg := rfl
@[simp] theorem Chip.setFd_snap : (c.setFd p v).snap = c.snap := rfl
@[simp] theorem Chip.setFd_sent : (c.setFd p v).sent = c.sent := rfl
@[simp] theorem Chip.setFd_freeCtr : (c.setFd p v).freeCtr = c.freeCtr := rfl
end

/-! modFd. -/

section
variable (c : Chip) (p : Nat) (f : FdSt → FdSt)
@[simp] theorem Chip.modFd_now : (c.modFd p f).now = c.now := rfl
@[simp] theorem Chip.modFd_datum : (c.modFd p f).datum = c.datum := rfl
@[simp] theorem Chip.modFd_rateAcc : (c.modFd p f).rateAcc = c.rateAcc := rfl
@[simp] theorem Chip.modFd_regs : (c.modFd p f).regs = c.regs := rfl
@[simp] theorem Chip.modFd_pulses : (c.modFd p f).pulses = c.pulses := rfl
@[simp] theorem Chip.modFd_irqs : (c.modFd p f).irqs = c.irqs := rfl
@[simp] theorem Chip.modFd_inForce : (c.modFd p f).inForce = c.inForce := rfl
@[simp] theorem Chip.modFd_ewBy : (c.modFd p f).ewBy = c.ewBy := rfl
@[simp] theorem Chip.modFd_paths : (c.modFd p f).paths = c.paths := rfl
@[simp] theorem Chip.modFd_timers : (c.modFd p f).timers = c.timers := rfl
@[simp] theorem Chip.modFd_plumb : (c.modFd p f).plumb = c.plumb := rfl
@[simp] theorem Chip.modFd_mram : (c.modFd p f).mram = c.mram := rfl
@[simp] theorem Chip.modFd_flash : (c.modFd p f).flash = c.flash := rfl
@[simp] theorem Chip.modFd_fbk : (c.modFd p f).fbk = c.fbk := rfl
@[simp] theorem Chip.modFd_twin : (c.modFd p f).twin = c.twin := rfl
@[simp] theorem Chip.modFd_ports : (c.modFd p f).ports = c.ports := rfl
@[simp] theorem Chip.modFd_stages : (c.modFd p f).stages = c.stages := rfl
@[simp] theorem Chip.modFd_engines : (c.modFd p f).engines = c.engines := rfl
@[simp] theorem Chip.modFd_laws : (c.modFd p f).laws = c.laws := rfl
@[simp] theorem Chip.modFd_secs : (c.modFd p f).secs = c.secs := rfl
@[simp] theorem Chip.modFd_caps : (c.modFd p f).caps = c.caps := rfl
@[simp] theorem Chip.modFd_strs : (c.modFd p f).strs = c.strs := rfl
@[simp] theorem Chip.modFd_feeders : (c.modFd p f).feeders = mapMod c.feeders p {} f := rfl
@[simp] theorem Chip.modFd_cals : (c.modFd p f).cals = c.cals := rfl
@[simp] theorem Chip.modFd_fab : (c.modFd p f).fab = c.fab := rfl
@[simp] theorem Chip.modFd_arb : (c.modFd p f).arb = c.arb := rfl
@[simp] theorem Chip.modFd_wcap : (c.modFd p f).wcap = c.wcap := rfl
@[simp] theorem Chip.modFd_host : (c.modFd p f).host = c.host := rfl
@[simp] theorem Chip.modFd_iics : (c.modFd p f).iics = c.iics := rfl
@[simp] theorem Chip.modFd_fwu : (c.modFd p f).fwu = c.fwu := rfl
@[simp] theorem Chip.modFd_dbg : (c.modFd p f).dbg = c.dbg := rfl
@[simp] theorem Chip.modFd_snap : (c.modFd p f).snap = c.snap := rfl
@[simp] theorem Chip.modFd_sent : (c.modFd p f).sent = c.sent := rfl
@[simp] theorem Chip.modFd_freeCtr : (c.modFd p f).freeCtr = c.freeCtr := rfl
end

/-! setCal. -/

section
variable (c : Chip) (p : Nat) (v : CalSt)
@[simp] theorem Chip.setCal_now : (c.setCal p v).now = c.now := rfl
@[simp] theorem Chip.setCal_datum : (c.setCal p v).datum = c.datum := rfl
@[simp] theorem Chip.setCal_rateAcc : (c.setCal p v).rateAcc = c.rateAcc := rfl
@[simp] theorem Chip.setCal_regs : (c.setCal p v).regs = c.regs := rfl
@[simp] theorem Chip.setCal_pulses : (c.setCal p v).pulses = c.pulses := rfl
@[simp] theorem Chip.setCal_irqs : (c.setCal p v).irqs = c.irqs := rfl
@[simp] theorem Chip.setCal_inForce : (c.setCal p v).inForce = c.inForce := rfl
@[simp] theorem Chip.setCal_ewBy : (c.setCal p v).ewBy = c.ewBy := rfl
@[simp] theorem Chip.setCal_paths : (c.setCal p v).paths = c.paths := rfl
@[simp] theorem Chip.setCal_timers : (c.setCal p v).timers = c.timers := rfl
@[simp] theorem Chip.setCal_plumb : (c.setCal p v).plumb = c.plumb := rfl
@[simp] theorem Chip.setCal_mram : (c.setCal p v).mram = c.mram := rfl
@[simp] theorem Chip.setCal_flash : (c.setCal p v).flash = c.flash := rfl
@[simp] theorem Chip.setCal_fbk : (c.setCal p v).fbk = c.fbk := rfl
@[simp] theorem Chip.setCal_twin : (c.setCal p v).twin = c.twin := rfl
@[simp] theorem Chip.setCal_ports : (c.setCal p v).ports = c.ports := rfl
@[simp] theorem Chip.setCal_stages : (c.setCal p v).stages = c.stages := rfl
@[simp] theorem Chip.setCal_engines : (c.setCal p v).engines = c.engines := rfl
@[simp] theorem Chip.setCal_laws : (c.setCal p v).laws = c.laws := rfl
@[simp] theorem Chip.setCal_secs : (c.setCal p v).secs = c.secs := rfl
@[simp] theorem Chip.setCal_caps : (c.setCal p v).caps = c.caps := rfl
@[simp] theorem Chip.setCal_strs : (c.setCal p v).strs = c.strs := rfl
@[simp] theorem Chip.setCal_feeders : (c.setCal p v).feeders = c.feeders := rfl
@[simp] theorem Chip.setCal_cals : (c.setCal p v).cals = mapSet c.cals p v := rfl
@[simp] theorem Chip.setCal_fab : (c.setCal p v).fab = c.fab := rfl
@[simp] theorem Chip.setCal_arb : (c.setCal p v).arb = c.arb := rfl
@[simp] theorem Chip.setCal_wcap : (c.setCal p v).wcap = c.wcap := rfl
@[simp] theorem Chip.setCal_host : (c.setCal p v).host = c.host := rfl
@[simp] theorem Chip.setCal_iics : (c.setCal p v).iics = c.iics := rfl
@[simp] theorem Chip.setCal_fwu : (c.setCal p v).fwu = c.fwu := rfl
@[simp] theorem Chip.setCal_dbg : (c.setCal p v).dbg = c.dbg := rfl
@[simp] theorem Chip.setCal_snap : (c.setCal p v).snap = c.snap := rfl
@[simp] theorem Chip.setCal_sent : (c.setCal p v).sent = c.sent := rfl
@[simp] theorem Chip.setCal_freeCtr : (c.setCal p v).freeCtr = c.freeCtr := rfl
end

/-! modCal. -/

section
variable (c : Chip) (p : Nat) (f : CalSt → CalSt)
@[simp] theorem Chip.modCal_now : (c.modCal p f).now = c.now := rfl
@[simp] theorem Chip.modCal_datum : (c.modCal p f).datum = c.datum := rfl
@[simp] theorem Chip.modCal_rateAcc : (c.modCal p f).rateAcc = c.rateAcc := rfl
@[simp] theorem Chip.modCal_regs : (c.modCal p f).regs = c.regs := rfl
@[simp] theorem Chip.modCal_pulses : (c.modCal p f).pulses = c.pulses := rfl
@[simp] theorem Chip.modCal_irqs : (c.modCal p f).irqs = c.irqs := rfl
@[simp] theorem Chip.modCal_inForce : (c.modCal p f).inForce = c.inForce := rfl
@[simp] theorem Chip.modCal_ewBy : (c.modCal p f).ewBy = c.ewBy := rfl
@[simp] theorem Chip.modCal_paths : (c.modCal p f).paths = c.paths := rfl
@[simp] theorem Chip.modCal_timers : (c.modCal p f).timers = c.timers := rfl
@[simp] theorem Chip.modCal_plumb : (c.modCal p f).plumb = c.plumb := rfl
@[simp] theorem Chip.modCal_mram : (c.modCal p f).mram = c.mram := rfl
@[simp] theorem Chip.modCal_flash : (c.modCal p f).flash = c.flash := rfl
@[simp] theorem Chip.modCal_fbk : (c.modCal p f).fbk = c.fbk := rfl
@[simp] theorem Chip.modCal_twin : (c.modCal p f).twin = c.twin := rfl
@[simp] theorem Chip.modCal_ports : (c.modCal p f).ports = c.ports := rfl
@[simp] theorem Chip.modCal_stages : (c.modCal p f).stages = c.stages := rfl
@[simp] theorem Chip.modCal_engines : (c.modCal p f).engines = c.engines := rfl
@[simp] theorem Chip.modCal_laws : (c.modCal p f).laws = c.laws := rfl
@[simp] theorem Chip.modCal_secs : (c.modCal p f).secs = c.secs := rfl
@[simp] theorem Chip.modCal_caps : (c.modCal p f).caps = c.caps := rfl
@[simp] theorem Chip.modCal_strs : (c.modCal p f).strs = c.strs := rfl
@[simp] theorem Chip.modCal_feeders : (c.modCal p f).feeders = c.feeders := rfl
@[simp] theorem Chip.modCal_cals : (c.modCal p f).cals = mapMod c.cals p {} f := rfl
@[simp] theorem Chip.modCal_fab : (c.modCal p f).fab = c.fab := rfl
@[simp] theorem Chip.modCal_arb : (c.modCal p f).arb = c.arb := rfl
@[simp] theorem Chip.modCal_wcap : (c.modCal p f).wcap = c.wcap := rfl
@[simp] theorem Chip.modCal_host : (c.modCal p f).host = c.host := rfl
@[simp] theorem Chip.modCal_iics : (c.modCal p f).iics = c.iics := rfl
@[simp] theorem Chip.modCal_fwu : (c.modCal p f).fwu = c.fwu := rfl
@[simp] theorem Chip.modCal_dbg : (c.modCal p f).dbg = c.dbg := rfl
@[simp] theorem Chip.modCal_snap : (c.modCal p f).snap = c.snap := rfl
@[simp] theorem Chip.modCal_sent : (c.modCal p f).sent = c.sent := rfl
@[simp] theorem Chip.modCal_freeCtr : (c.modCal p f).freeCtr = c.freeCtr := rfl
end

/-! setWset. -/

section
variable (c : Chip) (p : Nat) (v : WcSet)
@[simp] theorem Chip.setWset_now : (c.setWset p v).now = c.now := rfl
@[simp] theorem Chip.setWset_datum : (c.setWset p v).datum = c.datum := rfl
@[simp] theorem Chip.setWset_rateAcc : (c.setWset p v).rateAcc = c.rateAcc := rfl
@[simp] theorem Chip.setWset_regs : (c.setWset p v).regs = c.regs := rfl
@[simp] theorem Chip.setWset_pulses : (c.setWset p v).pulses = c.pulses := rfl
@[simp] theorem Chip.setWset_irqs : (c.setWset p v).irqs = c.irqs := rfl
@[simp] theorem Chip.setWset_inForce : (c.setWset p v).inForce = c.inForce := rfl
@[simp] theorem Chip.setWset_ewBy : (c.setWset p v).ewBy = c.ewBy := rfl
@[simp] theorem Chip.setWset_paths : (c.setWset p v).paths = c.paths := rfl
@[simp] theorem Chip.setWset_timers : (c.setWset p v).timers = c.timers := rfl
@[simp] theorem Chip.setWset_plumb : (c.setWset p v).plumb = c.plumb := rfl
@[simp] theorem Chip.setWset_mram : (c.setWset p v).mram = c.mram := rfl
@[simp] theorem Chip.setWset_flash : (c.setWset p v).flash = c.flash := rfl
@[simp] theorem Chip.setWset_fbk : (c.setWset p v).fbk = c.fbk := rfl
@[simp] theorem Chip.setWset_twin : (c.setWset p v).twin = c.twin := rfl
@[simp] theorem Chip.setWset_ports : (c.setWset p v).ports = c.ports := rfl
@[simp] theorem Chip.setWset_stages : (c.setWset p v).stages = c.stages := rfl
@[simp] theorem Chip.setWset_engines : (c.setWset p v).engines = c.engines := rfl
@[simp] theorem Chip.setWset_laws : (c.setWset p v).laws = c.laws := rfl
@[simp] theorem Chip.setWset_secs : (c.setWset p v).secs = c.secs := rfl
@[simp] theorem Chip.setWset_caps : (c.setWset p v).caps = c.caps := rfl
@[simp] theorem Chip.setWset_strs : (c.setWset p v).strs = c.strs := rfl
@[simp] theorem Chip.setWset_feeders : (c.setWset p v).feeders = c.feeders := rfl
@[simp] theorem Chip.setWset_cals : (c.setWset p v).cals = c.cals := rfl
@[simp] theorem Chip.setWset_fab : (c.setWset p v).fab = c.fab := rfl
@[simp] theorem Chip.setWset_arb : (c.setWset p v).arb = c.arb := rfl
@[simp] theorem Chip.setWset_wcap : (c.setWset p v).wcap = mapSet c.wcap p v := rfl
@[simp] theorem Chip.setWset_host : (c.setWset p v).host = c.host := rfl
@[simp] theorem Chip.setWset_iics : (c.setWset p v).iics = c.iics := rfl
@[simp] theorem Chip.setWset_fwu : (c.setWset p v).fwu = c.fwu := rfl
@[simp] theorem Chip.setWset_dbg : (c.setWset p v).dbg = c.dbg := rfl
@[simp] theorem Chip.setWset_snap : (c.setWset p v).snap = c.snap := rfl
@[simp] theorem Chip.setWset_sent : (c.setWset p v).sent = c.sent := rfl
@[simp] theorem Chip.setWset_freeCtr : (c.setWset p v).freeCtr = c.freeCtr := rfl
end

/-! modWset. -/

section
variable (c : Chip) (p : Nat) (f : WcSet → WcSet)
@[simp] theorem Chip.modWset_now : (c.modWset p f).now = c.now := rfl
@[simp] theorem Chip.modWset_datum : (c.modWset p f).datum = c.datum := rfl
@[simp] theorem Chip.modWset_rateAcc : (c.modWset p f).rateAcc = c.rateAcc := rfl
@[simp] theorem Chip.modWset_regs : (c.modWset p f).regs = c.regs := rfl
@[simp] theorem Chip.modWset_pulses : (c.modWset p f).pulses = c.pulses := rfl
@[simp] theorem Chip.modWset_irqs : (c.modWset p f).irqs = c.irqs := rfl
@[simp] theorem Chip.modWset_inForce : (c.modWset p f).inForce = c.inForce := rfl
@[simp] theorem Chip.modWset_ewBy : (c.modWset p f).ewBy = c.ewBy := rfl
@[simp] theorem Chip.modWset_paths : (c.modWset p f).paths = c.paths := rfl
@[simp] theorem Chip.modWset_timers : (c.modWset p f).timers = c.timers := rfl
@[simp] theorem Chip.modWset_plumb : (c.modWset p f).plumb = c.plumb := rfl
@[simp] theorem Chip.modWset_mram : (c.modWset p f).mram = c.mram := rfl
@[simp] theorem Chip.modWset_flash : (c.modWset p f).flash = c.flash := rfl
@[simp] theorem Chip.modWset_fbk : (c.modWset p f).fbk = c.fbk := rfl
@[simp] theorem Chip.modWset_twin : (c.modWset p f).twin = c.twin := rfl
@[simp] theorem Chip.modWset_ports : (c.modWset p f).ports = c.ports := rfl
@[simp] theorem Chip.modWset_stages : (c.modWset p f).stages = c.stages := rfl
@[simp] theorem Chip.modWset_engines : (c.modWset p f).engines = c.engines := rfl
@[simp] theorem Chip.modWset_laws : (c.modWset p f).laws = c.laws := rfl
@[simp] theorem Chip.modWset_secs : (c.modWset p f).secs = c.secs := rfl
@[simp] theorem Chip.modWset_caps : (c.modWset p f).caps = c.caps := rfl
@[simp] theorem Chip.modWset_strs : (c.modWset p f).strs = c.strs := rfl
@[simp] theorem Chip.modWset_feeders : (c.modWset p f).feeders = c.feeders := rfl
@[simp] theorem Chip.modWset_cals : (c.modWset p f).cals = c.cals := rfl
@[simp] theorem Chip.modWset_fab : (c.modWset p f).fab = c.fab := rfl
@[simp] theorem Chip.modWset_arb : (c.modWset p f).arb = c.arb := rfl
@[simp] theorem Chip.modWset_wcap : (c.modWset p f).wcap = mapMod c.wcap p {} f := rfl
@[simp] theorem Chip.modWset_host : (c.modWset p f).host = c.host := rfl
@[simp] theorem Chip.modWset_iics : (c.modWset p f).iics = c.iics := rfl
@[simp] theorem Chip.modWset_fwu : (c.modWset p f).fwu = c.fwu := rfl
@[simp] theorem Chip.modWset_dbg : (c.modWset p f).dbg = c.dbg := rfl
@[simp] theorem Chip.modWset_snap : (c.modWset p f).snap = c.snap := rfl
@[simp] theorem Chip.modWset_sent : (c.modWset p f).sent = c.sent := rfl
@[simp] theorem Chip.modWset_freeCtr : (c.modWset p f).freeCtr = c.freeCtr := rfl
end

/-! setPath. -/

section
variable (c : Chip) (p : Nat) (v : PathSt)
@[simp] theorem Chip.setPath_now : (c.setPath p v).now = c.now := rfl
@[simp] theorem Chip.setPath_datum : (c.setPath p v).datum = c.datum := rfl
@[simp] theorem Chip.setPath_rateAcc : (c.setPath p v).rateAcc = c.rateAcc := rfl
@[simp] theorem Chip.setPath_regs : (c.setPath p v).regs = c.regs := rfl
@[simp] theorem Chip.setPath_pulses : (c.setPath p v).pulses = c.pulses := rfl
@[simp] theorem Chip.setPath_irqs : (c.setPath p v).irqs = c.irqs := rfl
@[simp] theorem Chip.setPath_inForce : (c.setPath p v).inForce = c.inForce := rfl
@[simp] theorem Chip.setPath_ewBy : (c.setPath p v).ewBy = c.ewBy := rfl
@[simp] theorem Chip.setPath_paths : (c.setPath p v).paths = mapSet c.paths p v := rfl
@[simp] theorem Chip.setPath_timers : (c.setPath p v).timers = c.timers := rfl
@[simp] theorem Chip.setPath_plumb : (c.setPath p v).plumb = c.plumb := rfl
@[simp] theorem Chip.setPath_mram : (c.setPath p v).mram = c.mram := rfl
@[simp] theorem Chip.setPath_flash : (c.setPath p v).flash = c.flash := rfl
@[simp] theorem Chip.setPath_fbk : (c.setPath p v).fbk = c.fbk := rfl
@[simp] theorem Chip.setPath_twin : (c.setPath p v).twin = c.twin := rfl
@[simp] theorem Chip.setPath_ports : (c.setPath p v).ports = c.ports := rfl
@[simp] theorem Chip.setPath_stages : (c.setPath p v).stages = c.stages := rfl
@[simp] theorem Chip.setPath_engines : (c.setPath p v).engines = c.engines := rfl
@[simp] theorem Chip.setPath_laws : (c.setPath p v).laws = c.laws := rfl
@[simp] theorem Chip.setPath_secs : (c.setPath p v).secs = c.secs := rfl
@[simp] theorem Chip.setPath_caps : (c.setPath p v).caps = c.caps := rfl
@[simp] theorem Chip.setPath_strs : (c.setPath p v).strs = c.strs := rfl
@[simp] theorem Chip.setPath_feeders : (c.setPath p v).feeders = c.feeders := rfl
@[simp] theorem Chip.setPath_cals : (c.setPath p v).cals = c.cals := rfl
@[simp] theorem Chip.setPath_fab : (c.setPath p v).fab = c.fab := rfl
@[simp] theorem Chip.setPath_arb : (c.setPath p v).arb = c.arb := rfl
@[simp] theorem Chip.setPath_wcap : (c.setPath p v).wcap = c.wcap := rfl
@[simp] theorem Chip.setPath_host : (c.setPath p v).host = c.host := rfl
@[simp] theorem Chip.setPath_iics : (c.setPath p v).iics = c.iics := rfl
@[simp] theorem Chip.setPath_fwu : (c.setPath p v).fwu = c.fwu := rfl
@[simp] theorem Chip.setPath_dbg : (c.setPath p v).dbg = c.dbg := rfl
@[simp] theorem Chip.setPath_snap : (c.setPath p v).snap = c.snap := rfl
@[simp] theorem Chip.setPath_sent : (c.setPath p v).sent = c.sent := rfl
@[simp] theorem Chip.setPath_freeCtr : (c.setPath p v).freeCtr = c.freeCtr := rfl
end

/-! modPath. -/

section
variable (c : Chip) (p : Nat) (f : PathSt → PathSt)
@[simp] theorem Chip.modPath_now : (c.modPath p f).now = c.now := rfl
@[simp] theorem Chip.modPath_datum : (c.modPath p f).datum = c.datum := rfl
@[simp] theorem Chip.modPath_rateAcc : (c.modPath p f).rateAcc = c.rateAcc := rfl
@[simp] theorem Chip.modPath_regs : (c.modPath p f).regs = c.regs := rfl
@[simp] theorem Chip.modPath_pulses : (c.modPath p f).pulses = c.pulses := rfl
@[simp] theorem Chip.modPath_irqs : (c.modPath p f).irqs = c.irqs := rfl
@[simp] theorem Chip.modPath_inForce : (c.modPath p f).inForce = c.inForce := rfl
@[simp] theorem Chip.modPath_ewBy : (c.modPath p f).ewBy = c.ewBy := rfl
@[simp] theorem Chip.modPath_paths : (c.modPath p f).paths = mapMod c.paths p {} f := rfl
@[simp] theorem Chip.modPath_timers : (c.modPath p f).timers = c.timers := rfl
@[simp] theorem Chip.modPath_plumb : (c.modPath p f).plumb = c.plumb := rfl
@[simp] theorem Chip.modPath_mram : (c.modPath p f).mram = c.mram := rfl
@[simp] theorem Chip.modPath_flash : (c.modPath p f).flash = c.flash := rfl
@[simp] theorem Chip.modPath_fbk : (c.modPath p f).fbk = c.fbk := rfl
@[simp] theorem Chip.modPath_twin : (c.modPath p f).twin = c.twin := rfl
@[simp] theorem Chip.modPath_ports : (c.modPath p f).ports = c.ports := rfl
@[simp] theorem Chip.modPath_stages : (c.modPath p f).stages = c.stages := rfl
@[simp] theorem Chip.modPath_engines : (c.modPath p f).engines = c.engines := rfl
@[simp] theorem Chip.modPath_laws : (c.modPath p f).laws = c.laws := rfl
@[simp] theorem Chip.modPath_secs : (c.modPath p f).secs = c.secs := rfl
@[simp] theorem Chip.modPath_caps : (c.modPath p f).caps = c.caps := rfl
@[simp] theorem Chip.modPath_strs : (c.modPath p f).strs = c.strs := rfl
@[simp] theorem Chip.modPath_feeders : (c.modPath p f).feeders = c.feeders := rfl
@[simp] theorem Chip.modPath_cals : (c.modPath p f).cals = c.cals := rfl
@[simp] theorem Chip.modPath_fab : (c.modPath p f).fab = c.fab := rfl
@[simp] theorem Chip.modPath_arb : (c.modPath p f).arb = c.arb := rfl
@[simp] theorem Chip.modPath_wcap : (c.modPath p f).wcap = c.wcap := rfl
@[simp] theorem Chip.modPath_host : (c.modPath p f).host = c.host := rfl
@[simp] theorem Chip.modPath_iics : (c.modPath p f).iics = c.iics := rfl
@[simp] theorem Chip.modPath_fwu : (c.modPath p f).fwu = c.fwu := rfl
@[simp] theorem Chip.modPath_dbg : (c.modPath p f).dbg = c.dbg := rfl
@[simp] theorem Chip.modPath_snap : (c.modPath p f).snap = c.snap := rfl
@[simp] theorem Chip.modPath_sent : (c.modPath p f).sent = c.sent := rfl
@[simp] theorem Chip.modPath_freeCtr : (c.modPath p f).freeCtr = c.freeCtr := rfl
end

/-! setIic. -/

section
variable (c : Chip) (p : Nat) (v : IicSt)
@[simp] theorem Chip.setIic_now : (c.setIic p v).now = c.now := rfl
@[simp] theorem Chip.setIic_datum : (c.setIic p v).datum = c.datum := rfl
@[simp] theorem Chip.setIic_rateAcc : (c.setIic p v).rateAcc = c.rateAcc := rfl
@[simp] theorem Chip.setIic_regs : (c.setIic p v).regs = c.regs := rfl
@[simp] theorem Chip.setIic_pulses : (c.setIic p v).pulses = c.pulses := rfl
@[simp] theorem Chip.setIic_irqs : (c.setIic p v).irqs = c.irqs := rfl
@[simp] theorem Chip.setIic_inForce : (c.setIic p v).inForce = c.inForce := rfl
@[simp] theorem Chip.setIic_ewBy : (c.setIic p v).ewBy = c.ewBy := rfl
@[simp] theorem Chip.setIic_paths : (c.setIic p v).paths = c.paths := rfl
@[simp] theorem Chip.setIic_timers : (c.setIic p v).timers = c.timers := rfl
@[simp] theorem Chip.setIic_plumb : (c.setIic p v).plumb = c.plumb := rfl
@[simp] theorem Chip.setIic_mram : (c.setIic p v).mram = c.mram := rfl
@[simp] theorem Chip.setIic_flash : (c.setIic p v).flash = c.flash := rfl
@[simp] theorem Chip.setIic_fbk : (c.setIic p v).fbk = c.fbk := rfl
@[simp] theorem Chip.setIic_twin : (c.setIic p v).twin = c.twin := rfl
@[simp] theorem Chip.setIic_ports : (c.setIic p v).ports = c.ports := rfl
@[simp] theorem Chip.setIic_stages : (c.setIic p v).stages = c.stages := rfl
@[simp] theorem Chip.setIic_engines : (c.setIic p v).engines = c.engines := rfl
@[simp] theorem Chip.setIic_laws : (c.setIic p v).laws = c.laws := rfl
@[simp] theorem Chip.setIic_secs : (c.setIic p v).secs = c.secs := rfl
@[simp] theorem Chip.setIic_caps : (c.setIic p v).caps = c.caps := rfl
@[simp] theorem Chip.setIic_strs : (c.setIic p v).strs = c.strs := rfl
@[simp] theorem Chip.setIic_feeders : (c.setIic p v).feeders = c.feeders := rfl
@[simp] theorem Chip.setIic_cals : (c.setIic p v).cals = c.cals := rfl
@[simp] theorem Chip.setIic_fab : (c.setIic p v).fab = c.fab := rfl
@[simp] theorem Chip.setIic_arb : (c.setIic p v).arb = c.arb := rfl
@[simp] theorem Chip.setIic_wcap : (c.setIic p v).wcap = c.wcap := rfl
@[simp] theorem Chip.setIic_host : (c.setIic p v).host = c.host := rfl
@[simp] theorem Chip.setIic_iics : (c.setIic p v).iics = mapSet c.iics p v := rfl
@[simp] theorem Chip.setIic_fwu : (c.setIic p v).fwu = c.fwu := rfl
@[simp] theorem Chip.setIic_dbg : (c.setIic p v).dbg = c.dbg := rfl
@[simp] theorem Chip.setIic_snap : (c.setIic p v).snap = c.snap := rfl
@[simp] theorem Chip.setIic_sent : (c.setIic p v).sent = c.sent := rfl
@[simp] theorem Chip.setIic_freeCtr : (c.setIic p v).freeCtr = c.freeCtr := rfl
end

/-! modIic. -/

section
variable (c : Chip) (p : Nat) (f : IicSt → IicSt)
@[simp] theorem Chip.modIic_now : (c.modIic p f).now = c.now := rfl
@[simp] theorem Chip.modIic_datum : (c.modIic p f).datum = c.datum := rfl
@[simp] theorem Chip.modIic_rateAcc : (c.modIic p f).rateAcc = c.rateAcc := rfl
@[simp] theorem Chip.modIic_regs : (c.modIic p f).regs = c.regs := rfl
@[simp] theorem Chip.modIic_pulses : (c.modIic p f).pulses = c.pulses := rfl
@[simp] theorem Chip.modIic_irqs : (c.modIic p f).irqs = c.irqs := rfl
@[simp] theorem Chip.modIic_inForce : (c.modIic p f).inForce = c.inForce := rfl
@[simp] theorem Chip.modIic_ewBy : (c.modIic p f).ewBy = c.ewBy := rfl
@[simp] theorem Chip.modIic_paths : (c.modIic p f).paths = c.paths := rfl
@[simp] theorem Chip.modIic_timers : (c.modIic p f).timers = c.timers := rfl
@[simp] theorem Chip.modIic_plumb : (c.modIic p f).plumb = c.plumb := rfl
@[simp] theorem Chip.modIic_mram : (c.modIic p f).mram = c.mram := rfl
@[simp] theorem Chip.modIic_flash : (c.modIic p f).flash = c.flash := rfl
@[simp] theorem Chip.modIic_fbk : (c.modIic p f).fbk = c.fbk := rfl
@[simp] theorem Chip.modIic_twin : (c.modIic p f).twin = c.twin := rfl
@[simp] theorem Chip.modIic_ports : (c.modIic p f).ports = c.ports := rfl
@[simp] theorem Chip.modIic_stages : (c.modIic p f).stages = c.stages := rfl
@[simp] theorem Chip.modIic_engines : (c.modIic p f).engines = c.engines := rfl
@[simp] theorem Chip.modIic_laws : (c.modIic p f).laws = c.laws := rfl
@[simp] theorem Chip.modIic_secs : (c.modIic p f).secs = c.secs := rfl
@[simp] theorem Chip.modIic_caps : (c.modIic p f).caps = c.caps := rfl
@[simp] theorem Chip.modIic_strs : (c.modIic p f).strs = c.strs := rfl
@[simp] theorem Chip.modIic_feeders : (c.modIic p f).feeders = c.feeders := rfl
@[simp] theorem Chip.modIic_cals : (c.modIic p f).cals = c.cals := rfl
@[simp] theorem Chip.modIic_fab : (c.modIic p f).fab = c.fab := rfl
@[simp] theorem Chip.modIic_arb : (c.modIic p f).arb = c.arb := rfl
@[simp] theorem Chip.modIic_wcap : (c.modIic p f).wcap = c.wcap := rfl
@[simp] theorem Chip.modIic_host : (c.modIic p f).host = c.host := rfl
@[simp] theorem Chip.modIic_iics : (c.modIic p f).iics = mapMod c.iics p {} f := rfl
@[simp] theorem Chip.modIic_fwu : (c.modIic p f).fwu = c.fwu := rfl
@[simp] theorem Chip.modIic_dbg : (c.modIic p f).dbg = c.dbg := rfl
@[simp] theorem Chip.modIic_snap : (c.modIic p f).snap = c.snap := rfl
@[simp] theorem Chip.modIic_sent : (c.modIic p f).sent = c.sent := rfl
@[simp] theorem Chip.modIic_freeCtr : (c.modIic p f).freeCtr = c.freeCtr := rfl
end

/-! modPlumb. -/

section
variable (c : Chip) (f : PlumbSt → PlumbSt)
@[simp] theorem Chip.modPlumb_now : (c.modPlumb f).now = c.now := rfl
@[simp] theorem Chip.modPlumb_datum : (c.modPlumb f).datum = c.datum := rfl
@[simp] theorem Chip.modPlumb_rateAcc : (c.modPlumb f).rateAcc = c.rateAcc := rfl
@[simp] theorem Chip.modPlumb_regs : (c.modPlumb f).regs = c.regs := rfl
@[simp] theorem Chip.modPlumb_pulses : (c.modPlumb f).pulses = c.pulses := rfl
@[simp] theorem Chip.modPlumb_irqs : (c.modPlumb f).irqs = c.irqs := rfl
@[simp] theorem Chip.modPlumb_inForce : (c.modPlumb f).inForce = c.inForce := rfl
@[simp] theorem Chip.modPlumb_ewBy : (c.modPlumb f).ewBy = c.ewBy := rfl
@[simp] theorem Chip.modPlumb_paths : (c.modPlumb f).paths = c.paths := rfl
@[simp] theorem Chip.modPlumb_timers : (c.modPlumb f).timers = c.timers := rfl
@[simp] theorem Chip.modPlumb_plumb : (c.modPlumb f).plumb = f c.plumb := rfl
@[simp] theorem Chip.modPlumb_mram : (c.modPlumb f).mram = c.mram := rfl
@[simp] theorem Chip.modPlumb_flash : (c.modPlumb f).flash = c.flash := rfl
@[simp] theorem Chip.modPlumb_fbk : (c.modPlumb f).fbk = c.fbk := rfl
@[simp] theorem Chip.modPlumb_twin : (c.modPlumb f).twin = c.twin := rfl
@[simp] theorem Chip.modPlumb_ports : (c.modPlumb f).ports = c.ports := rfl
@[simp] theorem Chip.modPlumb_stages : (c.modPlumb f).stages = c.stages := rfl
@[simp] theorem Chip.modPlumb_engines : (c.modPlumb f).engines = c.engines := rfl
@[simp] theorem Chip.modPlumb_laws : (c.modPlumb f).laws = c.laws := rfl
@[simp] theorem Chip.modPlumb_secs : (c.modPlumb f).secs = c.secs := rfl
@[simp] theorem Chip.modPlumb_caps : (c.modPlumb f).caps = c.caps := rfl
@[simp] theorem Chip.modPlumb_strs : (c.modPlumb f).strs = c.strs := rfl
@[simp] theorem Chip.modPlumb_feeders : (c.modPlumb f).feeders = c.feeders := rfl
@[simp] theorem Chip.modPlumb_cals : (c.modPlumb f).cals = c.cals := rfl
@[simp] theorem Chip.modPlumb_fab : (c.modPlumb f).fab = c.fab := rfl
@[simp] theorem Chip.modPlumb_arb : (c.modPlumb f).arb = c.arb := rfl
@[simp] theorem Chip.modPlumb_wcap : (c.modPlumb f).wcap = c.wcap := rfl
@[simp] theorem Chip.modPlumb_host : (c.modPlumb f).host = c.host := rfl
@[simp] theorem Chip.modPlumb_iics : (c.modPlumb f).iics = c.iics := rfl
@[simp] theorem Chip.modPlumb_fwu : (c.modPlumb f).fwu = c.fwu := rfl
@[simp] theorem Chip.modPlumb_dbg : (c.modPlumb f).dbg = c.dbg := rfl
@[simp] theorem Chip.modPlumb_snap : (c.modPlumb f).snap = c.snap := rfl
@[simp] theorem Chip.modPlumb_sent : (c.modPlumb f).sent = c.sent := rfl
@[simp] theorem Chip.modPlumb_freeCtr : (c.modPlumb f).freeCtr = c.freeCtr := rfl
end

/-! modTwin. -/

section
variable (c : Chip) (f : TwinSt → TwinSt)
@[simp] theorem Chip.modTwin_now : (c.modTwin f).now = c.now := rfl
@[simp] theorem Chip.modTwin_datum : (c.modTwin f).datum = c.datum := rfl
@[simp] theorem Chip.modTwin_rateAcc : (c.modTwin f).rateAcc = c.rateAcc := rfl
@[simp] theorem Chip.modTwin_regs : (c.modTwin f).regs = c.regs := rfl
@[simp] theorem Chip.modTwin_pulses : (c.modTwin f).pulses = c.pulses := rfl
@[simp] theorem Chip.modTwin_irqs : (c.modTwin f).irqs = c.irqs := rfl
@[simp] theorem Chip.modTwin_inForce : (c.modTwin f).inForce = c.inForce := rfl
@[simp] theorem Chip.modTwin_ewBy : (c.modTwin f).ewBy = c.ewBy := rfl
@[simp] theorem Chip.modTwin_paths : (c.modTwin f).paths = c.paths := rfl
@[simp] theorem Chip.modTwin_timers : (c.modTwin f).timers = c.timers := rfl
@[simp] theorem Chip.modTwin_plumb : (c.modTwin f).plumb = c.plumb := rfl
@[simp] theorem Chip.modTwin_mram : (c.modTwin f).mram = c.mram := rfl
@[simp] theorem Chip.modTwin_flash : (c.modTwin f).flash = c.flash := rfl
@[simp] theorem Chip.modTwin_fbk : (c.modTwin f).fbk = c.fbk := rfl
@[simp] theorem Chip.modTwin_twin : (c.modTwin f).twin = f c.twin := rfl
@[simp] theorem Chip.modTwin_ports : (c.modTwin f).ports = c.ports := rfl
@[simp] theorem Chip.modTwin_stages : (c.modTwin f).stages = c.stages := rfl
@[simp] theorem Chip.modTwin_engines : (c.modTwin f).engines = c.engines := rfl
@[simp] theorem Chip.modTwin_laws : (c.modTwin f).laws = c.laws := rfl
@[simp] theorem Chip.modTwin_secs : (c.modTwin f).secs = c.secs := rfl
@[simp] theorem Chip.modTwin_caps : (c.modTwin f).caps = c.caps := rfl
@[simp] theorem Chip.modTwin_strs : (c.modTwin f).strs = c.strs := rfl
@[simp] theorem Chip.modTwin_feeders : (c.modTwin f).feeders = c.feeders := rfl
@[simp] theorem Chip.modTwin_cals : (c.modTwin f).cals = c.cals := rfl
@[simp] theorem Chip.modTwin_fab : (c.modTwin f).fab = c.fab := rfl
@[simp] theorem Chip.modTwin_arb : (c.modTwin f).arb = c.arb := rfl
@[simp] theorem Chip.modTwin_wcap : (c.modTwin f).wcap = c.wcap := rfl
@[simp] theorem Chip.modTwin_host : (c.modTwin f).host = c.host := rfl
@[simp] theorem Chip.modTwin_iics : (c.modTwin f).iics = c.iics := rfl
@[simp] theorem Chip.modTwin_fwu : (c.modTwin f).fwu = c.fwu := rfl
@[simp] theorem Chip.modTwin_dbg : (c.modTwin f).dbg = c.dbg := rfl
@[simp] theorem Chip.modTwin_snap : (c.modTwin f).snap = c.snap := rfl
@[simp] theorem Chip.modTwin_sent : (c.modTwin f).sent = c.sent := rfl
@[simp] theorem Chip.modTwin_freeCtr : (c.modTwin f).freeCtr = c.freeCtr := rfl
end

/-! modFab. -/

section
variable (c : Chip) (f : FabSt → FabSt)
@[simp] theorem Chip.modFab_now : (c.modFab f).now = c.now := rfl
@[simp] theorem Chip.modFab_datum : (c.modFab f).datum = c.datum := rfl
@[simp] theorem Chip.modFab_rateAcc : (c.modFab f).rateAcc = c.rateAcc := rfl
@[simp] theorem Chip.modFab_regs : (c.modFab f).regs = c.regs := rfl
@[simp] theorem Chip.modFab_pulses : (c.modFab f).pulses = c.pulses := rfl
@[simp] theorem Chip.modFab_irqs : (c.modFab f).irqs = c.irqs := rfl
@[simp] theorem Chip.modFab_inForce : (c.modFab f).inForce = c.inForce := rfl
@[simp] theorem Chip.modFab_ewBy : (c.modFab f).ewBy = c.ewBy := rfl
@[simp] theorem Chip.modFab_paths : (c.modFab f).paths = c.paths := rfl
@[simp] theorem Chip.modFab_timers : (c.modFab f).timers = c.timers := rfl
@[simp] theorem Chip.modFab_plumb : (c.modFab f).plumb = c.plumb := rfl
@[simp] theorem Chip.modFab_mram : (c.modFab f).mram = c.mram := rfl
@[simp] theorem Chip.modFab_flash : (c.modFab f).flash = c.flash := rfl
@[simp] theorem Chip.modFab_fbk : (c.modFab f).fbk = c.fbk := rfl
@[simp] theorem Chip.modFab_twin : (c.modFab f).twin = c.twin := rfl
@[simp] theorem Chip.modFab_ports : (c.modFab f).ports = c.ports := rfl
@[simp] theorem Chip.modFab_stages : (c.modFab f).stages = c.stages := rfl
@[simp] theorem Chip.modFab_engines : (c.modFab f).engines = c.engines := rfl
@[simp] theorem Chip.modFab_laws : (c.modFab f).laws = c.laws := rfl
@[simp] theorem Chip.modFab_secs : (c.modFab f).secs = c.secs := rfl
@[simp] theorem Chip.modFab_caps : (c.modFab f).caps = c.caps := rfl
@[simp] theorem Chip.modFab_strs : (c.modFab f).strs = c.strs := rfl
@[simp] theorem Chip.modFab_feeders : (c.modFab f).feeders = c.feeders := rfl
@[simp] theorem Chip.modFab_cals : (c.modFab f).cals = c.cals := rfl
@[simp] theorem Chip.modFab_fab : (c.modFab f).fab = f c.fab := rfl
@[simp] theorem Chip.modFab_arb : (c.modFab f).arb = c.arb := rfl
@[simp] theorem Chip.modFab_wcap : (c.modFab f).wcap = c.wcap := rfl
@[simp] theorem Chip.modFab_host : (c.modFab f).host = c.host := rfl
@[simp] theorem Chip.modFab_iics : (c.modFab f).iics = c.iics := rfl
@[simp] theorem Chip.modFab_fwu : (c.modFab f).fwu = c.fwu := rfl
@[simp] theorem Chip.modFab_dbg : (c.modFab f).dbg = c.dbg := rfl
@[simp] theorem Chip.modFab_snap : (c.modFab f).snap = c.snap := rfl
@[simp] theorem Chip.modFab_sent : (c.modFab f).sent = c.sent := rfl
@[simp] theorem Chip.modFab_freeCtr : (c.modFab f).freeCtr = c.freeCtr := rfl
end

/-! modArb. -/

section
variable (c : Chip) (f : ArbSt → ArbSt)
@[simp] theorem Chip.modArb_now : (c.modArb f).now = c.now := rfl
@[simp] theorem Chip.modArb_datum : (c.modArb f).datum = c.datum := rfl
@[simp] theorem Chip.modArb_rateAcc : (c.modArb f).rateAcc = c.rateAcc := rfl
@[simp] theorem Chip.modArb_regs : (c.modArb f).regs = c.regs := rfl
@[simp] theorem Chip.modArb_pulses : (c.modArb f).pulses = c.pulses := rfl
@[simp] theorem Chip.modArb_irqs : (c.modArb f).irqs = c.irqs := rfl
@[simp] theorem Chip.modArb_inForce : (c.modArb f).inForce = c.inForce := rfl
@[simp] theorem Chip.modArb_ewBy : (c.modArb f).ewBy = c.ewBy := rfl
@[simp] theorem Chip.modArb_paths : (c.modArb f).paths = c.paths := rfl
@[simp] theorem Chip.modArb_timers : (c.modArb f).timers = c.timers := rfl
@[simp] theorem Chip.modArb_plumb : (c.modArb f).plumb = c.plumb := rfl
@[simp] theorem Chip.modArb_mram : (c.modArb f).mram = c.mram := rfl
@[simp] theorem Chip.modArb_flash : (c.modArb f).flash = c.flash := rfl
@[simp] theorem Chip.modArb_fbk : (c.modArb f).fbk = c.fbk := rfl
@[simp] theorem Chip.modArb_twin : (c.modArb f).twin = c.twin := rfl
@[simp] theorem Chip.modArb_ports : (c.modArb f).ports = c.ports := rfl
@[simp] theorem Chip.modArb_stages : (c.modArb f).stages = c.stages := rfl
@[simp] theorem Chip.modArb_engines : (c.modArb f).engines = c.engines := rfl
@[simp] theorem Chip.modArb_laws : (c.modArb f).laws = c.laws := rfl
@[simp] theorem Chip.modArb_secs : (c.modArb f).secs = c.secs := rfl
@[simp] theorem Chip.modArb_caps : (c.modArb f).caps = c.caps := rfl
@[simp] theorem Chip.modArb_strs : (c.modArb f).strs = c.strs := rfl
@[simp] theorem Chip.modArb_feeders : (c.modArb f).feeders = c.feeders := rfl
@[simp] theorem Chip.modArb_cals : (c.modArb f).cals = c.cals := rfl
@[simp] theorem Chip.modArb_fab : (c.modArb f).fab = c.fab := rfl
@[simp] theorem Chip.modArb_arb : (c.modArb f).arb = f c.arb := rfl
@[simp] theorem Chip.modArb_wcap : (c.modArb f).wcap = c.wcap := rfl
@[simp] theorem Chip.modArb_host : (c.modArb f).host = c.host := rfl
@[simp] theorem Chip.modArb_iics : (c.modArb f).iics = c.iics := rfl
@[simp] theorem Chip.modArb_fwu : (c.modArb f).fwu = c.fwu := rfl
@[simp] theorem Chip.modArb_dbg : (c.modArb f).dbg = c.dbg := rfl
@[simp] theorem Chip.modArb_snap : (c.modArb f).snap = c.snap := rfl
@[simp] theorem Chip.modArb_sent : (c.modArb f).sent = c.sent := rfl
@[simp] theorem Chip.modArb_freeCtr : (c.modArb f).freeCtr = c.freeCtr := rfl
end

/-! modFbk. -/

section
variable (c : Chip) (f : FbkSt → FbkSt)
@[simp] theorem Chip.modFbk_now : (c.modFbk f).now = c.now := rfl
@[simp] theorem Chip.modFbk_datum : (c.modFbk f).datum = c.datum := rfl
@[simp] theorem Chip.modFbk_rateAcc : (c.modFbk f).rateAcc = c.rateAcc := rfl
@[simp] theorem Chip.modFbk_regs : (c.modFbk f).regs = c.regs := rfl
@[simp] theorem Chip.modFbk_pulses : (c.modFbk f).pulses = c.pulses := rfl
@[simp] theorem Chip.modFbk_irqs : (c.modFbk f).irqs = c.irqs := rfl
@[simp] theorem Chip.modFbk_inForce : (c.modFbk f).inForce = c.inForce := rfl
@[simp] theorem Chip.modFbk_ewBy : (c.modFbk f).ewBy = c.ewBy := rfl
@[simp] theorem Chip.modFbk_paths : (c.modFbk f).paths = c.paths := rfl
@[simp] theorem Chip.modFbk_timers : (c.modFbk f).timers = c.timers := rfl
@[simp] theorem Chip.modFbk_plumb : (c.modFbk f).plumb = c.plumb := rfl
@[simp] theorem Chip.modFbk_mram : (c.modFbk f).mram = c.mram := rfl
@[simp] theorem Chip.modFbk_flash : (c.modFbk f).flash = c.flash := rfl
@[simp] theorem Chip.modFbk_fbk : (c.modFbk f).fbk = f c.fbk := rfl
@[simp] theorem Chip.modFbk_twin : (c.modFbk f).twin = c.twin := rfl
@[simp] theorem Chip.modFbk_ports : (c.modFbk f).ports = c.ports := rfl
@[simp] theorem Chip.modFbk_stages : (c.modFbk f).stages = c.stages := rfl
@[simp] theorem Chip.modFbk_engines : (c.modFbk f).engines = c.engines := rfl
@[simp] theorem Chip.modFbk_laws : (c.modFbk f).laws = c.laws := rfl
@[simp] theorem Chip.modFbk_secs : (c.modFbk f).secs = c.secs := rfl
@[simp] theorem Chip.modFbk_caps : (c.modFbk f).caps = c.caps := rfl
@[simp] theorem Chip.modFbk_strs : (c.modFbk f).strs = c.strs := rfl
@[simp] theorem Chip.modFbk_feeders : (c.modFbk f).feeders = c.feeders := rfl
@[simp] theorem Chip.modFbk_cals : (c.modFbk f).cals = c.cals := rfl
@[simp] theorem Chip.modFbk_fab : (c.modFbk f).fab = c.fab := rfl
@[simp] theorem Chip.modFbk_arb : (c.modFbk f).arb = c.arb := rfl
@[simp] theorem Chip.modFbk_wcap : (c.modFbk f).wcap = c.wcap := rfl
@[simp] theorem Chip.modFbk_host : (c.modFbk f).host = c.host := rfl
@[simp] theorem Chip.modFbk_iics : (c.modFbk f).iics = c.iics := rfl
@[simp] theorem Chip.modFbk_fwu : (c.modFbk f).fwu = c.fwu := rfl
@[simp] theorem Chip.modFbk_dbg : (c.modFbk f).dbg = c.dbg := rfl
@[simp] theorem Chip.modFbk_snap : (c.modFbk f).snap = c.snap := rfl
@[simp] theorem Chip.modFbk_sent : (c.modFbk f).sent = c.sent := rfl
@[simp] theorem Chip.modFbk_freeCtr : (c.modFbk f).freeCtr = c.freeCtr := rfl
end

/-! modHost. -/

section
variable (c : Chip) (f : HostSt → HostSt)
@[simp] theorem Chip.modHost_now : (c.modHost f).now = c.now := rfl
@[simp] theorem Chip.modHost_datum : (c.modHost f).datum = c.datum := rfl
@[simp] theorem Chip.modHost_rateAcc : (c.modHost f).rateAcc = c.rateAcc := rfl
@[simp] theorem Chip.modHost_regs : (c.modHost f).regs = c.regs := rfl
@[simp] theorem Chip.modHost_pulses : (c.modHost f).pulses = c.pulses := rfl
@[simp] theorem Chip.modHost_irqs : (c.modHost f).irqs = c.irqs := rfl
@[simp] theorem Chip.modHost_inForce : (c.modHost f).inForce = c.inForce := rfl
@[simp] theorem Chip.modHost_ewBy : (c.modHost f).ewBy = c.ewBy := rfl
@[simp] theorem Chip.modHost_paths : (c.modHost f).paths = c.paths := rfl
@[simp] theorem Chip.modHost_timers : (c.modHost f).timers = c.timers := rfl
@[simp] theorem Chip.modHost_plumb : (c.modHost f).plumb = c.plumb := rfl
@[simp] theorem Chip.modHost_mram : (c.modHost f).mram = c.mram := rfl
@[simp] theorem Chip.modHost_flash : (c.modHost f).flash = c.flash := rfl
@[simp] theorem Chip.modHost_fbk : (c.modHost f).fbk = c.fbk := rfl
@[simp] theorem Chip.modHost_twin : (c.modHost f).twin = c.twin := rfl
@[simp] theorem Chip.modHost_ports : (c.modHost f).ports = c.ports := rfl
@[simp] theorem Chip.modHost_stages : (c.modHost f).stages = c.stages := rfl
@[simp] theorem Chip.modHost_engines : (c.modHost f).engines = c.engines := rfl
@[simp] theorem Chip.modHost_laws : (c.modHost f).laws = c.laws := rfl
@[simp] theorem Chip.modHost_secs : (c.modHost f).secs = c.secs := rfl
@[simp] theorem Chip.modHost_caps : (c.modHost f).caps = c.caps := rfl
@[simp] theorem Chip.modHost_strs : (c.modHost f).strs = c.strs := rfl
@[simp] theorem Chip.modHost_feeders : (c.modHost f).feeders = c.feeders := rfl
@[simp] theorem Chip.modHost_cals : (c.modHost f).cals = c.cals := rfl
@[simp] theorem Chip.modHost_fab : (c.modHost f).fab = c.fab := rfl
@[simp] theorem Chip.modHost_arb : (c.modHost f).arb = c.arb := rfl
@[simp] theorem Chip.modHost_wcap : (c.modHost f).wcap = c.wcap := rfl
@[simp] theorem Chip.modHost_host : (c.modHost f).host = f c.host := rfl
@[simp] theorem Chip.modHost_iics : (c.modHost f).iics = c.iics := rfl
@[simp] theorem Chip.modHost_fwu : (c.modHost f).fwu = c.fwu := rfl
@[simp] theorem Chip.modHost_dbg : (c.modHost f).dbg = c.dbg := rfl
@[simp] theorem Chip.modHost_snap : (c.modHost f).snap = c.snap := rfl
@[simp] theorem Chip.modHost_sent : (c.modHost f).sent = c.sent := rfl
@[simp] theorem Chip.modHost_freeCtr : (c.modHost f).freeCtr = c.freeCtr := rfl
end

/-! modFwu. -/

section
variable (c : Chip) (f : FwuSt → FwuSt)
@[simp] theorem Chip.modFwu_now : (c.modFwu f).now = c.now := rfl
@[simp] theorem Chip.modFwu_datum : (c.modFwu f).datum = c.datum := rfl
@[simp] theorem Chip.modFwu_rateAcc : (c.modFwu f).rateAcc = c.rateAcc := rfl
@[simp] theorem Chip.modFwu_regs : (c.modFwu f).regs = c.regs := rfl
@[simp] theorem Chip.modFwu_pulses : (c.modFwu f).pulses = c.pulses := rfl
@[simp] theorem Chip.modFwu_irqs : (c.modFwu f).irqs = c.irqs := rfl
@[simp] theorem Chip.modFwu_inForce : (c.modFwu f).inForce = c.inForce := rfl
@[simp] theorem Chip.modFwu_ewBy : (c.modFwu f).ewBy = c.ewBy := rfl
@[simp] theorem Chip.modFwu_paths : (c.modFwu f).paths = c.paths := rfl
@[simp] theorem Chip.modFwu_timers : (c.modFwu f).timers = c.timers := rfl
@[simp] theorem Chip.modFwu_plumb : (c.modFwu f).plumb = c.plumb := rfl
@[simp] theorem Chip.modFwu_mram : (c.modFwu f).mram = c.mram := rfl
@[simp] theorem Chip.modFwu_flash : (c.modFwu f).flash = c.flash := rfl
@[simp] theorem Chip.modFwu_fbk : (c.modFwu f).fbk = c.fbk := rfl
@[simp] theorem Chip.modFwu_twin : (c.modFwu f).twin = c.twin := rfl
@[simp] theorem Chip.modFwu_ports : (c.modFwu f).ports = c.ports := rfl
@[simp] theorem Chip.modFwu_stages : (c.modFwu f).stages = c.stages := rfl
@[simp] theorem Chip.modFwu_engines : (c.modFwu f).engines = c.engines := rfl
@[simp] theorem Chip.modFwu_laws : (c.modFwu f).laws = c.laws := rfl
@[simp] theorem Chip.modFwu_secs : (c.modFwu f).secs = c.secs := rfl
@[simp] theorem Chip.modFwu_caps : (c.modFwu f).caps = c.caps := rfl
@[simp] theorem Chip.modFwu_strs : (c.modFwu f).strs = c.strs := rfl
@[simp] theorem Chip.modFwu_feeders : (c.modFwu f).feeders = c.feeders := rfl
@[simp] theorem Chip.modFwu_cals : (c.modFwu f).cals = c.cals := rfl
@[simp] theorem Chip.modFwu_fab : (c.modFwu f).fab = c.fab := rfl
@[simp] theorem Chip.modFwu_arb : (c.modFwu f).arb = c.arb := rfl
@[simp] theorem Chip.modFwu_wcap : (c.modFwu f).wcap = c.wcap := rfl
@[simp] theorem Chip.modFwu_host : (c.modFwu f).host = c.host := rfl
@[simp] theorem Chip.modFwu_iics : (c.modFwu f).iics = c.iics := rfl
@[simp] theorem Chip.modFwu_fwu : (c.modFwu f).fwu = f c.fwu := rfl
@[simp] theorem Chip.modFwu_dbg : (c.modFwu f).dbg = c.dbg := rfl
@[simp] theorem Chip.modFwu_snap : (c.modFwu f).snap = c.snap := rfl
@[simp] theorem Chip.modFwu_sent : (c.modFwu f).sent = c.sent := rfl
@[simp] theorem Chip.modFwu_freeCtr : (c.modFwu f).freeCtr = c.freeCtr := rfl
end

/-! modFlash. -/

section
variable (c : Chip) (f : FlashSt → FlashSt)
@[simp] theorem Chip.modFlash_now : (c.modFlash f).now = c.now := rfl
@[simp] theorem Chip.modFlash_datum : (c.modFlash f).datum = c.datum := rfl
@[simp] theorem Chip.modFlash_rateAcc : (c.modFlash f).rateAcc = c.rateAcc := rfl
@[simp] theorem Chip.modFlash_regs : (c.modFlash f).regs = c.regs := rfl
@[simp] theorem Chip.modFlash_pulses : (c.modFlash f).pulses = c.pulses := rfl
@[simp] theorem Chip.modFlash_irqs : (c.modFlash f).irqs = c.irqs := rfl
@[simp] theorem Chip.modFlash_inForce : (c.modFlash f).inForce = c.inForce := rfl
@[simp] theorem Chip.modFlash_ewBy : (c.modFlash f).ewBy = c.ewBy := rfl
@[simp] theorem Chip.modFlash_paths : (c.modFlash f).paths = c.paths := rfl
@[simp] theorem Chip.modFlash_timers : (c.modFlash f).timers = c.timers := rfl
@[simp] theorem Chip.modFlash_plumb : (c.modFlash f).plumb = c.plumb := rfl
@[simp] theorem Chip.modFlash_mram : (c.modFlash f).mram = c.mram := rfl
@[simp] theorem Chip.modFlash_flash : (c.modFlash f).flash = f c.flash := rfl
@[simp] theorem Chip.modFlash_fbk : (c.modFlash f).fbk = c.fbk := rfl
@[simp] theorem Chip.modFlash_twin : (c.modFlash f).twin = c.twin := rfl
@[simp] theorem Chip.modFlash_ports : (c.modFlash f).ports = c.ports := rfl
@[simp] theorem Chip.modFlash_stages : (c.modFlash f).stages = c.stages := rfl
@[simp] theorem Chip.modFlash_engines : (c.modFlash f).engines = c.engines := rfl
@[simp] theorem Chip.modFlash_laws : (c.modFlash f).laws = c.laws := rfl
@[simp] theorem Chip.modFlash_secs : (c.modFlash f).secs = c.secs := rfl
@[simp] theorem Chip.modFlash_caps : (c.modFlash f).caps = c.caps := rfl
@[simp] theorem Chip.modFlash_strs : (c.modFlash f).strs = c.strs := rfl
@[simp] theorem Chip.modFlash_feeders : (c.modFlash f).feeders = c.feeders := rfl
@[simp] theorem Chip.modFlash_cals : (c.modFlash f).cals = c.cals := rfl
@[simp] theorem Chip.modFlash_fab : (c.modFlash f).fab = c.fab := rfl
@[simp] theorem Chip.modFlash_arb : (c.modFlash f).arb = c.arb := rfl
@[simp] theorem Chip.modFlash_wcap : (c.modFlash f).wcap = c.wcap := rfl
@[simp] theorem Chip.modFlash_host : (c.modFlash f).host = c.host := rfl
@[simp] theorem Chip.modFlash_iics : (c.modFlash f).iics = c.iics := rfl
@[simp] theorem Chip.modFlash_fwu : (c.modFlash f).fwu = c.fwu := rfl
@[simp] theorem Chip.modFlash_dbg : (c.modFlash f).dbg = c.dbg := rfl
@[simp] theorem Chip.modFlash_snap : (c.modFlash f).snap = c.snap := rfl
@[simp] theorem Chip.modFlash_sent : (c.modFlash f).sent = c.sent := rfl
@[simp] theorem Chip.modFlash_freeCtr : (c.modFlash f).freeCtr = c.freeCtr := rfl
end

/-! modMram. -/

section
variable (c : Chip) (f : Mram → Mram)
@[simp] theorem Chip.modMram_now : (c.modMram f).now = c.now := rfl
@[simp] theorem Chip.modMram_datum : (c.modMram f).datum = c.datum := rfl
@[simp] theorem Chip.modMram_rateAcc : (c.modMram f).rateAcc = c.rateAcc := rfl
@[simp] theorem Chip.modMram_regs : (c.modMram f).regs = c.regs := rfl
@[simp] theorem Chip.modMram_pulses : (c.modMram f).pulses = c.pulses := rfl
@[simp] theorem Chip.modMram_irqs : (c.modMram f).irqs = c.irqs := rfl
@[simp] theorem Chip.modMram_inForce : (c.modMram f).inForce = c.inForce := rfl
@[simp] theorem Chip.modMram_ewBy : (c.modMram f).ewBy = c.ewBy := rfl
@[simp] theorem Chip.modMram_paths : (c.modMram f).paths = c.paths := rfl
@[simp] theorem Chip.modMram_timers : (c.modMram f).timers = c.timers := rfl
@[simp] theorem Chip.modMram_plumb : (c.modMram f).plumb = c.plumb := rfl
@[simp] theorem Chip.modMram_mram : (c.modMram f).mram = f c.mram := rfl
@[simp] theorem Chip.modMram_flash : (c.modMram f).flash = c.flash := rfl
@[simp] theorem Chip.modMram_fbk : (c.modMram f).fbk = c.fbk := rfl
@[simp] theorem Chip.modMram_twin : (c.modMram f).twin = c.twin := rfl
@[simp] theorem Chip.modMram_ports : (c.modMram f).ports = c.ports := rfl
@[simp] theorem Chip.modMram_stages : (c.modMram f).stages = c.stages := rfl
@[simp] theorem Chip.modMram_engines : (c.modMram f).engines = c.engines := rfl
@[simp] theorem Chip.modMram_laws : (c.modMram f).laws = c.laws := rfl
@[simp] theorem Chip.modMram_secs : (c.modMram f).secs = c.secs := rfl
@[simp] theorem Chip.modMram_caps : (c.modMram f).caps = c.caps := rfl
@[simp] theorem Chip.modMram_strs : (c.modMram f).strs = c.strs := rfl
@[simp] theorem Chip.modMram_feeders : (c.modMram f).feeders = c.feeders := rfl
@[simp] theorem Chip.modMram_cals : (c.modMram f).cals = c.cals := rfl
@[simp] theorem Chip.modMram_fab : (c.modMram f).fab = c.fab := rfl
@[simp] theorem Chip.modMram_arb : (c.modMram f).arb = c.arb := rfl
@[simp] theorem Chip.modMram_wcap : (c.modMram f).wcap = c.wcap := rfl
@[simp] theorem Chip.modMram_host : (c.modMram f).host = c.host := rfl
@[simp] theorem Chip.modMram_iics : (c.modMram f).iics = c.iics := rfl
@[simp] theorem Chip.modMram_fwu : (c.modMram f).fwu = c.fwu := rfl
@[simp] theorem Chip.modMram_dbg : (c.modMram f).dbg = c.dbg := rfl
@[simp] theorem Chip.modMram_snap : (c.modMram f).snap = c.snap := rfl
@[simp] theorem Chip.modMram_sent : (c.modMram f).sent = c.sent := rfl
@[simp] theorem Chip.modMram_freeCtr : (c.modMram f).freeCtr = c.freeCtr := rfl
end

/-! modDbg. -/

section
variable (c : Chip) (f : DbgSt → DbgSt)
@[simp] theorem Chip.modDbg_now : (c.modDbg f).now = c.now := rfl
@[simp] theorem Chip.modDbg_datum : (c.modDbg f).datum = c.datum := rfl
@[simp] theorem Chip.modDbg_rateAcc : (c.modDbg f).rateAcc = c.rateAcc := rfl
@[simp] theorem Chip.modDbg_regs : (c.modDbg f).regs = c.regs := rfl
@[simp] theorem Chip.modDbg_pulses : (c.modDbg f).pulses = c.pulses := rfl
@[simp] theorem Chip.modDbg_irqs : (c.modDbg f).irqs = c.irqs := rfl
@[simp] theorem Chip.modDbg_inForce : (c.modDbg f).inForce = c.inForce := rfl
@[simp] theorem Chip.modDbg_ewBy : (c.modDbg f).ewBy = c.ewBy := rfl
@[simp] theorem Chip.modDbg_paths : (c.modDbg f).paths = c.paths := rfl
@[simp] theorem Chip.modDbg_timers : (c.modDbg f).timers = c.timers := rfl
@[simp] theorem Chip.modDbg_plumb : (c.modDbg f).plumb = c.plumb := rfl
@[simp] theorem Chip.modDbg_mram : (c.modDbg f).mram = c.mram := rfl
@[simp] theorem Chip.modDbg_flash : (c.modDbg f).flash = c.flash := rfl
@[simp] theorem Chip.modDbg_fbk : (c.modDbg f).fbk = c.fbk := rfl
@[simp] theorem Chip.modDbg_twin : (c.modDbg f).twin = c.twin := rfl
@[simp] theorem Chip.modDbg_ports : (c.modDbg f).ports = c.ports := rfl
@[simp] theorem Chip.modDbg_stages : (c.modDbg f).stages = c.stages := rfl
@[simp] theorem Chip.modDbg_engines : (c.modDbg f).engines = c.engines := rfl
@[simp] theorem Chip.modDbg_laws : (c.modDbg f).laws = c.laws := rfl
@[simp] theorem Chip.modDbg_secs : (c.modDbg f).secs = c.secs := rfl
@[simp] theorem Chip.modDbg_caps : (c.modDbg f).caps = c.caps := rfl
@[simp] theorem Chip.modDbg_strs : (c.modDbg f).strs = c.strs := rfl
@[simp] theorem Chip.modDbg_feeders : (c.modDbg f).feeders = c.feeders := rfl
@[simp] theorem Chip.modDbg_cals : (c.modDbg f).cals = c.cals := rfl
@[simp] theorem Chip.modDbg_fab : (c.modDbg f).fab = c.fab := rfl
@[simp] theorem Chip.modDbg_arb : (c.modDbg f).arb = c.arb := rfl
@[simp] theorem Chip.modDbg_wcap : (c.modDbg f).wcap = c.wcap := rfl
@[simp] theorem Chip.modDbg_host : (c.modDbg f).host = c.host := rfl
@[simp] theorem Chip.modDbg_iics : (c.modDbg f).iics = c.iics := rfl
@[simp] theorem Chip.modDbg_fwu : (c.modDbg f).fwu = c.fwu := rfl
@[simp] theorem Chip.modDbg_dbg : (c.modDbg f).dbg = f c.dbg := rfl
@[simp] theorem Chip.modDbg_snap : (c.modDbg f).snap = c.snap := rfl
@[simp] theorem Chip.modDbg_sent : (c.modDbg f).sent = c.sent := rfl
@[simp] theorem Chip.modDbg_freeCtr : (c.modDbg f).freeCtr = c.freeCtr := rfl
end

/-! modSnap. -/

section
variable (c : Chip) (f : SnapSt → SnapSt)
@[simp] theorem Chip.modSnap_now : (c.modSnap f).now = c.now := rfl
@[simp] theorem Chip.modSnap_datum : (c.modSnap f).datum = c.datum := rfl
@[simp] theorem Chip.modSnap_rateAcc : (c.modSnap f).rateAcc = c.rateAcc := rfl
@[simp] theorem Chip.modSnap_regs : (c.modSnap f).regs = c.regs := rfl
@[simp] theorem Chip.modSnap_pulses : (c.modSnap f).pulses = c.pulses := rfl
@[simp] theorem Chip.modSnap_irqs : (c.modSnap f).irqs = c.irqs := rfl
@[simp] theorem Chip.modSnap_inForce : (c.modSnap f).inForce = c.inForce := rfl
@[simp] theorem Chip.modSnap_ewBy : (c.modSnap f).ewBy = c.ewBy := rfl
@[simp] theorem Chip.modSnap_paths : (c.modSnap f).paths = c.paths := rfl
@[simp] theorem Chip.modSnap_timers : (c.modSnap f).timers = c.timers := rfl
@[simp] theorem Chip.modSnap_plumb : (c.modSnap f).plumb = c.plumb := rfl
@[simp] theorem Chip.modSnap_mram : (c.modSnap f).mram = c.mram := rfl
@[simp] theorem Chip.modSnap_flash : (c.modSnap f).flash = c.flash := rfl
@[simp] theorem Chip.modSnap_fbk : (c.modSnap f).fbk = c.fbk := rfl
@[simp] theorem Chip.modSnap_twin : (c.modSnap f).twin = c.twin := rfl
@[simp] theorem Chip.modSnap_ports : (c.modSnap f).ports = c.ports := rfl
@[simp] theorem Chip.modSnap_stages : (c.modSnap f).stages = c.stages := rfl
@[simp] theorem Chip.modSnap_engines : (c.modSnap f).engines = c.engines := rfl
@[simp] theorem Chip.modSnap_laws : (c.modSnap f).laws = c.laws := rfl
@[simp] theorem Chip.modSnap_secs : (c.modSnap f).secs = c.secs := rfl
@[simp] theorem Chip.modSnap_caps : (c.modSnap f).caps = c.caps := rfl
@[simp] theorem Chip.modSnap_strs : (c.modSnap f).strs = c.strs := rfl
@[simp] theorem Chip.modSnap_feeders : (c.modSnap f).feeders = c.feeders := rfl
@[simp] theorem Chip.modSnap_cals : (c.modSnap f).cals = c.cals := rfl
@[simp] theorem Chip.modSnap_fab : (c.modSnap f).fab = c.fab := rfl
@[simp] theorem Chip.modSnap_arb : (c.modSnap f).arb = c.arb := rfl
@[simp] theorem Chip.modSnap_wcap : (c.modSnap f).wcap = c.wcap := rfl
@[simp] theorem Chip.modSnap_host : (c.modSnap f).host = c.host := rfl
@[simp] theorem Chip.modSnap_iics : (c.modSnap f).iics = c.iics := rfl
@[simp] theorem Chip.modSnap_fwu : (c.modSnap f).fwu = c.fwu := rfl
@[simp] theorem Chip.modSnap_dbg : (c.modSnap f).dbg = c.dbg := rfl
@[simp] theorem Chip.modSnap_snap : (c.modSnap f).snap = f c.snap := rfl
@[simp] theorem Chip.modSnap_sent : (c.modSnap f).sent = c.sent := rfl
@[simp] theorem Chip.modSnap_freeCtr : (c.modSnap f).freeCtr = c.freeCtr := rfl
end

/-! free. -/

section
variable (c : Chip)
@[simp] theorem Chip.free_now : c.free.2.now = c.now := rfl
@[simp] theorem Chip.free_datum : c.free.2.datum = c.datum := rfl
@[simp] theorem Chip.free_rateAcc : c.free.2.rateAcc = c.rateAcc := rfl
@[simp] theorem Chip.free_regs : c.free.2.regs = c.regs := rfl
@[simp] theorem Chip.free_pulses : c.free.2.pulses = c.pulses := rfl
@[simp] theorem Chip.free_irqs : c.free.2.irqs = c.irqs := rfl
@[simp] theorem Chip.free_inForce : c.free.2.inForce = c.inForce := rfl
@[simp] theorem Chip.free_ewBy : c.free.2.ewBy = c.ewBy := rfl
@[simp] theorem Chip.free_paths : c.free.2.paths = c.paths := rfl
@[simp] theorem Chip.free_timers : c.free.2.timers = c.timers := rfl
@[simp] theorem Chip.free_plumb : c.free.2.plumb = c.plumb := rfl
@[simp] theorem Chip.free_mram : c.free.2.mram = c.mram := rfl
@[simp] theorem Chip.free_flash : c.free.2.flash = c.flash := rfl
@[simp] theorem Chip.free_fbk : c.free.2.fbk = c.fbk := rfl
@[simp] theorem Chip.free_twin : c.free.2.twin = c.twin := rfl
@[simp] theorem Chip.free_ports : c.free.2.ports = c.ports := rfl
@[simp] theorem Chip.free_stages : c.free.2.stages = c.stages := rfl
@[simp] theorem Chip.free_engines : c.free.2.engines = c.engines := rfl
@[simp] theorem Chip.free_laws : c.free.2.laws = c.laws := rfl
@[simp] theorem Chip.free_secs : c.free.2.secs = c.secs := rfl
@[simp] theorem Chip.free_caps : c.free.2.caps = c.caps := rfl
@[simp] theorem Chip.free_strs : c.free.2.strs = c.strs := rfl
@[simp] theorem Chip.free_feeders : c.free.2.feeders = c.feeders := rfl
@[simp] theorem Chip.free_cals : c.free.2.cals = c.cals := rfl
@[simp] theorem Chip.free_fab : c.free.2.fab = c.fab := rfl
@[simp] theorem Chip.free_arb : c.free.2.arb = c.arb := rfl
@[simp] theorem Chip.free_wcap : c.free.2.wcap = c.wcap := rfl
@[simp] theorem Chip.free_host : c.free.2.host = c.host := rfl
@[simp] theorem Chip.free_iics : c.free.2.iics = c.iics := rfl
@[simp] theorem Chip.free_fwu : c.free.2.fwu = c.fwu := rfl
@[simp] theorem Chip.free_dbg : c.free.2.dbg = c.dbg := rfl
@[simp] theorem Chip.free_snap : c.free.2.snap = c.snap := rfl
@[simp] theorem Chip.free_sent : c.free.2.sent = c.sent := rfl
@[simp] theorem Chip.free_freeCtr : c.free.2.freeCtr = c.freeCtr + 1 := rfl
end

end Sys2Proof.Machine
end

