-- ==== Sys2Proof/Laws/Ops.lean ====
section
/-! SUPPORT. Laws/Ops.lean: what counting, events and interrupts can do. They change registers, the pages that raise their
interrupt, the one-tick bits, pending and sent vectors and the causes of the capture sets, and nothing else; of the registers
only those that `noisy` names, apart from a field that they are told to write. -/

namespace Sys2Proof.Machine

/-- `d` differs from `c` in nothing but registers, interrupts, one-tick bits, the pending vectors, what was sent and the capture sets. -/
def Quiet (c d : Chip) : Prop :=
  ∃ r p i s w h, d = { c with regs := r, pulses := p, irqs := i, sent := s, wcap := w, host := { c.host with pba := h } }

theorem Quiet.refl (c : Chip) : Quiet c c := ⟨c.regs, c.pulses, c.irqs, c.sent, c.wcap, c.host.pba, rfl⟩

theorem Quiet.trans {c d e : Chip} (h : Quiet c d) (k : Quiet d e) : Quiet c e := by
  obtain ⟨r, p, i, s, w, b, rfl⟩ := h
  obtain ⟨r2, p2, i2, s2, w2, b2, rfl⟩ := k
  exact ⟨r2, p2, i2, s2, w2, b2, rfl⟩

/-- A fold of quiet changes is quiet. -/
theorem Quiet.foldc {α : Type} (xs : List α) (f : α → Chip → Chip) (hf : ∀ x c, Quiet c (f x c)) (c : Chip) : Quiet c (foldc xs f c) := by
  induction xs generalizing c with
  | nil => exact Quiet.refl c
  | cons x xs ih => exact (hf x c).trans (ih (f x c))

theorem Quiet.now {c d : Chip} (h : Quiet c d) : d.now = c.now := by obtain ⟨_, _, _, _, _, _, rfl⟩ := h; rfl
theorem Quiet.datum {c d : Chip} (h : Quiet c d) : d.datum = c.datum := by obtain ⟨_, _, _, _, _, _, rfl⟩ := h; rfl
theorem Quiet.rateAcc {c d : Chip} (h : Quiet c d) : d.rateAcc = c.rateAcc := by obtain ⟨_, _, _, _, _, _, rfl⟩ := h; rfl
theorem Quiet.paths {c d : Chip} (h : Quiet c d) : d.paths = c.paths := by obtain ⟨_, _, _, _, _, _, rfl⟩ := h; rfl
theorem Quiet.timers {c d : Chip} (h : Quiet c d) : d.timers = c.timers := by obtain ⟨_, _, _, _, _, _, rfl⟩ := h; rfl
theorem Quiet.plumb {c d : Chip} (h : Quiet c d) : d.plumb = c.plumb := by obtain ⟨_, _, _, _, _, _, rfl⟩ := h; rfl
theorem Quiet.mram {c d : Chip} (h : Quiet c d) : d.mram = c.mram := by obtain ⟨_, _, _, _, _, _, rfl⟩ := h; rfl
theorem Quiet.flash {c d : Chip} (h : Quiet c d) : d.flash = c.flash := by obtain ⟨_, _, _, _, _, _, rfl⟩ := h; rfl
theorem Quiet.fbk {c d : Chip} (h : Quiet c d) : d.fbk = c.fbk := by obtain ⟨_, _, _, _, _, _, rfl⟩ := h; rfl
theorem Quiet.twin {c d : Chip} (h : Quiet c d) : d.twin = c.twin := by obtain ⟨_, _, _, _, _, _, rfl⟩ := h; rfl
theorem Quiet.ports {c d : Chip} (h : Quiet c d) : d.ports = c.ports := by obtain ⟨_, _, _, _, _, _, rfl⟩ := h; rfl
theorem Quiet.stages {c d : Chip} (h : Quiet c d) : d.stages = c.stages := by obtain ⟨_, _, _, _, _, _, rfl⟩ := h; rfl
theorem Quiet.engines {c d : Chip} (h : Quiet c d) : d.engines = c.engines := by obtain ⟨_, _, _, _, _, _, rfl⟩ := h; rfl
theorem Quiet.laws {c d : Chip} (h : Quiet c d) : d.laws = c.laws := by obtain ⟨_, _, _, _, _, _, rfl⟩ := h; rfl
theorem Quiet.secs {c d : Chip} (h : Quiet c d) : d.secs = c.secs := by obtain ⟨_, _, _, _, _, _, rfl⟩ := h; rfl
theorem Quiet.caps {c d : Chip} (h : Quiet c d) : d.caps = c.caps := by obtain ⟨_, _, _, _, _, _, rfl⟩ := h; rfl
theorem Quiet.strs {c d : Chip} (h : Quiet c d) : d.strs = c.strs := by obtain ⟨_, _, _, _, _, _, rfl⟩ := h; rfl
theorem Quiet.feeders {c d : Chip} (h : Quiet c d) : d.feeders = c.feeders := by obtain ⟨_, _, _, _, _, _, rfl⟩ := h; rfl
theorem Quiet.cals {c d : Chip} (h : Quiet c d) : d.cals = c.cals := by obtain ⟨_, _, _, _, _, _, rfl⟩ := h; rfl
theorem Quiet.fab {c d : Chip} (h : Quiet c d) : d.fab = c.fab := by obtain ⟨_, _, _, _, _, _, rfl⟩ := h; rfl
theorem Quiet.arb {c d : Chip} (h : Quiet c d) : d.arb = c.arb := by obtain ⟨_, _, _, _, _, _, rfl⟩ := h; rfl
theorem Quiet.iics {c d : Chip} (h : Quiet c d) : d.iics = c.iics := by obtain ⟨_, _, _, _, _, _, rfl⟩ := h; rfl
theorem Quiet.fwu {c d : Chip} (h : Quiet c d) : d.fwu = c.fwu := by obtain ⟨_, _, _, _, _, _, rfl⟩ := h; rfl
theorem Quiet.dbg {c d : Chip} (h : Quiet c d) : d.dbg = c.dbg := by obtain ⟨_, _, _, _, _, _, rfl⟩ := h; rfl
theorem Quiet.snap {c d : Chip} (h : Quiet c d) : d.snap = c.snap := by obtain ⟨_, _, _, _, _, _, rfl⟩ := h; rfl
theorem Quiet.freeCtr {c d : Chip} (h : Quiet c d) : d.freeCtr = c.freeCtr := by obtain ⟨_, _, _, _, _, _, rfl⟩ := h; rfl

theorem quiet_wr (c : Chip) (f : Fld) (b v i : Nat) : Quiet c (c.wr f b v i) := ⟨_, _, _, _, _, _, rfl⟩

theorem quiet_send (c : Chip) (o : Out) : Quiet c (c.send o) := ⟨_, _, _, _, _, _, c.send_eq o⟩

theorem quiet_bump (c : Chip) (f : Fld) (b i n : Nat) : Quiet c (c.bump f b i n) := quiet_wr c f b _ i

theorem Quiet.ite {c d e : Chip} {p : Prop} [Decidable p] (h : Quiet c d) (k : Quiet c e) : Quiet c (if p then d else e) := by
  split
  · exact h
  · exact k

theorem Quiet.wr {c d : Chip} (h : Quiet c d) (f : Fld) (b v i : Nat) : Quiet c (d.wr f b v i) := h.trans (quiet_wr _ _ _ _ _)

theorem quiet_pmcAdd (c : Chip) (b j n : Nat) : Quiet c (c.pmcAdd b j n) := by
  simp only [Chip.pmcAdd]
  repeat' with_reducible apply Quiet.ite
  all_goals repeat with_reducible apply Quiet.wr
  all_goals exact Quiet.refl c

theorem quiet_pmcEvent (c : Chip) (b e n : Nat) : Quiet c (c.pmcEvent b e n) := by
  unfold Chip.pmcEvent
  with_reducible apply Quiet.ite
  · apply Quiet.foldc
    intro x c
    exact Quiet.ite (quiet_pmcAdd _ _ _ _) (Quiet.refl _)
  · exact Quiet.refl _

theorem quiet_seqInc (c : Chip) (b : Nat) : Quiet c (c.seqInc b) := (quiet_bump _ _ _ _ _).trans (quiet_pmcEvent _ _ _ _)

theorem quiet_hw (c : Chip) (b : Nat) (us : List (Fld × Nat × Nat)) : Quiet c (c.hw b us) := by
  have h : Quiet c (foldc us (fun u c => c.wr u.1 b u.2.2 u.2.1) c) := Quiet.foldc _ _ (fun _ _ => quiet_wr _ _ _ _ _) _
  unfold Chip.hw
  exact Quiet.ite (h.trans (quiet_seqInc _ _)) h

theorem quiet_up (c : Chip) (f : Fld) (b v i : Nat) : Quiet c (c.up f b v i) := quiet_hw _ _ _

theorem quiet_sendVec (c : Chip) (v : Nat) : Quiet c (c.sendVec v) := by
  unfold Chip.sendVec
  split
  · split
    · exact ⟨_, _, _, _, _, _, rfl⟩
    · exact quiet_send _ _
  · exact Quiet.refl _

theorem quiet_pendBit (c : Chip) (b : Nat) (on : Bool) : Quiet c (c.pendBit b on) := by
  unfold Chip.pendBit
  split
  · exact quiet_up _ _ _ _ _
  · exact quiet_up _ _ _ _ _
  · exact Quiet.refl _
  · exact Quiet.refl _

theorem quiet_reIrq (c : Chip) (b : Nat) (r : Bool) : Quiet c (c.reIrq b r) := by
  unfold Chip.reIrq
  split
  · exact Quiet.refl _
  · rename_i v _
    have h : Quiet c (if c.pageIrq b == c.irqs.contains b then c
      else ({ c with irqs := if c.pageIrq b then b :: c.irqs else c.irqs.filter (fun x => x != b) } : Chip).pendBit b (c.pageIrq b)) := by
      split
      · exact Quiet.refl _
      · exact Quiet.trans ⟨_, _, _, _, _, _, rfl⟩ (quiet_pendBit _ _ _)
    exact Quiet.ite (h.trans (quiet_sendVec _ _)) h

theorem quiet_latchEvt (c : Chip) (b n : Nat) : Quiet c (c.latchEvt b n) := (quiet_wr _ _ _ _ _).trans (quiet_reIrq _ _ _)

theorem quiet_capCause (c : Chip) (h : Nat → Nat → Nat → Bool) : Quiet c (c.capCause h) := by
  unfold Chip.capCause
  apply Quiet.foldc
  intro x c
  split
  · exact ⟨_, _, _, _, _, _, rfl⟩
  · exact Quiet.refl _

theorem quiet_riseEvt (c : Chip) (b n : Nat) : Quiet c (c.riseEvt b n) := by
  unfold Chip.riseEvt
  split
  · exact quiet_latchEvt _ _ _
  · have h : Quiet c (((c.wr R.EVT_LIVE b (c.rd R.EVT_LIVE b ||| 2 ^ n)).pmcEvent b (0x10 + n)).latchEvt b n) :=
      ((quiet_wr _ _ _ _ _).trans (quiet_pmcEvent _ _ _ _)).trans (quiet_latchEvt _ _ _)
    dsimp only
    split
    · exact h.trans (quiet_capCause _ _)
    · exact h
    · exact h

theorem quiet_pulse (c : Chip) (b n : Nat) : Quiet c (c.pulse b n) := by
  unfold Chip.pulse
  split
  · exact quiet_latchEvt _ _ _
  · exact Quiet.trans ⟨_, _, _, _, _, _, rfl⟩ (quiet_riseEvt _ _ _)

theorem quiet_level (c : Chip) (b n : Nat) (on : Bool) : Quiet c (c.level b n on) := by
  unfold Chip.level
  split
  · split
    · exact Quiet.refl _
    · exact quiet_riseEvt _ _ _
  · exact quiet_wr _ _ _ _ _

/-! The fields that registers, events and interrupts do not touch. -/


section
variable (c : Chip) (f : Fld) (b i n : Nat)
@[simp] theorem Chip.bump_now : (c.bump f b i n).now = c.now := (quiet_bump c f b i n).now
@[simp] theorem Chip.bump_datum : (c.bump f b i n).datum = c.datum := (quiet_bump c f b i n).datum
@[simp] theorem Chip.bump_rateAcc : (c.bump f b i n).rateAcc = c.rateAcc := (quiet_bump c f b i n).rateAcc
@[simp] theorem Chip.bump_paths : (c.bump f b i n).paths = c.paths := (quiet_bump c f b i n).paths
@[simp] theorem Chip.bump_timers : (c.bump f b i n).timers = c.timers := (quiet_bump c f b i n).timers
@[simp] theorem Chip.bump_plumb : (c.bump f b i n).plumb = c.plumb := (quiet_bump c f b i n).plumb
@[simp] theorem Chip.bump_mram : (c.bump f b i n).mram = c.mram := (quiet_bump c f b i n).mram
@[simp] theorem Chip.bump_flash : (c.bump f b i n).flash = c.flash := (quiet_bump c f b i n).flash
@[simp] theorem Chip.bump_fbk : (c.bump f b i n).fbk = c.fbk := (quiet_bump c f b i n).fbk
@[simp] theorem Chip.bump_twin : (c.bump f b i n).twin = c.twin := (quiet_bump c f b i n).twin
@[simp] theorem Chip.bump_ports : (c.bump f b i n).ports = c.ports := (quiet_bump c f b i n).ports
@[simp] theorem Chip.bump_stages : (c.bump f b i n).stages = c.stages := (quiet_bump c f b i n).stages
@[simp] theorem Chip.bump_engines : (c.bump f b i n).engines = c.engines := (quiet_bump c f b i n).engines
@[simp] theorem Chip.bump_laws : (c.bump f b i n).laws = c.laws := (quiet_bump c f b i n).laws
@[simp] theorem Chip.bump_secs : (c.bump f b i n).secs = c.secs := (quiet_bump c f b i n).secs
@[simp] theorem Chip.bump_caps : (c.bump f b i n).caps = c.caps := (quiet_bump c f b i n).caps
@[simp] theorem Chip.bump_strs : (c.bump f b i n).strs = c.strs := (quiet_bump c f b i n).strs
@[simp] theorem Chip.bump_feeders : (c.bump f b i n).feeders = c.feeders := (quiet_bump c f b i n).feeders
@[simp] theorem Chip.bump_cals : (c.bump f b i n).cals = c.cals := (quiet_bump c f b i n).cals
@[simp] theorem Chip.bump_fab : (c.bump f b i n).fab = c.fab := (quiet_bump c f b i n).fab
@[simp] theorem Chip.bump_arb : (c.bump f b i n).arb = c.arb := (quiet_bump c f b i n).arb
@[simp] theorem Chip.bump_iics : (c.bump f b i n).iics = c.iics := (quiet_bump c f b i n).iics
@[simp] theorem Chip.bump_fwu : (c.bump f b i n).fwu = c.fwu := (quiet_bump c f b i n).fwu
@[simp] theorem Chip.bump_dbg : (c.bump f b i n).dbg = c.dbg := (quiet_bump c f b i n).dbg
@[simp] theorem Chip.bump_snap : (c.bump f b i n).snap = c.snap := (quiet_bump c f b i n).snap
@[simp] theorem Chip.bump_freeCtr : (c.bump f b i n).freeCtr = c.freeCtr := (quiet_bump c f b i n).freeCtr
end

section
variable (c : Chip) (b j n : Nat)
@[simp] theorem Chip.pmcAdd_now : (c.pmcAdd b j n).now = c.now := (quiet_pmcAdd c b j n).now
@[simp] theorem Chip.pmcAdd_datum : (c.pmcAdd b j n).datum = c.datum := (quiet_pmcAdd c b j n).datum
@[simp] theorem Chip.pmcAdd_rateAcc : (c.pmcAdd b j n).rateAcc = c.rateAcc := (quiet_pmcAdd c b j n).rateAcc
@[simp] theorem Chip.pmcAdd_paths : (c.pmcAdd b j n).paths = c.paths := (quiet_pmcAdd c b j n).paths
@[simp] theorem Chip.pmcAdd_timers : (c.pmcAdd b j n).timers = c.timers := (quiet_pmcAdd c b j n).timers
@[simp] theorem Chip.pmcAdd_plumb : (c.pmcAdd b j n).plumb = c.plumb := (quiet_pmcAdd c b j n).plumb
@[simp] theorem Chip.pmcAdd_mram : (c.pmcAdd b j n).mram = c.mram := (quiet_pmcAdd c b j n).mram
@[simp] theorem Chip.pmcAdd_flash : (c.pmcAdd b j n).flash = c.flash := (quiet_pmcAdd c b j n).flash
@[simp] theorem Chip.pmcAdd_fbk : (c.pmcAdd b j n).fbk = c.fbk := (quiet_pmcAdd c b j n).fbk
@[simp] theorem Chip.pmcAdd_twin : (c.pmcAdd b j n).twin = c.twin := (quiet_pmcAdd c b j n).twin
@[simp] theorem Chip.pmcAdd_ports : (c.pmcAdd b j n).ports = c.ports := (quiet_pmcAdd c b j n).ports
@[simp] theorem Chip.pmcAdd_stages : (c.pmcAdd b j n).stages = c.stages := (quiet_pmcAdd c b j n).stages
@[simp] theorem Chip.pmcAdd_engines : (c.pmcAdd b j n).engines = c.engines := (quiet_pmcAdd c b j n).engines
@[simp] theorem Chip.pmcAdd_laws : (c.pmcAdd b j n).laws = c.laws := (quiet_pmcAdd c b j n).laws
@[simp] theorem Chip.pmcAdd_secs : (c.pmcAdd b j n).secs = c.secs := (quiet_pmcAdd c b j n).secs
@[simp] theorem Chip.pmcAdd_caps : (c.pmcAdd b j n).caps = c.caps := (quiet_pmcAdd c b j n).caps
@[simp] theorem Chip.pmcAdd_strs : (c.pmcAdd b j n).strs = c.strs := (quiet_pmcAdd c b j n).strs
@[simp] theorem Chip.pmcAdd_feeders : (c.pmcAdd b j n).feeders = c.feeders := (quiet_pmcAdd c b j n).feeders
@[simp] theorem Chip.pmcAdd_cals : (c.pmcAdd b j n).cals = c.cals := (quiet_pmcAdd c b j n).cals
@[simp] theorem Chip.pmcAdd_fab : (c.pmcAdd b j n).fab = c.fab := (quiet_pmcAdd c b j n).fab
@[simp] theorem Chip.pmcAdd_arb : (c.pmcAdd b j n).arb = c.arb := (quiet_pmcAdd c b j n).arb
@[simp] theorem Chip.pmcAdd_iics : (c.pmcAdd b j n).iics = c.iics := (quiet_pmcAdd c b j n).iics
@[simp] theorem Chip.pmcAdd_fwu : (c.pmcAdd b j n).fwu = c.fwu := (quiet_pmcAdd c b j n).fwu
@[simp] theorem Chip.pmcAdd_dbg : (c.pmcAdd b j n).dbg = c.dbg := (quiet_pmcAdd c b j n).dbg
@[simp] theorem Chip.pmcAdd_snap : (c.pmcAdd b j n).snap = c.snap := (quiet_pmcAdd c b j n).snap
@[simp] theorem Chip.pmcAdd_freeCtr : (c.pmcAdd b j n).freeCtr = c.freeCtr := (quiet_pmcAdd c b j n).freeCtr
end

section
variable (c : Chip) (b e n : Nat)
@[simp] theorem Chip.pmcEvent_now : (c.pmcEvent b e n).now = c.now := (quiet_pmcEvent c b e n).now
@[simp] theorem Chip.pmcEvent_datum : (c.pmcEvent b e n).datum = c.datum := (quiet_pmcEvent c b e n).datum
@[simp] theorem Chip.pmcEvent_rateAcc : (c.pmcEvent b e n).rateAcc = c.rateAcc := (quiet_pmcEvent c b e n).rateAcc
@[simp] theorem Chip.pmcEvent_paths : (c.pmcEvent b e n).paths = c.paths := (quiet_pmcEvent c b e n).paths
@[simp] theorem Chip.pmcEvent_timers : (c.pmcEvent b e n).timers = c.timers := (quiet_pmcEvent c b e n).timers
@[simp] theorem Chip.pmcEvent_plumb : (c.pmcEvent b e n).plumb = c.plumb := (quiet_pmcEvent c b e n).plumb
@[simp] theorem Chip.pmcEvent_mram : (c.pmcEvent b e n).mram = c.mram := (quiet_pmcEvent c b e n).mram
@[simp] theorem Chip.pmcEvent_flash : (c.pmcEvent b e n).flash = c.flash := (quiet_pmcEvent c b e n).flash
@[simp] theorem Chip.pmcEvent_fbk : (c.pmcEvent b e n).fbk = c.fbk := (quiet_pmcEvent c b e n).fbk
@[simp] theorem Chip.pmcEvent_twin : (c.pmcEvent b e n).twin = c.twin := (quiet_pmcEvent c b e n).twin
@[simp] theorem Chip.pmcEvent_ports : (c.pmcEvent b e n).ports = c.ports := (quiet_pmcEvent c b e n).ports
@[simp] theorem Chip.pmcEvent_stages : (c.pmcEvent b e n).stages = c.stages := (quiet_pmcEvent c b e n).stages
@[simp] theorem Chip.pmcEvent_engines : (c.pmcEvent b e n).engines = c.engines := (quiet_pmcEvent c b e n).engines
@[simp] theorem Chip.pmcEvent_laws : (c.pmcEvent b e n).laws = c.laws := (quiet_pmcEvent c b e n).laws
@[simp] theorem Chip.pmcEvent_secs : (c.pmcEvent b e n).secs = c.secs := (quiet_pmcEvent c b e n).secs
@[simp] theorem Chip.pmcEvent_caps : (c.pmcEvent b e n).caps = c.caps := (quiet_pmcEvent c b e n).caps
@[simp] theorem Chip.pmcEvent_strs : (c.pmcEvent b e n).strs = c.strs := (quiet_pmcEvent c b e n).strs
@[simp] theorem Chip.pmcEvent_feeders : (c.pmcEvent b e n).feeders = c.feeders := (quiet_pmcEvent c b e n).feeders
@[simp] theorem Chip.pmcEvent_cals : (c.pmcEvent b e n).cals = c.cals := (quiet_pmcEvent c b e n).cals
@[simp] theorem Chip.pmcEvent_fab : (c.pmcEvent b e n).fab = c.fab := (quiet_pmcEvent c b e n).fab
@[simp] theorem Chip.pmcEvent_arb : (c.pmcEvent b e n).arb = c.arb := (quiet_pmcEvent c b e n).arb
@[simp] theorem Chip.pmcEvent_iics : (c.pmcEvent b e n).iics = c.iics := (quiet_pmcEvent c b e n).iics
@[simp] theorem Chip.pmcEvent_fwu : (c.pmcEvent b e n).fwu = c.fwu := (quiet_pmcEvent c b e n).fwu
@[simp] theorem Chip.pmcEvent_dbg : (c.pmcEvent b e n).dbg = c.dbg := (quiet_pmcEvent c b e n).dbg
@[simp] theorem Chip.pmcEvent_snap : (c.pmcEvent b e n).snap = c.snap := (quiet_pmcEvent c b e n).snap
@[simp] theorem Chip.pmcEvent_freeCtr : (c.pmcEvent b e n).freeCtr = c.freeCtr := (quiet_pmcEvent c b e n).freeCtr
end

section
variable (c : Chip) (b : Nat)
@[simp] theorem Chip.seqInc_now : (c.seqInc b).now = c.now := (quiet_seqInc c b).now
@[simp] theorem Chip.seqInc_datum : (c.seqInc b).datum = c.datum := (quiet_seqInc c b).datum
@[simp] theorem Chip.seqInc_rateAcc : (c.seqInc b).rateAcc = c.rateAcc := (quiet_seqInc c b).rateAcc
@[simp] theorem Chip.seqInc_paths : (c.seqInc b).paths = c.paths := (quiet_seqInc c b).paths
@[simp] theorem Chip.seqInc_timers : (c.seqInc b).timers = c.timers := (quiet_seqInc c b).timers
@[simp] theorem Chip.seqInc_plumb : (c.seqInc b).plumb = c.plumb := (quiet_seqInc c b).plumb
@[simp] theorem Chip.seqInc_mram : (c.seqInc b).mram = c.mram := (quiet_seqInc c b).mram
@[simp] theorem Chip.seqInc_flash : (c.seqInc b).flash = c.flash := (quiet_seqInc c b).flash
@[simp] theorem Chip.seqInc_fbk : (c.seqInc b).fbk = c.fbk := (quiet_seqInc c b).fbk
@[simp] theorem Chip.seqInc_twin : (c.seqInc b).twin = c.twin := (quiet_seqInc c b).twin
@[simp] theorem Chip.seqInc_ports : (c.seqInc b).ports = c.ports := (quiet_seqInc c b).ports
@[simp] theorem Chip.seqInc_stages : (c.seqInc b).stages = c.stages := (quiet_seqInc c b).stages
@[simp] theorem Chip.seqInc_engines : (c.seqInc b).engines = c.engines := (quiet_seqInc c b).engines
@[simp] theorem Chip.seqInc_laws : (c.seqInc b).laws = c.laws := (quiet_seqInc c b).laws
@[simp] theorem Chip.seqInc_secs : (c.seqInc b).secs = c.secs := (quiet_seqInc c b).secs
@[simp] theorem Chip.seqInc_caps : (c.seqInc b).caps = c.caps := (quiet_seqInc c b).caps
@[simp] theorem Chip.seqInc_strs : (c.seqInc b).strs = c.strs := (quiet_seqInc c b).strs
@[simp] theorem Chip.seqInc_feeders : (c.seqInc b).feeders = c.feeders := (quiet_seqInc c b).feeders
@[simp] theorem Chip.seqInc_cals : (c.seqInc b).cals = c.cals := (quiet_seqInc c b).cals
@[simp] theorem Chip.seqInc_fab : (c.seqInc b).fab = c.fab := (quiet_seqInc c b).fab
@[simp] theorem Chip.seqInc_arb : (c.seqInc b).arb = c.arb := (quiet_seqInc c b).arb
@[simp] theorem Chip.seqInc_iics : (c.seqInc b).iics = c.iics := (quiet_seqInc c b).iics
@[simp] theorem Chip.seqInc_fwu : (c.seqInc b).fwu = c.fwu := (quiet_seqInc c b).fwu
@[simp] theorem Chip.seqInc_dbg : (c.seqInc b).dbg = c.dbg := (quiet_seqInc c b).dbg
@[simp] theorem Chip.seqInc_snap : (c.seqInc b).snap = c.snap := (quiet_seqInc c b).snap
@[simp] theorem Chip.seqInc_freeCtr : (c.seqInc b).freeCtr = c.freeCtr := (quiet_seqInc c b).freeCtr
end

section
variable (c : Chip) (b : Nat) (us : List (Fld × Nat × Nat))
@[simp] theorem Chip.hw_now : (c.hw b us).now = c.now := (quiet_hw c b us).now
@[simp] theorem Chip.hw_datum : (c.hw b us).datum = c.datum := (quiet_hw c b us).datum
@[simp] theorem Chip.hw_rateAcc : (c.hw b us).rateAcc = c.rateAcc := (quiet_hw c b us).rateAcc
@[simp] theorem Chip.hw_paths : (c.hw b us).paths = c.paths := (quiet_hw c b us).paths
@[simp] theorem Chip.hw_timers : (c.hw b us).timers = c.timers := (quiet_hw c b us).timers
@[simp] theorem Chip.hw_plumb : (c.hw b us).plumb = c.plumb := (quiet_hw c b us).plumb
@[simp] theorem Chip.hw_mram : (c.hw b us).mram = c.mram := (quiet_hw c b us).mram
@[simp] theorem Chip.hw_flash : (c.hw b us).flash = c.flash := (quiet_hw c b us).flash
@[simp] theorem Chip.hw_fbk : (c.hw b us).fbk = c.fbk := (quiet_hw c b us).fbk
@[simp] theorem Chip.hw_twin : (c.hw b us).twin = c.twin := (quiet_hw c b us).twin
@[simp] theorem Chip.hw_ports : (c.hw b us).ports = c.ports := (quiet_hw c b us).ports
@[simp] theorem Chip.hw_stages : (c.hw b us).stages = c.stages := (quiet_hw c b us).stages
@[simp] theorem Chip.hw_engines : (c.hw b us).engines = c.engines := (quiet_hw c b us).engines
@[simp] theorem Chip.hw_laws : (c.hw b us).laws = c.laws := (quiet_hw c b us).laws
@[simp] theorem Chip.hw_secs : (c.hw b us).secs = c.secs := (quiet_hw c b us).secs
@[simp] theorem Chip.hw_caps : (c.hw b us).caps = c.caps := (quiet_hw c b us).caps
@[simp] theorem Chip.hw_strs : (c.hw b us).strs = c.strs := (quiet_hw c b us).strs
@[simp] theorem Chip.hw_feeders : (c.hw b us).feeders = c.feeders := (quiet_hw c b us).feeders
@[simp] theorem Chip.hw_cals : (c.hw b us).cals = c.cals := (quiet_hw c b us).cals
@[simp] theorem Chip.hw_fab : (c.hw b us).fab = c.fab := (quiet_hw c b us).fab
@[simp] theorem Chip.hw_arb : (c.hw b us).arb = c.arb := (quiet_hw c b us).arb
@[simp] theorem Chip.hw_iics : (c.hw b us).iics = c.iics := (quiet_hw c b us).iics
@[simp] theorem Chip.hw_fwu : (c.hw b us).fwu = c.fwu := (quiet_hw c b us).fwu
@[simp] theorem Chip.hw_dbg : (c.hw b us).dbg = c.dbg := (quiet_hw c b us).dbg
@[simp] theorem Chip.hw_snap : (c.hw b us).snap = c.snap := (quiet_hw c b us).snap
@[simp] theorem Chip.hw_freeCtr : (c.hw b us).freeCtr = c.freeCtr := (quiet_hw c b us).freeCtr
end

section
variable (c : Chip) (f : Fld) (b v i : Nat)
@[simp] theorem Chip.up_now : (c.up f b v i).now = c.now := (quiet_up c f b v i).now
@[simp] theorem Chip.up_datum : (c.up f b v i).datum = c.datum := (quiet_up c f b v i).datum
@[simp] theorem Chip.up_rateAcc : (c.up f b v i).rateAcc = c.rateAcc := (quiet_up c f b v i).rateAcc
@[simp] theorem Chip.up_paths : (c.up f b v i).paths = c.paths := (quiet_up c f b v i).paths
@[simp] theorem Chip.up_timers : (c.up f b v i).timers = c.timers := (quiet_up c f b v i).timers
@[simp] theorem Chip.up_plumb : (c.up f b v i).plumb = c.plumb := (quiet_up c f b v i).plumb
@[simp] theorem Chip.up_mram : (c.up f b v i).mram = c.mram := (quiet_up c f b v i).mram
@[simp] theorem Chip.up_flash : (c.up f b v i).flash = c.flash := (quiet_up c f b v i).flash
@[simp] theorem Chip.up_fbk : (c.up f b v i).fbk = c.fbk := (quiet_up c f b v i).fbk
@[simp] theorem Chip.up_twin : (c.up f b v i).twin = c.twin := (quiet_up c f b v i).twin
@[simp] theorem Chip.up_ports : (c.up f b v i).ports = c.ports := (quiet_up c f b v i).ports
@[simp] theorem Chip.up_stages : (c.up f b v i).stages = c.stages := (quiet_up c f b v i).stages
@[simp] theorem Chip.up_engines : (c.up f b v i).engines = c.engines := (quiet_up c f b v i).engines
@[simp] theorem Chip.up_laws : (c.up f b v i).laws = c.laws := (quiet_up c f b v i).laws
@[simp] theorem Chip.up_secs : (c.up f b v i).secs = c.secs := (quiet_up c f b v i).secs
@[simp] theorem Chip.up_caps : (c.up f b v i).caps = c.caps := (quiet_up c f b v i).caps
@[simp] theorem Chip.up_strs : (c.up f b v i).strs = c.strs := (quiet_up c f b v i).strs
@[simp] theorem Chip.up_feeders : (c.up f b v i).feeders = c.feeders := (quiet_up c f b v i).feeders
@[simp] theorem Chip.up_cals : (c.up f b v i).cals = c.cals := (quiet_up c f b v i).cals
@[simp] theorem Chip.up_fab : (c.up f b v i).fab = c.fab := (quiet_up c f b v i).fab
@[simp] theorem Chip.up_arb : (c.up f b v i).arb = c.arb := (quiet_up c f b v i).arb
@[simp] theorem Chip.up_iics : (c.up f b v i).iics = c.iics := (quiet_up c f b v i).iics
@[simp] theorem Chip.up_fwu : (c.up f b v i).fwu = c.fwu := (quiet_up c f b v i).fwu
@[simp] theorem Chip.up_dbg : (c.up f b v i).dbg = c.dbg := (quiet_up c f b v i).dbg
@[simp] theorem Chip.up_snap : (c.up f b v i).snap = c.snap := (quiet_up c f b v i).snap
@[simp] theorem Chip.up_freeCtr : (c.up f b v i).freeCtr = c.freeCtr := (quiet_up c f b v i).freeCtr
end

section
variable (c : Chip) (v : Nat)
@[simp] theorem Chip.sendVec_now : (c.sendVec v).now = c.now := (quiet_sendVec c v).now
@[simp] theorem Chip.sendVec_datum : (c.sendVec v).datum = c.datum := (quiet_sendVec c v).datum
@[simp] theorem Chip.sendVec_rateAcc : (c.sendVec v).rateAcc = c.rateAcc := (quiet_sendVec c v).rateAcc
@[simp] theorem Chip.sendVec_paths : (c.sendVec v).paths = c.paths := (quiet_sendVec c v).paths
@[simp] theorem Chip.sendVec_timers : (c.sendVec v).timers = c.timers := (quiet_sendVec c v).timers
@[simp] theorem Chip.sendVec_plumb : (c.sendVec v).plumb = c.plumb := (quiet_sendVec c v).plumb
@[simp] theorem Chip.sendVec_mram : (c.sendVec v).mram = c.mram := (quiet_sendVec c v).mram
@[simp] theorem Chip.sendVec_flash : (c.sendVec v).flash = c.flash := (quiet_sendVec c v).flash
@[simp] theorem Chip.sendVec_fbk : (c.sendVec v).fbk = c.fbk := (quiet_sendVec c v).fbk
@[simp] theorem Chip.sendVec_twin : (c.sendVec v).twin = c.twin := (quiet_sendVec c v).twin
@[simp] theorem Chip.sendVec_ports : (c.sendVec v).ports = c.ports := (quiet_sendVec c v).ports
@[simp] theorem Chip.sendVec_stages : (c.sendVec v).stages = c.stages := (quiet_sendVec c v).stages
@[simp] theorem Chip.sendVec_engines : (c.sendVec v).engines = c.engines := (quiet_sendVec c v).engines
@[simp] theorem Chip.sendVec_laws : (c.sendVec v).laws = c.laws := (quiet_sendVec c v).laws
@[simp] theorem Chip.sendVec_secs : (c.sendVec v).secs = c.secs := (quiet_sendVec c v).secs
@[simp] theorem Chip.sendVec_caps : (c.sendVec v).caps = c.caps := (quiet_sendVec c v).caps
@[simp] theorem Chip.sendVec_strs : (c.sendVec v).strs = c.strs := (quiet_sendVec c v).strs
@[simp] theorem Chip.sendVec_feeders : (c.sendVec v).feeders = c.feeders := (quiet_sendVec c v).feeders
@[simp] theorem Chip.sendVec_cals : (c.sendVec v).cals = c.cals := (quiet_sendVec c v).cals
@[simp] theorem Chip.sendVec_fab : (c.sendVec v).fab = c.fab := (quiet_sendVec c v).fab
@[simp] theorem Chip.sendVec_arb : (c.sendVec v).arb = c.arb := (quiet_sendVec c v).arb
@[simp] theorem Chip.sendVec_iics : (c.sendVec v).iics = c.iics := (quiet_sendVec c v).iics
@[simp] theorem Chip.sendVec_fwu : (c.sendVec v).fwu = c.fwu := (quiet_sendVec c v).fwu
@[simp] theorem Chip.sendVec_dbg : (c.sendVec v).dbg = c.dbg := (quiet_sendVec c v).dbg
@[simp] theorem Chip.sendVec_snap : (c.sendVec v).snap = c.snap := (quiet_sendVec c v).snap
@[simp] theorem Chip.sendVec_freeCtr : (c.sendVec v).freeCtr = c.freeCtr := (quiet_sendVec c v).freeCtr
end

section
variable (c : Chip) (b : Nat) (on : Bool)
@[simp] theorem Chip.pendBit_now : (c.pendBit b on).now = c.now := (quiet_pendBit c b on).now
@[simp] theorem Chip.pendBit_datum : (c.pendBit b on).datum = c.datum := (quiet_pendBit c b on).datum
@[simp] theorem Chip.pendBit_rateAcc : (c.pendBit b on).rateAcc = c.rateAcc := (quiet_pendBit c b on).rateAcc
@[simp] theorem Chip.pendBit_paths : (c.pendBit b on).paths = c.paths := (quiet_pendBit c b on).paths
@[simp] theorem Chip.pendBit_timers : (c.pendBit b on).timers = c.timers := (quiet_pendBit c b on).timers
@[simp] theorem Chip.pendBit_plumb : (c.pendBit b on).plumb = c.plumb := (quiet_pendBit c b on).plumb
@[simp] theorem Chip.pendBit_mram : (c.pendBit b on).mram = c.mram := (quiet_pendBit c b on).mram
@[simp] theorem Chip.pendBit_flash : (c.pendBit b on).flash = c.flash := (quiet_pendBit c b on).flash
@[simp] theorem Chip.pendBit_fbk : (c.pendBit b on).fbk = c.fbk := (quiet_pendBit c b on).fbk
@[simp] theorem Chip.pendBit_twin : (c.pendBit b on).twin = c.twin := (quiet_pendBit c b on).twin
@[simp] theorem Chip.pendBit_ports : (c.pendBit b on).ports = c.ports := (quiet_pendBit c b on).ports
@[simp] theorem Chip.pendBit_stages : (c.pendBit b on).stages = c.stages := (quiet_pendBit c b on).stages
@[simp] theorem Chip.pendBit_engines : (c.pendBit b on).engines = c.engines := (quiet_pendBit c b on).engines
@[simp] theorem Chip.pendBit_laws : (c.pendBit b on).laws = c.laws := (quiet_pendBit c b on).laws
@[simp] theorem Chip.pendBit_secs : (c.pendBit b on).secs = c.secs := (quiet_pendBit c b on).secs
@[simp] theorem Chip.pendBit_caps : (c.pendBit b on).caps = c.caps := (quiet_pendBit c b on).caps
@[simp] theorem Chip.pendBit_strs : (c.pendBit b on).strs = c.strs := (quiet_pendBit c b on).strs
@[simp] theorem Chip.pendBit_feeders : (c.pendBit b on).feeders = c.feeders := (quiet_pendBit c b on).feeders
@[simp] theorem Chip.pendBit_cals : (c.pendBit b on).cals = c.cals := (quiet_pendBit c b on).cals
@[simp] theorem Chip.pendBit_fab : (c.pendBit b on).fab = c.fab := (quiet_pendBit c b on).fab
@[simp] theorem Chip.pendBit_arb : (c.pendBit b on).arb = c.arb := (quiet_pendBit c b on).arb
@[simp] theorem Chip.pendBit_iics : (c.pendBit b on).iics = c.iics := (quiet_pendBit c b on).iics
@[simp] theorem Chip.pendBit_fwu : (c.pendBit b on).fwu = c.fwu := (quiet_pendBit c b on).fwu
@[simp] theorem Chip.pendBit_dbg : (c.pendBit b on).dbg = c.dbg := (quiet_pendBit c b on).dbg
@[simp] theorem Chip.pendBit_snap : (c.pendBit b on).snap = c.snap := (quiet_pendBit c b on).snap
@[simp] theorem Chip.pendBit_freeCtr : (c.pendBit b on).freeCtr = c.freeCtr := (quiet_pendBit c b on).freeCtr
end

section
variable (c : Chip) (b : Nat) (r : Bool)
@[simp] theorem Chip.reIrq_now : (c.reIrq b r).now = c.now := (quiet_reIrq c b r).now
@[simp] theorem Chip.reIrq_datum : (c.reIrq b r).datum = c.datum := (quiet_reIrq c b r).datum
@[simp] theorem Chip.reIrq_rateAcc : (c.reIrq b r).rateAcc = c.rateAcc := (quiet_reIrq c b r).rateAcc
@[simp] theorem Chip.reIrq_paths : (c.reIrq b r).paths = c.paths := (quiet_reIrq c b r).paths
@[simp] theorem Chip.reIrq_timers : (c.reIrq b r).timers = c.timers := (quiet_reIrq c b r).timers
@[simp] theorem Chip.reIrq_plumb : (c.reIrq b r).plumb = c.plumb := (quiet_reIrq c b r).plumb
@[simp] theorem Chip.reIrq_mram : (c.reIrq b r).mram = c.mram := (quiet_reIrq c b r).mram
@[simp] theorem Chip.reIrq_flash : (c.reIrq b r).flash = c.flash := (quiet_reIrq c b r).flash
@[simp] theorem Chip.reIrq_fbk : (c.reIrq b r).fbk = c.fbk := (quiet_reIrq c b r).fbk
@[simp] theorem Chip.reIrq_twin : (c.reIrq b r).twin = c.twin := (quiet_reIrq c b r).twin
@[simp] theorem Chip.reIrq_ports : (c.reIrq b r).ports = c.ports := (quiet_reIrq c b r).ports
@[simp] theorem Chip.reIrq_stages : (c.reIrq b r).stages = c.stages := (quiet_reIrq c b r).stages
@[simp] theorem Chip.reIrq_engines : (c.reIrq b r).engines = c.engines := (quiet_reIrq c b r).engines
@[simp] theorem Chip.reIrq_laws : (c.reIrq b r).laws = c.laws := (quiet_reIrq c b r).laws
@[simp] theorem Chip.reIrq_secs : (c.reIrq b r).secs = c.secs := (quiet_reIrq c b r).secs
@[simp] theorem Chip.reIrq_caps : (c.reIrq b r).caps = c.caps := (quiet_reIrq c b r).caps
@[simp] theorem Chip.reIrq_strs : (c.reIrq b r).strs = c.strs := (quiet_reIrq c b r).strs
@[simp] theorem Chip.reIrq_feeders : (c.reIrq b r).feeders = c.feeders := (quiet_reIrq c b r).feeders
@[simp] theorem Chip.reIrq_cals : (c.reIrq b r).cals = c.cals := (quiet_reIrq c b r).cals
@[simp] theorem Chip.reIrq_fab : (c.reIrq b r).fab = c.fab := (quiet_reIrq c b r).fab
@[simp] theorem Chip.reIrq_arb : (c.reIrq b r).arb = c.arb := (quiet_reIrq c b r).arb
@[simp] theorem Chip.reIrq_iics : (c.reIrq b r).iics = c.iics := (quiet_reIrq c b r).iics
@[simp] theorem Chip.reIrq_fwu : (c.reIrq b r).fwu = c.fwu := (quiet_reIrq c b r).fwu
@[simp] theorem Chip.reIrq_dbg : (c.reIrq b r).dbg = c.dbg := (quiet_reIrq c b r).dbg
@[simp] theorem Chip.reIrq_snap : (c.reIrq b r).snap = c.snap := (quiet_reIrq c b r).snap
@[simp] theorem Chip.reIrq_freeCtr : (c.reIrq b r).freeCtr = c.freeCtr := (quiet_reIrq c b r).freeCtr
end

section
variable (c : Chip) (b n : Nat)
@[simp] theorem Chip.latchEvt_now : (c.latchEvt b n).now = c.now := (quiet_latchEvt c b n).now
@[simp] theorem Chip.latchEvt_datum : (c.latchEvt b n).datum = c.datum := (quiet_latchEvt c b n).datum
@[simp] theorem Chip.latchEvt_rateAcc : (c.latchEvt b n).rateAcc = c.rateAcc := (quiet_latchEvt c b n).rateAcc
@[simp] theorem Chip.latchEvt_paths : (c.latchEvt b n).paths = c.paths := (quiet_latchEvt c b n).paths
@[simp] theorem Chip.latchEvt_timers : (c.latchEvt b n).timers = c.timers := (quiet_latchEvt c b n).timers
@[simp] theorem Chip.latchEvt_plumb : (c.latchEvt b n).plumb = c.plumb := (quiet_latchEvt c b n).plumb
@[simp] theorem Chip.latchEvt_mram : (c.latchEvt b n).mram = c.mram := (quiet_latchEvt c b n).mram
@[simp] theorem Chip.latchEvt_flash : (c.latchEvt b n).flash = c.flash := (quiet_latchEvt c b n).flash
@[simp] theorem Chip.latchEvt_fbk : (c.latchEvt b n).fbk = c.fbk := (quiet_latchEvt c b n).fbk
@[simp] theorem Chip.latchEvt_twin : (c.latchEvt b n).twin = c.twin := (quiet_latchEvt c b n).twin
@[simp] theorem Chip.latchEvt_ports : (c.latchEvt b n).ports = c.ports := (quiet_latchEvt c b n).ports
@[simp] theorem Chip.latchEvt_stages : (c.latchEvt b n).stages = c.stages := (quiet_latchEvt c b n).stages
@[simp] theorem Chip.latchEvt_engines : (c.latchEvt b n).engines = c.engines := (quiet_latchEvt c b n).engines
@[simp] theorem Chip.latchEvt_laws : (c.latchEvt b n).laws = c.laws := (quiet_latchEvt c b n).laws
@[simp] theorem Chip.latchEvt_secs : (c.latchEvt b n).secs = c.secs := (quiet_latchEvt c b n).secs
@[simp] theorem Chip.latchEvt_caps : (c.latchEvt b n).caps = c.caps := (quiet_latchEvt c b n).caps
@[simp] theorem Chip.latchEvt_strs : (c.latchEvt b n).strs = c.strs := (quiet_latchEvt c b n).strs
@[simp] theorem Chip.latchEvt_feeders : (c.latchEvt b n).feeders = c.feeders := (quiet_latchEvt c b n).feeders
@[simp] theorem Chip.latchEvt_cals : (c.latchEvt b n).cals = c.cals := (quiet_latchEvt c b n).cals
@[simp] theorem Chip.latchEvt_fab : (c.latchEvt b n).fab = c.fab := (quiet_latchEvt c b n).fab
@[simp] theorem Chip.latchEvt_arb : (c.latchEvt b n).arb = c.arb := (quiet_latchEvt c b n).arb
@[simp] theorem Chip.latchEvt_iics : (c.latchEvt b n).iics = c.iics := (quiet_latchEvt c b n).iics
@[simp] theorem Chip.latchEvt_fwu : (c.latchEvt b n).fwu = c.fwu := (quiet_latchEvt c b n).fwu
@[simp] theorem Chip.latchEvt_dbg : (c.latchEvt b n).dbg = c.dbg := (quiet_latchEvt c b n).dbg
@[simp] theorem Chip.latchEvt_snap : (c.latchEvt b n).snap = c.snap := (quiet_latchEvt c b n).snap
@[simp] theorem Chip.latchEvt_freeCtr : (c.latchEvt b n).freeCtr = c.freeCtr := (quiet_latchEvt c b n).freeCtr
end

section
variable (c : Chip) (h : Nat → Nat → Nat → Bool)
@[simp] theorem Chip.capCause_now : (c.capCause h).now = c.now := (quiet_capCause c h).now
@[simp] theorem Chip.capCause_datum : (c.capCause h).datum = c.datum := (quiet_capCause c h).datum
@[simp] theorem Chip.capCause_rateAcc : (c.capCause h).rateAcc = c.rateAcc := (quiet_capCause c h).rateAcc
@[simp] theorem Chip.capCause_paths : (c.capCause h).paths = c.paths := (quiet_capCause c h).paths
@[simp] theorem Chip.capCause_timers : (c.capCause h).timers = c.timers := (quiet_capCause c h).timers
@[simp] theorem Chip.capCause_plumb : (c.capCause h).plumb = c.plumb := (quiet_capCause c h).plumb
@[simp] theorem Chip.capCause_mram : (c.capCause h).mram = c.mram := (quiet_capCause c h).mram
@[simp] theorem Chip.capCause_flash : (c.capCause h).flash = c.flash := (quiet_capCause c h).flash
@[simp] theorem Chip.capCause_fbk : (c.capCause h).fbk = c.fbk := (quiet_capCause c h).fbk
@[simp] theorem Chip.capCause_twin : (c.capCause h).twin = c.twin := (quiet_capCause c h).twin
@[simp] theorem Chip.capCause_ports : (c.capCause h).ports = c.ports := (quiet_capCause c h).ports
@[simp] theorem Chip.capCause_stages : (c.capCause h).stages = c.stages := (quiet_capCause c h).stages
@[simp] theorem Chip.capCause_engines : (c.capCause h).engines = c.engines := (quiet_capCause c h).engines
@[simp] theorem Chip.capCause_laws : (c.capCause h).laws = c.laws := (quiet_capCause c h).laws
@[simp] theorem Chip.capCause_secs : (c.capCause h).secs = c.secs := (quiet_capCause c h).secs
@[simp] theorem Chip.capCause_caps : (c.capCause h).caps = c.caps := (quiet_capCause c h).caps
@[simp] theorem Chip.capCause_strs : (c.capCause h).strs = c.strs := (quiet_capCause c h).strs
@[simp] theorem Chip.capCause_feeders : (c.capCause h).feeders = c.feeders := (quiet_capCause c h).feeders
@[simp] theorem Chip.capCause_cals : (c.capCause h).cals = c.cals := (quiet_capCause c h).cals
@[simp] theorem Chip.capCause_fab : (c.capCause h).fab = c.fab := (quiet_capCause c h).fab
@[simp] theorem Chip.capCause_arb : (c.capCause h).arb = c.arb := (quiet_capCause c h).arb
@[simp] theorem Chip.capCause_iics : (c.capCause h).iics = c.iics := (quiet_capCause c h).iics
@[simp] theorem Chip.capCause_fwu : (c.capCause h).fwu = c.fwu := (quiet_capCause c h).fwu
@[simp] theorem Chip.capCause_dbg : (c.capCause h).dbg = c.dbg := (quiet_capCause c h).dbg
@[simp] theorem Chip.capCause_snap : (c.capCause h).snap = c.snap := (quiet_capCause c h).snap
@[simp] theorem Chip.capCause_freeCtr : (c.capCause h).freeCtr = c.freeCtr := (quiet_capCause c h).freeCtr
end

section
variable (c : Chip) (b n : Nat)
@[simp] theorem Chip.riseEvt_now : (c.riseEvt b n).now = c.now := (quiet_riseEvt c b n).now
@[simp] theorem Chip.riseEvt_datum : (c.riseEvt b n).datum = c.datum := (quiet_riseEvt c b n).datum
@[simp] theorem Chip.riseEvt_rateAcc : (c.riseEvt b n).rateAcc = c.rateAcc := (quiet_riseEvt c b n).rateAcc
@[simp] theorem Chip.riseEvt_paths : (c.riseEvt b n).paths = c.paths := (quiet_riseEvt c b n).paths
@[simp] theorem Chip.riseEvt_timers : (c.riseEvt b n).timers = c.timers := (quiet_riseEvt c b n).timers
@[simp] theorem Chip.riseEvt_plumb : (c.riseEvt b n).plumb = c.plumb := (quiet_riseEvt c b n).plumb
@[simp] theorem Chip.riseEvt_mram : (c.riseEvt b n).mram = c.mram := (quiet_riseEvt c b n).mram
@[simp] theorem Chip.riseEvt_flash : (c.riseEvt b n).flash = c.flash := (quiet_riseEvt c b n).flash
@[simp] theorem Chip.riseEvt_fbk : (c.riseEvt b n).fbk = c.fbk := (quiet_riseEvt c b n).fbk
@[simp] theorem Chip.riseEvt_twin : (c.riseEvt b n).twin = c.twin := (quiet_riseEvt c b n).twin
@[simp] theorem Chip.riseEvt_ports : (c.riseEvt b n).ports = c.ports := (quiet_riseEvt c b n).ports
@[simp] theorem Chip.riseEvt_stages : (c.riseEvt b n).stages = c.stages := (quiet_riseEvt c b n).stages
@[simp] theorem Chip.riseEvt_engines : (c.riseEvt b n).engines = c.engines := (quiet_riseEvt c b n).engines
@[simp] theorem Chip.riseEvt_laws : (c.riseEvt b n).laws = c.laws := (quiet_riseEvt c b n).laws
@[simp] theorem Chip.riseEvt_secs : (c.riseEvt b n).secs = c.secs := (quiet_riseEvt c b n).secs
@[simp] theorem Chip.riseEvt_caps : (c.riseEvt b n).caps = c.caps := (quiet_riseEvt c b n).caps
@[simp] theorem Chip.riseEvt_strs : (c.riseEvt b n).strs = c.strs := (quiet_riseEvt c b n).strs
@[simp] theorem Chip.riseEvt_feeders : (c.riseEvt b n).feeders = c.feeders := (quiet_riseEvt c b n).feeders
@[simp] theorem Chip.riseEvt_cals : (c.riseEvt b n).cals = c.cals := (quiet_riseEvt c b n).cals
@[simp] theorem Chip.riseEvt_fab : (c.riseEvt b n).fab = c.fab := (quiet_riseEvt c b n).fab
@[simp] theorem Chip.riseEvt_arb : (c.riseEvt b n).arb = c.arb := (quiet_riseEvt c b n).arb
@[simp] theorem Chip.riseEvt_iics : (c.riseEvt b n).iics = c.iics := (quiet_riseEvt c b n).iics
@[simp] theorem Chip.riseEvt_fwu : (c.riseEvt b n).fwu = c.fwu := (quiet_riseEvt c b n).fwu
@[simp] theorem Chip.riseEvt_dbg : (c.riseEvt b n).dbg = c.dbg := (quiet_riseEvt c b n).dbg
@[simp] theorem Chip.riseEvt_snap : (c.riseEvt b n).snap = c.snap := (quiet_riseEvt c b n).snap
@[simp] theorem Chip.riseEvt_freeCtr : (c.riseEvt b n).freeCtr = c.freeCtr := (quiet_riseEvt c b n).freeCtr
end

section
variable (c : Chip) (b n : Nat)
@[simp] theorem Chip.pulse_now : (c.pulse b n).now = c.now := (quiet_pulse c b n).now
@[simp] theorem Chip.pulse_datum : (c.pulse b n).datum = c.datum := (quiet_pulse c b n).datum
@[simp] theorem Chip.pulse_rateAcc : (c.pulse b n).rateAcc = c.rateAcc := (quiet_pulse c b n).rateAcc
@[simp] theorem Chip.pulse_paths : (c.pulse b n).paths = c.paths := (quiet_pulse c b n).paths
@[simp] theorem Chip.pulse_timers : (c.pulse b n).timers = c.timers := (quiet_pulse c b n).timers
@[simp] theorem Chip.pulse_plumb : (c.pulse b n).plumb = c.plumb := (quiet_pulse c b n).plumb
@[simp] theorem Chip.pulse_mram : (c.pulse b n).mram = c.mram := (quiet_pulse c b n).mram
@[simp] theorem Chip.pulse_flash : (c.pulse b n).flash = c.flash := (quiet_pulse c b n).flash
@[simp] theorem Chip.pulse_fbk : (c.pulse b n).fbk = c.fbk := (quiet_pulse c b n).fbk
@[simp] theorem Chip.pulse_twin : (c.pulse b n).twin = c.twin := (quiet_pulse c b n).twin
@[simp] theorem Chip.pulse_ports : (c.pulse b n).ports = c.ports := (quiet_pulse c b n).ports
@[simp] theorem Chip.pulse_stages : (c.pulse b n).stages = c.stages := (quiet_pulse c b n).stages
@[simp] theorem Chip.pulse_engines : (c.pulse b n).engines = c.engines := (quiet_pulse c b n).engines
@[simp] theorem Chip.pulse_laws : (c.pulse b n).laws = c.laws := (quiet_pulse c b n).laws
@[simp] theorem Chip.pulse_secs : (c.pulse b n).secs = c.secs := (quiet_pulse c b n).secs
@[simp] theorem Chip.pulse_caps : (c.pulse b n).caps = c.caps := (quiet_pulse c b n).caps
@[simp] theorem Chip.pulse_strs : (c.pulse b n).strs = c.strs := (quiet_pulse c b n).strs
@[simp] theorem Chip.pulse_feeders : (c.pulse b n).feeders = c.feeders := (quiet_pulse c b n).feeders
@[simp] theorem Chip.pulse_cals : (c.pulse b n).cals = c.cals := (quiet_pulse c b n).cals
@[simp] theorem Chip.pulse_fab : (c.pulse b n).fab = c.fab := (quiet_pulse c b n).fab
@[simp] theorem Chip.pulse_arb : (c.pulse b n).arb = c.arb := (quiet_pulse c b n).arb
@[simp] theorem Chip.pulse_iics : (c.pulse b n).iics = c.iics := (quiet_pulse c b n).iics
@[simp] theorem Chip.pulse_fwu : (c.pulse b n).fwu = c.fwu := (quiet_pulse c b n).fwu
@[simp] theorem Chip.pulse_dbg : (c.pulse b n).dbg = c.dbg := (quiet_pulse c b n).dbg
@[simp] theorem Chip.pulse_snap : (c.pulse b n).snap = c.snap := (quiet_pulse c b n).snap
@[simp] theorem Chip.pulse_freeCtr : (c.pulse b n).freeCtr = c.freeCtr := (quiet_pulse c b n).freeCtr
end

section
variable (c : Chip) (b n : Nat) (on : Bool)
@[simp] theorem Chip.level_now : (c.level b n on).now = c.now := (quiet_level c b n on).now
@[simp] theorem Chip.level_datum : (c.level b n on).datum = c.datum := (quiet_level c b n on).datum
@[simp] theorem Chip.level_rateAcc : (c.level b n on).rateAcc = c.rateAcc := (quiet_level c b n on).rateAcc
@[simp] theorem Chip.level_paths : (c.level b n on).paths = c.paths := (quiet_level c b n on).paths
@[simp] theorem Chip.level_timers : (c.level b n on).timers = c.timers := (quiet_level c b n on).timers
@[simp] theorem Chip.level_plumb : (c.level b n on).plumb = c.plumb := (quiet_level c b n on).plumb
@[simp] theorem Chip.level_mram : (c.level b n on).mram = c.mram := (quiet_level c b n on).mram
@[simp] theorem Chip.level_flash : (c.level b n on).flash = c.flash := (quiet_level c b n on).flash
@[simp] theorem Chip.level_fbk : (c.level b n on).fbk = c.fbk := (quiet_level c b n on).fbk
@[simp] theorem Chip.level_twin : (c.level b n on).twin = c.twin := (quiet_level c b n on).twin
@[simp] theorem Chip.level_ports : (c.level b n on).ports = c.ports := (quiet_level c b n on).ports
@[simp] theorem Chip.level_stages : (c.level b n on).stages = c.stages := (quiet_level c b n on).stages
@[simp] theorem Chip.level_engines : (c.level b n on).engines = c.engines := (quiet_level c b n on).engines
@[simp] theorem Chip.level_laws : (c.level b n on).laws = c.laws := (quiet_level c b n on).laws
@[simp] theorem Chip.level_secs : (c.level b n on).secs = c.secs := (quiet_level c b n on).secs
@[simp] theorem Chip.level_caps : (c.level b n on).caps = c.caps := (quiet_level c b n on).caps
@[simp] theorem Chip.level_strs : (c.level b n on).strs = c.strs := (quiet_level c b n on).strs
@[simp] theorem Chip.level_feeders : (c.level b n on).feeders = c.feeders := (quiet_level c b n on).feeders
@[simp] theorem Chip.level_cals : (c.level b n on).cals = c.cals := (quiet_level c b n on).cals
@[simp] theorem Chip.level_fab : (c.level b n on).fab = c.fab := (quiet_level c b n on).fab
@[simp] theorem Chip.level_arb : (c.level b n on).arb = c.arb := (quiet_level c b n on).arb
@[simp] theorem Chip.level_iics : (c.level b n on).iics = c.iics := (quiet_level c b n on).iics
@[simp] theorem Chip.level_fwu : (c.level b n on).fwu = c.fwu := (quiet_level c b n on).fwu
@[simp] theorem Chip.level_dbg : (c.level b n on).dbg = c.dbg := (quiet_level c b n on).dbg
@[simp] theorem Chip.level_snap : (c.level b n on).snap = c.snap := (quiet_level c b n on).snap
@[simp] theorem Chip.level_freeCtr : (c.level b n on).freeCtr = c.freeCtr := (quiet_level c b n on).freeCtr
end

/-! Registers. -/

/-- The register fields that counting and judging an interrupt may change, in any page: PG_SEQ and the page's PMC counters; and
HOST.PEND_CE and HOST.PEND_SP. -/
def counted (k : Nat) : Bool :=
  (let o := k / 32 % 4096; o == 0x20 || (decide (0x40 ≤ o) && decide (o < 0x60)))
  || (decide (0x13110 ≤ k / 32) && decide (k / 32 < 0x13138))

/-- The register fields that events may change: those, PG_EVT_LIVE and PG_EVT_LATCH. -/
def noisy (k : Nat) : Bool := counted k || (let o := k / 32 % 4096; o == 0x14 || o == 0x18)

/-- Every register field outside `counted` stands. -/
def Same1 (c d : Chip) : Prop := ∀ k, counted k = false → ∀ v, mapGet d.regs k v = mapGet c.regs k v

/-- Every register field outside `noisy` stands. -/
def Same (c d : Chip) : Prop := ∀ k, noisy k = false → ∀ v, mapGet d.regs k v = mapGet c.regs k v

theorem counted_of_noisy {k : Nat} (h : noisy k = false) : counted k = false := by
  unfold noisy at h; simp at h; exact h.1

theorem Same1.same {c d : Chip} (h : Same1 c d) : Same c d := fun k hk v => h k (counted_of_noisy hk) v

theorem Same1.refl (c : Chip) : Same1 c c := fun _ _ _ => rfl

theorem Same1.trans {c d e : Chip} (h : Same1 c d) (k : Same1 d e) : Same1 c e := fun x hx v => (k x hx v).trans (h x hx v)

theorem Same1.ite {c d e : Chip} {p : Prop} [Decidable p] (h : Same1 c d) (k : Same1 c e) : Same1 c (if p then d else e) := by
  split
  · exact h
  · exact k

theorem Same1.foldc {α : Type} (xs : List α) (f : α → Chip → Chip) (hf : ∀ x ∈ xs, ∀ c, Same1 c (f x c)) (c : Chip) : Same1 c (foldc xs f c) := by
  induction xs generalizing c with
  | nil => exact Same1.refl c
  | cons x xs ih => exact (hf x (by simp) c).trans (ih (fun y hy => hf y (by simp [hy])) (f x c))

theorem Same1.of_eq {c d : Chip} (h : d.regs = c.regs) : Same1 c d := fun _ _ _ => by rw [h]

/-- A write of a counted field. -/
theorem same1_wr (c : Chip) (f : Fld) (b v i : Nat) (h : counted (fldKey f b i) = true) : Same1 c (c.wr f b v i) := by
  intro k hk d
  have : k ≠ fldKey f b i := by intro e; rw [e, h] at hk; cases hk
  exact mapGet_mapSet_ne _ this _ _

theorem Same.refl (c : Chip) : Same c c := fun _ _ _ => rfl

theorem Same.trans {c d e : Chip} (h : Same c d) (k : Same d e) : Same c e := fun x hx v => (k x hx v).trans (h x hx v)

theorem Same.foldc {α : Type} (xs : List α) (f : α → Chip → Chip) (hf : ∀ x ∈ xs, ∀ c, Same c (f x c)) (c : Chip) : Same c (foldc xs f c) := by
  induction xs generalizing c with
  | nil => exact Same.refl c
  | cons x xs ih => exact (hf x (by simp) c).trans (ih (fun y hy => hf y (by simp [hy])) (f x c))

/-- A change of no register leaves every field. -/
theorem Same.of_eq {c d : Chip} (h : d.regs = c.regs) : Same c d := fun _ _ _ => by rw [h]

/-- A write of a noisy field. -/
theorem same_wr (c : Chip) (f : Fld) (b v i : Nat) (h : noisy (fldKey f b i) = true) : Same c (c.wr f b v i) := by
  intro k hk d
  have : k ≠ fldKey f b i := by intro e; rw [e, h] at hk; cases hk
  exact mapGet_mapSet_ne _ this _ _

/-- A field at an offset that events, PG_SEQ or the counters use is noisy. -/
theorem noisy_fld (f : Fld) (b i : Nat) (hb : b % 4096 = 0) (hl : f.lo < 32)
    (ho : let o := f.off + f.stride * i; o = 0x14 ∨ o = 0x18 ∨ o = 0x20 ∨ (0x40 ≤ o ∧ o < 0x60)) : noisy (fldKey f b i) = true := by
  have e : fldKey f b i / 32 = b + f.off + f.stride * i := by unfold fldKey; omega
  have e2 : (b + f.off + f.stride * i) % 4096 = f.off + f.stride * i := by dsimp only at ho; omega
  unfold noisy counted
  rw [e]
  dsimp only at ho ⊢
  rw [e2]
  rcases ho with h | h | h | ⟨h1, h2⟩ <;> simp [*]

/-- PG_SEQ and the counters are counted fields. -/
theorem counted_fld (f : Fld) (b i : Nat) (hb : b % 4096 = 0) (hl : f.lo < 32)
    (ho : let o := f.off + f.stride * i; o = 0x20 ∨ (0x40 ≤ o ∧ o < 0x60)) : counted (fldKey f b i) = true := by
  have e : fldKey f b i / 32 = b + f.off + f.stride * i := by unfold fldKey; omega
  have e2 : (b + f.off + f.stride * i) % 4096 = f.off + f.stride * i := by dsimp only at ho; omega
  unfold counted
  rw [e]
  dsimp only at ho ⊢
  rw [e2]
  rcases ho with h | ⟨h1, h2⟩ <;> simp [*]

/-- A field at any other offset of a page is not, the pending bits of HOST apart. -/
theorem noisy_fld_false (f : Fld) (b i : Nat) (hb : b % 4096 = 0) (hl : f.lo < 32) (hs : f.off + f.stride * i < 4096)
    (ho : let o := f.off + f.stride * i; o ≠ 0x14 ∧ o ≠ 0x18 ∧ o ≠ 0x20 ∧ (o < 0x40 ∨ 0x60 ≤ o))
    (hp : b ≠ 0x13000 ∨ f.off + f.stride * i < 0x110 ∨ 0x138 ≤ f.off + f.stride * i) : noisy (fldKey f b i) = false := by
  dsimp only at ho
  generalize ho' : f.off + f.stride * i = o at *
  have e : fldKey f b i / 32 = b + o := by unfold fldKey; omega
  have e2 : (b + o) % 4096 = o := by omega
  unfold noisy counted
  rw [e]
  dsimp only
  rw [e2]
  simp at hp ⊢
  omega

theorem counted_cnt (b j : Nat) (hb : b % 4096 = 0) (hj : j < 4) : counted (fldKey R.PMC_CNT b j) = true :=
  counted_fld _ _ _ hb (by decide) (by simp only [R.PMC_CNT]; omega)

theorem counted_ovf (b j : Nat) (hb : b % 4096 = 0) (hj : j < 4) : counted (fldKey R.PMC_OVF b j) = true :=
  counted_fld _ _ _ hb (by decide) (by simp only [R.PMC_OVF]; omega)

theorem same1_pmcAdd (c : Chip) (b j n : Nat) (hb : b % 4096 = 0) (hj : j < 4) : Same1 c (c.pmcAdd b j n) := by
  have hc := counted_cnt b j hb hj
  have ho := counted_ovf b j hb hj
  simp only [Chip.pmcAdd]
  split
  · exact same1_wr _ _ _ _ _ hc
  · have s2 := fun v => (same1_wr c R.PMC_CNT b v j hc).trans (same1_wr _ R.PMC_OVF b 1 j ho)
    split
    · rename_i h
      have hj1 : j + 1 < 4 := by simp at h; omega
      have hc := counted_cnt b _ hb hj1
      have ho := counted_ovf b _ hb hj1
      split
      · exact (s2 _).trans (same1_wr _ _ _ _ _ hc)
      · have s3 := fun v w => ((s2 v).trans (same1_wr _ R.PMC_CNT b w (j + 1) hc)).trans (same1_wr _ R.PMC_OVF b 1 (j + 1) ho)
        split
        · rename_i h
          have hj2 : j + 1 + 1 < 4 := by simp at h; omega
          have hc := counted_cnt b _ hb hj2
          have ho := counted_ovf b _ hb hj2
          split
          · exact (s3 _ _).trans (same1_wr _ _ _ _ _ hc)
          · have s4 := fun v w u => ((s3 v w).trans (same1_wr _ R.PMC_CNT b u (j + 1 + 1) hc)).trans (same1_wr _ R.PMC_OVF b 1 (j + 1 + 1) ho)
            split
            · rename_i h
              have hj3 : j + 1 + 1 + 1 < 4 := by simp at h; omega
              have hc := counted_cnt b _ hb hj3
              have ho := counted_ovf b _ hb hj3
              split
              · exact (s4 _ _ _).trans (same1_wr _ _ _ _ _ hc)
              · exact ((s4 _ _ _).trans (same1_wr _ _ _ _ _ hc)).trans (same1_wr _ _ _ _ _ ho)
            · exact s4 _ _ _
        · exact s3 _ _
    · exact s2 _

theorem same1_pmcEvent (c : Chip) (b e n : Nat) (hb : b % 4096 = 0) : Same1 c (c.pmcEvent b e n) := by
  unfold Chip.pmcEvent
  with_reducible apply Same1.ite
  · apply Same1.foldc
    intro x hx c
    have : x < 4 := by simp at hx; omega
    exact Same1.ite (same1_pmcAdd _ _ _ _ hb this) (Same1.refl _)
  · exact Same1.refl _

theorem same1_seqInc (c : Chip) (b : Nat) (hb : b % 4096 = 0) : Same1 c (c.seqInc b) :=
  (same1_wr _ _ _ _ _ (counted_fld R.PG_SEQ b 0 hb (by decide) (by simp [R.PG_SEQ]))).trans (same1_pmcEvent _ _ _ _ hb)

theorem same1_hw (c : Chip) (b : Nat) (us : List (Fld × Nat × Nat)) (hb : b % 4096 = 0) :
    Same1 (foldc us (fun u c => c.wr u.1 b u.2.2 u.2.1) c) (c.hw b us) :=
  Same1.ite (same1_seqInc _ _ hb) (Same1.refl _)

theorem same1_sendVec (c : Chip) (v : Nat) : Same1 c (c.sendVec v) := by
  unfold Chip.sendVec
  split
  · split
    · exact Same1.of_eq rfl
    · exact Same1.of_eq (Chip.send_regs _ _)
  · exact Same1.refl _

theorem counted_pend_ce (k : Nat) (h : k < 4) : counted (fldKey R.HOST_PEND_CE pgHOST k) = true := by
  have : k = 0 ∨ k = 1 ∨ k = 2 ∨ k = 3 := by omega
  rcases this with rfl | rfl | rfl | rfl <;> decide

theorem counted_pend_sp (k : Nat) (h : k < 6) : counted (fldKey R.HOST_PEND_SP pgHOST k) = true := by
  have : k = 0 ∨ k = 1 ∨ k = 2 ∨ k = 3 ∨ k = 4 ∨ k = 5 := by omega
  rcases this with rfl | rfl | rfl | rfl | rfl | rfl <;> decide

theorem pageOf_ce (b n : Nat) (h : pageOf b = some (.ce, n)) : n < 128 := by
  unfold pageOf at h
  dsimp only at h
  split at h
  · rename_i hn
    have hk : ∀ k : Nat, k < 26 → singlePages[k]? ≠ some PageKind.ce := by decide
    simp only [Option.map_eq_some_iff, Prod.mk.injEq] at h
    obtain ⟨q, h1, h2, -⟩ := h
    rw [h2] at h1
    exact absurd h1 (hk _ hn)
  · split at h
    · cases h
    · split at h
      · simp at h; omega
      · split at h
        · cases h
        · split at h <;> cases h

theorem pageOf_sp (b n : Nat) (h : pageOf b = some (.sp, n)) : n < 192 := by
  unfold pageOf at h
  dsimp only at h
  split at h
  · rename_i hn
    have hk : ∀ k : Nat, k < 26 → singlePages[k]? ≠ some PageKind.sp := by decide
    simp only [Option.map_eq_some_iff, Prod.mk.injEq] at h
    obtain ⟨q, h1, h2, -⟩ := h
    rw [h2] at h1
    exact absurd h1 (hk _ hn)
  · split at h
    · cases h
    · split at h
      · cases h
      · split at h
        · cases h
        · split at h
          · simp at h; omega
          · cases h

theorem same1_pendBit (c : Chip) (b : Nat) (on : Bool) : Same1 c (c.pendBit b on) := by
  unfold Chip.pendBit
  split
  · rename_i n h
    have hn := pageOf_ce b n h
    exact (same1_wr c R.HOST_PEND_CE pgHOST _ (n / 32) (counted_pend_ce _ (by omega))).trans (same1_hw c pgHOST [(R.HOST_PEND_CE, n / 32, _)] (by decide))
  · rename_i n h
    have hn := pageOf_sp b n h
    exact (same1_wr c R.HOST_PEND_SP pgHOST _ (n / 32) (counted_pend_sp _ (by omega))).trans (same1_hw c pgHOST [(R.HOST_PEND_SP, n / 32, _)] (by decide))
  · exact Same1.refl _
  · exact Same1.refl _

theorem same1_reIrq (c : Chip) (b : Nat) (r : Bool) : Same1 c (c.reIrq b r) := by
  unfold Chip.reIrq
  split
  · exact Same1.refl _
  · have h : Same1 c (if c.pageIrq b == c.irqs.contains b then c
      else ({ c with irqs := if c.pageIrq b then b :: c.irqs else c.irqs.filter (fun x => x != b) } : Chip).pendBit b (c.pageIrq b)) := by
      split
      · exact Same1.refl _
      · intro k hk v
        exact (same1_pendBit _ _ _ k hk v).trans rfl
    exact Same1.ite (h.trans (same1_sendVec _ _)) h

theorem same_hw (c : Chip) (b : Nat) (us : List (Fld × Nat × Nat)) (hb : b % 4096 = 0) :
    Same (foldc us (fun u c => c.wr u.1 b u.2.2 u.2.1) c) (c.hw b us) := (same1_hw c b us hb).same

theorem same_pmcEvent (c : Chip) (b e n : Nat) (hb : b % 4096 = 0) : Same c (c.pmcEvent b e n) := (same1_pmcEvent c b e n hb).same

theorem same_seqInc (c : Chip) (b : Nat) (hb : b % 4096 = 0) : Same c (c.seqInc b) := (same1_seqInc c b hb).same

theorem same_reIrq (c : Chip) (b : Nat) (r : Bool) : Same c (c.reIrq b r) := (same1_reIrq c b r).same

theorem same_latchEvt (c : Chip) (b n : Nat) (hb : b % 4096 = 0) : Same c (c.latchEvt b n) :=
  (same_wr _ _ _ _ _ (noisy_fld R.EVT_LATCH b 0 hb (by decide) (by simp [R.EVT_LATCH]))).trans (same_reIrq _ _ _)

theorem capCause_regs (c : Chip) (h : Nat → Nat → Nat → Bool) : (c.capCause h).regs = c.regs := by
  unfold Chip.capCause
  generalize upTo 8 = xs
  induction xs generalizing c with
  | nil => rfl
  | cons x xs ih =>
    simp only [foldc, List.foldl_cons] at ih ⊢
    rw [ih]
    split <;> rfl

theorem same_riseEvt (c : Chip) (b n : Nat) (hb : b % 4096 = 0) : Same c (c.riseEvt b n) := by
  unfold Chip.riseEvt
  split
  · exact same_latchEvt _ _ _ hb
  · have h : Same c (((c.wr R.EVT_LIVE b (c.rd R.EVT_LIVE b ||| 2 ^ n)).pmcEvent b (0x10 + n)).latchEvt b n) :=
      ((same_wr _ _ _ _ _ (noisy_fld R.EVT_LIVE b 0 hb (by decide) (by simp [R.EVT_LIVE]))).trans (same_pmcEvent _ _ _ _ hb)).trans (same_latchEvt _ _ _ hb)
    dsimp only
    split
    · exact h.trans (Same.of_eq (capCause_regs _ _))
    · exact h
    · exact h

theorem same_pulse (c : Chip) (b n : Nat) (hb : b % 4096 = 0) : Same c (c.pulse b n) := by
  unfold Chip.pulse
  split
  · exact same_latchEvt _ _ _ hb
  · intro k hk v
    exact (same_riseEvt _ _ _ hb k hk v).trans rfl

theorem same_level (c : Chip) (b n : Nat) (on : Bool) (hb : b % 4096 = 0) : Same c (c.level b n on) := by
  unfold Chip.level
  split
  · split
    · exact Same.refl _
    · exact same_riseEvt _ _ _ hb
  · exact same_wr _ _ _ _ _ (noisy_fld R.EVT_LIVE b 0 hb (by decide) (by simp [R.EVT_LIVE]))

/-! Reading a field. -/

/-- A field reads as what was written to it, cut to its width. -/
@[simp] theorem rd_wr_same (c : Chip) (f : Fld) (b v i : Nat) : (c.wr f b v i).rd f b i = v % 2 ^ f.w := by
  simp [Chip.rd]

/-- A write of one field leaves every other. -/
theorem rd_wr_ne (c : Chip) (f g : Fld) (b v i a j : Nat) (h : fldKey g a j ≠ fldKey f b i) : (c.wr f b v i).rd g a j = c.rd g a j := by
  simp only [Chip.rd, Chip.wr_regs]
  exact mapGet_mapSet_ne _ h _ _

/-- A field outside `noisy` reads as before. -/
theorem Same.rd {c d : Chip} (h : Same c d) (f : Fld) (b i : Nat) (hn : noisy (fldKey f b i) = false) : d.rd f b i = c.rd f b i :=
  h _ hn _

/-- What one update of a page leaves of its fields. -/
theorem rd_up (c : Chip) (f g : Fld) (b v i a j : Nat) (hb : b % 4096 = 0) (hn : noisy (fldKey g a j) = false) :
    (c.up f b v i).rd g a j = (c.wr f b v i).rd g a j :=
  (same_hw c b [(f, i, v)] hb).rd g a j hn

/-- Several updates of a page: their writes, as far as fields outside `noisy` go. -/
theorem rd_hw (c : Chip) (us : List (Fld × Nat × Nat)) (g : Fld) (b a j : Nat) (hb : b % 4096 = 0) (hn : noisy (fldKey g a j) = false) :
    (c.hw b us).rd g a j = (foldc us (fun u c => c.wr u.1 b u.2.2 u.2.1) c).rd g a j :=
  (same_hw c b us hb).rd g a j hn

theorem rd_pulse (c : Chip) (g : Fld) (b n a j : Nat) (hb : b % 4096 = 0) (hn : noisy (fldKey g a j) = false) :
    (c.pulse b n).rd g a j = c.rd g a j := (same_pulse c b n hb).rd g a j hn

theorem rd_level (c : Chip) (g : Fld) (b n : Nat) (on : Bool) (a j : Nat) (hb : b % 4096 = 0) (hn : noisy (fldKey g a j) = false) :
    (c.level b n on).rd g a j = c.rd g a j := (same_level c b n on hb).rd g a j hn

theorem rd_pmcEvent (c : Chip) (g : Fld) (b e n a j : Nat) (hb : b % 4096 = 0) (hn : noisy (fldKey g a j) = false) :
    (c.pmcEvent b e n).rd g a j = c.rd g a j := (same_pmcEvent c b e n hb).rd g a j hn

theorem rd_seqInc (c : Chip) (g : Fld) (b a j : Nat) (hb : b % 4096 = 0) (hn : noisy (fldKey g a j) = false) :
    (c.seqInc b).rd g a j = c.rd g a j := (same_seqInc c b hb).rd g a j hn

theorem rd_reIrq (c : Chip) (g : Fld) (b : Nat) (r : Bool) (a j : Nat) (hn : noisy (fldKey g a j) = false) :
    (c.reIrq b r).rd g a j = c.rd g a j := (same_reIrq c b r).rd g a j hn

/-- A counter counts. -/
@[simp] theorem rd_bump_same (c : Chip) (f : Fld) (b i n : Nat) : (c.bump f b i n).rd f b i = (c.rd f b i + n) % 2 ^ f.w :=
  rd_wr_same _ _ _ _ _

theorem rd_bump_ne (c : Chip) (f g : Fld) (b i n a j : Nat) (h : fldKey g a j ≠ fldKey f b i) : (c.bump f b i n).rd g a j = c.rd g a j :=
  rd_wr_ne _ _ _ _ _ _ _ _ h

/-- An update of a page sets its field. -/
theorem rd_up_same (c : Chip) (f : Fld) (b v i : Nat) (hb : b % 4096 = 0) (hn : noisy (fldKey f b i) = false) :
    (c.up f b v i).rd f b i = v % 2 ^ f.w := by
  rw [rd_up c f f b v i b i hb hn, rd_wr_same]

/-- Judging an interrupt leaves every latch. -/
theorem latch_reIrq (c : Chip) (b a : Nat) (r : Bool) (ha : a % 4096 = 0) : (c.reIrq b r).rd R.EVT_LATCH a = c.rd R.EVT_LATCH a := by
  apply same1_reIrq c b r
  have e : fldKey R.EVT_LATCH a 0 / 32 = a + 0x18 := by
    show (32 * (a + 0x18 + 0 * 0) + 0) / 32 = a + 0x18
    omega
  unfold counted
  rw [e]
  simp
  omega

theorem bitOf_or_self (v n : Nat) : bitOf (v ||| 2 ^ n) n = true := by
  have : (v ||| 2 ^ n).testBit n = true := by simp [Nat.testBit_or]
  rw [Nat.testBit_eq_decide_div_mod_eq] at this
  simp [bitOf] at this ⊢
  exact this

theorem bitOf_or (v w n : Nat) (h : bitOf v n = true) : bitOf (v ||| w) n = true := by
  have hv : v.testBit n = true := by rw [Nat.testBit_eq_decide_div_mod_eq]; simp [bitOf] at h ⊢; exact h
  have : (v ||| w).testBit n = true := by simp [Nat.testBit_or, hv]
  rw [Nat.testBit_eq_decide_div_mod_eq] at this
  simp [bitOf] at this ⊢
  exact this

theorem bitOf_mod (v w n : Nat) (h : n < w) : bitOf (v % 2 ^ w) n = bitOf v n := by
  have := Nat.testBit_mod_two_pow v w n
  rw [Nat.testBit_eq_decide_div_mod_eq, Nat.testBit_eq_decide_div_mod_eq] at this
  simp [bitOf, h] at this ⊢
  by_cases h1 : v % 2 ^ w / 2 ^ n % 2 = 1 <;> by_cases h2 : v / 2 ^ n % 2 = 1 <;> simp_all

/-- An occurrence of an event sets its latch. -/
theorem latchEvt_sets (c : Chip) (b n : Nat) (hb : b % 4096 = 0) (hn : n < 32) : bitOf ((c.latchEvt b n).rd R.EVT_LATCH b) n = true := by
  unfold Chip.latchEvt
  rw [latch_reIrq _ _ _ _ hb, rd_wr_same, show R.EVT_LATCH.w = 32 from rfl, bitOf_mod _ _ _ hn]
  exact bitOf_or_self _ _

theorem capCause_rd (c : Chip) (h : Nat → Nat → Nat → Bool) (f : Fld) (b i : Nat) : (c.capCause h).rd f b i = c.rd f b i := by
  simp only [Chip.rd, capCause_regs]

theorem riseEvt_sets (c : Chip) (b n : Nat) (hb : b % 4096 = 0) (hn : n < 32) : bitOf ((c.riseEvt b n).rd R.EVT_LATCH b) n = true := by
  unfold Chip.riseEvt
  split
  · exact latchEvt_sets _ _ _ hb hn
  · dsimp only
    split
    · rw [capCause_rd]; exact latchEvt_sets _ _ _ hb hn
    · exact latchEvt_sets _ _ _ hb hn
    · exact latchEvt_sets _ _ _ hb hn

theorem pulse_sets (c : Chip) (b n : Nat) (hb : b % 4096 = 0) (hn : n < 32) : bitOf ((c.pulse b n).rd R.EVT_LATCH b) n = true := by
  unfold Chip.pulse
  split
  · exact latchEvt_sets _ _ _ hb hn
  · exact riseEvt_sets _ _ _ hb hn

/-- The latch of a page after an event of the same page keeps every bit it had. -/
theorem latchEvt_keeps (c : Chip) (b n m : Nat) (hb : b % 4096 = 0) (hm : m < 32) (h : bitOf (c.rd R.EVT_LATCH b) m = true) :
    bitOf ((c.latchEvt b n).rd R.EVT_LATCH b) m = true := by
  unfold Chip.latchEvt
  rw [latch_reIrq _ _ _ _ hb, rd_wr_same, show R.EVT_LATCH.w = 32 from rfl, bitOf_mod _ _ _ hm]
  exact bitOf_or _ _ _ h

end Sys2Proof.Machine
end

