-- ==== Sys2Proof/Laws/Access.lean ====
section
/-! SUPPORT. Laws/Access.lean: what the named reads of a chip (a port, a stage end, a field, a timer) give after each named
update. -/

namespace Sys2Proof.Machine


/-! port. -/

section
variable (c : Chip) (q : Nat)
@[simp] theorem Chip.setPort_port (v : PortSt) : (c.setPort q v).port q = v := mapGet_mapSet_same _ _ _ _
theorem Chip.setPort_port_ne (p : Nat) (v : PortSt) (h : q ≠ p) : (c.setPort p v).port q = c.port q := mapGet_mapSet_ne _ h _ _
@[simp] theorem Chip.modPort_port (f : PortSt → PortSt) : (c.modPort q f).port q = f (c.port q) := mapGet_mapSet_same _ _ _ _
theorem Chip.modPort_port_ne (p : Nat) (f : PortSt → PortSt) (h : q ≠ p) : (c.modPort p f).port q = c.port q := mapGet_mapSet_ne _ h _ _
@[simp] theorem Chip.wr_port (f : Fld) (b v i : Nat) : (c.wr f b v i).port q = c.port q := rfl
@[simp] theorem Chip.send_port (o : Out) : (c.send o).port q = c.port q := by rw [c.send_eq o]; rfl
@[simp] theorem Chip.arm_port (k t : Nat) : (c.arm k t).port q = c.port q := rfl
@[simp] theorem Chip.disarm_port (k : Nat) : (c.disarm k).port q = c.port q := rfl
@[simp] theorem Chip.setStage_port (p : Nat) (v : StageEnd) : (c.setStage p v).port q = c.port q := rfl
@[simp] theorem Chip.modStage_port (p : Nat) (f : StageEnd → StageEnd) : (c.modStage p f).port q = c.port q := rfl
@[simp] theorem Chip.setEng_port (p : Nat) (v : EngSt) : (c.setEng p v).port q = c.port q := rfl
@[simp] theorem Chip.modEng_port (p : Nat) (f : EngSt → EngSt) : (c.modEng p f).port q = c.port q := rfl
@[simp] theorem Chip.setLaw_port (p : Nat) (v : LawSt) : (c.setLaw p v).port q = c.port q := rfl
@[simp] theorem Chip.modLaw_port (p : Nat) (f : LawSt → LawSt) : (c.modLaw p f).port q = c.port q := rfl
@[simp] theorem Chip.setSec_port (p : Nat) (v : SecSt) : (c.setSec p v).port q = c.port q := rfl
@[simp] theorem Chip.modSec_port (p : Nat) (f : SecSt → SecSt) : (c.modSec p f).port q = c.port q := rfl
@[simp] theorem Chip.setCap_port (p : Nat) (v : CapSt) : (c.setCap p v).port q = c.port q := rfl
@[simp] theorem Chip.modCap_port (p : Nat) (f : CapSt → CapSt) : (c.modCap p f).port q = c.port q := rfl
@[simp] theorem Chip.setStr_port (p : Nat) (v : StrSt) : (c.setStr p v).port q = c.port q := rfl
@[simp] theorem Chip.modStr_port (p : Nat) (f : StrSt → StrSt) : (c.modStr p f).port q = c.port q := rfl
@[simp] theorem Chip.setFd_port (p : Nat) (v : FdSt) : (c.setFd p v).port q = c.port q := rfl
@[simp] theorem Chip.modFd_port (p : Nat) (f : FdSt → FdSt) : (c.modFd p f).port q = c.port q := rfl
@[simp] theorem Chip.setCal_port (p : Nat) (v : CalSt) : (c.setCal p v).port q = c.port q := rfl
@[simp] theorem Chip.modCal_port (p : Nat) (f : CalSt → CalSt) : (c.modCal p f).port q = c.port q := rfl
@[simp] theorem Chip.setWset_port (p : Nat) (v : WcSet) : (c.setWset p v).port q = c.port q := rfl
@[simp] theorem Chip.modWset_port (p : Nat) (f : WcSet → WcSet) : (c.modWset p f).port q = c.port q := rfl
@[simp] theorem Chip.setPath_port (p : Nat) (v : PathSt) : (c.setPath p v).port q = c.port q := rfl
@[simp] theorem Chip.modPath_port (p : Nat) (f : PathSt → PathSt) : (c.modPath p f).port q = c.port q := rfl
@[simp] theorem Chip.setIic_port (p : Nat) (v : IicSt) : (c.setIic p v).port q = c.port q := rfl
@[simp] theorem Chip.modIic_port (p : Nat) (f : IicSt → IicSt) : (c.modIic p f).port q = c.port q := rfl
@[simp] theorem Chip.modPlumb_port (f : PlumbSt → PlumbSt) : (c.modPlumb f).port q = c.port q := rfl
@[simp] theorem Chip.modTwin_port (f : TwinSt → TwinSt) : (c.modTwin f).port q = c.port q := rfl
@[simp] theorem Chip.modFab_port (f : FabSt → FabSt) : (c.modFab f).port q = c.port q := rfl
@[simp] theorem Chip.modArb_port (f : ArbSt → ArbSt) : (c.modArb f).port q = c.port q := rfl
@[simp] theorem Chip.modFbk_port (f : FbkSt → FbkSt) : (c.modFbk f).port q = c.port q := rfl
@[simp] theorem Chip.modHost_port (f : HostSt → HostSt) : (c.modHost f).port q = c.port q := rfl
@[simp] theorem Chip.modFwu_port (f : FwuSt → FwuSt) : (c.modFwu f).port q = c.port q := rfl
@[simp] theorem Chip.modFlash_port (f : FlashSt → FlashSt) : (c.modFlash f).port q = c.port q := rfl
@[simp] theorem Chip.modMram_port (f : Mram → Mram) : (c.modMram f).port q = c.port q := rfl
@[simp] theorem Chip.modDbg_port (f : DbgSt → DbgSt) : (c.modDbg f).port q = c.port q := rfl
@[simp] theorem Chip.modSnap_port (f : SnapSt → SnapSt) : (c.modSnap f).port q = c.port q := rfl
@[simp] theorem Chip.bump_port (f : Fld) (b i n : Nat) : (c.bump f b i n).port q = c.port q := congrArg (fun m => mapGet m q _) (Chip.bump_ports c f b i n)
@[simp] theorem Chip.pmcAdd_port (b j n : Nat) : (c.pmcAdd b j n).port q = c.port q := congrArg (fun m => mapGet m q _) (Chip.pmcAdd_ports c b j n)
@[simp] theorem Chip.pmcEvent_port (b e n : Nat) : (c.pmcEvent b e n).port q = c.port q := congrArg (fun m => mapGet m q _) (Chip.pmcEvent_ports c b e n)
@[simp] theorem Chip.seqInc_port (b : Nat) : (c.seqInc b).port q = c.port q := congrArg (fun m => mapGet m q _) (Chip.seqInc_ports c b)
@[simp] theorem Chip.hw_port (b : Nat) (us : List (Fld × Nat × Nat)) : (c.hw b us).port q = c.port q := congrArg (fun m => mapGet m q _) (Chip.hw_ports c b us)
@[simp] theorem Chip.up_port (f : Fld) (b v i : Nat) : (c.up f b v i).port q = c.port q := congrArg (fun m => mapGet m q _) (Chip.up_ports c f b v i)
@[simp] theorem Chip.sendVec_port (v : Nat) : (c.sendVec v).port q = c.port q := congrArg (fun m => mapGet m q _) (Chip.sendVec_ports c v)
@[simp] theorem Chip.pendBit_port (b : Nat) (on : Bool) : (c.pendBit b on).port q = c.port q := congrArg (fun m => mapGet m q _) (Chip.pendBit_ports c b on)
@[simp] theorem Chip.reIrq_port (b : Nat) (r : Bool) : (c.reIrq b r).port q = c.port q := congrArg (fun m => mapGet m q _) (Chip.reIrq_ports c b r)
@[simp] theorem Chip.latchEvt_port (b n : Nat) : (c.latchEvt b n).port q = c.port q := congrArg (fun m => mapGet m q _) (Chip.latchEvt_ports c b n)
@[simp] theorem Chip.capCause_port (h : Nat → Nat → Nat → Bool) : (c.capCause h).port q = c.port q := congrArg (fun m => mapGet m q _) (Chip.capCause_ports c h)
@[simp] theorem Chip.riseEvt_port (b n : Nat) : (c.riseEvt b n).port q = c.port q := congrArg (fun m => mapGet m q _) (Chip.riseEvt_ports c b n)
@[simp] theorem Chip.pulse_port (b n : Nat) : (c.pulse b n).port q = c.port q := congrArg (fun m => mapGet m q _) (Chip.pulse_ports c b n)
@[simp] theorem Chip.level_port (b n : Nat) (on : Bool) : (c.level b n on).port q = c.port q := congrArg (fun m => mapGet m q _) (Chip.level_ports c b n on)
end

/-! stage. -/

section
variable (c : Chip) (q : Nat)
@[simp] theorem Chip.setStage_stage (v : StageEnd) : (c.setStage q v).stage q = v := mapGet_mapSet_same _ _ _ _
theorem Chip.setStage_stage_ne (p : Nat) (v : StageEnd) (h : q ≠ p) : (c.setStage p v).stage q = c.stage q := mapGet_mapSet_ne _ h _ _
@[simp] theorem Chip.modStage_stage (f : StageEnd → StageEnd) : (c.modStage q f).stage q = f (c.stage q) := mapGet_mapSet_same _ _ _ _
theorem Chip.modStage_stage_ne (p : Nat) (f : StageEnd → StageEnd) (h : q ≠ p) : (c.modStage p f).stage q = c.stage q := mapGet_mapSet_ne _ h _ _
@[simp] theorem Chip.wr_stage (f : Fld) (b v i : Nat) : (c.wr f b v i).stage q = c.stage q := rfl
@[simp] theorem Chip.send_stage (o : Out) : (c.send o).stage q = c.stage q := by rw [c.send_eq o]; rfl
@[simp] theorem Chip.arm_stage (k t : Nat) : (c.arm k t).stage q = c.stage q := rfl
@[simp] theorem Chip.disarm_stage (k : Nat) : (c.disarm k).stage q = c.stage q := rfl
@[simp] theorem Chip.setPort_stage (p : Nat) (v : PortSt) : (c.setPort p v).stage q = c.stage q := rfl
@[simp] theorem Chip.modPort_stage (p : Nat) (f : PortSt → PortSt) : (c.modPort p f).stage q = c.stage q := rfl
@[simp] theorem Chip.setEng_stage (p : Nat) (v : EngSt) : (c.setEng p v).stage q = c.stage q := rfl
@[simp] theorem Chip.modEng_stage (p : Nat) (f : EngSt → EngSt) : (c.modEng p f).stage q = c.stage q := rfl
@[simp] theorem Chip.setLaw_stage (p : Nat) (v : LawSt) : (c.setLaw p v).stage q = c.stage q := rfl
@[simp] theorem Chip.modLaw_stage (p : Nat) (f : LawSt → LawSt) : (c.modLaw p f).stage q = c.stage q := rfl
@[simp] theorem Chip.setSec_stage (p : Nat) (v : SecSt) : (c.setSec p v).stage q = c.stage q := rfl
@[simp] theorem Chip.modSec_stage (p : Nat) (f : SecSt → SecSt) : (c.modSec p f).stage q = c.stage q := rfl
@[simp] theorem Chip.setCap_stage (p : Nat) (v : CapSt) : (c.setCap p v).stage q = c.stage q := rfl
@[simp] theorem Chip.modCap_stage (p : Nat) (f : CapSt → CapSt) : (c.modCap p f).stage q = c.stage q := rfl
@[simp] theorem Chip.setStr_stage (p : Nat) (v : StrSt) : (c.setStr p v).stage q = c.stage q := rfl
@[simp] theorem Chip.modStr_stage (p : Nat) (f : StrSt → StrSt) : (c.modStr p f).stage q = c.stage q := rfl
@[simp] theorem Chip.setFd_stage (p : Nat) (v : FdSt) : (c.setFd p v).stage q = c.stage q := rfl
@[simp] theorem Chip.modFd_stage (p : Nat) (f : FdSt → FdSt) : (c.modFd p f).stage q = c.stage q := rfl
@[simp] theorem Chip.setCal_stage (p : Nat) (v : CalSt) : (c.setCal p v).stage q = c.stage q := rfl
@[simp] theorem Chip.modCal_stage (p : Nat) (f : CalSt → CalSt) : (c.modCal p f).stage q = c.stage q := rfl
@[simp] theorem Chip.setWset_stage (p : Nat) (v : WcSet) : (c.setWset p v).stage q = c.stage q := rfl
@[simp] theorem Chip.modWset_stage (p : Nat) (f : WcSet → WcSet) : (c.modWset p f).stage q = c.stage q := rfl
@[simp] theorem Chip.setPath_stage (p : Nat) (v : PathSt) : (c.setPath p v).stage q = c.stage q := rfl
@[simp] theorem Chip.modPath_stage (p : Nat) (f : PathSt → PathSt) : (c.modPath p f).stage q = c.stage q := rfl
@[simp] theorem Chip.setIic_stage (p : Nat) (v : IicSt) : (c.setIic p v).stage q = c.stage q := rfl
@[simp] theorem Chip.modIic_stage (p : Nat) (f : IicSt → IicSt) : (c.modIic p f).stage q = c.stage q := rfl
@[simp] theorem Chip.modPlumb_stage (f : PlumbSt → PlumbSt) : (c.modPlumb f).stage q = c.stage q := rfl
@[simp] theorem Chip.modTwin_stage (f : TwinSt → TwinSt) : (c.modTwin f).stage q = c.stage q := rfl
@[simp] theorem Chip.modFab_stage (f : FabSt → FabSt) : (c.modFab f).stage q = c.stage q := rfl
@[simp] theorem Chip.modArb_stage (f : ArbSt → ArbSt) : (c.modArb f).stage q = c.stage q := rfl
@[simp] theorem Chip.modFbk_stage (f : FbkSt → FbkSt) : (c.modFbk f).stage q = c.stage q := rfl
@[simp] theorem Chip.modHost_stage (f : HostSt → HostSt) : (c.modHost f).stage q = c.stage q := rfl
@[simp] theorem Chip.modFwu_stage (f : FwuSt → FwuSt) : (c.modFwu f).stage q = c.stage q := rfl
@[simp] theorem Chip.modFlash_stage (f : FlashSt → FlashSt) : (c.modFlash f).stage q = c.stage q := rfl
@[simp] theorem Chip.modMram_stage (f : Mram → Mram) : (c.modMram f).stage q = c.stage q := rfl
@[simp] theorem Chip.modDbg_stage (f : DbgSt → DbgSt) : (c.modDbg f).stage q = c.stage q := rfl
@[simp] theorem Chip.modSnap_stage (f : SnapSt → SnapSt) : (c.modSnap f).stage q = c.stage q := rfl
@[simp] theorem Chip.bump_stage (f : Fld) (b i n : Nat) : (c.bump f b i n).stage q = c.stage q := congrArg (fun m => mapGet m q _) (Chip.bump_stages c f b i n)
@[simp] theorem Chip.pmcAdd_stage (b j n : Nat) : (c.pmcAdd b j n).stage q = c.stage q := congrArg (fun m => mapGet m q _) (Chip.pmcAdd_stages c b j n)
@[simp] theorem Chip.pmcEvent_stage (b e n : Nat) : (c.pmcEvent b e n).stage q = c.stage q := congrArg (fun m => mapGet m q _) (Chip.pmcEvent_stages c b e n)
@[simp] theorem Chip.seqInc_stage (b : Nat) : (c.seqInc b).stage q = c.stage q := congrArg (fun m => mapGet m q _) (Chip.seqInc_stages c b)
@[simp] theorem Chip.hw_stage (b : Nat) (us : List (Fld × Nat × Nat)) : (c.hw b us).stage q = c.stage q := congrArg (fun m => mapGet m q _) (Chip.hw_stages c b us)
@[simp] theorem Chip.up_stage (f : Fld) (b v i : Nat) : (c.up f b v i).stage q = c.stage q := congrArg (fun m => mapGet m q _) (Chip.up_stages c f b v i)
@[simp] theorem Chip.sendVec_stage (v : Nat) : (c.sendVec v).stage q = c.stage q := congrArg (fun m => mapGet m q _) (Chip.sendVec_stages c v)
@[simp] theorem Chip.pendBit_stage (b : Nat) (on : Bool) : (c.pendBit b on).stage q = c.stage q := congrArg (fun m => mapGet m q _) (Chip.pendBit_stages c b on)
@[simp] theorem Chip.reIrq_stage (b : Nat) (r : Bool) : (c.reIrq b r).stage q = c.stage q := congrArg (fun m => mapGet m q _) (Chip.reIrq_stages c b r)
@[simp] theorem Chip.latchEvt_stage (b n : Nat) : (c.latchEvt b n).stage q = c.stage q := congrArg (fun m => mapGet m q _) (Chip.latchEvt_stages c b n)
@[simp] theorem Chip.capCause_stage (h : Nat → Nat → Nat → Bool) : (c.capCause h).stage q = c.stage q := congrArg (fun m => mapGet m q _) (Chip.capCause_stages c h)
@[simp] theorem Chip.riseEvt_stage (b n : Nat) : (c.riseEvt b n).stage q = c.stage q := congrArg (fun m => mapGet m q _) (Chip.riseEvt_stages c b n)
@[simp] theorem Chip.pulse_stage (b n : Nat) : (c.pulse b n).stage q = c.stage q := congrArg (fun m => mapGet m q _) (Chip.pulse_stages c b n)
@[simp] theorem Chip.level_stage (b n : Nat) (on : Bool) : (c.level b n on).stage q = c.stage q := congrArg (fun m => mapGet m q _) (Chip.level_stages c b n on)
end

/-! eng. -/

section
variable (c : Chip) (q : Nat)
@[simp] theorem Chip.setEng_eng (v : EngSt) : (c.setEng q v).eng q = v := mapGet_mapSet_same _ _ _ _
theorem Chip.setEng_eng_ne (p : Nat) (v : EngSt) (h : q ≠ p) : (c.setEng p v).eng q = c.eng q := mapGet_mapSet_ne _ h _ _
@[simp] theorem Chip.modEng_eng (f : EngSt → EngSt) : (c.modEng q f).eng q = f (c.eng q) := mapGet_mapSet_same _ _ _ _
theorem Chip.modEng_eng_ne (p : Nat) (f : EngSt → EngSt) (h : q ≠ p) : (c.modEng p f).eng q = c.eng q := mapGet_mapSet_ne _ h _ _
@[simp] theorem Chip.wr_eng (f : Fld) (b v i : Nat) : (c.wr f b v i).eng q = c.eng q := rfl
@[simp] theorem Chip.send_eng (o : Out) : (c.send o).eng q = c.eng q := by rw [c.send_eq o]; rfl
@[simp] theorem Chip.arm_eng (k t : Nat) : (c.arm k t).eng q = c.eng q := rfl
@[simp] theorem Chip.disarm_eng (k : Nat) : (c.disarm k).eng q = c.eng q := rfl
@[simp] theorem Chip.setPort_eng (p : Nat) (v : PortSt) : (c.setPort p v).eng q = c.eng q := rfl
@[simp] theorem Chip.modPort_eng (p : Nat) (f : PortSt → PortSt) : (c.modPort p f).eng q = c.eng q := rfl
@[simp] theorem Chip.setStage_eng (p : Nat) (v : StageEnd) : (c.setStage p v).eng q = c.eng q := rfl
@[simp] theorem Chip.modStage_eng (p : Nat) (f : StageEnd → StageEnd) : (c.modStage p f).eng q = c.eng q := rfl
@[simp] theorem Chip.setLaw_eng (p : Nat) (v : LawSt) : (c.setLaw p v).eng q = c.eng q := rfl
@[simp] theorem Chip.modLaw_eng (p : Nat) (f : LawSt → LawSt) : (c.modLaw p f).eng q = c.eng q := rfl
@[simp] theorem Chip.setSec_eng (p : Nat) (v : SecSt) : (c.setSec p v).eng q = c.eng q := rfl
@[simp] theorem Chip.modSec_eng (p : Nat) (f : SecSt → SecSt) : (c.modSec p f).eng q = c.eng q := rfl
@[simp] theorem Chip.setCap_eng (p : Nat) (v : CapSt) : (c.setCap p v).eng q = c.eng q := rfl
@[simp] theorem Chip.modCap_eng (p : Nat) (f : CapSt → CapSt) : (c.modCap p f).eng q = c.eng q := rfl
@[simp] theorem Chip.setStr_eng (p : Nat) (v : StrSt) : (c.setStr p v).eng q = c.eng q := rfl
@[simp] theorem Chip.modStr_eng (p : Nat) (f : StrSt → StrSt) : (c.modStr p f).eng q = c.eng q := rfl
@[simp] theorem Chip.setFd_eng (p : Nat) (v : FdSt) : (c.setFd p v).eng q = c.eng q := rfl
@[simp] theorem Chip.modFd_eng (p : Nat) (f : FdSt → FdSt) : (c.modFd p f).eng q = c.eng q := rfl
@[simp] theorem Chip.setCal_eng (p : Nat) (v : CalSt) : (c.setCal p v).eng q = c.eng q := rfl
@[simp] theorem Chip.modCal_eng (p : Nat) (f : CalSt → CalSt) : (c.modCal p f).eng q = c.eng q := rfl
@[simp] theorem Chip.setWset_eng (p : Nat) (v : WcSet) : (c.setWset p v).eng q = c.eng q := rfl
@[simp] theorem Chip.modWset_eng (p : Nat) (f : WcSet → WcSet) : (c.modWset p f).eng q = c.eng q := rfl
@[simp] theorem Chip.setPath_eng (p : Nat) (v : PathSt) : (c.setPath p v).eng q = c.eng q := rfl
@[simp] theorem Chip.modPath_eng (p : Nat) (f : PathSt → PathSt) : (c.modPath p f).eng q = c.eng q := rfl
@[simp] theorem Chip.setIic_eng (p : Nat) (v : IicSt) : (c.setIic p v).eng q = c.eng q := rfl
@[simp] theorem Chip.modIic_eng (p : Nat) (f : IicSt → IicSt) : (c.modIic p f).eng q = c.eng q := rfl
@[simp] theorem Chip.modPlumb_eng (f : PlumbSt → PlumbSt) : (c.modPlumb f).eng q = c.eng q := rfl
@[simp] theorem Chip.modTwin_eng (f : TwinSt → TwinSt) : (c.modTwin f).eng q = c.eng q := rfl
@[simp] theorem Chip.modFab_eng (f : FabSt → FabSt) : (c.modFab f).eng q = c.eng q := rfl
@[simp] theorem Chip.modArb_eng (f : ArbSt → ArbSt) : (c.modArb f).eng q = c.eng q := rfl
@[simp] theorem Chip.modFbk_eng (f : FbkSt → FbkSt) : (c.modFbk f).eng q = c.eng q := rfl
@[simp] theorem Chip.modHost_eng (f : HostSt → HostSt) : (c.modHost f).eng q = c.eng q := rfl
@[simp] theorem Chip.modFwu_eng (f : FwuSt → FwuSt) : (c.modFwu f).eng q = c.eng q := rfl
@[simp] theorem Chip.modFlash_eng (f : FlashSt → FlashSt) : (c.modFlash f).eng q = c.eng q := rfl
@[simp] theorem Chip.modMram_eng (f : Mram → Mram) : (c.modMram f).eng q = c.eng q := rfl
@[simp] theorem Chip.modDbg_eng (f : DbgSt → DbgSt) : (c.modDbg f).eng q = c.eng q := rfl
@[simp] theorem Chip.modSnap_eng (f : SnapSt → SnapSt) : (c.modSnap f).eng q = c.eng q := rfl
@[simp] theorem Chip.bump_eng (f : Fld) (b i n : Nat) : (c.bump f b i n).eng q = c.eng q := congrArg (fun m => mapGet m q _) (Chip.bump_engines c f b i n)
@[simp] theorem Chip.pmcAdd_eng (b j n : Nat) : (c.pmcAdd b j n).eng q = c.eng q := congrArg (fun m => mapGet m q _) (Chip.pmcAdd_engines c b j n)
@[simp] theorem Chip.pmcEvent_eng (b e n : Nat) : (c.pmcEvent b e n).eng q = c.eng q := congrArg (fun m => mapGet m q _) (Chip.pmcEvent_engines c b e n)
@[simp] theorem Chip.seqInc_eng (b : Nat) : (c.seqInc b).eng q = c.eng q := congrArg (fun m => mapGet m q _) (Chip.seqInc_engines c b)
@[simp] theorem Chip.hw_eng (b : Nat) (us : List (Fld × Nat × Nat)) : (c.hw b us).eng q = c.eng q := congrArg (fun m => mapGet m q _) (Chip.hw_engines c b us)
@[simp] theorem Chip.up_eng (f : Fld) (b v i : Nat) : (c.up f b v i).eng q = c.eng q := congrArg (fun m => mapGet m q _) (Chip.up_engines c f b v i)
@[simp] theorem Chip.sendVec_eng (v : Nat) : (c.sendVec v).eng q = c.eng q := congrArg (fun m => mapGet m q _) (Chip.sendVec_engines c v)
@[simp] theorem Chip.pendBit_eng (b : Nat) (on : Bool) : (c.pendBit b on).eng q = c.eng q := congrArg (fun m => mapGet m q _) (Chip.pendBit_engines c b on)
@[simp] theorem Chip.reIrq_eng (b : Nat) (r : Bool) : (c.reIrq b r).eng q = c.eng q := congrArg (fun m => mapGet m q _) (Chip.reIrq_engines c b r)
@[simp] theorem Chip.latchEvt_eng (b n : Nat) : (c.latchEvt b n).eng q = c.eng q := congrArg (fun m => mapGet m q _) (Chip.latchEvt_engines c b n)
@[simp] theorem Chip.capCause_eng (h : Nat → Nat → Nat → Bool) : (c.capCause h).eng q = c.eng q := congrArg (fun m => mapGet m q _) (Chip.capCause_engines c h)
@[simp] theorem Chip.riseEvt_eng (b n : Nat) : (c.riseEvt b n).eng q = c.eng q := congrArg (fun m => mapGet m q _) (Chip.riseEvt_engines c b n)
@[simp] theorem Chip.pulse_eng (b n : Nat) : (c.pulse b n).eng q = c.eng q := congrArg (fun m => mapGet m q _) (Chip.pulse_engines c b n)
@[simp] theorem Chip.level_eng (b n : Nat) (on : Bool) : (c.level b n on).eng q = c.eng q := congrArg (fun m => mapGet m q _) (Chip.level_engines c b n on)
end

/-! law. -/

section
variable (c : Chip) (q : Nat)
@[simp] theorem Chip.setLaw_law (v : LawSt) : (c.setLaw q v).law q = v := mapGet_mapSet_same _ _ _ _
theorem Chip.setLaw_law_ne (p : Nat) (v : LawSt) (h : q ≠ p) : (c.setLaw p v).law q = c.law q := mapGet_mapSet_ne _ h _ _
@[simp] theorem Chip.modLaw_law (f : LawSt → LawSt) : (c.modLaw q f).law q = f (c.law q) := mapGet_mapSet_same _ _ _ _
theorem Chip.modLaw_law_ne (p : Nat) (f : LawSt → LawSt) (h : q ≠ p) : (c.modLaw p f).law q = c.law q := mapGet_mapSet_ne _ h _ _
@[simp] theorem Chip.wr_law (f : Fld) (b v i : Nat) : (c.wr f b v i).law q = c.law q := rfl
@[simp] theorem Chip.send_law (o : Out) : (c.send o).law q = c.law q := by rw [c.send_eq o]; rfl
@[simp] theorem Chip.arm_law (k t : Nat) : (c.arm k t).law q = c.law q := rfl
@[simp] theorem Chip.disarm_law (k : Nat) : (c.disarm k).law q = c.law q := rfl
@[simp] theorem Chip.setPort_law (p : Nat) (v : PortSt) : (c.setPort p v).law q = c.law q := rfl
@[simp] theorem Chip.modPort_law (p : Nat) (f : PortSt → PortSt) : (c.modPort p f).law q = c.law q := rfl
@[simp] theorem Chip.setStage_law (p : Nat) (v : StageEnd) : (c.setStage p v).law q = c.law q := rfl
@[simp] theorem Chip.modStage_law (p : Nat) (f : StageEnd → StageEnd) : (c.modStage p f).law q = c.law q := rfl
@[simp] theorem Chip.setEng_law (p : Nat) (v : EngSt) : (c.setEng p v).law q = c.law q := rfl
@[simp] theorem Chip.modEng_law (p : Nat) (f : EngSt → EngSt) : (c.modEng p f).law q = c.law q := rfl
@[simp] theorem Chip.setSec_law (p : Nat) (v : SecSt) : (c.setSec p v).law q = c.law q := rfl
@[simp] theorem Chip.modSec_law (p : Nat) (f : SecSt → SecSt) : (c.modSec p f).law q = c.law q := rfl
@[simp] theorem Chip.setCap_law (p : Nat) (v : CapSt) : (c.setCap p v).law q = c.law q := rfl
@[simp] theorem Chip.modCap_law (p : Nat) (f : CapSt → CapSt) : (c.modCap p f).law q = c.law q := rfl
@[simp] theorem Chip.setStr_law (p : Nat) (v : StrSt) : (c.setStr p v).law q = c.law q := rfl
@[simp] theorem Chip.modStr_law (p : Nat) (f : StrSt → StrSt) : (c.modStr p f).law q = c.law q := rfl
@[simp] theorem Chip.setFd_law (p : Nat) (v : FdSt) : (c.setFd p v).law q = c.law q := rfl
@[simp] theorem Chip.modFd_law (p : Nat) (f : FdSt → FdSt) : (c.modFd p f).law q = c.law q := rfl
@[simp] theorem Chip.setCal_law (p : Nat) (v : CalSt) : (c.setCal p v).law q = c.law q := rfl
@[simp] theorem Chip.modCal_law (p : Nat) (f : CalSt → CalSt) : (c.modCal p f).law q = c.law q := rfl
@[simp] theorem Chip.setWset_law (p : Nat) (v : WcSet) : (c.setWset p v).law q = c.law q := rfl
@[simp] theorem Chip.modWset_law (p : Nat) (f : WcSet → WcSet) : (c.modWset p f).law q = c.law q := rfl
@[simp] theorem Chip.setPath_law (p : Nat) (v : PathSt) : (c.setPath p v).law q = c.law q := rfl
@[simp] theorem Chip.modPath_law (p : Nat) (f : PathSt → PathSt) : (c.modPath p f).law q = c.law q := rfl
@[simp] theorem Chip.setIic_law (p : Nat) (v : IicSt) : (c.setIic p v).law q = c.law q := rfl
@[simp] theorem Chip.modIic_law (p : Nat) (f : IicSt → IicSt) : (c.modIic p f).law q = c.law q := rfl
@[simp] theorem Chip.modPlumb_law (f : PlumbSt → PlumbSt) : (c.modPlumb f).law q = c.law q := rfl
@[simp] theorem Chip.modTwin_law (f : TwinSt → TwinSt) : (c.modTwin f).law q = c.law q := rfl
@[simp] theorem Chip.modFab_law (f : FabSt → FabSt) : (c.modFab f).law q = c.law q := rfl
@[simp] theorem Chip.modArb_law (f : ArbSt → ArbSt) : (c.modArb f).law q = c.law q := rfl
@[simp] theorem Chip.modFbk_law (f : FbkSt → FbkSt) : (c.modFbk f).law q = c.law q := rfl
@[simp] theorem Chip.modHost_law (f : HostSt → HostSt) : (c.modHost f).law q = c.law q := rfl
@[simp] theorem Chip.modFwu_law (f : FwuSt → FwuSt) : (c.modFwu f).law q = c.law q := rfl
@[simp] theorem Chip.modFlash_law (f : FlashSt → FlashSt) : (c.modFlash f).law q = c.law q := rfl
@[simp] theorem Chip.modMram_law (f : Mram → Mram) : (c.modMram f).law q = c.law q := rfl
@[simp] theorem Chip.modDbg_law (f : DbgSt → DbgSt) : (c.modDbg f).law q = c.law q := rfl
@[simp] theorem Chip.modSnap_law (f : SnapSt → SnapSt) : (c.modSnap f).law q = c.law q := rfl
@[simp] theorem Chip.bump_law (f : Fld) (b i n : Nat) : (c.bump f b i n).law q = c.law q := congrArg (fun m => mapGet m q _) (Chip.bump_laws c f b i n)
@[simp] theorem Chip.pmcAdd_law (b j n : Nat) : (c.pmcAdd b j n).law q = c.law q := congrArg (fun m => mapGet m q _) (Chip.pmcAdd_laws c b j n)
@[simp] theorem Chip.pmcEvent_law (b e n : Nat) : (c.pmcEvent b e n).law q = c.law q := congrArg (fun m => mapGet m q _) (Chip.pmcEvent_laws c b e n)
@[simp] theorem Chip.seqInc_law (b : Nat) : (c.seqInc b).law q = c.law q := congrArg (fun m => mapGet m q _) (Chip.seqInc_laws c b)
@[simp] theorem Chip.hw_law (b : Nat) (us : List (Fld × Nat × Nat)) : (c.hw b us).law q = c.law q := congrArg (fun m => mapGet m q _) (Chip.hw_laws c b us)
@[simp] theorem Chip.up_law (f : Fld) (b v i : Nat) : (c.up f b v i).law q = c.law q := congrArg (fun m => mapGet m q _) (Chip.up_laws c f b v i)
@[simp] theorem Chip.sendVec_law (v : Nat) : (c.sendVec v).law q = c.law q := congrArg (fun m => mapGet m q _) (Chip.sendVec_laws c v)
@[simp] theorem Chip.pendBit_law (b : Nat) (on : Bool) : (c.pendBit b on).law q = c.law q := congrArg (fun m => mapGet m q _) (Chip.pendBit_laws c b on)
@[simp] theorem Chip.reIrq_law (b : Nat) (r : Bool) : (c.reIrq b r).law q = c.law q := congrArg (fun m => mapGet m q _) (Chip.reIrq_laws c b r)
@[simp] theorem Chip.latchEvt_law (b n : Nat) : (c.latchEvt b n).law q = c.law q := congrArg (fun m => mapGet m q _) (Chip.latchEvt_laws c b n)
@[simp] theorem Chip.capCause_law (h : Nat → Nat → Nat → Bool) : (c.capCause h).law q = c.law q := congrArg (fun m => mapGet m q _) (Chip.capCause_laws c h)
@[simp] theorem Chip.riseEvt_law (b n : Nat) : (c.riseEvt b n).law q = c.law q := congrArg (fun m => mapGet m q _) (Chip.riseEvt_laws c b n)
@[simp] theorem Chip.pulse_law (b n : Nat) : (c.pulse b n).law q = c.law q := congrArg (fun m => mapGet m q _) (Chip.pulse_laws c b n)
@[simp] theorem Chip.level_law (b n : Nat) (on : Bool) : (c.level b n on).law q = c.law q := congrArg (fun m => mapGet m q _) (Chip.level_laws c b n on)
end

/-! sec. -/

section
variable (c : Chip) (q : Nat)
@[simp] theorem Chip.setSec_sec (v : SecSt) : (c.setSec q v).sec q = v := mapGet_mapSet_same _ _ _ _
theorem Chip.setSec_sec_ne (p : Nat) (v : SecSt) (h : q ≠ p) : (c.setSec p v).sec q = c.sec q := mapGet_mapSet_ne _ h _ _
@[simp] theorem Chip.modSec_sec (f : SecSt → SecSt) : (c.modSec q f).sec q = f (c.sec q) := mapGet_mapSet_same _ _ _ _
theorem Chip.modSec_sec_ne (p : Nat) (f : SecSt → SecSt) (h : q ≠ p) : (c.modSec p f).sec q = c.sec q := mapGet_mapSet_ne _ h _ _
@[simp] theorem Chip.wr_sec (f : Fld) (b v i : Nat) : (c.wr f b v i).sec q = c.sec q := rfl
@[simp] theorem Chip.send_sec (o : Out) : (c.send o).sec q = c.sec q := by rw [c.send_eq o]; rfl
@[simp] theorem Chip.arm_sec (k t : Nat) : (c.arm k t).sec q = c.sec q := rfl
@[simp] theorem Chip.disarm_sec (k : Nat) : (c.disarm k).sec q = c.sec q := rfl
@[simp] theorem Chip.setPort_sec (p : Nat) (v : PortSt) : (c.setPort p v).sec q = c.sec q := rfl
@[simp] theorem Chip.modPort_sec (p : Nat) (f : PortSt → PortSt) : (c.modPort p f).sec q = c.sec q := rfl
@[simp] theorem Chip.setStage_sec (p : Nat) (v : StageEnd) : (c.setStage p v).sec q = c.sec q := rfl
@[simp] theorem Chip.modStage_sec (p : Nat) (f : StageEnd → StageEnd) : (c.modStage p f).sec q = c.sec q := rfl
@[simp] theorem Chip.setEng_sec (p : Nat) (v : EngSt) : (c.setEng p v).sec q = c.sec q := rfl
@[simp] theorem Chip.modEng_sec (p : Nat) (f : EngSt → EngSt) : (c.modEng p f).sec q = c.sec q := rfl
@[simp] theorem Chip.setLaw_sec (p : Nat) (v : LawSt) : (c.setLaw p v).sec q = c.sec q := rfl
@[simp] theorem Chip.modLaw_sec (p : Nat) (f : LawSt → LawSt) : (c.modLaw p f).sec q = c.sec q := rfl
@[simp] theorem Chip.setCap_sec (p : Nat) (v : CapSt) : (c.setCap p v).sec q = c.sec q := rfl
@[simp] theorem Chip.modCap_sec (p : Nat) (f : CapSt → CapSt) : (c.modCap p f).sec q = c.sec q := rfl
@[simp] theorem Chip.setStr_sec (p : Nat) (v : StrSt) : (c.setStr p v).sec q = c.sec q := rfl
@[simp] theorem Chip.modStr_sec (p : Nat) (f : StrSt → StrSt) : (c.modStr p f).sec q = c.sec q := rfl
@[simp] theorem Chip.setFd_sec (p : Nat) (v : FdSt) : (c.setFd p v).sec q = c.sec q := rfl
@[simp] theorem Chip.modFd_sec (p : Nat) (f : FdSt → FdSt) : (c.modFd p f).sec q = c.sec q := rfl
@[simp] theorem Chip.setCal_sec (p : Nat) (v : CalSt) : (c.setCal p v).sec q = c.sec q := rfl
@[simp] theorem Chip.modCal_sec (p : Nat) (f : CalSt → CalSt) : (c.modCal p f).sec q = c.sec q := rfl
@[simp] theorem Chip.setWset_sec (p : Nat) (v : WcSet) : (c.setWset p v).sec q = c.sec q := rfl
@[simp] theorem Chip.modWset_sec (p : Nat) (f : WcSet → WcSet) : (c.modWset p f).sec q = c.sec q := rfl
@[simp] theorem Chip.setPath_sec (p : Nat) (v : PathSt) : (c.setPath p v).sec q = c.sec q := rfl
@[simp] theorem Chip.modPath_sec (p : Nat) (f : PathSt → PathSt) : (c.modPath p f).sec q = c.sec q := rfl
@[simp] theorem Chip.setIic_sec (p : Nat) (v : IicSt) : (c.setIic p v).sec q = c.sec q := rfl
@[simp] theorem Chip.modIic_sec (p : Nat) (f : IicSt → IicSt) : (c.modIic p f).sec q = c.sec q := rfl
@[simp] theorem Chip.modPlumb_sec (f : PlumbSt → PlumbSt) : (c.modPlumb f).sec q = c.sec q := rfl
@[simp] theorem Chip.modTwin_sec (f : TwinSt → TwinSt) : (c.modTwin f).sec q = c.sec q := rfl
@[simp] theorem Chip.modFab_sec (f : FabSt → FabSt) : (c.modFab f).sec q = c.sec q := rfl
@[simp] theorem Chip.modArb_sec (f : ArbSt → ArbSt) : (c.modArb f).sec q = c.sec q := rfl
@[simp] theorem Chip.modFbk_sec (f : FbkSt → FbkSt) : (c.modFbk f).sec q = c.sec q := rfl
@[simp] theorem Chip.modHost_sec (f : HostSt → HostSt) : (c.modHost f).sec q = c.sec q := rfl
@[simp] theorem Chip.modFwu_sec (f : FwuSt → FwuSt) : (c.modFwu f).sec q = c.sec q := rfl
@[simp] theorem Chip.modFlash_sec (f : FlashSt → FlashSt) : (c.modFlash f).sec q = c.sec q := rfl
@[simp] theorem Chip.modMram_sec (f : Mram → Mram) : (c.modMram f).sec q = c.sec q := rfl
@[simp] theorem Chip.modDbg_sec (f : DbgSt → DbgSt) : (c.modDbg f).sec q = c.sec q := rfl
@[simp] theorem Chip.modSnap_sec (f : SnapSt → SnapSt) : (c.modSnap f).sec q = c.sec q := rfl
@[simp] theorem Chip.bump_sec (f : Fld) (b i n : Nat) : (c.bump f b i n).sec q = c.sec q := congrArg (fun m => mapGet m q _) (Chip.bump_secs c f b i n)
@[simp] theorem Chip.pmcAdd_sec (b j n : Nat) : (c.pmcAdd b j n).sec q = c.sec q := congrArg (fun m => mapGet m q _) (Chip.pmcAdd_secs c b j n)
@[simp] theorem Chip.pmcEvent_sec (b e n : Nat) : (c.pmcEvent b e n).sec q = c.sec q := congrArg (fun m => mapGet m q _) (Chip.pmcEvent_secs c b e n)
@[simp] theorem Chip.seqInc_sec (b : Nat) : (c.seqInc b).sec q = c.sec q := congrArg (fun m => mapGet m q _) (Chip.seqInc_secs c b)
@[simp] theorem Chip.hw_sec (b : Nat) (us : List (Fld × Nat × Nat)) : (c.hw b us).sec q = c.sec q := congrArg (fun m => mapGet m q _) (Chip.hw_secs c b us)
@[simp] theorem Chip.up_sec (f : Fld) (b v i : Nat) : (c.up f b v i).sec q = c.sec q := congrArg (fun m => mapGet m q _) (Chip.up_secs c f b v i)
@[simp] theorem Chip.sendVec_sec (v : Nat) : (c.sendVec v).sec q = c.sec q := congrArg (fun m => mapGet m q _) (Chip.sendVec_secs c v)
@[simp] theorem Chip.pendBit_sec (b : Nat) (on : Bool) : (c.pendBit b on).sec q = c.sec q := congrArg (fun m => mapGet m q _) (Chip.pendBit_secs c b on)
@[simp] theorem Chip.reIrq_sec (b : Nat) (r : Bool) : (c.reIrq b r).sec q = c.sec q := congrArg (fun m => mapGet m q _) (Chip.reIrq_secs c b r)
@[simp] theorem Chip.latchEvt_sec (b n : Nat) : (c.latchEvt b n).sec q = c.sec q := congrArg (fun m => mapGet m q _) (Chip.latchEvt_secs c b n)
@[simp] theorem Chip.capCause_sec (h : Nat → Nat → Nat → Bool) : (c.capCause h).sec q = c.sec q := congrArg (fun m => mapGet m q _) (Chip.capCause_secs c h)
@[simp] theorem Chip.riseEvt_sec (b n : Nat) : (c.riseEvt b n).sec q = c.sec q := congrArg (fun m => mapGet m q _) (Chip.riseEvt_secs c b n)
@[simp] theorem Chip.pulse_sec (b n : Nat) : (c.pulse b n).sec q = c.sec q := congrArg (fun m => mapGet m q _) (Chip.pulse_secs c b n)
@[simp] theorem Chip.level_sec (b n : Nat) (on : Bool) : (c.level b n on).sec q = c.sec q := congrArg (fun m => mapGet m q _) (Chip.level_secs c b n on)
end

/-! capst. -/

section
variable (c : Chip) (q : Nat)
@[simp] theorem Chip.setCap_capst (v : CapSt) : (c.setCap q v).capst q = v := mapGet_mapSet_same _ _ _ _
theorem Chip.setCap_capst_ne (p : Nat) (v : CapSt) (h : q ≠ p) : (c.setCap p v).capst q = c.capst q := mapGet_mapSet_ne _ h _ _
@[simp] theorem Chip.modCap_capst (f : CapSt → CapSt) : (c.modCap q f).capst q = f (c.capst q) := mapGet_mapSet_same _ _ _ _
theorem Chip.modCap_capst_ne (p : Nat) (f : CapSt → CapSt) (h : q ≠ p) : (c.modCap p f).capst q = c.capst q := mapGet_mapSet_ne _ h _ _
@[simp] theorem Chip.wr_capst (f : Fld) (b v i : Nat) : (c.wr f b v i).capst q = c.capst q := rfl
@[simp] theorem Chip.send_capst (o : Out) : (c.send o).capst q = c.capst q := by rw [c.send_eq o]; rfl
@[simp] theorem Chip.arm_capst (k t : Nat) : (c.arm k t).capst q = c.capst q := rfl
@[simp] theorem Chip.disarm_capst (k : Nat) : (c.disarm k).capst q = c.capst q := rfl
@[simp] theorem Chip.setPort_capst (p : Nat) (v : PortSt) : (c.setPort p v).capst q = c.capst q := rfl
@[simp] theorem Chip.modPort_capst (p : Nat) (f : PortSt → PortSt) : (c.modPort p f).capst q = c.capst q := rfl
@[simp] theorem Chip.setStage_capst (p : Nat) (v : StageEnd) : (c.setStage p v).capst q = c.capst q := rfl
@[simp] theorem Chip.modStage_capst (p : Nat) (f : StageEnd → StageEnd) : (c.modStage p f).capst q = c.capst q := rfl
@[simp] theorem Chip.setEng_capst (p : Nat) (v : EngSt) : (c.setEng p v).capst q = c.capst q := rfl
@[simp] theorem Chip.modEng_capst (p : Nat) (f : EngSt → EngSt) : (c.modEng p f).capst q = c.capst q := rfl
@[simp] theorem Chip.setLaw_capst (p : Nat) (v : LawSt) : (c.setLaw p v).capst q = c.capst q := rfl
@[simp] theorem Chip.modLaw_capst (p : Nat) (f : LawSt → LawSt) : (c.modLaw p f).capst q = c.capst q := rfl
@[simp] theorem Chip.setSec_capst (p : Nat) (v : SecSt) : (c.setSec p v).capst q = c.capst q := rfl
@[simp] theorem Chip.modSec_capst (p : Nat) (f : SecSt → SecSt) : (c.modSec p f).capst q = c.capst q := rfl
@[simp] theorem Chip.setStr_capst (p : Nat) (v : StrSt) : (c.setStr p v).capst q = c.capst q := rfl
@[simp] theorem Chip.modStr_capst (p : Nat) (f : StrSt → StrSt) : (c.modStr p f).capst q = c.capst q := rfl
@[simp] theorem Chip.setFd_capst (p : Nat) (v : FdSt) : (c.setFd p v).capst q = c.capst q := rfl
@[simp] theorem Chip.modFd_capst (p : Nat) (f : FdSt → FdSt) : (c.modFd p f).capst q = c.capst q := rfl
@[simp] theorem Chip.setCal_capst (p : Nat) (v : CalSt) : (c.setCal p v).capst q = c.capst q := rfl
@[simp] theorem Chip.modCal_capst (p : Nat) (f : CalSt → CalSt) : (c.modCal p f).capst q = c.capst q := rfl
@[simp] theorem Chip.setWset_capst (p : Nat) (v : WcSet) : (c.setWset p v).capst q = c.capst q := rfl
@[simp] theorem Chip.modWset_capst (p : Nat) (f : WcSet → WcSet) : (c.modWset p f).capst q = c.capst q := rfl
@[simp] theorem Chip.setPath_capst (p : Nat) (v : PathSt) : (c.setPath p v).capst q = c.capst q := rfl
@[simp] theorem Chip.modPath_capst (p : Nat) (f : PathSt → PathSt) : (c.modPath p f).capst q = c.capst q := rfl
@[simp] theorem Chip.setIic_capst (p : Nat) (v : IicSt) : (c.setIic p v).capst q = c.capst q := rfl
@[simp] theorem Chip.modIic_capst (p : Nat) (f : IicSt → IicSt) : (c.modIic p f).capst q = c.capst q := rfl
@[simp] theorem Chip.modPlumb_capst (f : PlumbSt → PlumbSt) : (c.modPlumb f).capst q = c.capst q := rfl
@[simp] theorem Chip.modTwin_capst (f : TwinSt → TwinSt) : (c.modTwin f).capst q = c.capst q := rfl
@[simp] theorem Chip.modFab_capst (f : FabSt → FabSt) : (c.modFab f).capst q = c.capst q := rfl
@[simp] theorem Chip.modArb_capst (f : ArbSt → ArbSt) : (c.modArb f).capst q = c.capst q := rfl
@[simp] theorem Chip.modFbk_capst (f : FbkSt → FbkSt) : (c.modFbk f).capst q = c.capst q := rfl
@[simp] theorem Chip.modHost_capst (f : HostSt → HostSt) : (c.modHost f).capst q = c.capst q := rfl
@[simp] theorem Chip.modFwu_capst (f : FwuSt → FwuSt) : (c.modFwu f).capst q = c.capst q := rfl
@[simp] theorem Chip.modFlash_capst (f : FlashSt → FlashSt) : (c.modFlash f).capst q = c.capst q := rfl
@[simp] theorem Chip.modMram_capst (f : Mram → Mram) : (c.modMram f).capst q = c.capst q := rfl
@[simp] theorem Chip.modDbg_capst (f : DbgSt → DbgSt) : (c.modDbg f).capst q = c.capst q := rfl
@[simp] theorem Chip.modSnap_capst (f : SnapSt → SnapSt) : (c.modSnap f).capst q = c.capst q := rfl
@[simp] theorem Chip.bump_capst (f : Fld) (b i n : Nat) : (c.bump f b i n).capst q = c.capst q := congrArg (fun m => mapGet m q _) (Chip.bump_caps c f b i n)
@[simp] theorem Chip.pmcAdd_capst (b j n : Nat) : (c.pmcAdd b j n).capst q = c.capst q := congrArg (fun m => mapGet m q _) (Chip.pmcAdd_caps c b j n)
@[simp] theorem Chip.pmcEvent_capst (b e n : Nat) : (c.pmcEvent b e n).capst q = c.capst q := congrArg (fun m => mapGet m q _) (Chip.pmcEvent_caps c b e n)
@[simp] theorem Chip.seqInc_capst (b : Nat) : (c.seqInc b).capst q = c.capst q := congrArg (fun m => mapGet m q _) (Chip.seqInc_caps c b)
@[simp] theorem Chip.hw_capst (b : Nat) (us : List (Fld × Nat × Nat)) : (c.hw b us).capst q = c.capst q := congrArg (fun m => mapGet m q _) (Chip.hw_caps c b us)
@[simp] theorem Chip.up_capst (f : Fld) (b v i : Nat) : (c.up f b v i).capst q = c.capst q := congrArg (fun m => mapGet m q _) (Chip.up_caps c f b v i)
@[simp] theorem Chip.sendVec_capst (v : Nat) : (c.sendVec v).capst q = c.capst q := congrArg (fun m => mapGet m q _) (Chip.sendVec_caps c v)
@[simp] theorem Chip.pendBit_capst (b : Nat) (on : Bool) : (c.pendBit b on).capst q = c.capst q := congrArg (fun m => mapGet m q _) (Chip.pendBit_caps c b on)
@[simp] theorem Chip.reIrq_capst (b : Nat) (r : Bool) : (c.reIrq b r).capst q = c.capst q := congrArg (fun m => mapGet m q _) (Chip.reIrq_caps c b r)
@[simp] theorem Chip.latchEvt_capst (b n : Nat) : (c.latchEvt b n).capst q = c.capst q := congrArg (fun m => mapGet m q _) (Chip.latchEvt_caps c b n)
@[simp] theorem Chip.capCause_capst (h : Nat → Nat → Nat → Bool) : (c.capCause h).capst q = c.capst q := congrArg (fun m => mapGet m q _) (Chip.capCause_caps c h)
@[simp] theorem Chip.riseEvt_capst (b n : Nat) : (c.riseEvt b n).capst q = c.capst q := congrArg (fun m => mapGet m q _) (Chip.riseEvt_caps c b n)
@[simp] theorem Chip.pulse_capst (b n : Nat) : (c.pulse b n).capst q = c.capst q := congrArg (fun m => mapGet m q _) (Chip.pulse_caps c b n)
@[simp] theorem Chip.level_capst (b n : Nat) (on : Bool) : (c.level b n on).capst q = c.capst q := congrArg (fun m => mapGet m q _) (Chip.level_caps c b n on)
end

/-! strg. -/

section
variable (c : Chip) (q : Nat)
@[simp] theorem Chip.setStr_strg (v : StrSt) : (c.setStr q v).strg q = v := mapGet_mapSet_same _ _ _ _
theorem Chip.setStr_strg_ne (p : Nat) (v : StrSt) (h : q ≠ p) : (c.setStr p v).strg q = c.strg q := mapGet_mapSet_ne _ h _ _
@[simp] theorem Chip.modStr_strg (f : StrSt → StrSt) : (c.modStr q f).strg q = f (c.strg q) := mapGet_mapSet_same _ _ _ _
theorem Chip.modStr_strg_ne (p : Nat) (f : StrSt → StrSt) (h : q ≠ p) : (c.modStr p f).strg q = c.strg q := mapGet_mapSet_ne _ h _ _
@[simp] theorem Chip.wr_strg (f : Fld) (b v i : Nat) : (c.wr f b v i).strg q = c.strg q := rfl
@[simp] theorem Chip.send_strg (o : Out) : (c.send o).strg q = c.strg q := by rw [c.send_eq o]; rfl
@[simp] theorem Chip.arm_strg (k t : Nat) : (c.arm k t).strg q = c.strg q := rfl
@[simp] theorem Chip.disarm_strg (k : Nat) : (c.disarm k).strg q = c.strg q := rfl
@[simp] theorem Chip.setPort_strg (p : Nat) (v : PortSt) : (c.setPort p v).strg q = c.strg q := rfl
@[simp] theorem Chip.modPort_strg (p : Nat) (f : PortSt → PortSt) : (c.modPort p f).strg q = c.strg q := rfl
@[simp] theorem Chip.setStage_strg (p : Nat) (v : StageEnd) : (c.setStage p v).strg q = c.strg q := rfl
@[simp] theorem Chip.modStage_strg (p : Nat) (f : StageEnd → StageEnd) : (c.modStage p f).strg q = c.strg q := rfl
@[simp] theorem Chip.setEng_strg (p : Nat) (v : EngSt) : (c.setEng p v).strg q = c.strg q := rfl
@[simp] theorem Chip.modEng_strg (p : Nat) (f : EngSt → EngSt) : (c.modEng p f).strg q = c.strg q := rfl
@[simp] theorem Chip.setLaw_strg (p : Nat) (v : LawSt) : (c.setLaw p v).strg q = c.strg q := rfl
@[simp] theorem Chip.modLaw_strg (p : Nat) (f : LawSt → LawSt) : (c.modLaw p f).strg q = c.strg q := rfl
@[simp] theorem Chip.setSec_strg (p : Nat) (v : SecSt) : (c.setSec p v).strg q = c.strg q := rfl
@[simp] theorem Chip.modSec_strg (p : Nat) (f : SecSt → SecSt) : (c.modSec p f).strg q = c.strg q := rfl
@[simp] theorem Chip.setCap_strg (p : Nat) (v : CapSt) : (c.setCap p v).strg q = c.strg q := rfl
@[simp] theorem Chip.modCap_strg (p : Nat) (f : CapSt → CapSt) : (c.modCap p f).strg q = c.strg q := rfl
@[simp] theorem Chip.setFd_strg (p : Nat) (v : FdSt) : (c.setFd p v).strg q = c.strg q := rfl
@[simp] theorem Chip.modFd_strg (p : Nat) (f : FdSt → FdSt) : (c.modFd p f).strg q = c.strg q := rfl
@[simp] theorem Chip.setCal_strg (p : Nat) (v : CalSt) : (c.setCal p v).strg q = c.strg q := rfl
@[simp] theorem Chip.modCal_strg (p : Nat) (f : CalSt → CalSt) : (c.modCal p f).strg q = c.strg q := rfl
@[simp] theorem Chip.setWset_strg (p : Nat) (v : WcSet) : (c.setWset p v).strg q = c.strg q := rfl
@[simp] theorem Chip.modWset_strg (p : Nat) (f : WcSet → WcSet) : (c.modWset p f).strg q = c.strg q := rfl
@[simp] theorem Chip.setPath_strg (p : Nat) (v : PathSt) : (c.setPath p v).strg q = c.strg q := rfl
@[simp] theorem Chip.modPath_strg (p : Nat) (f : PathSt → PathSt) : (c.modPath p f).strg q = c.strg q := rfl
@[simp] theorem Chip.setIic_strg (p : Nat) (v : IicSt) : (c.setIic p v).strg q = c.strg q := rfl
@[simp] theorem Chip.modIic_strg (p : Nat) (f : IicSt → IicSt) : (c.modIic p f).strg q = c.strg q := rfl
@[simp] theorem Chip.modPlumb_strg (f : PlumbSt → PlumbSt) : (c.modPlumb f).strg q = c.strg q := rfl
@[simp] theorem Chip.modTwin_strg (f : TwinSt → TwinSt) : (c.modTwin f).strg q = c.strg q := rfl
@[simp] theorem Chip.modFab_strg (f : FabSt → FabSt) : (c.modFab f).strg q = c.strg q := rfl
@[simp] theorem Chip.modArb_strg (f : ArbSt → ArbSt) : (c.modArb f).strg q = c.strg q := rfl
@[simp] theorem Chip.modFbk_strg (f : FbkSt → FbkSt) : (c.modFbk f).strg q = c.strg q := rfl
@[simp] theorem Chip.modHost_strg (f : HostSt → HostSt) : (c.modHost f).strg q = c.strg q := rfl
@[simp] theorem Chip.modFwu_strg (f : FwuSt → FwuSt) : (c.modFwu f).strg q = c.strg q := rfl
@[simp] theorem Chip.modFlash_strg (f : FlashSt → FlashSt) : (c.modFlash f).strg q = c.strg q := rfl
@[simp] theorem Chip.modMram_strg (f : Mram → Mram) : (c.modMram f).strg q = c.strg q := rfl
@[simp] theorem Chip.modDbg_strg (f : DbgSt → DbgSt) : (c.modDbg f).strg q = c.strg q := rfl
@[simp] theorem Chip.modSnap_strg (f : SnapSt → SnapSt) : (c.modSnap f).strg q = c.strg q := rfl
@[simp] theorem Chip.bump_strg (f : Fld) (b i n : Nat) : (c.bump f b i n).strg q = c.strg q := congrArg (fun m => mapGet m q _) (Chip.bump_strs c f b i n)
@[simp] theorem Chip.pmcAdd_strg (b j n : Nat) : (c.pmcAdd b j n).strg q = c.strg q := congrArg (fun m => mapGet m q _) (Chip.pmcAdd_strs c b j n)
@[simp] theorem Chip.pmcEvent_strg (b e n : Nat) : (c.pmcEvent b e n).strg q = c.strg q := congrArg (fun m => mapGet m q _) (Chip.pmcEvent_strs c b e n)
@[simp] theorem Chip.seqInc_strg (b : Nat) : (c.seqInc b).strg q = c.strg q := congrArg (fun m => mapGet m q _) (Chip.seqInc_strs c b)
@[simp] theorem Chip.hw_strg (b : Nat) (us : List (Fld × Nat × Nat)) : (c.hw b us).strg q = c.strg q := congrArg (fun m => mapGet m q _) (Chip.hw_strs c b us)
@[simp] theorem Chip.up_strg (f : Fld) (b v i : Nat) : (c.up f b v i).strg q = c.strg q := congrArg (fun m => mapGet m q _) (Chip.up_strs c f b v i)
@[simp] theorem Chip.sendVec_strg (v : Nat) : (c.sendVec v).strg q = c.strg q := congrArg (fun m => mapGet m q _) (Chip.sendVec_strs c v)
@[simp] theorem Chip.pendBit_strg (b : Nat) (on : Bool) : (c.pendBit b on).strg q = c.strg q := congrArg (fun m => mapGet m q _) (Chip.pendBit_strs c b on)
@[simp] theorem Chip.reIrq_strg (b : Nat) (r : Bool) : (c.reIrq b r).strg q = c.strg q := congrArg (fun m => mapGet m q _) (Chip.reIrq_strs c b r)
@[simp] theorem Chip.latchEvt_strg (b n : Nat) : (c.latchEvt b n).strg q = c.strg q := congrArg (fun m => mapGet m q _) (Chip.latchEvt_strs c b n)
@[simp] theorem Chip.capCause_strg (h : Nat → Nat → Nat → Bool) : (c.capCause h).strg q = c.strg q := congrArg (fun m => mapGet m q _) (Chip.capCause_strs c h)
@[simp] theorem Chip.riseEvt_strg (b n : Nat) : (c.riseEvt b n).strg q = c.strg q := congrArg (fun m => mapGet m q _) (Chip.riseEvt_strs c b n)
@[simp] theorem Chip.pulse_strg (b n : Nat) : (c.pulse b n).strg q = c.strg q := congrArg (fun m => mapGet m q _) (Chip.pulse_strs c b n)
@[simp] theorem Chip.level_strg (b n : Nat) (on : Bool) : (c.level b n on).strg q = c.strg q := congrArg (fun m => mapGet m q _) (Chip.level_strs c b n on)
end

/-! fd. -/

section
variable (c : Chip) (q : Nat)
@[simp] theorem Chip.setFd_fd (v : FdSt) : (c.setFd q v).fd q = v := mapGet_mapSet_same _ _ _ _
theorem Chip.setFd_fd_ne (p : Nat) (v : FdSt) (h : q ≠ p) : (c.setFd p v).fd q = c.fd q := mapGet_mapSet_ne _ h _ _
@[simp] theorem Chip.modFd_fd (f : FdSt → FdSt) : (c.modFd q f).fd q = f (c.fd q) := mapGet_mapSet_same _ _ _ _
theorem Chip.modFd_fd_ne (p : Nat) (f : FdSt → FdSt) (h : q ≠ p) : (c.modFd p f).fd q = c.fd q := mapGet_mapSet_ne _ h _ _
@[simp] theorem Chip.wr_fd (f : Fld) (b v i : Nat) : (c.wr f b v i).fd q = c.fd q := rfl
@[simp] theorem Chip.send_fd (o : Out) : (c.send o).fd q = c.fd q := by rw [c.send_eq o]; rfl
@[simp] theorem Chip.arm_fd (k t : Nat) : (c.arm k t).fd q = c.fd q := rfl
@[simp] theorem Chip.disarm_fd (k : Nat) : (c.disarm k).fd q = c.fd q := rfl
@[simp] theorem Chip.setPort_fd (p : Nat) (v : PortSt) : (c.setPort p v).fd q = c.fd q := rfl
@[simp] theorem Chip.modPort_fd (p : Nat) (f : PortSt → PortSt) : (c.modPort p f).fd q = c.fd q := rfl
@[simp] theorem Chip.setStage_fd (p : Nat) (v : StageEnd) : (c.setStage p v).fd q = c.fd q := rfl
@[simp] theorem Chip.modStage_fd (p : Nat) (f : StageEnd → StageEnd) : (c.modStage p f).fd q = c.fd q := rfl
@[simp] theorem Chip.setEng_fd (p : Nat) (v : EngSt) : (c.setEng p v).fd q = c.fd q := rfl
@[simp] theorem Chip.modEng_fd (p : Nat) (f : EngSt → EngSt) : (c.modEng p f).fd q = c.fd q := rfl
@[simp] theorem Chip.setLaw_fd (p : Nat) (v : LawSt) : (c.setLaw p v).fd q = c.fd q := rfl
@[simp] theorem Chip.modLaw_fd (p : Nat) (f : LawSt → LawSt) : (c.modLaw p f).fd q = c.fd q := rfl
@[simp] theorem Chip.setSec_fd (p : Nat) (v : SecSt) : (c.setSec p v).fd q = c.fd q := rfl
@[simp] theorem Chip.modSec_fd (p : Nat) (f : SecSt → SecSt) : (c.modSec p f).fd q = c.fd q := rfl
@[simp] theorem Chip.setCap_fd (p : Nat) (v : CapSt) : (c.setCap p v).fd q = c.fd q := rfl
@[simp] theorem Chip.modCap_fd (p : Nat) (f : CapSt → CapSt) : (c.modCap p f).fd q = c.fd q := rfl
@[simp] theorem Chip.setStr_fd (p : Nat) (v : StrSt) : (c.setStr p v).fd q = c.fd q := rfl
@[simp] theorem Chip.modStr_fd (p : Nat) (f : StrSt → StrSt) : (c.modStr p f).fd q = c.fd q := rfl
@[simp] theorem Chip.setCal_fd (p : Nat) (v : CalSt) : (c.setCal p v).fd q = c.fd q := rfl
@[simp] theorem Chip.modCal_fd (p : Nat) (f : CalSt → CalSt) : (c.modCal p f).fd q = c.fd q := rfl
@[simp] theorem Chip.setWset_fd (p : Nat) (v : WcSet) : (c.setWset p v).fd q = c.fd q := rfl
@[simp] theorem Chip.modWset_fd (p : Nat) (f : WcSet → WcSet) : (c.modWset p f).fd q = c.fd q := rfl
@[simp] theorem Chip.setPath_fd (p : Nat) (v : PathSt) : (c.setPath p v).fd q = c.fd q := rfl
@[simp] theorem Chip.modPath_fd (p : Nat) (f : PathSt → PathSt) : (c.modPath p f).fd q = c.fd q := rfl
@[simp] theorem Chip.setIic_fd (p : Nat) (v : IicSt) : (c.setIic p v).fd q = c.fd q := rfl
@[simp] theorem Chip.modIic_fd (p : Nat) (f : IicSt → IicSt) : (c.modIic p f).fd q = c.fd q := rfl
@[simp] theorem Chip.modPlumb_fd (f : PlumbSt → PlumbSt) : (c.modPlumb f).fd q = c.fd q := rfl
@[simp] theorem Chip.modTwin_fd (f : TwinSt → TwinSt) : (c.modTwin f).fd q = c.fd q := rfl
@[simp] theorem Chip.modFab_fd (f : FabSt → FabSt) : (c.modFab f).fd q = c.fd q := rfl
@[simp] theorem Chip.modArb_fd (f : ArbSt → ArbSt) : (c.modArb f).fd q = c.fd q := rfl
@[simp] theorem Chip.modFbk_fd (f : FbkSt → FbkSt) : (c.modFbk f).fd q = c.fd q := rfl
@[simp] theorem Chip.modHost_fd (f : HostSt → HostSt) : (c.modHost f).fd q = c.fd q := rfl
@[simp] theorem Chip.modFwu_fd (f : FwuSt → FwuSt) : (c.modFwu f).fd q = c.fd q := rfl
@[simp] theorem Chip.modFlash_fd (f : FlashSt → FlashSt) : (c.modFlash f).fd q = c.fd q := rfl
@[simp] theorem Chip.modMram_fd (f : Mram → Mram) : (c.modMram f).fd q = c.fd q := rfl
@[simp] theorem Chip.modDbg_fd (f : DbgSt → DbgSt) : (c.modDbg f).fd q = c.fd q := rfl
@[simp] theorem Chip.modSnap_fd (f : SnapSt → SnapSt) : (c.modSnap f).fd q = c.fd q := rfl
@[simp] theorem Chip.bump_fd (f : Fld) (b i n : Nat) : (c.bump f b i n).fd q = c.fd q := congrArg (fun m => mapGet m q _) (Chip.bump_feeders c f b i n)
@[simp] theorem Chip.pmcAdd_fd (b j n : Nat) : (c.pmcAdd b j n).fd q = c.fd q := congrArg (fun m => mapGet m q _) (Chip.pmcAdd_feeders c b j n)
@[simp] theorem Chip.pmcEvent_fd (b e n : Nat) : (c.pmcEvent b e n).fd q = c.fd q := congrArg (fun m => mapGet m q _) (Chip.pmcEvent_feeders c b e n)
@[simp] theorem Chip.seqInc_fd (b : Nat) : (c.seqInc b).fd q = c.fd q := congrArg (fun m => mapGet m q _) (Chip.seqInc_feeders c b)
@[simp] theorem Chip.hw_fd (b : Nat) (us : List (Fld × Nat × Nat)) : (c.hw b us).fd q = c.fd q := congrArg (fun m => mapGet m q _) (Chip.hw_feeders c b us)
@[simp] theorem Chip.up_fd (f : Fld) (b v i : Nat) : (c.up f b v i).fd q = c.fd q := congrArg (fun m => mapGet m q _) (Chip.up_feeders c f b v i)
@[simp] theorem Chip.sendVec_fd (v : Nat) : (c.sendVec v).fd q = c.fd q := congrArg (fun m => mapGet m q _) (Chip.sendVec_feeders c v)
@[simp] theorem Chip.pendBit_fd (b : Nat) (on : Bool) : (c.pendBit b on).fd q = c.fd q := congrArg (fun m => mapGet m q _) (Chip.pendBit_feeders c b on)
@[simp] theorem Chip.reIrq_fd (b : Nat) (r : Bool) : (c.reIrq b r).fd q = c.fd q := congrArg (fun m => mapGet m q _) (Chip.reIrq_feeders c b r)
@[simp] theorem Chip.latchEvt_fd (b n : Nat) : (c.latchEvt b n).fd q = c.fd q := congrArg (fun m => mapGet m q _) (Chip.latchEvt_feeders c b n)
@[simp] theorem Chip.capCause_fd (h : Nat → Nat → Nat → Bool) : (c.capCause h).fd q = c.fd q := congrArg (fun m => mapGet m q _) (Chip.capCause_feeders c h)
@[simp] theorem Chip.riseEvt_fd (b n : Nat) : (c.riseEvt b n).fd q = c.fd q := congrArg (fun m => mapGet m q _) (Chip.riseEvt_feeders c b n)
@[simp] theorem Chip.pulse_fd (b n : Nat) : (c.pulse b n).fd q = c.fd q := congrArg (fun m => mapGet m q _) (Chip.pulse_feeders c b n)
@[simp] theorem Chip.level_fd (b n : Nat) (on : Bool) : (c.level b n on).fd q = c.fd q := congrArg (fun m => mapGet m q _) (Chip.level_feeders c b n on)
end

/-! cal. -/

section
variable (c : Chip) (q : Nat)
@[simp] theorem Chip.setCal_cal (v : CalSt) : (c.setCal q v).cal q = v := mapGet_mapSet_same _ _ _ _
theorem Chip.setCal_cal_ne (p : Nat) (v : CalSt) (h : q ≠ p) : (c.setCal p v).cal q = c.cal q := mapGet_mapSet_ne _ h _ _
@[simp] theorem Chip.modCal_cal (f : CalSt → CalSt) : (c.modCal q f).cal q = f (c.cal q) := mapGet_mapSet_same _ _ _ _
theorem Chip.modCal_cal_ne (p : Nat) (f : CalSt → CalSt) (h : q ≠ p) : (c.modCal p f).cal q = c.cal q := mapGet_mapSet_ne _ h _ _
@[simp] theorem Chip.wr_cal (f : Fld) (b v i : Nat) : (c.wr f b v i).cal q = c.cal q := rfl
@[simp] theorem Chip.send_cal (o : Out) : (c.send o).cal q = c.cal q := by rw [c.send_eq o]; rfl
@[simp] theorem Chip.arm_cal (k t : Nat) : (c.arm k t).cal q = c.cal q := rfl
@[simp] theorem Chip.disarm_cal (k : Nat) : (c.disarm k).cal q = c.cal q := rfl
@[simp] theorem Chip.setPort_cal (p : Nat) (v : PortSt) : (c.setPort p v).cal q = c.cal q := rfl
@[simp] theorem Chip.modPort_cal (p : Nat) (f : PortSt → PortSt) : (c.modPort p f).cal q = c.cal q := rfl
@[simp] theorem Chip.setStage_cal (p : Nat) (v : StageEnd) : (c.setStage p v).cal q = c.cal q := rfl
@[simp] theorem Chip.modStage_cal (p : Nat) (f : StageEnd → StageEnd) : (c.modStage p f).cal q = c.cal q := rfl
@[simp] theorem Chip.setEng_cal (p : Nat) (v : EngSt) : (c.setEng p v).cal q = c.cal q := rfl
@[simp] theorem Chip.modEng_cal (p : Nat) (f : EngSt → EngSt) : (c.modEng p f).cal q = c.cal q := rfl
@[simp] theorem Chip.setLaw_cal (p : Nat) (v : LawSt) : (c.setLaw p v).cal q = c.cal q := rfl
@[simp] theorem Chip.modLaw_cal (p : Nat) (f : LawSt → LawSt) : (c.modLaw p f).cal q = c.cal q := rfl
@[simp] theorem Chip.setSec_cal (p : Nat) (v : SecSt) : (c.setSec p v).cal q = c.cal q := rfl
@[simp] theorem Chip.modSec_cal (p : Nat) (f : SecSt → SecSt) : (c.modSec p f).cal q = c.cal q := rfl
@[simp] theorem Chip.setCap_cal (p : Nat) (v : CapSt) : (c.setCap p v).cal q = c.cal q := rfl
@[simp] theorem Chip.modCap_cal (p : Nat) (f : CapSt → CapSt) : (c.modCap p f).cal q = c.cal q := rfl
@[simp] theorem Chip.setStr_cal (p : Nat) (v : StrSt) : (c.setStr p v).cal q = c.cal q := rfl
@[simp] theorem Chip.modStr_cal (p : Nat) (f : StrSt → StrSt) : (c.modStr p f).cal q = c.cal q := rfl
@[simp] theorem Chip.setFd_cal (p : Nat) (v : FdSt) : (c.setFd p v).cal q = c.cal q := rfl
@[simp] theorem Chip.modFd_cal (p : Nat) (f : FdSt → FdSt) : (c.modFd p f).cal q = c.cal q := rfl
@[simp] theorem Chip.setWset_cal (p : Nat) (v : WcSet) : (c.setWset p v).cal q = c.cal q := rfl
@[simp] theorem Chip.modWset_cal (p : Nat) (f : WcSet → WcSet) : (c.modWset p f).cal q = c.cal q := rfl
@[simp] theorem Chip.setPath_cal (p : Nat) (v : PathSt) : (c.setPath p v).cal q = c.cal q := rfl
@[simp] theorem Chip.modPath_cal (p : Nat) (f : PathSt → PathSt) : (c.modPath p f).cal q = c.cal q := rfl
@[simp] theorem Chip.setIic_cal (p : Nat) (v : IicSt) : (c.setIic p v).cal q = c.cal q := rfl
@[simp] theorem Chip.modIic_cal (p : Nat) (f : IicSt → IicSt) : (c.modIic p f).cal q = c.cal q := rfl
@[simp] theorem Chip.modPlumb_cal (f : PlumbSt → PlumbSt) : (c.modPlumb f).cal q = c.cal q := rfl
@[simp] theorem Chip.modTwin_cal (f : TwinSt → TwinSt) : (c.modTwin f).cal q = c.cal q := rfl
@[simp] theorem Chip.modFab_cal (f : FabSt → FabSt) : (c.modFab f).cal q = c.cal q := rfl
@[simp] theorem Chip.modArb_cal (f : ArbSt → ArbSt) : (c.modArb f).cal q = c.cal q := rfl
@[simp] theorem Chip.modFbk_cal (f : FbkSt → FbkSt) : (c.modFbk f).cal q = c.cal q := rfl
@[simp] theorem Chip.modHost_cal (f : HostSt → HostSt) : (c.modHost f).cal q = c.cal q := rfl
@[simp] theorem Chip.modFwu_cal (f : FwuSt → FwuSt) : (c.modFwu f).cal q = c.cal q := rfl
@[simp] theorem Chip.modFlash_cal (f : FlashSt → FlashSt) : (c.modFlash f).cal q = c.cal q := rfl
@[simp] theorem Chip.modMram_cal (f : Mram → Mram) : (c.modMram f).cal q = c.cal q := rfl
@[simp] theorem Chip.modDbg_cal (f : DbgSt → DbgSt) : (c.modDbg f).cal q = c.cal q := rfl
@[simp] theorem Chip.modSnap_cal (f : SnapSt → SnapSt) : (c.modSnap f).cal q = c.cal q := rfl
@[simp] theorem Chip.bump_cal (f : Fld) (b i n : Nat) : (c.bump f b i n).cal q = c.cal q := congrArg (fun m => mapGet m q _) (Chip.bump_cals c f b i n)
@[simp] theorem Chip.pmcAdd_cal (b j n : Nat) : (c.pmcAdd b j n).cal q = c.cal q := congrArg (fun m => mapGet m q _) (Chip.pmcAdd_cals c b j n)
@[simp] theorem Chip.pmcEvent_cal (b e n : Nat) : (c.pmcEvent b e n).cal q = c.cal q := congrArg (fun m => mapGet m q _) (Chip.pmcEvent_cals c b e n)
@[simp] theorem Chip.seqInc_cal (b : Nat) : (c.seqInc b).cal q = c.cal q := congrArg (fun m => mapGet m q _) (Chip.seqInc_cals c b)
@[simp] theorem Chip.hw_cal (b : Nat) (us : List (Fld × Nat × Nat)) : (c.hw b us).cal q = c.cal q := congrArg (fun m => mapGet m q _) (Chip.hw_cals c b us)
@[simp] theorem Chip.up_cal (f : Fld) (b v i : Nat) : (c.up f b v i).cal q = c.cal q := congrArg (fun m => mapGet m q _) (Chip.up_cals c f b v i)
@[simp] theorem Chip.sendVec_cal (v : Nat) : (c.sendVec v).cal q = c.cal q := congrArg (fun m => mapGet m q _) (Chip.sendVec_cals c v)
@[simp] theorem Chip.pendBit_cal (b : Nat) (on : Bool) : (c.pendBit b on).cal q = c.cal q := congrArg (fun m => mapGet m q _) (Chip.pendBit_cals c b on)
@[simp] theorem Chip.reIrq_cal (b : Nat) (r : Bool) : (c.reIrq b r).cal q = c.cal q := congrArg (fun m => mapGet m q _) (Chip.reIrq_cals c b r)
@[simp] theorem Chip.latchEvt_cal (b n : Nat) : (c.latchEvt b n).cal q = c.cal q := congrArg (fun m => mapGet m q _) (Chip.latchEvt_cals c b n)
@[simp] theorem Chip.capCause_cal (h : Nat → Nat → Nat → Bool) : (c.capCause h).cal q = c.cal q := congrArg (fun m => mapGet m q _) (Chip.capCause_cals c h)
@[simp] theorem Chip.riseEvt_cal (b n : Nat) : (c.riseEvt b n).cal q = c.cal q := congrArg (fun m => mapGet m q _) (Chip.riseEvt_cals c b n)
@[simp] theorem Chip.pulse_cal (b n : Nat) : (c.pulse b n).cal q = c.cal q := congrArg (fun m => mapGet m q _) (Chip.pulse_cals c b n)
@[simp] theorem Chip.level_cal (b n : Nat) (on : Bool) : (c.level b n on).cal q = c.cal q := congrArg (fun m => mapGet m q _) (Chip.level_cals c b n on)
end

/-! wset. -/

section
variable (c : Chip) (q : Nat)
@[simp] theorem Chip.setWset_wset (v : WcSet) : (c.setWset q v).wset q = v := mapGet_mapSet_same _ _ _ _
theorem Chip.setWset_wset_ne (p : Nat) (v : WcSet) (h : q ≠ p) : (c.setWset p v).wset q = c.wset q := mapGet_mapSet_ne _ h _ _
@[simp] theorem Chip.modWset_wset (f : WcSet → WcSet) : (c.modWset q f).wset q = f (c.wset q) := mapGet_mapSet_same _ _ _ _
theorem Chip.modWset_wset_ne (p : Nat) (f : WcSet → WcSet) (h : q ≠ p) : (c.modWset p f).wset q = c.wset q := mapGet_mapSet_ne _ h _ _
@[simp] theorem Chip.wr_wset (f : Fld) (b v i : Nat) : (c.wr f b v i).wset q = c.wset q := rfl
@[simp] theorem Chip.send_wset (o : Out) : (c.send o).wset q = c.wset q := by rw [c.send_eq o]; rfl
@[simp] theorem Chip.arm_wset (k t : Nat) : (c.arm k t).wset q = c.wset q := rfl
@[simp] theorem Chip.disarm_wset (k : Nat) : (c.disarm k).wset q = c.wset q := rfl
@[simp] theorem Chip.setPort_wset (p : Nat) (v : PortSt) : (c.setPort p v).wset q = c.wset q := rfl
@[simp] theorem Chip.modPort_wset (p : Nat) (f : PortSt → PortSt) : (c.modPort p f).wset q = c.wset q := rfl
@[simp] theorem Chip.setStage_wset (p : Nat) (v : StageEnd) : (c.setStage p v).wset q = c.wset q := rfl
@[simp] theorem Chip.modStage_wset (p : Nat) (f : StageEnd → StageEnd) : (c.modStage p f).wset q = c.wset q := rfl
@[simp] theorem Chip.setEng_wset (p : Nat) (v : EngSt) : (c.setEng p v).wset q = c.wset q := rfl
@[simp] theorem Chip.modEng_wset (p : Nat) (f : EngSt → EngSt) : (c.modEng p f).wset q = c.wset q := rfl
@[simp] theorem Chip.setLaw_wset (p : Nat) (v : LawSt) : (c.setLaw p v).wset q = c.wset q := rfl
@[simp] theorem Chip.modLaw_wset (p : Nat) (f : LawSt → LawSt) : (c.modLaw p f).wset q = c.wset q := rfl
@[simp] theorem Chip.setSec_wset (p : Nat) (v : SecSt) : (c.setSec p v).wset q = c.wset q := rfl
@[simp] theorem Chip.modSec_wset (p : Nat) (f : SecSt → SecSt) : (c.modSec p f).wset q = c.wset q := rfl
@[simp] theorem Chip.setCap_wset (p : Nat) (v : CapSt) : (c.setCap p v).wset q = c.wset q := rfl
@[simp] theorem Chip.modCap_wset (p : Nat) (f : CapSt → CapSt) : (c.modCap p f).wset q = c.wset q := rfl
@[simp] theorem Chip.setStr_wset (p : Nat) (v : StrSt) : (c.setStr p v).wset q = c.wset q := rfl
@[simp] theorem Chip.modStr_wset (p : Nat) (f : StrSt → StrSt) : (c.modStr p f).wset q = c.wset q := rfl
@[simp] theorem Chip.setFd_wset (p : Nat) (v : FdSt) : (c.setFd p v).wset q = c.wset q := rfl
@[simp] theorem Chip.modFd_wset (p : Nat) (f : FdSt → FdSt) : (c.modFd p f).wset q = c.wset q := rfl
@[simp] theorem Chip.setCal_wset (p : Nat) (v : CalSt) : (c.setCal p v).wset q = c.wset q := rfl
@[simp] theorem Chip.modCal_wset (p : Nat) (f : CalSt → CalSt) : (c.modCal p f).wset q = c.wset q := rfl
@[simp] theorem Chip.setPath_wset (p : Nat) (v : PathSt) : (c.setPath p v).wset q = c.wset q := rfl
@[simp] theorem Chip.modPath_wset (p : Nat) (f : PathSt → PathSt) : (c.modPath p f).wset q = c.wset q := rfl
@[simp] theorem Chip.setIic_wset (p : Nat) (v : IicSt) : (c.setIic p v).wset q = c.wset q := rfl
@[simp] theorem Chip.modIic_wset (p : Nat) (f : IicSt → IicSt) : (c.modIic p f).wset q = c.wset q := rfl
@[simp] theorem Chip.modPlumb_wset (f : PlumbSt → PlumbSt) : (c.modPlumb f).wset q = c.wset q := rfl
@[simp] theorem Chip.modTwin_wset (f : TwinSt → TwinSt) : (c.modTwin f).wset q = c.wset q := rfl
@[simp] theorem Chip.modFab_wset (f : FabSt → FabSt) : (c.modFab f).wset q = c.wset q := rfl
@[simp] theorem Chip.modArb_wset (f : ArbSt → ArbSt) : (c.modArb f).wset q = c.wset q := rfl
@[simp] theorem Chip.modFbk_wset (f : FbkSt → FbkSt) : (c.modFbk f).wset q = c.wset q := rfl
@[simp] theorem Chip.modHost_wset (f : HostSt → HostSt) : (c.modHost f).wset q = c.wset q := rfl
@[simp] theorem Chip.modFwu_wset (f : FwuSt → FwuSt) : (c.modFwu f).wset q = c.wset q := rfl
@[simp] theorem Chip.modFlash_wset (f : FlashSt → FlashSt) : (c.modFlash f).wset q = c.wset q := rfl
@[simp] theorem Chip.modMram_wset (f : Mram → Mram) : (c.modMram f).wset q = c.wset q := rfl
@[simp] theorem Chip.modDbg_wset (f : DbgSt → DbgSt) : (c.modDbg f).wset q = c.wset q := rfl
@[simp] theorem Chip.modSnap_wset (f : SnapSt → SnapSt) : (c.modSnap f).wset q = c.wset q := rfl
end

/-! path. -/

section
variable (c : Chip) (q : Nat)
@[simp] theorem Chip.setPath_path (v : PathSt) : (c.setPath q v).path q = v := mapGet_mapSet_same _ _ _ _
theorem Chip.setPath_path_ne (p : Nat) (v : PathSt) (h : q ≠ p) : (c.setPath p v).path q = c.path q := mapGet_mapSet_ne _ h _ _
@[simp] theorem Chip.modPath_path (f : PathSt → PathSt) : (c.modPath q f).path q = f (c.path q) := mapGet_mapSet_same _ _ _ _
theorem Chip.modPath_path_ne (p : Nat) (f : PathSt → PathSt) (h : q ≠ p) : (c.modPath p f).path q = c.path q := mapGet_mapSet_ne _ h _ _
@[simp] theorem Chip.wr_path (f : Fld) (b v i : Nat) : (c.wr f b v i).path q = c.path q := rfl
@[simp] theorem Chip.send_path (o : Out) : (c.send o).path q = c.path q := by rw [c.send_eq o]; rfl
@[simp] theorem Chip.arm_path (k t : Nat) : (c.arm k t).path q = c.path q := rfl
@[simp] theorem Chip.disarm_path (k : Nat) : (c.disarm k).path q = c.path q := rfl
@[simp] theorem Chip.setPort_path (p : Nat) (v : PortSt) : (c.setPort p v).path q = c.path q := rfl
@[simp] theorem Chip.modPort_path (p : Nat) (f : PortSt → PortSt) : (c.modPort p f).path q = c.path q := rfl
@[simp] theorem Chip.setStage_path (p : Nat) (v : StageEnd) : (c.setStage p v).path q = c.path q := rfl
@[simp] theorem Chip.modStage_path (p : Nat) (f : StageEnd → StageEnd) : (c.modStage p f).path q = c.path q := rfl
@[simp] theorem Chip.setEng_path (p : Nat) (v : EngSt) : (c.setEng p v).path q = c.path q := rfl
@[simp] theorem Chip.modEng_path (p : Nat) (f : EngSt → EngSt) : (c.modEng p f).path q = c.path q := rfl
@[simp] theorem Chip.setLaw_path (p : Nat) (v : LawSt) : (c.setLaw p v).path q = c.path q := rfl
@[simp] theorem Chip.modLaw_path (p : Nat) (f : LawSt → LawSt) : (c.modLaw p f).path q = c.path q := rfl
@[simp] theorem Chip.setSec_path (p : Nat) (v : SecSt) : (c.setSec p v).path q = c.path q := rfl
@[simp] theorem Chip.modSec_path (p : Nat) (f : SecSt → SecSt) : (c.modSec p f).path q = c.path q := rfl
@[simp] theorem Chip.setCap_path (p : Nat) (v : CapSt) : (c.setCap p v).path q = c.path q := rfl
@[simp] theorem Chip.modCap_path (p : Nat) (f : CapSt → CapSt) : (c.modCap p f).path q = c.path q := rfl
@[simp] theorem Chip.setStr_path (p : Nat) (v : StrSt) : (c.setStr p v).path q = c.path q := rfl
@[simp] theorem Chip.modStr_path (p : Nat) (f : StrSt → StrSt) : (c.modStr p f).path q = c.path q := rfl
@[simp] theorem Chip.setFd_path (p : Nat) (v : FdSt) : (c.setFd p v).path q = c.path q := rfl
@[simp] theorem Chip.modFd_path (p : Nat) (f : FdSt → FdSt) : (c.modFd p f).path q = c.path q := rfl
@[simp] theorem Chip.setCal_path (p : Nat) (v : CalSt) : (c.setCal p v).path q = c.path q := rfl
@[simp] theorem Chip.modCal_path (p : Nat) (f : CalSt → CalSt) : (c.modCal p f).path q = c.path q := rfl
@[simp] theorem Chip.setWset_path (p : Nat) (v : WcSet) : (c.setWset p v).path q = c.path q := rfl
@[simp] theorem Chip.modWset_path (p : Nat) (f : WcSet → WcSet) : (c.modWset p f).path q = c.path q := rfl
@[simp] theorem Chip.setIic_path (p : Nat) (v : IicSt) : (c.setIic p v).path q = c.path q := rfl
@[simp] theorem Chip.modIic_path (p : Nat) (f : IicSt → IicSt) : (c.modIic p f).path q = c.path q := rfl
@[simp] theorem Chip.modPlumb_path (f : PlumbSt → PlumbSt) : (c.modPlumb f).path q = c.path q := rfl
@[simp] theorem Chip.modTwin_path (f : TwinSt → TwinSt) : (c.modTwin f).path q = c.path q := rfl
@[simp] theorem Chip.modFab_path (f : FabSt → FabSt) : (c.modFab f).path q = c.path q := rfl
@[simp] theorem Chip.modArb_path (f : ArbSt → ArbSt) : (c.modArb f).path q = c.path q := rfl
@[simp] theorem Chip.modFbk_path (f : FbkSt → FbkSt) : (c.modFbk f).path q = c.path q := rfl
@[simp] theorem Chip.modHost_path (f : HostSt → HostSt) : (c.modHost f).path q = c.path q := rfl
@[simp] theorem Chip.modFwu_path (f : FwuSt → FwuSt) : (c.modFwu f).path q = c.path q := rfl
@[simp] theorem Chip.modFlash_path (f : FlashSt → FlashSt) : (c.modFlash f).path q = c.path q := rfl
@[simp] theorem Chip.modMram_path (f : Mram → Mram) : (c.modMram f).path q = c.path q := rfl
@[simp] theorem Chip.modDbg_path (f : DbgSt → DbgSt) : (c.modDbg f).path q = c.path q := rfl
@[simp] theorem Chip.modSnap_path (f : SnapSt → SnapSt) : (c.modSnap f).path q = c.path q := rfl
@[simp] theorem Chip.bump_path (f : Fld) (b i n : Nat) : (c.bump f b i n).path q = c.path q := congrArg (fun m => mapGet m q _) (Chip.bump_paths c f b i n)
@[simp] theorem Chip.pmcAdd_path (b j n : Nat) : (c.pmcAdd b j n).path q = c.path q := congrArg (fun m => mapGet m q _) (Chip.pmcAdd_paths c b j n)
@[simp] theorem Chip.pmcEvent_path (b e n : Nat) : (c.pmcEvent b e n).path q = c.path q := congrArg (fun m => mapGet m q _) (Chip.pmcEvent_paths c b e n)
@[simp] theorem Chip.seqInc_path (b : Nat) : (c.seqInc b).path q = c.path q := congrArg (fun m => mapGet m q _) (Chip.seqInc_paths c b)
@[simp] theorem Chip.hw_path (b : Nat) (us : List (Fld × Nat × Nat)) : (c.hw b us).path q = c.path q := congrArg (fun m => mapGet m q _) (Chip.hw_paths c b us)
@[simp] theorem Chip.up_path (f : Fld) (b v i : Nat) : (c.up f b v i).path q = c.path q := congrArg (fun m => mapGet m q _) (Chip.up_paths c f b v i)
@[simp] theorem Chip.sendVec_path (v : Nat) : (c.sendVec v).path q = c.path q := congrArg (fun m => mapGet m q _) (Chip.sendVec_paths c v)
@[simp] theorem Chip.pendBit_path (b : Nat) (on : Bool) : (c.pendBit b on).path q = c.path q := congrArg (fun m => mapGet m q _) (Chip.pendBit_paths c b on)
@[simp] theorem Chip.reIrq_path (b : Nat) (r : Bool) : (c.reIrq b r).path q = c.path q := congrArg (fun m => mapGet m q _) (Chip.reIrq_paths c b r)
@[simp] theorem Chip.latchEvt_path (b n : Nat) : (c.latchEvt b n).path q = c.path q := congrArg (fun m => mapGet m q _) (Chip.latchEvt_paths c b n)
@[simp] theorem Chip.capCause_path (h : Nat → Nat → Nat → Bool) : (c.capCause h).path q = c.path q := congrArg (fun m => mapGet m q _) (Chip.capCause_paths c h)
@[simp] theorem Chip.riseEvt_path (b n : Nat) : (c.riseEvt b n).path q = c.path q := congrArg (fun m => mapGet m q _) (Chip.riseEvt_paths c b n)
@[simp] theorem Chip.pulse_path (b n : Nat) : (c.pulse b n).path q = c.path q := congrArg (fun m => mapGet m q _) (Chip.pulse_paths c b n)
@[simp] theorem Chip.level_path (b n : Nat) (on : Bool) : (c.level b n on).path q = c.path q := congrArg (fun m => mapGet m q _) (Chip.level_paths c b n on)
end

/-! iic. -/

section
variable (c : Chip) (q : Nat)
@[simp] theorem Chip.setIic_iic (v : IicSt) : (c.setIic q v).iic q = v := mapGet_mapSet_same _ _ _ _
theorem Chip.setIic_iic_ne (p : Nat) (v : IicSt) (h : q ≠ p) : (c.setIic p v).iic q = c.iic q := mapGet_mapSet_ne _ h _ _
@[simp] theorem Chip.modIic_iic (f : IicSt → IicSt) : (c.modIic q f).iic q = f (c.iic q) := mapGet_mapSet_same _ _ _ _
theorem Chip.modIic_iic_ne (p : Nat) (f : IicSt → IicSt) (h : q ≠ p) : (c.modIic p f).iic q = c.iic q := mapGet_mapSet_ne _ h _ _
@[simp] theorem Chip.wr_iic (f : Fld) (b v i : Nat) : (c.wr f b v i).iic q = c.iic q := rfl
@[simp] theorem Chip.send_iic (o : Out) : (c.send o).iic q = c.iic q := by rw [c.send_eq o]; rfl
@[simp] theorem Chip.arm_iic (k t : Nat) : (c.arm k t).iic q = c.iic q := rfl
@[simp] theorem Chip.disarm_iic (k : Nat) : (c.disarm k).iic q = c.iic q := rfl
@[simp] theorem Chip.setPort_iic (p : Nat) (v : PortSt) : (c.setPort p v).iic q = c.iic q := rfl
@[simp] theorem Chip.modPort_iic (p : Nat) (f : PortSt → PortSt) : (c.modPort p f).iic q = c.iic q := rfl
@[simp] theorem Chip.setStage_iic (p : Nat) (v : StageEnd) : (c.setStage p v).iic q = c.iic q := rfl
@[simp] theorem Chip.modStage_iic (p : Nat) (f : StageEnd → StageEnd) : (c.modStage p f).iic q = c.iic q := rfl
@[simp] theorem Chip.setEng_iic (p : Nat) (v : EngSt) : (c.setEng p v).iic q = c.iic q := rfl
@[simp] theorem Chip.modEng_iic (p : Nat) (f : EngSt → EngSt) : (c.modEng p f).iic q = c.iic q := rfl
@[simp] theorem Chip.setLaw_iic (p : Nat) (v : LawSt) : (c.setLaw p v).iic q = c.iic q := rfl
@[simp] theorem Chip.modLaw_iic (p : Nat) (f : LawSt → LawSt) : (c.modLaw p f).iic q = c.iic q := rfl
@[simp] theorem Chip.setSec_iic (p : Nat) (v : SecSt) : (c.setSec p v).iic q = c.iic q := rfl
@[simp] theorem Chip.modSec_iic (p : Nat) (f : SecSt → SecSt) : (c.modSec p f).iic q = c.iic q := rfl
@[simp] theorem Chip.setCap_iic (p : Nat) (v : CapSt) : (c.setCap p v).iic q = c.iic q := rfl
@[simp] theorem Chip.modCap_iic (p : Nat) (f : CapSt → CapSt) : (c.modCap p f).iic q = c.iic q := rfl
@[simp] theorem Chip.setStr_iic (p : Nat) (v : StrSt) : (c.setStr p v).iic q = c.iic q := rfl
@[simp] theorem Chip.modStr_iic (p : Nat) (f : StrSt → StrSt) : (c.modStr p f).iic q = c.iic q := rfl
@[simp] theorem Chip.setFd_iic (p : Nat) (v : FdSt) : (c.setFd p v).iic q = c.iic q := rfl
@[simp] theorem Chip.modFd_iic (p : Nat) (f : FdSt → FdSt) : (c.modFd p f).iic q = c.iic q := rfl
@[simp] theorem Chip.setCal_iic (p : Nat) (v : CalSt) : (c.setCal p v).iic q = c.iic q := rfl
@[simp] theorem Chip.modCal_iic (p : Nat) (f : CalSt → CalSt) : (c.modCal p f).iic q = c.iic q := rfl
@[simp] theorem Chip.setWset_iic (p : Nat) (v : WcSet) : (c.setWset p v).iic q = c.iic q := rfl
@[simp] theorem Chip.modWset_iic (p : Nat) (f : WcSet → WcSet) : (c.modWset p f).iic q = c.iic q := rfl
@[simp] theorem Chip.setPath_iic (p : Nat) (v : PathSt) : (c.setPath p v).iic q = c.iic q := rfl
@[simp] theorem Chip.modPath_iic (p : Nat) (f : PathSt → PathSt) : (c.modPath p f).iic q = c.iic q := rfl
@[simp] theorem Chip.modPlumb_iic (f : PlumbSt → PlumbSt) : (c.modPlumb f).iic q = c.iic q := rfl
@[simp] theorem Chip.modTwin_iic (f : TwinSt → TwinSt) : (c.modTwin f).iic q = c.iic q := rfl
@[simp] theorem Chip.modFab_iic (f : FabSt → FabSt) : (c.modFab f).iic q = c.iic q := rfl
@[simp] theorem Chip.modArb_iic (f : ArbSt → ArbSt) : (c.modArb f).iic q = c.iic q := rfl
@[simp] theorem Chip.modFbk_iic (f : FbkSt → FbkSt) : (c.modFbk f).iic q = c.iic q := rfl
@[simp] theorem Chip.modHost_iic (f : HostSt → HostSt) : (c.modHost f).iic q = c.iic q := rfl
@[simp] theorem Chip.modFwu_iic (f : FwuSt → FwuSt) : (c.modFwu f).iic q = c.iic q := rfl
@[simp] theorem Chip.modFlash_iic (f : FlashSt → FlashSt) : (c.modFlash f).iic q = c.iic q := rfl
@[simp] theorem Chip.modMram_iic (f : Mram → Mram) : (c.modMram f).iic q = c.iic q := rfl
@[simp] theorem Chip.modDbg_iic (f : DbgSt → DbgSt) : (c.modDbg f).iic q = c.iic q := rfl
@[simp] theorem Chip.modSnap_iic (f : SnapSt → SnapSt) : (c.modSnap f).iic q = c.iic q := rfl
@[simp] theorem Chip.bump_iic (f : Fld) (b i n : Nat) : (c.bump f b i n).iic q = c.iic q := congrArg (fun m => mapGet m q _) (Chip.bump_iics c f b i n)
@[simp] theorem Chip.pmcAdd_iic (b j n : Nat) : (c.pmcAdd b j n).iic q = c.iic q := congrArg (fun m => mapGet m q _) (Chip.pmcAdd_iics c b j n)
@[simp] theorem Chip.pmcEvent_iic (b e n : Nat) : (c.pmcEvent b e n).iic q = c.iic q := congrArg (fun m => mapGet m q _) (Chip.pmcEvent_iics c b e n)
@[simp] theorem Chip.seqInc_iic (b : Nat) : (c.seqInc b).iic q = c.iic q := congrArg (fun m => mapGet m q _) (Chip.seqInc_iics c b)
@[simp] theorem Chip.hw_iic (b : Nat) (us : List (Fld × Nat × Nat)) : (c.hw b us).iic q = c.iic q := congrArg (fun m => mapGet m q _) (Chip.hw_iics c b us)
@[simp] theorem Chip.up_iic (f : Fld) (b v i : Nat) : (c.up f b v i).iic q = c.iic q := congrArg (fun m => mapGet m q _) (Chip.up_iics c f b v i)
@[simp] theorem Chip.sendVec_iic (v : Nat) : (c.sendVec v).iic q = c.iic q := congrArg (fun m => mapGet m q _) (Chip.sendVec_iics c v)
@[simp] theorem Chip.pendBit_iic (b : Nat) (on : Bool) : (c.pendBit b on).iic q = c.iic q := congrArg (fun m => mapGet m q _) (Chip.pendBit_iics c b on)
@[simp] theorem Chip.reIrq_iic (b : Nat) (r : Bool) : (c.reIrq b r).iic q = c.iic q := congrArg (fun m => mapGet m q _) (Chip.reIrq_iics c b r)
@[simp] theorem Chip.latchEvt_iic (b n : Nat) : (c.latchEvt b n).iic q = c.iic q := congrArg (fun m => mapGet m q _) (Chip.latchEvt_iics c b n)
@[simp] theorem Chip.capCause_iic (h : Nat → Nat → Nat → Bool) : (c.capCause h).iic q = c.iic q := congrArg (fun m => mapGet m q _) (Chip.capCause_iics c h)
@[simp] theorem Chip.riseEvt_iic (b n : Nat) : (c.riseEvt b n).iic q = c.iic q := congrArg (fun m => mapGet m q _) (Chip.riseEvt_iics c b n)
@[simp] theorem Chip.pulse_iic (b n : Nat) : (c.pulse b n).iic q = c.iic q := congrArg (fun m => mapGet m q _) (Chip.pulse_iics c b n)
@[simp] theorem Chip.level_iic (b n : Nat) (on : Bool) : (c.level b n on).iic q = c.iic q := congrArg (fun m => mapGet m q _) (Chip.level_iics c b n on)
end

/-! Fields. -/

section
variable (c : Chip)
@[simp] theorem Chip.send_rd (o : Out) (g : Fld) (x j : Nat) : (c.send o).rd g x j = c.rd g x j := by rw [c.send_eq o]; rfl
@[simp] theorem Chip.send_on (o : Out) (g : Fld) (x j : Nat) : (c.send o).on g x j = c.on g x j := by rw [c.send_eq o]; rfl
@[simp] theorem Chip.arm_rd (k t : Nat) (g : Fld) (x j : Nat) : (c.arm k t).rd g x j = c.rd g x j := rfl
@[simp] theorem Chip.arm_on (k t : Nat) (g : Fld) (x j : Nat) : (c.arm k t).on g x j = c.on g x j := rfl
@[simp] theorem Chip.disarm_rd (k : Nat) (g : Fld) (x j : Nat) : (c.disarm k).rd g x j = c.rd g x j := rfl
@[simp] theorem Chip.disarm_on (k : Nat) (g : Fld) (x j : Nat) : (c.disarm k).on g x j = c.on g x j := rfl
@[simp] theorem Chip.setPort_rd (p : Nat) (v : PortSt) (g : Fld) (x j : Nat) : (c.setPort p v).rd g x j = c.rd g x j := rfl
@[simp] theorem Chip.setPort_on (p : Nat) (v : PortSt) (g : Fld) (x j : Nat) : (c.setPort p v).on g x j = c.on g x j := rfl
@[simp] theorem Chip.modPort_rd (p : Nat) (f : PortSt → PortSt) (g : Fld) (x j : Nat) : (c.modPort p f).rd g x j = c.rd g x j := rfl
@[simp] theorem Chip.modPort_on (p : Nat) (f : PortSt → PortSt) (g : Fld) (x j : Nat) : (c.modPort p f).on g x j = c.on g x j := rfl
@[simp] theorem Chip.setStage_rd (p : Nat) (v : StageEnd) (g : Fld) (x j : Nat) : (c.setStage p v).rd g x j = c.rd g x j := rfl
@[simp] theorem Chip.setStage_on (p : Nat) (v : StageEnd) (g : Fld) (x j : Nat) : (c.setStage p v).on g x j = c.on g x j := rfl
@[simp] theorem Chip.modStage_rd (p : Nat) (f : StageEnd → StageEnd) (g : Fld) (x j : Nat) : (c.modStage p f).rd g x j = c.rd g x j := rfl
@[simp] theorem Chip.modStage_on (p : Nat) (f : StageEnd → StageEnd) (g : Fld) (x j : Nat) : (c.modStage p f).on g x j = c.on g x j := rfl
@[simp] theorem Chip.setEng_rd (p : Nat) (v : EngSt) (g : Fld) (x j : Nat) : (c.setEng p v).rd g x j = c.rd g x j := rfl
@[simp] theorem Chip.setEng_on (p : Nat) (v : EngSt) (g : Fld) (x j : Nat) : (c.setEng p v).on g x j = c.on g x j := rfl
@[simp] theorem Chip.modEng_rd (p : Nat) (f : EngSt → EngSt) (g : Fld) (x j : Nat) : (c.modEng p f).rd g x j = c.rd g x j := rfl
@[simp] theorem Chip.modEng_on (p : Nat) (f : EngSt → EngSt) (g : Fld) (x j : Nat) : (c.modEng p f).on g x j = c.on g x j := rfl
@[simp] theorem Chip.setLaw_rd (p : Nat) (v : LawSt) (g : Fld) (x j : Nat) : (c.setLaw p v).rd g x j = c.rd g x j := rfl
@[simp] theorem Chip.setLaw_on (p : Nat) (v : LawSt) (g : Fld) (x j : Nat) : (c.setLaw p v).on g x j = c.on g x j := rfl
@[simp] theorem Chip.modLaw_rd (p : Nat) (f : LawSt → LawSt) (g : Fld) (x j : Nat) : (c.modLaw p f).rd g x j = c.rd g x j := rfl
@[simp] theorem Chip.modLaw_on (p : Nat) (f : LawSt → LawSt) (g : Fld) (x j : Nat) : (c.modLaw p f).on g x j = c.on g x j := rfl
@[simp] theorem Chip.setSec_rd (p : Nat) (v : SecSt) (g : Fld) (x j : Nat) : (c.setSec p v).rd g x j = c.rd g x j := rfl
@[simp] theorem Chip.setSec_on (p : Nat) (v : SecSt) (g : Fld) (x j : Nat) : (c.setSec p v).on g x j = c.on g x j := rfl
@[simp] theorem Chip.modSec_rd (p : Nat) (f : SecSt → SecSt) (g : Fld) (x j : Nat) : (c.modSec p f).rd g x j = c.rd g x j := rfl
@[simp] theorem Chip.modSec_on (p : Nat) (f : SecSt → SecSt) (g : Fld) (x j : Nat) : (c.modSec p f).on g x j = c.on g x j := rfl
@[simp] theorem Chip.setCap_rd (p : Nat) (v : CapSt) (g : Fld) (x j : Nat) : (c.setCap p v).rd g x j = c.rd g x j := rfl
@[simp] theorem Chip.setCap_on (p : Nat) (v : CapSt) (g : Fld) (x j : Nat) : (c.setCap p v).on g x j = c.on g x j := rfl
@[simp] theorem Chip.modCap_rd (p : Nat) (f : CapSt → CapSt) (g : Fld) (x j : Nat) : (c.modCap p f).rd g x j = c.rd g x j := rfl
@[simp] theorem Chip.modCap_on (p : Nat) (f : CapSt → CapSt) (g : Fld) (x j : Nat) : (c.modCap p f).on g x j = c.on g x j := rfl
@[simp] theorem Chip.setStr_rd (p : Nat) (v : StrSt) (g : Fld) (x j : Nat) : (c.setStr p v).rd g x j = c.rd g x j := rfl
@[simp] theorem Chip.setStr_on (p : Nat) (v : StrSt) (g : Fld) (x j : Nat) : (c.setStr p v).on g x j = c.on g x j := rfl
@[simp] theorem Chip.modStr_rd (p : Nat) (f : StrSt → StrSt) (g : Fld) (x j : Nat) : (c.modStr p f).rd g x j = c.rd g x j := rfl
@[simp] theorem Chip.modStr_on (p : Nat) (f : StrSt → StrSt) (g : Fld) (x j : Nat) : (c.modStr p f).on g x j = c.on g x j := rfl
@[simp] theorem Chip.setFd_rd (p : Nat) (v : FdSt) (g : Fld) (x j : Nat) : (c.setFd p v).rd g x j = c.rd g x j := rfl
@[simp] theorem Chip.setFd_on (p : Nat) (v : FdSt) (g : Fld) (x j : Nat) : (c.setFd p v).on g x j = c.on g x j := rfl
@[simp] theorem Chip.modFd_rd (p : Nat) (f : FdSt → FdSt) (g : Fld) (x j : Nat) : (c.modFd p f).rd g x j = c.rd g x j := rfl
@[simp] theorem Chip.modFd_on (p : Nat) (f : FdSt → FdSt) (g : Fld) (x j : Nat) : (c.modFd p f).on g x j = c.on g x j := rfl
@[simp] theorem Chip.setCal_rd (p : Nat) (v : CalSt) (g : Fld) (x j : Nat) : (c.setCal p v).rd g x j = c.rd g x j := rfl
@[simp] theorem Chip.setCal_on (p : Nat) (v : CalSt) (g : Fld) (x j : Nat) : (c.setCal p v).on g x j = c.on g x j := rfl
@[simp] theorem Chip.modCal_rd (p : Nat) (f : CalSt → CalSt) (g : Fld) (x j : Nat) : (c.modCal p f).rd g x j = c.rd g x j := rfl
@[simp] theorem Chip.modCal_on (p : Nat) (f : CalSt → CalSt) (g : Fld) (x j : Nat) : (c.modCal p f).on g x j = c.on g x j := rfl
@[simp] theorem Chip.setWset_rd (p : Nat) (v : WcSet) (g : Fld) (x j : Nat) : (c.setWset p v).rd g x j = c.rd g x j := rfl
@[simp] theorem Chip.setWset_on (p : Nat) (v : WcSet) (g : Fld) (x j : Nat) : (c.setWset p v).on g x j = c.on g x j := rfl
@[simp] theorem Chip.modWset_rd (p : Nat) (f : WcSet → WcSet) (g : Fld) (x j : Nat) : (c.modWset p f).rd g x j = c.rd g x j := rfl
@[simp] theorem Chip.modWset_on (p : Nat) (f : WcSet → WcSet) (g : Fld) (x j : Nat) : (c.modWset p f).on g x j = c.on g x j := rfl
@[simp] theorem Chip.setPath_rd (p : Nat) (v : PathSt) (g : Fld) (x j : Nat) : (c.setPath p v).rd g x j = c.rd g x j := rfl
@[simp] theorem Chip.setPath_on (p : Nat) (v : PathSt) (g : Fld) (x j : Nat) : (c.setPath p v).on g x j = c.on g x j := rfl
@[simp] theorem Chip.modPath_rd (p : Nat) (f : PathSt → PathSt) (g : Fld) (x j : Nat) : (c.modPath p f).rd g x j = c.rd g x j := rfl
@[simp] theorem Chip.modPath_on (p : Nat) (f : PathSt → PathSt) (g : Fld) (x j : Nat) : (c.modPath p f).on g x j = c.on g x j := rfl
@[simp] theorem Chip.setIic_rd (p : Nat) (v : IicSt) (g : Fld) (x j : Nat) : (c.setIic p v).rd g x j = c.rd g x j := rfl
@[simp] theorem Chip.setIic_on (p : Nat) (v : IicSt) (g : Fld) (x j : Nat) : (c.setIic p v).on g x j = c.on g x j := rfl
@[simp] theorem Chip.modIic_rd (p : Nat) (f : IicSt → IicSt) (g : Fld) (x j : Nat) : (c.modIic p f).rd g x j = c.rd g x j := rfl
@[simp] theorem Chip.modIic_on (p : Nat) (f : IicSt → IicSt) (g : Fld) (x j : Nat) : (c.modIic p f).on g x j = c.on g x j := rfl
@[simp] theorem Chip.modPlumb_rd (f : PlumbSt → PlumbSt) (g : Fld) (x j : Nat) : (c.modPlumb f).rd g x j = c.rd g x j := rfl
@[simp] theorem Chip.modPlumb_on (f : PlumbSt → PlumbSt) (g : Fld) (x j : Nat) : (c.modPlumb f).on g x j = c.on g x j := rfl
@[simp] theorem Chip.modTwin_rd (f : TwinSt → TwinSt) (g : Fld) (x j : Nat) : (c.modTwin f).rd g x j = c.rd g x j := rfl
@[simp] theorem Chip.modTwin_on (f : TwinSt → TwinSt) (g : Fld) (x j : Nat) : (c.modTwin f).on g x j = c.on g x j := rfl
@[simp] theorem Chip.modFab_rd (f : FabSt → FabSt) (g : Fld) (x j : Nat) : (c.modFab f).rd g x j = c.rd g x j := rfl
@[simp] theorem Chip.modFab_on (f : FabSt → FabSt) (g : Fld) (x j : Nat) : (c.modFab f).on g x j = c.on g x j := rfl
@[simp] theorem Chip.modArb_rd (f : ArbSt → ArbSt) (g : Fld) (x j : Nat) : (c.modArb f).rd g x j = c.rd g x j := rfl
@[simp] theorem Chip.modArb_on (f : ArbSt → ArbSt) (g : Fld) (x j : Nat) : (c.modArb f).on g x j = c.on g x j := rfl
@[simp] theorem Chip.modFbk_rd (f : FbkSt → FbkSt) (g : Fld) (x j : Nat) : (c.modFbk f).rd g x j = c.rd g x j := rfl
@[simp] theorem Chip.modFbk_on (f : FbkSt → FbkSt) (g : Fld) (x j : Nat) : (c.modFbk f).on g x j = c.on g x j := rfl
@[simp] theorem Chip.modHost_rd (f : HostSt → HostSt) (g : Fld) (x j : Nat) : (c.modHost f).rd g x j = c.rd g x j := rfl
@[simp] theorem Chip.modHost_on (f : HostSt → HostSt) (g : Fld) (x j : Nat) : (c.modHost f).on g x j = c.on g x j := rfl
@[simp] theorem Chip.modFwu_rd (f : FwuSt → FwuSt) (g : Fld) (x j : Nat) : (c.modFwu f).rd g x j = c.rd g x j := rfl
@[simp] theorem Chip.modFwu_on (f : FwuSt → FwuSt) (g : Fld) (x j : Nat) : (c.modFwu f).on g x j = c.on g x j := rfl
@[simp] theorem Chip.modFlash_rd (f : FlashSt → FlashSt) (g : Fld) (x j : Nat) : (c.modFlash f).rd g x j = c.rd g x j := rfl
@[simp] theorem Chip.modFlash_on (f : FlashSt → FlashSt) (g : Fld) (x j : Nat) : (c.modFlash f).on g x j = c.on g x j := rfl
@[simp] theorem Chip.modMram_rd (f : Mram → Mram) (g : Fld) (x j : Nat) : (c.modMram f).rd g x j = c.rd g x j := rfl
@[simp] theorem Chip.modMram_on (f : Mram → Mram) (g : Fld) (x j : Nat) : (c.modMram f).on g x j = c.on g x j := rfl
@[simp] theorem Chip.modDbg_rd (f : DbgSt → DbgSt) (g : Fld) (x j : Nat) : (c.modDbg f).rd g x j = c.rd g x j := rfl
@[simp] theorem Chip.modDbg_on (f : DbgSt → DbgSt) (g : Fld) (x j : Nat) : (c.modDbg f).on g x j = c.on g x j := rfl
@[simp] theorem Chip.modSnap_rd (f : SnapSt → SnapSt) (g : Fld) (x j : Nat) : (c.modSnap f).rd g x j = c.rd g x j := rfl
@[simp] theorem Chip.modSnap_on (f : SnapSt → SnapSt) (g : Fld) (x j : Nat) : (c.modSnap f).on g x j = c.on g x j := rfl
end

/-! The tick and the timers. -/

section
variable (c : Chip)
@[simp] theorem Chip.wr_tick (f : Fld) (b v i : Nat) : (c.wr f b v i).tick = c.tick := rfl
@[simp] theorem Chip.wr_due (f : Fld) (b v i : Nat) (x : Nat) : (c.wr f b v i).due x = c.due x := rfl
@[simp] theorem Chip.wr_armed (f : Fld) (b v i : Nat) (x : Nat) : (c.wr f b v i).armed x = c.armed x := rfl
@[simp] theorem Chip.send_tick (o : Out) : (c.send o).tick = c.tick := by rw [c.send_eq o]; rfl
@[simp] theorem Chip.send_due (o : Out) (x : Nat) : (c.send o).due x = c.due x := by rw [c.send_eq o]; rfl
@[simp] theorem Chip.send_armed (o : Out) (x : Nat) : (c.send o).armed x = c.armed x := by rw [c.send_eq o]; rfl
@[simp] theorem Chip.arm_tick (k t : Nat) : (c.arm k t).tick = c.tick := rfl
@[simp] theorem Chip.disarm_tick (k : Nat) : (c.disarm k).tick = c.tick := rfl
@[simp] theorem Chip.setPort_tick (p : Nat) (v : PortSt) : (c.setPort p v).tick = c.tick := rfl
@[simp] theorem Chip.setPort_due (p : Nat) (v : PortSt) (x : Nat) : (c.setPort p v).due x = c.due x := rfl
@[simp] theorem Chip.setPort_armed (p : Nat) (v : PortSt) (x : Nat) : (c.setPort p v).armed x = c.armed x := rfl
@[simp] theorem Chip.modPort_tick (p : Nat) (f : PortSt → PortSt) : (c.modPort p f).tick = c.tick := rfl
@[simp] theorem Chip.modPort_due (p : Nat) (f : PortSt → PortSt) (x : Nat) : (c.modPort p f).due x = c.due x := rfl
@[simp] theorem Chip.modPort_armed (p : Nat) (f : PortSt → PortSt) (x : Nat) : (c.modPort p f).armed x = c.armed x := rfl
@[simp] theorem Chip.setStage_tick (p : Nat) (v : StageEnd) : (c.setStage p v).tick = c.tick := rfl
@[simp] theorem Chip.setStage_due (p : Nat) (v : StageEnd) (x : Nat) : (c.setStage p v).due x = c.due x := rfl
@[simp] theorem Chip.setStage_armed (p : Nat) (v : StageEnd) (x : Nat) : (c.setStage p v).armed x = c.armed x := rfl
@[simp] theorem Chip.modStage_tick (p : Nat) (f : StageEnd → StageEnd) : (c.modStage p f).tick = c.tick := rfl
@[simp] theorem Chip.modStage_due (p : Nat) (f : StageEnd → StageEnd) (x : Nat) : (c.modStage p f).due x = c.due x := rfl
@[simp] theorem Chip.modStage_armed (p : Nat) (f : StageEnd → StageEnd) (x : Nat) : (c.modStage p f).armed x = c.armed x := rfl
@[simp] theorem Chip.setEng_tick (p : Nat) (v : EngSt) : (c.setEng p v).tick = c.tick := rfl
@[simp] theorem Chip.setEng_due (p : Nat) (v : EngSt) (x : Nat) : (c.setEng p v).due x = c.due x := rfl
@[simp] theorem Chip.setEng_armed (p : Nat) (v : EngSt) (x : Nat) : (c.setEng p v).armed x = c.armed x := rfl
@[simp] theorem Chip.modEng_tick (p : Nat) (f : EngSt → EngSt) : (c.modEng p f).tick = c.tick := rfl
@[simp] theorem Chip.modEng_due (p : Nat) (f : EngSt → EngSt) (x : Nat) : (c.modEng p f).due x = c.due x := rfl
@[simp] theorem Chip.modEng_armed (p : Nat) (f : EngSt → EngSt) (x : Nat) : (c.modEng p f).armed x = c.armed x := rfl
@[simp] theorem Chip.setLaw_tick (p : Nat) (v : LawSt) : (c.setLaw p v).tick = c.tick := rfl
@[simp] theorem Chip.setLaw_due (p : Nat) (v : LawSt) (x : Nat) : (c.setLaw p v).due x = c.due x := rfl
@[simp] theorem Chip.setLaw_armed (p : Nat) (v : LawSt) (x : Nat) : (c.setLaw p v).armed x = c.armed x := rfl
@[simp] theorem Chip.modLaw_tick (p : Nat) (f : LawSt → LawSt) : (c.modLaw p f).tick = c.tick := rfl
@[simp] theorem Chip.modLaw_due (p : Nat) (f : LawSt → LawSt) (x : Nat) : (c.modLaw p f).due x = c.due x := rfl
@[simp] theorem Chip.modLaw_armed (p : Nat) (f : LawSt → LawSt) (x : Nat) : (c.modLaw p f).armed x = c.armed x := rfl
@[simp] theorem Chip.setSec_tick (p : Nat) (v : SecSt) : (c.setSec p v).tick = c.tick := rfl
@[simp] theorem Chip.setSec_due (p : Nat) (v : SecSt) (x : Nat) : (c.setSec p v).due x = c.due x := rfl
@[simp] theorem Chip.setSec_armed (p : Nat) (v : SecSt) (x : Nat) : (c.setSec p v).armed x = c.armed x := rfl
@[simp] theorem Chip.modSec_tick (p : Nat) (f : SecSt → SecSt) : (c.modSec p f).tick = c.tick := rfl
@[simp] theorem Chip.modSec_due (p : Nat) (f : SecSt → SecSt) (x : Nat) : (c.modSec p f).due x = c.due x := rfl
@[simp] theorem Chip.modSec_armed (p : Nat) (f : SecSt → SecSt) (x : Nat) : (c.modSec p f).armed x = c.armed x := rfl
@[simp] theorem Chip.setCap_tick (p : Nat) (v : CapSt) : (c.setCap p v).tick = c.tick := rfl
@[simp] theorem Chip.setCap_due (p : Nat) (v : CapSt) (x : Nat) : (c.setCap p v).due x = c.due x := rfl
@[simp] theorem Chip.setCap_armed (p : Nat) (v : CapSt) (x : Nat) : (c.setCap p v).armed x = c.armed x := rfl
@[simp] theorem Chip.modCap_tick (p : Nat) (f : CapSt → CapSt) : (c.modCap p f).tick = c.tick := rfl
@[simp] theorem Chip.modCap_due (p : Nat) (f : CapSt → CapSt) (x : Nat) : (c.modCap p f).due x = c.due x := rfl
@[simp] theorem Chip.modCap_armed (p : Nat) (f : CapSt → CapSt) (x : Nat) : (c.modCap p f).armed x = c.armed x := rfl
@[simp] theorem Chip.setStr_tick (p : Nat) (v : StrSt) : (c.setStr p v).tick = c.tick := rfl
@[simp] theorem Chip.setStr_due (p : Nat) (v : StrSt) (x : Nat) : (c.setStr p v).due x = c.due x := rfl
@[simp] theorem Chip.setStr_armed (p : Nat) (v : StrSt) (x : Nat) : (c.setStr p v).armed x = c.armed x := rfl
@[simp] theorem Chip.modStr_tick (p : Nat) (f : StrSt → StrSt) : (c.modStr p f).tick = c.tick := rfl
@[simp] theorem Chip.modStr_due (p : Nat) (f : StrSt → StrSt) (x : Nat) : (c.modStr p f).due x = c.due x := rfl
@[simp] theorem Chip.modStr_armed (p : Nat) (f : StrSt → StrSt) (x : Nat) : (c.modStr p f).armed x = c.armed x := rfl
@[simp] theorem Chip.setFd_tick (p : Nat) (v : FdSt) : (c.setFd p v).tick = c.tick := rfl
@[simp] theorem Chip.setFd_due (p : Nat) (v : FdSt) (x : Nat) : (c.setFd p v).due x = c.due x := rfl
@[simp] theorem Chip.setFd_armed (p : Nat) (v : FdSt) (x : Nat) : (c.setFd p v).armed x = c.armed x := rfl
@[simp] theorem Chip.modFd_tick (p : Nat) (f : FdSt → FdSt) : (c.modFd p f).tick = c.tick := rfl
@[simp] theorem Chip.modFd_due (p : Nat) (f : FdSt → FdSt) (x : Nat) : (c.modFd p f).due x = c.due x := rfl
@[simp] theorem Chip.modFd_armed (p : Nat) (f : FdSt → FdSt) (x : Nat) : (c.modFd p f).armed x = c.armed x := rfl
@[simp] theorem Chip.setCal_tick (p : Nat) (v : CalSt) : (c.setCal p v).tick = c.tick := rfl
@[simp] theorem Chip.setCal_due (p : Nat) (v : CalSt) (x : Nat) : (c.setCal p v).due x = c.due x := rfl
@[simp] theorem Chip.setCal_armed (p : Nat) (v : CalSt) (x : Nat) : (c.setCal p v).armed x = c.armed x := rfl
@[simp] theorem Chip.modCal_tick (p : Nat) (f : CalSt → CalSt) : (c.modCal p f).tick = c.tick := rfl
@[simp] theorem Chip.modCal_due (p : Nat) (f : CalSt → CalSt) (x : Nat) : (c.modCal p f).due x = c.due x := rfl
@[simp] theorem Chip.modCal_armed (p : Nat) (f : CalSt → CalSt) (x : Nat) : (c.modCal p f).armed x = c.armed x := rfl
@[simp] theorem Chip.setWset_tick (p : Nat) (v : WcSet) : (c.setWset p v).tick = c.tick := rfl
@[simp] theorem Chip.setWset_due (p : Nat) (v : WcSet) (x : Nat) : (c.setWset p v).due x = c.due x := rfl
@[simp] theorem Chip.setWset_armed (p : Nat) (v : WcSet) (x : Nat) : (c.setWset p v).armed x = c.armed x := rfl
@[simp] theorem Chip.modWset_tick (p : Nat) (f : WcSet → WcSet) : (c.modWset p f).tick = c.tick := rfl
@[simp] theorem Chip.modWset_due (p : Nat) (f : WcSet → WcSet) (x : Nat) : (c.modWset p f).due x = c.due x := rfl
@[simp] theorem Chip.modWset_armed (p : Nat) (f : WcSet → WcSet) (x : Nat) : (c.modWset p f).armed x = c.armed x := rfl
@[simp] theorem Chip.setPath_tick (p : Nat) (v : PathSt) : (c.setPath p v).tick = c.tick := rfl
@[simp] theorem Chip.setPath_due (p : Nat) (v : PathSt) (x : Nat) : (c.setPath p v).due x = c.due x := rfl
@[simp] theorem Chip.setPath_armed (p : Nat) (v : PathSt) (x : Nat) : (c.setPath p v).armed x = c.armed x := rfl
@[simp] theorem Chip.modPath_tick (p : Nat) (f : PathSt → PathSt) : (c.modPath p f).tick = c.tick := rfl
@[simp] theorem Chip.modPath_due (p : Nat) (f : PathSt → PathSt) (x : Nat) : (c.modPath p f).due x = c.due x := rfl
@[simp] theorem Chip.modPath_armed (p : Nat) (f : PathSt → PathSt) (x : Nat) : (c.modPath p f).armed x = c.armed x := rfl
@[simp] theorem Chip.setIic_tick (p : Nat) (v : IicSt) : (c.setIic p v).tick = c.tick := rfl
@[simp] theorem Chip.setIic_due (p : Nat) (v : IicSt) (x : Nat) : (c.setIic p v).due x = c.due x := rfl
@[simp] theorem Chip.setIic_armed (p : Nat) (v : IicSt) (x : Nat) : (c.setIic p v).armed x = c.armed x := rfl
@[simp] theorem Chip.modIic_tick (p : Nat) (f : IicSt → IicSt) : (c.modIic p f).tick = c.tick := rfl
@[simp] theorem Chip.modIic_due (p : Nat) (f : IicSt → IicSt) (x : Nat) : (c.modIic p f).due x = c.due x := rfl
@[simp] theorem Chip.modIic_armed (p : Nat) (f : IicSt → IicSt) (x : Nat) : (c.modIic p f).armed x = c.armed x := rfl
@[simp] theorem Chip.modPlumb_tick (f : PlumbSt → PlumbSt) : (c.modPlumb f).tick = c.tick := rfl
@[simp] theorem Chip.modPlumb_due (f : PlumbSt → PlumbSt) (x : Nat) : (c.modPlumb f).due x = c.due x := rfl
@[simp] theorem Chip.modPlumb_armed (f : PlumbSt → PlumbSt) (x : Nat) : (c.modPlumb f).armed x = c.armed x := rfl
@[simp] theorem Chip.modTwin_tick (f : TwinSt → TwinSt) : (c.modTwin f).tick = c.tick := rfl
@[simp] theorem Chip.modTwin_due (f : TwinSt → TwinSt) (x : Nat) : (c.modTwin f).due x = c.due x := rfl
@[simp] theorem Chip.modTwin_armed (f : TwinSt → TwinSt) (x : Nat) : (c.modTwin f).armed x = c.armed x := rfl
@[simp] theorem Chip.modFab_tick (f : FabSt → FabSt) : (c.modFab f).tick = c.tick := rfl
@[simp] theorem Chip.modFab_due (f : FabSt → FabSt) (x : Nat) : (c.modFab f).due x = c.due x := rfl
@[simp] theorem Chip.modFab_armed (f : FabSt → FabSt) (x : Nat) : (c.modFab f).armed x = c.armed x := rfl
@[simp] theorem Chip.modArb_tick (f : ArbSt → ArbSt) : (c.modArb f).tick = c.tick := rfl
@[simp] theorem Chip.modArb_due (f : ArbSt → ArbSt) (x : Nat) : (c.modArb f).due x = c.due x := rfl
@[simp] theorem Chip.modArb_armed (f : ArbSt → ArbSt) (x : Nat) : (c.modArb f).armed x = c.armed x := rfl
@[simp] theorem Chip.modFbk_tick (f : FbkSt → FbkSt) : (c.modFbk f).tick = c.tick := rfl
@[simp] theorem Chip.modFbk_due (f : FbkSt → FbkSt) (x : Nat) : (c.modFbk f).due x = c.due x := rfl
@[simp] theorem Chip.modFbk_armed (f : FbkSt → FbkSt) (x : Nat) : (c.modFbk f).armed x = c.armed x := rfl
@[simp] theorem Chip.modHost_tick (f : HostSt → HostSt) : (c.modHost f).tick = c.tick := rfl
@[simp] theorem Chip.modHost_due (f : HostSt → HostSt) (x : Nat) : (c.modHost f).due x = c.due x := rfl
@[simp] theorem Chip.modHost_armed (f : HostSt → HostSt) (x : Nat) : (c.modHost f).armed x = c.armed x := rfl
@[simp] theorem Chip.modFwu_tick (f : FwuSt → FwuSt) : (c.modFwu f).tick = c.tick := rfl
@[simp] theorem Chip.modFwu_due (f : FwuSt → FwuSt) (x : Nat) : (c.modFwu f).due x = c.due x := rfl
@[simp] theorem Chip.modFwu_armed (f : FwuSt → FwuSt) (x : Nat) : (c.modFwu f).armed x = c.armed x := rfl
@[simp] theorem Chip.modFlash_tick (f : FlashSt → FlashSt) : (c.modFlash f).tick = c.tick := rfl
@[simp] theorem Chip.modFlash_due (f : FlashSt → FlashSt) (x : Nat) : (c.modFlash f).due x = c.due x := rfl
@[simp] theorem Chip.modFlash_armed (f : FlashSt → FlashSt) (x : Nat) : (c.modFlash f).armed x = c.armed x := rfl
@[simp] theorem Chip.modMram_tick (f : Mram → Mram) : (c.modMram f).tick = c.tick := rfl
@[simp] theorem Chip.modMram_due (f : Mram → Mram) (x : Nat) : (c.modMram f).due x = c.due x := rfl
@[simp] theorem Chip.modMram_armed (f : Mram → Mram) (x : Nat) : (c.modMram f).armed x = c.armed x := rfl
@[simp] theorem Chip.modDbg_tick (f : DbgSt → DbgSt) : (c.modDbg f).tick = c.tick := rfl
@[simp] theorem Chip.modDbg_due (f : DbgSt → DbgSt) (x : Nat) : (c.modDbg f).due x = c.due x := rfl
@[simp] theorem Chip.modDbg_armed (f : DbgSt → DbgSt) (x : Nat) : (c.modDbg f).armed x = c.armed x := rfl
@[simp] theorem Chip.modSnap_tick (f : SnapSt → SnapSt) : (c.modSnap f).tick = c.tick := rfl
@[simp] theorem Chip.modSnap_due (f : SnapSt → SnapSt) (x : Nat) : (c.modSnap f).due x = c.due x := rfl
@[simp] theorem Chip.modSnap_armed (f : SnapSt → SnapSt) (x : Nat) : (c.modSnap f).armed x = c.armed x := rfl
@[simp] theorem Chip.bump_tick (f : Fld) (b i n : Nat) : (c.bump f b i n).tick = c.tick := by simp only [Chip.tick, Chip.bump_datum]
@[simp] theorem Chip.bump_due (f : Fld) (b i n : Nat) (x : Nat) : (c.bump f b i n).due x = c.due x := by simp only [Chip.due, Chip.bump_timers, Chip.bump_now]
@[simp] theorem Chip.bump_armed (f : Fld) (b i n : Nat) (x : Nat) : (c.bump f b i n).armed x = c.armed x := by simp only [Chip.armed, Chip.bump_timers]
@[simp] theorem Chip.pmcAdd_tick (b j n : Nat) : (c.pmcAdd b j n).tick = c.tick := by simp only [Chip.tick, Chip.pmcAdd_datum]
@[simp] theorem Chip.pmcAdd_due (b j n : Nat) (x : Nat) : (c.pmcAdd b j n).due x = c.due x := by simp only [Chip.due, Chip.pmcAdd_timers, Chip.pmcAdd_now]
@[simp] theorem Chip.pmcAdd_armed (b j n : Nat) (x : Nat) : (c.pmcAdd b j n).armed x = c.armed x := by simp only [Chip.armed, Chip.pmcAdd_timers]
@[simp] theorem Chip.pmcEvent_tick (b e n : Nat) : (c.pmcEvent b e n).tick = c.tick := by simp only [Chip.tick, Chip.pmcEvent_datum]
@[simp] theorem Chip.pmcEvent_due (b e n : Nat) (x : Nat) : (c.pmcEvent b e n).due x = c.due x := by simp only [Chip.due, Chip.pmcEvent_timers, Chip.pmcEvent_now]
@[simp] theorem Chip.pmcEvent_armed (b e n : Nat) (x : Nat) : (c.pmcEvent b e n).armed x = c.armed x := by simp only [Chip.armed, Chip.pmcEvent_timers]
@[simp] theorem Chip.seqInc_tick (b : Nat) : (c.seqInc b).tick = c.tick := by simp only [Chip.tick, Chip.seqInc_datum]
@[simp] theorem Chip.seqInc_due (b : Nat) (x : Nat) : (c.seqInc b).due x = c.due x := by simp only [Chip.due, Chip.seqInc_timers, Chip.seqInc_now]
@[simp] theorem Chip.seqInc_armed (b : Nat) (x : Nat) : (c.seqInc b).armed x = c.armed x := by simp only [Chip.armed, Chip.seqInc_timers]
@[simp] theorem Chip.hw_tick (b : Nat) (us : List (Fld × Nat × Nat)) : (c.hw b us).tick = c.tick := by simp only [Chip.tick, Chip.hw_datum]
@[simp] theorem Chip.hw_due (b : Nat) (us : List (Fld × Nat × Nat)) (x : Nat) : (c.hw b us).due x = c.due x := by simp only [Chip.due, Chip.hw_timers, Chip.hw_now]
@[simp] theorem Chip.hw_armed (b : Nat) (us : List (Fld × Nat × Nat)) (x : Nat) : (c.hw b us).armed x = c.armed x := by simp only [Chip.armed, Chip.hw_timers]
@[simp] theorem Chip.up_tick (f : Fld) (b v i : Nat) : (c.up f b v i).tick = c.tick := by simp only [Chip.tick, Chip.up_datum]
@[simp] theorem Chip.up_due (f : Fld) (b v i : Nat) (x : Nat) : (c.up f b v i).due x = c.due x := by simp only [Chip.due, Chip.up_timers, Chip.up_now]
@[simp] theorem Chip.up_armed (f : Fld) (b v i : Nat) (x : Nat) : (c.up f b v i).armed x = c.armed x := by simp only [Chip.armed, Chip.up_timers]
@[simp] theorem Chip.sendVec_tick (v : Nat) : (c.sendVec v).tick = c.tick := by simp only [Chip.tick, Chip.sendVec_datum]
@[simp] theorem Chip.sendVec_due (v : Nat) (x : Nat) : (c.sendVec v).due x = c.due x := by simp only [Chip.due, Chip.sendVec_timers, Chip.sendVec_now]
@[simp] theorem Chip.sendVec_armed (v : Nat) (x : Nat) : (c.sendVec v).armed x = c.armed x := by simp only [Chip.armed, Chip.sendVec_timers]
@[simp] theorem Chip.pendBit_tick (b : Nat) (on : Bool) : (c.pendBit b on).tick = c.tick := by simp only [Chip.tick, Chip.pendBit_datum]
@[simp] theorem Chip.pendBit_due (b : Nat) (on : Bool) (x : Nat) : (c.pendBit b on).due x = c.due x := by simp only [Chip.due, Chip.pendBit_timers, Chip.pendBit_now]
@[simp] theorem Chip.pendBit_armed (b : Nat) (on : Bool) (x : Nat) : (c.pendBit b on).armed x = c.armed x := by simp only [Chip.armed, Chip.pendBit_timers]
@[simp] theorem Chip.reIrq_tick (b : Nat) (r : Bool) : (c.reIrq b r).tick = c.tick := by simp only [Chip.tick, Chip.reIrq_datum]
@[simp] theorem Chip.reIrq_due (b : Nat) (r : Bool) (x : Nat) : (c.reIrq b r).due x = c.due x := by simp only [Chip.due, Chip.reIrq_timers, Chip.reIrq_now]
@[simp] theorem Chip.reIrq_armed (b : Nat) (r : Bool) (x : Nat) : (c.reIrq b r).armed x = c.armed x := by simp only [Chip.armed, Chip.reIrq_timers]
@[simp] theorem Chip.latchEvt_tick (b n : Nat) : (c.latchEvt b n).tick = c.tick := by simp only [Chip.tick, Chip.latchEvt_datum]
@[simp] theorem Chip.latchEvt_due (b n : Nat) (x : Nat) : (c.latchEvt b n).due x = c.due x := by simp only [Chip.due, Chip.latchEvt_timers, Chip.latchEvt_now]
@[simp] theorem Chip.latchEvt_armed (b n : Nat) (x : Nat) : (c.latchEvt b n).armed x = c.armed x := by simp only [Chip.armed, Chip.latchEvt_timers]
@[simp] theorem Chip.capCause_tick (h : Nat → Nat → Nat → Bool) : (c.capCause h).tick = c.tick := by simp only [Chip.tick, Chip.capCause_datum]
@[simp] theorem Chip.capCause_due (h : Nat → Nat → Nat → Bool) (x : Nat) : (c.capCause h).due x = c.due x := by simp only [Chip.due, Chip.capCause_timers, Chip.capCause_now]
@[simp] theorem Chip.capCause_armed (h : Nat → Nat → Nat → Bool) (x : Nat) : (c.capCause h).armed x = c.armed x := by simp only [Chip.armed, Chip.capCause_timers]
@[simp] theorem Chip.riseEvt_tick (b n : Nat) : (c.riseEvt b n).tick = c.tick := by simp only [Chip.tick, Chip.riseEvt_datum]
@[simp] theorem Chip.riseEvt_due (b n : Nat) (x : Nat) : (c.riseEvt b n).due x = c.due x := by simp only [Chip.due, Chip.riseEvt_timers, Chip.riseEvt_now]
@[simp] theorem Chip.riseEvt_armed (b n : Nat) (x : Nat) : (c.riseEvt b n).armed x = c.armed x := by simp only [Chip.armed, Chip.riseEvt_timers]
@[simp] theorem Chip.pulse_tick (b n : Nat) : (c.pulse b n).tick = c.tick := by simp only [Chip.tick, Chip.pulse_datum]
@[simp] theorem Chip.pulse_due (b n : Nat) (x : Nat) : (c.pulse b n).due x = c.due x := by simp only [Chip.due, Chip.pulse_timers, Chip.pulse_now]
@[simp] theorem Chip.pulse_armed (b n : Nat) (x : Nat) : (c.pulse b n).armed x = c.armed x := by simp only [Chip.armed, Chip.pulse_timers]
@[simp] theorem Chip.level_tick (b n : Nat) (on : Bool) : (c.level b n on).tick = c.tick := by simp only [Chip.tick, Chip.level_datum]
@[simp] theorem Chip.level_due (b n : Nat) (on : Bool) (x : Nat) : (c.level b n on).due x = c.due x := by simp only [Chip.due, Chip.level_timers, Chip.level_now]
@[simp] theorem Chip.level_armed (b n : Nat) (on : Bool) (x : Nat) : (c.level b n on).armed x = c.armed x := by simp only [Chip.armed, Chip.level_timers]
end

/-- A timer that is stopped does not run. -/
@[simp] theorem Chip.disarm_armed (c : Chip) (k : Nat) : (c.disarm k).armed k = false := by simp [Chip.armed]

@[simp] theorem Chip.disarm_due (c : Chip) (k : Nat) : (c.disarm k).due k = false := by simp [Chip.due]

@[simp] theorem Chip.arm_armed (c : Chip) (k t : Nat) : (c.arm k t).armed k = true := by simp [Chip.armed]

theorem mapGet_mapMod {α : Type} (m : SMap α) (k j : Nat) (d e : α) (f : α → α) :
    mapGet (mapMod m k d f) j e = if j = k then f (mapGet m k d) else mapGet m j e := mapGet_mapSet _ _ _ _ _

end Sys2Proof.Machine
end

