-- ==== Sys2Proof/Laws/StageEnd.lean ====
section
/-! SUPPORT. Laws/StageEnd.lean: what a stage end does with a frame it takes, and what an answer leaves alone. -/

namespace Sys2Proof.Machine

/-- A stage end with power takes a good frame of the wanted type: the handler's state, from what the link's receiver has become, is the
stage end's new state, and nothing else changes. -/
theorem seReceive_takes (c : Chip) (p : Nat) (l : Link) (f : Frame) (want : Nat) (h : Hdr → Bytes → StageEnd → StageEnd)
    (h1 : (c.stage p).powered = true) (h2 : frameOk f = true) (h3 : (hdrOf f.bytes).typ = want) (h4 : downType want = true) :
    seReceive c p l f want h = c.setStage p (h (hdrOf f.bytes) (bodyOf f) ((c.stage p).rxFrame l f c.now)) := by
  unfold seReceive
  cases l <;> simp [StageEnd.rxFrame, h1, h2, h3, h4]

/-- Whatever a frame brings, a stage end's state is all that changes. -/
theorem seReceive_shape (c : Chip) (p : Nat) (l : Link) (f : Frame) (want : Nat) (h : Hdr → Bytes → StageEnd → StageEnd) :
    seReceive c p l f want h = c ∨ ∃ s, seReceive c p l f want h = c.setStage p s := by
  unfold seReceive
  dsimp only
  repeat' split
  all_goals first | exact Or.inl rfl | exact Or.inr ⟨_, rfl⟩

/-! A frame moves the receiver of its link and nothing else. -/

section
variable (s : StageEnd) (l : Link) (f : Frame) (now : Nat)
@[simp] theorem StageEnd.rxFrame_ident : (s.rxFrame l f now).ident = s.ident := by cases l <;> rfl
@[simp] theorem StageEnd.rxFrame_powered : (s.rxFrame l f now).powered = s.powered := by cases l <;> rfl
@[simp] theorem StageEnd.rxFrame_epochValid : (s.rxFrame l f now).epochValid = s.epochValid := by cases l <;> rfl
@[simp] theorem StageEnd.rxFrame_epoch : (s.rxFrame l f now).epoch = s.epoch := by cases l <;> rfl
@[simp] theorem StageEnd.rxFrame_admitA : (s.rxFrame l f now).admitA = s.admitA := by cases l <;> rfl
@[simp] theorem StageEnd.rxFrame_admitB : (s.rxFrame l f now).admitB = s.admitB := by cases l <;> rfl
@[simp] theorem StageEnd.rxFrame_state : (s.rxFrame l f now).state = s.state := by cases l <;> rfl
@[simp] theorem StageEnd.rxFrame_miss : (s.rxFrame l f now).miss = s.miss := by cases l <;> rfl
@[simp] theorem StageEnd.rxFrame_cmd : (s.rxFrame l f now).cmd = s.cmd := by cases l <;> rfl
@[simp] theorem StageEnd.rxFrame_len0 : (s.rxFrame l f now).len0 = s.len0 := by cases l <;> rfl
@[simp] theorem StageEnd.rxFrame_len1 : (s.rxFrame l f now).len1 = s.len1 := by cases l <;> rfl
@[simp] theorem StageEnd.rxFrame_carrier : (s.rxFrame l f now).carrier = s.carrier := by cases l <;> rfl
@[simp] theorem StageEnd.rxFrame_perStart : (s.rxFrame l f now).perStart = s.perStart := by cases l <;> rfl
@[simp] theorem StageEnd.rxFrame_perLen : (s.rxFrame l f now).perLen = s.perLen := by cases l <;> rfl
@[simp] theorem StageEnd.rxFrame_edges : (s.rxFrame l f now).edges = s.edges := by cases l <;> rfl
@[simp] theorem StageEnd.rxFrame_start0 : (s.rxFrame l f now).start0 = s.start0 := by cases l <;> rfl
@[simp] theorem StageEnd.rxFrame_start1 : (s.rxFrame l f now).start1 = s.start1 := by cases l <;> rfl
@[simp] theorem StageEnd.rxFrame_loop : (s.rxFrame l f now).loop = s.loop := by cases l <;> rfl
@[simp] theorem StageEnd.rxFrame_fences : (s.rxFrame l f now).fences = s.fences := by cases l <;> rfl
@[simp] theorem StageEnd.rxFrame_pendA : (s.rxFrame l f now).pendA = s.pendA := by cases l <;> rfl
@[simp] theorem StageEnd.rxFrame_pendB : (s.rxFrame l f now).pendB = s.pendB := by cases l <;> rfl
@[simp] theorem StageEnd.rxFrame_appliedB : (s.rxFrame l f now).appliedB = s.appliedB := by cases l <;> rfl
@[simp] theorem StageEnd.rxFrame_disagree : (s.rxFrame l f now).disagree = s.disagree := by cases l <;> rfl
@[simp] theorem StageEnd.rxFrame_envClip : (s.rxFrame l f now).envClip = s.envClip := by cases l <;> rfl
@[simp] theorem StageEnd.rxFrame_words : (s.rxFrame l f now).words = s.words := by cases l <;> rfl
@[simp] theorem StageEnd.rxFrame_envNew : (s.rxFrame l f now).envNew = s.envNew := by cases l <;> rfl
@[simp] theorem StageEnd.rxFrame_fastTrip : (s.rxFrame l f now).fastTrip = s.fastTrip := by cases l <;> rfl
@[simp] theorem StageEnd.rxFrame_crowbar : (s.rxFrame l f now).crowbar = s.crowbar := by cases l <;> rfl
@[simp] theorem StageEnd.rxFrame_moisture : (s.rxFrame l f now).moisture = s.moisture := by cases l <;> rfl
@[simp] theorem StageEnd.rxFrame_localFault : (s.rxFrame l f now).localFault = s.localFault := by cases l <;> rfl
@[simp] theorem StageEnd.rxFrame_passFet : (s.rxFrame l f now).passFet = s.passFet := by cases l <;> rfl
@[simp] theorem StageEnd.rxFrame_measuring : (s.rxFrame l f now).measuring = s.measuring := by cases l <;> rfl
@[simp] theorem StageEnd.rxFrame_measured : (s.rxFrame l f now).measured = s.measured := by cases l <;> rfl
@[simp] theorem StageEnd.rxFrame_moistVal : (s.rxFrame l f now).moistVal = s.moistVal := by cases l <;> rfl
@[simp] theorem StageEnd.rxFrame_auxId : (s.rxFrame l f now).auxId = s.auxId := by cases l <;> rfl
@[simp] theorem StageEnd.rxFrame_temp0 : (s.rxFrame l f now).temp0 = s.temp0 := by cases l <;> rfl
@[simp] theorem StageEnd.rxFrame_temp1 : (s.rxFrame l f now).temp1 = s.temp1 := by cases l <;> rfl
@[simp] theorem StageEnd.rxFrame_smp0 : (s.rxFrame l f now).smp0 = s.smp0 := by cases l <;> rfl
@[simp] theorem StageEnd.rxFrame_smp1 : (s.rxFrame l f now).smp1 = s.smp1 := by cases l <;> rfl
@[simp] theorem StageEnd.rxFrame_smp2 : (s.rxFrame l f now).smp2 = s.smp2 := by cases l <;> rfl
@[simp] theorem StageEnd.rxFrame_smp3 : (s.rxFrame l f now).smp3 = s.smp3 := by cases l <;> rfl
@[simp] theorem StageEnd.rxFrame_prev : (s.rxFrame l f now).prev = s.prev := by cases l <;> rfl
@[simp] theorem StageEnd.rxFrame_ovrTick : (s.rxFrame l f now).ovrTick = s.ovrTick := by cases l <;> rfl
@[simp] theorem StageEnd.rxFrame_cntCrc : (s.rxFrame l f now).cntCrc = s.cntCrc := by cases l <;> rfl
@[simp] theorem StageEnd.rxFrame_cntMiss : (s.rxFrame l f now).cntMiss = s.cntMiss := by cases l <;> rfl
@[simp] theorem StageEnd.rxFrame_cntDisagree : (s.rxFrame l f now).cntDisagree = s.cntDisagree := by cases l <;> rfl
@[simp] theorem StageEnd.rxFrame_cntStale : (s.rxFrame l f now).cntStale = s.cntStale := by cases l <;> rfl
@[simp] theorem StageEnd.rxFrame_cntLate : (s.rxFrame l f now).cntLate = s.cntLate := by cases l <;> rfl
@[simp] theorem StageEnd.rxFrame_cntInvalid : (s.rxFrame l f now).cntInvalid = s.cntInvalid := by cases l <;> rfl
@[simp] theorem StageEnd.rxFrame_cntHold : (s.rxFrame l f now).cntHold = s.cntHold := by cases l <;> rfl
@[simp] theorem StageEnd.rxFrame_datum : (s.rxFrame l f now).datum = s.datum := by cases l <;> rfl
@[simp] theorem StageEnd.rxFrame_slewAt : (s.rxFrame l f now).slewAt = s.slewAt := by cases l <;> rfl
@[simp] theorem StageEnd.rxFrame_syncA : (s.rxFrame l f now).syncA = s.syncA := by cases l <;> rfl
@[simp] theorem StageEnd.rxFrame_syncB : (s.rxFrame l f now).syncB = s.syncB := by cases l <;> rfl
@[simp] theorem StageEnd.rxFrame_rsps : (s.rxFrame l f now).rsps = s.rsps := by cases l <;> rfl
@[simp] theorem StageEnd.rxFrame_sideUp : (s.rxFrame l f now).sideUp = s.sideUp := by cases l <;> rfl
@[simp] theorem StageEnd.rxFrame_sideOff : (s.rxFrame l f now).sideOff = s.sideOff := by cases l <;> rfl
@[simp] theorem StageEnd.rxFrame_sideRef : (s.rxFrame l f now).sideRef = s.sideRef := by cases l <;> rfl
@[simp] theorem StageEnd.rxFrame_sideLost : (s.rxFrame l f now).sideLost = s.sideLost := by cases l <;> rfl
@[simp] theorem StageEnd.rxFrame_sideDn : (s.rxFrame l f now).sideDn = s.sideDn := by cases l <;> rfl
@[simp] theorem StageEnd.rxFrame_sideTx : (s.rxFrame l f now).sideTx = s.sideTx := by cases l <;> rfl
@[simp] theorem StageEnd.rxFrame_lineFree : (s.rxFrame l f now).lineFree = s.lineFree := by cases l <;> rfl
end

/-! An answer changes the responses to be sent, or counts the request as INVALID, and nothing else. -/

section
variable (s : StageEnd) (l : Link) (t typ : Nat) (b : Bytes)
@[simp] theorem StageEnd.respond_ident : (s.respond l t typ b).ident = s.ident := by unfold StageEnd.respond; split <;> rfl
@[simp] theorem StageEnd.respond_powered : (s.respond l t typ b).powered = s.powered := by unfold StageEnd.respond; split <;> rfl
@[simp] theorem StageEnd.respond_epochValid : (s.respond l t typ b).epochValid = s.epochValid := by unfold StageEnd.respond; split <;> rfl
@[simp] theorem StageEnd.respond_epoch : (s.respond l t typ b).epoch = s.epoch := by unfold StageEnd.respond; split <;> rfl
@[simp] theorem StageEnd.respond_admitA : (s.respond l t typ b).admitA = s.admitA := by unfold StageEnd.respond; split <;> rfl
@[simp] theorem StageEnd.respond_admitB : (s.respond l t typ b).admitB = s.admitB := by unfold StageEnd.respond; split <;> rfl
@[simp] theorem StageEnd.respond_state : (s.respond l t typ b).state = s.state := by unfold StageEnd.respond; split <;> rfl
@[simp] theorem StageEnd.respond_miss : (s.respond l t typ b).miss = s.miss := by unfold StageEnd.respond; split <;> rfl
@[simp] theorem StageEnd.respond_cmd : (s.respond l t typ b).cmd = s.cmd := by unfold StageEnd.respond; split <;> rfl
@[simp] theorem StageEnd.respond_len0 : (s.respond l t typ b).len0 = s.len0 := by unfold StageEnd.respond; split <;> rfl
@[simp] theorem StageEnd.respond_len1 : (s.respond l t typ b).len1 = s.len1 := by unfold StageEnd.respond; split <;> rfl
@[simp] theorem StageEnd.respond_carrier : (s.respond l t typ b).carrier = s.carrier := by unfold StageEnd.respond; split <;> rfl
@[simp] theorem StageEnd.respond_perStart : (s.respond l t typ b).perStart = s.perStart := by unfold StageEnd.respond; split <;> rfl
@[simp] theorem StageEnd.respond_perLen : (s.respond l t typ b).perLen = s.perLen := by unfold StageEnd.respond; split <;> rfl
@[simp] theorem StageEnd.respond_edges : (s.respond l t typ b).edges = s.edges := by unfold StageEnd.respond; split <;> rfl
@[simp] theorem StageEnd.respond_start0 : (s.respond l t typ b).start0 = s.start0 := by unfold StageEnd.respond; split <;> rfl
@[simp] theorem StageEnd.respond_start1 : (s.respond l t typ b).start1 = s.start1 := by unfold StageEnd.respond; split <;> rfl
@[simp] theorem StageEnd.respond_loop : (s.respond l t typ b).loop = s.loop := by unfold StageEnd.respond; split <;> rfl
@[simp] theorem StageEnd.respond_rxA : (s.respond l t typ b).rxA = s.rxA := by unfold StageEnd.respond; split <;> rfl
@[simp] theorem StageEnd.respond_rxB : (s.respond l t typ b).rxB = s.rxB := by unfold StageEnd.respond; split <;> rfl
@[simp] theorem StageEnd.respond_fences : (s.respond l t typ b).fences = s.fences := by unfold StageEnd.respond; split <;> rfl
@[simp] theorem StageEnd.respond_pendA : (s.respond l t typ b).pendA = s.pendA := by unfold StageEnd.respond; split <;> rfl
@[simp] theorem StageEnd.respond_pendB : (s.respond l t typ b).pendB = s.pendB := by unfold StageEnd.respond; split <;> rfl
@[simp] theorem StageEnd.respond_appliedB : (s.respond l t typ b).appliedB = s.appliedB := by unfold StageEnd.respond; split <;> rfl
@[simp] theorem StageEnd.respond_disagree : (s.respond l t typ b).disagree = s.disagree := by unfold StageEnd.respond; split <;> rfl
@[simp] theorem StageEnd.respond_envClip : (s.respond l t typ b).envClip = s.envClip := by unfold StageEnd.respond; split <;> rfl
@[simp] theorem StageEnd.respond_words : (s.respond l t typ b).words = s.words := by unfold StageEnd.respond; split <;> rfl
@[simp] theorem StageEnd.respond_envNew : (s.respond l t typ b).envNew = s.envNew := by unfold StageEnd.respond; split <;> rfl
@[simp] theorem StageEnd.respond_fastTrip : (s.respond l t typ b).fastTrip = s.fastTrip := by unfold StageEnd.respond; split <;> rfl
@[simp] theorem StageEnd.respond_crowbar : (s.respond l t typ b).crowbar = s.crowbar := by unfold StageEnd.respond; split <;> rfl
@[simp] theorem StageEnd.respond_moisture : (s.respond l t typ b).moisture = s.moisture := by unfold StageEnd.respond; split <;> rfl
@[simp] theorem StageEnd.respond_localFault : (s.respond l t typ b).localFault = s.localFault := by unfold StageEnd.respond; split <;> rfl
@[simp] theorem StageEnd.respond_passFet : (s.respond l t typ b).passFet = s.passFet := by unfold StageEnd.respond; split <;> rfl
@[simp] theorem StageEnd.respond_measuring : (s.respond l t typ b).measuring = s.measuring := by unfold StageEnd.respond; split <;> rfl
@[simp] theorem StageEnd.respond_measured : (s.respond l t typ b).measured = s.measured := by unfold StageEnd.respond; split <;> rfl
@[simp] theorem StageEnd.respond_moistVal : (s.respond l t typ b).moistVal = s.moistVal := by unfold StageEnd.respond; split <;> rfl
@[simp] theorem StageEnd.respond_auxId : (s.respond l t typ b).auxId = s.auxId := by unfold StageEnd.respond; split <;> rfl
@[simp] theorem StageEnd.respond_temp0 : (s.respond l t typ b).temp0 = s.temp0 := by unfold StageEnd.respond; split <;> rfl
@[simp] theorem StageEnd.respond_temp1 : (s.respond l t typ b).temp1 = s.temp1 := by unfold StageEnd.respond; split <;> rfl
@[simp] theorem StageEnd.respond_smp0 : (s.respond l t typ b).smp0 = s.smp0 := by unfold StageEnd.respond; split <;> rfl
@[simp] theorem StageEnd.respond_smp1 : (s.respond l t typ b).smp1 = s.smp1 := by unfold StageEnd.respond; split <;> rfl
@[simp] theorem StageEnd.respond_smp2 : (s.respond l t typ b).smp2 = s.smp2 := by unfold StageEnd.respond; split <;> rfl
@[simp] theorem StageEnd.respond_smp3 : (s.respond l t typ b).smp3 = s.smp3 := by unfold StageEnd.respond; split <;> rfl
@[simp] theorem StageEnd.respond_prev : (s.respond l t typ b).prev = s.prev := by unfold StageEnd.respond; split <;> rfl
@[simp] theorem StageEnd.respond_ovrTick : (s.respond l t typ b).ovrTick = s.ovrTick := by unfold StageEnd.respond; split <;> rfl
@[simp] theorem StageEnd.respond_cntCrc : (s.respond l t typ b).cntCrc = s.cntCrc := by unfold StageEnd.respond; split <;> rfl
@[simp] theorem StageEnd.respond_cntMiss : (s.respond l t typ b).cntMiss = s.cntMiss := by unfold StageEnd.respond; split <;> rfl
@[simp] theorem StageEnd.respond_cntDisagree : (s.respond l t typ b).cntDisagree = s.cntDisagree := by unfold StageEnd.respond; split <;> rfl
@[simp] theorem StageEnd.respond_cntStale : (s.respond l t typ b).cntStale = s.cntStale := by unfold StageEnd.respond; split <;> rfl
@[simp] theorem StageEnd.respond_cntLate : (s.respond l t typ b).cntLate = s.cntLate := by unfold StageEnd.respond; split <;> rfl
@[simp] theorem StageEnd.respond_cntHold : (s.respond l t typ b).cntHold = s.cntHold := by unfold StageEnd.respond; split <;> rfl
@[simp] theorem StageEnd.respond_datum : (s.respond l t typ b).datum = s.datum := by unfold StageEnd.respond; split <;> rfl
@[simp] theorem StageEnd.respond_slewAt : (s.respond l t typ b).slewAt = s.slewAt := by unfold StageEnd.respond; split <;> rfl
@[simp] theorem StageEnd.respond_syncA : (s.respond l t typ b).syncA = s.syncA := by unfold StageEnd.respond; split <;> rfl
@[simp] theorem StageEnd.respond_syncB : (s.respond l t typ b).syncB = s.syncB := by unfold StageEnd.respond; split <;> rfl
@[simp] theorem StageEnd.respond_sideUp : (s.respond l t typ b).sideUp = s.sideUp := by unfold StageEnd.respond; split <;> rfl
@[simp] theorem StageEnd.respond_sideOff : (s.respond l t typ b).sideOff = s.sideOff := by unfold StageEnd.respond; split <;> rfl
@[simp] theorem StageEnd.respond_sideRef : (s.respond l t typ b).sideRef = s.sideRef := by unfold StageEnd.respond; split <;> rfl
@[simp] theorem StageEnd.respond_sideLost : (s.respond l t typ b).sideLost = s.sideLost := by unfold StageEnd.respond; split <;> rfl
@[simp] theorem StageEnd.respond_sideDn : (s.respond l t typ b).sideDn = s.sideDn := by unfold StageEnd.respond; split <;> rfl
@[simp] theorem StageEnd.respond_sideTx : (s.respond l t typ b).sideTx = s.sideTx := by unfold StageEnd.respond; split <;> rfl
@[simp] theorem StageEnd.respond_lineFree : (s.respond l t typ b).lineFree = s.lineFree := by unfold StageEnd.respond; split <;> rfl
end

/-- An answer at a tick that is free on its link is queued. -/
theorem StageEnd.respond_queued (s : StageEnd) (l : Link) (t typ : Nat) (b : Bytes) (h : s.rsps.any (fun r => r.link == l && r.tick == t) = false) :
    (s.respond l t typ b).rsps = s.rsps ++ [{ link := l, tick := t, typ := typ, body := b }] := by
  simp [StageEnd.respond, h]

end Sys2Proof.Machine
end

