-- ==== Sys2Proof/WellFormed.lean ====
section
/-! DEFINITION. WellFormed.lean: the commands whose operands can come from outside the block as the specification describes it. The
machine gives every command a meaning, well-formed or not; well-formedness says which operands a sender has. -/

namespace Sys2Proof

/-- A stage-link frame has 24 data characters (R101). -/
def Frame.wf (f : Frame) : Bool := f.bytes.length == 24

/-- A Survey header's fields fit their widths, and LEN is that of the payload (R374). -/
def SurveyHdr.wf (h : SurveyHdr) (n : Nat) : Bool :=
  decide (h.ver < 16) && decide (h.cls < 16) && decide (h.sub < 16) && decide (h.domain < 64) && decide (h.hops < 256) && decide (h.src < 2048)
  && decide (h.dstNode < 1024) && h.len == n && decide (n ≤ 1400) && decide (h.stamp < 2 ^ 64)

/-- An Ethernet frame's addresses fit, and its Survey header is well formed (R371). -/
def FabFrame.wf (f : FabFrame) : Bool := decide (f.srcMac < 2 ^ 48) && f.hdr.wf f.payload.length

/-- The groups of a digest message are 0 to 12 (R343). -/
def digestsWf (ds : Digests) : Bool := ds.all (fun d => decide (d.1 ≤ 12))

/-- Tile memory has 32,768 words of 64 bits (R162). -/
def upsetsOk (us : Upsets) : Bool := us.all (fun u => decide (u.1 < 32768))

/-- There are 64 die sensors (R433). -/
def tempsWf (ts : Temps) : Bool := ts.length == 64

/-- A transfer has at least one beat (R411). -/
def ringReqsWf (rs : RingReqs) : Bool := rs.all (fun r => decide (1 ≤ r.beats))

/-- A sample body has 16 characters (R108). -/
def bodyWf (b : Bytes) : Bool := b.length == 16

/-- A record's payload has at most 32 bytes (R443). -/
def payloadWf (b : Bytes) : Bool := decide (b.length ≤ 32)

/-- A mailbox payload fits its buffer (R470). -/
def mailWf (b : Bytes) : Bool := decide (b.length ≤ 0x3FFC)

/-- A two-wire write brings at least the pointer byte (R475). -/
def iicWf (b : Bytes) : Bool := b != []

/-- A two-wire address has 7 bits (R479). -/
def addr7Wf (a : Nat) : Bool := decide (a < 128)

/-- Register pages lie below descriptor memory (R516). -/
def pageWf (a : Word) : Bool := decide (a.toNat < 0x400000)

/-- A command's operands are those a sender has. -/
def Instr.wellFormed : Instr → Bool
  | .registerWrite _ _ _ _ => true
  | .wideLowRead _ _ _ => true
  | .wideHighRead _ _ _ => true
  | .wideLowWrite _ _ _ _ => true
  | .wideHighWrite _ _ _ _ => true
  | .rcRead _ _ _ => true
  | .pgOwnerWrite _ page _ _ => pageWf page
  | .pgEvtLatchWrite _ page _ _ => pageWf page
  | .sampleRx _ frame => frame.wf
  | .equaliseRequest _ => true
  | .equaliseAnswer _ _ => true
  | .equaliseFrameRx _ body => bodyWf body
  | .equaliseDeadline _ => true
  | .taskReadyPeriodic _ _ => true
  | .taskDispatch _ k => upsetsOk k.upsets && k.reads.all (fun w => decide (w < 32768))
  | .taskComplete _ _ => true
  | .classAOverrun _ => true
  | .cmdSlot _ => true
  | .classCResultApply _ => true
  | .islandUnlock _ => true
  | .porstNRise _ => true
  | .porstNAssert => true
  | .resetNAssert _ => true
  | .romSelftestDone => true
  | .seqRailEnable => true
  | .seqPgRise _ => true
  | .seqPgTimeout _ => true
  | .seqPgLost _ _ => true
  | .seqRetry => true
  | .abortsClear => true
  | .seqSave _ _ _ => true
  | .seqRestart _ _ _ => true
  | .seqPowerDown => true
  | .seqDownStep => true
  | .brownOut => true
  | .pllLock _ => true
  | .pllLockTimeout _ => true
  | .pllRetry _ => true
  | .refclkLoss => true
  | .bootImageSelect _ _ => true
  | .ceKernelLoad => true
  | .stageDiscoveryDone => true
  | .chainProbeEnd _ => true
  | .fabricJoin => true
  | .bootTimeout => true
  | .resetKeyWrite _ _ _ => true
  | .resetKeyLapse => true
  | .keyResetStart => true
  | .xtalDetect _ => true
  | .plumbAdcRefresh _ _ => true
  | .linkAlignLoss _ => true
  | .linkDown _ => true
  | .linkUp _ => true
  | .linkResume _ => true
  | .upstreamFrameSend _ => true
  | .seSampleTick _ _ => true
  | .seCmdRx _ _ frame => frame.wf
  | .seSyncRx _ _ frame => frame.wf
  | .seFenceRx _ _ frame => frame.wf
  | .seCfgPoll _ _ frame => frame.wf
  | .seCfgRead _ _ frame => frame.wf
  | .seCfgWrite _ _ frame => frame.wf
  | .seClearTrip _ _ frame _ => frame.wf
  | .seClearCrowbar _ _ frame _ => frame.wf
  | .seClearLocalFault _ _ frame => frame.wf
  | .seCfgIdent _ _ frame => frame.wf
  | .seSideDnRx _ _ frame => frame.wf
  | .seApplyTick _ => true
  | .seHoldEntry _ => true
  | .seSafeEntry _ => true
  | .seFastTrip _ _ => true
  | .seCrowbar _ _ => true
  | .seSelfcheckFail _ => true
  | .sePowerCycle _ _ => true
  | .seMoistureMeasure _ => true
  | .seMoistureDone _ _ => true
  | .sidebandTx _ => true
  | .sidebandRx _ _ _ => true
  | .syncSend _ => true
  | .timeEchoRx _ frame _ => frame.wf
  | .announceRx _ frame => frame.wf
  | .cfgRspRx _ frame => frame.wf
  | .sideUpRx _ frame => frame.wf
  | .cfgRspTimeout _ => true
  | .sidePendingPoll _ => true
  | .fenceSend _ => true
  | .admitSend _ => true
  | .epochMismatch _ => true
  | .discStepTimeout _ => true
  | .discRetry _ => true
  | .discStart _ _ _ _ => true
  | .safeActWrite _ _ _ _ => true
  | .scrubLine r => upsetsOk r.upsets
  | .ceSelftestStart _ _ _ _ => true
  | .ceSelftestDone _ f => upsetsOk f.upsets && f.vectors.macs.length == 64 && f.vectors.fmas.length == 64
  | .ceDoorbell _ _ _ _ _ => true
  | .ceCancel _ _ _ _ _ => true
  | .kernelSwapLaw _ _ => true
  | .descriptorAccess _ _ _ _ _ => true
  | .descriptorCommit _ => true
  | .readbackRefresh => true
  | .agreedTick => true
  | .hiccupEnd _ => true
  | .hicCountClear _ => true
  | .phCtrlClear _ _ _ _ => true
  | .crowbarClearCheck _ => true
  | .telemetryWindowEnd _ => true
  | .feltRecompute _ => true
  | .feltSlewDone _ => true
  | .fsCfgWrite _ _ _ _ => true
  | .inputLossDeclared _ => true
  | .transferEnd _ => true
  | .qualifyEnd _ => true
  | .huCfgWrite _ _ _ _ => true
  | .overloadSpent _ => true
  | .overloadRestore _ => true
  | .crownUpdate => true
  | .crownExtraUpdate => true
  | .crownNodeWrite _ _ _ _ _ => true
  | .graceExpiry _ => true
  | .ewHoldExpiry _ => true
  | .gaugeUpdate => true
  | .strCfgWrite _ _ _ _ => true
  | .zMeasureStart _ => true
  | .zMeasureEnd _ _ _ _ => true
  | .batteryRecordWrite => true
  | .hibEnter _ _ _ => true
  | .hibSample _ => true
  | .hibRecordWrite => true
  | .feederEnable _ _ _ _ => true
  | .feederClear _ _ _ _ => true
  | .feederTaskRun _ => true
  | .feederRetry _ => true
  | .retriesClear _ => true
  | .inrushTimeout _ => true
  | .modelLateClear _ => true
  | .tripClearCheck _ => true
  | .goodcrc _ _ => true
  | .caps _ _ _ => true
  | .request _ _ _ _ _ _ => true
  | .accept _ _ => true
  | .reject _ _ _ => true
  | .psReady _ _ => true
  | .cap _ => true
  | .warn _ => true
  | .softReset _ _ => true
  | .hardReset _ _ => true
  | .goodcrcTimeout _ => true
  | .responseTimerExpiry _ => true
  | .hrHoldEnd _ => true
  | .capsSend _ => true
  | .roleWindowSwitch _ => true
  | .calWindowEnd _ w => decide (1 ≤ w.dec) && decide (w.dec ≤ 256)
  | .zeroWindowOpen _ _ => true
  | .zeroWindowEnd _ _ _ _ => true
  | .calPublish => true
  | .calCfgWrite _ _ _ _ _ => true
  | .calRefWrite _ _ _ _ _ _ => true
  | .chainPathDown _ => true
  | .chainPathUp _ => true
  | .digestRx _ ds => digestsWf ds.groups
  | .resolveOutcome _ => true
  | .agreeProposal _ _ => true
  | .agreeAck _ => true
  | .agreeCancel _ => true
  | .agreeAckDeadline _ => true
  | .mirrorRx _ => true
  | .timeExchange _ => true
  | .twinTime => true
  | .healthRx _ => true
  | .chainHello _ => true
  | .fencedNotice => true
  | .debugHoldRx => true
  | .mgmtFailNotice => true
  | .chainTimeout => true
  | .fltInFault => true
  | .fltInLine _ => true
  | .takeoverExpiry => true
  | .recoveryWindowEnd => true
  | .joinPhaseEnd => true
  | .joinPhaseTimeout => true
  | .joinRestart => true
  | .twRejoin _ _ _ => true
  | .twTraverse _ _ _ => true
  | .traverseSchedule => true
  | .inserviceSelftest => true
  | .mgmtResume => true
  | .fabHelloSend => true
  | .fabHelloRx _ _ => true
  | .adjacencyTimeout _ _ => true
  | .lsaFlood => true
  | .lsaRx _ _ => true
  | .lsaAgeOut _ _ => true
  | .transitForward _ frame => frame.wf
  | .fabFrameRx _ frame => frame.wf
  | .budgetRx hdr payload => hdr.wf payload.length
  | .shareRx hdr payload => hdr.wf payload.length
  | .shareSend => true
  | .eventRx hdr payload => hdr.wf payload.length
  | .mgmtRead hdr payload => hdr.wf payload.length
  | .mgmtWrite hdr payload => hdr.wf payload.length
  | .mgmtResponse hdr payload => hdr.wf payload.length
  | .timeRx hdr payload => hdr.wf payload.length
  | .ackRx hdr payload => hdr.wf payload.length
  | .relRetry _ => true
  | .relFail _ => true
  | .ptpMessageRx _ _ => true
  | .ptpSyncSend => true
  | .pdelaySend => true
  | .prpSupervisionSend => true
  | .timeLock _ => true
  | .fabTime => true
  | .quietA _ _ _ => true
  | .quietB _ _ _ => true
  | .fabWake _ _ _ => true
  | .quietPropose hdr _ _ => hdr.wf hdr.len
  | .quietCommit hdr _ _ => hdr.wf hdr.len
  | .wake hdr => hdr.wf hdr.len
  | .quietAckDeadline => true
  | .quietInstant => true
  | .settleWindowEnd => true
  | .signalDetectWake _ => true
  | .creditWindowStart => true
  | .ringGrant reqs => ringReqsWf reqs
  | .backoffEnd _ _ => true
  | .tenureEnd => true
  | .ringRevoke => true
  | .ringOverhold => true
  | .overholdBlockEnd _ _ => true
  | .ringStarve _ _ => true
  | .ptCfgWrite _ _ _ _ => true
  | .creditWrite _ _ _ _ => true
  | .quotaWrite _ _ _ _ => true
  | .faultRaise _ _ => true
  | .wireFault _ => true
  | .s3ResetDelay => true
  | .mgmtFail => true
  | .mgmtFailAckRx => true
  | .mgmtFailAckTimeout => true
  | .watchdogService => true
  | .watchdogExpiry => true
  | .watchdogReset => true
  | .dieSensorRead temps => tempsWf temps
  | .dieSensorFailed _ => true
  | .thermalShutdown => true
  | .thermalRestart => true
  | .stageSensorFail _ _ => true
  | .stageSensorRecover _ _ => true
  | .fcOutstandingClear _ _ _ _ => true
  | .glitchDetect => true
  | .fbkRecordQueue _ _ _ _ payload => payloadWf payload
  | .fbkRecordWrite => true
  | .fbkEraseKey _ _ _ => true
  | .fbkEraseLapse => true
  | .fbkEraseDone => true
  | .fbkWindowRead _ _ _ => true
  | .frDataRead _ _ _ => true
  | .wcapArm _ _ _ _ => true
  | .wcapTrigger _ _ _ _ => true
  | .wcapAbort _ _ _ _ => true
  | .wcapTrigEvent _ => true
  | .wcapEntry _ _ => true
  | .wcapPostEnd _ => true
  | .wcapFlushStart _ => true
  | .wcapFlushDone _ => true
  | .wcapFlushFail _ => true
  | .pciePerst => true
  | .dmaStart _ _ _ _ => true
  | .dmaComplete _ _ => true
  | .mbDoorbell _ _ payload => mailWf payload
  | .stageBegin => true
  | .stageData => true
  | .stageEnd => true
  | .activate => true
  | .swapKernels => true
  | .promoteGolden => true
  | .raiseSvn => true
  | .fwAbort => true
  | .cfgSave => true
  | .activationPause => true
  | .pauseEnd => true
  | .settleEnd => true
  | .iicTargetWrite _ bytes => iicWf bytes
  | .iicTargetRead _ _ => true
  | .iicPecStop _ => true
  | .iicSclTimeout _ => true
  | .iic2AddrMatch addr => addr7Wf addr
  | .iic2StretchEnd _ => true
  | .iic1Start _ _ _ => true
  | .iic1Done _ _ => true
  | .pmcSelWrite _ page _ _ _ => pageWf page
  | .snap _ _ _ => true
  | .snapTake => true
  | .snapDone => true
  | .dbgChallenge _ => true
  | .dbgResponse _ => true
  | .dbgAccess _ _ _ => true
  | .dbgHalt => true
  | .dbgStep => true
  | .dbgResume => true
  | .resetNRelease => true
  | .linkAlignAcquire _ _ => true
  | .fabPortLinkUp _ _ => true
  | .fabPortLinkDown _ => true
  | .pcieLinkUp _ _ => true
  | .pcieLinkDown => true
  | .pcieConfigWrite _ _ => true
  | .msixVectorUnmask _ => true
  | .mailboxCompletion => true
  | .activeCopyDone => true
  | .resumeTimeout => true
  | .sessionIdleTimeout _ => true
  | .ptpSlaveLoss _ => true
  | .extest _ => true

end Sys2Proof
end

