-- ==== Sys2Proof/Tests/Slice0.lean ====
section
/-! SUPPORT. Slice0.lean: operands that well-formedness accepts and refuses, single steps on small states, and for the statements' clauses
a state and operands that meet the hypotheses together. -/

open Sys2Proof Sys2Proof.Machine

namespace Sys2Proof.Tests

set_option Elab.async false

/-- A stage-link frame of `n` zero characters. -/
def zeroFrame (n : Nat) : Frame := { bytes := List.replicate n 0, codeErr := false }

/-- A Survey header for a payload of `n` bytes. -/
def headFor (n : Nat) : SurveyHdr :=
  { ver := 1, cls := 0, sub := 0, rel := false, lead := false, domain := 0, hops := 8, src := 2, dstNode := 0, dstTwin := false
    station := true, bcast := false, msgId := 0, incarn := 0, part := 0, len := n, stamp := 0 }

/-- A frame of the fabric without a payload, from address `mac`. -/
def fabFrom (mac : Nat) : FabFrame :=
  { etherType := 0x88B5, tagged := false, srcMac := mac, prpSeq := 0, fcsOk := true, hdr := headFor 0, payload := [] }

theorem test_frame_has_24_characters : (Instr.sampleRx 0 (zeroFrame 24)).wellFormed = true := by decide
theorem test_frame_of_23_refused : (Instr.sampleRx 0 (zeroFrame 23)).wellFormed = false := by decide
theorem test_sample_body_has_16_characters : (Instr.equaliseFrameRx 0 (List.replicate 16 0)).wellFormed = true := by decide
theorem test_sample_body_of_15_refused : (Instr.equaliseFrameRx 0 (List.replicate 15 0)).wellFormed = false := by decide
theorem test_survey_len_names_payload : (Instr.shareRx (headFor 1) [0]).wellFormed = true := by decide
theorem test_survey_len_of_other_payload_refused : (Instr.shareRx (headFor 2) [0]).wellFormed = false := by decide
theorem test_survey_version_of_5_bits_refused : (Instr.timeRx { headFor 0 with ver := 16 } []).wellFormed = false := by decide
theorem test_survey_class_of_5_bits_refused : (Instr.timeRx { headFor 0 with cls := 16 } []).wellFormed = false := by decide
theorem test_survey_subtype_of_5_bits_refused : (Instr.timeRx { headFor 0 with sub := 16 } []).wellFormed = false := by decide
theorem test_survey_domain_of_7_bits_refused : (Instr.timeRx { headFor 0 with domain := 64 } []).wellFormed = false := by decide
theorem test_survey_hops_of_9_bits_refused : (Instr.timeRx { headFor 0 with hops := 256 } []).wellFormed = false := by decide
theorem test_survey_source_of_12_bits_refused : (Instr.timeRx { headFor 0 with src := 2048 } []).wellFormed = false := by decide
theorem test_survey_node_of_11_bits_refused : (Instr.timeRx { headFor 0 with dstNode := 1024 } []).wellFormed = false := by decide
theorem test_survey_stamp_of_65_bits_refused : (Instr.timeRx { headFor 0 with stamp := 2 ^ 64 } []).wellFormed = false := by decide
theorem test_survey_payload_of_1401_refused : (headFor 1401).wf 1401 = false := by decide
theorem test_mac_of_48_bits : (Instr.fabFrameRx 0 (fabFrom 1)).wellFormed = true := by decide
theorem test_mac_of_49_bits_refused : (Instr.fabFrameRx 0 (fabFrom (2 ^ 48))).wellFormed = false := by decide
theorem test_digest_group_12 : (Instr.digestRx 0 ⟨[(12, 0)], []⟩).wellFormed = true := by decide
theorem test_digest_group_13_refused : (Instr.digestRx 0 ⟨[(13, 0)], []⟩).wellFormed = false := by decide
theorem test_sensors_are_64 : (Instr.dieSensorRead (List.replicate 64 400)).wellFormed = true := by decide
theorem test_63_sensors_refused : (Instr.dieSensorRead (List.replicate 63 400)).wellFormed = false := by decide
theorem test_transfer_of_one_beat : (Instr.ringGrant [{ slot := 0, part := 0, beats := 1 }]).wellFormed = true := by decide
theorem test_transfer_of_no_beat_refused : (Instr.ringGrant [{ slot := 0, part := 0, beats := 0 }]).wellFormed = false := by decide
theorem test_record_payload_of_33_refused : (Instr.fbkRecordQueue 1 0 0 0 (List.replicate 33 0)).wellFormed = false := by decide
theorem test_mail_limit : mailWf (List.replicate 8 0) = true := by decide
theorem test_empty_two_wire_write_refused : (Instr.iicTargetWrite .iic0 []).wellFormed = false := by decide
theorem test_two_wire_address_of_8_bits_refused : (Instr.iic2AddrMatch 128).wellFormed = false := by decide
theorem test_tile_word_32767 : (Instr.scrubLine ⟨0, [(32767, true)]⟩).wellFormed = true := by decide
theorem test_tile_word_32768_refused : (Instr.scrubLine ⟨0, [(32768, false)]⟩).wellFormed = false := by decide
theorem test_task_reads_word_32768_refused : (Instr.taskDispatch 0 ⟨[], [32768], ⟨[], []⟩⟩).wellFormed = false := by decide
theorem test_task_upset_32768_refused : (Instr.taskDispatch 0 ⟨[(32768, true)], [], ⟨[], []⟩⟩).wellFormed = false := by decide
/-- The test vectors of a self-check. -/
def vectors (n m : Nat) : LaneOps := ⟨List.replicate n ⟨0, true, 1, 1, 0⟩, List.replicate m ⟨0, 0, 0, 0, 0⟩⟩
theorem test_selftest_of_64_vectors : (Instr.ceSelftestDone 0 ⟨[(32767, true)], vectors 64 64⟩).wellFormed = true := by decide
theorem test_selftest_upset_32768_refused : (Instr.ceSelftestDone 0 ⟨[(32768, true)], vectors 64 64⟩).wellFormed = false := by decide
theorem test_selftest_of_63_vectors_refused : (Instr.ceSelftestDone 0 ⟨[], vectors 64 63⟩).wellFormed = false
    ∧ (Instr.ceSelftestDone 0 ⟨[], vectors 63 64⟩).wellFormed = false := by decide
theorem test_window_of_no_decimation_refused : (Instr.calWindowEnd 0 ⟨[], [], [], 0, 0⟩).wellFormed = false := by decide
theorem test_window_of_decimation_257_refused : (Instr.calWindowEnd 0 ⟨[], [], [], 0, 257⟩).wellFormed = false := by decide
theorem test_page_in_descriptor_memory_refused : (Instr.pgOwnerWrite .bar0 0x400000 0 15).wellFormed = false := by decide
theorem test_latch_page_in_descriptor_memory_refused : (Instr.pgEvtLatchWrite .bar0 0x400000 0 15).wellFormed = false := by decide
theorem test_counter_page_in_descriptor_memory_refused : (Instr.pmcSelWrite .bar0 0x400000 0 0 15).wellFormed = false := by decide

/-! States and operands that meet the hypotheses of each clause of the statements about single commands, together. -/

/-- A chip that has started, at tick 10,000. -/
def live : Chip :=
  { State.reset.chip with now := 10000000000, datum := 4000000, plumb := { porst := false, mgmtUp := true, runSet := factorySet } }
/-- A timer of a chip has run out. -/
def elapsed (k : Nat) (c : Chip) : Chip := { c with timers := mapSet c.timers k 1 }
/-- Sixteen bytes that begin with the given ones. -/
def body16 (b : Bytes) : Bytes := sliceBytes (b ++ List.replicate 16 0) 0 16
/-- A frame of a type and sequence number. -/
def frameOf (typ seq : Nat) (body : Bytes) (lead : Bool := true) (epoch : Nat := 0) : Frame :=
  { bytes := mkFrame { typ := typ, twin := false, lead := lead, degraded := false, epoch := epoch, seq := seq } body, codeErr := false }
/-- A feeder stage end with every capability. -/
def feedIdent : SeIdent := ⟨2, 1, 1, 0, 0, 0, 1, 0xFF⟩
/-- A converter stage end with every capability. -/
def convIdent : SeIdent := ⟨0, 1, 1, 0, 0, 0, 1, 0xFF⟩
/-- Port 0 is enabled, aligned and in a state of its link. -/
def portAt (l : Nat) (f : PortSt → PortSt) : Chip :=
  ((live.wr R.PG_ENABLE (pgSP 0) 1).wr R.SP_LINK (pgSP 0) l).modPort 0 (fun t => f { t with aligned := true })
/-- A chip in SOLO that may regulate. -/
def soloLead (c : Chip) : Chip := (c.wr R.TWIN_STATE pgTWIN 1).wr R.SYS_SOLO_ALLOWED pgSYS 1
/-- A descriptor of 256 bytes with some of them set. -/
def descOf (es : List (Nat × Byte)) : Bytes := (List.range 256).map (fun i => BitVec.ofNat 8 (mapGet (es.map (fun e => (e.1, e.2.toNat))) i 0))
/-- A chip at a tick on which calibration publishes, with Benchmark off or on. -/
def pubChip (en : Nat) : Chip := (({ live with datum := 8000800 }).wr R.BMK_EN pgBMK en).wr R.BMK_PUB_MS pgBMK 1
/-- That chip once its ports and impedance points have aged. -/
def pubAged (en : Nat) : Chip :=
  foldc (upTo 8) (fun k c => (if c.on R.BMK_EN pgBMK then c.zStale k else c).flatFollow k) (foldc (upTo 192) (fun p c => c.agePort p) ((pubChip en).bmkSettle.arm (tmKey tmPubl 0) dqTick))

theorem met_SampleAndEqualisationCommandsAct_0 :
    (∃ (s : State) (p : Port) (f : Frame) (c1 : Chip) (h : Hdr) (b : Bytes) (k : Nat), (s.chip.upCheck p.val f = (c1, some (h, b))) ∧ (h.typ = 1) ∧ (extendTick c1.tick (leAt b 11 2) = some k) ∧ (c1.bodyAt p.val k = none))
    ∧ (∃ (s : State) (p : Port), (s.chip.banksOn = true) ∧ (s.chip.pairRunning = true) ∧ (s.chip.enabled (pgSP p.val) = true) ∧ (2 ≤ s.chip.tick) ∧ (s.chip.bodyAt p.val (s.chip.tick - 2) = none) ∧ ((s.chip.port p.val).eqWait ≠ some (s.chip.tick - 2)))
    ∧ (∃ (s : State), (s.chip.banksOn = true) ∧ (s.chip.rd R.TWIN_STATE pgTWIN ≠ 4) ∧ (s.chip.twin.eqTick ≠ s.chip.tick ∨ s.chip.twin.eqCount < 12))
    ∧ (∃ (s : State), (s.chip.banksOn = true) ∧ (s.chip.rd R.TWIN_STATE pgTWIN ≠ 4) ∧ (s.chip.twin.eqTick = s.chip.tick) ∧ (12 ≤ s.chip.twin.eqCount))
    ∧ (∃ (s : State) (p : Port) (body : Bytes) (k : Nat), (s.chip.banksOn = true) ∧ ((s.chip.port p.val).eqWait = some k) ∧ (s.chip.tick < k + 3) ∧ (body ≠ []) ∧ (leAt body 11 2 = k % 65536)) :=
  ⟨⟨{ chip := portAt 0 (fun t => t) }, 0, frameOf 1 0 (body16 (List.replicate 11 0 ++ [0x10, 0x27])), ((portAt 0 (fun t => t)).upCheck 0 (frameOf 1 0 (body16 (List.replicate 11 0 ++ [0x10, 0x27])))).1, hdrOf (frameOf 1 0 (body16 (List.replicate 11 0 ++ [0x10, 0x27]))).bytes, bodyOf (frameOf 1 0 (body16 (List.replicate 11 0 ++ [0x10, 0x27]))), 10000, by decide +kernel⟩,
    ⟨{ chip := (((live).wr R.PLUMB_MAIN_UP pgPLUMB 1).wr R.PG_ENABLE (pgSP 0) 1).wr R.TWIN_STATE pgTWIN 3 }, 0, by decide +kernel⟩,
    ⟨{ chip := (live).wr R.PLUMB_MAIN_UP pgPLUMB 1 }, by decide +kernel⟩,
    ⟨{ chip := ((live).wr R.PLUMB_MAIN_UP pgPLUMB 1).modTwin (fun t => { t with eqTick := 10000, eqCount := 12 }) }, by decide +kernel⟩,
    ⟨{ chip := ((live).wr R.PLUMB_MAIN_UP pgPLUMB 1).modPort 0 (fun t => { t with eqWait := some 10000 }) }, 0, List.replicate 11 0 ++ [0x10, 0x27, 0, 0, 0], 10000, by decide +kernel⟩⟩

theorem met_SampleAndEqualisationCommandsAct_1 :
    ∃ (s : State) (p : Port) (k : Nat), ((s.chip.port p.val).eqWait = some k) ∧ (k + 3 ≤ s.chip.tick) :=
  ⟨{ chip := (live).modPort 0 (fun t => { t with eqWait := some 0 }) }, 0, 0, by decide +kernel⟩

theorem met_EngineCommandsAct_0 :
    (∃ (s : State) (e : Engine) (k : TSlot), (s.chip.rd R.CE_PERIOD (pgCE e.val) k.val ≠ 0) ∧ (s.chip.tick % s.chip.rd R.CE_PERIOD (pgCE e.val) k.val = s.chip.rd R.CE_OFFSET (pgCE e.val) k.val % s.chip.rd R.CE_PERIOD (pgCE e.val) k.val) ∧ ((s.chip.eng e.val).readyAt k.val s.chip.tick = false) ∧ ((s.chip.eng e.val).up = true) ∧ (s.chip.on R.CE_ENABLE (pgCE e.val) k.val = true) ∧ (s.chip.slotClass e.val k.val = 1 ∨ ((s.chip.slotClass e.val k.val = 2 ∨ (s.chip.slotClass e.val k.val = 3 ∧ s.chip.on R.PG_QUIESCE (pgCE e.val) = false)) ∧ ((s.chip.eng e.val).ready.any (fun r => r.1 == k.val) || ((s.chip.eng e.val).running k.val).isSome) = false)))
    ∧ (∃ (s : State) (e : Engine) (k : TSlot), (s.chip.rd R.CE_PERIOD (pgCE e.val) k.val ≠ 0) ∧ (s.chip.tick % s.chip.rd R.CE_PERIOD (pgCE e.val) k.val = s.chip.rd R.CE_OFFSET (pgCE e.val) k.val % s.chip.rd R.CE_PERIOD (pgCE e.val) k.val) ∧ ((s.chip.eng e.val).readyAt k.val s.chip.tick = false) ∧ ((s.chip.eng e.val).up = true) ∧ (s.chip.on R.CE_ENABLE (pgCE e.val) k.val = true) ∧ (s.chip.slotClass e.val k.val = 2 ∨ (s.chip.slotClass e.val k.val = 3 ∧ s.chip.on R.PG_QUIESCE (pgCE e.val) = false)) ∧ (((s.chip.eng e.val).ready.any (fun r => r.1 == k.val) || ((s.chip.eng e.val).running k.val).isSome) = true))
    ∧ (∃ (s : State) (e : Engine) (r : Nat × Nat), ((s.chip.eng e.val).up = true) ∧ ((s.chip.eng e.val).runA = none) ∧ (s.chip.lowestReady e.val 1 = some r))
    ∧ (∃ (s : State) (e : Engine) (r : Nat × Nat), ((s.chip.eng e.val).up = true) ∧ ((s.chip.eng e.val).runA = none) ∧ (s.chip.lowestReady e.val 1 = none) ∧ ((s.chip.eng e.val).runB = none) ∧ (s.chip.lowestReady e.val 2 = some r))
    ∧ (∃ (s : State) (e : Engine) (r : Nat × Nat), ((s.chip.eng e.val).up = true) ∧ ((s.chip.eng e.val).runA = none) ∧ (s.chip.lowestReady e.val 1 = none) ∧ ((s.chip.eng e.val).runB = none) ∧ (s.chip.lowestReady e.val 2 = none) ∧ ((s.chip.eng e.val).runC = none) ∧ (s.chip.rd R.THM_STEP pgTHM ≠ 9) ∧ (s.chip.nextC e.val = some r)) :=
  ⟨⟨{ chip := ((((live).modEng 0 (fun t => { t with up := true })).wr R.CE_ENABLE (pgCE 0) 1 0).wr R.CE_PERIOD (pgCE 0) 1).wr R.CE_CLASS (pgCE 0) 1 }, 0, 0, by decide +kernel⟩,
    ⟨{ chip := (((((live).modEng 0 (fun t => { t with up := true })).wr R.CE_ENABLE (pgCE 0) 1 0).wr R.CE_PERIOD (pgCE 0) 1).wr R.CE_CLASS (pgCE 0) 2).modEng 0 (fun t => { t with ready := [(0, 1)] }) }, 0, 0, by decide +kernel⟩,
    ⟨{ chip := ((((live).modEng 0 (fun t => { t with up := true })).modEng 0 (fun t => { t with runA := none })).wr R.CE_CLASS (pgCE 0) 1).modEng 0 (fun t => { t with ready := [(0, 10000)] }) }, 0, (0, 10000), by decide +kernel⟩,
    ⟨{ chip := (((((live).modEng 0 (fun t => { t with up := true })).modEng 0 (fun t => { t with runA := none })).modEng 0 (fun t => { t with runB := none })).wr R.CE_CLASS (pgCE 0) 2).modEng 0 (fun t => { t with ready := [(0, 10000)] }) }, 0, (0, 10000), by decide +kernel⟩,
    ⟨{ chip := ((((((live).modEng 0 (fun t => { t with up := true })).modEng 0 (fun t => { t with runA := none })).modEng 0 (fun t => { t with runB := none })).modEng 0 (fun t => { t with runC := none })).wr R.CE_CLASS (pgCE 0) 3).modEng 0 (fun t => { t with ready := [(0, 10000)] }) }, 0, (0, 10000), by decide +kernel⟩⟩

theorem met_EngineCommandsAct_1 :
    (∃ (s : State) (e : Engine) (r : Run), ((s.chip.eng e.val).runA = some r))
    ∧ (∃ (s : State) (e : Engine) (ops : LaneOps) (r : Run), ((s.chip.eng e.val).runA = none) ∧ ((s.chip.eng e.val).runB = some r) ∧ ((s.chip.lanes e.val 1 ops).2 = true))
    ∧ (∃ (s : State) (e : Engine) (ops : LaneOps) (r : Run), ((s.chip.eng e.val).runA = none) ∧ ((s.chip.eng e.val).runB = none) ∧ ((s.chip.eng e.val).runC = some r) ∧ ((s.chip.lanes e.val 2 ops).2 = false) ∧ ((s.chip.eng e.val).residueAt = []) ∧ (s.chip.slotRef e.val r.slot ≥ 0x4000))
    ∧ (∃ (s : State) (e : Engine) (r : Run), ((s.chip.eng e.val).runA = some r) ∧ (r.late = false) ∧ (r.ready < s.chip.tick) ∧ ((s.chip.eng e.val).ready.any (fun x => s.chip.slotClass e.val x.1 == 1) = false))
    ∧ (∃ (s : State) (e : Engine) (x : Nat × Nat), ((s.chip.eng e.val).runA = none) ∧ ((s.chip.eng e.val).ready = [x]) ∧ (s.chip.slotClass e.val x.1 = 1) ∧ (x.2 < s.chip.tick) ∧ ((s.chip.eng e.val).lateA = [])) :=
  ⟨⟨{ chip := (live).modEng 0 (fun t => { t with runA := some ({}) }) }, 0, {}, by decide +kernel⟩,
    ⟨{ chip := ((live).modEng 0 (fun t => { t with runA := none })).modEng 0 (fun t => { t with runB := some ({}) }) }, 0, ⟨[⟨0, true, 1, 1, 2⟩], []⟩, {}, by decide +kernel⟩,
    ⟨{ chip := (((((live).modEng 0 (fun t => { t with runA := none })).modEng 0 (fun t => { t with runB := none })).modEng 0 (fun t => { t with runC := some ({}) })).modEng 0 (fun t => { t with residueAt := [] })).wr R.CE_LAW_REF (pgCE 0) 0x4000 }, 0, ⟨[], []⟩, {}, by decide +kernel⟩,
    ⟨{ chip := (live).modEng 0 (fun t => { t with runA := some ({}) }) }, 0, {}, by decide +kernel⟩,
    ⟨{ chip := (((((live).modEng 0 (fun t => { t with runA := none })).modEng 0 (fun t => { t with ready := [((0, 1))] })).modEng 0 (fun t => { t with lateA := [] })).wr R.CE_CLASS (pgCE 0) 1).modEng 0 (fun t => { t with ready := [(0, 1)] }) }, 0, (0, 1), by decide +kernel⟩⟩

theorem met_EngineCommandsAct_2 :
    (∃ (s : State) (p : Port), (s.chip.cmdDue p.val = true) ∧ (s.chip.joinerSends p.val = true) ∧ ((s.chip.port p.val).cmdTick ≠ s.chip.tick))
    ∧ (∃ (s : State) (p : Port), (s.chip.cmdDue p.val = true) ∧ (s.chip.joinerSends p.val = true) ∧ ((s.chip.port p.val).cmdNew = none ∨ (s.chip.port p.val).cmdTick = s.chip.tick))
    ∧ (∃ (s : State) (e : Engine), ((s.chip.eng e.val).up = true)) :=
  ⟨⟨{ chip := ((soloLead (live)).wr R.PG_ENABLE (pgSP 0) 1).modPort 0 (fun t => { t with epochValid := true, cmdNew := some {} }) }, 0, by decide +kernel⟩,
    ⟨{ chip := ((soloLead (live)).wr R.PG_ENABLE (pgSP 0) 1).modPort 0 (fun t => { t with epochValid := true }) }, 0, by decide +kernel⟩,
    ⟨{ chip := (live).modEng 0 (fun t => { t with up := true }) }, 0, by decide +kernel⟩⟩

theorem met_StageEndFramesAct_0 :
    (∃ (s : State) (p : Port) (l : Link) (f : Frame) (x : Nat), ((s.chip.stage p.val).powered = true) ∧ (frameOk f = true) ∧ ((hdrOf f.bytes).typ = 2) ∧ ((s.chip.stage p.val).epochValid = true → ((s.chip.stage p.val).admitted l = true ∧ (cmdOf (hdrOf f.bytes) (bodyOf f)).epoch = (s.chip.stage p.val).epoch)) ∧ ((s.chip.stage p.val).window (cmdOf (hdrOf f.bytes) (bodyOf f)).applyTick.toNat (hdrOf f.bytes).seq = some x) ∧ ((s.chip.stage p.val).cmdOk (cmdOf (hdrOf f.bytes) (bodyOf f)) = true) ∧ (((s.chip.stage p.val).pend l).length < 4) ∧ (((s.chip.stage p.val).pend l).any (fun y => y.applyTick == (cmdOf (hdrOf f.bytes) (bodyOf f)).applyTick) = false))
    ∧ (∃ (s : State) (p : Port) (l : Link) (f : Frame), ((s.chip.stage p.val).powered = true) ∧ (frameOk f = true) ∧ ((hdrOf f.bytes).typ = 8) ∧ ((s.chip.stage p.val).epochValid = true → (hdrOf f.bytes).epoch = (s.chip.stage p.val).epoch.toNat) ∧ ((s.chip.stage p.val).follows l (hdrOf f.bytes).lead s.chip.now = true) ∧ (bitOf (leAt (bodyOf f) 14 1) 0 = false ∨ ((s.chip.stage p.val).window (leAt (bodyOf f) 12 2) (hdrOf f.bytes).seq).any (fun x => !(s.chip.stage p.val).rsps.any (fun r => r.link == l && r.tick == x)) = true) ∧ (leAt (bodyOf f) 8 4 ≠ 0) ∧ (bitOf (leAt (bodyOf f) 14 1) 1 = true) ∧ (400 < (sgn 64 (((s.chip.stage p.val).datum + 2 ^ 64 - (leAt (bodyOf f) 0 8 + leAt (bodyOf f) 8 4) % 2 ^ 64) % 2 ^ 64)).natAbs))
    ∧ (∃ (s : State) (p : Port) (l : Link) (f : Frame), ((s.chip.stage p.val).powered = true) ∧ (frameOk f = true) ∧ ((hdrOf f.bytes).typ = 8) ∧ ((s.chip.stage p.val).epochValid = true → (hdrOf f.bytes).epoch = (s.chip.stage p.val).epoch.toNat) ∧ ((s.chip.stage p.val).follows l (hdrOf f.bytes).lead s.chip.now = false ∨ (leAt (bodyOf f) 8 4 = 0 ∧ (s.chip.stage p.val).datum < 2 ^ 64)))
    ∧ (∃ (s : State) (p : Port) (f : Frame), ((s.chip.stage p.val).powered = true) ∧ (frameOk f = true) ∧ ((hdrOf f.bytes).typ = 8) ∧ ((s.chip.stage p.val).epochValid = true → (hdrOf f.bytes).epoch = (s.chip.stage p.val).epoch.toNat) ∧ (bitOf (leAt (bodyOf f) 14 1) 0 = true) ∧ ((s.chip.stage p.val).window (leAt (bodyOf f) 12 2) (hdrOf f.bytes).seq = none))
    ∧ (∃ (s : State) (p : Port) (f : Frame), ((s.chip.stage p.val).powered = true) ∧ (frameOk f = true) ∧ ((hdrOf f.bytes).typ = 9) ∧ ((hdrOf f.bytes).lead = true)) :=
  ⟨⟨{ chip := ((live).modStage 0 (fun t => { t with powered := true })).modStage 0 (fun t => { t with admitA := true }) }, 0, .a, frameOf 2 0 (body16 [4, 0]), 4, by decide +kernel⟩,
    ⟨{ chip := (live).modStage 0 (fun t => { t with powered := true }) }, 0, .a, frameOf 8 0 (body16 [0x40, 0x42, 0x0F, 0, 0, 0, 0, 0, 9, 0, 0, 0, 0, 0, 2]), by decide +kernel⟩,
    ⟨{ chip := (live).modStage 0 (fun t => { t with powered := true }) }, 0, .a, frameOf 8 0 (body16 []), by decide +kernel⟩,
    ⟨{ chip := (live).modStage 0 (fun t => { t with powered := true }) }, 0, frameOf 8 0 (body16 [0, 0, 0, 0, 0, 0, 0, 0, 0, 0, 0, 0, 0, 0, 1]), by decide +kernel⟩,
    ⟨{ chip := (live).modStage 0 (fun t => { t with powered := true }) }, 0, frameOf 9 0 (body16 [0, 1]), by decide +kernel⟩⟩

theorem met_StageEndFramesAct_1 :
    (∃ (s : State) (p : Port) (f : Frame), ((s.chip.stage p.val).powered = true) ∧ (frameOk f = true) ∧ ((hdrOf f.bytes).typ = 9) ∧ ((hdrOf f.bytes).lead = false))
    ∧ (∃ (s : State) (p : Port) (l : Link) (f : Frame) (x : Nat), ((s.chip.stage p.val).powered = true) ∧ (frameOk f = true) ∧ ((hdrOf f.bytes).typ = 4) ∧ ((s.chip.stage p.val).cfgEpoch (hdrOf f.bytes) = true) ∧ ((s.chip.stage p.val).window (leAt (bodyOf f) 2 2) (hdrOf f.bytes).seq = some x) ∧ ((s.chip.stage p.val).rsps.any (fun r => r.link == l && r.tick == x) = false) ∧ (leAt (bodyOf f) 0 1 % 16 = 0) ∧ ((s.chip.stage p.val).sideUp = []))
    ∧ (∃ (s : State) (p : Port) (l : Link) (f : Frame) (x : Nat), ((s.chip.stage p.val).powered = true) ∧ (frameOk f = true) ∧ ((hdrOf f.bytes).typ = 4) ∧ ((s.chip.stage p.val).cfgEpoch (hdrOf f.bytes) = true) ∧ ((s.chip.stage p.val).window (leAt (bodyOf f) 2 2) (hdrOf f.bytes).seq = some x) ∧ ((s.chip.stage p.val).rsps.any (fun r => r.link == l && r.tick == x) = false) ∧ (leAt (bodyOf f) 0 1 % 16 = 1) ∧ (leAt (bodyOf f) 6 1 % 4 = 1) ∧ (seExists (s.chip.stage p.val).ident (leAt (bodyOf f) 4 2) = true))
    ∧ (∃ (s : State) (p : Port) (l : Link) (f : Frame) (x : Nat), ((s.chip.stage p.val).powered = true) ∧ (frameOk f = true) ∧ ((hdrOf f.bytes).typ = 4) ∧ ((s.chip.stage p.val).cfgEpoch (hdrOf f.bytes) = true) ∧ ((s.chip.stage p.val).window (leAt (bodyOf f) 2 2) (hdrOf f.bytes).seq = some x) ∧ ((s.chip.stage p.val).rsps.any (fun r => r.link == l && r.tick == x) = false) ∧ (leAt (bodyOf f) 0 1 % 16 = 2) ∧ ((s.chip.stage p.val).epochValid = true → (s.chip.stage p.val).admitted l = true) ∧ ((hdrOf f.bytes).lead = true) ∧ (leAt (bodyOf f) 6 1 % 4 = 1) ∧ (leAt (bodyOf f) 4 2 ≠ 1) ∧ (seWritable (s.chip.stage p.val).ident (leAt (bodyOf f) 4 2) (leAt (bodyOf f) 8 4) = true))
    ∧ (∃ (s : State) (p : Port) (l : Link) (f : Frame) (x : Nat), ((s.chip.stage p.val).powered = true) ∧ (frameOk f = true) ∧ ((hdrOf f.bytes).typ = 4) ∧ ((s.chip.stage p.val).cfgEpoch (hdrOf f.bytes) = true) ∧ ((s.chip.stage p.val).window (leAt (bodyOf f) 2 2) (hdrOf f.bytes).seq = some x) ∧ ((s.chip.stage p.val).rsps.any (fun r => r.link == l && r.tick == x) = false) ∧ (leAt (bodyOf f) 0 1 % 16 = 2) ∧ ((s.chip.stage p.val).epochValid = true → (s.chip.stage p.val).admitted l = true) ∧ ((hdrOf f.bytes).lead = true) ∧ (leAt (bodyOf f) 6 1 % 4 = 1) ∧ (leAt (bodyOf f) 4 2 = 1) ∧ (bitOf (leAt (bodyOf f) 8 4) 0 = true) ∧ ((s.chip.stage p.val).cmd.mode = 0)) :=
  ⟨⟨{ chip := (live).modStage 0 (fun t => { t with powered := true }) }, 0, frameOf 9 0 (body16 [0, 1]) false, by decide +kernel⟩,
    ⟨{ chip := ((live).modStage 0 (fun t => { t with powered := true })).modStage 0 (fun t => { t with sideUp := [] }) }, 0, .a, frameOf 4 0 (body16 [0, 0, 4, 0, 0, 0, 0, 0, 0]), 4, by decide +kernel⟩,
    ⟨{ chip := (live).modStage 0 (fun t => { t with powered := true }) }, 0, .a, frameOf 4 0 (body16 [1, 0, 4, 0, 0, 0, 1, 0, 0]), 4, by decide +kernel⟩,
    ⟨{ chip := ((live).modStage 0 (fun t => { t with powered := true })).modStage 0 (fun t => { t with ident := feedIdent }) }, 0, .a, frameOf 4 0 (body16 [2, 0, 4, 0, 0, 0, 1, 0, 1]), 4, by decide +kernel⟩,
    ⟨{ chip := (live).modStage 0 (fun t => { t with powered := true }) }, 0, .a, frameOf 4 0 (body16 [2, 0, 4, 0, 1, 0, 1, 0, 1]), 4, by decide +kernel⟩⟩

theorem met_StageEndFramesAct_2 :
    (∃ (s : State) (p : Port) (l : Link) (f : Frame) (x : Nat), ((s.chip.stage p.val).powered = true) ∧ (frameOk f = true) ∧ ((hdrOf f.bytes).typ = 4) ∧ ((s.chip.stage p.val).cfgEpoch (hdrOf f.bytes) = true) ∧ ((s.chip.stage p.val).window (leAt (bodyOf f) 2 2) (hdrOf f.bytes).seq = some x) ∧ ((s.chip.stage p.val).rsps.any (fun r => r.link == l && r.tick == x) = false) ∧ (leAt (bodyOf f) 0 1 % 16 = 2) ∧ ((s.chip.stage p.val).epochValid = true → (s.chip.stage p.val).admitted l = true) ∧ ((hdrOf f.bytes).lead = true) ∧ (leAt (bodyOf f) 6 1 % 4 = 1) ∧ (leAt (bodyOf f) 4 2 = 1) ∧ (bitOf (leAt (bodyOf f) 8 4) 1 = true) ∧ ((s.chip.stage p.val).cmd.mode = 0))
    ∧ (∃ (s : State) (p : Port) (l : Link) (f : Frame) (x : Nat), ((s.chip.stage p.val).powered = true) ∧ (frameOk f = true) ∧ ((hdrOf f.bytes).typ = 4) ∧ ((s.chip.stage p.val).cfgEpoch (hdrOf f.bytes) = true) ∧ ((s.chip.stage p.val).window (leAt (bodyOf f) 2 2) (hdrOf f.bytes).seq = some x) ∧ ((s.chip.stage p.val).rsps.any (fun r => r.link == l && r.tick == x) = false) ∧ (leAt (bodyOf f) 0 1 % 16 = 2) ∧ ((s.chip.stage p.val).epochValid = true → (s.chip.stage p.val).admitted l = true) ∧ ((hdrOf f.bytes).lead = true) ∧ (leAt (bodyOf f) 6 1 % 4 = 1) ∧ (leAt (bodyOf f) 4 2 = 1) ∧ (bitOf (leAt (bodyOf f) 8 4) 2 = true) ∧ ((s.chip.stage p.val).cmd.mode = 0 ∨ (bitOf (leAt (bodyOf f) 8 4) 0 = false ∧ bitOf (leAt (bodyOf f) 8 4) 1 = false)))
    ∧ (∃ (s : State) (p : Port) (l : Link) (f : Frame) (x : Nat), ((s.chip.stage p.val).powered = true) ∧ (frameOk f = true) ∧ ((hdrOf f.bytes).typ = 4) ∧ ((s.chip.stage p.val).cfgEpoch (hdrOf f.bytes) = true) ∧ ((s.chip.stage p.val).window (leAt (bodyOf f) 2 2) (hdrOf f.bytes).seq = some x) ∧ ((s.chip.stage p.val).rsps.any (fun r => r.link == l && r.tick == x) = false) ∧ (leAt (bodyOf f) 0 1 % 16 = 3))
    ∧ (∃ (s : State) (p : Port) (l : Link) (f : Frame) (x : Nat), ((s.chip.stage p.val).powered = true) ∧ (frameOk f = true) ∧ ((hdrOf f.bytes).typ = 6) ∧ ((s.chip.stage p.val).epochValid = true → ((s.chip.stage p.val).admitted l = true ∧ (hdrOf f.bytes).epoch = (s.chip.stage p.val).epoch.toNat)) ∧ ((s.chip.stage p.val).window (leAt (bodyOf f) 2 2) (hdrOf f.bytes).seq = some x) ∧ ((s.chip.stage p.val).rsps.any (fun r => r.link == l && r.tick == x) = false) ∧ ((hdrOf f.bytes).lead = true) ∧ (leAt (bodyOf f) 0 1 % 16 ≠ 0) ∧ (leAt (bodyOf f) 0 1 % 16 ≤ 12) ∧ ((s.chip.stage p.val).sideDn.length < 4) ∧ ((s.chip.stage p.val).sideTx = none) ∧ (bitOf (leAt (bodyOf f) 0 1) 4 = false)) :=
  ⟨⟨{ chip := (live).modStage 0 (fun t => { t with powered := true }) }, 0, .a, frameOf 4 0 (body16 [2, 0, 4, 0, 1, 0, 1, 0, 2]), 4, by decide +kernel⟩,
    ⟨{ chip := (live).modStage 0 (fun t => { t with powered := true }) }, 0, .a, frameOf 4 0 (body16 [2, 0, 4, 0, 1, 0, 1, 0, 4]), 4, by decide +kernel⟩,
    ⟨{ chip := (live).modStage 0 (fun t => { t with powered := true }) }, 0, .a, frameOf 4 0 (body16 [3, 0, 4, 0, 0, 0, 0, 0, 0]), 4, by decide +kernel⟩,
    ⟨{ chip := ((live).modStage 0 (fun t => { t with powered := true })).modStage 0 (fun t => { t with sideTx := none }) }, 0, .a, frameOf 6 0 (body16 [1, 0, 4]), 4, by decide +kernel⟩⟩

theorem met_StageEndOwnEventsAct_0 :
    (∃ (s : State) (p : Port) (x : Cmd), ((s.chip.stage p.val).powered = true) ∧ ((s.chip.stage p.val).envNew = []) ∧ ((s.chip.stage p.val).epochValid = true) ∧ ((s.chip.stage p.val).admitA = true) ∧ ((s.chip.stage p.val).pendA.find? (fun k => k.applyTick.toNat == (s.chip.stage p.val).tick % 65536) = some x) ∧ (x.epoch = (s.chip.stage p.val).epoch) ∧ (x.mode = 0) ∧ ((s.chip.stage p.val).pendB.find? (fun k => k.applyTick.toNat == (s.chip.stage p.val).tick % 65536) = none))
    ∧ (∃ (s : State) (p : Port) (x : Cmd), ((s.chip.stage p.val).powered = true) ∧ ((s.chip.stage p.val).envNew = []) ∧ ((s.chip.stage p.val).epochValid = true) ∧ ((s.chip.stage p.val).admitB = true) ∧ ((s.chip.stage p.val).pendB.find? (fun k => k.applyTick.toNat == (s.chip.stage p.val).tick % 65536) = some x) ∧ (x.epoch = (s.chip.stage p.val).epoch) ∧ (x.mode = 1) ∧ ((s.chip.stage p.val).envUsable x.envIdx = true) ∧ ((s.chip.stage p.val).pendA.find? (fun k => k.applyTick.toNat == (s.chip.stage p.val).tick % 65536) = none))
    ∧ (∃ (s : State) (p : Port), ((s.chip.stage p.val).powered = true) ∧ ((s.chip.stage p.val).pendA.find? (fun k => k.applyTick.toNat == (s.chip.stage p.val).tick % 65536) = none) ∧ ((s.chip.stage p.val).pendB.find? (fun k => k.applyTick.toNat == (s.chip.stage p.val).tick % 65536) = none))
    ∧ (∃ (s : State) (p : Port), ((s.chip.stage p.val).powered = true) ∧ ((s.chip.stage p.val).state = 1) ∧ (8 ≤ (s.chip.stage p.val).miss))
    ∧ (∃ (s : State) (p : Port), ((s.chip.stage p.val).powered = true) ∧ ((s.chip.stage p.val).state = 2) ∧ (64 ≤ (s.chip.stage p.val).miss)) :=
  ⟨⟨{ chip := (((((live).modStage 0 (fun t => { t with powered := true })).modStage 0 (fun t => { t with envNew := [] })).modStage 0 (fun t => { t with epochValid := true })).modStage 0 (fun t => { t with admitA := true })).modStage 0 (fun t => { t with pendA := [{}] }) }, 0, {}, by decide +kernel⟩,
    ⟨{ chip := (((((live).modStage 0 (fun t => { t with powered := true })).modStage 0 (fun t => { t with envNew := [] })).modStage 0 (fun t => { t with epochValid := true })).modStage 0 (fun t => { t with admitB := true })).modStage 0 (fun t => { t with pendB := [{ mode := 1 }], words := [(0x10, 0x80000001), (0x11, 400)] }) }, 0, { mode := 1 }, by decide +kernel⟩,
    ⟨{ chip := (live).modStage 0 (fun t => { t with powered := true }) }, 0, by decide +kernel⟩,
    ⟨{ chip := (((live).modStage 0 (fun t => { t with powered := true })).modStage 0 (fun t => { t with state := 1 })).modStage 0 (fun t => { t with miss := 8 }) }, 0, by decide +kernel⟩,
    ⟨{ chip := (((live).modStage 0 (fun t => { t with powered := true })).modStage 0 (fun t => { t with state := 2 })).modStage 0 (fun t => { t with miss := 64 }) }, 0, by decide +kernel⟩⟩

theorem met_StageEndOwnEventsAct_1 :
    (∃ (s : State) (p : Port) (r : RawSample), ((s.chip.stage p.val).powered = true) ∧ (seFeed (s.chip.stage p.val).ident = true) ∧ (seCap (s.chip.stage p.val).ident 1 = true) ∧ ((s.chip.stage p.val).word 3 % 65536 ≤ (r.chan ((s.chip.stage p.val).word 3 / 65536 % 4)).natAbs))
    ∧ (∃ (s : State) (p : Port) (r : RawSample), ((s.chip.stage p.val).powered = true) ∧ ((s.chip.stage p.val).ident.stype = 0) ∧ (seCap (s.chip.stage p.val).ident 0 = true) ∧ (sgn 16 ((s.chip.stage p.val).word 4) ≤ r.chan ((s.chip.stage p.val).word 4 / 65536 % 4)))
    ∧ (∃ (s : State) (p : Port), ((s.chip.stage p.val).powered = true))
    ∧ (∃ (s : State) (p : Port), ((s.chip.stage p.val).powered = true) ∧ (seFeed (s.chip.stage p.val).ident = true) ∧ (seCap (s.chip.stage p.val).ident 2 = true) ∧ ((s.chip.stage p.val).passFet = false) ∧ ((s.chip.stage p.val).measuring = false) ∧ (∀ u, (s.chip.stage p.val).measured = some u → u + 10 * dqS ≤ s.chip.now))
    ∧ (∃ (s : State) (p : Port), ((s.chip.stage p.val).powered = true) ∧ ((s.chip.stage p.val).measuring = true)) :=
  ⟨⟨{ chip := ((live).modStage 0 (fun t => { t with powered := true })).modStage 0 (fun t => { t with ident := feedIdent }) }, 0, ⟨40000, 40000, 40000, 40000, none, none⟩, by decide +kernel⟩,
    ⟨{ chip := ((live).modStage 0 (fun t => { t with powered := true })).modStage 0 (fun t => { t with ident := convIdent }) }, 0, ⟨40000, 40000, 40000, 40000, none, none⟩, by decide +kernel⟩,
    ⟨{ chip := (live).modStage 0 (fun t => { t with powered := true }) }, 0, by decide +kernel⟩,
    ⟨{ chip := ((((live).modStage 0 (fun t => { t with powered := true })).modStage 0 (fun t => { t with passFet := false })).modStage 0 (fun t => { t with measuring := false })).modStage 0 (fun t => { t with ident := feedIdent }) }, 0, by decide +kernel⟩,
    ⟨{ chip := ((live).modStage 0 (fun t => { t with powered := true })).modStage 0 (fun t => { t with measuring := true }) }, 0, by decide +kernel⟩⟩

theorem met_StageEndOwnEventsAct_2 :
    (∃ (s : State) (p : Port) (m : Bytes), ((s.chip.stage p.val).powered = true) ∧ (seRelay (s.chip.stage p.val).ident = true) ∧ ((s.chip.stage p.val).sideTx = some m) ∧ ((s.chip.stage p.val).measuring = false) ∧ ((s.chip.stage p.val).lineFree + 12 * sideBit ≤ s.chip.now))
    ∧ (∃ (s : State) (p : Port) (m : Bytes), ((s.chip.stage p.val).powered = true) ∧ (seRelay (s.chip.stage p.val).ident = true) ∧ (m ≠ []) ∧ ((s.chip.stage p.val).measuring = false) ∧ ((s.chip.stage p.val).sideIdle s.chip.now = true))
    ∧ (∃ (s : State) (p : Port), ((s.chip.stage p.val).powered = true) ∧ ((s.chip.stage p.val).measuring = true ∨ (s.chip.stage p.val).sideIdle s.chip.now = false))
    ∧ (∃ (s : State) (p : Port), ((s.chip.stage p.val).powered = true))
    ∧ (∃ (s : State) (p : Port), ((s.chip.stage p.val).powered = true)) :=
  ⟨⟨{ chip := ((((live).modStage 0 (fun t => { t with powered := true })).modStage 0 (fun t => { t with sideTx := some ([1]) })).modStage 0 (fun t => { t with measuring := false })).modStage 0 (fun t => { t with ident := feedIdent, sideTx := some [1] }) }, 0, [1], by decide +kernel⟩,
    ⟨{ chip := (((live).modStage 0 (fun t => { t with powered := true })).modStage 0 (fun t => { t with measuring := false })).modStage 0 (fun t => { t with ident := feedIdent }) }, 0, [1], by decide +kernel⟩,
    ⟨{ chip := ((live).modStage 0 (fun t => { t with powered := true })).modStage 0 (fun t => { t with ident := feedIdent, measuring := true }) }, 0, by decide +kernel⟩,
    ⟨{ chip := (live).modStage 0 (fun t => { t with powered := true }) }, 0, by decide +kernel⟩,
    ⟨{ chip := (live).modStage 0 (fun t => { t with powered := true }) }, 0, by decide +kernel⟩⟩

theorem met_LinkStateCommandsAct_0 :
    (∃ (s : State) (p : Port), (s.chip.enabled (pgSP p.val) = true) ∧ ((s.chip.port p.val).aligned = true) ∧ (4 ≤ (s.chip.port p.val).badSlots))
    ∧ (∃ (s : State) (p : Port), (s.chip.enabled (pgSP p.val) = true))
    ∧ (∃ (s : State) (p : Port), (s.chip.enabled (pgSP p.val) = true) ∧ ((s.chip.port p.val).linkUp = true) ∧ ((s.chip.port p.val).lastGood + 1024 * dqTick ≤ s.chip.now))
    ∧ (∃ (s : State) (p : Port), (s.chip.enabled (pgSP p.val) = true) ∧ ((s.chip.port p.val).linkUp = false) ∧ (64 ≤ (s.chip.port p.val).goodRun))
    ∧ (∃ (s : State) (p : Port), (s.chip.enabled (pgSP p.val) = true) ∧ ((s.chip.port p.val).linkUp = true) ∧ ((s.chip.port p.val).announce.isSome = true) ∧ ((s.chip.port p.val).epochValid = true) ∧ (s.chip.link p.val = lkDown) ∧ (s.chip.on R.SP_AUTO_DISC (pgSP p.val) = true)) :=
  ⟨⟨{ chip := (((live).wr R.PG_ENABLE (pgSP 0) 1).modPort 0 (fun t => { t with aligned := true })).modPort 0 (fun t => { t with badSlots := 4 }) }, 0, by decide +kernel⟩,
    ⟨{ chip := (live).wr R.PG_ENABLE (pgSP 0) 1 }, 0, by decide +kernel⟩,
    ⟨{ chip := ((live).wr R.PG_ENABLE (pgSP 0) 1).modPort 0 (fun t => { t with linkUp := true }) }, 0, by decide +kernel⟩,
    ⟨{ chip := (((live).wr R.PG_ENABLE (pgSP 0) 1).modPort 0 (fun t => { t with linkUp := false })).modPort 0 (fun t => { t with goodRun := 64 }) }, 0, by decide +kernel⟩,
    ⟨{ chip := ((((((live).wr R.PG_ENABLE (pgSP 0) 1).modPort 0 (fun t => { t with linkUp := true })).modPort 0 (fun t => { t with epochValid := true })).wr R.SP_LINK (pgSP 0) lkDown).wr R.SP_AUTO_DISC (pgSP 0) 1).modPort 0 (fun t => { t with announce := some feedIdent }) }, 0, by decide +kernel⟩⟩

theorem met_LinkStateCommandsAct_1 :
    (∃ (s : State) (p : Port), (s.chip.syncSlot p.val = true))
    ∧ (∃ (s : State) (p : Port) (f : Frame) (c1 : Chip) (h : Hdr) (b : Bytes) (r : Nat) (t1 : Nat), (s.chip.upCheck p.val f = (c1, some (h, b))) ∧ (h.typ = 7) ∧ (leAt b 0 1 = 1) ∧ ((c1.port p.val).syncT1.find? (fun e => e.1 % 65536 == (hdrOf f.bytes).seq) = some (r, t1)) ∧ (c1.link p.val = lkReady))
    ∧ (∃ (s : State) (p : Port), (s.chip.due (tmKey tmDisc p.val) = true) ∧ (lkAlign ≤ s.chip.link p.val) ∧ (s.chip.link p.val ≤ lkConfig) ∧ ((s.chip.port p.val).attempts < 3))
    ∧ (∃ (s : State) (p : Port), (s.chip.due (tmKey tmDiscRetry p.val) = true) ∧ (s.chip.link p.val = lkFailed)) :=
  ⟨⟨{ chip := (soloLead (live)).wr R.PG_ENABLE (pgSP 0) 1 }, 0, by decide +kernel⟩,
    ⟨{ chip := portAt lkReady (fun t => { t with syncT1 := [(0, 5)] }) }, 0, frameOf 7 0 (body16 [1]), ((portAt lkReady (fun t => { t with syncT1 := [(0, 5)] })).upCheck 0 (frameOf 7 0 (body16 [1]))).1, hdrOf (frameOf 7 0 (body16 [1])).bytes, bodyOf (frameOf 7 0 (body16 [1])), 0, 5, by decide +kernel⟩,
    ⟨{ chip := (elapsed (tmKey tmDisc 0) (live)).wr R.SP_LINK (pgSP 0) lkAlign }, 0, by decide +kernel⟩,
    ⟨{ chip := (elapsed (tmKey tmDiscRetry 0) (live)).wr R.SP_LINK (pgSP 0) lkFailed }, 0, by decide +kernel⟩⟩

theorem met_LinkRequestCommandsAct_0 :
    (∃ (s : State) (p : Port) (f : Frame) (c1 : Chip) (h : Hdr) (b : Bytes), (s.chip.upCheck p.val f = (c1, some (h, b))) ∧ (h.typ = 7) ∧ (leAt b 0 1 = 0) ∧ (c1.link p.val = lkIdent) ∧ ((announceOf b).linkVer = 1) ∧ (1 ≤ (announceOf b).channels.toNat) ∧ ((announceOf b).channels.toNat ≤ 4) ∧ ((announceOf b).pairs.toNat ≤ 2))
    ∧ (∃ (s : State) (p : Port) (f : Frame) (c1 : Chip) (h : Hdr) (b : Bytes) (q : CfgReq), (s.chip.upCheck p.val f = (c1, some (h, b))) ∧ (h.typ = 3) ∧ ((c1.port p.val).req = some q) ∧ (leAt b 0 1 % 16 = q.op) ∧ (leAt b 0 1 / 16 = q.tag) ∧ (leAt b 1 1 = 0) ∧ ((c1.port p.val).cfgQ = []) ∧ (c1.link p.val = lkReady))
    ∧ (∃ (s : State) (p : Port) (f : Frame) (c1 : Chip) (h : Hdr) (b : Bytes), (s.chip.upCheck p.val f = (c1, some (h, b))) ∧ (h.typ = 5) ∧ (bitOf (leAt b 0 1) 4 = true) ∧ ((c1.port p.val).prevSide = leAt b 1 1))
    ∧ (∃ (s : State) (p : Port) (q : CfgReq), ((s.chip.port p.val).req = some q) ∧ (q.wait = false) ∧ (q.rspTick + 4 < s.chip.tick) ∧ (q.tries < 3))
    ∧ (∃ (s : State) (p : Port) (q : CfgReq), ((s.chip.port p.val).req = some q) ∧ (q.wait = false) ∧ (q.rspTick + 4 < s.chip.tick) ∧ (3 ≤ q.tries) ∧ ((s.chip.port p.val).cfgQ = [])) :=
  ⟨⟨{ chip := portAt lkIdent (fun t => t) }, 0, frameOf 7 0 (body16 [0, 2, 1, 1, 0, 0, 0, 0, 0, 0, 0, 0, 1]), ((portAt lkIdent (fun t => t)).upCheck 0 (frameOf 7 0 (body16 [0, 2, 1, 1, 0, 0, 0, 0, 0, 0, 0, 0, 1]))).1, hdrOf (frameOf 7 0 (body16 [0, 2, 1, 1, 0, 0, 0, 0, 0, 0, 0, 0, 1])).bytes, bodyOf (frameOf 7 0 (body16 [0, 2, 1, 1, 0, 0, 0, 0, 0, 0, 0, 0, 1])), by decide +kernel⟩,
    ⟨{ chip := portAt lkReady (fun t => { t with req := some {} }) }, 0, frameOf 3 0 (body16 []), ((portAt lkReady (fun t => { t with req := some {} })).upCheck 0 (frameOf 3 0 (body16 []))).1, hdrOf (frameOf 3 0 (body16 [])).bytes, bodyOf (frameOf 3 0 (body16 [])), {}, by decide +kernel⟩,
    ⟨{ chip := portAt 0 (fun t => t) }, 0, frameOf 5 0 (body16 [16, 0]), ((portAt 0 (fun t => t)).upCheck 0 (frameOf 5 0 (body16 [16, 0]))).1, hdrOf (frameOf 5 0 (body16 [16, 0])).bytes, bodyOf (frameOf 5 0 (body16 [16, 0])), by decide +kernel⟩,
    ⟨{ chip := (live).modPort 0 (fun t => { t with req := some ({}) }) }, 0, {}, by decide +kernel⟩,
    ⟨{ chip := (((live).modPort 0 (fun t => { t with req := some ({ tries := 3 }) })).modPort 0 (fun t => { t with cfgQ := [] })).modPort 0 (fun t => { t with req := some { tries := 3 } }) }, 0, { tries := 3 }, by decide +kernel⟩⟩

theorem met_LinkRequestCommandsAct_1 :
    (∃ (s : State) (p : Port), (s.chip.portLeads p.val = true) ∧ ((s.chip.port p.val).sidePending = true) ∧ (s.chip.linkReady p.val = true) ∧ ((s.chip.port p.val).req = none) ∧ ((s.chip.port p.val).cfgQ = []))
    ∧ (∃ (s : State) (p : Port) (n : BitVec 8), ((s.chip.port p.val).fencing = some n) ∧ (s.chip.fenceSlot p.val = true) ∧ (s.chip.portLeads p.val = true) ∧ ((s.chip.port p.val).sentCmd = false ∨ (s.chip.port p.val).lastApply < s.chip.tick))
    ∧ (∃ (s : State) (p : Port), ((s.chip.port p.val).admitting = true) ∧ (s.chip.portLeads p.val = true) ∧ (s.chip.peerAdmit p.val = false) ∧ (s.chip.fenceSlot p.val = true))
    ∧ (∃ (s : State) (p : Port), ((s.chip.port p.val).admitting = true) ∧ (s.chip.portLeads p.val = true) ∧ (s.chip.peerAdmit p.val = true))
    ∧ (∃ (s : State) (p : Port), (s.chip.due (tmKey tmFence p.val) = true) ∧ ((s.chip.port p.val).fencing.isSome = true)) :=
  ⟨⟨{ chip := ((((((live).wr R.TWIN_STATE pgTWIN 1).wr R.SYS_SOLO_ALLOWED pgSYS 1).modPort 0 (fun t => { t with sidePending := true })).wr R.SP_LINK (pgSP 0) lkReady).modPort 0 (fun t => { t with req := none })).modPort 0 (fun t => { t with cfgQ := [] }) }, 0, by decide +kernel⟩,
    ⟨{ chip := ((soloLead ((((live).modPort 0 (fun t => { t with fencing := some 1 })).wr R.TWIN_STATE pgTWIN 1).wr R.SYS_SOLO_ALLOWED pgSYS 1)).wr R.PG_ENABLE (pgSP 0) 1).modPort 0 (fun t => { t with fencing := some 1 }) }, 0, 1, by decide +kernel⟩,
    ⟨{ chip := ((soloLead ((((live).modPort 0 (fun t => { t with admitting := true })).wr R.TWIN_STATE pgTWIN 1).wr R.SYS_SOLO_ALLOWED pgSYS 1)).wr R.PG_ENABLE (pgSP 0) 1).modPort 0 (fun t => { t with admitting := true }) }, 0, by decide +kernel⟩,
    ⟨{ chip := ((((live).modPort 0 (fun t => { t with admitting := true })).wr R.TWIN_STATE pgTWIN 1).wr R.SYS_SOLO_ALLOWED pgSYS 1).wr R.SP_ADMIT_B (pgSP 0) 1 }, 0, by decide +kernel⟩,
    ⟨{ chip := (elapsed (tmKey tmFence 0) (live)).modPort 0 (fun t => { t with fencing := some 1 }) }, 0, by decide +kernel⟩⟩

theorem met_PhaseTimersAct_0 :
    (∃ (s : State) (p : Port) (i : Nat) (l : LawSt), (s.chip.due (tmKey tmHiccup p.val) = true) ∧ (s.chip.ph p.val = 3) ∧ (s.chip.portLaw p.val = some (i, l)))
    ∧ (∃ (s : State) (p : Port), (s.chip.due (tmKey tmHicClear p.val) = true) ∧ (s.chip.ph p.val = 2))
    ∧ (∃ (s : State) (p : Port), (s.chip.due (tmKey tmCrowbar p.val) = true) ∧ ((s.chip.port p.val).crowbar = true))
    ∧ (∃ (s : State) (p : Port), (s.chip.due (tmKey tmCrowbar p.val) = true) ∧ ((s.chip.port p.val).crowbar = false) ∧ ((s.chip.port p.val).clearReq = true) ∧ (s.chip.ph p.val = 5))
    ∧ (∃ (s : State) (p : Port) (d : Bytes), (s.chip.tlmOf p.val = some d) ∧ (dTlmWin d ≠ 0) ∧ (20 * dTlmWin d + 2 ≤ s.chip.tick) ∧ ((s.chip.tick - 2) % (20 * dTlmWin d) = 0) ∧ (s.chip.armed (tmKey tmTlm p.val) = false ∨ s.chip.due (tmKey tmTlm p.val) = true)) :=
  ⟨⟨{ chip := { (elapsed (tmKey tmHiccup 0) (live)).wr R.SP_PH_STATE (pgSP 0) 3 with laws := [(0, { bound := true, desc := descOf [] })] } }, 0, 0, { bound := true, desc := descOf [] }, by decide +kernel⟩,
    ⟨{ chip := (elapsed (tmKey tmHicClear 0) (live)).wr R.SP_PH_STATE (pgSP 0) 2 }, 0, by decide +kernel⟩,
    ⟨{ chip := (elapsed (tmKey tmCrowbar 0) (live)).modPort 0 (fun t => { t with crowbar := true }) }, 0, by decide +kernel⟩,
    ⟨{ chip := (((elapsed (tmKey tmCrowbar 0) (live)).modPort 0 (fun t => { t with crowbar := false })).modPort 0 (fun t => { t with clearReq := true })).wr R.SP_PH_STATE (pgSP 0) 5 }, 0, by decide +kernel⟩,
    ⟨{ chip := { live with datum := 4000800, laws := [(0, { bound := true, desc := descOf [(182, 1)] })] } }, 0, descOf [(182, 1)], by decide +kernel⟩⟩

theorem met_SectionCommandsAct_0 :
    (∃ (s : State) (k : Sec), ((s.chip.sec k.val).feltTrig = true) ∧ (s.chip.rd R.HOLD_STATE pgHOLD k.val ≠ 2) ∧ (s.chip.takesWork pgFELT = true))
    ∧ (∃ (s : State) (k : Sec), (s.chip.on R.FELT_FS_SLEWING pgFELT k.val = true) ∧ ((s.chip.sec k.val).members.any (fun p => (s.chip.port p).moving) = false))
    ∧ (∃ (s : State) (k : Sec), (s.chip.onV R.HOLD_EN pgHOLD k.val = true) ∧ (s.chip.rd R.HOLD_STATE pgHOLD k.val = 1 ∨ s.chip.rd R.HOLD_STATE pgHOLD k.val = 5) ∧ (s.chip.quorumMet k.val (fun p => s.chip.belowLoss k.val p (s.chip.tick - 2)) = true ∨ s.chip.quorumMet k.val (fun p => s.chip.belowLoss k.val p (s.chip.tick - 3)) = true))
    ∧ (∃ (s : State) (k : Sec), (s.chip.due (tmKey tmTrans k.val) = true) ∧ (s.chip.rd R.HOLD_STATE pgHOLD k.val = 2))
    ∧ (∃ (s : State) (k : Sec), (s.chip.due (tmKey tmQualify k.val) = true) ∧ (s.chip.rd R.HOLD_STATE pgHOLD k.val = 4)) :=
  ⟨⟨{ chip := (live).modSec 0 (fun t => { t with feltTrig := true }) }, 0, by decide +kernel⟩,
    ⟨{ chip := (live).wr R.FELT_FS_SLEWING pgFELT 1 0 }, 0, by decide +kernel⟩,
    ⟨{ chip := ((((((({ live with laws := [(0, { bound := true, desc := descOf [] }), (0x4000, { bound := true, desc := descOf [(0, 0x10), (4, 0xFF), (5, 0xFF), (64, 1)] })] }).wr R.HOLD_STATE pgHOLD 1).wr R.HOLD_QUORUM pgHOLD 1).wr R.HOLD_VIN_LOSS pgHOLD 0x3F800000).wr R.SP_CAL_FS (pgSP 0) 0x3F800000).wr R.HOLD_EN pgHOLD 1).takeCfg pgHOLD (pgHOLD + 0x1000)).modPort 0 (fun t => { t with hist := [(9998, [0, 0x80, 0, 0, 0, 0, 0, 0, 1, 0, 0, 0, 0, 0, 0, 0])] }) }, 0, by decide +kernel⟩,
    ⟨{ chip := (elapsed (tmKey tmTrans 0) (live)).wr R.HOLD_STATE pgHOLD 2 0 }, 0, by decide +kernel⟩,
    ⟨{ chip := (elapsed (tmKey tmQualify 0) (live)).wr R.HOLD_STATE pgHOLD 4 0 }, 0, by decide +kernel⟩⟩

theorem met_SectionCommandsAct_1 :
    (∃ (s : State) (k : Sec), (s.chip.due (tmKey tmOvl k.val) = true) ∧ (s.chip.on R.HOLD_OVERLOAD pgHOLD k.val = true))
    ∧ (∃ (s : State) (k : Sec), (s.chip.due (tmKey tmOvl (8 + k.val)) = true) ∧ (s.chip.on R.HOLD_OVERLOAD pgHOLD k.val = false))
    ∧ (∃ (s : State) (g : Oct), (s.chip.due (tmKey tmEwHold g.val) = true) ∧ ((s.chip.disarm (tmKey tmEwHold g.val)).ewCause g.val = false)) :=
  ⟨⟨{ chip := (elapsed (tmKey tmOvl 0) (live)).wr R.HOLD_OVERLOAD pgHOLD 1 0 }, 0, by decide +kernel⟩,
    ⟨{ chip := (elapsed (tmKey tmOvl (8 + 0)) (live)).wr R.HOLD_OVERLOAD pgHOLD 0 0 }, 0, by decide +kernel⟩,
    ⟨{ chip := elapsed (tmKey tmEwHold 0) (live) }, 0, by decide +kernel⟩⟩

theorem met_CrownAndGaugeCommandsAct_0 :
    (∃ (s : State), (s.chip.tick % s.chip.rd R.CROWN_PERIOD pgCROWN = 0) ∧ (s.chip.armed (tmKey tmCrown 0) = false ∨ s.chip.due (tmKey tmCrown 0) = true) ∧ (s.chip.on R.CROWN_EN pgCROWN = true) ∧ (s.chip.feeders = []))
    ∧ (∃ (s : State), (s.chip.twin.crownDue = true) ∧ (s.chip.on R.CROWN_EN pgCROWN = true))
    ∧ (∃ (s : State) (n : Leaf), (s.chip.due (tmKey tmGrace n.val) = true))
    ∧ (∃ (s : State), (20002 ≤ s.chip.tick) ∧ ((s.chip.tick - 2) % 20000 = 0) ∧ (s.chip.onV R.GAUGE_EN pgGAUGE = true) ∧ (s.chip.shed = false) ∧ (s.chip.armed (tmKey tmGauge 0) = false ∨ s.chip.due (tmKey tmGauge 0) = true) ∧ (∀ e ∈ s.chip.strs, s.chip.onV R.GAUGE_VALID pgGAUGE e.1 = true))
    ∧ (∃ (s : State), (20002 ≤ s.chip.tick) ∧ ((s.chip.tick - 2) % 20000 = 0) ∧ (s.chip.onV R.GAUGE_EN pgGAUGE = false ∨ s.chip.shed = true) ∧ (s.chip.armed (tmKey tmGauge 0) = false ∨ s.chip.due (tmKey tmGauge 0) = true)) :=
  ⟨⟨{ chip := (live).wr R.CROWN_EN pgCROWN 1 }, by decide +kernel⟩,
    ⟨{ chip := ((live).modTwin (fun t => { t with crownDue := true })).wr R.CROWN_EN pgCROWN 1 }, by decide +kernel⟩,
    ⟨{ chip := elapsed (tmKey tmGrace 0) (live) }, 0, by decide +kernel⟩,
    ⟨{ chip := { { live with datum := 8000800 } with inForce := [(fldKey R.GAUGE_EN pgGAUGE 0, 1)] } }, by decide +kernel⟩,
    ⟨{ chip := { live with datum := 8000800 } }, by decide +kernel⟩⟩

theorem met_CrownAndGaugeCommandsAct_1 :
    (∃ (s : State) (k : Sec) (n : Nat) (f : Nat), ((s.chip.sec k.val).zStr = none) ∧ (s.chip.on R.BMK_EN pgBMK = true) ∧ (s.chip.onV R.GAUGE_EN pgGAUGE = true) ∧ (s.chip.ditherBad k.val = false) ∧ (s.chip.shed = false) ∧ (s.chip.takesWork pgGAUGE = true) ∧ ((s.chip.validStrs.filter (fun n => s.chip.zCan k.val n)).findSome? (fun n => (s.chip.zDue n).map (fun f => (n, f))) = some (n, f)))
    ∧ (∃ (s : State) (k : Sec) (n : Str) (f : Hex) (u : Nat), ((s.chip.sec k.val).zStr = some n.val) ∧ (s.chip.rd R.BMK_ZFREQ pgBMK k.val = f.val) ∧ ((s.chip.sec k.val).zStart = u) ∧ ((s.chip.sec k.val).zBad = true ∨ s.chip.zSpoilt k.val = true ∨ zTime f.val ≤ (s.chip.tick - u) * dqTick))
    ∧ (∃ (s : State), (s.chip.leads = true) ∧ (s.chip.armed (tmKey tmBatt 0) = false ∨ s.chip.due (tmKey tmBatt 0) = true)) :=
  ⟨⟨{ chip := ((((((((live).modSec 0 (fun t => { t with zStr := none })).wr R.BMK_EN pgBMK 1).wr R.GAUGE_VALID pgGAUGE 1).wr R.HOLD_STATE pgHOLD 1).wr R.GAUGE_PORT0 pgGAUGE 255).wr R.GAUGE_PORT1 pgGAUGE 255).wr R.GAUGE_EN pgGAUGE 1).takeCfg pgGAUGE (pgGAUGE + 0x1000) }, 0, 0, 0, by decide +kernel⟩,
    ⟨{ chip := (((live).modSec 0 (fun t => { t with zStr := some 0 })).wr R.BMK_ZFREQ pgBMK 0 0).modSec 0 (fun t => { t with zStart := 0 }) }, 0, 0, 0, 0, by decide +kernel⟩,
    ⟨{ chip := ((live).wr R.TWIN_STATE pgTWIN 1).wr R.SYS_SOLO_ALLOWED pgSYS 1 }, by decide +kernel⟩⟩

theorem met_BenchmarkCommandsAct_0 :
    (∃ (s : State) (k : Sec) (w : CalWindow), (s.chip.on R.BMK_EN pgBMK = true) ∧ (s.chip.due (tmKey tmPubl (1 + k.val)) = true) ∧ (s.chip.shed = false) ∧ (s.chip.windowGaps k.val = true ∨ lapped w s.chip.tick = true ∨ s.chip.windowLate k.val = true))
    ∧ (∃ (s : State) (k : Sec) (w : CalWindow), (s.chip.on R.BMK_EN pgBMK = true) ∧ (s.chip.due (tmKey tmPubl (1 + k.val)) = true) ∧ (s.chip.shed = false) ∧ (s.chip.rd R.TWIN_STATE pgTWIN ≠ 2) ∧ ((s.chip.sec k.val).winOld = false ∨ s.chip.leads = true) ∧ (s.chip.windowGaps k.val = false) ∧ (lapped w s.chip.tick = false) ∧ (s.chip.windowLate k.val = false))
    ∧ (∃ (s : State) (p : Port) (ch : Chan), (s.chip.on R.BMK_EN pgBMK = true) ∧ (s.chip.shed = false) ∧ (s.chip.takesWork pgBMK = true) ∧ (s.chip.zeroKind p.val ch.val = true) ∧ (s.chip.stoodStill p.val 400 = true) ∧ ((s.chip.cal (4 * p.val + ch.val)).zero = none))
    ∧ (∃ (s : State) (p : Port) (ch : Chan) (u : Nat), ((s.chip.cal (4 * p.val + ch.val)).zero = some u) ∧ (u + 256 ≤ s.chip.tick) ∧ (s.chip.stoodStill p.val 400 = true) ∧ (s.chip.zeroKind p.val ch.val = true) ∧ (s.chip.shed = false) ∧ (s.chip.rd R.TWIN_STATE pgTWIN ≠ 2) ∧ ((s.chip.cal (4 * p.val + ch.val)).zeroN ≠ 0))
    ∧ (∃ (s : State) (p : Port) (ch : Chan) (u : Nat), ((s.chip.cal (4 * p.val + ch.val)).zero = some u) ∧ (u + 256 ≤ s.chip.tick) ∧ (s.chip.stoodStill p.val 400 = false ∨ s.chip.zeroKind p.val ch.val = false ∨ s.chip.shed = true ∨ s.chip.rd R.TWIN_STATE pgTWIN = 2 ∨ (s.chip.cal (4 * p.val + ch.val)).zeroN = 0)) :=
  ⟨⟨{ chip := elapsed (tmKey tmPubl (1 + 0)) ((live).wr R.BMK_EN pgBMK 1) }, 0, ⟨[], [], [], 10000, 1⟩, by decide +kernel⟩,
    ⟨{ chip := { elapsed (tmKey tmPubl (1 + 0)) ((live).wr R.BMK_EN pgBMK 1) with now := 2 } }, 0, ⟨[], [], [], 10000, 1⟩, by decide +kernel⟩,
    ⟨{ chip := (((((live).wr R.BMK_EN pgBMK 1).modCal (4 * 0 + 0) (fun t => { t with zero := none })).wr R.SP_CAL_KIND (pgSP 0) 1).wr R.SP_CAL_FS (pgSP 0) 0x3F800000).modPort 0 (fun t => { t with sentCmd := true, stopSince := some 0 }) }, 0, 0, by decide +kernel⟩,
    ⟨{ chip := (((((live).modCal (4 * 0 + 0) (fun t => { t with zero := some 100 })).wr R.SP_CAL_KIND (pgSP 0) 1).wr R.SP_CAL_FS (pgSP 0) 0x3F800000).modPort 0 (fun t => { t with sentCmd := true, stopSince := some 0 })).modCal 0 (fun t => { t with zeroN := 4, zeroSum := 9, zero := some 100 }) }, 0, 0, 100, by decide +kernel⟩,
    ⟨{ chip := (live).modCal (4 * 0 + 0) (fun t => { t with zero := some 0 }) }, 0, 0, 0, by decide +kernel⟩⟩

theorem met_BenchmarkCommandsAct_1 :
    (∃ (s : State) (c1 : Chip), ((20002 ≤ s.chip.tick) ∧ ((s.chip.tick - 2) % (20000 * s.chip.bmkSettle.rdV R.BMK_PUB_MS pgBMK) = 0) ∧ (s.chip.armed (tmKey tmPubl 0) = false ∨ s.chip.due (tmKey tmPubl 0) = true)) ∧ (c1 = foldc (upTo 8) (fun k c => (if c.on R.BMK_EN pgBMK then c.zStale k else c).flatFollow k) (foldc (upTo 192) (fun p c => c.agePort p) (s.chip.bmkSettle.arm (tmKey tmPubl 0) dqTick))) ∧ (c1.on R.BMK_EN pgBMK = false ∨ c1.shed = true ∨ c1.rd R.TWIN_STATE pgTWIN = 2))
    ∧ (∃ (s : State) (c1 : Chip), ((20002 ≤ s.chip.tick) ∧ ((s.chip.tick - 2) % (20000 * s.chip.bmkSettle.rdV R.BMK_PUB_MS pgBMK) = 0) ∧ (s.chip.armed (tmKey tmPubl 0) = false ∨ s.chip.due (tmKey tmPubl 0) = true)) ∧ (c1 = foldc (upTo 8) (fun k c => (if c.on R.BMK_EN pgBMK then c.zStale k else c).flatFollow k) (foldc (upTo 192) (fun p c => c.agePort p) (s.chip.bmkSettle.arm (tmKey tmPubl 0) dqTick))) ∧ (c1.on R.BMK_EN pgBMK = true) ∧ (c1.shed = false) ∧ (c1.rd R.TWIN_STATE pgTWIN ≠ 2) ∧ (∀ k < 8, (c1.sec k).zfit = none ∧ (c1.sec k).zpts = []))
    ∧ (∃ (s : State) (i : Nat) (r : CRes), (s.chip.twin.classC.find? (fun r => r.item == i) = some r) ∧ (r.peerOk = true) ∧ (r.atT ≠ 0) ∧ (r.atT ≤ s.chip.tick) ∧ (520 ≤ i))
    ∧ (∃ (s : State) (i : Nat) (r : CRes), (s.chip.twin.classC.find? (fun r => r.item == i) = some r) ∧ (r.peerOk = true) ∧ (r.atT ≠ 0) ∧ (r.atT ≤ s.chip.tick)) :=
  ⟨⟨{ chip := pubChip 0 }, pubAged 0, by decide +kernel, rfl, by decide +kernel⟩,
    ⟨{ chip := pubChip 1 }, pubAged 1, by decide +kernel, rfl, by decide +kernel⟩,
    ⟨{ chip := (live).modTwin (fun t => { t with classC := [{ item := 520, peerOk := true, atT := 1 }] }) }, 520, { item := 520, peerOk := true, atT := 1 }, by decide +kernel⟩,
    ⟨{ chip := (live).modTwin (fun t => { t with classC := [{ item := 0, peerOk := true, atT := 1 }] }) }, 0, { item := 0, peerOk := true, atT := 1 }, by decide +kernel⟩⟩

theorem met_FeederTaskAndTimersAct_0 :
    (∃ (s : State) (p : Port), ((s.chip.fd p.val).placed.isSome = true) ∧ (s.chip.isFeed p.val = true))
    ∧ (∃ (s : State) (p : Port), (s.chip.due (tmKey tmFdRetry p.val) = true) ∧ (s.chip.fdState p.val = 8) ∧ ((s.chip.port p.val).fastTrip = false))
    ∧ (∃ (s : State) (p : Port), (s.chip.due (tmKey tmRetries p.val) = true))
    ∧ (∃ (s : State) (p : Port), (s.chip.due (tmKey tmInrush p.val) = true) ∧ (s.chip.fdState p.val = 4))
    ∧ (∃ (s : State) (p : Port), (s.chip.due (tmKey tmLate p.val) = true)) :=
  ⟨⟨{ chip := ((live).modFd 0 (fun t => { t with placed := some (0, 0) })).modPort 0 (fun t => { t with announce := some feedIdent }) }, 0, by decide +kernel⟩,
    ⟨{ chip := ((elapsed (tmKey tmFdRetry 0) (live)).wr R.SP_FD_STATE (pgSP 0) 8).modPort 0 (fun t => { t with fastTrip := false }) }, 0, by decide +kernel⟩,
    ⟨{ chip := elapsed (tmKey tmRetries 0) (live) }, 0, by decide +kernel⟩,
    ⟨{ chip := (elapsed (tmKey tmInrush 0) (live)).wr R.SP_FD_STATE (pgSP 0) 4 }, 0, by decide +kernel⟩,
    ⟨{ chip := elapsed (tmKey tmLate 0) (live) }, 0, by decide +kernel⟩⟩

theorem met_FeederTaskAndTimersAct_1 :
    (∃ (s : State) (p : Port), (s.chip.due (tmKey tmFdClear p.val) = true) ∧ (s.chip.fdState p.val = 7) ∧ ((s.chip.port p.val).fastTrip = false))
    ∧ (∃ (s : State) (p : Port), (s.chip.due (tmKey tmFdClear p.val) = true) ∧ (s.chip.fdState p.val = 7 ∨ s.chip.fdState p.val = 8) ∧ ((s.chip.port p.val).fastTrip = true))
    ∧ (∃ (s : State) (p : Port), (s.chip.due (tmKey tmHrHold p.val) = true))
    ∧ (∃ (s : State) (p : Port), (s.chip.due (tmKey tmCaps p.val) = true) ∧ (s.chip.fdState p.val = 2) ∧ (s.chip.negSource p.val = true) ∧ (s.chip.negServes p.val = true) ∧ (s.chip.takesWork pgNEG = true))
    ∧ (∃ (s : State) (p : Port), (s.chip.due (tmKey tmRole p.val) = true) ∧ (s.chip.fdState p.val = 2) ∧ (s.chip.rd R.SP_ROLE_PREF (pgSP p.val) = 1)) :=
  ⟨⟨{ chip := ((elapsed (tmKey tmFdClear 0) (live)).wr R.SP_FD_STATE (pgSP 0) 7).modPort 0 (fun t => { t with fastTrip := false }) }, 0, by decide +kernel⟩,
    ⟨{ chip := ((elapsed (tmKey tmFdClear 0) (live)).modPort 0 (fun t => { t with fastTrip := true })).wr R.SP_FD_STATE (pgSP 0) 7 }, 0, by decide +kernel⟩,
    ⟨{ chip := elapsed (tmKey tmHrHold 0) (live) }, 0, by decide +kernel⟩,
    ⟨{ chip := (((elapsed (tmKey tmCaps 0) (live)).wr R.SP_FD_STATE (pgSP 0) 2).wr R.SYS_SOLO_ALLOWED pgSYS 1).wr R.TWIN_STATE pgTWIN 1 }, 0, by decide +kernel⟩,
    ⟨{ chip := ((elapsed (tmKey tmRole 0) (live)).wr R.SP_FD_STATE (pgSP 0) 2).wr R.SP_ROLE_PREF (pgSP 0) 1 }, 0, by decide +kernel⟩⟩

theorem met_ContractMessagesAct_0 :
    (∃ (s : State) (p : Port) (id : Oct) (m : NegMsg), (s.chip.negServes p.val = true) ∧ ((s.chip.fd p.val).wait = some m) ∧ (id.val % 8 = (s.chip.fd p.val).waitId) ∧ ((s.chip.fd p.val).out = []) ∧ (m.typ = 6 ∨ m.typ = 7 ∨ m.typ = 8))
    ∧ (∃ (s : State) (p : Port) (os : Offers), (s.chip.negServes p.val = true) ∧ (os.length ≠ 0) ∧ (os.length ≤ 4) ∧ (¬(s.chip.fdState p.val = 2 ∧ s.chip.negSource p.val = true)))
    ∧ (∃ (s : State) (p : Port) (id : Oct) (os : Offers), (s.chip.negServes p.val = true) ∧ (os.length ≠ 0) ∧ (os.length ≤ 4) ∧ ((s.chip.fd p.val).rxId ≠ some id.val) ∧ (s.chip.on R.SP_HR_HOLD (pgSP p.val) = false) ∧ (s.chip.fdState p.val = 2 ∧ s.chip.negSource p.val = false ∨ (s.chip.fdState p.val ≠ 2 ∧ s.chip.on R.SP_FD_ROLE (pgSP p.val) = true)))
    ∧ (∃ (s : State) (p : Port), (s.chip.negServes p.val = true))
    ∧ (∃ (s : State) (p : Port) (id : Oct) (pr : Nat), (s.chip.negServes p.val = true) ∧ ((s.chip.fd p.val).rxId ≠ some id.val) ∧ (s.chip.on R.SP_HR_HOLD (pgSP p.val) = false) ∧ (s.chip.on R.SP_FD_ROLE (pgSP p.val) = false) ∧ (3 ≤ s.chip.fdState p.val) ∧ (fle (fOfNat pr) (s.chip.rdF R.SP_P_MAX (pgSP p.val)) = true) ∧ (pr ≤ (s.chip.fd p.val).pmax)) :=
  ⟨⟨{ chip := ((((((live).modFd 0 (fun t => { t with wait := some ({ typ := 6 }) })).modFd 0 (fun t => { t with out := [] })).wr R.SYS_SOLO_ALLOWED pgSYS 1).wr R.TWIN_STATE pgTWIN 1).wr R.SP_FD_STATE (pgSP 0) 3).modFd 0 (fun t => { t with wait := some { typ := 6 } }) }, 0, 0, { typ := 6 }, by decide +kernel⟩,
    ⟨{ chip := (((live).wr R.SYS_SOLO_ALLOWED pgSYS 1).wr R.TWIN_STATE pgTWIN 1).wr R.SP_FD_STATE (pgSP 0) 3 }, 0, [⟨0, 0, 0⟩], by decide +kernel⟩,
    ⟨{ chip := (((((live).wr R.SP_HR_HOLD (pgSP 0) 0).wr R.SYS_SOLO_ALLOWED pgSYS 1).wr R.TWIN_STATE pgTWIN 1).wr R.SP_FD_STATE (pgSP 0) 3).wr R.SP_FD_ROLE (pgSP 0) 1 }, 0, 0, [⟨0, 0, 0⟩], by decide +kernel⟩,
    ⟨{ chip := (((live).wr R.SYS_SOLO_ALLOWED pgSYS 1).wr R.TWIN_STATE pgTWIN 1).wr R.SP_FD_STATE (pgSP 0) 3 }, 0, by decide +kernel⟩,
    ⟨{ chip := (((((live).wr R.SP_HR_HOLD (pgSP 0) 0).wr R.SP_FD_ROLE (pgSP 0) 0).wr R.SYS_SOLO_ALLOWED pgSYS 1).wr R.TWIN_STATE pgTWIN 1).wr R.SP_FD_STATE (pgSP 0) 3 }, 0, 0, 0, by decide +kernel⟩⟩

theorem met_ContractMessagesAct_1 :
    (∃ (s : State) (p : Port), (s.chip.negServes p.val = true))
    ∧ (∃ (s : State) (p : Port) (id : Oct), (s.chip.negServes p.val = true) ∧ ((s.chip.fd p.val).rxId ≠ some id.val) ∧ (s.chip.on R.SP_HR_HOLD (pgSP p.val) = false) ∧ (s.chip.on R.SP_FD_ROLE (pgSP p.val) = true) ∧ ((s.chip.fd p.val).requested = true) ∧ (s.chip.paired = false))
    ∧ (∃ (s : State) (p : Port), (s.chip.negServes p.val = true))
    ∧ (∃ (s : State) (p : Port) (id : Oct), (s.chip.negServes p.val = true) ∧ ((s.chip.fd p.val).rxId ≠ some id.val) ∧ (s.chip.on R.SP_HR_HOLD (pgSP p.val) = false) ∧ (s.chip.on R.SP_FD_ROLE (pgSP p.val) = true) ∧ ((s.chip.fd p.val).softEx = false))
    ∧ (∃ (s : State) (p : Port), (s.chip.negServes p.val = true)) :=
  ⟨⟨{ chip := (((live).wr R.SYS_SOLO_ALLOWED pgSYS 1).wr R.TWIN_STATE pgTWIN 1).wr R.SP_FD_STATE (pgSP 0) 3 }, 0, by decide +kernel⟩,
    ⟨{ chip := ((((((((live).wr R.SP_HR_HOLD (pgSP 0) 0).wr R.SP_FD_ROLE (pgSP 0) 1).modFd 0 (fun t => { t with rspTimer := true })).wr R.SYS_SOLO_ALLOWED pgSYS 1).wr R.TWIN_STATE pgTWIN 1).wr R.SP_FD_STATE (pgSP 0) 3).wr R.SP_FD_ROLE (pgSP 0) 1).modFd 0 (fun t => { t with rspTimer := true }) }, 0, 0, by decide +kernel⟩,
    ⟨{ chip := (((live).wr R.SYS_SOLO_ALLOWED pgSYS 1).wr R.TWIN_STATE pgTWIN 1).wr R.SP_FD_STATE (pgSP 0) 3 }, 0, by decide +kernel⟩,
    ⟨{ chip := ((((((((live).wr R.SP_HR_HOLD (pgSP 0) 0).wr R.SP_FD_ROLE (pgSP 0) 1).modFd 0 (fun t => { t with softEx := false })).wr R.SYS_SOLO_ALLOWED pgSYS 1).wr R.TWIN_STATE pgTWIN 1).wr R.SP_FD_STATE (pgSP 0) 3).wr R.SP_FD_ROLE (pgSP 0) 1).modFd 0 (fun t => { t with rspTimer := true }) }, 0, 0, by decide +kernel⟩,
    ⟨{ chip := (((live).wr R.SYS_SOLO_ALLOWED pgSYS 1).wr R.TWIN_STATE pgTWIN 1).wr R.SP_FD_STATE (pgSP 0) 3 }, 0, by decide +kernel⟩⟩

theorem met_ContractMessagesAct_2 :
    (∃ (s : State) (p : Port), (s.chip.negServes p.val = true))
    ∧ (∃ (s : State) (p : Port), (s.chip.negServes p.val = true))
    ∧ (∃ (s : State) (p : Port), (s.chip.negServes p.val = true) ∧ (s.chip.on R.SP_CONTRACT (pgSP p.val) = true) ∧ (s.chip.on R.SP_FD_ROLE (pgSP p.val) = false) ∧ ((s.chip.capst (s.chip.leafKey p.val)).capMsg = true))
    ∧ (∃ (s : State) (p : Port), (s.chip.negServes p.val = true) ∧ (s.chip.on R.SP_CONTRACT (pgSP p.val) = true) ∧ (s.chip.on R.SP_FD_ROLE (pgSP p.val) = false) ∧ ((s.chip.capst (s.chip.leafKey p.val)).capMsg = true))
    ∧ (∃ (s : State) (p : Port), (s.chip.negServes p.val = true) ∧ (s.chip.on R.SP_CONTRACT (pgSP p.val) = true) ∧ ((s.chip.capst (96 + p.val)).warnMsg = true)) :=
  ⟨⟨{ chip := (((live).wr R.SYS_SOLO_ALLOWED pgSYS 1).wr R.TWIN_STATE pgTWIN 1).wr R.SP_FD_STATE (pgSP 0) 3 }, 0, by decide +kernel⟩,
    ⟨{ chip := (((live).wr R.SYS_SOLO_ALLOWED pgSYS 1).wr R.TWIN_STATE pgTWIN 1).wr R.SP_FD_STATE (pgSP 0) 3 }, 0, by decide +kernel⟩,
    ⟨{ chip := ((((((live).wr R.SP_CONTRACT (pgSP 0) 1).wr R.SP_FD_ROLE (pgSP 0) 0).wr R.SYS_SOLO_ALLOWED pgSYS 1).wr R.TWIN_STATE pgTWIN 1).wr R.SP_FD_STATE (pgSP 0) 3).modCap 96 (fun t => { t with capMsg := true }) }, 0, by decide +kernel⟩,
    ⟨{ chip := ((((((live).wr R.SP_CONTRACT (pgSP 0) 1).wr R.SP_FD_ROLE (pgSP 0) 0).wr R.SYS_SOLO_ALLOWED pgSYS 1).wr R.TWIN_STATE pgTWIN 1).wr R.SP_FD_STATE (pgSP 0) 3).modCap 96 (fun t => { t with capMsg := true }) }, 0, by decide +kernel⟩,
    ⟨{ chip := (((((live).wr R.SP_CONTRACT (pgSP 0) 1).modCap (96 + 0) (fun t => { t with warnMsg := true })).wr R.SYS_SOLO_ALLOWED pgSYS 1).wr R.TWIN_STATE pgTWIN 1).wr R.SP_FD_STATE (pgSP 0) 3 }, 0, by decide +kernel⟩⟩

theorem met_ContractMessagesAct_3 :
    (∃ (s : State) (p : Port), (s.chip.negServes p.val = true) ∧ (s.chip.on R.SP_CONTRACT (pgSP p.val) = true) ∧ ((s.chip.capst (96 + p.val)).warnMsg = true))
    ∧ (∃ (s : State) (p : Port) (m : NegMsg), (s.chip.negServes p.val = true) ∧ ((s.chip.fd p.val).wait = some m) ∧ (s.chip.due (tmKey tmGoodCrc p.val) = true) ∧ ((s.chip.fd p.val).waitTries < 2))
    ∧ (∃ (s : State) (p : Port), (s.chip.negServes p.val = true) ∧ (s.chip.due (tmKey tmRsp p.val) = true) ∧ ((s.chip.fd p.val).rspTimer = true)) :=
  ⟨⟨{ chip := (((((live).wr R.SP_CONTRACT (pgSP 0) 1).modCap (96 + 0) (fun t => { t with warnMsg := true })).wr R.SYS_SOLO_ALLOWED pgSYS 1).wr R.TWIN_STATE pgTWIN 1).wr R.SP_FD_STATE (pgSP 0) 3 }, 0, by decide +kernel⟩,
    ⟨{ chip := (((elapsed (tmKey tmGoodCrc 0) ((live).modFd 0 (fun t => { t with wait := some ({}) }))).wr R.SYS_SOLO_ALLOWED pgSYS 1).wr R.TWIN_STATE pgTWIN 1).wr R.SP_FD_STATE (pgSP 0) 3 }, 0, {}, by decide +kernel⟩,
    ⟨{ chip := ((((elapsed (tmKey tmRsp 0) (live)).modFd 0 (fun t => { t with rspTimer := true })).wr R.SYS_SOLO_ALLOWED pgSYS 1).wr R.TWIN_STATE pgTWIN 1).wr R.SP_FD_STATE (pgSP 0) 3 }, 0, by decide +kernel⟩⟩

theorem met_ChainMessagesAct_0 :
    (∃ (s : State) (k : Bool), (s.chip.on (chUp k) pgTWIN = true))
    ∧ (∃ (s : State) (k : Bool), (s.chip.banksOn = true) ∧ (s.chip.on (chUp k) pgTWIN = false))
    ∧ (∃ (s : State) (u : Nat) (ds : Digests), (s.chip.banksOn = true) ∧ (s.chip.compares = true) ∧ (u < s.chip.tick) ∧ (s.chip.tick < u + 64) ∧ (ds.all (fun d => !decide (d.1 ≤ 12) || s.chip.ownDigest u d.1 == d.2.toNat) = true))
    ∧ (∃ (s : State) (u : Nat) (ds : Digests) (its : ItemDigests), (s.chip.banksOn = true) ∧ (s.chip.compares = true) ∧ (u < s.chip.tick) ∧ (s.chip.tick < u + 64) ∧ (s.chip.realDiff u its (((ds.filter (fun d => decide (d.1 ≤ 12) && s.chip.ownDigest u d.1 != d.2.toNat)).map (fun d => d.1)).flatMap (s.chip.differing u its)) = []))
    ∧ (∃ (s : State), (s.chip.banksOn = true) ∧ (s.chip.on R.TWIN_RESOLVING pgTWIN = true) ∧ (s.chip.twin.ownPass = none)) :=
  ⟨⟨{ chip := (live).wr R.TWIN_CH1_UP pgTWIN 1 }, true, by decide +kernel⟩,
    ⟨{ chip := (live).wr R.PLUMB_MAIN_UP pgPLUMB 1 }, true, by decide +kernel⟩,
    ⟨{ chip := ((live).wr R.PLUMB_MAIN_UP pgPLUMB 1).wr R.TWIN_STATE pgTWIN 3 }, 9999, [], by decide +kernel⟩,
    ⟨{ chip := ((live).wr R.PLUMB_MAIN_UP pgPLUMB 1).wr R.TWIN_STATE pgTWIN 3 }, 9999, [], [], by decide +kernel⟩,
    ⟨{ chip := (((live).wr R.PLUMB_MAIN_UP pgPLUMB 1).wr R.TWIN_RESOLVING pgTWIN 1).modTwin (fun t => { t with ownPass := none }) }, by decide +kernel⟩⟩

theorem met_ChainMessagesAct_1 :
    (∃ (s : State) (x : Nat) (i : AgreedItem), (s.chip.banksOn = true) ∧ (s.chip.rd R.TWIN_STATE pgTWIN = 2 ∨ (s.chip.rd R.TWIN_STATE pgTWIN = 3 ∧ s.chip.leads = false)) ∧ (s.chip.tick < x) ∧ (s.chip.fwu.paused = false ∨ waitsPause i = false))
    ∧ (∃ (s : State), (s.chip.banksOn = true))
    ∧ (∃ (s : State) (x : Nat), (s.chip.banksOn = true) ∧ (s.chip.tick < x))
    ∧ (∃ (s : State) (x : Nat) (a : Agreed), (s.chip.twin.agree = [a]) ∧ (a.mine = true) ∧ (a.acked = false) ∧ (a.x = x) ∧ (x ≤ s.chip.tick + 4))
    ∧ (∃ (s : State) (key : Nat), (s.chip.banksOn = true) ∧ (s.chip.rd R.TWIN_STATE pgTWIN = 2) ∧ (statusInState key = true)) :=
  ⟨⟨{ chip := ((live).wr R.PLUMB_MAIN_UP pgPLUMB 1).wr R.TWIN_STATE pgTWIN 2 }, 10001, .crown, by decide +kernel⟩,
    ⟨{ chip := (live).wr R.PLUMB_MAIN_UP pgPLUMB 1 }, by decide +kernel⟩,
    ⟨{ chip := (live).wr R.PLUMB_MAIN_UP pgPLUMB 1 }, 10001, by decide +kernel⟩,
    ⟨{ chip := ((live).modTwin (fun t => { t with agree := [({ x := 10001 })] })).modTwin (fun t => { t with agree := [{ x := 10001 }] }) }, 10001, { x := 10001 }, by decide +kernel⟩,
    ⟨{ chip := ((live).wr R.PLUMB_MAIN_UP pgPLUMB 1).wr R.TWIN_STATE pgTWIN 2 }, fldKey R.HOLD_STATE pgHOLD 0, by decide +kernel⟩⟩

theorem met_ChainMessagesAct_2 :
    (∃ (s : State), (s.chip.banksOn = true) ∧ (s.chip.rd R.TWIN_STATE pgTWIN = 2))
    ∧ (∃ (s : State), (s.chip.banksOn = true) ∧ (s.chip.rd R.TWIN_STATE pgTWIN = 3) ∧ (s.chip.leads = false))
    ∧ (∃ (s : State), (s.chip.banksOn = true) ∧ (s.chip.rd R.TWIN_STATE pgTWIN = 2))
    ∧ (∃ (s : State), (s.chip.banksOn = true) ∧ (s.chip.rd R.TWIN_STATE pgTWIN = 2))
    ∧ (∃ (s : State) (m : TimeMeas) (o : Int), (s.chip.banksOn = true) ∧ (s.chip.meanOffset m = some o) ∧ (s.chip.rd R.TWIN_STATE pgTWIN = 2) ∧ (1 ≤ s.chip.rd R.TWIN_JOIN_PHASE pgTWIN) ∧ (s.chip.twin.stepped = false) ∧ (s.chip.cmdScheduled = false)) :=
  ⟨⟨{ chip := ((live).wr R.PLUMB_MAIN_UP pgPLUMB 1).wr R.TWIN_STATE pgTWIN 2 }, by decide +kernel⟩,
    ⟨{ chip := ((((live).wr R.PLUMB_MAIN_UP pgPLUMB 1).wr R.TWIN_STATE pgTWIN 3).wr R.TWIN_STATE pgTWIN 3).wr R.TWIN_ROLE pgTWIN 1 }, by decide +kernel⟩,
    ⟨{ chip := ((live).wr R.PLUMB_MAIN_UP pgPLUMB 1).wr R.TWIN_STATE pgTWIN 2 }, by decide +kernel⟩,
    ⟨{ chip := ((live).wr R.PLUMB_MAIN_UP pgPLUMB 1).wr R.TWIN_STATE pgTWIN 2 }, by decide +kernel⟩,
    ⟨{ chip := (((((live).wr R.PLUMB_MAIN_UP pgPLUMB 1).wr R.TWIN_STATE pgTWIN 2).modTwin (fun t => { t with stepped := false })).wr R.TWIN_JOIN_PHASE pgTWIN 1).wr R.TWIN_CH0_UP pgTWIN 1 }, ⟨0, 0⟩, 0, by decide +kernel⟩⟩

theorem met_ChainMessagesAct_3 :
    (∃ (s : State) (m : TimeMeas) (o : Int), (s.chip.banksOn = true) ∧ (s.chip.meanOffset m = some o) ∧ (s.chip.rd R.TWIN_STATE pgTWIN = 3) ∧ (s.chip.on R.TWIN_ROLE pgTWIN = true))
    ∧ (∃ (s : State), (s.chip.due (tmKey tmTwinTime 0) = true))
    ∧ (∃ (s : State), (s.chip.banksOn = true)) :=
  ⟨⟨{ chip := (((((live).wr R.PLUMB_MAIN_UP pgPLUMB 1).wr R.TWIN_STATE pgTWIN 3).wr R.TWIN_ROLE pgTWIN 1).wr R.TWIN_CH0_UP pgTWIN 1).wr R.TWIN_CH1_UP pgTWIN 0 }, ⟨7, 0⟩, 7, by decide +kernel⟩,
    ⟨{ chip := elapsed (tmKey tmTwinTime 0) (live) }, by decide +kernel⟩,
    ⟨{ chip := (live).wr R.PLUMB_MAIN_UP pgPLUMB 1 }, by decide +kernel⟩⟩

theorem met_TwinLifeCommandsAct_0 :
    (∃ (s : State) (h : Hello), (s.chip.banksOn = true) ∧ (s.chip.rd R.TWIN_STATE pgTWIN = 1) ∧ (h.joining = true) ∧ (s.chip.hear.helloFaults h = []))
    ∧ (∃ (s : State) (h : Hello), (s.chip.banksOn = true) ∧ (s.chip.rd R.TWIN_STATE pgTWIN = 2) ∧ (s.chip.rd R.TWIN_JOIN_PHASE pgTWIN = 0) ∧ (s.chip.on R.TWIN_JOIN_FAIL pgTWIN = false) ∧ (s.chip.hear.helloFaults h = []))
    ∧ (∃ (s : State), (s.chip.banksOn = true) ∧ (s.chip.rd R.TWIN_STATE pgTWIN = 3) ∧ (s.chip.srcSev 0x84 ≠ 3))
    ∧ (∃ (s : State), (s.chip.banksOn = true) ∧ (s.chip.paired = true))
    ∧ (∃ (s : State), (s.chip.banksOn = true) ∧ (s.chip.rd R.TWIN_STATE pgTWIN ≠ 4)) :=
  ⟨⟨{ chip := ((live).wr R.PLUMB_MAIN_UP pgPLUMB 1).wr R.TWIN_STATE pgTWIN 1 }, ⟨true, 0, 0, 0, 0, true⟩, by decide +kernel⟩,
    ⟨{ chip := ((((live).wr R.PLUMB_MAIN_UP pgPLUMB 1).wr R.TWIN_STATE pgTWIN 2).wr R.TWIN_JOIN_PHASE pgTWIN 0).wr R.TWIN_JOIN_FAIL pgTWIN 0 }, ⟨true, 0, 0, 0, 0, true⟩, by decide +kernel⟩,
    ⟨{ chip := ((live).wr R.PLUMB_MAIN_UP pgPLUMB 1).wr R.TWIN_STATE pgTWIN 3 }, by decide +kernel⟩,
    ⟨{ chip := ((live).wr R.PLUMB_MAIN_UP pgPLUMB 1).wr R.TWIN_STATE pgTWIN 3 }, by decide +kernel⟩,
    ⟨{ chip := (live).wr R.PLUMB_MAIN_UP pgPLUMB 1 }, by decide +kernel⟩⟩

theorem met_TwinLifeCommandsAct_1 :
    (∃ (s : State), (s.chip.twin.heard + s.chip.rd R.TWIN_CHAIN_TIMEOUT_US pgTWIN * dqUs ≤ s.chip.now) ∧ (s.chip.rd R.TWIN_STATE pgTWIN = 3) ∧ (s.chip.twin.lost = false) ∧ (s.chip.srcSev 0x84 ≠ 3) ∧ (s.chip.rd R.TWIN_ROLE pgTWIN = 0))
    ∧ (∃ (s : State), (s.chip.twin.heard + s.chip.rd R.TWIN_CHAIN_TIMEOUT_US pgTWIN * dqUs ≤ s.chip.now) ∧ (s.chip.rd R.TWIN_STATE pgTWIN = 3) ∧ (s.chip.twin.lost = false) ∧ (s.chip.srcSev 0x84 ≠ 3) ∧ (s.chip.rd R.TWIN_ROLE pgTWIN = 1))
    ∧ (∃ (s : State), (s.chip.rd R.TWIN_STATE pgTWIN = 3) ∧ (s.chip.twin.lost = false) ∧ (s.chip.srcSev 0x84 ≠ 3))
    ∧ (∃ (s : State), (s.chip.due (tmKey tmTakeover 0) = true) ∧ (s.chip.twin.takeover = true))
    ∧ (∃ (s : State), (s.chip.due (tmKey tmRecovery 0) = true)) :=
  ⟨⟨{ chip := (((live).wr R.TWIN_STATE pgTWIN 3).modTwin (fun t => { t with lost := false })).wr R.TWIN_ROLE pgTWIN 0 }, by decide +kernel⟩,
    ⟨{ chip := (((live).wr R.TWIN_STATE pgTWIN 3).modTwin (fun t => { t with lost := false })).wr R.TWIN_ROLE pgTWIN 1 }, by decide +kernel⟩,
    ⟨{ chip := ((live).wr R.TWIN_STATE pgTWIN 3).modTwin (fun t => { t with lost := false }) }, by decide +kernel⟩,
    ⟨{ chip := (elapsed (tmKey tmTakeover 0) (live)).modTwin (fun t => { t with takeover := true }) }, by decide +kernel⟩,
    ⟨{ chip := elapsed (tmKey tmRecovery 0) (live) }, by decide +kernel⟩⟩

theorem met_TwinLifeCommandsAct_2 :
    (∃ (s : State), (s.chip.due (tmKey tmPhase 0) = true) ∧ (s.chip.rd R.TWIN_STATE pgTWIN = 2) ∧ (s.chip.on R.TWIN_JOIN_FAIL pgTWIN = false))
    ∧ (∃ (s : State), (s.chip.banksOn = true) ∧ (s.chip.due (tmKey tmRejoin 0) = true) ∧ (s.chip.rd R.TWIN_STATE pgTWIN = 2))
    ∧ (∃ (s : State), (s.chip.due (tmKey tmTrav 0) = true) ∧ (s.chip.paired = true) ∧ (s.chip.leads = true) ∧ ((s.chip.travArm).swapOk = false))
    ∧ (∃ (s : State), (s.chip.due (tmKey tmTrav 0) = true) ∧ (s.chip.paired = true) ∧ (s.chip.leads = true) ∧ ((s.chip.travArm).swapOk = true))
    ∧ (∃ (s : State), (s.chip.due (tmKey tmSelf 0) = true) ∧ (s.chip.rd R.TWIN_STATE pgTWIN = 1 ∨ s.chip.rd R.TWIN_STATE pgTWIN = 3) ∧ (s.chip.rd R.TWIN_SELFTEST_MS pgTWIN ≠ 0)) :=
  ⟨⟨{ chip := ((elapsed (tmKey tmPhase 0) (live)).wr R.TWIN_STATE pgTWIN 2).wr R.TWIN_JOIN_FAIL pgTWIN 0 }, by decide +kernel⟩,
    ⟨{ chip := (elapsed (tmKey tmRejoin 0) ((live).wr R.PLUMB_MAIN_UP pgPLUMB 1)).wr R.TWIN_STATE pgTWIN 2 }, by decide +kernel⟩,
    ⟨{ chip := (((((elapsed (tmKey tmTrav 0) (live)).wr R.TWIN_STATE pgTWIN 3).wr R.TWIN_STATE pgTWIN 1).wr R.SYS_SOLO_ALLOWED pgSYS 1).wr R.TWIN_STATE pgTWIN 3).wr R.TWIN_RESOLVING pgTWIN 1 }, by decide +kernel⟩,
    ⟨{ chip := ((((elapsed (tmKey tmTrav 0) (live)).wr R.TWIN_STATE pgTWIN 3).wr R.TWIN_STATE pgTWIN 1).wr R.SYS_SOLO_ALLOWED pgSYS 1).wr R.TWIN_STATE pgTWIN 3 }, by decide +kernel⟩,
    ⟨{ chip := ((elapsed (tmKey tmSelf 0) (live)).wr R.TWIN_STATE pgTWIN 1).wr R.TWIN_SELFTEST_MS pgTWIN 1 }, by decide +kernel⟩⟩

theorem met_TwinLifeCommandsAct_3 :
    (∃ (s : State), (s.chip.plumb.mgmtHalt = true) ∧ (s.chip.paired = false))
    ∧ (∃ (s : State), (s.chip.plumb.mgmtHalt = true) ∧ (s.chip.paired = true)) :=
  ⟨⟨{ chip := (live).modPlumb (fun t => { t with mgmtHalt := true }) }, by decide +kernel⟩,
    ⟨{ chip := ((live).modPlumb (fun t => { t with mgmtHalt := true })).wr R.TWIN_STATE pgTWIN 3 }, by decide +kernel⟩⟩

theorem met_FabricDiscoveryActs_0 :
    (∃ (s : State), (s.chip.banksOn = true) ∧ (s.chip.fabOn = true) ∧ (s.chip.armed (tmKey tmFabHello 0) = false ∨ s.chip.due (tmKey tmFabHello 0) = true))
    ∧ (∃ (s : State) (k : FPort) (h : FabHello), (s.chip.fabOn = true) ∧ (s.chip.planeHere (fpPlane k.val) = true) ∧ (s.chip.fpState k.val = 2 ∨ s.chip.fpState k.val = 4) ∧ (h.plane = fpPlane k.val) ∧ (h.domain = s.chip.rd R.FAB_DOMAIN pgFAB) ∧ (h.station ≠ s.chip.station) ∧ (s.chip.fab.quiet ≠ some (fpPlane k.val)))
    ∧ (∃ (s : State) (k : FPort) (h : FabHello), (s.chip.fabOn = true) ∧ (s.chip.planeHere (fpPlane k.val) = true) ∧ (s.chip.fpState k.val = 2) ∧ (h.plane ≠ fpPlane k.val) ∧ (s.chip.fab.portUp.length = 4))
    ∧ (∃ (s : State) (k : FPort) (n : Nat) (a : Adj), (s.chip.fab.adjs.find? (fun a => a.fport == k.val && a.station == n) = some a) ∧ (a.heardAt + 35 * dqMs ≤ s.chip.now))
    ∧ (∃ (s : State), (s.chip.fabOn = true) ∧ (s.chip.gridClash = false) ∧ (s.chip.armed (tmKey tmLsa 0) = false ∨ s.chip.due (tmKey tmLsa 0) = true ∨ s.chip.lsaStale = true)) :=
  ⟨⟨{ chip := ((live).wr R.PLUMB_MAIN_UP pgPLUMB 1).wr R.FAB_EN pgFAB 1 }, by decide +kernel⟩,
    ⟨{ chip := (((live).wr R.FAB_EN pgFAB 1).modFab (fun t => { t with portUp := [2, 0, 0, 0] })).wr R.FAB_DOMAIN pgFAB 3 }, 0, ⟨2, 3, .a, 0, false, 1, []⟩, by decide +kernel⟩,
    ⟨{ chip := (((live).wr R.FAB_EN pgFAB 1).modFab (fun t => { t with portUp := [2, 0, 0, 0] })).modFab (fun t => { t with portUp := [2, 0, 0, 0] }) }, 0, ⟨2, 3, .b, 0, false, 1, []⟩, by decide +kernel⟩,
    ⟨{ chip := (live).modFab (fun t => { t with adjs := [{ fport := 0, station := 2 }] }) }, 0, 2, { fport := 0, station := 2 }, by decide +kernel⟩,
    ⟨{ chip := (live).wr R.FAB_EN pgFAB 1 }, by decide +kernel⟩⟩

theorem met_FabricDiscoveryActs_1 :
    (∃ (s : State) (k : FPort) (l : Lsa), (s.chip.fabOn = true) ∧ (s.chip.fpState k.val = 2) ∧ (l.plane = fpPlane k.val) ∧ (l.domain = s.chip.rd R.FAB_DOMAIN pgFAB) ∧ (s.chip.ownEcho l = false) ∧ (l.ageMs ≤ 30000) ∧ (s.chip.fab.lsas.find? (fun x => x.1.plane == fpPlane k.val && x.1.station == l.station) = none))
    ∧ (∃ (s : State) (p : Plane) (n : Nat) (x : Lsa × Nat), (s.chip.fab.lsas.find? (fun x => x.1.plane == p && x.1.station == n) = some x) ∧ (x.2 + 30 * dqS ≤ s.chip.now))
    ∧ (∃ (s : State) (k : FPort) (f : FabFrame), (s.chip.fabOn = true) ∧ (s.chip.fpState k.val = 2) ∧ (f.tagged = false) ∧ (f.etherType = 0x88B5) ∧ (f.hdr.cls ≠ 0 ∨ f.hdr.sub ≠ 0) ∧ (s.chip.forMe f.hdr = false) ∧ (f.hdr.hops = 0))
    ∧ (∃ (s : State) (k : FPort) (f : FabFrame), (s.chip.fabOn = true) ∧ (s.chip.fpState k.val = 2) ∧ (f.tagged = false) ∧ (f.etherType = 0x88B5) ∧ (f.hdr.cls ≠ 0 ∨ f.hdr.sub ≠ 0) ∧ (s.chip.forMe f.hdr = false ∨ f.hdr.bcast = true) ∧ (f.hdr.hops ≠ 0) ∧ (s.chip.gridClash = false))
    ∧ (∃ (s : State) (k : FPort) (f : FabFrame), (s.chip.fabOn = true) ∧ (s.chip.fpState k.val = 2) ∧ (f.tagged = false) ∧ (f.etherType = 0x88B5) ∧ (f.fcsOk = true) ∧ ((s.chip.fab.prpSeen.filter (fun e => decide (s.chip.now < e.2.2 + 400 * dqMs))).any (fun e => e.1 == f.srcMac && e.2.1 == f.prpSeq) = false)) :=
  ⟨⟨{ chip := ((live).wr R.FAB_EN pgFAB 1).modFab (fun t => { t with portUp := [2, 0, 0, 0] }) }, 0, ⟨.a, 2, 1, 0, 1, true, 1, [], 0⟩, by decide +kernel⟩,
    ⟨{ chip := ({ live with now := 1000000000000 }).modFab (fun t => { t with lsas := [(⟨.a, 2, 1, 0, 1, true, 1, [], 0⟩, 0)] }) }, .a, 2, (⟨.a, 2, 1, 0, 1, true, 1, [], 0⟩, 0), by decide +kernel⟩,
    ⟨{ chip := ((live).wr R.FAB_EN pgFAB 1).modFab (fun t => { t with portUp := [2, 0, 0, 0] }) }, 0, { fabFrom 1 with hdr := { headFor 0 with cls := 1, dstNode := 5, hops := 0 } }, by decide +kernel⟩,
    ⟨{ chip := ((live).wr R.FAB_EN pgFAB 1).modFab (fun t => { t with portUp := [2, 0, 0, 0] }) }, 0, { fabFrom 1 with hdr := { headFor 0 with cls := 1, dstNode := 5, hops := 8 } }, by decide +kernel⟩,
    ⟨{ chip := ((live).wr R.FAB_EN pgFAB 1).modFab (fun t => { t with portUp := [2, 0, 0, 0] }) }, 0, fabFrom 1, by decide +kernel⟩⟩

theorem met_FabricDiscoveryActs_2 :
    (∃ (s : State) (k : FPort) (f : FabFrame), (s.chip.fabOn = true) ∧ (s.chip.fpState k.val = 2) ∧ (f.tagged = false) ∧ (f.etherType = 0x88B5) ∧ (f.fcsOk = true) ∧ ((s.chip.fab.prpSeen.filter (fun e => decide (s.chip.now < e.2.2 + 400 * dqMs))).any (fun e => e.1 == f.srcMac && e.2.1 == f.prpSeq) = true))
    ∧ (∃ (s : State) (k : FPort), (s.chip.fabOn = true) ∧ (s.chip.planeHere (fpPlane k.val) = true) ∧ (s.chip.planeSleeps (fpPlane k.val) = false) ∧ (s.chip.fab.portUp.length = 4) ∧ (s.chip.fab.quiet ≠ some (fpPlane k.val)))
    ∧ (∃ (s : State), (s.chip.fab.portUp.length = 4))
    ∧ (∃ (s : State), (s.chip.fabOn = true) ∧ (s.chip.gridClash = false) ∧ (s.chip.armed (tmKey tmSync 0) = false ∨ s.chip.due (tmKey tmSync 0) = true))
    ∧ (∃ (s : State), (s.chip.fabOn = true) ∧ (s.chip.gridClash = false) ∧ (s.chip.armed (tmKey tmPdelay 0) = false ∨ s.chip.due (tmKey tmPdelay 0) = true)) :=
  ⟨⟨{ chip := (((live).wr R.FAB_EN pgFAB 1).modFab (fun t => { t with portUp := [2, 0, 0, 0] })).modFab (fun t => { t with prpSeen := [(1, 0, 10000000000)] }) }, 0, fabFrom 1, by decide +kernel⟩,
    ⟨{ chip := (live).wr R.FAB_EN pgFAB 1 }, 0, by decide +kernel⟩,
    ⟨{ chip := live }, by decide +kernel⟩,
    ⟨{ chip := (live).wr R.FAB_EN pgFAB 1 }, by decide +kernel⟩,
    ⟨{ chip := (live).wr R.FAB_EN pgFAB 1 }, by decide +kernel⟩⟩

theorem met_FabricDiscoveryActs_3 :
    (∃ (s : State), (s.chip.fabOn = true) ∧ (s.chip.gridClash = false) ∧ (s.chip.rd R.TWIN_STATE pgTWIN ≠ 4) ∧ (s.chip.armed (tmKey tmSuperv 0) = false ∨ s.chip.due (tmKey tmSuperv 0) = true))
    ∧ (∃ (s : State), (s.chip.banksOn = true) ∧ (s.chip.fabPorts .a ≠ []) ∧ (s.chip.fabPorts .b ≠ []) ∧ (s.chip.fabOn = true) ∧ (s.chip.gridClash = false) ∧ (s.chip.on R.FAB_GM pgFAB = true) ∧ (s.chip.armed (tmKey tmSync 0) = false ∨ s.chip.due (tmKey tmSync 0) = true))
    ∧ (∃ (s : State), (s.chip.banksOn = true) ∧ (s.chip.fabPorts .a ≠ []) ∧ (s.chip.fabPorts .b ≠ []) ∧ (s.chip.fabOn = true) ∧ (s.chip.gridClash = false) ∧ (s.chip.armed (tmKey tmPdelay 0) = false ∨ s.chip.due (tmKey tmPdelay 0) = true))
    ∧ (∃ (s : State), (s.chip.banksOn = true) ∧ (s.chip.fabPorts .a ≠ []) ∧ (s.chip.fabPorts .b ≠ []) ∧ (s.chip.fabOn = true) ∧ (s.chip.gridClash = false) ∧ (s.chip.rd R.TWIN_STATE pgTWIN ≠ 4) ∧ (s.chip.armed (tmKey tmSuperv 0) = false ∨ s.chip.due (tmKey tmSuperv 0) = true)) :=
  ⟨⟨{ chip := (live).wr R.FAB_EN pgFAB 1 }, by decide +kernel⟩,
    ⟨{ chip := ((((live).wr R.PLUMB_MAIN_UP pgPLUMB 1).wr R.FAB_EN pgFAB 1).wr R.FAB_GM pgFAB 1).modFab (fun t => { t with portUp := [2, 2, 2, 2] }) }, by decide +kernel⟩,
    ⟨{ chip := (((live).wr R.PLUMB_MAIN_UP pgPLUMB 1).wr R.FAB_EN pgFAB 1).modFab (fun t => { t with portUp := [2, 2, 2, 2] }) }, by decide +kernel⟩,
    ⟨{ chip := (((live).wr R.PLUMB_MAIN_UP pgPLUMB 1).wr R.FAB_EN pgFAB 1).modFab (fun t => { t with portUp := [2, 2, 2, 2] }) }, by decide +kernel⟩⟩

theorem met_SurveyMessagesAct_0 :
    (∃ (s : State) (h : SurveyHdr) (pl : Bytes) (c1 : Chip), (s.chip.accepts h 1 = true) ∧ (h.part = 0) ∧ (h.rel = true) ∧ (s.chip.relRx h = (c1, true)) ∧ (fIsNan (f32 (leAt pl 4 4)) = false) ∧ (fSign (f32 (leAt pl 4 4)) = false) ∧ (leAt pl 8 8 = 0))
    ∧ (∃ (s : State) (h : SurveyHdr), (s.chip.accepts h 2 = true) ∧ (h.part = 0) ∧ ((s.chip.relRx h).2 = true))
    ∧ (∃ (s : State), (s.chip.fabLead = true) ∧ (s.chip.takesWork pgFAB = true) ∧ (s.chip.on R.FAB_SHARE_TX pgFAB = true) ∧ (s.chip.tick % s.chip.rd R.CROWN_PERIOD pgCROWN = 0) ∧ (s.chip.armed (tmKey tmShare 0) = false ∨ s.chip.due (tmKey tmShare 0) = true))
    ∧ (∃ (s : State), (s.chip.fabLead = true) ∧ (s.chip.takesWork pgFAB = true) ∧ (s.chip.on R.FAB_SHARE_TX pgFAB = true) ∧ (s.chip.tick % s.chip.rd R.CROWN_PERIOD pgCROWN = 0) ∧ (s.chip.armed (tmKey tmShare 0) = false ∨ s.chip.due (tmKey tmShare 0) = true))
    ∧ (∃ (s : State) (h : SurveyHdr), (s.chip.accepts h 3 = true) ∧ ((s.chip.relRx h).2 = true)) :=
  ⟨⟨{ chip := ((live).wr R.FAB_EN pgFAB 1).wr R.TWIN_STATE pgTWIN 1 }, { headFor 16 with bcast := true, cls := 1, rel := true }, List.replicate 16 0, ((((live).wr R.FAB_EN pgFAB 1).wr R.TWIN_STATE pgTWIN 1).relRx ({ headFor 16 with bcast := true, cls := 1, rel := true })).1, by decide +kernel⟩,
    ⟨{ chip := ((live).wr R.FAB_EN pgFAB 1).wr R.TWIN_STATE pgTWIN 1 }, { headFor 1 with bcast := true, cls := 2 }, by decide +kernel⟩,
    ⟨{ chip := (((live).wr R.FAB_EN pgFAB 1).wr R.TWIN_STATE pgTWIN 1).wr R.FAB_SHARE_TX pgFAB 1 }, by decide +kernel⟩,
    ⟨{ chip := (((live).wr R.FAB_EN pgFAB 1).wr R.TWIN_STATE pgTWIN 1).wr R.FAB_SHARE_TX pgFAB 1 }, by decide +kernel⟩,
    ⟨{ chip := ((live).wr R.FAB_EN pgFAB 1).wr R.TWIN_STATE pgTWIN 1 }, { headFor 1 with bcast := true, cls := 3 }, by decide +kernel⟩⟩

theorem met_SurveyMessagesAct_1 :
    (∃ (s : State) (h : SurveyHdr), (s.chip.accepts h 5 = true) ∧ (h.part = 0) ∧ ((s.chip.relRx h).2 = true))
    ∧ (∃ (s : State) (h : SurveyHdr), (s.chip.fabOn = true) ∧ (h.cls = 0) ∧ (h.sub = 2) ∧ (h.len = 4) ∧ (s.chip.forMe h = true))
    ∧ (∃ (s : State) (n : Nat) (m : RelMsg), (s.chip.fab.rel.find? (fun m => m.id.toNat == n) = some m) ∧ (m.tries < 3) ∧ (m.atT + (m.tries + 1) * dqMs ≤ s.chip.now))
    ∧ (∃ (s : State) (n : Nat) (m : RelMsg), (s.chip.fab.rel.find? (fun m => m.id.toNat == n) = some m) ∧ (m.atT + 4 * dqMs ≤ s.chip.now)) :=
  ⟨⟨{ chip := ((live).wr R.FAB_EN pgFAB 1).wr R.TWIN_STATE pgTWIN 1 }, { headFor 16 with bcast := true, cls := 5 }, by decide +kernel⟩,
    ⟨{ chip := (live).wr R.FAB_EN pgFAB 1 }, { headFor 4 with bcast := true, sub := 2 }, by decide +kernel⟩,
    ⟨{ chip := (live).modFab (fun t => { t with rel := [{ id := 1 }] }) }, 1, { id := 1 }, by decide +kernel⟩,
    ⟨{ chip := (live).modFab (fun t => { t with rel := [{ id := 1 }] }) }, 1, { id := 1 }, by decide +kernel⟩⟩

theorem met_FabricTimeMessagesAct_0 :
    (∃ (s : State) (p : Plane), (s.chip.fabOn = true) ∧ (s.chip.planeHere p = true) ∧ (p = .a ∨ s.chip.fab.slaveA = false))
    ∧ (∃ (s : State), (s.chip.fabOn = true) ∧ (s.chip.planeHere .b = true) ∧ (s.chip.fab.slaveA = true))
    ∧ (∃ (s : State) (p : Plane), (s.chip.fabOn = true) ∧ (s.chip.planeHere p = true))
    ∧ (∃ (s : State) (p : Plane), (s.chip.slaveOn (otherPlane p) = false))
    ∧ (∃ (s : State) (d : Int), (s.chip.leads = true) ∧ (s.chip.fabOn = true) ∧ (s.chip.fab.locked = false ∨ 80000 < d.natAbs) ∧ (s.chip.cmdScheduled = false)) :=
  ⟨⟨{ chip := (live).wr R.FAB_EN pgFAB 1 }, .a, by decide +kernel⟩,
    ⟨{ chip := ((live).wr R.FAB_EN pgFAB 1).modFab (fun t => { t with slaveA := true }) }, by decide +kernel⟩,
    ⟨{ chip := (live).wr R.FAB_EN pgFAB 1 }, .a, by decide +kernel⟩,
    ⟨{ chip := live }, .a, by decide +kernel⟩,
    ⟨{ chip := (((live).wr R.TWIN_STATE pgTWIN 1).wr R.SYS_SOLO_ALLOWED pgSYS 1).wr R.FAB_EN pgFAB 1 }, 0, by decide +kernel⟩⟩

theorem met_FabricTimeMessagesAct_1 :
    (∃ (s : State) (d : Int), (s.chip.leads = true) ∧ (s.chip.fabOn = true) ∧ (s.chip.fab.locked = false ∨ 80000 < d.natAbs) ∧ (s.chip.cmdScheduled = true))
    ∧ (∃ (s : State) (d : Int), (s.chip.leads = true) ∧ (s.chip.fabOn = true) ∧ (s.chip.fab.locked = true) ∧ (d.natAbs ≤ 80000))
    ∧ (∃ (s : State), (s.chip.due (tmKey tmFabTime 0) = true) ∧ (s.chip.leads = true)) :=
  ⟨⟨{ chip := ((((live).wr R.TWIN_STATE pgTWIN 1).wr R.SYS_SOLO_ALLOWED pgSYS 1).wr R.FAB_EN pgFAB 1).modPort 0 (fun t => { t with sentCmd := true, lastApply := 10001 }) }, 0, by decide +kernel⟩,
    ⟨{ chip := ((((live).wr R.TWIN_STATE pgTWIN 1).wr R.SYS_SOLO_ALLOWED pgSYS 1).wr R.FAB_EN pgFAB 1).modFab (fun t => { t with locked := true }) }, 0, by decide +kernel⟩,
    ⟨{ chip := ((elapsed (tmKey tmFabTime 0) (live)).wr R.TWIN_STATE pgTWIN 1).wr R.SYS_SOLO_ALLOWED pgSYS 1 }, by decide +kernel⟩⟩

theorem met_FabricTimeAndQuietAct_0 :
    (∃ (s : State) (h : SurveyHdr) (p : Plane), (s.chip.fabOn = true) ∧ (s.chip.forMe h = true) ∧ (h.src / 2 ≠ s.chip.grid) ∧ (s.chip.quietRefuses p = false))
    ∧ (∃ (s : State) (h : SurveyHdr) (p : Plane), (s.chip.fabOn = true) ∧ (s.chip.forMe h = true) ∧ (h.src / 2 ≠ s.chip.grid) ∧ (s.chip.quietRefuses p = true) ∧ (s.chip.fabLead = true))
    ∧ (∃ (s : State) (h : SurveyHdr) (p : Plane) (q : Nat), (s.chip.fabOn = true) ∧ (s.chip.forMe h = true) ∧ (s.chip.fab.quiet = some p) ∧ (s.chip.fab.quietQ = q))
    ∧ (∃ (s : State) (h : SurveyHdr) (p : Plane), (s.chip.fabOn = true) ∧ (s.chip.forMe h = true) ∧ (s.chip.fab.quiet = some p) ∧ (s.chip.fab.wake = false) ∧ (s.chip.fab.quietCommit = false ∨ s.chip.sinceQ = none))
    ∧ (∃ (s : State) (h : SurveyHdr) (p : Plane) (d : Nat), (s.chip.fabOn = true) ∧ (s.chip.forMe h = true) ∧ (s.chip.fab.quiet = some p) ∧ (s.chip.fab.wake = false) ∧ (s.chip.fab.quietCommit = true) ∧ (s.chip.sinceQ = some d) ∧ (d < 10 * dqUs) ∧ (s.chip.fab.idle = false)) :=
  ⟨⟨{ chip := ((live).wr R.FAB_EN pgFAB 1).wr R.FAB_PLANE_B pgFAB 2 }, { headFor 1 with bcast := true, cls := 0 }, .a, by decide +kernel⟩,
    ⟨{ chip := (((live).wr R.FAB_EN pgFAB 1).wr R.FAB_EN pgFAB 1).wr R.TWIN_STATE pgTWIN 1 }, headFor 0, .a, by decide +kernel⟩,
    ⟨{ chip := (((live).wr R.FAB_EN pgFAB 1).modFab (fun t => { t with quiet := some .a })).modFab (fun t => { t with quietQ := 0 }) }, headFor 0, .a, 0, by decide +kernel⟩,
    ⟨{ chip := (((live).wr R.FAB_EN pgFAB 1).modFab (fun t => { t with quiet := some .a })).modFab (fun t => { t with wake := false }) }, headFor 0, .a, by decide +kernel⟩,
    ⟨{ chip := ((((((live).wr R.FAB_EN pgFAB 1).modFab (fun t => { t with quiet := some .a })).modFab (fun t => { t with wake := false })).modFab (fun t => { t with quietCommit := true })).modFab (fun t => { t with idle := false })).modFab (fun t => { t with quietQ := 4000000 }) }, headFor 0, .a, 0, by decide +kernel⟩⟩

theorem met_FabricTimeAndQuietAct_1 :
    (∃ (s : State) (h : SurveyHdr) (p : Plane) (d : Nat), (s.chip.fabOn = true) ∧ (s.chip.forMe h = true) ∧ (s.chip.fab.quiet = some p) ∧ (s.chip.fab.wake = false) ∧ (s.chip.fab.quietCommit = true) ∧ (s.chip.sinceQ = some d) ∧ (10 * dqUs ≤ d ∨ s.chip.fab.idle = true))
    ∧ (∃ (s : State), (s.chip.due (tmKey tmQuietAck 0) = true) ∧ (s.chip.fab.quietMine = true) ∧ (s.chip.fab.quiet.isSome = true) ∧ (s.chip.fab.quietCommit = false) ∧ (s.chip.quietAgreed = true))
    ∧ (∃ (s : State), (s.chip.due (tmKey tmQuietAck 0) = true) ∧ (s.chip.fab.quietMine = true) ∧ (s.chip.fab.quiet.isSome = true) ∧ (s.chip.fab.quietCommit = false) ∧ (s.chip.quietAgreed = false))
    ∧ (∃ (s : State) (p : Plane), (s.chip.fab.quiet = some p) ∧ (s.chip.fab.asleep = false) ∧ (s.chip.fab.wake = false) ∧ (s.chip.sinceQ ≠ none) ∧ (s.chip.fab.quietCommit = true))
    ∧ (∃ (s : State) (p : Plane), (s.chip.fab.quiet = some p) ∧ (s.chip.fab.asleep = false) ∧ (s.chip.fab.wake = false) ∧ (s.chip.sinceQ ≠ none) ∧ (s.chip.fab.quietCommit = false)) :=
  ⟨⟨{ chip := (((((live).wr R.FAB_EN pgFAB 1).modFab (fun t => { t with quiet := some .a })).modFab (fun t => { t with wake := false })).modFab (fun t => { t with quietCommit := true })).modFab (fun t => { t with quietQ := 3000000 }) }, headFor 0, .a, 1000000, by decide +kernel⟩,
    ⟨{ chip := (((elapsed (tmKey tmQuietAck 0) (live)).modFab (fun t => { t with quietMine := true })).modFab (fun t => { t with quietCommit := false })).modFab (fun t => { t with quiet := some .a }) }, by decide +kernel⟩,
    ⟨{ chip := (((elapsed (tmKey tmQuietAck 0) (live)).modFab (fun t => { t with quietMine := true })).modFab (fun t => { t with quietCommit := false })).modFab (fun t => { t with quiet := some .a, adjs := [{ fport := 0, station := 2, heardMe := true }] }) }, by decide +kernel⟩,
    ⟨{ chip := ((((live).modFab (fun t => { t with quiet := some .a })).modFab (fun t => { t with asleep := false })).modFab (fun t => { t with wake := false })).modFab (fun t => { t with quietCommit := true }) }, .a, by decide +kernel⟩,
    ⟨{ chip := ((((live).modFab (fun t => { t with quiet := some .a })).modFab (fun t => { t with asleep := false })).modFab (fun t => { t with wake := false })).modFab (fun t => { t with quietCommit := false }) }, .a, by decide +kernel⟩⟩

theorem met_FabricTimeAndQuietAct_2 :
    (∃ (s : State) (p : Plane), (s.chip.fab.quiet = some p) ∧ (s.chip.due (tmKey tmSettleWin 0) = true) ∧ (s.chip.fab.asleep = true))
    ∧ (∃ (s : State) (k : FPort) (p : Plane) (d : Nat), (s.chip.fabOn = true) ∧ (s.chip.fpState k.val = 3) ∧ (s.chip.fab.quiet = some p) ∧ (s.chip.fab.wake = false) ∧ (s.chip.fab.quietCommit = true) ∧ (s.chip.sinceQ = some d) ∧ (s.chip.fab.idle = true)) :=
  ⟨⟨{ chip := (elapsed (tmKey tmSettleWin 0) ((live).modFab (fun t => { t with quiet := some .a }))).modFab (fun t => { t with asleep := true }) }, .a, by decide +kernel⟩,
    ⟨{ chip := (((((((live).wr R.FAB_EN pgFAB 1).modFab (fun t => { t with portUp := [3, 0, 0, 0] })).modFab (fun t => { t with quiet := some .a })).modFab (fun t => { t with wake := false })).modFab (fun t => { t with quietCommit := true })).modFab (fun t => { t with idle := true })).modFab (fun t => { t with quietQ := 4000000 }) }, 0, .a, 0, by decide +kernel⟩⟩

theorem met_RingCommandsAct_0 :
    (∃ (s : State), (s.chip.datum % 8000 = 0) ∧ (s.chip.armed (tmKey tmCredit 0) = false ∨ s.chip.due (tmKey tmCredit 0) = true))
    ∧ (∃ (s : State) (rs : RingReqs) (c1 : Chip) (q : RingQ) (b : Bool), (foldc rs (fun r c => c.ringAdd r) s.chip = c1) ∧ (c1.arb.tenure = none) ∧ (c1.ringChoice = some (q, b)))
    ∧ (∃ (s : State) (k : RSlot) (p : Part), ((s.chip.ringQ k.val p.val).backoff ≠ 0) ∧ ((s.chip.ringQ k.val p.val).backoff ≤ s.chip.now) ∧ ((s.chip.ringQ k.val p.val).slot = k.val) ∧ ((s.chip.ringQ k.val p.val).part = p.val))
    ∧ (∃ (s : State) (u : Tenure), (s.chip.arb.tenure = some u))
    ∧ (∃ (s : State) (u : Tenure), (s.chip.arb.tenure = some u) ∧ (s.chip.arb.qs.any (fun x => x.part != u.part && s.chip.presents x && s.chip.tier1 x) = true) ∧ (u.tier1 = false ∨ s.chip.credit u.part ≤ ringCycles (s.chip.now - u.start)) ∧ ((s.chip.ringQ u.slot u.part).xfers.head?.getD 0 ≠ 1)) :=
  ⟨⟨{ chip := live }, by decide +kernel⟩,
    ⟨{ chip := (live).modArb (fun t => { t with qs := [{ slot := 0, part := 0, xfers := [1] }] }) }, [], ((live).modArb (fun t => { t with qs := [{ slot := 0, part := 0, xfers := [1] }] })), { slot := 0, part := 0, xfers := [1] }, true, by decide +kernel⟩,
    ⟨{ chip := (live).modArb (fun t => { t with qs := [{ backoff := 1 }] }) }, 0, 0, by decide +kernel⟩,
    ⟨{ chip := (live).modArb (fun t => { t with tenure := some ({}) }) }, {}, by decide +kernel⟩,
    ⟨{ chip := (((live).modArb (fun t => { t with tenure := some ({ part := 1 }) })).modArb (fun t => { t with qs := [{ slot := 0, part := 1, xfers := [4] }, { slot := 1, part := 0, xfers := [1] }] })).modArb (fun t => { t with tenure := some { part := 1 } }) }, { part := 1 }, by decide +kernel⟩⟩

theorem met_RingCommandsAct_1 :
    (∃ (s : State) (u : Tenure), (s.chip.arb.tenure = some u) ∧ (s.chip.rd R.ARB_MAX_HOLD pgARB ≤ ringCycles (s.chip.now - u.began)))
    ∧ (∃ (s : State) (k : RSlot) (p : Part), ((s.chip.ringQ k.val p.val).blocked ≠ 0) ∧ ((s.chip.ringQ k.val p.val).blocked ≤ s.chip.now))
    ∧ (∃ (s : State) (k : RSlot) (p : Part), ((match s.chip.arb.tenure with | some u => u.slot == k.val && u.part == p.val | none => false) = false) ∧ ((s.chip.ringQ k.val p.val).blocked = 0) ∧ (s.chip.rd R.ARB_STARVE_LIMIT pgARB ≠ 0) ∧ ((s.chip.ringQ k.val p.val).xfers ≠ []) ∧ ((s.chip.ringQ k.val p.val).starving = false) ∧ (s.chip.rd R.ARB_STARVE_LIMIT pgARB < ringCycles (s.chip.now - (s.chip.ringQ k.val p.val).since))) :=
  ⟨⟨{ chip := (live).modArb (fun t => { t with tenure := some ({}) }) }, {}, by decide +kernel⟩,
    ⟨{ chip := (live).modArb (fun t => { t with qs := [{ blocked := 1 }] }) }, 0, 0, by decide +kernel⟩,
    ⟨{ chip := (live).modArb (fun t => { t with qs := [{ slot := 0, part := 0, xfers := [1] }] }) }, 0, 0, by decide +kernel⟩⟩

theorem met_FaultAndThermalCommandsAct_0 :
    (∃ (s : State) (k : Byte), (s.chip.plumb.porst = false) ∧ (s.chip.plumb.stopped = false) ∧ ((srcInfo k.toNat).isSome = true) ∧ (k.toNat ≠ 2) ∧ (k.toNat ≠ 3) ∧ (k.toNat ≠ 8))
    ∧ (∃ (s : State) (k : Byte), (s.chip.plumb.porst = false) ∧ (s.chip.plumb.stopped = false) ∧ ((srcInfo k.toNat).isSome = true))
    ∧ (∃ (s : State), (s.chip.due (tmKey tmS3 0) = true) ∧ (s.chip.on R.FCU_S3_HOLD pgFCU = false) ∧ (s.chip.writeBusy = false))
    ∧ (∃ (s : State), (s.chip.due (tmKey tmS3 0) = true) ∧ (s.chip.on R.FCU_S3_HOLD pgFCU = false) ∧ (s.chip.writeBusy = true))
    ∧ (∃ (s : State), (s.chip.due (tmKey tmS3 0) = true) ∧ (s.chip.on R.FCU_S3_HOLD pgFCU = true)) :=
  ⟨⟨{ chip := ((live).modPlumb (fun t => { t with porst := false })).modPlumb (fun t => { t with stopped := false }) }, 0, by decide +kernel⟩,
    ⟨{ chip := ((live).modPlumb (fun t => { t with porst := false })).modPlumb (fun t => { t with stopped := false }) }, 0, by decide +kernel⟩,
    ⟨{ chip := (elapsed (tmKey tmS3 0) (live)).wr R.FCU_S3_HOLD pgFCU 0 }, by decide +kernel⟩,
    ⟨{ chip := ((elapsed (tmKey tmS3 0) (live)).wr R.FCU_S3_HOLD pgFCU 0).modFbk (fun t => { t with writing := some {}, lastWrite := 10000000000 }) }, by decide +kernel⟩,
    ⟨{ chip := (elapsed (tmKey tmS3 0) (live)).wr R.FCU_S3_HOLD pgFCU 1 }, by decide +kernel⟩⟩

theorem met_FaultAndThermalCommandsAct_1 :
    (∃ (s : State), (s.chip.plumb.mgmtUp = true) ∧ (s.chip.plumb.mgmtFail = false) ∧ (s.chip.solo = true))
    ∧ (∃ (s : State), (s.chip.plumb.mgmtUp = true) ∧ (s.chip.plumb.mgmtFail = false) ∧ (s.chip.solo = false))
    ∧ (∃ (s : State), (s.chip.armed (tmKey tmMgmtAck 0) = true) ∧ (s.chip.plumb.mgmtFail = true))
    ∧ (∃ (s : State), (s.chip.due (tmKey tmMgmtAck 0) = true) ∧ (s.chip.plumb.mgmtFail = true))
    ∧ (∃ (s : State), (s.chip.plumb.porst = false) ∧ (s.chip.plumb.stopped = false) ∧ (∀ i < 64, s.chip.dieFailed i = false)) :=
  ⟨⟨{ chip := ((((live).modPlumb (fun t => { t with mgmtUp := true })).modPlumb (fun t => { t with mgmtFail := false })).wr R.TWIN_STATE pgTWIN 1).wr R.SYS_SOLO_ALLOWED pgSYS 1 }, by decide +kernel⟩,
    ⟨{ chip := ((live).modPlumb (fun t => { t with mgmtUp := true })).modPlumb (fun t => { t with mgmtFail := false }) }, by decide +kernel⟩,
    ⟨{ chip := ((live).arm (tmKey tmMgmtAck 0) 100).modPlumb (fun t => { t with mgmtFail := true }) }, by decide +kernel⟩,
    ⟨{ chip := (elapsed (tmKey tmMgmtAck 0) (live)).modPlumb (fun t => { t with mgmtFail := true }) }, by decide +kernel⟩,
    ⟨{ chip := ((live).modPlumb (fun t => { t with porst := false })).modPlumb (fun t => { t with stopped := false }) }, by decide +kernel⟩⟩

theorem met_FaultAndThermalCommandsAct_2 :
    (∃ (s : State) (k : Sensor) (u : Nat), (s.chip.plumb.failed.find? (fun e => e.1 == k.val) = some (k.val, u)) ∧ (u + 100 * dqMs ≤ s.chip.now) ∧ (s.chip.dieFailed k.val = false))
    ∧ (∃ (s : State), (s.chip.plumb.porst = false) ∧ (s.chip.plumb.stopped = false) ∧ (s.chip.plumb.thermal = false))
    ∧ (∃ (s : State), (s.chip.due (tmKey tmCool 0) = true) ∧ (s.chip.plumb.thermal = true) ∧ (s.chip.rd R.SEQ_STATE pgSEQ ≠ 2) ∧ (s.chip.plumb.downPos = none) ∧ (s.chip.on R.THM_SHUTDOWN_LOCK pgTHM = false) ∧ (s.chip.writeBusy = false))
    ∧ (∃ (s : State), (s.chip.due (tmKey tmCool 0) = true) ∧ (s.chip.plumb.thermal = true) ∧ (s.chip.rd R.SEQ_STATE pgSEQ ≠ 2) ∧ (s.chip.plumb.downPos = none) ∧ (s.chip.on R.THM_SHUTDOWN_LOCK pgTHM = false) ∧ (s.chip.writeBusy = true))
    ∧ (∃ (s : State) (p : Port) (b : Bool), ((s.chip.stageItem p.val b).1 ≠ 0x80000) ∧ (bitOf (s.chip.rd R.THM_SS_FAILED pgTHM ((2 * p.val + b2n b) / 32)) ((2 * p.val + b2n b) % 32) = false) ∧ (s.chip.stageInRange (s.chip.stageItem p.val b).1 = false ∨ s.chip.stageStuck p.val b = true)) :=
  ⟨⟨{ chip := (live).modPlumb (fun t => { t with failed := [(0, 0)] }) }, 0, 0, by decide +kernel⟩,
    ⟨{ chip := (((live).modPlumb (fun t => { t with porst := false })).modPlumb (fun t => { t with stopped := false })).modPlumb (fun t => { t with thermal := false }) }, by decide +kernel⟩,
    ⟨{ chip := (((elapsed (tmKey tmCool 0) (live)).modPlumb (fun t => { t with thermal := true })).modPlumb (fun t => { t with downPos := none })).wr R.THM_SHUTDOWN_LOCK pgTHM 0 }, by decide +kernel⟩,
    ⟨{ chip := ((((elapsed (tmKey tmCool 0) (live)).modPlumb (fun t => { t with thermal := true })).modPlumb (fun t => { t with downPos := none })).wr R.THM_SHUTDOWN_LOCK pgTHM 0).modFbk (fun t => { t with writing := some {}, lastWrite := 10000000000 }) }, by decide +kernel⟩,
    ⟨{ chip := (live).modPort 0 (fun t => { t with temp0 := 0x7FFFF }) }, 0, false, by decide +kernel⟩⟩

theorem met_FaultAndThermalCommandsAct_3 :
    (∃ (s : State) (p : Port) (b : Bool), (bitOf (s.chip.rd R.THM_SS_FAILED pgTHM ((2 * p.val + b2n b) / 32)) ((2 * p.val + b2n b) % 32) = true) ∧ (s.chip.stageInRange (s.chip.stageItem p.val b).1 = true) ∧ (s.chip.stageStuck p.val b = false) ∧ ((s.chip.stageItem p.val b).2.2 + 10 * dqS ≤ s.chip.now))
    ∧ (∃ (s : State), (s.chip.plumb.porst = false) ∧ (s.chip.plumb.stopped = false) ∧ (s.chip.writeBusy = false))
    ∧ (∃ (s : State), (s.chip.plumb.porst = false) ∧ (s.chip.plumb.stopped = false) ∧ (s.chip.writeBusy = true)) :=
  ⟨⟨{ chip := { ((live).wr R.THM_SS_FAILED pgTHM 1).modPort 0 (fun t => { t with temp0 := 400, t0Good := 0 }) with now := 100000000000 } }, 0, false, by decide +kernel⟩,
    ⟨{ chip := ((live).modPlumb (fun t => { t with porst := false })).modPlumb (fun t => { t with stopped := false }) }, by decide +kernel⟩,
    ⟨{ chip := (((live).modPlumb (fun t => { t with porst := false })).modPlumb (fun t => { t with stopped := false })).modFbk (fun t => { t with writing := some {}, lastWrite := 10000000000 }) }, by decide +kernel⟩⟩

theorem met_WatchdogAndResetCommandsAct_0 :
    (∃ (s : State), (s.chip.plumb.wdog = false))
    ∧ (∃ (s : State), (s.chip.plumb.porst = false) ∧ (s.chip.plumb.stopped = false) ∧ (s.chip.plumb.wdog = false))
    ∧ (∃ (s : State), (s.chip.due (tmKey tmWdogRst 0) = true) ∧ (s.chip.writeBusy = false))
    ∧ (∃ (s : State), (s.chip.due (tmKey tmWdogRst 0) = true) ∧ (s.chip.writeBusy = true))
    ∧ (∃ (s : State), (s.chip.plumb.porst = true)) :=
  ⟨⟨{ chip := (live).modPlumb (fun t => { t with wdog := false }) }, by decide +kernel⟩,
    ⟨{ chip := (((live).modPlumb (fun t => { t with porst := false })).modPlumb (fun t => { t with stopped := false })).modPlumb (fun t => { t with wdog := false }) }, by decide +kernel⟩,
    ⟨{ chip := elapsed (tmKey tmWdogRst 0) (live) }, by decide +kernel⟩,
    ⟨{ chip := (elapsed (tmKey tmWdogRst 0) (live)).modFbk (fun t => { t with writing := some {}, lastWrite := 10000000000 }) }, by decide +kernel⟩,
    ⟨{ chip := (live).modPlumb (fun t => { t with porst := true }) }, by decide +kernel⟩⟩

theorem met_WatchdogAndResetCommandsAct_1 :
    (∃ (s : State) (n : Nat), (s.chip.plumb.porst = false) ∧ (s.chip.plumb.stopped = false) ∧ (s.chip.plumb.resetN = false) ∧ (1000 ≤ n) ∧ (s.chip.writeBusy = false))
    ∧ (∃ (s : State) (n : Nat), (s.chip.plumb.porst = false) ∧ (s.chip.plumb.stopped = false) ∧ (s.chip.plumb.resetN = false) ∧ (1000 ≤ n) ∧ (s.chip.writeBusy = true))
    ∧ (∃ (s : State) (n : Nat), (s.chip.plumb.porst = false) ∧ (s.chip.plumb.stopped = false) ∧ (s.chip.plumb.resetN = false) ∧ (100 ≤ n) ∧ (n < 1000))
    ∧ (∃ (n : Nat), (n < 100))
    ∧ (∃ (s : State), (s.chip.plumb.resetN = true)) :=
  ⟨⟨{ chip := (((live).modPlumb (fun t => { t with porst := false })).modPlumb (fun t => { t with stopped := false })).modPlumb (fun t => { t with resetN := false }) }, 1000, by decide +kernel⟩,
    ⟨{ chip := ((((live).modPlumb (fun t => { t with porst := false })).modPlumb (fun t => { t with stopped := false })).modPlumb (fun t => { t with resetN := false })).modFbk (fun t => { t with writing := some {}, lastWrite := 10000000000 }) }, 1000, by decide +kernel⟩,
    ⟨{ chip := (((live).modPlumb (fun t => { t with porst := false })).modPlumb (fun t => { t with stopped := false })).modPlumb (fun t => { t with resetN := false }) }, 500, by decide +kernel⟩,
    ⟨0, by decide +kernel⟩,
    ⟨{ chip := (live).modPlumb (fun t => { t with resetN := true }) }, by decide +kernel⟩⟩

theorem met_WatchdogAndResetCommandsAct_2 :
    (∃ (s : State), (s.chip.plumb.rom = true) ∧ (s.chip.plumb.porst = false) ∧ (s.chip.plumb.resetN = false) ∧ (s.chip.plumb.stopped = false))
    ∧ (∃ (s : State), (s.chip.due (tmKey tmKeyReset 0) = true) ∧ (s.chip.plumb.key = 1))
    ∧ (∃ (s : State), (s.chip.due (tmKey tmResetBegin 0) = true) ∧ (s.chip.writeBusy = false))
    ∧ (∃ (s : State), (s.chip.due (tmKey tmResetBegin 0) = true) ∧ (s.chip.writeBusy = true))
    ∧ (∃ (s : State), (s.chip.due (tmKey tmBoot 0) = true) ∧ (s.chip.rd R.SYS_STEP pgSYS < 5) ∧ (s.chip.writeBusy = false)) :=
  ⟨⟨{ chip := ((((live).modPlumb (fun t => { t with rom := true })).modPlumb (fun t => { t with porst := false })).modPlumb (fun t => { t with resetN := false })).modPlumb (fun t => { t with stopped := false }) }, by decide +kernel⟩,
    ⟨{ chip := (elapsed (tmKey tmKeyReset 0) (live)).modPlumb (fun t => { t with key := 1 }) }, by decide +kernel⟩,
    ⟨{ chip := elapsed (tmKey tmResetBegin 0) (live) }, by decide +kernel⟩,
    ⟨{ chip := (elapsed (tmKey tmResetBegin 0) (live)).modFbk (fun t => { t with writing := some {}, lastWrite := 10000000000 }) }, by decide +kernel⟩,
    ⟨{ chip := elapsed (tmKey tmBoot 0) (live) }, by decide +kernel⟩⟩

theorem met_WatchdogAndResetCommandsAct_3 :
    ∃ (s : State), (s.chip.due (tmKey tmBoot 0) = true) ∧ (s.chip.rd R.SYS_STEP pgSYS < 5) ∧ (s.chip.writeBusy = true) :=
  ⟨{ chip := (elapsed (tmKey tmBoot 0) (live)).modFbk (fun t => { t with writing := some {}, lastWrite := 10000000000 }) }, by decide +kernel⟩

theorem met_SequencerCommandsAct_0 :
    (∃ (s : State), (s.chip.plumb.stopped = false) ∧ (s.chip.due (tmKey tmRail 0) = true) ∧ (s.chip.rd R.SEQ_STATE pgSEQ = 1) ∧ (s.chip.plumb.waitPg = false) ∧ (s.chip.plumb.rail < 8) ∧ (bitOf (s.chip.rd R.SEQ_PG pgSEQ) s.chip.plumb.rail = false))
    ∧ (∃ (s : State) (k : Rail) (m : Nat) (r : Nat), (s.chip.plumb.stopped = false) ∧ (s.chip.rd R.SEQ_STATE pgSEQ = 1) ∧ ((railOf s.chip.plumb.runSet k.val).used = true) ∧ (s.chip.plumb.waitPg = true) ∧ (s.chip.plumb.rail = k.val) ∧ (s.chip.plumb.pos < 8) ∧ (m + 1 ≤ 7 - s.chip.plumb.pos) ∧ (∀ j < m, railAtPos s.chip.plumb.runSet (s.chip.plumb.pos + 1 + j) = none) ∧ (railAtPos s.chip.plumb.runSet (s.chip.plumb.pos + 1 + m) = some r))
    ∧ (∃ (s : State) (k : Rail), (s.chip.plumb.stopped = false) ∧ (s.chip.rd R.SEQ_STATE pgSEQ = 1) ∧ ((railOf s.chip.plumb.runSet k.val).used = true) ∧ (s.chip.plumb.waitPg = true) ∧ (s.chip.plumb.rail = k.val) ∧ (s.chip.plumb.pos < 8) ∧ (∀ j < 8, s.chip.plumb.pos < j → railAtPos s.chip.plumb.runSet j = none) ∧ (s.chip.plumb.refclk = true))
    ∧ (∃ (s : State), (s.chip.plumb.stopped = false) ∧ (s.chip.due (tmKey tmPgWin 0) = true) ∧ (s.chip.rd R.SEQ_STATE pgSEQ = 1) ∧ (s.chip.plumb.waitPg = true) ∧ (s.chip.plumb.rail < 8))
    ∧ (∃ (s : State) (k : Rail), (s.chip.plumb.stopped = false) ∧ (s.chip.rd R.SEQ_STATE pgSEQ = 2) ∧ ((railOf s.chip.plumb.runSet k.val).used = true) ∧ (bitOf (s.chip.rd R.SEQ_EN pgSEQ) k.val = true)) :=
  ⟨⟨{ chip := ((elapsed (tmKey tmRail 0) ((live).modPlumb (fun t => { t with stopped := false }))).wr R.SEQ_STATE pgSEQ 1).modPlumb (fun t => { t with waitPg := false }) }, by decide +kernel⟩,
    ⟨{ chip := ((((live).modPlumb (fun t => { t with stopped := false })).wr R.SEQ_STATE pgSEQ 1).modPlumb (fun t => { t with waitPg := true })).modPlumb (fun t => { t with rail := 0 }) }, 0, 0, 1, by decide +kernel⟩,
    ⟨{ chip := ((((((live).modPlumb (fun t => { t with stopped := false })).wr R.SEQ_STATE pgSEQ 1).modPlumb (fun t => { t with waitPg := true })).modPlumb (fun t => { t with rail := 0 })).modPlumb (fun t => { t with refclk := true })).modPlumb (fun t => { t with pos := 7 }) }, 0, by decide +kernel⟩,
    ⟨{ chip := ((elapsed (tmKey tmPgWin 0) ((live).modPlumb (fun t => { t with stopped := false }))).wr R.SEQ_STATE pgSEQ 1).modPlumb (fun t => { t with waitPg := true }) }, by decide +kernel⟩,
    ⟨{ chip := (((live).modPlumb (fun t => { t with stopped := false })).wr R.SEQ_STATE pgSEQ 2).wr R.SEQ_EN pgSEQ 1 }, 0, by decide +kernel⟩⟩

theorem met_SequencerCommandsAct_1 :
    (∃ (s : State) (k : Rail), (s.chip.plumb.stopped = false) ∧ (s.chip.rd R.SEQ_STATE pgSEQ = 1) ∧ ((railOf s.chip.plumb.runSet k.val).used = true) ∧ (s.chip.plumb.seen.getLsbD k.val = true) ∧ (s.chip.plumb.downPos = none))
    ∧ (∃ (s : State) (k : Rail), (s.chip.plumb.stopped = true ∨ (s.chip.rd R.SEQ_STATE pgSEQ ≠ 1 ∧ s.chip.rd R.SEQ_STATE pgSEQ ≠ 2) ∨ (railOf s.chip.plumb.runSet k.val).used = false))
    ∧ (∃ (s : State) (m : Nat) (r : Nat), (s.chip.plumb.stopped = false) ∧ (s.chip.due (tmKey tmRetry 0) = true) ∧ (s.chip.rd R.SEQ_STATE pgSEQ = 3) ∧ (s.chip.plumb.downWhy = 0) ∧ (m < 8) ∧ (∀ j < m, railAtPos (s.chip.plumb.newSet.getD s.chip.plumb.runSet) j = none) ∧ (railAtPos (s.chip.plumb.newSet.getD s.chip.plumb.runSet) m = some r))
    ∧ (∃ (s : State), (s.chip.due (tmKey tmAborts 0) = true) ∧ (s.chip.rd R.SEQ_STATE pgSEQ = 2))
    ∧ (∃ (s : State) (k : Nat), (s.chip.plumb.stopped = false) ∧ (s.chip.plumb.downWhy ≠ 0) ∧ (s.chip.plumb.downPos = none) ∧ (s.chip.rd R.SEQ_STATE pgSEQ ≠ 5) ∧ (s.chip.rd R.SEQ_STATE pgSEQ ≠ 4) ∧ (s.chip.rd R.SEQ_STATE pgSEQ ≠ 0) ∧ (railBelow s.chip.plumb.runSet 7 = some k) ∧ ((railOf s.chip.plumb.runSet k).order ≠ 0) ∧ ((railBelow s.chip.plumb.runSet ((railOf s.chip.plumb.runSet k).order - 1)).isSome = true) ∧ (k < 8)) :=
  ⟨⟨{ chip := ((((live).modPlumb (fun t => { t with stopped := false })).wr R.SEQ_STATE pgSEQ 1).modPlumb (fun t => { t with downPos := none })).modPlumb (fun t => { t with seen := 1 }) }, 0, by decide +kernel⟩,
    ⟨{ chip := live }, 0, by decide +kernel⟩,
    ⟨{ chip := ((elapsed (tmKey tmRetry 0) ((live).modPlumb (fun t => { t with stopped := false }))).wr R.SEQ_STATE pgSEQ 3).modPlumb (fun t => { t with downWhy := 0 }) }, 0, 0, by decide +kernel⟩,
    ⟨{ chip := (elapsed (tmKey tmAborts 0) (live)).wr R.SEQ_STATE pgSEQ 2 }, by decide +kernel⟩,
    ⟨{ chip := ((((live).modPlumb (fun t => { t with stopped := false })).modPlumb (fun t => { t with downPos := none })).wr R.SEQ_STATE pgSEQ 3).modPlumb (fun t => { t with downWhy := 1 }) }, 6, by decide +kernel⟩⟩

theorem met_SequencerCommandsAct_2 :
    (∃ (s : State) (j : Nat) (k : Nat), (s.chip.plumb.stopped = false) ∧ (s.chip.due (tmKey tmDown 0) = true) ∧ (s.chip.plumb.downPos = some j) ∧ (j ≠ 0) ∧ (railBelow s.chip.plumb.runSet (j - 1) = some k) ∧ (s.chip.rd R.SEQ_STATE pgSEQ ≠ 5) ∧ ((railOf s.chip.plumb.runSet k).order ≠ 0) ∧ ((railBelow s.chip.plumb.runSet ((railOf s.chip.plumb.runSet k).order - 1)).isSome = true) ∧ (k < 8))
    ∧ (∃ (s : State), (s.chip.plumb.porst = false) ∧ (s.chip.plumb.stopped = false)) :=
  ⟨⟨{ chip := ((elapsed (tmKey tmDown 0) ((live).modPlumb (fun t => { t with stopped := false }))).modPlumb (fun t => { t with downPos := some 2 })).wr R.SEQ_STATE pgSEQ 3 }, 2, 1, by decide +kernel⟩,
    ⟨{ chip := ((live).modPlumb (fun t => { t with porst := false })).modPlumb (fun t => { t with stopped := false }) }, by decide +kernel⟩⟩

theorem met_ClockCommandsAct_0 :
    (∃ (s : State) (i : Island), (s.chip.armed (tmKey tmPll i.val) = true) ∧ (s.chip.plumb.halted = false))
    ∧ (∃ (s : State) (i : Island), (s.chip.due (tmKey tmPll i.val) = true) ∧ (s.chip.plumb.halted = false) ∧ (mapGet s.chip.plumb.tries i.val 0 < 3))
    ∧ (∃ (s : State) (i : Island), (s.chip.due (tmKey tmPll i.val) = true) ∧ (s.chip.plumb.halted = false) ∧ (3 ≤ mapGet s.chip.plumb.tries i.val 0))
    ∧ (∃ (s : State) (i : Island), (s.chip.due (tmKey tmPllRst i.val) = true) ∧ (s.chip.plumb.halted = false))
    ∧ (∃ (s : State) (i : Island), (s.chip.plumb.porst = false) ∧ (s.chip.plumb.stopped = false) ∧ (3 ≤ s.chip.rd R.SYS_STEP pgSYS) ∧ (s.chip.plumb.locked.contains i.val = true)) :=
  ⟨⟨{ chip := ((live).arm (tmKey tmPll 0) 100).modPlumb (fun t => { t with halted := false }) }, 0, by decide +kernel⟩,
    ⟨{ chip := (elapsed (tmKey tmPll 0) (live)).modPlumb (fun t => { t with halted := false }) }, 0, by decide +kernel⟩,
    ⟨{ chip := ((elapsed (tmKey tmPll 0) (live)).modPlumb (fun t => { t with halted := false })).modPlumb (fun t => { t with tries := [(0, 3)] }) }, 0, by decide +kernel⟩,
    ⟨{ chip := (elapsed (tmKey tmPllRst 0) (live)).modPlumb (fun t => { t with halted := false }) }, 0, by decide +kernel⟩,
    ⟨{ chip := ((((live).modPlumb (fun t => { t with porst := false })).modPlumb (fun t => { t with stopped := false })).wr R.SYS_STEP pgSYS 3).modPlumb (fun t => { t with locked := [0] }) }, 0, by decide +kernel⟩⟩

theorem met_ClockCommandsAct_1 :
    (∃ (s : State), (s.chip.plumb.porst = false) ∧ (s.chip.plumb.stopped = false) ∧ (s.chip.plumb.refclk = true) ∧ (3 ≤ s.chip.rd R.SYS_STEP pgSYS))
    ∧ (∃ (s : State), (s.chip.plumb.porst = false) ∧ (s.chip.plumb.stopped = false) ∧ (s.chip.plumb.refclk = true) ∧ (s.chip.rd R.SYS_STEP pgSYS = 2) ∧ (s.chip.plumb.halted = false))
    ∧ (∃ (s : State), (s.chip.plumb.porst = false) ∧ (s.chip.plumb.stopped = false) ∧ (s.chip.plumb.refclk = true) ∧ (s.chip.rd R.SYS_STEP pgSYS < 2))
    ∧ (∃ (s : State) (b : Bool), (s.chip.plumb.porst = false) ∧ (s.chip.plumb.stopped = false) ∧ (s.chip.on R.PLUMB_XTAL_RUN pgPLUMB ≠ b)) :=
  ⟨⟨{ chip := (((((live).modPlumb (fun t => { t with porst := false })).modPlumb (fun t => { t with stopped := false })).modPlumb (fun t => { t with refclk := true })).wr R.SYS_STEP pgSYS 3).modPlumb (fun t => { t with refclk := true }) }, by decide +kernel⟩,
    ⟨{ chip := (((((live).modPlumb (fun t => { t with porst := false })).modPlumb (fun t => { t with stopped := false })).modPlumb (fun t => { t with refclk := true })).wr R.SYS_STEP pgSYS 2).modPlumb (fun t => { t with halted := false }) }, by decide +kernel⟩,
    ⟨{ chip := (((live).modPlumb (fun t => { t with porst := false })).modPlumb (fun t => { t with stopped := false })).modPlumb (fun t => { t with refclk := true }) }, by decide +kernel⟩,
    ⟨{ chip := ((live).modPlumb (fun t => { t with porst := false })).modPlumb (fun t => { t with stopped := false }) }, true, by decide +kernel⟩⟩

theorem met_PlumbReadingsAct_0 :
    (∃ (s : State), (s.chip.on R.PLUMB_MAIN_UP pgPLUMB = true) ∧ (s.chip.plumb.msTick ≤ s.chip.now))
    ∧ (∃ (s : State) (a : AdcRead), (s.chip.due (tmKey tmHibSample 0) = true) ∧ (s.chip.plumb.hib = true) ∧ (s.chip.plumb.hibWake = 0) ∧ (s.chip.hibHigh a = false))
    ∧ (∃ (s : State) (a : AdcRead), (s.chip.due (tmKey tmHibSample 0) = true) ∧ (s.chip.plumb.hib = true) ∧ (s.chip.plumb.hibWake = 0) ∧ (s.chip.hibHigh a = true))
    ∧ (∃ (s : State) (a : AdcRead), (s.chip.due (tmKey tmHibSample 0) = true) ∧ (s.chip.plumb.hib = false ∨ s.chip.plumb.hibWake ≠ 0) ∧ (s.chip.hibHigh a = false ∨ s.chip.plumb.hibWake = 0))
    ∧ (∃ (s : State) (a : AdcRead), (s.chip.due (tmKey tmHibSample 0) = true) ∧ (s.chip.plumb.hibWake ≠ 0) ∧ (s.chip.hibHigh a = true)) :=
  ⟨⟨{ chip := (live).wr R.PLUMB_MAIN_UP pgPLUMB 1 }, by decide +kernel⟩,
    ⟨{ chip := ((elapsed (tmKey tmHibSample 0) (live)).modPlumb (fun t => { t with hib := true })).modPlumb (fun t => { t with hibWake := 0 }) }, ⟨0, 0, 0, 0, 0, 0⟩, by decide +kernel⟩,
    ⟨{ chip := (((elapsed (tmKey tmHibSample 0) (live)).modPlumb (fun t => { t with hib := true })).modPlumb (fun t => { t with hibWake := 0 })).modPlumb (fun t => { t with hibScale := 0x3F800000, hibLimit := 0x3F800000 }) }, ⟨65535, 65535, 65535, 65535, 65535, 65535⟩, by decide +kernel⟩,
    ⟨{ chip := elapsed (tmKey tmHibSample 0) (live) }, ⟨0, 0, 0, 0, 0, 0⟩, by decide +kernel⟩,
    ⟨{ chip := ((elapsed (tmKey tmHibSample 0) (live)).modPlumb (fun t => { t with hibScale := 0x3F800000, hibLimit := 0x3F800000 })).modPlumb (fun t => { t with hibWake := 2 }) }, ⟨65535, 65535, 65535, 65535, 65535, 65535⟩, by decide +kernel⟩⟩

theorem met_PlumbReadingsAct_1 :
    ∃ (s : State), (s.chip.due (tmKey tmHibRec 0) = true) ∧ (s.chip.plumb.hib = true) :=
  ⟨{ chip := (elapsed (tmKey tmHibRec 0) (live)).modPlumb (fun t => { t with hib := true }) }, by decide +kernel⟩

theorem met_StartStepsAct_0 :
    (∃ (s : State) (i : FlashInfo) (r : Containers), (s.chip.rd R.SYS_STEP pgSYS = 2) ∧ (s.chip.plumb.halted = false) ∧ ((upTo 31).all (fun k => s.chip.plumb.locked.contains k) = true) ∧ (s.chip.rd R.SYS_BOOT_SRC pgSYS ≠ 0) ∧ (((s.chip.xspiStart i).setPasses r).2 = false))
    ∧ (∃ (s : State), (s.chip.rd R.SYS_STEP pgSYS = 3) ∧ (s.chip.plumb.mgmtUp = true))
    ∧ (∃ (s : State), (s.chip.rd R.SYS_STEP pgSYS = 4) ∧ (s.chip.discoveryDone = true))
    ∧ (∃ (s : State), (s.chip.due (tmKey tmProbe 0) = true) ∧ (s.chip.twin.step6 = true) ∧ (s.chip.noRole = true))
    ∧ (∃ (s : State), (s.chip.due (tmKey tmProbe 0) = true) ∧ (s.chip.twin.step6 = true) ∧ (s.chip.noRole = true) ∧ (s.chip.on R.SYS_SOLO_ALLOWED pgSYS = false)) :=
  ⟨⟨{ chip := ((((live).wr R.SYS_STEP pgSYS 2).modPlumb (fun t => { t with halted := false })).modPlumb (fun t => { t with locked := upTo 31 })).wr R.SYS_BOOT_SRC pgSYS 1 }, ⟨32, 100, false⟩, [], by decide +kernel⟩,
    ⟨{ chip := ((live).wr R.SYS_STEP pgSYS 3).modPlumb (fun t => { t with mgmtUp := true }) }, by decide +kernel⟩,
    ⟨{ chip := { (live).wr R.SYS_STEP pgSYS 4 with ports := (upTo 192).map (fun p => (p, { cfgDone := true })) } }, by decide +kernel⟩,
    ⟨{ chip := (elapsed (tmKey tmProbe 0) (live)).modTwin (fun t => { t with step6 := true }) }, by decide +kernel⟩,
    ⟨{ chip := ((elapsed (tmKey tmProbe 0) (live)).modTwin (fun t => { t with step6 := true })).wr R.SYS_SOLO_ALLOWED pgSYS 0 }, by decide +kernel⟩⟩

theorem met_StartStepsAct_1 :
    (∃ (s : State), (s.chip.due (tmKey tmProbe 0) = true) ∧ (s.chip.twin.step6 = true) ∧ (s.chip.noRole = true) ∧ (s.chip.on R.SYS_SOLO_ALLOWED pgSYS = true) ∧ (s.chip.flash.cfgA = none) ∧ (s.chip.flash.cfgB = none) ∧ (s.mem = []) ∧ (s.chip.rd R.SYS_STEP pgSYS = 5))
    ∧ (∃ (s : State) (b : Bool), (s.chip.due (tmKey tmProbe 0) = true) ∧ (s.chip.twin.step6 = true) ∧ (s.chip.noRole = true) ∧ (s.chip.on R.SYS_TWIN_ID pgSYS = true) ∧ (b = false))
    ∧ (∃ (s : State), (s.chip.rd R.SYS_STEP pgSYS = 6)) :=
  ⟨⟨{ chip := (((((elapsed (tmKey tmProbe 0) (live)).modTwin (fun t => { t with step6 := true })).wr R.SYS_SOLO_ALLOWED pgSYS 1).modFlash (fun t => { t with cfgA := none })).modFlash (fun t => { t with cfgB := none })).wr R.SYS_STEP pgSYS 5 }, by decide +kernel⟩,
    ⟨{ chip := ((elapsed (tmKey tmProbe 0) (live)).modTwin (fun t => { t with step6 := true })).wr R.SYS_TWIN_ID pgSYS 1 }, false, by decide +kernel⟩,
    ⟨{ chip := (live).wr R.SYS_STEP pgSYS 6 }, by decide +kernel⟩⟩

theorem met_FieldBookCommandsAct_0 :
    (∃ (s : State) (k : Nat) (b : Bytes), (s.chip.plumb.porst = false) ∧ (s.chip.plumb.stopped = false) ∧ (s.chip.fbk.queue.length < 256) ∧ (shelfCode k = false) ∧ (b ≠ []))
    ∧ (∃ (s : State) (q : FbRec) (rest : List FbRec) (i : Nat) (o : Option FbRec), (s.chip.fbk.queue = q :: rest) ∧ (s.chip.fbCanWrite = true) ∧ (s.chip.fbPlace q = some (i, o)))
    ∧ (∃ (s : State), (s.chip.due (tmKey tmKeyErase 0) = true) ∧ (s.chip.plumb.eraseKey = 1))
    ∧ (∃ (s : State), (s.chip.fbk.erasing = true)) :=
  ⟨⟨{ chip := ((live).modPlumb (fun t => { t with porst := false })).modPlumb (fun t => { t with stopped := false }) }, 0, [0], by decide +kernel⟩,
    ⟨{ chip := ((live).modFbk (fun t => { t with queue := ({}) :: default })).modPlumb (fun t => { t with por := false }) }, {}, default, 0, none, by decide +kernel⟩,
    ⟨{ chip := (elapsed (tmKey tmKeyErase 0) (live)).modPlumb (fun t => { t with eraseKey := 1 }) }, by decide +kernel⟩,
    ⟨{ chip := (live).modFbk (fun t => { t with erasing := true }) }, by decide +kernel⟩⟩

theorem met_CaptureCommandsAct_0 :
    (∃ (s : State) (k : Oct), ((s.chip.wset k.val).cause = true) ∧ ((s.chip.wset k.val).trig = false) ∧ (s.chip.rd R.WCAP_STATE pgWCAP k.val = 1) ∧ ((s.chip.wset k.val).armTick < s.chip.tick))
    ∧ (∃ (s : State) (k : Oct), (s.chip.wcDue k.val = true))
    ∧ (∃ (s : State) (k : Oct), (s.chip.wcDue k.val = true))
    ∧ (∃ (s : State) (k : Oct), (s.chip.rd R.WCAP_STATE pgWCAP k.val = 2) ∧ ((s.chip.wset k.val).left = 0))
    ∧ (∃ (s : State) (k : Oct), (s.chip.rd R.WCAP_STATE pgWCAP k.val = 3) ∧ (s.chip.on R.WCAP_FLUSH_EN pgWCAP k.val = true)) :=
  ⟨⟨{ chip := (((live).modWset 0 (fun t => { t with cause := true })).modWset 0 (fun t => { t with trig := false })).wr R.WCAP_STATE pgWCAP 1 0 }, 0, by decide +kernel⟩,
    ⟨{ chip := ((live).wr R.WCAP_STATE pgWCAP 1).wr R.WCAP_DECIM pgWCAP 1 }, 0, by decide +kernel⟩,
    ⟨{ chip := ((live).wr R.WCAP_STATE pgWCAP 1).wr R.WCAP_DECIM pgWCAP 1 }, 0, by decide +kernel⟩,
    ⟨{ chip := ((live).wr R.WCAP_STATE pgWCAP 2 0).modWset 0 (fun t => { t with left := 0 }) }, 0, by decide +kernel⟩,
    ⟨{ chip := ((live).wr R.WCAP_STATE pgWCAP 3 0).wr R.WCAP_FLUSH_EN pgWCAP 1 0 }, 0, by decide +kernel⟩⟩

theorem met_CaptureCommandsAct_1 :
    (∃ (s : State) (k : Oct), (s.chip.rd R.WCAP_STATE pgWCAP k.val = 4))
    ∧ (∃ (s : State) (k : Oct), (s.chip.rd R.WCAP_STATE pgWCAP k.val = 4)) :=
  ⟨⟨{ chip := (live).wr R.WCAP_STATE pgWCAP 4 0 }, 0, by decide +kernel⟩,
    ⟨{ chip := (live).wr R.WCAP_STATE pgWCAP 4 0 }, 0, by decide +kernel⟩⟩

theorem met_ImageUpdateCommandsAct_0 :
    (∃ (s : State) (v : Word), (bitOf v.toNat 0 = true) ∧ (s.chip.host.posted = none) ∧ (s.chip.on R.HOST_LINK_UP pgHOST = true) ∧ (s.chip.plumb.mgmtUp = true))
    ∧ (∃ (s : State) (b : Bytes), (s.chip.mbRequest 0x101 = some b) ∧ (s.chip.fwuBusy = false) ∧ (s.chip.takesWork pgFWU = true))
    ∧ (∃ (s : State) (b : Bytes), (s.chip.mbRequest 0x102 = some b) ∧ (s.chip.fwuBusy = false) ∧ (s.chip.takesWork pgFWU = true) ∧ (leAt b 0 4 + (b.drop 4).length ≤ 32 * 2 ^ 20))
    ∧ (∃ (s : State) (b : Bytes), (s.chip.mbRequest 0x102 = some b) ∧ (s.chip.fwuBusy = false) ∧ (s.chip.takesWork pgFWU = true) ∧ (32 * 2 ^ 20 < leAt b 0 4 + (b.drop 4).length))
    ∧ (∃ (s : State) (b : Bytes), (s.chip.mbRequest 0x103 = some b) ∧ (s.chip.fwuBusy = false) ∧ (s.chip.takesWork pgFWU = true)) :=
  ⟨⟨{ chip := (((live).modHost (fun t => { t with posted := none })).wr R.HOST_LINK_UP pgHOST 1).modPlumb (fun t => { t with mgmtUp := true }) }, 1, by decide +kernel⟩,
    ⟨{ chip := (((live).wr R.SYS_SOLO_ALLOWED pgSYS 1).wr R.TWIN_STATE pgTWIN 1).modHost (fun t => { t with posted := some (0x101, []) }) }, [], by decide +kernel⟩,
    ⟨{ chip := (((live).wr R.SYS_SOLO_ALLOWED pgSYS 1).wr R.TWIN_STATE pgTWIN 1).modHost (fun t => { t with posted := some (0x102, List.replicate 260 0) }) }, List.replicate 260 0, by decide +kernel⟩,
    ⟨{ chip := (((live).wr R.SYS_SOLO_ALLOWED pgSYS 1).wr R.TWIN_STATE pgTWIN 1).modHost (fun t => { t with posted := some (0x102, List.replicate 260 255) }) }, List.replicate 260 255, by decide +kernel⟩,
    ⟨{ chip := (((live).wr R.SYS_SOLO_ALLOWED pgSYS 1).wr R.TWIN_STATE pgTWIN 1).modHost (fun t => { t with posted := some (0x103, []) }) }, [], by decide +kernel⟩⟩

theorem met_ImageUpdateCommandsAct_1 :
    (∃ (s : State) (b : Bytes), (s.chip.mbRequest 0x104 = some b) ∧ (s.chip.fwuBusy = false) ∧ (s.chip.takesWork pgFWU = true) ∧ (s.chip.activateRefuse (leAt b 0 1) = none) ∧ (s.chip.paired = false))
    ∧ (∃ (s : State) (b : Bytes), (s.chip.mbRequest 0x104 = some b) ∧ (s.chip.fwuBusy = false) ∧ (s.chip.takesWork pgFWU = true) ∧ (s.chip.activateRefuse (leAt b 0 1) = none) ∧ (s.chip.paired = true))
    ∧ (∃ (s : State) (b : Bytes) (n : Nat), (s.chip.mbRequest 0x104 = some b) ∧ (s.chip.fwuBusy = false) ∧ (s.chip.takesWork pgFWU = true) ∧ (s.chip.activateRefuse (leAt b 0 1) = some n) ∧ (n ≠ 0))
    ∧ (∃ (s : State) (b : Bytes), (s.chip.mbRequest 0x106 = some b) ∧ (s.chip.fwuBusy = false) ∧ (s.chip.takesWork pgFWU = true))
    ∧ (∃ (s : State) (b : Bytes), (s.chip.mbRequest 0x107 = some b) ∧ (s.chip.fwuBusy = false) ∧ (s.chip.takesWork pgFWU = true) ∧ (s.chip.mram.svn ≤ leAt b 0 1) ∧ (leAt b 0 1 ≤ 64) ∧ ((s.chip.flash.active ++ s.chip.flash.golden).any (fun x => decide (ctSvn x < leAt b 0 1)) = false) ∧ (s.chip.paired = false)) :=
  ⟨⟨{ chip := ((((live).wr R.SYS_SOLO_ALLOWED pgSYS 1).wr R.TWIN_STATE pgTWIN 1).modHost (fun t => { t with posted := some (0x104, [0]) })).modFlash (fun t => { t with pending := true }) }, [0], by decide +kernel⟩,
    ⟨{ chip := ((((((live).wr R.TWIN_STATE pgTWIN 3).wr R.SYS_SOLO_ALLOWED pgSYS 1).wr R.TWIN_STATE pgTWIN 1).modHost (fun t => { t with posted := some (0x104, [0]) })).modFlash (fun t => { t with pending := true })).wr R.TWIN_STATE pgTWIN 3 }, [0], by decide +kernel⟩,
    ⟨{ chip := (((live).wr R.SYS_SOLO_ALLOWED pgSYS 1).wr R.TWIN_STATE pgTWIN 1).modHost (fun t => { t with posted := some (0x104, [1]) }) }, [1], 13, by decide +kernel⟩,
    ⟨{ chip := (((live).wr R.SYS_SOLO_ALLOWED pgSYS 1).wr R.TWIN_STATE pgTWIN 1).modHost (fun t => { t with posted := some (0x106, []) }) }, [], by decide +kernel⟩,
    ⟨{ chip := (((live).wr R.SYS_SOLO_ALLOWED pgSYS 1).wr R.TWIN_STATE pgTWIN 1).modHost (fun t => { t with posted := some (0x107, [1]) }) }, [1], by decide +kernel⟩⟩

theorem met_ImageUpdateCommandsAct_2 :
    (∃ (s : State) (b : Bytes), (s.chip.mbRequest 0x107 = some b) ∧ (s.chip.fwuBusy = false) ∧ (s.chip.takesWork pgFWU = true) ∧ (s.chip.mram.svn ≤ leAt b 0 1) ∧ (leAt b 0 1 ≤ 64) ∧ ((s.chip.flash.active ++ s.chip.flash.golden).any (fun x => decide (ctSvn x < leAt b 0 1)) = false) ∧ (s.chip.paired = true))
    ∧ (∃ (s : State) (b : Bytes), (s.chip.mbRequest 0x108 = some b) ∧ (s.chip.fwu.swapping = false) ∧ (s.chip.fwu.staging = true))
    ∧ (∃ (s : State) (b : Bytes), (s.chip.mbRequest 0x201 = some b) ∧ (s.chip.on R.XSPI_BUSY pgXSPI = false) ∧ (s.chip.fwuBusy = false)) :=
  ⟨⟨{ chip := (((((live).wr R.TWIN_STATE pgTWIN 3).wr R.SYS_SOLO_ALLOWED pgSYS 1).wr R.TWIN_STATE pgTWIN 1).modHost (fun t => { t with posted := some (0x107, [1]) })).wr R.TWIN_STATE pgTWIN 3 }, [1], by decide +kernel⟩,
    ⟨{ chip := ((((((live).modFwu (fun t => { t with swapping := false })).modFwu (fun t => { t with staging := true })).wr R.SYS_SOLO_ALLOWED pgSYS 1).wr R.TWIN_STATE pgTWIN 1).modHost (fun t => { t with posted := some (0x108, []) })).modFwu (fun t => { t with staging := true }) }, [], by decide +kernel⟩,
    ⟨{ chip := ((((live).wr R.XSPI_BUSY pgXSPI 0).wr R.SYS_SOLO_ALLOWED pgSYS 1).wr R.TWIN_STATE pgTWIN 1).modHost (fun t => { t with posted := some (0x201, []) }) }, [], by decide +kernel⟩⟩

theorem met_ActivationRowsAct_0 :
    (∃ (s : State), (s.chip.fwu.activating = true) ∧ (s.chip.fwu.paused = false) ∧ (s.chip.fwu.settling = false) ∧ (s.chip.fwu.reverting = false) ∧ (s.chip.fwu.turn = 1 ∨ s.chip.fwu.turn = 3 ∨ (s.chip.fwu.turn = 0 ∧ s.chip.solo = true)))
    ∧ (∃ (s : State), (s.chip.fwu.paused = true) ∧ (s.chip.fwu.reverting = false))
    ∧ (∃ (s : State), (s.chip.fwu.paused = true) ∧ (s.chip.fwu.reverting = true))
    ∧ (∃ (s : State), (s.chip.due (tmKey tmSettle 0) = true) ∧ (s.chip.fwu.settling = true))
    ∧ (∃ (s : State), (s.chip.fwu.copying ≠ [])) :=
  ⟨⟨{ chip := (((((live).modFwu (fun t => { t with activating := true })).modFwu (fun t => { t with paused := false })).modFwu (fun t => { t with settling := false })).modFwu (fun t => { t with reverting := false })).modFwu (fun t => { t with turn := 1 }) }, by decide +kernel⟩,
    ⟨{ chip := ((live).modFwu (fun t => { t with paused := true })).modFwu (fun t => { t with reverting := false }) }, by decide +kernel⟩,
    ⟨{ chip := ((live).modFwu (fun t => { t with paused := true })).modFwu (fun t => { t with reverting := true }) }, by decide +kernel⟩,
    ⟨{ chip := (elapsed (tmKey tmSettle 0) (live)).modFwu (fun t => { t with settling := true }) }, by decide +kernel⟩,
    ⟨{ chip := (live).modFwu (fun t => { t with copying := [1] }) }, by decide +kernel⟩⟩

theorem met_ActivationRowsAct_1 :
    (∃ (s : State), (s.chip.due (tmKey tmResume 0) = true) ∧ (s.chip.fwu.paused = true) ∧ (s.chip.fwu.reverting = false))
    ∧ (∃ (s : State) (k : Nat) (b : Bytes), (s.chip.host.posted = some (k, b)) ∧ (s.chip.services = true) ∧ (s.chip.host.served = true) ∧ (s.chip.host.awaitTwin = false ∨ s.chip.paired = false))
    ∧ (∃ (s : State) (k : Nat) (n : Nat) (b : Bytes), (s.chip.host.posted = some (k, b)) ∧ (s.chip.services = true) ∧ (s.chip.host.served = false) ∧ (s.chip.mbRefuse k b = some n))
    ∧ (∃ (s : State) (e : Engine) (k : TSlot), (s.chip.fwu.swapping = true) ∧ (s.chip.rd R.FWU_OP pgFWU = 6) ∧ (s.chip.fwu.swapTick = none ∨ s.chip.fwu.swapBack = true) ∧ (s.chip.nextToMove = some (e.val, k.val)) ∧ (s.chip.paired = true) ∧ (s.chip.leads = true) ∧ (s.chip.twin.agree.any (fun a => a.item == .swapLaw e k s.chip.fwu.swapBack) = false))
    ∧ (∃ (s : State) (e : Engine) (k : TSlot), (s.chip.fwu.swapping = true) ∧ (s.chip.rd R.FWU_OP pgFWU = 6) ∧ (s.chip.fwu.swapTick = none ∨ s.chip.fwu.swapBack = true) ∧ (s.chip.nextToMove = some (e.val, k.val)) ∧ (s.chip.paired = false) ∧ (s.chip.slotBoundary e.val k.val = true)) :=
  ⟨⟨{ chip := ((elapsed (tmKey tmResume 0) (live)).modFwu (fun t => { t with paused := true })).modFwu (fun t => { t with reverting := false }) }, by decide +kernel⟩,
    ⟨{ chip := ((live).modHost (fun t => { t with posted := some (0, ([])) })).modHost (fun t => { t with served := true }) }, 0, [], by decide +kernel⟩,
    ⟨{ chip := (((live).modHost (fun t => { t with posted := some (0, ([])) })).modHost (fun t => { t with served := false })).modHost (fun t => { t with posted := some (0, []) }) }, 0, 2, [], by decide +kernel⟩,
    ⟨{ chip := ((((((((live).modFwu (fun t => { t with swapping := true })).wr R.FWU_OP pgFWU 6).wr R.TWIN_STATE pgTWIN 3).wr R.TWIN_STATE pgTWIN 1).wr R.SYS_SOLO_ALLOWED pgSYS 1).wr R.TWIN_STATE pgTWIN 3).wr R.CE_CLASS (pgCE 0) 1).wr R.CE_LAW_REF (pgCE 0) 0 }, 0, 0, by decide +kernel⟩,
    ⟨{ chip := ((((live).modFwu (fun t => { t with swapping := true })).wr R.FWU_OP pgFWU 6).wr R.CE_CLASS (pgCE 0) 1).wr R.CE_LAW_REF (pgCE 0) 0 }, 0, 0, by decide +kernel⟩⟩

theorem met_ActivationRowsAct_2 :
    (∃ (s : State) (e : Engine) (v : LaneOps), (s.chip.on R.CE_SELFTEST_BUSY (pgCE e.val) = true) ∧ (vectorsFull v = true) ∧ ((s.chip.eng e.val).flips = []) ∧ ((s.chip.lanes e.val 3 v).2 = false))
    ∧ (∃ (s : State) (e : Engine) (v : LaneOps), (s.chip.on R.CE_SELFTEST_BUSY (pgCE e.val) = true) ∧ (vectorsFull v = true) ∧ ((s.chip.eng e.val).flips = []) ∧ ((s.chip.lanes e.val 3 v).2 = true))
    ∧ (∃ (s : State) (e : Engine) (us : Upsets) (v : LaneOps) (g : EngSt), (s.chip.on R.CE_SELFTEST_BUSY (pgCE e.val) = true) ∧ (vectorsFull v = true) ∧ ((s.chip.upset e.val us).eng e.val = g) ∧ (g.doubleIn (g.flips.map (fun x => x.1)) = true)) :=
  ⟨⟨{ chip := ((live).wr R.CE_SELFTEST_BUSY (pgCE 0) 1).modEng 0 (fun t => { t with flips := [] }) }, 0, ⟨List.replicate 64 ⟨0, true, 1, 1, 0⟩, List.replicate 64 ⟨0, 0, 0, 0, 0⟩⟩, by decide +kernel⟩,
    ⟨{ chip := ((live).wr R.CE_SELFTEST_BUSY (pgCE 0) 1).modEng 0 (fun t => { t with flips := [] }) }, 0, ⟨List.replicate 64 ⟨0, true, 1, 1, 2⟩, List.replicate 64 ⟨0, 0, 0, 0, 0⟩⟩, by decide +kernel⟩,
    ⟨{ chip := (live).wr R.CE_SELFTEST_BUSY (pgCE 0) 1 }, 0, [(0, true)], ⟨List.replicate 64 ⟨0, true, 1, 1, 0⟩, List.replicate 64 ⟨0, 0, 0, 0, 0⟩⟩, (((live).wr R.CE_SELFTEST_BUSY (pgCE 0) 1).upset 0 [(0, true)]).eng 0, by decide +kernel⟩⟩

theorem met_HostInterfaceCommandsAct_0 :
    (∃ (s : State) (w : Nat) (v : Nat), (s.chip.hostUp = true) ∧ (w = 1 ∨ w = 2 ∨ w = 4) ∧ (1 ≤ v) ∧ (v ≤ 4))
    ∧ (∃ (s : State), (s.chip.on R.HOST_LINK_UP pgHOST = true))
    ∧ (∃ (s : State), (s.chip.on R.HOST_LINK_UP pgHOST = true))
    ∧ (∃ (s : State) (k : Chan) (e : Nat), (s.chip.rd R.HOST_STATE pgHOST k.val = 1) ∧ (e = 0 ∨ e = 2 ∨ e = 3 ∨ e = 4))
    ∧ (∃ (s : State) (e : Nat), (s.chip.on R.IIC_BUSY pgIIC1 = true) ∧ (e ≤ 6 ∨ (e = 7 ∧ s.chip.on R.IIC_PEC_EN pgIIC1 = true)) ∧ ((e ≠ 1 ∧ e ≠ 3) ∨ s.chip.rd R.IIC_RETRY pgIIC1 ≤ s.chip.rd R.IIC_TRIES pgIIC1)) :=
  ⟨⟨{ chip := ((live).wr R.PLUMB_MAIN_UP pgPLUMB 1).wr R.HOST_LINK_UP pgHOST 1 }, 1, 1, by decide +kernel⟩,
    ⟨{ chip := (live).wr R.HOST_LINK_UP pgHOST 1 }, by decide +kernel⟩,
    ⟨{ chip := (live).wr R.HOST_LINK_UP pgHOST 1 }, by decide +kernel⟩,
    ⟨{ chip := (live).wr R.HOST_STATE pgHOST 1 0 }, 0, 0, by decide +kernel⟩,
    ⟨{ chip := (live).wr R.IIC_BUSY pgIIC1 1 }, 0, by decide +kernel⟩⟩

theorem met_HostInterfaceCommandsAct_1 :
    (∃ (s : State) (e : Nat), (s.chip.on R.IIC_BUSY pgIIC1 = true) ∧ (e = 1 ∨ e = 3) ∧ (s.chip.rd R.IIC_TRIES pgIIC1 < s.chip.rd R.IIC_RETRY pgIIC1))
    ∧ (∃ (s : State), (s.chip.snap.pend = true) ∧ (s.chip.snap.tick ≤ s.chip.tick))
    ∧ (∃ (s : State), (s.chip.on R.PMC_BUSY pgPMC = true) ∧ (s.chip.snap.pend = false)) :=
  ⟨⟨{ chip := ((live).wr R.IIC_BUSY pgIIC1 1).wr R.IIC_RETRY pgIIC1 1 }, 1, by decide +kernel⟩,
    ⟨{ chip := (live).modSnap (fun t => { t with pend := true }) }, by decide +kernel⟩,
    ⟨{ chip := ((live).wr R.PMC_BUSY pgPMC 1).modSnap (fun t => { t with pend := false }) }, by decide +kernel⟩⟩

theorem met_DebugCommandsAct_0 :
    (∃ (s : State), (s.chip.plumbRuns = true))
    ∧ (∃ (s : State) (ch : Bytes), (s.chip.plumbRuns = true) ∧ (s.chip.dbg.challenge = some ch) ∧ (s.chip.dbg.fails < 3))
    ∧ (∃ (s : State), (3 ≤ s.chip.dbg.fails))
    ∧ (∃ (s : State), (s.chip.unlocked = true) ∧ (s.chip.plumb.mgmtUp = true) ∧ (s.chip.plumb.mgmtHalt = false) ∧ (s.chip.plumb.mgmtFail = false) ∧ (s.chip.fwu.paused = false))
    ∧ (∃ (s : State), (s.chip.unlocked = true) ∧ (s.chip.plumb.mgmtUp = true) ∧ (s.chip.plumb.mgmtHalt = false) ∧ (s.chip.plumb.mgmtFail = false) ∧ (s.chip.fwu.paused = true)) :=
  ⟨⟨{ chip := live }, by decide +kernel⟩,
    ⟨{ chip := (live).modDbg (fun t => { t with challenge := some ([]) }) }, [], by decide +kernel⟩,
    ⟨{ chip := (live).modDbg (fun t => { t with fails := 3 }) }, by decide +kernel⟩,
    ⟨{ chip := ((((((live).wr R.SEC_DEBUG_UNLOCKED pgSEC 1).wr R.PLUMB_MAIN_UP pgPLUMB 1).modPlumb (fun t => { t with mgmtUp := true })).modPlumb (fun t => { t with mgmtHalt := false })).modPlumb (fun t => { t with mgmtFail := false })).modFwu (fun t => { t with paused := false }) }, by decide +kernel⟩,
    ⟨{ chip := ((((((live).wr R.SEC_DEBUG_UNLOCKED pgSEC 1).wr R.PLUMB_MAIN_UP pgPLUMB 1).modPlumb (fun t => { t with mgmtUp := true })).modPlumb (fun t => { t with mgmtHalt := false })).modPlumb (fun t => { t with mgmtFail := false })).modFwu (fun t => { t with paused := true }) }, by decide +kernel⟩⟩

theorem met_DebugCommandsAct_1 :
    (∃ (s : State), (s.chip.unlocked = true) ∧ (s.chip.plumb.mgmtHalt = true))
    ∧ (∃ (s : State), (s.chip.unlocked = true) ∧ (s.chip.plumb.mgmtHalt = true))
    ∧ (∃ (s : State), (s.chip.sendsCmd = false))
    ∧ (∃ (s : State), (s.chip.sendsCmd = true)) :=
  ⟨⟨{ chip := (((live).wr R.SEC_DEBUG_UNLOCKED pgSEC 1).wr R.PLUMB_MAIN_UP pgPLUMB 1).modPlumb (fun t => { t with mgmtHalt := true }) }, by decide +kernel⟩,
    ⟨{ chip := (((live).wr R.SEC_DEBUG_UNLOCKED pgSEC 1).wr R.PLUMB_MAIN_UP pgPLUMB 1).modPlumb (fun t => { t with mgmtHalt := true }) }, by decide +kernel⟩,
    ⟨{ chip := live }, by decide +kernel⟩,
    ⟨{ chip := ((soloLead (live)).wr R.PG_ENABLE (pgSP 0) 1).modPort 0 (fun t => { t with sentCmd := true }) }, by decide +kernel⟩⟩

theorem met_RegisterAccessActs_0 :
    (∃ (s : State) (v : Word), (s.takesAlone (pgTHM + 0x1C) v.toNat = true))
    ∧ (∃ (s : State) (v : Word), (s.takesAlone (pgARB + 0x100) v.toNat = true) ∧ (256 ≤ v.toNat % 65536))
    ∧ (∃ (s : State), (s.chip.reaches .bar0 (pgDATUM + 0x100) = true))
    ∧ (∃ (s : State) (w : Word), (s.chip.reaches .bar0 (pgDATUM + 0x104) = true) ∧ ((s.chip.path 0).shadow = some (pgDATUM + 0x104, w)))
    ∧ (∃ (s : State) (v : Word), (s.takesAlone (pgPMC + 0x104) v.toNat = true)) :=
  ⟨⟨{ chip := (((live).wr R.PLUMB_MAIN_UP pgPLUMB 1).wr R.HOST_LINK_UP pgHOST 1).wr R.TWIN_STATE pgTWIN 1 }, 0, by decide +kernel⟩,
    ⟨{ chip := (((live).wr R.PLUMB_MAIN_UP pgPLUMB 1).wr R.HOST_LINK_UP pgHOST 1).wr R.TWIN_STATE pgTWIN 1 }, 256, by decide +kernel⟩,
    ⟨{ chip := ((live).wr R.PLUMB_MAIN_UP pgPLUMB 1).wr R.HOST_LINK_UP pgHOST 1 }, by decide +kernel⟩,
    ⟨{ chip := (((live).wr R.PLUMB_MAIN_UP pgPLUMB 1).wr R.HOST_LINK_UP pgHOST 1).modPath 0 (fun t => { t with shadow := some (pgDATUM + 0x104, 7) }) }, 7, by decide +kernel⟩,
    ⟨{ chip := (((live).wr R.PLUMB_MAIN_UP pgPLUMB 1).wr R.HOST_LINK_UP pgHOST 1).wr R.TWIN_STATE pgTWIN 1 }, 0, by decide +kernel⟩⟩

theorem met_RegisterAccessActs_1 :
    (∃ (s : State) (v : Word) (lo : Word), (s.chip.reaches .bar0 (pgPMC + 0x108) = true) ∧ (s.chip.writeBarred 0 (pgPMC + 0x108) v.toNat = false) ∧ ((s.chip.path 0).held = some (pgPMC + 0x104, lo)) ∧ (s.chip.rd R.TWIN_STATE pgTWIN = 1) ∧ (s.chip.rd R.TWIN_JOIN_PHASE pgTWIN = 0))
    ∧ (∃ (s : State) (v : Word), (s.takesAlone (pgPMC + 0x108) v.toNat = true))
    ∧ (∃ (s : State) (p : Part), (s.chip.reaches .bar0 (pgARB + R.ARB_MAX_WAIT.off + R.ARB_MAX_WAIT.stride * p.val) = true))
    ∧ (∃ (s : State) (p : Port) (v : Word), (s.takesAlone (pgSP p.val + 8) v.toNat = true) ∧ (s.chip.on R.PG_LOCKED (pgSP p.val) = false) ∧ (v.toNat % 8 ≠ s.chip.owner (pgSP p.val)) ∧ (s.chip.ownerBusy .sp p.val = false))
    ∧ (∃ (s : State) (p : Port) (v : Word), (s.takesAlone (pgSP p.val + 0x18) v.toNat = true)) :=
  ⟨⟨{ chip := (((((live).wr R.PLUMB_MAIN_UP pgPLUMB 1).wr R.HOST_LINK_UP pgHOST 1).wr R.TWIN_STATE pgTWIN 1).wr R.TWIN_JOIN_PHASE pgTWIN 0).modPath 0 (fun t => { t with held := some (pgPMC + 0x104, 7) }) }, 0, 7, by decide +kernel⟩,
    ⟨{ chip := (((live).wr R.PLUMB_MAIN_UP pgPLUMB 1).wr R.HOST_LINK_UP pgHOST 1).wr R.TWIN_STATE pgTWIN 1 }, 0, by decide +kernel⟩,
    ⟨{ chip := ((live).wr R.PLUMB_MAIN_UP pgPLUMB 1).wr R.HOST_LINK_UP pgHOST 1 }, 0, by decide +kernel⟩,
    ⟨{ chip := ((((live).wr R.PLUMB_MAIN_UP pgPLUMB 1).wr R.HOST_LINK_UP pgHOST 1).wr R.TWIN_STATE pgTWIN 1).wr R.PG_LOCKED (pgSP 0) 0 }, 0, 1, by decide +kernel⟩,
    ⟨{ chip := (((live).wr R.PLUMB_MAIN_UP pgPLUMB 1).wr R.HOST_LINK_UP pgHOST 1).wr R.TWIN_STATE pgTWIN 1 }, 0, 0, by decide +kernel⟩⟩

theorem met_RegisterAccessActs_2 :
    (∃ (s : State) (p : Port) (j : Chan) (v : Word), (s.takesAlone (pgSP p.val + (0x40 + 4 * j.val)) v.toNat = true) ∧ (s.chip.rd R.PMC_EVENT (pgSP p.val) j.val ≠ v.toNat % 65536))
    ∧ (∃ (s : State) (a : Nat), (a < 0x100000) ∧ (s.chip.reaches .bar0 (0x400000 + 4 * a) = true) ∧ (s.chip.rd R.TWIN_STATE pgTWIN = 1) ∧ (s.chip.rd R.TWIN_JOIN_PHASE pgTWIN = 0))
    ∧ (∃ (s : State) (a : Nat), (a < 0x100000) ∧ (s.chip.reaches .bar0 (0x400000 + 4 * a) = true))
    ∧ (∃ (s : State) (a : Word), (s.chip.unlocked = true) ∧ (s.chip.reaches .dbg (wordAddr a) = true))
    ∧ (∃ (s : State) (k : Nat), (k < 0x20000) ∧ (s.chip.reaches .bar0 (0x800000 + 64 * k) = true)) :=
  ⟨⟨{ chip := (((live).wr R.PLUMB_MAIN_UP pgPLUMB 1).wr R.HOST_LINK_UP pgHOST 1).wr R.TWIN_STATE pgTWIN 1 }, 0, 0, 1, by decide +kernel⟩,
    ⟨{ chip := ((((live).wr R.PLUMB_MAIN_UP pgPLUMB 1).wr R.HOST_LINK_UP pgHOST 1).wr R.TWIN_STATE pgTWIN 1).wr R.TWIN_JOIN_PHASE pgTWIN 0 }, 0, by decide +kernel⟩,
    ⟨{ chip := ((live).wr R.PLUMB_MAIN_UP pgPLUMB 1).wr R.HOST_LINK_UP pgHOST 1 }, 0, by decide +kernel⟩,
    ⟨{ chip := ((live).wr R.SEC_DEBUG_UNLOCKED pgSEC 1).wr R.PLUMB_MAIN_UP pgPLUMB 1 }, 0, by decide +kernel⟩,
    ⟨{ chip := ((live).wr R.PLUMB_MAIN_UP pgPLUMB 1).wr R.HOST_LINK_UP pgHOST 1 }, 0, by decide +kernel⟩⟩

theorem met_RegisterAccessActs_3 :
    ∃ (s : State) (w : Hex) (r : FbRec), (w.val = 0) ∧ (s.chip.reaches .bar0 (pgFBK + 0x840 + 4 * w.val) = true) ∧ (s.chip.frNext 0 = some r) :=
  ⟨{ chip := (((live).wr R.PLUMB_MAIN_UP pgPLUMB 1).wr R.HOST_LINK_UP pgHOST 1).modFbk (fun t => { t with slots := [(0, { seq := 1 })] }) }, 0, { seq := 1 }, by decide +kernel⟩

theorem met_ControlBitsAct_0 :
    (∃ (s : State), (s.takesAlone (pgSEQ + 0x120) 1 = true) ∧ (railsValid s.chip.railRegs = true))
    ∧ (∃ (s : State), (s.takesAlone (pgSEQ + 0x120) 2 = true) ∧ (s.chip.rd R.SEQ_STATE pgSEQ = 3 ∨ s.chip.rd R.SEQ_STATE pgSEQ = 4))
    ∧ (∃ (s : State), (s.takesAlone (pgSYS + 0x104) 0xA5A5 = true) ∧ (s.chip.plumb.key = 0))
    ∧ (∃ (s : State), (s.takesAlone (pgSYS + 0x104) 0x5A5A = true) ∧ (s.chip.plumb.key = 1))
    ∧ (∃ (s : State) (p : Port) (v : Word), (s.takesAlone (pgSP p.val + 0x100) v.toNat = true) ∧ (bitOf v.toNat 3 = true) ∧ (v.toNat % 4 = s.chip.safeAct p.val)) :=
  ⟨⟨{ chip := (((live).wr R.PLUMB_MAIN_UP pgPLUMB 1).wr R.HOST_LINK_UP pgHOST 1).wr R.TWIN_STATE pgTWIN 1 }, by decide +kernel⟩,
    ⟨{ chip := ((((live).wr R.PLUMB_MAIN_UP pgPLUMB 1).wr R.HOST_LINK_UP pgHOST 1).wr R.TWIN_STATE pgTWIN 1).wr R.SEQ_STATE pgSEQ 3 }, by decide +kernel⟩,
    ⟨{ chip := ((((live).wr R.PLUMB_MAIN_UP pgPLUMB 1).wr R.HOST_LINK_UP pgHOST 1).wr R.TWIN_STATE pgTWIN 1).modPlumb (fun t => { t with key := 0 }) }, by decide +kernel⟩,
    ⟨{ chip := ((((live).wr R.PLUMB_MAIN_UP pgPLUMB 1).wr R.HOST_LINK_UP pgHOST 1).wr R.TWIN_STATE pgTWIN 1).modPlumb (fun t => { t with key := 1 }) }, by decide +kernel⟩,
    ⟨{ chip := (((live).wr R.PLUMB_MAIN_UP pgPLUMB 1).wr R.HOST_LINK_UP pgHOST 1).wr R.TWIN_STATE pgTWIN 1 }, 0, 8, by decide +kernel⟩⟩

theorem met_ControlBitsAct_1 :
    (∃ (s : State) (p : Port) (v : Word), (s.takesAlone (pgSP p.val + 0x100) v.toNat = true) ∧ (bitOf v.toNat 3 = false) ∧ (v.toNat % 4 ≠ s.chip.safeAct p.val) ∧ ((s.chip.port p.val).announce = none) ∧ ((s.chip.port p.val).cfgDone = false))
    ∧ (∃ (s : State) (e : Engine), (s.takesAlone (pgCE e.val + 0x108) 1 = true) ∧ ((s.chip.eng e.val).up = true) ∧ (s.chip.takesWork (pgCE e.val) = true) ∧ (s.chip.on R.CE_SELFTEST_BUSY (pgCE e.val) = false))
    ∧ (∃ (s : State) (e : Engine) (h : Bool) (v : Word), (s.takesAlone (pgCE e.val + (if h then 0x110 else 0x10C)) v.toNat = true))
    ∧ (∃ (s : State) (e : Engine) (h : Bool) (v : Word), (s.takesAlone (pgCE e.val + (if h then 0x118 else 0x114)) v.toNat = true))
    ∧ (∃ (s : State) (p : Port), (s.takesAlone (pgSP p.val + 0x180) 1 = true) ∧ (s.chip.ph p.val = 4)) :=
  ⟨⟨{ chip := (((((live).wr R.PLUMB_MAIN_UP pgPLUMB 1).wr R.HOST_LINK_UP pgHOST 1).wr R.TWIN_STATE pgTWIN 1).modPort 0 (fun t => { t with announce := none })).modPort 0 (fun t => { t with cfgDone := false }) }, 0, 1, by decide +kernel⟩,
    ⟨{ chip := (((((live).wr R.PLUMB_MAIN_UP pgPLUMB 1).wr R.HOST_LINK_UP pgHOST 1).wr R.TWIN_STATE pgTWIN 1).modEng 0 (fun t => { t with up := true })).wr R.CE_SELFTEST_BUSY (pgCE 0) 0 }, 0, by decide +kernel⟩,
    ⟨{ chip := (((live).wr R.PLUMB_MAIN_UP pgPLUMB 1).wr R.HOST_LINK_UP pgHOST 1).wr R.TWIN_STATE pgTWIN 1 }, 0, true, 0, by decide +kernel⟩,
    ⟨{ chip := (((live).wr R.PLUMB_MAIN_UP pgPLUMB 1).wr R.HOST_LINK_UP pgHOST 1).wr R.TWIN_STATE pgTWIN 1 }, 0, true, 0, by decide +kernel⟩,
    ⟨{ chip := ((((live).wr R.PLUMB_MAIN_UP pgPLUMB 1).wr R.HOST_LINK_UP pgHOST 1).wr R.TWIN_STATE pgTWIN 1).wr R.SP_PH_STATE (pgSP 0) 4 }, 0, by decide +kernel⟩⟩

theorem met_ControlBitsAct_2 :
    (∃ (s : State) (p : Port), (s.takesAlone (pgSP p.val + 0x180) 1 = true) ∧ (s.chip.ph p.val = 5))
    ∧ (∃ (s : State) (k : Sec) (v : Word), (s.takesAlone (pgFELT + (0x200 + 0x40 * k.val)) v.toNat = true))
    ∧ (∃ (s : State) (k : Sec), (s.takesAlone (pgHOLD + (0x200 + 0x40 * k.val)) 0 = true)) :=
  ⟨⟨{ chip := ((((live).wr R.PLUMB_MAIN_UP pgPLUMB 1).wr R.HOST_LINK_UP pgHOST 1).wr R.TWIN_STATE pgTWIN 1).wr R.SP_PH_STATE (pgSP 0) 5 }, 0, by decide +kernel⟩,
    ⟨{ chip := (((live).wr R.PLUMB_MAIN_UP pgPLUMB 1).wr R.HOST_LINK_UP pgHOST 1).wr R.TWIN_STATE pgTWIN 1 }, 0, 0, by decide +kernel⟩,
    ⟨{ chip := ((((live).wr R.PLUMB_MAIN_UP pgPLUMB 1).wr R.HOST_LINK_UP pgHOST 1).wr R.TWIN_STATE pgTWIN 1).wr R.HOLD_STATE pgHOLD 1 }, 0, by decide +kernel⟩⟩

theorem met_ServiceControlActs_0 :
    (∃ (s : State) (n : CNode) (w : Oct) (v : Word), (s.takesAlone (pgCROWN + (0x200 + 0x20 * n.val + 4 * w.val)) v.toNat = true) ∧ (w.val = 1))
    ∧ (∃ (s : State) (n : Str) (v : Word), (s.takesAlone (pgGAUGE + (0x200 + 0x40 * n.val)) v.toNat = true) ∧ (bitOf v.toNat 0 = false))
    ∧ (∃ (s : State), (s.takesAlone (pgGAUGE + 0x100) 2 = true) ∧ (∀ k < 8, s.chip.on R.HOLD_EN pgHOLD k = false))
    ∧ (∃ (s : State) (p : Port) (v : Word), (s.takesAlone (pgSP p.val + 0x200) v.toNat = true) ∧ (bitOf v.toNat 1 = false) ∧ (s.chip.on R.SP_FD_EN (pgSP p.val) = false) ∧ ((s.chip.putWord .sp (pgSP p.val) 0x200 v.toNat).on R.SP_FD_EN (pgSP p.val) = true) ∧ ((s.chip.putWord .sp (pgSP p.val) 0x200 v.toNat).feederOk p.val = true))
    ∧ (∃ (s : State) (p : Port) (v : Word), (s.takesAlone (pgSP p.val + 0x200) v.toNat = true) ∧ (bitOf v.toNat 1 = true) ∧ (s.chip.on R.SP_FD_EN (pgSP p.val) = false) ∧ ((s.chip.putWord .sp (pgSP p.val) 0x200 v.toNat).on R.SP_FD_EN (pgSP p.val) = false)) :=
  ⟨⟨{ chip := (((live).wr R.PLUMB_MAIN_UP pgPLUMB 1).wr R.HOST_LINK_UP pgHOST 1).wr R.TWIN_STATE pgTWIN 1 }, 0, 1, 0, by decide +kernel⟩,
    ⟨{ chip := (((live).wr R.PLUMB_MAIN_UP pgPLUMB 1).wr R.HOST_LINK_UP pgHOST 1).wr R.TWIN_STATE pgTWIN 1 }, 0, 0, by decide +kernel⟩,
    ⟨{ chip := (((live).wr R.PLUMB_MAIN_UP pgPLUMB 1).wr R.HOST_LINK_UP pgHOST 1).wr R.TWIN_STATE pgTWIN 1 }, by decide +kernel⟩,
    ⟨{ chip := ((((((((((((live).wr R.PLUMB_MAIN_UP pgPLUMB 1).wr R.HOST_LINK_UP pgHOST 1).wr R.TWIN_STATE pgTWIN 1).wr R.SP_FD_EN (pgSP 0) 0).wr R.SP_ILIM_A (pgSP 0) 0x3F800000).wr R.SP_TRIP_A (pgSP 0) 0x40000000).wr R.SP_INRUSH_ILIM (pgSP 0) 0x3F800000).wr R.SP_INRUSH_MS (pgSP 0) 1).wr R.SP_RETRY_MS (pgSP 0) 1).wr R.SP_TJ_TRIP (pgSP 0) 0x3F800000).wr R.SP_TCC_I (pgSP 0) 0x3F800000).wr R.SP_TCC_T (pgSP 0) 0x3F800000 }, 0, 1, by decide +kernel⟩,
    ⟨{ chip := ((((live).wr R.PLUMB_MAIN_UP pgPLUMB 1).wr R.HOST_LINK_UP pgHOST 1).wr R.TWIN_STATE pgTWIN 1).wr R.SP_FD_EN (pgSP 0) 0 }, 0, 2, by decide +kernel⟩⟩

theorem met_ServiceControlActs_1 :
    (∃ (s : State) (p : Port) (ch : Chan) (v : Word), (s.takesAlone (pgSP p.val + (0x300 + 0x20 * ch.val)) v.toNat = true) ∧ (v.toNat % 8 < 5))
    ∧ (∃ (s : State) (p : Port) (ch : Chan) (w : Chan) (v : Word), (s.takesAlone (pgSP p.val + (0x308 + 0x20 * ch.val + 4 * w.val)) v.toNat = true) ∧ (w.val = 0) ∧ (s.chip.rd R.SP_CAL_KIND (pgSP p.val) ch.val = 4))
    ∧ (∃ (s : State), (s.takesAlone (pgTWIN + 0x100) 2 = true) ∧ (s.chip.on R.TWIN_JOIN_FAIL pgTWIN = true))
    ∧ (∃ (s : State), (s.chip.reaches .bar0 (pgTWIN + 0x100) = true) ∧ (s.chip.writeBarred 0 (pgTWIN + 0x100) 1 = false) ∧ ((s.chip.path 0).held = none) ∧ (s.chip.paired = true) ∧ (s.chip.leads = true))
    ∧ (∃ (s : State), (s.takesAlone (pgFAB + 0x104) 1 = true) ∧ (s.chip.takesWork pgFAB = true) ∧ (s.chip.fabLead = true) ∧ (s.chip.quietRefuses .a = false)) :=
  ⟨⟨{ chip := (((live).wr R.PLUMB_MAIN_UP pgPLUMB 1).wr R.HOST_LINK_UP pgHOST 1).wr R.TWIN_STATE pgTWIN 1 }, 0, 0, 0, by decide +kernel⟩,
    ⟨{ chip := ((((live).wr R.PLUMB_MAIN_UP pgPLUMB 1).wr R.HOST_LINK_UP pgHOST 1).wr R.TWIN_STATE pgTWIN 1).wr R.SP_CAL_KIND (pgSP 0) 4 0 }, 0, 0, 0, 0, by decide +kernel⟩,
    ⟨{ chip := ((((live).wr R.PLUMB_MAIN_UP pgPLUMB 1).wr R.HOST_LINK_UP pgHOST 1).wr R.TWIN_STATE pgTWIN 1).wr R.TWIN_JOIN_FAIL pgTWIN 1 }, by decide +kernel⟩,
    ⟨{ chip := ((((((live).wr R.PLUMB_MAIN_UP pgPLUMB 1).wr R.HOST_LINK_UP pgHOST 1).wr R.TWIN_STATE pgTWIN 3).wr R.TWIN_STATE pgTWIN 1).wr R.SYS_SOLO_ALLOWED pgSYS 1).wr R.TWIN_STATE pgTWIN 3 }, by decide +kernel⟩,
    ⟨{ chip := ((((((live).wr R.PLUMB_MAIN_UP pgPLUMB 1).wr R.HOST_LINK_UP pgHOST 1).wr R.TWIN_STATE pgTWIN 1).wr R.FAB_EN pgFAB 1).wr R.TWIN_STATE pgTWIN 1).wr R.FAB_PLANE_B pgFAB 2 }, by decide +kernel⟩⟩

theorem met_ServiceControlActs_2 :
    (∃ (s : State), (s.takesAlone (pgFAB + 0x104) 2 = true) ∧ (s.chip.takesWork pgFAB = true) ∧ (s.chip.fabLead = true) ∧ (s.chip.quietRefuses .b = false))
    ∧ (∃ (s : State) (p : Plane), (s.takesAlone (pgFAB + 0x104) 4 = true) ∧ (s.chip.fabOn = true) ∧ (s.chip.fab.quiet = some p) ∧ (s.chip.fab.wake = false) ∧ (s.chip.fab.quietCommit = false ∨ s.chip.sinceQ = none))
    ∧ (∃ (s : State) (p : Part) (v : Word), (s.takesAlone (pgPART + (0x200 + 0x10 * p.val)) v.toNat = true))
    ∧ (∃ (s : State) (p : Part) (v : Word), (s.takesAlone (pgARB + (0x200 + 0x10 * p.val)) v.toNat = true) ∧ (v.toNat % 1024 = 0) ∧ ((upTo 8).foldl (fun n q => n + (if q = p.val then 0 else s.chip.rd R.ARB_CREDIT pgARB q)) 0 ≤ 1000))
    ∧ (∃ (s : State) (p : Part) (v : Word), (s.takesAlone (pgPART + (0x204 + 0x10 * p.val)) v.toNat = true) ∧ (p.val ≠ 0) ∧ (v.toNat % 2 ^ 17 ≤ 65536) ∧ ((upTo 8).foldl (fun n q => n + (if q = 0 then 0 else if q = p.val then v.toNat % 2 ^ 17 else s.chip.rd R.PART_FBK_QUOTA pgPART q)) 0 ≤ 65536)) :=
  ⟨⟨{ chip := ((((((live).wr R.PLUMB_MAIN_UP pgPLUMB 1).wr R.HOST_LINK_UP pgHOST 1).wr R.TWIN_STATE pgTWIN 1).wr R.FAB_EN pgFAB 1).wr R.TWIN_STATE pgTWIN 1).wr R.FAB_PLANE_A pgFAB 2 }, by decide +kernel⟩,
    ⟨{ chip := ((((((live).wr R.PLUMB_MAIN_UP pgPLUMB 1).wr R.HOST_LINK_UP pgHOST 1).wr R.TWIN_STATE pgTWIN 1).wr R.FAB_EN pgFAB 1).modFab (fun t => { t with quiet := some .a })).modFab (fun t => { t with wake := false }) }, .a, by decide +kernel⟩,
    ⟨{ chip := (((live).wr R.PLUMB_MAIN_UP pgPLUMB 1).wr R.HOST_LINK_UP pgHOST 1).wr R.TWIN_STATE pgTWIN 1 }, 0, 0, by decide +kernel⟩,
    ⟨{ chip := (((live).wr R.PLUMB_MAIN_UP pgPLUMB 1).wr R.HOST_LINK_UP pgHOST 1).wr R.TWIN_STATE pgTWIN 1 }, 0, 0, by decide +kernel⟩,
    ⟨{ chip := (((live).wr R.PLUMB_MAIN_UP pgPLUMB 1).wr R.HOST_LINK_UP pgHOST 1).wr R.TWIN_STATE pgTWIN 1 }, 1, 0, by decide +kernel⟩⟩

theorem met_ServiceControlActs_3 :
    (∃ (s : State) (w : Oct) (v : Word), (s.takesAlone (pgFCU + (0x600 + 4 * w.val)) v.toNat = true))
    ∧ (∃ (s : State), (s.takesAlone (pgFBK + 0x114) 0xA5A5 = true) ∧ (s.chip.plumb.eraseKey = 0))
    ∧ (∃ (s : State), (s.takesAlone (pgFBK + 0x114) 0x5A5A = true) ∧ (s.chip.takesWork pgFBK = true) ∧ (s.chip.plumb.eraseKey = 1))
    ∧ (∃ (s : State) (k : Oct), (s.takesAlone (pgWCAP + (0x220 + 0x40 * k.val)) 1 = true) ∧ (s.chip.takesWork pgWCAP = true) ∧ (s.chip.rd R.WCAP_STATE pgWCAP k.val = 0) ∧ (s.chip.rd R.WCAP_LEN pgWCAP k.val ≠ 0) ∧ (s.chip.wcValid k.val = true) ∧ (∀ j < 8, j ≠ k.val → s.chip.rd R.WCAP_STATE pgWCAP j = 0))
    ∧ (∃ (s : State) (k : Oct), (s.takesAlone (pgWCAP + (0x220 + 0x40 * k.val)) 2 = true) ∧ (s.chip.rd R.WCAP_STATE pgWCAP k.val = 1) ∧ ((s.chip.wset k.val).armTick < s.chip.tick) ∧ ((s.chip.wset k.val).trig = false)) :=
  ⟨⟨{ chip := (((live).wr R.PLUMB_MAIN_UP pgPLUMB 1).wr R.HOST_LINK_UP pgHOST 1).wr R.TWIN_STATE pgTWIN 1 }, 0, 0, by decide +kernel⟩,
    ⟨{ chip := ((((live).wr R.PLUMB_MAIN_UP pgPLUMB 1).wr R.HOST_LINK_UP pgHOST 1).wr R.TWIN_STATE pgTWIN 1).modPlumb (fun t => { t with eraseKey := 0 }) }, by decide +kernel⟩,
    ⟨{ chip := ((((live).wr R.PLUMB_MAIN_UP pgPLUMB 1).wr R.HOST_LINK_UP pgHOST 1).wr R.TWIN_STATE pgTWIN 1).modPlumb (fun t => { t with eraseKey := 1 }) }, by decide +kernel⟩,
    ⟨{ chip := (((((((live).wr R.PLUMB_MAIN_UP pgPLUMB 1).wr R.HOST_LINK_UP pgHOST 1).wr R.TWIN_STATE pgTWIN 1).wr R.WCAP_STATE pgWCAP 0 0).wr R.WCAP_LEN pgWCAP 1).wr R.WCAP_DECIM pgWCAP 1).wr R.WCAP_SIZE pgWCAP 1 }, 0, by decide +kernel⟩,
    ⟨{ chip := (((((live).wr R.PLUMB_MAIN_UP pgPLUMB 1).wr R.HOST_LINK_UP pgHOST 1).wr R.TWIN_STATE pgTWIN 1).wr R.WCAP_STATE pgWCAP 1 0).modWset 0 (fun t => { t with trig := false }) }, 0, by decide +kernel⟩⟩

theorem met_ServiceControlActs_4 :
    (∃ (s : State) (k : Oct), (s.takesAlone (pgWCAP + (0x220 + 0x40 * k.val)) 4 = true) ∧ (s.chip.rd R.WCAP_STATE pgWCAP k.val = 1 ∨ s.chip.rd R.WCAP_STATE pgWCAP k.val = 2))
    ∧ (∃ (s : State) (k : Chan), (s.takesAlone (pgHOST + (0x210 + 0x20 * k.val)) 1 = true) ∧ (s.chip.takesWork pgHOST = true) ∧ (s.chip.rd R.HOST_STATE pgHOST k.val ≠ 1) ∧ (s.chip.rd R.HOST_LEN pgHOST k.val ≠ 0) ∧ (s.chip.dmaRange k.val = true) ∧ (s.chip.hostCan = true))
    ∧ (∃ (s : State), (s.takesAlone (pgIIC1 + 0x114) 0x80000000 = true) ∧ (s.chip.takesWork pgIIC1 = true) ∧ (s.chip.on R.IIC_BUSY pgIIC1 = false))
    ∧ (∃ (s : State), (s.takesAlone (pgPMC + 0x100) 1 = true) ∧ (s.chip.takesWork pgPMC = true) ∧ (s.chip.on R.PMC_BUSY pgPMC = false) ∧ (s.chip.tick < s.chip.snapTick)) :=
  ⟨⟨{ chip := ((((live).wr R.PLUMB_MAIN_UP pgPLUMB 1).wr R.HOST_LINK_UP pgHOST 1).wr R.TWIN_STATE pgTWIN 1).wr R.WCAP_STATE pgWCAP 1 }, 0, by decide +kernel⟩,
    ⟨{ chip := (((((((live).wr R.PLUMB_MAIN_UP pgPLUMB 1).wr R.HOST_LINK_UP pgHOST 1).wr R.TWIN_STATE pgTWIN 1).wr R.HOST_LEN pgHOST 64).wr R.HOST_SRC pgHOST 0x800000).wr R.HOST_LINK_UP pgHOST 1).wr R.HOST_BME pgHOST 1 }, 0, by decide +kernel⟩,
    ⟨{ chip := ((((live).wr R.PLUMB_MAIN_UP pgPLUMB 1).wr R.HOST_LINK_UP pgHOST 1).wr R.TWIN_STATE pgTWIN 1).wr R.IIC_BUSY pgIIC1 0 }, by decide +kernel⟩,
    ⟨{ chip := (((((live).wr R.PLUMB_MAIN_UP pgPLUMB 1).wr R.HOST_LINK_UP pgHOST 1).wr R.TWIN_STATE pgTWIN 1).wr R.PMC_BUSY pgPMC 0).wr R.PMC_SNAP_TICK_LO pgPMC 20000 }, by decide +kernel⟩⟩

theorem met_TargetsAndSessionsAct_0 :
    (∃ (s : State) (g : Tgt), (s.chip.tgtOn g = true) ∧ (s.chip.on R.IIC_TGT_PEC_EN g.page = false))
    ∧ (∃ (s : State) (g : Tgt), (s.chip.tgtOn g = true) ∧ (s.chip.on R.IIC_TGT_PEC_EN g.page = true))
    ∧ (∃ (s : State) (g : Tgt), (s.chip.tgtOn g = true) ∧ ((s.chip.tgt g).ptr < 0x80))
    ∧ (∃ (s : State) (g : Tgt) (x : Byte) (bs : Bytes), (s.chip.tgtOn g = true) ∧ (s.chip.on R.IIC_TGT_PEC_EN g.page = true) ∧ ((s.chip.tgt g).pec = bs ++ [x]) ∧ (pec (BitVec.ofNat 8 (2 * s.chip.rd R.IIC_ADDR g.page) :: bs) ≠ x.toNat))
    ∧ (∃ (s : State) (g : Tgt) (x : Byte) (bs : Bytes), (s.chip.tgtOn g = true) ∧ (s.chip.on R.IIC_TGT_PEC_EN g.page = true) ∧ ((s.chip.tgt g).pec = bs ++ [x]) ∧ (pec (BitVec.ofNat 8 (2 * s.chip.rd R.IIC_ADDR g.page) :: bs) = x.toNat)) :=
  ⟨⟨{ chip := ((live).wr R.PLUMB_MAIN_UP pgPLUMB 1).wr R.IIC_TGT_PEC_EN Tgt.iic0.page 0 }, Tgt.iic0, by decide +kernel⟩,
    ⟨{ chip := ((live).wr R.PLUMB_MAIN_UP pgPLUMB 1).wr R.IIC_TGT_PEC_EN Tgt.iic0.page 1 }, Tgt.iic0, by decide +kernel⟩,
    ⟨{ chip := (live).wr R.PLUMB_MAIN_UP pgPLUMB 1 }, Tgt.iic0, by decide +kernel⟩,
    ⟨{ chip := (((live).wr R.PLUMB_MAIN_UP pgPLUMB 1).wr R.IIC_TGT_PEC_EN Tgt.iic0.page 1).modTgt .iic0 (fun t => { t with pec := [0] }) }, Tgt.iic0, 0, [], by decide +kernel⟩,
    ⟨{ chip := (((live).wr R.PLUMB_MAIN_UP pgPLUMB 1).wr R.IIC_TGT_PEC_EN Tgt.iic0.page 1).modTgt .iic0 (fun t => { t with pec := [BitVec.ofNat 8 (pec [BitVec.ofNat 8 (2 * live.rd R.IIC_ADDR pgIIC0)])] }) }, Tgt.iic0, BitVec.ofNat 8 (pec [BitVec.ofNat 8 (2 * live.rd R.IIC_ADDR pgIIC0)]), [], by decide +kernel⟩⟩

theorem met_TargetsAndSessionsAct_1 :
    (∃ (s : State) (g : Tgt), (s.chip.tgtOn g = true))
    ∧ (∃ (s : State) (n : Nat), (s.chip.plumbRuns = true) ∧ (s.chip.on R.PLUMB_HIBERNATING pgPLUMB = true) ∧ (n = s.chip.rd R.IIC_ADDR pgIIC2))
    ∧ (∃ (s : State), ((s.chip.iic 1).stretch = true))
    ∧ (∃ (s : State), ((s.chip.iic 1).stretch = true) ∧ (s.chip.due (tmKey tmStretch 0) = true))
    ∧ (∃ (pl : Bytes), (leAt pl 0 1 = 1) ∧ (mgmtBad (leAt pl 4 4) (leAt pl 1 1) = true)) :=
  ⟨⟨{ chip := (live).wr R.PLUMB_MAIN_UP pgPLUMB 1 }, Tgt.iic0, by decide +kernel⟩,
    ⟨{ chip := ((live).wr R.PLUMB_HIBERNATING pgPLUMB 1).wr R.IIC_ADDR pgIIC2 72 }, 72, by decide +kernel⟩,
    ⟨{ chip := (live).modIic 1 (fun t => { t with stretch := true }) }, by decide +kernel⟩,
    ⟨{ chip := (elapsed (tmKey tmStretch 0) (live)).modIic 1 (fun t => { t with stretch := true }) }, by decide +kernel⟩,
    ⟨[1], by decide +kernel⟩⟩

theorem met_TargetsAndSessionsAct_2 :
    (∃ (pl : Bytes), (leAt pl 0 1 = 1) ∧ (leAt pl 1 1 = 1) ∧ (mgmtBad (leAt pl 4 4) 1 = false))
    ∧ (∃ (pl : Bytes), (leAt pl 0 1 = 2) ∧ (mgmtBad (leAt pl 4 4) (leAt pl 1 1) = false) ∧ (leAt pl 1 1 = 1))
    ∧ (∃ (pl : Bytes), (leAt pl 0 1 = 3)) :=
  ⟨⟨[1, 1], by decide +kernel⟩,
    ⟨[2, 1], by decide +kernel⟩,
    ⟨[3], by decide +kernel⟩⟩

theorem met_CommitAndAgreementAct_0 :
    (∃ (s : State) (p : Part), (commitGen s.mem p.val ≠ doneGen s.mem p.val) ∧ (s.chip.plumb.mgmtUp = true) ∧ (s.chip.plumb.mgmtHalt = false) ∧ (s.chip.plumb.mgmtFail = false) ∧ (s.chip.fwu.paused = false) ∧ (s.chip.twin.commits.any (fun e => e.1 == p.val) = false) ∧ (s.chip.rd R.TWIN_STATE pgTWIN = 1) ∧ (s.chip.rd R.TWIN_JOIN_PHASE pgTWIN = 0))
    ∧ (∃ (s : State) (p : Part), (commitGen s.mem p.val ≠ doneGen s.mem p.val) ∧ (s.chip.plumb.mgmtUp = true) ∧ (s.chip.plumb.mgmtHalt = false) ∧ (s.chip.plumb.mgmtFail = false) ∧ (s.chip.fwu.paused = false) ∧ (s.chip.twin.commits.any (fun e => e.1 == p.val) = false) ∧ (s.chip.rd R.TWIN_STATE pgTWIN = 2))
    ∧ (∃ (s : State), (∀ a ∈ s.chip.twin.agree, a.acked = true → s.chip.tick < a.x))
    ∧ (∃ (s : State) (x : Nat) (a : Word) (v : Word) (b : Bool), (s.chip.twin.agree = [{ x := x, item := .cfgWrite a v, acked := true, mine := b }]) ∧ (x ≤ s.chip.tick))
    ∧ (∃ (s : State) (x : Nat) (p : Port) (b : Bool), (s.chip.twin.agree = [{ x := x, item := .delegate p b, acked := true, mine := true }]) ∧ (x ≤ s.chip.tick)) :=
  ⟨⟨{ chip := ((((((live).modPlumb (fun t => { t with mgmtUp := true })).modPlumb (fun t => { t with mgmtHalt := false })).modPlumb (fun t => { t with mgmtFail := false })).modFwu (fun t => { t with paused := false })).wr R.TWIN_STATE pgTWIN 1).wr R.TWIN_JOIN_PHASE pgTWIN 0, mem := [(0, 1)] }, 0, by decide +kernel⟩,
    ⟨{ chip := (((((live).modPlumb (fun t => { t with mgmtUp := true })).modPlumb (fun t => { t with mgmtHalt := false })).modPlumb (fun t => { t with mgmtFail := false })).modFwu (fun t => { t with paused := false })).wr R.TWIN_STATE pgTWIN 2, mem := [(0, 1)] }, 0, by decide +kernel⟩,
    ⟨{ chip := live }, by decide +kernel⟩,
    ⟨{ chip := (live).modTwin (fun t => { t with agree := [{ x := 0, item := .cfgWrite 0 0, acked := true, mine := true }] }) }, 0, 0, 0, true, by decide +kernel⟩,
    ⟨{ chip := (live).modTwin (fun t => { t with agree := [{ x := 0, item := .delegate 0 true, acked := true, mine := true }] }) }, 0, 0, true, by decide +kernel⟩⟩

theorem met_CommitAndAgreementAct_1 :
    (∃ (s : State), (s.chip.rd R.TWIN_STATE pgTWIN = 2) ∧ (s.chip.rd R.TWIN_JOIN_PHASE pgTWIN = 0) ∧ (s.chip.twin.peer.isSome = true))
    ∧ (∃ (s : State), (s.chip.rd R.TWIN_STATE pgTWIN = 1) ∧ (s.chip.rd R.TWIN_JOIN_PHASE pgTWIN = 2) ∧ (s.chip.twin.peer.isSome = true)) :=
  ⟨⟨{ chip := (((live).wr R.TWIN_STATE pgTWIN 2).wr R.TWIN_JOIN_PHASE pgTWIN 0).modTwin (fun t => { t with peer := some ⟨true, 0, 0, 0, 0, true⟩ }) }, by decide +kernel⟩,
    ⟨{ chip := (((live).wr R.TWIN_STATE pgTWIN 1).wr R.TWIN_JOIN_PHASE pgTWIN 2).modTwin (fun t => { t with peer := some ⟨true, 0, 0, 0, 0, true⟩ }) }, by decide +kernel⟩⟩

/-! States and operands that meet the hypotheses of the other statements. -/

/-- A SOLO chip that a PCIe host reaches. -/
def hosted : Chip := ((live.wr R.PLUMB_MAIN_UP pgPLUMB 1).wr R.HOST_LINK_UP pgHOST 1).wr R.TWIN_STATE pgTWIN 1
/-- The same chip in a pair, as LEAD (0) or FOLLOW (1). -/
def hostedPair (role : Nat) : Chip := (hosted.wr R.TWIN_STATE pgTWIN 3).wr R.TWIN_ROLE pgTWIN role
/-- A chip that is writing a record. -/
def writingRecord (c : Chip) : Chip := c.modFbk (fun t => { t with writing := some {}, lastWrite := 10000000000 })

theorem met_FrontCommandRuns : ∃ (c : Instr) (rest : List Instr) (s : State), s.pending = c :: rest :=
  ⟨.watchdogService, [.linkUp 0], { State.reset with pending := [.watchdogService, .linkUp 0] }, rfl⟩
theorem met_IdleStepPassesOneTick : ∃ s : State, s.pending = [] ∧ s.chip.plumb.porst = false ∧ s.chip.plumb.stopped = false
    ∧ s.chip.rd R.DATUM_RATE pgDATUM = 0 ∧ s.chip.rateAcc = 0 := ⟨{ chip := live }, by decide +kernel⟩
theorem met_CommandsKeepMemories : ∃ (c : Instr) (s t : State), keepsMemories c = true ∧ exec c s = .next t :=
  ⟨.watchdogService, State.reset, _, rfl, rfl⟩
theorem met_StepKeepsMemoriesCanonical : ∃ s t : State, s.canonical = true ∧ step s = .next t :=
  ⟨{ State.reset with pending := [.watchdogService] }, _, by decide +kernel, rfl⟩
theorem met_ResetCauseIsOneBit_0 : (∃ (c : Chip) (n : Nat) (pin : Bool), n < 8 ∧ c.plumb.rstWait = some (n, pin) ∧ c.writeBusy = false)
    ∧ (∃ c : Chip, c.plumb.porst = false ∧ c.plumb.stopped = false ∧ c.plumb.resetN = false ∧ c.writeBusy = true ∧ c.plumb.rstWait = none)
    ∧ (∃ c : Chip, c.plumb.porst = false ∧ c.plumb.stopped = false ∧ c.plumb.resetN = false ∧ c.writeBusy = false) :=
  ⟨⟨live.modPlumb (fun p => { p with rstWait := some (7, false) }), 7, false, by decide +kernel⟩, ⟨writingRecord live, by decide +kernel⟩,
    ⟨live, by decide +kernel⟩⟩
theorem met_ResetCauseIsOneBit_1 : ∀ b ∈ [false, true], ∃ c : Chip, c.due (tmKey tmResetBegin 0) = true ∧ c.due (tmKey tmWdogRst 0) = true
    ∧ c.due (tmKey tmCool 0) = true ∧ c.plumb.thermal = true ∧ c.rd R.SEQ_STATE pgSEQ ≠ 2 ∧ c.plumb.downPos = none
    ∧ c.on R.THM_SHUTDOWN_LOCK pgTHM = false ∧ c.due (tmKey tmS3 0) = true ∧ c.on R.FCU_S3_HOLD pgFCU = false
    ∧ c.due (tmKey tmBoot 0) = true ∧ c.rd R.SYS_STEP pgSYS < 5 ∧ c.writeBusy = b ∧ c.plumb.rstWait = none := by
  have h : ∀ b ∈ [false, true], (fun (c : Chip) => c.due (tmKey tmResetBegin 0) = true ∧ c.due (tmKey tmWdogRst 0) = true
    ∧ c.due (tmKey tmCool 0) = true ∧ c.plumb.thermal = true ∧ c.rd R.SEQ_STATE pgSEQ ≠ 2 ∧ c.plumb.downPos = none
    ∧ c.on R.THM_SHUTDOWN_LOCK pgTHM = false ∧ c.due (tmKey tmS3 0) = true ∧ c.on R.FCU_S3_HOLD pgFCU = false
    ∧ c.due (tmKey tmBoot 0) = true ∧ c.rd R.SYS_STEP pgSYS < 5 ∧ c.writeBusy = b ∧ c.plumb.rstWait = none)
    ((fun (c : Chip) => if b then writingRecord c else c) ((elapsed (tmKey tmResetBegin 0) (elapsed (tmKey tmWdogRst 0) (elapsed (tmKey tmCool 0)
      (elapsed (tmKey tmS3 0) (elapsed (tmKey tmBoot 0) live))))).modPlumb (fun p => { p with thermal := true }))) := by decide +kernel
  exact fun b hb => ⟨_, h b hb⟩
theorem met_OwnerWriteThenLocks : ∃ (s : State) (p : Path) (k : PageKind) (n : Nat) (v : Word), ((k = .sp ∧ n < 192) ∨ (k = .ce ∧ n < 128))
    ∧ s.takesWrite p (pageBase k n + 8) v.toNat = true ∧ s.chip.on R.PG_LOCKED (pageBase k n) = false ∧ s.chip.ownerBusy k n = false
    ∧ v.toNat % 8 ≠ s.chip.owner (pageBase k n) ∧ v.getLsbD 31 = true := ⟨{ chip := hosted }, .bar0, .ce, 127, 0x80000007, by decide +kernel⟩
theorem met_CreditWriteRule_0 : (∃ (s : State) (p : Path) (q : Part) (v : Word), s.takesWrite p (pgARB + (0x200 + 0x10 * q.val)) v.toNat = true
      ∧ 1 ≤ v.toNat % 1024 ∧ v.toNat % 1024 ≤ 127)
    ∧ (∃ (s : State) (p : Path) (q : Part) (v : Word), s.takesWrite p (pgARB + (0x200 + 0x10 * q.val)) v.toNat = true
      ∧ 1000 < (upTo 8).foldl (fun n j => n + (if j = q.val then v.toNat % 1024 else s.chip.rd R.ARB_CREDIT pgARB j)) 0) :=
  ⟨⟨{ chip := hosted }, .bar0, 0, 127, by decide +kernel⟩, ⟨{ chip := hosted }, .bar0, 1, 128, by decide +kernel⟩⟩
theorem met_CreditWriteRule_1 : (∃ (s : State) (p : Path) (q : Part) (v : Word), s.takesWrite p (pgARB + (0x200 + 0x10 * q.val)) v.toNat = true
      ∧ 128 ≤ v.toNat % 1024 ∧ (upTo 8).foldl (fun n j => n + (if j = q.val then v.toNat % 1024 else s.chip.rd R.ARB_CREDIT pgARB j)) 0 ≤ 1000)
    ∧ (∃ s : State, s.chip.datum % 8000 = 0 ∧ s.chip.armed (tmKey tmCredit 0) = false)
    ∧ (∃ (s : State) (x : RingQ) (n : Nat) (ns : List Nat), x.xfers = n :: ns ∧ 1 ≤ n ∧ s.chip.credit x.part = 0) :=
  ⟨⟨{ chip := hosted }, .bar0, 0, 128, by decide +kernel⟩, ⟨{ chip := live }, by decide +kernel⟩,
    ⟨{ chip := live }, { part := 1, xfers := [1] }, 1, [], by decide +kernel⟩⟩
theorem met_PecTransactionRule : ∃ (s : State) (g : Tgt) (x : Byte) (bs : Bytes), s.chip.tgtOn g = true ∧ s.chip.on R.IIC_TGT_PEC_EN g.page = true
    ∧ (s.chip.tgt g).pec = bs ++ [x] ∧ pec (BitVec.ofNat 8 (2 * s.chip.rd R.IIC_ADDR g.page) :: bs) ≠ x.toNat :=
  ⟨{ chip := (hosted.wr R.IIC_TGT_PEC_EN pgIIC0 1).modTgt .iic0 (fun q => { q with pec := [BitVec.ofNat 8 (pec [BitVec.ofNat 8 (2 * live.rd R.IIC_ADDR pgIIC0)] + 1)] }) },
    .iic0, BitVec.ofNat 8 (pec [BitVec.ofNat 8 (2 * live.rd R.IIC_ADDR pgIIC0)] + 1), [], by decide +kernel⟩
theorem met_PageIdentity : ∃ (s : State) (k : PageKind) (n : Nat), pageOf (pageBase k n) = some (k, n) ∧ s.chip.unlocked = true
    ∧ s.chip.reaches .dbg (pageBase k n) = true := ⟨{ chip := hosted.wr R.SEC_DEBUG_UNLOCKED pgSEC 1 }, .sp, 191, by decide +kernel⟩
theorem met_DescriptorWriteBytes : ∃ (s : State) (p : Path) (a : Word) (be : BE), s.canonical = true ∧ 0x400000 ≤ wordAddr a ∧ wordAddr a < 0x800000
    ∧ s.chip.reaches p (wordAddr a) = true ∧ s.chip.pathRight p (wordAddr a) true = .ok ∧ alignedBE be = true
    ∧ s.chip.rd R.TWIN_STATE pgTWIN = 1 := ⟨{ chip := hosted }, .bar0, 0x7FFFFC, 15, by decide +kernel⟩
theorem met_CaptureEntryBytes : ∃ (s : State) (k : Oct), s.canonical = true ∧ s.chip.wcDue k.val = true :=
  ⟨{ chip := (live.wr R.WCAP_STATE pgWCAP 1 7).wr R.WCAP_DECIM pgWCAP 1 7 }, 7, by decide +kernel⟩
theorem met_TenantRegionIsolation : ∃ (s : State) (p : Part) (a : Word) (be : BE), p.val ≠ 0 ∧ 0x400000 ≤ wordAddr a ∧ wordAddr a < 0x800000
    ∧ (wordAddr a - 0x400000) / 0x80000 ≠ p.val ∧ s.chip.reaches (.bar2 p) (wordAddr a) = true ∧ alignedBE be = true :=
  ⟨{ chip := hosted }, 7, 0x77FFFC, 15, by decide +kernel⟩
theorem met_PartialWriteDiscarded : ∃ (s : State) (p : Path) (a : Word) (be : BE) (k : PageKind) (n : Nat), pageOf (wordAddr a) = some (k, n)
    ∧ s.chip.reaches p (wordAddr a) = true ∧ be ≠ 15 := ⟨{ chip := hosted }, .bar0, 0x2BF000, 14, .sp, 191, by decide +kernel⟩
theorem met_WideReadIsOneValue : ∃ (s t : State) (p : Path) (a b : Word) (k : PageKind) (n : Nat), pageOf (wordAddr a) = some (k, n)
    ∧ wideRead k (wordAddr a % 0x1000) = true ∧ wordAddr b = wordAddr a + 4 ∧ s.chip.reaches p (wordAddr a) = true
    ∧ s.chip.pathRight p (wordAddr a) false = .ok ∧ exec (.wideLowRead p a 15) s = .next t ∧ t.chip.reaches p (wordAddr b) = true
    ∧ t.chip.pathRight p (wordAddr b) false = .ok :=
  ⟨{ chip := hosted }, _, .bar0, BitVec.ofNat 32 (pgDATUM + 0x100), BitVec.ofNat 32 (pgDATUM + 0x104), .datum, 0, by decide +kernel, by decide +kernel,
    by decide +kernel, by decide +kernel, by decide +kernel, rfl, by decide +kernel, by decide +kernel⟩
theorem met_WideWriteNeedsItsPair : (∃ (s : State) (p : Path) (a v : Word) (k : PageKind) (n : Nat), pageOf (wordAddr a) = some (k, n)
      ∧ wideWrite k (wordAddr a % 0x1000) = true ∧ s.takesWrite p (wordAddr a) v.toNat = true)
    ∧ (∃ (s : State) (p : Path) (a v : Word) (k : PageKind) (n : Nat), pageOf (wordAddr a) = some (k, n) ∧ 4 ≤ wordAddr a % 0x1000
      ∧ wideWrite k (wordAddr a % 0x1000 - 4) = true ∧ s.takesWrite p (wordAddr a) v.toNat = true ∧ (s.chip.path p.key).held = none) :=
  ⟨⟨{ chip := hosted }, .bar0, BitVec.ofNat 32 (pgPMC + 0x104), 0, .pmc, 0, by decide +kernel⟩,
    ⟨{ chip := hosted }, .bar0, BitVec.ofNat 32 (pgPMC + 0x108), 0, .pmc, 0, by decide +kernel⟩⟩
theorem met_WritesOfAPair : ∀ r ∈ [0, 1], (hostedPair r).reaches .bar0 (pgARB + (0x200 + 0x10 * 7)) = true
    ∧ (hostedPair r).writeBarred 0 (pgARB + (0x200 + 0x10 * 7)) 128 = false ∧ (hostedPair r).paired = true ∧ (hostedPair r).leads = (r == 0) := by
  decide +kernel
theorem met_Frames : (∃ t, exec (.seHoldEntry 191) State.reset = .next t) ∧ (∃ t, exec (.fenceSend 191) State.reset = .next t)
    ∧ (∃ t, exec (.feltRecompute 7) State.reset = .next t) ∧ (∃ t, exec .lsaFlood State.reset = .next t)
    ∧ (∃ t, exec (.extest []) State.reset = .next t) := ⟨⟨_, rfl⟩, ⟨_, rfl⟩, ⟨_, rfl⟩, ⟨_, rfl⟩, ⟨_, rfl⟩⟩
theorem met_ChainMessagesAct_digest : ∃ (s : State) (u : Nat) (ds : Digests) (its : ItemDigests), s.chip.banksOn = true ∧ s.chip.compares = true
    ∧ u < s.chip.tick ∧ s.chip.tick < u + 64 ∧ s.chip.realDiff u its (((ds.filter (fun d => decide (d.1 ≤ 12)
      && s.chip.ownDigest u d.1 != d.2.toNat)).map (fun d => d.1)).flatMap (s.chip.differing u its)) ≠ [] := by
  refine ⟨{ chip := hostedPair 0 }, 9999, [(0, BitVec.ofNat 64 ((hostedPair 0).ownDigest 9999 0 + 1))], [⟨3, 5, false⟩],
    by decide +kernel, by decide +kernel, by decide +kernel, by decide +kernel, ?_⟩
  have h : ((hostedPair 0).ownDigest 9999 0 != ((hostedPair 0).ownDigest 9999 0 + 1) % 18446744073709551616) = true := by
    have : (hostedPair 0).ownDigest 9999 0 ≠ ((hostedPair 0).ownDigest 9999 0 + 1) % 18446744073709551616 := by omega
    simpa using this
  have e : (([((0 : Nat), BitVec.ofNat 64 ((hostedPair 0).ownDigest 9999 0 + 1))] : Digests).filter (fun d => decide (d.1 ≤ 12)
      && (hostedPair 0).ownDigest 9999 d.1 != d.2.toNat)).map (fun d => d.1) = [0] := by simp [List.filter, h]
  rw [e]
  decide +kernel

/-- A chip in PAIRED, of which DIGEST_RX of tick 9999 asks. -/
def pairedChip : Chip := (live.wr R.PLUMB_MAIN_UP pgPLUMB 1).wr R.TWIN_STATE pgTWIN 3

/-- The digest of a group is opaque, so a digest that differs from it is one more than it. -/
theorem digest_off (c : Chip) (u g : Nat) : (c.ownDigest u g != (BitVec.ofNat 64 (c.ownDigest u g + 1)).toNat) = true := by
  have h : c.ownDigest u g < 2 ^ 64 := Nat.mod_lt _ (by decide)
  rw [bne_iff_ne, BitVec.toNat_ofNat]
  omega

theorem met_ChainMessagesAct_differing :
    ∃ (s : State) (u : Nat) (ds : Digests) (its : ItemDigests), (s.chip.banksOn = true) ∧ (s.chip.compares = true) ∧ (u < s.chip.tick) ∧ (s.chip.tick < u + 64) ∧ (s.chip.realDiff u its (((ds.filter (fun d => decide (d.1 ≤ 12) && s.chip.ownDigest u d.1 != d.2.toNat)).map (fun d => d.1)).flatMap (s.chip.differing u its)) ≠ []) := by
  refine ⟨{ chip := pairedChip }, 9999, [(0, BitVec.ofNat 64 (pairedChip.ownDigest 9999 0 + 1))], [⟨3, 5, false⟩],
    by decide +kernel, by decide +kernel, by decide +kernel, by decide +kernel, ?_⟩
  rw [List.filter_cons_of_pos (by rw [digest_off]; rfl)]
  decide +kernel

end Sys2Proof.Tests
end

section
/-! PROOFS. The queue: every operation of the machine on a whole state leaves the commands that wait as they were (R1). -/

namespace Sys2Proof.Machine

/-- A fold of operations that keep the queue keeps it. -/
theorem foldc_pending {α : Type} (xs : List α) (f : α → State → State) (hf : ∀ x s, (f x s).pending = s.pending) (s : State) :
    (foldc xs f s).pending = s.pending := by
  induction xs generalizing s with
  | nil => rfl
  | cons x xs ih => exact (ih (f x s)).trans (hf x s)

/-- Whether a condition holds or not, the queue stands if it stands in both cases. -/
theorem ite_pending {p : Prop} [Decidable p] {s t u : State} (ht : t.pending = s.pending) (hu : u.pending = s.pending) :
    (if p then t else u).pending = s.pending := by
  split
  · exact ht
  · exact hu

/-! Commits, memories and resets. -/

@[simp] theorem refreshAll_pending (s : State) : (refreshAll s).pending = s.pending := rfl

@[simp] theorem commitRun_pending (s : State) (part : Nat) : (commitRun s part).pending = s.pending := by
  simp only [commitRun]
  split <;> rfl

@[simp] theorem commitRegion_pending (s : State) (part : Nat) : (commitRegion s part).pending = s.pending := by
  unfold commitRegion
  exact ite_pending rfl (ite_pending rfl (commitRun_pending s part))

@[simp] theorem startSet_pending (s : State) (part x : Nat) : (startSet s part x).pending = s.pending := by
  unfold startSet
  dsimp only [refreshAll]

@[simp] theorem beginConfig_pending (s : State) : s.beginConfig.pending = s.pending := rfl

@[simp] theorem mgmtResume_pending (s : State) : (mgmtResume s).pending = s.pending := by
  unfold mgmtResume
  exact ite_pending rfl (ite_pending rfl rfl)

@[simp] theorem wcEntry_pending (s : State) (k : Nat) (moved : Bool) : (wcEntry s k moved).pending = s.pending := by
  unfold wcEntry
  exact ite_pending rfl (ite_pending rfl rfl)

@[simp] theorem wcFlushDone_pending (s : State) (k : Nat) : (wcFlushDone s k).pending = s.pending := by
  unfold wcFlushDone
  exact ite_pending rfl rfl

@[simp] theorem fullReset_pending (s : State) (cause : Fld) (pin : Bool) : (s.fullReset cause pin).pending = s.pending := rfl

@[simp] theorem mainOff_pending (s : State) (c : Chip) : (s.mainOff c).pending = s.pending := rfl

@[simp] theorem seqPgTimeout_pending (s : State) (a : AdcRead) : (seqPgTimeout s a).pending = s.pending := by
  unfold seqPgTimeout
  exact ite_pending rfl rfl

@[simp] theorem seqPgLost_pending (s : State) (n : Nat) (a : AdcRead) : (seqPgLost s n a).pending = s.pending := by
  unfold seqPgLost
  exact ite_pending rfl (ite_pending rfl (ite_pending rfl rfl))

@[simp] theorem afterDown_pending (s : State) (c : Chip) : (s.afterDown c).pending = s.pending := by
  unfold State.afterDown
  exact ite_pending rfl rfl

@[simp] theorem seqPowerDown_pending (s : State) : (seqPowerDown s).pending = s.pending := by
  simp only [seqPowerDown]
  refine ite_pending rfl ?_
  split
  · exact afterDown_pending _ _
  · exact afterDown_pending _ _

@[simp] theorem seqDownStep_pending (s : State) : (seqDownStep s).pending = s.pending := by
  simp only [seqDownStep]
  split
  · split
    · exact afterDown_pending _ _
    · rfl
  · rfl
  · rfl

@[simp] theorem brownOut_pending (s : State) : (brownOut s).pending = s.pending := by
  unfold brownOut
  exact ite_pending rfl rfl

@[simp] theorem porstAssert_pending (s : State) : (porstAssert s).pending = s.pending := rfl

@[simp] theorem resetNAssert_pending (s : State) (lowNs : Nat) : (resetNAssert s lowNs).pending = s.pending := by
  unfold resetNAssert
  exact ite_pending rfl (ite_pending rfl (ite_pending rfl rfl))

@[simp] theorem keyResetStart_pending (s : State) : (keyResetStart s).pending = s.pending := by
  unfold keyResetStart
  exact ite_pending rfl rfl

@[simp] theorem thermalRestart_pending (s : State) : (thermalRestart s).pending = s.pending := by
  unfold thermalRestart
  exact ite_pending rfl rfl

@[simp] theorem glitchDetect_pending (s : State) : (glitchDetect s).pending = s.pending := by
  unfold glitchDetect
  exact ite_pending rfl rfl

@[simp] theorem faultRaise_pending (s : State) (src inst : Nat) : (faultRaise s src inst).pending = s.pending := by
  unfold faultRaise
  exact ite_pending rfl (ite_pending (glitchDetect_pending s) (ite_pending rfl rfl))

@[simp] theorem s3ResetDelay_pending (s : State) : (s3ResetDelay s).pending = s.pending := by
  unfold s3ResetDelay
  exact ite_pending (ite_pending rfl rfl) rfl

@[simp] theorem watchdogReset_pending (s : State) : (watchdogReset s).pending = s.pending := by
  unfold watchdogReset
  exact ite_pending rfl rfl

/-! The start and the saved configuration. -/

@[simp] theorem cfgSave_pending (s : State) : s.cfgSave.pending = s.pending := rfl

@[simp] theorem cfgRestore_pending (s : State) : s.cfgRestore.pending = s.pending := by
  simp only [State.cfgRestore]
  split <;> rfl

@[simp] theorem commitBound_pending (s : State) : s.commitBound.pending = s.pending :=
  foldc_pending _ _ (fun p s => ite_pending rfl (commitRun_pending s p)) s

@[simp] theorem startSolo_pending (s : State) : s.startSolo.pending = s.pending := by
  unfold State.startSolo
  dsimp only
  split <;> simp only [commitBound_pending, cfgRestore_pending]

@[simp] theorem unpaired_pending (s : State) : s.unpaired.pending = s.pending := by
  unfold State.unpaired
  exact ite_pending rfl (ite_pending (startSolo_pending s) (commitBound_pending _))

@[simp] theorem chainHello_pending (s : State) (h : Hello) : (chainHello s h).pending = s.pending := by
  unfold chainHello
  exact ite_pending rfl (ite_pending (ite_pending (unpaired_pending _) (ite_pending rfl rfl)) (ite_pending (ite_pending rfl rfl) rfl))

@[simp] theorem chainProbeEnd_pending (s : State) (probe : Probe) : (chainProbeEnd s probe).pending = s.pending := by
  unfold chainProbeEnd
  refine ite_pending rfl ?_
  cases probe with
  | noTwin => exact ite_pending (startSolo_pending s) rfl
  | running => rfl
  | alsoStep6 id => exact ite_pending (unpaired_pending _) (ite_pending rfl (startSolo_pending s))

@[simp] theorem bootTimeout_pending (s : State) : (bootTimeout s).pending = s.pending := by
  unfold bootTimeout
  exact ite_pending rfl rfl

@[simp] theorem cfgSaveServe_pending (s : State) : (cfgSaveServe s).pending = s.pending := by
  simp only [cfgSaveServe]
  split
  · rfl
  · exact ite_pending rfl rfl

@[simp] theorem imageMirror_pending (s : State) (cmd : Nat) (b : Bytes) : (s.imageMirror cmd b).pending = s.pending := by
  unfold State.imageMirror
  exact ite_pending rfl (ite_pending rfl (ite_pending rfl (ite_pending rfl rfl)))

@[simp] theorem dmaComplete_pending (s : State) (k : Chan) (err : Nat) : (dmaComplete s k err).pending = s.pending := by
  unfold dmaComplete
  exact ite_pending rfl (ite_pending rfl rfl)

@[simp] theorem dbgResume_pending (s : State) : (dbgResume s).pending = s.pending := by
  unfold dbgResume
  exact ite_pending (mgmtResume_pending _) rfl

/-! Accesses on a path. -/

@[simp] theorem busRead_pending (s : State) (p : Path) (a : Nat) : (s.busRead p a).1.pending = s.pending := by
  unfold State.busRead
  split
  · split <;> rfl
  · split
    · rfl
    · split
      · rfl
      · split <;> rfl

@[simp] theorem readWord_pending (s : State) (p : Path) (a : Nat) : (s.readWord p a).1.pending = s.pending := by
  unfold State.readWord
  split
  · exact busRead_pending s p a
  · rfl
  · rfl

@[simp] theorem pathRead_pending (s : State) (p : Path) (a : Nat) (be : BE) : (s.pathRead p a be).pending = s.pending := by
  unfold State.pathRead
  exact ite_pending rfl (readWord_pending s p a)

@[simp] theorem putWords_pending (s : State) (p : Path) (ws : List (Nat × Nat)) : (s.putWords p ws).pending = s.pending := by
  unfold State.putWords
  exact ite_pending rfl (ite_pending rfl (ite_pending rfl rfl))

@[simp] theorem pairWrite_pending (s : State) (p : Path) (k : PageKind) (a v : Nat) (held : Option (Nat × Word)) :
    (s.pairWrite p k a v held).pending = s.pending := by
  unfold State.pairWrite
  refine ite_pending rfl (ite_pending ?_ (putWords_pending _ _ _))
  split
  · exact ite_pending (putWords_pending _ _ _) rfl
  · rfl

@[simp] theorem descPut_pending (s : State) (a v : Nat) (be : BE) : (s.descPut a v be).pending = s.pending := by
  unfold State.descPut
  exact ite_pending rfl rfl

@[simp] theorem descWrite_pending (s : State) (a v : Nat) (be : BE) : (s.descWrite a v be).pending = s.pending := by
  unfold State.descWrite
  have h := descPut_pending s a v be
  exact ite_pending (ite_pending h h) (ite_pending rfl rfl)

@[simp] theorem writeWordBy_pending (s : State) (r : Chip) (p : Path) (a v : Nat) (be : BE) :
    (s.writeWordBy r p a v be).pending = s.pending := by
  simp only [State.writeWordBy]
  refine ite_pending (ite_pending rfl ?_) ?_
  · split
    · exact descWrite_pending s a v be
    · rfl
    · rfl
  · split
    · split <;> rfl
    · refine ite_pending rfl ?_
      split
      · rfl
      · rfl
      · exact ite_pending rfl (pairWrite_pending _ _ _ _ _ _)

@[simp] theorem writeWord_pending (s : State) (p : Path) (a v : Nat) (be : BE) : (s.writeWord p a v be).pending = s.pending :=
  writeWordBy_pending s s.chip p a v be

@[simp] theorem pathWrite_pending (s : State) (p : Path) (a v : Nat) (be : BE) : (s.pathWrite p a v be).pending = s.pending := by
  unfold State.pathWrite
  exact ite_pending (writeWord_pending s p a v be) rfl

@[simp] theorem regWrite_pending (s : State) (p : Path) (a v : Word) (be : BE) : (regWrite s p a v be).pending = s.pending :=
  pathWrite_pending s p _ _ be

@[simp] theorem regRead_pending (s : State) (p : Path) (a : Word) (be : BE) (kind : Nat → Bool) :
    (regRead s p a be kind).pending = s.pending := by
  unfold regRead
  exact ite_pending (pathRead_pending _ _ _ _) rfl

@[simp] theorem regWriteOf_pending (s : State) (p : Path) (a v : Word) (be : BE) (kind : Nat → Bool) :
    (regWriteOf s p a v be kind).pending = s.pending := by
  unfold regWriteOf
  exact ite_pending (pathWrite_pending _ _ _ _ _) rfl

@[simp] theorem pageWrite_pending (s : State) (p : Path) (page o : Nat) (v : Word) (be : BE) :
    (pageWrite s p page o v be).pending = s.pending := by
  unfold pageWrite
  exact ite_pending (pathWrite_pending _ _ _ _ _) rfl

@[simp] theorem descAccess_pending (s : State) (p : Path) (a : Word) (wr : Bool) (v : Word) (be : BE) :
    (descAccess s p a wr v be).pending = s.pending := by
  unfold descAccess
  exact ite_pending rfl (ite_pending (pathWrite_pending _ _ _ _ _) (ite_pending (pathRead_pending _ _ _ _) rfl))

@[simp] theorem fbkWindowRead_pending (s : State) (p : Path) (a : Word) (be : BE) : (fbkWindowRead s p a be).pending = s.pending := by
  unfold fbkWindowRead
  exact ite_pending (pathRead_pending _ _ _ _) rfl

@[simp] theorem frDataRead_pending (s : State) (p : Path) (w : Hex) (be : BE) : (frDataRead s p w be).pending = s.pending :=
  pathRead_pending s p _ be

@[simp] theorem dbgAccess_pending (s : State) (a : Word) (op : DbgOp) (v : Word) : (dbgAccess s a op v).pending = s.pending := by
  unfold dbgAccess
  refine ite_pending rfl ?_
  cases op with
  | write => exact pathWrite_pending _ _ _ _ _
  | read consume => exact ite_pending rfl (ite_pending (readWord_pending _ _ _) rfl)

/-! Two-wire targets and management sessions. -/

@[simp] theorem winRead_pending (s : State) (t : Tgt) (k : Nat) : (s.winRead t k).1.pending = s.pending := by
  simp only [State.winRead]
  split
  · rfl
  · split
    · split
      · rfl
      · exact readWord_pending _ _ _
    · exact readWord_pending _ _ _

@[simp] theorem tgtReadByte_pending (s : State) (t : Tgt) : (s.tgtReadByte t).1.pending = s.pending := by
  simp only [State.tgtReadByte]
  split
  · exact winRead_pending _ _ _
  · rfl

@[simp] theorem tgtReads_pending (t : Tgt) (n : Nat) (s : State) (acc : Bytes) : (s.tgtReads t n acc).1.pending = s.pending := by
  induction n generalizing s acc with
  | zero => rfl
  | succ n ih => exact (ih _ _).trans (tgtReadByte_pending s t)

@[simp] theorem iicTargetRead_pending (s : State) (t : Tgt) (n : Nat) : (iicTargetRead s t n).pending = s.pending := by
  unfold iicTargetRead
  exact ite_pending rfl (tgtReads_pending _ _ _ _)

@[simp] theorem winWrite_pending (s : State) (t : Tgt) (k : Nat) (v : Byte) : (s.winWrite t k v).pending = s.pending := by
  unfold State.winWrite
  exact ite_pending rfl (ite_pending rfl (ite_pending (writeWord_pending _ _ _ _ _) rfl))

@[simp] theorem tgtWriteByte_pending (s : State) (t : Tgt) (v : Byte) : (s.tgtWriteByte t v).pending = s.pending := by
  unfold State.tgtWriteByte
  exact ite_pending (winWrite_pending _ _ _ _) rfl

@[simp] theorem tgtWrite_pending (s : State) (t : Tgt) (bs : Bytes) : (s.tgtWrite t bs).pending = s.pending := by
  cases bs with
  | nil => rfl
  | cons b rest =>
    have h : ∀ c : Chip, (foldc rest (fun v s => State.tgtWriteByte s t v) { s with chip := c }).pending = s.pending :=
      fun c => foldc_pending _ _ (fun v s => tgtWriteByte_pending s t v) _
    exact ite_pending (h _) (ite_pending (h _) (h _))

@[simp] theorem iicTargetWrite_pending (s : State) (t : Tgt) (bs : Bytes) : (iicTargetWrite s t bs).pending = s.pending := by
  unfold iicTargetWrite
  exact ite_pending rfl (ite_pending rfl (tgtWrite_pending s t bs))

@[simp] theorem iicPecStop_pending (s : State) (t : Tgt) : (iicPecStop s t).pending = s.pending := by
  unfold iicPecStop
  exact ite_pending rfl (ite_pending (tgtWrite_pending _ _ _) rfl)

@[simp] theorem mgmtReads_pending (p : Part) (n : Nat) (s : State) (addr : Nat) (acc : Bytes) (bad : Bool) :
    (s.mgmtReads p addr n acc bad).1.pending = s.pending := by
  induction n generalizing s addr acc bad with
  | zero => rfl
  | succ n ih => exact (ih _ _ _ _).trans (readWord_pending s _ addr)

@[simp] theorem mgmtWrites_pending (r : Chip) (p : Part) (ws : List Nat) (s : State) (addr : Nat) (bad : Bool) :
    (s.mgmtWrites r p addr ws bad).1.pending = s.pending := by
  induction ws generalizing s addr bad with
  | nil => rfl
  | cons v ws ih => exact (ih _ _ _).trans (writeWordBy_pending s r _ addr v 15)

@[simp] theorem mgmtRead_pending (s : State) (h : SurveyHdr) (pl : Bytes) : (mgmtRead s h pl).pending = s.pending := by
  unfold mgmtRead
  exact ite_pending rfl (ite_pending rfl (ite_pending rfl (mgmtReads_pending _ _ _ _ _ _)))

@[simp] theorem mgmtWrite_pending (s : State) (h : SurveyHdr) (pl : Bytes) : (mgmtWrite s h pl).pending = s.pending := by
  unfold mgmtWrite
  exact ite_pending rfl (ite_pending rfl (ite_pending rfl (mgmtWrites_pending _ _ _ _ _ _)))

/-! The twin. -/

@[simp] theorem relayed_pending (s : State) (h : SurveyHdr) (pl : Bytes) : (s.relayed h pl).pending = s.pending := by
  unfold State.relayed
  exact ite_pending rfl (ite_pending ((mgmtWrite_pending _ h pl).trans (mgmtRead_pending s h pl)) rfl)

@[simp] theorem mirrorRx_pending (s : State) (m : MirrorMsg) : (mirrorRx s m).pending = s.pending := by
  unfold mirrorRx
  cases m with
  | image cmd b => exact imageMirror_pending _ cmd b
  | relay h pl => exact ite_pending (relayed_pending _ h pl) rfl
  | desc a v be => exact ite_pending (descPut_pending _ _ _ be) rfl
  | _ => exact ite_pending rfl rfl

/-- The commits that were held while a twin joined. -/
theorem heldCommits_pending (ps : List Part) (s : State) : (foldc ps (fun p s => commitRegion s p.val) s).pending = s.pending := by
  apply foldc_pending
  intro p s
  exact commitRegion_pending s p.val

@[simp] theorem enterPaired_pending (s : State) : s.enterPaired.pending = s.pending := by
  unfold State.enterPaired
  exact ite_pending rfl (heldCommits_pending _ _)

@[simp] theorem applyAgreed_pending (s : State) (a : Agreed) : (s.applyAgreed a).pending = s.pending := by
  unfold State.applyAgreed
  cases a.item with
  | descWrite ad v be => exact descPut_pending s _ _ be
  | paired => exact enterPaired_pending s
  | lawSet p => exact startSet_pending s p.val a.x
  | resync i => exact ite_pending rfl rfl
  | _ => rfl

@[simp] theorem agreedTick_pending (s : State) : (agreedTick s).pending = s.pending :=
  foldc_pending _ _ (fun a s => applyAgreed_pending s a) _

@[simp] theorem mirrorDesc_pending (s : State) : s.mirrorDesc.pending = s.pending := rfl

@[simp] theorem handConfig_pending (s : State) : s.handConfig.pending = s.pending := by
  unfold State.handConfig
  dsimp only [mirrorDesc_pending]

@[simp] theorem leadPhaseEnd_pending (s : State) : s.leadPhaseEnd.pending = s.pending := by
  unfold State.leadPhaseEnd
  refine ite_pending (handConfig_pending _) (ite_pending rfl (ite_pending rfl (ite_pending ?_ (ite_pending rfl rfl))))
  exact ite_pending rfl (ite_pending rfl rfl)

@[simp] theorem joinerNext_pending (s : State) (c : Chip) : (s.joinerNext c).pending = s.pending := by
  unfold State.joinerNext
  exact ite_pending rfl (ite_pending rfl (ite_pending rfl rfl))

@[simp] theorem joinPhaseEnd_pending (s : State) : (joinPhaseEnd s).pending = s.pending := by
  unfold joinPhaseEnd
  exact ite_pending (joinerNext_pending _ _) (ite_pending (leadPhaseEnd_pending s) rfl)

/-! Every command. -/

/-- Settles O39, by cases on the command: what a command does to a whole state keeps the queue by the lemma above about it; every other
command changes the chip alone. -/
theorem commandsKeepTheQueue : Obligations.CommandsKeepTheQueue := by
  intro c s
  cases c with
  | registerWrite p a v be => exact ⟨_, rfl, regWrite_pending s p a v be⟩
  | wideLowRead p a be | wideHighRead p a be | rcRead p a be => exact ⟨_, rfl, regRead_pending s p a be _⟩
  | wideLowWrite p a v be | wideHighWrite p a v be => exact ⟨_, rfl, regWriteOf_pending s p a v be _⟩
  | pgOwnerWrite | pgEvtLatchWrite | seqSave | seqRestart | resetKeyWrite | discStart | safeActWrite | ceSelftestStart | ceDoorbell
  | ceCancel | phCtrlClear | fsCfgWrite | huCfgWrite | crownNodeWrite | strCfgWrite | hibEnter | feederEnable | feederClear
  | calCfgWrite | calRefWrite | twRejoin | twTraverse | quietA | quietB | fabWake | ptCfgWrite | creditWrite | quotaWrite
  | fcOutstandingClear | fbkEraseKey | wcapArm | wcapTrigger | wcapAbort | dmaStart | iic1Start | pmcSelWrite | snap =>
    exact ⟨_, rfl, pageWrite_pending s _ _ _ _ _⟩
  | descriptorAccess p a wr v be => exact ⟨_, rfl, descAccess_pending s p a wr v be⟩
  | fbkWindowRead p a be => exact ⟨_, rfl, fbkWindowRead_pending s p a be⟩
  | frDataRead p w be => exact ⟨_, rfl, frDataRead_pending s p w be⟩
  | dbgAccess a op v => exact ⟨_, rfl, dbgAccess_pending s a op v⟩
  | iicTargetWrite t bs => exact ⟨_, rfl, iicTargetWrite_pending s t bs⟩
  | iicTargetRead t n => exact ⟨_, rfl, iicTargetRead_pending s t n⟩
  | iicPecStop t => exact ⟨_, rfl, iicPecStop_pending s t⟩
  | mgmtRead h pl => exact ⟨_, rfl, mgmtRead_pending s h pl⟩
  | mgmtWrite h pl => exact ⟨_, rfl, mgmtWrite_pending s h pl⟩
  | descriptorCommit part => exact ⟨_, rfl, commitRegion_pending s part.val⟩
  | mgmtResume => exact ⟨_, rfl, mgmtResume_pending s⟩
  | wcapEntry n moved => exact ⟨_, rfl, wcEntry_pending s n.val moved⟩
  | wcapFlushDone n => exact ⟨_, rfl, wcFlushDone_pending s n.val⟩
  | resetNAssert lowNs => exact ⟨_, rfl, resetNAssert_pending s lowNs⟩
  | seqPgTimeout adc => exact ⟨_, rfl, seqPgTimeout_pending s adc⟩
  | seqPgLost rail adc => exact ⟨_, rfl, seqPgLost_pending s rail.val adc⟩
  | seqPowerDown => exact ⟨_, rfl, seqPowerDown_pending s⟩
  | seqDownStep => exact ⟨_, rfl, seqDownStep_pending s⟩
  | brownOut => exact ⟨_, rfl, brownOut_pending s⟩
  | keyResetStart => exact ⟨_, rfl, keyResetStart_pending s⟩
  | faultRaise src inst => exact ⟨_, rfl, faultRaise_pending s src.toNat inst⟩
  | s3ResetDelay => exact ⟨_, rfl, s3ResetDelay_pending s⟩
  | watchdogReset => exact ⟨_, rfl, watchdogReset_pending s⟩
  | thermalRestart => exact ⟨_, rfl, thermalRestart_pending s⟩
  | glitchDetect => exact ⟨_, rfl, glitchDetect_pending s⟩
  | chainProbeEnd probe => exact ⟨_, rfl, chainProbeEnd_pending s probe⟩
  | chainHello h => exact ⟨_, rfl, chainHello_pending s h⟩
  | bootTimeout => exact ⟨_, rfl, bootTimeout_pending s⟩
  | cfgSave => exact ⟨_, rfl, cfgSaveServe_pending s⟩
  | dmaComplete k err => exact ⟨_, rfl, dmaComplete_pending s k err⟩
  | dbgResume => exact ⟨_, rfl, dbgResume_pending s⟩
  | agreedTick => exact ⟨_, rfl, agreedTick_pending s⟩
  | mirrorRx m => exact ⟨_, rfl, ite_pending (mirrorRx_pending s m) rfl⟩
  | joinPhaseEnd => exact ⟨_, rfl, joinPhaseEnd_pending s⟩
  | readbackRefresh => exact ⟨_, rfl, refreshAll_pending s⟩
  | porstNAssert => exact ⟨_, rfl, porstAssert_pending s⟩
  | _ => exact ⟨_, rfl, State.onChip_pending s _⟩

end Sys2Proof.Machine
end

section
/-! SUPPORT. Accesses on a path: what dropping a held word leaves, where an address lies, and what an access that its path makes does to the
state (R4, R5, R10, R339). -/

namespace Sys2Proof.Machine

/-! The held word of a path (R5). -/

/-- Dropping the held word changes the record of the paths alone. -/
theorem dropHeld_eq (c : Chip) (k : Nat) : c.dropHeld k = { c with paths := (c.dropHeld k).paths } := by
  unfold Chip.dropHeld
  split <;> rfl

theorem dropHeld_of_none {c : Chip} {k : Nat} (h : (c.path k).held = none) : c.dropHeld k = c := by
  simp [Chip.dropHeld, h]

@[simp] theorem dropHeld_held (c : Chip) (k : Nat) : ((c.dropHeld k).path k).held = none := by
  unfold Chip.dropHeld
  split
  · simp
  · rename_i h; simpa using h

@[simp] theorem dropHeld_shadow (c : Chip) (k : Nat) : ((c.dropHeld k).path k).shadow = (c.path k).shadow := by
  unfold Chip.dropHeld
  split
  · simp
  · rfl

@[simp] theorem dropHeld_regs (c : Chip) (k : Nat) : (c.dropHeld k).regs = c.regs := by rw [dropHeld_eq]

@[simp] theorem dropHeld_rd (c : Chip) (k : Nat) (f : Fld) (b i : Nat) : (c.dropHeld k).rd f b i = c.rd f b i := by rw [dropHeld_eq]; rfl

@[simp] theorem dropHeld_on (c : Chip) (k : Nat) (f : Fld) (b i : Nat) : (c.dropHeld k).on f b i = c.on f b i := by rw [dropHeld_eq]; rfl

@[simp] theorem dropHeld_owner (c : Chip) (k b : Nat) : (c.dropHeld k).owner b = c.owner b := by rw [dropHeld_eq]; rfl

@[simp] theorem dropHeld_fbk (c : Chip) (k : Nat) : (c.dropHeld k).fbk = c.fbk := by rw [dropHeld_eq]

@[simp] theorem dropHeld_frNext (c : Chip) (k p : Nat) : (c.dropHeld k).frNext p = c.frNext p := by rw [dropHeld_eq]; rfl

@[simp] theorem dropHeld_regWord (c : Chip) (j : Nat) (k : PageKind) (n o idp : Nat) :
    (c.dropHeld j).regWord k n o idp = c.regWord k n o idp := by rw [dropHeld_eq]; rfl

@[simp] theorem dropHeld_writeBarred (c : Chip) (k p a v : Nat) : (c.dropHeld k).writeBarred p a v = c.writeBarred p a v := by
  rw [dropHeld_eq]; rfl

@[simp] theorem dropHeld_ownerBusy (c : Chip) (j : Nat) (k : PageKind) (n : Nat) : (c.dropHeld j).ownerBusy k n = c.ownerBusy k n := by
  rw [dropHeld_eq]; rfl

@[simp] theorem dropHeld_localWord (c : Chip) (k a : Nat) : (c.dropHeld k).localWord a = c.localWord a := by rw [dropHeld_eq]; rfl

/-! Addresses (R4, R516). -/

/-- The pages lie below descriptor memory. -/
theorem pageOf_lt {a : Nat} {x : PageKind × Nat} (h : pageOf a = some x) : a < 0x400000 := by
  by_contra hn
  simp [pageOf, show ¬ a / 0x1000 < 26 by omega, show ¬ a / 0x1000 < 0x30 by omega, show ¬ a / 0x1000 < 0xB0 by omega,
    show ¬ a / 0x1000 < 0x10C by omega, show ¬ a / 0x1000 < 0x2C0 by omega] at h

/-- An address of the same page, further on. -/
theorem pageOf_add {a d : Nat} (h : a % 0x1000 + d < 0x1000) : pageOf (a + d) = pageOf a := by
  unfold pageOf
  rw [show (a + d) / 0x1000 = a / 0x1000 by omega]

theorem pageOf_sp_add {n o : Nat} (hn : n < 192) (ho : o < 0x1000) : pageOf (pgSP n + o) = some (.sp, n) := by
  have e : (pgSP n + o) / 0x1000 = 0x200 + n := by unfold pgSP; omega
  simp only [pageOf, e]
  rw [if_neg (by omega), if_neg (by omega), if_neg (by omega), if_neg (by omega), if_pos (by omega)]
  simp

theorem pageOf_ce_add {n o : Nat} (hn : n < 128) (ho : o < 0x1000) : pageOf (pgCE n + o) = some (.ce, n) := by
  have e : (pgCE n + o) / 0x1000 = 0x30 + n := by unfold pgCE; omega
  simp only [pageOf, e]
  rw [if_neg (by omega), if_neg (by omega), if_pos (by omega)]
  simp

/-- A word-aligned address is its own word address. -/
theorem wordAddr_ofNat {a : Nat} (h4 : a % 4 = 0) (h : a < 2 ^ 32) : wordAddr (BitVec.ofNat 32 a) = a := by
  rw [wordAddr, BitVec.toNat_ofNat, Nat.mod_eq_of_lt h]
  omega

/-- The base of a page as a command names it. -/
theorem pageAddr_ofNat {a : Nat} (hb : a % 0x1000 = 0) (h : a < 2 ^ 32) : (BitVec.ofNat 32 a).toNat / 0x1000 * 0x1000 = a := by
  rw [BitVec.toNat_ofNat, Nat.mod_eq_of_lt h]
  omega

/-- All byte enables take the whole word. -/
theorem maskBytes_all (w : Nat) : maskBytes w 15#4 = w % 2 ^ 32 := by
  simp only [maskBytes, upTo]
  simp [List.range_succ, leNat]
  omega

theorem ofNat_maskBytes_all (w : Nat) : BitVec.ofNat 32 (maskBytes w 15#4) = BitVec.ofNat 32 w := by
  apply BitVec.eq_of_toNat_eq
  rw [maskBytes_all, BitVec.toNat_ofNat, BitVec.toNat_ofNat, Nat.mod_mod]

/-! Reads (R4, R5). -/

/-- A register word is read through its page. -/
theorem busRead_page {s : State} {p : Path} {a : Nat} {k : PageKind} {n : Nat} (h : pageOf a = some (k, n)) :
    s.busRead p a = ({ s with chip := (s.chip.pageRead p k n a).1 }, (s.chip.pageRead p k n a).2) := by
  simp [State.busRead, pageOf_lt h, h]

/-- A read that its path reaches and may make returns the enabled bytes of the word. -/
theorem pathRead_ok {s : State} {p : Path} {a : Nat} {be : BE} (hr : s.chip.reaches p a = true) (hk : s.chip.pathRight p a false = .ok) :
    s.pathRead p a be = { (s.busRead p a).1 with chip := (s.busRead p a).1.chip.modPath p.key (fun t => { t with
      rdata := BitVec.ofNat 32 (maskBytes (s.busRead p a).2 be) }) } := by
  simp [State.pathRead, State.readWord, hr, hk]

/-- The low word of a wide register stands before its high word in one page, and is no high word itself. -/
theorem wideRead_next {k : PageKind} {o : Nat} (h : wideRead k o = true) : o < 0x400 ∧ wideRead k (o + 4) = false ∧ k ≠ .fbk := by
  cases k <;> simp [wideRead] at h ⊢ <;> omega

/-- A read of a low word shows it and loads the path's shadow with the high word of the same instant. -/
theorem pageRead_wideLow {c : Chip} {p : Path} {k : PageKind} {n a : Nat} (hw : wideRead k (a % 0x1000) = true) :
    c.pageRead p k n a = ((c.dropHeld p.key).modPath p.key (fun t => { t with
      shadow := some (a + 4, BitVec.ofNat 32 (c.regWord k n (a % 0x1000 + 4) p.ident)) }), c.regWord k n (a % 0x1000) p.ident) := by
  obtain ⟨-, -, hk⟩ := wideRead_next hw
  simp [Chip.pageRead, hw, hk]

/-- A read of the high word that the path's shadow holds returns the shadow and empties it. -/
theorem pageRead_wideHigh {c : Chip} {p : Path} {k : PageKind} {n a : Nat} {w : Word} (hw : wideRead k (a % 0x1000) = true)
    (ha : (a + 4) % 0x1000 = a % 0x1000 + 4) (hs : (c.path p.key).shadow = some (a + 4, w)) :
    c.pageRead p k n (a + 4) = ((c.dropHeld p.key).modPath p.key (fun t => { t with shadow := none }), w.toNat) := by
  obtain ⟨-, hn, hk⟩ := wideRead_next hw
  simp [Chip.pageRead, ha, hn, hw, hk, hs]

/-- What a full read of a low word leaves on its path. -/
theorem wideLowRead_acts {s : State} {p : Path} {a : Word} {k : PageKind} {n : Nat} (hp : pageOf (wordAddr a) = some (k, n))
    (hw : wideRead k (wordAddr a % 0x1000) = true) (hr : s.chip.reaches p (wordAddr a) = true)
    (hk : s.chip.pathRight p (wordAddr a) false = .ok) :
    ∃ t, exec (.wideLowRead p a 15) s = .next t
      ∧ (t.chip.path p.key).rdata = BitVec.ofNat 32 (s.chip.regWord k n (wordAddr a % 0x1000) p.ident)
      ∧ (t.chip.path p.key).shadow = some (wordAddr a + 4, BitVec.ofNat 32 (s.chip.regWord k n (wordAddr a % 0x1000 + 4) p.ident))
      ∧ (t.chip.path p.key).held = none := by
  have hl : isWideLow (wordAddr a) = true := by simp [isWideLow, hp, hw]
  have e : exec (.wideLowRead p a 15) s = .next (s.pathRead p (wordAddr a) 15) :=
    congrArg Host.Outcome.next (if_pos hl)
  refine ⟨_, e, ?_⟩
  simp [pathRead_ok hr hk, busRead_page hp, pageRead_wideLow hw, ofNat_maskBytes_all]

/-- A full read of the high word that the path's shadow holds returns it and empties the shadow. -/
theorem wideHighRead_acts {s : State} {p : Path} {a b : Word} {k : PageKind} {n : Nat} {w : Word}
    (hp : pageOf (wordAddr a) = some (k, n)) (hw : wideRead k (wordAddr a % 0x1000) = true) (hab : wordAddr b = wordAddr a + 4)
    (hr : s.chip.reaches p (wordAddr b) = true) (hk : s.chip.pathRight p (wordAddr b) false = .ok)
    (hs : (s.chip.path p.key).shadow = some (wordAddr b, w)) :
    ∃ t, exec (.wideHighRead p b 15) s = .next t ∧ (t.chip.path p.key).rdata = w ∧ (t.chip.path p.key).shadow = none := by
  obtain ⟨ho, -, -⟩ := wideRead_next hw
  have hm : (wordAddr a + 4) % 0x1000 = wordAddr a % 0x1000 + 4 := by omega
  have hp4 : pageOf (wordAddr a + 4) = some (k, n) := (pageOf_add (by omega)).trans hp
  have hh : isWideHigh (wordAddr b) = true := by simp [isWideHigh, hab, hp4, hm, hw]
  have e : exec (.wideHighRead p b 15) s = .next (s.pathRead p (wordAddr b) 15) :=
    congrArg Host.Outcome.next (if_pos hh)
  refine ⟨_, e, ?_⟩
  rw [pathRead_ok hr hk]
  rw [hab] at hs ⊢
  simp [busRead_page hp4, pageRead_wideHigh hw hm hs, ofNat_maskBytes_all]

/-! Writes (R5, R10, R339). -/

/-- What `takesWrite` says. -/
theorem takesWrite_iff {s : State} {p : Path} {a v : Nat} :
    s.takesWrite p a v = true ↔ s.chip.reaches p a = true ∧ s.chip.pathRight p a true = .ok ∧ s.chip.writeBarred p.ident a v = false
      ∧ (s.chip.localWord a = true ∨ s.chip.rd R.TWIN_STATE pgTWIN = 0 ∨ s.chip.rd R.TWIN_STATE pgTWIN = 1
        ∨ s.chip.rd R.TWIN_STATE pgTWIN = 4) := by
  simp [State.takesWrite, and_assoc, or_assoc]

/-- What `takesAlone` says. -/
theorem takesAlone_iff {s : State} {a v : Nat} :
    s.takesAlone a v = true ↔ s.chip.reaches .bar0 a = true ∧ s.chip.writeBarred 0 a v = false ∧ (s.chip.path 0).held = none
      ∧ s.chip.rd R.TWIN_STATE pgTWIN = 1 ∧ s.chip.rd R.TWIN_JOIN_PHASE pgTWIN = 0 := by
  simp [State.takesAlone, and_assoc]

theorem takesWrite_of_takesAlone {s : State} {a v : Nat} (h : s.takesAlone a v = true) : s.takesWrite .bar0 a v = true := by
  obtain ⟨hr, hb, -, hst, -⟩ := takesAlone_iff.mp h
  exact takesWrite_iff.mpr ⟨hr, rfl, hb, .inr (.inr (.inl hst))⟩

/-- Only registers of PMC and HOST are written in pairs of words. -/
theorem wideWrite_page {k : PageKind} {o : Nat} (h : wideWrite k o = true) : k = .pmc ∨ k = .host := by
  cases k <;> simp [wideWrite] at h ⊢

theorem wideWrite_false {k : PageKind} (o : Nat) (hp : k ≠ .pmc) (hh : k ≠ .host) : wideWrite k o = false :=
  Bool.eq_false_iff.mpr (fun h => (wideWrite_page h).elim hp hh)

/-- The low word of a register that is written in two words is no high word. -/
theorem wideWrite_next {k : PageKind} {o : Nat} (h : wideWrite k o = true) : wideWrite k (o + 4) = false := by
  cases k <;> simp [wideWrite] at h ⊢ <;> omega

/-- A write of a register word that its path reaches and may make, and that no lock bars, comes to the pairing of words. -/
theorem pathWrite_word {s : State} {p : Path} {a v : Nat} {k : PageKind} {n : Nat} (hp : pageOf a = some (k, n))
    (hr : s.chip.reaches p a = true) (hk : s.chip.pathRight p a true = .ok) (hb : s.chip.writeBarred p.ident a v = false) :
    s.pathWrite p a v 15 = (s.onChip (fun c => c.dropHeld p.key)).pairWrite p k a v (s.chip.path p.key).held := by
  have hd : ¬ 0x400000 ≤ a := Nat.not_le.mpr (pageOf_lt hp)
  simp [State.pathWrite, State.writeWord, State.writeWordBy, hr, hk, hb, hp, hd, State.onChip]

/-- A word that no wide register has is written by itself. -/
theorem pairWrite_plain {s : State} {p : Path} {k : PageKind} {a v : Nat} {held : Option (Nat × Word)} (hp : k ≠ .pmc) (hh : k ≠ .host) :
    s.pairWrite p k a v held = s.putWords p [(a, v)] := by
  simp [State.pairWrite, wideWrite_false _ hp hh, stripStart, hh]

/-- A word that this chip does not leave to its twin acts here; the twin may be sent it. -/
theorem putWords_here {s : State} {p : Path} {a v : Nat} (h : s.chip.localWord a = true ∨ s.chip.rd R.TWIN_STATE pgTWIN = 0
      ∨ s.chip.rd R.TWIN_STATE pgTWIN = 1 ∨ s.chip.rd R.TWIN_STATE pgTWIN = 4) :
    ∃ o, s.putWords p [(a, v)] = { s with chip := { s.chip.applyWord a v true false p.ident with sent := o } } := by
  by_cases hl : s.chip.localWord a = true
  · exact ⟨_, by simp [State.putWords, hl, foldc]; rfl⟩
  · have hst := h.resolve_left hl
    by_cases hj : s.chip.joinerHears = true
    · have e : s.putWords p [(a, v)] = s.onChip (fun c =>
          (c.applyWord a v true false p.ident).send (.chain (.mirror (.cfg (BitVec.ofNat 32 a) (BitVec.ofNat 32 v))))) := by
        simp [State.putWords, hl, hst, hj, foldc, State.onChip]
      exact ⟨_, by rw [e, State.onChip, Chip.send_eq]⟩
    · exact ⟨_, by simp [State.putWords, hl, hst, hj, foldc]; rfl⟩

/-- Words written by a chip that acts alone act on it, and nobody is sent them. -/
theorem putWords_alone {s : State} {p : Path} {ws : List (Nat × Nat)} (hst : s.chip.rd R.TWIN_STATE pgTWIN = 1)
    (hj : s.chip.rd R.TWIN_JOIN_PHASE pgTWIN = 0) :
    s.putWords p ws = s.onChip (fun c => foldc ws (fun w c => c.applyWord w.1 w.2 true false p.ident) c) := by
  have hh : s.chip.joinerHears = false := by simp [Chip.joinerHears, hj]
  simp [State.putWords, hst, hh, State.onChip]

/-- A write of a word outside PMC and HOST that P0 makes through BAR0 and this chip takes alone is the word's action. -/
theorem pathWrite_alone {s : State} {a v : Nat} {k : PageKind} {n : Nat} (h : s.takesAlone a v = true) (hp : pageOf a = some (k, n))
    (hk : k ≠ .pmc) (hh : k ≠ .host) : s.pathWrite .bar0 a v 15 = s.onChip (fun c => c.applyWord a v true false 0) := by
  obtain ⟨hr, hb, hn, hst, hj⟩ := takesAlone_iff.mp h
  rw [pathWrite_word hp hr rfl hb, pairWrite_plain hk hh]
  have hd : s.onChip (fun c => c.dropHeld Path.bar0.key) = s := congrArg (fun c => { s with chip := c }) (dropHeld_of_none hn)
  rw [hd, putWords_alone hst hj]
  rfl

/-- A write of a word outside PMC and HOST that this chip takes is the word's action, the held word dropped; the twin may be sent it. -/
theorem pathWrite_takes {s : State} {p : Path} {a v : Nat} {k : PageKind} {n : Nat} (h : s.takesWrite p a v = true)
    (hp : pageOf a = some (k, n)) (hk : k ≠ .pmc) (hh : k ≠ .host) :
    ∃ o, s.pathWrite p a v 15 = { s with chip := { (s.chip.dropHeld p.key).applyWord a v true false p.ident with sent := o } } := by
  obtain ⟨hr, hok, hb, hgo⟩ := takesWrite_iff.mp h
  rw [pathWrite_word hp hr hok hb, pairWrite_plain hk hh]
  exact putWords_here (by simpa using hgo)

end Sys2Proof.Machine
end

section
/-! PROOFS. A step's command, partial writes and the pairing of words (R1, R4, R5), and the ownership of a page (R13, R14). -/

namespace Sys2Proof.Machine

/-- Settles O37: `step` takes the first command off the queue and runs it. -/
theorem frontCommandRuns : Obligations.FrontCommandRuns := by
  intro c rest s h
  unfold step
  rw [h]

/-- A partial write of a register word that its path reaches is counted and signalled, whatever the path's rights. -/
theorem pathWrite_partial {s : State} {p : Path} {a v : Nat} {be : BE} {k : PageKind} {n : Nat} (hp : pageOf a = some (k, n))
    (hr : s.chip.reaches p a = true) (hbe : be ≠ 15#4) : s.pathWrite p a v be = s.onChip (fun c => (c.dropHeld p.key).partialWrite) := by
  have hd : ¬ 0x400000 ≤ a := Nat.not_le.mpr (pageOf_lt hp)
  simp [State.pathWrite, State.writeWord, State.writeWordBy, hr, hp, hd, hbe, State.onChip]

/-- Settles O52: the byte enables are judged before the path's rights and the pairing of words. -/
theorem partialWriteDiscarded : Obligations.PartialWriteDiscarded := by
  intro s p a v be k n hp hr hbe
  exact ⟨_, rfl, pathWrite_partial hp hr hbe⟩

/-- Settles O53: the low read loads the shadow with the high word of its instant, and the high read returns the shadow. -/
theorem wideReadIsOneValue : Obligations.WideReadIsOneValue := by
  intro s t u p a b k n hp hw hab hr hk ht hsh hru hku
  obtain ⟨t', ht', -, hs, -⟩ := wideLowRead_acts hp hw hr hk
  obtain rfl : t = t' := by injection ht.symm.trans ht'
  exact wideHighRead_acts hp hw hab hru hku (by rw [hsh, hs, hab])

/-- A low word written on a path is held there and changes no register. -/
theorem pairWrite_low {s : State} {p : Path} {k : PageKind} {a v : Nat} {held : Option (Nat × Word)} (hw : wideWrite k (a % 0x1000) = true) :
    s.pairWrite p k a v held = s.onChip (fun c => c.modPath p.key (fun t => { t with held := some (a, BitVec.ofNat 32 v) })) :=
  if_pos hw

/-- A high word without its low word on the path changes nothing. -/
theorem pairWrite_unpaired {s : State} {p : Path} {k : PageKind} {a v : Nat} {held : Option (Nat × Word)} (h4 : 4 ≤ a % 0x1000)
    (hw : wideWrite k (a % 0x1000 - 4) = true) (hh : ∀ x, held = some x → x.1 + 4 ≠ a) : s.pairWrite p k a v held = s := by
  have hl : wideWrite k (a % 0x1000) = false := by
    have := wideWrite_next hw
    rwa [Nat.sub_add_cancel h4] at this
  cases held with
  | none => simp [State.pairWrite, hl, h4, hw]
  | some x => simp [State.pairWrite, hl, h4, hw, hh x rfl]

/-- A high word directly after its low word writes both. -/
theorem pairWrite_paired {s : State} {p : Path} {k : PageKind} {a v : Nat} {lo : Word} (hw : wideWrite k (a % 0x1000) = true)
    (ha : (a + 4) % 0x1000 = a % 0x1000 + 4) :
    s.pairWrite p k (a + 4) v (some (a, lo)) = s.putWords p [(a, lo.toNat), (a + 4, v)] := by
  simp [State.pairWrite, ha, wideWrite_next hw, hw]

/-- A write of a low word on a path that takes it. -/
theorem exec_wideLowWrite {s : State} {p : Path} {a v : Word} {k : PageKind} {n : Nat} (hp : pageOf (wordAddr a) = some (k, n))
    (hw : wideWrite k (wordAddr a % 0x1000) = true) :
    exec (.wideLowWrite p a v 15) s = .next (s.pathWrite p (wordAddr a) v.toNat 15) :=
  congrArg Host.Outcome.next (if_pos (by simp [isWideLowWr, hp, hw]))

theorem exec_wideHighWrite {s : State} {p : Path} {a v : Word} {k : PageKind} {n : Nat} (hp : pageOf (wordAddr a) = some (k, n))
    (h4 : 4 ≤ wordAddr a % 0x1000) (hw : wideWrite k (wordAddr a % 0x1000 - 4) = true) :
    exec (.wideHighWrite p a v 15) s = .next (s.pathWrite p (wordAddr a) v.toNat 15) :=
  congrArg Host.Outcome.next (if_pos (by simp [isWideHighWr, hp, hw, h4]))

/-- A low word that its path takes is held on it; no register and no memory changes. -/
theorem wideLowWrite_acts {s : State} {p : Path} {a v : Word} {k : PageKind} {n : Nat} (hp : pageOf (wordAddr a) = some (k, n))
    (hw : wideWrite k (wordAddr a % 0x1000) = true) (ht : s.takesWrite p (wordAddr a) v.toNat = true) :
    ∃ t, exec (.wideLowWrite p a v 15) s = .next t ∧ t.chip.regs = s.chip.regs ∧ (t.chip.path p.key).held = some (wordAddr a, v)
      ∧ t.mem = s.mem := by
  obtain ⟨hr, hok, hb, -⟩ := takesWrite_iff.mp ht
  refine ⟨_, exec_wideLowWrite hp hw, ?_⟩
  rw [pathWrite_word hp hr hok hb, pairWrite_low hw]
  simp

/-- A high word whose path holds no low word of the same register is discarded. -/
theorem wideHighWrite_discarded {s : State} {p : Path} {a v : Word} {k : PageKind} {n : Nat} (hp : pageOf (wordAddr a) = some (k, n))
    (h4 : 4 ≤ wordAddr a % 0x1000) (hw : wideWrite k (wordAddr a % 0x1000 - 4) = true)
    (ht : s.takesWrite p (wordAddr a) v.toNat = true) (hh : ∀ x, (s.chip.path p.key).held = some x → x.1 + 4 ≠ wordAddr a) :
    exec (.wideHighWrite p a v 15) s = .next (s.onChip (fun c => c.dropHeld p.key)) := by
  obtain ⟨hr, hok, hb, -⟩ := takesWrite_iff.mp ht
  rw [exec_wideHighWrite hp h4 hw, pathWrite_word hp hr hok hb, pairWrite_unpaired h4 hw hh]

/-- Settles O54, from what the pairing of words does with each of the two. -/
theorem wideWriteNeedsItsPair : Obligations.WideWriteNeedsItsPair := by
  constructor
  · intro s p a v k n hp hw ht
    exact wideLowWrite_acts hp hw ht
  · intro s p a v k n hp h4 hw ht hh
    exact ⟨_, wideHighWrite_discarded hp h4 hw ht hh, rfl⟩

/-! Ownership (R13, R14, R401). -/

/-- A tenant's page is that of a port or of an engine; it begins at a page boundary, in no page of its own kind alone. -/
theorem pageBase_tenant {k : PageKind} {n : Nat} (h : k.tenant = true) : pageBase k n % 0x1000 = 0 ∧ 0x30000 ≤ pageBase k n := by
  cases k <;> simp [PageKind.tenant] at h <;> simp only [pageBase] <;> omega

/-- QUIESCED alone follows the work in flight, as far as fields outside `noisy` go. -/
theorem rd_reQuiesced (c : Chip) (k : PageKind) (n : Nat) (f : Fld) (a i : Nat) (hb : pageBase k n % 0x1000 = 0)
    (hn : noisy (fldKey f a i) = false) (hf : fldKey f a i ≠ fldKey R.PG_QUIESCED (pageBase k n) 0) :
    (c.reQuiesced k n).rd f a i = c.rd f a i := by
  unfold Chip.reQuiesced
  dsimp only
  split
  · rfl
  · rw [rd_up _ _ _ _ _ _ _ _ hb hn, rd_wr_ne _ _ _ _ _ _ _ _ hf]

/-- The fields of PG_OWNER. -/
def ownerField (f : Fld) : Prop := f = R.PG_OWNER ∨ f = R.PG_LOCKED

theorem noisy_ownerField {f : Fld} {b : Nat} (hf : ownerField f) (hb : b % 0x1000 = 0) : noisy (fldKey f b 0) = false := by
  rcases hf with rfl | rfl
  · exact noisy_fld_false R.PG_OWNER b 0 hb (by decide) (by decide) (by decide) (.inr (.inl (by decide)))
  · exact noisy_fld_false R.PG_LOCKED b 0 hb (by decide) (by decide) (by decide) (.inr (.inl (by decide)))

/-- A change of owner, once it is taken, writes PG_OWNER; what follows from it leaves both fields. -/
theorem ownerWrite_rd {c : Chip} {k : PageKind} {n v : Nat} {f : Fld} (ht : k.tenant = true)
    (hl : c.on R.PG_LOCKED (pageBase k n) = false) (hne : v % 8 ≠ c.owner (pageBase k n)) (hb : c.ownerBusy k n = false) (hf : ownerField f) :
    (c.ownerWrite k n v).rd f (pageBase k n)
      = ((c.wr R.PG_OWNER (pageBase k n) (v % 8)).wr R.PG_LOCKED (pageBase k n) (b2n (bitOf v 31))).rd f (pageBase k n) := by
  obtain ⟨hpg, -⟩ := pageBase_tenant (n := n) ht
  have hn := noisy_ownerField hf hpg
  have hq1 : fldKey f (pageBase k n) 0 ≠ fldKey R.PG_QUIESCED (pageBase k n) 0 := by
    rcases hf with rfl | rfl <;> simp only [fldKey, R.PG_OWNER, R.PG_LOCKED, R.PG_QUIESCED] <;> omega
  have hq2 : fldKey f (pageBase k n) 0 ≠ fldKey R.PG_QUIESCE (pageBase k n) 0 := by
    rcases hf with rfl | rfl <;> simp only [fldKey, R.PG_OWNER, R.PG_LOCKED, R.PG_QUIESCE] <;> omega
  have after : ∀ d : Chip, ((d.reQuiesced k n).seqInc pgPART).rd f (pageBase k n) = d.rd f (pageBase k n) := fun d => by
    rw [rd_seqInc _ _ _ _ _ (by decide) hn, rd_reQuiesced _ _ _ _ _ _ hpg hn hq1]
  have judged : ∀ (d : Chip) (on : Bool) (w : Nat), (if on then d.sendVec w else d).rd f (pageBase k n) = d.rd f (pageBase k n) :=
    fun d on w => (Same1.ite (same1_sendVec d w) (Same1.refl d)).same.rd f _ 0 hn
  by_cases h0 : v % 8 = 0
  · rw [h0] at hne
    simp only [Chip.ownerWrite, hl, ht, hne, hb, h0]
    simp only [ne_eq, not_true_eq_false, Bool.false_eq_true, false_and, if_false, if_true]
    split <;> simp only [judged, after]
  · simp only [Chip.ownerWrite, hl, ht, hne, hb, h0]
    simp only [Bool.not_true, Bool.false_eq_true, and_false, if_false]
    split <;> simp only [judged, after, rd_wr_ne _ _ _ _ _ _ _ _ hq2]

/-- A change of owner that is taken, with the lock written beside it. -/
theorem ownerWrite_takes {c : Chip} {k : PageKind} {n v : Nat} (ht : k.tenant = true)
    (hl : c.on R.PG_LOCKED (pageBase k n) = false) (hne : v % 8 ≠ c.owner (pageBase k n)) (hb : c.ownerBusy k n = false) :
    (c.ownerWrite k n v).owner (pageBase k n) = v % 8 ∧ (c.ownerWrite k n v).on R.PG_LOCKED (pageBase k n) = bitOf v 31 := by
  have hk : fldKey R.PG_OWNER (pageBase k n) 0 ≠ fldKey R.PG_LOCKED (pageBase k n) 0 := by
    simp only [fldKey, R.PG_OWNER, R.PG_LOCKED]; omega
  constructor
  · rw [Chip.owner, ownerWrite_rd ht hl hne hb (.inl rfl), rd_wr_ne _ _ _ _ _ _ _ _ hk, rd_wr_same]
    simp [R.PG_OWNER]
  · rw [Chip.on, ownerWrite_rd ht hl hne hb (.inr rfl), rd_wr_same]
    cases bitOf v 31 <;> decide

/-- A write of PG_OWNER that this chip takes, of a page that is unlocked and not in use: the new owner, and the lock as written. -/
theorem pgOwnerWrite_acts {s : State} {p : Path} {k : PageKind} {n : Nat} {v : Word} (hkn : (k = .sp ∧ n < 192) ∨ (k = .ce ∧ n < 128))
    (ht : s.takesWrite p (pageBase k n + 8) v.toNat = true) (hl : s.chip.on R.PG_LOCKED (pageBase k n) = false)
    (hb : s.chip.ownerBusy k n = false) (hne : v.toNat % 8 ≠ s.chip.owner (pageBase k n)) :
    ∃ t, exec (.pgOwnerWrite p (BitVec.ofNat 32 (pageBase k n)) v 15) s = .next t ∧ t.chip.owner (pageBase k n) = v.toNat % 8
      ∧ t.chip.on R.PG_LOCKED (pageBase k n) = bitOf v.toNat 31 := by
  have hten : k.tenant = true := by rcases hkn with ⟨rfl, -⟩ | ⟨rfl, -⟩ <;> rfl
  have hpm : k ≠ .pmc ∧ k ≠ .host := by rcases hkn with ⟨rfl, -⟩ | ⟨rfl, -⟩ <;> decide
  have hp : pageOf (pageBase k n + 8) = some (k, n) := by
    rcases hkn with ⟨rfl, hn⟩ | ⟨rfl, hn⟩
    · exact pageOf_sp_add hn (by decide)
    · exact pageOf_ce_add hn (by decide)
  have hlt := pageOf_lt hp
  obtain ⟨hpg, -⟩ := pageBase_tenant (n := n) hten
  have hex : exec (.pgOwnerWrite p (BitVec.ofNat 32 (pageBase k n)) v 15) s = .next (s.pathWrite p (pageBase k n + 8) v.toNat 15) := by
    show Host.Outcome.next (pageWrite s p _ 8 v 15) = _
    rw [pageAddr_ofNat hpg (by omega), pageWrite, if_pos hlt]
  obtain ⟨o, ho⟩ := pathWrite_takes ht hp hpm.1 hpm.2
  have hw : (s.chip.dropHeld p.key).applyWord (pageBase k n + 8) v.toNat true false p.ident
      = (s.chip.dropHeld p.key).ownerWrite k n v.toNat := by
    simp only [Chip.applyWord, hp]
    rw [if_pos (by omega)]
  obtain ⟨how, hlk⟩ := ownerWrite_takes (c := s.chip.dropHeld p.key) (v := v.toNat) hten (by simpa using hl) (by simpa using hne)
    (by simpa using hb)
  rw [ho, hw] at hex
  exact ⟨_, hex, how, hlk⟩

/-- Settles O45: where the page takes the write, OWNER is the written one, and the written LOCKED is 1. -/
theorem ownerWriteThenLocks : Obligations.OwnerWriteThenLocks := by
  intro s p k n v hkn ht hl hb hne h31
  have hv : bitOf v.toNat 31 = true := by
    rw [BitVec.getLsbD, Nat.testBit_eq_decide_div_mod_eq] at h31
    simpa [bitOf] using h31
  simpa only [hv] using pgOwnerWrite_acts hkn ht hl hb hne

end Sys2Proof.Machine
end

section
/-! PROOFS. Register accesses of P0 on a chip that acts alone (R4, R5, R7, R13, R18, R507): one lemma per kind of access. -/

namespace Sys2Proof.Machine

/-! The pages and words that the accesses name. -/

theorem pageOf_pgTHM : pageOf (pgTHM + 0x1C) = some (.thm, 0) := by decide

theorem pageOf_pgARB {d : Nat} (hd : d < 0x1000) : pageOf (pgARB + d) = some (.arb, 0) :=
  (pageOf_add (by simp only [pgARB]; omega)).trans (by decide)

theorem pageOf_pgFBK {d : Nat} (hd : d < 0x1000) : pageOf (pgFBK + d) = some (.fbk, 0) :=
  (pageOf_add (by simp only [pgFBK]; omega)).trans (by decide)

theorem rowsAt_maxHold : PageKind.rowsAt .arb 0x100 = [(⟨R.ARB_MAX_HOLD, 1, .rw⟩, 0)] := by decide +kernel

theorem rowsAt_snapTickLo : PageKind.rowsAt .pmc 0x104 = [(⟨R.PMC_SNAP_TICK_LO, 1, .rw⟩, 0)] := by decide +kernel

theorem rowsAt_snapTickHi : PageKind.rowsAt .pmc 0x108 = [(⟨R.PMC_SNAP_TICK_HI, 1, .rw⟩, 0)] := by decide +kernel

theorem rowsAt_maxWait : ∀ p : Part, PageKind.rowsAt .arb (0x208 + 16 * p.val) = [(⟨R.ARB_MAX_WAIT, 8, .rc⟩, p.val)] := by decide +kernel

/-- A register write whose address is word-aligned. -/
theorem exec_registerWrite {s : State} {p : Path} {a : Nat} {v : Word} {be : BE} (h4 : a % 4 = 0) (ha : a < 2 ^ 32) :
    exec (.registerWrite p (BitVec.ofNat 32 a) v be) s = .next (s.pathWrite p a v.toNat be) := by
  show Host.Outcome.next (s.pathWrite p (wordAddr (BitVec.ofNat 32 a)) v.toNat be) = _
  rw [wordAddr_ofNat h4 ha]

/-- A word of one RW field takes the written field. -/
theorem putWord_rw {c : Chip} {k : PageKind} {b o v i cnt : Nat} {f : Fld} (h : k.rowsAt o = [(⟨f, cnt, .rw⟩, i)]) :
    c.putWord k b o v = c.wr f b (fldOf v f) i := by
  simp [Chip.putWord, h]

/-- A 32-bit field takes the whole word. -/
theorem fldOf_word (v : Word) (f : Fld) (hl : f.lo = 0) (hw : f.w = 32) : fldOf v.toNat f = v.toNat := by
  have := v.isLt
  simp only [fldOf, hl, hw]
  omega

/-! Writes. -/

/-- PG_EVT_IRQEN takes the bits of the events that the page has (R18, R523). -/
theorem evtIrqenWrite_acts (s : State) (v : Word) (h : s.takesAlone (pgTHM + 0x1C) v.toNat = true) :
    ∃ t, exec (.registerWrite .bar0 (BitVec.ofNat 32 (pgTHM + 0x1C)) v 15) s = .next t ∧ t.chip.rd R.EVT_IRQEN pgTHM = v.toNat &&& 7 := by
  refine ⟨_, exec_registerWrite (by decide) (by decide), ?_⟩
  rw [pathWrite_alone h pageOf_pgTHM (by decide) (by decide)]
  show ((s.chip.wr R.EVT_IRQEN pgTHM (v.toNat &&& 7)).reIrq pgTHM).rd R.EVT_IRQEN pgTHM = _
  have hv : v.toNat &&& 7 < 2 ^ 32 := lt_of_le_of_lt Nat.and_le_left v.isLt
  rw [rd_reIrq _ _ _ _ _ _ (by decide), rd_wr_same]
  exact Nat.mod_eq_of_lt hv

/-- MAX_HOLD takes a value of 256 or above (R421). -/
theorem maxHoldWrite_acts (s : State) (v : Word) (h : s.takesAlone (pgARB + 0x100) v.toNat = true) (hv : 256 ≤ v.toNat % 65536) :
    ∃ t, exec (.registerWrite .bar0 (BitVec.ofNat 32 (pgARB + 0x100)) v 15) s = .next t
      ∧ t.chip.rd R.ARB_MAX_HOLD pgARB = v.toNat % 65536 := by
  refine ⟨_, exec_registerWrite (by decide) (by decide), ?_⟩
  rw [pathWrite_alone h (pageOf_pgARB (by decide)) (by decide) (by decide)]
  show (s.chip.wrArb 0x100 v.toNat).rd R.ARB_MAX_HOLD pgARB = _
  simp [Chip.wrArb, hv, putWord_rw rowsAt_maxHold, fldOf, R.ARB_MAX_HOLD]

/-- The two words of PMC.SNAP_TICK store what is written; neither starts a snapshot (R509). -/
theorem applyWord_snapTickLo (c : Chip) (v : Word) :
    c.applyWord (pgPMC + 0x104) v.toNat true false 0 = c.wr R.PMC_SNAP_TICK_LO pgPMC v.toNat := by
  show c.putWord .pmc pgPMC 0x104 v.toNat = _
  rw [putWord_rw rowsAt_snapTickLo, fldOf_word _ _ rfl rfl]

theorem applyWord_snapTickHi (c : Chip) (v : Word) :
    c.applyWord (pgPMC + 0x104 + 4) v.toNat true false 0 = c.wr R.PMC_SNAP_TICK_HI pgPMC v.toNat := by
  show c.putWord .pmc pgPMC 0x108 v.toNat = _
  rw [putWord_rw rowsAt_snapTickHi, fldOf_word _ _ rfl rfl]

/-- A low word of SNAP_TICK is held on the path. -/
theorem snapTickLowWrite_acts (s : State) (v : Word) (h : s.takesAlone (pgPMC + 0x104) v.toNat = true) :
    ∃ t, exec (.wideLowWrite .bar0 (BitVec.ofNat 32 (pgPMC + 0x104)) v 15) s = .next t
      ∧ (t.chip.path 0).held = some (pgPMC + 0x104, v) ∧ t.chip.regs = s.chip.regs := by
  obtain ⟨t, ht, hregs, hheld, -⟩ := wideLowWrite_acts (a := BitVec.ofNat 32 (pgPMC + 0x104)) (v := v) (k := .pmc) (n := 0)
    (by decide) (by decide) (takesWrite_of_takesAlone h)
  exact ⟨t, ht, hheld, hregs⟩

/-- The high word directly after it writes both words of SNAP_TICK. -/
theorem snapTickHighWrite_acts (s : State) (v lo : Word) (hr : s.chip.reaches .bar0 (pgPMC + 0x108) = true)
    (hb : s.chip.writeBarred 0 (pgPMC + 0x108) v.toNat = false) (hh : (s.chip.path 0).held = some (pgPMC + 0x104, lo))
    (hst : s.chip.rd R.TWIN_STATE pgTWIN = 1) (hj : s.chip.rd R.TWIN_JOIN_PHASE pgTWIN = 0) :
    ∃ t, exec (.wideHighWrite .bar0 (BitVec.ofNat 32 (pgPMC + 0x108)) v 15) s = .next t
      ∧ t.chip.rd R.PMC_SNAP_TICK_LO pgPMC = lo.toNat ∧ t.chip.rd R.PMC_SNAP_TICK_HI pgPMC = v.toNat ∧ (t.chip.path 0).held = none := by
  refine ⟨_, exec_wideHighWrite (k := .pmc) (n := 0) (by decide) (by decide) (by decide), ?_⟩
  have ha : wordAddr (BitVec.ofNat 32 (pgPMC + 0x108)) = pgPMC + 0x104 + 4 := by decide
  have hp : pageOf (pgPMC + 0x104 + 4) = some (.pmc, 0) := by decide
  have hk : Path.bar0.key = 0 := rfl
  rw [ha, pathWrite_word hp hr rfl hb, hk, hh, pairWrite_paired (by decide) (by decide),
    putWords_alone (by simpa using hst) (by simpa using hj)]
  simp only [State.onChip_chip, foldc, List.foldl_cons, List.foldl_nil, Path.ident, applyWord_snapTickLo, applyWord_snapTickHi]
  rw [rd_wr_ne _ _ _ _ _ _ _ _ (by decide), rd_wr_same, rd_wr_same]
  exact ⟨Nat.mod_eq_of_lt lo.isLt, Nat.mod_eq_of_lt v.isLt, dropHeld_held _ _⟩

/-- Without its low word on the path the high word is discarded. -/
theorem snapTickHighWrite_discarded (s : State) (v : Word) (h : s.takesAlone (pgPMC + 0x108) v.toNat = true) :
    ∃ t, exec (.wideHighWrite .bar0 (BitVec.ofNat 32 (pgPMC + 0x108)) v 15) s = .next t ∧ t.chip = s.chip := by
  obtain ⟨-, -, hn, -, -⟩ := takesAlone_iff.mp h
  refine ⟨_, wideHighWrite_discarded (k := .pmc) (n := 0) (by decide) (by decide) (by decide) (takesWrite_of_takesAlone h) ?_,
    dropHeld_of_none hn⟩
  intro x hx
  rw [show Path.bar0.key = 0 from rfl, hn] at hx
  cases hx

/-- A write of PG_OWNER of a port's page (R13, R14). -/
theorem portOwnerWrite_acts (s : State) (p : Port) (v : Word) (h : s.takesAlone (pgSP p.val + 8) v.toNat = true)
    (hl : s.chip.on R.PG_LOCKED (pgSP p.val) = false) (hne : v.toNat % 8 ≠ s.chip.owner (pgSP p.val))
    (hb : s.chip.ownerBusy .sp p.val = false) :
    ∃ t, exec (.pgOwnerWrite .bar0 (BitVec.ofNat 32 (pgSP p.val)) v 15) s = .next t ∧ t.chip.owner (pgSP p.val) = v.toNat % 8
      ∧ t.chip.on R.PG_LOCKED (pgSP p.val) = bitOf v.toNat 31 :=
  pgOwnerWrite_acts (k := .sp) (n := p.val) (.inl ⟨rfl, p.isLt⟩) (takesWrite_of_takesAlone h) hl hb hne

/-- A write at an offset of a port's page, as a command names the page. -/
theorem pageWrite_port {s : State} {q : Path} {n o : Nat} {v : Word} {be : BE} (hn : n < 192) (ho : o < 0x1000) :
    pageWrite s q ((BitVec.ofNat 32 (pgSP n)).toNat / 0x1000 * 0x1000) o v be = s.pathWrite q (pgSP n + o) v.toNat be := by
  rw [pageAddr_ofNat (by simp only [pgSP]; omega) (by simp only [pgSP]; omega), pageWrite, if_pos (pageOf_lt (pageOf_sp_add hn ho))]

/-- What a write of a word of a port's page does, by the word's offset. -/
theorem applyWord_port {c : Chip} {n o v : Nat} {own agreed : Bool} {idp : Nat} (hn : n < 192) (ho : o < 0x1000) :
    c.applyWord (pgSP n + o) v own agreed idp =
      if o = 8 then c.ownerWrite .sp n v
      else if o = 0xC then c.ctrlWrite .sp n v
      else if o = 0x18 then c.latchWrite (pgSP n) v
      else if o = 0x1C then (c.wr R.EVT_IRQEN (pgSP n) (v &&& 0x1FF)).reIrq (pgSP n)
      else if 0x40 ≤ o ∧ o < 0x50 then (if idp = 0 then c.pmcSelWrite .sp (pgSP n) ((o - 0x40) / 4) v else c)
      else if o < 0x100 then c
      else c.wrSp n o v := by
  have hm : (pgSP n + o) % 0x1000 = o := by simp only [pgSP]; omega
  simp only [Chip.applyWord, pageOf_sp_add hn ho, hm]
  rfl

/-- PG_EVT_LATCH loses the bits that are written as ones (R18). -/
theorem portLatchWrite_acts (s : State) (p : Port) (v : Word) (h : s.takesAlone (pgSP p.val + 0x18) v.toNat = true) :
    ∃ t, exec (.pgEvtLatchWrite .bar0 (BitVec.ofNat 32 (pgSP p.val)) v 15) s = .next t
      ∧ t.chip.rd R.EVT_LATCH (pgSP p.val)
        = (s.chip.rd R.EVT_LATCH (pgSP p.val) - (s.chip.rd R.EVT_LATCH (pgSP p.val) &&& v.toNat)) % 2 ^ 32 := by
  refine ⟨_, congrArg Host.Outcome.next (pageWrite_port p.isLt (by decide)), ?_⟩
  rw [pathWrite_alone h (pageOf_sp_add p.isLt (by decide)) (by decide) (by decide), State.onChip_chip, applyWord_port p.isLt (by decide)]
  show (s.chip.latchWrite (pgSP p.val) v.toNat).rd R.EVT_LATCH (pgSP p.val) = _
  rw [Chip.latchWrite, latch_reIrq _ _ _ _ (by simp only [pgSP]; omega), rd_wr_same]
  rfl

/-- A change of the event that a counter counts clears the counter (R507). -/
theorem portSelWrite_acts (s : State) (p : Port) (j : Chan) (v : Word) (h : s.takesAlone (pgSP p.val + (0x40 + 4 * j.val)) v.toNat = true)
    (hne : s.chip.rd R.PMC_EVENT (pgSP p.val) j.val ≠ v.toNat % 65536) :
    ∃ t, exec (.pmcSelWrite .bar0 (BitVec.ofNat 32 (pgSP p.val)) j v 15) s = .next t
      ∧ t = s.onChip (fun c => (c.putWord .sp (pgSP p.val) (0x40 + 4 * j.val) v.toNat).wr R.PMC_CNT (pgSP p.val) 0 j.val) := by
  have hj := j.isLt
  refine ⟨_, congrArg Host.Outcome.next (pageWrite_port p.isLt (by omega)), ?_⟩
  rw [pathWrite_alone h (pageOf_sp_add p.isLt (by omega)) (by decide) (by decide)]
  refine congrArg (fun c => { s with chip := c }) ?_
  dsimp only
  rw [applyWord_port p.isLt (by omega), if_neg (by omega), if_neg (by omega), if_neg (by omega), if_neg (by omega), if_pos (by omega),
    if_pos rfl, show (0x40 + 4 * j.val - 0x40) / 4 = j.val by omega]
  simp [Chip.pmcSelWrite, PageKind.hasPmc, hne]

/-! Reads. -/

/-- NOW_LO shows the low word of Datum and loads the path's shadow with the high word (R5, R24). -/
theorem datumLowRead_acts (s : State) (hr : s.chip.reaches .bar0 (pgDATUM + 0x100) = true) :
    ∃ t, exec (.wideLowRead .bar0 (BitVec.ofNat 32 (pgDATUM + 0x100)) 15) s = .next t
      ∧ (t.chip.path 0).rdata = BitVec.ofNat 32 (s.chip.datum % 2 ^ 32)
      ∧ (t.chip.path 0).shadow = some (pgDATUM + 0x104, BitVec.ofNat 32 (s.chip.datum / 2 ^ 32 % 2 ^ 32)) ∧ (t.chip.path 0).held = none :=
  wideLowRead_acts (a := BitVec.ofNat 32 (pgDATUM + 0x100)) (p := .bar0) (k := .datum) (n := 0) (by decide) (by decide) hr rfl

/-- NOW_HI shows what the path's shadow holds of it, and empties the shadow (R5). -/
theorem datumHighRead_acts (s : State) (w : Word) (hr : s.chip.reaches .bar0 (pgDATUM + 0x104) = true)
    (hs : (s.chip.path 0).shadow = some (pgDATUM + 0x104, w)) :
    ∃ t, exec (.wideHighRead .bar0 (BitVec.ofNat 32 (pgDATUM + 0x104)) 15) s = .next t ∧ (t.chip.path 0).rdata = w
      ∧ (t.chip.path 0).shadow = none :=
  wideHighRead_acts (a := BitVec.ofNat 32 (pgDATUM + 0x100)) (b := BitVec.ofNat 32 (pgDATUM + 0x104)) (p := .bar0) (k := .datum) (n := 0)
    (by decide) (by decide) (by decide) hr rfl hs

/-- A read of a page's word outside the wide registers and FR_DATA clears the RC fields of the word (R7). -/
theorem pageRead_plain {c : Chip} {p : Path} {k : PageKind} {n a : Nat} (hk : k ≠ .fbk) (hw : ∀ o, wideRead k o = false) :
    c.pageRead p k n a = ((c.dropHeld p.key).rcClear k (pageBase k n) (a % 0x1000), c.regWord k n (a % 0x1000) p.ident) := by
  simp [Chip.pageRead, hk, hw]

/-- A read of MAX_WAIT shows it and clears it (R7, R421). -/
theorem maxWaitRead_acts (s : State) (p : Part)
    (hr : s.chip.reaches .bar0 (pgARB + R.ARB_MAX_WAIT.off + R.ARB_MAX_WAIT.stride * p.val) = true) :
    ∃ t, exec (.rcRead .bar0 (BitVec.ofNat 32 (pgARB + R.ARB_MAX_WAIT.off + R.ARB_MAX_WAIT.stride * p.val)) 15) s = .next t
      ∧ t.chip.rd R.ARB_MAX_WAIT pgARB p.val = 0
      ∧ (t.chip.path 0).rdata = BitVec.ofNat 32 (s.chip.regWord .arb 0 (R.ARB_MAX_WAIT.off + R.ARB_MAX_WAIT.stride * p.val) 0) := by
  have hp8 := p.isLt
  have ha : pgARB + R.ARB_MAX_WAIT.off + R.ARB_MAX_WAIT.stride * p.val = pgARB + (0x208 + 16 * p.val) := by
    simp only [R.ARB_MAX_WAIT]; omega
  have ho : R.ARB_MAX_WAIT.off + R.ARB_MAX_WAIT.stride * p.val = 0x208 + 16 * p.val := rfl
  have hm : (pgARB + (0x208 + 16 * p.val)) % 0x1000 = 0x208 + 16 * p.val := by simp only [pgARB]; omega
  have hpg : pageOf (pgARB + (0x208 + 16 * p.val)) = some (.arb, 0) := pageOf_pgARB (by omega)
  rw [ha] at hr ⊢
  rw [ho]
  have hrc : isRc (pgARB + (0x208 + 16 * p.val)) = true := by simp [isRc, hpg, hm, rowsAt_maxWait p]
  have e : exec (.rcRead .bar0 (BitVec.ofNat 32 (pgARB + (0x208 + 16 * p.val))) 15) s
      = .next (s.pathRead .bar0 (pgARB + (0x208 + 16 * p.val)) 15) := by
    show Host.Outcome.next (regRead s .bar0 _ 15 isRc) = _
    rw [regRead, wordAddr_ofNat (by simp only [pgARB]; omega) (by simp only [pgARB]; omega), if_pos hrc]
  have hclear : ∀ c : Chip, c.rcClear .arb (pageBase .arb 0) (0x208 + 16 * p.val) = c.wr R.ARB_MAX_WAIT pgARB 0 p.val := fun c => by
    simp only [Chip.rcClear, rowsAt_maxWait p]
    rfl
  refine ⟨_, e, ?_⟩
  rw [pathRead_ok hr rfl, busRead_page hpg, pageRead_plain (by decide) (fun _ => rfl), hm, hclear]
  simp [ofNat_maskBytes_all, Path.key, Path.ident]

/-! Descriptor memory, the Field Book and the debugger. -/

/-- A write of a whole word of descriptor memory puts its four bytes, the least significant first (R185). -/
theorem descriptorWrite_acts (s : State) (a : Nat) (v : Word) (ha : a < 0x100000) (hr : s.chip.reaches .bar0 (0x400000 + 4 * a) = true)
    (hst : s.chip.rd R.TWIN_STATE pgTWIN = 1) (hj : s.chip.rd R.TWIN_JOIN_PHASE pgTWIN = 0) :
    ∃ t, exec (.descriptorAccess .bar0 (BitVec.ofNat 32 (0x400000 + 4 * a)) true v 15) s = .next t ∧ t.chip = s.chip
      ∧ t.mem = memSet (memSet (memSet (memSet s.mem (4 * a) (BitVec.ofNat 8 v.toNat)) (4 * a + 1) (BitVec.ofNat 8 (v.toNat / 256)))
          (4 * a + 2) (BitVec.ofNat 8 (v.toNat / 65536))) (4 * a + 3) (BitVec.ofNat 8 (v.toNat / 16777216)) := by
  have hwa : wordAddr (BitVec.ofNat 32 (0x400000 + 4 * a)) = 0x400000 + 4 * a := wordAddr_ofNat (by omega) (by omega)
  have hin : 0x400000 ≤ 0x400000 + 4 * a ∧ 0x400000 + 4 * a < 0x800000 := by omega
  have hh : s.chip.joinerHears = false := by simp [Chip.joinerHears, hj]
  have e : exec (.descriptorAccess .bar0 (BitVec.ofNat 32 (0x400000 + 4 * a)) true v 15) s
      = .next (s.descPut (0x400000 + 4 * a) v.toNat 15) := by
    show Host.Outcome.next (descAccess s .bar0 _ true v 15) = _
    have hk : s.chip.pathRight .bar0 (0x400000 + 4 * a) true = .ok := rfl
    have hb : alignedBE 15#4 = true := by decide
    simp [descAccess, hwa, hin.2, State.pathWrite, hr, State.writeWord, State.writeWordBy, hk, hb, State.descWrite, hst, hh]
  refine ⟨_, e, ?_⟩
  rw [State.descPut, if_pos hin]
  refine ⟨rfl, ?_⟩
  simp [upTo, List.range_succ]

/-- A read of descriptor memory returns the word there and changes no memory (R185). -/
theorem descriptorRead_acts (s : State) (a : Nat) (v : Word) (ha : a < 0x100000) (hr : s.chip.reaches .bar0 (0x400000 + 4 * a) = true) :
    ∃ t, exec (.descriptorAccess .bar0 (BitVec.ofNat 32 (0x400000 + 4 * a)) false v 15) s = .next t ∧ t.mem = s.mem
      ∧ (t.chip.path 0).rdata = BitVec.ofNat 32 (maskBytes (memWord s.mem (4 * a)) 15) := by
  have hwa : wordAddr (BitVec.ofNat 32 (0x400000 + 4 * a)) = 0x400000 + 4 * a := wordAddr_ofNat (by omega) (by omega)
  have hlo : 0x400000 + 4 * a < 0x800000 := by omega
  have e : exec (.descriptorAccess .bar0 (BitVec.ofNat 32 (0x400000 + 4 * a)) false v 15) s
      = .next (s.pathRead .bar0 (0x400000 + 4 * a) 15) := by
    show Host.Outcome.next (descAccess s .bar0 _ false v 15) = _
    have hb : alignedBE 15#4 = true := by decide
    simp [descAccess, hwa, hlo, hb]
  have hbus : s.busRead .bar0 (0x400000 + 4 * a) = (s, memWord s.mem (4 * a)) := by simp [State.busRead, hlo]
  refine ⟨_, e, ?_⟩
  rw [pathRead_ok hr rfl, hbus]
  exact ⟨rfl, congrArg PathSt.rdata (Chip.modPath_path _ _ _)⟩

/-- A debugger read without CONSUME shows what the word reads and changes nothing but the debugger's own state (R514). -/
theorem debugPeek_acts (s : State) (a v : Word) (hu : s.chip.unlocked = true) (hr : s.chip.reaches .dbg (wordAddr a) = true) :
    ∃ t, exec (.dbgAccess a (.read false) v) s = .next t ∧ t.chip.dbg = { s.chip.dbg with consume := false }
      ∧ (t.chip.path 3).rdata = BitVec.ofNat 32 (s.busPeek .dbg (wordAddr a)) ∧ t.chip.regs = s.chip.regs ∧ t.mem = s.mem := by
  refine ⟨_, rfl, ?_⟩
  simp [dbgAccess, hu, hr, Path.key]

/-- A read of the first word of a slot latches the slot on the path (R452). -/
theorem fbRead_first (c : Chip) (k i : Nat) : (c.fbRead k i 0).1 = c.modPath k (fun p => { p with fbk := some (i, c.fbSlot i) }) := by
  unfold Chip.fbRead
  dsimp only
  split
  · contradiction
  · rfl
  · rfl

theorem fieldBookRead_acts (s : State) (k : Nat) (hk : k < 0x20000) (hr : s.chip.reaches .bar0 (0x800000 + 64 * k) = true) :
    ∃ t, exec (.fbkWindowRead .bar0 (BitVec.ofNat 32 (0x800000 + 64 * k)) 15) s = .next t
      ∧ (t.chip.path 0).fbk = some (k, s.chip.fbSlot k) := by
  have hwa : wordAddr (BitVec.ofNat 32 (0x800000 + 64 * k)) = 0x800000 + 64 * k := wordAddr_ofNat (by omega) (by omega)
  have e : exec (.fbkWindowRead .bar0 (BitVec.ofNat 32 (0x800000 + 64 * k)) 15) s = .next (s.pathRead .bar0 (0x800000 + 64 * k) 15) := by
    show Host.Outcome.next (fbkWindowRead s .bar0 _ 15) = _
    rw [fbkWindowRead, hwa, if_pos (by omega)]
  have hbus : s.busRead .bar0 (0x800000 + 64 * k) = ({ s with chip := (s.chip.fbRead 0 k 0).1 }, (s.chip.fbRead 0 k 0).2.toNat) := by
    have hi : (0x800000 + 64 * k - 0x800000) / 64 = k := by omega
    have hw : (0x800000 + 64 * k) % 64 / 4 = 0 := by omega
    rw [State.busRead, if_neg (by omega), if_neg (by omega), if_pos (by omega), hi, hw]
    rfl
  refine ⟨_, e, ?_⟩
  rw [pathRead_ok hr rfl, hbus, fbRead_first]
  simp [Path.key]

/-- A read of FR_DATA word 0 latches P0's next record and takes its number as the cursor (R455). -/
theorem frDataRead_acts (s : State) (w : Hex) (r : FbRec) (hw : w.val = 0) (hr : s.chip.reaches .bar0 (pgFBK + 0x840 + 4 * w.val) = true)
    (hn : s.chip.frNext 0 = some r) :
    ∃ t, exec (.frDataRead .bar0 w 15) s = .next t ∧ t.chip.fbk.latch = setAt s.chip.fbk.latch 0 (some r)
      ∧ t.chip.fbk.cursor = setAt s.chip.fbk.cursor 0 r.seq := by
  have ha : pgFBK + 0x840 + 4 * w.val = pgFBK + 0x840 := by rw [hw]
  refine ⟨_, rfl, ?_⟩
  rw [ha] at hr
  rw [frDataRead, ha, pathRead_ok hr rfl, busRead_page (pageOf_pgFBK (by decide))]
  simp [Chip.pageRead, pgFBK, Path.ident, Chip.frRead, hn]

/-- Settles O32, clause by clause. -/
theorem registerAccessActs : Obligations.RegisterAccessActs :=
  ⟨evtIrqenWrite_acts, maxHoldWrite_acts, datumLowRead_acts, datumHighRead_acts, snapTickLowWrite_acts, snapTickHighWrite_acts,
    snapTickHighWrite_discarded, maxWaitRead_acts, portOwnerWrite_acts, portLatchWrite_acts, portSelWrite_acts, descriptorWrite_acts,
    descriptorRead_acts, debugPeek_acts, fieldBookRead_acts, frDataRead_acts⟩

end Sys2Proof.Machine
end

section
/-! PROOFS. What raising a fault, and whatever else a tick or a class-C result can bring about, leaves standing: the clocks, Plumb's power and
PLL states, the class-C results, and the registers of the start, the last raise and the rate of Datum (R23, R37, R83, R86, R424). -/

namespace Sys2Proof.Machine

/-- The registers of the last raise (R424). -/
def lastRaise : List Nat := [fldKey R.FCU_LAST_SRC pgFCU 0, fldKey R.FCU_LAST_INST pgFCU 0, fldKey R.FCU_LAST_SEV pgFCU 0]

/-- The other FCU registers that a raise writes. -/
def raiseShown : List Nat :=
  [fldKey R.FCU_MAX_SEV pgFCU 0, fldKey R.FCU_FLT_OUT pgFCU 0, fldKey R.FCU_CNT_RAISE pgFCU 0, fldKey R.FCU_CNT_WIRE pgFCU 0]

/-- The registers that may change beside those of the last raise: the events and counters of every page, PG_STATUS, the Field Book's page, FCU's
registers of outstanding sources, DATUM.SOURCE, and every page from FWU on. -/
def echoed (k : Nat) : Bool :=
  noisy k || k / 32 % 4096 == 0x10 || k / 131072 == 5 || decide (0x9000 ≤ k / 32) || raiseShown.contains k
    || (decide (0x4600 ≤ k / 32) && decide (k / 32 < 0x4700)) || k == fldKey R.DATUM_SOURCE pgDATUM 0

/-- The registers that may change; `l` tells whether those of the last raise are among them. -/
def stirred (l : Bool) (k : Nat) : Bool := echoed k || (l && lastRaise.contains k)

/-- `d` has the clocks of `c`, its Plumb state but the faults outstanding, the S3 sequence and the fence, its class-C results, and its registers
outside `stirred`. -/
structure Still (l : Bool) (c d : Chip) : Prop where
  now : d.now = c.now
  datum : d.datum = c.datum
  rateAcc : d.rateAcc = c.rateAcc
  plumb : d.plumb = { c.plumb with
    outSev := d.plumb.outSev, outBy := d.plumb.outBy, s3 := d.plumb.s3, s3Reset := d.plumb.s3Reset, fenced := d.plumb.fenced }
  classC : d.twin.classC = c.twin.classC
  regs : ∀ k, stirred l k = false → ∀ v, mapGet d.regs k v = mapGet c.regs k v

theorem stirred_of_echoed {l : Bool} {k : Nat} (h : echoed k = true) : stirred l k = true := by simp [stirred, h]

theorem noisy_of_not_stirred {l : Bool} {k : Nat} (h : stirred l k = false) : noisy k = false := by
  simp only [stirred, echoed, Bool.or_eq_false_iff] at h
  exact h.1.1.1.1.1.1.1

/-- Every field of a page from FWU on is among them. -/
theorem stirred_page {l : Bool} {f : Fld} {b i : Nat} (hb : 0x9000 ≤ b) : stirred l (fldKey f b i) = true := by
  have h : 0x9000 ≤ fldKey f b i / 32 := by simp only [fldKey]; omega
  exact stirred_of_echoed (by simp [echoed, h])

section
variable {l : Bool} {c d e : Chip}

theorem Still.refl (c : Chip) : Still l c c := ⟨rfl, rfl, rfl, rfl, rfl, fun _ _ _ => rfl⟩

theorem Still.trans (h : Still l c d) (k : Still l d e) : Still l c e where
  now := k.now.trans h.now
  datum := k.datum.trans h.datum
  rateAcc := k.rateAcc.trans h.rateAcc
  plumb := by rw [k.plumb, h.plumb]
  classC := k.classC.trans h.classC
  regs := fun x hx v => (k.regs x hx v).trans (h.regs x hx v)

theorem Still.ite {p : Prop} [Decidable p] (h : Still l c d) (k : Still l c e) : Still l c (if p then d else e) := by
  split
  · exact h
  · exact k

theorem Still.foldc {α : Type} {xs : List α} {f : α → Chip → Chip} (hf : ∀ x ∈ xs, ∀ c, Still l c (f x c)) (c : Chip) :
    Still l c (foldc xs f c) := by
  induction xs generalizing c with
  | nil => exact Still.refl c
  | cons x xs ih => exact (hf x (by simp) c).trans (ih (fun y hy => hf y (by simp [hy])) (f x c))

/-- A change that is quiet and keeps the registers outside `noisy`. -/
theorem Still.of_quiet (q : Quiet c d) (h : Same c d) : Still l c d where
  now := q.now
  datum := q.datum
  rateAcc := q.rateAcc
  plumb := by rw [q.plumb]
  classC := by rw [q.twin]
  regs := fun k hk v => h k (noisy_of_not_stirred hk) v

/-- A change of none of these. -/
theorem Still.of_eq (hn : d.now = c.now) (hd : d.datum = c.datum) (ha : d.rateAcc = c.rateAcc) (hp : d.plumb = c.plumb)
    (ht : d.twin.classC = c.twin.classC) (hr : d.regs = c.regs) : Still l c d :=
  ⟨hn, hd, ha, by rw [hp], ht, fun _ _ _ => by rw [hr]⟩

/-- A field outside `stirred` reads as before. -/
theorem Still.rd (h : Still l c d) (f : Fld) (b i : Nat) (hk : stirred l (fldKey f b i) = false) : d.rd f b i = c.rd f b i :=
  h.regs _ hk _

theorem Still.porst (h : Still l c d) : d.plumb.porst = c.plumb.porst := by rw [h.plumb]
theorem Still.stopped (h : Still l c d) : d.plumb.stopped = c.plumb.stopped := by rw [h.plumb]
theorem Still.locked (h : Still l c d) : d.plumb.locked = c.plumb.locked := by rw [h.plumb]
theorem Still.halted (h : Still l c d) : d.plumb.halted = c.plumb.halted := by rw [h.plumb]
theorem Still.refclk (h : Still l c d) : d.plumb.refclk = c.plumb.refclk := by rw [h.plumb]
end

/-! Registers, events and interrupts. -/

section
variable {l : Bool} (c : Chip)

theorem still_wr (f : Fld) (b v i : Nat) (h : stirred l (fldKey f b i) = true) : Still l c (c.wr f b v i) :=
  ⟨rfl, rfl, rfl, rfl, rfl, fun k hk w => mapGet_mapSet_ne _ (by rintro rfl; simp [h] at hk) _ _⟩

theorem still_wr_page (f : Fld) (b v i : Nat) (hb : 0x9000 ≤ b) : Still l c (c.wr f b v i) := still_wr c f b v i (stirred_page hb)

theorem still_bump_page (f : Fld) (b i n : Nat) (hb : 0x9000 ≤ b) : Still l c (c.bump f b i n) := still_wr_page c f b _ i hb

theorem still_hw (b : Nat) (us : List (Fld × Nat × Nat)) (hb : b % 4096 = 0)
    (h : ∀ u ∈ us, stirred l (fldKey u.1 b u.2.1) = true) : Still l c (c.hw b us) := by
  have hw : Still l c (foldc us (fun u c => c.wr u.1 b u.2.2 u.2.1) c) := by
    clear hb
    induction us generalizing c with
    | nil => exact Still.refl c
    | cons u us ih =>
      exact (still_wr c u.1 b _ _ (h u (by simp))).trans (ih _ (fun x hx => h x (by simp [hx])))
  have q := quiet_hw c b us
  exact ⟨q.now, q.datum, q.rateAcc, by rw [q.plumb], by rw [q.twin],
    fun k hk v => (same_hw c b us hb k (noisy_of_not_stirred hk) v).trans (hw.regs k hk v)⟩

theorem still_hw_page (b : Nat) (us : List (Fld × Nat × Nat)) (hb : b % 4096 = 0) (h9 : 0x9000 ≤ b) : Still l c (c.hw b us) :=
  still_hw c b us hb (fun _ _ => stirred_page h9)

theorem still_up (f : Fld) (b v i : Nat) (hb : b % 4096 = 0) (h : stirred l (fldKey f b i) = true) : Still l c (c.up f b v i) :=
  still_hw c b _ hb (by simpa using h)

theorem still_up_page (f : Fld) (b v i : Nat) (hb : b % 4096 = 0) (h9 : 0x9000 ≤ b) : Still l c (c.up f b v i) :=
  still_up c f b v i hb (stirred_page h9)

theorem still_send (o : Out) : Still l c (c.send o) := .of_quiet (quiet_send c o) (.of_eq (by simp))

theorem still_pmcEvent (b e n : Nat) (hb : b % 4096 = 0) : Still l c (c.pmcEvent b e n) :=
  .of_quiet (quiet_pmcEvent c b e n) (same_pmcEvent c b e n hb)

theorem still_seqInc (b : Nat) (hb : b % 4096 = 0) : Still l c (c.seqInc b) := .of_quiet (quiet_seqInc c b) (same_seqInc c b hb)

theorem still_pulse (b n : Nat) (hb : b % 4096 = 0) : Still l c (c.pulse b n) := .of_quiet (quiet_pulse c b n) (same_pulse c b n hb)

theorem still_level (b n : Nat) (on : Bool) (hb : b % 4096 = 0) : Still l c (c.level b n on) :=
  .of_quiet (quiet_level c b n on) (same_level c b n on hb)

theorem still_capCause (h : Nat → Nat → Nat → Bool) : Still l c (c.capCause h) :=
  .of_quiet (quiet_capCause c h) (.of_eq (capCause_regs c h))

theorem still_setBit_page (f : Fld) (b n : Nat) (on : Bool) (hb : b % 4096 = 0) (h9 : 0x9000 ≤ b) : Still l c (c.setBit f b n on) := by
  unfold Chip.setBit
  exact .ite (.refl c) (still_up_page c f b _ _ hb h9)

/-! Timers and the states of ports, stage ends, engines and services. -/

theorem still_arm (k t : Nat) : Still l c (c.arm k t) := .of_eq rfl rfl rfl rfl rfl rfl
theorem still_disarm (k : Nat) : Still l c (c.disarm k) := .of_eq rfl rfl rfl rfl rfl rfl
theorem still_setPort (p : Nat) (v : PortSt) : Still l c (c.setPort p v) := .of_eq rfl rfl rfl rfl rfl rfl
theorem still_modPort (p : Nat) (f : PortSt → PortSt) : Still l c (c.modPort p f) := .of_eq rfl rfl rfl rfl rfl rfl
theorem still_setStage (p : Nat) (v : StageEnd) : Still l c (c.setStage p v) := .of_eq rfl rfl rfl rfl rfl rfl
theorem still_modEng (e : Nat) (f : EngSt → EngSt) : Still l c (c.modEng e f) := .of_eq rfl rfl rfl rfl rfl rfl
theorem still_modSec (s : Nat) (f : SecSt → SecSt) : Still l c (c.modSec s f) := .of_eq rfl rfl rfl rfl rfl rfl
theorem still_modCap (n : Nat) (f : CapSt → CapSt) : Still l c (c.modCap n f) := .of_eq rfl rfl rfl rfl rfl rfl
theorem still_modCal (n : Nat) (f : CalSt → CalSt) : Still l c (c.modCal n f) := .of_eq rfl rfl rfl rfl rfl rfl
theorem still_modFab (f : FabSt → FabSt) : Still l c (c.modFab f) := .of_eq rfl rfl rfl rfl rfl rfl
theorem still_modFbk (f : FbkSt → FbkSt) : Still l c (c.modFbk f) := .of_eq rfl rfl rfl rfl rfl rfl
theorem still_modFwu (f : FwuSt → FwuSt) : Still l c (c.modFwu f) := .of_eq rfl rfl rfl rfl rfl rfl
theorem still_modFlash (f : FlashSt → FlashSt) : Still l c (c.modFlash f) := .of_eq rfl rfl rfl rfl rfl rfl

/-- Plumb notes that the main islands are fenced, or no longer. -/
theorem still_fenced (on : Bool) : Still l c (c.modPlumb (fun p => { p with fenced := on })) := ⟨rfl, rfl, rfl, rfl, rfl, fun _ _ _ => rfl⟩

/-- What the twin holds but its class-C results. -/
theorem still_modTwin (f : TwinSt → TwinSt) (h : ∀ t, (f t).classC = t.classC) : Still l c (c.modTwin f) :=
  .of_eq rfl rfl rfl rfl (h _) rfl

end

/-! Records (R446, R448). -/

section
variable {l : Bool} (c : Chip)

theorem still_enqueue (r : FbRec) : Still l c (c.enqueue r) := by
  have drop : ∀ (c : Chip) (r : FbRec), Still l c (c.countDrop r) := fun c r =>
    ((still_wr c R.FBK_DROPPED pgFBK _ _ (stirred_of_echoed (by decide))).trans (still_modFbk _ _)).trans (still_pulse _ pgFBK 1 (by decide))
  unfold Chip.enqueue
  refine .ite (.refl c) (.ite ?_ ?_)
  · exact ((still_modFbk c _).trans (still_up _ R.FBK_QUEUE pgFBK _ _ (by decide) (stirred_of_echoed (by decide)))).trans
      (still_level _ pgFBK 2 _ (by decide))
  · split
    · exact drop c r
    · exact (still_modFbk c _).trans (drop _ _)

theorem still_record (code source sev part : Nat) (payload : Bytes) (shelf : Bool) :
    Still l c (c.record code source sev part payload shelf) := by
  unfold Chip.record
  have free : Still l c c.free.2 := .of_eq rfl rfl rfl rfl rfl rfl
  exact .ite (.refl c) ((Still.ite free (.refl c)).trans (still_enqueue _ _))

/-! What follows a raise (R354, R426 to R429, R498, R500). -/

theorem still_reFlt : Still l c c.reFlt := by
  unfold Chip.reFlt
  exact .ite (.refl c) (still_up c R.FCU_FLT_OUT pgFCU _ _ (by decide) (stirred_of_echoed (by decide)))

theorem still_openRecovery : Still l c c.openRecovery :=
  (still_up_page c R.TWIN_RECOVERING pgTWIN 1 0 (by decide) (by decide)).trans (still_arm _ _ _)

theorem still_setRole (follow : Bool) : Still l c (c.setRole follow) := by
  unfold Chip.setRole
  exact .ite (.refl c) ((still_up_page c R.TWIN_ROLE pgTWIN _ 0 (by decide) (by decide)).trans (still_pulse _ pgTWIN 5 (by decide)))

theorem still_enterFenced (cause : Nat) : Still l c (c.enterFenced cause) := by
  unfold Chip.enterFenced
  refine .ite ((still_up_page c R.TWIN_FENCE_CAUSE pgTWIN _ 0 (by decide) (by decide)).trans (still_reFlt _)) ?_
  have state := (still_hw_page (l := l) c pgTWIN [(R.TWIN_STATE, 0, 4), (R.TWIN_FENCE_CAUSE, 0, cause)] (by decide) (by decide)).trans
    (still_setRole _ true)
  have notice := (state.trans (still_fenced _ true)).trans (still_send _ (.chain .fenced))
  have window := ((notice.trans (still_pulse _ pgTWIN 3 (by decide))).trans (still_openRecovery _)).trans (still_disarm _ (tmKey tmTakeover 0))
  exact (window.trans (still_modTwin _ (fun t => { t with takeover := false }) (fun _ => rfl))).trans (still_reFlt _)

theorem still_putHealth (us : List (Fld × Nat × Nat)) : Still l c (c.putHealth us) := by
  unfold Chip.putHealth
  exact .ite (.refl c) ((still_hw_page c pgTWIN us (by decide) (by decide)).trans (still_send _ _))

theorem still_reMaxSev : Still l c c.reMaxSev := by
  unfold Chip.reMaxSev
  refine Still.trans (.ite (.refl c) ?_) (still_putHealth _ _)
  exact still_up c R.FCU_MAX_SEV pgFCU _ _ (by decide) (stirred_of_echoed (by decide))

theorem pgCE_page (n : Nat) : pgCE n % 4096 = 0 ∧ 0x9000 ≤ pgCE n := by simp only [pgCE]; omega

theorem pgSP_page (n : Nat) : pgSP n % 4096 = 0 ∧ 0x9000 ≤ pgSP n := by simp only [pgSP]; omega

theorem still_quiescePages (p : Nat) (on : Bool) : Still l c (c.quiescePages p on) := by
  unfold Chip.quiescePages
  extract_lets page
  have hpage : ∀ b, b % 4096 = 0 ∧ 0x9000 ≤ b → ∀ c, Still l c (page b c) := fun b hb c =>
    have hw := still_wr_page (l := l) c R.PG_QUIESCE b (b2n on) 0 hb.2
    .ite (.ite (hw.trans (still_up_page _ R.PG_QUIESCED b 0 0 hb.1 hb.2)) hw) (.refl c)
  exact (Still.foldc (fun n _ => hpage (pgCE n) (pgCE_page n)) _).trans (Still.foldc (fun n _ => hpage (pgSP n) (pgSP_page n)) _)

theorem still_quiescePart (p : Nat) : Still l c (c.quiescePart p) := by
  unfold Chip.quiescePart
  exact .ite (.refl c) ((still_wr_page c R.PART_QUIESCE pgPART 1 p (by decide)).trans (still_quiescePages _ _ _))

theorem still_settleFail : Still l c c.settleFail := by
  unfold Chip.settleFail
  refine .ite ?_ (.refl c)
  exact ((((still_modFwu c _).trans (still_disarm _ _)).trans (still_arm _ _ _)).trans
    (still_up_page _ R.FWU_OP pgFWU 7 0 (by decide) (by decide))).trans (still_pulse _ pgFWU 2 (by decide))

theorem still_swapAbort (code : Nat) : Still l c (c.swapAbort code) := by
  unfold Chip.swapAbort
  refine .ite ?_ (.refl c)
  refine Still.trans (((still_modFwu c _).trans (still_modFlash _ _)).trans (still_hw_page _ pgFWU _ (by decide) (by decide))) (.ite ?_ (.refl _))
  refine Still.trans (Still.trans (Still.foldc (fun e _ c => .ite ?_ (.refl c)) _) (still_up_page _ R.FWU_OP pgFWU 0 0 (by decide) (by decide)))
    (still_pulse _ pgFWU 1 (by decide))
  exact still_up_page c R.CE_SWAP_BUSY (pgCE e) 0 0 (pgCE_page e).1 (pgCE_page e).2

theorem still_s3Sequence (src : Nat) : Still l c (c.s3Sequence src) := by
  unfold Chip.s3Sequence
  refine .ite (.refl c) (.ite (.refl c) ?_)
  have held : Still l c (c.modPlumb (fun p => { p with s3 := true, s3Reset := c.s3Resets src, fenced := true })) :=
    ⟨rfl, rfl, rfl, rfl, rfl, fun _ _ _ => rfl⟩
  have fence := held.trans (still_enterFenced _ 1)
  exact .ite (fence.trans (still_arm _ _ _)) fence
end

end Sys2Proof.Machine
end

section
/-! PROOFS. Raising a fault source (R424, R426): what it shows, and what it leaves standing. -/

namespace Sys2Proof.Machine

/-- What a raise does once its record is queued and FCU shows it as the last one: the counters, the outstanding sources, and the action of its
severity. -/
def Chip.raiseEcho (c : Chip) (src inst sev own : Nat) : Chip :=
  let c2 := c.bump R.FCU_CNT_RAISE pgFCU
  let c3 := if src = 0 then c2.bump R.FCU_CNT_WIRE pgFCU else c2
  let c4 := c3.wr R.FCU_OUTSTANDING pgFCU (c3.rd R.FCU_OUTSTANDING pgFCU (src / 32) ||| 2 ^ (src % 32)) (src / 32)
  let c5 := (c4.modPlumb (fun p => { p with
    outSev := mapMod p.outSev src 0 (fun v => max v sev)
    outBy := (src, inst, sev) :: p.outBy.filter (fun e => !(e.1 == src && e.2.1 == inst)) })).reMaxSev
  let c6 := if sev = 0 then c5 else c5.pulse pgFCU (sev - 1)
  let c7 := c6.capCause (fun t a _ => (t == 1 && a == src) || (t == 4 && decide (2 ≤ sev)))
  let c8 := if sev = 2 then c7.quiescePart own else c7
  let c9 := if 2 ≤ sev then c8.settleFail else c8
  let c10 := if src = 0x22 ∨ src = 0x23 ∨ src = 0x27 then c9.swapAbort 0xC else c9
  let c11 := if src = 0x26 ∧ inst < 192 then (c10.up R.SP_MODEL_LATE (pgSP inst) 1).arm (tmKey tmLate inst) dqMs else c10
  if sev = 3 then c11.s3Sequence src else c11

/-- The chip whose FCU shows a raise as the last one (R424). -/
def Chip.showRaise (c : Chip) (src inst sev : Nat) : Chip :=
  c.hw pgFCU [(R.FCU_LAST_SRC, 0, src), (R.FCU_LAST_INST, 0, inst), (R.FCU_LAST_SEV, 0, sev)]

theorem raise_of_none {src : Nat} (c : Chip) (inst : Nat) (payload : Bytes) (h : srcInfo src = none) : c.raise src inst payload = c := by
  simp only [Chip.raise, h]

theorem raise_unpowered (c : Chip) (src inst : Nat) (payload : Bytes) (h : (c.plumb.porst || c.plumb.stopped) = true) :
    c.raise src inst payload = c := by
  unfold Chip.raise
  split
  · rfl
  · exact if_pos h

/-- A raise on a chip with power: the record, FCU's registers of the last raise, and what follows. -/
theorem raise_powered {src : Nat} (c : Chip) (inst : Nat) (payload : Bytes) (hs : srcInfo src ≠ none)
    (hp : (c.plumb.porst || c.plumb.stopped) = false) :
    c.raise src inst payload = ((c.record src inst (c.srcSev src) (c.srcOwner src inst) payload).showRaise src inst (c.srcSev src)).raiseEcho
      src inst (c.srcSev src) (c.srcOwner src inst) := by
  unfold Chip.raise
  split
  · contradiction
  · rw [hp]
    rfl

theorem srcInfo_none {src : Nat} (h : 0x800 ≤ src) : srcInfo src = none := by
  unfold srcInfo
  iterate 18 rw [if_neg (by omega)]

section
variable {l : Bool} (c : Chip)

theorem still_raiseEcho (src inst sev own : Nat) (hs : src < 0x800) : Still l c (c.raiseEcho src inst sev own) := by
  unfold Chip.raiseEcho
  extract_lets c2 c3 c4 c5 c6 c7 c8 c9 c10 c11
  have h2 : Still l c c2 := still_wr c R.FCU_CNT_RAISE pgFCU _ _ (stirred_of_echoed (by decide))
  have h3 : Still l c c3 := .ite (h2.trans (still_wr c2 R.FCU_CNT_WIRE pgFCU _ _ (stirred_of_echoed (by decide)))) h2
  have hkey : echoed (fldKey R.FCU_OUTSTANDING pgFCU (src / 32)) = true := by
    have h : 0x4600 ≤ fldKey R.FCU_OUTSTANDING pgFCU (src / 32) / 32 ∧ fldKey R.FCU_OUTSTANDING pgFCU (src / 32) / 32 < 0x4700 := by
      simp only [fldKey, R.FCU_OUTSTANDING, pgFCU]
      omega
    simp [echoed, h]
  have h4 : Still l c c4 := h3.trans (still_wr _ _ _ _ _ (stirred_of_echoed hkey))
  have outstanding : Still l c4 (c4.modPlumb (fun p => { p with
      outSev := mapMod p.outSev src 0 (fun v => max v sev)
      outBy := (src, inst, sev) :: p.outBy.filter (fun e => !(e.1 == src && e.2.1 == inst)) })) :=
    ⟨rfl, rfl, rfl, rfl, rfl, fun _ _ _ => rfl⟩
  have h5 : Still l c c5 := (h4.trans outstanding).trans (still_reMaxSev _)
  have h6 : Still l c c6 := .ite h5 (h5.trans (still_pulse _ pgFCU _ (by decide)))
  have h7 : Still l c c7 := h6.trans (still_capCause _ _)
  have h8 : Still l c c8 := .ite (h7.trans (still_quiescePart _ _)) h7
  have h9 : Still l c c9 := .ite (h8.trans (still_settleFail _)) h8
  have h10 : Still l c c10 := .ite (h9.trans (still_swapAbort _ _)) h9
  have h11 : Still l c c11 :=
    .ite ((h10.trans (still_up_page _ R.SP_MODEL_LATE (pgSP inst) 1 0 (pgSP_page inst).1 (pgSP_page inst).2)).trans (still_arm _ _ _)) h10
  exact .ite (h11.trans (still_s3Sequence _ _)) h11

theorem still_showRaise (src inst sev : Nat) : Still true c (c.showRaise src inst sev) :=
  still_hw c pgFCU _ (by decide) (by
    simp only [List.forall_mem_cons]
    decide)

/-- A raise leaves standing all but the registers of the last raise and what `echoed` names. -/
theorem still_raise (src inst : Nat) (payload : Bytes) : Still true c (c.raise src inst payload) := by
  by_cases hs : srcInfo src = none
  · rw [raise_of_none c inst payload hs]
    exact .refl c
  · have hlt : src < 0x800 := by
      by_contra h
      exact hs (srcInfo_none (by omega))
    cases hp : c.plumb.porst || c.plumb.stopped with
    | true => rw [raise_unpowered c src inst payload hp]; exact .refl c
    | false =>
      rw [raise_powered c inst payload hs hp]
      exact ((still_record c src inst _ _ payload false).trans (still_showRaise _ src inst _)).trans (still_raiseEcho _ src inst _ _ hlt)

/-- After a raise on a chip with power FCU_LAST names its source and its item (R424). -/
theorem raise_last {src : Nat} (inst : Nat) (payload : Bytes) (hs : srcInfo src ≠ none)
    (hp : (c.plumb.porst || c.plumb.stopped) = false) :
    (c.raise src inst payload).rd R.FCU_LAST_SRC pgFCU = src % 256 ∧ (c.raise src inst payload).rd R.FCU_LAST_INST pgFCU = inst % 256 := by
  have hlt : src < 0x800 := by
    by_contra h
    exact hs (srcInfo_none (by omega))
  rw [raise_powered c inst payload hs hp]
  set d := c.record src inst (c.srcSev src) (c.srcOwner src inst) payload
  have echo := still_raiseEcho (l := false) (d.showRaise src inst (c.srcSev src)) src inst (c.srcSev src) (c.srcOwner src inst) hlt
  rw [echo.rd R.FCU_LAST_SRC pgFCU 0 (by decide), echo.rd R.FCU_LAST_INST pgFCU 0 (by decide), Chip.showRaise,
    rd_hw _ _ _ _ _ _ (by decide) (by decide), rd_hw _ _ _ _ _ _ (by decide) (by decide)]
  simp only [foldc, List.foldl_cons, List.foldl_nil]
  rw [rd_wr_ne _ _ _ _ _ _ _ _ (by decide), rd_wr_ne _ _ _ _ _ _ _ _ (by decide), rd_wr_same, rd_wr_ne _ _ _ _ _ _ _ _ (by decide),
    rd_wr_same]
  exact ⟨rfl, rfl⟩
end

end Sys2Proof.Machine
end

section
/-! PROOFS. A tick of an idle chip (R24, R86): what runs before the clocks advance leaves Datum's rate alone, and what runs after them leaves
the clocks alone. -/

namespace Sys2Proof.Machine

/-! Frames, requests and clears of the links. -/

section
variable {l : Bool} (c : Chip)

theorem still_seUpstream (p : Port) : Still l c (seUpstream c p) := by
  unfold seUpstream
  exact .ite (.refl c) (((still_send c _).trans (still_send _ _)).trans (still_setStage _ _ _))

theorem still_sendSe (p typ : Nat) (body : Bytes) (degraded : Bool) (epoch : Option Nat) : Still l c (c.sendSe p typ body degraded epoch) := by
  unfold Chip.sendSe
  exact .ite ((still_modPort c p _).trans (still_send _ _)) (.refl c)

theorem still_nextReq (p : Nat) : Still l c (c.nextReq p) := by
  unfold Chip.nextReq
  dsimp only
  split
  · exact .refl c
  · split
    · exact .refl c
    · exact (still_setPort c p _).trans (still_modPort _ p _)

theorem still_pushReq (p : Nat) (q : CfgReq) : Still l c (c.pushReq p q) := (still_modPort c p _).trans (still_nextReq _ p)

theorem still_sendClear (p : Nat) : Still l c (c.sendClear p) := by
  unfold Chip.sendClear
  exact .ite (still_pushReq c p _) (.refl c)

theorem still_emitReq (p : Nat) (q : CfgReq) : Still l c (c.emitReq p q) := by
  unfold Chip.emitReq
  split
  · exact still_sendSe c p _ _ _ _
  · extract_lets q1 c1
    have asked : Still l c c1 := (still_modPort c p _).trans (still_pmcEvent _ (pgSP p) 0x103 1 (pgSP_page p).1)
    exact .ite (asked.trans (still_sendSe _ p _ _ _ _)) (asked.trans (still_sendSe _ p _ _ _ _))

theorem still_fillSlot (p : Nat) : Still l c (c.fillSlot p) := by
  unfold Chip.fillSlot
  refine .ite (.refl c) ?_
  split
  · exact .ite (still_emitReq c p _) (still_sendSe c p _ _ _ _)
  · exact still_sendSe c p _ _ _ _

theorem still_crcBurst (p : Nat) : Still l c (c.crcBurst p) := (still_modPort c p _).trans (still_level _ (pgSP p) 4 _ (pgSP_page p).1)

theorem still_portTick (p : Nat) : Still l c (c.portTick p) := by
  unfold Chip.portTick
  extract_lets c0 c1 t c2
  have slot : Still l c c2 := ((Still.ite (still_sendClear c p) (.refl c)).trans (still_fillSlot c0 p)).trans (still_setPort c1 p _)
  exact .ite slot (slot.trans (still_crcBurst _ p))

theorem still_stageSlots : Still l c c.stageSlots := .foldc (fun _ _ c => still_seUpstream c _) c

theorem still_linkTicks : Still l c c.linkTicks := .foldc (fun p _ c => still_portTick c p) c

/-! Residues, windows and sections. -/

theorem still_residueTick : Still true c c.residueTick := by
  refine .foldc (fun e _ c => ?_) c
  unfold Chip.residueRaise
  exact .ite ((still_modEng c e.1 _).trans (still_raise _ 0x22 e.1 [])) (.refl c)

theorem still_windowSample (p ch t : Nat) : Still l c (c.windowSample p ch t) := by
  unfold Chip.windowSample
  dsimp only
  split
  · exact .ite (still_modCal c _ _) (.refl c)
  · exact .ite (still_modCal c _ _) (still_modCal c _ _)

theorem still_windowTick : Still l c c.windowTick := by
  unfold Chip.windowTick
  exact .ite (.refl c) (.foldc (fun k _ c => .ite (.refl c) (still_windowSample c _ _ _)) c)

theorem still_proposeAt (x : Nat) (item : AgreedItem) : Still l c (c.proposeAt x item) := by
  unfold Chip.proposeAt
  dsimp only
  refine .ite (still_modTwin c _ ?_) (.ite ((still_modTwin c _ ?_).trans (still_send _ _)) (.refl c))
  all_goals exact fun _ => rfl

theorem still_ewSet (g : Nat) (on : Bool) : Still l c (c.ewSet g on) := by
  unfold Chip.ewSet
  refine .ite (.refl c) ?_
  have shown := (still_setBit_page (l := l) c R.HOLD_EW_LIVE pgHOLD g on (by decide) (by decide)).trans (still_send _ (.pin (ewPin g) (!on)))
  exact shown.trans (.foldc (fun p _ c => .ite (still_modCap c _ _) (.refl c)) _)

theorem still_ewGroupJudge (g : Nat) : Still l c (c.ewGroupJudge g) := by
  unfold Chip.ewGroupJudge
  extract_lets now was live ended ms c1
  have caused : Still l c c1 := by
    refine Still.trans (d := if now = was then c else { c with ewBy := mapSet c.ewBy g now }) ?_ ?_
    · exact .ite (.refl c) (.of_eq rfl rfl rfl rfl rfl rfl)
    · exact .ite (.refl _) (still_arm _ _ _)
  exact .ite (caused.trans (still_ewSet c1 g true)) (.ite (caused.trans (still_ewSet c1 g false)) caused)

theorem still_huSet (s st : Nat) : Still l c (c.huSet s st) := by
  unfold Chip.huSet
  refine .ite (.refl c) ?_
  extract_lets c1 c2 c3 c4 c5 c6
  have h1 : Still l c c1 := (still_up_page c R.HOLD_STATE pgHOLD st s (by decide) (by decide)).trans
    (still_setBit_page _ R.HOLD_OFF_SOURCE pgHOLD s _ (by decide) (by decide))
  have transfer := ((((h1.trans (still_up_page _ R.HOLD_REPLUGS pgHOLD 0 s (by decide) (by decide))).trans
    (still_hw_page _ pgHOLD [(R.HOLD_SHAVING, s, 0), (R.HOLD_RECHARGING, s, 0)] (by decide) (by decide))).trans
    (still_bump_page _ R.HOLD_CNT_TRANSFER pgHOLD s 1 (by decide))).trans (still_pulse _ pgHOLD s (by decide))).trans
    (still_capCause _ (fun t _ g => t == 3 && g == s))
  have back := (h1.trans (still_bump_page _ R.HOLD_CNT_RETURN pgHOLD s 1 (by decide))).trans (still_pulse _ pgHOLD (8 + s) (by decide))
  have h2 : Still l c c2 := .ite transfer (.ite back h1)
  have h3 : Still l c c3 := .ite (h2.trans (still_modSec _ _ _)) h2
  have h4 : Still l c c4 := .ite (h3.trans (still_arm _ _ _)) (h3.trans (still_disarm _ _))
  have h5 : Still l c c5 := .ite (h4.trans (still_arm _ _ _)) (h4.trans (still_disarm _ _))
  have h6 : Still l c c6 := .ite (h5.trans (still_modSec _ _ _)) h5
  exact (h6.trans (.foldc (fun g _ c => still_ewGroupJudge c g) c6)).trans (still_proposeAt _ 0 .crown)

theorem still_absence (s : Nat) : Still l c (c.absence s) := by
  unfold Chip.absence
  exact .ite (still_huSet c s 3) (.refl c)

theorem still_zTick (s : Nat) : Still l c (c.zTick s) := by
  unfold Chip.zTick
  exact .ite (still_modSec c s _) (.refl c)

theorem still_ditherWatch (s : Nat) : Still l c (c.ditherWatch s) := by
  unfold Chip.ditherWatch
  extract_lets ms c1
  have h1 : Still l c c1 := .ite (.refl c) (still_up_page c R.BMK_MEMBERS pgBMK _ s (by decide) (by decide))
  have suspend := ((h1.trans (still_hw_page _ pgBMK [(R.BMK_DITHERING, s, 0), (R.BMK_SUSPENDED, s, 1)] (by decide) (by decide))).trans
    (still_bump_page _ R.BMK_CNT pgBMK 2 1 (by decide))).trans (still_modSec _ s (fun q => { q with dither := [] }))
  have drop (c : Chip) : Still l c (c.dropWindow s) :=
    .ite ((still_disarm c _).trans (still_bump_page _ R.BMK_CNT pgBMK 1 1 (by decide))) (.refl c)
  have stop := (h1.trans (still_up_page _ R.BMK_DITHERING pgBMK 0 s (by decide) (by decide))).trans
    (still_modSec _ s (fun q => { q with dither := [] }))
  have begin' : Still l c1 (c1.chipsBegin s ms) := by
    unfold Chip.chipsBegin
    exact still_modSec c1 s _
  exact .ite h1 (.ite (suspend.trans (drop _)) (.ite stop (.ite h1 (h1.trans begin'))))

end

/-- What runs before the clocks advance. -/
def Chip.beforeClocks (c : Chip) : Chip :=
  foldc (upTo 8) (fun s c => ((c.absence s).zTick s).ditherWatch s) ((c.stageSlots).linkTicks).residueTick.windowTick

theorem still_beforeClocks (c : Chip) : Still true c c.beforeClocks :=
  ((((still_stageSlots c).trans (still_linkTicks _)).trans (still_residueTick _)).trans (still_windowTick _)).trans
    (.foldc (fun s _ c => ((still_absence c s).trans (still_zTick _ s)).trans (still_ditherWatch _ s)) _)

/-! The end of one-tick bits. -/

theorem quiet_endPulses (c : Chip) : Quiet c c.endPulses :=
  (Quiet.foldc c.pulses _ (fun _ _ => quiet_wr _ _ _ _ _) c).trans ⟨_, _, _, _, _, _, rfl⟩

/-- A cleared event bit makes no bit of a register 1: a field that reads 0 reads 0 after it, whatever page the bit was of. -/
theorem rd_clearedBit {c : Chip} {f : Fld} {b : Nat} (p : Nat × Nat) (hf : f.rst = 0) (h : c.rd f b = 0) :
    (c.wr R.EVT_LIVE p.1 (setBitN (c.rd R.EVT_LIVE p.1) p.2 false)).rd f b = 0 := by
  by_cases hk : fldKey f b 0 = fldKey R.EVT_LIVE p.1 0
  · have hlive : c.rd R.EVT_LIVE p.1 = 0 := by
      simp only [Chip.rd, hk, hf] at h
      exact h
    rw [Chip.rd, hk, hf, hlive]
    simp [setBitN]
  · rw [rd_wr_ne _ _ _ _ _ _ _ _ hk, h]

theorem rd_endPulses_zero {c : Chip} {f : Fld} {b : Nat} (hf : f.rst = 0) (h : c.rd f b = 0) : c.endPulses.rd f b = 0 := by
  have ended : ∀ ps : List (Nat × Nat), ∀ c : Chip, c.rd f b = 0 →
      (foldc ps (fun p c => c.wr R.EVT_LIVE p.1 (setBitN (c.rd R.EVT_LIVE p.1) p.2 false)) c).rd f b = 0 := by
    intro ps
    induction ps with
    | nil => exact fun _ h => h
    | cons p ps ih => exact fun c h => ih _ (rd_clearedBit p hf h)
  exact ended c.pulses c h

end Sys2Proof.Machine
end

section
/-! PROOFS. What a tick runs after its clocks (R17, R337, R379, R387, R508), and a step of an idle chip (R24, R86). -/

namespace Sys2Proof.Machine

/-! Counters, status and Chain. -/

section
variable {l : Bool} (c : Chip)

theorem pmcPages_aligned : ∀ b ∈ pmcPages, b % 4096 = 0 := by decide +kernel

theorem still_pmcTick : Still l c c.pmcTick :=
  .foldc (fun b hb c => (still_pmcEvent c b 1 1 (pmcPages_aligned b hb)).trans (still_pmcEvent _ b 2 _ (pmcPages_aligned b hb))) c

theorem pageBase_aligned (k : PageKind) (n : Nat) : pageBase k n % 4096 = 0 := by
  cases k <;> simp only [pageBase] <;> omega

theorem echoed_quiesced {b : Nat} (hb : b % 4096 = 0) : echoed (fldKey R.PG_QUIESCED b 0) = true := by
  have h : fldKey R.PG_QUIESCED b 0 / 32 % 4096 = 0x10 := by
    simp only [fldKey, R.PG_QUIESCED]
    omega
  simp [echoed, h]

theorem still_reQuiesced (k : PageKind) (n : Nat) : Still l c (c.reQuiesced k n) := by
  unfold Chip.reQuiesced
  have hb := pageBase_aligned k n
  exact .ite (.refl c) (still_up c R.PG_QUIESCED _ _ 0 hb (stirred_of_echoed (echoed_quiesced hb)))

theorem still_quiesceTick : Still l c c.quiesceTick := .foldc (fun e _ c => still_reQuiesced c e.1 e.2) c

theorem still_negShow : Still l c c.negShow := by
  unfold Chip.negShow
  exact .ite (.refl c) (still_hw_page c pgNEG _ (by decide) (by decide))

theorem still_chainTick (u : Nat) : Still l c (c.chainTick u) := by
  unfold Chip.chainTick
  extract_lets st ph c1 c2
  have h1 : Still l c c1 := .ite (still_send c _) (.ite (still_send c _) (still_send c _))
  have h2 : Still l c c2 := .ite (h1.trans (still_send c1 _)) h1
  exact .ite (h2.trans (still_send c2 _)) h2

theorem still_enterJoining (phase limitMs : Nat) : Still l c (c.enterJoining phase limitMs) := by
  unfold Chip.enterJoining
  extract_lets c1 c2 c3
  have h1 : Still l c c1 := (still_hw_page c pgTWIN _ (by decide) (by decide)).trans (still_setRole _ true)
  have h2 : Still l c1 c2 := still_modTwin c1 _ (fun _ => rfl)
  have h3 : Still l c c3 := ((h1.trans h2).trans (still_arm _ _ _)).trans (still_disarm _ _)
  exact .ite (h3.trans (still_send c3 _)) h3

theorem still_fencedRejoin : Still l c c.fencedRejoin := by
  unfold Chip.fencedRejoin
  exact .ite (((still_fenced c false).trans (still_enterJoining _ 0 5)).trans (still_reFlt _)) (.refl c)

/-! The fabric. -/

theorem still_fabSource : Still l c c.fabSource := by
  unfold Chip.fabSource Chip.setSource
  exact .ite (.ite (.refl c) (still_up c R.DATUM_SOURCE pgDATUM _ 0 (by decide) (stirred_of_echoed (by decide)))) (.refl c)

theorem still_ptpSlaveLoss (p : Plane) : Still l c (ptpSlaveLoss c p) := by
  unfold ptpSlaveLoss
  extract_lets c1 c2
  have h1 : Still l c c1 := still_modFab c _
  have unsynced := Still.ite (p := c1.on R.FAB_SYNCED pgFAB = true)
    (still_up_page (l := l) c1 R.FAB_SYNCED pgFAB 0 0 (by decide) (by decide)) (.refl c1)
  have h2 : Still l c c2 := .ite h1 (((h1.trans unsynced).trans (still_modFab _ _)).trans (still_disarm _ _))
  exact h2.trans (still_fabSource c2)

theorem still_markGone (p : Plane) : Still l c (c.markGone p) := by
  unfold Chip.markGone
  exact still_modFab c _

theorem still_planeJudge : Still true c c.planeJudge := by
  unfold Chip.planeJudge
  extract_lets one c1 alone had c2
  have plane : ∀ p c, Still true c (one p c) := by
    intro p c0
    refine .ite (.refl c0) ?_
    extract_lets c st c1 down had c2 c3
    have h0 : Still true c0 c := still_markGone c0 p
    have h1 : Still true c0 c1 := h0.trans (.ite (.refl c) (still_up_page c (planeFld p) pgFAB st 0 (by decide) (by decide)))
    have h2 : Still true c0 c2 := h1.trans (still_level c1 pgFAB _ down (by decide))
    have h3 : Still true c0 c3 := .ite h2 (h2.trans (still_ptpSlaveLoss c2 p))
    exact .ite (h3.trans (still_raise c3 0xA2 _ [])) h3
  have h1 : Still true c c1 := (plane .a c).trans (plane .b _)
  have shown := Still.ite (p := (alone == had) = true) (.refl c1)
    (still_up_page (l := true) c1 R.FAB_ALONE pgFAB (b2n alone) 0 (by decide) (by decide))
  have h2 : Still true c c2 := (h1.trans shown).trans (still_level _ pgFAB 2 alone (by decide))
  exact .ite (h2.trans (still_raise c2 0xA1 0 [])) h2

theorem still_reRoute : Still l c c.reRoute := by
  unfold Chip.reRoute
  extract_lets ss n beyond far c1
  have h1 : Still l c c1 := .ite (.refl c) (still_up_page c R.FAB_NODES pgFAB n 0 (by decide) (by decide))
  exact .ite h1 (h1.trans (still_up_page c1 R.FAB_DIAMETER pgFAB _ 0 (by decide) (by decide)))

theorem still_fpShow (fec : Nat → Bool) : Still l c (c.fpShow fec) := by
  unfold Chip.fpShow
  exact .ite (.refl c) (still_up_page c R.FAB_PORT_STATUS pgFAB _ 0 (by decide) (by decide))

theorem still_fabJudge : Still true c c.fabJudge :=
  (((still_fpShow c c.fpFec).trans (still_planeJudge _)).trans (still_reRoute _)).trans (still_arm _ (tmKey tmLsa 0) 0)

theorem still_fabTx (h : SurveyHdr) (payload : Bytes) : Still l c (c.fabTx h payload) := by
  unfold Chip.fabTx
  refine .ite (.refl c) (.ite (still_bump_page c R.FAB_CNT pgFAB 4 1 (by decide)) ?_)
  exact ((still_modFab c _).trans (still_send _ _)).trans (.foldc (fun k _ c => still_send c _) _)

theorem still_wakeRequest : Still true c c.wakeRequest := by
  unfold Chip.wakeRequest
  split
  · exact .refl c
  · next p _ =>
    extract_lets tx at0 c1 c2 c3
    have told : ∀ c, Still true c (tx c) := fun c => still_fabTx c _ _
    have cleared : Still true c c.quietClear := (still_modFab c _).trans (still_disarm _ _)
    have h1 : Still true c c1 := cleared.trans (told _)
    have back := (((cleared.trans (still_disarm _ (tmKey tmSettleWin 0))).trans (still_fabJudge _)).trans (told _)).trans
      (still_pulse _ pgFAB 6 (by decide))
    have up : Still true (c.disarm (tmKey tmSettleWin 0)) c2 := .foldc (fun k _ c => .ite (still_modFab c _) (.refl c)) _
    have woken : Still true c c3 := ((still_disarm c _).trans up).trans (still_modFab c2 _)
    exact .ite (.refl c) (.ite (.ite (h1.trans (still_bump_page c1 R.FAB_CNT pgFAB 8 1 (by decide))) h1)
      (.ite back (((woken.trans (told _)).trans (still_fabJudge _)).trans (still_pulse _ pgFAB 6 (by decide)))))

theorem still_wakeIfLost (was : Plane → Nat) : Still true c (c.wakeIfLost was) := by
  unfold Chip.wakeIfLost
  split
  · exact .refl c
  · exact .ite (still_wakeRequest c) (.refl c)

theorem still_gmJudge : Still l c c.gmJudge := by
  unfold Chip.gmJudge
  exact .ite (.refl c) ((still_up_page c R.FAB_GM pgFAB _ 0 (by decide) (by decide)).trans (still_fabSource _))

theorem still_fabTick : Still true c c.fabTick := by
  unfold Chip.fabTick
  exact (Still.ite ((still_fabJudge c).trans (still_wakeIfLost _ _)) (.refl c)).trans (still_gmJudge _)

end

/-! A reset that ends its wait keeps both clocks (R90). -/

/-- Model clock and Datum stand. -/
def SameTime (c d : Chip) : Prop := d.now = c.now ∧ d.datum = c.datum

theorem SameTime.trans {c d e : Chip} (h : SameTime c d) (k : SameTime d e) : SameTime c e := ⟨k.1.trans h.1, k.2.trans h.2⟩

theorem Quiet.sameTime {c d : Chip} (h : Quiet c d) : SameTime c d := ⟨h.now, h.datum⟩

theorem Still.sameTime {l : Bool} {c d : Chip} (h : Still l c d) : SameTime c d := ⟨h.now, h.datum⟩

theorem sameTime_loadBatt (c : Chip) : SameTime c c.loadBatt := by
  unfold Chip.loadBatt
  generalize c.mram.battery = es
  induction es generalizing c with
  | nil => exact ⟨rfl, rfl⟩
  | cons e es ih => exact SameTime.trans ((show SameTime c (c.setStr e.1 e.2.1) from ⟨rfl, rfl⟩).trans (quiet_hw _ _ _).sameTime) (ih _)

theorem sameTime_mainReset (c : Chip) : SameTime c c.mainReset := by
  unfold Chip.mainReset
  extract_lets _ pl tms c1 c2 c3 c4 c5 c6
  have h1 : SameTime c c1 := ⟨rfl, rfl⟩
  have h2 : SameTime c c2 := (h1.trans (quiet_wr _ _ _ _ _).sameTime).trans (Quiet.foldc _ _ (fun _ _ => quiet_wr _ _ _ _ _) _).sameTime
  have h3 : SameTime c c3 := h2.trans (Quiet.foldc _ _ (fun _ _ => quiet_wr _ _ _ _ _) _).sameTime
  have h4 : SameTime c c4 := by
    show SameTime c (if c.plumb.hib then c3 else c3.loadBatt)
    split
    · exact h3
    · exact h3.trans (sameTime_loadBatt c3)
  have h6 : SameTime c c6 := h4.trans ((quiet_wr _ _ _ _ _).trans (quiet_wr _ _ _ _ _)).sameTime
  split
  · exact h6.trans (quiet_up _ _ _ _ _).sameTime
  · exact h6

theorem sameTime_plumbReset (c : Chip) (cause : Fld) (pin : Bool) : SameTime c (c.plumbReset cause pin) := by
  unfold Chip.plumbReset
  extract_lets p stayUp lockout m0 m1 m2 m3 m4 m5 m6 q tms k fb c1
  have h1 : SameTime c c1 := ⟨rfl, rfl⟩
  exact ((h1.trans (sameTime_mainReset c1)).trans (quiet_wr _ _ _ _ _).sameTime).trans (still_reFlt (l := true) _).sameTime

theorem sameTime_resetTick (c : Chip) : SameTime c c.resetTick := by
  unfold Chip.resetTick
  split
  · exact ⟨rfl, rfl⟩
  · split
    · exact ⟨rfl, rfl⟩
    · exact sameTime_plumbReset c _ _

/-! The clocks. -/

/-- The model clock advances by a tick. -/
def Chip.clockTick (c : Chip) : Chip := { c with now := c.now + dqTick }

/-- The clocks advance: the model clock by a tick, Datum by what its rate makes of one. -/
def Chip.advance (c : Chip) : Chip := c.clockTick.endPulses.runDatum

/-- What runs after the clocks have advanced. -/
def Chip.afterClocks (c : Chip) (u : Nat) : Chip := (((((c.runStages).pmcTick).quiesceTick.negShow).chainTick u).fencedRejoin.fabTick).resetTick

theorem oneTick_eq (c : Chip) : c.oneTick = c.beforeClocks.advance.afterClocks c.tick := rfl

theorem sameTime_afterClocks (c : Chip) (u : Nat) : SameTime c (c.afterClocks u) := by
  have stages : Still true c c.runStages := .of_eq rfl rfl rfl rfl rfl rfl
  have shown := ((stages.trans (still_pmcTick _)).trans (still_quiesceTick _)).trans (still_negShow _)
  have sent := ((shown.trans (still_chainTick _ u)).trans (still_fencedRejoin _)).trans (still_fabTick _)
  exact sent.sameTime.trans (sameTime_resetTick _)

theorem runDatum_now (c : Chip) : c.runDatum.now = c.now := by
  unfold Chip.runDatum
  split <;> rfl

theorem advance_now (c : Chip) : c.advance.now = c.now + 400 := (runDatum_now _).trans (quiet_endPulses c.clockTick).now

/-- Datum stands while the chip has no power. -/
theorem advance_unpowered {c : Chip} (h : c.plumb.porst = true) : c.advance.datum = c.datum := by
  have pulses := quiet_endPulses c.clockTick
  have hp : c.clockTick.endPulses.plumb.porst = true := by rw [pulses.plumb]; exact h
  rw [Chip.advance, Chip.runDatum, if_pos (by simp [hp]), pulses.datum]
  rfl

/-- At rate 0 with nothing carried over Datum advances by a tick. -/
theorem advance_nominal {c : Chip} (hp : c.plumb.porst = false) (hs : c.plumb.stopped = false) (hr : c.rd R.DATUM_RATE pgDATUM = 0)
    (ha : c.rateAcc = 0) : c.advance.datum = c.datum + 400 := by
  have pulses := quiet_endPulses c.clockTick
  have hp' : c.clockTick.endPulses.plumb.porst = false := by rw [pulses.plumb]; exact hp
  have hs' : c.clockTick.endPulses.plumb.stopped = false := by rw [pulses.plumb]; exact hs
  have ha' : c.clockTick.endPulses.rateAcc = 0 := by rw [pulses.rateAcc]; exact ha
  have hr' : c.clockTick.endPulses.rdS R.DATUM_RATE pgDATUM = 0 := by
    rw [Chip.rdS, rd_endPulses_zero rfl (c := c.clockTick) hr]
    simp [sgn]
  have hd : c.clockTick.endPulses.datum = c.datum := pulses.datum
  rw [Chip.advance, Chip.runDatum, if_neg (by simp [hp', hs'])]
  simp only [ha', hr', hd, dqTick]
  omega

/-- Settles O38: before the clocks advance nothing changes them, Plumb's power or Datum's rate, and after it nothing changes the clocks. -/
theorem idleStepPassesOneTick : Obligations.IdleStepPassesOneTick := by
  intro s hq
  have hstep : step s = .next (s.onChip Chip.oneTick) := by
    unfold step
    rw [hq]
  have before := still_beforeClocks s.chip
  obtain ⟨hnow, hdatum⟩ := sameTime_afterClocks s.chip.beforeClocks.advance s.chip.tick
  rw [← oneTick_eq] at hnow hdatum
  refine ⟨_, hstep, ?_, State.onChip_mem s _, State.onChip_cap s _, (State.onChip_pending s _).trans hq, fun hp => ?_, fun hp hs hr ha => ?_⟩
  · rw [State.onChip_chip, hnow, advance_now, before.now]
  · rw [State.onChip_chip, hdatum, advance_unpowered (before.porst.trans hp), before.datum]
  · have rate : s.chip.beforeClocks.rd R.DATUM_RATE pgDATUM = 0 := (before.rd _ _ _ (by decide)).trans hr
    rw [State.onChip_chip, hdatum, advance_nominal (before.porst.trans hp) (before.stopped.trans hs) rate (before.rateAcc.trans ha), before.datum]

end Sys2Proof.Machine
end

section
/-! PROOFS. Clocks: the PLLs of the islands, REFCLK and the crystal (R23, R83, R84, R85). -/

namespace Sys2Proof.Machine

/-! PLLs. -/

/-- A PLL that locks while its attempt runs: its island is locked and the attempt has ended (R83). -/
theorem pllLock_acts (s : State) (i : Island) (ha : s.chip.armed (tmKey tmPll i.val) = true) (hh : s.chip.plumb.halted = false) :
    ∃ t, exec (.pllLock i) s = .next t ∧ i.val ∈ t.chip.plumb.locked ∧ t.chip.armed (tmKey tmPll i.val) = false := by
  refine ⟨_, rfl, ?_⟩
  have stopped : (s.chip.disarm (tmKey tmPll i.val)).armed (tmKey tmPll i.val) = false := by simp [Chip.armed]
  rw [State.onChip_chip, pllLock, if_pos (by simp [ha, hh])]
  dsimp only
  split <;> simp [stopped]

/-- An attempt that fails but is not the fourth holds the PLL in reset for 10 us (R83). -/
theorem pllLockTimeout_again {c : Chip} {i : Nat} (hd : c.due (tmKey tmPll i) = true) (hh : c.plumb.halted = false)
    (hn : mapGet c.plumb.tries i 0 < 3) :
    pllLockTimeout c i = (((c.disarm (tmKey tmPll i)).modPlumb
      (fun p => { p with tries := mapSet p.tries i (mapGet c.plumb.tries i 0 + 1) })).modPlumb
      (fun p => { p with pllReset := i :: p.pllReset })).arm (tmKey tmPllRst i) (10 * dqUs) := by
  have h4 : mapGet c.plumb.tries i 0 + 1 < 4 := by omega
  simp [pllLockTimeout, hd, hh, h4]

theorem pllLockTimeout_retries (s : State) (i : Island) (hd : s.chip.due (tmKey tmPll i.val) = true) (hh : s.chip.plumb.halted = false)
    (hn : mapGet s.chip.plumb.tries i.val 0 < 3) :
    ∃ t, exec (.pllLockTimeout i) s = .next t ∧ i.val ∈ t.chip.plumb.pllReset
      ∧ mapGet t.chip.plumb.tries i.val 0 = mapGet s.chip.plumb.tries i.val 0 + 1
      ∧ mapGet t.chip.timers (tmKey tmPllRst i.val) 0 = s.chip.now + 10 * dqUs + 1 := by
  refine ⟨_, rfl, ?_⟩
  rw [State.onChip_chip, pllLockTimeout_again hd hh hn]
  simp

/-- A start-up that halts for an island: RESULT and FAIL_ISLAND name it, and a source is raised (R83, R85). -/
def Chip.haltFor (c : Chip) (island src inst : Nat) : Chip :=
  (((c.modPlumb (fun p => { p with halted := true })).hw pgSYS [(R.SYS_RESULT, 0, 1), (R.SYS_FAIL_ISLAND, 0, island)]).raise src inst).reFlt

/-- The raise and FLT_OUT leave what the halt shows. -/
theorem haltFor_shows (c : Chip) {island : Nat} (src inst : Nat) (hi : island < 64) :
    (c.haltFor island src inst).plumb.halted = true ∧ (c.haltFor island src inst).plumb.refclk = c.plumb.refclk
      ∧ (c.haltFor island src inst).rd R.SYS_RESULT pgSYS = 1 ∧ (c.haltFor island src inst).rd R.SYS_FAIL_ISLAND pgSYS = island := by
  unfold Chip.haltFor
  set d := (c.modPlumb (fun p => { p with halted := true })).hw pgSYS [(R.SYS_RESULT, 0, 1), (R.SYS_FAIL_ISLAND, 0, island)]
  have hd : d.plumb = { c.plumb with halted := true } := (quiet_hw _ _ _).plumb
  have after : Still true d (d.raise src inst).reFlt := (still_raise d src inst []).trans (still_reFlt _)
  have hres : d.rd R.SYS_RESULT pgSYS = 1 := by
    rw [rd_hw _ _ _ _ _ _ (by decide) (by decide)]
    simp only [foldc, List.foldl_cons, List.foldl_nil]
    rw [rd_wr_ne _ _ _ _ _ _ _ _ (by decide), rd_wr_same]
    rfl
  have hisl : d.rd R.SYS_FAIL_ISLAND pgSYS = island := by
    rw [rd_hw _ _ _ _ _ _ (by decide) (by decide)]
    simp only [foldc, List.foldl_cons, List.foldl_nil]
    rw [rd_wr_same]
    exact Nat.mod_eq_of_lt hi
  exact ⟨by rw [after.halted, hd], by rw [after.refclk, hd], by rw [after.rd _ _ _ (by decide), hres], by rw [after.rd _ _ _ (by decide), hisl]⟩

/-- The fourth failed attempt halts start-up (R83). -/
theorem pllLockTimeout_halts (s : State) (i : Island) (hd : s.chip.due (tmKey tmPll i.val) = true) (hh : s.chip.plumb.halted = false)
    (hn : 3 ≤ mapGet s.chip.plumb.tries i.val 0) :
    ∃ t, exec (.pllLockTimeout i) s = .next t ∧ t.chip.plumb.halted = true ∧ t.chip.rd R.SYS_RESULT pgSYS = 1
      ∧ t.chip.rd R.SYS_FAIL_ISLAND pgSYS = i.val := by
  have h4 : ¬ mapGet s.chip.plumb.tries i.val 0 + 1 < 4 := by omega
  have hstep : pllLockTimeout s.chip i.val = ((s.chip.disarm (tmKey tmPll i.val)).modPlumb
      (fun p => { p with tries := mapSet p.tries i.val (mapGet s.chip.plumb.tries i.val 0 + 1) })).haltFor i.val 5 i.val := by
    simp only [pllLockTimeout, hd, hh, h4]
    rfl
  refine ⟨_, rfl, ?_⟩
  rw [State.onChip_chip, hstep]
  obtain ⟨hhalt, -, hres, hisl⟩ := haltFor_shows _ 5 i.val (lt_trans i.isLt (by decide))
  exact ⟨hhalt, hres, hisl⟩

/-- After its 10 us in reset the PLL has 200 us to lock (R83). -/
theorem pllRetry_acts (s : State) (i : Island) (hd : s.chip.due (tmKey tmPllRst i.val) = true) (hh : s.chip.plumb.halted = false) :
    ∃ t, exec (.pllRetry i) s = .next t ∧ i.val ∉ t.chip.plumb.pllReset
      ∧ mapGet t.chip.timers (tmKey tmPll i.val) 0 = s.chip.now + 200 * dqUs + 1 := by
  refine ⟨_, rfl, ?_⟩
  simp [pllRetry, hd, hh]

/-- An island that loses its lock after start step 3 raises ISLAND_UNLOCK for it (R23). -/
theorem islandUnlock_acts (s : State) (i : Island) (hp : s.chip.plumb.porst = false) (hs : s.chip.plumb.stopped = false)
    (h3 : 3 ≤ s.chip.rd R.SYS_STEP pgSYS) (hl : s.chip.plumb.locked.contains i.val = true) :
    ∃ t, exec (.islandUnlock i) s = .next t ∧ i.val ∉ t.chip.plumb.locked ∧ t.chip.rd R.FCU_LAST_SRC pgFCU = 5
      ∧ t.chip.rd R.FCU_LAST_INST pgFCU = i.val := by
  refine ⟨_, rfl, ?_⟩
  rw [State.onChip_chip, islandUnlock, if_pos ⟨h3, hl⟩]
  set d := s.chip.modPlumb (fun p => { p with locked := p.locked.filter (· != i.val) })
  obtain ⟨hsrc, hinst⟩ := raise_last d i.val [] (src := 5) (by decide) (by simp [d, hp, hs])
  refine ⟨?_, hsrc, hinst.trans (Nat.mod_eq_of_lt (lt_trans i.isLt (by decide)))⟩
  rw [(still_raise d 5 i.val []).locked]
  simp [d]

/-! REFCLK and the crystal. -/

section
variable {s : State} (hp : s.chip.plumb.porst = false) (hs : s.chip.plumb.stopped = false) (hr : s.chip.plumb.refclk = true)
include hp hs hr

/-- The loss of REFCLK is noted, and start-up or FCU follows (R85). -/
theorem exec_refclkLoss :
    exec .refclkLoss s = .next (s.onChip (fun c =>
      if 3 ≤ c.rd R.SYS_STEP pgSYS then (c.modPlumb (fun p => { p with refclk := false })).raise 4 0
      else if c.rd R.SYS_STEP pgSYS = 2 ∧ !c.plumb.halted then (c.modPlumb (fun p => { p with refclk := false })).startPlls
      else c.modPlumb (fun p => { p with refclk := false }))) := by
  show Host.Outcome.next (s.onChip refclkLoss) = _
  simp only [State.onChip, refclkLoss, hp, hs, hr]
  rfl

/-- After start step 3 the loss of REFCLK raises REFCLK_LOSS (R85). -/
theorem refclkLoss_raises (h3 : 3 ≤ s.chip.rd R.SYS_STEP pgSYS) :
    ∃ t, exec .refclkLoss s = .next t ∧ t.chip.plumb.refclk = false ∧ t.chip.rd R.FCU_LAST_SRC pgFCU = 4 := by
  refine ⟨_, exec_refclkLoss hp hs hr, ?_⟩
  rw [State.onChip_chip, if_pos h3]
  set d := s.chip.modPlumb (fun p => { p with refclk := false })
  obtain ⟨hsrc, -⟩ := raise_last d 0 [] (src := 4) (by decide) (by simp [d, hp, hs])
  exact ⟨(still_raise d 4 0 []).refclk, hsrc⟩

/-- In start step 2 it halts start-up, with no island's number (R85). -/
theorem refclkLoss_halts (h2 : s.chip.rd R.SYS_STEP pgSYS = 2) (hh : s.chip.plumb.halted = false) :
    ∃ t, exec .refclkLoss s = .next t ∧ t.chip.plumb.refclk = false ∧ t.chip.plumb.halted = true ∧ t.chip.rd R.SYS_RESULT pgSYS = 1
      ∧ t.chip.rd R.SYS_FAIL_ISLAND pgSYS = 0x3F := by
  refine ⟨_, exec_refclkLoss hp hs hr, ?_⟩
  rw [State.onChip_chip, if_neg (by omega), if_pos ⟨h2, by simp [hh]⟩]
  have halts : (s.chip.modPlumb (fun p => { p with refclk := false })).startPlls
      = (s.chip.modPlumb (fun p => { p with refclk := false })).haltFor 0x3F 4 0 := if_pos rfl
  rw [halts]
  obtain ⟨hhalt, href, hres, hisl⟩ := haltFor_shows (s.chip.modPlumb (fun p => { p with refclk := false })) (island := 0x3F) 4 0 (by decide)
  exact ⟨href, hhalt, hres, hisl⟩

/-- Before start step 2 the loss is noted alone (R85). -/
theorem refclkLoss_noted (h2 : s.chip.rd R.SYS_STEP pgSYS < 2) :
    ∃ t, exec .refclkLoss s = .next t ∧ t.chip.plumb.refclk = false := by
  refine ⟨_, exec_refclkLoss hp hs hr, ?_⟩
  rw [State.onChip_chip, if_neg (by omega), if_neg (by omega)]
  rfl
end

/-- A change of the crystal: XTAL_RUN, the reference that trims the RC oscillator, and Plumb's event 0 (R84). -/
theorem xtalDetect_acts (s : State) (b : Bool) (hp : s.chip.plumb.porst = false) (hs : s.chip.plumb.stopped = false)
    (hx : s.chip.on R.PLUMB_XTAL_RUN pgPLUMB ≠ b) :
    ∃ t, exec (.xtalDetect b) s = .next t ∧ t.chip.rd R.PLUMB_XTAL_RUN pgPLUMB = b2n b
      ∧ t.chip.rd R.PLUMB_TRIM_SRC pgPLUMB = (if b then 1 else if s.chip.plumb.locked.contains 29 then 2 else 0)
      ∧ bitOf (t.chip.rd R.EVT_LATCH pgPLUMB) 0 = true := by
  have hstep : xtalDetect s.chip b = (s.chip.hw pgPLUMB [(R.PLUMB_XTAL_RUN, 0, b2n b),
      (R.PLUMB_TRIM_SRC, 0, if b then 1 else if s.chip.plumb.locked.contains 29 then 2 else 0)]).pulse pgPLUMB 0 := by
    rw [xtalDetect, if_neg (by simp [hp, hs, hx])]
  refine ⟨_, rfl, ?_⟩
  rw [State.onChip_chip, hstep]
  refine ⟨?_, ?_, pulse_sets _ _ _ (by decide) (by decide)⟩
  · rw [rd_pulse _ _ _ _ _ _ (by decide) (by decide), rd_hw _ _ _ _ _ _ (by decide) (by decide)]
    simp only [foldc, List.foldl_cons, List.foldl_nil]
    rw [rd_wr_ne _ _ _ _ _ _ _ _ (by decide), rd_wr_same]
    cases b <;> rfl
  · rw [rd_pulse _ _ _ _ _ _ (by decide) (by decide), rd_hw _ _ _ _ _ _ (by decide) (by decide)]
    simp only [foldc, List.foldl_cons, List.foldl_nil]
    rw [rd_wr_same]
    split
    · rfl
    · split <;> rfl

/-- Settles O23, clause by clause. -/
theorem clockCommandsAct : Obligations.ClockCommandsAct :=
  ⟨pllLock_acts, pllLockTimeout_retries, pllLockTimeout_halts, pllRetry_acts, islandUnlock_acts, fun _ => refclkLoss_raises,
    fun _ => refclkLoss_halts, fun _ => refclkLoss_noted, xtalDetect_acts⟩

end Sys2Proof.Machine
end

section
/-! PROOFS. Benchmark's windows, zero-current windows and publications, and class-C results (R37, R44, R318, R321, R324). -/

namespace Sys2Proof.Machine

/-! Benchmark's counters. -/

/-- The four counters of Benchmark stand. -/
def Tally (c d : Chip) : Prop := ∀ j < 4, d.rd R.BMK_CNT pgBMK j = c.rd R.BMK_CNT pgBMK j

section
variable {c d e : Chip}

theorem Tally.refl (c : Chip) : Tally c c := fun _ _ => rfl

theorem Tally.trans (h : Tally c d) (k : Tally d e) : Tally c e := fun j hj => (k j hj).trans (h j hj)

theorem Tally.ite {p : Prop} [Decidable p] (h : Tally c d) (k : Tally c e) : Tally c (if p then d else e) := by
  split
  · exact h
  · exact k

theorem Tally.foldc {α : Type} {xs : List α} {f : α → Chip → Chip} (hf : ∀ x c, Tally c (f x c)) (c : Chip) : Tally c (foldc xs f c) := by
  induction xs generalizing c with
  | nil => exact Tally.refl c
  | cons x xs ih => exact (hf x c).trans (ih (f x c))

theorem Tally.of_regs (h : d.regs = c.regs) : Tally c d := fun _ _ => by simp only [Chip.rd, h]

theorem noisy_bmkCnt {j : Nat} (hj : j < 4) : noisy (fldKey R.BMK_CNT pgBMK j) = false := by
  have key : ∀ j < 4, noisy (fldKey R.BMK_CNT pgBMK j) = false := by decide
  exact key j hj

/-- Events and their counting leave them. -/
theorem Tally.of_same (h : Same c d) : Tally c d := fun j hj => h.rd R.BMK_CNT pgBMK j (noisy_bmkCnt hj)

end

section
variable (c : Chip)

/-- So does a write above them. -/
theorem tally_wr (f : Fld) (b v i : Nat) (h : pgBMK + 0x134 ≤ b + f.off + f.stride * i) : Tally c (c.wr f b v i) := fun j hj =>
  rd_wr_ne _ _ _ _ _ _ _ _ (by simp only [fldKey, R.BMK_CNT, pgBMK] at h ⊢; omega)

theorem tally_hw (b : Nat) (us : List (Fld × Nat × Nat)) (hb : b % 4096 = 0)
    (h : ∀ u ∈ us, pgBMK + 0x134 ≤ b + u.1.off + u.1.stride * u.2.1) : Tally c (c.hw b us) := by
  have hw : Tally c (foldc us (fun u c => c.wr u.1 b u.2.2 u.2.1) c) := by
    clear hb
    induction us generalizing c with
    | nil => exact Tally.refl c
    | cons u us ih => exact (tally_wr c u.1 b _ _ (h u (by simp))).trans (ih _ (fun x hx => h x (by simp [hx])))
  exact hw.trans (.of_same (same_hw c b us hb))

theorem tally_up (f : Fld) (b v i : Nat) (hb : b % 4096 = 0) (h : pgBMK + 0x134 ≤ b + f.off + f.stride * i) : Tally c (c.up f b v i) :=
  tally_hw c b _ hb (by simpa using h)

theorem tally_staleLevel : Tally c c.staleLevel := .of_same (same_level c pgBMK 8 _ (by decide))

theorem tally_tellCal (p ch : Nat) : Tally c (c.tellCal p ch) := by
  have sends {α : Type} (xs : List α) (o : α → Chip → Out) (c : Chip) : Tally c (foldc xs (fun x c => c.send (o x c)) c) :=
    .foldc (fun x c => .of_regs (Chip.send_regs c _)) c
  unfold Chip.tellCal Chip.sendBins Chip.sendCalRegs
  exact .ite (((sends _ _ c).trans (.of_regs (Chip.send_regs _ _))).trans (sends _ _ _)) (.refl c)

theorem tally_storeFit (s : Nat) (w : CalWindow) (f : CalFit) : Tally c (c.storeFit s w f) := by
  unfold Chip.storeFit
  extract_lets p ch q lb idx kind k
  have stale (d : Chip) (v w : Nat) : Tally d ((d.hw (pgSP p) [(R.SP_CAL_STALE, ch, v), (R.SP_CAL_NODE_CONSENSUS, ch, w)]).staleLevel) := by
    refine (tally_hw d (pgSP p) _ (pgSP_page p).1 ?_).trans (tally_staleLevel _)
    simp only [List.forall_mem_cons, pgSP, pgBMK]
    refine ⟨by omega, by omega, by simp⟩
  refine Tally.trans (.trans (.of_regs ?_) (.ite (.refl _) (stale _ _ _))) (tally_tellCal _ p ch)
  rfl

theorem tally_takeZ (s : Nat) (zs : List ZPoint) : Tally c (c.takeZ s zs) := by
  have store (z : ZPoint) (c : Chip) : Tally c (c.storeZ s z) := .ite (.of_regs rfl) (.refl c)
  unfold Chip.takeZ
  dsimp only
  split
  · exact (Tally.foldc store c).trans (.of_regs rfl)
  · exact .foldc store c

theorem tally_tellZ (s : Nat) : Tally c (c.tellZ s) := by
  unfold Chip.tellZ
  exact .ite (.foldc (fun m c => .of_regs (Chip.send_regs c _)) c) (.refl c)

theorem tally_zStale (s : Nat) : Tally c (c.zStale s) := by
  unfold Chip.zStale
  extract_lets q st c1
  have shown : Tally c c1 := .ite (.refl c) (tally_up c R.BMK_Z_STALE pgBMK _ s (by decide) (by simp only [R.BMK_Z_STALE]; omega))
  exact shown.trans (.of_same (same_level c1 pgBMK s st (by decide)))

/-- What the end of a window shows whatever its result: an overwritten sample (R164), and NO_REF_I (R318). -/
def Chip.windowTally (c : Chip) (s : Nat) (w : CalWindow) : Chip :=
  let c0 := if lapped w c.tick then c.bump R.CE_CNT (pgCE (c.bmkEngine s)) 7 else c
  let noI := b2n ((c.sec s).bmk.refI == 0xFF)
  if c0.rd R.BMK_NO_REF_I pgBMK s = noI then c0 else c0.up R.BMK_NO_REF_I pgBMK noI s

theorem tally_windowTally (s : Nat) (w : CalWindow) : Tally c (c.windowTally s w) := by
  unfold Chip.windowTally
  extract_lets c0 noI
  have late : Tally c c0 := .ite (tally_wr c R.CE_CNT (pgCE _) _ 7 (by simp only [R.CE_CNT, pgCE, pgBMK]; omega)) (.refl c)
  exact .ite late (late.trans (tally_up c0 R.BMK_NO_REF_I pgBMK noI s (by decide) (by simp only [R.BMK_NO_REF_I]; omega)))

/-- After a window has been judged: Z_STALE and the next window. -/
def Chip.windowNext (c : Chip) (s : Nat) : Chip :=
  if (c.zStale s).takesWork pgBMK then (c.zStale s).startWindow s else (c.zStale s).disarm (tmKey tmPubl (1 + s))

theorem tally_windowNext (s : Nat) : Tally c (c.windowNext s) := (tally_zStale c s).trans (.ite (.of_regs rfl) (.of_regs rfl))

end

section
variable {c : Chip} {s : Nat} {w : CalWindow} (hen : c.on R.BMK_EN pgBMK = true) (hdue : c.due (tmKey tmPubl (1 + s)) = true)
  (hshed : c.shed = false)
include hen hdue hshed

/-- A window with gaps, that has been lapped or that ends late is discarded (R318). -/
theorem calWindowEnd_discarded (hbad : c.windowGaps s = true ∨ lapped w c.tick = true ∨ c.windowLate s = true) :
    calWindowEnd c s w = ((c.windowTally s w).bump R.BMK_CNT pgBMK 1).windowNext s := by
  have bad : (c.windowGaps s || lapped w c.tick || c.windowLate s) = true := by
    rcases hbad with h | h | h <;> simp [h]
  unfold calWindowEnd
  rw [if_neg (by simp [hen, hdue, hshed]), bad]
  rfl

/-- A window without a fault counts as accepted, and its fits and impedance points are stored (R318). -/
theorem calWindowEnd_accepted (hst : c.rd R.TWIN_STATE pgTWIN ≠ 2) (hold : (c.sec s).winOld = false ∨ c.leads = true)
    (hg : c.windowGaps s = false) (hl : lapped w c.tick = false) (hlate : c.windowLate s = false) :
    ∃ d, Tally ((c.windowTally s w).bump R.BMK_CNT pgBMK 0) d ∧ calWindowEnd c s w = d.windowNext s := by
  have good : (c.windowGaps s || lapped w c.tick || c.windowLate s) = false := by simp [hg, hl, hlate]
  have own : ¬ (c.rd R.TWIN_STATE pgTWIN = 2 ∨ ((c.sec s).winOld = true ∧ (!c.leads) = true)) := by
    rcases hold with h | h <;> simp [h, hst]
  unfold calWindowEnd
  rw [if_neg (by simp [hen, hdue, hshed]), good]
  simp only [Bool.false_eq_true, if_false, if_neg own]
  refine ⟨_, ?_, rfl⟩
  have stored (fits : List CalFit) (w : CalWindow) (c : Chip) : Tally c (foldc fits (fun f c => c.storeFit s w f) c) :=
    .foldc (fun f c => tally_storeFit c s w f) c
  exact .ite ((stored _ _ _).trans ((tally_takeZ _ s _).trans (tally_tellZ _ s))) (stored _ _ _)
end

/-- A discarded window counts in CNT[1] (R318). -/
theorem calWindowEnd_counts_discarded (s : State) (k : Sec) (w : CalWindow) (hen : s.chip.on R.BMK_EN pgBMK = true)
    (hdue : s.chip.due (tmKey tmPubl (1 + k.val)) = true) (hshed : s.chip.shed = false)
    (hbad : s.chip.windowGaps k.val = true ∨ lapped w s.chip.tick = true ∨ s.chip.windowLate k.val = true) :
    ∃ t, exec (.calWindowEnd k w) s = .next t ∧ t.chip.rd R.BMK_CNT pgBMK 1 = (s.chip.rd R.BMK_CNT pgBMK 1 + 1) % 2 ^ 32 := by
  refine ⟨_, rfl, ?_⟩
  rw [State.onChip_chip, calWindowEnd_discarded hen hdue hshed hbad, tally_windowNext _ _ 1 (by decide), rd_bump_same,
    tally_windowTally _ _ _ 1 (by decide)]
  rfl

/-- An accepted window counts in CNT[0] (R318). -/
theorem calWindowEnd_counts_accepted (s : State) (k : Sec) (w : CalWindow) (hen : s.chip.on R.BMK_EN pgBMK = true)
    (hdue : s.chip.due (tmKey tmPubl (1 + k.val)) = true) (hshed : s.chip.shed = false) (hst : s.chip.rd R.TWIN_STATE pgTWIN ≠ 2)
    (hold : (s.chip.sec k.val).winOld = false ∨ s.chip.leads = true) (hg : s.chip.windowGaps k.val = false)
    (hl : lapped w s.chip.tick = false) (hlate : s.chip.windowLate k.val = false) :
    ∃ t, exec (.calWindowEnd k w) s = .next t ∧ t.chip.rd R.BMK_CNT pgBMK 0 = (s.chip.rd R.BMK_CNT pgBMK 0 + 1) % 2 ^ 32 := by
  refine ⟨_, rfl, ?_⟩
  obtain ⟨d, stored, hend⟩ := calWindowEnd_accepted hen hdue hshed hst hold hg hl hlate
  rw [State.onChip_chip, hend, tally_windowNext _ _ 0 (by decide), stored 0 (by decide), rd_bump_same, tally_windowTally _ _ _ 0 (by decide)]
  rfl

/-! Zero-current windows (R321). -/

theorem zeroWindowOpen_acts (s : State) (p : Port) (ch : Chan) (hen : s.chip.on R.BMK_EN pgBMK = true) (hshed : s.chip.shed = false)
    (hw : s.chip.takesWork pgBMK = true) (hk : s.chip.zeroKind p.val ch.val = true) (hs : s.chip.stoodStill p.val 400 = true)
    (hz : (s.chip.cal (4 * p.val + ch.val)).zero = none) :
    ∃ t, exec (.zeroWindowOpen p ch) s = .next t ∧ (t.chip.cal (4 * p.val + ch.val)).zero = some s.chip.tick
      ∧ (t.chip.cal (4 * p.val + ch.val)).zeroN = 0 ∧ (t.chip.cal (4 * p.val + ch.val)).zeroSum = 0 := by
  refine ⟨_, rfl, ?_⟩
  rw [State.onChip_chip, zeroWindowOpen, if_pos (by simp [hen, hshed, hw, hk, hs, hz])]
  simp

/-- What a channel tells a joining twin leaves every channel. -/
theorem tellCal_cals (c : Chip) (p ch : Nat) : (c.tellCal p ch).cals = c.cals := by
  have sends {α : Type} (xs : List α) (o : α → Chip → Out) (c : Chip) : (foldc xs (fun x c => c.send (o x c)) c).cals = c.cals :=
    (Quiet.foldc xs _ (fun x c => quiet_send c _) c).cals
  unfold Chip.tellCal Chip.sendBins Chip.sendCalRegs
  split
  · rw [sends, Chip.send_cals, sends]
  · rfl

section
variable {s : State} {p : Port} {ch : Chan} {u : Nat} (hz : (s.chip.cal (4 * p.val + ch.val)).zero = some u) (hu : u + 256 ≤ s.chip.tick)
include hz hu

/-- A window that has run its 256 ticks on a stage at rest, in a chip that is not joining and does not shed class C, ends with its mean as the
channel's offset. -/
theorem zeroWindowEnd_accepted (hs : s.chip.stoodStill p.val 400 = true) (hk : s.chip.zeroKind p.val ch.val = true) (hshed : s.chip.shed = false)
    (hst : s.chip.rd R.TWIN_STATE pgTWIN ≠ 2) (hn : (s.chip.cal (4 * p.val + ch.val)).zeroN ≠ 0) :
    ∃ t, exec (.zeroWindowEnd p ch u (u + 255)) s = .next t ∧ (t.chip.cal (4 * p.val + ch.val)).zero = none
      ∧ ((t.chip.cal (4 * p.val + ch.val)).zeroOff.map (·.1))
        = some (fdiv (fOfInt (s.chip.cal (4 * p.val + ch.val)).zeroSum) (fOfNat (s.chip.cal (4 * p.val + ch.val)).zeroN))
      ∧ (t.chip.cal (4 * p.val + ch.val)).offAt = s.chip.timeTick := by
  refine ⟨_, rfl, ?_⟩
  rw [State.onChip_chip, zeroWindowEnd, if_neg (by simp [hz]; omega)]
  extract_lets q mean se c1 c2
  rw [if_pos (by simp [q, hn, hs, hk, hshed, hst])]
  have kept : ((if c2.on R.SP_CAL_STALE (pgSP p.val) ch.val = true then (c2.up R.SP_CAL_STALE (pgSP p.val) 0 ch.val).staleLevel else c2).tellCal
      p.val ch.val).cals = c2.cals := by
    rw [tellCal_cals]
    split
    · simp [Chip.staleLevel]
    · rfl
  simp only [Chip.cal, kept]
  simp [c2, c1, mean, q, Chip.modCal, Chip.cal, Chip.setCal]

/-- Any other window that has run its 256 ticks ends without a result. -/
theorem zeroWindowEnd_discarded (hbad : s.chip.stoodStill p.val 400 = false ∨ s.chip.zeroKind p.val ch.val = false ∨ s.chip.shed = true
      ∨ s.chip.rd R.TWIN_STATE pgTWIN = 2 ∨ (s.chip.cal (4 * p.val + ch.val)).zeroN = 0) :
    ∃ t, exec (.zeroWindowEnd p ch u (u + 255)) s = .next t ∧ (t.chip.cal (4 * p.val + ch.val)).zero = none
      ∧ (t.chip.cal (4 * p.val + ch.val)).zeroOff = (s.chip.cal (4 * p.val + ch.val)).zeroOff := by
  refine ⟨_, rfl, ?_⟩
  rw [State.onChip_chip, zeroWindowEnd, if_neg (by simp [hz]; omega)]
  dsimp only
  rw [if_neg (by rcases hbad with h | h | h | h | h <;> simp [h])]
  simp
end

end Sys2Proof.Machine
end

section
/-! PROOFS. A publication of Benchmark, and a class-C result that takes effect (R37, R44, R324). -/

namespace Sys2Proof.Machine

/-! Publication. -/

/-- A fold whose every change keeps the sections keeps them. -/
theorem foldc_secs {α : Type} (xs : List α) (f : α → Chip → Chip) (hf : ∀ x c, (f x c).secs = c.secs) (c : Chip) :
    (foldc xs f c).secs = c.secs := by
  induction xs generalizing c with
  | nil => rfl
  | cons x xs ih => exact (ih (f x c)).trans (hf x c)

/-- A fold of changes that each leave the chip as it is. -/
theorem foldc_fixed {α σ : Type} (xs : List α) (f : α → σ → σ) (c : σ) (hf : ∀ x ∈ xs, f x c = c) : foldc xs f c = c := by
  induction xs with
  | nil => rfl
  | cons x xs ih =>
    show foldc xs f (f x c) = c
    rw [hf x (by simp)]
    exact ih (fun y hy => hf y (by simp [hy]))

theorem proposeAt_secs (c : Chip) (x : Nat) (item : AgreedItem) : (c.proposeAt x item).secs = c.secs := by
  unfold Chip.proposeAt
  dsimp only
  split
  · rfl
  · split
    · simp
    · rfl

theorem submit_secs (c : Chip) (item : Nat) (ws : List (Nat × Nat)) (zs : List (F32 × F32 × Nat)) : (c.submit item ws zs).secs = c.secs := by
  have counted (b : Bool) (d : Chip) : (if b then d.bump R.BMK_CNT pgBMK 3 else d).secs = d.secs := by cases b <;> simp
  unfold Chip.submit Chip.publish
  split
  · exact counted _ c
  · split
    · rfl
    · split
      · rfl
      · dsimp only
        split
        · exact (proposeAt_secs _ _ _).trans (counted _ c)
        · exact counted _ c

theorem takeOps_secs (c : Chip) (p : Nat) : (c.takeOps p).secs = c.secs := by
  refine foldc_secs _ _ (fun ch c => ?_) c
  dsimp only
  split <;> rfl

/-- What a publication does before Benchmark publishes: settings, ageing, Z_STALE and FLAT_Z. -/
def Chip.agedAll (c : Chip) : Chip :=
  foldc (upTo 8) (fun k c => (if c.on R.BMK_EN pgBMK then c.zStale k else c).flatFollow k)
    (foldc (upTo 192) (fun p c => c.agePort p) (c.bmkSettle.arm (tmKey tmPubl 0) dqTick))

/-- The publication of a port's channels. -/
def Chip.publishPort (p : Nat) (c : Chip) : Chip :=
  if ((c.takeOps p).calChans p).isEmpty then c.takeOps p
  else (c.takeOps p).submit p (((c.takeOps p).calChans p).flatMap ((c.takeOps p).calWrites p)) []

theorem publishPort_secs (p : Nat) (c : Chip) : (c.publishPort p).secs = c.secs := by
  unfold Chip.publishPort
  split
  · exact takeOps_secs c p
  · exact (submit_secs _ _ _ _).trans (takeOps_secs c p)

/-- The publication of a section's impedance. -/
def Chip.publishZ (k : Nat) (c : Chip) : Chip :=
  let q := c.sec k
  let fit : List (Nat × Nat) := match q.zfit with
    | some (f0, pk, qf) => [(fldKey R.BMK_Z_RES_HZ pgBMK k, f0.toNat), (fldKey R.BMK_Z_PK pgBMK k, pk.toNat), (fldKey R.BMK_Z_Q pgBMK k, qf.toNat)]
    | none => []
  if fit.isEmpty && q.zpts.isEmpty then c else c.submit (512 + k) fit q.zpts

/-- A section without a fit and without points publishes nothing. -/
theorem publishZ_none {k : Nat} {c : Chip} (hf : (c.sec k).zfit = none) (hp : (c.sec k).zpts = []) : c.publishZ k = c := by
  simp [Chip.publishZ, hf, hp]

/-- A publication at its instant. -/
theorem calPublish_eq {c : Chip} (ht : 20002 ≤ c.tick) (hper : (c.tick - 2) % (20000 * c.bmkSettle.rdV R.BMK_PUB_MS pgBMK) = 0)
    (hdue : c.armed (tmKey tmPubl 0) = false ∨ c.due (tmKey tmPubl 0) = true) :
    calPublish c = if !c.agedAll.on R.BMK_EN pgBMK || c.agedAll.shed || c.agedAll.rd R.TWIN_STATE pgTWIN == 2 then c.agedAll
      else foldc (upTo 8) Chip.publishZ (foldc (upTo 192) Chip.publishPort c.agedAll) := by
  have now : ¬ (c.tick < 20002 ∨ (c.tick - 2) % (20000 * c.bmkSettle.rdV R.BMK_PUB_MS pgBMK) ≠ 0
      ∨ (c.armed (tmKey tmPubl 0) = true ∧ (!c.due (tmKey tmPubl 0)) = true)) := by
    rcases hdue with h | h <;> simp [h, hper] <;> omega
  unfold calPublish
  rw [if_neg now]
  rfl

/-- Changes that agree on a state's chip agree on the state. -/
theorem onChip_congr {s : State} {f g : Chip → Chip} (h : f s.chip = g s.chip) : s.onChip f = s.onChip g := by
  unfold State.onChip
  rw [h]

section
variable (s : State) (c1 : Chip) (ht : 20002 ≤ s.chip.tick)
  (hper : (s.chip.tick - 2) % (20000 * s.chip.bmkSettle.rdV R.BMK_PUB_MS pgBMK) = 0)
  (hdue : s.chip.armed (tmKey tmPubl 0) = false ∨ s.chip.due (tmKey tmPubl 0) = true) (h1 : c1 = s.chip.agedAll)
include ht hper hdue h1

/-- Without Benchmark, while class C is shed, and in a chip that joins, nothing is published (R32, R324). -/
theorem calPublish_ages (hoff : c1.on R.BMK_EN pgBMK = false ∨ c1.shed = true ∨ c1.rd R.TWIN_STATE pgTWIN = 2) :
    ∃ t, exec .calPublish s = .next t ∧ t = s.onChip (fun _ => c1) := by
  refine ⟨_, rfl, onChip_congr ?_⟩
  rw [calPublish_eq ht hper hdue, ← h1]
  exact if_pos (by rcases hoff with h | h | h <;> simp [h])

/-- Otherwise every port's channels are published; sections without a fit and without points add nothing (R324). -/
theorem calPublish_publishes (hen : c1.on R.BMK_EN pgBMK = true) (hshed : c1.shed = false) (hst : c1.rd R.TWIN_STATE pgTWIN ≠ 2)
    (hz : ∀ k < 8, (c1.sec k).zfit = none ∧ (c1.sec k).zpts = []) :
    ∃ t, exec .calPublish s = .next t ∧ t = s.onChip (fun _ => foldc (upTo 192) Chip.publishPort c1) := by
  refine ⟨_, rfl, onChip_congr ?_⟩
  rw [calPublish_eq ht hper hdue, ← h1, if_neg (by simp [hen, hshed, hst])]
  refine foldc_fixed _ _ _ (fun k hk => ?_)
  obtain ⟨hfit, hpts⟩ := hz k (List.mem_range.mp hk)
  have secs : (foldc (upTo 192) Chip.publishPort c1).secs = c1.secs := foldc_secs _ _ publishPort_secs _
  have sec : (foldc (upTo 192) Chip.publishPort c1).sec k = c1.sec k := by simp only [Chip.sec, secs]
  exact publishZ_none (by rw [sec, hfit]) (by rw [sec, hpts])
end

/-! Class-C results. -/

section
variable {l : Bool} (c : Chip)

theorem still_tellCal (p ch : Nat) : Still l c (c.tellCal p ch) := by
  have sends {α : Type} (xs : List α) (o : α → Chip → Out) (c : Chip) : Still l c (foldc xs (fun x c => c.send (o x c)) c) :=
    .foldc (fun x _ c => still_send c _) c
  unfold Chip.tellCal Chip.sendBins Chip.sendCalRegs
  exact .ite (((sends _ _ c).trans (still_send _ _)).trans (sends _ _ _)) (.refl c)

theorem still_rewriteThresholds (p : Nat) : Still l c (c.rewriteThresholds p) := by
  unfold Chip.rewriteThresholds
  split
  · exact .refl c
  · refine .ite ?_ (.refl c)
    extract_lets c1
    have h1 : Still l c c1 := .ite (still_pushReq c p _) (.refl c)
    exact .ite (h1.trans (still_pushReq c1 p _)) h1

theorem still_calChanged (p : Nat) (was : Nat → Bool) : Still true c (c.calChanged p was) := by
  unfold Chip.calChanged
  extract_lets c2 new c3
  have h3 : Still true c c3 := ((still_seqInc c (pgSP p) (pgSP_page p).1).trans (still_rewriteThresholds _ p)).trans
    (still_level _ pgBMK 8 _ (by decide))
  exact .ite (h3.trans (still_raise c3 0x62 p [])) h3

theorem still_calBase (p : Nat) : Still l c (c.calBase p) := .foldc (fun _ _ c => still_modCal c _ _) c

theorem still_brimJudge (s : Nat) : Still true c (c.brimJudge s) := by
  unfold Chip.brimJudge
  extract_lets bs wh empty n byI byE hu ready was us c1 c2
  have h1 : Still true c c1 := .ite (.refl c) (still_hw_page c pgHOLD us (by decide) (by decide))
  have h2 : Still true c c2 := h1.trans (still_level c1 pgHOLD (16 + s) empty (by decide))
  exact .ite (h2.trans (still_raise c2 0x61 s [])) h2

theorem still_strApplied (n : Nat) : Still true c (c.strApplied n) :=
  ((still_seqInc c pgGAUGE (by decide)).trans (still_level _ pgGAUGE n _ (by decide))).trans (.foldc (fun s _ c => still_brimJudge c s) _)

theorem still_feltTrigger (s : Nat) : Still l c (c.feltTrigger s) :=
  (still_setBit_page c R.FELT_PENDING pgFELT s true (by decide) (by decide)).trans (still_proposeAt _ 0 _)

end

/-- The chip without the results of an item. -/
def Chip.dropItem (c : Chip) (i : Nat) : Chip := c.modTwin (fun t => { t with classC := t.classC.filter (fun q => q.item != i) })

/-- The registers of a result take its values. -/
def Chip.putWrites (c : Chip) (ws : List (Nat × Nat)) : Chip := { c with regs := ws.foldl (fun m w => mapSet m w.1 w.2) c.regs }

/-- What a published impedance of a section brings about (R236). -/
def Chip.zApplied (c : Chip) (k : Nat) (r : CRes) : Chip :=
  let c3 := (c.modSec k (fun q => { q with zUse := r.zs })).seqInc pgBMK
  let f0 := c3.rdF R.BMK_Z_RES_HZ pgBMK k
  let pk := c3.rdF R.BMK_Z_PK pgBMK k
  let q := c3.sec k
  let c4 := c3.hw pgFELT [(R.FELT_FS_RES_HZ, k, f0.toNat), (R.FELT_FS_ZPK, k, pk.toNat)]
  if movedBy q.feltRes f0 2 100 || movedBy q.feltPk pk 10 100 then
    (c4.modSec k (fun q => { q with feltRes := f0, feltPk := pk })).feltTrigger k
  else c4

theorem still_zApplied (c : Chip) (k : Nat) (r : CRes) : Still true c (c.zApplied k r) := by
  unfold Chip.zApplied
  extract_lets c3 f0 pk q c4
  have h4 : Still true c c4 := ((still_modSec c k _).trans (still_seqInc _ pgBMK (by decide))).trans
    (still_hw_page c3 pgFELT _ (by decide) (by decide))
  exact .ite ((h4.trans (still_modSec c4 k _)).trans (still_feltTrigger _ k)) h4

section
variable {c : Chip} {i : Nat} {r : CRes} (hr : c.twin.classC.find? (fun r => r.item == i) = some r) (hok : r.peerOk = true)
  (h0 : r.atT ≠ 0) (hat : r.atT ≤ c.tick)
include hr hok h0 hat

/-- A result whose digests match, at its tick: it leaves the list, its registers are written, and the item decides what follows. -/
theorem classCResultApply_eq :
    classCResultApply c i =
      if i < 192 then
        foldc (c.calChans i) (fun ch c => c.tellCal i ch)
          ((((c.dropItem i).putWrites (r.writes.filter (fun w => (c.calChans i).contains (calChanOf w.1)))).calBase i).calChanged i
            (fun ch => c.on R.SP_CAL_STALE (pgSP i) ch))
      else if 256 ≤ i ∧ i < 280 then ((c.dropItem i).putWrites r.writes).strApplied (i - 256)
      else if 512 ≤ i ∧ i < 520 then ((c.dropItem i).putWrites r.writes).zApplied (i - 512) r
      else (c.dropItem i).putWrites r.writes := by
  have due : ¬ ((!r.peerOk) = true ∨ r.atT = 0 ∨ c.tick < r.atT) := by simp [hok, h0, hat]
  unfold classCResultApply
  rw [hr]
  dsimp only
  rw [if_neg due]
  by_cases h192 : i < 192
  · simp only [if_pos h192]
    rfl
  · simp only [if_neg h192]
    rfl

/-- What follows a result leaves the class-C results that its leaving left. -/
theorem classCResultApply_classC : (classCResultApply c i).twin.classC = (c.dropItem i).twin.classC := by
  rw [classCResultApply_eq hr hok h0 hat]
  split
  · exact ((((still_calBase _ i).trans (still_calChanged _ i _)).trans (.foldc (fun ch _ c => still_tellCal c i ch) _)) : Still true _ _).classC
  · split
    · exact (still_strApplied _ _).classC
    · split
      · exact (still_zApplied _ _ _).classC
      · rfl
end

section
variable (s : State) (i : Nat) (r : CRes) (hr : s.chip.twin.classC.find? (fun r => r.item == i) = some r) (hok : r.peerOk = true)
  (h0 : r.atT ≠ 0) (hat : r.atT ≤ s.chip.tick)
include hr hok h0 hat

/-- A result of no port, string or section writes its registers and nothing more (R37). -/
theorem classCResultApply_writes (hi : 520 ≤ i) :
    ∃ t, exec (.classCResultApply i) s = .next t ∧ t.chip.twin.classC = s.chip.twin.classC.filter (fun q => q.item != i)
      ∧ t.chip.regs = r.writes.foldl (fun m w => mapSet m w.1 w.2) s.chip.regs := by
  refine ⟨_, rfl, ?_⟩
  rw [State.onChip_chip, classCResultApply_eq hr hok h0 hat, if_neg (by omega), if_neg (by omega), if_neg (by omega)]
  exact ⟨rfl, rfl⟩

/-- Whatever its item, a result that has taken effect is gone (R37, R44). -/
theorem classCResultApply_drops : ∃ t, exec (.classCResultApply i) s = .next t ∧ ∀ q ∈ t.chip.twin.classC, q.item ≠ i := by
  refine ⟨_, rfl, fun q hq => ?_⟩
  rw [State.onChip_chip, classCResultApply_classC hr hok h0 hat] at hq
  simpa using (List.mem_filter.mp hq).2
end

/-- Settles O10, clause by clause. -/
theorem benchmarkCommandsAct : Obligations.BenchmarkCommandsAct :=
  ⟨calWindowEnd_counts_discarded, calWindowEnd_counts_accepted, zeroWindowOpen_acts, fun _ _ _ _ => zeroWindowEnd_accepted,
    fun _ _ _ _ => zeroWindowEnd_discarded, calPublish_ages, calPublish_publishes, classCResultApply_writes, classCResultApply_drops⟩

end Sys2Proof.Machine
end

section
/-! PROOFS. Equalisation over Chain (R31, R342): a port group answers from what its own link brought, and not from a frame that the twin
supplied. -/

namespace Sys2Proof.Machine

/-- A request for the frame of a tick that the twin itself supplied is answered with NONE, whatever the port holds of it (R342). -/
theorem equaliseAnswer_supplied {s : State} {p : Port} {k : Nat} (hb : s.chip.banksOn = true) (hst : s.chip.rd R.TWIN_STATE pgTWIN ≠ 4)
    (hn : s.chip.twin.eqTick ≠ s.chip.tick ∨ s.chip.twin.eqCount < 12) (hs : (s.chip.port p.val).supplied.contains k = true) :
    ∃ t, exec (.equaliseAnswer p k) s = .next t ∧ t.chip.sent = Out.chain (.frameAns p k []) :: s.chip.sent := by
  refine ⟨_, rfl, ?_⟩
  have hst' : ¬ s.chip.hear.rd R.TWIN_STATE pgTWIN = 4 := hst
  have few : ¬ 12 ≤ (if s.chip.hear.twin.eqTick = s.chip.hear.tick then s.chip.hear.twin.eqCount else 0) := by
    show ¬ 12 ≤ (if s.chip.twin.eqTick = s.chip.tick then s.chip.twin.eqCount else 0)
    split <;> omega
  have none' : ¬ (s.chip.hear.tick ≤ k + 16 ∧ (!(s.chip.hear.port p.val).supplied.contains k) = true) := by
    show ¬ (_ ∧ (!(s.chip.port p.val).supplied.contains k) = true)
    rw [hs]
    simp
  have port : portFin p.val = p := Fin.ext (Nat.mod_eq_of_lt p.isLt)
  rw [State.onChip_chip, Chip.chainIn, if_pos hb, equaliseAnswer, if_neg hst']
  dsimp only
  rw [if_neg few, if_neg none', port]
  refine Chip.send_chain _ _ ?_
  have on : s.chip.banksOn = true ∧ s.chip.rd R.TWIN_STATE pgTWIN ≠ 4 := ⟨hb, hst⟩
  show (s.chip.banksOn && (s.chip.rd R.TWIN_STATE pgTWIN != 4 || _)) = true
  simp [on]

/-- A state whose main rails are up and whose port 0 holds, of tick 0, a frame that the twin supplied. -/
def suppliedState : State :=
  { State.reset with
    chip := { regs := [(fldKey R.PLUMB_MAIN_UP pgPLUMB 0, 1)], ports := [(0, { hist := [(0, [1#8])], supplied := [0] })] } }

/-- Refutes O1: the third clause has a port answer with every frame of the last 16 ticks that it holds. One that the twin supplied it does not
send back: `suppliedState` holds the body [1] of tick 0 and answers NONE. -/
theorem not_sampleAndEqualisationCommandsAct : ¬ Obligations.SampleAndEqualisationCommandsAct := by
  rintro ⟨-, -, answers, -⟩
  have hb : suppliedState.chip.banksOn = true := by decide +kernel
  have hst : suppliedState.chip.rd R.TWIN_STATE pgTWIN ≠ 4 := by decide +kernel
  have hn : suppliedState.chip.twin.eqTick ≠ suppliedState.chip.tick ∨ suppliedState.chip.twin.eqCount < 12 := by decide +kernel
  obtain ⟨t, ht, claimed, -⟩ := answers suppliedState 0 0 hb hst hn
  obtain ⟨u, hu, sent⟩ := equaliseAnswer_supplied (p := 0) (k := 0) hb hst hn (by decide +kernel)
  obtain rfl : t = u := by injection ht.symm.trans hu
  have held : (if suppliedState.chip.tick ≤ 0 + 16 then (suppliedState.chip.bodyAt (0 : Port).val 0).getD [] else []) = [1#8] := by decide +kernel
  rw [held, sent] at claimed
  simp at claimed

end Sys2Proof.Machine
end

section
/-! PROOFS. Resets: the watchdog pair, PORST_N, RESET_N, the reset key, the timeout of a start and Plumb ROM (R64, R67, R86, R89, R90, R91,
R432, R515). -/

namespace Sys2Proof.Machine

/-! Register maps: what loading a map leaves of the SYS page (R69, R89). -/

/-- A filter that takes every entry of a number leaves what the map holds for it. -/
theorem mapGet_filter {α : Type} (m : SMap α) {p : Nat × α → Bool} {k : Nat} (h : ∀ v, p (k, v) = true) (d : α) :
    mapGet (m.filter p) k d = mapGet m k d := by
  induction m with
  | nil => rfl
  | cons e m ih =>
    obtain ⟨j, w⟩ := e
    by_cases hj : j = k
    · subst hj
      simp [mapGet, h w]
    · rw [List.filter_cons]
      split <;> simp [mapGet, hj, ih]

/-- The key of a field lies in the SYS page. -/
def sysKey (k : Nat) : Bool := decide (k < 0x20000)

/-- A field of any other page has no key there. -/
theorem fldKey_ne_of_sysKey {k b : Nat} (hk : sysKey k = true) (f : Fld) (i : Nat) (hb : 0x1000 ≤ b) : k ≠ fldKey f b i := by
  simp only [sysKey, decide_eq_true_eq] at hk
  simp only [fldKey]
  omega

theorem mapGet_setField {k b : Nat} (hk : sysKey k = true) (m : SMap Nat) (f : Fld) (i v d : Nat) (hb : 0x1000 ≤ b) :
    mapGet (mapSet m (fldKey f b i) v) k d = mapGet m k d := mapGet_mapSet_ne m (fldKey_ne_of_sysKey hk f i hb) v d

/-- The Plumb island, and with it the SYS page, stays as the main islands come up (R89). -/
theorem mapGet_mainRegs (c : Chip) {k : Nat} (hk : sysKey k = true) (d : Nat) : mapGet c.mainRegs k d = mapGet c.regs k d := by
  have haon : aonKey k = true := by
    have h0 : k / 32 / 0x1000 = 0 := by simp only [sysKey, decide_eq_true_eq] at hk; omega
    simp [aonKey, pageOf, h0, singlePages, PageKind.aon]
  unfold Chip.mainRegs
  rw [mapGet_setField hk _ _ _ _ _ (by decide), mapGet_setField hk _ _ _ _ _ (by decide), mapGet_setField hk _ _ _ _ _ (by decide),
    mapGet_filter _ (fun _ => by simp [haon])]

theorem mapGet_loadRails {k : Nat} (hk : sysKey k = true) (m : SMap Nat) (set : List RailCfg) (d : Nat) :
    mapGet (loadRails m set) k d = mapGet m k d := by
  unfold loadRails
  generalize List.range 8 = ns
  induction ns generalizing m with
  | nil => rfl
  | cons n ns ih =>
    rw [List.foldl_cons, ih]
    iterate 4 rw [mapGet_setField hk _ _ _ _ _ (by decide)]

theorem mapGet_loadRegs (c : Chip) {k : Nat} (hk : sysKey k = true) (m : SMap Nat) (d : Nat) : mapGet (c.loadRegs m) k d = mapGet m k d := by
  unfold Chip.loadRegs
  iterate 3 rw [mapGet_setField hk _ _ _ _ _ (by decide)]
  exact mapGet_loadRails hk m _ d

/-- Copied fields leave every other one. -/
theorem mapGet_keepFields_ne (old new : SMap Nat) {k b : Nat} {fs : List Fld} (h : ∀ f ∈ fs, k ≠ fldKey f b 0) (d : Nat) :
    mapGet (keepFields old new b fs) k d = mapGet new k d := by
  unfold keepFields
  induction fs generalizing new with
  | nil => rfl
  | cons f fs ih =>
    exact (ih _ (fun g hg => h g (by simp [hg]))).trans (mapGet_mapSet_ne new (h f (by simp)) _ d)

theorem mapGet_keepFields_page (old new : SMap Nat) {k b : Nat} (hk : sysKey k = true) (fs : List Fld) (hb : 0x1000 ≤ b) (d : Nat) :
    mapGet (keepFields old new b fs) k d = mapGet new k d :=
  mapGet_keepFields_ne old new (fun f _ => fldKey_ne_of_sysKey hk f 0 hb) d

/-- A copied field has the value that it has in the old map, where the copied fields have different keys. -/
theorem mapGet_keepFields_mem (old new : SMap Nat) {b : Nat} {f : Fld} {fs : List Fld} (hf : f ∈ fs)
    (hkeys : fs.Pairwise (fun f g => fldKey f b 0 ≠ fldKey g b 0)) :
    mapGet (keepFields old new b fs) (fldKey f b 0) f.rst = mapGet old (fldKey f b 0) f.rst := by
  induction fs generalizing new with
  | nil => cases hf
  | cons g fs ih =>
    obtain ⟨hg, hrest⟩ := List.pairwise_cons.1 hkeys
    rcases List.mem_cons.1 hf with rfl | hf
    · exact (mapGet_keepFields_ne old _ hg _).trans (mapGet_mapSet_same new _ _ _)
    · exact ih _ hf hrest

/-! What the main islands' reset leaves: Plumb's own state, MRAM and the SYS page (R89). -/

/-- Plumb, MRAM and the SYS page stand, but for the fields of the page that events and counters change. -/
structure SysStands (c d : Chip) : Prop where
  plumb : d.plumb = c.plumb
  mram : d.mram = c.mram
  regs : ∀ k, sysKey k = true → noisy k = false → ∀ v, mapGet d.regs k v = mapGet c.regs k v

section
variable {c d e : Chip}

theorem SysStands.refl (c : Chip) : SysStands c c := ⟨rfl, rfl, fun _ _ _ _ => rfl⟩

theorem SysStands.trans (h : SysStands c d) (j : SysStands d e) : SysStands c e :=
  ⟨j.plumb.trans h.plumb, j.mram.trans h.mram, fun k hk hn v => (j.regs k hk hn v).trans (h.regs k hk hn v)⟩

theorem SysStands.ite {p : Prop} [Decidable p] (h : SysStands c d) (j : SysStands c e) : SysStands c (if p then d else e) := by
  split
  · exact h
  · exact j

theorem SysStands.foldc {α : Type} (xs : List α) (f : α → Chip → Chip) (hf : ∀ x c, SysStands c (f x c)) (c : Chip) :
    SysStands c (foldc xs f c) := by
  induction xs generalizing c with
  | nil => exact .refl c
  | cons x xs ih => exact (hf x c).trans (ih (f x c))

theorem SysStands.rd (h : SysStands c d) (f : Fld) (b i : Nat) (hk : sysKey (fldKey f b i) = true) (hn : noisy (fldKey f b i) = false) :
    d.rd f b i = c.rd f b i := h.regs _ hk hn _
end

section
variable (c : Chip)

theorem sysStands_wr (f : Fld) (b v i : Nat) (hb : 0x1000 ≤ b) : SysStands c (c.wr f b v i) :=
  ⟨rfl, rfl, fun _ hk _ _ => mapGet_setField hk _ _ _ _ _ hb⟩

theorem sysStands_hw (b : Nat) (us : List (Fld × Nat × Nat)) (hb : b % 4096 = 0) (h1 : 0x1000 ≤ b) : SysStands c (c.hw b us) := by
  have writes := SysStands.foldc us (fun u c => c.wr u.1 b u.2.2 u.2.1) (fun u c => sysStands_wr c u.1 b _ _ h1) c
  have q := quiet_hw c b us
  exact ⟨q.plumb, q.mram, fun k hk hn v => (same_hw c b us hb k hn v).trans (writes.regs k hk hn v)⟩

theorem sysStands_reFlt : SysStands c c.reFlt := by
  unfold Chip.reFlt
  exact .ite (.refl c) (sysStands_hw c pgFCU _ (by decide) (by decide))

theorem sysStands_loadBatt : SysStands c c.loadBatt := by
  unfold Chip.loadBatt
  refine .foldc _ _ (fun e c => ?_) c
  have put : SysStands c (c.setStr e.1 e.2.1) := ⟨rfl, rfl, fun _ _ _ _ => rfl⟩
  exact put.trans (sysStands_hw _ pgGAUGE _ (by decide) (by decide))

/-- Plumb's state once the main islands have been reset (R89). -/
def PlumbSt.mainOut (p : PlumbSt) : PlumbSt :=
  { p with
    locked := []
    tries := []
    pllReset := []
    halted := false
    mgmtUp := false
    mgmtHalt := false
    mgmtFail := false
    haltReq := false
    mgmtSolo := false
    fenced := false }

theorem sysStands_mainReset : SysStands (c.modPlumb PlumbSt.mainOut) c.mainReset := by
  unfold Chip.mainReset
  extract_lets _ pl tms c1 c2 c3 c4 c5 c6
  have h1 : SysStands (c.modPlumb PlumbSt.mainOut) c1 := ⟨rfl, rfl, fun k hk _ v => mapGet_mainRegs c hk v⟩
  have h2 : SysStands (c.modPlumb PlumbSt.mainOut) c2 :=
    (h1.trans (sysStands_wr c1 _ _ _ _ (by decide))).trans (.foldc _ _ (fun _ c => sysStands_wr c _ _ _ _ (by decide)) _)
  have h3 : SysStands (c.modPlumb PlumbSt.mainOut) c3 := h2.trans (.foldc _ _ (fun _ c => sysStands_wr c _ _ _ _ (by decide)) _)
  have h4 : SysStands (c.modPlumb PlumbSt.mainOut) c4 := .ite h3 (h3.trans (sysStands_loadBatt c3))
  have h6 : SysStands (c.modPlumb PlumbSt.mainOut) c6 :=
    (h4.trans (sysStands_wr c4 _ _ _ _ (by decide))).trans (sysStands_wr c5 _ _ _ _ (by decide))
  exact .ite (h6.trans (sysStands_hw c6 pgPLUMB _ (by decide) (by decide))) h6

theorem mainReset_plumb : c.mainReset.plumb = c.plumb.mainOut := (sysStands_mainReset c).plumb

theorem mainReset_mram : c.mainReset.mram = c.mram := (sysStands_mainReset c).mram
end

/-! A full device reset (R89, R90, R92). -/

section
variable (c : Chip) (cause : Fld) (pin : Bool)

theorem causeField_key : ∀ f ∈ causeFields, sysKey (fldKey f pgSYS 0) = true ∧ fldKey f pgSYS 0 ≠ fldKey R.SYS_RESULT pgSYS 0 := by
  decide

theorem causeField_noisy : ∀ f ∈ causeFields, noisy (fldKey f pgSYS 0) = false := by decide

/-- Plumb enters the reset with ROM to run, and holds nothing of what it did but RESET_N, the times of the rails and how power came. -/
def PlumbSt.reset (p : PlumbSt) (set : List RailCfg) (now : Nat) : PlumbSt :=
  { porst := false, rom := true, resetN := p.resetN, runSet := set, resetAt := now, por := p.por, railAt := p.railAt, seqAt := p.seqAt }

/-- A full reset is a reset of the main islands of a chip whose Plumb starts again: RESET_CAUSE names the cause in it, and what is put into
the registers after that lies in other fields (R89, R92). -/
theorem sysStands_plumbReset : ∃ d : Chip, SysStands (d.modPlumb PlumbSt.mainOut) (c.plumbReset cause pin)
    ∧ d.plumb = c.plumb.reset c.storedSet c.now ∧ d.mram = c.mram
    ∧ ∃ m, d.regs = c.loadRegs m ∧ (cause ∈ causeFields → mapGet m (fldKey cause pgSYS 0) cause.rst = 1) := by
  unfold Chip.plumbReset
  extract_lets p stayUp lockout m0 m1 m2 m3 m4 m5 m6 q tms k fb c1
  have named : cause ∈ causeFields → mapGet m6 (fldKey cause pgSYS 0) cause.rst = 1 := by
    intro hc
    obtain ⟨hk, hres⟩ := causeField_key cause hc
    have h2 : mapGet m2 (fldKey cause pgSYS 0) cause.rst = 1 := mapGet_mapSet_same m1 _ _ _
    have h3 : mapGet m3 (fldKey cause pgSYS 0) cause.rst = 1 := by
      unfold m3
      split <;> rw [mapGet_keepFields_page _ _ hk _ (by decide), h2]
    have h4 : mapGet m4 (fldKey cause pgSYS 0) cause.rst = 1 := by
      unfold m4
      split
      · exact h3
      · rw [mapGet_keepFields_page _ _ hk _ (by decide), h3]
    have h5 : mapGet m5 (fldKey cause pgSYS 0) cause.rst = 1 := by
      unfold m5
      split
      · rw [mapGet_setField hk _ _ _ _ _ (by decide), h4]
      · exact h4
    unfold m6
    split
    · rw [mapGet_mapSet_ne m5 hres, h5]
    · exact h5
  have after := ((sysStands_mainReset c1).trans (sysStands_wr _ R.FBK_QUEUE pgFBK k.queue.length 0 (by decide))).trans (sysStands_reFlt _)
  exact ⟨c1, after, rfl, rfl, m6, by simp only [c1], named⟩

theorem plumbReset_plumb : (c.plumbReset cause pin).plumb = (c.plumb.reset c.storedSet c.now).mainOut := by
  obtain ⟨d, after, hd, -, -⟩ := sysStands_plumbReset c cause pin
  rw [after.plumb, Chip.modPlumb_plumb, hd]

theorem plumbReset_mram : (c.plumbReset cause pin).mram = c.mram := by
  obtain ⟨d, after, -, hd, -⟩ := sysStands_plumbReset c cause pin
  rw [after.mram, Chip.modPlumb_mram, hd]

/-- RESET_CAUSE shows the cause of the reset (R92). -/
theorem plumbReset_cause (hc : cause ∈ causeFields) : (c.plumbReset cause pin).rd cause pgSYS = 1 := by
  obtain ⟨hk, -⟩ := causeField_key cause hc
  obtain ⟨d, after, -, -, m, hd, named⟩ := sysStands_plumbReset c cause pin
  rw [after.rd cause pgSYS 0 hk (causeField_noisy cause hc), Chip.rd, Chip.modPlumb_regs, hd, mapGet_loadRegs c hk, named hc]

/-- The pin's part of a reset: RESET_N is low after a recognised pulse (R90). -/
def Chip.notePin (c : Chip) (pin : Bool) : Chip := c.modPlumb (fun p => { p with resetN := p.resetN || pin })

theorem fullReset_free (hw : c.writeBusy = false) : c.fullReset cause pin = (c.notePin pin).plumbReset cause pin :=
  if_neg (Bool.eq_false_iff.1 hw)

theorem fullReset_busy (hw : c.writeBusy = true) :
    ∃ w : PlumbSt → Nat × Bool, c.fullReset cause pin = (c.notePin pin).mainReset.modPlumb (fun p => { p with rstWait := some (w p) }) :=
  ⟨_, if_pos hw⟩

end

section
variable (s : State) (cause : Fld) (pin : Bool)

theorem fullReset_mram : (s.fullReset cause pin).chip.mram = s.chip.mram := by
  show (s.chip.fullReset cause pin).mram = s.chip.mram
  cases hw : s.chip.writeBusy with
  | false => rw [fullReset_free _ _ _ hw, plumbReset_mram]; rfl
  | true =>
    obtain ⟨w, hbusy⟩ := fullReset_busy s.chip cause pin hw
    rw [hbusy, Chip.modPlumb_mram, mainReset_mram]
    rfl

theorem fullReset_resetN : (s.fullReset cause pin).chip.plumb.resetN = (s.chip.plumb.resetN || pin) := by
  show (s.chip.fullReset cause pin).plumb.resetN = _
  cases hw : s.chip.writeBusy with
  | false => rw [fullReset_free _ _ _ hw, plumbReset_plumb]; rfl
  | true =>
    obtain ⟨w, hbusy⟩ := fullReset_busy s.chip cause pin hw
    rw [hbusy, Chip.modPlumb_plumb, mainReset_plumb]
    rfl

/-- With no record write in progress Plumb enters the reset at once (R89, R90, R189). -/
theorem fullReset_begins (hw : s.chip.writeBusy = false) (hc : cause ∈ causeFields) :
    (s.fullReset cause pin).chip.rd cause pgSYS = 1 ∧ (s.fullReset cause pin).chip.plumb.porst = false
      ∧ (s.fullReset cause pin).chip.plumb.rom = true ∧ (s.fullReset cause pin).chip.plumb.rstWait = none
      ∧ (s.fullReset cause pin).mem = [] ∧ (s.fullReset cause pin).cap = [] := by
  have hchip : (s.fullReset cause pin).chip = (s.chip.notePin pin).plumbReset cause pin := fullReset_free s.chip cause pin hw
  rw [hchip, plumbReset_plumb]
  exact ⟨plumbReset_cause _ cause pin hc, rfl, rfl, rfl, rfl, rfl⟩

/-- While a record is being written the other islands enter it, and Plumb waits (R90, R189). -/
theorem fullReset_waits (hw : s.chip.writeBusy = true) :
    (s.fullReset cause pin).chip.plumb.rstWait.isSome = true ∧ (s.fullReset cause pin).chip.plumb.locked = []
      ∧ (s.fullReset cause pin).chip.plumb.mgmtUp = false ∧ (s.fullReset cause pin).mem = [] ∧ (s.fullReset cause pin).cap = [] := by
  obtain ⟨w, hbusy⟩ := fullReset_busy s.chip cause pin hw
  have hchip : (s.fullReset cause pin).chip = (s.chip.notePin pin).mainReset.modPlumb (fun p => { p with rstWait := some (w p) }) := hbusy
  rw [hchip, Chip.modPlumb_plumb, mainReset_plumb]
  exact ⟨rfl, rfl, rfl, rfl, rfl⟩
end

end Sys2Proof.Machine
end

section
/-! PROOFS. The timers that a raise leaves running as they were (R297, R354, R356, R427, R498), and what a start leaves of the state of Plumb
ROM (R80, R96). -/

namespace Sys2Proof.Machine

/-! Timers. -/

/-- The kinds of timer that a raise can start or stop. -/
def raiseTimers : List Nat := [tmLate, tmS3, tmRecovery, tmTakeover, tmSettle, tmResume]

/-- Every timer of another kind stands. -/
def OtherTimers (c d : Chip) : Prop := ∀ k, k / 65536 ∉ raiseTimers → mapGet d.timers k 0 = mapGet c.timers k 0

section
variable {c d e : Chip}

theorem OtherTimers.of_eq (h : d.timers = c.timers) : OtherTimers c d := fun _ _ => by rw [h]

theorem OtherTimers.of_quiet (h : Quiet c d) : OtherTimers c d := .of_eq h.timers

theorem OtherTimers.trans (h : OtherTimers c d) (j : OtherTimers d e) : OtherTimers c e := fun k hk => (j k hk).trans (h k hk)

theorem OtherTimers.ite {p : Prop} [Decidable p] (h : OtherTimers c d) (j : OtherTimers c e) : OtherTimers c (if p then d else e) := by
  split
  · exact h
  · exact j
end

section
variable (c : Chip)

theorem otherTimers_arm (k t : Nat) (h : k / 65536 ∈ raiseTimers) : OtherTimers c (c.arm k t) := fun _ hj =>
  mapGet_mapSet_ne _ (by rintro rfl; exact hj h) _ _

theorem otherTimers_disarm (k : Nat) (h : k / 65536 ∈ raiseTimers) : OtherTimers c (c.disarm k) := fun _ hj =>
  mapGet_mapSet_ne _ (by rintro rfl; exact hj h) _ _

theorem otherTimers_modPlumb (f : PlumbSt → PlumbSt) : OtherTimers c (c.modPlumb f) := .of_eq (Chip.modPlumb_timers c f)

theorem countDrop_timers (r : FbRec) : (c.countDrop r).timers = c.timers := (quiet_pulse _ pgFBK 1).timers

theorem enqueue_timers (r : FbRec) : (c.enqueue r).timers = c.timers := by
  unfold Chip.enqueue
  extract_lets q c1
  split
  · rfl
  · split
    · exact (quiet_level c1 _ _ _).timers.trans (quiet_up _ _ _ _ _).timers
    · split
      · exact countDrop_timers c r
      · exact countDrop_timers _ _

theorem otherTimers_record (code source sev part : Nat) (payload : Bytes) : OtherTimers c (c.record code source sev part payload) := by
  unfold Chip.record
  have free : OtherTimers c c.free.2 := .of_eq rfl
  exact .ite (.of_eq rfl) ((OtherTimers.ite free (.of_eq rfl)).trans (.of_eq (enqueue_timers _ _)))

theorem quiet_reFlt : Quiet c c.reFlt := by
  unfold Chip.reFlt
  exact .ite (.refl c) (quiet_up _ _ _ _ _)

theorem quiet_reMaxSev : Quiet c c.reMaxSev := by
  unfold Chip.reMaxSev Chip.putHealth
  extract_lets m c1 _
  have h1 : Quiet c c1 := .ite (.refl c) (quiet_up _ _ _ _ _)
  exact .ite h1 ((h1.trans (quiet_hw _ _ _)).trans (quiet_send _ _))

theorem quiet_quiescePart (p : Nat) : Quiet c (c.quiescePart p) := by
  unfold Chip.quiescePart Chip.quiescePages
  extract_lets page
  have hpage : ∀ b c, Quiet c (page b c) := fun b c =>
    have hw := quiet_wr c R.PG_QUIESCE b (b2n true) 0
    .ite (.ite (hw.trans (quiet_up _ _ _ _ _)) hw) (.refl c)
  exact .ite (.refl c) (((quiet_wr _ _ _ _ _).trans (.foldc _ _ (fun n => hpage (pgCE n)) _)).trans (.foldc _ _ (fun n => hpage (pgSP n)) _))

theorem otherTimers_settleFail : OtherTimers c c.settleFail := by
  unfold Chip.settleFail
  extract_lets c1
  have stopped : OtherTimers c (c1.disarm (tmKey tmSettle 0)) := otherTimers_disarm c1 _ (by decide)
  exact .ite ((stopped.trans (otherTimers_arm _ _ _ (by decide))).trans (.of_quiet ((quiet_up _ _ _ _ _).trans (quiet_pulse _ _ _))))
    (.of_eq rfl)

theorem swapAbort_timers (code : Nat) : (c.swapAbort code).timers = c.timers := by
  unfold Chip.swapAbort
  extract_lets _ c1
  have h1 : c1.timers = c.timers := (quiet_hw _ _ _).timers
  have swaps : Quiet c1 (foldc (upTo 128) (fun e c => if c.on R.CE_SWAP_BUSY (pgCE e) then c.up R.CE_SWAP_BUSY (pgCE e) 0 else c) c1) :=
    .foldc _ _ (fun _ c => .ite (quiet_up _ _ _ _ _) (.refl c)) _
  split
  · split
    · exact (((swaps.trans (quiet_up _ _ _ _ _)).trans (quiet_pulse _ _ _)).timers).trans h1
    · exact h1
  · rfl

theorem quiet_setRole (follow : Bool) : Quiet c (c.setRole follow) := by
  unfold Chip.setRole
  exact .ite (.refl c) ((quiet_up _ _ _ _ _).trans (quiet_pulse _ _ _))

theorem otherTimers_openRecovery : OtherTimers c c.openRecovery :=
  (OtherTimers.of_quiet (quiet_up _ _ _ _ _)).trans (otherTimers_arm _ _ _ (by decide))

theorem otherTimers_enterFenced (cause : Nat) : OtherTimers c (c.enterFenced cause) := by
  unfold Chip.enterFenced
  extract_lets c1 c2
  refine .ite (.of_quiet ((quiet_up _ _ _ _ _).trans (quiet_reFlt _))) ?_
  have h1 : OtherTimers c c1 := .of_quiet ((quiet_hw _ _ _).trans (quiet_setRole _ _))
  have h2 : OtherTimers c c2 := (h1.trans (otherTimers_modPlumb c1 _)).trans (.of_quiet (quiet_send _ _))
  have window := ((h2.trans (.of_quiet (quiet_pulse _ pgTWIN 3))).trans (otherTimers_openRecovery _)).trans
    (otherTimers_disarm _ (tmKey tmTakeover 0) (by decide))
  exact (window.trans (.of_eq (Chip.modTwin_timers _ _))).trans (.of_quiet (quiet_reFlt _))

theorem otherTimers_s3Sequence (src : Nat) : OtherTimers c (c.s3Sequence src) := by
  unfold Chip.s3Sequence
  extract_lets c1
  have h1 : OtherTimers c c1 := (otherTimers_modPlumb c _).trans (otherTimers_enterFenced _ 1)
  exact .ite (.of_eq rfl) (.ite (.of_eq rfl) (.ite (h1.trans (otherTimers_arm _ _ _ (by decide))) h1))

theorem otherTimers_raiseEcho (src inst sev own : Nat) : OtherTimers c (c.raiseEcho src inst sev own) := by
  unfold Chip.raiseEcho
  extract_lets c2 c3 c4 c5 c6 c7 c8 c9 c10 c11
  have h3 : Quiet c c3 := .ite ((quiet_bump _ _ _ _ _).trans (quiet_bump _ _ _ _ _)) (quiet_bump _ _ _ _ _)
  have h4 : Quiet c c4 := h3.trans (quiet_wr _ _ _ _ _)
  have h5 : OtherTimers c c5 := ((OtherTimers.of_quiet h4).trans (otherTimers_modPlumb c4 _)).trans (.of_quiet (quiet_reMaxSev _))
  have h6 : OtherTimers c c6 := .ite h5 (h5.trans (.of_quiet (quiet_pulse _ _ _)))
  have h7 : OtherTimers c c7 := h6.trans (.of_quiet (quiet_capCause _ _))
  have h8 : OtherTimers c c8 := .ite (h7.trans (.of_quiet (quiet_quiescePart _ _))) h7
  have h9 : OtherTimers c c9 := .ite (h8.trans (otherTimers_settleFail _)) h8
  have h10 : OtherTimers c c10 := .ite (h9.trans (.of_eq (swapAbort_timers _ _))) h9
  have h11 : OtherTimers c c11 := by
    unfold c11
    split
    · rename_i hlate
      have kind : tmKey tmLate inst / 65536 ∈ raiseTimers := by
        rw [show tmKey tmLate inst / 65536 = tmLate by simp only [tmKey]; omega]
        decide
      exact (h10.trans (.of_quiet (quiet_up _ _ _ _ _))).trans (otherTimers_arm _ _ _ kind)
    · exact h10
  exact .ite (h11.trans (otherTimers_s3Sequence _ _)) h11

/-- A raise leaves the timers of every kind that `raiseTimers` does not name. -/
theorem otherTimers_raise (src inst : Nat) (payload : Bytes) : OtherTimers c (c.raise src inst payload) := by
  by_cases hs : srcInfo src = none
  · rw [raise_of_none c inst payload hs]
    exact .of_eq rfl
  · cases hp : c.plumb.porst || c.plumb.stopped with
    | true => rw [raise_unpowered c src inst payload hp]; exact .of_eq rfl
    | false =>
      rw [raise_powered c inst payload hs hp]
      have shown : OtherTimers c ((c.record src inst (c.srcSev src) (c.srcOwner src inst) payload).showRaise src inst (c.srcSev src)) :=
        (otherTimers_record c _ _ _ _ _).trans (.of_quiet (quiet_hw _ _ _))
      exact shown.trans (otherTimers_raiseEcho _ _ _ _ _)
end

/-! The start. -/

/-- Plumb ROM runs as before, and the last power-up and brown-out are noted as before. -/
structure SameRom (c d : Chip) : Prop where
  rom : d.plumb.rom = c.plumb.rom
  por : d.plumb.por = c.plumb.por
  brown : d.plumb.brown = c.plumb.brown

section
variable {c d e : Chip}

theorem SameRom.of_plumb (h : d.plumb = c.plumb) : SameRom c d := by
  constructor <;> rw [h]

theorem SameRom.of_quiet (h : Quiet c d) : SameRom c d := .of_plumb h.plumb

theorem SameRom.of_still {l : Bool} (h : Still l c d) : SameRom c d := by
  constructor <;> rw [h.plumb]

theorem SameRom.trans (h : SameRom c d) (j : SameRom d e) : SameRom c e :=
  ⟨j.rom.trans h.rom, j.por.trans h.por, j.brown.trans h.brown⟩

theorem SameRom.ite {p : Prop} [Decidable p] (h : SameRom c d) (j : SameRom c e) : SameRom c (if p then d else e) := by
  split
  · exact h
  · exact j
end

section
variable (c : Chip)

theorem sameRom_modPlumb (f : PlumbSt → PlumbSt)
    (h : ∀ p, (f p).rom = p.rom ∧ (f p).por = p.por ∧ (f p).brown = p.brown) : SameRom c (c.modPlumb f) := by
  obtain ⟨hrom, hpor, hbrown⟩ := h c.plumb
  exact ⟨hrom, hpor, hbrown⟩

theorem sameRom_arm (k t : Nat) : SameRom c (c.arm k t) := .of_plumb (Chip.arm_plumb c k t)

theorem quiet_setStep (v : Nat) : Quiet c (c.setStep v) := by
  unfold Chip.setStep
  exact .ite (.refl c) (quiet_up _ _ _ _ _)

theorem quiet_seqState (v : Nat) : Quiet c (c.seqState v) := by
  unfold Chip.seqState
  extract_lets c1
  have h1 : Quiet c c1 := .ite (.refl c) (quiet_up _ _ _ _ _)
  exact .ite h1 (h1.trans (quiet_up _ _ _ _ _))

theorem sameRom_record (code source sev part : Nat) (payload : Bytes) : SameRom c (c.record code source sev part payload) :=
  .of_still (still_record (l := false) c code source sev part payload false)

theorem sameRom_reFlt : SameRom c c.reFlt := .of_quiet (quiet_reFlt c)

theorem sameRom_startPlls : SameRom c c.startPlls := by
  unfold Chip.startPlls
  refine .ite ?_ (.of_still (.foldc (l := false) (fun i _ c => still_arm c _ _) c))
  have halted := (sameRom_modPlumb c (fun p => { p with halted := true }) (fun _ => ⟨rfl, rfl, rfl⟩)).trans
    (.of_quiet (quiet_hw _ pgSYS [(R.SYS_RESULT, 0, 1), (R.SYS_FAIL_ISLAND, 0, 0x3F)]))
  exact (halted.trans (.of_still (still_raise _ 4 0 []))).trans (sameRom_reFlt _)

theorem sameRom_seqUp : SameRom c c.seqUp := by
  unfold Chip.seqUp
  extract_lets c1 c2 c3 c4 w c5
  have up := (sameRom_modPlumb c (fun p => { p with seqFault := false, hib := false }) (fun _ => ⟨rfl, rfl, rfl⟩)).trans
    (.of_quiet (quiet_seqState _ 2))
  have h1 : SameRom c c1 := up.trans (sameRom_record _ _ _ _ _ _)
  have main : SameRom c1 c1.mainReset := by constructor <;> rw [mainReset_plumb] <;> rfl
  have h2 : SameRom c c2 := (h1.trans main).trans (.of_quiet (quiet_level _ _ _ _))
  have h3 : SameRom c c3 := (h2.trans (.of_quiet (quiet_setStep c2 2))).trans (sameRom_arm (c2.setStep 2) _ _)
  have h4 : SameRom c c4 := .ite (h3.trans (.of_quiet (quiet_up _ _ _ _ _))) h3
  have woken := ((sameRom_modPlumb c4 (fun p => { p with hibWake := 0 }) (fun _ => ⟨rfl, rfl, rfl⟩)).trans
    (.of_quiet (quiet_hw _ pgGAUGE [(R.GAUGE_WAKE_CUR, 0, w % 2), (R.GAUGE_WAKE_IIC2, 0, w / 2)]))).trans (.of_quiet (quiet_pulse _ pgGAUGE 24))
  have h5 : SameRom c c5 := .ite h4 (h4.trans woken)
  exact (h5.trans (sameRom_reFlt c5)).trans (sameRom_startPlls _)

theorem sameRom_seqGo (pos n : Nat) : SameRom c (c.seqGo pos n) := by
  induction n generalizing pos with
  | zero =>
    unfold Chip.seqGo
    exact (sameRom_modPlumb c (fun p => { p with waitPg := false }) (fun _ => ⟨rfl, rfl, rfl⟩)).trans (sameRom_seqUp _)
  | succ n ih =>
    unfold Chip.seqGo
    split
    · rename_i r _
      exact (sameRom_modPlumb c (fun p => { p with pos := pos, rail := r, waitPg := false }) (fun _ => ⟨rfl, rfl, rfl⟩)).trans
        (sameRom_arm _ _ _)
    · exact ih _

theorem sameRom_seqStart : SameRom c c.seqStart := by
  unfold Chip.seqStart
  extract_lets set seen c1
  have h1 : SameRom c c1 := sameRom_modPlumb c _ (fun _ => ⟨rfl, rfl, rfl⟩)
  have enabled := (h1.trans (sameRom_record c1 0x100 0 0 0 [])).trans (.of_quiet (quiet_up _ R.SEQ_EN pgSEQ 0 0))
  exact (enabled.trans (.of_quiet (quiet_seqState _ 1))).trans (sameRom_seqGo _ 0 8)

theorem quiet_fbShow : Quiet c c.fbShow := by
  unfold Chip.fbShow Chip.fbMark
  exact (Quiet.ite (.refl c) (quiet_hw _ _ _)).trans (quiet_level _ _ _ _)

theorem sameRom_fbCheck : SameRom c c.fbCheck := by
  unfold Chip.fbCheck
  extract_lets good torn top seq c1
  have h1 : SameRom c c1 := .of_still (still_modFbk (l := false) c _)
  exact h1.trans (.of_quiet ((((quiet_wr _ _ _ _ _).trans (quiet_wr _ _ _ _ _)).trans (quiet_wr _ _ _ _ _)).trans (quiet_fbShow _)))
end

end Sys2Proof.Machine
end

section
/-! PROOFS. The watchdog pair, the reset pins, the reset key, the timeout of a start and the end of Plumb ROM (R64, R67, R86, R89, R90, R91,
R432, R515). -/

namespace Sys2Proof.Machine

/-! The watchdog pair (R432). -/

theorem watchdogService_acts (s : State) (hw : s.chip.plumb.wdog = false) :
    ∃ t, exec .watchdogService s = .next t ∧ mapGet t.chip.timers (tmKey tmWdog 0) 0 = s.chip.now + dqMs + 1 := by
  refine ⟨_, rfl, ?_⟩
  rw [State.onChip_chip, watchdogService, if_neg (by simp [hw]), Chip.arm_timers, mapGet_mapSet_same]

/-- FLT_OUT shows the fault code where one of its conditions holds (R429). -/
theorem reFlt_fault {c : Chip} (h : c.fltFault = true) : c.reFlt.rd R.FCU_FLT_OUT pgFCU = 1 := by
  simp only [Chip.reFlt, h, if_true]
  split
  · assumption
  · exact rd_up_same _ _ _ _ _ (by decide) (by decide)

theorem watchdogExpiry_acts (s : State) (hp : s.chip.plumb.porst = false) (hs : s.chip.plumb.stopped = false)
    (hw : s.chip.plumb.wdog = false) :
    ∃ t, exec .watchdogExpiry s = .next t ∧ t.chip.plumb.wdog = true ∧ t.chip.plumb.fenced = true ∧ t.chip.mram.wdogFlag = true
      ∧ t.chip.rd R.FCU_FLT_OUT pgFCU = 1 ∧ mapGet t.chip.timers (tmKey tmWdogRst 0) 0 = s.chip.now + 10 * dqMs + 1 := by
  refine ⟨_, rfl, ?_⟩
  rw [State.onChip_chip, watchdogExpiry, if_neg (by simp [hp, hs, hw])]
  extract_lets c1
  set d := (c1.disarm (tmKey tmWdog 0)).arm (tmKey tmWdogRst 0) (10 * dqMs)
  have q := quiet_reFlt d
  refine ⟨by rw [q.plumb]; rfl, by rw [q.plumb]; rfl, by rw [q.mram]; rfl, reFlt_fault (by simp [Chip.fltFault, d, c1]), ?_⟩
  rw [q.timers, Chip.arm_timers, mapGet_mapSet_same]
  rfl

section
variable (s : State) (hd : s.chip.due (tmKey tmWdogRst 0) = true)
include hd

theorem watchdogReset_begins (hw : s.chip.writeBusy = false) :
    ∃ t, exec .watchdogReset s = .next t ∧ t.chip.rd R.SYS_WDOG pgSYS = 1 ∧ t.chip.plumb.porst = false ∧ t.chip.plumb.rom = true
      ∧ t.chip.plumb.rstWait = none ∧ t.mem = [] ∧ t.cap = [] :=
  ⟨_, congrArg Host.Outcome.next (if_pos hd), fullReset_begins s R.SYS_WDOG false hw (by decide)⟩

theorem watchdogReset_waits (hw : s.chip.writeBusy = true) :
    ∃ t, exec .watchdogReset s = .next t ∧ t.chip.plumb.rstWait.isSome = true ∧ t.chip.plumb.locked = [] ∧ t.chip.plumb.mgmtUp = false
      ∧ t.mem = [] ∧ t.cap = [] :=
  ⟨_, congrArg Host.Outcome.next (if_pos hd), fullReset_waits s R.SYS_WDOG false hw⟩
end

/-! PORST_N (R64, R67, R86, R89). -/

/-- A power-on reset keeps the straps that were sampled last (R61, R89). -/
theorem powerReset_strap (c : Chip) {f : Fld} (hf : f ∈ strapFields) : c.powerReset.rd f pgSYS = c.rd f pgSYS := by
  have hkeys : ∀ f ∈ strapFields, sysKey (fldKey f pgSYS 0) = true := by decide
  simp only [Chip.powerReset, Chip.rd]
  rw [mapGet_keepFields_page _ _ (hkeys f hf) _ (by decide), mapGet_keepFields_mem _ _ hf (by decide)]

/-- It leaves the power-good inputs as their regulators drive them (R72, R89). -/
theorem powerReset_powerGood (c : Chip) : c.powerReset.rd R.SEQ_PG pgSEQ = c.rd R.SEQ_PG pgSEQ := by
  simp only [Chip.powerReset, Chip.rd]
  rw [mapGet_keepFields_mem _ _ (by simp) (by simp)]

theorem porstNAssert_acts (s : State) :
    ∃ t, exec .porstNAssert s = .next t ∧ t.chip.plumb.porst = true ∧ t.mem = [] ∧ t.cap = [] ∧ t.chip.stages = s.chip.stages
      ∧ t.chip.mram = s.chip.mram ∧ t.chip.timers = [] ∧ t.chip.rd R.SYS_TWIN_ID pgSYS = s.chip.rd R.SYS_TWIN_ID pgSYS
      ∧ t.chip.rd R.SEQ_PG pgSEQ = s.chip.rd R.SEQ_PG pgSEQ := by
  refine ⟨_, rfl, rfl, rfl, rfl, rfl, rfl, rfl, ?_, ?_⟩
  · exact powerReset_strap s.chip (by decide)
  · exact powerReset_powerGood s.chip

/-- A flag written as a number is read as it was written. -/
theorem b2n_mod_two (b : Bool) : b2n b % 2 ^ 1 = b2n b := by cases b <;> rfl

theorem porstNRise_acts (s : State) (b : Byte) (hp : s.chip.plumb.porst = true) :
    ∃ t, exec (.porstNRise b) s = .next t ∧ t.chip.datum = 0 ∧ t.chip.plumb.porst = false ∧ t.chip.plumb.rom = true
      ∧ t.chip.rd R.SYS_TWIN_ID pgSYS = b2n (b.getLsbD 0) ∧ t.chip.rd R.SYS_SOLO_ALLOWED pgSYS = b2n (b.getLsbD 5) := by
  refine ⟨_, rfl, ?_⟩
  rw [State.onChip_chip, porstRise, if_neg (by simp [hp])]
  extract_lets bit c1 c2 c3
  have after := sysStands_mainReset c3
  have hregs : c3.regs = c1.loadRegs c1.regs := by simp only [c3, c2, Chip.modPlumb_regs]
  have strap (f : Fld) (hk : sysKey (fldKey f pgSYS 0) = true) (hn : noisy (fldKey f pgSYS 0) = false) :
      c3.mainReset.rd f pgSYS = c1.rd f pgSYS := by
    rw [after.rd f pgSYS 0 hk hn, Chip.rd, Chip.modPlumb_regs, hregs, mapGet_loadRegs c1 hk, Chip.rd]
  refine ⟨(sameTime_mainReset c3).2, by rw [mainReset_plumb]; rfl, by rw [mainReset_plumb]; rfl, ?_, ?_⟩
  · rw [strap _ (by decide) (by decide), rd_hw _ _ _ _ _ _ (by decide) (by decide)]
    simp only [foldc, List.foldl_cons, List.foldl_nil]
    iterate 5 rw [rd_wr_ne _ _ _ _ _ _ _ _ (by decide)]
    rw [rd_wr_same]
    exact b2n_mod_two _
  · rw [strap _ (by decide) (by decide), rd_hw _ _ _ _ _ _ (by decide) (by decide)]
    simp only [foldc, List.foldl_cons, List.foldl_nil]
    iterate 2 rw [rd_wr_ne _ _ _ _ _ _ _ _ (by decide)]
    rw [rd_wr_same]
    exact b2n_mod_two _

/-! RESET_N (R90). -/

section
variable {s : State} {n : Nat}

/-- A pulse that RESET_N recognises starts a full reset. -/
theorem resetNAssert_recognised (hp : s.chip.plumb.porst = false) (hs : s.chip.plumb.stopped = false) (hr : s.chip.plumb.resetN = false)
    (h100 : 100 ≤ n) (hn : 1000 ≤ n ∨ Config.recognisesPulse n = true) : resetNAssert s n = s.fullReset R.SYS_PIN true := by
  rw [resetNAssert, if_neg (by simp [hp, hs, hr]), if_neg (by omega), if_pos hn]

/-- One that it does not recognise starts none. -/
theorem resetNAssert_ignored (hn : n < 100 ∨ n < 1000 ∧ Config.recognisesPulse n = false) : resetNAssert s n = s := by
  unfold resetNAssert
  split
  · rfl
  · split
    · rfl
    · refine if_neg ?_
      rcases hn with hn | ⟨hn, hrec⟩
      · omega
      · rw [hrec]
        simp [hn]
end

section
variable (s : State) (n : Nat) (hp : s.chip.plumb.porst = false) (hs : s.chip.plumb.stopped = false) (hr : s.chip.plumb.resetN = false)
include hp hs hr

theorem resetNAssert_begins (hn : 1000 ≤ n) (hw : s.chip.writeBusy = false) :
    ∃ t, exec (.resetNAssert n) s = .next t ∧ t.chip.rd R.SYS_PIN pgSYS = 1 ∧ t.chip.plumb.porst = false ∧ t.chip.plumb.rom = true
      ∧ t.chip.plumb.rstWait = none ∧ t.mem = [] ∧ t.cap = [] ∧ t.chip.plumb.resetN = true := by
  refine ⟨_, congrArg Host.Outcome.next (resetNAssert_recognised hp hs hr (by omega) (.inl hn)), ?_⟩
  obtain ⟨hcause, hporst, hrom, hwait, hmem, hcap⟩ := fullReset_begins s R.SYS_PIN true hw (by decide)
  exact ⟨hcause, hporst, hrom, hwait, hmem, hcap, (fullReset_resetN s R.SYS_PIN true).trans (Bool.or_true _)⟩

theorem resetNAssert_waits (hn : 1000 ≤ n) (hw : s.chip.writeBusy = true) :
    ∃ t, exec (.resetNAssert n) s = .next t ∧ t.chip.plumb.rstWait.isSome = true ∧ t.chip.plumb.locked = [] ∧ t.chip.plumb.mgmtUp = false
      ∧ t.mem = [] ∧ t.cap = [] ∧ t.chip.plumb.resetN = true := by
  refine ⟨_, congrArg Host.Outcome.next (resetNAssert_recognised hp hs hr (by omega) (.inl hn)), ?_⟩
  obtain ⟨hwait, hlocked, hup, hmem, hcap⟩ := fullReset_waits s R.SYS_PIN true hw
  exact ⟨hwait, hlocked, hup, hmem, hcap, (fullReset_resetN s R.SYS_PIN true).trans (Bool.or_true _)⟩

theorem resetNAssert_pulse (hn : 100 ≤ n) (hlt : n < 1000) :
    ∃ t, exec (.resetNAssert n) s = .next t ∧ (Config.recognisesPulse n = false → t = s)
      ∧ (Config.recognisesPulse n = true → t.chip.plumb.resetN = true ∧ t.mem = []) := by
  refine ⟨resetNAssert s n, rfl, fun hrec => resetNAssert_ignored (.inr ⟨hlt, hrec⟩), fun hrec => ?_⟩
  rw [resetNAssert_recognised hp hs hr hn (.inr hrec)]
  exact ⟨(fullReset_resetN s R.SYS_PIN true).trans (Bool.or_true _), rfl⟩
end

theorem resetNAssert_short (s : State) (n : Nat) (hn : n < 100) : ∃ t, exec (.resetNAssert n) s = .next t ∧ t = s :=
  ⟨resetNAssert s n, rfl, resetNAssert_ignored (.inl hn)⟩

theorem resetNRelease_acts (s : State) (hr : s.chip.plumb.resetN = true) :
    ∃ t, exec .resetNRelease s = .next t ∧ t.chip.plumb.resetN = false ∧ t.chip.plumb.resetAt = s.chip.now := by
  refine ⟨_, rfl, ?_⟩
  rw [State.onChip_chip, resetNRelease, if_pos hr]
  exact ⟨rfl, rfl⟩

/-! Plumb ROM (R80, R89, R96). -/

theorem romSelftestDone_acts (s : State) (hrom : s.chip.plumb.rom = true) (hp : s.chip.plumb.porst = false)
    (hr : s.chip.plumb.resetN = false) (hs : s.chip.plumb.stopped = false) :
    ∃ t, exec .romSelftestDone s = .next t ∧ t.chip.plumb.rom = false ∧ t.chip.plumb.por = false ∧ t.chip.plumb.brown = false := by
  refine ⟨_, rfl, ?_⟩
  rw [State.onChip_chip, romDone, if_neg (by simp [hrom, hp, hr, hs])]
  extract_lets power c0 c1 c2 c3 c4 st
  have h1 : SameRom (c0.modPlumb (fun p => { p with rom := false, por := false, brown := false })) c1 :=
    (sameRom_fbCheck _).trans (.of_quiet (quiet_setStep _ 1))
  have h2 : SameRom c1 c2 := .ite ((sameRom_record c1 0x103 0 2 0 []).trans (.of_quiet (quiet_up _ _ _ _ _))) (.of_plumb rfl)
  have noted : SameRom c2 (c2.modMram (fun m => { m with wdogFlag := false })) := .of_plumb rfl
  have h3 : SameRom c2 c3 := .ite (noted.trans (.of_still (still_raise _ 1 0 []))) (.of_plumb rfl)
  have h4 : SameRom c1 c4 := (h2.trans h3).trans (sameRom_reFlt c3)
  have start : SameRom c4 (if st = 2 then (c4.setStep 2).startPlls
      else if st = 4 ∨ c4.on R.THM_SHUTDOWN_LOCK pgTHM then c4 else c4.seqStart) :=
    .ite ((SameRom.of_quiet (quiet_setStep c4 2)).trans (sameRom_startPlls _)) (.ite (.of_plumb rfl) (sameRom_seqStart c4))
  obtain ⟨hrom', hpor, hbrown⟩ := (h1.trans h4).trans start
  exact ⟨hrom', hpor, hbrown⟩

/-! The reset key (R91, R515). -/

theorem resetKeyLapse_acts (s : State) (hd : s.chip.due (tmKey tmKeyReset 0) = true) (hk : s.chip.plumb.key = 1) :
    ∃ t, exec .resetKeyLapse s = .next t ∧ t.chip.plumb.key = 0 ∧ t.chip.armed (tmKey tmKeyReset 0) = false := by
  refine ⟨_, rfl, ?_⟩
  rw [State.onChip_chip, resetKeyLapse, if_pos (by simp [hd, hk])]
  set d := (s.chip.disarm (tmKey tmKeyReset 0)).modPlumb (fun p => { p with key := 0 })
  have stopped : mapGet d.timers (tmKey tmKeyReset 0) 0 = 0 := mapGet_mapSet_same _ _ _ _
  have key : (d.raise 0xD 0).plumb.key = d.plumb.key := by rw [(still_raise d 0xD 0 []).plumb]
  refine ⟨key, ?_⟩
  rw [Chip.armed, otherTimers_raise d 0xD 0 [] _ (by decide), stopped]
  rfl

section
variable (s : State) (hd : s.chip.due (tmKey tmResetBegin 0) = true)
include hd

theorem keyResetStart_begins (hw : s.chip.writeBusy = false) :
    ∃ t, exec .keyResetStart s = .next t ∧ t.chip.rd R.SYS_KEY pgSYS = 1 ∧ t.chip.plumb.porst = false ∧ t.chip.plumb.rom = true
      ∧ t.chip.plumb.rstWait = none ∧ t.mem = [] ∧ t.cap = [] :=
  ⟨_, congrArg Host.Outcome.next (if_pos hd), fullReset_begins s R.SYS_KEY false hw (by decide)⟩

theorem keyResetStart_waits (hw : s.chip.writeBusy = true) :
    ∃ t, exec .keyResetStart s = .next t ∧ t.chip.plumb.rstWait.isSome = true ∧ t.chip.plumb.locked = [] ∧ t.chip.plumb.mgmtUp = false
      ∧ t.mem = [] ∧ t.cap = [] :=
  ⟨_, congrArg Host.Outcome.next (if_pos hd), fullReset_waits s R.SYS_KEY false hw⟩
end

/-! The timeout of a start (R493). -/

/-- The state with the ACTIVE slot marked bad. -/
def State.activeBad (s : State) : State := s.onChip (fun c => c.modMram (fun m => { m with activeBad := true }))

section
variable (s : State) (hd : s.chip.due (tmKey tmBoot 0) = true) (h5 : s.chip.rd R.SYS_STEP pgSYS < 5)
include hd h5

theorem exec_bootTimeout : exec .bootTimeout s = .next (s.activeBad.fullReset R.SYS_BOOT_TIMEOUT false) :=
  congrArg Host.Outcome.next (if_pos (by simp [hd, h5]))

theorem bootTimeout_begins (hw : s.chip.writeBusy = false) :
    ∃ t, exec .bootTimeout s = .next t ∧ t.chip.rd R.SYS_BOOT_TIMEOUT pgSYS = 1 ∧ t.chip.plumb.porst = false ∧ t.chip.plumb.rom = true
      ∧ t.chip.plumb.rstWait = none ∧ t.mem = [] ∧ t.cap = [] ∧ t.chip.mram.activeBad = true := by
  refine ⟨_, exec_bootTimeout s hd h5, ?_⟩
  obtain ⟨hcause, hporst, hrom, hwait, hmem, hcap⟩ := fullReset_begins s.activeBad R.SYS_BOOT_TIMEOUT false hw (by decide)
  exact ⟨hcause, hporst, hrom, hwait, hmem, hcap, by rw [fullReset_mram]; rfl⟩

theorem bootTimeout_waits (hw : s.chip.writeBusy = true) :
    ∃ t, exec .bootTimeout s = .next t ∧ t.chip.plumb.rstWait.isSome = true ∧ t.chip.plumb.locked = [] ∧ t.chip.plumb.mgmtUp = false
      ∧ t.mem = [] ∧ t.cap = [] ∧ t.chip.mram.activeBad = true := by
  refine ⟨_, exec_bootTimeout s hd h5, ?_⟩
  obtain ⟨hwait, hlocked, hup, hmem, hcap⟩ := fullReset_waits s.activeBad R.SYS_BOOT_TIMEOUT false hw
  exact ⟨hwait, hlocked, hup, hmem, hcap, by rw [fullReset_mram]; rfl⟩
end

/-- Settles O21, clause by clause. -/
theorem watchdogAndResetCommandsAct : Obligations.WatchdogAndResetCommandsAct :=
  ⟨watchdogService_acts, watchdogExpiry_acts, watchdogReset_begins, watchdogReset_waits, porstNAssert_acts, porstNRise_acts,
    resetNAssert_begins, resetNAssert_waits, resetNAssert_pulse, resetNAssert_short, resetNRelease_acts, romSelftestDone_acts,
    resetKeyLapse_acts, keyResetStart_begins, keyResetStart_waits, bootTimeout_begins, bootTimeout_waits⟩

end Sys2Proof.Machine
end

section
/-! PROOFS. RESET_CAUSE after each reset (R90, R92, R502). -/

namespace Sys2Proof.Machine

/-! The word of RESET_CAUSE. -/

theorem rowsAt_resetCause : PageKind.rowsAt .sys 0x108 = causeFields.map (fun f => (⟨f, 1, .ro⟩, 0)) := by decide +kernel

/-- Where one cause's field is set and no other's, the word of RESET_CAUSE has that one bit. -/
theorem resetCause_word {c : Chip} {cause : Fld} (hc : cause ∈ causeFields)
    (h : ∀ f ∈ causeFields, c.rd f pgSYS = if f = cause then 1 else 0) : c.regWord .sys 0 0x108 0 = 2 ^ cause.lo := by
  have word : c.regWord .sys 0 0x108 0 = causeFields.foldl (fun w f => w + 2 ^ f.lo * c.rd f pgSYS) 0 := by
    show c.storedWord .sys pgSYS 0x108 = _
    rw [Chip.storedWord, rowsAt_resetCause, List.foldl_map]
    rfl
  have bits : causeFields.foldl (fun w f => w + 2 ^ f.lo * c.rd f pgSYS) 0
      = causeFields.foldl (fun w f => w + 2 ^ f.lo * if f = cause then 1 else 0) 0 :=
    List.foldl_ext _ _ _ (fun w f hf => by rw [h f hf])
  have sums : ∀ cause ∈ causeFields, causeFields.foldl (fun w f => w + 2 ^ f.lo * if f = cause then 1 else 0) 0 = 2 ^ cause.lo := by
    decide +kernel
  rw [word, bits, sums cause hc]

theorem causeField_strap : ∀ f ∈ causeFields, ∀ g ∈ strapFields, fldKey f pgSYS 0 ≠ fldKey g pgSYS 0 := by decide

theorem causeField_rst : ∀ f ∈ causeFields, f.rst = 0 := by decide

theorem causeField_ne : ∀ f ∈ causeFields, ∀ g ∈ causeFields, f ≠ g → fldKey f pgSYS 0 ≠ fldKey g pgSYS 0 := by decide

/-- A full reset leaves its cause and no other in RESET_CAUSE (R92). -/
theorem plumbReset_causes (c : Chip) {cause : Fld} (pin : Bool) (hc : cause ∈ causeFields) {f : Fld} (hf : f ∈ causeFields) :
    (c.plumbReset cause pin).rd f pgSYS = if f = cause then 1 else 0 := by
  obtain ⟨hk, hres⟩ := causeField_key f hf
  unfold Chip.plumbReset
  extract_lets p stayUp lockout m0 m1 m2 m3 m4 m5 m6 q tms k fb c1
  have h1 : mapGet m1 (fldKey f pgSYS 0) f.rst = 0 := by
    rw [show m1 = keepFields c.regs m0 pgFCU _ from rfl, mapGet_keepFields_page _ _ hk _ (by decide),
      show m0 = keepFields c.regs [] pgSYS _ from rfl, mapGet_keepFields_ne _ _ (causeField_strap f hf)]
    exact causeField_rst f hf
  have h2 : mapGet m2 (fldKey f pgSYS 0) f.rst = if f = cause then 1 else 0 := by
    split
    · rename_i heq
      subst heq
      exact mapGet_mapSet_same m1 _ _ _
    · rename_i hne
      exact (mapGet_mapSet_ne m1 (causeField_ne f hf cause hc hne) _ _).trans h1
  have h3 : mapGet m3 (fldKey f pgSYS 0) f.rst = mapGet m2 (fldKey f pgSYS 0) f.rst := by
    unfold m3
    split <;> exact mapGet_keepFields_page _ _ hk _ (by decide) _
  have h4 : mapGet m4 (fldKey f pgSYS 0) f.rst = mapGet m3 (fldKey f pgSYS 0) f.rst := by
    unfold m4
    split
    · rfl
    · exact mapGet_keepFields_page _ _ hk _ (by decide) _
  have h5 : mapGet m5 (fldKey f pgSYS 0) f.rst = mapGet m4 (fldKey f pgSYS 0) f.rst := by
    unfold m5
    split
    · exact mapGet_setField hk _ _ _ _ _ (by decide)
    · rfl
  have h6 : mapGet m6 (fldKey f pgSYS 0) f.rst = mapGet m5 (fldKey f pgSYS 0) f.rst := by
    unfold m6
    split
    · exact mapGet_mapSet_ne m5 hres _ _
    · rfl
  have after := ((sysStands_mainReset c1).trans (sysStands_wr _ R.FBK_QUEUE pgFBK k.queue.length 0 (by decide))).trans (sysStands_reFlt _)
  rw [after.rd f pgSYS 0 hk (causeField_noisy f hf), Chip.modPlumb_rd, Chip.rd, show c1.regs = c.loadRegs m6 by simp only [c1],
    mapGet_loadRegs c hk, h6, h5, h4, h3, h2]

theorem plumbReset_word (c : Chip) {cause : Fld} (pin : Bool) (hc : cause ∈ causeFields) :
    (c.plumbReset cause pin).regWord .sys 0 0x108 0 = 2 ^ cause.lo :=
  resetCause_word hc (fun _ hf => plumbReset_causes c pin hc hf)

/-- A power-on reset leaves PORST alone (R92). -/
theorem powerReset_causes (c : Chip) {f : Fld} (hf : f ∈ causeFields) : c.powerReset.rd f pgSYS = if f = R.SYS_PORST then 1 else 0 := by
  obtain ⟨hk, -⟩ := causeField_key f hf
  have atReset : ∀ f ∈ causeFields, State.reset.chip.rd f pgSYS = if f = R.SYS_PORST then 1 else 0 := by decide +kernel
  simp only [Chip.powerReset, Chip.rd]
  rw [mapGet_keepFields_page _ _ hk _ (by decide), mapGet_keepFields_ne _ _ (causeField_strap f hf), mapGet_keepFields_page _ _ hk _ (by decide)]
  exact atReset f hf

theorem porstNAssert_word (s : State) : ∃ t, exec .porstNAssert s = .next t ∧ t.chip.regWord .sys 0 0x108 0 = 1 :=
  ⟨_, rfl, resetCause_word (by decide) (fun _ hf => powerReset_causes s.chip hf)⟩

/-! A full reset at once, and one that waits for a record write (R90). -/

theorem fullReset_word (s : State) {cause : Fld} (pin : Bool) (hc : cause ∈ causeFields) (hw : s.chip.writeBusy = false) :
    (s.fullReset cause pin).chip.regWord .sys 0 0x108 0 = 2 ^ cause.lo := by
  rw [show (s.fullReset cause pin).chip = _ from fullReset_free s.chip cause pin hw, plumbReset_word _ pin hc]

/-- Plumb holds the number of the cause while it waits. -/
theorem fullReset_held (s : State) (cause : Fld) (pin : Bool) (hw : s.chip.writeBusy = true) (hn : s.chip.plumb.rstWait = none) :
    (s.fullReset cause pin).chip.plumb.rstWait = some ((causeFields.findIdx? (· == cause)).getD 0, pin) := by
  have after : (s.chip.notePin pin).mainReset.plumb.rstWait = none := by rw [mainReset_plumb]; exact hn
  rw [show (s.fullReset cause pin).chip = _ from if_pos hw, Chip.modPlumb_plumb]
  show some _ = _
  rw [show ((s.chip.modPlumb (fun p => { p with resetN := p.resetN || pin })).mainReset).plumb.rstWait = none from after]

/-- When the write has ended Plumb enters the reset with the cause that it held. -/
theorem resetTick_word (c : Chip) (n : Nat) (pin : Bool) (hn : n < 8) (hq : c.plumb.rstWait = some (n, pin)) (hw : c.writeBusy = false) :
    c.resetTick.regWord .sys 0 0x108 0 = 2 ^ n := by
  have held : ∀ n < 8, causeFields[n]?.getD R.SYS_PIN ∈ causeFields ∧ (causeFields[n]?.getD R.SYS_PIN).lo = n := by decide
  obtain ⟨hc, hlo⟩ := held n hn
  have hstep : c.resetTick = c.plumbReset (causeFields[n]?.getD R.SYS_PIN) pin := by simp [Chip.resetTick, hq, hw]
  rw [hstep, plumbReset_word c pin hc, hlo]

/-! A glitch leaves the record write in progress as it was (R448, R502). -/

/-- The record write in progress and the time of the last one stand, and so does the model clock. -/
structure SameWrite (c d : Chip) : Prop where
  now : d.now = c.now
  writing : d.fbk.writing = c.fbk.writing
  lastWrite : d.fbk.lastWrite = c.fbk.lastWrite

section
variable {c d e : Chip}

theorem SameWrite.of_fbk (hn : d.now = c.now) (hf : d.fbk = c.fbk) : SameWrite c d := ⟨hn, by rw [hf], by rw [hf]⟩

theorem SameWrite.of_quiet (h : Quiet c d) : SameWrite c d := .of_fbk h.now h.fbk

theorem SameWrite.trans (h : SameWrite c d) (j : SameWrite d e) : SameWrite c e :=
  ⟨j.now.trans h.now, j.writing.trans h.writing, j.lastWrite.trans h.lastWrite⟩

theorem SameWrite.ite {p : Prop} [Decidable p] (h : SameWrite c d) (j : SameWrite c e) : SameWrite c (if p then d else e) := by
  split
  · exact h
  · exact j

theorem SameWrite.writeBusy (h : SameWrite c d) : d.writeBusy = c.writeBusy := by
  simp only [Chip.writeBusy, h.now, h.writing, h.lastWrite]
end

section
variable (c : Chip)

theorem sameWrite_modFbk (f : FbkSt → FbkSt) (h : ∀ k, (f k).writing = k.writing ∧ (f k).lastWrite = k.lastWrite) :
    SameWrite c (c.modFbk f) := ⟨rfl, (h c.fbk).1, (h c.fbk).2⟩

theorem sameWrite_modPlumb (f : PlumbSt → PlumbSt) : SameWrite c (c.modPlumb f) := .of_fbk rfl rfl
theorem sameWrite_modTwin (f : TwinSt → TwinSt) : SameWrite c (c.modTwin f) := .of_fbk rfl rfl
theorem sameWrite_modFwu (f : FwuSt → FwuSt) : SameWrite c (c.modFwu f) := .of_fbk rfl rfl
theorem sameWrite_modFlash (f : FlashSt → FlashSt) : SameWrite c (c.modFlash f) := .of_fbk rfl rfl
theorem sameWrite_arm (k t : Nat) : SameWrite c (c.arm k t) := .of_fbk rfl rfl
theorem sameWrite_disarm (k : Nat) : SameWrite c (c.disarm k) := .of_fbk rfl rfl

theorem sameWrite_countDrop (r : FbRec) : SameWrite c (c.countDrop r) := by
  unfold Chip.countDrop
  extract_lets w
  have counted : SameWrite c (c.bump R.FBK_DROPPED pgFBK) := .of_quiet (quiet_bump _ _ _ _ _)
  have dropped (c : Chip) : SameWrite c (c.modFbk (fun k => { k with dropped := setAt k.dropped r.part (w + 1) })) :=
    sameWrite_modFbk c _ (fun _ => ⟨rfl, rfl⟩)
  exact (counted.trans (dropped _)).trans (.of_quiet (quiet_pulse _ _ _))

theorem sameWrite_enqueue (r : FbRec) : SameWrite c (c.enqueue r) := by
  unfold Chip.enqueue
  extract_lets q c1
  have queued (q : List FbRec) : SameWrite c (c.modFbk (fun k => { k with queue := q })) := sameWrite_modFbk c _ (fun _ => ⟨rfl, rfl⟩)
  have h1 : SameWrite c c1 := (queued _).trans (.of_quiet (quiet_up _ _ _ _ _))
  refine .ite (.of_fbk rfl rfl) (.ite (h1.trans (.of_quiet (quiet_level _ _ _ _))) ?_)
  split
  · exact sameWrite_countDrop c r
  · exact (queued _).trans (sameWrite_countDrop _ _)

theorem sameWrite_record (code source sev part : Nat) (payload : Bytes) : SameWrite c (c.record code source sev part payload) := by
  unfold Chip.record
  have free : SameWrite c c.free.2 := .of_fbk rfl rfl
  exact .ite (.of_fbk rfl rfl) ((SameWrite.ite free (.of_fbk rfl rfl)).trans (sameWrite_enqueue _ _))

theorem sameWrite_settleFail : SameWrite c c.settleFail := by
  unfold Chip.settleFail
  extract_lets c1
  have h1 : SameWrite c c1 := sameWrite_modFwu c _
  have armed := (h1.trans (sameWrite_disarm c1 (tmKey tmSettle 0))).trans (sameWrite_arm _ (tmKey tmResume 0) (80 * dqMs))
  exact .ite (armed.trans (.of_quiet ((quiet_up _ _ _ _ _).trans (quiet_pulse _ _ _)))) (.of_fbk rfl rfl)

theorem sameWrite_swapAbort (code : Nat) : SameWrite c (c.swapAbort code) := by
  unfold Chip.swapAbort
  extract_lets none' c1
  have h1 : SameWrite c c1 := ((sameWrite_modFwu c _).trans (sameWrite_modFlash _ _)).trans (.of_quiet (quiet_hw _ _ _))
  have idle := Quiet.foldc (upTo 128) (fun e c => if c.on R.CE_SWAP_BUSY (pgCE e) then c.up R.CE_SWAP_BUSY (pgCE e) 0 else c)
    (fun _ c => .ite (quiet_up _ _ _ _ _) (.refl c)) c1
  exact .ite (.ite (h1.trans (.of_quiet ((idle.trans (quiet_up _ _ _ _ _)).trans (quiet_pulse _ _ _)))) h1) (.of_fbk rfl rfl)

theorem sameWrite_enterFenced (cause : Nat) : SameWrite c (c.enterFenced cause) := by
  unfold Chip.enterFenced
  extract_lets c1 c2
  refine .ite (.of_quiet ((quiet_up _ _ _ _ _).trans (quiet_reFlt _))) ?_
  have h1 : SameWrite c c1 := .of_quiet ((quiet_hw _ _ _).trans (quiet_setRole _ _))
  have h2 : SameWrite c c2 := (h1.trans (sameWrite_modPlumb c1 _)).trans (.of_quiet (quiet_send _ _))
  have window : SameWrite c (c2.pulse pgTWIN 3).openRecovery :=
    (h2.trans (.of_quiet ((quiet_pulse c2 pgTWIN 3).trans (quiet_up _ R.TWIN_RECOVERING pgTWIN 1 0)))).trans
      (sameWrite_arm _ (tmKey tmRecovery 0) (100 * dqMs))
  exact ((window.trans (sameWrite_disarm _ (tmKey tmTakeover 0))).trans (sameWrite_modTwin _ _)).trans (.of_quiet (quiet_reFlt _))

theorem sameWrite_s3Sequence (src : Nat) : SameWrite c (c.s3Sequence src) := by
  unfold Chip.s3Sequence
  extract_lets c1
  have h1 : SameWrite c c1 := (sameWrite_modPlumb c _).trans (sameWrite_enterFenced _ 1)
  exact .ite (.of_fbk rfl rfl) (.ite (.of_fbk rfl rfl) (.ite (h1.trans (sameWrite_arm _ _ _)) h1))

theorem sameWrite_raiseEcho (src inst sev own : Nat) : SameWrite c (c.raiseEcho src inst sev own) := by
  unfold Chip.raiseEcho
  extract_lets c2 c3 c4 c5 c6 c7 c8 c9 c10 c11
  have h3 : Quiet c c3 := .ite ((quiet_bump _ _ _ _ _).trans (quiet_bump _ _ _ _ _)) (quiet_bump _ _ _ _ _)
  have h4 : Quiet c c4 := h3.trans (quiet_wr _ _ _ _ _)
  have h5 : SameWrite c c5 := ((SameWrite.of_quiet h4).trans (sameWrite_modPlumb c4 _)).trans (.of_quiet (quiet_reMaxSev _))
  have h7 : SameWrite c c7 := (SameWrite.ite h5 (h5.trans (.of_quiet (quiet_pulse _ _ _)))).trans (.of_quiet (quiet_capCause c6 _))
  have h8 : SameWrite c c8 := .ite (h7.trans (.of_quiet (quiet_quiescePart _ _))) h7
  have h9 : SameWrite c c9 := .ite (h8.trans (sameWrite_settleFail _)) h8
  have h10 : SameWrite c c10 := .ite (h9.trans (sameWrite_swapAbort _ _)) h9
  have h11 : SameWrite c c11 := .ite ((h10.trans (.of_quiet (quiet_up _ _ _ _ _))).trans (sameWrite_arm _ _ _)) h10
  exact .ite (h11.trans (sameWrite_s3Sequence _ _)) h11

theorem sameWrite_raise (src inst : Nat) (payload : Bytes) : SameWrite c (c.raise src inst payload) := by
  by_cases hs : srcInfo src = none
  · rw [raise_of_none c inst payload hs]
    exact .of_fbk rfl rfl
  · cases hp : c.plumb.porst || c.plumb.stopped with
    | true => rw [raise_unpowered c src inst payload hp]; exact .of_fbk rfl rfl
    | false =>
      rw [raise_powered c inst payload hs hp]
      exact ((sameWrite_record c _ _ _ _ _).trans (.of_quiet (quiet_hw _ _ _))).trans (sameWrite_raiseEcho _ _ _ _ _)

/-- The chip after a glitch, before its full reset (R502): GLITCH is raised, the chip is fenced and MRAM counts it. -/
def Chip.glitched (c : Chip) : Chip := ((c.raise 3 0).enterFenced 1).modMram (fun m => { m with cntGlitch := m.cntGlitch + 1 })

theorem glitched_writeBusy : c.glitched.writeBusy = c.writeBusy :=
  (((sameWrite_raise c 3 0 []).trans (sameWrite_enterFenced _ 1)).trans (.of_fbk rfl rfl)).writeBusy

theorem glitched_rstWait : c.glitched.plumb.rstWait = c.plumb.rstWait := by
  have still := (still_raise c 3 0 []).trans (still_enterFenced _ 1)
  rw [Chip.glitched, Chip.modMram_plumb, still.plumb]
end

section
variable (s : State) (hp : s.chip.plumb.porst = false) (hs : s.chip.plumb.stopped = false)
include hp hs

theorem exec_glitchDetect : exec .glitchDetect s = .next ((s.onChip Chip.glitched).fullReset R.SYS_GLITCH false) :=
  congrArg Host.Outcome.next (if_neg (by simp [hp, hs]))

theorem glitchDetect_held (hw : s.chip.writeBusy = true) (hn : s.chip.plumb.rstWait = none) :
    ∃ t, exec .glitchDetect s = .next t ∧ ∃ q, t.chip.plumb.rstWait = some (4, q) :=
  ⟨_, exec_glitchDetect s hp hs, _, fullReset_held (s.onChip Chip.glitched) R.SYS_GLITCH false ((glitched_writeBusy s.chip).trans hw)
    ((glitched_rstWait s.chip).trans hn)⟩

theorem glitchDetect_word (hw : s.chip.writeBusy = false) :
    ∃ t, exec .glitchDetect s = .next t ∧ t.chip.regWord .sys 0 0x108 0 = 16 :=
  ⟨_, exec_glitchDetect s hp hs, fullReset_word (s.onChip Chip.glitched) false (by decide) ((glitched_writeBusy s.chip).trans hw)⟩
end

/-! The other causes. -/

section
variable (s : State)

theorem resetNAssert_held (n : Nat) (hp : s.chip.plumb.porst = false) (hs : s.chip.plumb.stopped = false) (hr : s.chip.plumb.resetN = false)
    (hn : 1000 ≤ n) (hw : s.chip.writeBusy = true) (hq : s.chip.plumb.rstWait = none) :
    ∃ t, exec (.resetNAssert n) s = .next t ∧ ∃ q, t.chip.plumb.rstWait = some (1, q) :=
  ⟨_, congrArg Host.Outcome.next (resetNAssert_recognised hp hs hr (by omega) (.inl hn)), _, fullReset_held s R.SYS_PIN true hw hq⟩

theorem resetNAssert_word (n : Nat) (hp : s.chip.plumb.porst = false) (hs : s.chip.plumb.stopped = false) (hr : s.chip.plumb.resetN = false)
    (hn : 1000 ≤ n) (hw : s.chip.writeBusy = false) :
    ∃ t, exec (.resetNAssert n) s = .next t ∧ t.chip.regWord .sys 0 0x108 0 = 2 :=
  ⟨_, congrArg Host.Outcome.next (resetNAssert_recognised hp hs hr (by omega) (.inl hn)), fullReset_word s true (by decide) hw⟩

theorem keyResetStart_held (hd : s.chip.due (tmKey tmResetBegin 0) = true) (hw : s.chip.writeBusy = true)
    (hq : s.chip.plumb.rstWait = none) : ∃ t, exec .keyResetStart s = .next t ∧ ∃ q, t.chip.plumb.rstWait = some (2, q) :=
  ⟨_, congrArg Host.Outcome.next (if_pos hd), _, fullReset_held s R.SYS_KEY false hw hq⟩

theorem keyResetStart_word (hd : s.chip.due (tmKey tmResetBegin 0) = true) (hw : s.chip.writeBusy = false) :
    ∃ t, exec .keyResetStart s = .next t ∧ t.chip.regWord .sys 0 0x108 0 = 4 :=
  ⟨_, congrArg Host.Outcome.next (if_pos hd), fullReset_word s false (by decide) hw⟩

theorem watchdogReset_held (hd : s.chip.due (tmKey tmWdogRst 0) = true) (hw : s.chip.writeBusy = true)
    (hq : s.chip.plumb.rstWait = none) : ∃ t, exec .watchdogReset s = .next t ∧ ∃ q, t.chip.plumb.rstWait = some (3, q) :=
  ⟨_, congrArg Host.Outcome.next (if_pos hd), _, fullReset_held s R.SYS_WDOG false hw hq⟩

theorem watchdogReset_word (hd : s.chip.due (tmKey tmWdogRst 0) = true) (hw : s.chip.writeBusy = false) :
    ∃ t, exec .watchdogReset s = .next t ∧ t.chip.regWord .sys 0 0x108 0 = 8 :=
  ⟨_, congrArg Host.Outcome.next (if_pos hd), fullReset_word s false (by decide) hw⟩

section
variable (hd : s.chip.due (tmKey tmCool 0) = true) (ht : s.chip.plumb.thermal = true) (hst : s.chip.rd R.SEQ_STATE pgSEQ ≠ 2)
  (hdn : s.chip.plumb.downPos = none) (hl : s.chip.on R.THM_SHUTDOWN_LOCK pgTHM = false)
include hd ht hst hdn hl

theorem exec_thermalRestart : exec .thermalRestart s = .next (s.fullReset R.SYS_THERMAL false) :=
  congrArg Host.Outcome.next (if_pos (by simp [hd, ht, hst, hdn, hl]))

theorem thermalRestart_held (hw : s.chip.writeBusy = true) (hq : s.chip.plumb.rstWait = none) :
    ∃ t, exec .thermalRestart s = .next t ∧ ∃ q, t.chip.plumb.rstWait = some (5, q) :=
  ⟨_, exec_thermalRestart s hd ht hst hdn hl, _, fullReset_held s R.SYS_THERMAL false hw hq⟩

theorem thermalRestart_word (hw : s.chip.writeBusy = false) :
    ∃ t, exec .thermalRestart s = .next t ∧ t.chip.regWord .sys 0 0x108 0 = 32 :=
  ⟨_, exec_thermalRestart s hd ht hst hdn hl, fullReset_word s false (by decide) hw⟩
end

section
variable (hd : s.chip.due (tmKey tmS3 0) = true) (hh : s.chip.on R.FCU_S3_HOLD pgFCU = false)
include hd hh

theorem exec_s3ResetDelay : exec .s3ResetDelay s = .next (s.fullReset R.SYS_FAULT false) :=
  congrArg Host.Outcome.next ((if_pos hd).trans (if_neg (Bool.eq_false_iff.1 hh)))

theorem s3ResetDelay_held (hw : s.chip.writeBusy = true) (hq : s.chip.plumb.rstWait = none) :
    ∃ t, exec .s3ResetDelay s = .next t ∧ ∃ q, t.chip.plumb.rstWait = some (6, q) :=
  ⟨_, exec_s3ResetDelay s hd hh, _, fullReset_held s R.SYS_FAULT false hw hq⟩

theorem s3ResetDelay_word (hw : s.chip.writeBusy = false) :
    ∃ t, exec .s3ResetDelay s = .next t ∧ t.chip.regWord .sys 0 0x108 0 = 64 :=
  ⟨_, exec_s3ResetDelay s hd hh, fullReset_word s false (by decide) hw⟩
end

theorem bootTimeout_held (hd : s.chip.due (tmKey tmBoot 0) = true) (h5 : s.chip.rd R.SYS_STEP pgSYS < 5) (hw : s.chip.writeBusy = true)
    (hq : s.chip.plumb.rstWait = none) : ∃ t, exec .bootTimeout s = .next t ∧ ∃ q, t.chip.plumb.rstWait = some (7, q) :=
  ⟨_, exec_bootTimeout s hd h5, _, fullReset_held s.activeBad R.SYS_BOOT_TIMEOUT false hw hq⟩

theorem bootTimeout_word (hd : s.chip.due (tmKey tmBoot 0) = true) (h5 : s.chip.rd R.SYS_STEP pgSYS < 5) (hw : s.chip.writeBusy = false) :
    ∃ t, exec .bootTimeout s = .next t ∧ t.chip.regWord .sys 0 0x108 0 = 128 :=
  ⟨_, exec_bootTimeout s hd h5, fullReset_word s.activeBad false (by decide) hw⟩
end

/-- Settles O44, clause by clause. -/
theorem resetCauseIsOneBit : Obligations.ResetCauseIsOneBit :=
  ⟨porstNAssert_word, resetTick_word, resetNAssert_held, resetNAssert_word, keyResetStart_held, keyResetStart_word, watchdogReset_held,
    watchdogReset_word, glitchDetect_held, glitchDetect_word, thermalRestart_held, thermalRestart_word, s3ResetDelay_held, s3ResetDelay_word,
    bootTimeout_held, bootTimeout_word⟩

end Sys2Proof.Machine
end

section
/-! PROOFS. What the operations of the start leave of the sequencer's page, and how a sequence finds its next rail (R69, R73, R89, R526). -/

namespace Sys2Proof.Machine

/-! The sequencer's page. -/

/-- The registers of the SEQ page that no event or counter changes, and MAIN_UP. -/
def railKey (k : Nat) : Bool :=
  (k / 131072 == 2 && !noisy k && k / 32 % 4096 != 0x10) || k == fldKey R.PLUMB_MAIN_UP pgPLUMB 0

theorem railKey_lt {k : Nat} (h : railKey k = true) : 131072 ≤ k ∧ k < 3 * 131072 := by
  simp only [railKey, Bool.or_eq_true, Bool.and_eq_true, beq_iff_eq] at h
  rcases h with ⟨⟨hk, -⟩, -⟩ | rfl
  · omega
  · decide

/-- The pages of Plumb keep their power over a reset of the main islands (R89). -/
theorem railKey_aon {k : Nat} (h : railKey k = true) : aonKey k = true := by
  have hlt := railKey_lt h
  have hp : k / 32 / 0x1000 = 1 ∨ k / 32 / 0x1000 = 2 := by omega
  rcases hp with hp | hp <;> simp [aonKey, pageOf, hp, singlePages, PageKind.aon]

theorem railKey_stirred {l : Bool} {k : Nat} (h : railKey k = true) : stirred l k = false := by
  have hlt := railKey_lt h
  have far : ∀ x ∈ lastRaise ++ raiseShown ++ [fldKey R.DATUM_SOURCE pgDATUM 0], x ≠ k := by
    have : ∀ x ∈ lastRaise ++ raiseShown ++ [fldKey R.DATUM_SOURCE pgDATUM 0], 3 * 131072 ≤ x := by decide
    intro x hx hk
    have := this x hx
    omega
  simp only [railKey, Bool.or_eq_true, Bool.and_eq_true, beq_iff_eq, bne_iff_ne, Bool.not_eq_true'] at h
  rcases h with ⟨⟨hk, hn⟩, ho⟩ | rfl
  · have hlast : k ∉ lastRaise := fun hx => far k (by simp [hx]) rfl
    have hshown : k ∉ raiseShown := fun hx => far k (by simp [hx]) rfl
    have hsrc : k ≠ fldKey R.DATUM_SOURCE pgDATUM 0 := fun hx => far k (by simp [hx]) rfl
    have h9 : ¬ 0x9000 ≤ k / 32 := by omega
    have h46 : ¬ 0x4600 ≤ k / 32 := by omega
    simp [stirred, echoed, hn, ho, hk, hlast, hshown, hsrc, h9, h46]
  · cases l <;> decide

/-- A field of a page from THM on is none of them. -/
theorem railKey_page {b : Nat} (f : Fld) (i : Nat) (hb : 0x3000 ≤ b) : railKey (fldKey f b i) = false := by
  by_contra h
  have := (railKey_lt (Bool.of_not_eq_false h)).2
  simp only [fldKey] at this
  omega

/-- The registers of the SEQ page and MAIN_UP stand. -/
def RailsStand (c d : Chip) : Prop := ∀ k, railKey k = true → ∀ v, mapGet d.regs k v = mapGet c.regs k v

section
variable {c d e : Chip}

theorem RailsStand.of_eq (h : d.regs = c.regs) : RailsStand c d := fun _ _ _ => by rw [h]

theorem RailsStand.of_still {l : Bool} (h : Still l c d) : RailsStand c d := fun k hk v => h.regs k (railKey_stirred hk) v

theorem RailsStand.trans (h : RailsStand c d) (j : RailsStand d e) : RailsStand c e := fun k hk v => (j k hk v).trans (h k hk v)

theorem RailsStand.ite {p : Prop} [Decidable p] (h : RailsStand c d) (j : RailsStand c e) : RailsStand c (if p then d else e) := by
  split
  · exact h
  · exact j

theorem RailsStand.foldc {α : Type} (xs : List α) (f : α → Chip → Chip) (hf : ∀ x ∈ xs, ∀ c, RailsStand c (f x c)) (c : Chip) :
    RailsStand c (foldc xs f c) := by
  induction xs generalizing c with
  | nil => exact .of_eq rfl
  | cons x xs ih => exact (hf x (by simp) c).trans (ih (fun y hy => hf y (by simp [hy])) (f x c))

theorem RailsStand.rd (h : RailsStand c d) (f : Fld) (b i : Nat) (hk : railKey (fldKey f b i) = true) : d.rd f b i = c.rd f b i := h _ hk _
end

section
variable (c : Chip)

theorem railsStand_wr (f : Fld) (b v i : Nat) (h : railKey (fldKey f b i) = false) : RailsStand c (c.wr f b v i) := fun k hk _ =>
  mapGet_mapSet_ne _ (by rintro rfl; rw [h] at hk; cases hk) _ _

theorem railsStand_page (f : Fld) (b v i : Nat) (hb : 0x3000 ≤ b) : RailsStand c (c.wr f b v i) := railsStand_wr c f b v i (railKey_page f i hb)

theorem railsStand_up (f : Fld) (b v i : Nat) (hb : b % 4096 = 0) (h : railKey (fldKey f b i) = false) : RailsStand c (c.up f b v i) :=
  (railsStand_wr c f b v i h).trans
    (fun k hk w => same_hw c b [(f, i, v)] hb k (noisy_of_not_stirred (l := false) (railKey_stirred hk)) w)

theorem railsStand_hw (b : Nat) (us : List (Fld × Nat × Nat)) (hb : b % 4096 = 0) (h : ∀ u ∈ us, railKey (fldKey u.1 b u.2.1) = false) :
    RailsStand c (c.hw b us) :=
  (RailsStand.foldc us (fun u c => c.wr u.1 b u.2.2 u.2.1) (fun u hu c => railsStand_wr c u.1 b _ _ (h u hu)) c).trans
    (fun k hk w => same_hw c b us hb k (noisy_of_not_stirred (l := false) (railKey_stirred hk)) w)

theorem railsStand_arm (k t : Nat) : RailsStand c (c.arm k t) := .of_eq (Chip.arm_regs c k t)

theorem railsStand_modPlumb (f : PlumbSt → PlumbSt) : RailsStand c (c.modPlumb f) := .of_eq (Chip.modPlumb_regs c f)

theorem railsStand_raise (src inst : Nat) (payload : Bytes) : RailsStand c (c.raise src inst payload) := .of_still (still_raise c src inst payload)

theorem railsStand_level (b n : Nat) (on : Bool) (hb : b % 4096 = 0) : RailsStand c (c.level b n on) :=
  .of_still (still_level (l := false) c b n on hb)

theorem railsStand_pulse (b n : Nat) (hb : b % 4096 = 0) : RailsStand c (c.pulse b n) := .of_still (still_pulse (l := false) c b n hb)

theorem railsStand_reFlt : RailsStand c c.reFlt := .of_still (still_reFlt (l := false) c)

theorem railsStand_record (code source sev part : Nat) (payload : Bytes) : RailsStand c (c.record code source sev part payload) :=
  .of_still (still_record (l := false) c code source sev part payload false)

theorem railsStand_loadBatt : RailsStand c c.loadBatt := by
  unfold Chip.loadBatt
  refine .foldc _ _ (fun e _ c => ?_) c
  have put : RailsStand c (c.setStr e.1 e.2.1) := .of_eq rfl
  exact put.trans (railsStand_hw _ pgGAUGE _ (by decide) (fun _ _ => railKey_page _ _ (by decide)))

theorem railsStand_mainRegs {k : Nat} (hk : railKey k = true) (d : Nat) : mapGet c.mainRegs k d = mapGet c.regs k d := by
  have ne : ∀ (f : Fld) (b i : Nat), 0x3000 ≤ b → k ≠ fldKey f b i := by
    rintro f b i hb rfl
    rw [railKey_page f i hb] at hk
    cases hk
  unfold Chip.mainRegs
  rw [mapGet_mapSet_ne _ (ne _ _ _ (by decide)), mapGet_mapSet_ne _ (ne _ _ _ (by decide)), mapGet_mapSet_ne _ (ne _ _ _ (by decide)),
    mapGet_filter _ (fun _ => by simp [railKey_aon hk])]

/-- A reset of the main islands leaves the sequencer as it is (R89). -/
theorem railsStand_mainReset : RailsStand c c.mainReset := by
  unfold Chip.mainReset
  extract_lets _ pl tms c1 c2 c3 c4 c5 c6
  have h1 : RailsStand c c1 := fun k hk v => railsStand_mainRegs c hk v
  have h2 : RailsStand c c2 := (h1.trans (railsStand_page c1 _ _ _ _ (by decide))).trans
    (.foldc _ _ (fun _ _ c => railsStand_page c _ _ _ _ (by decide)) _)
  have h3 : RailsStand c c3 := h2.trans (.foldc _ _ (fun _ _ c => railsStand_page c _ _ _ _ (by decide)) _)
  have h4 : RailsStand c c4 := .ite h3 (h3.trans (railsStand_loadBatt c3))
  have h6 : RailsStand c c6 := (h4.trans (railsStand_page c4 _ _ _ _ (by decide))).trans (railsStand_page c5 _ _ _ _ (by decide))
  exact .ite (h6.trans (railsStand_up c6 _ _ _ _ (by decide) (by decide))) h6

theorem railsStand_mainDown : RailsStand c c.mainDown := by
  unfold Chip.mainDown
  extract_lets st cause c1
  have h1 : RailsStand c c1 := (railsStand_mainReset c).trans (.of_eq rfl)
  have fenced := ((h1.trans (railsStand_page c1 R.TWIN_STATE pgTWIN 4 0 (by decide))).trans
    (railsStand_page _ R.TWIN_FENCE_CAUSE pgTWIN cause 0 (by decide))).trans (railsStand_page _ R.TWIN_ROLE pgTWIN 1 0 (by decide))
  exact .ite (fenced.trans (railsStand_reFlt _)) (h1.trans (railsStand_reFlt c1))

theorem railsStand_setStep (v : Nat) : RailsStand c (c.setStep v) := by
  unfold Chip.setStep
  exact .ite (.of_eq rfl) (railsStand_up c _ _ _ _ (by decide) (by decide))

theorem railsStand_startPlls : RailsStand c c.startPlls := by
  unfold Chip.startPlls
  refine .ite ?_ (.foldc _ _ (fun _ _ c => railsStand_arm c _ _) c)
  have shown := (railsStand_modPlumb c (fun p => { p with halted := true })).trans
    (railsStand_hw _ pgSYS [(R.SYS_RESULT, 0, 1), (R.SYS_FAIL_ISLAND, 0, 0x3F)] (by decide) (by decide))
  exact (shown.trans (railsStand_raise _ 4 0 [])).trans (railsStand_reFlt _)

end

/-! SEQ_STATUS.STATE and MAIN_UP (R526). -/

section
variable (c : Chip) (v : Nat)

theorem seqState_mainUp : (c.seqState v).rd R.PLUMB_MAIN_UP pgPLUMB = b2n (v == 2) := by
  unfold Chip.seqState
  extract_lets c1
  split
  · assumption
  · exact (rd_up_same _ _ _ _ _ (by decide) (by decide)).trans (b2n_mod_two _)

theorem rd_seqState (f : Fld) (b i : Nat) (hn : noisy (fldKey f b i) = false) (hst : fldKey f b i ≠ fldKey R.SEQ_STATE pgSEQ 0)
    (hup : fldKey f b i ≠ fldKey R.PLUMB_MAIN_UP pgPLUMB 0) : (c.seqState v).rd f b i = c.rd f b i := by
  unfold Chip.seqState
  extract_lets c1
  have h1 : c1.rd f b i = c.rd f b i := by
    unfold c1
    split
    · rfl
    · rw [rd_up _ _ _ _ _ _ _ _ (by decide) hn, rd_wr_ne _ _ _ _ _ _ _ _ hst]
  split
  · exact h1
  · rw [rd_up _ _ _ _ _ _ _ _ (by decide) hn, rd_wr_ne _ _ _ _ _ _ _ _ hup, h1]

theorem seqState_state (hv : v < 8) : (c.seqState v).rd R.SEQ_STATE pgSEQ = v := by
  unfold Chip.seqState
  extract_lets c1
  have h1 : c1.rd R.SEQ_STATE pgSEQ = v := by
    unfold c1
    split
    · assumption
    · exact (rd_up_same _ _ _ _ _ (by decide) (by decide)).trans (Nat.mod_eq_of_lt hv)
  split
  · exact h1
  · rw [rd_up _ _ _ _ _ _ _ _ (by decide) (by decide), rd_wr_ne _ _ _ _ _ _ _ _ (by decide), h1]
end

/-! The rails are up (R73, R96). -/

section
variable (c : Chip)

/-- The chip as the rails reach UP. -/
def Chip.railsUp (c : Chip) : Chip := (c.modPlumb (fun p => { p with seqFault := false, hib := false })).seqState 2

/-- What the start does from there on leaves the sequencer's page. -/
theorem railsStand_seqUp : RailsStand c.railsUp c.seqUp := by
  unfold Chip.seqUp
  extract_lets c1 c2 c3 c4 w c5
  have h1 : RailsStand c.railsUp c1 := railsStand_record _ 0x101 0 0 0 []
  have h2 : RailsStand c1 c2 := (railsStand_mainReset c1).trans (railsStand_level _ _ _ _ (by decide))
  have h3 : RailsStand c1 c3 := (h2.trans (railsStand_setStep c2 2)).trans (railsStand_arm _ _ _)
  have h4 : RailsStand c1 c4 := .ite (h3.trans (railsStand_up c3 _ _ _ _ (by decide) (by decide))) h3
  have woken := ((railsStand_modPlumb c4 (fun p => { p with hibWake := 0 })).trans
    (railsStand_hw _ pgGAUGE [(R.GAUGE_WAKE_CUR, 0, w % 2), (R.GAUGE_WAKE_IIC2, 0, w / 2)] (by decide)
      (fun _ _ => railKey_page _ _ (by decide)))).trans (railsStand_pulse _ pgGAUGE 24 (by decide))
  have h5 : RailsStand c1 c5 := .ite h4 (h4.trans woken)
  exact h1.trans ((h5.trans (railsStand_reFlt c5)).trans (railsStand_startPlls _))

theorem seqUp_state : c.seqUp.rd R.SEQ_STATE pgSEQ = 2 :=
  ((railsStand_seqUp c).rd _ _ _ (by decide)).trans (seqState_state _ 2 (by decide))

theorem seqUp_mainUp : c.seqUp.rd R.PLUMB_MAIN_UP pgPLUMB = 1 :=
  ((railsStand_seqUp c).rd _ _ _ (by decide)).trans (seqState_mainUp _ 2)

theorem seqUp_powerGood : c.seqUp.rd R.SEQ_PG pgSEQ = c.rd R.SEQ_PG pgSEQ :=
  ((railsStand_seqUp c).rd _ _ _ (by decide)).trans (rd_seqState _ 2 _ _ _ (by decide) (by decide) (by decide))

theorem setStep_step {v : Nat} (hv : v < 16) : (c.setStep v).rd R.SYS_STEP pgSYS = v := by
  unfold Chip.setStep
  split
  · assumption
  · exact (rd_up_same _ _ _ _ _ (by decide) (by decide)).trans (Nat.mod_eq_of_lt hv)

/-- With REFCLK present every PLL is started, and nothing else changes (R83). -/
theorem startPlls_refclk (h : c.plumb.refclk = true) :
    c.startPlls = foldc (upTo 31) (fun i c => c.arm (tmKey tmPll i) (200 * dqUs)) c := if_neg (by simp [h])

/-- Timers that are started one after another each elapse after the same time. -/
theorem foldc_arm_timers (ks : List Nat) (t k : Nat) :
    mapGet (foldc ks (fun i c => c.arm (tmKey tmPll i) t) c).timers k 0
      = if k ∈ ks.map (tmKey tmPll) then c.now + t + 1 else mapGet c.timers k 0 := by
  induction ks generalizing c with
  | nil => rfl
  | cons j ks ih =>
    rw [show foldc (j :: ks) (fun i c => c.arm (tmKey tmPll i) t) c = foldc ks (fun i c => c.arm (tmKey tmPll i) t) (c.arm (tmKey tmPll j) t)
      from rfl, ih, Chip.arm_now, Chip.arm_timers, mapGet_mapSet]
    simp only [List.map_cons, List.mem_cons]
    split <;> split <;> simp_all

theorem foldc_arm_rd (ks : List Nat) (t : Nat) (f : Fld) (b i : Nat) :
    (foldc ks (fun i c => c.arm (tmKey tmPll i) t) c).rd f b i = c.rd f b i := by
  induction ks generalizing c with
  | nil => rfl
  | cons j ks ih => exact ih (c.arm (tmKey tmPll j) t)

/-- The clock, REFCLK and the step of the start stand. -/
def StepStands (c d : Chip) : Prop := d.now = c.now ∧ d.plumb.refclk = c.plumb.refclk ∧ d.rd R.SYS_STEP pgSYS = c.rd R.SYS_STEP pgSYS

theorem StepStands.of_still {l : Bool} {c d : Chip} (h : Still l c d) : StepStands c d :=
  ⟨h.now, h.refclk, h.rd _ _ _ (by cases l <;> decide)⟩

theorem StepStands.trans {c d e : Chip} (h : StepStands c d) (j : StepStands d e) : StepStands c e :=
  ⟨j.1.trans h.1, j.2.1.trans h.2.1, j.2.2.trans h.2.2⟩

theorem StepStands.ite {c d e : Chip} {p : Prop} [Decidable p] (h : StepStands c d) (j : StepStands c e) :
    StepStands c (if p then d else e) := by
  split
  · exact h
  · exact j

theorem StepStands.refl (c : Chip) : StepStands c c := ⟨rfl, rfl, rfl⟩

theorem stepStands_result : StepStands c (c.up R.SYS_RESULT pgSYS 0) := by
  have q := quiet_up c R.SYS_RESULT pgSYS 0 0
  refine ⟨q.now, by rw [q.plumb], ?_⟩
  rw [rd_up _ _ _ _ _ _ _ _ (by decide) (by decide), rd_wr_ne _ _ _ _ _ _ _ _ (by decide)]

theorem stepStands_modPlumb (f : PlumbSt → PlumbSt) (h : ∀ p, (f p).refclk = p.refclk) : StepStands c (c.modPlumb f) :=
  ⟨rfl, h c.plumb, rfl⟩

/-- The chip as the PLLs are started: it stands in step 2, with REFCLK and the clock as before. -/
theorem seqUp_step2 (h : c.plumb.refclk = true) : ∃ d : Chip, c.seqUp = d.startPlls ∧ d.plumb.refclk = true ∧ d.now = c.now
    ∧ d.rd R.SYS_STEP pgSYS = 2 := by
  unfold Chip.seqUp
  extract_lets c1 c2 c3 c4 w c5
  have up := quiet_seqState (c.modPlumb (fun p => { p with seqFault := false, hib := false })) 2
  have noted : Still false ((c.modPlumb (fun p => { p with seqFault := false, hib := false })).seqState 2) c1 := still_record _ 0x101 0 0 0 [] false
  have href1 : c1.plumb.refclk = true := by rw [noted.refclk, up.plumb]; exact h
  have hnow1 : c1.now = c.now := by rw [noted.now, up.now]; rfl
  have q3 : Quiet c1.mainReset (c2.setStep 2) := (quiet_level _ _ _ _).trans (quiet_setStep c2 2)
  have href3 : c3.plumb.refclk = true := by
    rw [Chip.arm_plumb, q3.plumb, mainReset_plumb]
    exact href1
  have hnow3 : c3.now = c.now := by rw [Chip.arm_now, q3.now, (sameTime_mainReset c1).1, hnow1]
  have hstep3 : c3.rd R.SYS_STEP pgSYS = 2 := by
    rw [Chip.arm_rd]
    exact setStep_step c2 (by decide)
  have result : StepStands c3 (c3.up R.SYS_RESULT pgSYS 0) := stepStands_result c3
  have h4 : StepStands c3 c4 := .ite result (.refl c3)
  have awake : StepStands c4 (c4.modPlumb (fun p => { p with hibWake := 0 })) := stepStands_modPlumb c4 _ (fun _ => rfl)
  have woken := awake.trans (.of_still ((still_hw_page (l := false) _ pgGAUGE [(R.GAUGE_WAKE_CUR, 0, w % 2), (R.GAUGE_WAKE_IIC2, 0, w / 2)]
    (by decide) (by decide)).trans (still_pulse _ pgGAUGE 24 (by decide))))
  have h5 : StepStands c3 c5 := .ite h4 (h4.trans woken)
  obtain ⟨hnow, href, hstep⟩ := h5.trans (.of_still (still_reFlt (l := false) c5))
  exact ⟨c5.reFlt, rfl, href.trans href3, hnow.trans hnow3, hstep.trans hstep3⟩

theorem seqUp_starts (h : c.plumb.refclk = true) : c.seqUp.rd R.SYS_STEP pgSYS = 2
    ∧ ∀ i < 31, mapGet c.seqUp.timers (tmKey tmPll i) 0 = c.now + 200 * dqUs + 1 := by
  obtain ⟨d, hup, href, hnow, hstep⟩ := seqUp_step2 c h
  rw [hup, startPlls_refclk d href, foldc_arm_rd]
  refine ⟨hstep, fun i hi => ?_⟩
  rw [foldc_arm_timers, if_pos (List.mem_map_of_mem (by simpa [upTo] using hi)), hnow]
end

/-! The next position of a sequence (R73). -/

section
variable (c : Chip)

/-- Positions without a used rail are passed. -/
theorem seqGo_skips {m n pos : Nat} (hm : m ≤ n) (h : ∀ j < m, railAtPos c.plumb.runSet (pos + j) = none) :
    c.seqGo pos n = c.seqGo (pos + m) (n - m) := by
  induction m generalizing pos n with
  | zero => rfl
  | succ m ih =>
    obtain ⟨n, rfl⟩ : ∃ k, n = k + 1 := ⟨n - 1, by omega⟩
    have hnext : c.seqGo pos (n + 1) = c.seqGo (pos + 1) n := by
      rw [Chip.seqGo, show railAtPos c.plumb.runSet pos = none from h 0 (by omega)]
    rw [hnext, ih (by omega) (fun j hj => by rw [show pos + 1 + j = pos + (j + 1) by omega]; exact h (j + 1) (by omega)),
      show pos + 1 + m = pos + (m + 1) by omega, show n - m = n + 1 - (m + 1) by omega]

/-- The next used rail is enabled after its DELAY. -/
theorem seqGo_next {m n pos r : Nat} (hm : m + 1 ≤ n) (h : ∀ j < m, railAtPos c.plumb.runSet (pos + j) = none)
    (hr : railAtPos c.plumb.runSet (pos + m) = some r) :
    c.seqGo pos n = (c.modPlumb (fun p => { p with pos := pos + m, rail := r, waitPg := false })).arm (tmKey tmRail 0)
      ((railOf c.plumb.runSet r).delay * dqMs) := by
  rw [seqGo_skips c (by omega) h, show n - m = n - m - 1 + 1 by omega, Chip.seqGo, hr]

/-- With no used rail left the rails are up. -/
theorem seqGo_up {n pos : Nat} (h : ∀ j < n, railAtPos c.plumb.runSet (pos + j) = none) :
    c.seqGo pos n = (c.modPlumb (fun p => { p with waitPg := false })).seqUp := by
  rw [seqGo_skips c (le_refl n) h, Nat.sub_self, Chip.seqGo]

theorem seqGo_powerGood (pos n : Nat) : (c.seqGo pos n).rd R.SEQ_PG pgSEQ = c.rd R.SEQ_PG pgSEQ := by
  induction n generalizing pos with
  | zero =>
    rw [Chip.seqGo, seqUp_powerGood]
    rfl
  | succ n ih =>
    rw [Chip.seqGo]
    split
    · rfl
    · exact ih _
end

end Sys2Proof.Machine
end

section
/-! PROOFS. The commands of the sequencer: enables, power-good inputs, aborts and retries, the power-down and a brown-out (R70 to R80). -/

namespace Sys2Proof.Machine

/-! Enables and power-good inputs (R72, R73). -/

/-- A bit set in an eight-bit field is read as set. -/
theorem bitOf_byte_or (v : Nat) {n : Nat} (hn : n < 8) : bitOf ((v ||| 2 ^ n) % 2 ^ 8) n = true := by
  rw [bitOf_mod _ _ _ hn]
  exact bitOf_or_self _ _

/-- A bit cleared in an eight-bit field is read as cleared. -/
theorem bitOf_byte_clear (v : Nat) {n : Nat} (hn : n < 8) : bitOf (setBitN v n false % 2 ^ 8) n = false := by
  have hbit : (setBitN v n false).testBit n = false := by
    have hmask : (2 ^ 32 - 1 - 2 ^ n).testBit n = false := by interval_cases n <;> decide
    rw [setBitN, if_neg (by decide), Nat.testBit_and, hmask, Bool.and_false]
  rw [bitOf_mod _ _ _ hn]
  rw [Nat.testBit_eq_decide_div_mod_eq] at hbit
  simpa [bitOf] using hbit

theorem seqRailEnable_acts (s : State) (hs : s.chip.plumb.stopped = false) (hd : s.chip.due (tmKey tmRail 0) = true)
    (hst : s.chip.rd R.SEQ_STATE pgSEQ = 1) (hw : s.chip.plumb.waitPg = false) (hr : s.chip.plumb.rail < 8)
    (hpg : bitOf (s.chip.rd R.SEQ_PG pgSEQ) s.chip.plumb.rail = false) :
    ∃ t, exec .seqRailEnable s = .next t ∧ bitOf (t.chip.rd R.SEQ_EN pgSEQ) s.chip.plumb.rail = true ∧ t.chip.plumb.waitPg = true
      ∧ mapGet t.chip.timers (tmKey tmPgWin 0) 0 = t.chip.now + (railOf s.chip.plumb.runSet s.chip.plumb.rail).window * dqMs + 1 := by
  refine ⟨_, rfl, ?_⟩
  rw [State.onChip_chip, seqRailEnable, if_pos (by simp [hs, hd, hst, hw])]
  extract_lets n c1 c2
  have q : Quiet (s.chip.disarm (tmKey tmRail 0)) c1 := quiet_up _ _ _ _ _
  have hen : c2.rd R.SEQ_EN pgSEQ = (s.chip.rd R.SEQ_EN pgSEQ ||| 2 ^ n) % 2 ^ 8 := rd_up_same _ _ _ _ _ (by decide) (by decide)
  have hlow : bitOf (c2.rd R.SEQ_PG pgSEQ) n = false := by
    rw [Chip.modPlumb_rd, rd_up _ _ _ _ _ _ _ _ (by decide) (by decide), rd_wr_ne _ _ _ _ _ _ _ _ (by decide)]
    exact hpg
  have hset : c2.plumb.runSet = s.chip.plumb.runSet := by
    rw [Chip.modPlumb_plumb, q.plumb]
    rfl
  rw [if_neg (Bool.eq_false_iff.1 hlow)]
  refine ⟨?_, rfl, ?_⟩
  · rw [Chip.arm_rd, hen]
    exact bitOf_byte_or _ hr
  · rw [Chip.arm_timers, mapGet_mapSet_same, hset]
    rfl

/-- The chip whose SEQ_STATUS shows a power-good input high. -/
def Chip.pgHigh (c : Chip) (n : Nat) : Chip := c.wr R.SEQ_PG pgSEQ (c.rd R.SEQ_PG pgSEQ ||| 2 ^ n)

theorem pgHigh_bit (c : Chip) {n : Nat} (hn : n < 8) : bitOf ((c.pgHigh n).rd R.SEQ_PG pgSEQ) n = true := by
  rw [Chip.pgHigh, rd_wr_same]
  exact bitOf_byte_or _ hn

theorem seqPgRise_shows (s : State) (k : Rail) :
    ∃ t, exec (.seqPgRise k) s = .next t ∧ bitOf (t.chip.rd R.SEQ_PG pgSEQ) k.val = true := by
  refine ⟨_, rfl, ?_⟩
  have high := pgHigh_bit s.chip k.isLt
  rw [State.onChip_chip, seqPgRise]
  extract_lets c1
  split
  · split
    · rw [seqGo_powerGood]
      exact high
    · exact high
  · exact high

/-- The chip as the sequence takes note of a power-good input that it waits for (R73). -/
def Chip.pgTaken (c : Chip) (n : Nat) : Chip :=
  ((c.pgHigh n).modPlumb (fun p => { p with seen := p.seen ||| BitVec.ofNat 8 (2 ^ n) })).disarm (tmKey tmPgWin 0)

section
variable (s : State) (k : Rail) (hs : s.chip.plumb.stopped = false) (hst : s.chip.rd R.SEQ_STATE pgSEQ = 1)
  (hu : (railOf s.chip.plumb.runSet k.val).used = true) (hw : s.chip.plumb.waitPg = true) (hr : s.chip.plumb.rail = k.val)
include hs hst hu hw hr

/-- The sequence goes on from the next position. -/
theorem exec_seqPgRise : exec (.seqPgRise k) s
    = .next (s.onChip (fun c => (c.pgTaken k.val).seqGo (c.plumb.pos + 1) (7 - c.plumb.pos))) := by
  have hst1 : (s.chip.pgHigh k.val).rd R.SEQ_STATE pgSEQ = 1 := (rd_wr_ne _ _ _ _ _ _ _ _ (by decide)).trans hst
  refine congrArg (fun c => Host.Outcome.next { s with chip := c }) ?_
  show seqPgRise s.chip k.val = _
  unfold seqPgRise
  extract_lets c1 c2
  have first : c1.rd R.SEQ_STATE pgSEQ = 1 ∧ (!c1.plumb.stopped) = true ∧ (railOf c1.plumb.runSet k.val).used = true :=
    ⟨hst1, by rw [Chip.wr_plumb, hs]; rfl, hu⟩
  have second : c2.plumb.waitPg = true ∧ c2.plumb.rail = k.val := ⟨hw, hr⟩
  rw [if_pos first, if_pos second]
  rfl

theorem seqPgRise_next (m r : Nat) (_hp : s.chip.plumb.pos < 8) (hm : m + 1 ≤ 7 - s.chip.plumb.pos)
    (hnone : ∀ j < m, railAtPos s.chip.plumb.runSet (s.chip.plumb.pos + 1 + j) = none)
    (hsome : railAtPos s.chip.plumb.runSet (s.chip.plumb.pos + 1 + m) = some r) :
    ∃ t, exec (.seqPgRise k) s = .next t ∧ t.chip.plumb.pos = s.chip.plumb.pos + 1 + m ∧ t.chip.plumb.rail = r
      ∧ t.chip.plumb.waitPg = false ∧ t.chip.armed (tmKey tmPgWin 0) = false
      ∧ mapGet t.chip.timers (tmKey tmRail 0) 0 = s.chip.now + (railOf s.chip.plumb.runSet r).delay * dqMs + 1 := by
  refine ⟨_, exec_seqPgRise s k hs hst hu hw hr, ?_⟩
  rw [State.onChip_chip, seqGo_next (s.chip.pgTaken k.val) hm hnone hsome]
  refine ⟨rfl, rfl, rfl, ?_, ?_⟩
  · have stopped : mapGet (s.chip.pgTaken k.val).timers (tmKey tmPgWin 0) 0 = 0 := mapGet_mapSet_same _ _ _ _
    rw [Chip.armed, Chip.arm_timers, mapGet_mapSet_ne _ (by decide), Chip.modPlumb_timers, stopped]
    rfl
  · rw [Chip.arm_timers, mapGet_mapSet_same]
    rfl

theorem seqPgRise_up (hp : s.chip.plumb.pos < 8) (hnone : ∀ j < 8, s.chip.plumb.pos < j → railAtPos s.chip.plumb.runSet j = none)
    (href : s.chip.plumb.refclk = true) :
    ∃ t, exec (.seqPgRise k) s = .next t ∧ t.chip.rd R.SEQ_STATE pgSEQ = 2 ∧ t.chip.rd R.PLUMB_MAIN_UP pgPLUMB = 1
      ∧ t.chip.rd R.SYS_STEP pgSYS = 2 ∧ ∀ i < 31, mapGet t.chip.timers (tmKey tmPll i) 0 = s.chip.now + 200 * dqUs + 1 := by
  refine ⟨_, exec_seqPgRise s k hs hst hu hw hr, ?_⟩
  rw [State.onChip_chip, seqGo_up (s.chip.pgTaken k.val) (fun j hj => hnone _ (by omega) (by omega))]
  obtain ⟨hstep, hpll⟩ := seqUp_starts ((s.chip.pgTaken k.val).modPlumb (fun p => { p with waitPg := false })) href
  exact ⟨seqUp_state _, seqUp_mainUp _, hstep, hpll⟩
end

/-! Aborts and retries (R74, R75, R77). -/

theorem releaseAll_en (c : Chip) : c.releaseAll.rd R.SEQ_EN pgSEQ = 0 := by
  rw [Chip.releaseAll, rd_hw _ _ _ _ _ _ (by decide) (by decide)]
  exact rd_wr_same _ _ _ _ _

theorem releaseAll_pg (c : Chip) : c.releaseAll.rd R.SEQ_PG pgSEQ = c.rd R.SEQ_PG pgSEQ := by
  rw [Chip.releaseAll, rd_hw _ _ _ _ _ _ (by decide) (by decide)]
  exact rd_wr_ne _ _ _ _ _ _ _ _ (by decide)

section
variable (c : Chip) (cause rail : Nat) (a : AdcRead)

/-- An abort releases every rail and shows its cause and its rail; the power-good inputs stand (R72, R75). -/
theorem seqAbort_shows (hc : cause < 4) (hr : rail < 8) : (c.seqAbort cause rail a).rd R.SEQ_FAIL_CAUSE pgSEQ = cause
    ∧ (c.seqAbort cause rail a).rd R.SEQ_FAIL_RAIL pgSEQ = rail ∧ (c.seqAbort cause rail a).rd R.SEQ_EN pgSEQ = 0
    ∧ (c.seqAbort cause rail a).rd R.SEQ_PG pgSEQ = c.rd R.SEQ_PG pgSEQ := by
  unfold Chip.seqAbort
  extract_lets n snap lock c1 c2 c3 c4
  have h3 : RailsStand c2 c3 := (railsStand_modPlumb c2 _).trans (railsStand_setStep _ 1)
  have h4 : RailsStand c2 c4 := .ite (h3.trans (railsStand_up c3 _ _ _ _ (by decide) (by decide))) (h3.trans (railsStand_arm c3 _ _))
  have after : RailsStand c2 (c4.raise 7 rail snap).mainDown := (h4.trans (railsStand_raise c4 7 rail snap)).trans (railsStand_mainDown _)
  have hen : c1.rd R.SEQ_EN pgSEQ = 0 := releaseAll_en _
  have hpg : c1.rd R.SEQ_PG pgSEQ = c.rd R.SEQ_PG pgSEQ := releaseAll_pg _
  rw [after.rd _ _ _ (by decide), after.rd _ _ _ (by decide), after.rd _ _ _ (by decide), after.rd _ _ _ (by decide),
    rd_hw _ _ _ _ _ _ (by decide) (by decide), rd_hw _ _ _ _ _ _ (by decide) (by decide), rd_hw _ _ _ _ _ _ (by decide) (by decide),
    rd_hw _ _ _ _ _ _ (by decide) (by decide)]
  simp only [foldc, List.foldl_cons, List.foldl_nil]
  refine ⟨?_, ?_, ?_, ?_⟩
  · rw [rd_wr_ne _ _ _ _ _ _ _ _ (by decide), rd_wr_same]
    exact Nat.mod_eq_of_lt hc
  · rw [rd_wr_ne _ _ _ _ _ _ _ _ (by decide), rd_wr_ne _ _ _ _ _ _ _ _ (by decide), rd_wr_same]
    exact Nat.mod_eq_of_lt hr
  · iterate 3 rw [rd_wr_ne _ _ _ _ _ _ _ _ (by decide)]
    rw [rd_seqState _ _ _ _ _ (by decide) (by decide) (by decide), hen]
  · iterate 3 rw [rd_wr_ne _ _ _ _ _ _ _ _ (by decide)]
    rw [rd_seqState _ _ _ _ _ (by decide) (by decide) (by decide), hpg]
end

theorem seqPgTimeout_aborts (s : State) (a : AdcRead) (_hs : s.chip.plumb.stopped = false) (hd : s.chip.due (tmKey tmPgWin 0) = true)
    (hst : s.chip.rd R.SEQ_STATE pgSEQ = 1) (hw : s.chip.plumb.waitPg = true) (hr : s.chip.plumb.rail < 8) :
    ∃ t, exec (.seqPgTimeout a) s = .next t ∧ t.chip.rd R.SEQ_FAIL_CAUSE pgSEQ = 1 ∧ t.chip.rd R.SEQ_FAIL_RAIL pgSEQ = s.chip.plumb.rail
      ∧ t.chip.rd R.SEQ_EN pgSEQ = 0 ∧ t.mem = [] := by
  refine ⟨_, congrArg Host.Outcome.next (if_pos (by simp [hd, hst, hw])), ?_⟩
  obtain ⟨hcause, hrail, hen, -⟩ := seqAbort_shows s.chip 1 s.chip.plumb.rail a (by decide) hr
  exact ⟨hcause, hrail, hen, rfl⟩

/-- The chip whose SEQ_STATUS shows a power-good input low. -/
def Chip.pgLow (c : Chip) (n : Nat) : Chip := c.wr R.SEQ_PG pgSEQ (setBitN (c.rd R.SEQ_PG pgSEQ) n false)

section
variable (s : State) (k : Rail) (a : AdcRead)

/-- What an abort for a lost power-good input shows, whatever of the chip but its rails has changed since it was seen low. -/
theorem seqAbort_pgLost {c : Chip} (h : RailsStand (s.chip.pgLow k.val) c) : (c.seqAbort 2 k.val a).rd R.SEQ_FAIL_CAUSE pgSEQ = 2
    ∧ (c.seqAbort 2 k.val a).rd R.SEQ_FAIL_RAIL pgSEQ = k.val ∧ (c.seqAbort 2 k.val a).rd R.SEQ_EN pgSEQ = 0
    ∧ bitOf ((c.seqAbort 2 k.val a).rd R.SEQ_PG pgSEQ) k.val = false := by
  obtain ⟨hcause, hrail, hen, hpg⟩ := seqAbort_shows c 2 k.val a (by decide) k.isLt
  refine ⟨hcause, hrail, hen, ?_⟩
  rw [hpg, h.rd _ _ _ (by decide), Chip.pgLow, rd_wr_same]
  exact bitOf_byte_clear _ k.isLt

theorem seqPgLost_running (hs : s.chip.plumb.stopped = false) (hst : s.chip.rd R.SEQ_STATE pgSEQ = 2)
    (hu : (railOf s.chip.plumb.runSet k.val).used = true) (hen : bitOf (s.chip.rd R.SEQ_EN pgSEQ) k.val = true) :
    ∃ t, exec (.seqPgLost k a) s = .next t ∧ t.chip.rd R.SEQ_FAIL_CAUSE pgSEQ = 2 ∧ t.chip.rd R.SEQ_FAIL_RAIL pgSEQ = k.val
      ∧ t.chip.rd R.SEQ_EN pgSEQ = 0 ∧ bitOf (t.chip.rd R.SEQ_PG pgSEQ) k.val = false ∧ t.mem = [] := by
  have hst1 : (s.chip.pgLow k.val).rd R.SEQ_STATE pgSEQ = 2 := (rd_wr_ne _ _ _ _ _ _ _ _ (by decide)).trans hst
  have hen1 : bitOf ((s.chip.pgLow k.val).rd R.SEQ_EN pgSEQ) k.val = true := by rwa [Chip.pgLow, rd_wr_ne _ _ _ _ _ _ _ _ (by decide)]
  have hstep : seqPgLost s k.val a = s.mainOff (((s.chip.pgLow k.val).raise 6 k.val).seqAbort 2 k.val a) :=
    (if_neg (Bool.eq_false_iff.1 hs)).trans (if_pos ⟨hst1, hu, hen1⟩)
  refine ⟨_, congrArg Host.Outcome.next hstep, ?_⟩
  obtain ⟨hcause, hrail, hoff, hpg⟩ := seqAbort_pgLost s k a (railsStand_raise _ 6 k.val [])
  exact ⟨hcause, hrail, hoff, hpg, rfl⟩

theorem seqPgLost_starting (hs : s.chip.plumb.stopped = false) (hst : s.chip.rd R.SEQ_STATE pgSEQ = 1)
    (hu : (railOf s.chip.plumb.runSet k.val).used = true) (hseen : s.chip.plumb.seen.getLsbD k.val = true) (hdn : s.chip.plumb.downPos = none) :
    ∃ t, exec (.seqPgLost k a) s = .next t ∧ t.chip.rd R.SEQ_FAIL_CAUSE pgSEQ = 2 ∧ t.chip.rd R.SEQ_FAIL_RAIL pgSEQ = k.val
      ∧ t.chip.rd R.SEQ_EN pgSEQ = 0 ∧ bitOf (t.chip.rd R.SEQ_PG pgSEQ) k.val = false ∧ t.mem = [] := by
  have hst1 : (s.chip.pgLow k.val).rd R.SEQ_STATE pgSEQ = 1 := (rd_wr_ne _ _ _ _ _ _ _ _ (by decide)).trans hst
  have hstep : seqPgLost s k.val a = s.mainOff ((s.chip.pgLow k.val).seqAbort 2 k.val a) :=
    ((if_neg (Bool.eq_false_iff.1 hs)).trans (if_neg (fun h => absurd (hst1.symm.trans h.1) (by decide)))).trans
      (if_pos ⟨hst1, hu, hseen, .inl hdn⟩)
  refine ⟨_, congrArg Host.Outcome.next hstep, ?_⟩
  obtain ⟨hcause, hrail, hoff, hpg⟩ := seqAbort_pgLost s k a (.of_eq rfl)
  exact ⟨hcause, hrail, hoff, hpg, rfl⟩

theorem seqPgLost_shows (h : s.chip.plumb.stopped = true ∨ (s.chip.rd R.SEQ_STATE pgSEQ ≠ 1 ∧ s.chip.rd R.SEQ_STATE pgSEQ ≠ 2)
      ∨ (railOf s.chip.plumb.runSet k.val).used = false) :
    ∃ t, exec (.seqPgLost k a) s = .next t
      ∧ t = s.onChip (fun c => c.wr R.SEQ_PG pgSEQ (setBitN (c.rd R.SEQ_PG pgSEQ) k.val false)) := by
  refine ⟨_, rfl, ?_⟩
  have hst1 : (s.chip.pgLow k.val).rd R.SEQ_STATE pgSEQ = s.chip.rd R.SEQ_STATE pgSEQ := rd_wr_ne _ _ _ _ _ _ _ _ (by decide)
  rw [Chip.pgLow] at hst1
  simp only [seqPgLost, hst1, Chip.wr_plumb]
  rcases h with h | ⟨h1, h2⟩ | h
  · exact if_pos h
  · simp only [h1, h2, false_and, if_false, ite_self]
    rfl
  · simp only [h, Bool.false_eq_true, false_and, and_false, if_false, ite_self]
    rfl
end

section
variable (c : Chip)

/-- The chip that takes the newest set, at position 0 of the sequence. -/
def Chip.seqTaken (c : Chip) : Chip :=
  c.modPlumb (fun p => { p with
    runSet := c.plumb.newSet.getD c.plumb.runSet, newSet := none, pos := 0, waitPg := false, seqAt := c.now, downPos := none, downWhy := 0
    seen := BitVec.ofNat 8 (c.rd R.SEQ_PG pgSEQ &&& usedMask (c.plumb.newSet.getD c.plumb.runSet)) })

/-- The chip as a sequence looks for its first rail. -/
def Chip.seqBegun (c : Chip) : Chip := ((c.seqTaken.record 0x100 0 0 0 []).up R.SEQ_EN pgSEQ 0).seqState 1

theorem seqStart_eq : c.seqStart = c.seqBegun.seqGo 0 8 := rfl

theorem seqBegun_plumb : c.seqBegun.plumb.runSet = c.plumb.newSet.getD c.plumb.runSet ∧ c.seqBegun.plumb.newSet = none
    ∧ c.seqBegun.plumb.seqAt = c.now := by
  have noted : Still false c.seqTaken (c.seqTaken.record 0x100 0 0 0 []) := still_record _ 0x100 0 0 0 [] false
  have q : Quiet (c.seqTaken.record 0x100 0 0 0 []) c.seqBegun := (quiet_up _ _ _ _ _).trans (quiet_seqState _ _)
  rw [q.plumb, noted.plumb]
  exact ⟨rfl, rfl, rfl⟩

theorem seqBegun_time : c.seqBegun.now = c.now ∧ OtherTimers c c.seqBegun := by
  have noted : Still false c.seqTaken (c.seqTaken.record 0x100 0 0 0 []) := still_record _ 0x100 0 0 0 [] false
  have q : Quiet (c.seqTaken.record 0x100 0 0 0 []) c.seqBegun := (quiet_up _ _ _ _ _).trans (quiet_seqState _ _)
  exact ⟨q.now.trans noted.now, fun k hk => ((otherTimers_record c.seqTaken 0x100 0 0 0 []).trans (.of_quiet q)) k hk⟩

theorem seqBegun_state : c.seqBegun.rd R.SEQ_STATE pgSEQ = 1 := seqState_state _ 1 (by decide)

theorem seqBegun_en : c.seqBegun.rd R.SEQ_EN pgSEQ = 0 := by
  rw [Chip.seqBegun, rd_seqState _ _ _ _ _ (by decide) (by decide) (by decide), rd_up_same _ _ _ _ _ (by decide) (by decide)]
  rfl

/-- A sequence that starts takes the newest set and goes on to its first used rail (R71, R73). -/
theorem seqStart_next {m r : Nat} (hm : m < 8)
    (hnone : ∀ j < m, railAtPos (c.plumb.newSet.getD c.plumb.runSet) j = none)
    (hsome : railAtPos (c.plumb.newSet.getD c.plumb.runSet) m = some r) :
    c.seqStart.rd R.SEQ_STATE pgSEQ = 1 ∧ c.seqStart.rd R.SEQ_EN pgSEQ = 0 ∧ c.seqStart.plumb.runSet = c.plumb.newSet.getD c.plumb.runSet
      ∧ c.seqStart.plumb.newSet = none ∧ c.seqStart.plumb.pos = m ∧ c.seqStart.plumb.rail = r ∧ c.seqStart.plumb.seqAt = c.now
      ∧ ∀ k, k / 65536 ∉ raiseTimers → mapGet c.seqStart.timers k 0
        = if k = tmKey tmRail 0 then c.now + (railOf (c.plumb.newSet.getD c.plumb.runSet) r).delay * dqMs + 1 else mapGet c.timers k 0 := by
  obtain ⟨hset, hnew, hat⟩ := seqBegun_plumb c
  obtain ⟨hnow, htm⟩ := seqBegun_time c
  have hst := seqBegun_state c
  have hen := seqBegun_en c
  rw [seqStart_eq]
  generalize c.seqBegun = d at *
  rw [← hset] at hnone hsome ⊢
  rw [seqGo_next d (m := m) (n := 8) (pos := 0) (r := r) (by omega) (by simpa using hnone) (by simpa using hsome)]
  refine ⟨hst, hen, rfl, hnew, Nat.zero_add m, rfl, hat, fun k hk => ?_⟩
  rw [Chip.arm_timers, mapGet_mapSet, Chip.modPlumb_now, hnow, Chip.modPlumb_timers, htm k hk]
end

theorem seqRetry_starts (s : State) (m r : Nat) (hs : s.chip.plumb.stopped = false) (hd : s.chip.due (tmKey tmRetry 0) = true)
    (hst : s.chip.rd R.SEQ_STATE pgSEQ = 3) (hw : s.chip.plumb.downWhy = 0) (hm : m < 8)
    (hnone : ∀ j < m, railAtPos (s.chip.plumb.newSet.getD s.chip.plumb.runSet) j = none)
    (hsome : railAtPos (s.chip.plumb.newSet.getD s.chip.plumb.runSet) m = some r) :
    ∃ t, exec .seqRetry s = .next t ∧ t.chip.rd R.SEQ_STATE pgSEQ = 1 ∧ t.chip.rd R.SEQ_EN pgSEQ = 0
      ∧ t.chip.plumb.runSet = s.chip.plumb.newSet.getD s.chip.plumb.runSet ∧ t.chip.plumb.newSet = none ∧ t.chip.plumb.pos = m
      ∧ t.chip.plumb.rail = r ∧ t.chip.plumb.seqAt = s.chip.now ∧ t.chip.armed (tmKey tmRetry 0) = false
      ∧ mapGet t.chip.timers (tmKey tmRail 0) 0
        = s.chip.now + (railOf (s.chip.plumb.newSet.getD s.chip.plumb.runSet) r).delay * dqMs + 1 := by
  refine ⟨_, rfl, ?_⟩
  rw [State.onChip_chip, seqRetry, if_pos (by simp [hs, hd, hst, hw])]
  obtain ⟨hstate, hen, hrun, hnew, hpos, hrail, hat, htm⟩ := seqStart_next (s.chip.disarm (tmKey tmRetry 0)) hm hnone hsome
  refine ⟨hstate, hen, hrun, hnew, hpos, hrail, hat, ?_, ?_⟩
  · have stopped : mapGet (s.chip.disarm (tmKey tmRetry 0)).timers (tmKey tmRetry 0) 0 = 0 := mapGet_mapSet_same _ _ _ _
    rw [Chip.armed, htm _ (by decide), if_neg (by decide), stopped]
    rfl
  · rw [htm _ (by decide), if_pos rfl]
    rfl

theorem abortsClear_acts (s : State) (hd : s.chip.due (tmKey tmAborts 0) = true) (hst : s.chip.rd R.SEQ_STATE pgSEQ = 2) :
    ∃ t, exec .abortsClear s = .next t ∧ t.chip.rd R.SEQ_ABORTS pgSEQ = 0 ∧ t.chip.armed (tmKey tmAborts 0) = false := by
  refine ⟨_, rfl, ?_⟩
  rw [State.onChip_chip, abortsClear, if_pos (by simp [hd, hst])]
  extract_lets c1
  have stopped : c1.armed (tmKey tmAborts 0) = false := by simp [Chip.armed, c1]
  split
  · rename_i h0
    exact ⟨h0, stopped⟩
  · exact ⟨rd_up_same _ _ _ _ _ (by decide) (by decide), by rw [Chip.armed, (quiet_up _ _ _ _ _).timers]; exact stopped⟩

/-! The power-down and a brown-out (R78, R79). -/

/-- A rail above position 0 that is released, with another below it: the next one follows after its DELAY. -/
theorem downRelease_more (c : Chip) {k : Nat} (hk : k < 8) (hord : (railOf c.plumb.runSet k).order ≠ 0)
    (hbelow : (railBelow c.plumb.runSet ((railOf c.plumb.runSet k).order - 1)).isSome = true) :
    bitOf ((c.downRelease k).rd R.SEQ_EN pgSEQ) k = false ∧ (c.downRelease k).rd R.SEQ_STATE pgSEQ = c.rd R.SEQ_STATE pgSEQ
      ∧ (c.downRelease k).plumb.downPos = some (railOf c.plumb.runSet k).order ∧ (c.downRelease k).armed (tmKey tmDown 0) = true := by
  obtain ⟨x, hx⟩ := Option.isSome_iff_exists.1 hbelow
  unfold Chip.downRelease
  extract_lets c1 r c2
  have hset : c1.plumb.runSet = c.plumb.runSet := by rw [(quiet_hw _ _ _).plumb]
  have hr : r = railOf c.plumb.runSet k := by rw [← hset]
  have hfind : (if r.order = 0 then none else railBelow c2.plumb.runSet (r.order - 1)) = some x := by
    rw [hr, if_neg hord, Chip.modPlumb_plumb, hset, hx]
  rw [hfind]
  refine ⟨?_, ?_, by rw [hr]; rfl, by simp [Chip.armed]⟩
  · rw [Chip.arm_rd, Chip.modPlumb_rd, rd_hw _ _ _ _ _ _ (by decide) (by decide)]
    simp only [foldc, List.foldl_cons, List.foldl_nil]
    rw [rd_wr_same]
    exact bitOf_byte_clear _ hk
  · rw [Chip.arm_rd, Chip.modPlumb_rd, rd_hw _ _ _ _ _ _ (by decide) (by decide)]
    simp only [foldc, List.foldl_cons, List.foldl_nil]
    rw [rd_wr_ne _ _ _ _ _ _ _ _ (by decide)]

theorem afterDown_running (s : State) {c : Chip} (h : c.rd R.SEQ_STATE pgSEQ ≠ 5) : s.afterDown c = { s with chip := c } := if_neg h

theorem seqPowerDown_acts (s : State) (k : Nat) (hs : s.chip.plumb.stopped = false) (hw : s.chip.plumb.downWhy ≠ 0)
    (hdn : s.chip.plumb.downPos = none) (h5 : s.chip.rd R.SEQ_STATE pgSEQ ≠ 5) (h4 : s.chip.rd R.SEQ_STATE pgSEQ ≠ 4)
    (h0 : s.chip.rd R.SEQ_STATE pgSEQ ≠ 0) (hfirst : railBelow s.chip.plumb.runSet 7 = some k)
    (hord : (railOf s.chip.plumb.runSet k).order ≠ 0)
    (hbelow : (railBelow s.chip.plumb.runSet ((railOf s.chip.plumb.runSet k).order - 1)).isSome = true) (hk : k < 8) :
    ∃ t, exec .seqPowerDown s = .next t ∧ bitOf (t.chip.rd R.SEQ_EN pgSEQ) k = false
      ∧ t.chip.plumb.downPos = some (railOf s.chip.plumb.runSet k).order ∧ t.chip.armed (tmKey tmDown 0) = true := by
  refine ⟨_, rfl, ?_⟩
  unfold seqPowerDown
  extract_lets c st c1 c2
  have hset : c2.plumb.runSet = s.chip.plumb.runSet := by
    rw [Chip.modPlumb_plumb, (quiet_setStep c1 1).plumb]
    rfl
  have hstate : c2.rd R.SEQ_STATE pgSEQ = s.chip.rd R.SEQ_STATE pgSEQ := (railsStand_setStep c1 1).rd _ _ _ (by decide)
  rw [← hset] at hord hbelow hfirst ⊢
  obtain ⟨hen, hrel, hpos, harm⟩ := downRelease_more c2 hk hord hbelow
  rw [if_neg (by simp [c, st, hs, hw, hdn, h5, h4, h0]), hfirst]
  dsimp only
  rw [afterDown_running s (by rw [hrel, hstate]; exact h5)]
  exact ⟨hen, hpos, harm⟩

theorem seqDownStep_acts (s : State) (j k : Nat) (_hs : s.chip.plumb.stopped = false) (hd : s.chip.due (tmKey tmDown 0) = true)
    (hdn : s.chip.plumb.downPos = some j) (hj : j ≠ 0) (hnext : railBelow s.chip.plumb.runSet (j - 1) = some k)
    (h5 : s.chip.rd R.SEQ_STATE pgSEQ ≠ 5) (hord : (railOf s.chip.plumb.runSet k).order ≠ 0)
    (hbelow : (railBelow s.chip.plumb.runSet ((railOf s.chip.plumb.runSet k).order - 1)).isSome = true) (hk : k < 8) :
    ∃ t, exec .seqDownStep s = .next t ∧ bitOf (t.chip.rd R.SEQ_EN pgSEQ) k = false
      ∧ t.chip.plumb.downPos = some (railOf s.chip.plumb.runSet k).order := by
  obtain ⟨hen, hrel, hpos, -⟩ := downRelease_more (s.chip.disarm (tmKey tmDown 0)) hk hord hbelow
  have hstep : seqDownStep s = s.afterDown ((s.chip.disarm (tmKey tmDown 0)).downRelease k) := by
    simp only [seqDownStep, hd, hdn, hj, if_false, hnext]
  refine ⟨_, congrArg Host.Outcome.next hstep, ?_⟩
  rw [afterDown_running s (by rw [hrel]; exact h5)]
  exact ⟨hen, hpos⟩

/-- The chip as a brown-out takes its power, before Plumb stops. -/
def Chip.browned (c : Chip) : Chip := ((c.fbTear.releaseAll).up R.PLUMB_MAIN_UP pgPLUMB 0).mainDown

/-- The chip that a brown-out stops, before FLT_OUT follows. -/
def Chip.brownStopped (c : Chip) : Chip :=
  ({ c.browned with timers := [] } : Chip).modPlumb (fun p => { p with
    stopped := true, brown := true, rstWait := none, waitPg := false, seen := 0, downPos := none, downWhy := 0 })

theorem brownStopped_en (c : Chip) : c.brownStopped.rd R.SEQ_EN pgSEQ = 0 := by
  have down : c.browned.rd R.SEQ_EN pgSEQ = ((c.fbTear.releaseAll).up R.PLUMB_MAIN_UP pgPLUMB 0).rd R.SEQ_EN pgSEQ :=
    (railsStand_mainDown _).rd _ _ _ (by decide)
  calc c.brownStopped.rd R.SEQ_EN pgSEQ = c.browned.rd R.SEQ_EN pgSEQ := rfl
    _ = 0 := by rw [down, rd_up _ _ _ _ _ _ _ _ (by decide) (by decide), rd_wr_ne _ _ _ _ _ _ _ _ (by decide), releaseAll_en]

theorem brownOut_acts (s : State) (hp : s.chip.plumb.porst = false) (hs : s.chip.plumb.stopped = false) :
    ∃ t, exec .brownOut s = .next t ∧ t.chip.plumb.stopped = true ∧ t.chip.timers = [] ∧ t.mem = [] ∧ t.chip.rd R.SEQ_EN pgSEQ = 0
      ∧ t.chip.rd R.FCU_FLT_OUT pgFCU = 1 := by
  have hstep : brownOut s = s.mainOff s.chip.brownStopped.reFlt := if_neg (by simp [hp, hs])
  refine ⟨_, congrArg Host.Outcome.next hstep, ?_⟩
  have q := quiet_reFlt s.chip.brownStopped
  have hen := ((railsStand_reFlt s.chip.brownStopped).rd R.SEQ_EN pgSEQ 0 (by decide)).trans (brownStopped_en s.chip)
  have hstop : s.chip.brownStopped.reFlt.plumb.stopped = true := by rw [q.plumb]; rfl
  exact ⟨hstop, q.timers, rfl, hen, reFlt_fault (by simp [Chip.fltFault, Chip.brownStopped])⟩

/-- Settles O22, clause by clause. -/
theorem sequencerCommandsAct : Obligations.SequencerCommandsAct :=
  ⟨seqRailEnable_acts, seqPgRise_shows, fun s k m r hs hst hu hw hr => seqPgRise_next s k hs hst hu hw hr m r, seqPgRise_up,
    seqPgTimeout_aborts, seqPgLost_running, seqPgLost_starting, seqPgLost_shows, seqRetry_starts, abortsClear_acts, seqPowerDown_acts,
    seqDownStep_acts, brownOut_acts⟩

end Sys2Proof.Machine
end

section
/-! PROOFS. What the registers read at power-on reset (R69, R86, R92, R406, R421). -/

namespace Sys2Proof.Machine

theorem reset_resetCause : State.reset.chip.regWord .sys 0 0x108 0 = 1 := by decide +kernel

/-- P0 alone has ring credit, all of it (R406). -/
theorem reset_credit : ∀ p < 8, State.reset.chip.regWord .arb 0 (0x200 + 0x10 * p) 0 = if p = 0 then 1000 else 0 := by decide +kernel

/-- Only the window of P0 is enabled (R421). -/
theorem reset_windows : ∀ p < 8, State.reset.chip.regWord .part 0 (0x200 + 0x10 * p) 0 = if p = 0 then 1 else 0 := by decide +kernel

theorem reset_arbiter : State.reset.chip.regWord .arb 0 0x100 0 = 0x800 ∧ State.reset.chip.regWord .arb 0 0x104 0 = 0x10000 := by
  decide +kernel

/-- The set with no copy in MRAM is the factory's (R69). -/
theorem reset_rails : ∀ n < 8, State.reset.chip.regWord .seq 0 (0x100 + 4 * n) 0
    = (if n < 7 then 1 else 0) + 2 * n + 2 ^ 4 * 10 + 2 ^ 11 := by decide +kernel

/-- Settles O43, register by register. -/
theorem resetRegisterValues : Obligations.ResetRegisterValues :=
  ⟨reset_resetCause, reset_credit, reset_windows, reset_arbiter.1, reset_arbiter.2, reset_rails, rfl⟩

end Sys2Proof.Machine
end

section
/-! PROOFS. What a link that leaves READY leaves of the engines and of discovery (R133, R216, R289). -/

namespace Sys2Proof.Machine

/-! What stands. -/

/-- A port keeps its attempts and its stage end; a port that asks and waits for nothing stays so. -/
structure PortStands (t u : PortSt) : Prop where
  attempts : u.attempts = t.attempts
  announce : u.announce = t.announce
  req : t.req = none → u.req = none
  cfgQ : t.cfgQ = [] → u.cfgQ = []

theorem PortStands.refl (t : PortSt) : PortStands t t := ⟨rfl, rfl, id, id⟩

theorem PortStands.trans {t u v : PortSt} (h : PortStands t u) (j : PortStands u v) : PortStands t v :=
  ⟨j.attempts.trans h.attempts, j.announce.trans h.announce, j.req ∘ h.req, j.cfgQ ∘ h.cfgQ⟩

theorem PortStands.of_ports {c d : Chip} (h : d.ports = c.ports) (q : Nat) : PortStands (c.port q) (d.port q) := by
  rw [show d.port q = c.port q from congrArg (fun m => mapGet m q _) h]
  exact .refl _

/-- The engines stand, the discovery of every port, and the register fields at bit 7 of their word, TYPE_VALID among them. -/
structure DiscStands (c d : Chip) : Prop where
  engines : d.engines = c.engines
  port : ∀ q, PortStands (c.port q) (d.port q)
  regs : ∀ k, k % 32 = 7 → noisy k = false → ∀ v, mapGet d.regs k v = mapGet c.regs k v

section
variable {c d e : Chip}

theorem DiscStands.refl (c : Chip) : DiscStands c c := ⟨rfl, fun _ => .refl _, fun _ _ _ _ => rfl⟩

theorem DiscStands.trans (h : DiscStands c d) (j : DiscStands d e) : DiscStands c e where
  engines := j.engines.trans h.engines
  port := fun q => (h.port q).trans (j.port q)
  regs := fun k hk hn v => (j.regs k hk hn v).trans (h.regs k hk hn v)

theorem DiscStands.ite {p : Prop} [Decidable p] (h : DiscStands c d) (j : DiscStands c e) : DiscStands c (if p then d else e) := by
  split
  · exact h
  · exact j

theorem DiscStands.of_eq (he : d.engines = c.engines) (hp : d.ports = c.ports) (hr : d.regs = c.regs) : DiscStands c d where
  engines := he
  port := .of_ports hp
  regs := fun _ _ _ _ => by rw [hr]

theorem DiscStands.of_quiet (q : Quiet c d) (h : Same c d) : DiscStands c d where
  engines := q.engines
  port := .of_ports q.ports
  regs := fun k _ hn v => h k hn v
end

section
variable (c : Chip)

theorem discStands_wr (f : Fld) (b v i : Nat) (hf : f.lo % 32 ≠ 7) : DiscStands c (c.wr f b v i) where
  engines := rfl
  port := fun _ => .refl _
  regs := fun k hk _ _ => mapGet_mapSet_ne _ (by rintro rfl; simp only [fldKey] at hk; omega) _ _

theorem discStands_hw (b : Nat) (us : List (Fld × Nat × Nat)) (hb : b % 4096 = 0) (hf : ∀ f ∈ us.map Prod.fst, f.lo % 32 ≠ 7) :
    DiscStands c (c.hw b us) := by
  have q := quiet_hw c b us
  refine ⟨q.engines, .of_ports q.ports, fun k hk hn v => (same_hw c b us hb k hn v).trans ?_⟩
  clear q
  induction us generalizing c with
  | nil => rfl
  | cons u us ih =>
    exact (ih (c.wr u.1 b u.2.2 u.2.1) (fun x hx => hf x (List.mem_cons_of_mem _ hx))).trans
      ((discStands_wr c u.1 b u.2.2 u.2.1 (hf u.1 (List.mem_cons_self ..))).regs k hk hn v)

theorem discStands_up (f : Fld) (b v i : Nat) (hb : b % 4096 = 0) (hf : f.lo % 32 ≠ 7) : DiscStands c (c.up f b v i) :=
  discStands_hw c b [(f, i, v)] hb (by simpa using hf)

theorem discStands_arm (k t : Nat) : DiscStands c (c.arm k t) := .of_eq rfl rfl rfl
theorem discStands_disarm (k : Nat) : DiscStands c (c.disarm k) := .of_eq rfl rfl rfl
theorem discStands_modSec (s : Nat) (f : SecSt → SecSt) : DiscStands c (c.modSec s f) := .of_eq rfl rfl rfl
theorem discStands_modFd (p : Nat) (f : FdSt → FdSt) : DiscStands c (c.modFd p f) := .of_eq rfl rfl rfl
theorem discStands_modFbk (f : FbkSt → FbkSt) : DiscStands c (c.modFbk f) := .of_eq rfl rfl rfl
theorem discStands_modTwin (f : TwinSt → TwinSt) : DiscStands c (c.modTwin f) := .of_eq rfl rfl rfl
theorem discStands_send (o : Out) : DiscStands c (c.send o) := .of_quiet (quiet_send c o) (.of_eq (by simp))

theorem discStands_modPort (p : Nat) (f : PortSt → PortSt) (hf : ∀ t, PortStands t (f t)) : DiscStands c (c.modPort p f) where
  engines := rfl
  port := fun q => by
    by_cases h : q = p
    · subst h
      rw [Chip.modPort_port]
      exact hf _
    · rw [Chip.modPort_port_ne c q p f h]
      exact .refl _
  regs := fun _ _ _ _ => rfl

theorem discStands_pulse (b n : Nat) (hb : b % 4096 = 0) : DiscStands c (c.pulse b n) := .of_quiet (quiet_pulse c b n) (same_pulse c b n hb)

theorem discStands_level (b n : Nat) (on : Bool) (hb : b % 4096 = 0) : DiscStands c (c.level b n on) :=
  .of_quiet (quiet_level c b n on) (same_level c b n on hb)

/-! The Field Book, agreed changes and TW_HEALTH. -/

theorem discStands_enqueue (r : FbRec) : DiscStands c (c.enqueue r) := by
  have drop : ∀ (c : Chip) (r : FbRec), DiscStands c (c.countDrop r) := fun c r =>
    ((discStands_wr c R.FBK_DROPPED pgFBK _ _ (by decide)).trans (discStands_modFbk _ _)).trans (discStands_pulse _ pgFBK 1 (by decide))
  unfold Chip.enqueue
  refine .ite (.refl c) (.ite ?_ ?_)
  · exact ((discStands_modFbk c _).trans (discStands_up _ R.FBK_QUEUE pgFBK _ _ (by decide) (by decide))).trans
      (discStands_level _ pgFBK 2 _ (by decide))
  · split
    · exact drop c r
    · exact (discStands_modFbk c _).trans (drop _ _)

theorem discStands_record (code source sev part : Nat) (payload : Bytes) (shelf : Bool) :
    DiscStands c (c.record code source sev part payload shelf) := by
  unfold Chip.record
  have free : DiscStands c c.free.2 := .of_eq rfl rfl rfl
  exact .ite (.refl c) ((DiscStands.ite free (.refl c)).trans (discStands_enqueue _ _))

theorem discStands_proposeAt (x : Nat) (item : AgreedItem) : DiscStands c (c.proposeAt x item) := by
  unfold Chip.proposeAt
  exact .ite (discStands_modTwin c _) (.ite ((discStands_modTwin c _).trans (discStands_send _ _)) (.refl c))

theorem discStands_putHealth (us : List (Fld × Nat × Nat)) (hf : ∀ f ∈ us.map Prod.fst, f.lo % 32 ≠ 7) : DiscStands c (c.putHealth us) := by
  unfold Chip.putHealth
  exact .ite (.refl c) ((discStands_hw c pgTWIN us (by decide) hf).trans (discStands_send _ _))

theorem discStands_reHealth : DiscStands c c.reHealth :=
  discStands_putHealth c _ (show ∀ f ∈ [R.TWIN_ENG_UP, R.TWIN_PORTS_READY, R.TWIN_C_PAUSED, R.TWIN_C_SHED, R.TWIN_SELFTEST_FAIL], _ by decide)

/-! The phase of the port (R216, R233, R236). -/

theorem discStands_setBit (f : Fld) (b n : Nat) (on : Bool) (hb : b % 4096 = 0) (hf : f.lo % 32 ≠ 7) : DiscStands c (c.setBit f b n on) := by
  unfold Chip.setBit
  exact .ite (.refl c) (discStands_up c f b _ 0 hb hf)

theorem discStands_feltPoke (s : Option Nat) : DiscStands c (c.feltPoke s) := by
  unfold Chip.feltPoke
  split
  · exact .ite ((discStands_setBit c _ _ _ _ (by decide) (by decide)).trans (discStands_proposeAt _ _ _)) (.refl c)
  · exact .refl c

theorem discStands_showFelt (s : Nat) : DiscStands c (c.showFelt s) := by
  unfold Chip.showFelt
  exact .ite (.refl c) (discStands_up c _ _ _ _ (by decide) (by decide))

theorem discStands_phiZero (p : Nat) : DiscStands c (c.phiZero p) := by
  unfold Chip.phiZero
  exact .ite (.refl c) ((discStands_hw c _ [(R.SP_PHI, 0, 0), (R.SP_PHI_TGT, 0, 0)] (pgSP_page p).1 (by decide)).trans
    (discStands_modPort _ p _ (fun _ => ⟨rfl, rfl, id, id⟩)))

theorem discStands_feltJudge (p : Nat) (was : Option Nat) : DiscStands c (c.feltJudge p was) := by
  unfold Chip.feltJudge
  extract_lets is c0 c1
  have h0 : DiscStands c c0 := by
    unfold c0
    split
    · exact (discStands_modSec c _ _).trans (discStands_showFelt _ _)
    · exact .refl c
  have h1 : DiscStands c c1 := (h0.trans (discStands_feltPoke c0 was)).trans (discStands_feltPoke _ is)
  refine .ite (.refl c) ?_
  clear_value c1 is
  cases is with
  | some s =>
    have shown : DiscStands c (c1.showFelt s) := h1.trans (discStands_showFelt c1 s)
    exact .ite shown ((shown.trans (discStands_phiZero _ p)).trans (discStands_modSec _ _ _))
  | none => exact h1

theorem discStands_phLeave (p was : Nat) : DiscStands c (c.phLeave p was) := by
  unfold Chip.phLeave
  have cleared : DiscStands c (c.modPort p (fun t => { t with clearReq := false })) := discStands_modPort c p _ (fun _ => ⟨rfl, rfl, id, id⟩)
  exact .ite (discStands_up c _ _ _ _ (pgSP_page p).1 (by decide))
    (.ite (.ite (cleared.trans (discStands_up _ _ _ _ _ (pgSP_page p).1 (by decide))) cleared) (.refl c))

theorem discStands_phSet (p st : Nat) : DiscStands c (c.phSet p st) := by
  unfold Chip.phSet
  extract_lets was c1 c2
  have h1 : DiscStands c c1 := .ite (.refl c) ((discStands_up c _ _ _ _ (pgSP_page p).1 (by decide)).trans (discStands_phLeave _ p was))
  have h2 : DiscStands c c2 := .ite (.ite h1 (h1.trans (discStands_arm c1 _ _))) (h1.trans (discStands_disarm c1 _))
  have h3 : DiscStands c (c2.ssJudge p) := by
    unfold Chip.ssJudge
    exact .ite h2 (h2.trans (discStands_up c2 _ _ _ _ (pgSP_page p).1 (by decide)))
  exact h3.trans (discStands_feltJudge _ _ _)

theorem discStands_phLost (p : Nat) : DiscStands c (c.phLost p) := by
  unfold Chip.phLost
  exact .ite (.refl c) ((discStands_phSet c p 6).trans (discStands_disarm _ _))

/-! The feeder of the port (R289). -/

theorem discStands_countContracts : DiscStands c c.countContracts := by
  unfold Chip.countContracts
  exact .ite (.refl c) (discStands_up c _ _ _ _ (by decide) (by decide))

theorem discStands_fdDrop (p : Nat) : DiscStands c (c.fdDrop p) := by
  unfold Chip.fdDrop
  extract_lets c1 c2
  have ended := (discStands_hw c (pgSP p) [(R.SP_CONTRACT, 0, 0), (R.SP_P_CONTRACT, 0, 0)] (pgSP_page p).1 (by decide)).trans
    (discStands_countContracts _)
  have h1 : DiscStands c c1 := .ite ended (.refl c)
  have h2 : DiscStands c c2 := h1.trans (discStands_modFd c1 p _)
  exact (h2.trans (discStands_disarm c2 _)).trans (discStands_disarm _ _)

/-- The messages that are dropped are of a queue and a request in hand: an empty queue stays empty. -/
theorem discStands_sideDrop (p : Nat) : DiscStands c (c.sideDrop p) :=
  discStands_modPort c p _ (fun t => ⟨rfl, rfl, fun h => by simp only [h], fun h => by simp only [h, List.filter_nil]⟩)

theorem discStands_fdSet (p st : Nat) : DiscStands c (c.fdSet p st) := by
  unfold Chip.fdSet
  extract_lets was c1 c2 c4 c5 c6 c7 c7'
  have h2 : DiscStands c c2 := (discStands_up c _ _ _ _ (pgSP_page p).1 (by decide)).trans (discStands_record c1 _ _ _ _ _ _)
  have h4 : DiscStands c c4 := .ite (.ite h2 (h2.trans (discStands_arm c2 _ _))) (h2.trans (discStands_disarm c2 _))
  have h5 : DiscStands c c5 := .ite (h4.trans (discStands_arm c4 _ _)) (h4.trans (discStands_disarm c4 _))
  have h6 : DiscStands c c6 := .ite (h5.trans (discStands_arm c5 _ _)) (h5.trans (discStands_disarm c5 _))
  have h7 : DiscStands c c7 := (h6.trans (discStands_modFd c6 p _)).trans (discStands_arm _ _ _)
  have h7' : DiscStands c c7' := (h6.trans (discStands_disarm c6 _)).trans (discStands_disarm _ _)
  exact .ite (.refl c) (.ite (.ite (h7.trans (discStands_arm c7 _ _)) h7) (.ite (h7'.trans (discStands_sideDrop c7' p)) h7'))

theorem discStands_fdOff (p : Nat) : DiscStands c (c.fdOff p) := by
  unfold Chip.fdOff
  exact .ite (.refl c) (((discStands_fdDrop c p).trans (discStands_fdSet _ p 0)).trans
    (discStands_modPort _ p _ (fun _ => ⟨rfl, rfl, id, id⟩)))

/-! The link (R133, R139). -/

/-- A link that does not come to READY leaves them, from READY too. -/
theorem discStands_setLink (p : Nat) {v : Nat} (hv : v ≠ lkReady) : DiscStands c (c.setLink p v) := by
  unfold Chip.setLink
  extract_lets was c1 c2
  have h1 : DiscStands c c1 := (DiscStands.ite (.refl c) (discStands_up c _ _ _ _ (pgSP_page p).1 (by decide))).trans
    (discStands_level _ _ _ _ (pgSP_page p).1)
  have lost := ((h1.trans (discStands_phLost c1 p)).trans (discStands_fdOff _ p)).trans (discStands_reHealth _)
  exact .ite lost (by rw [if_neg (by simp [hv])]; exact h1)

theorem discStands_discStep (p : Nat) {v : Nat} (hv : v ≠ lkReady) : DiscStands c (c.discStep p v) :=
  (discStands_setLink c p hv).trans (discStands_arm _ _ _)
end

/-- TYPE_VALID is no field that events change. -/
theorem noisy_typeValid {p : Nat} (hp : p < 192) : noisy (fldKey R.SP_TYPE_VALID (pgSP p) 0) = false :=
  noisy_fld_false R.SP_TYPE_VALID (pgSP p) 0 (pgSP_page p).1 (by decide) (by decide) (by decide) (.inl (by simp only [pgSP]; omega))

theorem discClear_rd (c : Chip) (p : Nat) (f : Fld) (b i : Nat) : (c.discClear p).rd f b i = c.rd f b i := rfl

/-- The chip as discovery is begun anew, before its first step. -/
def Chip.discBegun (c : Chip) (p : Nat) : Chip :=
  (((c.modPort p (fun t => { t with attempts := 0 })).up R.SP_TYPE_VALID (pgSP p) 0).disarm (tmKey tmDiscRetry p)).discClear p

theorem discStart_eq (c : Chip) (p : Nat) : c.discStart p = (c.discBegun p).discStep p lkAlign := rfl

theorem discBegun_typeValid (c : Chip) {p : Nat} (hp : p < 192) : (c.discBegun p).rd R.SP_TYPE_VALID (pgSP p) = 0 := by
  rw [Chip.discBegun, discClear_rd, Chip.disarm_rd, rd_up_same _ _ _ _ _ (pgSP_page p).1 (noisy_typeValid hp), Nat.zero_mod]

/-- Discovery begun anew: no attempt yet, no stage end known, nothing asked (R133). -/
theorem discStart_fresh (c : Chip) {p : Nat} (hp : p < 192) : ((c.discStart p).port p).attempts = 0 ∧ ((c.discStart p).port p).req = none
    ∧ ((c.discStart p).port p).cfgQ = [] ∧ ((c.discStart p).port p).announce = none ∧ (c.discStart p).rd R.SP_TYPE_VALID (pgSP p) = 0 := by
  have h := discStands_discStep (c.discBegun p) p (v := lkAlign) (by decide)
  have hport := h.port p
  simp only [Chip.discBegun, Chip.discClear, Chip.disarm_port, Chip.modPort_port, Chip.up_port] at hport
  have htype : ((c.discBegun p).discStep p lkAlign).rd R.SP_TYPE_VALID (pgSP p) = (c.discBegun p).rd R.SP_TYPE_VALID (pgSP p) :=
    h.regs _ (by simp only [fldKey, R.SP_TYPE_VALID]; omega) (noisy_typeValid hp) _
  exact ⟨hport.attempts, hport.req rfl, hport.cfgQ rfl, hport.announce, htype.trans (discBegun_typeValid c hp)⟩

end Sys2Proof.Machine
end

section
/-! PROOFS. Control registers of power, engines, ports and sections act when written (R70, R91, R133, R136, R169, R170, R176, R222, R239). -/

namespace Sys2Proof.Machine

/-- Fields at different bits of their words are different fields. -/
theorem fldKey_ne_of_lo {f g : Fld} {b i a j : Nat} (h : f.lo % 32 ≠ g.lo % 32) : fldKey f b i ≠ fldKey g a j := by
  simp only [fldKey]
  omega

/-! Writes that this chip takes alone. -/

/-- A write of a word of a page, outside PMC and HOST, that P0 makes through BAR0 and this chip takes alone. -/
theorem pageWrite_alone {s : State} {page o n : Nat} {v : Word} {k : PageKind} (h : s.takesAlone (page + o) v.toNat = true)
    (hp : pageOf (page + o) = some (k, n)) (hk : k ≠ .pmc) (hh : k ≠ .host) :
    pageWrite s .bar0 page o v 15 = s.onChip (fun c => c.applyWord (page + o) v.toNat true false 0) := by
  rw [pageWrite, if_pos (pageOf_lt hp), pathWrite_alone h hp hk hh]

theorem pageOf_pgFELT {d : Nat} (hd : d < 0x1000) : pageOf (pgFELT + d) = some (.felt, 0) :=
  (pageOf_add (by simp only [pgFELT]; omega)).trans (by decide)

theorem pageOf_pgHOLD {d : Nat} (hd : d < 0x1000) : pageOf (pgHOLD + d) = some (.hold, 0) :=
  (pageOf_add (by simp only [pgHOLD]; omega)).trans (by decide)

/-- The common registers of a page lie below offset 0x100. -/
theorem commonWord_passed {α : Type} {o : Nat} (h : 0x100 ≤ o) (owner ctrl latch irqen sel other unit : α) :
    (if o = 8 then owner else if o = 0xC then ctrl else if o = 0x18 then latch else if o = 0x1C then irqen
      else if 0x40 ≤ o ∧ o < 0x50 then sel else if o < 0x100 then other else unit) = unit := by
  rw [if_neg (by omega), if_neg (by omega), if_neg (by omega), if_neg (by omega), if_neg (by omega), if_neg (by omega)]

section
variable (c : Chip) (v : Nat) (own agreed : Bool) (idp : Nat)

/-- A word of FELT, of HOLD, of an engine's page beyond the common registers. -/
theorem applyWord_felt {o : Nat} (h : 0x100 ≤ o) (ho : o < 0x1000) : c.applyWord (pgFELT + o) v own agreed idp = c.wrFelt o v := by
  have hm : (pgFELT + o) % 0x1000 = o := by simp only [pgFELT]; omega
  simp only [Chip.applyWord, pageOf_pgFELT ho, hm]
  exact commonWord_passed h _ _ _ _ _ _ _

theorem applyWord_hold {o : Nat} (h : 0x100 ≤ o) (ho : o < 0x1000) : c.applyWord (pgHOLD + o) v own agreed idp = c.wrHold o v := by
  have hm : (pgHOLD + o) % 0x1000 = o := by simp only [pgHOLD]; omega
  simp only [Chip.applyWord, pageOf_pgHOLD ho, hm]
  exact commonWord_passed h _ _ _ _ _ _ _

theorem applyWord_engine {n o : Nat} (hn : n < 128) (h : 0x100 ≤ o) (ho : o < 0x1000) :
    c.applyWord (pgCE n + o) v own agreed idp = c.wrCe n o v agreed := by
  have hm : (pgCE n + o) % 0x1000 = o := by simp only [pgCE]; omega
  simp only [Chip.applyWord, pageOf_ce_add hn ho, hm]
  exact commonWord_passed h _ _ _ _ _ _ _

theorem applyWord_spCtrl {n : Nat} (hn : n < 192) : c.applyWord (pgSP n + 0x100) v own agreed idp = c.wrSpCtrl n v :=
  applyWord_port hn (by decide)

theorem applyWord_phCtrl {n : Nat} (hn : n < 192) (hv : bitOf v 0 = true) : c.applyWord (pgSP n + 0x180) v own agreed idp = c.phClear n :=
  (applyWord_port hn (by decide)).trans (if_pos hv)
end

/-! The sequencer and the reset key (R70, R71, R91). -/

section
variable (s : State)

theorem seqSave_acts (h : s.takesAlone (pgSEQ + 0x120) 1 = true) (hv : railsValid s.chip.railRegs = true) :
    ∃ t, exec (.seqSave .bar0 1 15) s = .next t ∧ t.chip.mram.seqSet = some s.chip.railRegs
      ∧ t.chip.plumb.newSet = some s.chip.railRegs := by
  refine ⟨_, congrArg Host.Outcome.next (pageWrite_alone (v := 1) h (k := .seq) (n := 0) (by decide) (by decide) (by decide)), ?_⟩
  show s.chip.seqSave.mram.seqSet = _ ∧ s.chip.seqSave.plumb.newSet = _
  rw [Chip.seqSave, if_pos hv]
  exact ⟨rfl, rfl⟩

theorem seqRestart_acts (h : s.takesAlone (pgSEQ + 0x120) 2 = true)
    (hst : s.chip.rd R.SEQ_STATE pgSEQ = 3 ∨ s.chip.rd R.SEQ_STATE pgSEQ = 4) :
    ∃ t, exec (.seqRestart .bar0 2 15) s = .next t
      ∧ t = s.onChip (fun c => ((c.disarm (tmKey tmRetry 0)).up R.SEQ_ABORTS pgSEQ 0).seqStart) := by
  refine ⟨_, congrArg Host.Outcome.next (pageWrite_alone (v := 2) h (k := .seq) (n := 0) (by decide) (by decide) (by decide)), ?_⟩
  show s.onChip Chip.seqRestart = _
  rw [State.onChip, Chip.seqRestart, if_pos hst]
  rfl

theorem exec_resetKeyWrite {v : Word} (h : s.takesAlone (pgSYS + 0x104) v.toNat = true) :
    exec (.resetKeyWrite .bar0 v 15) s = .next (s.onChip (fun c => c.resetKeyWrite v.toNat)) :=
  congrArg Host.Outcome.next (pageWrite_alone h (k := .sys) (n := 0) (by decide) (by decide) (by decide))

theorem resetKey_first (h : s.takesAlone (pgSYS + 0x104) 0xA5A5 = true) (hk : s.chip.plumb.key = 0) :
    ∃ t, exec (.resetKeyWrite .bar0 0xA5A5 15) s = .next t ∧ t.chip.plumb.key = 1
      ∧ mapGet t.chip.timers (tmKey tmKeyReset 0) 0 = s.chip.now + dqMs + 1 := by
  refine ⟨_, exec_resetKeyWrite s (v := 0xA5A5) h, ?_⟩
  have act : s.chip.resetKeyWrite (0xA5A5 : Word).toNat = (s.chip.modPlumb (fun p => { p with key := 1 })).arm (tmKey tmKeyReset 0) dqMs := by
    simp [Chip.resetKeyWrite, hk, keyWrite]
  rw [State.onChip_chip, act]
  exact ⟨rfl, mapGet_mapSet_same _ _ _ _⟩

theorem resetKey_second (h : s.takesAlone (pgSYS + 0x104) 0x5A5A = true) (hk : s.chip.plumb.key = 1) :
    ∃ t, exec (.resetKeyWrite .bar0 0x5A5A 15) s = .next t ∧ t.chip.plumb.key = 0
      ∧ mapGet t.chip.timers (tmKey tmResetBegin 0) 0 = s.chip.now + 10 * dqUs + 1 := by
  refine ⟨_, exec_resetKeyWrite s (v := 0x5A5A) h, ?_⟩
  have act : s.chip.resetKeyWrite (0x5A5A : Word).toNat
      = ((s.chip.modPlumb (fun p => { p with key := 0 })).disarm (tmKey tmKeyReset 0)).arm (tmKey tmResetBegin 0) (10 * dqUs) := by
    simp [Chip.resetKeyWrite, hk, keyWrite]
  rw [State.onChip_chip, act]
  exact ⟨rfl, mapGet_mapSet_same _ _ _ _⟩
end

/-! SP_CTRL (R133, R136). -/

section
variable (s : State) (p : Port) (v : Word)

theorem discStart_acts (h : s.takesAlone (pgSP p.val + 0x100) v.toNat = true) (h3 : bitOf v.toNat 3 = true)
    (ha : v.toNat % 4 = s.chip.safeAct p.val) : ∃ t, exec (.discStart .bar0 p v 15) s = .next t ∧ (t.chip.port p.val).attempts = 0
      ∧ (t.chip.port p.val).req = none ∧ (t.chip.port p.val).cfgQ = [] ∧ (t.chip.port p.val).announce = none
      ∧ t.chip.rd R.SP_TYPE_VALID (pgSP p.val) = 0 := by
  refine ⟨_, congrArg Host.Outcome.next (pageWrite_alone h (pageOf_sp_add p.isLt (by decide)) (by decide) (by decide)), ?_⟩
  have act : s.chip.wrSpCtrl p.val v.toNat = (s.chip.wr R.SP_AUTO_DISC (pgSP p.val) (b2n (bitOf v.toNat 2))).discStart p.val := by
    simp [Chip.wrSpCtrl, ha, h3]
  rw [State.onChip_chip, applyWord_spCtrl _ _ _ _ _ p.isLt, act]
  exact discStart_fresh _ p.isLt

/-- A field that takes a value leaves every other that events do not change. -/
theorem up_stands (c : Chip) (f : Fld) (b v i : Nat) (hb : b % 4096 = 0) {k : Nat} (hn : noisy k = false) (hne : k ≠ fldKey f b i) (d : Nat) :
    mapGet (c.up f b v i).regs k d = mapGet c.regs k d :=
  (same_hw c b [(f, i, v)] hb k hn d).trans (mapGet_mapSet_ne _ hne _ _)

theorem discBegun_stands (c : Chip) (q : Nat) {k : Nat} (hn : noisy k = false) (hne : k ≠ fldKey R.SP_TYPE_VALID (pgSP q) 0) (d : Nat) :
    mapGet (c.discBegun q).regs k d = mapGet c.regs k d := by
  simp only [Chip.discBegun, Chip.discClear, Chip.disarm_regs, Chip.modPort_regs]
  exact up_stands (c.modPort q _) R.SP_TYPE_VALID (pgSP q) 0 0 (pgSP_page q).1 hn hne d

/-- Discovery that starts on a link that is DOWN leaves every register but LINK and TYPE_VALID that events do not change. -/
theorem discStart_down (c : Chip) {q : Nat} (hq : q < 192) (hl : c.link q = lkDown) {k : Nat} (hn : noisy k = false)
    (hlk : k ≠ fldKey R.SP_LINK (pgSP q) 0) (htv : k ≠ fldKey R.SP_TYPE_VALID (pgSP q) 0) (d : Nat) :
    mapGet (c.discStart q).regs k d = mapGet c.regs k d := by
  have hb := (pgSP_page q).1
  have noisyLink : noisy (fldKey R.SP_LINK (pgSP q) 0) = false :=
    noisy_fld_false R.SP_LINK (pgSP q) 0 hb (by decide) (by decide) (by decide) (.inl (by simp only [pgSP]; omega))
  have hdown : (c.discBegun q).link q = lkDown := (discBegun_stands c q noisyLink (fldKey_ne_of_lo (by decide)) _).trans hl
  have step : (c.discBegun q).setLink q lkAlign = ((c.discBegun q).up R.SP_LINK (pgSP q) lkAlign).level (pgSP q) 5 false := by
    simp [Chip.setLink, hdown, lkDown, lkAlign, lkReady, lkFailed]
  rw [discStart_eq, Chip.discStep, Chip.arm_regs, step, same_level _ _ _ _ hb k hn d]
  exact (up_stands _ _ _ _ _ hb hn hlk d).trans (discBegun_stands c q hn htv d)

/-- The word of SP_CTRL is no register that events change, nor one that discovery writes. -/
theorem spCtrl_stands (c : Chip) {q : Nat} (hq : q < 192) (hl : c.link q = lkDown) {f : Fld} (hf : f = R.SP_SAFE_ACT ∨ f = R.SP_AUTO_DISC)
    (d : Nat) : mapGet (c.discStart q).regs (fldKey f (pgSP q) 0) d = mapGet c.regs (fldKey f (pgSP q) 0) d := by
  have far : pgSP q ≠ 0x13000 := by simp only [pgSP]; omega
  have hn : noisy (fldKey f (pgSP q) 0) = false := by
    rcases hf with rfl | rfl
    · exact noisy_fld_false _ _ 0 (pgSP_page q).1 (by decide) (by decide) (by decide) (.inl far)
    · exact noisy_fld_false _ _ 0 (pgSP_page q).1 (by decide) (by decide) (by decide) (.inl far)
  refine discStart_down c hq hl hn ?_ ?_ d
  · rcases hf with rfl | rfl <;> simp only [fldKey, R.SP_SAFE_ACT, R.SP_AUTO_DISC, R.SP_LINK] <;> omega
  · rcases hf with rfl | rfl <;> simp only [fldKey, R.SP_SAFE_ACT, R.SP_AUTO_DISC, R.SP_TYPE_VALID] <;> omega

/-- The chip whose SP_CTRL holds the SAFE action and AUTO_DISC of a written word. -/
def Chip.spCtrlPut (c : Chip) (q v : Nat) : Chip := (c.wr R.SP_SAFE_ACT (pgSP q) (v % 4)).wr R.SP_AUTO_DISC (pgSP q) (b2n (bitOf v 2))

theorem spCtrlPut_safeAct (c : Chip) (q v d : Nat) : mapGet (c.spCtrlPut q v).regs (fldKey R.SP_SAFE_ACT (pgSP q) 0) d = v % 4 :=
  ((mapGet_mapSet_ne _ (by simp only [fldKey, R.SP_SAFE_ACT, R.SP_AUTO_DISC]; omega) _ _).trans (mapGet_mapSet_same _ _ _ _)).trans
    (Nat.mod_mod v 4)

theorem spCtrlPut_autoDisc (c : Chip) (q v d : Nat) :
    mapGet (c.spCtrlPut q v).regs (fldKey R.SP_AUTO_DISC (pgSP q) 0) d = b2n (bitOf v 2) :=
  (mapGet_mapSet_same _ _ _ _).trans (b2n_mod_two _)

theorem safeActWrite_acts (h : s.takesAlone (pgSP p.val + 0x100) v.toNat = true) (h3 : bitOf v.toNat 3 = false)
    (ha : v.toNat % 4 ≠ s.chip.safeAct p.val) (hann : (s.chip.port p.val).announce = none) (_hc : (s.chip.port p.val).cfgDone = false) :
    ∃ t, exec (.safeActWrite .bar0 p v 15) s = .next t ∧ t.chip.safeAct p.val = v.toNat % 4
      ∧ t.chip.rd R.SP_AUTO_DISC (pgSP p.val) = b2n (bitOf v.toNat 2) := by
  refine ⟨_, congrArg Host.Outcome.next (pageWrite_alone h (pageOf_sp_add p.isLt (by decide)) (by decide) (by decide)), ?_⟩
  let begins : Bool := bitOf v.toNat 2 && !s.chip.on R.SP_AUTO_DISC (pgSP p.val) && s.chip.enabled (pgSP p.val)
    && s.chip.link p.val == lkDown
  have act : s.chip.wrSpCtrl p.val v.toNat
      = if begins then (s.chip.spCtrlPut p.val v.toNat).discStart p.val else s.chip.spCtrlPut p.val v.toNat := by
    simp [Chip.wrSpCtrl, ha, h3, hann, begins, Chip.spCtrlPut]
  rw [State.onChip_chip, applyWord_spCtrl _ _ _ _ _ p.isLt, act]
  by_cases hb : begins = true
  · have hdown : s.chip.link p.val = lkDown := by simp [begins] at hb; exact hb.2
    have hlink : (s.chip.spCtrlPut p.val v.toNat).link p.val = lkDown := by
      rw [← hdown, Chip.link, Chip.spCtrlPut, rd_wr_ne _ _ _ _ _ _ _ _ (by simp only [fldKey, R.SP_LINK, R.SP_AUTO_DISC]; omega),
        rd_wr_ne _ _ _ _ _ _ _ _ (by simp only [fldKey, R.SP_LINK, R.SP_SAFE_ACT]; omega), Chip.link]
    rw [if_pos hb]
    exact ⟨(spCtrl_stands _ p.isLt hlink (.inl rfl) _).trans (spCtrlPut_safeAct _ _ _ _),
      (spCtrl_stands _ p.isLt hlink (.inr rfl) _).trans (spCtrlPut_autoDisc _ _ _ _)⟩
  · rw [if_neg hb]
    exact ⟨spCtrlPut_safeAct _ _ _ _, spCtrlPut_autoDisc _ _ _ _⟩
end

/-! Engines and phases (R169, R170, R176, R222). -/

section
variable (s : State)

theorem ceSelftestStart_acts (e : Engine) (h : s.takesAlone (pgCE e.val + 0x108) 1 = true) (hu : (s.chip.eng e.val).up = true)
    (hw : s.chip.takesWork (pgCE e.val) = true) (hb : s.chip.on R.CE_SELFTEST_BUSY (pgCE e.val) = false) :
    ∃ t, exec (.ceSelftestStart .bar0 e 1 15) s = .next t ∧ t.chip.rd R.CE_SELFTEST_BUSY (pgCE e.val) = 1 := by
  refine ⟨_, congrArg Host.Outcome.next (pageWrite_alone (v := 1) h (pageOf_ce_add e.isLt (by decide)) (by decide) (by decide)), ?_⟩
  have act : s.chip.wrCe e.val 0x108 (1 : Word).toNat false = s.chip.up R.CE_SELFTEST_BUSY (pgCE e.val) 1 := by
    rw [Chip.wrCe, if_pos rfl, if_pos (by rw [hw]; rfl), Chip.selfcheckStart, if_pos (by rw [hu, hb]; rfl)]
  rw [State.onChip_chip, applyWord_engine _ _ _ _ _ e.isLt (by decide) (by decide), act]
  exact rd_up_same _ _ _ _ _ (pgCE_page e.val).1
    (noisy_fld_false _ _ 0 (pgCE_page e.val).1 (by decide) (by decide) (by decide) (.inl (by simp only [pgCE]; omega)))

theorem ceDoorbell_acts (e : Engine) (hi : Bool) (v : Word) (h : s.takesAlone (pgCE e.val + (if hi then 0x110 else 0x10C)) v.toNat = true) :
    ∃ t, exec (.ceDoorbell .bar0 e hi v 15) s = .next t ∧ t = s.onChip (fun c => c.doorbell e.val hi v.toNat) := by
  have ho : (if hi then 0x110 else 0x10C) < 0x1000 := by cases hi <;> decide
  have hlo : 0x100 ≤ (if hi then 0x110 else 0x10C) := by cases hi <;> decide
  refine ⟨_, congrArg Host.Outcome.next (pageWrite_alone h (pageOf_ce_add e.isLt ho) (by decide) (by decide)), ?_⟩
  simp only [State.onChip, applyWord_engine s.chip v.toNat true false 0 e.isLt hlo ho]
  cases hi <;> rfl

theorem ceCancel_acts (e : Engine) (hi : Bool) (v : Word) (h : s.takesAlone (pgCE e.val + (if hi then 0x118 else 0x114)) v.toNat = true) :
    ∃ t, exec (.ceCancel .bar0 e hi v 15) s = .next t ∧ t = s.onChip (fun c => c.cancelSlots e.val (if hi then 32 else 0) v.toNat) := by
  have ho : (if hi then 0x118 else 0x114) < 0x1000 := by cases hi <;> decide
  have hlo : 0x100 ≤ (if hi then 0x118 else 0x114) := by cases hi <;> decide
  refine ⟨_, congrArg Host.Outcome.next (pageWrite_alone h (pageOf_ce_add e.isLt ho) (by decide) (by decide)), ?_⟩
  simp only [State.onChip, applyWord_engine s.chip v.toNat true false 0 e.isLt hlo ho]
  cases hi <;> rfl

theorem exec_phCtrlClear (p : Port) (h : s.takesAlone (pgSP p.val + 0x180) 1 = true) :
    exec (.phCtrlClear .bar0 p 1 15) s = .next (s.onChip (fun c => c.phClear p.val)) := by
  refine congrArg Host.Outcome.next ((pageWrite_alone (v := 1) h (pageOf_sp_add p.isLt (by decide)) (by decide) (by decide)).trans ?_)
  rw [State.onChip, applyWord_phCtrl _ _ _ _ _ p.isLt (by decide)]
  rfl

theorem phCtrlClear_latched (p : Port) (h : s.takesAlone (pgSP p.val + 0x180) 1 = true) (hp : s.chip.ph p.val = 4) :
    ∃ t, exec (.phCtrlClear .bar0 p 1 15) s = .next t ∧ t = s.onChip (fun c => c.phStart p.val) := by
  refine ⟨_, exec_phCtrlClear s p h, ?_⟩
  rw [State.onChip, Chip.phClear, if_pos hp]
  rfl

theorem phCtrlClear_crowbar (p : Port) (h : s.takesAlone (pgSP p.val + 0x180) 1 = true) (hp : s.chip.ph p.val = 5) :
    ∃ t, exec (.phCtrlClear .bar0 p 1 15) s = .next t
      ∧ t = s.onChip (fun c => (c.modPort p.val (fun t => { t with clearReq := true })).sendClear p.val) := by
  refine ⟨_, exec_phCtrlClear s p h, ?_⟩
  rw [State.onChip, Chip.phClear, if_neg (by rw [hp]; decide), if_pos hp]
  rfl

/-! Sections (R239, R246, R258). -/

theorem proposeAt_regs (c : Chip) (x : Nat) (item : AgreedItem) : (c.proposeAt x item).regs = c.regs := by
  unfold Chip.proposeAt
  extract_lets st t
  split
  · rfl
  · split
    · exact Chip.send_regs _ _
    · rfl

theorem setBit_bit (c : Chip) (f : Fld) (b : Nat) {n : Nat} (hb : b % 4096 = 0) (hn : noisy (fldKey f b 0) = false) (hw : n < f.w) :
    bitOf ((c.setBit f b n true).rd f b) n = true := by
  have set : ∀ v, setBitN v n true = v ||| 2 ^ n := fun _ => rfl
  rw [Chip.setBit, set]
  split
  · next h => exact h ▸ bitOf_or_self _ _
  · rw [rd_up_same _ _ _ _ _ hb hn, bitOf_mod _ _ _ hw]
    exact bitOf_or_self _ _

theorem rd_setBit (c : Chip) (f g : Fld) (b n a j : Nat) (on : Bool) (hb : b % 4096 = 0) (hn : noisy (fldKey g a j) = false)
    (hne : fldKey g a j ≠ fldKey f b 0) : (c.setBit f b n on).rd g a j = c.rd g a j := by
  rw [Chip.setBit]
  split
  · rfl
  · rw [rd_up _ _ _ _ _ _ _ _ hb hn, rd_wr_ne _ _ _ _ _ _ _ _ hne]

/-- RATE_HALVED is cleared and a recompute is pending (R239). -/
theorem fsCfg_shows (c : Chip) (k : Sec) : (c.fsCfg k.val).on R.FELT_RATE_HALVED pgFELT k.val = false
    ∧ bitOf ((c.fsCfg k.val).rd R.FELT_PENDING pgFELT) k.val = true := by
  have hn : noisy (fldKey R.FELT_RATE_HALVED pgFELT k.val) = false := by revert k; decide
  have hne : fldKey R.FELT_RATE_HALVED pgFELT k.val ≠ fldKey R.FELT_PENDING pgFELT 0 := by revert k; decide
  unfold Chip.fsCfg
  set d := if c.on R.FELT_RATE_HALVED pgFELT k.val then c.up R.FELT_RATE_HALVED pgFELT 0 k.val else c with hd
  have hoff : d.rd R.FELT_RATE_HALVED pgFELT k.val = 0 := by
    rw [hd]
    split
    · exact rd_up_same _ _ _ _ _ (by decide) hn
    · next h => simpa [Chip.on] using h
  have hrd : ∀ f i, (d.feltTrigger k.val).rd f pgFELT i = (d.setBit R.FELT_PENDING pgFELT k.val true).rd f pgFELT i :=
    fun f i => congrArg (fun m => mapGet m _ _) (proposeAt_regs _ _ _)
  refine ⟨?_, ?_⟩
  · rw [Chip.on, hrd, rd_setBit _ _ _ _ _ _ _ _ (by decide) hn hne, hoff]
    rfl
  · rw [hrd]
    exact setBit_bit _ _ _ (by decide) (by decide) k.isLt

theorem fsCfgWrite_acts (k : Sec) (v : Word) (h : s.takesAlone (pgFELT + (0x200 + 0x40 * k.val)) v.toNat = true) :
    ∃ t, exec (.fsCfgWrite .bar0 k v 15) s = .next t ∧ t.chip.on R.FELT_RATE_HALVED pgFELT k.val = false
      ∧ bitOf (t.chip.rd R.FELT_PENDING pgFELT) k.val = true := by
  have hk := k.isLt
  have ho : 0x200 + 0x40 * k.val < 0x1000 := by omega
  refine ⟨_, congrArg Host.Outcome.next (pageWrite_alone h (pageOf_pgFELT ho) (by decide) (by decide)), ?_⟩
  rw [State.onChip_chip, applyWord_felt _ _ _ _ _ (by omega) ho, Chip.wrFelt]
  rw [if_pos (by omega), show (0x200 + 0x40 * k.val - 0x200) / 0x40 = k.val by omega]
  exact fsCfg_shows _ k

/-- The fields of HU_CFG. -/
def huCfgFields : List Fld := [R.HOLD_EN, R.HOLD_PS_EN, R.HOLD_RECHG_EN, R.HOLD_QUORUM, R.HOLD_EW_GROUPS]

theorem rowsAt_huCfg : ∀ k : Sec, PageKind.rowsAt .hold (0x200 + 0x40 * k.val) = huCfgFields.map (fun f => (⟨f, 8, .rw⟩, k.val)) := by
  decide +kernel

theorem huCfgWrite_acts (k : Sec) (h : s.takesAlone (pgHOLD + (0x200 + 0x40 * k.val)) 0 = true) :
    ∃ t, exec (.huCfgWrite .bar0 k 0 15) s = .next t ∧ t.chip.rd R.HOLD_EN pgHOLD k.val = 0
      ∧ t.chip.rd R.HOLD_STATE pgHOLD k.val = s.chip.rd R.HOLD_STATE pgHOLD k.val
      ∧ t.chip.rdV R.HOLD_EN pgHOLD k.val = s.chip.rdV R.HOLD_EN pgHOLD k.val := by
  have hk := k.isLt
  have ho : 0x200 + 0x40 * k.val < 0x1000 := by omega
  refine ⟨_, congrArg Host.Outcome.next (pageWrite_alone (v := 0) h (pageOf_pgHOLD ho) (by decide) (by decide)), ?_⟩
  have act : s.chip.wrHold (0x200 + 0x40 * k.val) (0 : Word).toNat = s.chip.putWord .hold pgHOLD (0x200 + 0x40 * k.val) 0 := by
    rw [Chip.wrHold, if_pos (by omega), show (0x200 + 0x40 * k.val) % 0x40 = 0 by omega]
    rfl
  rw [State.onChip_chip, applyWord_hold _ _ _ _ _ (by omega) ho, act]
  simp only [Chip.putWord, rowsAt_huCfg, huCfgFields, List.map_cons, List.map_nil, List.foldl_cons, List.foldl_nil, Chip.rdV, Chip.wr_inForce]
  refine ⟨?_, ?_, trivial⟩
  · iterate 4 rw [rd_wr_ne _ _ _ _ _ _ _ _ (fldKey_ne_of_lo (by decide))]
    rw [rd_wr_same]
    rfl
  · iterate 4 rw [rd_wr_ne _ _ _ _ _ _ _ _ (fldKey_ne_of_lo (by decide))]
    rw [rd_wr_ne _ _ _ _ _ _ _ _ (by simp only [fldKey, R.HOLD_STATE, R.HOLD_EN]; omega)]
end

/-- Settles O33, register by register. -/
theorem controlBitsAct : Obligations.ControlBitsAct :=
  ⟨seqSave_acts, seqRestart_acts, resetKey_first, resetKey_second, discStart_acts, safeActWrite_acts, ceSelftestStart_acts,
    ceDoorbell_acts, ceCancel_acts, phCtrlClear_latched, phCtrlClear_crowbar, fsCfgWrite_acts, huCfgWrite_acts⟩

end Sys2Proof.Machine
end

section
/-! PROOFS. Start steps 3 to 7 (R93, R94, R95, R491). -/

namespace Sys2Proof.Machine

/-! What stands of the start. -/

theorem SysStands.of_quiet {c d : Chip} (q : Quiet c d) (h : Same c d) : SysStands c d := ⟨q.plumb, q.mram, fun k _ hn v => h k hn v⟩

/-- A change that is quiet and leaves the SYS page. -/
structure BootStands (c d : Chip) : Prop where
  quiet : Quiet c d
  sys : SysStands c d

theorem BootStands.refl (c : Chip) : BootStands c c := ⟨.refl c, .refl c⟩

theorem BootStands.trans {c d e : Chip} (h : BootStands c d) (j : BootStands d e) : BootStands c e :=
  ⟨h.quiet.trans j.quiet, h.sys.trans j.sys⟩

section
variable (c : Chip)

theorem bootStands_send (o : Out) : BootStands c (c.send o) := ⟨quiet_send c o, .of_quiet (quiet_send c o) (.of_eq (by simp))⟩

theorem bootStands_hw (b : Nat) (us : List (Fld × Nat × Nat)) (hb : b % 4096 = 0) (h1 : 0x1000 ≤ b) : BootStands c (c.hw b us) :=
  ⟨quiet_hw c b us, sysStands_hw c b us hb h1⟩

/-- A container that fails its checks is counted and pulses an event, and nothing else (R489). -/
theorem bootStands_ctVerifyAll (bs : List Bytes) (r : Option Nat) : BootStands c (c.ctVerifyAll bs r).1 := by
  induction bs generalizing c r with
  | nil => exact .refl c
  | cons b bs ih =>
    have one : BootStands c (c.ctVerify b).1 := by
      unfold Chip.ctVerify
      split
      · have counted := sysStands_wr c R.SEC_CNT_VERIFY_FAIL pgSEC (c.rd R.SEC_CNT_VERIFY_FAIL pgSEC + 1) 0 (by decide)
        have q := quiet_pulse (c.bump R.SEC_CNT_VERIFY_FAIL pgSEC) pgSEC 0
        exact ⟨(quiet_bump c _ _ _ _).trans q, counted.trans (.of_quiet q (same_pulse _ _ _ (by decide)))⟩
      · exact .refl c
    exact one.trans (ih _ _)

theorem bootStands_setPasses (bs : List Bytes) : BootStands c (c.setPasses bs).1 := bootStands_ctVerifyAll c bs none

theorem bootStands_archShow : BootStands c c.archShow := by
  unfold Chip.archShow
  extract_lets a h t
  split
  · exact .refl c
  · exact bootStands_hw c pgXSPI _ (by decide) (by decide)

theorem bootStands_xspiStart (i : FlashInfo) : BootStands c (c.xspiStart i) :=
  (((bootStands_send c _).trans (bootStands_send _ _)).trans (bootStands_hw _ pgXSPI _ (by decide) (by decide))).trans
    (bootStands_archShow _)

/-- READY tells whether the flash has 128 MiB or more (R482). -/
theorem xspiStart_ready (i : FlashInfo) : (c.xspiStart i).rd R.XSPI_READY pgXSPI = b2n (decide (128 ≤ i.sizeMib)) := by
  have shown : ∀ c : Chip, c.archShow.rd R.XSPI_READY pgXSPI = c.rd R.XSPI_READY pgXSPI := by
    intro c
    unfold Chip.archShow
    extract_lets a h t
    split
    · rfl
    · rw [rd_hw _ _ _ _ _ _ (by decide) (by decide)]
      simp only [foldc, List.foldl_cons, List.foldl_nil]
      iterate 3 rw [rd_wr_ne _ _ _ _ _ _ _ _ (by decide)]
  rw [Chip.xspiStart, shown, rd_hw _ _ _ _ _ _ (by decide) (by decide)]
  simp only [foldc, List.foldl_cons, List.foldl_nil]
  iterate 3 rw [rd_wr_ne _ _ _ _ _ _ _ _ (by decide)]
  rw [rd_wr_same]
  exact b2n_mod_two _

theorem rd_setStep (v : Nat) (f : Fld) (b i : Nat) (hn : noisy (fldKey f b i) = false) (hne : fldKey f b i ≠ fldKey R.SYS_STEP pgSYS 0) :
    (c.setStep v).rd f b i = c.rd f b i := by
  unfold Chip.setStep
  split
  · rfl
  · rw [rd_up _ _ _ _ _ _ _ _ (by decide) hn, rd_wr_ne _ _ _ _ _ _ _ _ hne]
end

/-! Step 3: the choice of an image (R95, R491). -/

section
variable (c : Chip) (slot : Nat) (bs : List Bytes)

/-- The chip that takes a set for MGMT. -/
def Chip.setTaken (c : Chip) (bs : List Bytes) : Chip :=
  (c.modFwu (fun f => { f with bootSet := bs, mirrorFmt := match ctOf bs 2 with | some b => ctFmt b | none => 0 })).modPlumb
    (fun p => { p with mgmtUp := true })

/-- The chip whose MGMT has started, before the limit of R493. -/
def Chip.mgmtBegun (c : Chip) (slot : Nat) (bs : List Bytes) : Chip :=
  (((c.setTaken bs).hw pgFWU [(R.FWU_RUN_VER, 0, ctVer bs 1), (R.FWU_RUN_VER, 1, ctVer bs 2)]).up R.SYS_SLOT pgSYS slot).setStep 3

theorem startMgmt_eq : c.startMgmt slot bs = if slot = 0 then (c.mgmtBegun slot bs).arm (tmKey tmBoot 0) dqS else c.mgmtBegun slot bs := rfl

theorem mgmtBegun_shows (hs : slot < 4) : (c.mgmtBegun slot bs).rd R.SYS_STEP pgSYS = 3 ∧ (c.mgmtBegun slot bs).rd R.SYS_SLOT pgSYS = slot
    ∧ (c.mgmtBegun slot bs).plumb.mgmtUp = true ∧ (c.mgmtBegun slot bs).fwu.bootSet = bs := by
  have q : Quiet (c.setTaken bs) (c.mgmtBegun slot bs) := ((quiet_hw _ _ _).trans (quiet_up _ _ _ _ _)).trans (quiet_setStep _ _)
  refine ⟨setStep_step _ (by decide), ?_, by rw [q.plumb]; rfl, by rw [q.fwu]; rfl⟩
  rw [Chip.mgmtBegun, rd_setStep _ _ _ _ _ (by decide) (by decide), rd_up_same _ _ _ _ _ (by decide) (by decide)]
  exact Nat.mod_eq_of_lt hs

theorem startMgmt_shows (hs : slot < 4) : (c.startMgmt slot bs).rd R.SYS_STEP pgSYS = 3 ∧ (c.startMgmt slot bs).rd R.SYS_SLOT pgSYS = slot
    ∧ (c.startMgmt slot bs).plumb.mgmtUp = true ∧ (c.startMgmt slot bs).fwu.bootSet = bs := by
  obtain ⟨hstep, hslot, hup, hset⟩ := mgmtBegun_shows c slot bs hs
  rw [startMgmt_eq]
  generalize c.mgmtBegun slot bs = d at *
  split
  · exact ⟨hstep, hslot, hup, hset⟩
  · exact ⟨hstep, hslot, hup, hset⟩

theorem startMgmt_limit : mapGet (c.startMgmt 0 bs).timers (tmKey tmBoot 0) 0 = (c.startMgmt 0 bs).now + dqS + 1 := by
  rw [startMgmt_eq, if_pos rfl]
  exact mapGet_mapSet_same _ _ _ _

theorem bootFailImage_shows : c.bootFailImage.plumb.halted = true ∧ c.bootFailImage.rd R.SYS_RESULT pgSYS = 3 := by
  have q : Quiet (c.modPlumb (fun p => { p with halted := true })) c.bootFailImage := (quiet_up _ _ _ _ _).trans (quiet_reFlt _)
  refine ⟨by rw [q.plumb]; rfl, ?_⟩
  rw [Chip.bootFailImage, (sysStands_reFlt _).rd _ _ _ (by decide) (by decide)]
  exact rd_up_same _ _ _ _ _ (by decide) (by decide)
end

section
variable (s : State) (i : FlashInfo) (r : Containers) (h2 : s.chip.rd R.SYS_STEP pgSYS = 2) (hh : s.chip.plumb.halted = false)
  (hl : (upTo 31).all (fun k => s.chip.plumb.locked.contains k) = true)
include h2 hh hl

/-- The start stands before step 3, with every PLL locked. -/
theorem bootImageSelect_due :
    ¬ (s.chip.rd R.SYS_STEP pgSYS ≠ 2 ∨ s.chip.plumb.halted ∨ (upTo 31).any (fun i => !s.chip.plumb.locked.contains i)) := by
  rw [List.all_eq_true] at hl
  simp only [h2, hh, ne_eq, not_true_eq_false, Bool.false_eq_true, false_or, List.any_eq_true, not_exists, not_and]
  intro k hk
  simp only [hl k hk, Bool.not_true, Bool.false_eq_true, not_false_eq_true]

/-- With a boot source other than flash the set of the recovery is the one (R95). -/
theorem bootImageSelect_recovery (hb : s.chip.rd R.SYS_BOOT_SRC pgSYS ≠ 0) : bootImageSelect s.chip i r
    = if ((s.chip.xspiStart i).setPasses r).2 then ((s.chip.xspiStart i).setPasses r).1.startMgmt 2 r
      else ((s.chip.xspiStart i).setPasses r).1.bootFailImage := by
  have hsrc : (s.chip.xspiStart i).rd R.SYS_BOOT_SRC pgSYS ≠ 0 := by
    rwa [(bootStands_xspiStart s.chip i).sys.rd _ _ _ (by decide) (by decide)]
  rw [bootImageSelect, if_neg (bootImageSelect_due s h2 hh hl)]
  exact if_pos hsrc

theorem bootImageSelect_passes (hb : s.chip.rd R.SYS_BOOT_SRC pgSYS ≠ 0) (hok : ((s.chip.xspiStart i).setPasses r).2 = true) :
    ∃ t, exec (.bootImageSelect i r) s = .next t ∧ t.chip.rd R.SYS_STEP pgSYS = 3 ∧ t.chip.rd R.SYS_SLOT pgSYS = 2
      ∧ t.chip.plumb.mgmtUp = true ∧ t.chip.fwu.bootSet = r := by
  refine ⟨_, rfl, ?_⟩
  rw [State.onChip_chip, bootImageSelect_recovery s i r h2 hh hl hb, if_pos hok]
  exact startMgmt_shows _ 2 r (by decide)

theorem bootImageSelect_fails (hb : s.chip.rd R.SYS_BOOT_SRC pgSYS ≠ 0) (hok : ((s.chip.xspiStart i).setPasses r).2 = false) :
    ∃ t, exec (.bootImageSelect i r) s = .next t ∧ t.chip.plumb.halted = true ∧ t.chip.rd R.SYS_RESULT pgSYS = 3 := by
  refine ⟨_, rfl, ?_⟩
  rw [State.onChip_chip, bootImageSelect_recovery s i r h2 hh hl hb, if_neg (by rw [hok]; decide)]
  exact bootFailImage_shows _

/-- From flash, with nothing staged, MGMT starts from an ACTIVE slot that passes (R491). -/
theorem bootImageSelect_flash (hb : s.chip.rd R.SYS_BOOT_SRC pgSYS = 0) (hi : 128 ≤ i.sizeMib) (hp : s.chip.flash.pending = false)
    (hbad : s.chip.mram.activeBad = false) (hok : ((s.chip.xspiStart i).setPasses s.chip.flash.active).2 = true) :
    bootImageSelect s.chip i r = ((s.chip.xspiStart i).setPasses s.chip.flash.active).1.startMgmt 0 s.chip.flash.active := by
  have begun := bootStands_xspiStart s.chip i
  have hflash := begun.quiet.flash
  have hsrc : (s.chip.xspiStart i).rd R.SYS_BOOT_SRC pgSYS = 0 := by rwa [begun.sys.rd _ _ _ (by decide) (by decide)]
  have hready : (s.chip.xspiStart i).on R.XSPI_READY pgXSPI = true := by rw [Chip.on, xspiStart_ready, decide_eq_true hi]; rfl
  have hcopy : (s.chip.xspiStart i).stagedCopy = s.chip.xspiStart i := by rw [Chip.stagedCopy, if_neg (by simp [hflash, hp])]
  have checked := begun.quiet.trans (bootStands_setPasses (s.chip.xspiStart i) s.chip.flash.active).quiet
  rw [bootImageSelect, if_neg (bootImageSelect_due s h2 hh hl)]
  dsimp only
  rw [if_neg (not_not.mpr hsrc), if_neg (by rw [hready]; decide), hcopy, hflash, if_pos (by rw [hok, checked.mram, hbad]; rfl), checked.flash]

theorem bootImageSelect_active (hb : s.chip.rd R.SYS_BOOT_SRC pgSYS = 0) (hi : 128 ≤ i.sizeMib) (_hw : i.sizeMib < 2 ^ R.XSPI_SIZE_MIB.w)
    (hp : s.chip.flash.pending = false) (hbad : s.chip.mram.activeBad = false)
    (hok : ((s.chip.xspiStart i).setPasses s.chip.flash.active).2 = true) :
    ∃ t, exec (.bootImageSelect i r) s = .next t ∧ t.chip.rd R.SYS_STEP pgSYS = 3 ∧ t.chip.rd R.SYS_SLOT pgSYS = 0
      ∧ t.chip.plumb.mgmtUp = true ∧ t.chip.fwu.bootSet = s.chip.flash.active
      ∧ mapGet t.chip.timers (tmKey tmBoot 0) 0 = t.chip.now + dqS + 1 := by
  refine ⟨_, rfl, ?_⟩
  rw [State.onChip_chip, bootImageSelect_flash s i r h2 hh hl hb hi hp hbad hok]
  obtain ⟨hstep, hslot, hup, hset⟩ := startMgmt_shows ((s.chip.xspiStart i).setPasses s.chip.flash.active).1 0 s.chip.flash.active (by decide)
  exact ⟨hstep, hslot, hup, hset, startMgmt_limit _ _⟩
end

/-! Step 4: engines, clusters and pages (R93, R180, R522). -/

section
variable (c : Chip)

theorem eng_of_engines {c d : Chip} (h : d.engines = c.engines) (e : Nat) : d.eng e = c.eng e := congrArg (fun m => mapGet m e _) h

theorem engineStart_up (img : Bytes) (ver e : Nat) : ((c.engineStart img ver e).eng e).up = true := by
  rw [Chip.engineStart, Chip.eng, (quiet_up _ _ _ _ _).engines]
  exact congrArg EngSt.up (mapGet_mapSet_same _ _ _ _)

theorem engineStart_others (img : Bytes) (ver : Nat) {e k : Nat} (h : (c.eng k).up = true) : ((c.engineStart img ver e).eng k).up = true := by
  by_cases hk : k = e
  · rw [hk]
    exact engineStart_up c img ver e
  · rw [Chip.engineStart, Chip.eng, (quiet_up _ _ _ _ _).engines]
    exact (congrArg EngSt.up (mapGet_mapSet_ne _ hk _ _)).trans h

/-- Every engine that is started is up. -/
theorem foldc_engineStart (img : Bytes) (ver : Nat) (es : List Nat) {k : Nat} (h : k ∈ es ∨ (c.eng k).up = true) :
    ((foldc es (fun e c => c.engineStart img ver e) c).eng k).up = true := by
  induction es generalizing c with
  | nil => exact h.resolve_left (List.not_mem_nil)
  | cons e es ih =>
    refine ih (c.engineStart img ver e) ?_
    rcases h with h | h
    · rcases List.mem_cons.mp h with rfl | h
      · exact .inr (engineStart_up c img ver k)
      · exact .inl h
    · exact .inr (engineStart_others c img ver h)

theorem foldc_engines {α : Type} (xs : List α) (f : α → Chip → Chip) (hf : ∀ x c, (f x c).engines = c.engines) :
    (foldc xs f c).engines = c.engines := by
  induction xs generalizing c with
  | nil => rfl
  | cons x xs ih => exact (ih (f x c)).trans (hf x c)

theorem discStart_engines (p : Nat) : (c.discStart p).engines = c.engines := by
  rw [discStart_eq, (discStands_discStep (c.discBegun p) p (v := lkAlign) (by decide)).engines]
  simp only [Chip.discBegun, Chip.discClear, Chip.disarm_engines, Chip.modPort_engines, Chip.up_engines]

theorem portOn_engines (p : Nat) : (c.portOn p).engines = c.engines := by
  unfold Chip.portOn
  extract_lets c1
  split
  · exact discStart_engines c1 p
  · rfl

/-- A page that is enabled leaves the engines, though a port's page starts discovery. -/
theorem enablePage_engines (b : Nat) : (c.enablePage b).engines = c.engines := by
  unfold Chip.enablePage
  extract_lets c1
  rw [(quiet_reIrq _ _ _).engines]
  split
  · split
    · rfl
    · rw [portOn_engines, (quiet_seqInc _ _).engines]
      rfl
  · rfl
  · rfl

/-- The chip whose engines run the kernels of the set that MGMT started from. -/
def Chip.kernelsLoaded (c : Chip) : Chip :=
  foldc (upTo 128) (fun e c' => c'.engineStart (match ctOf c.fwu.bootSet 3 with | some b => Config.plain b | none => [])
    (ctVer c.fwu.bootSet 3) e) c

/-- The chip whose clusters and pages are on. -/
def Chip.pagesOn (c : Chip) : Chip :=
  foldc enabledPages (fun b c => c.enablePage b)
    (foldc (upTo 16) (fun n c => c.hw (pgCLU n) [(R.CLU_FREQ_MHZ, 0, min 1000 (Config.clusterMHz n)), (R.CLU_ENG_UP, 0, 0xFF)]) c)

/-- The chip at step 4, before TW_HEALTH follows. -/
def Chip.kernelStep (c : Chip) : Chip :=
  (c.kernelsLoaded.pagesOn.hw pgFWU [(R.FWU_RUN_VER, 2, ctVer c.fwu.bootSet 3), (R.FWU_RUN_VER, 3, ctVer c.fwu.bootSet 4)]).setStep 4

theorem ceKernelLoad_eq (h3 : c.rd R.SYS_STEP pgSYS = 3) (hu : c.plumb.mgmtUp = true) : ceKernelLoad c = c.kernelStep.reHealth :=
  if_neg (by simp [h3, hu])

theorem kernelsLoaded_up {e : Nat} (he : e < 128) : (c.kernelsLoaded.eng e).up = true :=
  foldc_engineStart c _ _ (upTo 128) (.inl (List.mem_range.mpr he))

theorem pagesOn_engines : c.pagesOn.engines = c.engines :=
  (foldc_engines _ enabledPages _ (fun b c => enablePage_engines c b)).trans
    (foldc_engines c (upTo 16) _ (fun _ c => (quiet_hw c _ _).engines))

theorem kernelStep_engines : c.kernelStep.engines = c.kernelsLoaded.engines := by
  rw [Chip.kernelStep, (quiet_setStep _ 4).engines, (quiet_hw _ _ _).engines, pagesOn_engines]

theorem reHealth_step : c.reHealth.rd R.SYS_STEP pgSYS = c.rd R.SYS_STEP pgSYS := by
  rw [Chip.reHealth, (still_putHealth (l := false) c _).rd _ _ _ (by decide)]

theorem ceKernelLoad_acts (s : State) (h3 : s.chip.rd R.SYS_STEP pgSYS = 3) (hu : s.chip.plumb.mgmtUp = true) :
    ∃ t, exec .ceKernelLoad s = .next t ∧ t.chip.rd R.SYS_STEP pgSYS = 4 ∧ ∀ e < 128, (t.chip.eng e).up = true := by
  refine ⟨_, rfl, ?_⟩
  rw [State.onChip_chip, ceKernelLoad_eq s.chip h3 hu, reHealth_step]
  refine ⟨setStep_step _ (by decide), fun e he => ?_⟩
  have hengines : s.chip.kernelStep.reHealth.engines = s.chip.kernelsLoaded.engines :=
    (discStands_reHealth _).engines.trans (kernelStep_engines s.chip)
  rw [eng_of_engines hengines]
  exact kernelsLoaded_up s.chip he
end

/-! Step 5: discovery ends, and the twin is probed (R93). -/

theorem stageDiscoveryDone_acts (s : State) (h4 : s.chip.rd R.SYS_STEP pgSYS = 4) (hd : s.chip.discoveryDone = true) :
    ∃ t, exec .stageDiscoveryDone s = .next t ∧ t.chip.rd R.SYS_STEP pgSYS = 5 ∧ t.chip.twin.step6 = true
      ∧ mapGet t.chip.timers (tmKey tmProbe 0) 0 = s.chip.now + 20 * dqMs + 1 := by
  refine ⟨_, rfl, ?_⟩
  rw [State.onChip_chip, stageDiscoveryDone, if_pos ⟨h4, hd⟩]
  refine ⟨setStep_step s.chip (by decide), rfl, ?_⟩
  rw [Chip.arm_timers, mapGet_mapSet_same, Chip.modTwin_now, Chip.disarm_now, (quiet_setStep s.chip 5).now]

section
variable (c : Chip)

theorem rd_setRole (follow : Bool) (f : Fld) (b i : Nat) (hn : noisy (fldKey f b i) = false)
    (hne : fldKey f b i ≠ fldKey R.TWIN_ROLE pgTWIN 0) : (c.setRole follow).rd f b i = c.rd f b i := by
  unfold Chip.setRole
  split
  · rfl
  · rw [rd_pulse _ _ _ _ _ _ (by decide) hn, rd_up _ _ _ _ _ _ _ _ (by decide) hn, rd_wr_ne _ _ _ _ _ _ _ _ hne]

/-- A twin that joins shows JOINING and its phase (R337, R357). -/
theorem enterJoining_shows {phase : Nat} (hp : phase < 8) (ms : Nat) : (c.enterJoining phase ms).rd R.TWIN_STATE pgTWIN = 2
    ∧ (c.enterJoining phase ms).rd R.TWIN_JOIN_PHASE pgTWIN = phase := by
  unfold Chip.enterJoining
  extract_lets c1 c2 c3
  have h3 : ∀ f : Fld, c3.rd f pgTWIN = c1.rd f pgTWIN := fun f => by simp only [c3, c2, Chip.disarm_rd, Chip.arm_rd, Chip.modTwin_rd]
  have later : ∀ f : Fld, (if phase = 0 then c3.send (.chain (.hello (c3.ownHello true))) else c3).rd f pgTWIN = c1.rd f pgTWIN := by
    intro f
    split
    · rw [Chip.send_rd, h3]
    · exact h3 f
  rw [later, later, rd_setRole _ _ _ _ _ (by decide) (by decide), rd_setRole _ _ _ _ _ (by decide) (by decide),
    rd_hw _ _ _ _ _ _ (by decide) (by decide), rd_hw _ _ _ _ _ _ (by decide) (by decide)]
  simp only [foldc, List.foldl_cons, List.foldl_nil]
  refine ⟨?_, ?_⟩
  · iterate 3 rw [rd_wr_ne _ _ _ _ _ _ _ _ (by decide)]
    exact rd_wr_same _ _ _ _ _
  · iterate 2 rw [rd_wr_ne _ _ _ _ _ _ _ _ (by decide)]
    exact (rd_wr_same _ _ _ _ _).trans (Nat.mod_eq_of_lt hp)
end

section
variable (s : State) (hd : s.chip.due (tmKey tmProbe 0) = true) (h6 : s.chip.twin.step6 = true) (hr : s.chip.noRole = true)
include hd h6 hr

theorem chainProbeEnd_due : ¬ (!(s.chip.due (tmKey tmProbe 0) && s.chip.twin.step6 && s.chip.noRole)) = true := by
  rw [hd, h6, hr]
  decide

theorem chainProbeEnd_running : ∃ t, exec (.chainProbeEnd .running) s = .next t ∧ t.chip.rd R.TWIN_STATE pgTWIN = 2
    ∧ t.chip.rd R.TWIN_JOIN_PHASE pgTWIN = 0 := by
  have joins : chainProbeEnd s .running = { s with chip := (s.chip.disarm (tmKey tmProbe 0)).enterJoining 0 5 } := by
    rw [chainProbeEnd, if_neg (chainProbeEnd_due s hd h6 hr)]
  exact ⟨_, congrArg Host.Outcome.next joins, enterJoining_shows _ (by decide) 5⟩

/-- Of two twins that probe at once the B twin joins (R65). -/
theorem chainProbeEnd_both (b : Bool) (hid : s.chip.on R.SYS_TWIN_ID pgSYS = true) (hb : b = false) :
    ∃ t, exec (.chainProbeEnd (.alsoStep6 b)) s = .next t ∧ t.chip.rd R.TWIN_STATE pgTWIN = 2 ∧ t.chip.rd R.TWIN_JOIN_PHASE pgTWIN = 0 := by
  have joins : chainProbeEnd s (.alsoStep6 b) = { s with chip := (s.chip.disarm (tmKey tmProbe 0)).enterJoining 0 5 } := by
    rw [chainProbeEnd, if_neg (chainProbeEnd_due s hd h6 hr)]
    simp only [hid, hb]
    rfl
  exact ⟨_, congrArg Host.Outcome.next joins, enterJoining_shows _ (by decide) 5⟩

/-- Without SOLO_ALLOWED the chip goes on probing (R94). -/
theorem chainProbeEnd_probes (hs : s.chip.on R.SYS_SOLO_ALLOWED pgSYS = false) :
    ∃ t, exec (.chainProbeEnd .noTwin) s = .next t ∧ t.chip.rd R.TWIN_STATE pgTWIN = 0
      ∧ mapGet t.chip.timers (tmKey tmProbe 0) 0 = t.chip.now + 20 * dqMs + 1 := by
  have again : chainProbeEnd s .noTwin = { s with chip := s.chip.arm (tmKey tmProbe 0) (20 * dqMs) } := by
    rw [chainProbeEnd, if_neg (chainProbeEnd_due s hd h6 hr)]
    exact if_neg (by rw [hs]; decide)
  exact ⟨_, congrArg Host.Outcome.next again, by simpa [Chip.noRole] using hr, mapGet_mapSet_same _ _ _ _⟩
end

/-! Step 6: SOLO (R93, R337, R386, R485). -/

/-- MRAM, TW_STATUS.STATE and the registers of the start stand. -/
structure SoloStands (c d : Chip) : Prop where
  mram : d.mram = c.mram
  state : d.rd R.TWIN_STATE pgTWIN = c.rd R.TWIN_STATE pgTWIN
  still : Still false c d

section
variable {c d e : Chip}

theorem SoloStands.refl (c : Chip) : SoloStands c c := ⟨rfl, rfl, .refl c⟩

theorem SoloStands.trans (h : SoloStands c d) (j : SoloStands d e) : SoloStands c e :=
  ⟨j.mram.trans h.mram, j.state.trans h.state, h.still.trans j.still⟩

theorem SoloStands.ite {p : Prop} [Decidable p] (h : SoloStands c d) (j : SoloStands c e) : SoloStands c (if p then d else e) := by
  split
  · exact h
  · exact j

theorem SoloStands.foldc {α : Type} (xs : List α) (f : α → Chip → Chip) (hf : ∀ x c, SoloStands c (f x c)) (c : Chip) :
    SoloStands c (foldc xs f c) := by
  induction xs generalizing c with
  | nil => exact .refl c
  | cons x xs ih => exact (hf x c).trans (ih (f x c))
end

section
variable (c : Chip)

theorem soloStands_modPort (p : Nat) (f : PortSt → PortSt) : SoloStands c (c.modPort p f) := ⟨rfl, rfl, still_modPort c p f⟩
theorem soloStands_setPort (p : Nat) (v : PortSt) : SoloStands c (c.setPort p v) := ⟨rfl, rfl, still_setPort c p v⟩
theorem soloStands_arm (k t : Nat) : SoloStands c (c.arm k t) := ⟨rfl, rfl, still_arm c k t⟩
theorem soloStands_disarm (k : Nat) : SoloStands c (c.disarm k) := ⟨rfl, rfl, still_disarm c k⟩

theorem soloStands_modTwin (f : TwinSt → TwinSt) (h : ∀ t, (f t).classC = t.classC) : SoloStands c (c.modTwin f) :=
  ⟨rfl, rfl, still_modTwin c f h⟩

theorem soloStands_setRole (follow : Bool) : SoloStands c (c.setRole follow) :=
  ⟨(quiet_setRole c follow).mram, rd_setRole c follow _ _ _ (by decide) (by decide), still_setRole c follow⟩

theorem soloStands_level (b n : Nat) (on : Bool) (hb : b % 4096 = 0) : SoloStands c (c.level b n on) :=
  ⟨(quiet_level _ _ _ _).mram, rd_level _ _ _ _ _ _ _ hb (by decide), still_level c b n on hb⟩

theorem soloStands_setSource (v : Nat) : SoloStands c (c.setSource v) := by
  have shown := still_up (l := false) c R.DATUM_SOURCE pgDATUM v 0 (by decide) (stirred_of_echoed (by decide))
  unfold Chip.setSource
  exact .ite (.refl c) ⟨(quiet_up _ _ _ _ _).mram, up_stands c _ _ _ _ (by decide) (by decide) (by decide) _, shown⟩

theorem soloStands_selfArm : SoloStands c c.selfArm := by
  unfold Chip.selfArm
  exact .ite (soloStands_disarm c _) (soloStands_arm c _ _)

theorem soloStands_fenceWaiting : SoloStands c c.fenceWaiting := by
  unfold Chip.fenceWaiting
  refine .foldc _ _ (fun p c => .ite ?_ (.refl c)) c
  exact ((soloStands_setPort c p _).trans (soloStands_disarm _ _)).trans (soloStands_arm _ _ _)

theorem soloStands_nextReq (p : Nat) : SoloStands c (c.nextReq p) := by
  unfold Chip.nextReq
  dsimp only
  split
  · exact .refl c
  · split
    · exact .refl c
    · exact (soloStands_setPort c p _).trans (soloStands_modPort _ p _)

theorem soloStands_pushReq (p : Nat) (q : CfgReq) : SoloStands c (c.pushReq p q) :=
  (soloStands_modPort c p _).trans (soloStands_nextReq _ p)

theorem soloStands_envPending : SoloStands c c.envPending := by
  unfold Chip.envPending
  exact .foldc _ _ (fun e c => .ite (.foldc _ _ (fun r c => soloStands_pushReq c _ r) c) (.refl c)) c

/-- The chip as it takes SOLO, before what follows from it. -/
def Chip.soloShown (c : Chip) : Chip :=
  c.hw pgTWIN [(R.TWIN_STATE, 0, 1), (R.TWIN_TIME_ERR, 0, 0), (R.TWIN_RESOLVING, 0, 0), (R.TWIN_PEER_DEBUG_HOLD, 0, 0),
    (R.TWIN_JOIN_PHASE, 0, 0), (R.TWIN_FENCE_CAUSE, 0, 0)]

theorem soloStands_enterSolo : SoloStands c.soloShown c.enterSolo := by
  unfold Chip.enterSolo
  extract_lets c1 c2 c3
  have h1 : SoloStands c.soloShown c1 := soloStands_setRole c.soloShown false
  have h2 : SoloStands c1 c2 := soloStands_modTwin c1 _ (fun _ => rfl)
  have h3 : SoloStands c2 c3 := ((soloStands_disarm c2 _).trans (soloStands_disarm _ _)).trans (soloStands_disarm _ _)
  have h4 : SoloStands c3 ((c3.level pgTWIN 8 false).setSource c3.leadSource) :=
    (soloStands_level c3 pgTWIN 8 false (by decide)).trans (soloStands_setSource _ _)
  exact ((((h1.trans h2).trans h3).trans h4).trans (soloStands_selfArm _)).trans
    ((soloStands_fenceWaiting _).trans (soloStands_envPending _))

theorem enterSolo_state : c.enterSolo.rd R.TWIN_STATE pgTWIN = 1 := by
  rw [(soloStands_enterSolo c).state, Chip.soloShown, rd_hw _ _ _ _ _ _ (by decide) (by decide)]
  simp only [foldc, List.foldl_cons, List.foldl_nil]
  iterate 5 rw [rd_wr_ne _ _ _ _ _ _ _ _ (by decide)]
  exact rd_wr_same _ _ _ _ _

theorem enterSolo_mram : c.enterSolo.mram = c.mram := (soloStands_enterSolo c).mram.trans (quiet_hw _ _ _).mram

theorem still_enterSolo : Still false c c.enterSolo :=
  (still_hw_page c pgTWIN _ (by decide) (by decide)).trans (soloStands_enterSolo c).still

/-- The chip that starts regulating enters step 6; MRAM and STATE stand. -/
theorem regulates_step (h5 : c.rd R.SYS_STEP pgSYS = 5) : c.regulates.rd R.SYS_STEP pgSYS = 6 ∧ c.regulates.mram = c.mram
    ∧ c.regulates.rd R.TWIN_STATE pgTWIN = c.rd R.TWIN_STATE pgTWIN := by
  rw [Chip.regulates, if_pos h5]
  refine ⟨setStep_step _ (by decide), by rw [(quiet_setStep _ _).mram, (quiet_up _ _ _ _ _).mram], ?_⟩
  exact (rd_setStep _ _ _ _ _ (by decide) (by decide)).trans (up_stands c _ _ _ _ (by decide) (by decide) (by decide) _)
end

/-- With an empty memory no law is bound, so nothing is committed. -/
theorem commitBound_empty {s : State} (h : s.mem = []) : s.commitBound = s := by
  have none : ∀ p, bindSet s.mem p = [] := fun p => by rw [h]; rfl
  unfold State.commitBound
  generalize upTo 8 = ps
  induction ps with
  | nil => rfl
  | cons p ps ih =>
    show foldc ps _ (if bindSet s.mem p = [] then s else commitRun s p) = s
    rw [if_pos (none p)]
    exact ih

/-- The chip whose stage ends are stopped, as no saved configuration was found (R485). -/
def Chip.stopAll (c : Chip) : Chip := foldc (upTo 192) (fun p c => c.setCmd p stopCmd) c

theorem cfgRestore_none {s : State} (ha : s.chip.flash.cfgA = none) (hb : s.chip.flash.cfgB = none) :
    s.cfgRestore = { s with chip := s.chip.stopAll } := by
  have copy : (if copyGen s.chip.flash.cfgB ≤ copyGen s.chip.flash.cfgA then s.chip.flash.cfgA else s.chip.flash.cfgB) = none := by
    rw [ha, hb, ite_self]
  rw [State.cfgRestore]
  dsimp only
  rw [copy]
  rfl

/-- The chip that has entered SOLO under its next incarnation (R386). -/
def Chip.soloBegun (c : Chip) : Chip :=
  (((c.modMram (fun m => { m with incarn := c.mram.incarn + 1 })).up R.FAB_INCARN pgFAB (c.mram.incarn + 1).toNat).enterSolo).disarm
    (tmKey tmProbe 0)

section
variable (c : Chip)

theorem soloBegun_state : c.soloBegun.rd R.TWIN_STATE pgTWIN = 1 := (Chip.disarm_rd ..).trans (enterSolo_state _)

theorem soloBegun_mram : c.soloBegun.mram = { c.mram with incarn := c.mram.incarn + 1 } := by
  rw [Chip.soloBegun, Chip.disarm_mram, enterSolo_mram, (quiet_up _ _ _ _ _).mram, Chip.modMram_mram]

/-- The fields of SYS stand. -/
theorem soloBegun_sys (f : Fld) (hf : stirred false (fldKey f pgSYS 0) = false) : c.soloBegun.rd f pgSYS = c.rd f pgSYS := by
  have q := still_up_page (l := false) (c.modMram (fun m => { m with incarn := c.mram.incarn + 1 })) R.FAB_INCARN pgFAB
    (c.mram.incarn + 1).toNat 0 (by decide) (by decide)
  rw [Chip.soloBegun, Chip.disarm_rd, ((q.trans (still_enterSolo _)).rd f pgSYS 0 hf), Chip.modMram_rd]

theorem soloBegun_regulates (h5 : c.rd R.SYS_STEP pgSYS = 5) : c.soloBegun.regulates.rd R.TWIN_STATE pgTWIN = 1
    ∧ c.soloBegun.regulates.rd R.SYS_STEP pgSYS = 6 ∧ c.soloBegun.regulates.mram.incarn = c.mram.incarn + 1 := by
  obtain ⟨hstep, hmram, hstate⟩ := regulates_step c.soloBegun ((soloBegun_sys c _ (by decide)).trans h5)
  exact ⟨hstate.trans (soloBegun_state c), hstep, by rw [hmram, soloBegun_mram]⟩

theorem soloStands_stopAll : SoloStands c c.stopAll := .foldc _ _ (fun p c => soloStands_modPort c p _) c

end

/-- A chip that finds no twin, with no saved copy and an empty memory, enters SOLO and step 6. -/
theorem startSolo_empty {s : State} (ha : s.chip.flash.cfgA = none) (hb : s.chip.flash.cfgB = none) (hm : s.mem = [])
    (hs : s.chip.on R.SYS_SOLO_ALLOWED pgSYS = true) : s.startSolo = { s with chip := s.chip.stopAll.soloBegun.regulates } := by
  have begun : (State.commitBound { s with chip := s.chip.stopAll.soloBegun }) = { s with chip := s.chip.stopAll.soloBegun } :=
    commitBound_empty hm
  have allowed : s.chip.stopAll.soloBegun.on R.SYS_SOLO_ALLOWED pgSYS = true := by
    rw [Chip.on, soloBegun_sys _ _ (by decide), (soloStands_stopAll s.chip).still.rd _ _ _ (by decide)]
    exact hs
  have start : s.startSolo
      = if (State.commitBound { s with chip := s.chip.stopAll.soloBegun }).chip.on R.SYS_SOLO_ALLOWED pgSYS
        then { State.commitBound { s with chip := s.chip.stopAll.soloBegun } with
          chip := (State.commitBound { s with chip := s.chip.stopAll.soloBegun }).chip.regulates }
        else State.commitBound { s with chip := s.chip.stopAll.soloBegun } := by
    rw [State.startSolo, cfgRestore_none ha hb]
    rfl
  rw [start, begun, if_pos allowed]

theorem chainProbeEnd_solo (s : State) (hd : s.chip.due (tmKey tmProbe 0) = true) (h6 : s.chip.twin.step6 = true)
    (hr : s.chip.noRole = true) (hs : s.chip.on R.SYS_SOLO_ALLOWED pgSYS = true) (ha : s.chip.flash.cfgA = none)
    (hb : s.chip.flash.cfgB = none) (hm : s.mem = []) (h5 : s.chip.rd R.SYS_STEP pgSYS = 5) :
    ∃ t, exec (.chainProbeEnd .noTwin) s = .next t ∧ t.chip.rd R.TWIN_STATE pgTWIN = 1 ∧ t.chip.rd R.SYS_STEP pgSYS = 6
      ∧ t.chip.mram.incarn = s.chip.mram.incarn + 1 := by
  have solo : chainProbeEnd s .noTwin = { s with chip := s.chip.stopAll.soloBegun.regulates } := by
    rw [chainProbeEnd, if_neg (chainProbeEnd_due s hd h6 hr)]
    exact (if_pos hs).trans (startSolo_empty ha hb hm hs)
  have step5 : s.chip.stopAll.rd R.SYS_STEP pgSYS = 5 := ((soloStands_stopAll s.chip).still.rd _ _ _ (by decide)).trans h5
  obtain ⟨hstate, hstep, hincarn⟩ := soloBegun_regulates s.chip.stopAll step5
  rw [(soloStands_stopAll s.chip).mram] at hincarn
  generalize s.chip.stopAll.soloBegun.regulates = d at *
  exact ⟨_, congrArg Host.Outcome.next solo, hstate, hstep, hincarn⟩

/-! Step 7: the fabric (R93). -/

theorem still_fabStart (c : Chip) : Still true c c.fabStart := by
  unfold Chip.fabStart
  extract_lets c0
  have h0 : Still true c c0 := .foldc (fun k _ c => still_modFab c _) c
  exact (((h0.trans (still_fpShow c0 _)).trans (still_planeJudge _)).trans (still_arm _ _ _)).trans (still_arm _ _ _)

theorem fabricJoin_acts (s : State) (h6 : s.chip.rd R.SYS_STEP pgSYS = 6) :
    ∃ t, exec .fabricJoin s = .next t ∧ t.chip.rd R.SYS_STEP pgSYS = 7 := by
  refine ⟨_, rfl, ?_⟩
  have step7 : (s.chip.setStep 7).rd R.SYS_STEP pgSYS = 7 := setStep_step _ (by decide)
  rw [State.onChip_chip, fabricJoin, if_pos h6]
  extract_lets c1
  split
  · exact ((still_fabStart c1).rd _ _ _ (by decide)).trans step7
  · exact step7

/-- Settles O25, step by step. -/
theorem startStepsAct : Obligations.StartStepsAct :=
  ⟨bootImageSelect_passes, bootImageSelect_fails, bootImageSelect_active, ceKernelLoad_acts, stageDiscoveryDone_acts,
    chainProbeEnd_running, chainProbeEnd_probes, chainProbeEnd_solo, fun s b hd h6 hr => chainProbeEnd_both s hd h6 hr b, fabricJoin_acts⟩

end Sys2Proof.Machine
end

section
/-! SUPPORT. Frames: which components of a chip an operation can change. -/

namespace Sys2Proof.Machine

/-- What can stand while a chip changes: a component, or the ports, stage ends or engines but one. -/
inductive Comp where
  | now | datum | rateAcc | regs | inForce | pulses | irqs | paths | timers | plumb | mram | flash | fbk | twin | ports | stages | engines
  | laws | secs | ewBy | caps | strs | feeders | cals | fab | arb | wcap | host | iics | fwu | dbg | snap | sent | freeCtr
  | otherPorts | otherStages | otherEngines
deriving DecidableEq

/-- A component of `d` is that of `c`; the ports, stage ends and engines but number `n` are those of `c`. -/
def Comp.Stands (n : Nat) (c d : Chip) : Comp → Prop
  | .now => d.now = c.now
  | .datum => d.datum = c.datum
  | .rateAcc => d.rateAcc = c.rateAcc
  | .regs => d.regs = c.regs
  | .inForce => d.inForce = c.inForce
  | .pulses => d.pulses = c.pulses
  | .irqs => d.irqs = c.irqs
  | .paths => d.paths = c.paths
  | .timers => d.timers = c.timers
  | .plumb => d.plumb = c.plumb
  | .mram => d.mram = c.mram
  | .flash => d.flash = c.flash
  | .fbk => d.fbk = c.fbk
  | .twin => d.twin = c.twin
  | .ports => d.ports = c.ports
  | .stages => d.stages = c.stages
  | .engines => d.engines = c.engines
  | .laws => d.laws = c.laws
  | .secs => d.secs = c.secs
  | .ewBy => d.ewBy = c.ewBy
  | .caps => d.caps = c.caps
  | .strs => d.strs = c.strs
  | .feeders => d.feeders = c.feeders
  | .cals => d.cals = c.cals
  | .fab => d.fab = c.fab
  | .arb => d.arb = c.arb
  | .wcap => d.wcap = c.wcap
  | .host => d.host = c.host
  | .iics => d.iics = c.iics
  | .fwu => d.fwu = c.fwu
  | .dbg => d.dbg = c.dbg
  | .snap => d.snap = c.snap
  | .sent => d.sent = c.sent
  | .freeCtr => d.freeCtr = c.freeCtr
  | .otherPorts => ∀ q, q ≠ n → d.port q = c.port q
  | .otherStages => ∀ q, q ≠ n → d.stage q = c.stage q
  | .otherEngines => ∀ q, q ≠ n → d.eng q = c.eng q

/-- `d` is `c` in all but what `a` lists. -/
def Confined (n : Nat) (a : List Comp) (c d : Chip) : Prop := ∀ u, u ∉ a → u.Stands n c d

/-- `c` with the components that `a` lists as `d` has them. -/
def Chip.take (a : List Comp) (c d : Chip) : Chip where
  now := if .now ∈ a then d.now else c.now
  datum := if .datum ∈ a then d.datum else c.datum
  rateAcc := if .rateAcc ∈ a then d.rateAcc else c.rateAcc
  regs := if .regs ∈ a then d.regs else c.regs
  inForce := if .inForce ∈ a then d.inForce else c.inForce
  pulses := if .pulses ∈ a then d.pulses else c.pulses
  irqs := if .irqs ∈ a then d.irqs else c.irqs
  paths := if .paths ∈ a then d.paths else c.paths
  timers := if .timers ∈ a then d.timers else c.timers
  plumb := if .plumb ∈ a then d.plumb else c.plumb
  mram := if .mram ∈ a then d.mram else c.mram
  flash := if .flash ∈ a then d.flash else c.flash
  fbk := if .fbk ∈ a then d.fbk else c.fbk
  twin := if .twin ∈ a then d.twin else c.twin
  ports := if .ports ∈ a then d.ports else c.ports
  stages := if .stages ∈ a then d.stages else c.stages
  engines := if .engines ∈ a then d.engines else c.engines
  laws := if .laws ∈ a then d.laws else c.laws
  secs := if .secs ∈ a then d.secs else c.secs
  ewBy := if .ewBy ∈ a then d.ewBy else c.ewBy
  caps := if .caps ∈ a then d.caps else c.caps
  strs := if .strs ∈ a then d.strs else c.strs
  feeders := if .feeders ∈ a then d.feeders else c.feeders
  cals := if .cals ∈ a then d.cals else c.cals
  fab := if .fab ∈ a then d.fab else c.fab
  arb := if .arb ∈ a then d.arb else c.arb
  wcap := if .wcap ∈ a then d.wcap else c.wcap
  host := if .host ∈ a then d.host else c.host
  iics := if .iics ∈ a then d.iics else c.iics
  fwu := if .fwu ∈ a then d.fwu else c.fwu
  dbg := if .dbg ∈ a then d.dbg else c.dbg
  snap := if .snap ∈ a then d.snap else c.snap
  sent := if .sent ∈ a then d.sent else c.sent
  freeCtr := if .freeCtr ∈ a then d.freeCtr else c.freeCtr

theorem Comp.Stands.refl (n : Nat) (c : Chip) (u : Comp) : u.Stands n c c := by
  cases u
  case otherPorts | otherStages | otherEngines => exact fun _ _ => rfl
  all_goals exact rfl

theorem Comp.Stands.trans {n : Nat} {c d e : Chip} {u : Comp} (h : u.Stands n c d) (k : u.Stands n d e) : u.Stands n c e := by
  cases u
  case otherPorts | otherStages | otherEngines => exact fun q hq => Eq.trans (k q hq) (h q hq)
  all_goals exact Eq.trans k h

section
variable {n : Nat} {a b : List Comp} {c d e : Chip}

theorem Confined.refl (c : Chip) : Confined n a c c := fun u _ => .refl n c u

theorem Confined.trans (h : Confined n a c d) (k : Confined n a d e) : Confined n a c e := fun u hu => (h u hu).trans (k u hu)

theorem Confined.ite {p : Prop} [Decidable p] (h : Confined n a c d) (k : Confined n a c e) : Confined n a c (if p then d else e) := by
  split
  · exact h
  · exact k

theorem Confined.foldc {α : Type} {xs : List α} {f : α → Chip → Chip} (hf : ∀ x c, Confined n a c (f x c)) (c : Chip) : Confined n a c (foldc xs f c) := by
  induction xs generalizing c with
  | nil => exact .refl c
  | cons x xs ih => exact (hf x c).trans (ih (f x c))

/-- A frame may list more. -/
theorem Confined.mono (h : Confined n a c d) (hab : a ⊆ b := by decide) : Confined n b c d := fun u hu => h u (fun hm => hu (hab hm))

/-- What a frame leaves of the chip. -/
theorem Confined.eq_take (h : Confined n a c d) : d = c.take a d := by
  have pick {α : Type} {p : Prop} [Decidable p] {x y : α} (hxy : ¬ p → x = y) : x = if p then x else y := by
    split
    · rfl
    · exact hxy ‹_›
  unfold Chip.take
  rw [← pick (h .now), ← pick (h .datum), ← pick (h .rateAcc), ← pick (h .regs), ← pick (h .inForce), ← pick (h .pulses), ← pick (h .irqs),
    ← pick (h .paths), ← pick (h .timers), ← pick (h .plumb), ← pick (h .mram), ← pick (h .flash), ← pick (h .fbk), ← pick (h .twin),
    ← pick (h .ports), ← pick (h .stages), ← pick (h .engines), ← pick (h .laws), ← pick (h .secs), ← pick (h .ewBy), ← pick (h .caps),
    ← pick (h .strs), ← pick (h .feeders), ← pick (h .cals), ← pick (h .fab), ← pick (h .arb), ← pick (h .wcap), ← pick (h .host),
    ← pick (h .iics), ← pick (h .fwu), ← pick (h .dbg), ← pick (h .snap), ← pick (h .sent), ← pick (h .freeCtr)]
end

/-- A command that changes the chip alone, within a frame. -/
theorem Confined.next {n : Nat} {a : List Comp} {s t : State} {f : Chip → Chip} (hf : ∀ c, Confined n a c (f c))
    (h : (.next (s.onChip f) : Result) = .next t) : Confined n a s.chip t.chip ∧ t = { s with chip := s.chip.take a t.chip } := by
  obtain rfl := Host.Outcome.next.inj h
  have frame := hf s.chip
  exact ⟨frame, congrArg (fun c => { s with chip := c }) frame.eq_take⟩

/-- A change of the components in `a` that leaves the other ports, stage ends and engines. -/
theorem Confined.of_take {n : Nat} {a : List Comp} {c d : Chip} (h : d = c.take a d) (hp : ∀ q, q ≠ n → d.port q = c.port q)
    (hs : ∀ q, q ≠ n → d.stage q = c.stage q) (he : ∀ q, q ≠ n → d.eng q = c.eng q) : Confined n a c d := by
  intro u hu
  cases u
  case otherPorts => exact hp
  case otherStages => exact hs
  case otherEngines => exact he
  all_goals
    rw [h]
    exact if_neg hu

/-! Operations on components. A port, a stage end and an engine are number `n`. -/

/-- What counting, events and interrupts change. -/
abbrev quietParts : List Comp := [.regs, .pulses, .irqs, .wcap, .host, .sent]

section
variable {n : Nat} {a : List Comp} (c : Chip)

theorem confined_quiet {c d : Chip} (q : Quiet c d) (h : quietParts ⊆ a := by decide) : Confined n a c d := by
  have other : ∀ {α : Type} (m : Chip → SMap α) (x : α), m d = m c → ∀ q, q ≠ n → mapGet (m d) q x = mapGet (m c) q x :=
    fun _ _ hm _ _ => by rw [hm]
  refine Confined.mono (Confined.of_take ?_ (other _ _ q.ports) (other _ _ q.stages) (other _ _ q.engines)) h
  obtain ⟨_, _, _, _, _, _, rfl⟩ := q
  rfl

theorem confined_send (o : Out) (h : [.sent] ⊆ a := by decide) : Confined n a c (c.send o) :=
  .mono (a := [.sent]) (.of_take (c.send_eq o) (fun q _ => Chip.send_port c q o) (fun q _ => Chip.send_stage c q o) (fun q _ => Chip.send_eng c q o)) h

theorem confined_setPort (v : PortSt) (h : [.ports] ⊆ a := by decide) : Confined n a c (c.setPort n v) :=
  .mono (.of_take rfl (fun q => Chip.setPort_port_ne c q n v) (fun _ _ => rfl) (fun _ _ => rfl)) h

theorem confined_modPort (f : PortSt → PortSt) (h : [.ports] ⊆ a := by decide) : Confined n a c (c.modPort n f) := confined_setPort c _ h

theorem confined_setStage (v : StageEnd) (h : [.stages] ⊆ a := by decide) : Confined n a c (c.setStage n v) :=
  .mono (.of_take rfl (fun _ _ => rfl) (fun q => Chip.setStage_stage_ne c q n v) (fun _ _ => rfl)) h

theorem confined_setEng (v : EngSt) (h : [.engines] ⊆ a := by decide) : Confined n a c (c.setEng n v) :=
  .mono (.of_take rfl (fun _ _ => rfl) (fun _ _ => rfl) (fun q => Chip.setEng_eng_ne c q n v)) h

theorem confined_modEng (f : EngSt → EngSt) (h : [.engines] ⊆ a := by decide) : Confined n a c (c.modEng n f) := confined_setEng c _ h

/-- An engine other than number `n`. -/
theorem confined_modEng_any (e : Nat) (f : EngSt → EngSt) (h : [.engines, .otherEngines] ⊆ a := by decide) :
    Confined n a c (c.modEng e f) := by
  intro u hu
  cases u
  case engines | otherEngines => exact absurd (h (by simp)) hu
  case otherPorts | otherStages => exact fun _ _ => rfl
  all_goals exact rfl

theorem confined_arm (k t : Nat) (h : [.timers] ⊆ a := by decide) : Confined n a c (c.arm k t) :=
  .mono (.of_take rfl (fun _ _ => rfl) (fun _ _ => rfl) (fun _ _ => rfl)) h

theorem confined_disarm (k : Nat) (h : [.timers] ⊆ a := by decide) : Confined n a c (c.disarm k) :=
  .mono (.of_take rfl (fun _ _ => rfl) (fun _ _ => rfl) (fun _ _ => rfl)) h

theorem confined_modPlumb (f : PlumbSt → PlumbSt) (h : [.plumb] ⊆ a := by decide) : Confined n a c (c.modPlumb f) :=
  .mono (.of_take rfl (fun _ _ => rfl) (fun _ _ => rfl) (fun _ _ => rfl)) h

theorem confined_modTwin (f : TwinSt → TwinSt) (h : [.twin] ⊆ a := by decide) : Confined n a c (c.modTwin f) :=
  .mono (.of_take rfl (fun _ _ => rfl) (fun _ _ => rfl) (fun _ _ => rfl)) h

theorem confined_modFbk (f : FbkSt → FbkSt) (h : [.fbk] ⊆ a := by decide) : Confined n a c (c.modFbk f) :=
  .mono (.of_take rfl (fun _ _ => rfl) (fun _ _ => rfl) (fun _ _ => rfl)) h

theorem confined_modFwu (f : FwuSt → FwuSt) (h : [.fwu] ⊆ a := by decide) : Confined n a c (c.modFwu f) :=
  .mono (.of_take rfl (fun _ _ => rfl) (fun _ _ => rfl) (fun _ _ => rfl)) h

theorem confined_modFlash (f : FlashSt → FlashSt) (h : [.flash] ⊆ a := by decide) : Confined n a c (c.modFlash f) :=
  .mono (.of_take rfl (fun _ _ => rfl) (fun _ _ => rfl) (fun _ _ => rfl)) h

theorem confined_modSec (s : Nat) (f : SecSt → SecSt) (h : [.secs] ⊆ a := by decide) : Confined n a c (c.modSec s f) :=
  .mono (.of_take rfl (fun _ _ => rfl) (fun _ _ => rfl) (fun _ _ => rfl)) h

theorem confined_setLaw (i : Nat) (l : LawSt) (h : [.laws] ⊆ a := by decide) : Confined n a c (c.setLaw i l) :=
  .mono (.of_take rfl (fun _ _ => rfl) (fun _ _ => rfl) (fun _ _ => rfl)) h

theorem confined_free (h : [.freeCtr] ⊆ a := by decide) : Confined n a c c.free.2 :=
  .mono (.of_take rfl (fun _ _ => rfl) (fun _ _ => rfl) (fun _ _ => rfl)) h

theorem confined_wr (f : Fld) (b v i : Nat) (h : quietParts ⊆ a := by decide) : Confined n a c (c.wr f b v i) :=
  confined_quiet (quiet_wr c f b v i) h

theorem confined_bump (f : Fld) (b i k : Nat) (h : quietParts ⊆ a := by decide) : Confined n a c (c.bump f b i k) :=
  confined_quiet (quiet_bump c f b i k) h

theorem confined_hw (b : Nat) (us : List (Fld × Nat × Nat)) (h : quietParts ⊆ a := by decide) : Confined n a c (c.hw b us) :=
  confined_quiet (quiet_hw c b us) h

theorem confined_up (f : Fld) (b v i : Nat) (h : quietParts ⊆ a := by decide) : Confined n a c (c.up f b v i) :=
  confined_quiet (quiet_up c f b v i) h

theorem confined_pmcEvent (b e k : Nat) (h : quietParts ⊆ a := by decide) : Confined n a c (c.pmcEvent b e k) :=
  confined_quiet (quiet_pmcEvent c b e k) h

theorem confined_pulse (b k : Nat) (h : quietParts ⊆ a := by decide) : Confined n a c (c.pulse b k) :=
  confined_quiet (quiet_pulse c b k) h

theorem confined_level (b k : Nat) (on : Bool) (h : quietParts ⊆ a := by decide) : Confined n a c (c.level b k on) :=
  confined_quiet (quiet_level c b k on) h

theorem confined_capCause (hit : Nat → Nat → Nat → Bool) (h : quietParts ⊆ a := by decide) : Confined n a c (c.capCause hit) :=
  confined_quiet (quiet_capCause c hit) h
end

end Sys2Proof.Machine
end

section
/-! PROOFS. A command to a stage end changes that stage end alone (R107, R120, R122, R131). -/

namespace Sys2Proof.Machine

/-! Frames that a stage end takes. -/

section
variable (c : Chip) (p : Port)

theorem confined_seReceive (l : Link) (f : Frame) (want : Nat) (h : Hdr → Bytes → StageEnd → StageEnd) :
    Confined p [.stages] c (seReceive c p l f want h) := by
  obtain heq | ⟨s, heq⟩ := seReceive_shape c p l f want h <;> rw [heq]
  · exact .refl c
  · exact confined_setStage c s

/-! What it does by itself. -/

theorem confined_seUpstream : Confined p [.stages, .sent] c (seUpstream c p) := by
  unfold seUpstream
  exact .ite (.refl c) (((confined_send c _).trans (confined_send _ _)).trans (confined_setStage _ _))

theorem confined_seSampleTick (r : RawSample) : Confined p [.stages] c (seSampleTick c p r) := by
  unfold seSampleTick
  exact .ite (.refl c) (confined_setStage c _)

theorem confined_seApplyTick : Confined p [.stages] c (seApplyTick c p) := by
  unfold seApplyTick
  exact .ite (confined_setStage c _) (.refl c)

theorem confined_seHoldEntry : Confined p [.stages] c (seHoldEntry c p) := by
  unfold seHoldEntry
  exact .ite (confined_setStage c _) (.refl c)

theorem confined_seSafeEntry : Confined p [.stages] c (seSafeEntry c p) := by
  unfold seSafeEntry
  exact .ite (confined_setStage c _) (.refl c)

theorem confined_seFastTrip (r : RawSample) : Confined p [.stages] c (seFastTrip c p r) := by
  unfold seFastTrip
  exact .ite (confined_setStage c _) (.refl c)

theorem confined_seCrowbar (r : RawSample) : Confined p [.stages] c (seCrowbar c p r) := by
  unfold seCrowbar
  exact .ite (confined_setStage c _) (.refl c)

theorem confined_seSelfcheckFail : Confined p [.stages] c (seSelfcheckFail c p) := by
  unfold seSelfcheckFail
  exact .ite (confined_setStage c _) (.refl c)

theorem confined_sePowerCycle (i : SeIdent) : Confined p [.stages] c (sePowerCycle c p i) := confined_setStage c _

theorem confined_seMoistureMeasure : Confined p [.stages] c (seMoistureMeasure c p) := by
  unfold seMoistureMeasure
  exact .ite (confined_setStage c _) (.refl c)

theorem confined_seMoistureDone (kohm : Nat) : Confined p [.stages] c (seMoistureDone c p kohm) := by
  unfold seMoistureDone
  exact .ite (confined_setStage c _) (.refl c)

theorem confined_seSidebandTx : Confined p [.stages, .sent] c (seSidebandTx c p) := by
  unfold seSidebandTx
  dsimp only
  split
  · exact .refl c
  · exact .ite ((confined_send c _).trans (confined_setStage _ _)) (.refl c)

theorem confined_seSidebandRx (m : Bytes) (crc : Word) : Confined p [.stages] c (seSidebandRx c p m crc) := by
  unfold seSidebandRx
  exact .ite (.refl c) (confined_setStage c _)
end

/-- What a command leaves that is confined and changes one stage end at most. -/
theorem oneStage {a : List Comp} {s t : State} {p : Port} {f : Chip → Chip} (hf : ∀ c, Confined p a c (f c))
    (h : (.next (s.onChip f) : Result) = .next t) (ha : .otherStages ∉ a := by decide) :
    t = { s with chip := s.chip.take a t.chip } ∧ ∀ q, q ≠ p.val → t.chip.stage q = s.chip.stage q :=
  have ⟨kept, eq⟩ := Confined.next hf h
  ⟨eq, kept .otherStages ha⟩

/-- Settles O56, command by command. -/
theorem stageEndFrames : Obligations.StageEndFrames :=
  ⟨fun _ _ p => oneStage (confined_seUpstream · p),
   fun _ _ p r => oneStage (confined_seSampleTick · p r),
   fun _ _ p l f => oneStage (confined_seReceive · p l f _ _),
   fun _ _ p l f => oneStage (fun c => confined_seReceive c p l f _ _),
   fun _ _ p l f => oneStage (confined_seReceive · p l f _ _),
   fun _ _ p l f => oneStage (confined_seReceive · p l f _ _),
   fun _ _ p l f => oneStage (confined_seReceive · p l f _ _),
   fun _ _ p l f => oneStage (confined_seReceive · p l f _ _),
   fun _ _ p l f _ => oneStage (confined_seReceive · p l f _ _),
   fun _ _ p l f _ => oneStage (confined_seReceive · p l f _ _),
   fun _ _ p l f => oneStage (confined_seReceive · p l f _ _),
   fun _ _ p l f => oneStage (confined_seReceive · p l f _ _),
   fun _ _ p l f => oneStage (confined_seReceive · p l f _ _),
   fun _ _ p => oneStage (confined_seApplyTick · p),
   fun _ _ p => oneStage (confined_seHoldEntry · p),
   fun _ _ p => oneStage (confined_seSafeEntry · p),
   fun _ _ p r => oneStage (confined_seFastTrip · p r),
   fun _ _ p r => oneStage (confined_seCrowbar · p r),
   fun _ _ p => oneStage (confined_seSelfcheckFail · p),
   fun _ _ p i => oneStage (confined_sePowerCycle · p i),
   fun _ _ p => oneStage (confined_seMoistureMeasure · p),
   fun _ _ p k => oneStage (confined_seMoistureDone · p k),
   fun _ _ p => oneStage (confined_seSidebandTx · p),
   fun _ _ p m crc => oneStage (confined_seSidebandRx · p m crc)⟩

end Sys2Proof.Machine
end

section
/-! SUPPORT. Raising a fault: the components that it can change (R424 to R429). -/

namespace Sys2Proof.Machine

/-- What raising a fault changes. -/
abbrev raiseParts : List Comp := quietParts ++ [.timers, .plumb, .flash, .fbk, .twin, .fwu, .freeCtr]

section
variable {n : Nat} (c : Chip)

theorem confined_countDrop (r : FbRec) : Confined n raiseParts c (c.countDrop r) :=
  ((confined_bump c _ _ _ _).trans (confined_modFbk _ _)).trans (confined_pulse _ _ _)

theorem confined_enqueue (r : FbRec) : Confined n raiseParts c (c.enqueue r) := by
  unfold Chip.enqueue
  refine .ite (.refl c) (.ite ?_ ?_)
  · exact ((confined_modFbk c _).trans (confined_up _ _ _ _ _)).trans (confined_level _ _ _ _)
  · split
    · exact confined_countDrop c r
    · exact (confined_modFbk c _).trans (confined_countDrop _ _)

theorem confined_record (code source sev part : Nat) (payload : Bytes) (shelf : Bool) :
    Confined n raiseParts c (c.record code source sev part payload shelf) := by
  unfold Chip.record
  exact .ite (.refl c) ((Confined.ite (confined_free c) (.refl c)).trans (confined_enqueue _ _))

theorem confined_reFlt : Confined n raiseParts c c.reFlt := by
  unfold Chip.reFlt
  exact .ite (.refl c) (confined_up c _ _ _ _)

theorem confined_openRecovery : Confined n raiseParts c c.openRecovery := (confined_up c _ _ _ _).trans (confined_arm _ _ _)

theorem confined_setRole (follow : Bool) : Confined n raiseParts c (c.setRole follow) := by
  unfold Chip.setRole
  exact .ite (.refl c) ((confined_up c _ _ _ _).trans (confined_pulse _ _ _))

theorem confined_enterFenced (cause : Nat) : Confined n raiseParts c (c.enterFenced cause) := by
  unfold Chip.enterFenced
  extract_lets c1 c2
  have state : Confined n raiseParts c c1 := (confined_hw c _ _).trans (confined_setRole _ true)
  have notice : Confined n raiseParts c c2 := (state.trans (confined_modPlumb c1 _)).trans (confined_send _ _)
  refine .ite ((confined_up c _ _ _ _).trans (confined_reFlt _)) ?_
  exact ((((notice.trans (confined_pulse c2 _ _)).trans (confined_openRecovery _)).trans (confined_disarm _ _)).trans
    (confined_modTwin _ _)).trans (confined_reFlt _)

/-- TW_HEALTH is a register, and a change of it goes over Chain. -/
theorem confined_putHealth {a : List Comp} (us : List (Fld × Nat × Nat)) (h : quietParts ⊆ a := by decide) :
    Confined n a c (c.putHealth us) := by
  unfold Chip.putHealth
  exact .ite (.refl c) ((confined_hw c _ _ h).trans (confined_send _ _ (fun _ hu => h (by simp_all))))

theorem confined_reMaxSev : Confined n raiseParts c c.reMaxSev := by
  unfold Chip.reMaxSev
  exact (Confined.ite (.refl c) (confined_up c _ _ _ _)).trans (confined_putHealth _ _)

theorem confined_quiescePages (p : Nat) (on : Bool) : Confined n raiseParts c (c.quiescePages p on) := by
  unfold Chip.quiescePages
  extract_lets page
  have one : ∀ b c, Confined n raiseParts c (page b c) := fun b c =>
    .ite (.ite ((confined_wr c _ _ _ _).trans (confined_up _ _ _ _ _)) (confined_wr c _ _ _ _)) (.refl c)
  exact (Confined.foldc (fun _ => one _) _).trans (Confined.foldc (fun _ => one _) _)

theorem confined_quiescePart (p : Nat) : Confined n raiseParts c (c.quiescePart p) := by
  unfold Chip.quiescePart
  exact .ite (.refl c) ((confined_wr c _ _ _ _).trans (confined_quiescePages _ _ _))

theorem confined_settleFail : Confined n raiseParts c c.settleFail := by
  unfold Chip.settleFail
  exact .ite (((((confined_modFwu c _).trans (confined_disarm _ _)).trans (confined_arm _ _ _)).trans (confined_up _ _ _ _ _)).trans
    (confined_pulse _ _ _)) (.refl c)

theorem confined_swapAbort (code : Nat) : Confined n raiseParts c (c.swapAbort code) := by
  unfold Chip.swapAbort
  extract_lets none' c1
  have undone : Confined n raiseParts c c1 := ((confined_modFwu c _).trans (confined_modFlash _ _)).trans (confined_hw _ _ _)
  refine .ite (.ite (undone.trans ?_) undone) (.refl c)
  exact ((Confined.foldc (fun _ c => .ite (confined_up c _ _ _ _) (.refl c)) c1).trans (confined_up _ _ _ _ _)).trans (confined_pulse _ _ _)

theorem confined_s3Sequence (src : Nat) : Confined n raiseParts c (c.s3Sequence src) := by
  unfold Chip.s3Sequence
  extract_lets c1
  have fence : Confined n raiseParts c c1 := (confined_modPlumb c _).trans (confined_enterFenced _ 1)
  exact .ite (.refl c) (.ite (.refl c) (.ite (fence.trans (confined_arm c1 _ _)) fence))

theorem confined_raiseEcho (src inst sev own : Nat) : Confined n raiseParts c (c.raiseEcho src inst sev own) := by
  unfold Chip.raiseEcho
  extract_lets c2 c3 c4 c5 c6 c7 c8 c9 c10 c11
  have h2 : Confined n raiseParts c c2 := confined_bump c _ _ _ _
  have h3 : Confined n raiseParts c c3 := .ite (h2.trans (confined_bump c2 _ _ _ _)) h2
  have h4 : Confined n raiseParts c c4 := h3.trans (confined_wr c3 _ _ _ _)
  have h5 : Confined n raiseParts c c5 := (h4.trans (confined_modPlumb c4 _)).trans (confined_reMaxSev _)
  have h6 : Confined n raiseParts c c6 := .ite h5 (h5.trans (confined_pulse c5 _ _))
  have h7 : Confined n raiseParts c c7 := h6.trans (confined_capCause c6 _)
  have h8 : Confined n raiseParts c c8 := .ite (h7.trans (confined_quiescePart c7 _)) h7
  have h9 : Confined n raiseParts c c9 := .ite (h8.trans (confined_settleFail c8)) h8
  have h10 : Confined n raiseParts c c10 := .ite (h9.trans (confined_swapAbort c9 _)) h9
  have h11 : Confined n raiseParts c c11 := .ite ((h10.trans (confined_up c10 _ _ _ _)).trans (confined_arm _ _ _)) h10
  exact .ite (h11.trans (confined_s3Sequence c11 _)) h11

theorem confined_raise (src inst : Nat) (payload : Bytes) : Confined n raiseParts c (c.raise src inst payload) := by
  by_cases hs : srcInfo src = none
  · rw [raise_of_none c inst payload hs]
    exact .refl c
  · cases hp : c.plumb.porst || c.plumb.stopped with
    | true => rw [raise_unpowered c src inst payload hp]; exact .refl c
    | false =>
      rw [raise_powered c inst payload hs hp]
      exact ((confined_record c _ _ _ _ _ _).trans (confined_hw _ _ _)).trans (confined_raiseEcho _ _ _ _ _)
end

end Sys2Proof.Machine
end

section
/-! PROOFS. Commands of links, samples, engines and phases change only their own units (R118, R139, R166, R218). -/

namespace Sys2Proof.Machine

/-! Stage links: frames and requests. -/

section
variable {a : List Comp} (c : Chip) (p : Nat)

theorem confined_sendSe (typ : Nat) (body : Bytes) (degraded : Bool) (epoch : Option Nat) (h : [.ports, .sent] ⊆ a := by decide) :
    Confined p a c (c.sendSe p typ body degraded epoch) := by
  refine .mono (a := [.ports, .sent]) ?_ h
  unfold Chip.sendSe
  exact .ite ((confined_modPort c _).trans (confined_send _ _)) (.refl c)

theorem confined_nextReq (h : [.ports] ⊆ a := by decide) : Confined p a c (c.nextReq p) := by
  unfold Chip.nextReq
  dsimp only
  split
  · exact .refl c
  · split
    · exact .refl c
    · exact (confined_setPort c _ h).trans (confined_modPort _ _ h)

theorem confined_pushReq (q : CfgReq) (h : [.ports] ⊆ a := by decide) : Confined p a c (c.pushReq p q) :=
  (confined_modPort c _ h).trans (confined_nextReq _ p h)

theorem confined_armOnce (k : Nat) (h : [.timers] ⊆ a := by decide) : Confined p a c (c.armOnce k) := by
  unfold Chip.armOnce
  exact .ite (.refl c) (confined_arm c _ _ h)

theorem confined_linkAlignLoss : Confined p [.ports] c (linkAlignLoss c p) := by
  unfold linkAlignLoss
  exact .ite (confined_modPort c _) (.refl c)

theorem confined_linkAlignAcquire (inverted : Bool) : Confined p [.ports] c (linkAlignAcquire c p inverted) := by
  unfold linkAlignAcquire
  exact .ite (confined_modPort c _) (.refl c)

theorem confined_syncSend : Confined p [.timers, .ports, .sent] c (syncSend c p) := by
  unfold syncSend
  refine .ite (.refl c) ?_
  extract_lets t echo step
  split
  · exact ((confined_sendSe c p _ _ _ _).trans (confined_modPort _ _)).trans (confined_arm _ _ _)
  · exact confined_sendSe c p _ _ _ _

theorem confined_cfgRspTimeout : Confined p (quietParts ++ [.ports]) c (cfgRspTimeout c p) := by
  unfold cfgRspTimeout
  split
  · exact .refl c
  · exact .ite (.refl c) (.ite (confined_modPort c _)
      ((((confined_modPort c _).trans (confined_bump _ _ _ _ _)).trans (confined_pulse _ _ _)).trans (confined_nextReq _ p)))

theorem confined_sidePendingPoll : Confined p [.ports] c (sidePendingPoll c p) := by
  unfold sidePendingPoll
  exact .ite (confined_pushReq c p _) (.refl c)

theorem confined_reEpoch : Confined p quietParts c (c.reEpoch p) := by
  unfold Chip.reEpoch
  exact .ite (.refl c) (confined_up c _ _ _ _)

theorem confined_fenceSend : Confined p (quietParts ++ [.timers, .ports]) c (fenceSend c p) := by
  unfold fenceSend
  split
  · exact .refl c
  · exact .ite ((((confined_sendSe c p _ _ _ _).trans (confined_modPort _ _)).trans (confined_armOnce _ p _)).trans (confined_reEpoch _ p).mono)
      (.refl c)

theorem confined_admitSend : Confined p [.timers, .ports, .sent] c (admitSend c p) := by
  unfold admitSend
  exact .ite (.ite ((confined_setPort c _).trans (confined_disarm _ _))
    (.ite ((confined_sendSe c p _ _ _ _).trans (confined_armOnce _ p _)) (.refl c))) (.refl c)

theorem confined_epochMismatch : Confined p (quietParts ++ [.timers, .ports]) c (epochMismatch c p) := by
  unfold epochMismatch
  extract_lets f a c1 c2 c3
  have h1 : Confined p (quietParts ++ [.timers, .ports]) c c1 := confined_modPort c _
  have h2 : Confined p (quietParts ++ [.timers, .ports]) c c2 := .ite (h1.trans (confined_disarm c1 _)) h1
  have h3 : Confined p (quietParts ++ [.timers, .ports]) c c3 := .ite (h2.trans (confined_disarm c2 _)) h2
  exact .ite (h3.trans (confined_pulse c3 _ _)) (.refl c)
end

/-! Equalisation. -/

section
variable (c : Chip) (p : Nat)

theorem confined_equaliseRequest : Confined p [.ports, .sent] c (equaliseRequest c p) := by
  unfold equaliseRequest
  exact .ite ((confined_modPort c _).trans (confined_send _ _)) (.refl c)

theorem confined_equaliseAnswer (t : Nat) : Confined p (quietParts ++ [.twin]) c (equaliseAnswer c p t) := by
  unfold equaliseAnswer
  extract_lets w n c1 body
  have h1 : Confined p (quietParts ++ [.twin]) c c1 := confined_modTwin c _
  exact .ite (.refl c) (.ite ((h1.trans (confined_bump c1 _ _ _ _)).trans (confined_send _ _)) (h1.trans (confined_send c1 _)))

/-- What arrives on Chain is an answer of this chip's, and the twin has been heard. -/
theorem confined_chainAnswer (t : Nat) : Confined p (quietParts ++ [.twin]) c (c.chainIn (fun c => equaliseAnswer c.hear p t)) := by
  have heard : Confined p (quietParts ++ [.twin]) c c.hear := confined_modTwin (a := quietParts ++ [.twin]) c fun w => { w with heard := c.now }
  unfold Chip.chainIn
  exact .ite (heard.trans (confined_equaliseAnswer c.hear p t)) (.refl c)

theorem confined_equaliseDeadline : Confined p (quietParts ++ [.ports]) c (equaliseDeadline c p) := by
  unfold equaliseDeadline
  split
  · exact .refl c
  · exact .ite (.refl c) ((confined_modPort c _).trans (confined_bump _ _ _ _ _))
end

/-! Felting and the phases. -/

/-- What a change of Felting's members changes. -/
abbrev feltParts : List Comp := quietParts ++ [.twin, .ports, .secs]

/-- What a change of a phase's state changes. -/
abbrev phaseParts : List Comp := feltParts ++ [.timers, .laws]

section
variable {a : List Comp} (c : Chip) (p : Nat)

theorem confined_setBit (f : Fld) (b k : Nat) (on : Bool) (h : quietParts ⊆ a := by decide) : Confined p a c (c.setBit f b k on) := by
  unfold Chip.setBit
  exact .ite (.refl c) (confined_up c _ _ _ _ h)

theorem confined_proposeAt (x : Nat) (item : AgreedItem) (h : [.twin, .sent] ⊆ a := by decide) : Confined p a c (c.proposeAt x item) := by
  refine .mono (a := [.twin, .sent]) ?_ h
  unfold Chip.proposeAt
  exact .ite (confined_modTwin c _) (.ite ((confined_modTwin c _).trans (confined_send _ _)) (.refl c))

theorem confined_feltPoke (s : Option Nat) : Confined p feltParts c (c.feltPoke s) := by
  unfold Chip.feltPoke
  split
  · exact .ite ((confined_setBit c p _ _ _ _).trans (confined_proposeAt _ p _ _)) (.refl c)
  · exact .refl c

theorem confined_showFelt (s : Nat) : Confined p feltParts c (c.showFelt s) := by
  unfold Chip.showFelt
  exact .ite (.refl c) (confined_up c _ _ _ _)

theorem confined_phiZero : Confined p feltParts c (c.phiZero p) := by
  unfold Chip.phiZero
  exact .ite (.refl c) ((confined_hw c _ _).trans (confined_modPort _ _))

theorem confined_feltJudge (was : Option Nat) : Confined p feltParts c (c.feltJudge p was) := by
  unfold Chip.feltJudge
  extract_lets is c0 c1
  have h0 : Confined p feltParts c c0 := by
    unfold c0
    split
    · exact (confined_modSec c _ _).trans (confined_showFelt _ p _)
    · exact .refl c
  have h1 : Confined p feltParts c c1 := (h0.trans (confined_feltPoke c0 p was)).trans (confined_feltPoke _ p is)
  refine .ite (.refl c) ?_
  clear_value c1 is
  cases is with
  | some s =>
    have shown := h1.trans (confined_showFelt c1 p s)
    exact .ite shown ((shown.trans (confined_phiZero _ p)).trans (confined_modSec _ _ _))
  | none => exact h1

theorem confined_phLeave (was : Nat) : Confined p phaseParts c (c.phLeave p was) := by
  unfold Chip.phLeave
  have cleared : Confined p phaseParts c (c.modPort p (fun t => { t with clearReq := false })) := confined_modPort c _
  exact .ite (confined_up c _ _ _ _) (.ite (.ite (cleared.trans (confined_up _ _ _ _ _)) cleared) (.refl c))

theorem confined_ssJudge : Confined p phaseParts c (c.ssJudge p) := by
  unfold Chip.ssJudge
  exact .ite (.refl c) (confined_up c _ _ _ _)

theorem confined_phSet (st : Nat) : Confined p phaseParts c (c.phSet p st) := by
  unfold Chip.phSet
  extract_lets was c1 c2
  have h1 : Confined p phaseParts c c1 := .ite (.refl c) ((confined_up c _ _ _ _).trans (confined_phLeave _ p was))
  have h2 : Confined p phaseParts c c2 := .ite (.ite h1 (h1.trans (confined_arm c1 _ _))) (h1.trans (confined_disarm c1 _))
  exact (h2.trans (confined_ssJudge c2 p)).trans (confined_feltJudge _ p _).mono

theorem confined_phStart : Confined p phaseParts c (c.phStart p) := by
  unfold Chip.phStart
  split
  · exact .refl c
  · exact ((confined_setLaw c _ _).trans (confined_up _ _ _ _ _)).trans (confined_phSet _ p _)

theorem confined_hiccupEnd : Confined p phaseParts c (hiccupEnd c p) := by
  unfold hiccupEnd
  exact .ite ((confined_disarm c _).trans (confined_phStart _ p)) (.refl c)

theorem confined_hicCountClear : Confined p (quietParts ++ [.timers]) c (hicCountClear c p) := by
  unfold hicCountClear
  extract_lets c1
  have h1 : Confined p (quietParts ++ [.timers]) c c1 := confined_disarm c _
  exact .ite (.ite h1 (h1.trans (confined_up c1 _ _ _ _))) (.refl c)

theorem confined_crowbarGone : Confined p phaseParts c (c.crowbarGone p) := by
  unfold Chip.crowbarGone
  exact .ite ((confined_disarm c _).trans (confined_phStart _ p)) (.refl c)

theorem confined_crowbarClearCheck : Confined p phaseParts c (crowbarClearCheck c p) := by
  unfold crowbarClearCheck
  extract_lets c1
  have h1 : Confined p phaseParts c c1 := confined_disarm c _
  exact .ite (.ite ((h1.trans (confined_modPort c1 _)).trans (confined_up _ _ _ _ _)) (h1.trans (confined_crowbarGone c1 p))) (.refl c)
end

/-! Engines and command slots. -/

section
variable (c : Chip) (e : Nat)

theorem confined_slotReady (s : Nat) : Confined e (quietParts ++ [.engines]) c (c.slotReady e s) := by
  unfold Chip.slotReady
  exact .ite (.refl c) (.ite ((confined_setEng c _).trans (confined_bump _ _ _ _ _)) (confined_setEng c _))

theorem confined_taskReadyPeriodic (s : Nat) : Confined e (quietParts ++ [.engines]) c (taskReadyPeriodic c e s) := by
  unfold taskReadyPeriodic
  exact .ite (confined_slotReady c e s) (.refl c)

theorem confined_readWord (w : Nat) : Confined e (raiseParts ++ [.engines]) c (c.readWord e w) := by
  unfold Chip.readWord
  split
  · exact .refl c
  · exact (((confined_modEng c _).trans (confined_bump _ _ _ _ _)).trans (confined_pulse _ _ _)).trans (confined_raise _ _ _ _).mono
  · exact ((confined_bump c _ _ _ _).trans (confined_pulse _ _ _)).trans (confined_raise _ _ _ _).mono

theorem confined_upset (us : Upsets) : Confined e (raiseParts ++ [.engines]) c (c.upset e us) := by
  unfold Chip.upset
  exact .ite (.refl c) (confined_modEng c _)

theorem confined_scrubLine (us : Upsets) : Confined e (raiseParts ++ [.engines]) c (scrubLine c e us) := by
  unfold scrubLine
  exact .ite (((confined_upset c e us).trans (.foldc (fun w c => confined_readWord c e w) _)).trans (confined_modEng _ _)) (.refl c)
end

/-- What a command slot changes: beside the port, a residue that is due is raised and Felting follows. -/
abbrev cmdParts : List Comp := raiseParts ++ [.ports, .engines, .otherEngines, .secs]

section
variable (c : Chip) (p : Nat)

theorem confined_residueRaise (e : Nat) : Confined p cmdParts c (c.residueRaise e) := by
  unfold Chip.residueRaise
  exact .ite ((confined_modEng_any c e _).trans (confined_raise _ _ _ _).mono) (.refl c)

theorem confined_cmdSlot : Confined p cmdParts c (cmdSlot c p) := by
  unfold cmdSlot
  extract_lets t x fresh rest base0 base k missed swapped felt c1 c2 st c3 c4
  have follow (d : Chip) : Confined p cmdParts d (felt d) :=
    .ite (confined_feltPoke d p _).mono (confined_feltJudge d p _).mono
  have h3 : Confined p cmdParts c c3 := ((confined_modTwin c _).trans (confined_modTwin c1 _)).trans (confined_setPort c2 _)
  have h4 : Confined p cmdParts c c4 := (h3.trans (confined_sendSe c3 p _ _ _ _)).trans (confined_pmcEvent _ _ _ _)
  refine .ite (.refl c) (.ite ?_ ((h3.trans (confined_modPort c3 _)).trans (follow _)))
  split
  · exact Confined.trans (.ite (h4.trans (confined_residueRaise c4 p _)) h4) (follow _)
  · exact h4.trans (follow c4)
end

/-! The commands. -/

section
variable {n : Nat} {a : List Comp} {s t : State} {f : Chip → Chip} (hf : ∀ c, Confined n a c (f c))
  (h : (.next (s.onChip f) : Result) = .next t)
include hf h

/-- What a command leaves that is confined. -/
theorem someParts : t = { s with chip := s.chip.take a t.chip } := (Confined.next hf h).2

/-- What a command leaves that is confined and changes one port at most. -/
theorem onePort (ha : .otherPorts ∉ a := by decide) :
    t = { s with chip := s.chip.take a t.chip } ∧ ∀ q, q ≠ n → t.chip.port q = s.chip.port q :=
  have ⟨kept, eq⟩ := Confined.next hf h
  ⟨eq, kept .otherPorts ha⟩

/-- What a command leaves that is confined and changes one engine at most. -/
theorem oneEngine (ha : .otherEngines ∉ a := by decide) :
    t = { s with chip := s.chip.take a t.chip } ∧ ∀ q, q ≠ n → t.chip.eng q = s.chip.eng q :=
  have ⟨kept, eq⟩ := Confined.next hf h
  ⟨eq, kept .otherEngines ha⟩
end

/-- Settles O57, command by command. -/
theorem linkAndEngineFrames : Obligations.LinkAndEngineFrames :=
  ⟨fun _ _ p => onePort (confined_equaliseRequest · p),
   fun _ _ p k => someParts (confined_chainAnswer · p k),
   fun _ _ p => onePort (confined_equaliseDeadline · p),
   fun _ _ e k => oneEngine (confined_taskReadyPeriodic · e k),
   fun _ _ p => onePort (confined_cmdSlot · p),
   fun _ _ p => onePort (confined_linkAlignLoss · p),
   fun _ _ p => onePort (confined_syncSend · p),
   fun _ _ p => onePort (confined_cfgRspTimeout · p),
   fun _ _ p => onePort (confined_sidePendingPoll · p),
   fun _ _ p => onePort (confined_fenceSend · p),
   fun _ _ p => onePort (confined_admitSend · p),
   fun _ _ p => onePort (confined_epochMismatch · p),
   fun _ _ line => oneEngine (confined_scrubLine · line.engine line.upsets),
   fun _ _ p => someParts (confined_hiccupEnd · p),
   fun _ _ p => someParts (confined_hicCountClear · p),
   fun _ _ p => someParts (confined_crowbarClearCheck · p),
   fun _ _ p inverted => onePort (confined_linkAlignAcquire · p inverted)⟩

end Sys2Proof.Machine
end

section
/-! PROOFS. A moisture measurement waits for the sideband (R156), and SYNC for a free response tick (R116, R120). -/

namespace Sys2Proof.Machine

/-- No measurement begins while the sideband is not silent (R156). -/
theorem seMoistureMeasure_busy (c : Chip) (p : Port) (h : (c.stage p).sideIdle c.now = false) : seMoistureMeasure c p = c := by
  unfold seMoistureMeasure
  simp [h]

/-- A FEED stage end that has power and measures moisture, and whose sideband is silent from instant 1 on. -/
def busySidebandState : State :=
  { State.reset with chip := { stages := [(0, { powered := true, ident := ⟨2, 0, 0, 0, 0, 0, 1, 4⟩, lineFree := 1 })] } }

/-- Refutes O4: its tenth clause has a moisture measurement begin whatever the sideband does. In `busySidebandState` the stage end has never
measured, but a frame is on the line at instant 0, and no measurement begins. -/
theorem not_stageEndOwnEventsAct : ¬ Obligations.StageEndOwnEventsAct := by
  rintro ⟨-, -, -, -, -, -, -, -, -, begins, -⟩
  obtain ⟨t, ht, measuring⟩ := begins busySidebandState 0 (by decide +kernel) (by decide +kernel) (by decide +kernel) (by decide +kernel)
    (by decide +kernel) (by
      have never : (busySidebandState.chip.stage 0).measured = none := by decide +kernel
      intro u hu
      exact absurd (never.symm.trans hu) (by simp))
  obtain rfl := Host.Outcome.next.inj ht
  rw [State.onChip_chip, seMoistureMeasure_busy _ 0 (by decide +kernel)] at measuring
  exact absurd measuring (by decide +kernel)

/-- The newest output is a SYNC frame with ECHO_REQ (R118). -/
def echoAsked : List Out → Bool
  | .seFrame _ bs :: _ => bitOf (leAt bs 18 1) 0
  | _ => false

/-- The flags of a SYNC frame: ECHO_REQ and STEP (R118). -/
theorem leAt_mkFrame_syncBody (h : Hdr) (t1 delay r : Nat) (echo step : Bool) :
    leAt (mkFrame h (syncBody t1 delay r echo step)) 18 1 = b2n echo + 2 * b2n step := by
  have flags : b2n echo + 2 * b2n step < 256 := by cases echo <;> cases step <;> decide
  simpa [mkFrame, hdrBytes, syncBody, leAt, sliceBytes, leBytes, leNat] using flags

section
variable {c : Chip} {p : Nat}

theorem echoAsked_sendSe_sync (on : c.enabled (pgSP p) = true) (hf : c.fencedState = false) (t1 delay r : Nat) (echo step : Bool) :
    echoAsked (c.sendSe p 8 (syncBody t1 delay r echo step)).sent = echo := by
  unfold Chip.sendSe
  rw [if_pos (by simp [on, hf])]
  show bitOf (leAt (mkFrame _ (syncBody t1 delay r echo step)) 18 1) 0 = echo
  rw [leAt_mkFrame_syncBody]
  cases echo <;> cases step <;> rfl

/-- Without a free response tick SYNC goes without ECHO_REQ (log 202). -/
theorem syncSend_noResponse (hs : c.syncSlot p = true) (hf : c.fencedState = false) (hr : c.rspTick p = none) :
    ∃ step, syncSend c p = c.sendSe p 8 (syncBody c.datum (c.rd R.SP_DELAY (pgSP p)) 0 false step) := by
  unfold syncSend
  rw [if_neg (by simp [hs, hf])]
  simp only [hr, ite_self]
  exact ⟨_, rfl⟩
end

/-- A link in discovery whose port waits for the echoes of ticks 4 to 16. -/
def echoesDueState : State :=
  { State.reset with
    chip := { regs := [(fldKey R.PG_ENABLE (pgSP 0) 0, 1), (fldKey R.SP_LINK (pgSP 0) 0, 1)],
              ports := [(0, { syncT1 := (List.range 13).map (fun k => (k + 4, 0)) })] } }

/-- Refutes O5: its sixth clause has every SYNC of discovery ask for an echo. In `echoesDueState` each of the 13 response ticks that it may
ask for is taken, and SYNC goes without ECHO_REQ. -/
theorem not_linkStateCommandsAct : ¬ Obligations.LinkStateCommandsAct := by
  rintro ⟨-, -, -, -, -, sync, -⟩
  have hs : echoesDueState.chip.syncSlot 0 = true := by decide +kernel
  have hf : echoesDueState.chip.fencedState = false := by decide +kernel
  have on : echoesDueState.chip.enabled (pgSP 0) = true := by decide +kernel
  obtain ⟨t, ht, r, echo, step, sent, asks⟩ := sync echoesDueState 0 hs
  obtain ⟨step', silent⟩ := syncSend_noResponse hs hf (by decide +kernel)
  obtain rfl := Host.Outcome.next.inj ht
  have same := congrArg echoAsked sent
  rw [State.onChip_chip, show syncSend echoesDueState.chip (0 : Port) = _ from silent] at same
  rw [echoAsked_sendSe_sync on hf, show ((0 : Port) : Nat) = 0 from rfl, echoAsked_sendSe_sync on hf, asks (by decide +kernel)] at same
  contradiction

end Sys2Proof.Machine
end

section
/-! PROOFS. A command that changes the members of Felting is proposed over Chain too (R148, R236, R340). -/

namespace Sys2Proof.Machine

/-- A frame on a stage link is one output at most. -/
theorem length_sendSe_sent (c : Chip) (p typ : Nat) (body : Bytes) (degraded : Bool) :
    (c.sendSe p typ body degraded).sent.length ≤ c.sent.length + 1 := by
  unfold Chip.sendSe
  split
  · exact le_of_eq rfl
  · exact Nat.le_succ _

/-- A LEAD in a pair whose port 0 has a new command of mode 2. The law of the port is a Felting law of section 0, where Felting acts; the
last command, of mode 0, makes the port no member. -/
def feltingState : State :=
  { State.reset with
    chip := { regs := [(fldKey R.TWIN_STATE pgTWIN 0, 3), (fldKey R.PLUMB_MAIN_UP pgPLUMB 0, 1), (fldKey R.PG_ENABLE (pgSP 0) 0, 1),
                (fldKey R.FELT_EN pgFELT 0, 1)],
              ports := [(0, { epochValid := true, cmdNew := some { mode := 2 }, cmdTick := 1 })],
              laws := [(1, { bound := true, desc := List.replicate 181 0 ++ [8] })] } }

/-- Refutes O2: its eleventh clause has the CMD frame as the one output of a command slot. In `feltingState` the new command makes port 0 a
member of Felting, so the LEAD also proposes a recompute of the section to its twin. -/
theorem not_engineCommandsAct : ¬ Obligations.EngineCommandsAct := by
  rintro ⟨-, -, -, -, -, -, -, -, -, -, slot, -⟩
  obtain ⟨t, ht, -, -, -, -, -, sent⟩ := slot feltingState 0 (by decide +kernel) (by decide +kernel) (by decide +kernel)
  have both : (feltingState.onChip (cmdSlot · 0)).chip.sent.length = 2 := by decide +kernel
  obtain rfl := Host.Outcome.next.inj ht
  obtain ⟨d, hd⟩ := sent fun _ => rfl
  have one : (feltingState.onChip (cmdSlot · 0)).chip.sent.length ≤ 1 :=
    (congrArg List.length hd).trans_le (length_sendSe_sent feltingState.chip 0 2 _ d)
  omega

end Sys2Proof.Machine
end

section
/-! PROOFS. Requests of a stage link and their answers, SIDE fragments, FENCE and ADMIT (R124, R127 to R132, R137, R139). -/

namespace Sys2Proof.Machine

/-! Registers of one page, and what leaves the output alone. -/

/-- Two fields of a page have different keys where they have on page 0. -/
theorem fldKey_ne_on_page {f g : Fld} {i j : Nat} (b : Nat) (h : fldKey f 0 i ≠ fldKey g 0 j) : fldKey f b i ≠ fldKey g b j := by
  simp only [fldKey] at *
  omega

section
variable (c : Chip) (b : Nat)

/-- Counting sends nothing. -/
theorem Chip.pmcAdd_sent (j n : Nat) : (c.pmcAdd b j n).sent = c.sent := by
  simp only [Chip.pmcAdd, apply_ite Chip.sent, Chip.wr_sent, ite_self]

theorem foldc_sent {α : Type} (xs : List α) (f : α → Chip → Chip) (hf : ∀ x c, (f x c).sent = c.sent) : (foldc xs f c).sent = c.sent := by
  induction xs generalizing c with
  | nil => rfl
  | cons x xs ih => exact (ih (f x c)).trans (hf x c)

theorem Chip.pmcEvent_sent (e n : Nat) : (c.pmcEvent b e n).sent = c.sent := by
  have count : ∀ (j : Nat) (d : Chip), (if d.pmcSelects b j e then d.pmcAdd b j n else d).sent = d.sent := fun j d => by
    rw [apply_ite Chip.sent, Chip.pmcAdd_sent, ite_self]
  unfold Chip.pmcEvent
  rw [apply_ite Chip.sent, foldc_sent c _ _ count, ite_self]

/-- The device replaces fields without sending. -/
theorem Chip.up_sent (f : Fld) (v i : Nat) : (c.up f b v i).sent = c.sent := by
  have written : (foldc [(f, i, v)] (fun u c => c.wr u.1 b u.2.2 u.2.1) c).sent = c.sent := rfl
  unfold Chip.up Chip.hw
  split
  · exact (Chip.pmcEvent_sent _ b 3 1).trans written
  · exact written
end

/-! Requests: what the next one in hand leaves of its port (R111, R127). -/

section
variable (c : Chip) (p : Nat)

/-- What the queue and the request in hand leave of a port. -/
theorem PortSt.yieldReq_keeps (t : PortSt) : t.yieldReq.announce = t.announce ∧ t.yieldReq.sideMsg = t.sideMsg := by
  unfold PortSt.yieldReq
  split
  · split <;> exact ⟨rfl, rfl⟩
  · exact ⟨rfl, rfl⟩

theorem Chip.nextReq_keeps : ((c.nextReq p).port p).announce = (c.port p).announce ∧ ((c.nextReq p).port p).sideMsg = (c.port p).sideMsg := by
  have ⟨announce, side⟩ := (c.port p).yieldReq_keeps
  unfold Chip.nextReq
  dsimp only
  split
  · exact ⟨rfl, rfl⟩
  · split
    · exact ⟨rfl, rfl⟩
    · simpa [Chip.sendReq] using ⟨announce, side⟩

theorem Chip.nextReq_rd (f : Fld) (b i : Nat) : (c.nextReq p).rd f b i = c.rd f b i := by
  have regs : (c.nextReq p).regs = c.regs := (confined_nextReq (a := [.ports]) c p) Comp.regs (by decide)
  simp only [Chip.rd, regs]

/-- With no request in hand and none in the queue there is no next one. -/
theorem Chip.nextReq_empty (hr : (c.port p).req = none) (hq : (c.port p).cfgQ = []) : c.nextReq p = c := by
  have stays : (c.port p).yieldReq = c.port p := by simp [PortSt.yieldReq, hr]
  unfold Chip.nextReq
  simp [stays, hr, hq]

/-- A request that finds none before it is in hand at once, and waits for a slot. -/
theorem Chip.pushReq_first (q : CfgReq) (hr : (c.port p).req = none) (hq : (c.port p).cfgQ = []) :
    ∃ tag, ((c.pushReq p q).port p).req = some { q with tag := tag, wait := true } := by
  have queued : (c.modPort p (fun t => { t with cfgQ := t.cfgQ ++ [q] })).port p = { c.port p with cfgQ := [q] } := by simp [hq]
  have stays : PortSt.yieldReq { c.port p with cfgQ := [q] } = { c.port p with cfgQ := [q] } := by simp [PortSt.yieldReq, hr]
  have front : ([q].findIdx? (fun q => q.op == 14)).getD 0 = 0 := by
    cases h : q.op == 14 <;> simp [h]
  refine ⟨(c.port p).nextTag % 16, ?_⟩
  unfold Chip.pushReq Chip.nextReq
  rw [queued, stays]
  simp only [hr, front, List.getElem?_cons_zero, Chip.sendReq, Chip.modPort_port, Chip.setPort_port]
end

/-! ANNOUNCE (R132, R133, R137). -/

section
variable (c : Chip) (p : Port)

theorem noisy_link : noisy (fldKey R.SP_LINK (pgSP p.val) 0) = false :=
  noisy_fld_false R.SP_LINK (pgSP p.val) 0 (pgSP_page p.val).1 (by decide) (by decide) (by decide) (.inl (by simp only [pgSP]; omega))

/-- Identity and safe action of a stage end are other fields than LINK. -/
theorem link_showIdent (i : SeIdent) : (c.showIdent p.val i).link p.val = c.link p.val := by
  have other : ∀ {f : Fld}, fldKey R.SP_LINK 0 0 ≠ fldKey f 0 0 →
      ∀ (d : Chip) v, (d.wr f (pgSP p.val) v 0).rd R.SP_LINK (pgSP p.val) = d.rd R.SP_LINK (pgSP p.val) :=
    fun h d v => rd_wr_ne d _ _ _ _ _ _ _ (fldKey_ne_on_page _ h)
  unfold Chip.link Chip.showIdent
  rw [rd_hw _ _ _ _ _ _ (pgSP_page p.val).1 (noisy_link p)]
  simp only [foldc, List.foldl_cons, List.foldl_nil]
  rw [other (by decide), other (by decide), other (by decide), other (by decide), other (by decide)]

theorem link_checkSafeAct (i : SeIdent) : (c.checkSafeAct p.val i).link p.val = c.link p.val := by
  unfold Chip.link Chip.checkSafeAct Chip.cfgReject
  dsimp only
  split
  · rw [rd_pulse _ _ _ _ _ _ (pgSP_page p.val).1 (noisy_link p), rd_wr_ne _ _ _ _ _ _ _ _ (fldKey_ne_on_page _ (by decide))]
  · rfl

theorem port_checkSafeAct (i : SeIdent) : (c.checkSafeAct p.val i).port p.val = c.port p.val := by
  unfold Chip.checkSafeAct Chip.cfgReject
  dsimp only
  split <;> simp

/-- A link that goes on in discovery, from IDENT to CONFIG. -/
theorem setLink_config (h : c.link p.val = lkIdent) :
    c.setLink p.val lkConfig = (c.up R.SP_LINK (pgSP p.val) lkConfig).level (pgSP p.val) 5 false := by
  simp [Chip.setLink, h, lkIdent, lkConfig, lkReady, lkFailed]

/-- CONFIG begins at a link in IDENT and keeps what was announced. -/
theorem startConfig_acts (i : SeIdent) (resume : Bool) (h : c.link p.val = lkIdent) :
    ((c.startConfig p.val i resume).port p.val).announce = (c.port p.val).announce ∧ (c.startConfig p.val i resume).link p.val = lkConfig := by
  unfold Chip.startConfig
  dsimp only
  generalize (if c.hdrLead p.val = true then c.configReqs p.val i resume else configReads i) = qs
  refine ⟨?_, ?_⟩
  · rw [(Chip.nextReq_keeps _ p.val).1, Chip.modPort_port, Chip.discStep, Chip.arm_port, setLink_config c p h]
    simp
  · unfold Chip.link
    rw [Chip.nextReq_rd]
    show (c.setLink p.val lkConfig).rd R.SP_LINK (pgSP p.val) = lkConfig
    rw [setLink_config c p h, rd_level _ _ _ _ _ _ _ (pgSP_page p.val).1 (noisy_link p), rd_up_same _ _ _ _ _ (pgSP_page p.val).1 (noisy_link p)]
    rfl
end

section
variable {s : State} {p : Port} {f : Frame} {c1 : Chip} {h : Hdr} {b : Bytes}

/-- What a good frame of its type does. -/
theorem onFrame_good {c : Chip} {p : Nat} {typ : Nat} {g : Chip → Bytes → Chip} (hc : c.upCheck p f = (c1, some (h, b))) (ht : h.typ = typ) :
    c.onFrame p f typ g = g c1 b := by
  unfold Chip.onFrame
  rw [hc]
  exact if_pos ht

theorem announceRx_acts (hc : s.chip.upCheck p.val f = (c1, some (h, b))) (ht : h.typ = 7) (h0 : leAt b 0 1 = 0) (hl : c1.link p.val = lkIdent)
    (hv : (announceOf b).linkVer = 1) (h1 : 1 ≤ (announceOf b).channels.toNat) (h4 : (announceOf b).channels.toNat ≤ 4)
    (h2 : (announceOf b).pairs.toNat ≤ 2) :
    ∃ t, exec (.announceRx p f) s = .next t ∧ (t.chip.port p.val).announce = some (announceOf b) ∧ t.chip.link p.val = lkConfig := by
  refine ⟨_, rfl, ?_⟩
  have ok : identOk (announceOf b) = true := by simp [identOk, hv, h1, h4, h2]
  rw [State.onChip_chip, announceRx, onFrame_good hc ht]
  dsimp only
  rw [if_neg (by simp [h0, hl]), if_neg (by simp [ok])]
  refine (startConfig_acts _ p (announceOf b) false ?_).imp_left (fun announce => announce.trans ?_)
  · rw [link_checkSafeAct, link_showIdent]
    exact hl
  · rw [port_checkSafeAct]
    simp [Chip.showIdent]

/-! Responses (R128, R129). -/

/-- Passing a response on to the twin leaves the ports and registers. -/
theorem forwardRsp_leaves (c : Chip) (p : Nat) (b : Bytes) :
    (∀ q, (c.forwardRsp p b).port q = c.port q) ∧ ∀ q, (c.forwardRsp p b).link q = c.link q := by
  unfold Chip.forwardRsp Chip.link Chip.rd
  split
  · split <;> simp
  · exact ⟨fun _ => rfl, fun _ => rfl⟩

/-- An answered WRITE leaves the request in hand and the queue, and the links. -/
theorem writeOk_leaves (c : Chip) (p : Nat) (q : CfgReq) :
    ((c.writeOk p q).port p).req = (c.port p).req ∧ ((c.writeOk p q).port p).cfgQ = (c.port p).cfgQ ∧ (c.writeOk p q).link p = c.link p := by
  unfold Chip.writeOk Chip.link Chip.rd Chip.envAnswered
  dsimp only
  split
  · split <;> simp
  · split
    · split
      · exact ⟨rfl, rfl, rfl⟩
      · split <;> simp
    · exact ⟨rfl, rfl, rfl⟩

theorem cfgRspRx_acts {q : CfgReq} (hc : s.chip.upCheck p.val f = (c1, some (h, b))) (ht : h.typ = 3) (hr : (c1.port p.val).req = some q)
    (hop : leAt b 0 1 % 16 = q.op) (htag : leAt b 0 1 / 16 = q.tag) (hok : leAt b 1 1 = 0) (hq : (c1.port p.val).cfgQ = [])
    (hl : c1.link p.val = lkReady) : ∃ t, exec (.cfgRspRx p f) s = .next t ∧ (t.chip.port p.val).req = none := by
  refine ⟨_, rfl, ?_⟩
  obtain ⟨port, link⟩ := forwardRsp_leaves c1 p.val b
  rw [State.onChip_chip, cfgRspRx, onFrame_good hc ht]
  generalize c1.forwardRsp p.val b = d at port link
  simp only [port, hr]
  rw [if_neg (by simp [hop, htag]), if_neg (by simp [hok]), if_pos hok]
  have ready : (d.modPort p.val (fun t => { t with req := none })).link p.val = lkReady := (link p.val).trans hl
  have idle : ((d.modPort p.val (fun t => { t with req := none })).port p.val).req = none := by simp
  have empty : ((d.modPort p.val (fun t => { t with req := none })).port p.val).cfgQ = [] := by simp [port, hq]
  generalize d.modPort p.val (fun t => { t with req := none }) = e at ready idle empty
  rw [if_neg (by simp [ready, lkReady, lkConfig])]
  obtain ⟨req, queue, -⟩ := writeOk_leaves e p.val q
  split
  · rw [Chip.nextReq_empty _ _ (req.trans idle) (queue.trans empty), req, idle]
  · rw [Chip.nextReq_empty _ _ idle empty, idle]

/-! SIDE fragments (R131). -/

theorem sideUpRx_acts (hc : s.chip.upCheck p.val f = (c1, some (h, b))) (ht : h.typ = 5) (hm : bitOf (leAt b 0 1) 4 = true)
    (href : (c1.port p.val).prevSide = leAt b 1 1) :
    ∃ t, exec (.sideUpRx p f) s = .next t
      ∧ (t.chip.port p.val).sideMsg = (c1.port p.val).sideMsg ++ sliceBytes b 4 (min (leAt b 0 1 % 16) 12) := by
  refine ⟨_, rfl, ?_⟩
  rw [State.onChip_chip, sideUpRx, onFrame_good hc ht]
  dsimp only
  rw [(Chip.nextReq_keeps _ p.val).2, if_pos hm, if_pos hm, if_pos href, Chip.setPort_port]

theorem sidePendingPoll_acts (hlead : s.chip.portLeads p.val = true) (hp : (s.chip.port p.val).sidePending = true)
    (hl : s.chip.linkReady p.val = true) (hr : (s.chip.port p.val).req = none) (hq : (s.chip.port p.val).cfgQ = []) :
    ∃ t, exec (.sidePendingPoll p) s = .next t ∧ ∃ q, (t.chip.port p.val).req = some q ∧ q.op = 0 ∧ q.wait = true := by
  refine ⟨_, rfl, ?_⟩
  rw [State.onChip_chip, sidePendingPoll]
  rw [if_pos (by simp [hlead, hp, hl, hr, hq])]
  obtain ⟨tag, inHand⟩ := s.chip.pushReq_first p.val { op := 0 } hr hq
  exact ⟨_, inHand, rfl, rfl⟩

/-! Requests without an answer (R129, R139). -/

theorem cfgRspTimeout_repeats {q : CfgReq} (hr : (s.chip.port p.val).req = some q) (hw : q.wait = false) (hk : q.rspTick + 4 < s.chip.tick)
    (h3 : q.tries < 3) :
    ∃ t, exec (.cfgRspTimeout p) s = .next t ∧ (t.chip.port p.val).req = some { q with tries := q.tries + 1, wait := true } := by
  refine ⟨_, rfl, ?_⟩
  rw [State.onChip_chip, cfgRspTimeout]
  simp only [hr]
  rw [if_neg (by simp [hw]; omega), if_pos h3, Chip.sendReq, Chip.modPort_port]

theorem noisy_rspTimeout (p : Port) : noisy (fldKey R.SP_CNT_RSP_TIMEOUT (pgSP p.val) 0) = false :=
  noisy_fld_false R.SP_CNT_RSP_TIMEOUT (pgSP p.val) 0 (pgSP_page p.val).1 (by decide) (by decide) (by decide) (.inl (by simp only [pgSP]; omega))

theorem cfgRspTimeout_abandons {q : CfgReq} (hr : (s.chip.port p.val).req = some q) (hw : q.wait = false) (hk : q.rspTick + 4 < s.chip.tick)
    (h3 : 3 ≤ q.tries) (hq : (s.chip.port p.val).cfgQ = []) :
    ∃ t, exec (.cfgRspTimeout p) s = .next t ∧ (t.chip.port p.val).req = none
      ∧ t.chip.rd R.SP_CNT_RSP_TIMEOUT (pgSP p.val) = (s.chip.rd R.SP_CNT_RSP_TIMEOUT (pgSP p.val) + 1) % 2 ^ 32
      ∧ bitOf (t.chip.rd R.EVT_LATCH (pgSP p.val)) 7 = true := by
  refine ⟨_, rfl, ?_⟩
  rw [State.onChip_chip, cfgRspTimeout]
  simp only [hr]
  rw [if_neg (by simp [hw]; omega), if_neg (by omega), Chip.nextReq_empty _ _ (by simp) (by simp [hq])]
  refine ⟨by simp, ?_, pulse_sets _ _ _ (pgSP_page p.val).1 (by decide)⟩
  rw [rd_pulse _ _ _ _ _ _ (pgSP_page p.val).1 (noisy_rspTimeout p), rd_bump_same]
  rfl

/-! FENCE and ADMIT (R124). -/

theorem reEpoch_leaves (c : Chip) (p : Nat) : (c.reEpoch p).port p = c.port p ∧ (c.reEpoch p).sent = c.sent := by
  unfold Chip.reEpoch
  dsimp only
  split
  · exact ⟨rfl, rfl⟩
  · exact ⟨by simp, Chip.up_sent c _ _ _ _⟩

theorem armOnce_leaves (c : Chip) (p k : Nat) : (c.armOnce k).port p = c.port p ∧ (c.armOnce k).sent = c.sent := by
  unfold Chip.armOnce
  split <;> exact ⟨rfl, rfl⟩

theorem fenceSend_acts {n : BitVec 8} (hn : (s.chip.port p.val).fencing = some n) (hs : s.chip.fenceSlot p.val = true)
    (hlead : s.chip.portLeads p.val = true) (hc : (s.chip.port p.val).sentCmd = false ∨ (s.chip.port p.val).lastApply < s.chip.tick) :
    ∃ t, exec (.fenceSend p) s = .next t ∧ (t.chip.port p.val).epoch = n
      ∧ t.chip.sent = (s.chip.sendSe p.val 9 (fenceBody false n.toNat) false (some ((n.toNat + 255) % 256))).sent := by
  refine ⟨_, rfl, ?_⟩
  rw [State.onChip_chip, fenceSend]
  simp only [hn]
  rw [if_pos (by simpa [hs, hlead] using hc), (reEpoch_leaves _ p.val).1, (reEpoch_leaves _ p.val).2,
    (armOnce_leaves _ p.val _).1, (armOnce_leaves _ p.val _).2, Chip.modPort_port]
  exact ⟨rfl, rfl⟩

theorem admitSend_sends (ha : (s.chip.port p.val).admitting = true) (hlead : s.chip.portLeads p.val = true)
    (hp : s.chip.peerAdmit p.val = false) (hs : s.chip.fenceSlot p.val = true) :
    ∃ t, exec (.admitSend p) s = .next t ∧ t.chip.sent = (s.chip.sendSe p.val 9 (fenceBody true (s.chip.port p.val).epoch.toNat)).sent := by
  refine ⟨_, rfl, ?_⟩
  rw [State.onChip_chip, admitSend]
  rw [if_pos (by simp [ha, hlead]), if_neg (by simp [hp]), if_pos hs, (armOnce_leaves _ p.val _).2]

theorem admitSend_ends (ha : (s.chip.port p.val).admitting = true) (hlead : s.chip.portLeads p.val = true)
    (hp : s.chip.peerAdmit p.val = true) : ∃ t, exec (.admitSend p) s = .next t ∧ (t.chip.port p.val).admitting = false := by
  refine ⟨_, rfl, ?_⟩
  rw [State.onChip_chip, admitSend]
  rw [if_pos (by simp [ha, hlead]), if_pos hp, Chip.disarm_port, Chip.setPort_port]

theorem epochMismatch_acts (hd : s.chip.due (tmKey tmFence p.val) = true) (hf : (s.chip.port p.val).fencing.isSome = true) :
    ∃ t, exec (.epochMismatch p) s = .next t ∧ (t.chip.port p.val).fencing = none ∧ bitOf (t.chip.rd R.EVT_LATCH (pgSP p.val)) 6 = true := by
  refine ⟨_, rfl, ?_⟩
  have fence : (s.chip.due (tmKey tmFence p.val) && (s.chip.port p.val).fencing.isSome) = true := by simp [hd, hf]
  rw [State.onChip_chip, epochMismatch]
  dsimp only
  rw [if_pos (by simp [fence])]
  refine ⟨?_, pulse_sets _ _ _ (pgSP_page p.val).1 (by decide)⟩
  rw [if_pos fence, Chip.pulse_port]
  split <;> simp
end

/-- Settles O6, clause by clause. -/
theorem linkRequestCommandsAct : Obligations.LinkRequestCommandsAct :=
  ⟨fun _ _ _ _ _ _ => announceRx_acts, fun _ _ _ _ _ _ _ => cfgRspRx_acts, fun _ _ _ _ _ _ => sideUpRx_acts,
    fun _ _ _ => cfgRspTimeout_repeats, fun _ _ _ => cfgRspTimeout_abandons, fun _ _ => sidePendingPoll_acts, fun _ _ _ => fenceSend_acts,
    fun _ _ => admitSend_sends, fun _ _ => admitSend_ends, fun _ _ => epochMismatch_acts⟩

end Sys2Proof.Machine
end

section
/-! PROOFS. A stage end takes the frames that its links bring (R116, R120, R122, R123, R125, R127, R129 to R132, R154, R160). -/

namespace Sys2Proof.Machine

section
variable {s : StageEnd} {l : Link} {h : Hdr} {b : Bytes} {x : Nat}

/-! CMD (R116, R117, R123). -/

/-- A frame of this epoch on an admitted link, or any while the stage end holds no epoch, passes the check of R123. -/
theorem not_stale {p q : Bool} (hp : p = true → q = true) : ¬ (p && !q) = true := by
  cases p with
  | false => simp
  | true => simp [hp rfl]

theorem takeCmd_pends (he : s.epochValid = true → s.admitted l = true ∧ (cmdOf h b).epoch = s.epoch)
    (hw : s.window (cmdOf h b).applyTick.toNat h.seq = some x) (hok : s.cmdOk (cmdOf h b) = true) (hlen : (s.pend l).length < 4)
    (hfree : (s.pend l).any (fun y => y.applyTick == (cmdOf h b).applyTick) = false) :
    (s.takeCmd l h b).pend l = s.pend l ++ [cmdOf h b] := by
  unfold StageEnd.takeCmd
  dsimp only
  rw [if_neg (not_stale (by simpa using he)), hw]
  dsimp only
  rw [if_neg (by simp [hok, hfree, hlen])]
  cases l <;> rfl

/-! SYNC (R118, R120). -/

/-- A signed value and its bits are the same modulo 2^64. -/
theorem sgn_emod (v : Nat) : sgn 64 v % 2 ^ 64 = (v : Int) % 2 ^ 64 := by
  unfold sgn
  dsimp only
  split <;> omega

/-- Subtracting a Datum's signed error from it gives the time that the error was taken against. -/
theorem emod_sub_sgn (d x : Nat) : (((d : Int) - sgn 64 ((d + 2 ^ 64 - x % 2 ^ 64) % 2 ^ 64)) % 2 ^ 64).toNat = x % 2 ^ 64 := by
  have e := sgn_emod ((d + 2 ^ 64 - x % 2 ^ 64) % 2 ^ 64)
  generalize sgn 64 ((d + 2 ^ 64 - x % 2 ^ 64) % 2 ^ 64) = u at *
  omega

/-- The correction that a SYNC of time `t1` brings to the local Datum (R118, R120). -/
def StageEnd.syncCorr (s : StageEnd) (t1 delay : Nat) (step : Bool) (now : Nat) : Int :=
  let err : Int := sgn 64 ((s.datum + 2 ^ 64 - (t1 + delay) % 2 ^ 64) % 2 ^ 64)
  let lim : Int := (((now - s.slewAt.getD now) * 500 / 1000000 : Nat) : Int)
  if delay = 0 then 0 else if step && decide (400 < err.natAbs) then -err else max (-lim) (min lim (-err))

section
variable {lead step : Bool} {t1 delay now : Nat}

theorem followSync_datum : (s.followSync l lead t1 delay step now).datum
    = if s.follows l lead now then (((s.datum : Int) + s.syncCorr t1 delay step now) % 2 ^ 64).toNat else s.datum := by
  unfold StageEnd.followSync StageEnd.syncCorr
  dsimp only
  by_cases hf : s.follows l lead now = true
  · rw [if_pos hf, if_pos hf]
    cases lead <;> cases l <;> rfl
  · rw [if_neg hf, if_neg hf]
    cases lead <;> cases l <;> rfl

/-- A SYNC of a link that the stage end does not follow, or whose delay is not yet known, leaves its Datum. -/
theorem followSync_leaves (h : s.follows l lead now = false ∨ (delay = 0 ∧ s.datum < 2 ^ 64)) :
    (s.followSync l lead t1 delay step now).datum = s.datum := by
  rw [followSync_datum]
  obtain hf | ⟨rfl, hd⟩ := h
  · simp [hf]
  · have same : (((s.datum : Int) + s.syncCorr t1 0 step now) % 2 ^ 64).toNat = s.datum := by
      simp only [StageEnd.syncCorr, if_true]
      omega
    rw [same, ite_self]

/-- Where it may step, an error of more than 400 dq is corrected at once. -/
theorem followSync_steps (hf : s.follows l lead now = true) (hd : delay ≠ 0)
    (herr : 400 < (sgn 64 ((s.datum + 2 ^ 64 - (t1 + delay) % 2 ^ 64) % 2 ^ 64)).natAbs) :
    (s.followSync l lead t1 delay true now).datum = (t1 + delay) % 2 ^ 64 := by
  have corr : s.syncCorr t1 delay true now = -sgn 64 ((s.datum + 2 ^ 64 - (t1 + delay) % 2 ^ 64) % 2 ^ 64) := by
    unfold StageEnd.syncCorr
    dsimp only
    rw [if_neg hd, if_pos (by simpa using herr)]
  rw [followSync_datum, if_pos hf, corr]
  exact emod_sub_sgn s.datum (t1 + delay)
end

section
variable {now : Nat} (he : s.epochValid = true → h.epoch = s.epoch.toNat)
include he

theorem sync_not_stale : ¬ (s.epochValid && h.epoch != s.epoch.toNat) = true := not_stale (q := h.epoch == s.epoch.toNat) (by simpa using he)

/-- A SYNC of this epoch is followed, or discarded whole (R116, R129). -/
theorem takeSync_datum : (s.takeSync l h b now).datum = s.datum
    ∨ (s.takeSync l h b now).datum = (s.followSync l h.lead (leAt b 0 8) (leAt b 8 4) (bitOf (leAt b 14 1) 1) now).datum := by
  unfold StageEnd.takeSync
  rw [if_neg (sync_not_stale he)]
  dsimp only
  split
  · exact .inr rfl
  · split
    · exact .inl rfl
    · split
      · exact .inl rfl
      · exact .inr (StageEnd.respond_datum _ _ _ _ _)

/-- One that asks for no echo, or for one that can be sent, is followed. -/
theorem takeSync_follows (hr : bitOf (leAt b 14 1) 0 = false
      ∨ (s.window (leAt b 12 2) h.seq).any (fun x => !s.rsps.any (fun r => r.link == l && r.tick == x)) = true) :
    (s.takeSync l h b now).datum = (s.followSync l h.lead (leAt b 0 8) (leAt b 8 4) (bitOf (leAt b 14 1) 1) now).datum := by
  unfold StageEnd.takeSync
  rw [if_neg (sync_not_stale he)]
  dsimp only
  split
  · rfl
  · obtain ⟨x, hx, free⟩ : ∃ x, s.window (leAt b 12 2) h.seq = some x ∧ s.rsps.any (fun r => r.link == l && r.tick == x) = false := by
      have echo := hr.resolve_left (by simp_all)
      cases hx : s.window (leAt b 12 2) h.seq with
      | none => simp [hx] at echo
      | some x => exact ⟨x, rfl, by simpa [hx] using echo⟩
    rw [hx]
    dsimp only
    rw [if_neg (by simp [free]), StageEnd.respond_datum]

theorem takeSync_late (hecho : bitOf (leAt b 14 1) 0 = true) (hw : s.window (leAt b 12 2) h.seq = none) : s.takeSync l h b now = s.late := by
  unfold StageEnd.takeSync
  rw [if_neg (sync_not_stale he)]
  dsimp only
  rw [if_neg (by simp [hecho]), hw]
end

/-! Requests (R127 to R129). -/

section
variable (hw : s.window (leAt b 2 2) h.seq = some x) (hfree : s.rsps.any (fun r => r.link == l && r.tick == x) = false)
include hw hfree

/-- A request whose response tick is in the window and free is performed and answered. -/
theorem answer_performs (f : StageEnd → Nat × Nat × Nat × StageEnd) : s.answer l h b f
    = (f s).2.2.2.respond l x 3 (rspBody (leAt b 0 1 % 16) (leAt b 0 1 / 16) (f s).1 h.seq (leAt b 4 2) (leAt b 6 1 % 4) (f s).2.1 (f s).2.2.1) := by
  unfold StageEnd.answer
  rw [hw]
  dsimp only
  rw [if_neg (by simp [hfree])]

theorem takePoll_empty (he : s.cfgEpoch h = true) (hs : s.sideUp = []) : (s.takePoll l h b).rsps
    = s.rsps ++ [{ link := l, tick := x, typ := 3, body := rspBody 0 (leAt b 0 1 / 16) 0 h.seq (leAt b 4 2) 0 0 0 }] := by
  unfold StageEnd.takePoll
  rw [if_neg (by simp [he]), hw]
  dsimp only
  rw [if_neg (by simp [hfree]), hs]
  exact s.respond_queued l x 3 _ hfree

theorem takeIdent_answers (he : s.cfgEpoch h = true) :
    (s.takeIdent l h b).rsps = s.rsps ++ [{ link := l, tick := x, typ := 7, body := announceBody s.ident }] := by
  unfold StageEnd.takeIdent
  rw [if_neg (by simp [he]), hw]
  exact s.respond_queued l x 7 _ hfree

/-- A READ of one word that exists. -/
theorem takeRead_answers (he : s.cfgEpoch h = true) (hop : leAt b 0 1 % 16 = 1) (hn : leAt b 6 1 % 4 = 1)
    (ha : seExists s.ident (leAt b 4 2) = true) :
    (s.takeRead l h b).rsps = s.rsps
      ++ [{ link := l, tick := x, typ := 3, body := rspBody 1 (leAt b 0 1 / 16) 0 h.seq (leAt b 4 2) 1 (s.readWord (leAt b 4 2)) 0 }] := by
  unfold StageEnd.takeRead
  rw [if_neg (by simp [he]), answer_performs hw hfree]
  simp only [hn, hop, ha]
  exact s.respond_queued l x 3 _ hfree

/-- A WRITE of one word is performed, from an admitted link, with LEAD, on a word that takes the value, and clears a latch of the power
path only while stopped (R123, R127, R154). -/
theorem takeWrite_performs (still : Bool) (he : s.cfgEpoch h = true) (hadm : s.epochValid = true → s.admitted l = true) (hlead : h.lead = true)
    (hn : leAt b 6 1 % 4 = 1) (hv : seWritable s.ident (leAt b 4 2) (leAt b 8 4) = true)
    (hclr : leAt b 4 2 = 1 → s.cmd.mode = 0 ∨ (bitOf (leAt b 8 4) 0 = false ∧ bitOf (leAt b 8 4) 1 = false)) :
    ∃ body, s.takeWrite l h b still = (s.putWord (leAt b 4 2) (leAt b 8 4) still).respond l x 3 body := by
  have guard : ¬ (!s.cfgEpoch h || (s.epochValid && !s.admitted l)) = true := by
    cases hs : s.epochValid with
    | false => simp [he]
    | true => simp [he, hadm hs]
  have clears : ((leAt b 4 2 == 1 && (bitOf (leAt b 8 4) 0 || bitOf (leAt b 8 4) 1)) && s.cmd.mode != 0) = false := by
    by_cases ha : leAt b 4 2 = 1
    · obtain hm | ⟨h0, h1⟩ := hclr ha
      · simp [hm]
      · simp [h0, h1]
    · simp [ha]
  refine ⟨rspBody (leAt b 0 1 % 16) (leAt b 0 1 / 16) 0 h.seq (leAt b 4 2) 1 0 0, ?_⟩
  unfold StageEnd.takeWrite
  rw [if_neg guard, answer_performs hw hfree]
  simp only [hn, hlead, hv, clears, beq_self_eq_true, Bool.true_or, Bool.and_true, Bool.not_true, Bool.false_eq_true, if_false, OfNat.one_ne_ofNat,
    one_ne_zero, Nat.reduceBEq, Bool.false_and, Bool.or_false]

/-- A SIDE_DN fragment that ends its message, from the LEAD, while the relay is idle (R130). -/
theorem takeSide_ends (he : s.epochValid = true → s.admitted l = true ∧ h.epoch = s.epoch.toNat) (hlead : h.lead = true)
    (hn : leAt b 0 1 % 16 ≠ 0) (h12 : leAt b 0 1 % 16 ≤ 12) (h4 : s.sideDn.length < 4) (htx : s.sideTx = none)
    (hm : bitOf (leAt b 0 1) 4 = false) :
    (s.takeSide l h b).sideTx = some (s.sideDn ++ [sliceBytes b 4 (leAt b 0 1 % 16)]).flatten ∧ (s.takeSide l h b).sideDn = [] := by
  have guard : ¬ (s.epochValid && (!(s.admitted l) || h.epoch != s.epoch.toNat)) = true := by
    cases hs : s.epochValid with
    | false => simp
    | true => simp [he hs]
  unfold StageEnd.takeSide
  rw [if_neg guard, hw]
  dsimp only
  rw [if_neg (by simp [hfree]), if_neg (by simp [hlead]), if_neg (by omega), if_neg hn, if_neg (by simp [htx]), if_neg (by simp [hm])]
  exact ⟨StageEnd.respond_sideTx _ _ _ _ _, StageEnd.respond_sideDn _ _ _ _ _⟩
end

/-! Words (R154, R160, R161). -/

section
variable {w v : Nat} {still : Bool}

theorem putWord_waits (h1 : w ≠ 1) (hw : w = 4 ∨ (0x10 ≤ w ∧ w < 0x50)) :
    (s.putWord w v still).envNew = s.envNew ++ [(s.tick, w, BitVec.ofNat 32 (v &&& seMask w))] := by
  unfold StageEnd.putWord
  rw [if_neg h1, if_pos hw]

theorem putWord_words (h1 : w ≠ 1) (hw : ¬ (w = 4 ∨ (0x10 ≤ w ∧ w < 0x50))) :
    (s.putWord w v still).words = mapSet s.words w (BitVec.ofNat 32 (v &&& seMask w)) := by
  unfold StageEnd.putWord
  rw [if_neg h1, if_neg hw]

theorem putWord_clears : s.putWord 1 v still = { s with
    fastTrip := if bitOf v 0 then still && s.fastTrip else s.fastTrip
    crowbar := if bitOf v 1 then still && s.crowbar else s.crowbar
    localFault := if bitOf v 2 then false else s.localFault } := by
  unfold StageEnd.putWord
  cases bitOf v 0 <;> cases bitOf v 1 <;> cases bitOf v 2 <;> rfl
end

end
end Sys2Proof.Machine
end

section
/-! PROOFS. The rows of the frames that a stage end takes (R100, R103, R105). -/

namespace Sys2Proof.Machine

/-- A stage end with other receivers. -/
def StageEnd.withRx (s : StageEnd) (a b : LinkRx) : StageEnd := { s with rxA := a, rxB := b }

section
variable {c : Chip} {p : Port} {l : Link} {f : Frame} (hp : (c.stage p.val).powered = true) (hok : frameOk f = true)
include hp hok

/-- A good frame of the wanted type is handled; beside that, only the receivers change. -/
theorem stage_seReceive {want : Nat} {h : Hdr → Bytes → StageEnd → StageEnd} {g : StageEnd → StageEnd} (ht : (hdrOf f.bytes).typ = want)
    (hg : ∀ s, h (hdrOf f.bytes) (bodyOf f) s = g s) (hd : downType want = true := by decide) :
    ∃ a b, (seReceive c p.val l f want h).stage p.val = g ((c.stage p.val).withRx a b) := by
  refine ⟨((c.stage p.val).rxFrame l f c.now).rxA, ((c.stage p.val).rxFrame l f c.now).rxB, ?_⟩
  rw [seReceive_takes c p.val l f want h hp hok ht hd, Chip.setStage_stage, hg]
  cases l <;> rfl

theorem seCmdRx_stage (ht : (hdrOf f.bytes).typ = 2) :
    ∃ a b, (seCmdRx c p l f).stage p.val = ((c.stage p.val).withRx a b).takeCmd l (hdrOf f.bytes) (bodyOf f) :=
  stage_seReceive (g := (·.takeCmd l (hdrOf f.bytes) (bodyOf f))) hp hok ht fun _ => rfl

theorem seSyncRx_stage (ht : (hdrOf f.bytes).typ = 8) :
    ∃ a b, (seSyncRx c p l f).stage p.val = ((c.stage p.val).withRx a b).takeSync l (hdrOf f.bytes) (bodyOf f) c.now :=
  stage_seReceive (g := (·.takeSync l (hdrOf f.bytes) (bodyOf f) c.now)) hp hok ht fun _ => rfl

theorem seFenceRx_stage (ht : (hdrOf f.bytes).typ = 9) :
    ∃ a b, (seFenceRx c p l f).stage p.val = ((c.stage p.val).withRx a b).takeFence l (hdrOf f.bytes) (bodyOf f) :=
  stage_seReceive (g := (·.takeFence l (hdrOf f.bytes) (bodyOf f))) hp hok ht fun _ => rfl

theorem seSideRx_stage (ht : (hdrOf f.bytes).typ = 6) :
    ∃ a b, (seSideRx c p l f).stage p.val = ((c.stage p.val).withRx a b).takeSide l (hdrOf f.bytes) (bodyOf f) :=
  stage_seReceive (g := (·.takeSide l (hdrOf f.bytes) (bodyOf f))) hp hok ht fun _ => rfl

section
variable (ht : (hdrOf f.bytes).typ = 4)
include ht

theorem seCfgPoll_stage (hop : leAt (bodyOf f) 0 1 % 16 = 0) :
    ∃ a b, (seCfgPoll c p l f).stage p.val = ((c.stage p.val).withRx a b).takePoll l (hdrOf f.bytes) (bodyOf f) :=
  stage_seReceive (g := (·.takePoll l (hdrOf f.bytes) (bodyOf f))) hp hok ht fun _ => if_pos hop

theorem seCfgRead_stage (hop : leAt (bodyOf f) 0 1 % 16 = 1) :
    ∃ a b, (seCfgRead c p l f).stage p.val = ((c.stage p.val).withRx a b).takeRead l (hdrOf f.bytes) (bodyOf f) :=
  stage_seReceive (g := (·.takeRead l (hdrOf f.bytes) (bodyOf f))) hp hok ht fun _ => if_pos hop

theorem seCfgIdent_stage (hop : leAt (bodyOf f) 0 1 % 16 = 3) :
    ∃ a b, (seCfgIdent c p l f).stage p.val = ((c.stage p.val).withRx a b).takeIdent l (hdrOf f.bytes) (bodyOf f) :=
  stage_seReceive (g := (·.takeIdent l (hdrOf f.bytes) (bodyOf f))) hp hok ht fun _ => if_pos hop

/-- A WRITE of one word, but for SE_CLEAR, clears no latch. -/
theorem seCfgWrite_stage (hop : leAt (bodyOf f) 0 1 % 16 = 2) (hn : leAt (bodyOf f) 6 1 % 4 = 1) (hw : leAt (bodyOf f) 4 2 ≠ 1) :
    ∃ a b, (seCfgWrite c p l f).stage p.val = ((c.stage p.val).withRx a b).takeWrite l (hdrOf f.bytes) (bodyOf f) false :=
  have clear : ∀ bit, cfgCovers (bodyOf f) 1 bit = false := fun bit => by simp [cfgCovers, hn, hw]
  stage_seReceive (g := (·.takeWrite l (hdrOf f.bytes) (bodyOf f) false)) hp hok ht fun _ =>
    if_pos ⟨hop, by simp [clear], by simp [clear], by simp [clear]⟩

/-- A WRITE of a bit of SE_CLEAR. -/
theorem seClear_stage {bit : Nat} {still : Bool} (hop : leAt (bodyOf f) 0 1 % 16 = 2) (hn : leAt (bodyOf f) 6 1 % 4 = 1)
    (hw : leAt (bodyOf f) 4 2 = 1) (hb : bitOf (leAt (bodyOf f) 8 4) bit = true) :
    ∃ a b, (seClear c p l f bit still).stage p.val = ((c.stage p.val).withRx a b).takeWrite l (hdrOf f.bytes) (bodyOf f) still :=
  stage_seReceive (g := (·.takeWrite l (hdrOf f.bytes) (bodyOf f) still)) hp hok ht fun _ => if_pos ⟨hop, by simp [cfgCovers, hn, hw, hb]⟩
end
end

/-- A WRITE to SE_CLEAR is performed: its latches are cleared as their conditions allow (R154). -/
theorem takeWrite_clears {s : StageEnd} {l : Link} {h : Hdr} {b : Bytes} {x : Nat} {still : Bool} (hw : s.window (leAt b 2 2) h.seq = some x)
    (hfree : s.rsps.any (fun r => r.link == l && r.tick == x) = false) (he : s.cfgEpoch h = true)
    (hadm : s.epochValid = true → s.admitted l = true) (hlead : h.lead = true) (hn : leAt b 6 1 % 4 = 1) (ha : leAt b 4 2 = 1)
    (hclr : s.cmd.mode = 0 ∨ (bitOf (leAt b 8 4) 0 = false ∧ bitOf (leAt b 8 4) 1 = false)) :
    (s.takeWrite l h b still).fastTrip = (if bitOf (leAt b 8 4) 0 then still && s.fastTrip else s.fastTrip)
      ∧ (s.takeWrite l h b still).crowbar = (if bitOf (leAt b 8 4) 1 then still && s.crowbar else s.crowbar)
      ∧ (s.takeWrite l h b still).localFault = (if bitOf (leAt b 8 4) 2 then false else s.localFault) := by
  have writable : seWritable s.ident (leAt b 4 2) (leAt b 8 4) = true := by simp [seWritable, seExists, ha]
  obtain ⟨body, performed⟩ := takeWrite_performs hw hfree still he hadm hlead hn writable fun _ => hclr
  rw [performed, ha, putWord_clears]
  exact ⟨StageEnd.respond_fastTrip _ _ _ _ _, StageEnd.respond_crowbar _ _ _ _ _, StageEnd.respond_localFault _ _ _ _ _⟩

/-- Settles O3, frame by frame. -/
theorem stageEndFramesAct : Obligations.StageEndFramesAct := by
  refine ⟨?cmd, ?syncSteps, ?syncLeaves, ?syncLate, ?fence, ?fenceStale, ?poll, ?read, ?write,
    ?clearTrip, ?clearCrowbar, ?clearFault, ?ident, ?side⟩
  case cmd =>
    intro s p l f x hp hok ht he hw hcmd hlen hfree
    obtain ⟨a, b, got⟩ := seCmdRx_stage (l := l) hp hok ht
    exact ⟨_, rfl, (congrArg (·.pend l) got).trans (takeCmd_pends (s := (s.chip.stage p.val).withRx a b) he hw hcmd hlen hfree)⟩
  case syncSteps =>
    intro s p l f hp hok ht he hf hr hd hstep herr
    obtain ⟨a, b, got⟩ := seSyncRx_stage (l := l) hp hok ht
    refine ⟨_, rfl, (congrArg (·.datum) got).trans ((takeSync_follows (s := (s.chip.stage p.val).withRx a b) he hr).trans ?_)⟩
    rw [hstep]
    exact followSync_steps (s := (s.chip.stage p.val).withRx a b) hf hd herr
  case syncLeaves =>
    intro s p l f hp hok ht he hf
    obtain ⟨a, b, got⟩ := seSyncRx_stage (l := l) hp hok ht
    exact ⟨_, rfl, (congrArg (·.datum) got).trans ((takeSync_datum (s := (s.chip.stage p.val).withRx a b) he).elim id
      fun followed => followed.trans (followSync_leaves (s := (s.chip.stage p.val).withRx a b) hf))⟩
  case syncLate =>
    intro s p l f hp hok ht he hecho hw
    obtain ⟨a, b, got⟩ := seSyncRx_stage (l := l) hp hok ht
    have late := got.trans (takeSync_late (s := (s.chip.stage p.val).withRx a b) he hecho hw)
    exact ⟨_, rfl, congrArg (·.cntLate) late, congrArg (·.datum) late, congrArg (·.rsps) late⟩
  case fence =>
    intro s p l f hp hok ht hlead
    obtain ⟨a, b, got⟩ := seFenceRx_stage (l := l) hp hok ht
    exact ⟨_, rfl, congrArg (·.fences) (got.trans (if_neg (by simp [hlead])))⟩
  case fenceStale =>
    intro s p l f hp hok ht hlead
    obtain ⟨a, b, got⟩ := seFenceRx_stage (l := l) hp hok ht
    have stale := got.trans (if_pos (by simp [hlead]))
    exact ⟨_, rfl, congrArg (·.cntStale) stale, congrArg (·.fences) stale⟩
  case poll =>
    intro s p l f x hp hok ht he hw hfree hop hs
    obtain ⟨a, b, got⟩ := seCfgPoll_stage (l := l) hp hok ht hop
    exact ⟨_, rfl, (congrArg (·.rsps) got).trans (takePoll_empty (s := (s.chip.stage p.val).withRx a b) hw hfree he hs)⟩
  case read =>
    intro s p l f x hp hok ht he hw hfree hop hn ha
    obtain ⟨a, b, got⟩ := seCfgRead_stage (l := l) hp hok ht hop
    exact ⟨_, rfl, (congrArg (·.rsps) got).trans (takeRead_answers (s := (s.chip.stage p.val).withRx a b) hw hfree he hop hn ha)⟩
  case write =>
    intro s p l f x hp hok ht he hw hfree hop hadm hlead hn ha hv
    obtain ⟨a, b, got⟩ := seCfgWrite_stage (l := l) hp hok ht hop hn ha
    obtain ⟨body, performed⟩ := takeWrite_performs (s := (s.chip.stage p.val).withRx a b) hw hfree false he hadm hlead hn hv fun h => absurd h ha
    have written := got.trans performed
    refine ⟨_, rfl, ?_⟩
    split
    case isTrue waits => exact (congrArg (·.envNew) written).trans ((StageEnd.respond_envNew _ _ _ _ _).trans (putWord_waits ha waits))
    case isFalse atOnce => exact (congrArg (·.words) written).trans ((StageEnd.respond_words _ _ _ _ _).trans (putWord_words ha atOnce))
  case clearTrip =>
    intro s p l f still x hp hok ht he hw hfree hop hadm hlead hn ha hb hm
    obtain ⟨a, b, got⟩ := seClear_stage (l := l) (still := still) hp hok ht hop hn ha hb
    obtain ⟨trip, -, -⟩ := takeWrite_clears (s := (s.chip.stage p.val).withRx a b) hw hfree he hadm hlead hn ha (.inl hm)
    exact ⟨_, rfl, (congrArg (·.fastTrip) got).trans (trip.trans (if_pos hb))⟩
  case clearCrowbar =>
    intro s p l f still x hp hok ht he hw hfree hop hadm hlead hn ha hb hm
    obtain ⟨a, b, got⟩ := seClear_stage (l := l) (still := still) hp hok ht hop hn ha hb
    obtain ⟨-, crowbar, -⟩ := takeWrite_clears (s := (s.chip.stage p.val).withRx a b) hw hfree he hadm hlead hn ha (.inl hm)
    exact ⟨_, rfl, (congrArg (·.crowbar) got).trans (crowbar.trans (if_pos hb))⟩
  case clearFault =>
    intro s p l f x hp hok ht he hw hfree hop hadm hlead hn ha hb hm
    obtain ⟨a, b, got⟩ := seClear_stage (l := l) (still := false) hp hok ht hop hn ha hb
    obtain ⟨-, -, fault⟩ := takeWrite_clears (s := (s.chip.stage p.val).withRx a b) hw hfree he hadm hlead hn ha hm
    exact ⟨_, rfl, (congrArg (·.localFault) got).trans (fault.trans (if_pos hb))⟩
  case ident =>
    intro s p l f x hp hok ht he hw hfree hop
    obtain ⟨a, b, got⟩ := seCfgIdent_stage (l := l) hp hok ht hop
    exact ⟨_, rfl, (congrArg (·.rsps) got).trans (takeIdent_answers (s := (s.chip.stage p.val).withRx a b) hw hfree he)⟩
  case side =>
    intro s p l f x hp hok ht he hw hfree hlead hn h12 h4 htx hm
    obtain ⟨a, b, got⟩ := seSideRx_stage (l := l) hp hok ht
    obtain ⟨tx, dn⟩ := takeSide_ends (s := (s.chip.stage p.val).withRx a b) hw hfree he hlead hn h12 h4 htx hm
    exact ⟨_, rfl, (congrArg (·.sideTx) got).trans tx, (congrArg (·.sideDn) got).trans dn⟩

end Sys2Proof.Machine
end

section
/-! SUPPORT. Updates of images: the FWU page follows the slots and the operation in hand, and the mailbox carries a request (R471, R489, R494,
R504). -/

namespace Sys2Proof.Machine

/-- A quiet change leaves of the endpoint all but the pending vectors. -/
theorem Quiet.host {c d : Chip} (h : Quiet c d) : d.host = { c.host with pba := d.host.pba } := by
  obtain ⟨_, _, _, _, _, _, rfl⟩ := h
  rfl

section
variable (c : Chip)

theorem quiet_fwuShow : Quiet c c.fwuShow := by
  unfold Chip.fwuShow
  exact .ite (.refl c) (quiet_hw c _ _)

theorem quiet_fwuOp (v : Nat) : Quiet c (c.fwuOp v) := by
  unfold Chip.fwuOp
  exact .ite (.refl c) (quiet_up c _ _ _ _)

theorem quiet_fwuEnd (r : Nat) : Quiet c (c.fwuEnd r) := ((quiet_up c _ _ _ _).trans (quiet_fwuOp _ 0)).trans (quiet_pulse _ _ _)

theorem quiet_putResultCode (r : Nat) : Quiet c (c.putResultCode r) := by
  unfold Chip.putResultCode
  exact .ite (.refl c) (quiet_up c _ _ _ _)

theorem quiet_reBusy : Quiet c c.reBusy := by
  unfold Chip.reBusy
  exact .ite (.refl c) (quiet_up c _ _ _ _)

theorem quiet_tellTurn (ok : Bool) : Quiet c (c.tellTurn ok) := by
  unfold Chip.tellTurn
  exact .ite (quiet_send c _) (.refl c)

/-! The operation in hand and the last result (R504). -/

theorem rd_fwuOp_ne (v : Nat) (f : Fld) (b i : Nat) (hn : noisy (fldKey f b i) = false)
    (hne : fldKey f b i ≠ fldKey R.FWU_OP pgFWU 0) : (c.fwuOp v).rd f b i = c.rd f b i := by
  unfold Chip.fwuOp
  split
  · rfl
  · exact up_stands c _ _ _ _ (by decide) hn hne _

theorem fwuOp_op {v : Nat} (hv : v < 16) : (c.fwuOp v).rd R.FWU_OP pgFWU = v := by
  unfold Chip.fwuOp
  split
  · assumption
  · exact (rd_up_same _ _ _ _ _ (by decide) (by decide)).trans (Nat.mod_eq_of_lt hv)

theorem fwuEnd_op (r : Nat) : (c.fwuEnd r).rd R.FWU_OP pgFWU = 0 :=
  (rd_pulse _ _ _ _ _ _ (by decide) (by decide)).trans (fwuOp_op _ (by decide))

theorem fwuEnd_result {r : Nat} (hr : r < 16) : (c.fwuEnd r).rd R.FWU_RESULT pgFWU = r := by
  rw [Chip.fwuEnd, rd_pulse _ _ _ _ _ _ (by decide) (by decide), rd_fwuOp_ne _ _ _ _ _ (by decide) (by decide),
    rd_up_same _ _ _ _ _ (by decide) (by decide)]
  exact Nat.mod_eq_of_lt hr

theorem rd_fwuEnd_ne (r : Nat) (f : Fld) (b i : Nat) (hn : noisy (fldKey f b i) = false) (hop : fldKey f b i ≠ fldKey R.FWU_OP pgFWU 0)
    (hres : fldKey f b i ≠ fldKey R.FWU_RESULT pgFWU 0) : (c.fwuEnd r).rd f b i = c.rd f b i := by
  rw [Chip.fwuEnd, rd_pulse _ _ _ _ _ _ (by decide) hn, rd_fwuOp_ne _ _ _ _ _ hn hop]
  exact up_stands c _ _ _ _ (by decide) hn hres _

theorem rd_putResultCode_ne (r : Nat) (f : Fld) (b i : Nat) (hn : noisy (fldKey f b i) = false)
    (hne : fldKey f b i ≠ fldKey R.FWU_RESULT pgFWU 0) : (c.putResultCode r).rd f b i = c.rd f b i := by
  unfold Chip.putResultCode
  split
  · rfl
  · exact up_stands c _ _ _ _ (by decide) hn hne _

theorem putResultCode_result {r : Nat} (hr : r < 16) : (c.putResultCode r).rd R.FWU_RESULT pgFWU = r := by
  unfold Chip.putResultCode
  split
  · assumption
  · exact (rd_up_same _ _ _ _ _ (by decide) (by decide)).trans (Nat.mod_eq_of_lt hr)

theorem rd_tellTurn (ok : Bool) (f : Fld) (b i : Nat) : (c.tellTurn ok).rd f b i = c.rd f b i := by
  unfold Chip.tellTurn
  split
  · exact Chip.send_rd c _ f b i
  · rfl

/-! Containers are checked (R489). -/

theorem quiet_ctVerify (b : Bytes) : Quiet c (c.ctVerify b).1 := by
  unfold Chip.ctVerify
  split
  · exact (quiet_bump c _ _ _ _).trans (quiet_pulse _ _ _)
  · exact .refl c

theorem quiet_ctVerifyAll (bs : List Bytes) (r : Option Nat) : Quiet c (c.ctVerifyAll bs r).1 := by
  induction bs generalizing c r with
  | nil => exact .refl c
  | cons b bs ih => exact (quiet_ctVerify c b).trans (ih _ _)

/-- A container that is refused is refused with a code other than OK. -/
theorem ctVerify_code (b : Bytes) : (c.ctVerify b).2 ≠ some 0 := by
  have code : c.ctCheck b ≠ some 0 := by
    unfold Chip.ctCheck
    split_ifs <;> simp
  unfold Chip.ctVerify
  split
  case h_1 k hk => exact hk ▸ code
  case h_2 => nofun

theorem ctVerifyAll_code (bs : List Bytes) {r : Option Nat} (hr : r ≠ some 0) : (c.ctVerifyAll bs r).2 ≠ some 0 := by
  induction bs generalizing c r with
  | nil => exact hr
  | cons b bs ih =>
    refine ih _ ?_
    cases r with
    | none => exact ctVerify_code c b
    | some x => exact hr

/-! A request is served (R471, R494). -/

/-- A command that is forwarded changes the mailbox and what was sent. -/
theorem toTwin_keeps (cmd : Nat) (b : Bytes) : (c.toTwin cmd b).fwu = c.fwu ∧ (c.toTwin cmd b).flash = c.flash
    ∧ (c.toTwin cmd b).mram = c.mram ∧ (c.toTwin cmd b).regs = c.regs := by
  unfold Chip.toTwin
  split <;> simp

/-- `t` is `d` once a request has been served with result `r`, as far as the update state, the flash, MRAM and the registers go. -/
structure ServedAs (d : Chip) (r : Nat) (t : Chip) : Prop where
  fwu : t.fwu = d.fwu
  flash : t.flash = d.flash
  mram : t.mram = d.mram
  served : t.host.served = true
  result : t.host.mbResult = r
  code : r < 16 → t.rd R.FWU_RESULT pgFWU = r
  rd : ∀ f b i, noisy (fldKey f b i) = false → fldKey f b i ≠ fldKey R.FWU_RESULT pgFWU 0 → t.rd f b i = d.rd f b i

section
variable {c} {cmd r : Nat} {b : Bytes} {d : Chip} (h : c.mbRequest cmd = some b) (hc : c.imageCmd cmd b = (d, r))
include h hc

theorem imageServe_eq : imageServe c cmd = if (c.paired && twinFirst cmd && r == 0) = true then (c.toTwin cmd b).mbServed 0
    else ((if r = 6 ∨ twinFirst cmd = true then d else d.toTwin cmd b).putResultCode r).mbServed r := by
  simp only [imageServe, h, hc]

/-- A request that is carried out at once: the chip alone, or a command that the twin is not asked about first, or a refusal. -/
theorem imageServe_servedAs (hn : c.paired = false ∨ twinFirst cmd = false ∨ r ≠ 0) : ServedAs d r (imageServe c cmd) := by
  have atOnce : ¬ (c.paired && twinFirst cmd && r == 0) = true := by
    rcases hn with hn | hn | hn <;> simp [hn]
  rw [imageServe_eq h hc, if_neg atOnce]
  set e := if r = 6 ∨ twinFirst cmd = true then d else d.toTwin cmd b with he
  have keeps : e.fwu = d.fwu ∧ e.flash = d.flash ∧ e.mram = d.mram ∧ e.regs = d.regs := by
    rw [he]
    split
    · exact ⟨rfl, rfl, rfl, rfl⟩
    · exact toTwin_keeps d cmd b
  obtain ⟨hfwu, hflash, hmram, hregs⟩ := keeps
  have q := quiet_putResultCode e r
  exact ⟨q.fwu.trans hfwu, q.flash.trans hflash, q.mram.trans hmram, rfl, rfl, fun hr => putResultCode_result e hr,
    fun f a i hne hres => (rd_putResultCode_ne e r f a i hne hres).trans (congrArg (fun m => mapGet m _ _) hregs)⟩
end

/-- In a pair, a command that either twin may refuse goes to the twin before anything is done here. -/
theorem imageServe_waits {cmd : Nat} {b : Bytes} {d : Chip} (h : c.mbRequest cmd = some b) (hc : c.imageCmd cmd b = (d, 0))
    (hp : c.paired = true) (ht : twinFirst cmd = true) :
    (imageServe c cmd).host.served = true ∧ (imageServe c cmd).host.awaitTwin = true ∧ (imageServe c cmd).host.mbResult = 0
      ∧ (imageServe c cmd).fwu = c.fwu ∧ (imageServe c cmd).mram = c.mram
      ∧ (imageServe c cmd).sent = (c.send (.chain (.mirror (.image cmd b)))).sent := by
  rw [imageServe_eq h hc, if_pos (by simp [hp, ht]), Chip.toTwin, if_pos hp]
  exact ⟨rfl, rfl, rfl, Chip.send_fwu c _, Chip.send_mram c _, rfl⟩
end

end Sys2Proof.Machine
end

section
/-! PROOFS. Requests of the mailbox: staging, activation, the kernel swap, the fuses and the configuration (R471, R485, R494, R495, R500, R501). -/

namespace Sys2Proof.Machine

/-! What a command of the mailbox does in one twin (R494). -/

section
variable {c : Chip} {b : Bytes} (hb : c.fwuBusy = false) (hw : c.takesWork pgFWU = true)

section
include hb hw

theorem imageCmd_stageBegin : c.imageCmd 0x101 b = c.stageBegin := by simp [Chip.imageCmd, hb, hw]
theorem imageCmd_stageData : c.imageCmd 0x102 b = c.stageData b := by simp [Chip.imageCmd, hb, hw]
theorem imageCmd_stageEnd : c.imageCmd 0x103 b = c.stageEnd := by simp [Chip.imageCmd, hb, hw]
theorem imageCmd_promote : c.imageCmd 0x106 b = c.promote := by simp [Chip.imageCmd, hb, hw]
theorem imageCmd_raiseSvn : c.imageCmd 0x107 b = c.raiseSvn b := by simp [Chip.imageCmd, hb, hw]

theorem imageCmd_activate (hr : c.activateRefuse (leAt b 0 1) = none) :
    c.imageCmd 0x104 b = (c.activateBegin (leAt b 0 1) (if c.paired && c.leads then 0 else 1), 0) := by
  simp [Chip.imageCmd, hb, hw, hr]

theorem imageCmd_activateRefused {n : Nat} (hr : c.activateRefuse (leAt b 0 1) = some n) : c.imageCmd 0x104 b = (c, n) := by
  simp [Chip.imageCmd, hb, hw, hr]

theorem imageCmd_swap (hr : c.swapRefuse = none) : c.imageCmd 0x105 b = (c.swapBegin, 0) := by simp [Chip.imageCmd, hb, hw, hr]
end

theorem stageBegin_erases : c.stageBegin.1.flash = { c.flash with image := [], staged := [], pending := false, rejected := false }
    ∧ c.stageBegin.1.fwu = { c.fwu with staging := true } :=
  have q := (quiet_fwuShow ((c.modFlash (fun f => { f with image := [], staged := [], pending := false, rejected := false })).modFwu
    (fun f => { f with staging := true }))).trans (quiet_fwuOp _ 1)
  ⟨q.flash, q.fwu⟩

theorem stageData_fits (hl : leAt b 0 4 + (b.drop 4).length ≤ 32 * 2 ^ 20) : c.stageData b = (c.program (leAt b 0 4) (b.drop 4), 0) := by
  unfold Chip.stageData
  exact if_pos hl

theorem stageData_beyond (hl : 32 * 2 ^ 20 < leAt b 0 4 + (b.drop 4).length) : c.stageData b = (c, 1) := by
  unfold Chip.stageData
  exact if_neg (Nat.not_le.mpr hl)

/-- The result of STAGE_END: the code of the first container refused, or FORMAT where the slot may not hold them (R487, R489). -/
def Chip.stageCode (c : Chip) : Nat :=
  match (c.ctVerifyAll (c.stagedParse 0 5) none).2 with
  | some k => k
  | none => if ctFits (c.stagedParse 0 5) then 0 else 1

/-- The chip after STAGE_END: what the slot holds is pending where it was not refused. -/
def Chip.stageEnded (c : Chip) : Chip :=
  ((((c.ctVerifyAll (c.stagedParse 0 5) none).1.modFwu (fun f => { f with staging := false })).modFlash (fun f =>
    if c.stageCode = 0 then { f with staged := c.stagedParse 0 5, pending := true, rejected := false }
    else { f with staged := [], pending := false })).fwuShow).fwuEnd c.stageCode

theorem stageEnd_eq (c : Chip) : c.stageEnd = (c.stageEnded, c.stageCode) := by
  rcases hv : c.ctVerifyAll (c.stagedParse 0 5) none with ⟨d, _ | k⟩
  · simp only [Chip.stageEnd, Chip.stageEnded, Chip.stageCode, hv]
  · simp only [Chip.stageEnd, Chip.stageEnded, Chip.stageCode, hv]

theorem stageEnded_marks (c : Chip) : c.stageEnded.fwu = { c.fwu with staging := false }
    ∧ c.stageEnded.flash = if c.stageCode = 0 then { c.flash with staged := c.stagedParse 0 5, pending := true, rejected := false }
      else { c.flash with staged := [], pending := false } := by
  have checked := quiet_ctVerifyAll c (c.stagedParse 0 5) none
  have shown (d : Chip) : Quiet d ((d.fwuShow).fwuEnd c.stageCode) := (quiet_fwuShow d).trans (quiet_fwuEnd _ _)
  refine ⟨(shown _).fwu.trans ?_, (shown _).flash.trans ?_⟩
  · simp [checked.fwu]
  · simp [checked.flash]

/-- GOLDEN becomes what ACTIVE holds, where that verifies and is complete (R494). -/
theorem promote_golden (c : Chip) : c.promote.1.flash.golden
    = if (c.ctVerifyAll c.flash.active none).2 = none ∧ ctComplete c.flash.active = true then c.flash.active else c.flash.golden := by
  have checked := quiet_ctVerifyAll c c.flash.active none
  have code := ctVerifyAll_code c c.flash.active (r := none) nofun
  unfold Chip.promote
  generalize c.ctVerifyAll c.flash.active none = v at checked code ⊢
  obtain ⟨d, r⟩ := v
  have copied : (d.modFlash (fun f => { f with golden := f.active })).fwuShow.flash.golden = c.flash.active :=
    (congrArg FlashSt.golden (quiet_fwuShow _).flash).trans (congrArg FlashSt.active checked.flash)
  have left : d.flash.golden = c.flash.golden := congrArg FlashSt.golden checked.flash
  refine (congrArg FlashSt.golden (quiet_fwuEnd _ _).flash).trans ?_
  cases r with
  | some k =>
    have hk : k ≠ 0 := fun h => code (congrArg some h)
    simpa [hk] using left
  | none =>
    cases hcomplete : ctComplete c.flash.active with
    | true => simpa [hcomplete] using copied
    | false => simpa [hcomplete] using left

theorem raiseSvn_raises (hlo : c.mram.svn ≤ leAt b 0 1) (hhi : leAt b 0 1 ≤ 64)
    (hs : (c.flash.active ++ c.flash.golden).any (fun x => decide (ctSvn x < leAt b 0 1)) = false) :
    c.raiseSvn b = (((c.modMram (fun m => { m with svn := leAt b 0 1 })).up R.SEC_SVN_FUSED pgSEC (leAt b 0 1)).fwuEnd 0, 0) :=
  if_neg (by
    rintro (h | h | h)
    · exact absurd h (Nat.not_lt.mpr hlo)
    · exact absurd h (Nat.not_lt.mpr hhi)
    · exact Bool.false_ne_true (hs.symm.trans h))

theorem imageCmd_fwAbort (hn : c.fwu.swapping = false) (hs : c.fwu.staging = true) :
    c.imageCmd 0x108 b = ((c.modFwu (fun f => { f with staging := false })).fwuEnd 0xC, 0) := by
  simp [Chip.imageCmd, Chip.fwAbort, hn, hs]
end

/-- Every code with which an ACTIVATE is refused is one of FWU_RESULT. -/
theorem activateRefuse_code {c : Chip} {b0 n : Nat} (h : c.activateRefuse b0 = some n) : n < 16 := by
  unfold Chip.activateRefuse at h
  dsimp only at h
  split_ifs at h <;> obtain rfl := Option.some.inj h <;> decide

/-! The bank that a swap of kernels leaves is noted, and stays noted while laws move (R500). -/

section
variable (c : Chip)

/-- What no single change of a fold touches stands after the fold. -/
theorem foldc_keeps {α β : Type} (g : Chip → β) {xs : List α} {f : α → Chip → Chip} (hf : ∀ x c, g (f x c) = g c) :
    g (foldc xs f c) = g c := by
  induction xs generalizing c with
  | nil => rfl
  | cons x xs ih => exact (ih (f x c)).trans (hf x c)

theorem takeBank_fwu (e k : Nat) : (c.takeBank e k).fwu = c.fwu := (quiet_hw _ _ _).fwu

theorem quiet_swapBusy (on : Bool) : Quiet c (c.swapBusy on) := .foldc _ _ (fun _ c => .ite (quiet_up c _ _ _ _) (.refl c)) c

theorem quiet_showSwapped : Quiet c c.showSwapped := by
  unfold Chip.showSwapped
  exact .ite (.refl c) (quiet_up c _ _ _ _)

theorem swapFinish_swapFrom : c.swapFinish.fwu.swapFrom = c.fwu.swapFrom := by
  unfold Chip.swapFinish
  extract_lets nb es c1 c2
  have banks : c1.fwu = c.fwu := foldc_keeps c Chip.fwu (fun e c => (quiet_pulse _ _ _).fwu.trans (takeBank_fwu c e nb))
  have moved : c2.fwu.swapFrom = c.fwu.swapFrom := by simp [c2, (quiet_swapBusy c1 false).fwu, banks]
  have shown := ((quiet_up c2 R.FWU_RUN_VER pgFWU (ctVer c.flash.staged 3) 2).trans (quiet_reBusy _)).trans (quiet_fwuOp _ 5)
  exact (congrArg FwuSt.swapFrom shown.fwu).trans moved

theorem swapUndone_swapFrom : c.swapUndone.fwu.swapFrom = c.fwu.swapFrom := by
  unfold Chip.swapUndone
  extract_lets c1
  have moved : c1.fwu.swapFrom = c.fwu.swapFrom := by simp [c1, (quiet_swapBusy c false).fwu]
  exact (congrArg FwuSt.swapFrom ((quiet_fwuOp c1 0).trans (quiet_pulse _ _ _)).fwu).trans moved

theorem swapJudge_swapFrom : c.swapJudge.fwu.swapFrom = c.fwu.swapFrom := by
  unfold Chip.swapJudge
  have shown : c.showSwapped.fwu.swapFrom = c.fwu.swapFrom := congrArg FwuSt.swapFrom (quiet_showSwapped c).fwu
  dsimp only
  split
  · split
    · exact (swapUndone_swapFrom _).trans shown
    · exact shown
  · split
    · exact (swapFinish_swapFrom _).trans shown
    · exact shown

theorem swapBegin_swapFrom : c.swapBegin.fwu.swapFrom = c.rd R.CE_ACTIVE_BANK (pgCE 0) := by
  unfold Chip.swapBegin
  extract_lets ver k img load c1 c2
  have noted : c2.fwu.swapFrom = k := congrArg FwuSt.swapFrom (quiet_fwuOp _ 6).fwu
  exact (swapJudge_swapFrom _).trans ((congrArg FwuSt.swapFrom (quiet_swapBusy c2 true).fwu).trans noted)
end

/-! The commands. -/

section
variable (s : State) (b : Bytes)

theorem mbDoorbell_acts (v : Word) (k : Nat) (h0 : bitOf v.toNat 0 = true) (hp : s.chip.host.posted = none)
    (hl : s.chip.on R.HOST_LINK_UP pgHOST = true) (hm : s.chip.plumb.mgmtUp = true) :
    ∃ t, exec (.mbDoorbell v k b) s = .next t ∧ t.chip.host.posted = some (k, b) ∧ t.chip.host.served = false := by
  refine ⟨_, rfl, ?_⟩
  rw [State.onChip_chip, mbDoorbell, if_pos (by simp [h0, hp, hl, hm])]
  exact ⟨rfl, rfl⟩

theorem stageBegin_acts (h : s.chip.mbRequest 0x101 = some b) (hb : s.chip.fwuBusy = false) (hw : s.chip.takesWork pgFWU = true) :
    ∃ t, exec .stageBegin s = .next t ∧ t.chip.flash.image = [] ∧ t.chip.flash.staged = [] ∧ t.chip.flash.pending = false
      ∧ t.chip.fwu.staging = true ∧ t.chip.host.served = true ∧ t.chip.host.mbResult = 0 := by
  have done := imageServe_servedAs h (imageCmd_stageBegin hb hw) (.inr (.inl rfl))
  obtain ⟨erased, begun⟩ := stageBegin_erases (c := s.chip)
  have flash := done.flash.trans erased
  exact ⟨_, rfl, congrArg FlashSt.image flash, congrArg FlashSt.staged flash, congrArg FlashSt.pending flash,
    congrArg FwuSt.staging (done.fwu.trans begun), done.served, done.result⟩

theorem stageData_programs (h : s.chip.mbRequest 0x102 = some b) (hb : s.chip.fwuBusy = false) (hw : s.chip.takesWork pgFWU = true)
    (hl : leAt b 0 4 + (b.drop 4).length ≤ 32 * 2 ^ 20) :
    ∃ t, exec .stageData s = .next t ∧ t.chip.flash = (s.chip.program (leAt b 0 4) (b.drop 4)).flash ∧ t.chip.host.served = true
      ∧ t.chip.host.mbResult = 0 := by
  have done := imageServe_servedAs h ((imageCmd_stageData hb hw).trans (stageData_fits hl)) (.inr (.inl rfl))
  exact ⟨_, rfl, done.flash, done.served, done.result⟩

theorem stageData_refused (h : s.chip.mbRequest 0x102 = some b) (hb : s.chip.fwuBusy = false) (hw : s.chip.takesWork pgFWU = true)
    (hl : 32 * 2 ^ 20 < leAt b 0 4 + (b.drop 4).length) :
    ∃ t, exec .stageData s = .next t ∧ t.chip.flash = s.chip.flash ∧ t.chip.host.served = true ∧ t.chip.host.mbResult = 1 := by
  have done := imageServe_servedAs h ((imageCmd_stageData hb hw).trans (stageData_beyond hl)) (.inr (.inl rfl))
  exact ⟨_, rfl, done.flash, done.served, done.result⟩

theorem stageEnd_acts (h : s.chip.mbRequest 0x103 = some b) (hb : s.chip.fwuBusy = false) (hw : s.chip.takesWork pgFWU = true) :
    ∃ t, exec .stageEnd s = .next t ∧ t.chip.fwu.staging = false ∧ t.chip.host.served = true ∧ t.chip.host.mbResult = s.chip.stageCode
      ∧ t.chip.flash.pending = decide (t.chip.host.mbResult = 0)
      ∧ t.chip.flash.staged = (if t.chip.host.mbResult = 0 then s.chip.stagedParse 0 5 else []) := by
  have done := imageServe_servedAs h ((imageCmd_stageEnd hb hw).trans (stageEnd_eq s.chip)) (.inr (.inl rfl))
  obtain ⟨ended, marked⟩ := stageEnded_marks s.chip
  have flash := done.flash.trans marked
  have result : (imageServe s.chip 0x103).host.mbResult = s.chip.stageCode := done.result
  refine ⟨_, rfl, congrArg FwuSt.staging (done.fwu.trans ended), done.served, result, ?_, ?_⟩
  all_goals
    rw [State.onChip_chip, flash, result]
    split <;> simp [*]

theorem activate_begins (h : s.chip.mbRequest 0x104 = some b) (hb : s.chip.fwuBusy = false) (hw : s.chip.takesWork pgFWU = true)
    (hr : s.chip.activateRefuse (leAt b 0 1) = none) (hp : s.chip.paired = false) :
    ∃ t, exec .activate s = .next t ∧ t.chip.fwu.activating = decide (selTypes (leAt b 0 1) ≠ []) ∧ t.chip.fwu.sel = leAt b 0 1 % 4
      ∧ t.chip.fwu.turn = 1 ∧ t.chip.host.served = true ∧ t.chip.host.mbResult = 0 := by
  have done := imageServe_servedAs h (imageCmd_activate hb hw hr) (.inl hp)
  refine ⟨_, rfl, congrArg FwuSt.activating done.fwu, congrArg FwuSt.sel done.fwu, (congrArg FwuSt.turn done.fwu).trans ?_, done.served,
    done.result⟩
  exact if_neg (by simp [hp])

theorem activate_waits (h : s.chip.mbRequest 0x104 = some b) (hb : s.chip.fwuBusy = false) (hw : s.chip.takesWork pgFWU = true)
    (hr : s.chip.activateRefuse (leAt b 0 1) = none) (hp : s.chip.paired = true) :
    ∃ t, exec .activate s = .next t ∧ t.chip.host.served = true ∧ t.chip.host.awaitTwin = true ∧ t.chip.host.mbResult = 0
      ∧ t.chip.fwu = s.chip.fwu ∧ t.chip.mram = s.chip.mram ∧ t.chip.sent = (s.chip.send (.chain (.mirror (.image 0x104 b)))).sent :=
  ⟨_, rfl, imageServe_waits s.chip h (imageCmd_activate hb hw hr) hp rfl⟩

theorem activate_refused (n : Nat) (h : s.chip.mbRequest 0x104 = some b) (hb : s.chip.fwuBusy = false)
    (hw : s.chip.takesWork pgFWU = true) (hr : s.chip.activateRefuse (leAt b 0 1) = some n) (hn : n ≠ 0) :
    ∃ t, exec .activate s = .next t ∧ t.chip.fwu = s.chip.fwu ∧ t.chip.host.served = true ∧ t.chip.host.mbResult = n
      ∧ t.chip.rd R.FWU_RESULT pgFWU = n % 2 ^ R.FWU_RESULT.w := by
  have done := imageServe_servedAs h (imageCmd_activateRefused hb hw hr) (.inr (.inr hn))
  have code := activateRefuse_code hr
  exact ⟨_, rfl, done.fwu, done.served, done.result, (done.code code).trans (Nat.mod_eq_of_lt code).symm⟩

theorem swapKernels_begins (h : s.chip.mbRequest 0x105 = some b) (hb : s.chip.fwuBusy = false) (hw : s.chip.takesWork pgFWU = true)
    (hr : s.chip.swapRefuse = none) (hp : s.chip.paired = false) :
    ∃ t, exec .swapKernels s = .next t ∧ t.chip.host.served = true ∧ t.chip.host.mbResult = 0
      ∧ t.chip.fwu.swapFrom = s.chip.rd R.CE_ACTIVE_BANK (pgCE 0) := by
  have done := imageServe_servedAs h (imageCmd_swap hb hw hr) (.inl hp)
  exact ⟨_, rfl, done.served, done.result, (congrArg FwuSt.swapFrom done.fwu).trans (swapBegin_swapFrom s.chip)⟩

theorem swapKernels_waits (h : s.chip.mbRequest 0x105 = some b) (hb : s.chip.fwuBusy = false) (hw : s.chip.takesWork pgFWU = true)
    (hr : s.chip.swapRefuse = none) (hp : s.chip.paired = true) :
    ∃ t, exec .swapKernels s = .next t ∧ t.chip.host.served = true ∧ t.chip.host.awaitTwin = true ∧ t.chip.host.mbResult = 0
      ∧ t.chip.fwu = s.chip.fwu ∧ t.chip.mram = s.chip.mram ∧ t.chip.sent = (s.chip.send (.chain (.mirror (.image 0x105 b)))).sent :=
  ⟨_, rfl, imageServe_waits s.chip h (imageCmd_swap hb hw hr) hp rfl⟩

theorem promoteGolden_acts (h : s.chip.mbRequest 0x106 = some b) (hb : s.chip.fwuBusy = false) (hw : s.chip.takesWork pgFWU = true) :
    ∃ t, exec .promoteGolden s = .next t ∧ t.chip.flash.golden = (if (s.chip.ctVerifyAll s.chip.flash.active none).2 = none
      ∧ ctComplete s.chip.flash.active = true then s.chip.flash.active else s.chip.flash.golden) ∧ t.chip.host.served = true := by
  have done := imageServe_servedAs h (imageCmd_promote hb hw) (.inr (.inl rfl))
  exact ⟨_, rfl, (congrArg FlashSt.golden done.flash).trans (promote_golden s.chip), done.served⟩

section
variable (h : s.chip.mbRequest 0x107 = some b) (hb : s.chip.fwuBusy = false) (hw : s.chip.takesWork pgFWU = true)
  (hlo : s.chip.mram.svn ≤ leAt b 0 1) (hhi : leAt b 0 1 ≤ 64)
  (hs : (s.chip.flash.active ++ s.chip.flash.golden).any (fun x => decide (ctSvn x < leAt b 0 1)) = false)
include h hb hw hlo hhi hs

theorem raiseSvn_acts (hp : s.chip.paired = false) :
    ∃ t, exec .raiseSvn s = .next t ∧ t.chip.mram.svn = leAt b 0 1 ∧ t.chip.rd R.SEC_SVN_FUSED pgSEC = leAt b 0 1
      ∧ t.chip.host.served = true ∧ t.chip.host.mbResult = 0 := by
  have done := imageServe_servedAs h ((imageCmd_raiseSvn hb hw).trans (raiseSvn_raises hlo hhi hs)) (.inl hp)
  have fused := done.mram.trans ((quiet_up _ _ _ _ _).trans (quiet_fwuEnd _ 0)).mram
  refine ⟨_, rfl, congrArg Mram.svn fused, ?_, done.served, done.result⟩
  rw [State.onChip_chip, done.rd _ _ _ (by decide) (by decide), rd_fwuEnd_ne _ _ _ _ _ (by decide) (by decide) (by decide),
    rd_up_same _ _ _ _ _ (by decide) (by decide)]
  exact Nat.mod_eq_of_lt (Nat.lt_of_le_of_lt hhi (by decide))

theorem raiseSvn_waits (hp : s.chip.paired = true) :
    ∃ t, exec .raiseSvn s = .next t ∧ t.chip.host.served = true ∧ t.chip.host.awaitTwin = true ∧ t.chip.host.mbResult = 0
      ∧ t.chip.fwu = s.chip.fwu ∧ t.chip.mram = s.chip.mram ∧ t.chip.sent = (s.chip.send (.chain (.mirror (.image 0x107 b)))).sent :=
  ⟨_, rfl, imageServe_waits s.chip h ((imageCmd_raiseSvn hb hw).trans (raiseSvn_raises hlo hhi hs)) hp rfl⟩
end

theorem fwAbort_acts (h : s.chip.mbRequest 0x108 = some b) (hn : s.chip.fwu.swapping = false) (hs : s.chip.fwu.staging = true) :
    ∃ t, exec .fwAbort s = .next t ∧ t.chip.fwu.staging = false ∧ t.chip.rd R.FWU_OP pgFWU = 0 ∧ t.chip.host.served = true := by
  have done := imageServe_servedAs h (imageCmd_fwAbort hn hs) (.inr (.inl rfl))
  exact ⟨_, rfl, congrArg FwuSt.staging (done.fwu.trans (quiet_fwuEnd _ _).fwu),
    (done.rd _ _ _ (by decide) (by decide)).trans (fwuEnd_op _ _), done.served⟩

/-- The running configuration goes into the older copy, whose generation is then the newer (R485). -/
theorem cfgSave_copyGen (s : State) : copyGen (if copyGen s.chip.flash.cfgA ≤ copyGen s.chip.flash.cfgB then s.cfgSave.chip.flash.cfgA
    else s.cfgSave.chip.flash.cfgB) = max (copyGen s.chip.flash.cfgA) (copyGen s.chip.flash.cfgB) + 1 := by
  unfold State.cfgSave
  by_cases h : copyGen s.chip.flash.cfgA ≤ copyGen s.chip.flash.cfgB
  · simp only [if_pos h]
    rfl
  · simp only [if_neg h]
    rfl

theorem cfgSave_acts (h : s.chip.mbRequest 0x201 = some b) (hx : s.chip.on R.XSPI_BUSY pgXSPI = false) (hb : s.chip.fwuBusy = false) :
    ∃ t, exec .cfgSave s = .next t ∧ t.chip.host.served = true ∧ t.chip.host.mbResult = 0 ∧ t.mem = s.mem
      ∧ copyGen (if copyGen s.chip.flash.cfgA ≤ copyGen s.chip.flash.cfgB then t.chip.flash.cfgA else t.chip.flash.cfgB)
        = max (copyGen s.chip.flash.cfgA) (copyGen s.chip.flash.cfgB) + 1 := by
  have serves : cfgSaveServe s = State.cfgSave { s with chip := (s.chip.toTwin 0x201 []).mbServed 0 } := by
    simp [cfgSaveServe, h, hx, hb]
  have copies := cfgSave_copyGen { s with chip := (s.chip.toTwin 0x201 []).mbServed 0 }
  obtain ⟨-, flash, -⟩ := toTwin_keeps s.chip 0x201 []
  have stands : ((s.chip.toTwin 0x201 []).mbServed 0).flash = s.chip.flash := flash
  rw [stands] at copies
  exact ⟨_, congrArg Host.Outcome.next serves, rfl, rfl, rfl, copies⟩
end

/-- Settles O28, request by request. -/
theorem imageUpdateCommandsAct : Obligations.ImageUpdateCommandsAct := by
  refine ⟨fun s v k b => mbDoorbell_acts s b v k, stageBegin_acts, stageData_programs, stageData_refused, fun s b h hb hw => ?_,
    activate_begins, activate_waits, activate_refused, swapKernels_begins, swapKernels_waits, promoteGolden_acts, raiseSvn_acts,
    raiseSvn_waits, fwAbort_acts, cfgSave_acts⟩
  have acts := stageEnd_acts s b h hb hw
  unfold Chip.stageCode at acts
  generalize (s.chip.ctVerifyAll (s.chip.stagedParse 0 5) none).2 = r at acts ⊢
  cases r with
  | none => exact acts
  | some k => exact acts

end Sys2Proof.Machine
end

section
/-! PROOFS. The rows of an activation and of a kernel swap, and the completion of a request (R471, R493, R496 to R498, R500). -/

namespace Sys2Proof.Machine

/-! What the steps of a pause leave (R496, R498, R513). -/

section
variable (c : Chip)

/-- The images that run are shown, and the mirror format of MGMT follows. -/
theorem runVersions_keeps (from' : List Bytes) : (c.runVersions from').now = c.now ∧ (c.runVersions from').flash = c.flash
    ∧ (c.runVersions from').fwu = { c.fwu with mirrorFmt := (c.runVersions from').fwu.mirrorFmt } := by
  unfold Chip.runVersions
  dsimp only
  split <;> simp

/-- A halt that takes effect late changes Plumb, one register and what was sent. -/
theorem lateHalt_keeps : c.lateHalt.fwu = c.fwu ∧ c.lateHalt.flash = c.flash ∧ c.lateHalt.timers = c.timers := by
  unfold Chip.lateHalt
  split <;> simp

theorem rd_lateHalt (f : Fld) (b i : Nat) (hn : noisy (fldKey f b i) = false) (hne : fldKey f b i ≠ fldKey R.TWIN_DEBUG_HOLD pgTWIN 0) :
    c.lateHalt.rd f b i = c.rd f b i := by
  unfold Chip.lateHalt
  split
  · exact (Chip.send_rd _ _ _ _ _).trans (up_stands _ _ _ _ _ (by decide) hn hne _)
  · rfl

/-- The chip whose pause is over: an IIC1 transaction that waited is begun, the limit stops, and the length of the pause is shown. -/
def Chip.pauseOver (c : Chip) : Chip :=
  ((if c.host.iic1Wait then (c.modHost (fun h => { h with iic1Wait := false })).iic1Send else c).disarm (tmKey tmResume 0)).up
    R.FWU_PAUSE_MS pgFWU ((c.now - c.fwu.pauseAt) / dqMs)

theorem pauseOver_keeps : c.pauseOver.now = c.now ∧ c.pauseOver.flash = c.flash ∧ c.pauseOver.fwu = c.fwu := by
  unfold Chip.pauseOver Chip.iic1Send
  split <;> simp

theorem pauseEnd_settles {c : Chip} (hp : c.fwu.paused = true) (hr : c.fwu.reverting = false) :
    pauseEnd c = (((((c.pauseOver.runVersions c.flash.staged).modFwu (fun f => { f with paused := false, settling := true })).arm
      (tmKey tmSettle 0) dqS).fwuOp 4).lateHalt) := by
  unfold pauseEnd
  exact (if_neg (by simp [hp])).trans (if_neg (by simp [hr]))

theorem pauseEnd_reverts {c : Chip} (hp : c.fwu.paused = true) (hr : c.fwu.reverting = true) :
    pauseEnd c = (((((((c.pauseOver.runVersions c.flash.active).modFwu (fun f =>
      { f with paused := false, reverting := false, activating := false, settling := false })).modFlash
        (fun f => { f with rejected := true })).fwuShow).fwuEnd 0xB).tellTurn false).lateHalt) := by
  unfold pauseEnd
  exact (if_neg (by simp [hp])).trans (if_pos hr)
end

/-! The rows. -/

section
variable (s : State)

theorem activationPause_acts (ha : s.chip.fwu.activating = true) (hp : s.chip.fwu.paused = false) (hs : s.chip.fwu.settling = false)
    (hr : s.chip.fwu.reverting = false) (ht : s.chip.fwu.turn = 1 ∨ s.chip.fwu.turn = 3 ∨ (s.chip.fwu.turn = 0 ∧ s.chip.solo = true)) :
    ∃ t, exec .activationPause s = .next t ∧ t.chip.fwu.paused = true ∧ t.chip.fwu.pauseAt = s.chip.now
      ∧ t.chip.armed (tmKey tmResume 0) = true ∧ t.chip.rd R.FWU_OP pgFWU = 3 := by
  have turn : (s.chip.fwu.turn == 1 || s.chip.fwu.turn == 3 || (s.chip.fwu.turn == 0 && s.chip.solo)) = true := by
    rcases ht with h | h | ⟨h, hsolo⟩
    · simp [h]
    · simp [h]
    · simp [h, hsolo]
  refine ⟨_, rfl, ?_⟩
  rw [State.onChip_chip, activationPause, if_pos (by rw [ha, hp, hs, hr, turn]; rfl)]
  extract_lets c1
  have q := (quiet_fwuOp (c1.arm (tmKey tmResume 0) (80 * dqMs)) 3).trans (quiet_pulse _ pgFWU 2)
  refine ⟨congrArg FwuSt.paused q.fwu, congrArg FwuSt.pauseAt q.fwu, ?_, ?_⟩
  · rw [Chip.armed, q.timers]
    exact Chip.arm_armed c1 _ _
  · exact (rd_pulse _ _ _ _ _ _ (by decide) (by decide)).trans (fwuOp_op _ (by decide))

theorem pauseEnd_acts (hp : s.chip.fwu.paused = true) (hr : s.chip.fwu.reverting = false) :
    ∃ t, exec .pauseEnd s = .next t ∧ t.chip.fwu.paused = false ∧ t.chip.fwu.settling = true
      ∧ mapGet t.chip.timers (tmKey tmSettle 0) 0 = s.chip.now + dqS + 1 ∧ t.chip.rd R.FWU_OP pgFWU = 4 := by
  refine ⟨_, rfl, ?_⟩
  rw [State.onChip_chip, pauseEnd_settles hp hr]
  set d := s.chip.pauseOver.runVersions s.chip.flash.staged
  have now : d.now = s.chip.now := (runVersions_keeps _ _).1.trans (pauseOver_keeps s.chip).1
  set e := (d.modFwu (fun f => { f with paused := false, settling := true })).arm (tmKey tmSettle 0) dqS
  obtain ⟨fwu, -, timers⟩ := lateHalt_keeps (e.fwuOp 4)
  have settles := fwu.trans (quiet_fwuOp e 4).fwu
  refine ⟨congrArg FwuSt.paused settles, congrArg FwuSt.settling settles, ?_, ?_⟩
  · rw [timers, (quiet_fwuOp e 4).timers, ← now]
    exact mapGet_mapSet_same _ _ _ _
  · exact (rd_lateHalt _ _ _ _ (by decide) (by decide)).trans (fwuOp_op e (by decide))

theorem pauseEnd_fails (hp : s.chip.fwu.paused = true) (hr : s.chip.fwu.reverting = true) :
    ∃ t, exec .pauseEnd s = .next t ∧ t.chip.fwu.paused = false ∧ t.chip.fwu.activating = false ∧ t.chip.flash.rejected = true
      ∧ t.chip.rd R.FWU_RESULT pgFWU = 0xB ∧ t.chip.rd R.FWU_OP pgFWU = 0 := by
  refine ⟨_, rfl, ?_⟩
  rw [State.onChip_chip, pauseEnd_reverts hp hr]
  set d := ((s.chip.pauseOver.runVersions s.chip.flash.active).modFwu (fun f =>
    { f with paused := false, reverting := false, activating := false, settling := false })).modFlash (fun f => { f with rejected := true })
  have q := ((quiet_fwuShow d).trans (quiet_fwuEnd _ 0xB)).trans (quiet_tellTurn _ false)
  obtain ⟨fwu, flash, -⟩ := lateHalt_keeps ((d.fwuShow.fwuEnd 0xB).tellTurn false)
  have ended := fwu.trans q.fwu
  refine ⟨congrArg FwuSt.paused ended, congrArg FwuSt.activating ended, congrArg FlashSt.rejected (flash.trans q.flash), ?_, ?_⟩
  · rw [rd_lateHalt _ _ _ _ (by decide) (by decide), rd_tellTurn]
    exact fwuEnd_result _ (by decide)
  · rw [rd_lateHalt _ _ _ _ (by decide) (by decide), rd_tellTurn]
    exact fwuEnd_op _ _

theorem settleEnd_acts (hd : s.chip.due (tmKey tmSettle 0) = true) (hs : s.chip.fwu.settling = true) :
    ∃ t, exec .settleEnd s = .next t ∧ t.chip.fwu.settling = false ∧ t.chip.fwu.copying = selTypes s.chip.fwu.sel
      ∧ t.chip.fwu.turn = (if s.chip.fwu.turn == 3 || !s.chip.paired then 0 else 2) ∧ t.chip.rd R.FWU_OP pgFWU = 5 := by
  refine ⟨_, rfl, ?_⟩
  rw [State.onChip_chip, settleEnd, if_neg (by simp [hd, hs])]
  extract_lets last c1 c2
  have told : Quiet c1 c2 := ((quiet_reBusy c1).trans (quiet_fwuOp _ 5)).trans (quiet_tellTurn _ true)
  have q : Quiet c1 (if last then (c2.up R.FWU_RESULT pgFWU 0).pulse pgFWU 0 else c2) :=
    .ite (told.trans ((quiet_up _ _ _ _ _).trans (quiet_pulse _ _ _))) told
  have op : c2.rd R.FWU_OP pgFWU = 5 := (rd_tellTurn _ _ _ _ _).trans (fwuOp_op _ (by decide))
  refine ⟨congrArg FwuSt.settling q.fwu, congrArg FwuSt.copying q.fwu, congrArg FwuSt.turn q.fwu, ?_⟩
  split
  · rw [rd_pulse _ _ _ _ _ _ (by decide) (by decide), Chip.rd, up_stands _ _ _ _ _ (by decide) (by decide) (by decide)]
    exact op
  · exact op

theorem activeCopyDone_acts (hc : s.chip.fwu.copying ≠ []) :
    ∃ t, exec .activeCopyDone s = .next t ∧ t.chip.fwu.copying = []
      ∧ t.chip.flash.active = ctCopy s.chip.flash.active (s.chip.flash.staged.filter (fun b => s.chip.fwu.copying.contains (ctType b)))
      ∧ t.chip.flash.pending = false ∧ t.chip.mram.activeBad = false ∧ t.chip.rd R.FWU_OP pgFWU = 0 := by
  refine ⟨_, rfl, ?_⟩
  rw [State.onChip_chip, activeCopyDone]
  extract_lets ts c1 c2 c3
  rw [if_neg hc]
  have shown : Quiet c2 c3 := (quiet_fwuShow c2).trans (quiet_reBusy _)
  have q : Quiet c2 (if s.chip.fwu.copying = [3] then c3.fwuEnd 0 else c3.fwuOp 0) :=
    .ite (shown.trans (quiet_fwuEnd c3 0)) (shown.trans (quiet_fwuOp c3 0))
  refine ⟨congrArg FwuSt.copying q.fwu, congrArg FlashSt.active q.flash, congrArg FlashSt.pending q.flash, congrArg Mram.activeBad q.mram, ?_⟩
  split
  · exact fwuEnd_op c3 0
  · exact fwuOp_op c3 (by decide)

theorem resumeTimeout_acts (hd : s.chip.due (tmKey tmResume 0) = true) (hp : s.chip.fwu.paused = true) (hr : s.chip.fwu.reverting = false) :
    ∃ t, exec .resumeTimeout s = .next t ∧ t.chip.fwu.reverting = true ∧ t.chip.rd R.FWU_OP pgFWU = 7
      ∧ t.chip.armed (tmKey tmResume 0) = true := by
  refine ⟨_, rfl, ?_⟩
  rw [State.onChip_chip, resumeTimeout, if_pos (by simp [hd, hp, hr])]
  extract_lets c1
  have q := (quiet_fwuOp (c1.arm (tmKey tmResume 0) (80 * dqMs)) 7).trans (quiet_pulse _ pgFWU 2)
  refine ⟨congrArg FwuSt.reverting q.fwu, ?_, ?_⟩
  · exact (rd_pulse _ _ _ _ _ _ (by decide) (by decide)).trans (fwuOp_op _ (by decide))
  · rw [Chip.armed, q.timers]
    exact Chip.arm_armed c1 _ _
end

/-! A request completes (R470, R471, R494). -/

/-- The chip whose request in hand is completed with a code and a response. -/
def Chip.mbComplete (c : Chip) (code : Nat) (rsp : Bytes) : Chip :=
  (c.modHost (fun h => { h with posted := none, served := false, awaitTwin := false, mbDone := true, mbCode := code, rsp := rsp })).sendVec 54

theorem mbComplete_shows (c : Chip) (code : Nat) (rsp : Bytes) : (c.mbComplete code rsp).host.posted = none
    ∧ (c.mbComplete code rsp).host.mbDone = true ∧ (c.mbComplete code rsp).host.mbCode = code ∧ (c.mbComplete code rsp).host.rsp = rsp := by
  have host := (quiet_sendVec (c.modHost (fun h =>
    { h with posted := none, served := false, awaitTwin := false, mbDone := true, mbCode := code, rsp := rsp })) 54).host
  exact ⟨congrArg HostSt.posted host, congrArg HostSt.mbDone host, congrArg HostSt.mbCode host, congrArg HostSt.rsp host⟩

section
variable (s : State) (k : Nat)

theorem mailboxCompletion_served (b : Bytes) (h : s.chip.host.posted = some (k, b)) (hs : s.chip.services = true)
    (hd : s.chip.host.served = true) (hw : s.chip.host.awaitTwin = false ∨ s.chip.paired = false) :
    ∃ t, exec .mailboxCompletion s = .next t ∧ t.chip.host.posted = none ∧ t.chip.host.mbDone = true ∧ t.chip.host.mbCode = 0
      ∧ t.chip.host.rsp = leBytes (if s.chip.host.awaitTwin && twinFirst k then 0xC else s.chip.host.mbResult) 2 := by
  have twin : (s.chip.host.awaitTwin && s.chip.paired) = false := by
    rcases hw with h | h <;> simp [h]
  have completes : mailboxCompletion s.chip
      = s.chip.mbComplete 0 (leBytes (if s.chip.host.awaitTwin && twinFirst k then 0xC else s.chip.host.mbResult) 2) := by
    simp only [mailboxCompletion, h, hs, hd, twin]
    rfl
  refine ⟨_, rfl, ?_⟩
  rw [State.onChip_chip, completes]
  exact mbComplete_shows _ _ _

theorem mailboxCompletion_refused (n : Nat) (b : Bytes) (h : s.chip.host.posted = some (k, b)) (hs : s.chip.services = true)
    (hd : s.chip.host.served = false) (hr : s.chip.mbRefuse k b = some n) :
    ∃ t, exec .mailboxCompletion s = .next t ∧ t.chip.host.posted = none ∧ t.chip.host.mbDone = true ∧ t.chip.host.mbCode = n
      ∧ t.chip.host.rsp = [] := by
  have completes : mailboxCompletion s.chip = s.chip.mbComplete n [] := by
    simp only [mailboxCompletion, h, hs, hd, hr]
    rfl
  refine ⟨_, rfl, ?_⟩
  rw [State.onChip_chip, completes]
  exact mbComplete_shows _ _ _
end

/-! A law swaps kernels (R181, R340, R500). -/

/-- In a pair, the LEAD proposes a change at an agreed tick at least 8 ticks ahead. -/
theorem proposeAt_lead {c : Chip} (hp : c.paired = true) (hl : c.leads = true) (x : Nat) (item : AgreedItem) :
    c.proposeAt x item = (c.modTwin (fun t => { t with agree := t.agree ++
      [{ x := max x (c.tick + 8), item := item, acked := false, mine := true }] })).send (.chain (.propose (max x (c.tick + 8)) item)) := by
  have state : c.rd R.TWIN_STATE pgTWIN = 3 := by simpa [Chip.paired] using hp
  unfold Chip.proposeAt
  exact (if_neg (by rw [state]; decide)).trans (if_pos hl)

/-- The law that moves next is proposed in a pair, and moves at its update boundary in a twin alone. -/
theorem kernelSwapLaw_next {c : Chip} {e : Engine} {k : TSlot} (hs : c.fwu.swapping = true) (hop : c.rd R.FWU_OP pgFWU = 6)
    (ht : c.fwu.swapTick = none ∨ c.fwu.swapBack = true) (hn : c.nextToMove = some (e.val, k.val)) :
    kernelSwapLaw c e k
      = if c.paired then
          (if c.twin.agree.any (fun a => a.item == .swapLaw e k c.fwu.swapBack) then c
           else c.proposeAt (c.boundaryFrom e.val k.val (c.tick + 8)) (.swapLaw e k c.fwu.swapBack))
        else if c.slotBoundary e.val k.val then c.moveLaw e.val k.val else c := by
  have free : ¬ (c.fwu.swapTick.isSome && !c.fwu.swapBack) = true := by
    rcases ht with h | h <;> simp [h]
  have busy : ¬ (!c.fwu.swapping || c.rd R.FWU_OP pgFWU != 6) = true := by simp [hs, hop]
  simp only [kernelSwapLaw, if_neg busy, if_neg free, hn]
  exact if_neg (by simp)

section
variable (s : State) (e : Engine) (k : TSlot) (hs : s.chip.fwu.swapping = true) (hop : s.chip.rd R.FWU_OP pgFWU = 6)
  (ht : s.chip.fwu.swapTick = none ∨ s.chip.fwu.swapBack = true) (hn : s.chip.nextToMove = some (e.val, k.val))
include hs hop ht hn

theorem kernelSwapLaw_proposes (hp : s.chip.paired = true) (hl : s.chip.leads = true)
    (ha : s.chip.twin.agree.any (fun a => a.item == .swapLaw e k s.chip.fwu.swapBack) = false) :
    ∃ t, exec (.kernelSwapLaw e k) s = .next t
      ∧ t.chip.twin.agree = s.chip.twin.agree ++ [{
          x := max (s.chip.boundaryFrom e.val k.val (s.chip.tick + 8)) (s.chip.tick + 8), item := .swapLaw e k s.chip.fwu.swapBack, acked := false, mine := true }]
      ∧ t.chip.engines = s.chip.engines := by
  refine ⟨_, rfl, ?_⟩
  rw [State.onChip_chip, kernelSwapLaw_next hs hop ht hn, if_pos hp, if_neg (by simp [ha]), proposeAt_lead hp hl]
  exact ⟨congrArg TwinSt.agree (Chip.send_twin _ _), Chip.send_engines _ _⟩

theorem kernelSwapLaw_moves (hp : s.chip.paired = false) (hb : s.chip.slotBoundary e.val k.val = true) :
    ∃ t, exec (.kernelSwapLaw e k) s = .next t ∧ t = s.onChip (fun c => c.moveLaw e.val k.val) := by
  have moves : kernelSwapLaw s.chip e k = s.chip.moveLaw e.val k.val := by
    rw [kernelSwapLaw_next hs hop ht hn, if_neg (by simp [hp]), if_pos hb]
  exact ⟨_, rfl, congrArg (fun d => { s with chip := d }) moves⟩
end

end Sys2Proof.Machine
end

section
/-! PROOFS. The end of an engine's self-check (R169, R184, R345), and what raising a fault and the outcome of a resolution leave of it. -/

namespace Sys2Proof.Machine

/-- The fields of CE_STATUS that tell of a self-check, in the page of any engine: BUSY and FAIL (R183). -/
def checkKey (k : Nat) : Bool :=
  decide (0x30000 ≤ k / 32) && decide (k / 32 < 0xB0000) && k / 32 % 4096 == 0x100 && (k % 32 == 2 || k % 32 == 3)

theorem checkKey_noisy {k : Nat} (h : checkKey k = true) : noisy k = false := by
  simp only [checkKey, Bool.and_eq_true, decide_eq_true_eq, beq_iff_eq] at h
  obtain ⟨⟨⟨hlo, -⟩, ho⟩, -⟩ := h
  simp only [noisy, counted, ho]
  simp
  omega

theorem checkKey_busy (e : Engine) : checkKey (fldKey R.CE_SELFTEST_BUSY (pgCE e.val) 0) = true := by revert e; decide +kernel

theorem checkKey_fail (e : Engine) : checkKey (fldKey R.CE_SELFTEST_FAIL (pgCE e.val) 0) = true := by revert e; decide +kernel

/-- No other word of a page, and no other bit, is one of them. -/
theorem checkKey_word {f : Fld} {b : Nat} (hb : b % 4096 = 0) (hf : f.stride = 0 ∧ f.lo < 32 ∧ f.off < 4096 ∧ f.off ≠ 0x100) :
    checkKey (fldKey f b 0) = false := by
  obtain ⟨hs, hl, ho, hne⟩ := hf
  have word : fldKey f b 0 / 32 % 4096 = f.off := by
    simp only [fldKey, hs]
    omega
  simp [checkKey, word, hne]

theorem checkKey_swapBusy (e : Nat) : checkKey (fldKey R.CE_SWAP_BUSY (pgCE e) 0) = false := by
  have bit : fldKey R.CE_SWAP_BUSY (pgCE e) 0 % 32 = 1 := by
    simp only [fldKey, R.CE_SWAP_BUSY]
    omega
  simp [checkKey, bit]

/-- The engines, and what every engine shows of its self-check, stand. -/
structure ChecksStand (c d : Chip) : Prop where
  engines : d.engines = c.engines
  regs : ∀ k, checkKey k = true → ∀ v, mapGet d.regs k v = mapGet c.regs k v

section
variable {c d e : Chip}

theorem ChecksStand.refl (c : Chip) : ChecksStand c c := ⟨rfl, fun _ _ _ => rfl⟩

theorem ChecksStand.trans (h : ChecksStand c d) (j : ChecksStand d e) : ChecksStand c e :=
  ⟨j.engines.trans h.engines, fun k hk v => (j.regs k hk v).trans (h.regs k hk v)⟩

theorem ChecksStand.ite {p : Prop} [Decidable p] (h : ChecksStand c d) (j : ChecksStand c e) : ChecksStand c (if p then d else e) := by
  split
  · exact h
  · exact j

theorem ChecksStand.foldc {α : Type} {xs : List α} {f : α → Chip → Chip} (hf : ∀ x c, ChecksStand c (f x c)) (c : Chip) :
    ChecksStand c (foldc xs f c) := by
  induction xs generalizing c with
  | nil => exact .refl c
  | cons x xs ih => exact (hf x c).trans (ih (f x c))

theorem ChecksStand.of_eq (he : d.engines = c.engines) (hr : d.regs = c.regs) : ChecksStand c d := ⟨he, fun _ _ _ => by rw [hr]⟩

theorem ChecksStand.of_quiet (q : Quiet c d) (h : Same c d) : ChecksStand c d := ⟨q.engines, fun k hk v => h k (checkKey_noisy hk) v⟩

/-- A frame that lists neither registers nor engines. -/
theorem ChecksStand.of_confined {n : Nat} {a : List Comp} (h : Confined n a c d) (hr : .regs ∉ a := by decide)
    (he : .engines ∉ a := by decide) : ChecksStand c d := .of_eq (h .engines he) (h .regs hr)

/-- One of these fields reads as before. -/
theorem ChecksStand.rd (h : ChecksStand c d) (f : Fld) (b i : Nat) (hk : checkKey (fldKey f b i) = true) : d.rd f b i = c.rd f b i :=
  h.regs _ hk _
end

section
variable (c : Chip)

theorem checksStand_wr (f : Fld) (b v i : Nat) (h : checkKey (fldKey f b i) = false) : ChecksStand c (c.wr f b v i) :=
  ⟨rfl, fun k hk w => mapGet_mapSet_ne _ (by rintro rfl; simp [h] at hk) _ _⟩

theorem checksStand_hw (b : Nat) (us : List (Fld × Nat × Nat)) (hb : b % 4096 = 0) (h : ∀ u ∈ us, checkKey (fldKey u.1 b u.2.1) = false) :
    ChecksStand c (c.hw b us) := by
  have written : ChecksStand c (foldc us (fun u c => c.wr u.1 b u.2.2 u.2.1) c) := by
    clear hb
    induction us generalizing c with
    | nil => exact .refl c
    | cons u us ih => exact (checksStand_wr c u.1 b _ _ (h u (by simp))).trans (ih _ (fun x hx => h x (by simp [hx])))
  exact ⟨(quiet_hw c b us).engines, fun k hk v => (same_hw c b us hb k (checkKey_noisy hk) v).trans (written.regs k hk v)⟩

theorem checksStand_up (f : Fld) (b v i : Nat) (hb : b % 4096 = 0) (h : checkKey (fldKey f b i) = false) : ChecksStand c (c.up f b v i) :=
  checksStand_hw c b _ hb (by simpa using h)

theorem checksStand_pulse (b n : Nat) (hb : b % 4096 = 0) : ChecksStand c (c.pulse b n) :=
  .of_quiet (quiet_pulse c b n) (same_pulse c b n hb)

theorem checksStand_level (b n : Nat) (on : Bool) (hb : b % 4096 = 0) : ChecksStand c (c.level b n on) :=
  .of_quiet (quiet_level c b n on) (same_level c b n on hb)

theorem checksStand_send (o : Out) : ChecksStand c (c.send o) := .of_eq (Chip.send_engines c o) (Chip.send_regs c o)
theorem checksStand_arm (k t : Nat) : ChecksStand c (c.arm k t) := .of_eq rfl rfl
theorem checksStand_disarm (k : Nat) : ChecksStand c (c.disarm k) := .of_eq rfl rfl
theorem checksStand_modPort (p : Nat) (f : PortSt → PortSt) : ChecksStand c (c.modPort p f) := .of_eq rfl rfl
theorem checksStand_modTwin (f : TwinSt → TwinSt) : ChecksStand c (c.modTwin f) := .of_eq rfl rfl
theorem checksStand_modPlumb (f : PlumbSt → PlumbSt) : ChecksStand c (c.modPlumb f) := .of_eq rfl rfl
theorem checksStand_modFbk (f : FbkSt → FbkSt) : ChecksStand c (c.modFbk f) := .of_eq rfl rfl
theorem checksStand_modFwu (f : FwuSt → FwuSt) : ChecksStand c (c.modFwu f) := .of_eq rfl rfl
theorem checksStand_modFlash (f : FlashSt → FlashSt) : ChecksStand c (c.modFlash f) := .of_eq rfl rfl

/-! A raise (R424 to R429). -/

theorem checksStand_countDrop (r : FbRec) : ChecksStand c (c.countDrop r) :=
  ((checksStand_wr c R.FBK_DROPPED pgFBK _ 0 (by decide)).trans (checksStand_modFbk _ _)).trans (checksStand_pulse _ pgFBK 1 (by decide))

theorem checksStand_enqueue (r : FbRec) : ChecksStand c (c.enqueue r) := by
  unfold Chip.enqueue
  refine .ite (.refl c) (.ite ?_ ?_)
  · exact ((checksStand_modFbk c _).trans (checksStand_up _ R.FBK_QUEUE pgFBK _ 0 (by decide) (by decide))).trans
      (checksStand_level _ pgFBK 2 _ (by decide))
  · split
    · exact checksStand_countDrop c r
    · exact (checksStand_modFbk c _).trans (checksStand_countDrop _ _)

theorem checksStand_record (code source sev part : Nat) (payload : Bytes) (shelf : Bool) :
    ChecksStand c (c.record code source sev part payload shelf) := by
  unfold Chip.record
  have free : ChecksStand c c.free.2 := .of_eq rfl rfl
  exact .ite (.refl c) ((ChecksStand.ite free (.refl c)).trans (checksStand_enqueue _ _))

theorem checksStand_reFlt : ChecksStand c c.reFlt := by
  unfold Chip.reFlt
  exact .ite (.refl c) (checksStand_up c R.FCU_FLT_OUT pgFCU _ 0 (by decide) (by decide))

theorem checksStand_openRecovery : ChecksStand c c.openRecovery :=
  (checksStand_up c R.TWIN_RECOVERING pgTWIN 1 0 (by decide) (by decide)).trans (checksStand_arm _ _ _)

theorem checksStand_setRole (follow : Bool) : ChecksStand c (c.setRole follow) := by
  unfold Chip.setRole
  exact .ite (.refl c) ((checksStand_up c R.TWIN_ROLE pgTWIN _ 0 (by decide) (by decide)).trans (checksStand_pulse _ pgTWIN 5 (by decide)))

theorem checksStand_enterFenced (cause : Nat) : ChecksStand c (c.enterFenced cause) := by
  unfold Chip.enterFenced
  refine .ite ((checksStand_up c R.TWIN_FENCE_CAUSE pgTWIN _ 0 (by decide) (by decide)).trans (checksStand_reFlt _)) ?_
  extract_lets c1 c2
  have state : ChecksStand c c1 := (checksStand_hw c pgTWIN _ (by decide) (by simp only [List.forall_mem_cons]; decide)).trans
    (checksStand_setRole _ true)
  have notice : ChecksStand c c2 := (state.trans (checksStand_modPlumb c1 _)).trans (checksStand_send _ _)
  have window := (notice.trans (checksStand_pulse _ pgTWIN 3 (by decide))).trans (checksStand_openRecovery _)
  exact ((window.trans (checksStand_disarm _ _)).trans (checksStand_modTwin _ _)).trans (checksStand_reFlt _)

theorem checksStand_putHealth (us : List (Fld × Nat × Nat)) (h : ∀ u ∈ us, checkKey (fldKey u.1 pgTWIN u.2.1) = false) :
    ChecksStand c (c.putHealth us) := by
  unfold Chip.putHealth
  exact .ite (.refl c) ((checksStand_hw c pgTWIN us (by decide) h).trans (checksStand_send _ _))

theorem checksStand_reHealth : ChecksStand c c.reHealth := checksStand_putHealth c _ (by simp only [List.forall_mem_cons]; decide)

theorem checksStand_reMaxSev : ChecksStand c c.reMaxSev := by
  unfold Chip.reMaxSev
  exact (ChecksStand.ite (.refl c) (checksStand_up c R.FCU_MAX_SEV pgFCU _ 0 (by decide) (by decide))).trans
    (checksStand_putHealth _ _ (by simp only [List.forall_mem_cons]; decide))

theorem checksStand_settleFail : ChecksStand c c.settleFail := by
  unfold Chip.settleFail
  exact .ite ((((checksStand_modFwu c _).trans (checksStand_disarm _ _)).trans (checksStand_arm _ _ _)).trans
    ((checksStand_up _ R.FWU_OP pgFWU 7 0 (by decide) (by decide)).trans (checksStand_pulse _ pgFWU 2 (by decide)))) (.refl c)

theorem checksStand_swapAbort (code : Nat) : ChecksStand c (c.swapAbort code) := by
  unfold Chip.swapAbort
  extract_lets none' c1
  have undone : ChecksStand c c1 := ((checksStand_modFwu c _).trans (checksStand_modFlash _ _)).trans
    (checksStand_hw _ pgFWU _ (by decide) (by simp only [List.forall_mem_cons]; decide))
  refine .ite (.ite ?_ undone) (.refl c)
  have free : ChecksStand c1 (foldc (upTo 128) (fun e c =>
      if c.on R.CE_SWAP_BUSY (pgCE e) then c.up R.CE_SWAP_BUSY (pgCE e) 0 else c) c1) :=
    .foldc (fun e c => .ite (checksStand_up c R.CE_SWAP_BUSY (pgCE e) 0 0 (pgCE_page e).1 (checkKey_swapBusy e)) (.refl c)) c1
  exact (undone.trans free).trans ((checksStand_up _ R.FWU_OP pgFWU 0 0 (by decide) (by decide)).trans
    (checksStand_pulse _ pgFWU 1 (by decide)))

theorem checksStand_s3Sequence (src : Nat) : ChecksStand c (c.s3Sequence src) := by
  unfold Chip.s3Sequence
  extract_lets c1
  have fence : ChecksStand c c1 := (checksStand_modPlumb c _).trans (checksStand_enterFenced _ 1)
  exact .ite (.refl c) (.ite (.refl c) (.ite (fence.trans (checksStand_arm c1 _ _)) fence))

theorem checksStand_raiseEcho (src inst sev own : Nat) (hs : src < 0x800) (hq : sev = 2 → own = 0) :
    ChecksStand c (c.raiseEcho src inst sev own) := by
  unfold Chip.raiseEcho
  extract_lets c2 c3 c4 c5 c6 c7 c8 c9 c10 c11
  have h2 : ChecksStand c c2 := checksStand_wr c R.FCU_CNT_RAISE pgFCU _ 0 (by decide)
  have h3 : ChecksStand c c3 := .ite (h2.trans (checksStand_wr c2 R.FCU_CNT_WIRE pgFCU _ 0 (by decide))) h2
  have outstanding : checkKey (fldKey R.FCU_OUTSTANDING pgFCU (src / 32)) = false := by
    have low : fldKey R.FCU_OUTSTANDING pgFCU (src / 32) / 32 < 0x30000 := by
      simp only [fldKey, R.FCU_OUTSTANDING, pgFCU]
      omega
    simp [checkKey, low]
  have h4 : ChecksStand c c4 := h3.trans (checksStand_wr c3 _ _ _ _ outstanding)
  have h5 : ChecksStand c c5 := (h4.trans (checksStand_modPlumb c4 _)).trans (checksStand_reMaxSev _)
  have h6 : ChecksStand c c6 := .ite h5 (h5.trans (checksStand_pulse c5 pgFCU _ (by decide)))
  have h7 : ChecksStand c c7 := h6.trans (.of_quiet (quiet_capCause c6 _) (.of_eq (capCause_regs c6 _)))
  have h8 : ChecksStand c c8 := by
    refine h7.trans ?_
    by_cases h2 : sev = 2
    · rw [show c8 = c7 from (if_pos h2).trans (if_pos (hq h2))]
      exact .refl c7
    · rw [show c8 = c7 from if_neg h2]
      exact .refl c7
  have h9 : ChecksStand c c9 := .ite (h8.trans (checksStand_settleFail c8)) h8
  have h10 : ChecksStand c c10 := .ite (h9.trans (checksStand_swapAbort c9 _)) h9
  have late : checkKey (fldKey R.SP_MODEL_LATE (pgSP inst) 0) = false := checkKey_word (pgSP_page inst).1 (by decide)
  have h11 : ChecksStand c c11 := .ite ((h10.trans (checksStand_up c10 _ _ 1 0 (pgSP_page inst).1 late)).trans (checksStand_arm _ _ _)) h10
  exact .ite (h11.trans (checksStand_s3Sequence c11 src)) h11

/-- A raise whose item no partition but P0 owns, or whose severity quiesces none. -/
theorem checksStand_raise (src inst : Nat) (payload : Bytes) (hq : c.srcSev src = 2 → c.srcOwner src inst = 0) :
    ChecksStand c (c.raise src inst payload) := by
  by_cases hs : srcInfo src = none
  · rw [raise_of_none c inst payload hs]
    exact .refl c
  · have hlt : src < 0x800 := by
      by_contra h
      exact hs (srcInfo_none (by omega))
    cases hp : c.plumb.porst || c.plumb.stopped with
    | true => rw [raise_unpowered c src inst payload hp]; exact .refl c
    | false =>
      rw [raise_powered c inst payload hs hp]
      have shown (d : Chip) (sev : Nat) : ChecksStand d (d.showRaise src inst sev) :=
        checksStand_hw d pgFCU _ (by decide) (by simp only [List.forall_mem_cons]; decide)
      exact ((checksStand_record c src inst _ _ payload false).trans (shown _ _)).trans (checksStand_raiseEcho _ src inst _ _ hlt hq)

/-! The outcome of a resolution (R345 to R350). -/

theorem checksStand_proposeAt (x : Nat) (item : AgreedItem) : ChecksStand c (c.proposeAt x item) := by
  unfold Chip.proposeAt
  exact .ite (checksStand_modTwin c _) (.ite ((checksStand_modTwin c _).trans (checksStand_send _ _)) (.refl c))

theorem checksStand_resync (ls : List Nat) : ChecksStand c (c.resync ls) := by
  unfold Chip.resync
  extract_lets affected c1
  have h1 : ChecksStand c c1 := checksStand_modTwin c _
  exact .ite (h1.trans (.foldc (fun _ c => checksStand_proposeAt c _ _) c1)) h1

theorem checksStand_resolved : ChecksStand c c.resolved := by
  unfold Chip.resolved
  exact .ite ((((checksStand_up c R.TWIN_RESOLVING pgTWIN 0 0 (by decide) (by decide)).trans
    (checksStand_wr _ R.TWIN_CNT pgTWIN _ 2 (by decide))).trans (checksStand_pulse _ pgTWIN 2 (by decide))).trans (checksStand_modTwin _ _))
    (.refl c)

theorem checksStand_setSource (v : Nat) : ChecksStand c (c.setSource v) := by
  unfold Chip.setSource
  exact .ite (.refl c) (checksStand_up c R.DATUM_SOURCE pgDATUM v 0 (by decide) (by decide))

theorem checksStand_selfArm : ChecksStand c c.selfArm := by
  unfold Chip.selfArm
  exact .ite (checksStand_disarm c _) (checksStand_arm c _ _)

theorem checksStand_fenceWaiting : ChecksStand c c.fenceWaiting := by
  unfold Chip.fenceWaiting
  refine .foldc (fun p c => .ite ?_ (.refl c)) c
  exact ((ChecksStand.of_eq (Chip.setPort_engines c p _) (Chip.setPort_regs c p _)).trans (checksStand_disarm _ _)).trans
    (checksStand_arm _ _ _)

theorem checksStand_envPending : ChecksStand c c.envPending := by
  unfold Chip.envPending
  exact .foldc (fun e c => .ite (.foldc (fun r c => .of_confined (confined_pushReq (a := [.ports]) c _ r)) c) (.refl c)) c

theorem checksStand_enterSolo : ChecksStand c c.enterSolo := by
  unfold Chip.enterSolo
  extract_lets c1 c2 c3
  have h1 : ChecksStand c c1 := (checksStand_hw c pgTWIN _ (by decide) (by simp only [List.forall_mem_cons]; decide)).trans
    (checksStand_setRole _ false)
  have h3 : ChecksStand c c3 := (((h1.trans (checksStand_modTwin c1 _)).trans (checksStand_disarm c2 _)).trans
    (checksStand_disarm _ _)).trans (checksStand_disarm _ _)
  have clock : ChecksStand c3 ((c3.level pgTWIN 8 false).setSource c3.leadSource) :=
    (checksStand_level c3 pgTWIN 8 false (by decide)).trans (checksStand_setSource _ _)
  exact ((h3.trans clock).trans (checksStand_selfArm _)).trans ((checksStand_fenceWaiting _).trans (checksStand_envPending _))

theorem checksStand_fenceAll : ChecksStand c c.fenceAll := by
  unfold Chip.fenceAll
  exact (checksStand_wr c R.TWIN_CNT pgTWIN _ 3 (by decide)).trans
    (.foldc (fun p c => .ite ((checksStand_modPort c p _).trans (checksStand_disarm _ _)) (.refl c)) _)

theorem checksStand_joinFailed : ChecksStand c c.joinFailed := by
  have phase : ChecksStand c ((c.up R.TWIN_JOIN_PHASE pgTWIN 0).disarm (tmKey tmPhase 0)) :=
    (checksStand_up c R.TWIN_JOIN_PHASE pgTWIN 0 0 (by decide) (by decide)).trans (checksStand_disarm _ _)
  unfold Chip.joinFailed
  extract_lets n c1
  have h1 : ChecksStand c c1 := phase.trans (checksStand_modTwin _ _)
  refine .ite (.refl c) (.ite (.ite ?_ (h1.trans (checksStand_arm c1 _ _))) (.ite (phase.trans (checksStand_modTwin _ _)) (.refl c)))
  exact ((h1.trans (checksStand_up c1 R.TWIN_JOIN_FAIL pgTWIN 1 0 (by decide) (by decide))).trans
    (checksStand_pulse _ pgTWIN 7 (by decide))).trans (checksStand_raise _ 0x89 0 _ fun _ => rfl)

theorem checksStand_twinLost (notice : Bool) : ChecksStand c (c.twinLost notice) := by
  unfold Chip.twinLost
  extract_lets st heard first c1
  have declared : ChecksStand c ((((c.modTwin (fun t => { t with lost := true })).raise 0x84 0).pulse pgTWIN 0).openRecovery) :=
    (((checksStand_modTwin c _).trans (checksStand_raise _ 0x84 0 _ fun _ => rfl)).trans (checksStand_pulse _ pgTWIN 0 (by decide))).trans
      (checksStand_openRecovery _)
  have h1 : ChecksStand c c1 := .ite declared (.ite (checksStand_openRecovery c) (.refl c))
  refine .ite (.refl c) (.ite h1 (.ite ?_ (.ite ?_ (.ite ?_ h1))))
  · exact (h1.trans (checksStand_joinFailed c1)).trans (checksStand_modTwin _ _)
  · exact (h1.trans (checksStand_enterSolo c1)).trans (checksStand_fenceAll _)
  · exact (h1.trans (checksStand_modTwin c1 _)).trans (checksStand_arm _ _ _)

theorem checksStand_outcome : ChecksStand c c.outcome := by
  unfold Chip.outcome
  split
  · exact (checksStand_resync c _).trans (checksStand_resolved _)
  · exact checksStand_twinLost c true
  all_goals exact .refl c
end

/-! The end of a self-check (R169). -/

/-- The chip whose engine `n` shows the result of its self-check, and whose scrubber is at line 0. -/
def Chip.selfcheckShown (c : Chip) (n : Nat) (pass : Bool) : Chip :=
  (((c.hw (pgCE n) [(R.CE_SELFTEST_BUSY, 0, 0), (R.CE_SELFTEST_FAIL, 0, b2n !pass)]).pulse (pgCE n) 5).modEng n
    (fun g => { g with scrub := 0 })).reHealth

/-- The chip once the result counts in a resolution (R345), and a failure is raised. -/
def Chip.selfcheckTold (c : Chip) (n : Nat) (pass : Bool) : Chip :=
  let c1 := c.selfcheckShown n pass
  let c2 := if c.twin.selfTests.contains n then
      let left := c.twin.selfTests.filter (· != n)
      let bad := !pass || c.twin.ownPass == some false
      let c3 := c1.modTwin (fun t => { t with selfTests := left, ownPass := if bad then some false else if left == [] then some true else none })
      if left == [] then (c3.send (.chain (.outcome !bad))).outcome else c3
    else c1
  if pass then c2 else c2.raise 0x24 n

theorem selfcheckDone_tells {c : Chip} {n : Nat} {us : Upsets} {v : LaneOps} (hb : c.on R.CE_SELFTEST_BUSY (pgCE n) = true)
    (hv : vectorsFull v = true) (ws : List Nat) (hws : ws = ((c.upset n us).eng n).flips.map (fun x => x.1)) :
    c.selfcheckDone n us v = (((c.upset n us).readWords n ws).lanes n 3 v).1.selfcheckTold n
      (!((c.upset n us).eng n).doubleIn ws && !(((c.upset n us).readWords n ws).lanes n 3 v).2) := by
  subst hws
  unfold Chip.selfcheckDone
  exact if_neg (by simp [hb, hv])

section
variable (c : Chip) (e : Engine)

theorem checksStand_selfcheckTold (pass : Bool) : ChecksStand (c.selfcheckShown e.val pass) (c.selfcheckTold e.val pass) := by
  unfold Chip.selfcheckTold
  extract_lets c1 left bad c3 c2
  have h3 : ChecksStand c1 c3 := checksStand_modTwin c1 _
  have h2 : ChecksStand c1 c2 := .ite (.ite ((h3.trans (checksStand_send c3 _)).trans (checksStand_outcome _)) h3) (.refl c1)
  exact .ite h2 (h2.trans (checksStand_raise c2 0x24 _ _ fun h => absurd (show 3 = 2 from h) (by decide)))

theorem selfcheckShown_shows (pass : Bool) : (c.selfcheckShown e.val pass).rd R.CE_SELFTEST_BUSY (pgCE e.val) = 0
    ∧ (c.selfcheckShown e.val pass).rd R.CE_SELFTEST_FAIL (pgCE e.val) = b2n !pass ∧ ((c.selfcheckShown e.val pass).eng e.val).scrub = 0 := by
  have page := (pgCE_page e.val).1
  have hbusy := checkKey_busy e
  have hfail := checkKey_fail e
  unfold Chip.selfcheckShown
  rw [(checksStand_reHealth _).rd _ _ _ hbusy, (checksStand_reHealth _).rd _ _ _ hfail, Chip.modEng_rd, Chip.modEng_rd,
    rd_pulse _ _ _ _ _ _ page (checkKey_noisy hbusy), rd_pulse _ _ _ _ _ _ page (checkKey_noisy hfail),
    rd_hw _ _ _ _ _ _ page (checkKey_noisy hbusy), rd_hw _ _ _ _ _ _ page (checkKey_noisy hfail), eng_of_engines (checksStand_reHealth _).engines]
  simp only [foldc, List.foldl_cons, List.foldl_nil]
  refine ⟨?_, ?_, ?_⟩
  · rw [rd_wr_ne _ _ _ _ _ _ _ _ (fldKey_ne_of_lo (by decide)), rd_wr_same]
    rfl
  · rw [rd_wr_same]
    exact b2n_mod_two _
  · exact congrArg EngSt.scrub (mapGet_mapSet_same _ _ _ _)

theorem selfcheckTold_shows (pass : Bool) : (c.selfcheckTold e.val pass).rd R.CE_SELFTEST_BUSY (pgCE e.val) = 0
    ∧ (c.selfcheckTold e.val pass).rd R.CE_SELFTEST_FAIL (pgCE e.val) = b2n !pass ∧ ((c.selfcheckTold e.val pass).eng e.val).scrub = 0 := by
  have stands := checksStand_selfcheckTold c e pass
  rw [stands.rd _ _ _ (checkKey_busy e), stands.rd _ _ _ (checkKey_fail e), eng_of_engines stands.engines]
  exact selfcheckShown_shows c e pass
end

section
variable (s : State) (e : Engine) (v : LaneOps) (hb : s.chip.on R.CE_SELFTEST_BUSY (pgCE e.val) = true) (hv : vectorsFull v = true)
include hb hv

/-- A self-check of an engine without errors in its tile memory tells of the residues alone. -/
theorem selfcheckDone_clean (hf : (s.chip.eng e.val).flips = []) : ∃ d : Chip,
    s.chip.selfcheckDone e.val [] v = d.selfcheckTold e.val !(s.chip.lanes e.val 3 v).2 := by
  have words : [] = ((s.chip.upset e.val []).eng e.val).flips.map (fun x => x.1) := (congrArg (List.map _) hf).symm
  exact ⟨_, (selfcheckDone_tells hb hv [] words).trans (congrArg _ (Bool.true_and _))⟩

theorem ceSelftestDone_passes (hf : (s.chip.eng e.val).flips = []) (hl : (s.chip.lanes e.val 3 v).2 = false) :
    ∃ t, exec (.ceSelftestDone e ⟨[], v⟩) s = .next t ∧ t.chip.rd R.CE_SELFTEST_BUSY (pgCE e.val) = 0
      ∧ t.chip.rd R.CE_SELFTEST_FAIL (pgCE e.val) = 0 ∧ (t.chip.eng e.val).scrub = 0 := by
  obtain ⟨d, done⟩ := selfcheckDone_clean s e v hb hv hf
  refine ⟨_, rfl, ?_⟩
  rw [State.onChip_chip, done, hl]
  exact selfcheckTold_shows d e true

theorem ceSelftestDone_residue (hf : (s.chip.eng e.val).flips = []) (hl : (s.chip.lanes e.val 3 v).2 = true) :
    ∃ t, exec (.ceSelftestDone e ⟨[], v⟩) s = .next t ∧ t.chip.rd R.CE_SELFTEST_BUSY (pgCE e.val) = 0
      ∧ t.chip.rd R.CE_SELFTEST_FAIL (pgCE e.val) = 1 := by
  obtain ⟨d, done⟩ := selfcheckDone_clean s e v hb hv hf
  obtain ⟨busy, fail, -⟩ := selfcheckTold_shows d e false
  refine ⟨_, rfl, ?_⟩
  rw [State.onChip_chip, done, hl]
  exact ⟨busy, fail⟩

theorem ceSelftestDone_double (us : Upsets) (g : EngSt) (hg : (s.chip.upset e.val us).eng e.val = g)
    (hd : g.doubleIn (g.flips.map (fun x => x.1)) = true) :
    ∃ t, exec (.ceSelftestDone e ⟨us, v⟩) s = .next t ∧ t.chip.rd R.CE_SELFTEST_BUSY (pgCE e.val) = 0
      ∧ t.chip.rd R.CE_SELFTEST_FAIL (pgCE e.val) = 1 := by
  subst hg
  have done := selfcheckDone_tells (us := us) hb hv _ rfl
  rw [hd] at done
  obtain ⟨busy, fail, -⟩ := selfcheckTold_shows _ e false
  refine ⟨_, rfl, ?_⟩
  rw [State.onChip_chip, done]
  exact ⟨busy, fail⟩
end

/-- Settles O29, row by row. -/
theorem activationRowsAct : Obligations.ActivationRowsAct :=
  ⟨activationPause_acts, pauseEnd_acts, pauseEnd_fails, settleEnd_acts, activeCopyDone_acts, resumeTimeout_acts, mailboxCompletion_served,
    mailboxCompletion_refused, kernelSwapLaw_proposes, kernelSwapLaw_moves, ceSelftestDone_passes, ceSelftestDone_residue,
    fun s e us v g hb hv => ceSelftestDone_double s e v hb hv us g⟩

end Sys2Proof.Machine
end

section
/-! SUPPORT. The byte memories: which operations of the machine leave both as they were, and that the others keep their canonical form
(R185, R189, R463). -/

namespace Sys2Proof.Machine

/-- Descriptor memory and capture SRAM of `t` are those of `s`. -/
structure State.MemoriesStand (s t : State) : Prop where
  mem : t.mem = s.mem
  cap : t.cap = s.cap

namespace State.MemoriesStand

theorem trans {s t u : State} (h : s.MemoriesStand t) (g : t.MemoriesStand u) : s.MemoriesStand u :=
  ⟨g.mem.trans h.mem, g.cap.trans h.cap⟩

theorem ite {p : Prop} [Decidable p] {s t u : State} (ht : s.MemoriesStand t) (hu : s.MemoriesStand u) :
    s.MemoriesStand (if p then t else u) := by
  split
  · exact ht
  · exact hu

end State.MemoriesStand

/-- The memories of `t` are in canonical form where those of `s` are. -/
def State.StaysCanonical (s t : State) : Prop := s.canonical = true → t.canonical = true

theorem State.canonical_iff {s : State} : s.canonical = true ↔ s.mem.wf = true ∧ s.cap.wf = true := Bool.and_eq_true_iff

namespace State.StaysCanonical

theorem of_wf {s t : State} (hm : s.mem.wf = true → t.mem.wf = true) (hc : s.cap.wf = true → t.cap.wf = true) : s.StaysCanonical t :=
  fun h => canonical_iff.mpr ((canonical_iff.mp h).imp hm hc)

/-- An operation that leaves both memories. -/
theorem same {s t : State} (hm : t.mem = s.mem) (hc : t.cap = s.cap) : s.StaysCanonical t :=
  of_wf (fun h => hm ▸ h) (fun h => hc ▸ h)

/-- An operation on the chip alone. -/
theorem on_chip {s : State} {c : Chip} : s.StaysCanonical { s with chip := c } := id

/-- What an operation does to a chip beside the memories does not matter, before it or after. -/
theorem of_chip {s t : State} {c : Chip} (h : { s with chip := c }.StaysCanonical t) : s.StaysCanonical t := h

theorem chip {s t : State} (h : s.StaysCanonical t) (c : Chip) : s.StaysCanonical { t with chip := c } := h

/-- A write of descriptor memory. -/
theorem put_mem {s : State} {m : Memory} {c : Chip} (h : s.mem.wf = true → m.wf = true) :
    s.StaysCanonical { s with mem := m, chip := c } :=
  of_wf h id

/-- A write of capture SRAM. -/
theorem put_cap {s : State} {m : Memory} {c : Chip} (h : s.cap.wf = true → m.wf = true) :
    s.StaysCanonical { s with cap := m, chip := c } :=
  of_wf id h

/-- An operation that empties both memories. -/
theorem of_empty {s t : State} (hm : t.mem = []) (hc : t.cap = []) : s.StaysCanonical t :=
  fun _ => canonical_iff.mpr ⟨hm ▸ rfl, hc ▸ rfl⟩

theorem trans {s t u : State} (h : s.StaysCanonical t) (g : t.StaysCanonical u) : s.StaysCanonical u := g ∘ h

theorem ite {p : Prop} [Decidable p] {s t u : State} (ht : s.StaysCanonical t) (hu : s.StaysCanonical u) :
    s.StaysCanonical (if p then t else u) := by
  split
  · exact ht
  · exact hu

/-- A fold of operations that keep the form keeps it. -/
theorem foldc {α : Type} {f : α → State → State} (hf : ∀ x (s : State), s.StaysCanonical (f x s)) (xs : List α) (s : State) :
    s.StaysCanonical (Machine.foldc xs f s) := by
  induction xs generalizing s with
  | nil => exact id
  | cons x xs ih => exact (hf x s).trans (ih (f x s))

end State.StaysCanonical

theorem State.MemoriesStand.stays {s t : State} (h : s.MemoriesStand t) : s.StaysCanonical t := .same h.mem h.cap

/-- A fold of writes that keep the form of a byte memory keeps it. -/
theorem foldc_wf {α : Type} {f : α → Memory → Memory} (hf : ∀ x m, m.wf = true → (f x m).wf = true) (xs : List α) {m : Memory}
    (hm : m.wf = true) : (foldc xs f m).wf = true := by
  induction xs generalizing m with
  | nil => exact hm
  | cons x xs ih => exact ih (hf x m hm)

variable (s : State)

theorem onChip_stands (f : Chip → Chip) : s.MemoriesStand (s.onChip f) := ⟨rfl, rfl⟩

/-! Reads and register writes leave both memories (R4, R5, R452, R455, R476, R519). -/

theorem busRead_stands (p : Path) (a : Nat) : s.MemoriesStand (s.busRead p a).1 := by
  unfold State.busRead
  split
  · split <;> exact ⟨rfl, rfl⟩
  · split
    · exact ⟨rfl, rfl⟩
    · split
      · exact ⟨rfl, rfl⟩
      · split <;> exact ⟨rfl, rfl⟩

theorem readWord_stands (p : Path) (a : Nat) : s.MemoriesStand (s.readWord p a).1 := by
  unfold State.readWord
  split
  · exact busRead_stands s p a
  · exact ⟨rfl, rfl⟩
  · exact ⟨rfl, rfl⟩

theorem pathRead_stands (p : Path) (a : Nat) (be : BE) : s.MemoriesStand (s.pathRead p a be) := by
  unfold State.pathRead
  have read := readWord_stands s p a
  exact .ite ⟨rfl, rfl⟩ ⟨read.mem, read.cap⟩

theorem regRead_stands (p : Path) (a : Word) (be : BE) (kind : Nat → Bool) : s.MemoriesStand (regRead s p a be kind) :=
  .ite (pathRead_stands s p _ be) ⟨rfl, rfl⟩

theorem fbkWindowRead_stands (p : Path) (a : Word) (be : BE) : s.MemoriesStand (fbkWindowRead s p a be) :=
  .ite (pathRead_stands s p _ be) ⟨rfl, rfl⟩

theorem putWords_stands (p : Path) (ws : List (Nat × Nat)) : s.MemoriesStand (s.putWords p ws) :=
  .ite ⟨rfl, rfl⟩ (.ite ⟨rfl, rfl⟩ (.ite ⟨rfl, rfl⟩ ⟨rfl, rfl⟩))

theorem pairWrite_stands (p : Path) (k : PageKind) (a v : Nat) (held : Option (Nat × Word)) :
    s.MemoriesStand (s.pairWrite p k a v held) := by
  unfold State.pairWrite
  refine .ite ⟨rfl, rfl⟩ (.ite ?_ (putWords_stands s p _))
  split
  · exact .ite (putWords_stands s p _) ⟨rfl, rfl⟩
  · exact ⟨rfl, rfl⟩

/-- A write of a word below descriptor memory, its path's rights settled or not. -/
theorem writeWord_stands {p : Path} {a v : Nat} {be : BE} (ha : a < 0x400000) : s.MemoriesStand (s.writeWord p a v be) := by
  unfold State.writeWord
  simp only [State.writeWordBy]
  rw [if_neg (fun h => Nat.not_le.mpr ha h.1)]
  split
  · split <;> exact ⟨rfl, rfl⟩
  · refine .ite ⟨rfl, rfl⟩ ?_
    split
    · exact ⟨rfl, rfl⟩
    · exact ⟨rfl, rfl⟩
    · refine .ite ⟨rfl, rfl⟩ ?_
      have pair := pairWrite_stands { s with chip := s.chip.dropHeld p.key }
      exact ⟨(pair p _ a v _).mem, (pair p _ a v _).cap⟩

theorem pathWrite_stands {p : Path} {a v : Nat} {be : BE} (ha : a < 0x400000) : s.MemoriesStand (s.pathWrite p a v be) :=
  .ite (writeWord_stands s ha) ⟨rfl, rfl⟩

theorem pageWrite_stands (p : Path) (page o : Nat) (v : Word) (be : BE) : s.MemoriesStand (pageWrite s p page o v be) := by
  unfold pageWrite
  split
  case isTrue h => exact pathWrite_stands s h
  case isFalse => exact ⟨rfl, rfl⟩

theorem regWriteOf_stands (p : Path) (a v : Word) (be : BE) {kind : Nat → Bool} (hk : ∀ x, kind x = true → x < 0x400000) :
    s.MemoriesStand (regWriteOf s p a v be kind) := by
  unfold regWriteOf
  split
  case isTrue h => exact pathWrite_stands s (hk _ h)
  case isFalse => exact ⟨rfl, rfl⟩

/-- The registers that are written in two words lie in pages. -/
theorem isWideLowWr_lt (a : Nat) (h : isWideLowWr a = true) : a < 0x400000 := by
  unfold isWideLowWr at h
  split at h
  case h_1 hp => exact pageOf_lt hp
  case h_2 => cases h

theorem isWideHighWr_lt (a : Nat) (h : isWideHighWr a = true) : a < 0x400000 := by
  unfold isWideHighWr at h
  split at h
  case h_1 hp => exact pageOf_lt hp
  case h_2 => cases h

theorem winRead_stands (t : Tgt) (k : Nat) : s.MemoriesStand (s.winRead t k).1 := by
  have read := readWord_stands s t.path (s.chip.winAddr t k / 4 * 4)
  simp only [State.winRead]
  split
  · exact ⟨rfl, rfl⟩
  · split
    · split
      · exact ⟨rfl, rfl⟩
      · exact ⟨read.mem, read.cap⟩
    · exact ⟨read.mem, read.cap⟩

theorem tgtReadByte_stands (t : Tgt) : s.MemoriesStand (s.tgtReadByte t).1 := by
  simp only [State.tgtReadByte]
  split
  · exact (winRead_stands s t _).trans ⟨rfl, rfl⟩
  · exact ⟨rfl, rfl⟩

theorem tgtReads_stands (t : Tgt) (n : Nat) (acc : Bytes) : s.MemoriesStand (s.tgtReads t n acc).1 := by
  induction n generalizing s acc with
  | zero => exact ⟨rfl, rfl⟩
  | succ n ih => exact (tgtReadByte_stands s t).trans (ih _ _)

theorem iicTargetRead_stands (t : Tgt) (n : Nat) : s.MemoriesStand (iicTargetRead s t n) := by
  have reads := tgtReads_stands (s.onChip fun c => c.modTgt t fun q => { q with latch := none }) t n []
  exact .ite ⟨rfl, rfl⟩ ⟨reads.mem, reads.cap⟩

theorem mgmtReads_stands (p : Part) (n addr : Nat) (acc : Bytes) (bad : Bool) : s.MemoriesStand (s.mgmtReads p addr n acc bad).1 := by
  induction n generalizing s addr acc bad with
  | zero => exact ⟨rfl, rfl⟩
  | succ n ih => exact (readWord_stands s _ addr).trans (ih _ _ _ _)

theorem mgmtRead_stands (h : SurveyHdr) (pl : Bytes) : s.MemoriesStand (mgmtRead s h pl) := by
  have reads (c : Chip) := mgmtReads_stands { s with chip := c } h.part (leAt pl 1 1) (leAt pl 4 4) [] false
  exact .ite ⟨rfl, rfl⟩ (.ite ⟨rfl, rfl⟩ (.ite ⟨rfl, rfl⟩ ⟨(reads _).mem, (reads _).cap⟩))

/-! Operations on a whole state that leave both memories (R461, R472, R485). -/

theorem wcFlushDone_stands (k : Nat) : s.MemoriesStand (wcFlushDone s k) := .ite ⟨rfl, rfl⟩ ⟨rfl, rfl⟩

theorem dmaComplete_stands (k : Chan) (err : Nat) : s.MemoriesStand (dmaComplete s k err) :=
  .ite ⟨rfl, rfl⟩ (.ite ⟨rfl, rfl⟩ ⟨rfl, rfl⟩)

theorem cfgSaveServe_stands : s.MemoriesStand (cfgSaveServe s) := by
  simp only [cfgSaveServe]
  split
  · exact ⟨rfl, rfl⟩
  · exact .ite ⟨rfl, rfl⟩ ⟨rfl, rfl⟩

theorem imageMirror_stands (cmd : Nat) (b : Bytes) : s.MemoriesStand (s.imageMirror cmd b) :=
  .ite ⟨rfl, rfl⟩ (.ite ⟨rfl, rfl⟩ (.ite ⟨rfl, rfl⟩ (.ite ⟨rfl, rfl⟩ ⟨rfl, rfl⟩)))

/-- A command outside those that `keepsMemories` names leaves both memories: what it does to a whole state, by the lemma above about it;
every other command changes the chip alone. -/
theorem exec_memoriesStand {c : Instr} (hk : keepsMemories c = true) : ∃ t, exec c s = .next t ∧ s.MemoriesStand t := by
  cases c with
  | registerWrite | descriptorAccess | dbgAccess | descriptorCommit | readbackRefresh | agreedTick | mirrorRx | mgmtWrite | iicTargetWrite
  | iicPecStop | chainProbeEnd | bootTimeout | porstNAssert | resetNAssert | seqPgTimeout | seqPgLost | seqPowerDown | seqDownStep
  | brownOut | keyResetStart | s3ResetDelay | watchdogReset | thermalRestart | glitchDetect | faultRaise | wcapEntry | joinPhaseEnd
  | chainHello | mgmtResume | dbgResume => cases hk
  | wideLowRead p a be | wideHighRead p a be | rcRead p a be => exact ⟨_, rfl, regRead_stands s p a be _⟩
  | wideLowWrite p a v be => exact ⟨_, rfl, regWriteOf_stands s p a v be isWideLowWr_lt⟩
  | wideHighWrite p a v be => exact ⟨_, rfl, regWriteOf_stands s p a v be isWideHighWr_lt⟩
  | pgOwnerWrite | pgEvtLatchWrite | seqSave | seqRestart | resetKeyWrite | discStart | safeActWrite | ceSelftestStart | ceDoorbell
  | ceCancel | phCtrlClear | fsCfgWrite | huCfgWrite | crownNodeWrite | strCfgWrite | hibEnter | feederEnable | feederClear
  | calCfgWrite | calRefWrite | twRejoin | twTraverse | quietA | quietB | fabWake | ptCfgWrite | creditWrite | quotaWrite
  | fcOutstandingClear | fbkEraseKey | wcapArm | wcapTrigger | wcapAbort | dmaStart | iic1Start | pmcSelWrite | snap =>
    exact ⟨_, rfl, pageWrite_stands s _ _ _ _ _⟩
  | fbkWindowRead p a be => exact ⟨_, rfl, fbkWindowRead_stands s p a be⟩
  | frDataRead p w be => exact ⟨_, rfl, pathRead_stands s p _ be⟩
  | iicTargetRead t n => exact ⟨_, rfl, iicTargetRead_stands s t n⟩
  | mgmtRead h pl => exact ⟨_, rfl, mgmtRead_stands s h pl⟩
  | wcapFlushDone n => exact ⟨_, rfl, wcFlushDone_stands s n.val⟩
  | cfgSave => exact ⟨_, rfl, cfgSaveServe_stands s⟩
  | dmaComplete k err => exact ⟨_, rfl, dmaComplete_stands s k err⟩
  | _ => exact ⟨_, rfl, onChip_stands s _⟩

/-- Settles O40. -/
theorem commandsKeepMemories : Obligations.CommandsKeepMemories := by
  intro c s t hk ht
  obtain ⟨u, hu, stand⟩ := exec_memoriesStand s hk
  obtain rfl : t = u := by injection ht.symm.trans hu
  exact ⟨stand.mem, stand.cap⟩

end Sys2Proof.Machine
end

section
/-! PROOFS. Every step keeps both byte memories in canonical form (R185, R189, R463). -/

namespace Sys2Proof.Machine

variable (s : State)

/-! Commits and refreshes (R186, R187, R192, R193). -/

theorem putResult_wf {m : Memory} (part code fail : Nat) (tick : Option Nat) (gen : Nat) (h : m.wf = true) :
    (putResult m part code fail tick gen).wf = true := by
  unfold putResult
  have h1 := memPut_wf _ (2048 * 256 * part + 10) (leBytes fail 2) (memPut_wf _ (2048 * 256 * part + 8) (leBytes code 1) h)
  cases tick with
  | none => exact memPut_wf _ _ _ h1
  | some t => exact memPut_wf _ _ _ (memPut_wf _ _ _ h1)

theorem refreshLaw_wf {m : Memory} (i : Nat) (l : LawSt) (h : m.wf = true) : (refreshLaw m i l).wf = true := by
  unfold refreshLaw
  extract_lets b st m1 m2 t integ m3
  have h3 : m3.wf = true := memPut_wf _ _ _ (memPut_wf _ _ _ (memPut_wf _ _ _ h))
  split
  · exact memPut_wf _ _ _ h3
  · exact h3

theorem refreshAll_canonical : s.StaysCanonical (refreshAll s) :=
  .put_mem (foldc_wf (fun (e : Nat × LawSt) _ => refreshLaw_wf e.1 e.2) _)

theorem commitRun_canonical (part : Nat) : s.StaysCanonical (commitRun s part) := by
  simp only [commitRun]
  split
  · exact (State.StaysCanonical.of_chip (refreshAll_canonical _)).trans (.put_mem (fun h => putResult_wf _ _ _ _ _ (memPut_wf _ _ _ h)))
  · exact .on_chip

theorem commitRegion_canonical (part : Nat) : s.StaysCanonical (commitRegion s part) :=
  .ite .on_chip (.ite .on_chip (commitRun_canonical s part))

theorem startSet_canonical (part x : Nat) : s.StaysCanonical (startSet s part x) := by
  simp only [startSet]
  exact (State.StaysCanonical.of_chip (refreshAll_canonical _)).trans (.put_mem (putResult_wf _ _ _ _ _))

/-! Writes of descriptor memory and of capture SRAM (R185, R458, R518). -/

/-- A byte memory with those enabled bytes of the word `v` written, from `o` on, that a list names. -/
def putEnabled (o v : Nat) (be : BE) (is : List Nat) (m : Memory) : Memory :=
  is.foldl (fun m i => if be.getLsbD i then memSet m (o + i) (BitVec.ofNat 8 (v / 256 ^ i)) else m) m

theorem putEnabled_cons (o v : Nat) (be : BE) (i : Nat) (is : List Nat) (m : Memory) : putEnabled o v be (i :: is) m
    = putEnabled o v be is (if be.getLsbD i then memSet m (o + i) (BitVec.ofNat 8 (v / 256 ^ i)) else m) := rfl

theorem putEnabled_wf (o v : Nat) (be : BE) (is : List Nat) {m : Memory} (h : m.wf = true) : (putEnabled o v be is m).wf = true := by
  induction is generalizing m with
  | nil => exact h
  | cons i is ih =>
    rw [putEnabled_cons]
    apply ih
    split
    · exact memSet_wf _ _ _ h
    · exact h

/-- A write to descriptor memory stores the enabled bytes of its word. -/
theorem descPut_eq {a : Nat} (v : Nat) (be : BE) (ha : 0x400000 ≤ a) (hb : a < 0x800000) :
    s.descPut a v be = { s with mem := putEnabled (a - 0x400000) v be (upTo 4) s.mem } := if_pos ⟨ha, hb⟩

theorem descPut_canonical (a v : Nat) (be : BE) : s.StaysCanonical (s.descPut a v be) :=
  .ite (.put_mem (putEnabled_wf _ v be _)) .on_chip

theorem descWrite_canonical (a v : Nat) (be : BE) : s.StaysCanonical (s.descWrite a v be) := by
  unfold State.descWrite
  have put := descPut_canonical s a v be
  exact .ite (.ite (.chip put _) put) (.ite .on_chip .on_chip)

theorem writeWordBy_canonical (r : Chip) (p : Path) (a v : Nat) (be : BE) : s.StaysCanonical (s.writeWordBy r p a v be) := by
  simp only [State.writeWordBy]
  refine .ite (.ite .on_chip ?_) ?_
  · split
    · exact descWrite_canonical s a v be
    · exact .on_chip
    · exact .on_chip
  · split
    · split <;> exact .on_chip
    · refine .ite .on_chip ?_
      split
      · exact .on_chip
      · exact .on_chip
      · exact .ite .on_chip (pairWrite_stands { s with chip := s.chip.dropHeld p.key } p _ a v _).stays

theorem writeWord_canonical (p : Path) (a v : Nat) (be : BE) : s.StaysCanonical (s.writeWord p a v be) :=
  writeWordBy_canonical s s.chip p a v be

theorem pathWrite_canonical (p : Path) (a v : Nat) (be : BE) : s.StaysCanonical (s.pathWrite p a v be) :=
  .ite (writeWord_canonical s p a v be) .on_chip

theorem descAccess_canonical (p : Path) (a : Word) (wr : Bool) (v : Word) (be : BE) : s.StaysCanonical (descAccess s p a wr v be) := by
  unfold descAccess
  exact .ite .on_chip (.ite (pathWrite_canonical s p _ _ be) (.ite (pathRead_stands s p _ be).stays .on_chip))

theorem dbgAccess_canonical (a : Word) (op : DbgOp) (v : Word) : s.StaysCanonical (dbgAccess s a op v) := by
  unfold dbgAccess
  refine .ite .on_chip ?_
  cases op with
  | write => exact pathWrite_canonical s .dbg _ _ 15
  | read consume =>
    have read := readWord_stands (s.onChip fun c => c.modDbg fun d => { d with consume := consume }) .dbg (wordAddr a)
    exact .ite .on_chip (.ite (.same read.mem read.cap) .on_chip)

theorem wcEntry_canonical (k : Nat) (moved : Bool) : s.StaysCanonical (wcEntry s k moved) := by
  unfold wcEntry
  extract_lets c u
  exact .ite .on_chip (.ite .on_chip (.put_cap (memPut_wf _ _ _)))

/-! Two-wire targets and management sessions (R475, R476, R478, R530). -/

theorem winWrite_canonical (t : Tgt) (k : Nat) (v : Byte) : s.StaysCanonical (s.winWrite t k v) := by
  unfold State.winWrite
  extract_lets c ws
  exact .ite .on_chip (.ite .on_chip (.ite (.of_chip (writeWord_canonical _ t.path _ _ 15)) .on_chip))

theorem tgtWriteByte_canonical (t : Tgt) (v : Byte) : s.StaysCanonical (s.tgtWriteByte t v) := by
  unfold State.tgtWriteByte
  extract_lets c p s1
  have written : s.StaysCanonical s1 := .ite (winWrite_canonical s t _ v) .on_chip
  exact .chip written _

theorem tgtWrite_canonical (t : Tgt) (bs : Bytes) : s.StaysCanonical (s.tgtWrite t bs) := by
  cases bs with
  | nil => exact .on_chip
  | cons b rest =>
    have bytes (c : Chip) : s.StaysCanonical (foldc rest (fun v s => State.tgtWriteByte s t v) { s with chip := c }) :=
      .of_chip (.foldc (fun v s => tgtWriteByte_canonical s t v) rest _)
    simp only [State.tgtWrite]
    exact .ite (bytes _) (.ite (.chip (bytes _) _) (.chip (bytes _) _))

theorem iicTargetWrite_canonical (t : Tgt) (bs : Bytes) : s.StaysCanonical (iicTargetWrite s t bs) :=
  .ite .on_chip (.ite .on_chip (tgtWrite_canonical s t bs))

theorem iicPecStop_canonical (t : Tgt) : s.StaysCanonical (iicPecStop s t) := by
  unfold iicPecStop
  extract_lets c bs c1 adr s1
  exact .ite .on_chip (.ite (.chip (.of_chip (tgtWrite_canonical _ t _)) _) .on_chip)

theorem mgmtWrites_canonical (r : Chip) (p : Part) (ws : List Nat) (addr : Nat) (bad : Bool) :
    s.StaysCanonical (s.mgmtWrites r p addr ws bad).1 := by
  induction ws generalizing s addr bad with
  | nil => exact .on_chip
  | cons v ws ih => exact (writeWordBy_canonical s r _ addr v 15).trans (ih _ _ _)

theorem mgmtWrite_canonical (h : SurveyHdr) (pl : Bytes) : s.StaysCanonical (mgmtWrite s h pl) := by
  unfold mgmtWrite
  refine .ite .on_chip ?_
  split
  extract_lets s1 a n
  refine .ite .on_chip (.ite .on_chip ?_)
  exact .chip (.of_chip (mgmtWrites_canonical s1 _ _ _ _ _)) _

/-! Resets and the sequencer (R78, R79, R89, R90, R189). -/

theorem fullReset_canonical (cause : Fld) (pin : Bool) : s.StaysCanonical (s.fullReset cause pin) := .of_empty rfl rfl

theorem mainOff_canonical (c : Chip) : s.StaysCanonical (s.mainOff c) := .of_empty rfl rfl

theorem porstAssert_canonical : s.StaysCanonical (porstAssert s) := .of_empty rfl rfl

theorem seqPgTimeout_canonical (a : AdcRead) : s.StaysCanonical (seqPgTimeout s a) := .ite (mainOff_canonical s _) .on_chip

theorem seqPgLost_canonical (n : Nat) (a : AdcRead) : s.StaysCanonical (seqPgLost s n a) := by
  unfold seqPgLost
  exact .ite .on_chip (.ite (mainOff_canonical s _) (.ite (mainOff_canonical s _) .on_chip))

theorem afterDown_canonical (c : Chip) : s.StaysCanonical (s.afterDown c) := by
  unfold State.afterDown
  exact .ite (mainOff_canonical s _) .on_chip

theorem seqPowerDown_canonical : s.StaysCanonical (seqPowerDown s) := by
  simp only [seqPowerDown]
  refine .ite .on_chip ?_
  split
  · exact afterDown_canonical s _
  · exact afterDown_canonical s _

theorem seqDownStep_canonical : s.StaysCanonical (seqDownStep s) := by
  simp only [seqDownStep]
  split
  · split
    · exact afterDown_canonical s _
    · exact .on_chip
  · exact .on_chip
  · exact .on_chip

theorem brownOut_canonical : s.StaysCanonical (brownOut s) := .ite .on_chip (mainOff_canonical s _)

theorem resetNAssert_canonical (lowNs : Nat) : s.StaysCanonical (resetNAssert s lowNs) := by
  unfold resetNAssert
  exact .ite .on_chip (.ite .on_chip (.ite (fullReset_canonical s _ _) .on_chip))

theorem keyResetStart_canonical : s.StaysCanonical (keyResetStart s) := by
  unfold keyResetStart
  exact .ite (fullReset_canonical s _ _) .on_chip

theorem thermalRestart_canonical : s.StaysCanonical (thermalRestart s) := by
  unfold thermalRestart
  exact .ite (fullReset_canonical s _ _) .on_chip

theorem glitchDetect_canonical : s.StaysCanonical (glitchDetect s) := by
  unfold glitchDetect
  exact .ite .on_chip (.of_empty rfl rfl)

theorem faultRaise_canonical (src inst : Nat) : s.StaysCanonical (faultRaise s src inst) := by
  unfold faultRaise
  exact .ite .on_chip (.ite (glitchDetect_canonical s) (.ite .on_chip .on_chip))

theorem s3ResetDelay_canonical : s.StaysCanonical (s3ResetDelay s) := by
  unfold s3ResetDelay
  exact .ite (.ite .on_chip (fullReset_canonical s _ _)) .on_chip

theorem watchdogReset_canonical : s.StaysCanonical (watchdogReset s) := by
  unfold watchdogReset
  exact .ite (fullReset_canonical s _ _) .on_chip

theorem bootTimeout_canonical : s.StaysCanonical (bootTimeout s) := by
  unfold bootTimeout
  exact .ite (.of_empty rfl rfl) .on_chip

/-! The saved configuration and the start (R93, R485). -/

/-- A copy in flash is written cell by cell over what descriptor memory holds, so its own form does not matter. -/
theorem cfgRestore_canonical : s.StaysCanonical s.cfgRestore := by
  simp only [State.cfgRestore]
  split
  · exact .on_chip
  · exact .put_mem (foldc_wf (fun (e : Nat × Byte) _ => memSet_wf _ e.1 e.2) _)

theorem commitBound_canonical : s.StaysCanonical s.commitBound :=
  .foldc (fun p s => .ite .on_chip (commitRun_canonical s p)) _ s

theorem startSolo_canonical : s.StaysCanonical s.startSolo := by
  unfold State.startSolo
  extract_lets s1 n c1 c2 s2
  have bound : s.StaysCanonical s2 := (cfgRestore_canonical s).trans (.of_chip (c := c2) (commitBound_canonical _))
  exact .ite (.chip bound _) bound

theorem unpaired_canonical : s.StaysCanonical s.unpaired := by
  unfold State.unpaired
  extract_lets c
  exact .ite .on_chip (.ite (startSolo_canonical s) (.of_chip (c := c.enterSolo) (commitBound_canonical _)))

theorem chainHello_canonical (h : Hello) : s.StaysCanonical (chainHello s h) := by
  unfold chainHello
  exact .ite .on_chip (.ite (.ite (.of_chip (unpaired_canonical _)) (.ite .on_chip .on_chip)) (.ite (.ite .on_chip .on_chip) .on_chip))

theorem chainProbeEnd_canonical (probe : Probe) : s.StaysCanonical (chainProbeEnd s probe) := by
  unfold chainProbeEnd
  refine .ite .on_chip ?_
  cases probe with
  | noTwin => exact .ite (startSolo_canonical s) .on_chip
  | running => exact .on_chip
  | alsoStep6 twin => exact .ite (.of_chip (unpaired_canonical _)) (.ite .on_chip (startSolo_canonical s))

/-! The twin (R189, R339, R340, R357, R365, R381). -/

theorem beginConfig_canonical : s.StaysCanonical s.beginConfig := .put_mem (fun _ => rfl)

theorem mgmtResume_canonical : s.StaysCanonical (mgmtResume s) := by
  unfold mgmtResume
  exact .ite .on_chip (.ite (.of_chip (beginConfig_canonical _)) .on_chip)

theorem dbgResume_canonical : s.StaysCanonical (dbgResume s) :=
  .ite (mgmtResume_canonical (s.onChip fun c => c.modPlumb fun p => { p with haltReq := false })) .on_chip

theorem relayed_canonical (h : SurveyHdr) (pl : Bytes) : s.StaysCanonical (s.relayed h pl) := by
  unfold State.relayed
  exact .ite .on_chip (.ite ((mgmtRead_stands s h pl).stays.trans (mgmtWrite_canonical _ h pl)) .on_chip)

theorem mirrorRx_canonical (m : MirrorMsg) : s.StaysCanonical (mirrorRx s m) := by
  unfold mirrorRx
  extract_lets count c s1 takes
  cases m with
  | image cmd b => exact (imageMirror_stands s1 cmd b).stays
  | relay h pl => exact .ite (relayed_canonical s1 h pl) .on_chip
  | desc a v be => exact .ite (descPut_canonical s1 _ _ be) .on_chip
  | _ => exact .ite .on_chip .on_chip

theorem enterPaired_canonical : s.StaysCanonical s.enterPaired := by
  unfold State.enterPaired
  exact .ite .on_chip (.of_chip (.foldc (fun (p : Part) s => commitRegion_canonical s p.val) _ _))

theorem applyAgreed_canonical (a : Agreed) : s.StaysCanonical (s.applyAgreed a) := by
  unfold State.applyAgreed
  cases a.item with
  | descWrite ad v be => exact descPut_canonical s _ _ be
  | paired => exact enterPaired_canonical s
  | lawSet p => exact startSet_canonical s p.val a.x
  | resync i => exact .ite .on_chip .on_chip
  | _ => exact .on_chip

theorem agreedTick_canonical : s.StaysCanonical (agreedTick s) := by
  unfold agreedTick
  exact .of_chip (.foldc (fun a s => applyAgreed_canonical s a) _ _)

theorem handConfig_canonical : s.StaysCanonical s.handConfig := by
  unfold State.handConfig State.mirrorDesc
  exact .on_chip

theorem leadPhaseEnd_canonical : s.StaysCanonical s.leadPhaseEnd := by
  unfold State.leadPhaseEnd
  exact .ite (.of_chip (handConfig_canonical _))
    (.ite .on_chip (.ite .on_chip (.ite (.ite .on_chip (.ite .on_chip .on_chip)) (.ite .on_chip .on_chip))))

theorem joinerNext_canonical (c : Chip) : s.StaysCanonical (s.joinerNext c) := by
  unfold State.joinerNext
  exact .ite .on_chip (.ite (beginConfig_canonical { s with chip := c }) (.ite .on_chip .on_chip))

theorem joinPhaseEnd_canonical : s.StaysCanonical (joinPhaseEnd s) := by
  unfold joinPhaseEnd
  exact .ite (joinerNext_canonical s _) (.ite (leadPhaseEnd_canonical s) .on_chip)

/-! Every command, and every step. -/

/-- A command keeps the form: those that leave both memories do, and of each other one a lemma above tells. -/
theorem exec_canonical (c : Instr) : ∃ t, exec c s = .next t ∧ s.StaysCanonical t := by
  by_cases hk : keepsMemories c = true
  · obtain ⟨t, ht, stand⟩ := exec_memoriesStand s hk
    exact ⟨t, ht, stand.stays⟩
  cases c with
  | registerWrite p a v be => exact ⟨_, rfl, pathWrite_canonical s p _ _ be⟩
  | descriptorAccess p a wr v be => exact ⟨_, rfl, descAccess_canonical s p a wr v be⟩
  | dbgAccess a op v => exact ⟨_, rfl, dbgAccess_canonical s a op v⟩
  | descriptorCommit part => exact ⟨_, rfl, commitRegion_canonical s part.val⟩
  | readbackRefresh => exact ⟨_, rfl, refreshAll_canonical s⟩
  | agreedTick => exact ⟨_, rfl, agreedTick_canonical s⟩
  | mirrorRx m => exact ⟨_, rfl, .ite (mirrorRx_canonical s m) id⟩
  | mgmtWrite h pl => exact ⟨_, rfl, mgmtWrite_canonical s h pl⟩
  | iicTargetWrite t bs => exact ⟨_, rfl, iicTargetWrite_canonical s t bs⟩
  | iicPecStop t => exact ⟨_, rfl, iicPecStop_canonical s t⟩
  | chainProbeEnd probe => exact ⟨_, rfl, chainProbeEnd_canonical s probe⟩
  | bootTimeout => exact ⟨_, rfl, bootTimeout_canonical s⟩
  | porstNAssert => exact ⟨_, rfl, porstAssert_canonical s⟩
  | resetNAssert lowNs => exact ⟨_, rfl, resetNAssert_canonical s lowNs⟩
  | seqPgTimeout adc => exact ⟨_, rfl, seqPgTimeout_canonical s adc⟩
  | seqPgLost rail adc => exact ⟨_, rfl, seqPgLost_canonical s rail.val adc⟩
  | seqPowerDown => exact ⟨_, rfl, seqPowerDown_canonical s⟩
  | seqDownStep => exact ⟨_, rfl, seqDownStep_canonical s⟩
  | brownOut => exact ⟨_, rfl, brownOut_canonical s⟩
  | keyResetStart => exact ⟨_, rfl, keyResetStart_canonical s⟩
  | s3ResetDelay => exact ⟨_, rfl, s3ResetDelay_canonical s⟩
  | watchdogReset => exact ⟨_, rfl, watchdogReset_canonical s⟩
  | thermalRestart => exact ⟨_, rfl, thermalRestart_canonical s⟩
  | glitchDetect => exact ⟨_, rfl, glitchDetect_canonical s⟩
  | faultRaise src inst => exact ⟨_, rfl, faultRaise_canonical s src.toNat inst⟩
  | wcapEntry n moved => exact ⟨_, rfl, wcEntry_canonical s n.val moved⟩
  | joinPhaseEnd => exact ⟨_, rfl, joinPhaseEnd_canonical s⟩
  | chainHello h => exact ⟨_, rfl, chainHello_canonical s h⟩
  | mgmtResume => exact ⟨_, rfl, mgmtResume_canonical s⟩
  | dbgResume => exact ⟨_, rfl, dbgResume_canonical s⟩
  | _ => exact absurd rfl hk

/-- Settles O41: a tick changes the chip alone, and a command keeps the form whatever waits behind it. -/
theorem stepKeepsMemoriesCanonical : Obligations.StepKeepsMemoriesCanonical := by
  intro s t hs ht
  unfold step at ht
  split at ht
  case h_1 =>
    obtain rfl : s.onChip Chip.oneTick = t := by injection ht
    exact (onChip_stands s _).stays hs
  case h_2 c rest _ =>
    obtain ⟨u, hu, stays⟩ := exec_canonical { s with pending := rest } c
    obtain rfl : t = u := by injection ht.symm.trans hu
    exact stays hs

/-- Settles O42. -/
theorem resetIsCanonical : Obligations.ResetIsCanonical := ⟨rfl, rfl, rfl, rfl⟩

end Sys2Proof.Machine
end

section
/-! PROOFS. Accesses to descriptor memory: the enabled bytes of a write, and the region of a tenant (R185, R403, R404, R518). -/

namespace Sys2Proof.Machine

/-! The bytes of a write (R185, R518). -/

/-- Every cell reads as before but the enabled bytes, which read the written ones. -/
theorem memGet_putEnabled (o v : Nat) (be : BE) (is : List Nat) {m : Memory} (hm : m.wf = true) (j : Nat) :
    memGet (putEnabled o v be is m) (o + j)
      = if j ∈ is ∧ be.getLsbD j = true then BitVec.ofNat 8 (v / 256 ^ j) else memGet m (o + j) := by
  induction is generalizing m with
  | nil => rw [if_neg (fun h => List.not_mem_nil h.1)]; rfl
  | cons i is ih =>
    rw [putEnabled_cons]
    by_cases hi : be.getLsbD i = true
    · rw [if_pos hi, ih (memSet_wf _ _ _ hm)]
      by_cases hj : j = i
      · subst hj
        simp [hi, hm]
      · rw [memGet_memSet_ne m (show o + j ≠ o + i by omega)]
        simp [hj]
    · rw [if_neg hi, ih hm]
      have skip : j = i → ¬ be.getLsbD j = true := fun e => e ▸ hi
      by_cases hj : j = i
      · simp [skip hj]
      · simp [hj]

theorem memGet_putEnabled_below {o : Nat} (v : Nat) (be : BE) (is : List Nat) (m : Memory) {x : Nat} (hx : x < o) :
    memGet (putEnabled o v be is m) x = memGet m x := by
  induction is generalizing m with
  | nil => rfl
  | cons i is ih =>
    rw [putEnabled_cons, ih]
    split
    · exact memGet_memSet_ne m (by omega) _
    · rfl

/-- What descriptor memory holds after a write to it. -/
theorem descByte_descPut {s : State} {a : Nat} (v : Nat) (be : BE) (hs : s.canonical = true) (ha : 0x400000 ≤ a) (hb : a + 4 ≤ 0x800000)
    (y : Nat) : (s.descPut a v be).descByte y
      = if a ≤ y ∧ y < a + 4 ∧ be.getLsbD (y - a) = true then BitVec.ofNat 8 (v / 256 ^ (y - a)) else s.descByte y := by
  obtain ⟨hm, -⟩ := State.canonical_iff.mp hs
  rw [descPut_eq s v be ha (by omega)]
  unfold State.descByte
  by_cases hy : 0x400000 ≤ y ∧ y < 0x800000
  · simp only [if_pos hy]
    by_cases hlo : a ≤ y
    · obtain ⟨j, rfl⟩ := Nat.exists_eq_add_of_le hlo
      rw [show a + j - 0x400000 = a - 0x400000 + j by omega, memGet_putEnabled _ v be _ hm j, Nat.add_sub_cancel_left]
      simp [upTo]
    · rw [memGet_putEnabled_below v be _ _ (by omega), if_neg (fun h => hlo h.1)]
  · simp only [if_neg hy]
    rw [if_neg (by omega)]

/-- A write to descriptor memory that its path reaches and may make, in bytes that the memory takes. -/
theorem pathWrite_desc {s : State} {p : Path} {a v : Nat} {be : BE} (ha : 0x400000 ≤ a) (hb : a < 0x800000)
    (hr : s.chip.reaches p a = true) (hk : s.chip.pathRight p a true = .ok) (hbe : alignedBE be = true) :
    s.pathWrite p a v be = s.descWrite a v be := by
  simp [State.pathWrite, State.writeWord, State.writeWordBy, hr, hk, hbe, ha, hb]

/-- A chip that is not PAIRED takes the write itself; a joining twin may be told. -/
theorem descWrite_here {s : State} {a v : Nat} {be : BE}
    (hst : s.chip.rd R.TWIN_STATE pgTWIN = 0 ∨ s.chip.rd R.TWIN_STATE pgTWIN = 1 ∨ s.chip.rd R.TWIN_STATE pgTWIN = 4) :
    ∃ c, s.descWrite a v be = { s.descPut a v be with chip := c } := by
  unfold State.descWrite
  dsimp only
  rw [if_pos hst]
  split
  · exact ⟨_, rfl⟩
  · exact ⟨_, rfl⟩

theorem exec_descriptorWrite {s : State} {p : Path} {a v : Word} {be : BE} (ha : 0x400000 ≤ wordAddr a) (hb : wordAddr a < 0x800000) :
    exec (.descriptorAccess p a true v be) s = .next (s.pathWrite p (wordAddr a) v.toNat be) :=
  congrArg Host.Outcome.next (if_neg (by simp [ha, hb]))

theorem exec_descriptorRead {s : State} {p : Path} {a v : Word} {be : BE} (ha : 0x400000 ≤ wordAddr a) (hb : wordAddr a < 0x800000)
    (hbe : alignedBE be = true) : exec (.descriptorAccess p a false v be) s = .next (s.pathRead p (wordAddr a) be) :=
  congrArg Host.Outcome.next ((if_neg (by simp [ha, hb])).trans (if_pos hbe))

/-- Settles O49. -/
theorem descriptorWriteBytes : Obligations.DescriptorWriteBytes := by
  intro s p a v be hs ha hb hr hk hbe hst
  obtain ⟨c, hw⟩ := descWrite_here (a := wordAddr a) (v := v.toNat) (be := be) hst
  refine ⟨_, exec_descriptorWrite ha hb, ?_⟩
  rw [pathWrite_desc ha hb hr hk hbe, hw]
  have aligned : wordAddr a + 4 ≤ 0x800000 := by unfold wordAddr at hb ⊢; omega
  exact ⟨by rw [descPut_eq s _ be ha hb], descByte_descPut _ be hs ha aligned⟩

/-! A violation is counted (R404). -/

section
variable (c : Chip) (f : Fld) (b i : Nat)

/-- A record that is queued shows in the fields of the Field Book alone. -/
theorem rd_enqueue (r : FbRec) (hn : noisy (fldKey f b i) = false) (hq : fldKey f b i ≠ fldKey R.FBK_QUEUE pgFBK 0)
    (hd : fldKey f b i ≠ fldKey R.FBK_DROPPED pgFBK 0) : (c.enqueue r).rd f b i = c.rd f b i := by
  have drop (c : Chip) (r : FbRec) : (c.countDrop r).rd f b i = c.rd f b i := by
    rw [Chip.countDrop, rd_pulse _ _ _ _ _ _ (by decide) hn, Chip.modFbk_rd, rd_bump_ne _ _ _ _ _ _ _ _ hd]
  unfold Chip.enqueue
  extract_lets q c1
  split
  · rfl
  · split
    · rw [rd_level _ _ _ _ _ _ _ (by decide) hn, rd_up _ _ _ _ _ _ _ _ (by decide) hn, rd_wr_ne _ _ _ _ _ _ _ _ hq, Chip.modFbk_rd]
    · split
      · exact drop c r
      · rw [drop, Chip.modFbk_rd]

theorem rd_record (code source sev part : Nat) (payload : Bytes) (shelf : Bool) (hn : noisy (fldKey f b i) = false)
    (hq : fldKey f b i ≠ fldKey R.FBK_QUEUE pgFBK 0) (hd : fldKey f b i ≠ fldKey R.FBK_DROPPED pgFBK 0) :
    (c.record code source sev part payload shelf).rd f b i = c.rd f b i := by
  unfold Chip.record
  dsimp only
  split
  · rfl
  · rw [rd_enqueue _ _ _ _ _ hn hq hd]
    split <;> rfl
end

/-- The counter of a partition's violations is no field that a violation writes beside it. -/
theorem cntViol_apart (p : Part) : noisy (fldKey R.PART_CNT_VIOL pgPART p.val) = false
    ∧ (∀ k ∈ [fldKey R.FBK_QUEUE pgFBK 0, fldKey R.FBK_DROPPED pgFBK 0, fldKey R.PART_VIOL_ADDR pgPART 0, fldKey R.PART_PART pgPART 0,
        fldKey R.PART_WRITE pgPART 0, fldKey R.PART_PATH pgPART 0, fldKey R.PART_CNT_VIOLATION pgPART 0],
      fldKey R.PART_CNT_VIOL pgPART p.val ≠ k) := by
  revert p
  decide

/-- A violation counts for its partition. -/
theorem violation_counts (c : Chip) (p : Part) (a : Nat) (wr : Bool) (path : Nat) :
    (c.violation p.val a wr path).rd R.PART_CNT_VIOL pgPART p.val = (c.rd R.PART_CNT_VIOL pgPART p.val + 1) % 2 ^ 32 := by
  obtain ⟨hn, hne⟩ := cntViol_apart p
  simp only [List.forall_mem_cons, List.not_mem_nil, false_imp_iff, implies_true, and_true] at hne
  obtain ⟨hq, hd, haddr, hpart, hwr, hpath, hall⟩ := hne
  unfold Chip.violation
  rw [rd_pulse _ _ _ _ _ _ (by decide) hn, rd_bump_same, rd_bump_ne _ _ _ _ _ _ _ _ hall, rd_hw _ _ _ _ _ _ (by decide) hn]
  simp only [foldc, List.foldl_cons, List.foldl_nil, rd_wr_ne _ _ _ _ _ _ _ _ haddr, rd_wr_ne _ _ _ _ _ _ _ _ hpart,
    rd_wr_ne _ _ _ _ _ _ _ _ hwr, rd_wr_ne _ _ _ _ _ _ _ _ hpath, rd_record _ _ _ _ _ _ _ _ _ _ hn hq hd]
  rfl

/-- VIOL_ADDR tells where the last violation was (R406). -/
theorem violation_addr (c : Chip) (p : Part) (a : Nat) (wr : Bool) (path : Nat) :
    (c.violation p.val a wr path).rd R.PART_VIOL_ADDR pgPART = a % 2 ^ 32 := by
  have hn : noisy (fldKey R.PART_VIOL_ADDR pgPART 0) = false := by decide
  have counter : fldKey R.PART_VIOL_ADDR pgPART 0 ≠ fldKey R.PART_CNT_VIOL pgPART p.val := by
    obtain ⟨-, hne⟩ := cntViol_apart p
    exact (hne _ (by simp)).symm
  unfold Chip.violation
  rw [rd_pulse _ _ _ _ _ _ (by decide) hn, rd_bump_ne _ _ _ _ _ _ _ _ counter, rd_bump_ne _ _ _ _ _ _ _ _ (by decide),
    rd_hw _ _ _ _ _ _ (by decide) hn]
  simp only [foldc, List.foldl_cons, List.foldl_nil]
  rw [rd_wr_ne _ _ _ _ _ _ _ _ (by decide), rd_wr_ne _ _ _ _ _ _ _ _ (by decide), rd_wr_ne _ _ _ _ _ _ _ _ (by decide), rd_wr_same]
  rfl

/-! The region of a tenant (R185, R403). -/

section
variable {s : State} {p : Part} {a : Nat} (hp : p.val ≠ 0) (ha : 0x400000 ≤ a) (hb : a < 0x800000)
  (hreg : (a - 0x400000) / 0x80000 ≠ p.val)
include hp ha hb hreg

/-- A tenant has no right to a word of another region through its window, whether that is enabled or not. -/
theorem pathRight_region (wr : Bool) : s.chip.pathRight (.bar2 p) a wr = .viol := by
  have right : s.chip.right p.val a wr = .viol := by simp [Chip.right, ha, hb, hp, hreg]
  simp [Chip.pathRight, Path.window, right]

variable {be : BE} (hr : s.chip.reaches (.bar2 p) a = true)
include hr

theorem pathWrite_region (v : Nat) (hbe : alignedBE be = true) :
    s.pathWrite (.bar2 p) a v be = s.onChip (fun c => c.pathViol (.bar2 p) a true) := by
  simp [State.pathWrite, State.writeWord, State.writeWordBy, hr, hbe, ha, hb, pathRight_region hp ha hb hreg, State.onChip]

theorem pathRead_region : s.pathRead (.bar2 p) a be = s.onChip (fun c =>
    ((c.dropHeld (8 + p.val)).pathViol (.bar2 p) a false).modPath (8 + p.val) (fun t => { t with
      rdata := BitVec.ofNat 32 (maskBytes 0 be) })) := by
  simp [State.pathRead, State.readWord, hr, pathRight_region hp ha hb hreg, State.onChip, Path.key]
end

/-- No byte of zero is anything but zero. -/
theorem maskBytes_zero (be : BE) : maskBytes 0 be = 0 := by
  simp [maskBytes, upTo, List.range_succ, leNat]

/-- Settles O51, by the kind of access. -/
theorem tenantRegionIsolation : Obligations.TenantRegionIsolation := by
  intro s p a v wr be hp ha hb hreg hr hbe
  cases wr with
  | true =>
    refine ⟨_, exec_descriptorWrite ha hb, ?_⟩
    rw [pathWrite_region hp ha hb hreg hr _ hbe]
    exact ⟨rfl, rfl, violation_counts s.chip p _ true 0, violation_addr s.chip p _ true 0, fun h => by cases h⟩
  | false =>
    refine ⟨_, exec_descriptorRead ha hb hbe, ?_⟩
    rw [pathRead_region hp ha hb hreg hr]
    refine ⟨rfl, rfl, ?_, ?_, fun _ => ?_⟩
    · rw [State.onChip_chip, Chip.modPath_rd]
      exact (violation_counts _ p _ false 0).trans (by rw [dropHeld_rd])
    · exact violation_addr _ p _ false 0
    · rw [State.onChip_chip, Chip.modPath_path, maskBytes_zero]
      rfl

end Sys2Proof.Machine
end

section
/-! PROOFS. Commits and the readback refresh, agreed ticks, and the phase ends of a joining twin (R187, R192, R340, R357). -/

namespace Sys2Proof.Machine

/-! Commits (R187, R357). -/

section
variable (s : State) (p : Part) (hgen : commitGen s.mem p.val ≠ doneGen s.mem p.val) (hup : s.chip.plumb.mgmtUp = true)
  (hhalt : s.chip.plumb.mgmtHalt = false) (hfail : s.chip.plumb.mgmtFail = false) (hpause : s.chip.fwu.paused = false)
  (hnone : s.chip.twin.commits.any (fun e => e.1 == p.val) = false)
include hgen hup hhalt hfail hpause hnone

/-- With a new generation, MGMT at work and no commit of the region under way, a commit is held or made. -/
theorem commitRegion_begins : commitRegion s p.val =
    if s.chip.rd R.TWIN_STATE pgTWIN = 2 ∨ (s.chip.solo ∧ s.chip.on R.TWIN_JOIN_PHASE pgTWIN) then
      s.onChip (fun c => c.modTwin (fun t => { t with heldCommits := if t.heldCommits.any (fun x => x.val == p.val) then t.heldCommits
        else t.heldCommits ++ [⟨p.val % 8, Nat.mod_lt _ (by decide)⟩] }))
    else commitRun s p.val :=
  if_neg (by simp [hgen, hup, hhalt, hfail, hpause, hnone])

theorem descriptorCommit_runs (hst : s.chip.rd R.TWIN_STATE pgTWIN = 1) (hph : s.chip.rd R.TWIN_JOIN_PHASE pgTWIN = 0) :
    ∃ t, exec (.descriptorCommit p) s = .next t ∧ t = commitRun s p.val := by
  refine ⟨_, rfl, (commitRegion_begins s p hgen hup hhalt hfail hpause hnone).trans (if_neg ?_)⟩
  simp [hst, Chip.on, hph]

theorem descriptorCommit_held (hst : s.chip.rd R.TWIN_STATE pgTWIN = 2) :
    ∃ t, exec (.descriptorCommit p) s = .next t ∧ p ∈ t.chip.twin.heldCommits ∧ t.mem = s.mem := by
  refine ⟨_, congrArg Host.Outcome.next
    ((commitRegion_begins s p hgen hup hhalt hfail hpause hnone).trans (if_pos (.inl hst))), ?_, rfl⟩
  simp only [State.onChip_chip, Chip.modTwin_twin]
  split
  case isTrue hin =>
    obtain ⟨q, hq, he⟩ := List.any_eq_true.mp hin
    exact Fin.ext (beq_iff_eq.mp he) ▸ hq
  case isFalse =>
    have self : p = ⟨p.val % 8, Nat.mod_lt _ (by decide)⟩ := Fin.ext (Nat.mod_eq_of_lt p.isLt).symm
    exact List.mem_append_right _ (List.mem_singleton.mpr self)
end

theorem readbackRefresh_acts (s : State) : ∃ t, exec .readbackRefresh s = .next t ∧ t = refreshAll s := ⟨_, rfl, rfl⟩

/-! Agreed ticks (R340). -/

/-- While every change agreed is for a later tick, none takes effect. -/
theorem agreedTick_early (s : State) (h : ∀ a ∈ s.chip.twin.agree, a.acked = true → s.chip.tick < a.x) :
    ∃ t, exec .agreedTick s = .next t ∧ t = s := by
  refine ⟨_, rfl, ?_⟩
  have none : s.chip.twin.agree.filter (fun a => a.acked && decide (a.x ≤ s.chip.tick)) = [] := by
    simpa [List.filter_eq_nil_iff] using h
  have all : s.chip.twin.agree.filter (fun a => !(a.acked && decide (a.x ≤ s.chip.tick))) = s.chip.twin.agree := by
    simpa [List.filter_eq_self, imp_iff_not_or] using h
  show agreedTick s = s
  simp only [agreedTick, none]
  simp only [Chip.modTwin, all]
  rfl

/-- The one change agreed, once its tick has come, takes effect on a chip that waits for no other. -/
theorem agreedTick_one {s : State} {a : Agreed} (h : s.chip.twin.agree = [a]) (hack : a.acked = true) (hx : a.x ≤ s.chip.tick) :
    agreedTick s = (s.onChip (fun c => c.modTwin (fun q => { q with agree := [] }))).applyAgreed a := by
  have due : (a.acked && decide (a.x ≤ s.chip.tick)) = true := by simp [hack, hx]
  simp only [agreedTick, h, Chip.modTwin, State.onChip, List.filter_cons, due]
  rfl

theorem agreedTick_cfgWrite (s : State) (x : Nat) (a v : Word) (b : Bool)
    (h : s.chip.twin.agree = [{ x := x, item := .cfgWrite a v, acked := true, mine := b }]) (hx : x ≤ s.chip.tick) :
    ∃ t, exec .agreedTick s = .next t
      ∧ t = s.onChip (fun c => (c.modTwin (fun q => { q with agree := [] })).applyWord a.toNat v.toNat b true 0) :=
  ⟨_, rfl, agreedTick_one h rfl hx⟩

theorem agreedTick_delegate (s : State) (x : Nat) (p : Port) (b : Bool)
    (h : s.chip.twin.agree = [{ x := x, item := .delegate p b, acked := true, mine := true }]) (hx : x ≤ s.chip.tick) :
    ∃ t, exec .agreedTick s = .next t ∧ (t.chip.port p.val).delegated = b ∧ t.chip.twin.agree = [] := by
  refine ⟨_, congrArg Host.Outcome.next (agreedTick_one h rfl hx), ?_, rfl⟩
  exact congrArg PortSt.delegated (Chip.modPort_port _ _ _)

/-! The phases of joining (R357). -/

/-- A phase that begins is shown, and its limit runs. -/
theorem joinPhase_shows (c : Chip) (ph ms : Nat) (hph : ph < 8) :
    (c.joinPhase ph ms).rd R.TWIN_JOIN_PHASE pgTWIN = ph
      ∧ mapGet (c.joinPhase ph ms).timers (tmKey tmPhase 0) 0 = (c.joinPhase ph ms).now + ms * dqMs + 1 := by
  unfold Chip.joinPhase
  rw [Chip.send_rd, Chip.arm_rd, rd_up_same _ _ _ _ _ (by decide) (by decide), Chip.send_timers, Chip.send_now, Chip.arm_timers]
  exact ⟨Nat.mod_eq_of_lt hph, mapGet_mapSet_same _ _ _ _⟩

/-- The phase that a joining twin's HELLO ends. -/
theorem joinPhaseEnd_hello (s : State) (hst : s.chip.rd R.TWIN_STATE pgTWIN = 2) (hph : s.chip.rd R.TWIN_JOIN_PHASE pgTWIN = 0)
    (hpeer : s.chip.twin.peer.isSome = true) : ∃ t, exec .joinPhaseEnd s = .next t ∧ t.chip.rd R.TWIN_JOIN_PHASE pgTWIN = 1
      ∧ mapGet t.chip.timers (tmKey tmPhase 0) 0 = t.chip.now + 50 * dqMs + 1 := by
  obtain ⟨shown, limit⟩ := joinPhase_shows s.chip 1 50 (by decide)
  have next : s.chip.joinerPhaseEnd = s.chip.joinPhase 1 50 := by simp [Chip.joinerPhaseEnd, hph, hpeer]
  have ends : joinPhaseEnd s = s.onChip (fun c => c.joinPhase 1 50) := by
    simp [joinPhaseEnd, hst, next, State.joinerNext, shown, hph, State.onChip]
  exact ⟨_, congrArg Host.Outcome.next ends, shown, limit⟩

/-- The phase CONFIG, as the twin that is joined ends it. -/
theorem joinPhaseEnd_config (s : State) (hst : s.chip.rd R.TWIN_STATE pgTWIN = 1) (hph : s.chip.rd R.TWIN_JOIN_PHASE pgTWIN = 2)
    (hpeer : s.chip.twin.peer.isSome = true) : ∃ t, exec .joinPhaseEnd s = .next t ∧ t.chip.rd R.TWIN_JOIN_PHASE pgTWIN = 3
      ∧ mapGet t.chip.timers (tmKey tmPhase 0) 0 = t.chip.now + 300 * dqMs + 1 := by
  obtain ⟨shown, limit⟩ := joinPhase_shows s.chip 3 300 (by decide)
  have ends : joinPhaseEnd s = s.onChip (fun c => c.joinPhase 3 300) := by
    simp [joinPhaseEnd, hst, hpeer, State.leadPhaseEnd, hph, Chip.paired, State.onChip]
  exact ⟨_, congrArg Host.Outcome.next ends, shown, limit⟩

/-- Settles O36, clause by clause. -/
theorem commitAndAgreementAct : Obligations.CommitAndAgreementAct :=
  ⟨descriptorCommit_runs, descriptorCommit_held, readbackRefresh_acts, agreedTick_early, agreedTick_cfgWrite, agreedTick_delegate,
    joinPhaseEnd_hello, joinPhaseEnd_config⟩

end Sys2Proof.Machine
end

section
/-! SUPPORT. Frames of the shelf services: caps, strings, feeders and channels, records, early warning and class-C results, and the changes that
one section takes alone. -/

namespace Sys2Proof.Machine

/-! Frames. -/

section
variable {n : Nat} {a b : List Comp} {c d e : Chip}

/-- A frame for one number is a frame for every other that leaves no port, stage end or engine out. -/
theorem Confined.any {m : Nat} (h : Confined n a c d) : Confined m (a ++ [.otherPorts, .otherStages, .otherEngines]) c d := by
  intro u hu
  have stands := h u (fun hm => hu (List.mem_append_left _ hm))
  cases u
  case otherPorts | otherStages | otherEngines => exact absurd (List.mem_append_right _ (by simp)) hu
  all_goals exact stands

/-- A component that stands leaves the frame. -/
theorem Confined.without {u : Comp} (h : Confined n a c d) (hu : u.Stands n c d) (hab : ∀ v ∈ a, v = u ∨ v ∈ b := by decide) : Confined n b c d := by
  intro v hv
  by_cases hva : v ∈ a
  · rcases hab v hva with rfl | hvb
    · exact hu
    · exact absurd hvb hv
  · exact h v hva

/-- A change of components other than ports, stage ends and engines. -/
theorem Confined.of_rest (h : d = c.take a d) (hp : d.ports = c.ports := by rfl) (hs : d.stages = c.stages := by rfl)
    (he : d.engines = c.engines := by rfl) : Confined n a c d :=
  .of_take h (fun q _ => by rw [Chip.port, hp]; rfl) (fun q _ => by rw [Chip.stage, hs]; rfl) (fun q _ => by rw [Chip.eng, he]; rfl)
end

section
variable {n : Nat} {a : List Comp} (c : Chip)

theorem confined_setCap (k : Nat) (v : CapSt) (h : [.caps] ⊆ a := by decide) : Confined n a c (c.setCap k v) := .mono (.of_rest rfl) h

theorem confined_modCap (k : Nat) (f : CapSt → CapSt) (h : [.caps] ⊆ a := by decide) : Confined n a c (c.modCap k f) := confined_setCap c k _ h

theorem confined_setStr (k : Nat) (v : StrSt) (h : [.strs] ⊆ a := by decide) : Confined n a c (c.setStr k v) := .mono (.of_rest rfl) h

theorem confined_modStr (k : Nat) (f : StrSt → StrSt) (h : [.strs] ⊆ a := by decide) : Confined n a c (c.modStr k f) := confined_setStr c k _ h

theorem confined_setFd (p : Nat) (v : FdSt) (h : [.feeders] ⊆ a := by decide) : Confined n a c (c.setFd p v) := .mono (.of_rest rfl) h

theorem confined_modFd (p : Nat) (f : FdSt → FdSt) (h : [.feeders] ⊆ a := by decide) : Confined n a c (c.modFd p f) := confined_setFd c p _ h

theorem confined_setCal (k : Nat) (v : CalSt) (h : [.cals] ⊆ a := by decide) : Confined n a c (c.setCal k v) := .mono (.of_rest rfl) h

theorem confined_modCal (k : Nat) (f : CalSt → CalSt) (h : [.cals] ⊆ a := by decide) : Confined n a c (c.modCal k f) := confined_setCal c k _ h

theorem confined_modMram (f : Mram → Mram) (h : [.mram] ⊆ a := by decide) : Confined n a c (c.modMram f) := .mono (.of_rest rfl) h

theorem confined_takeCfg (lo hi : Nat) (h : [.inForce] ⊆ a := by decide) : Confined n a c (c.takeCfg lo hi) := .mono (.of_rest rfl) h

/-- What a fold sends. -/
theorem confined_sends {α : Type} (xs : List α) (o : α → Chip → Out) (h : [.sent] ⊆ a := by decide) :
    Confined n a c (foldc xs (fun x c => c.send (o x c)) c) := .foldc (fun _ c => confined_send c _ h) c

theorem quiet_setBit (f : Fld) (b k : Nat) (on : Bool) : Quiet c (c.setBit f b k on) := by
  unfold Chip.setBit
  exact .ite (.refl c) (quiet_up c _ _ _ _)

theorem quiet_nodeBit (f : Fld) (k : Nat) (on : Bool) : Quiet c (c.nodeBit f k on) := by
  unfold Chip.nodeBit
  exact .ite (.ite (.refl c) (quiet_up c _ _ _ _)) (.refl c)

theorem confined_nodeBit (f : Fld) (k : Nat) (on : Bool) (h : quietParts ⊆ a := by decide) : Confined n a c (c.nodeBit f k on) :=
  confined_quiet (quiet_nodeBit c f k on) h
end

/-! A record changes the Field Book, and the feeder's state with it (R289, R446). -/

/-- What a record changes. -/
abbrev recordParts : List Comp := quietParts ++ [.fbk, .freeCtr]

/-- What a state of a feeder changes. -/
abbrev feederParts : List Comp := recordParts ++ [.timers, .ports, .feeders]

section
variable {n : Nat} (c : Chip)

theorem confined_enqueue_book (r : FbRec) : Confined n recordParts c (c.enqueue r) := by
  have drop (c : Chip) (r : FbRec) : Confined n recordParts c (c.countDrop r) :=
    ((confined_bump c _ _ _ _).trans (confined_modFbk _ _)).trans (confined_pulse _ _ _)
  unfold Chip.enqueue
  refine .ite (.refl c) (.ite ?_ ?_)
  · exact ((confined_modFbk c _).trans (confined_up _ _ _ _ _)).trans (confined_level _ _ _ _)
  · split
    · exact drop c r
    · exact (confined_modFbk c _).trans (drop _ _)

theorem confined_record_book (code source sev part : Nat) (payload : Bytes) (shelf : Bool) :
    Confined n recordParts c (c.record code source sev part payload shelf) := by
  unfold Chip.record
  exact .ite (.refl c) ((Confined.ite (confined_free c) (.refl c)).trans (confined_enqueue_book _ _))

theorem confined_sideDrop : Confined n feederParts c (c.sideDrop n) := confined_modPort c _

theorem confined_fdSet (st : Nat) : Confined n feederParts c (c.fdSet n st) := by
  unfold Chip.fdSet
  extract_lets was c1 c2 c4 c5 c6 c7 c8
  have h2 : Confined n feederParts c c2 := (confined_up c _ _ _ _).trans (confined_record_book c1 _ _ _ _ _ _).mono
  have h4 : Confined n feederParts c c4 := .ite (.ite h2 (h2.trans (confined_arm c2 _ _))) (h2.trans (confined_disarm c2 _))
  have h5 : Confined n feederParts c c5 := .ite (h4.trans (confined_arm c4 _ _)) (h4.trans (confined_disarm c4 _))
  have h6 : Confined n feederParts c c6 := .ite (h5.trans (confined_arm c5 _ _)) (h5.trans (confined_disarm c5 _))
  have attach : Confined n feederParts c c7 := (h6.trans (confined_modFd c6 _ _)).trans (confined_arm _ _ _)
  have away : Confined n feederParts c c8 := (h6.trans (confined_disarm c6 _)).trans (confined_disarm _ _)
  exact .ite (.refl c) (.ite (.ite (attach.trans (confined_arm c7 _ _)) attach) (.ite (away.trans (confined_sideDrop c8)) away))
end

/-! Early warning (R266). -/

/-- What judging the early warnings changes. -/
abbrev warnParts : List Comp := quietParts ++ [.timers, .ewBy, .caps]

section
variable {n : Nat} (c : Chip)

theorem confined_ewSet (g : Nat) (on : Bool) : Confined n (quietParts ++ [.caps]) c (c.ewSet g on) := by
  unfold Chip.ewSet
  exact .ite (.refl c) (((confined_setBit c n _ _ _ _).trans (confined_send _ _)).trans
    (.foldc (fun _ c => .ite (confined_modCap c _ _) (.refl c)) _))

theorem confined_ewGroupJudge (g : Nat) : Confined n warnParts c (c.ewGroupJudge g) := by
  unfold Chip.ewGroupJudge
  extract_lets now was live ended ms c1
  have caused : Confined n warnParts c (if now = was then c else { c with ewBy := mapSet c.ewBy g now }) :=
    .ite (.refl c) (.mono (.of_rest (a := [.ewBy]) rfl))
  have h1 : Confined n warnParts c c1 := caused.trans (.ite (.refl _) (confined_arm _ _ _))
  exact .ite (h1.trans (confined_ewSet c1 g true).mono) (.ite (h1.trans (confined_ewSet c1 g false).mono) h1)

theorem confined_ewJudge : Confined n warnParts c c.ewJudge := .foldc (fun g c => confined_ewGroupJudge c g) c
end

/-! Class-C results (R37). -/

section
variable {n : Nat} (c : Chip)

theorem confined_publish (item : Nat) (ws : List (Nat × Nat)) (zs : List (F32 × F32 × Nat)) :
    Confined n (quietParts ++ [.twin]) c (c.publish item ws zs) := by
  unfold Chip.publish
  extract_lets held c1 c2 c3
  have h1 : Confined n (quietParts ++ [.twin]) c c1 := .ite (confined_bump c _ _ _ _) (.refl c)
  have h3 : Confined n (quietParts ++ [.twin]) c c3 := (h1.trans (confined_modTwin c1 _)).trans (confined_modTwin c2 _)
  exact .ite (.refl c) (.ite (.refl c) (.ite (h3.trans (confined_proposeAt c3 n _ _)) h3))
end

/-! One section. -/

/-- `d` is `c` in all but what `a` lists, and in the sections but number `k`. -/
structure OneSec (k : Nat) (a : List Comp) (c d : Chip) : Prop where
  frame : Confined k a c d
  others : ∀ q, q ≠ k → d.sec q = c.sec q

section
variable {k : Nat} {a b : List Comp} {c d e : Chip}

theorem OneSec.refl (c : Chip) : OneSec k a c c := ⟨.refl c, fun _ _ => rfl⟩

theorem OneSec.trans (h : OneSec k a c d) (j : OneSec k a d e) : OneSec k a c e :=
  ⟨h.frame.trans j.frame, fun q hq => (j.others q hq).trans (h.others q hq)⟩

theorem OneSec.ite {p : Prop} [Decidable p] (h : OneSec k a c d) (j : OneSec k a c e) : OneSec k a c (if p then d else e) := by
  split
  · exact h
  · exact j

theorem OneSec.foldc {α : Type} {xs : List α} {f : α → Chip → Chip} (hf : ∀ x c, OneSec k a c (f x c)) (c : Chip) :
    OneSec k a c (foldc xs f c) := by
  induction xs generalizing c with
  | nil => exact .refl c
  | cons x xs ih => exact (hf x c).trans (ih (f x c))

/-- A frame may list more. -/
theorem OneSec.mono (h : OneSec k a c d) (hab : a ⊆ b := by decide) : OneSec k b c d := ⟨h.frame.mono hab, h.others⟩

/-- A change that lists no section. -/
theorem OneSec.of_confined (h : Confined k a c d) (hs : .secs ∉ a := by decide) (hab : a ⊆ b := by decide) : OneSec k b c d :=
  ⟨h.mono hab, fun q _ => congrArg (fun m => mapGet m q ({} : SecSt)) (h .secs hs)⟩

/-- Events, interrupts and registers leave the sections. -/
theorem OneSec.of_quiet (h : Quiet c d) (ha : quietParts ⊆ a := by decide) : OneSec k a c d :=
  .of_confined (confined_quiet (a := quietParts) h) (hab := ha)

theorem oneSec_modSec (c : Chip) (f : SecSt → SecSt) (h : [.secs] ⊆ a := by decide) : OneSec k a c (c.modSec k f) :=
  ⟨confined_modSec c k f h, fun _ hq => mapGet_mapSet_ne _ hq _ _⟩

theorem oneSec_arm (c : Chip) (key t : Nat) (h : [.timers] ⊆ a := by decide) : OneSec k a c (c.arm key t) :=
  .of_confined (confined_arm (a := [.timers]) c key t) (hab := h)

theorem oneSec_disarm (c : Chip) (key : Nat) (h : [.timers] ⊆ a := by decide) : OneSec k a c (c.disarm key) :=
  .of_confined (confined_disarm (a := [.timers]) c key) (hab := h)

/-- What a command leaves that changes one section at most. -/
theorem OneSec.next {s t : State} {f : Chip → Chip} (hf : ∀ c, OneSec k a c (f c)) (h : (.next (s.onChip f) : Result) = .next t) :
    t = { s with chip := s.chip.take a t.chip } ∧ ∀ q, q ≠ k → t.chip.sec q = s.chip.sec q := by
  refine ⟨someParts (fun c => (hf c).frame) h, ?_⟩
  obtain rfl := Host.Outcome.next.inj h
  exact (hf s.chip).others
end

end Sys2Proof.Machine
end

section
/-! PROOFS. Commands of the shelf services change only their own units (R236, R253, R265, R280, R306). -/

namespace Sys2Proof.Machine

/-! Felting (R236, R237). -/

section
variable (c : Chip) (k : Nat)

/-- A recompute moves ports of its section and notes that in the section alone. -/
abbrev recomputeParts : List Comp := quietParts ++ [.ports, .secs, .otherPorts, .otherStages, .otherEngines]

theorem confined_feltAim (per maxD : Nat) (frozen : Bool) (m : FeltMem) (tgt : Nat) :
    Confined m.p (quietParts ++ [.ports]) c (c.feltAim per maxD frozen m tgt) := by
  unfold Chip.feltAim
  extract_lets b c1
  have h1 : Confined m.p (quietParts ++ [.ports]) c c1 := .ite (.refl c) (confined_up c _ _ _ _)
  split
  · exact (h1.trans (.ite (.refl c1) (confined_up c1 _ _ _ _))).trans (confined_modPort _ _)
  · exact .ite (h1.trans (confined_modPort c1 _)) (h1.trans (confined_modPort c1 _))

theorem oneSec_feltAim (per maxD : Nat) (frozen : Bool) (m : FeltMem) (tgt : Nat) :
    OneSec k recomputeParts c (c.feltAim per maxD frozen m tgt) := .of_confined (confined_feltAim c per maxD frozen m tgt).any

theorem oneSec_slewStart : OneSec k recomputeParts c (c.slewStart k) := (oneSec_modSec c _).trans (.of_quiet (quiet_hw _ _ _))

theorem oneSec_feltRecompute : OneSec k recomputeParts c (feltRecompute c k) := by
  unfold feltRecompute
  extract_lets q en gs ch tg dl maxD frozen big flat was moves c1 c2 c3
  have h2 : OneSec k recomputeParts c c2 := (OneSec.foldc (fun (x : Nat × FeltMem × Nat) c => oneSec_feltAim c k x.1 maxD frozen x.2.1 x.2.2) c).trans (oneSec_modSec c1 _)
  have h3 : OneSec k recomputeParts c c3 :=
    .ite (h2.trans (oneSec_slewStart c2 k)) (.ite (h2.trans (.of_quiet (quiet_up c2 _ _ _ _))) h2)
  refine .ite (.refl c) (h3.trans ?_)
  split
  extract_lets c4 c5
  have shown : Quiet c3 (c5.pulse pgFELT k) := ((((quiet_hw c3 _ _).trans (quiet_setBit _ _ _ _ _)).trans (quiet_setBit _ _ _ _ _)).trans
    (quiet_bump _ _ _ _ _)).trans (quiet_pulse c5 _ _)
  exact .of_quiet shown

theorem confined_feltSlewDone : Confined k quietParts c (feltSlewDone c k) := by
  unfold feltSlewDone
  exact .ite (((confined_up c _ _ _ _).trans (confined_setBit _ k _ _ _ _)).trans (confined_pulse _ _ _)) (.refl c)
end

/-! Hold-up of a section (R249, R253, R266). -/

/-- What a hold-up state of a section changes. -/
abbrev holdParts : List Comp := quietParts ++ [.timers, .twin, .secs, .ewBy, .caps]

section
variable (c : Chip) (k : Nat)

theorem oneSec_huSet (st : Nat) : OneSec k holdParts c (c.huSet k st) := by
  unfold Chip.huSet
  extract_lets was c1 c2 c3 c4 c5 c6
  have q1 : Quiet c c1 := (quiet_up c _ _ _ _).trans (quiet_setBit _ _ _ _ _)
  have transfer := ((((q1.trans (quiet_up c1 R.HOLD_REPLUGS pgHOLD 0 k)).trans
    (quiet_hw _ pgHOLD [(R.HOLD_SHAVING, k, 0), (R.HOLD_RECHARGING, k, 0)])).trans
    (quiet_bump _ R.HOLD_CNT_TRANSFER pgHOLD k 1)).trans (quiet_pulse _ pgHOLD k)).trans (quiet_capCause _ (fun t _ g => t == 3 && g == k))
  have back := (q1.trans (quiet_bump c1 R.HOLD_CNT_RETURN pgHOLD k 1)).trans (quiet_pulse _ pgHOLD (8 + k))
  have h2 : OneSec k holdParts c c2 := .of_quiet (.ite transfer (.ite back q1))
  have h3 : OneSec k holdParts c c3 := .ite (h2.trans (oneSec_modSec c2 _)) h2
  have h4 : OneSec k holdParts c c4 := .ite (h3.trans (oneSec_arm c3 _ _)) (h3.trans (oneSec_disarm c3 _))
  have h5 : OneSec k holdParts c c5 := .ite (h4.trans (oneSec_arm c4 _ _)) (h4.trans (oneSec_disarm c4 _))
  have h6 : OneSec k holdParts c c6 := .ite (h5.trans (oneSec_modSec c5 _)) h5
  have judged : OneSec k holdParts c6 c6.ewJudge := .of_confined (confined_ewJudge c6)
  exact .ite (.refl c) ((h6.trans judged).trans (.of_confined (confined_proposeAt (a := [.twin, .sent]) _ k _ _)))

theorem oneSec_transferEnd : OneSec k holdParts c (transferEnd c k) := by
  unfold transferEnd
  exact .ite ((oneSec_disarm c _).trans (oneSec_huSet _ k 3)) (.refl c)

theorem oneSec_qualifyEnd : OneSec k holdParts c (qualifyEnd c k) := by
  unfold qualifyEnd
  exact .ite ((oneSec_disarm c _).trans (oneSec_huSet _ k 5)) (.refl c)

theorem oneSec_overloadSpent : OneSec k [.timers, .secs] c (overloadSpent c k) := by
  unfold overloadSpent
  exact .ite ((oneSec_disarm c _).trans (oneSec_modSec _ _)) (.refl c)

theorem oneSec_overloadRestore : OneSec k [.timers, .secs] c (overloadRestore c k) := by
  unfold overloadRestore
  exact .ite ((oneSec_disarm c _).trans (oneSec_modSec _ _)) (.refl c)

theorem confined_ewHoldExpiry (g : Nat) : Confined g (quietParts ++ [.timers, .caps]) c (ewHoldExpiry c g) := by
  unfold ewHoldExpiry
  extract_lets c1
  have h1 : Confined g (quietParts ++ [.timers, .caps]) c c1 := confined_disarm c _
  exact .ite (.ite h1 (h1.trans (confined_ewSet c1 g false).mono)) (.refl c)
end

/-! Crown (R263, R264, R265). -/

section
variable {n : Nat} (c : Chip)

theorem confined_enforce (k : Nat) : Confined n warnParts c (c.enforce k) :=
  ((((confined_modCap c _ _).trans (confined_bump _ _ _ _ _)).trans (confined_nodeBit _ _ _ _)).trans (confined_nodeBit _ _ _ _)).trans
    (confined_disarm _ _)

theorem confined_takeGrant (k p : Nat) (g : F32) : Confined n warnParts c (c.takeGrant k p g) := by
  unfold Chip.takeGrant
  extract_lets q c1 full lim c2
  have h1 : Confined n warnParts c c1 := confined_setCap c _ _
  have h2 : Confined n warnParts c c2 := confined_setCap c _ _
  refine .ite (.ite (h1.trans (confined_enforce c1 k)) ((h1.trans (confined_nodeBit c1 _ _ _)).trans (confined_arm _ _ _))) ?_
  exact ((h2.trans (confined_nodeBit c2 _ _ _)).trans (confined_nodeBit _ _ _ _)).trans (confined_disarm _ _)

theorem confined_crownRun : Confined n warnParts c c.crownRun := by
  unfold Chip.crownRun
  extract_lets ns root o grant us c1 c2
  have h1 : Confined n warnParts c c1 := (confined_hw c _ _).trans (confined_bump _ _ _ _ _)
  have h2 : Confined n warnParts c1 c2 := by
    refine .foldc (fun x c => ?_) c1
    split
    · exact confined_takeGrant c _ _ _
    · exact .refl c
  exact (h1.trans h2).trans (confined_ewJudge c2)

theorem confined_meanOut (p : Nat) : Confined n (quietParts ++ [.feeders]) c (c.meanOut p) := by
  unfold Chip.meanOut
  extract_lets f v c1
  have h1 : Confined n (quietParts ++ [.feeders]) c c1 := confined_setFd c _ _
  exact .ite h1 (h1.trans (confined_up c1 _ _ _ _))

theorem confined_crownUpdate : Confined n (warnParts ++ [.feeders]) c (crownUpdate c) := by
  unfold crownUpdate
  extract_lets c1
  have h1 : Confined n (warnParts ++ [.feeders]) c c1 := (Confined.foldc (fun p c => (confined_meanOut c p).mono) c).trans (confined_arm _ _ _)
  exact .ite (.refl c) (.ite (h1.trans (confined_crownRun c1).mono) h1)

theorem confined_crownExtraUpdate : Confined n (warnParts ++ [.twin]) c (crownExtraUpdate c) := by
  unfold crownExtraUpdate
  extract_lets c1
  have h1 : Confined n (warnParts ++ [.twin]) c c1 := confined_modTwin c _
  exact .ite (.ite (h1.trans (confined_crownRun c1).mono) h1) (.refl c)

theorem confined_graceExpiry (k : Nat) : Confined n warnParts c (graceExpiry c k) := by
  unfold graceExpiry
  exact .ite ((confined_enforce c k).trans (confined_ewJudge _)) (.refl c)
end

/-! Gauge (R272, R278, R280, R329). -/

/-- What the update of a string changes. -/
abbrev stringParts : List Comp := quietParts ++ [.twin, .secs, .strs]

/-- What the update of every string changes. -/
abbrev gaugeParts : List Comp := stringParts ++ [.inForce, .timers]

section
variable {n : Nat} (c : Chip)

theorem confined_countCycle (m : Nat) (dq : F32) : Confined n (quietParts ++ [.strs]) c (c.countCycle m dq) := by
  unfold Chip.countCycle
  exact .ite (.ite ((confined_modStr c _ _).trans (confined_up _ _ _ _ _)) (confined_modStr c _ _)) (.refl c)

theorem confined_strUpdate (m : Nat) : Confined n stringParts c (c.strUpdate m) := by
  unfold Chip.strUpdate
  extract_lets q w sum k none' i v dt dq cap soc0 unc0 unc1 tgt lim
  split
  extract_lets fix
  split
  extract_lets wh w1 c1 c2
  have h1 : Confined n stringParts c c1 := confined_setStr c _ _
  have h2 : Confined n stringParts c1 c2 := by
    unfold c2
    split
    · exact confined_modSec c1 _ _
    · exact .refl c1
  exact ((h1.trans h2).trans (confined_countCycle c2 m dq).mono).trans (confined_publish _ _ _ _).mono

theorem confined_gaugeUpdate : Confined n gaugeParts c (gaugeUpdate c) := by
  unfold gaugeUpdate
  extract_lets runs c1
  have h1 : Confined n gaugeParts c c1 := (confined_arm c _ _).trans (.foldc (fun m c => confined_modStr c m _) _)
  exact .ite (.refl c) ((h1.trans (.foldc (fun m c => (confined_strUpdate c m).mono) c1)).trans (confined_takeCfg _ _ _))

theorem oneSec_zMeasureStart (k : Nat) : OneSec k (quietParts ++ [.secs]) c (zMeasureStart c k) := by
  unfold zMeasureStart
  extract_lets ns
  refine .ite (.refl c) ?_
  split
  · exact .refl c
  · exact ((oneSec_modSec c _).trans (.of_quiet (quiet_hw _ _ _))).trans (.of_quiet (quiet_up _ _ _ _ _))

theorem confined_writeCell (m j : Nat) (v : F32 × F32) : Confined n [.mram] c (c.writeCell m j v) := by
  unfold Chip.writeCell
  exact .ite (.refl c) (confined_modMram c _)

theorem confined_zStore (k m f : Nat) (re im : F32) : Confined n (quietParts ++ [.twin, .strs, .mram]) c (c.zStore k m f re im) := by
  unfold Chip.zStore
  extract_lets q w z j cell young v q1 e soh
  have stored (x : StrSt) : Confined n (quietParts ++ [.twin, .strs, .mram]) c ((c.setStr m x).writeCell m cell v) :=
    (confined_setStr c _ _).trans (confined_writeCell _ _ _ _).mono
  exact .ite (.refl c) (.ite ((stored _).trans (confined_publish _ _ _ _).mono) (stored q1))

theorem oneSec_zMeasureEnd (k m f start : Nat) : OneSec k (quietParts ++ [.twin, .secs, .strs, .mram]) c (zMeasureEnd c k m f start) := by
  unfold zMeasureEnd
  extract_lets q ok z c1
  have h1 : OneSec k (quietParts ++ [.twin, .secs, .strs, .mram]) c c1 :=
    (oneSec_modSec c _).trans (.of_quiet ((quiet_up _ _ _ _ _).trans (quiet_up _ _ _ _ _)))
  exact .ite (.refl c) (.ite (.refl c) (.ite (h1.trans (.of_confined (confined_zStore c1 k m f z.1 z.2))) h1))

theorem confined_batteryRecordWrite : Confined n [.timers, .mram] c (batteryRecordWrite c) := by
  unfold batteryRecordWrite
  exact .ite (.refl c) (.ite ((confined_modMram c _).trans (confined_arm _ _ _)) (.refl c))
end

/-! Feeders (R289, R291, R297, R306, R307, R309). -/

/-- What a message to the tray changes. -/
abbrev trayParts : List Comp := quietParts ++ [.timers, .ports, .caps, .feeders]

section
variable (c : Chip) (p : Nat)

theorem confined_retriesClear : Confined p (quietParts ++ [.timers]) c (retriesClear c p) := by
  unfold retriesClear
  extract_lets c1
  have h1 : Confined p (quietParts ++ [.timers]) c c1 := confined_disarm c _
  exact .ite (.ite h1 (h1.trans (confined_up c1 _ _ _ _))) (.refl c)

theorem confined_modelLateClear : Confined p (quietParts ++ [.timers]) c (modelLateClear c p) := by
  unfold modelLateClear
  exact .ite ((confined_disarm c _).trans (confined_up _ _ _ _ _)) (.refl c)

theorem confined_tripClearCheck : Confined p feederParts c (tripClearCheck c p) := by
  unfold tripClearCheck
  extract_lets c1 st
  have h1 : Confined p feederParts c c1 := (confined_disarm c _).trans (confined_modFd _ _ _)
  have go (v : Nat) : Confined p feederParts c (c1.fdSet p v) := h1.trans (confined_fdSet c1 v)
  exact .ite (.ite (.ite (go 7) (go _)) h1) (.refl c)

theorem confined_hrHoldEnd : Confined p feederParts c (hrHoldEnd c p) := by
  unfold hrHoldEnd
  extract_lets c1
  have h1 : Confined p feederParts c c1 := (confined_disarm c _).trans (confined_up _ _ _ _ _)
  exact .ite (.ite (h1.trans (confined_fdSet c1 2)) h1) (.refl c)

theorem confined_roleWindowSwitch : Confined p [.timers, .feeders] c (roleWindowSwitch c p) := by
  unfold roleWindowSwitch
  extract_lets c1
  have h1 : Confined p [.timers, .feeders] c c1 := (confined_modFd c _ _).trans (confined_arm _ _ _)
  exact .ite (.ite (h1.trans (confined_arm c1 _ _)) h1) (.refl c)

theorem confined_negPut (id : Nat) (m : NegMsg) : Confined p trayParts c (c.negPut p id m) := by
  unfold Chip.negPut
  extract_lets bs c1
  have h1 : Confined p trayParts c c1 := .ite (confined_send c _) (.foldc (fun q c => confined_pushReq c p q) c)
  exact (h1.trans (confined_bump c1 _ _ _ _)).trans (confined_send _ _)

theorem confined_negNext : Confined p trayParts c (c.negNext p) := by
  unfold Chip.negNext
  extract_lets f id
  split
  · exact .refl c
  · exact .refl c
  · extract_lets c1
    have h1 : Confined p trayParts c c1 := (confined_setFd c _ _).trans (confined_negPut _ p _ _)
    exact .ite h1 (h1.trans (confined_arm c1 _ _))

theorem confined_negSend (m : NegMsg) : Confined p trayParts c (c.negSend p m) := by
  unfold Chip.negSend
  exact .ite ((confined_modFd c _ _).trans (confined_negNext _ p)) (.refl c)

theorem confined_capSend : Confined p trayParts c (capSend c p) := by
  unfold capSend
  exact .ite ((confined_modCap c _ _).trans (confined_negSend _ p _)) (.refl c)

theorem confined_warnSend : Confined p trayParts c (warnSend c p) := by
  unfold warnSend
  exact .ite ((confined_modCap c _ _).trans (confined_negSend _ p _)) (.refl c)
end

end Sys2Proof.Machine
end

section
/-! PROOFS. Benchmark's windows and publications change only their own units (R318, R321, R324, R325). -/

namespace Sys2Proof.Machine

/-! One-tick bits stand but for an event that raises one. -/

section
variable (c : Chip) (b : Nat)

theorem foldc_pulses {α : Type} (xs : List α) (f : α → Chip → Chip) (hf : ∀ x c, (f x c).pulses = c.pulses) :
    (foldc xs f c).pulses = c.pulses := by
  induction xs generalizing c with
  | nil => rfl
  | cons x xs ih => exact (ih (f x c)).trans (hf x c)

theorem Chip.pmcAdd_pulses (j n : Nat) : (c.pmcAdd b j n).pulses = c.pulses := by
  simp only [Chip.pmcAdd, apply_ite Chip.pulses, Chip.wr_pulses, ite_self]

theorem Chip.pmcEvent_pulses (e n : Nat) : (c.pmcEvent b e n).pulses = c.pulses := by
  have count : ∀ (j : Nat) (d : Chip), (if d.pmcSelects b j e then d.pmcAdd b j n else d).pulses = d.pulses := fun j d => by
    rw [apply_ite Chip.pulses, Chip.pmcAdd_pulses, ite_self]
  unfold Chip.pmcEvent
  rw [apply_ite Chip.pulses, foldc_pulses c _ _ count, ite_self]

theorem Chip.hw_pulses (us : List (Fld × Nat × Nat)) : (c.hw b us).pulses = c.pulses := by
  have written : (foldc us (fun u c => c.wr u.1 b u.2.2 u.2.1) c).pulses = c.pulses := foldc_pulses c _ _ (fun _ _ => rfl)
  unfold Chip.hw
  split
  · exact (Chip.pmcEvent_pulses _ b 3 1).trans written
  · exact written

theorem Chip.up_pulses (f : Fld) (v i : Nat) : (c.up f b v i).pulses = c.pulses := Chip.hw_pulses c b _

theorem Chip.pendBit_pulses (on : Bool) : (c.pendBit b on).pulses = c.pulses := by
  unfold Chip.pendBit
  split
  · exact Chip.up_pulses c _ _ _ _
  · exact Chip.up_pulses c _ _ _ _
  · rfl
  · rfl

theorem Chip.sendVec_pulses (v : Nat) : (c.sendVec v).pulses = c.pulses := by
  unfold Chip.sendVec
  split
  · split
    · rfl
    · exact Chip.send_pulses c _
  · rfl

theorem Chip.reIrq_pulses (resend : Bool) : (c.reIrq b resend).pulses = c.pulses := by
  unfold Chip.reIrq
  split
  · rfl
  · extract_lets was on had c1
    have h1 : c1.pulses = c.pulses := by
      unfold c1
      split
      · rfl
      · exact Chip.pendBit_pulses _ b on
    split
    · exact (Chip.sendVec_pulses c1 _).trans h1
    · exact h1

theorem Chip.capCause_pulses (hit : Nat → Nat → Nat → Bool) : (c.capCause hit).pulses = c.pulses := by
  refine foldc_pulses c _ _ (fun k c => ?_)
  split <;> rfl

theorem Chip.latchEvt_pulses (k : Nat) : (c.latchEvt b k).pulses = c.pulses := Chip.reIrq_pulses _ b false

theorem Chip.riseEvt_pulses (k : Nat) : (c.riseEvt b k).pulses = c.pulses := by
  unfold Chip.riseEvt
  split
  · exact Chip.latchEvt_pulses c b k
  · extract_lets c1
    have h1 : c1.pulses = c.pulses := (Chip.latchEvt_pulses _ b k).trans (Chip.pmcEvent_pulses _ b _ _)
    split
    · exact (Chip.capCause_pulses c1 _).trans h1
    · exact h1
    · exact h1

theorem Chip.level_pulses (k : Nat) (on : Bool) : (c.level b k on).pulses = c.pulses := by
  unfold Chip.level
  split
  · split
    · rfl
    · exact Chip.riseEvt_pulses c b k
  · rfl

theorem Chip.staleLevel_pulses : c.staleLevel.pulses = c.pulses := Chip.level_pulses c pgBMK 8 _
end

/-! Windows (R318, R320, R327). -/

/-- What Benchmark's work on a channel changes. -/
abbrev channelParts : List Comp := quietParts ++ [.cals]

/-- What the end of a window of a section changes. -/
abbrev windowParts : List Comp := channelParts ++ [.inForce, .timers, .secs]

section
variable {n : Nat} (c : Chip)

theorem confined_tellCal (p ch : Nat) : Confined n [.sent] c (c.tellCal p ch) := by
  unfold Chip.tellCal Chip.sendBins Chip.sendCalRegs
  exact .ite (((confined_sends c _ _).trans (confined_send _ _)).trans (confined_sends _ _ _)) (.refl c)

theorem confined_staleLevel : Confined n channelParts c c.staleLevel := confined_level c _ _ _

theorem confined_storeFit (s : Nat) (w : CalWindow) (f : CalFit) : Confined n channelParts c (c.storeFit s w f) := by
  unfold Chip.storeFit
  extract_lets p ch q lb idx kind k ug fs us
  split
  extract_lets b c1
  have h1 : Confined n channelParts c c1 := confined_setCal c _ _
  exact (h1.trans (.ite (.refl c1) ((confined_hw c1 _ _).trans (confined_staleLevel _)))).trans (confined_tellCal _ p ch).mono

theorem oneSec_takeZ (k : Nat) (zs : List ZPoint) : OneSec k [.secs] c (c.takeZ k zs) := by
  have store (z : ZPoint) (c : Chip) : OneSec k [.secs] c (c.storeZ k z) := .ite (oneSec_modSec c _) (.refl c)
  unfold Chip.takeZ
  extract_lets fs c1
  have h1 : OneSec k [.secs] c c1 := .foldc store c
  split
  · exact h1.trans (oneSec_modSec c1 _)
  · exact h1

theorem confined_tellZ (s : Nat) : Confined n [.sent] c (c.tellZ s) := by
  unfold Chip.tellZ
  exact .ite (confined_sends c _ _) (.refl c)

theorem quiet_zStale (s : Nat) : Quiet c (c.zStale s) := by
  unfold Chip.zStale
  extract_lets q st c1
  have h1 : Quiet c c1 := .ite (.refl c) (quiet_up c _ _ _ _)
  exact h1.trans (quiet_level c1 _ _ _)

theorem oneSec_startWindow (k : Nat) : OneSec k windowParts c (c.startWindow k) := by
  unfold Chip.startWindow
  extract_lets c0 c1 c2
  have h0 : OneSec k windowParts c c0 := .of_confined (confined_takeCfg (a := [.inForce]) c _ _)
  have h1 : OneSec k windowParts c c1 := h0.trans (oneSec_modSec c0 _)
  have h2 : OneSec k windowParts c c2 := h1.trans (.of_confined (a := [.cals]) (.of_rest rfl))
  exact h2.trans (oneSec_arm c2 _ _)

theorem quiet_windowTally (s : Nat) (w : CalWindow) : Quiet c (c.windowTally s w) := by
  unfold Chip.windowTally
  extract_lets c0 noI
  have h0 : Quiet c c0 := .ite (quiet_bump c _ _ _ _) (.refl c)
  exact .ite h0 (h0.trans (quiet_up c0 _ _ _ _))

theorem oneSec_calWindowEnd (k : Nat) (w : CalWindow) : OneSec k windowParts c (calWindowEnd c k w) := by
  unfold calWindowEnd
  extract_lets cfg bad c0 noI c1 fits c3 c2 c4
  have h1 : OneSec k windowParts c c1 := .of_quiet (quiet_windowTally c k w)
  have h3 : OneSec k windowParts c c3 := (h1.trans (.of_quiet (quiet_bump c1 _ _ _ _))).trans
    (.foldc (fun f c => .of_confined (confined_storeFit c k _ f)) _)
  have told : OneSec k windowParts (c3.takeZ k w.zpoints) ((c3.takeZ k w.zpoints).tellZ k) := .of_confined (confined_tellZ _ k)
  have h2 : OneSec k windowParts c c2 := .ite (h1.trans (.of_quiet (quiet_bump c1 _ _ _ _)))
    (.ite h1 (.ite ((h3.trans (oneSec_takeZ c3 k w.zpoints).mono).trans told) h3))
  have h4 : OneSec k windowParts c c4 := h2.trans (.of_quiet (quiet_zStale c2 k))
  exact .ite (.refl c) (.ite (h4.trans (oneSec_startWindow c4 k)) (h4.trans (oneSec_disarm c4 _)))
end

/-! Zero-current windows (R321). -/

/-- What a zero-current window changes: no event is raised. -/
abbrev zeroParts : List Comp := [.regs, .irqs, .wcap, .host, .sent, .cals]

section
variable {n : Nat} (c : Chip)

theorem confined_zeroWindowOpen (p ch : Nat) : Confined n [.cals] c (zeroWindowOpen c p ch) := by
  unfold zeroWindowOpen
  exact .ite (confined_modCal c _ _) (.refl c)

theorem confined_zeroWindowEnd (p ch first last : Nat) : Confined n zeroParts c (zeroWindowEnd c p ch first last) := by
  unfold zeroWindowEnd
  extract_lets q mean se c1 c2
  have h1 : Confined n zeroParts c c1 := confined_modCal c _ _
  have h2 : Confined n zeroParts c c2 := h1.trans (confined_modCal c1 _ _)
  have fresh : Confined n zeroParts c2 ((c2.up R.SP_CAL_STALE (pgSP p) 0 ch).staleLevel) :=
    Confined.without (a := channelParts) (u := .pulses) ((confined_up c2 _ _ _ _).trans (confined_staleLevel _))
      ((Chip.staleLevel_pulses _).trans (Chip.up_pulses c2 _ _ _ _))
  exact .ite (.refl c) (.ite ((h2.trans (.ite fresh (.refl c2))).trans (confined_tellCal _ p ch).mono) h1)
end

/-! Publications (R324, R325, R326). -/

/-- What a publication changes: a stale calibration raises a fault, and thresholds of ports are written anew. -/
abbrev publishParts : List Comp := raiseParts ++ [.inForce, .ports, .cals, .otherPorts, .otherStages, .otherEngines]

section
variable {n : Nat} (c : Chip)

theorem confined_rewriteThresholds (p : Nat) : Confined p [.ports] c (c.rewriteThresholds p) := by
  unfold Chip.rewriteThresholds
  split
  · exact .refl c
  · extract_lets c1
    have h1 : Confined p [.ports] c c1 := .ite (confined_pushReq c p _) (.refl c)
    exact .ite (.ite (h1.trans (confined_pushReq c1 p _)) h1) (.refl c)

theorem confined_calChanged (p : Nat) (was : Nat → Bool) : Confined p (raiseParts ++ [.ports]) c (c.calChanged p was) := by
  unfold Chip.calChanged
  extract_lets c2 new c3
  have h2 : Confined p (raiseParts ++ [.ports]) c c2 := (confined_quiet (quiet_seqInc c _)).trans (confined_rewriteThresholds _ p).mono
  have h3 : Confined p (raiseParts ++ [.ports]) c c3 := h2.trans (confined_level c2 _ _ _)
  exact .ite (h3.trans (confined_raise c3 _ _ _).mono) h3

theorem confined_agePort (p : Nat) : Confined p (raiseParts ++ [.ports]) c (c.agePort p) := by
  unfold Chip.agePort
  extract_lets ws was
  exact .ite (.refl c) (Confined.trans (.mono (.of_rest (a := [.regs]) rfl)) (confined_calChanged _ p was))

theorem quiet_flatFollow (s : Nat) : Quiet c (c.flatFollow s) := by
  unfold Chip.flatFollow
  exact .ite (.refl c) (quiet_hw c _ _)

theorem confined_bmkSettle : Confined n [.inForce] c c.bmkSettle := by
  unfold Chip.bmkSettle
  exact .ite (.refl c) (confined_takeCfg c _ _)

theorem confined_agedAll : Confined n publishParts c c.agedAll := by
  have settled : Confined n publishParts c (c.bmkSettle.arm (tmKey tmPubl 0) dqTick) := (confined_bmkSettle c).mono.trans (confined_arm _ _ _)
  exact (settled.trans (.foldc (fun p c => (confined_agePort c p).any.mono) _)).trans
    (.foldc (fun s c => confined_quiet (.trans (.ite (quiet_zStale c s) (.refl c)) (quiet_flatFollow _ s))) _)

theorem confined_submit (item : Nat) (ws : List (Nat × Nat)) (zs : List (F32 × F32 × Nat)) :
    Confined n (quietParts ++ [.twin]) c (c.submit item ws zs) := by
  unfold Chip.submit
  exact .ite (.ite (confined_bump c _ _ _ _) (.refl c)) (confined_publish c _ _ _)

theorem confined_takeOps (p : Nat) : Confined n [.cals] c (c.takeOps p) :=
  .foldc (fun _ c => .ite (.refl c) (confined_modCal c _ _)) c

theorem confined_publishPort (p : Nat) : Confined n publishParts c (c.publishPort p) := by
  have taken : Confined n publishParts c (c.takeOps p) := (confined_takeOps c p).mono
  exact .ite taken (taken.trans (confined_submit _ _ _ _).mono)

theorem confined_publishZ (k : Nat) : Confined n publishParts c (c.publishZ k) := .ite (.refl c) (confined_submit c _ _ _).mono

theorem confined_calPublish : Confined n publishParts c (calPublish c) := by
  have published : Confined n publishParts c.agedAll (foldc (upTo 8) Chip.publishZ (foldc (upTo 192) Chip.publishPort c.agedAll)) :=
    (Confined.foldc (fun p c => confined_publishPort c p) _).trans (.foldc (fun k c => confined_publishZ c k) _)
  exact .ite (.refl c) (.ite (confined_agedAll c) ((confined_agedAll c).trans published))
end

/-! The commands. -/

/-- Settles O58, command by command. -/
theorem serviceFrames : Obligations.ServiceFrames :=
  ⟨fun _ _ k => OneSec.next (oneSec_feltRecompute · k),
   fun _ _ k => someParts (confined_feltSlewDone · k),
   fun _ _ k => OneSec.next (oneSec_transferEnd · k),
   fun _ _ k => OneSec.next (oneSec_qualifyEnd · k),
   fun _ _ k => OneSec.next (oneSec_overloadSpent · k),
   fun _ _ k => OneSec.next (oneSec_overloadRestore · k),
   fun _ _ => someParts (n := 0) (confined_crownUpdate ·),
   fun _ _ => someParts (n := 0) (confined_crownExtraUpdate ·),
   fun _ _ leaf => someParts (n := 0) (confined_graceExpiry · leaf),
   fun _ _ g => someParts (confined_ewHoldExpiry · g),
   fun _ _ => someParts (n := 0) (confined_gaugeUpdate ·),
   fun _ _ k => OneSec.next (oneSec_zMeasureStart · k),
   fun _ _ k m f start => OneSec.next (oneSec_zMeasureEnd · k m f start),
   fun _ _ => someParts (n := 0) (confined_batteryRecordWrite ·),
   fun _ _ p => someParts (confined_retriesClear · p),
   fun _ _ p => someParts (confined_modelLateClear · p),
   fun _ _ p => someParts (confined_tripClearCheck · p),
   fun _ _ p => someParts (confined_capSend · p),
   fun _ _ p => someParts (confined_warnSend · p),
   fun _ _ p => someParts (confined_hrHoldEnd · p),
   fun _ _ p => someParts (confined_roleWindowSwitch · p),
   fun _ _ k w => OneSec.next (oneSec_calWindowEnd · k w),
   fun _ _ p ch => someParts (n := 0) (confined_zeroWindowOpen · p ch),
   fun _ _ p ch first last => someParts (n := 0) (confined_zeroWindowEnd · p ch first last),
   fun _ _ => someParts (n := 0) (confined_calPublish ·)⟩

end Sys2Proof.Machine
end

section
/-! PROOFS. A phase starts again after a hiccup, clears its count and its crowbar, and publishes its telemetry (R216, R218, R222, R224). -/

namespace Sys2Proof.Machine

/-! One register field. -/

/-- The register field with key `k` stands. -/
def KeyStands (k : Nat) (c d : Chip) : Prop := ∀ v, mapGet d.regs k v = mapGet c.regs k v

section
variable {k : Nat} {c d e : Chip}

theorem KeyStands.refl (c : Chip) : KeyStands k c c := fun _ => rfl

theorem KeyStands.trans (h : KeyStands k c d) (j : KeyStands k d e) : KeyStands k c e := fun v => (j v).trans (h v)

theorem KeyStands.ite {p : Prop} [Decidable p] (h : KeyStands k c d) (j : KeyStands k c e) : KeyStands k c (if p then d else e) := by
  split
  · exact h
  · exact j

theorem KeyStands.foldc {α : Type} {xs : List α} {f : α → Chip → Chip} (hf : ∀ x c, KeyStands k c (f x c)) (c : Chip) :
    KeyStands k c (foldc xs f c) := by
  induction xs generalizing c with
  | nil => exact .refl c
  | cons x xs ih => exact (hf x c).trans (ih (f x c))

/-- A frame that lists no register leaves it. -/
theorem KeyStands.of_confined {n : Nat} {a : List Comp} (h : Confined n a c d) (hr : .regs ∉ a := by decide) : KeyStands k c d := fun v => by
  rw [show d.regs = c.regs from h .regs hr]

theorem KeyStands.rd {f : Fld} {b i : Nat} (h : KeyStands (fldKey f b i) c d) : d.rd f b i = c.rd f b i := h _
end

section
variable {k : Nat} (c : Chip) (hn : noisy k = false)

theorem keyStands_wr (f : Fld) (b v i : Nat) (h : k ≠ fldKey f b i) : KeyStands k c (c.wr f b v i) := fun _ => mapGet_mapSet_ne _ h _ _

include hn

theorem keyStands_hw (b : Nat) (us : List (Fld × Nat × Nat)) (hb : b % 4096 = 0) (h : ∀ u ∈ us, k ≠ fldKey u.1 b u.2.1) :
    KeyStands k c (c.hw b us) := by
  have written : KeyStands k c (foldc us (fun u c => c.wr u.1 b u.2.2 u.2.1) c) := by
    clear hb
    induction us generalizing c with
    | nil => exact .refl c
    | cons u us ih => exact (keyStands_wr c u.1 b _ _ (h u (by simp))).trans (ih _ (fun x hx => h x (by simp [hx])))
  exact written.trans (same_hw c b us hb k hn)

theorem keyStands_up (f : Fld) (b v i : Nat) (hb : b % 4096 = 0) (h : k ≠ fldKey f b i) : KeyStands k c (c.up f b v i) :=
  keyStands_hw c hn b _ hb (by simpa using h)

theorem keyStands_setBit (f : Fld) (b j : Nat) (on : Bool) (hb : b % 4096 = 0) (h : k ≠ fldKey f b 0) : KeyStands k c (c.setBit f b j on) := by
  unfold Chip.setBit
  exact .ite (.refl c) (keyStands_up c hn f b _ 0 hb h)

theorem keyStands_pulse (b j : Nat) (hb : b % 4096 = 0) : KeyStands k c (c.pulse b j) := same_pulse c b j hb k hn
end

theorem keyStands_modPort {k : Nat} (c : Chip) (p : Nat) (f : PortSt → PortSt) : KeyStands k c (c.modPort p f) := fun _ => rfl

theorem keyStands_modSec {k : Nat} (c : Chip) (s : Nat) (f : SecSt → SecSt) : KeyStands k c (c.modSec s f) := fun _ => rfl

theorem keyStands_arm {k : Nat} (c : Chip) (j t : Nat) : KeyStands k c (c.arm j t) := fun _ => rfl

theorem keyStands_disarm {k : Nat} (c : Chip) (j : Nat) : KeyStands k c (c.disarm j) := fun _ => rfl

/-! The state of a phase (R216). -/

theorem noisy_phState {p : Nat} (hp : p < 192) : noisy (fldKey R.SP_PH_STATE (pgSP p) 0) = false :=
  noisy_fld_false _ _ _ (pgSP_page p).1 (by decide) (by decide) (by decide) (.inl (by simp only [pgSP]; omega))

section
variable (c : Chip) {p : Nat} (hp : p < 192)
include hp

/-- Fields at other bits of their words than PH_STATE. -/
theorem phState_up (f : Fld) (b v i : Nat) (hb : b % 4096 = 0) (hf : f.lo % 32 ≠ 0) :
    KeyStands (fldKey R.SP_PH_STATE (pgSP p) 0) c (c.up f b v i) :=
  keyStands_up c (noisy_phState hp) f b v i hb (fldKey_ne_of_lo (by simpa [R.SP_PH_STATE] using hf.symm))

theorem phState_feltPoke (s : Option Nat) : KeyStands (fldKey R.SP_PH_STATE (pgSP p) 0) c (c.feltPoke s) := by
  unfold Chip.feltPoke
  split
  · have pending := keyStands_setBit c (noisy_phState hp) R.FELT_PENDING pgFELT ‹Nat› true (by decide) (fldKey_ne_of_lo (by decide))
    exact .ite (pending.trans (.of_confined (confined_proposeAt (a := [.twin, .sent]) _ p _ _))) (.refl c)
  · exact .refl c

theorem phState_showFelt (s : Nat) : KeyStands (fldKey R.SP_PH_STATE (pgSP p) 0) c (c.showFelt s) := by
  unfold Chip.showFelt
  exact .ite (.refl c) (phState_up c hp _ _ _ _ (by decide) (by decide))

theorem phState_phiZero : KeyStands (fldKey R.SP_PH_STATE (pgSP p) 0) c (c.phiZero p) := by
  have other : ∀ u ∈ [(R.SP_PHI, 0, 0), (R.SP_PHI_TGT, 0, 0)], fldKey R.SP_PH_STATE (pgSP p) 0 ≠ fldKey u.1 (pgSP p) u.2.1 := by
    simp only [List.forall_mem_cons]
    exact ⟨fldKey_ne_on_page _ (by decide), fldKey_ne_on_page _ (by decide), by simp⟩
  unfold Chip.phiZero
  exact .ite (.refl c) ((keyStands_hw c (noisy_phState hp) _ _ (pgSP_page p).1 other).trans (keyStands_modPort _ _ _))

theorem phState_feltJudge (was : Option Nat) : KeyStands (fldKey R.SP_PH_STATE (pgSP p) 0) c (c.feltJudge p was) := by
  unfold Chip.feltJudge
  extract_lets is c0 c1
  have h0 : KeyStands (fldKey R.SP_PH_STATE (pgSP p) 0) c c0 := by
    unfold c0
    split
    · exact (keyStands_modSec c _ _).trans (phState_showFelt _ hp _)
    · exact .refl c
  have h1 : KeyStands (fldKey R.SP_PH_STATE (pgSP p) 0) c c1 := (h0.trans (phState_feltPoke c0 hp was)).trans (phState_feltPoke _ hp is)
  refine .ite (.refl c) ?_
  clear_value c1 is
  cases is with
  | some s =>
    have shown := h1.trans (phState_showFelt c1 hp s)
    exact .ite shown ((shown.trans (phState_phiZero _ hp)).trans (keyStands_modSec _ _ _))
  | none => exact h1

theorem phState_phLeave (was : Nat) : KeyStands (fldKey R.SP_PH_STATE (pgSP p) 0) c (c.phLeave p was) := by
  have page := (pgSP_page p).1
  unfold Chip.phLeave
  exact .ite (phState_up c hp _ _ _ _ page (by decide))
    (.ite (.ite ((keyStands_modPort c _ _).trans (phState_up _ hp _ _ _ _ page (by decide))) (keyStands_modPort c _ _)) (.refl c))

theorem phState_ssJudge : KeyStands (fldKey R.SP_PH_STATE (pgSP p) 0) c (c.ssJudge p) := by
  unfold Chip.ssJudge
  exact .ite (.refl c) (phState_up c hp _ _ _ _ (pgSP_page p).1 (by decide))

/-- A phase goes to the state that it is set to. -/
theorem phSet_ph {st : Nat} (hst : st < 8) : (c.phSet p st).ph p = st := by
  unfold Chip.phSet
  extract_lets was c1 c2
  have h1 : c1.ph p = st := by
    unfold c1
    split
    · assumption
    · have left : KeyStands _ _ ((c.up R.SP_PH_STATE (pgSP p) st).phLeave p was) := phState_phLeave _ hp was
      exact left.rd.trans ((rd_up_same c _ _ _ _ (pgSP_page p).1 (noisy_phState hp)).trans (Nat.mod_eq_of_lt hst))
  have h2 : KeyStands (fldKey R.SP_PH_STATE (pgSP p) 0) c1 c2 := .ite (.ite (.refl c1) (keyStands_arm c1 _ _)) (keyStands_disarm c1 _)
  exact ((h2.trans (phState_ssJudge c2 hp)).trans (phState_feltJudge _ hp _)).rd.trans h1

/-- A phase that starts is in SOFT_START, or in RUN. -/
theorem phStart_ph {i : Nat} {l : LawSt} (h : c.portLaw p = some (i, l)) : (c.phStart p).ph p = if dAuto l.desc then 1 else 2 := by
  have known : (if dAuto l.desc then 1 else 2) < 8 := by split <;> decide
  unfold Chip.phStart
  rw [h]
  exact phSet_ph _ hp known
end

/-! Timers: a phase that starts arms or disarms that of its count alone (R218). -/

section
variable (c : Chip) (p : Nat)

theorem phLeave_timers (was : Nat) : (c.phLeave p was).timers = c.timers := by
  unfold Chip.phLeave
  split
  · exact (quiet_up c _ _ _ _).timers
  · split
    · extract_lets c1
      split
      · exact (quiet_up c1 _ _ _ _).timers
      · rfl
    · rfl

theorem quiet_ssJudge : Quiet c (c.ssJudge p) := by
  unfold Chip.ssJudge
  exact .ite (.refl c) (quiet_up c _ _ _ _)

theorem phSet_timer (st : Nat) {k : Nat} (hk : k ≠ tmKey tmHicClear p) : mapGet (c.phSet p st).timers k 0 = mapGet c.timers k 0 := by
  unfold Chip.phSet
  extract_lets was c1 c2
  have h1 : c1.timers = c.timers := by
    unfold c1
    split
    · rfl
    · exact (phLeave_timers _ p was).trans (quiet_up c _ _ _ _).timers
  have h2 : mapGet c2.timers k 0 = mapGet c1.timers k 0 := by
    unfold c2
    split
    · split
      · rfl
      · exact mapGet_mapSet_ne _ hk _ _
    · exact mapGet_mapSet_ne _ hk _ _
  have shown : (c2.ssJudge p).timers = c2.timers := (quiet_ssJudge c2 p).timers
  have judged : ((c2.ssJudge p).feltJudge p (c.feltSec p)).timers = (c2.ssJudge p).timers := confined_feltJudge _ p _ .timers (by decide)
  rw [judged, shown, h2, h1]

theorem phStart_armed {k : Nat} (hk : k ≠ tmKey tmHicClear p) : (c.phStart p).armed k = c.armed k := by
  unfold Chip.phStart
  split
  · rfl
  · unfold Chip.armed
    rw [phSet_timer _ p _ hk, (quiet_up _ _ _ _ _).timers]
    rfl
end

theorem disarm_armed (c : Chip) (k : Nat) : (c.disarm k).armed k = false := by simp [Chip.armed]

/-! The commands of a phase. -/

section
variable (s : State) (p : Port)

theorem hiccupEnd_acts (i : Nat) (l : LawSt) (hd : s.chip.due (tmKey tmHiccup p.val) = true) (h3 : s.chip.ph p.val = 3)
    (hl : s.chip.portLaw p.val = some (i, l)) : ∃ t, exec (.hiccupEnd p) s = .next t
      ∧ t = s.onChip (fun c => (c.disarm (tmKey tmHiccup p.val)).phStart p.val) ∧ t.chip.armed (tmKey tmHiccup p.val) = false
      ∧ t.chip.ph p.val = (if dAuto l.desc then 1 else 2) := by
  have ends : hiccupEnd s.chip p.val = (s.chip.disarm (tmKey tmHiccup p.val)).phStart p.val := if_pos (by simp [hd, h3])
  have key : tmKey tmHiccup p.val ≠ tmKey tmHicClear p.val := by simp only [tmKey, tmHiccup, tmHicClear]; omega
  refine ⟨_, congrArg Host.Outcome.next (onChip_congr ends), rfl, ?_, phStart_ph _ p.isLt hl⟩
  exact (phStart_armed _ p.val key).trans (disarm_armed _ _)

theorem hicCountClear_acts (hd : s.chip.due (tmKey tmHicClear p.val) = true) (h2 : s.chip.ph p.val = 2) :
    ∃ t, exec (.hicCountClear p) s = .next t ∧ t.chip.rd R.SP_HIC_COUNT (pgSP p.val) = 0 ∧ t.chip.armed (tmKey tmHicClear p.val) = false := by
  refine ⟨_, rfl, ?_⟩
  have hn : noisy (fldKey R.SP_HIC_COUNT (pgSP p.val) 0) = false :=
    noisy_fld_false _ _ _ (pgSP_page _).1 (by decide) (by decide) (by decide) (.inl (by simp only [pgSP]; omega))
  rw [State.onChip_chip, hicCountClear, if_pos (by simp [hd, h2])]
  extract_lets c1
  have off : c1.armed (tmKey tmHicClear p.val) = false := disarm_armed _ _
  split
  · exact ⟨‹_›, off⟩
  · refine ⟨rd_up_same c1 _ _ 0 0 (pgSP_page _).1 hn, ?_⟩
    rw [Chip.armed, (quiet_up c1 _ _ _ _).timers]
    exact off

theorem crowbarClearCheck_fails (hd : s.chip.due (tmKey tmCrowbar p.val) = true) (hc : (s.chip.port p.val).crowbar = true) :
    ∃ t, exec (.crowbarClearCheck p) s = .next t ∧ t.chip.rd R.SP_CLEAR_FAIL (pgSP p.val) = 1 ∧ (t.chip.port p.val).clearReq = false
      ∧ t.chip.ph p.val = s.chip.ph p.val := by
  refine ⟨_, rfl, ?_⟩
  have hn : noisy (fldKey R.SP_CLEAR_FAIL (pgSP p.val) 0) = false :=
    noisy_fld_false _ _ _ (pgSP_page _).1 (by decide) (by decide) (by decide) (.inl (by simp only [pgSP]; omega))
  rw [State.onChip_chip, crowbarClearCheck, if_pos hd]
  extract_lets c1
  rw [if_pos (show (c1.port p.val).crowbar = true from hc)]
  set c2 := c1.modPort p.val (fun t => { t with clearReq := false }) with h2
  refine ⟨rd_up_same c2 _ _ 1 0 (pgSP_page _).1 hn, ?_, (phState_up c2 p.isLt _ _ _ _ (pgSP_page _).1 (by decide)).rd⟩
  rw [Chip.port, (quiet_up c2 _ _ _ _).ports]
  exact congrArg PortSt.clearReq (Chip.modPort_port c1 p.val _)

theorem crowbarClearCheck_starts (hd : s.chip.due (tmKey tmCrowbar p.val) = true) (hc : (s.chip.port p.val).crowbar = false)
    (hr : (s.chip.port p.val).clearReq = true) (h5 : s.chip.ph p.val = 5) : ∃ t, exec (.crowbarClearCheck p) s = .next t
      ∧ t = s.onChip (fun c => ((c.disarm (tmKey tmCrowbar p.val)).disarm (tmKey tmCrowbar p.val)).phStart p.val) := by
  refine ⟨_, congrArg Host.Outcome.next (onChip_congr ?_), rfl⟩
  rw [crowbarClearCheck, if_pos hd]
  extract_lets c1
  have up : ¬ (c1.port p.val).crowbar = true := by rw [show (c1.port p.val).crowbar = false from hc]; decide
  have gone : c1.ph p.val = 5 ∧ (c1.port p.val).clearReq = true ∧ (!(c1.port p.val).crowbar) = true := ⟨h5, hr, by simpa using up⟩
  rw [if_neg up]
  exact if_pos gone
end

/-! Telemetry (R224). -/

/-- The sums of the window that has ended two ticks before. -/
def Chip.tlmEnded (c : Chip) (p : Nat) (d : Bytes) : TlmSum := mapGet (c.port p).tlm (c.tick - 2 - 20 * dTlmWin d) {}

section
variable (c : Chip) {p : Nat} (hp : p < 192) (d : Bytes) (v i w : F32) (n : Nat)
include hp

/-- A telemetry register is not one that events change. -/
theorem noisy_tlm (f : Fld) (h : f ∈ [R.SP_TLM_V, R.SP_TLM_I, R.SP_TLM_P, R.SP_TLM_N]) : noisy (fldKey f (pgSP p) 0) = false := by
  have known : ∀ f ∈ [R.SP_TLM_V, R.SP_TLM_I, R.SP_TLM_P, R.SP_TLM_N], f.lo = 0 ∧ 0x190 ≤ f.off ∧ f.off < 0x1A4 ∧ f.stride = 0 := by decide
  obtain ⟨hlo, hmin, hmax, hs⟩ := known f h
  exact noisy_fld_false f _ 0 (pgSP_page p).1 (by omega) (by omega) (by dsimp only; omega) (.inl (by simp only [pgSP]; omega))

/-- The telemetry registers show what they are given. -/
theorem tlmPut_shows : (c.tlmPut p d v i w n).rd R.SP_TLM_N (pgSP p) = n % 2 ^ R.SP_TLM_N.w
    ∧ (c.tlmPut p d v i w n).rd R.SP_TLM_V (pgSP p) = v.toNat ∧ (c.tlmPut p d v i w n).rd R.SP_TLM_I (pgSP p) = i.toNat
    ∧ (c.tlmPut p d v i w n).rd R.SP_TLM_P (pgSP p) = w.toNat := by
  have shown (f : Fld) (hf : f ∈ [R.SP_TLM_V, R.SP_TLM_I, R.SP_TLM_P, R.SP_TLM_N] := by decide) (e : Chip) (us : List (Fld × Nat × Nat)) :=
    rd_hw e us f (pgSP p) (pgSP p) 0 (pgSP_page p).1 (noisy_tlm hp f hf)
  have ne {f g : Fld} (h : fldKey f 0 0 ≠ fldKey g 0 0) : fldKey f (pgSP p) 0 ≠ fldKey g (pgSP p) 0 := fldKey_ne_on_page _ h
  have cut (x : F32) : x.toNat % 2 ^ 32 = x.toNat := Nat.mod_eq_of_lt x.isLt
  unfold Chip.tlmPut
  split
  simp only [shown R.SP_TLM_N, shown R.SP_TLM_V, shown R.SP_TLM_I, shown R.SP_TLM_P, foldc, List.foldl_cons, List.foldl_nil]
  refine ⟨rd_wr_same _ _ _ _ _, ?_, ?_, ?_⟩
  · iterate 4 rw [rd_wr_ne _ _ _ _ _ _ _ _ (ne (by decide))]
    exact (rd_wr_same _ _ _ _ _).trans (cut v)
  · iterate 3 rw [rd_wr_ne _ _ _ _ _ _ _ _ (ne (by decide))]
    exact (rd_wr_same _ _ _ _ _).trans (cut i)
  · iterate 2 rw [rd_wr_ne _ _ _ _ _ _ _ _ (ne (by decide))]
    exact (rd_wr_same _ _ _ _ _).trans (cut w)
end

theorem tlmPut_ports (c : Chip) (p : Nat) (d : Bytes) (v i w : F32) (n : Nat) : (c.tlmPut p d v i w n).ports = c.ports := by
  unfold Chip.tlmPut
  split
  rename_i h
  exact (quiet_hw _ _ _).ports.trans (congrArg (fun e : F32 × Chip => e.2.ports) h.symm)

/-- The end of a window with samples: its means replace the telemetry, and its sums and older ones are dropped. -/
theorem telemetryWindowEnd_eq {c : Chip} {p : Nat} {d : Bytes} (hd : c.tlmOf p = some d) (hw : dTlmWin d ≠ 0)
    (ht : 20 * dTlmWin d + 2 ≤ c.tick) (hm : (c.tick - 2) % (20 * dTlmWin d) = 0)
    (hdue : c.armed (tmKey tmTlm p) = false ∨ c.due (tmKey tmTlm p) = true) :
    ∃ (e : Chip) (v i w : F32), telemetryWindowEnd c p = (e.tlmPut p d v i w (c.tlmEnded p d).n).arm (tmKey tmTlm p) dqTick
      ∧ (e.port p).tlm = (c.port p).tlm.filter (fun x => decide (c.tick - 2 ≤ x.1))
      ∧ ((c.tlmEnded p d).n ≠ 0 → v = fdiv (c.tlmEnded p d).v (fOfNat (c.tlmEnded p d).n) ∧ i = fdiv (c.tlmEnded p d).i (fOfNat (c.tlmEnded p d).n)
        ∧ w = fdiv (c.tlmEnded p d).p (fOfNat (c.tlmEnded p d).n)) := by
  have now : ¬ (20 * dTlmWin d = 0 ∨ c.tick < 20 * dTlmWin d + 2 ∨ (c.tick - 2) % (20 * dTlmWin d) ≠ 0
      ∨ (c.armed (tmKey tmTlm p) = true ∧ (!c.due (tmKey tmTlm p)) = true)) := by
    rcases hdue with h | h <;> simp [h, hm] <;> omega
  unfold telemetryWindowEnd
  simp only [hd]
  rw [if_neg now]
  refine ⟨_, _, _, _, rfl, congrArg PortSt.tlm (Chip.setPort_port _ p _), fun hn => ⟨if_neg hn, if_neg hn, if_neg hn⟩⟩

theorem telemetryWindowEnd_acts (s : State) (p : Port) (d : Bytes) (hd : s.chip.tlmOf p.val = some d) (hw : dTlmWin d ≠ 0)
    (ht : 20 * dTlmWin d + 2 ≤ s.chip.tick) (hm : (s.chip.tick - 2) % (20 * dTlmWin d) = 0)
    (hdue : s.chip.armed (tmKey tmTlm p.val) = false ∨ s.chip.due (tmKey tmTlm p.val) = true) :
    ∃ t, exec (.telemetryWindowEnd p) s = .next t ∧ t.chip.rd R.SP_TLM_N (pgSP p.val) = (s.chip.tlmEnded p.val d).n % 2 ^ R.SP_TLM_N.w
      ∧ (t.chip.port p.val).tlm = (s.chip.port p.val).tlm.filter (fun e => decide (s.chip.tick - 2 ≤ e.1))
      ∧ ((s.chip.tlmEnded p.val d).n ≠ 0 →
        t.chip.rd R.SP_TLM_V (pgSP p.val) = (fdiv (s.chip.tlmEnded p.val d).v (fOfNat (s.chip.tlmEnded p.val d).n)).toNat
        ∧ t.chip.rd R.SP_TLM_I (pgSP p.val) = (fdiv (s.chip.tlmEnded p.val d).i (fOfNat (s.chip.tlmEnded p.val d).n)).toNat
        ∧ t.chip.rd R.SP_TLM_P (pgSP p.val) = (fdiv (s.chip.tlmEnded p.val d).p (fOfNat (s.chip.tlmEnded p.val d).n)).toNat) := by
  obtain ⟨e, v, i, w, heq, htlm, hmeans⟩ := telemetryWindowEnd_eq hd hw ht hm hdue
  obtain ⟨hN, hV, hI, hP⟩ := tlmPut_shows e p.isLt d v i w (s.chip.tlmEnded p.val d).n
  refine ⟨_, rfl, ?_⟩
  simp only [State.onChip_chip, heq, Chip.arm_rd]
  refine ⟨hN, ?_, fun hn => ?_⟩
  · rw [← htlm, Chip.port, Chip.arm_ports, tlmPut_ports]
    rfl
  · obtain ⟨rfl, rfl, rfl⟩ := hmeans hn
    exact ⟨hV, hI, hP⟩

/-- Settles O7, command by command. -/
theorem phaseTimersAct : Obligations.PhaseTimersAct :=
  ⟨hiccupEnd_acts, hicCountClear_acts, crowbarClearCheck_fails, crowbarClearCheck_starts, telemetryWindowEnd_acts⟩

end Sys2Proof.Machine
end

section
/-! PROOFS. Felting recomputes and ends its movements, and the hold-up states of a section change (R236, R237, R248, R249, R253, R266). -/

namespace Sys2Proof.Machine

/-! Felting (R236, R237). -/

/-- The key of the count of recomputes. -/
abbrev recomputeKey : Nat := fldKey R.FELT_CNT_RECOMPUTE pgFELT 0

theorem noisy_recomputeKey : noisy recomputeKey = false := by decide

/-- The count stands where a field of a section, or of a port, is written. -/
theorem recomputeKey_ne_sec {f : Fld} (i : Nat) (hf : 0x200 ≤ f.off) : recomputeKey ≠ fldKey f pgFELT i := by
  simp only [recomputeKey, fldKey, R.FELT_CNT_RECOMPUTE]
  omega

theorem recomputeKey_ne_port (f : Fld) (p i : Nat) : recomputeKey ≠ fldKey f (pgSP p) i := by
  simp only [recomputeKey, fldKey, R.FELT_CNT_RECOMPUTE, pgFELT, pgSP]
  omega

section
variable (c : Chip)

theorem recomputes_feltAim (per maxD : Nat) (frozen : Bool) (m : FeltMem) (tgt : Nat) :
    KeyStands recomputeKey c (c.feltAim per maxD frozen m tgt) := by
  have put (c : Chip) (f : Fld) (v : Nat) : KeyStands recomputeKey c (c.up f (pgSP m.p) v) :=
    keyStands_up c noisy_recomputeKey f _ v 0 (pgSP_page m.p).1 (recomputeKey_ne_port f _ 0)
  unfold Chip.feltAim
  extract_lets b c1
  have h1 : KeyStands recomputeKey c c1 := .ite (.refl c) (put c _ _)
  split
  · exact (h1.trans (.ite (.refl c1) (put c1 _ _))).trans (keyStands_modPort _ _ _)
  · exact .ite (h1.trans (keyStands_modPort c1 _ _)) (h1.trans (keyStands_modPort c1 _ _))

theorem recomputes_hw (us : List (Fld × Nat × Nat)) (h : ∀ f ∈ us.map Prod.fst, 0x200 ≤ f.off) :
    KeyStands recomputeKey c (c.hw pgFELT us) :=
  keyStands_hw c noisy_recomputeKey _ us (by decide) (fun u hu => recomputeKey_ne_sec _ (h u.1 (List.mem_map_of_mem hu)))

theorem slewStart_feltTrig (k : Nat) : ((c.slewStart k).sec k).feltTrig = (c.sec k).feltTrig := by
  have written (f : SecSt → SecSt) : ((c.modSec k f).sec k).feltTrig = (f (c.sec k)).feltTrig := by rw [Chip.modSec_sec]
  exact (congrArg (fun m => (mapGet m k ({} : SecSt)).feltTrig) (quiet_hw _ _ _).secs).trans (written _)

theorem recomputes_slewStart (k : Nat) : KeyStands recomputeKey c (c.slewStart k) :=
  (keyStands_modSec c k _).trans (recomputes_hw _ _ (show ∀ f ∈ [R.FELT_FS_SLEWING, R.FELT_FS_PEAK], 0x200 ≤ f.off by decide))

theorem noisy_slewing (k : Sec) : noisy (fldKey R.FELT_FS_SLEWING pgFELT k.val) = false := by
  revert k
  decide

/-- A recompute takes its trigger away, and ends by counting itself and by its event. -/
theorem feltRecompute_eq {k : Nat} (ht : (c.sec k).feltTrig = true) (hs : c.rd R.HOLD_STATE pgHOLD k ≠ 2) (hw : c.takesWork pgFELT = true) :
    ∃ d, (d.sec k).feltTrig = false ∧ KeyStands recomputeKey c d ∧ feltRecompute c k = (d.bump R.FELT_CNT_RECOMPUTE pgFELT).pulse pgFELT k := by
  have go : ¬ (!(c.sec k).feltTrig || c.rd R.HOLD_STATE pgHOLD k == 2 || !c.takesWork pgFELT) = true := by simp [ht, hs, hw]
  unfold feltRecompute
  extract_lets q en gs ch tg dl maxD frozen big flat was moves c1 c2 c3
  rw [if_neg go]
  split
  next sp j score =>
  have h1 : KeyStands recomputeKey c c1 := .foldc (fun (x : Nat × FeltMem × Nat) c => recomputes_feltAim c x.1 maxD frozen x.2.1 x.2.2) c
  have h2 : KeyStands recomputeKey c c2 := h1.trans (keyStands_modSec c1 k _)
  have t2 : (c2.sec k).feltTrig = false := congrArg SecSt.feltTrig (Chip.modSec_sec c1 k _)
  have h3 : KeyStands recomputeKey c c3 := .ite (h2.trans (recomputes_slewStart c2 k))
    (.ite (h2.trans (keyStands_up c2 noisy_recomputeKey _ _ 0 k (by decide) (recomputeKey_ne_sec k (by decide)))) h2)
  have t3 : (c3.sec k).feltTrig = false := by
    unfold c3
    split
    · exact (slewStart_feltTrig c2 k).trans t2
    · split
      · rw [Chip.sec, (quiet_up c2 _ _ _ _).secs]
        exact t2
      · exact t2
  have shown (us : List (Fld × Nat × Nat)) (on : Bool) :
      Quiet c3 (((c3.hw pgFELT us).setBit R.FELT_PENDING pgFELT k false).setBit R.FELT_SLEWING pgFELT k on) :=
    ((quiet_hw c3 _ _).trans (quiet_setBit _ _ _ _ _)).trans (quiet_setBit _ _ _ _ _)
  have bit (c : Chip) (f : Fld) (on : Bool) (h : recomputeKey ≠ fldKey f pgFELT 0) : KeyStands recomputeKey c (c.setBit f pgFELT k on) :=
    keyStands_setBit c noisy_recomputeKey f pgFELT k on (by decide) h
  refine ⟨_, ?_, h3.trans ((KeyStands.trans (recomputes_hw c3 _ ?_) (bit _ R.FELT_PENDING false (by decide))).trans
    (bit _ R.FELT_SLEWING moves (by decide))), rfl⟩
  · rw [Chip.sec, (shown _ _).secs]
    exact t3
  · show ∀ f ∈ [R.FELT_FROZEN, R.FELT_FLAT_Z, R.FELT_SPREAD_J, R.FELT_MEMBERS, R.FELT_FS_SPREAD, R.FELT_FS_RIPPLE], 0x200 ≤ f.off
    decide
end

section
variable (s : State) (k : Sec)

theorem feltRecompute_acts (ht : (s.chip.sec k.val).feltTrig = true) (hs : s.chip.rd R.HOLD_STATE pgHOLD k.val ≠ 2)
    (hw : s.chip.takesWork pgFELT = true) : ∃ t, exec (.feltRecompute k) s = .next t ∧ (t.chip.sec k.val).feltTrig = false
      ∧ t.chip.rd R.FELT_CNT_RECOMPUTE pgFELT = (s.chip.rd R.FELT_CNT_RECOMPUTE pgFELT + 1) % 2 ^ 32
      ∧ bitOf (t.chip.rd R.EVT_LATCH pgFELT) k.val = true := by
  obtain ⟨d, trig, count, heq⟩ := feltRecompute_eq s.chip ht hs hw
  refine ⟨_, rfl, ?_⟩
  rw [State.onChip_chip, heq]
  refine ⟨?_, ?_, pulse_sets _ _ _ (by decide) (by omega)⟩
  · rw [Chip.sec, (quiet_pulse _ _ _).secs]
    exact trig
  · rw [rd_pulse _ _ _ _ _ _ (by decide) (by decide), rd_bump_same, count.rd]
    rfl

theorem feltSlewDone_acts (hon : s.chip.on R.FELT_FS_SLEWING pgFELT k.val = true)
    (hm : ((s.chip.sec k.val).members.any (fun p => (s.chip.port p).moving)) = false) : ∃ t, exec (.feltSlewDone k) s = .next t
      ∧ t.chip.rd R.FELT_FS_SLEWING pgFELT k.val = 0 ∧ bitOf (t.chip.rd R.EVT_LATCH pgFELT) (16 + k.val) = true := by
  have hn := noisy_slewing k
  have hne : fldKey R.FELT_FS_SLEWING pgFELT k.val ≠ fldKey R.FELT_SLEWING pgFELT 0 := by
    simp only [fldKey, R.FELT_FS_SLEWING, R.FELT_SLEWING]
    omega
  refine ⟨_, rfl, ?_⟩
  rw [State.onChip_chip, feltSlewDone, if_pos (by simp [hon, hm])]
  refine ⟨?_, pulse_sets _ _ _ (by decide) (by omega)⟩
  rw [rd_pulse _ _ _ _ _ _ (by decide) hn, rd_setBit _ _ _ _ _ _ _ _ (by decide) hn hne]
  exact rd_up_same _ _ _ _ _ (by decide) hn
end

/-! Hold-up states (R248, R249). -/

section
variable (c : Chip)

/-- Sensors that are sent a warning leave every register. -/
theorem keyStands_warned {k : Nat} (xs : List Nat) (p : Nat → Chip → Bool) (f : CapSt → CapSt) :
    KeyStands k c (foldc xs (fun x c => if p x c then c.modCap (96 + x) f else c) c) :=
  .foldc (fun x c => .ite (.of_confined (n := 0) (a := [.caps]) (confined_modCap c (96 + x) f)) (.refl c)) c


theorem keyStands_capCause {k : Nat} (h : Nat → Nat → Nat → Bool) : KeyStands k c (c.capCause h) := fun _ => by rw [capCause_regs]

theorem keyStands_bump {k : Nat} (f : Fld) (b i : Nat) (h : k ≠ fldKey f b i) : KeyStands k c (c.bump f b i) := keyStands_wr c f b _ i h

/-- A field of HOLD that a hold-up state does not name stands while early warnings are judged. -/
theorem keyStands_ewSet {k : Nat} (hn : noisy k = false) (h : k ≠ fldKey R.HOLD_EW_LIVE pgHOLD 0) (g : Nat) (on : Bool) :
    KeyStands k c (c.ewSet g on) := by
  unfold Chip.ewSet
  exact .ite (.refl c) (((keyStands_setBit c hn _ _ _ _ (by decide) h).trans (.of_confined (n := 0) (a := [.sent]) (confined_send _ _))).trans
    (keyStands_warned _ (upTo 192) (fun p c => c.ewGroup p == some g) _))

theorem keyStands_ewJudge {k : Nat} (hn : noisy k = false) (h : k ≠ fldKey R.HOLD_EW_LIVE pgHOLD 0) : KeyStands k c c.ewJudge := by
  refine .foldc (fun g c => ?_) c
  unfold Chip.ewGroupJudge
  extract_lets now was live ended ms c1
  have h1 : KeyStands k c c1 := by
    refine KeyStands.trans (d := if now = was then c else { c with ewBy := mapSet c.ewBy g now }) (.ite (.refl c) (fun _ => rfl)) ?_
    exact .ite (.refl _) (keyStands_arm _ _ _)
  exact .ite (h1.trans (keyStands_ewSet c1 hn h g true)) (.ite (h1.trans (keyStands_ewSet c1 hn h g false)) h1)

/-- A section goes to the hold-up state that it is set to. -/
theorem huSet_state (k : Sec) {st : Nat} (hst : st < 8) : (c.huSet k.val st).rd R.HOLD_STATE pgHOLD k.val = st := by
  have hn : noisy (fldKey R.HOLD_STATE pgHOLD k.val) = false := by revert k; decide
  have live : fldKey R.HOLD_STATE pgHOLD k.val ≠ fldKey R.HOLD_EW_LIVE pgHOLD 0 := by revert k; decide
  have off : fldKey R.HOLD_STATE pgHOLD k.val ≠ fldKey R.HOLD_OFF_SOURCE pgHOLD 0 := fldKey_ne_of_lo (by decide)
  have transfers : fldKey R.HOLD_STATE pgHOLD k.val ≠ fldKey R.HOLD_CNT_TRANSFER pgHOLD k.val := by revert k; decide
  have returns : fldKey R.HOLD_STATE pgHOLD k.val ≠ fldKey R.HOLD_CNT_RETURN pgHOLD k.val := by revert k; decide
  have shaves : ∀ u ∈ [(R.HOLD_SHAVING, k.val, 0), (R.HOLD_RECHARGING, k.val, 0)],
      fldKey R.HOLD_STATE pgHOLD k.val ≠ fldKey u.1 pgHOLD u.2.1 := by
    simp only [List.forall_mem_cons]
    exact ⟨fldKey_ne_of_lo (by decide), fldKey_ne_of_lo (by decide), by simp⟩
  unfold Chip.huSet
  extract_lets was c1 c2 c3 c4 c5 c6
  split
  · assumption
  · have h1 : c1.rd R.HOLD_STATE pgHOLD k.val = st := (rd_setBit _ _ _ _ _ _ _ _ (by decide) hn off).trans
      ((rd_up_same c _ _ _ _ (by decide) hn).trans (Nat.mod_eq_of_lt hst))
    have transfer : KeyStands (fldKey R.HOLD_STATE pgHOLD k.val) c1
        (((((c1.up R.HOLD_REPLUGS pgHOLD 0 k.val).hw pgHOLD [(R.HOLD_SHAVING, k.val, 0), (R.HOLD_RECHARGING, k.val, 0)]).bump
          R.HOLD_CNT_TRANSFER pgHOLD k.val).pulse pgHOLD k.val).capCause (fun t _ g => t == 3 && g == k.val)) :=
      ((((keyStands_up c1 hn _ _ _ _ (by decide) (fldKey_ne_of_lo (by decide))).trans (keyStands_hw _ hn _ _ (by decide) shaves)).trans
        (keyStands_bump _ _ _ _ transfers)).trans (keyStands_pulse _ hn _ _ (by decide))).trans (keyStands_capCause _ _)
    have back := (keyStands_bump c1 R.HOLD_CNT_RETURN pgHOLD k.val returns).trans (keyStands_pulse _ hn pgHOLD (8 + k.val) (by decide))
    have h2 : KeyStands (fldKey R.HOLD_STATE pgHOLD k.val) c1 c2 := .ite transfer (.ite back (.refl c1))
    have h3 := h2.trans (e := c3) (.ite (keyStands_modSec c2 _ _) (.refl c2))
    have h4 := h3.trans (e := c4) (.ite (keyStands_arm c3 _ _) (keyStands_disarm c3 _))
    have h5 := h4.trans (e := c5) (.ite (keyStands_arm c4 _ _) (keyStands_disarm c4 _))
    have h6 := h5.trans (e := c6) (.ite (keyStands_modSec c5 _ _) (.refl c5))
    have proposed : KeyStands (fldKey R.HOLD_STATE pgHOLD k.val) c6.ewJudge (c6.ewJudge.propose .crown) := .of_confined (confined_proposeAt (a := [.twin, .sent]) _ 0 _ _)
    exact ((h6.trans (keyStands_ewJudge c6 hn live)).trans proposed).rd.trans h1
end

section
variable (s : State) (k : Sec)

theorem inputLossDeclared_acts (hen : s.chip.onV R.HOLD_EN pgHOLD k.val = true)
    (hst : s.chip.rd R.HOLD_STATE pgHOLD k.val = 1 ∨ s.chip.rd R.HOLD_STATE pgHOLD k.val = 5)
    (hl : s.chip.quorumMet k.val (fun p => s.chip.belowLoss k.val p (s.chip.tick - 2)) = true
      ∨ s.chip.quorumMet k.val (fun p => s.chip.belowLoss k.val p (s.chip.tick - 3)) = true) :
    ∃ t, exec (.inputLossDeclared k) s = .next t ∧ t.chip.rd R.HOLD_STATE pgHOLD k.val = 2 := by
  refine ⟨_, rfl, ?_⟩
  have on : ((s.chip.rd R.HOLD_STATE pgHOLD k.val == 1) || (s.chip.rd R.HOLD_STATE pgHOLD k.val == 5)) = true := by simpa using hst
  have lost := (Bool.or_eq_true _ _).mpr hl
  rw [State.onChip_chip, inputLossDeclared, if_pos (by simp only [hen, on, lost, Bool.and_self])]
  exact huSet_state _ k (by decide)

theorem transferEnd_acts (hd : s.chip.due (tmKey tmTrans k.val) = true) (h2 : s.chip.rd R.HOLD_STATE pgHOLD k.val = 2) :
    ∃ t, exec (.transferEnd k) s = .next t ∧ t.chip.rd R.HOLD_STATE pgHOLD k.val = 3 := by
  refine ⟨_, rfl, ?_⟩
  rw [State.onChip_chip, transferEnd, if_pos (by simp [hd, h2])]
  exact huSet_state _ k (by decide)

theorem qualifyEnd_acts (hd : s.chip.due (tmKey tmQualify k.val) = true) (h4 : s.chip.rd R.HOLD_STATE pgHOLD k.val = 4) :
    ∃ t, exec (.qualifyEnd k) s = .next t ∧ t.chip.rd R.HOLD_STATE pgHOLD k.val = 5 := by
  refine ⟨_, rfl, ?_⟩
  rw [State.onChip_chip, qualifyEnd, if_pos (by simp [hd, h4])]
  exact huSet_state _ k (by decide)

/-! The overload allowance (R253). -/

theorem overloadSpent_acts (hd : s.chip.due (tmKey tmOvl k.val) = true) (ho : s.chip.on R.HOLD_OVERLOAD pgHOLD k.val = true) :
    ∃ t, exec (.overloadSpent k) s = .next t ∧ (t.chip.sec k.val).ovlSpent = true := by
  refine ⟨_, rfl, ?_⟩
  rw [State.onChip_chip, overloadSpent, if_pos (by simp [hd, ho]), Chip.modSec_sec]

theorem overloadRestore_acts (hd : s.chip.due (tmKey tmOvl (8 + k.val)) = true) (ho : s.chip.on R.HOLD_OVERLOAD pgHOLD k.val = false) :
    ∃ t, exec (.overloadRestore k) s = .next t ∧ (t.chip.sec k.val).ovlUsed = 0
      ∧ (t.chip.sec k.val).ovlSpent = ((s.chip.sec k.val).ovlSpent && decide (2 ≤ s.chip.rd R.HOLD_STATE pgHOLD k.val)) := by
  refine ⟨_, rfl, ?_⟩
  rw [State.onChip_chip, overloadRestore, if_pos (by simp [hd, ho]), Chip.modSec_sec]
  exact ⟨rfl, rfl⟩
end

/-! Early warning (R266). -/

/-- A bit of a field of eight bits is cleared. -/
theorem setBit_clears (c : Chip) {f : Fld} {b n : Nat} (hb : b % 4096 = 0) (hn : noisy (fldKey f b 0) = false) (hw : f.w = 8) (h8 : n < 8) :
    bitOf ((c.setBit f b n false).rd f b) n = false := by
  have cleared := bitOf_byte_clear (c.rd f b) h8
  unfold Chip.setBit
  extract_lets v v1
  split
  · next h =>
    rw [bitOf_mod _ _ _ h8, show setBitN (c.rd f b) n false = c.rd f b from h] at cleared
    exact cleared
  · rw [rd_up_same _ _ _ _ _ hb hn, hw]
    exact cleared

theorem ewSet_clears (c : Chip) (g : Oct) : bitOf ((c.ewSet g.val false).rd R.HOLD_EW_LIVE pgHOLD) g.val = false := by
  unfold Chip.ewSet
  split
  · next h => simpa using h
  · have warned := keyStands_warned (k := fldKey R.HOLD_EW_LIVE pgHOLD 0) ((c.setBit R.HOLD_EW_LIVE pgHOLD g.val false).send (.pin (ewPin g.val) true))
      (upTo 192) (fun p c => c.ewGroup p == some g.val) (fun k => { k with warnMsg := true })
    exact (congrArg (bitOf · g.val) warned.rd).trans (setBit_clears c (by decide) (by decide) rfl g.isLt)

theorem ewHoldExpiry_acts (s : State) (g : Oct) (hd : s.chip.due (tmKey tmEwHold g.val) = true)
    (hc : (s.chip.disarm (tmKey tmEwHold g.val)).ewCause g.val = false) : ∃ t, exec (.ewHoldExpiry g) s = .next t
      ∧ bitOf (t.chip.rd R.HOLD_EW_LIVE pgHOLD) g.val = false ∧ t.chip.armed (tmKey tmEwHold g.val) = false := by
  refine ⟨_, rfl, ?_⟩
  rw [State.onChip_chip, ewHoldExpiry, if_pos hd]
  extract_lets c1
  rw [if_neg (by simp [c1, hc])]
  have timers : (c1.ewSet g.val false).timers = c1.timers := confined_ewSet (n := 0) c1 g.val false .timers (by decide)
  refine ⟨ewSet_clears c1 g, ?_⟩
  rw [Chip.armed, timers]
  exact disarm_armed _ _

/-- Settles O8, command by command. -/
theorem sectionCommandsAct : Obligations.SectionCommandsAct :=
  ⟨feltRecompute_acts, feltSlewDone_acts, inputLossDeclared_acts, transferEnd_acts, qualifyEnd_acts, overloadSpent_acts,
    overloadRestore_acts, ewHoldExpiry_acts⟩

end Sys2Proof.Machine
end

section
/-! PROOFS. Crown's updates, the grace of a leaf, the string updates, impedance measurements and battery records act (R263, R264, R265, R272,
R277, R280, R329). -/

namespace Sys2Proof.Machine

/-! Timers of other keys. -/

/-- What no single change of a fold over these members touches stands after the fold. -/
theorem foldc_keeps_on {α β : Type} (g : Chip → β) {xs : List α} {f : α → Chip → Chip} (hf : ∀ x ∈ xs, ∀ c, g (f x c) = g c) (c : Chip) :
    g (foldc xs f c) = g c := by
  induction xs generalizing c with
  | nil => rfl
  | cons x xs ih => exact (ih (fun y hy => hf y (by simp [hy])) (f x c)).trans (hf x (by simp) c)

section
variable (c : Chip) {k : Nat}

theorem arm_armed_ne {j : Nat} (t : Nat) (h : k ≠ j) : (c.arm j t).armed k = c.armed k :=
  congrArg (· != 0) (mapGet_mapSet_ne _ h _ _)

theorem disarm_armed_ne {j : Nat} (h : k ≠ j) : (c.disarm j).armed k = c.armed k :=
  congrArg (· != 0) (mapGet_mapSet_ne _ h _ _)

theorem Confined.armed {n : Nat} {a : List Comp} {c d : Chip} (h : Confined n a c d) (ht : .timers ∉ a := by decide) : d.armed k = c.armed k :=
  congrArg (fun m => mapGet m k 0 != 0) (h .timers ht)

/-! Early warning (R266). -/

theorem ewExtend_armed {g : Nat} (ms : Nat) (h : k ≠ tmKey tmEwHold g) : (c.ewExtend g ms).armed k = c.armed k := by
  unfold Chip.ewExtend
  split
  · rfl
  · exact arm_armed_ne c _ h

theorem ewGroupJudge_armed {g : Nat} (h : k ≠ tmKey tmEwHold g) : (c.ewGroupJudge g).armed k = c.armed k := by
  unfold Chip.ewGroupJudge
  extract_lets now was live ended ms c1
  have h1 : c1.armed k = c.armed k := (ewExtend_armed _ ms h).trans (by split <;> rfl)
  have set (on : Bool) : (c1.ewSet g on).armed k = c1.armed k := (confined_ewSet (n := 0) c1 g on).armed
  split
  · exact (set true).trans h1
  · split
    · exact (set false).trans h1
    · exact h1

/-- Judging the early warnings moves the timers of their holds alone. -/
theorem ewJudge_armed (h : ∀ g < 8, k ≠ tmKey tmEwHold g) : c.ewJudge.armed k = c.armed k :=
  foldc_keeps_on (·.armed k) (fun g hg c => ewGroupJudge_armed c (h g (List.mem_range.mp hg))) c

/-- The limit of leaf `k`. -/
def Chip.limitOf (k : Nat) (c : Chip) : Option F32 := (c.capst k).limit

theorem warn_limitOf (j : Nat) : (c.modCap j (fun q => { q with warnMsg := true })).limitOf k = c.limitOf k := by
  unfold Chip.limitOf
  by_cases h : k = j
  · rw [h, Chip.modCap_capst]
  · rw [Chip.modCap_capst_ne _ _ _ _ h]

theorem ewSet_limitOf (g : Nat) (on : Bool) : (c.ewSet g on).limitOf k = c.limitOf k := by
  unfold Chip.ewSet
  split
  · rfl
  · extract_lets c1
    have h1 : c1.limitOf k = c.limitOf k :=
      congrArg (fun m => (mapGet m k ({} : CapSt)).limit) ((quiet_setBit c _ _ _ _).trans (quiet_send _ _)).caps
    refine (foldc_keeps c1 (Chip.limitOf k) (fun p c => ?_)).trans h1
    split
    · exact warn_limitOf c _
    · rfl

theorem ewGroupJudge_limitOf (g : Nat) : (c.ewGroupJudge g).limitOf k = c.limitOf k := by
  unfold Chip.ewGroupJudge
  extract_lets now was live ended ms c1
  have h1 : c1.limitOf k = c.limitOf k := by
    unfold c1 Chip.ewExtend
    split <;> split <;> rfl
  split
  · exact (ewSet_limitOf c1 g true).trans h1
  · split
    · exact (ewSet_limitOf c1 g false).trans h1
    · exact h1

/-- Judging the early warnings leaves every limit. -/
theorem ewJudge_limitOf : c.ewJudge.limitOf k = c.limitOf k := foldc_keeps c (Chip.limitOf k) (fun g c => ewGroupJudge_limitOf c g)
end

/-! Grants (R263, R265). -/

section
variable (c : Chip)

theorem keyStands_nodeBit {k : Nat} (hn : noisy k = false) (f : Fld) (j : Nat) (on : Bool) (h : k ≠ fldKey f pgCROWN j) :
    KeyStands k c (c.nodeBit f j on) := by
  unfold Chip.nodeBit
  exact .ite (.ite (.refl c) (keyStands_up c hn f _ _ j (by decide) h)) (.refl c)

/-- A bit of a node that has a register takes its value. -/
theorem nodeBit_on {f : Fld} {k : Nat} (hk : k < 96) (hw : f.w = 1) (hn : noisy (fldKey f pgCROWN k) = false) :
    (c.nodeBit f k true).on f pgCROWN k = true := by
  unfold Chip.nodeBit
  rw [if_pos hk]
  split
  next h => simpa using h
  next => rw [Chip.on, rd_up_same _ _ _ _ _ (by decide) hn, hw]; rfl

/-- The key of the count of updates. -/
abbrev updateKey : Nat := fldKey R.CROWN_CNT_UPDATE pgCROWN 0

theorem noisy_updateKey : noisy updateKey = false := by decide

/-- The count stands where a node's field is written. -/
theorem updateKey_ne_node {f : Fld} (i : Nat) (hf : 0x200 ≤ f.off) : updateKey ≠ fldKey f pgCROWN i := by
  simp only [updateKey, fldKey, R.CROWN_CNT_UPDATE]
  omega

theorem updates_nodeBit {f : Fld} (k : Nat) (on : Bool) (hf : 0x200 ≤ f.off := by decide) : KeyStands updateKey c (c.nodeBit f k on) :=
  keyStands_nodeBit c noisy_updateKey f k on (updateKey_ne_node k hf)

theorem updates_setCap (k : Nat) (v : CapSt) : KeyStands updateKey c (c.setCap k v) := fun _ => rfl

theorem updates_enforce (k : Nat) : KeyStands updateKey c (c.enforce k) :=
  ((((updates_setCap c k _).trans (keyStands_bump _ R.CROWN_CNT_ENFORCE pgCROWN 0 (by decide))).trans
    (updates_nodeBit _ k true)).trans (updates_nodeBit _ k false)).trans (keyStands_disarm _ _)

theorem updates_takeGrant (k p : Nat) (g : F32) : KeyStands updateKey c (c.takeGrant k p g) := by
  unfold Chip.takeGrant
  extract_lets q c1 full lim c2
  have h1 : KeyStands updateKey c c1 := updates_setCap c k _
  have h2 : KeyStands updateKey c c2 := updates_setCap c k _
  refine .ite (.ite (h1.trans (updates_enforce c1 k)) ((h1.trans (updates_nodeBit c1 k true)).trans (keyStands_arm _ _ _))) ?_
  exact ((h2.trans (updates_nodeBit c2 k _)).trans (updates_nodeBit _ k false)).trans (keyStands_disarm _ _)

/-- An enforced leaf is limited to its latest grant. -/
theorem enforce_limitOf (k : Nat) : (c.enforce k).limitOf k = some (c.capst k).cap := by
  unfold Chip.enforce
  extract_lets c1
  have taken : (c1.capst k).limit = some (c.capst k).cap := by rw [Chip.bump_capst, Chip.modCap_capst]
  exact (congrArg (fun m => (mapGet m k ({} : CapSt)).limit) ((quiet_nodeBit c1 _ _ _).trans (quiet_nodeBit _ _ _ _)).caps).trans taken

theorem noisy_capped {k : Nat} (hk : k < 96) : noisy (fldKey R.CROWN_CAPPED pgCROWN k) = false := by
  have off : R.CROWN_CAPPED.off + R.CROWN_CAPPED.stride * k = 0x218 + 32 * k := rfl
  exact noisy_fld_false _ _ _ (by decide) (by decide) (by omega) (by dsimp only; omega) (.inl (by decide))

/-- An enforced node is CAPPED. -/
theorem enforce_capped {k : Nat} (hk : k < 96) : (c.enforce k).on R.CROWN_CAPPED pgCROWN k = true := by
  unfold Chip.enforce
  extract_lets c1
  have stands := (keyStands_nodeBit (c1.nodeBit R.CROWN_CAPPED k true) (noisy_capped hk) R.CROWN_GRACE k false
    (fldKey_ne_of_lo (by decide))).trans (keyStands_disarm _ (tmKey tmGrace k))
  rw [Chip.on, stands.rd]
  exact nodeBit_on c1 hk rfl (noisy_capped hk)

/-- An enforcement counts itself. -/
theorem enforce_counts (k : Nat) : (c.enforce k).rd R.CROWN_CNT_ENFORCE pgCROWN = (c.rd R.CROWN_CNT_ENFORCE pgCROWN + 1) % 2 ^ 32 := by
  have shown (d : Chip) (f : Fld) (on : Bool) (hf : 0x200 ≤ f.off) : KeyStands (fldKey R.CROWN_CNT_ENFORCE pgCROWN 0) d (d.nodeBit f k on) :=
    keyStands_nodeBit d (by decide) f k on (by simp only [fldKey, R.CROWN_CNT_ENFORCE]; omega)
  unfold Chip.enforce
  extract_lets c1
  have stands := ((shown c1 R.CROWN_CAPPED true (by decide)).trans (shown _ R.CROWN_GRACE false (by decide))).trans
    (keyStands_disarm _ (tmKey tmGrace k))
  exact stands.rd.trans (rd_bump_same _ _ _ _ _)

theorem enforce_armed {k j : Nat} (h : k ≠ tmKey tmGrace j) : (c.enforce j).armed k = c.armed k := by
  unfold Chip.enforce
  extract_lets c1
  rw [disarm_armed_ne _ h, Chip.armed, ((quiet_nodeBit c1 _ _ _).trans (quiet_nodeBit _ _ _ _)).timers, (quiet_bump _ _ _ _ _).timers]
  rfl

theorem takeGrant_armed {k j : Nat} (p : Nat) (g : F32) (h : k ≠ tmKey tmGrace j) : (c.takeGrant j p g).armed k = c.armed k := by
  have shown (d : Chip) (f : Fld) (on : Bool) : (d.nodeBit f j on).armed k = d.armed k :=
    congrArg (fun m => mapGet m k 0 != 0) (quiet_nodeBit d f j on).timers
  unfold Chip.takeGrant
  extract_lets q c1 full lim c2
  split
  · split
    · exact enforce_armed c1 h
    · exact (arm_armed_ne _ _ h).trans (shown c1 _ _)
  · exact (disarm_armed_ne _ h).trans ((shown _ _ _).trans (shown c2 _ _))

/-- The nodes of an allocation are registers' nodes and implicit leaves of ports. -/
theorem crNodes_key {x : CrNode} (h : x ∈ c.crNodes) : x.k < 288 := by
  unfold Chip.crNodes at h
  extract_lets real impl all at h
  obtain ⟨dep, -, hx⟩ := List.mem_flatMap.mp h
  rcases List.mem_append.mp (List.mem_filter.mp hx).1 with hr | hi
  · obtain ⟨n, hn, rfl⟩ := List.mem_map.mp hr
    have := List.mem_range.mp (List.mem_filter.mp hn).1
    dsimp only
    omega
  · obtain ⟨e, he, rfl⟩ := List.mem_map.mp hi
    obtain ⟨p, hp, hpe⟩ := List.mem_filterMap.mp he
    have hp := List.mem_range.mp hp
    have : e.1 = p := by
      split at hpe
      · split at hpe
        · split at hpe
          · exact congrArg Prod.fst (Option.some.inj hpe).symm
          · cases hpe
        · cases hpe
      · cases hpe
    dsimp only
    omega

/-- One update counts itself. -/
theorem crownRun_counts : c.crownRun.rd R.CROWN_CNT_UPDATE pgCROWN = (c.rd R.CROWN_CNT_UPDATE pgCROWN + 1) % 2 ^ 32 := by
  unfold Chip.crownRun
  extract_lets ns root o grant us c1 c2
  have fields : ∀ u ∈ [(R.CROWN_SUPPLY_W, 0, c.supplyW.toNat), (R.CROWN_ROOT_AVAIL_W, 0, root.toNat)] ++ us,
      updateKey ≠ fldKey u.1 pgCROWN u.2.1 := by
    intro u hu
    rcases List.mem_append.mp hu with hu | hu
    · simp only [List.mem_cons, List.not_mem_nil, or_false] at hu
      rcases hu with rfl | rfl
      · exact show updateKey ≠ fldKey R.CROWN_SUPPLY_W pgCROWN 0 by decide
      · exact show updateKey ≠ fldKey R.CROWN_ROOT_AVAIL_W pgCROWN 0 by decide
    · obtain ⟨n, -, hu⟩ := List.mem_flatMap.mp hu
      extract_lets part dem at hu
      split at hu
      · simp only [List.mem_cons, List.not_mem_nil, or_false] at hu
        rcases hu with rfl | rfl | rfl | rfl <;> exact updateKey_ne_node n (Nat.le_of_ble_eq_true rfl)
      · exact absurd hu List.not_mem_nil
  have h1 : c1.rd R.CROWN_CNT_UPDATE pgCROWN = (c.rd R.CROWN_CNT_UPDATE pgCROWN + 1) % 2 ^ 32 := by
    rw [rd_bump_same, (keyStands_hw c noisy_updateKey pgCROWN _ (by decide) fields).rd]
    rfl
  have h2 : KeyStands updateKey c1 c2 := by
    refine .foldc (fun x c => ?_) c1
    split
    · exact updates_takeGrant c _ _ _
    · exact .refl c
  exact (h2.trans (keyStands_ewJudge c2 noisy_updateKey (by decide))).rd.trans h1

/-- An update moves the timers of graces and of early warnings alone. -/
theorem crownRun_armed {k : Nat} (hg : ∀ j < 288, k ≠ tmKey tmGrace j) (he : ∀ g < 8, k ≠ tmKey tmEwHold g) :
    c.crownRun.armed k = c.armed k := by
  unfold Chip.crownRun
  extract_lets ns root o grant us c1 c2
  have h1 : c1.armed k = c.armed k := congrArg (fun m => mapGet m k 0 != 0) ((quiet_hw c _ _).trans (quiet_bump _ _ _ _ _)).timers
  have h2 : c2.armed k = c1.armed k := by
    refine foldc_keeps_on (·.armed k) (fun x hx c => ?_) c1
    split
    · exact takeGrant_armed c _ _ (hg x.k (crNodes_key _ hx))
    · rfl
  exact (ewJudge_armed c2 he).trans (h2.trans h1)
end

section
variable (s : State)

theorem crownUpdate_acts (hp : s.chip.tick % s.chip.rd R.CROWN_PERIOD pgCROWN = 0)
    (hd : s.chip.armed (tmKey tmCrown 0) = false ∨ s.chip.due (tmKey tmCrown 0) = true) (hen : s.chip.on R.CROWN_EN pgCROWN = true)
    (hf : s.chip.feeders = []) : ∃ t, exec (.crownUpdate) s = .next t
      ∧ t.chip.rd R.CROWN_CNT_UPDATE pgCROWN = (s.chip.rd R.CROWN_CNT_UPDATE pgCROWN + 1) % 2 ^ 32
      ∧ t.chip.armed (tmKey tmCrown 0) = true := by
  have act : crownUpdate s.chip = (s.chip.arm (tmKey tmCrown 0) dqTick).crownRun := by
    unfold crownUpdate
    rw [if_neg (by rcases hd with h | h <;> simp [hp, h]), hf]
    exact if_pos hen
  refine ⟨_, rfl, ?_⟩
  rw [State.onChip_chip, act]
  refine ⟨crownRun_counts _, (crownRun_armed _ (fun j hj => ?_) (fun g hg => ?_)).trans (Chip.arm_armed _ _ _)⟩
  · simp only [tmKey, tmCrown, tmGrace]
    omega
  · simp only [tmKey, tmCrown, tmEwHold]
    omega

theorem crownExtraUpdate_acts (hd : s.chip.twin.crownDue = true) (hen : s.chip.on R.CROWN_EN pgCROWN = true) :
    ∃ t, exec (.crownExtraUpdate) s = .next t ∧ t.chip.twin.crownDue = false
      ∧ t.chip.rd R.CROWN_CNT_UPDATE pgCROWN = (s.chip.rd R.CROWN_CNT_UPDATE pgCROWN + 1) % 2 ^ 32 := by
  have act : crownExtraUpdate s.chip = (s.chip.modTwin (fun t => { t with crownDue := false })).crownRun := by
    rw [crownExtraUpdate, if_pos hd]
    exact if_pos hen
  refine ⟨_, rfl, ?_⟩
  rw [State.onChip_chip, act]
  refine ⟨?_, crownRun_counts _⟩
  rw [show (Chip.crownRun _).twin = _ from confined_crownRun (n := 0) _ .twin (by decide)]
  rfl

theorem graceExpiry_acts (n : Leaf) (hd : s.chip.due (tmKey tmGrace n.val) = true) : ∃ t, exec (.graceExpiry n) s = .next t
    ∧ (t.chip.capst n.val).limit = some (s.chip.capst n.val).cap ∧ (n.val < 96 → t.chip.on R.CROWN_CAPPED pgCROWN n.val = true)
    ∧ t.chip.rd R.CROWN_CNT_ENFORCE pgCROWN = (s.chip.rd R.CROWN_CNT_ENFORCE pgCROWN + 1) % 2 ^ 32
    ∧ t.chip.armed (tmKey tmGrace n.val) = false := by
  refine ⟨_, rfl, ?_⟩
  rw [State.onChip_chip, graceExpiry, if_pos hd]
  refine ⟨(ewJudge_limitOf _).trans (enforce_limitOf _ _), fun hn => ?_, ?_, ?_⟩
  · have stands : KeyStands _ (s.chip.enforce n.val) _ := keyStands_ewJudge _ (noisy_capped hn)
      (by simp only [fldKey, R.CROWN_CAPPED, R.HOLD_EW_LIVE, pgCROWN, pgHOLD]; omega)
    rw [Chip.on, stands.rd]
    exact enforce_capped _ hn
  · exact (keyStands_ewJudge (s.chip.enforce n.val) (by decide) (by decide)).rd.trans (enforce_counts _ _)
  · refine (ewJudge_armed _ (fun g _ => ?_)).trans (Chip.disarm_armed _ _)
    have := n.isLt
    simp only [tmKey, tmGrace, tmEwHold]
    omega
end

/-! Strings (R272). -/

section
variable (s : State)

theorem gaugeUpdate_runs (ht : 20002 ≤ s.chip.tick) (hm : (s.chip.tick - 2) % 20000 = 0) (hen : s.chip.onV R.GAUGE_EN pgGAUGE = true)
    (hs : s.chip.shed = false) (hd : s.chip.armed (tmKey tmGauge 0) = false ∨ s.chip.due (tmKey tmGauge 0) = true)
    (hv : ∀ e ∈ s.chip.strs, s.chip.onV R.GAUGE_VALID pgGAUGE e.1 = true) : ∃ t, exec (.gaugeUpdate) s = .next t
      ∧ t = s.onChip (fun c => (foldc ((upTo 24).filter (fun n => c.onV R.GAUGE_VALID pgGAUGE n)) (fun n c => c.strUpdate n)
        (c.arm (tmKey tmGauge 0) dqTick)).takeCfg pgGAUGE (pgGAUGE + 0x1000)) := by
  refine ⟨_, congrArg Host.Outcome.next (onChip_congr ?_), rfl⟩
  unfold gaugeUpdate
  extract_lets runs c1
  have each : runs = fun n => s.chip.onV R.GAUGE_VALID pgGAUGE n := funext fun n => by simp [runs, hen, hs]
  have none : (s.chip.strs.map (·.1)).filter (fun n => !runs n) = [] := by simpa [each] using fun a b hab => hv (a, b) hab
  have h1 : c1 = s.chip.arm (tmKey tmGauge 0) dqTick := by
    unfold c1
    rw [none]
    rfl
  rw [if_neg (by rcases hd with h | h <;> simp [hm, h] <;> omega), h1, each]

theorem gaugeUpdate_rests (ht : 20002 ≤ s.chip.tick) (hm : (s.chip.tick - 2) % 20000 = 0)
    (hr : s.chip.onV R.GAUGE_EN pgGAUGE = false ∨ s.chip.shed = true)
    (hd : s.chip.armed (tmKey tmGauge 0) = false ∨ s.chip.due (tmKey tmGauge 0) = true) : ∃ t, exec (.gaugeUpdate) s = .next t
      ∧ t = s.onChip (fun c => (foldc (c.strs.map (·.1)) (fun n c => c.strSkip n) (c.arm (tmKey tmGauge 0) dqTick)).takeCfg
        pgGAUGE (pgGAUGE + 0x1000)) := by
  refine ⟨_, congrArg Host.Outcome.next (onChip_congr ?_), rfl⟩
  unfold gaugeUpdate
  extract_lets runs c1
  have none : runs = fun _ => false := funext fun n => by rcases hr with h | h <;> simp [runs, h]
  have h1 : c1 = foldc (s.chip.strs.map (·.1)) (fun n c => c.strSkip n) (s.chip.arm (tmKey tmGauge 0) dqTick) := by
    unfold c1
    simp [none]
  rw [if_neg (by rcases hd with h | h <;> simp [hm, h] <;> omega), h1, none, List.filter_false]
  rfl
end

/-! Impedance (R277, R278, R329). -/

theorem noisy_zActive {n : Nat} (hn : n < 24) : noisy (fldKey R.GAUGE_Z_ACTIVE pgGAUGE n) = false := by
  have off : R.GAUGE_Z_ACTIVE.off + R.GAUGE_Z_ACTIVE.stride * n = 0x238 + 64 * n := rfl
  exact noisy_fld_false _ _ _ (by decide) (by decide) (by omega) (by dsimp only; omega) (.inl (by decide))

theorem noisy_zString (k : Sec) : noisy (fldKey R.BMK_ZSTRING pgBMK k.val) = false := by
  revert k
  decide

theorem noisy_zFreq (k : Sec) : noisy (fldKey R.BMK_ZFREQ pgBMK k.val) = false := by
  revert k
  decide

/-- The publication of a string's estimation leaves a field that is no counter of Benchmark's. -/
theorem keyStands_publish {k : Nat} (c : Chip) (item : Nat) (ws : List (Nat × Nat)) (zs : List (F32 × F32 × Nat))
    (h : k ≠ fldKey R.BMK_CNT pgBMK 3) : KeyStands k c (c.publish item ws zs) := by
  unfold Chip.publish
  extract_lets held c1 c2 c3
  have h1 : KeyStands k c c1 := .ite (keyStands_bump c _ _ _ h) (.refl c)
  have h3 : KeyStands k c c3 := h1
  exact .ite (.refl c) (.ite (.refl c) (.ite (h3.trans (.of_confined (n := 0) (confined_proposeAt (a := [.twin, .sent]) c3 0 _ _))) h3))

/-- The storage of a result leaves a field that is no counter of Benchmark's. -/
theorem keyStands_zStore {k : Nat} (c : Chip) (sec n f : Nat) (re im : F32) (h : k ≠ fldKey R.BMK_CNT pgBMK 3) :
    KeyStands k c (c.zStore sec n f re im) := by
  unfold Chip.zStore
  extract_lets q w z j cell young v q1 e soh
  have stored (x : StrSt) : KeyStands k c ((c.setStr n x).writeCell n cell v) :=
    .of_confined (n := 0) ((confined_setStr (a := [.strs, .mram]) c n x).trans (confined_writeCell _ n cell v).mono)
  exact .ite (.refl c) (.ite ((stored _).trans (keyStands_publish _ _ _ _ h)) (stored q1))

/-- A section shows the string and the frequency that it measures. -/
theorem zShown (c : Chip) (k : Sec) {n : Nat} (hn : n < 24) (f : Nat) {d : Chip}
    (hd : d = (c.hw pgBMK [(R.BMK_ZSTRING, k.val, n), (R.BMK_ZFREQ, k.val, f)]).up R.GAUGE_Z_ACTIVE pgGAUGE 1 n := by rfl) :
    d.sec k.val = c.sec k.val ∧ d.rd R.GAUGE_Z_ACTIVE pgGAUGE n = 1 ∧ d.rd R.BMK_ZSTRING pgBMK k.val = n % 2 ^ R.BMK_ZSTRING.w
      ∧ d.rd R.BMK_ZFREQ pgBMK k.val = f % 2 ^ R.BMK_ZFREQ.w := by
  subst hd
  have past {g : Fld} (hg : noisy (fldKey g pgBMK k.val) = false) (hlo : g.lo % 32 ≠ R.GAUGE_Z_ACTIVE.lo % 32) (e : Chip) :
      (e.up R.GAUGE_Z_ACTIVE pgGAUGE 1 n).rd g pgBMK k.val = e.rd g pgBMK k.val :=
    (keyStands_up e hg _ _ _ _ (by decide) (fldKey_ne_of_lo hlo)).rd
  refine ⟨?_, rd_up_same _ _ _ _ _ (by decide) (noisy_zActive hn), ?_, ?_⟩
  · rw [Chip.sec, ((quiet_hw c _ _).trans (quiet_up _ _ _ _ _)).secs]
    rfl
  · rw [past (noisy_zString k) (by decide), rd_hw _ _ _ _ _ _ (by decide) (noisy_zString k)]
    exact (rd_wr_ne _ R.BMK_ZFREQ _ _ _ _ _ _ (fldKey_ne_of_lo (by decide))).trans (rd_wr_same _ _ _ _ _)
  · rw [past (noisy_zFreq k) (by decide), rd_hw _ _ _ _ _ _ (by decide) (noisy_zFreq k)]
    exact rd_wr_same _ _ _ _ _

section
variable (s : State) (k : Sec)

theorem zMeasureStart_acts (n f : Nat) (hz : (s.chip.sec k.val).zStr = none) (hb : s.chip.on R.BMK_EN pgBMK = true)
    (hen : s.chip.onV R.GAUGE_EN pgGAUGE = true) (hd : s.chip.ditherBad k.val = false) (hs : s.chip.shed = false)
    (hw : s.chip.takesWork pgGAUGE = true) (hf : (s.chip.validStrs.filter (fun n => s.chip.zCan k.val n)).findSome?
      (fun n => (s.chip.zDue n).map (fun f => (n, f))) = some (n, f)) : ∃ t, exec (.zMeasureStart k) s = .next t
      ∧ (t.chip.sec k.val).zStr = some n ∧ (t.chip.sec k.val).zStart = s.chip.tick ∧ (t.chip.sec k.val).zBad = false
      ∧ t.chip.rd R.GAUGE_Z_ACTIVE pgGAUGE n = 1 ∧ t.chip.rd R.BMK_ZSTRING pgBMK k.val = n % 2 ^ R.BMK_ZSTRING.w
      ∧ t.chip.rd R.BMK_ZFREQ pgBMK k.val = f % 2 ^ R.BMK_ZFREQ.w := by
  obtain ⟨m, hm, hmf⟩ := List.exists_of_findSome?_eq_some hf
  obtain ⟨g, -, hg⟩ := Option.map_eq_some_iff.mp hmf
  obtain ⟨rfl, rfl⟩ := Prod.mk.inj hg
  have hn : m < 24 := List.mem_range.mp (List.mem_filter.mp (List.mem_filter.mp hm).1).1
  refine ⟨_, rfl, ?_⟩
  rw [State.onChip_chip, zMeasureStart, if_neg (by simp [hz, hb, hen, hd, hs, hw])]
  dsimp only
  rw [hf]
  dsimp only
  obtain ⟨sec, active, string, freq⟩ := zShown (s.chip.modSec k.val _) k hn g
  rw [sec, Chip.modSec_sec]
  exact ⟨rfl, rfl, rfl, active, string, freq⟩

theorem zMeasureEnd_acts (n : Str) (f : Hex) (u : Nat) (hz : (s.chip.sec k.val).zStr = some n.val)
    (hf : s.chip.rd R.BMK_ZFREQ pgBMK k.val = f.val) (hu : (s.chip.sec k.val).zStart = u)
    (he : (s.chip.sec k.val).zBad = true ∨ s.chip.zSpoilt k.val = true ∨ zTime f.val ≤ (s.chip.tick - u) * dqTick) :
    ∃ t, exec (.zMeasureEnd k n f u) s = .next t ∧ (t.chip.sec k.val).zStr = none ∧ t.chip.rd R.GAUGE_Z_ACTIVE pgGAUGE n.val = 0
      ∧ t.chip.rd R.BMK_ZSTRING pgBMK k.val = 0x1F := by
  refine ⟨_, rfl, ?_⟩
  rw [State.onChip_chip]
  unfold zMeasureEnd
  extract_lets q ok z c1
  have ended : ¬ (ok && decide ((s.chip.tick - q.zStart) * dqTick < zTime f.val)) = true := by
    rcases he with h | h | h
    · simp [ok, q, h]
    · simp [ok, h]
    · simp [q, hu, h]
  rw [if_neg (by simp [q, hz, hf, hu]), if_neg ended]
  have zStr : (c1.sec k.val).zStr = none := by
    rw [Chip.sec, ((quiet_up _ _ _ _ _).trans (quiet_up _ _ _ _ _)).secs]
    exact congrArg SecSt.zStr (Chip.modSec_sec _ _ _)
  have zActive : c1.rd R.GAUGE_Z_ACTIVE pgGAUGE n.val = 0 := rd_up_same _ _ _ _ _ (by decide) (noisy_zActive n.isLt)
  have zString : c1.rd R.BMK_ZSTRING pgBMK k.val = 0x1F := by
    unfold c1
    rw [rd_up _ _ _ _ _ _ _ _ (by decide) (noisy_zString k), rd_wr_ne _ _ _ _ _ _ _ _ (fldKey_ne_of_lo (by decide))]
    exact rd_up_same _ _ _ _ _ (by decide) (noisy_zString k)
  split
  · have stands (key : Nat) (h : key ≠ fldKey R.BMK_CNT pgBMK 3) := keyStands_zStore c1 k.val n.val f.val z.1 z.2 h
    refine ⟨?_, (stands _ (fldKey_ne_of_lo (by decide))).rd.trans zActive, (stands _ (fldKey_ne_of_lo (by decide))).rd.trans zString⟩
    rw [Chip.sec, show (c1.zStore _ _ _ _ _).secs = c1.secs from confined_zStore (n := 0) c1 k.val n.val f.val z.1 z.2 .secs (by decide)]
    exact zStr
  · exact ⟨zStr, zActive, zString⟩
end

/-! Battery records (R280). -/

theorem batteryRecordWrite_acts (s : State) (hl : s.chip.leads = true)
    (hd : s.chip.armed (tmKey tmBatt 0) = false ∨ s.chip.due (tmKey tmBatt 0) = true) : ∃ t, exec (.batteryRecordWrite) s = .next t
      ∧ t.chip.mram.battery = s.chip.mram.battery.filter (fun e => !s.chip.validStrs.contains e.1) ++ s.chip.validStrs.map s.chip.battRecord
      ∧ t.chip.armed (tmKey tmBatt 0) = true := by
  have act : batteryRecordWrite s.chip = (s.chip.writeBatt s.chip.validStrs).arm (tmKey tmBatt 0) (60 * dqS) := by
    rw [batteryRecordWrite, if_neg (by simp [hl]), if_pos (by simpa using hd)]
  refine ⟨_, rfl, ?_⟩
  rw [State.onChip_chip, act]
  exact ⟨rfl, Chip.arm_armed _ _ _⟩

/-- Settles O9, command by command. -/
theorem crownAndGaugeCommandsAct : Obligations.CrownAndGaugeCommandsAct :=
  ⟨crownUpdate_acts, crownExtraUpdate_acts, graceExpiry_acts, gaugeUpdate_runs, gaugeUpdate_rests, zMeasureStart_acts, zMeasureEnd_acts,
    batteryRecordWrite_acts⟩

end Sys2Proof.Machine
end

section
/-! PROOFS. HIB_ENTER is refused while a section with EN in force is not ON_SOURCE (R258, R281). -/

namespace Sys2Proof.Machine

theorem pageOf_pgGAUGE {d : Nat} (hd : d < 0x1000) : pageOf (pgGAUGE + d) = some (.gauge, 0) :=
  (pageOf_add (by simp only [pgGAUGE]; omega)).trans (by decide)

section
variable (c : Chip)

/-- A word of GAUGE beyond the common registers. -/
theorem applyWord_gauge {o : Nat} (v : Nat) (own agreed : Bool) (idp : Nat) (h : 0x100 ≤ o) (ho : o < 0x1000) :
    c.applyWord (pgGAUGE + o) v own agreed idp = c.wrGauge o v own := by
  have hm : (pgGAUGE + o) % 0x1000 = o := by simp only [pgGAUGE]; omega
  simp only [Chip.applyWord, pageOf_pgGAUGE ho, hm]
  exact commonWord_passed h _ _ _ _ _ _ _

/-- Of GA_CTRL a write sets EN; HIB_ENTER is no stored field. -/
theorem putWord_gaCtrl (v : Nat) : c.putWord .gauge pgGAUGE 0x100 v = c.wr R.GAUGE_EN pgGAUGE (fldOf v R.GAUGE_EN) := by
  have rows : PageKind.rowsAt .gauge 0x100 = [(⟨R.GAUGE_EN, 1, .rw⟩, 0), (⟨R.GAUGE_HIB_ENTER, 1, .wo⟩, 0)] := by decide +kernel
  simp [Chip.putWord, rows]

/-- HIB_ENTER with a section that has EN in force and is not ON_SOURCE. -/
theorem hibEnter_refused {k : Sec} (hen : c.onV R.HOLD_EN pgHOLD k.val = true) (hst : c.rd R.HOLD_STATE pgHOLD k.val ≠ 1) :
    c.hibEnter = c.cfgReject pgGAUGE 25 := by
  have off : (upTo 8).any (fun s => c.onV R.HOLD_EN pgHOLD s && c.rd R.HOLD_STATE pgHOLD s != 1) = true :=
    List.any_eq_true.mpr ⟨k.val, List.mem_range.mpr k.isLt, by simp [hen, hst]⟩
  rw [Chip.hibEnter, if_pos off]
end

/-- A refused HIB_ENTER leaves Plumb as it was: the chip does not hibernate. -/
theorem hibEnter_refused_plumb {s t : State} {k : Sec} (h : s.takesAlone (pgGAUGE + 0x100) 2 = true)
    (hen : s.chip.onV R.HOLD_EN pgHOLD k.val = true) (hst : s.chip.rd R.HOLD_STATE pgHOLD k.val ≠ 1)
    (ht : exec (.hibEnter .bar0 2 15) s = .next t) : t.chip.plumb = s.chip.plumb := by
  have written : exec (.hibEnter .bar0 2 15) s = .next (s.onChip (fun c => c.applyWord (pgGAUGE + 0x100) 2 true false 0)) :=
    congrArg Host.Outcome.next (pageWrite_alone (v := 2) h (pageOf_pgGAUGE (by decide)) (by decide) (by decide))
  obtain rfl := Host.Outcome.next.inj (written.symm.trans ht)
  have act : s.chip.wrGauge 0x100 2 true = (s.chip.wr R.GAUGE_EN pgGAUGE 0).hibEnter := by
    rw [Chip.wrGauge, putWord_gaCtrl]
    rfl
  have hst' : (s.chip.wr R.GAUGE_EN pgGAUGE 0).rd R.HOLD_STATE pgHOLD k.val ≠ 1 := by
    rwa [rd_wr_ne _ _ _ _ _ _ _ _ (by simp only [fldKey, R.HOLD_STATE, R.GAUGE_EN, pgHOLD, pgGAUGE]; omega)]
  have refused : (s.chip.wr R.GAUGE_EN pgGAUGE 0).hibEnter = _ := hibEnter_refused _ hen hst'
  rw [State.onChip_chip, applyWord_gauge _ _ _ _ _ (by decide) (by decide), act, refused]
  exact (quiet_pulse _ _ _).plumb

/-- A chip in SOLO whose section 0 is in HOLD. HU_CFG.EN of the section has been written 0, and stays 1 in force until the next
SHARE_MPC update (R258). -/
def enInForceState : State :=
  { State.reset with
    chip := { plumb := { porst := false, mgmtUp := true },
              regs := [(fldKey R.TWIN_STATE pgTWIN 0, 1), (fldKey R.PLUMB_MAIN_UP pgPLUMB 0, 1), (fldKey R.HOST_LINK_UP pgHOST 0, 1),
                (fldKey R.HOLD_STATE pgHOLD 0, 3)],
              inForce := [(fldKey R.HOLD_EN pgHOLD 0, 1)] } }

/-- Refutes O34: its third clause has HIB_ENTER taken where HU_CFG.EN of every section reads 0, but what decides is EN in force (R258, R281).
In `enInForceState` section 0 has EN in force and is in HOLD, so the write latches CFG_REJECT and the chip does not hibernate. -/
theorem not_serviceControlActs : ¬ Obligations.ServiceControlActs := by
  rintro ⟨-, -, hibernates, -⟩
  have alone : enInForceState.takesAlone (pgGAUGE + 0x100) 2 = true := by decide +kernel
  obtain ⟨t, ht, hib, -⟩ := hibernates enInForceState alone (by decide +kernel)
  have stands : t.chip.plumb = enInForceState.chip.plumb :=
    hibEnter_refused_plumb (k := 0) alone (by decide +kernel) (by decide +kernel) ht
  rw [stands] at hib
  exact absurd hib (by decide +kernel)

end Sys2Proof.Machine
end

section
/-! PROOFS. The sample of an interval in which hibernation has ended, the rails being UP already, adds the wake on current (R282, R283). -/

namespace Sys2Proof.Machine

section
variable (c : Chip) (a : AdcRead)

/-- A set of readings changes the PLUMB page's ADC values alone. -/
theorem keyStands_putAdc {k : Nat} (hn : noisy k = false) (hv : k ≠ fldKey R.PLUMB_VAON_MV pgPLUMB 0)
    (ha : ∀ i < 4, k ≠ fldKey R.PLUMB_ADC_MV pgPLUMB i) : KeyStands k c (c.putAdc a) :=
  keyStands_hw c hn pgPLUMB _ (by decide) (by simpa using ⟨hv, ha 0 (by decide), ha 1 (by decide), ha 2 (by decide), ha 3 (by decide)⟩)

theorem putAdc_plumb : (c.putAdc a).plumb = c.plumb := (quiet_hw c pgPLUMB _).plumb

theorem putAdc_seqState : (c.putAdc a).rd R.SEQ_STATE pgSEQ = c.rd R.SEQ_STATE pgSEQ :=
  (keyStands_putAdc c a (by decide) (by decide) (by decide)).rd

theorem putAdc_wakeCur : (c.putAdc a).rd R.GAUGE_WAKE_CUR pgGAUGE = c.rd R.GAUGE_WAKE_CUR pgGAUGE :=
  (keyStands_putAdc c a (by decide) (by decide) (by decide)).rd

/-- The sample of the interval in which another cause has woken the chip, taken when the rails are UP already: a high current sets WAKE_CUR
beside the cause that stands (R283). -/
theorem hibSample_afterWake (hd : c.due (tmKey tmHibSample 0) = true) (hib : c.plumb.hib = false) (hw : c.plumb.hibWake = 0)
    (hh : c.hibHigh a = true) (hs : c.rd R.SEQ_STATE pgSEQ = 2) :
    hibSample c a = ((c.disarm (tmKey tmHibSample 0)).putAdc a).up R.GAUGE_WAKE_CUR pgGAUGE 1 := by
  rw [hibSample, if_neg (by simp [hd])]
  simp only [putAdc_plumb, putAdc_seqState, Chip.disarm_plumb, Chip.disarm_rd]
  rw [if_neg (by simp [hib]), if_neg (by simp [hw]), if_pos (by simp [hh, hib, hs])]
end

/-- IIC2 has woken the chip from hibernation and the rails have come UP before the interval's 10 s are over: WAKE_IIC2 is shown, and the
sample of the interval is due. The scale is 1 A per mV, and HIB_WAKE_A was 10.0. -/
def wokenByIic2State : State :=
  { State.reset with
    chip := { now := 10 * dqS,
              timers := [(tmKey tmHibSample 0, 10 * dqS)],
              plumb := { porst := false, mgmtUp := true, hib := false, hibWake := 0, hibScale := 0x3F800000, hibLimit := 0x41200000 },
              regs := [(fldKey R.PLUMB_MAIN_UP pgPLUMB 0, 1), (fldKey R.SEQ_STATE pgSEQ 0, 2), (fldKey R.GAUGE_WAKE_IIC2 pgGAUGE 0, 1)] } }

/-- Readings with 914 mV at AON_ADC1: 14 A at 1 A per mV. -/
def highCurrentRead : AdcRead := ⟨900, 900, 914, 900, 900, 900⟩

/-- Refutes O24: its fourth clause has the sample show the readings and do nothing else where the chip no longer hibernates and no wake waits for
the rails, but a high current of the interval in which IIC2 has woken the chip still sets WAKE_CUR once the rails are UP (R283).
In `wokenByIic2State` a sample of 14 A sets WAKE_CUR, which the clause leaves 0. -/
theorem not_plumbReadingsAct : ¬ Obligations.PlumbReadingsAct := by
  rintro ⟨-, -, -, readsOnly, -⟩
  have due : wokenByIic2State.chip.due (tmKey tmHibSample 0) = true := by decide +kernel
  have high : wokenByIic2State.chip.hibHigh highCurrentRead = true := by decide +kernel
  have low : wokenByIic2State.chip.rd R.GAUGE_WAKE_CUR pgGAUGE = 0 := by decide +kernel
  obtain ⟨t, ht, eq⟩ := readsOnly wokenByIic2State highCurrentRead due (.inl rfl) (.inr rfl)
  have acts : t = wokenByIic2State.onChip (fun c => hibSample c highCurrentRead) := (Host.Outcome.next.inj ht).symm
  have shown : t.chip.rd R.GAUGE_WAKE_CUR pgGAUGE = 1 := by
    rw [acts, State.onChip_chip, hibSample_afterWake _ _ due rfl rfl high (by decide +kernel)]
    exact rd_up_same _ _ _ _ _ (by decide) (by decide)
  have clear : t.chip.rd R.GAUGE_WAKE_CUR pgGAUGE = 0 := by
    rw [eq, State.onChip_chip, putAdc_wakeCur, Chip.disarm_rd, low]
  exact absurd (shown.symm.trans clear) (by decide)

end Sys2Proof.Machine
end

section
/-! SUPPORT. The fields of a stage port's own registers: what the Field Book, a raise and Crown leave of them (R264, R424, R446). -/

namespace Sys2Proof.Machine

/-- A field of a stage port's page behind the registers that every page has, and none that events change. -/
structure PortField (k : Nat) : Prop where
  still : noisy k = false
  page : 0x200000 ≤ k / 32
  own : 0x100 ≤ k / 32 % 0x1000

theorem portField_fld {f : Fld} {p : Nat} (hf : 0x100 ≤ f.off ∧ f.off < 0x1000 ∧ f.lo < 32 := by decide) :
    PortField (fldKey f (pgSP p) 0) := by
  obtain ⟨low, high, bits⟩ := hf
  refine ⟨noisy_fld_false f _ 0 (pgSP_page p).1 bits ?_ ?_ (.inl ?_), ?_, ?_⟩
  · omega
  · dsimp only; omega
  · simp only [pgSP]; omega
  all_goals simp only [fldKey, pgSP]; omega

/-- Every field of a page below those of the stage ports is another one. -/
theorem PortField.ne {k : Nat} (hk : PortField k) {f : Fld} {b i : Nat}
    (h : b + f.off + f.stride * i < 0x200000 ∧ f.lo < 32 := by decide) : k ≠ fldKey f b i := by
  rintro rfl
  have page := hk.page
  simp only [fldKey] at page
  omega

/-- So is every field that every page has. -/
theorem PortField.ne_common {k : Nat} (hk : PortField k) {f : Fld} {b : Nat} (hb : b % 4096 = 0)
    (h : f.off < 0x100 ∧ f.lo < 32 := by decide) : k ≠ fldKey f b 0 := by
  rintro rfl
  have own := hk.own
  simp only [fldKey] at own
  omega

section
variable {k : Nat} (c : Chip)

theorem keyStands_send (o : Out) : KeyStands k c (c.send o) := fun _ => by rw [Chip.send_regs]

theorem keyStands_modFbk (f : FbkSt → FbkSt) : KeyStands k c (c.modFbk f) := fun _ => rfl

theorem keyStands_modTwin (f : TwinSt → TwinSt) : KeyStands k c (c.modTwin f) := fun _ => rfl

theorem keyStands_modFwu (f : FwuSt → FwuSt) : KeyStands k c (c.modFwu f) := fun _ => rfl

theorem keyStands_modPlumb (f : PlumbSt → PlumbSt) : KeyStands k c (c.modPlumb f) := fun _ => rfl
end

/-! Records (R446, R448). -/

section
variable {k : Nat} (c : Chip) (hn : noisy k = false) (hq : k ≠ fldKey R.FBK_QUEUE pgFBK 0) (hd : k ≠ fldKey R.FBK_DROPPED pgFBK 0)
include hn hq hd

theorem keyStands_enqueue (r : FbRec) : KeyStands k c (c.enqueue r) := by
  have drop (c : Chip) (r : FbRec) : KeyStands k c (c.countDrop r) :=
    ((keyStands_bump c R.FBK_DROPPED pgFBK 0 hd).trans (keyStands_modFbk _ _)).trans (keyStands_pulse _ hn pgFBK 1 (by decide))
  unfold Chip.enqueue
  extract_lets q c1
  have queued : KeyStands k c c1 := (keyStands_modFbk c _).trans (keyStands_up _ hn _ _ _ 0 (by decide) hq)
  refine .ite (.refl c) (.ite (queued.trans (same_level c1 pgFBK 2 _ (by decide) k hn)) ?_)
  split
  · exact drop c r
  · exact (keyStands_modFbk c _).trans (drop _ _)

theorem keyStands_record (code source sev part : Nat) (payload : Bytes) (shelf : Bool) :
    KeyStands k c (c.record code source sev part payload shelf) := by
  unfold Chip.record
  have free : KeyStands k c c.free.2 := fun _ => rfl
  exact .ite (.refl c) ((KeyStands.ite free (.refl c)).trans (keyStands_enqueue _ hn hq hd _))
end

/-! Raising a trip (R354, R424 to R429, R500). -/

section
variable {k : Nat} (c : Chip) (hk : PortField k)
include hk

theorem keyStands_reFlt : KeyStands k c c.reFlt := by
  unfold Chip.reFlt
  exact .ite (.refl c) (keyStands_up c hk.still _ _ _ _ (by decide) hk.ne)

theorem keyStands_reMaxSev : KeyStands k c c.reMaxSev := by
  unfold Chip.reMaxSev Chip.putHealth
  extract_lets m c1
  have h1 : KeyStands k c c1 := .ite (.refl c) (keyStands_up c hk.still _ _ _ _ (by decide) hk.ne)
  exact .ite h1 (h1.trans ((keyStands_up c1 hk.still _ _ _ _ (by decide) hk.ne).trans (keyStands_send _ _)))

theorem keyStands_quiescePart (h2 : k % 32 ≠ 2) (q : Nat) : KeyStands k c (c.quiescePart q) := by
  unfold Chip.quiescePart Chip.quiescePages
  extract_lets page
  have one (b : Nat) (hb : b % 4096 = 0) (c : Chip) : KeyStands k c (page b c) := by
    have written := keyStands_wr c R.PG_QUIESCE b 1 0 (hk.ne_common hb)
    exact .ite (.ite (written.trans (keyStands_up _ hk.still _ _ _ _ hb (hk.ne_common hb))) written) (.refl c)
  refine .ite (.refl c) ?_
  have other : k ≠ fldKey R.PART_QUIESCE pgPART q := by
    rintro rfl
    simp only [fldKey, R.PART_QUIESCE] at h2
    omega
  have part := keyStands_wr c R.PART_QUIESCE pgPART 1 q other
  exact (part.trans (.foldc (fun n => one _ (pgCE_page n).1) _)).trans (.foldc (fun n => one _ (pgSP_page n).1) _)

theorem keyStands_settleFail : KeyStands k c c.settleFail := by
  unfold Chip.settleFail
  have op (c : Chip) : KeyStands k c ((c.up R.FWU_OP pgFWU 7).pulse pgFWU 2) :=
    (keyStands_up c hk.still _ _ _ 0 (by decide) hk.ne).trans (keyStands_pulse _ hk.still pgFWU 2 (by decide))
  exact .ite ((((keyStands_modFwu c _).trans (keyStands_disarm _ _)).trans (keyStands_arm _ _ _)).trans (op _)) (.refl c)

theorem keyStands_enterFenced (cause : Nat) : KeyStands k c (c.enterFenced cause) := by
  unfold Chip.enterFenced
  extract_lets c1 c2
  have up (c : Chip) (f : Fld) (v : Nat) (h : pgTWIN + f.off + f.stride * 0 < 0x200000 ∧ f.lo < 32 := by decide) :
      KeyStands k c (c.up f pgTWIN v) := keyStands_up c hk.still f pgTWIN v 0 (by decide) (hk.ne h)
  have state : KeyStands k c c1 := by
    have fenced : KeyStands k c (c.hw pgTWIN [(R.TWIN_STATE, 0, 4), (R.TWIN_FENCE_CAUSE, 0, cause)]) :=
      keyStands_hw c hk.still pgTWIN _ (by decide) (by simpa using ⟨hk.ne, hk.ne⟩)
    have role (c : Chip) : KeyStands k c (c.setRole true) := by
      unfold Chip.setRole
      exact .ite (.refl c) ((up c _ _).trans (keyStands_pulse _ hk.still pgTWIN 5 (by decide)))
    exact fenced.trans (role _)
  have notice : KeyStands k c c2 := (state.trans (keyStands_modPlumb c1 _)).trans (keyStands_send _ _)
  have window : KeyStands k c (c2.pulse pgTWIN 3).openRecovery :=
    ((notice.trans (keyStands_pulse c2 hk.still pgTWIN 3 (by decide))).trans (up _ R.TWIN_RECOVERING 1)).trans (keyStands_arm _ _ _)
  refine .ite ((up c _ _).trans (keyStands_reFlt _ hk)) ?_
  exact ((window.trans (keyStands_disarm _ _)).trans (keyStands_modTwin _ _)).trans (keyStands_reFlt _ hk)

theorem keyStands_s3Sequence (src : Nat) : KeyStands k c (c.s3Sequence src) := by
  unfold Chip.s3Sequence
  extract_lets c1
  have fence : KeyStands k c c1 := (keyStands_modPlumb c _).trans (keyStands_enterFenced _ hk 1)
  exact .ite (.refl c) (.ite (.refl c) (.ite (fence.trans (keyStands_arm c1 _ _)) fence))

/-- What follows the raise of a feeder's trip. -/
theorem keyStands_tripEcho (h2 : k % 32 ≠ 2) (inst sev own : Nat) : KeyStands k c (c.raiseEcho 0x45 inst sev own) := by
  unfold Chip.raiseEcho
  extract_lets c2 c3 c4 c5 c6 c7 c8 c9 c10 c11
  have counted : KeyStands k c c3 := keyStands_bump c R.FCU_CNT_RAISE pgFCU 0 hk.ne
  have h4 : KeyStands k c c4 := counted.trans (keyStands_wr c3 R.FCU_OUTSTANDING pgFCU _ _ hk.ne)
  have h5 : KeyStands k c c5 := (h4.trans (keyStands_modPlumb c4 _)).trans (keyStands_reMaxSev _ hk)
  have h6 : KeyStands k c c6 := .ite h5 (h5.trans (keyStands_pulse c5 hk.still pgFCU _ (by decide)))
  have h7 : KeyStands k c c7 := h6.trans (keyStands_capCause c6 _)
  have h8 : KeyStands k c c8 := .ite (h7.trans (keyStands_quiescePart c7 hk h2 _)) h7
  have h9 : KeyStands k c c9 := .ite (h8.trans (keyStands_settleFail c8 hk)) h8
  have h11 : KeyStands k c c11 := h9
  exact .ite (h11.trans (keyStands_s3Sequence c11 hk _)) h11

theorem keyStands_raiseTrip (h2 : k % 32 ≠ 2) (inst : Nat) : KeyStands k c (c.raise 0x45 inst) := by
  cases hp : c.plumb.porst || c.plumb.stopped with
  | true => rw [raise_unpowered c 0x45 inst [] hp]; exact .refl c
  | false =>
    rw [raise_powered c inst [] (by decide) hp, Chip.showRaise]
    refine ((keyStands_record c hk.still hk.ne hk.ne _ _ _ _ _ _).trans (keyStands_hw _ hk.still pgFCU _ (by decide) ?_)).trans
      (keyStands_tripEcho _ hk h2 inst _ _)
    simpa using ⟨hk.ne, hk.ne, hk.ne⟩
end

end Sys2Proof.Machine
end

section
/-! SUPPORT. The states of a feeder and its messages to the tray: what they leave of registers and of the feeder (R289, R303, R306, R308). -/

namespace Sys2Proof.Machine

/-! Register fields. -/

/-- The fields that a change of a feeder's state writes. -/
def stateKeys (p : Nat) : List Nat := [fldKey R.SP_FD_STATE (pgSP p) 0, fldKey R.FBK_QUEUE pgFBK 0, fldKey R.FBK_DROPPED pgFBK 0]

theorem PortField.notState {f : Fld} {p : Nat} (hk : PortField (fldKey f (pgSP p) 0))
    (h : fldKey f 0 0 ≠ fldKey R.SP_FD_STATE 0 0 := by decide) : fldKey f (pgSP p) 0 ∉ stateKeys p := by
  simp only [stateKeys, List.mem_cons, List.not_mem_nil, or_false, not_or]
  exact ⟨fldKey_ne_on_page _ h, hk.ne, hk.ne⟩

/-- The registers after a change of a feeder's state: the state is shown, and the change recorded (R289). -/
theorem fdSet_regs (c : Chip) (p st : Nat) (h : c.fdState p ≠ st) :
    (c.fdSet p st).regs = ((c.up R.SP_FD_STATE (pgSP p) st).record 0x112 p 0 (c.owner (pgSP p))
      [BitVec.ofNat 8 (c.fdState p), BitVec.ofNat 8 st] true).regs := by
  rw [Chip.fdSet, if_neg h]
  extract_lets c1 c2 c4 c5 c6 c7 c8
  have h4 : c4.regs = c2.regs := by unfold c4; split_ifs <;> rfl
  have h5 : c5.regs = c2.regs := by unfold c5; split_ifs <;> exact h4
  have h6 : c6.regs = c2.regs := by unfold c6; split_ifs <;> exact h5
  split_ifs <;> exact h6

section
variable {k : Nat} (c : Chip) (hn : noisy k = false)

theorem keyStands_modFd (p : Nat) (f : FdSt → FdSt) : KeyStands k c (c.modFd p f) := fun _ => rfl

theorem keyStands_setFd (p : Nat) (v : FdSt) : KeyStands k c (c.setFd p v) := fun _ => rfl

theorem keyStands_modCap (p : Nat) (f : CapSt → CapSt) : KeyStands k c (c.modCap p f) := fun _ => rfl

theorem keyStands_setCmd (p : Nat) (x : Cmd) : KeyStands k c (c.setCmd p x) := fun _ => rfl

theorem keyStands_negMirror (p : Nat) : KeyStands k c (c.negMirror p) := keyStands_send c _

include hn

theorem keyStands_fdSet {p : Nat} (st : Nat) (h : k ∉ stateKeys p) : KeyStands k c (c.fdSet p st) := by
  simp only [stateKeys, List.mem_cons, List.not_mem_nil, or_false, not_or] at h
  obtain ⟨state, queue, dropped⟩ := h
  by_cases hs : c.fdState p = st
  · rw [Chip.fdSet, if_pos hs]
    exact .refl c
  · have recorded := (keyStands_up c hn _ _ st 0 (pgSP_page p).1 state).trans (keyStands_record _ hn queue dropped 0x112 p 0
      (c.owner (pgSP p)) [BitVec.ofNat 8 (c.fdState p), BitVec.ofNat 8 st] true)
    exact fun v => (congrArg (mapGet · k v) (fdSet_regs c p st hs)).trans (recorded v)
end

/-- A feeder goes to the state that it is set to. -/
theorem fdSet_fdState (c : Chip) (p : Nat) {st : Nat} (hst : st < 16) : (c.fdSet p st).fdState p = st := by
  by_cases hs : c.fdState p = st
  · rw [Chip.fdSet, if_pos hs]
    exact hs
  · have hk : PortField (fldKey R.SP_FD_STATE (pgSP p) 0) := portField_fld
    rw [Chip.fdState, Chip.rd, fdSet_regs c p st hs]
    exact (keyStands_record _ hk.still hk.ne hk.ne _ _ _ _ _ _).rd.trans
      ((rd_up_same c _ _ st 0 (pgSP_page p).1 hk.still).trans (Nat.mod_eq_of_lt hst))

/-! Messages to the tray (R303). -/

section
variable {k : Nat} (c : Chip) (p : Nat)

/-- Putting a message on its way changes no feeder. -/
theorem confined_negPut_link (id : Nat) (m : NegMsg) : Confined p (quietParts ++ [.ports]) c (c.negPut p id m) := by
  unfold Chip.negPut
  extract_lets bs c1
  have h1 : Confined p (quietParts ++ [.ports]) c c1 := .ite (confined_send c _) (.foldc (fun q c => confined_pushReq c p q) c)
  exact (h1.trans (confined_bump c1 _ _ _ _)).trans (confined_send _ _)

theorem negPut_fd (id : Nat) (m : NegMsg) : (c.negPut p id m).fd p = c.fd p := by
  rw [Chip.fd, show _ = c.feeders from confined_negPut_link c p id m .feeders (by decide)]
  rfl

/-- The requests that carry a message, or the word to the twin that sends it, are no registers. -/
theorem negPut_bumps (id : Nat) (m : NegMsg) : ∃ d : Chip, d.regs = c.regs ∧ c.negPut p id m = (d.bump R.NEG_CNT pgNEG 0).negMirror p := by
  unfold Chip.negPut
  extract_lets bs c1
  have sent : Confined p [.ports, .sent] c c1 := .ite (confined_send c _) (.foldc (fun q c => confined_pushReq c p q) c)
  exact ⟨c1, sent .regs (by decide), rfl⟩

theorem keyStands_negPut (h : k ≠ fldKey R.NEG_CNT pgNEG 0) (id : Nat) (m : NegMsg) : KeyStands k c (c.negPut p id m) := by
  obtain ⟨d, regs, eq⟩ := negPut_bumps c p id m
  have same : KeyStands k c d := fun _ => by rw [regs]
  rw [eq]
  exact (same.trans (keyStands_bump d _ _ _ h)).trans (keyStands_negMirror _ p)

/-- A message that is sent counts in NEG_CNT_TX. -/
theorem negPut_counts (id : Nat) (m : NegMsg) : (c.negPut p id m).rd R.NEG_CNT pgNEG 0 = (c.rd R.NEG_CNT pgNEG 0 + 1) % 2 ^ 32 := by
  obtain ⟨d, regs, eq⟩ := negPut_bumps c p id m
  rw [eq, (keyStands_negMirror _ p).rd, rd_bump_same, Chip.rd, regs]
  rfl

theorem keyStands_negNext (h : k ≠ fldKey R.NEG_CNT pgNEG 0) : KeyStands k c (c.negNext p) := by
  unfold Chip.negNext
  extract_lets f id
  split
  · exact .refl c
  · exact .refl c
  · extract_lets c1
    have h1 : KeyStands k c c1 := (keyStands_setFd c p _).trans (keyStands_negPut _ p h _ _)
    exact .ite h1 (h1.trans (keyStands_arm c1 _ _))

theorem keyStands_negSend (h : k ≠ fldKey R.NEG_CNT pgNEG 0) (m : NegMsg) : KeyStands k c (c.negSend p m) := by
  unfold Chip.negSend
  exact .ite ((keyStands_modFd c p _).trans (keyStands_negNext _ p h)) (.refl c)
end

/-! The feeder itself. -/

/-- What a feeder holds beside its message queue, its window of ATTACH, its offer and the contract in the making. -/
def FdSt.kept (f : FdSt) : FdSt :=
  { f with out := [], wait := none, waitId := 0, waitTries := 0, txId := 0, srcTry := false, pmax := 0, making := false, softEx := false }

/-- The feeder of port `p` keeps that. -/
def FdKept (p : Nat) (c d : Chip) : Prop := (d.fd p).kept = (c.fd p).kept

section
variable {p : Nat} {c d e : Chip}

theorem FdKept.refl (c : Chip) : FdKept p c c := rfl

theorem FdKept.trans (h : FdKept p c d) (j : FdKept p d e) : FdKept p c e := Eq.trans j h

theorem FdKept.ite {q : Prop} [Decidable q] (h : FdKept p c d) (j : FdKept p c e) : FdKept p c (if q then d else e) := by
  split
  · exact h
  · exact j

theorem FdKept.of_confined {n : Nat} {a : List Comp} (h : Confined n a c d) (hf : .feeders ∉ a := by decide) : FdKept p c d := by
  rw [FdKept, Chip.fd, show d.feeders = c.feeders from h .feeders hf]
  rfl

theorem fdKept_modFd (c : Chip) (f : FdSt → FdSt) (h : (f (c.fd p)).kept = (c.fd p).kept := by rfl) : FdKept p c (c.modFd p f) := by
  rw [FdKept, Chip.modFd_fd]
  exact h

theorem FdKept.placed (h : FdKept p c d) : (d.fd p).placed = (c.fd p).placed :=
  (congrArg FdSt.placed h : (d.fd p).kept.placed = (c.fd p).kept.placed)
theorem FdKept.lastRun (h : FdKept p c d) : (d.fd p).lastRun = (c.fd p).lastRun :=
  (congrArg FdSt.lastRun h : (d.fd p).kept.lastRun = (c.fd p).kept.lastRun)
theorem FdKept.clearWait (h : FdKept p c d) : (d.fd p).clearWait = (c.fd p).clearWait :=
  (congrArg FdSt.clearWait h : (d.fd p).kept.clearWait = (c.fd p).kept.clearWait)
theorem FdKept.rxId (h : FdKept p c d) : (d.fd p).rxId = (c.fd p).rxId :=
  (congrArg FdSt.rxId h : (d.fd p).kept.rxId = (c.fd p).kept.rxId)
theorem FdKept.rspTimer (h : FdKept p c d) : (d.fd p).rspTimer = (c.fd p).rspTimer :=
  (congrArg FdSt.rspTimer h : (d.fd p).kept.rspTimer = (c.fd p).kept.rspTimer)
theorem FdKept.offers (h : FdKept p c d) : (d.fd p).offers = (c.fd p).offers :=
  (congrArg FdSt.offers h : (d.fd p).kept.offers = (c.fd p).kept.offers)
theorem FdKept.pReq (h : FdKept p c d) : (d.fd p).pReq = (c.fd p).pReq :=
  (congrArg FdSt.pReq h : (d.fd p).kept.pReq = (c.fd p).kept.pReq)
end

section
variable (c : Chip) (p : Nat)

theorem fdKept_fdSet (st : Nat) : FdKept p c (c.fdSet p st) := by
  unfold Chip.fdSet
  extract_lets was c1 c2 c4 c5 c6 c7 c8
  have h2 : FdKept p c c2 := .of_confined (n := p) (a := recordParts) ((confined_up c _ _ _ _).trans (confined_record_book c1 _ _ _ _ _ _))
  have h4 : FdKept p c c4 := .ite (.ite h2 h2) h2
  have h5 : FdKept p c c5 := .ite h4 h4
  have h6 : FdKept p c c6 := .ite h5 h5
  have h7 : FdKept p c c7 := h6.trans (fdKept_modFd c6 (fun f => { f with srcTry := true }))
  exact .ite (.refl c) (.ite (.ite h7 h7) (.ite h6 h6))

theorem fdKept_negNext : FdKept p c (c.negNext p) := by
  unfold Chip.negNext
  extract_lets f id
  split
  · exact .refl c
  · exact .refl c
  · extract_lets c1
    have h1 : FdKept p c c1 := by
      rw [FdKept, negPut_fd, Chip.setFd_fd]
      rfl
    exact .ite h1 h1

theorem fdKept_negSend (m : NegMsg) : FdKept p c (c.negSend p m) := by
  unfold Chip.negSend
  exact .ite ((fdKept_modFd c _).trans (fdKept_negNext _ p)) (.refl c)
end

/-! CAPS (R302, R307). -/

/-- The chip as NEG sends CAPS: it has made its offer, and in ATTACH a CAPS that was not acknowledged gives way. -/
def Chip.capsReady (c : Chip) (p : Nat) : Chip :=
  if (c.capsMsg p).2.fdState p = 2 then (c.capsMsg p).2.modFd p (fun f => { f with wait := none, out := [] }) else (c.capsMsg p).2

theorem sendCaps_eq (c : Chip) (p : Nat) : c.sendCaps p = (c.capsReady p).negSend p (c.capsMsg p).1 := rfl

section
variable (c : Chip) (p : Nat)

theorem confined_capsReady : Confined p [.freeCtr, .feeders] c (c.capsReady p) := by
  have offer : Confined p [.freeCtr, .feeders] c (c.capsMsg p).2 := ((confined_free c).trans (confined_free _)).trans (confined_modFd _ p _)
  unfold Chip.capsReady
  exact .ite (offer.trans (confined_modFd _ p _)) offer

theorem fdKept_capsReady : FdKept p c (c.capsReady p) := by
  have offer : FdKept p c (c.capsMsg p).2 := fdKept_modFd c.free.2.free.2 _
  unfold Chip.capsReady
  exact .ite (offer.trans (fdKept_modFd _ _)) offer

/-- Whom NEG serves does not depend on what it has to send. -/
theorem negServes_of_confined {d : Chip} (h : Confined p [.freeCtr, .feeders] c d) (k : FdKept p c d) : d.negServes p = c.negServes p := by
  have regs : d.regs = c.regs := h .regs (by decide)
  have ports : d.ports = c.ports := h .ports (by decide)
  have plumb : d.plumb = c.plumb := h .plumb (by decide)
  have fwu : d.fwu = c.fwu := h .fwu (by decide)
  simp only [Chip.negServes, Chip.portLeads, Chip.portRole, Chip.held, Chip.solo, Chip.paired, Chip.negPaused, Chip.fdState, Chip.on,
    Chip.rd, Chip.port, regs, ports, plumb, fwu, k.placed]

theorem keyStands_sendCaps {k : Nat} (h : k ≠ fldKey R.NEG_CNT pgNEG 0) : KeyStands k c (c.sendCaps p) :=
  (KeyStands.of_confined (confined_capsReady c p)).trans (keyStands_negSend _ p h _)

theorem fdKept_sendCaps : FdKept p c (c.sendCaps p) := (fdKept_capsReady c p).trans (fdKept_negSend _ p _)

/-- A waiting message is sent, and counts, where none waits for its GOODCRC. -/
theorem negNext_counts {m : NegMsg} {rest : List NegMsg} (hw : (c.fd p).wait = none) (ho : (c.fd p).out = m :: rest) :
    (c.negNext p).rd R.NEG_CNT pgNEG 0 = (c.rd R.NEG_CNT pgNEG 0 + 1) % 2 ^ 32 := by
  simp only [Chip.negNext, hw, ho]
  split_ifs <;> exact negPut_counts _ p _ m

/-- CAPS counts in ATTACH, where it takes the place of whatever was to be sent. -/
theorem sendCaps_counts (hs : c.negServes p = true) (h2 : c.fdState p = 2) :
    (c.sendCaps p).rd R.NEG_CNT pgNEG 0 = (c.rd R.NEG_CNT pgNEG 0 + 1) % 2 ^ 32 := by
  have serves := (negServes_of_confined c p (confined_capsReady c p) (fdKept_capsReady c p)).trans hs
  have cleared : ((c.capsReady p).fd p).wait = none ∧ ((c.capsReady p).fd p).out = [] := by
    rw [Chip.capsReady, if_pos (show (c.capsMsg p).2.fdState p = 2 from h2), Chip.modFd_fd]
    exact ⟨rfl, rfl⟩
  obtain ⟨wait, out⟩ := cleared
  rw [sendCaps_eq, Chip.negSend, if_pos serves, negNext_counts (m := (c.capsMsg p).1) (rest := [])]
  · rw [(keyStands_modFd _ p _).rd, (KeyStands.of_confined (confined_capsReady c p)).rd]
  · rw [Chip.modFd_fd, wait]
  · rw [Chip.modFd_fd, out, List.nil_append]
end

end Sys2Proof.Machine
end

section
/-! PROOFS. A feeder's task runs, and the intervals of its states end (R289, R291, R295, R297, R299, R306, R307). -/

namespace Sys2Proof.Machine

/-! The feeder task (R289, R295). -/

section
variable (c : Chip) (p : Nat)

theorem quiet_countContracts : Quiet c c.countContracts := by
  unfold Chip.countContracts
  exact .ite (.refl c) (quiet_up c _ _ _ _)

/-- Dropping a contract leaves the time of the last run. -/
theorem fdDrop_lastRun : ((c.fdDrop p).fd p).lastRun = (c.fd p).lastRun := by
  unfold Chip.fdDrop
  extract_lets c1 c2
  have feeders : c1.feeders = c.feeders := by
    unfold c1
    split
    · exact ((quiet_hw c _ _).trans (quiet_countContracts _)).feeders
    · rfl
  rw [Chip.disarm_fd, Chip.disarm_fd, Chip.modFd_fd, Chip.fd, feeders]
  rfl

theorem fdKept_setCmd (x : Cmd) : FdKept p c (c.setCmd p x) := .of_confined (confined_modPort (n := p) (a := [.ports]) c _)

theorem fdKept_sendClear : FdKept p c (c.sendClear p) := by
  unfold Chip.sendClear
  exact .ite (.of_confined (confined_pushReq (a := [.ports]) c p _)) (.refl c)

theorem fdKept_fdTrip (cause : Nat) : FdKept p c (c.fdTrip p cause) := by
  unfold Chip.fdTrip
  extract_lets trips n c1
  have h1 : FdKept p c c1 := .of_confined (n := p) (a := quietParts) ((confined_hw c _ _).trans (confined_bump _ _ _ _ _))
  exact ((h1.trans (fdKept_fdSet c1 p _)).trans (fdKept_setCmd _ p _)).trans (.of_confined (confined_raise (n := p) _ _ _ _))

theorem fdMove_lastRun (x : FdIn) : ((c.fdMove p x).fd p).lastRun = (c.fd p).lastRun := by
  unfold Chip.fdMove
  extract_lets b st wet c1 capped
  split
  · have drop := (fdKept_fdSet (c.fdDrop p) p 1).trans (fdKept_setCmd _ p stopCmd)
    exact (drop.trans (.of_confined (confined_nextReq (a := [.ports]) _ p))).lastRun.trans (fdDrop_lastRun c p)
  · have go (v : Nat) : FdKept p c (c.fdSet p v) := fdKept_fdSet c p v
    have attach : FdKept p c (((c.modFd p (fun f => { f with srcTry := true })).arm (tmKey tmRole p) (75 * dqMs)).arm (tmKey tmCaps p) 0) :=
      fdKept_modFd c (fun f => { f with srcTry := true })
    have ready : FdKept p c (if c1.on R.SP_FD_ROLE b then c1 else c1.negSend p { typ := 6 }) :=
      .ite (go 5) ((go 5).trans (fdKept_negSend c1 p _))
    apply FdKept.lastRun
    exact .ite (.ite (.refl c) (go 2)) (.ite (.ite attach (.refl c)) (.ite (.ite (go 2) (.refl c))
      (.ite (.ite ready (.ite (fdKept_fdTrip c p 4) (.refl c))) (.ite (go 6) (.ite (go 5) (.refl c))))))

/-- A run notes its time (R295). -/
theorem feederTaskRun_lastRun (hp : (c.fd p).placed.isSome = true) (hf : c.isFeed p = true) :
    ((feederTaskRun c p).fd p).lastRun = c.datum := by
  unfold feederTaskRun
  rw [if_neg (by simp [Option.isSome_iff_ne_none.mp hp, hf])]
  extract_lets chI dt
  split
  extract_lets ihi uncV pw poles
  split
  extract_lets tj0
  split
  extract_lets acc over' trip der source ilimA icr il0 il c4 us c5 st on c6 now dark c7
  have noted : (c4.fd p).lastRun = c.datum := congrArg FdSt.lastRun (Chip.modFd_fd _ p _)
  have h5 : FdKept p c4 c5 := .ite (.refl c4) (.of_confined (confined_hw (n := p) (a := quietParts) c4 _ _))
  have h6 : (c6.fd p).lastRun = (c5.fd p).lastRun := by
    unfold c6
    split_ifs
    · exact (fdKept_fdTrip c5 p 1).lastRun
    · exact (fdKept_fdTrip c5 p 3).lastRun
    · exact (fdKept_fdTrip c5 p 2).lastRun
    · exact fdMove_lastRun c5 p _
  have h7 : FdKept p c6 c7 := .of_confined (confined_modTwin (n := p) (a := [.twin]) c6 _)
  refine (FdKept.lastRun (c := c6) ?_).trans (h6.trans (h5.lastRun.trans noted))
  exact (h7.trans (.ite (fdKept_setCmd c7 p _) (.ite (.refl c7) (fdKept_setCmd c7 p stopCmd)))).trans (fdKept_sendClear _ p)
end

theorem feederTaskRun_acts (s : State) (p : Port) (hp : (s.chip.fd p.val).placed.isSome = true) (hf : s.chip.isFeed p.val = true) :
    ∃ t, exec (.feederTaskRun p) s = .next t ∧ (t.chip.fd p.val).lastRun = s.chip.datum :=
  ⟨_, rfl, feederTaskRun_lastRun s.chip p.val hp hf⟩

/-! Trips and what follows them (R289, R291, R299). -/

section
variable (c : Chip) (p : Nat)

theorem portField_fdState : PortField (fldKey R.SP_FD_STATE (pgSP p) 0) := portField_fld

theorem fdResume_fdState : (c.fdResume p).fdState p = if c.on R.SP_CONTRACT (pgSP p) then 4 else 2 :=
  fdSet_fdState c p (by split <;> decide)

/-- A trip leads to HICCUP while retries are allowed, and else to TRIPPED. -/
theorem fdTrip_fdState (cause : Nat) :
    (c.fdTrip p cause).fdState p = if c.rd R.SP_RETRIES (pgSP p) + 1 ≤ c.rd R.SP_RETRY_N (pgSP p) then 8 else 7 := by
  have raised (d : Chip) : KeyStands (fldKey R.SP_FD_STATE (pgSP p) 0) d (d.raise 0x45 p) :=
    keyStands_raiseTrip d (portField_fdState p) (by simp only [fldKey, R.SP_FD_STATE]; omega) p
  have go (d : Chip) {v : Nat} (hv : v < 16) : (((d.fdSet p v).setCmd p stopCmd).raise 0x45 p).fdState p = v :=
    ((keyStands_setCmd _ p stopCmd).trans (raised _)).rd.trans (fdSet_fdState d p hv)
  exact go _ (by split <;> decide)

theorem fdTrip_cause {cause : Nat} (hc : cause < 8) : (c.fdTrip p cause).rd R.SP_TRIP_CAUSE (pgSP p) = cause := by
  have hk : PortField (fldKey R.SP_TRIP_CAUSE (pgSP p) 0) := portField_fld
  unfold Chip.fdTrip
  extract_lets trips n c1
  have shown : c1.rd R.SP_TRIP_CAUSE (pgSP p) = cause := by
    rw [rd_bump_ne _ _ _ _ _ _ _ _ (fldKey_ne_on_page _ (by decide)), rd_hw _ _ _ _ _ _ (pgSP_page p).1 hk.still]
    simp only [foldc, List.foldl_cons, List.foldl_nil]
    rw [rd_wr_ne _ _ _ _ _ _ _ _ (fldKey_ne_on_page _ (by decide)), rd_wr_same]
    exact Nat.mod_eq_of_lt hc
  have stands := (keyStands_fdSet c1 hk.still (if trips ≤ c.rd R.SP_RETRY_N (pgSP p) then 8 else 7) hk.notState).trans
    (keyStands_setCmd _ p stopCmd)
  exact (stands.trans (keyStands_raiseTrip _ hk (by simp only [fldKey, R.SP_TRIP_CAUSE]; omega) p)).rd.trans shown
end

section
variable (s : State) (p : Port)

theorem feederRetry_acts (hd : s.chip.due (tmKey tmFdRetry p.val) = true) (h8 : s.chip.fdState p.val = 8)
    (ht : (s.chip.port p.val).fastTrip = false) :
    ∃ t, exec (.feederRetry p) s = .next t ∧ t.chip.fdState p.val = if s.chip.on R.SP_CONTRACT (pgSP p.val) then 4 else 2 := by
  refine ⟨_, rfl, ?_⟩
  rw [State.onChip_chip, feederRetry, if_pos (by simp [hd, h8]), Chip.fdLeave, if_neg (by simp [ht])]
  exact fdResume_fdState _ p.val

theorem retriesClear_acts (hd : s.chip.due (tmKey tmRetries p.val) = true) :
    ∃ t, exec (.retriesClear p) s = .next t ∧ t.chip.rd R.SP_RETRIES (pgSP p.val) = 0 ∧ t.chip.armed (tmKey tmRetries p.val) = false := by
  refine ⟨_, rfl, ?_⟩
  have hk : PortField (fldKey R.SP_RETRIES (pgSP p.val) 0) := portField_fld
  rw [State.onChip_chip, retriesClear, if_pos hd]
  extract_lets c1
  have off : c1.armed (tmKey tmRetries p.val) = false := disarm_armed _ _
  split
  · exact ⟨‹_›, off⟩
  · exact ⟨rd_up_same c1 _ _ 0 0 (pgSP_page _).1 hk.still, (Chip.up_armed c1 _ _ _ _ _).trans off⟩

theorem inrushTimeout_acts (hd : s.chip.due (tmKey tmInrush p.val) = true) (h4 : s.chip.fdState p.val = 4) :
    ∃ t, exec (.inrushTimeout p) s = .next t
      ∧ t.chip.fdState p.val = (if s.chip.rd R.SP_RETRIES (pgSP p.val) + 1 ≤ s.chip.rd R.SP_RETRY_N (pgSP p.val) then 8 else 7)
      ∧ t.chip.rd R.SP_TRIP_CAUSE (pgSP p.val) = 4 := by
  refine ⟨_, rfl, ?_⟩
  rw [State.onChip_chip, inrushTimeout, if_pos (by simp [hd, h4])]
  exact ⟨fdTrip_fdState _ _ 4, fdTrip_cause _ _ (by decide)⟩

theorem modelLateClear_acts (hd : s.chip.due (tmKey tmLate p.val) = true) :
    ∃ t, exec (.modelLateClear p) s = .next t ∧ t.chip.rd R.SP_MODEL_LATE (pgSP p.val) = 0 := by
  refine ⟨_, rfl, ?_⟩
  have hk : PortField (fldKey R.SP_MODEL_LATE (pgSP p.val) 0) := portField_fld
  rw [State.onChip_chip, modelLateClear, if_pos hd]
  exact rd_up_same _ _ _ 0 0 (pgSP_page _).1 hk.still

/-- The feeder after its clear has been judged: the clear is no longer waited for, and the state is the one that the judgement gives. -/
theorem clearJudged (st : Nat) (hst : st < 16) (c1 : Chip) (h1 : (c1.fd p.val).clearWait = false) :
    ((c1.fdSet p.val st).fd p.val).clearWait = false ∧ (c1.fdSet p.val st).fdState p.val = st :=
  ⟨(fdKept_fdSet c1 p.val st).clearWait.trans h1, fdSet_fdState c1 p.val hst⟩

theorem tripClearCheck_clears (hd : s.chip.due (tmKey tmFdClear p.val) = true) (h7 : s.chip.fdState p.val = 7)
    (ht : (s.chip.port p.val).fastTrip = false) :
    ∃ t, exec (.tripClearCheck p) s = .next t ∧ (t.chip.fd p.val).clearWait = false
      ∧ t.chip.fdState p.val = if s.chip.on R.SP_CONTRACT (pgSP p.val) then 4 else 2 := by
  refine ⟨_, rfl, ?_⟩
  rw [State.onChip_chip, tripClearCheck, if_pos hd]
  extract_lets c1 st
  rw [if_pos (show st = 7 ∨ st = 8 from .inl h7), if_neg (by simp [c1, ht])]
  exact clearJudged p _ (by split <;> decide) c1 (congrArg FdSt.clearWait (Chip.modFd_fd _ p.val _))

theorem tripClearCheck_holds (hd : s.chip.due (tmKey tmFdClear p.val) = true) (h : s.chip.fdState p.val = 7 ∨ s.chip.fdState p.val = 8)
    (ht : (s.chip.port p.val).fastTrip = true) :
    ∃ t, exec (.tripClearCheck p) s = .next t ∧ (t.chip.fd p.val).clearWait = false ∧ t.chip.fdState p.val = 7 := by
  refine ⟨_, rfl, ?_⟩
  rw [State.onChip_chip, tripClearCheck, if_pos hd]
  extract_lets c1 st
  rw [if_pos (show st = 7 ∨ st = 8 from h), if_pos (by simp [c1, ht])]
  exact clearJudged p 7 (by decide) c1 (congrArg FdSt.clearWait (Chip.modFd_fd _ p.val _))
end

/-! The intervals of a contract (R306, R307). -/

section
variable (s : State) (p : Port)

theorem hrHoldEnd_acts (hd : s.chip.due (tmKey tmHrHold p.val) = true) :
    ∃ t, exec (.hrHoldEnd p) s = .next t ∧ t.chip.rd R.SP_HR_HOLD (pgSP p.val) = 0
      ∧ (s.chip.fdState p.val = 0 → (s.chip.fd p.val).placed.isSome = true → s.chip.linkReady p.val = true → t.chip.fdState p.val = 2) := by
  refine ⟨_, rfl, ?_⟩
  have hk : PortField (fldKey R.SP_HR_HOLD (pgSP p.val) 0) := portField_fld
  rw [State.onChip_chip, hrHoldEnd, if_pos hd]
  extract_lets c1
  have ended : c1.rd R.SP_HR_HOLD (pgSP p.val) = 0 := rd_up_same _ _ _ 0 0 (pgSP_page _).1 hk.still
  have state : c1.fdState p.val = s.chip.fdState p.val :=
    (keyStands_up _ (portField_fdState _).still _ _ 0 0 (pgSP_page _).1 (fldKey_ne_on_page _ (by decide))).rd
  have link : c1.link p.val = s.chip.link p.val :=
    (keyStands_up _ (noisy_link p) _ _ 0 0 (pgSP_page _).1 (fldKey_ne_on_page _ (by decide))).rd
  have placed : (c1.fd p.val).placed = (s.chip.fd p.val).placed := congrArg FdSt.placed (Chip.up_fd _ _ _ _ _ _)
  split
  · exact ⟨(keyStands_fdSet c1 hk.still 2 hk.notState).rd.trans ended, fun _ _ _ => fdSet_fdState c1 p.val (by decide)⟩
  · refine ⟨ended, fun h0 hp hl => absurd ?_ ‹_›⟩
    rw [state, placed, Chip.linkReady, link]
    exact ⟨h0, hp, hl⟩

theorem capsSend_acts (hd : s.chip.due (tmKey tmCaps p.val) = true) (h2 : s.chip.fdState p.val = 2) (hs : s.chip.negSource p.val = true)
    (hv : s.chip.negServes p.val = true) (hw : s.chip.takesWork pgNEG = true) :
    ∃ t, exec (.capsSend p) s = .next t ∧ mapGet t.chip.timers (tmKey tmCaps p.val) 0 = t.chip.now + 25 * dqMs + 1
      ∧ t.chip.rd R.NEG_CNT pgNEG 0 = (s.chip.rd R.NEG_CNT pgNEG 0 + 1) % 2 ^ 32 := by
  refine ⟨_, rfl, ?_⟩
  rw [State.onChip_chip, capsSend, if_pos (by simp [hd, h2, hs, hv, hw])]
  exact ⟨mapGet_mapSet_same _ _ _ _, sendCaps_counts s.chip p.val hv h2⟩

theorem roleWindowSwitch_acts (hd : s.chip.due (tmKey tmRole p.val) = true) (h2 : s.chip.fdState p.val = 2)
    (hr : s.chip.rd R.SP_ROLE_PREF (pgSP p.val) = 1) :
    ∃ t, exec (.roleWindowSwitch p) s = .next t ∧ (t.chip.fd p.val).srcTry = (!(s.chip.fd p.val).srcTry)
      ∧ t.chip.armed (tmKey tmRole p.val) = true := by
  refine ⟨_, rfl, ?_⟩
  rw [State.onChip_chip, roleWindowSwitch, if_pos (by simp [hd, h2, hr])]
  extract_lets c1
  have switched : (c1.fd p.val).srcTry = (!(s.chip.fd p.val).srcTry) := by
    rw [Chip.arm_fd, Chip.modFd_fd]
  have armed : c1.armed (tmKey tmRole p.val) = true := Chip.arm_armed _ _ _
  split
  · exact ⟨switched, (arm_armed_ne c1 0 (by simp only [tmKey, tmRole, tmCaps]; omega)).trans armed⟩
  · exact ⟨switched, armed⟩
end

/-- Settles O11, command by command. -/
theorem feederTaskAndTimersAct : Obligations.FeederTaskAndTimersAct :=
  ⟨feederTaskRun_acts, feederRetry_acts, retriesClear_acts, inrushTimeout_acts, modelLateClear_acts, tripClearCheck_clears,
    tripClearCheck_holds, hrHoldEnd_acts, capsSend_acts, roleWindowSwitch_acts⟩

end Sys2Proof.Machine
end

section
/-! PROOFS. The messages of a tray: counted, acknowledged and acted on (R301 to R306, R308, R309). -/

namespace Sys2Proof.Machine

/-! A contract begins (R308). -/

/-- The chip once a contract that is made shows in its registers. -/
def Chip.contractShown (c : Chip) (p : Nat) : Chip :=
  let f := c.fd p
  (c.setFd p { f with making := false, softEx := f.softEx && f.accepting }).hw (pgSP p)
    [(R.SP_P_CONTRACT, 0, f.pReq.toNat), (R.SP_CONTRACT, 0, 1), (R.SP_SOFT_FAILS, 0, if f.accepting then c.rd R.SP_SOFT_FAILS (pgSP p) else 0)]

/-- What a contract begins: its leaf where there was none, and INRUSH from NEGOTIATE. -/
def Chip.contractRuns (c : Chip) (p : Nat) (had : Bool) (w : F32) : Chip :=
  let c2 := if had then c else (c.countContracts).leafStart p w
  if c2.fdState p = 3 then c2.fdSet p 4 else c2

theorem fdContract_making (c : Chip) (p : Nat) (h : (c.fd p).making = true) :
    c.fdContract p = (c.contractShown p).contractRuns p (c.on R.SP_CONTRACT (pgSP p)) (c.fd p).pReq := by
  rw [Chip.fdContract]
  extract_lets f
  rw [if_neg (by simp [h])]
  rfl

theorem fdContract_notMaking (c : Chip) (p : Nat) (h : (c.fd p).making = false) : c.fdContract p = c := by
  rw [Chip.fdContract]
  extract_lets f
  exact if_pos (by simp [h])

/-- A field that is none of those that Crown's leaves, the number of contracts and a feeder's state write. -/
structure ContractLeaves (p k : Nat) : Prop where
  still : noisy k = false
  state : k ∉ stateKeys p
  contracts : k ≠ fldKey R.NEG_CONTRACTS pgNEG 0
  node : ∀ f ∈ [R.CROWN_CAPPED, R.CROWN_GRACE], ∀ j < 96, k ≠ fldKey f pgCROWN j

section
variable {k : Nat} (c : Chip) (p : Nat)

theorem keyStands_countContracts (hn : noisy k = false) (h : k ≠ fldKey R.NEG_CONTRACTS pgNEG 0) : KeyStands k c c.countContracts := by
  unfold Chip.countContracts
  exact .ite (.refl c) (keyStands_up c hn _ _ _ 0 (by decide) h)

/-- Only a leaf with a register has its bits. -/
theorem keyStands_nodeBit_leaf (hn : noisy k = false) (f : Fld) (j : Nat) (on : Bool) (h : ∀ j < 96, k ≠ fldKey f pgCROWN j) :
    KeyStands k c (c.nodeBit f j on) := by
  by_cases hj : j < 96
  · exact keyStands_nodeBit c hn f j on (h j hj)
  · rw [Chip.nodeBit, if_neg hj]
    exact .refl c

theorem keyStands_contractRuns (hk : ContractLeaves p k) (had : Bool) (w : F32) : KeyStands k c (c.contractRuns p had w) := by
  have leaf (c : Chip) : KeyStands k c (c.leafStart p w) := by
    unfold Chip.leafStart
    extract_lets n c1
    have h1 : KeyStands k c c1 := (keyStands_modCap c _ _).trans (keyStands_modCap _ _ _)
    have capped := keyStands_nodeBit_leaf c1 hk.still R.CROWN_CAPPED n false (hk.node _ (by simp))
    have grace := keyStands_nodeBit_leaf (c1.nodeBit R.CROWN_CAPPED n false) hk.still R.CROWN_GRACE n false (hk.node _ (by simp))
    exact ((h1.trans capped).trans grace).trans (keyStands_disarm _ _)
  unfold Chip.contractRuns
  extract_lets c2
  have h2 : KeyStands k c c2 := .ite (.refl c) ((keyStands_countContracts c hk.still hk.contracts).trans (leaf _))
  exact .ite (h2.trans (keyStands_fdSet c2 hk.still 4 hk.state)) h2

theorem fdKept_contractRuns (had : Bool) (w : F32) : FdKept p c (c.contractRuns p had w) := by
  have leaf (c : Chip) : FdKept p c (c.leafStart p w) := by
    unfold Chip.leafStart
    extract_lets n c1
    have h1 : Confined p (quietParts ++ [.caps, .timers]) c c1 := (confined_modCap c _ _).trans (confined_modCap _ _ _)
    exact .of_confined (((h1.trans (confined_nodeBit c1 _ _ _)).trans (confined_nodeBit _ _ _ _)).trans (confined_disarm _ _))
  unfold Chip.contractRuns
  extract_lets c2
  have h2 : FdKept p c c2 :=
    .ite (.refl c) ((FdKept.of_confined (confined_quiet (n := p) (a := quietParts) (quiet_countContracts c))).trans (leaf _))
  exact .ite (h2.trans (fdKept_fdSet c2 p 4)) h2

theorem fdKept_contractShown : FdKept p c (c.contractShown p) := by
  unfold Chip.contractShown
  extract_lets f
  have h1 : FdKept p c (c.setFd p { f with making := false, softEx := f.softEx && f.accepting }) := by
    rw [FdKept, Chip.setFd_fd]
    rfl
  exact h1.trans (.of_confined (confined_hw (n := p) (a := quietParts) _ _ _))

theorem fdKept_fdContract : FdKept p c (c.fdContract p) := by
  cases h : (c.fd p).making with
  | false => rw [fdContract_notMaking c p h]; exact .refl c
  | true => rw [fdContract_making c p h]; exact (fdKept_contractShown c p).trans (fdKept_contractRuns _ p _ _)

theorem fdKept_negMirror : FdKept p c (c.negMirror p) := .of_confined (confined_send (n := p) (a := [.sent]) c _)

theorem fdKept_fdAccepted : FdKept p c (c.fdAccepted p) := by
  unfold Chip.fdAccepted
  extract_lets c1
  have h1 : FdKept p c c1 := (fdKept_modFd c (fun f => { f with making := true })).trans (fdKept_negMirror _ p)
  exact .ite (h1.trans (.of_confined (confined_proposeAt (a := [.twin, .sent]) c1 p _ _))) (h1.trans (fdKept_fdContract c1 p))

theorem fdKept_negReplied (typ : Nat) : FdKept p c (c.negReplied p typ) := by
  unfold Chip.negReplied
  split
  · exact .ite (fdKept_modFd c (fun f => { f with wait := none })) (.refl c)
  · exact .refl c

theorem rspStop_fd : (c.rspStop p).fd p = { c.fd p with rspTimer := false } := by
  rw [Chip.rspStop, Chip.disarm_fd, Chip.modFd_fd]
end

/-! A contract that is accepted while the chip acts alone (R308). -/

section
variable (c : Chip) (p : Nat)

theorem PortField.contractLeaves {f : Fld} (hk : PortField (fldKey f (pgSP p) 0)) (h : fldKey f 0 0 ≠ fldKey R.SP_FD_STATE 0 0 := by decide) :
    ContractLeaves p (fldKey f (pgSP p) 0) where
  still := hk.still
  state := hk.notState h
  contracts := hk.ne
  node := fun g hg j hj => hk.ne (f := g) (by
    simp only [List.mem_cons, List.not_mem_nil, or_false] at hg
    rcases hg with rfl | rfl <;> simp only [pgCROWN, R.CROWN_CAPPED, R.CROWN_GRACE] <;> omega)

theorem contractShown_shows :
    (c.contractShown p).on R.SP_CONTRACT (pgSP p) = true ∧ (c.contractShown p).rd R.SP_P_CONTRACT (pgSP p) = (c.fd p).pReq.toNat := by
  have hc : PortField (fldKey R.SP_CONTRACT (pgSP p) 0) := portField_fld
  have hw : PortField (fldKey R.SP_P_CONTRACT (pgSP p) 0) := portField_fld
  unfold Chip.contractShown
  extract_lets f
  rw [Chip.on, rd_hw _ _ _ _ _ _ (pgSP_page p).1 hc.still, rd_hw _ _ _ _ _ _ (pgSP_page p).1 hw.still]
  simp only [foldc, List.foldl_cons, List.foldl_nil]
  rw [rd_wr_ne _ _ _ _ _ _ _ _ (fldKey_ne_on_page _ (by decide)), rd_wr_same, rd_wr_ne _ _ _ _ _ _ _ _ (fldKey_ne_on_page _ (by decide)),
    rd_wr_ne _ _ _ _ _ _ _ _ (fldKey_ne_on_page _ (by decide)), rd_wr_same]
  exact ⟨rfl, Nat.mod_eq_of_lt f.pReq.isLt⟩

theorem fdAccepted_alone (hp : c.paired = false) :
    (c.fdAccepted p).on R.SP_CONTRACT (pgSP p) = true ∧ (c.fdAccepted p).rd R.SP_P_CONTRACT (pgSP p) = (c.fd p).pReq.toNat := by
  have hc : PortField (fldKey R.SP_CONTRACT (pgSP p) 0) := portField_fld
  have hw : PortField (fldKey R.SP_P_CONTRACT (pgSP p) 0) := portField_fld
  unfold Chip.fdAccepted
  extract_lets c1
  have fd1 : c1.fd p = { c.fd p with making := true } := (Chip.send_fd _ p _).trans (Chip.modFd_fd c p _)
  have alone : c1.paired = false := by
    rw [Chip.paired, ((keyStands_modFd c p _).trans (keyStands_negMirror _ p)).rd]
    exact hp
  obtain ⟨inForce, power⟩ := contractShown_shows c1 p
  rw [alone, if_neg (by decide), fdContract_making c1 p (by rw [fd1]), Chip.on,
    (keyStands_contractRuns _ p (hc.contractLeaves p) _ _).rd, (keyStands_contractRuns _ p (hw.contractLeaves p) _ _).rd]
  exact ⟨inForce, power.trans (by rw [fd1])⟩
end

end Sys2Proof.Machine
end

section
/-! PROOFS. What the rows of a contract's messages and timers do (R303 to R306, R308, R309). -/

namespace Sys2Proof.Machine

/-! The counters of messages received and of response timers that expired (R529). -/

/-- NEG_CNT_RX or the counter of expired response timers. -/
def NegCounter (k : Nat) : Prop := k = fldKey R.NEG_CNT pgNEG 1 ∨ k = fldKey R.NEG_CNT pgNEG 3

section
variable {k : Nat} (hk : NegCounter k)
include hk

theorem NegCounter.still : noisy k = false := by rcases hk with rfl | rfl <;> decide

theorem NegCounter.notSent : k ≠ fldKey R.NEG_CNT pgNEG 0 := by rcases hk with rfl | rfl <;> decide

theorem NegCounter.ne_later {f : Fld} {b i : Nat} (hb : 0x15000 ≤ b) : k ≠ fldKey f b i := by
  rcases hk with rfl | rfl <;> simp only [fldKey, R.NEG_CNT, pgNEG] <;> omega

theorem NegCounter.ne_port {f : Fld} {p i : Nat} : k ≠ fldKey f (pgSP p) i := hk.ne_later (by simp only [pgSP]; omega)

theorem NegCounter.contractLeaves (p : Nat) : ContractLeaves p k where
  still := hk.still
  state := by
    simp only [stateKeys, List.mem_cons, List.not_mem_nil, or_false, not_or]
    refine ⟨hk.ne_port, ?_, ?_⟩ <;> rcases hk with rfl | rfl <;> decide
  contracts := by rcases hk with rfl | rfl <;> decide
  node := fun _ _ _ _ => hk.ne_later (by decide)

variable (c : Chip) (p : Nat)

theorem NegCounter.hw_port (us : List (Fld × Nat × Nat)) : KeyStands k c (c.hw (pgSP p) us) :=
  keyStands_hw c hk.still _ us (pgSP_page p).1 (fun _ _ => hk.ne_port)

theorem NegCounter.up_port (f : Fld) (v : Nat) : KeyStands k c (c.up f (pgSP p) v) := hk.hw_port c p _

theorem NegCounter.fdSet (st : Nat) : KeyStands k c (c.fdSet p st) := keyStands_fdSet c hk.still st (hk.contractLeaves p).state

theorem NegCounter.fdDrop : KeyStands k c (c.fdDrop p) := by
  unfold Chip.fdDrop
  extract_lets c1 c2
  have h1 : KeyStands k c c1 :=
    .ite ((hk.hw_port c p _).trans (keyStands_countContracts _ hk.still (hk.contractLeaves p).contracts)) (.refl c)
  exact ((h1.trans (keyStands_modFd c1 p _)).trans (keyStands_disarm _ _)).trans (keyStands_disarm _ _)

theorem NegCounter.fdContract : KeyStands k c (c.fdContract p) := by
  cases h : (c.fd p).making with
  | false => rw [fdContract_notMaking c p h]; exact .refl c
  | true =>
    rw [fdContract_making c p h]
    have shown : KeyStands k c (c.contractShown p) := (keyStands_setFd c p _).trans (hk.hw_port _ p _)
    exact shown.trans (keyStands_contractRuns _ p (hk.contractLeaves p) _ _)

theorem NegCounter.fdAccepted : KeyStands k c (c.fdAccepted p) := by
  unfold Chip.fdAccepted
  extract_lets c1
  have h1 : KeyStands k c c1 := (keyStands_modFd c p _).trans (keyStands_negMirror _ p)
  exact .ite (h1.trans (.of_confined (confined_proposeAt (a := [.twin, .sent]) c1 p _ _))) (h1.trans (hk.fdContract c1 p))

theorem NegCounter.fdHold : KeyStands k c (c.fdHold p) := by
  unfold Chip.fdHold
  extract_lets c1 st c2
  have h1 : KeyStands k c c1 := (hk.fdDrop c p).trans (keyStands_modFd _ p _)
  have h2 : KeyStands k c c2 := .ite h1 (h1.trans ((hk.fdSet c1 p 0).trans (keyStands_setCmd _ p stopCmd)))
  exact (h2.trans (hk.up_port c2 p _ _)).trans (keyStands_arm _ _ _)

theorem NegCounter.sendHardReset : KeyStands k c (c.sendHardReset p) := by
  unfold Chip.sendHardReset
  extract_lets c1 id c2
  have h1 : KeyStands k c c1 := (keyStands_modFd c p _).trans (keyStands_bump _ _ _ _ hk.ne_port)
  have sent := (keyStands_negPut c1 p hk.notSent id { typ := 10 }).trans (hk.fdHold _ p)
  have h2 : KeyStands k c c2 := (h1.trans sent).trans (keyStands_modFd _ p _)
  exact (h2.trans (keyStands_arm c2 _ _)).trans (keyStands_negMirror _ p)

theorem NegCounter.softFailed : KeyStands k c (c.softFailed p) := by
  unfold Chip.softFailed
  extract_lets n c1
  have h1 : KeyStands k c c1 := (hk.up_port c p _ _).trans (keyStands_modFd _ p _)
  exact .ite (h1.trans (hk.sendHardReset c1 p)) h1

theorem NegCounter.sendSoftReset : KeyStands k c (c.sendSoftReset p) := by
  unfold Chip.sendSoftReset
  extract_lets c1
  have h1 : KeyStands k c c1 := (keyStands_modFd c p _).trans (keyStands_bump _ _ _ _ hk.ne_port)
  exact ((h1.trans (keyStands_disarm c1 _)).trans (keyStands_disarm _ _)).trans (keyStands_negSend _ p hk.notSent _)
end

section
variable {k : Nat} (c : Chip) (p : Nat)

theorem keyStands_rspStop : KeyStands k c (c.rspStop p) := (keyStands_modFd c p _).trans (keyStands_disarm _ _)

theorem keyStands_negReplied (typ : Nat) : KeyStands k c (c.negReplied p typ) := by
  unfold Chip.negReplied
  split
  · exact .ite ((keyStands_modFd c p _).trans (keyStands_disarm _ _)) (.refl c)
  · exact .refl c
end

theorem KeyStands.on {f : Fld} {b i : Nat} {c d : Chip} (h : KeyStands (fldKey f b i) c d) : d.on f b i = c.on f b i := congrArg (· != 0) h.rd

/-! A message of the tray is taken (R303, R304). -/

/-- The chip once a new message of the tray has been counted, acknowledged and noted as the last one. -/
def Chip.rxTaken (c : Chip) (p id : Nat) : Chip :=
  ((c.bump R.NEG_CNT pgNEG 1).negAck p id).modFd p (fun f => { f with rxId := some id })

section
variable (c : Chip) (p id : Nat) (g : Chip → Chip)

theorem rxTaken_fd : (c.rxTaken p id).fd p = { c.fd p with rxId := some id } := by
  rw [Chip.rxTaken, Chip.modFd_fd, Chip.negAck, negPut_fd, Chip.bump_fd]

theorem keyStands_acked {k : Nat} (h0 : k ≠ fldKey R.NEG_CNT pgNEG 0) (h1 : k ≠ fldKey R.NEG_CNT pgNEG 1) :
    KeyStands k c ((c.bump R.NEG_CNT pgNEG 1).negAck p id) := (keyStands_bump c _ _ _ h1).trans (keyStands_negPut _ p h0 _ _)

theorem PortField.rxTaken {f : Fld} {q : Nat} (hk : PortField (fldKey f (pgSP q) 0)) :
    KeyStands (fldKey f (pgSP q) 0) c (c.rxTaken p id) := (keyStands_acked c p id hk.ne hk.ne).trans (keyStands_modFd _ p _)

theorem acked_counts : ((c.bump R.NEG_CNT pgNEG 1).negAck p id).rd R.NEG_CNT pgNEG 1 = (c.rd R.NEG_CNT pgNEG 1 + 1) % 2 ^ 32 := by
  rw [Chip.negAck, (keyStands_negPut _ p (by decide) _ _).rd, rd_bump_same]
  rfl

/-- What becomes of a message that is received: one that repeats the last is counted, and a new one is acted on unless a hard reset holds. -/
theorem negRx_eq (hs : c.negServes p = true) : c.negRx p id g =
    if (c.fd p).rxId = some id then ((c.bump R.NEG_CNT pgNEG 1).negAck p id).bump R.SP_FD_CNT (pgSP p) 3
    else (if c.on R.SP_HR_HOLD (pgSP p) then c.rxTaken p id else g (c.rxTaken p id)).negMirror p := by
  have hold : PortField (fldKey R.SP_HR_HOLD (pgSP p) 0) := portField_fld
  have last : (((c.bump R.NEG_CNT pgNEG 1).negAck p id).fd p).rxId = (c.fd p).rxId := by rw [Chip.negAck, negPut_fd, Chip.bump_fd]
  have held : (c.rxTaken p id).on R.SP_HR_HOLD (pgSP p) = c.on R.SP_HR_HOLD (pgSP p) := (hold.rxTaken c p id).on
  rw [Chip.negRx, if_neg (by simp [hs]), ← last, ← held]
  rfl

theorem negRx_new (hs : c.negServes p = true) (hr : (c.fd p).rxId ≠ some id) (hh : c.on R.SP_HR_HOLD (pgSP p) = false) :
    c.negRx p id g = (g (c.rxTaken p id)).negMirror p := by
  rw [negRx_eq c p id g hs, if_neg hr, hh]
  rfl

/-- Every message that is served counts, whatever is done about it. -/
theorem negRx_counts (hs : c.negServes p = true) (hg : ∀ d, KeyStands (fldKey R.NEG_CNT pgNEG 1) d (g d)) :
    (c.negRx p id g).rd R.NEG_CNT pgNEG 1 = (c.rd R.NEG_CNT pgNEG 1 + 1) % 2 ^ 32 := by
  have taken : (c.rxTaken p id).rd R.NEG_CNT pgNEG 1 = (c.rd R.NEG_CNT pgNEG 1 + 1) % 2 ^ 32 :=
    (keyStands_modFd _ p _).rd.trans (acked_counts c p id)
  rw [negRx_eq c p id g hs]
  split_ifs
  · rw [rd_bump_ne _ _ _ _ _ _ _ _ (NegCounter.ne_port (.inl rfl)), acked_counts]
  · rw [(keyStands_negMirror _ p).rd, taken]
  · rw [(keyStands_negMirror _ p).rd, (hg _).rd, taken]
end

/-! The messages (R303 to R308). -/

/-- The counter of messages received. -/
theorem negCounter_rx : NegCounter (fldKey R.NEG_CNT pgNEG 1) := .inl rfl

section
variable (s : State) (p : Port) (id : Oct)

theorem negNext_idle (c : Chip) (q : Nat) (h : (c.fd q).out = []) : c.negNext q = c := by
  cases hw : (c.fd q).wait <;> simp only [Chip.negNext, hw, h]

/-- GOODCRC of CAP, WARN or PS_READY: there is nothing to follow it. -/
theorem goodcrc_acts (m : NegMsg) (hs : s.chip.negServes p.val = true) (hw : (s.chip.fd p.val).wait = some m)
    (hi : id.val % 8 = (s.chip.fd p.val).waitId) (ho : (s.chip.fd p.val).out = []) (hm : m.typ = 6 ∨ m.typ = 7 ∨ m.typ = 8) :
    ∃ t, exec (.goodcrc p id) s = .next t ∧ (t.chip.fd p.val).wait = none
      ∧ t.chip.rd R.NEG_CNT pgNEG 1 = (s.chip.rd R.NEG_CNT pgNEG 1 + 1) % 2 ^ 32 := by
  refine ⟨_, rfl, ?_⟩
  rw [State.onChip_chip, goodcrcRx]
  simp only [hw]
  rw [if_neg (by simp [hs, hi]), if_neg (by omega), if_neg (by omega), if_neg (by omega), if_neg (by omega), negNext_idle]
  · refine ⟨?_, (keyStands_negMirror _ p.val).rd.trans (rd_bump_same s.chip R.NEG_CNT pgNEG 1 1)⟩
    rw [Chip.negMirror, Chip.send_fd, Chip.disarm_fd, Chip.setFd_fd]
  · rw [Chip.disarm_fd, Chip.setFd_fd]
    exact ho
end

/-! CAPS and REQUEST (R302, R305, R308). -/

section
variable (s : State) (p : Port) (id : Oct)

theorem caps_counts (os : Offers) (hs : s.chip.negServes p.val = true) (h0 : os.length ≠ 0) (h4 : os.length ≤ 4)
    (hr : ¬(s.chip.fdState p.val = 2 ∧ s.chip.negSource p.val = true)) :
    ∃ t, exec (.caps p id os) s = .next t ∧ t.chip.rd R.NEG_CNT pgNEG 1 = (s.chip.rd R.NEG_CNT pgNEG 1 + 1) % 2 ^ 32 := by
  refine ⟨_, rfl, ?_⟩
  have hk := negCounter_rx
  rw [State.onChip_chip, capsRx, if_neg (by simp only [not_or]; exact ⟨h0, by omega, hr⟩)]
  refine negRx_counts _ _ _ _ hs fun c => ?_
  extract_lets c1 w k c2
  have h1 : KeyStands (fldKey R.NEG_CNT pgNEG 1) c c1 := .ite ((hk.up_port c _ _ _).trans (hk.fdSet _ _ _)) (.refl c)
  have h2 : KeyStands (fldKey R.NEG_CNT pgNEG 1) c c2 := (h1.trans (keyStands_rspStop c1 _)).trans (keyStands_modFd _ _ _)
  exact .ite h1 (h2.trans (keyStands_negSend c2 _ hk.notSent _))

/-- The chip once a source's CAPS in ATTACH has given its feeder the sink role. -/
def Chip.sinkTaken (c : Chip) (p : Nat) : Chip := if c.fdState p = 2 then (c.up R.SP_FD_ROLE (pgSP p) 1).fdSet p 3 else c

theorem sinkTaken_sinks (c : Chip) (q : Nat) (h : c.fdState q = 2 ∨ c.on R.SP_FD_ROLE (pgSP q) = true) :
    (c.sinkTaken q).on R.SP_FD_ROLE (pgSP q) = true ∧ (c.sinkTaken q).fdState q ≠ 2 := by
  have role : PortField (fldKey R.SP_FD_ROLE (pgSP q) 0) := portField_fld
  rw [Chip.sinkTaken]
  split
  · refine ⟨(keyStands_fdSet _ role.still 3 role.notState).on.trans ?_, ?_⟩
    · rw [Chip.on, rd_up_same _ _ _ _ _ (pgSP_page _).1 role.still]
      rfl
    · rw [fdSet_fdState _ _ (by decide)]
      decide
  · rename_i h2
    exact ⟨h.resolve_left h2, h2⟩

theorem sinkTaken_powerMax (c : Chip) (q : Nat) : (c.sinkTaken q).rdF R.SP_P_MAX (pgSP q) = c.rdF R.SP_P_MAX (pgSP q) := by
  have pmax : PortField (fldKey R.SP_P_MAX (pgSP q) 0) := portField_fld
  have roleTaken := keyStands_up c pmax.still R.SP_FD_ROLE (pgSP q) 1 0 (pgSP_page q).1 (fldKey_ne_on_page _ (by decide))
  exact congrArg (BitVec.ofNat 32) (KeyStands.ite (roleTaken.trans (keyStands_fdSet _ pmax.still 3 pmax.notState)) (.refl c)).rd

/-- In the sink role, or taking it in ATTACH, NEG keeps the offers and asks for P_MAX. -/
theorem caps_acts (os : Offers) (hs : s.chip.negServes p.val = true) (h0 : os.length ≠ 0) (h4 : os.length ≤ 4)
    (hr : (s.chip.fd p.val).rxId ≠ some id.val) (hh : s.chip.on R.SP_HR_HOLD (pgSP p.val) = false)
    (hsink : s.chip.fdState p.val = 2 ∧ s.chip.negSource p.val = false
      ∨ (s.chip.fdState p.val ≠ 2 ∧ s.chip.on R.SP_FD_ROLE (pgSP p.val) = true)) :
    ∃ t, exec (.caps p id os) s = .next t ∧ (t.chip.fd p.val).offers = os
      ∧ (t.chip.fd p.val).pReq = fOfNat (fFloor (s.chip.rdF R.SP_P_MAX (pgSP p.val))).toNat
      ∧ t.chip.on R.SP_FD_ROLE (pgSP p.val) = true := by
  refine ⟨_, rfl, ?_⟩
  have role : PortField (fldKey R.SP_FD_ROLE (pgSP p.val) 0) := portField_fld
  have pmax : PortField (fldKey R.SP_P_MAX (pgSP p.val) 0) := portField_fld
  have served : ¬(os.length = 0 ∨ 4 < os.length ∨ (s.chip.fdState p.val = 2 ∧ s.chip.negSource p.val = true)) := by
    rcases hsink with ⟨_, hn⟩ | ⟨hn, _⟩ <;> simp [hn, h0, h4]
  rw [State.onChip_chip, capsRx, if_neg served, negRx_new _ _ _ _ hs hr hh]
  set d := s.chip.rxTaken p.val id.val
  have was : d.fdState p.val = s.chip.fdState p.val := ((portField_fdState p.val).rxTaken s.chip p.val id.val).rd
  have held : d.on R.SP_FD_ROLE (pgSP p.val) = s.chip.on R.SP_FD_ROLE (pgSP p.val) := (role.rxTaken s.chip p.val id.val).on
  obtain ⟨hrole, hstate⟩ := sinkTaken_sinks d p.val (by rw [was, held]; exact hsink.imp And.left And.right)
  have power : (d.sinkTaken p.val).rdF R.SP_P_MAX (pgSP p.val) = s.chip.rdF R.SP_P_MAX (pgSP p.val) :=
    (sinkTaken_powerMax d p.val).trans (congrArg (BitVec.ofNat 32) (pmax.rxTaken s.chip p.val id.val).rd)
  rw [Chip.sinkTaken] at hrole hstate power
  extract_lets c1 w k c2
  have fd2 : (c2.fd p.val).offers = os ∧ (c2.fd p.val).pReq = fOfNat w := by
    rw [Chip.modFd_fd]
    exact ⟨rfl, rfl⟩
  have asked := fun m => (fdKept_negSend c2 p.val m).trans (fdKept_negMirror _ p.val)
  have shown := fun m => ((keyStands_rspStop c1 p.val).trans (keyStands_modFd _ p.val (fun f => { f with offers := os, pReq := fOfNat w }))).trans
    ((keyStands_negSend c2 p.val role.ne m).trans (keyStands_negMirror _ p.val))
  rw [if_neg (by simp [hrole, hstate, c1])]
  refine ⟨(asked _).offers.trans fd2.1, ((asked _).pReq.trans fd2.2).trans ?_, (shown _).on.trans hrole⟩
  exact congrArg (fun x => fOfNat (fFloor x).toNat) power

theorem request_counts (o : Nat) (sc : Bool) (pr bf : Nat) (hs : s.chip.negServes p.val = true) :
    ∃ t, exec (.request p id o sc pr bf) s = .next t ∧ t.chip.rd R.NEG_CNT pgNEG 1 = (s.chip.rd R.NEG_CNT pgNEG 1 + 1) % 2 ^ 32 := by
  refine ⟨_, rfl, ?_⟩
  have hk := negCounter_rx
  rw [State.onChip_chip, requestRx]
  refine negRx_counts _ _ _ _ hs fun c => ?_
  extract_lets st c1 c2 ok rejected c3
  have h2 : KeyStands (fldKey R.NEG_CNT pgNEG 1) c c2 := (keyStands_rspStop c _).trans (.ite (hk.up_port c1 _ _ _) (.refl c1))
  have refused (r : Byte) : KeyStands (fldKey R.NEG_CNT pgNEG 1) c2 (rejected r c2) :=
    (keyStands_negSend c2 _ hk.notSent _).trans (.ite (hk.softFailed _ _) (.refl _))
  have h3 : KeyStands (fldKey R.NEG_CNT pgNEG 1) c c3 := h2.trans ((keyStands_modFd c2 _ _).trans (keyStands_negSend _ _ hk.notSent _))
  exact .ite (.refl c) (.ite (h2.trans (refused 1)) (.ite (h2.trans (refused 0)) (.ite (h3.trans (hk.fdAccepted c3 _)) h3)))

/-- NEG's policy accepts a request within P_MAX and the offer. -/
theorem request_acts (sc : Bool) (pr bf : Nat) (hs : s.chip.negServes p.val = true) (hr : (s.chip.fd p.val).rxId ≠ some id.val)
    (hh : s.chip.on R.SP_HR_HOLD (pgSP p.val) = false) (hrole : s.chip.on R.SP_FD_ROLE (pgSP p.val) = false)
    (h3 : 3 ≤ s.chip.fdState p.val) (hmax : fle (fOfNat pr) (s.chip.rdF R.SP_P_MAX (pgSP p.val)) = true)
    (hoffer : pr ≤ (s.chip.fd p.val).pmax) :
    ∃ t, exec (.request p id 0 sc pr bf) s = .next t ∧ (t.chip.fd p.val).pReq = fOfNat pr ∧ (t.chip.fd p.val).rspTimer = false
      ∧ (t.chip.fd p.val).rxId = some id.val := by
  refine ⟨_, rfl, ?_⟩
  have role : PortField (fldKey R.SP_FD_ROLE (pgSP p.val) 0) := portField_fld
  have pmax : PortField (fldKey R.SP_P_MAX (pgSP p.val) 0) := portField_fld
  rw [State.onChip_chip, requestRx, negRx_new _ _ _ _ hs hr hh]
  set d := s.chip.rxTaken p.val id.val
  have source : d.on R.SP_FD_ROLE (pgSP p.val) = false := (role.rxTaken s.chip p.val id.val).on.trans hrole
  have was : d.fdState p.val = s.chip.fdState p.val := ((portField_fdState p.val).rxTaken s.chip p.val id.val).rd
  extract_lets st c1 c2 ok rejected c3
  have power : KeyStands (fldKey R.SP_P_MAX (pgSP p.val) 0) s.chip c2 :=
    ((pmax.rxTaken s.chip p.val id.val).trans (keyStands_rspStop d p.val)).trans
      (.ite (keyStands_up c1 pmax.still _ _ _ 0 (pgSP_page _).1 (fldKey_ne_on_page _ (by decide))) (.refl c1))
  have fd2 : c2.fd p.val = { s.chip.fd p.val with rxId := some id.val, rspTimer := false } := by
    have fd1 : c1.fd p.val = { s.chip.fd p.val with rxId := some id.val, rspTimer := false } := by rw [rspStop_fd, rxTaken_fd]
    unfold c2
    split
    · rw [Chip.up_fd, fd1]
    · exact fd1
  have accepts : ok = true := by
    have within : c2.rdF R.SP_P_MAX (pgSP p.val) = s.chip.rdF R.SP_P_MAX (pgSP p.val) := congrArg (BitVec.ofNat 32) power.rd
    simp only [ok, within, hmax, fd2, Bool.true_and, decide_eq_true_eq]
    exact hoffer
  rw [if_neg (by simp [source, st, was]; omega), if_neg (by simp), if_neg (by simp [accepts])]
  have kept : FdKept p.val (c2.modFd p.val (fun f => { f with pReq := fOfNat pr }))
      ((if c3.on R.SP_CONTRACT (pgSP p.val) then c3.fdAccepted p.val else c3).negMirror p.val) :=
    ((fdKept_negSend _ p.val _).trans (.ite (fdKept_fdAccepted c3 p.val) (.refl c3))).trans (fdKept_negMirror _ p.val)
  refine ⟨kept.pReq.trans ?_, kept.rspTimer.trans ?_, kept.rxId.trans ?_⟩
  all_goals rw [Chip.modFd_fd, fd2]
end

/-! ACCEPT, REJECT and PS_READY (R305, R306, R308). -/

section
variable (s : State) (p : Port) (id : Oct)

/-- The feeder once a reply has ended its response timer. -/
theorem replied_fd (c : Chip) (q typ : Nat) : FdKept q (c.rspStop q) ((c.rspStop q).negReplied q typ) ∧ ((c.rspStop q).fd q).rspTimer = false :=
  ⟨fdKept_negReplied _ q typ, by rw [rspStop_fd]⟩

theorem negReplied_softEx (c : Chip) (q typ : Nat) : ((c.negReplied q typ).fd q).softEx = (c.fd q).softEx := by
  rw [Chip.negReplied]
  split
  · rw [apply_ite (fun d : Chip => (d.fd q).softEx), Chip.disarm_fd, Chip.modFd_fd, ite_self]
  · rfl

theorem accept_counts (hs : s.chip.negServes p.val = true) :
    ∃ t, exec (.accept p id) s = .next t ∧ t.chip.rd R.NEG_CNT pgNEG 1 = (s.chip.rd R.NEG_CNT pgNEG 1 + 1) % 2 ^ 32 := by
  refine ⟨_, rfl, ?_⟩
  rw [State.onChip_chip, acceptRx]
  refine negRx_counts _ _ _ _ hs fun c => .ite ?_ (.refl c)
  exact ((keyStands_rspStop c _).trans (keyStands_negReplied _ _ 3)).trans (negCounter_rx.fdAccepted _ _)

/-- An ACCEPT of the request in hand makes the contract. -/
theorem accept_acts (hs : s.chip.negServes p.val = true) (hr : (s.chip.fd p.val).rxId ≠ some id.val)
    (hh : s.chip.on R.SP_HR_HOLD (pgSP p.val) = false) (hrole : s.chip.on R.SP_FD_ROLE (pgSP p.val) = true)
    (hq : (s.chip.fd p.val).requested = true) (hp : s.chip.paired = false) :
    ∃ t, exec (.accept p id) s = .next t ∧ (t.chip.fd p.val).rspTimer = false ∧ t.chip.on R.SP_CONTRACT (pgSP p.val) = true
      ∧ t.chip.rd R.SP_P_CONTRACT (pgSP p.val) = (s.chip.fd p.val).pReq.toNat := by
  refine ⟨_, rfl, ?_⟩
  have role : PortField (fldKey R.SP_FD_ROLE (pgSP p.val) 0) := portField_fld
  rw [State.onChip_chip, acceptRx, negRx_new _ _ _ _ hs hr hh]
  set d := s.chip.rxTaken p.val id.val
  have fdd : d.fd p.val = { s.chip.fd p.val with rxId := some id.val } := rxTaken_fd s.chip p.val id.val
  have sink : d.on R.SP_FD_ROLE (pgSP p.val) = true := (role.rxTaken s.chip p.val id.val).on.trans hrole
  have asked : (d.fd p.val).requested = true := by rw [fdd]; exact hq
  simp only [sink, asked, Bool.and_self, if_true]
  set e := (d.rspStop p.val).negReplied p.val 3
  have state : KeyStands (fldKey R.TWIN_STATE pgTWIN 0) s.chip e :=
    (((keyStands_acked _ _ _ (by decide) (by decide)).trans (keyStands_modFd _ p.val _)).trans (keyStands_rspStop d p.val)).trans
      (keyStands_negReplied _ p.val 3)
  have alone : e.paired = false := (congrArg (· == 3) state.rd).trans hp
  obtain ⟨kept, stopped⟩ := replied_fd d p.val 3
  obtain ⟨inForce, power⟩ := fdAccepted_alone e p.val alone
  have made := ((kept.trans (fdKept_fdAccepted e p.val)).trans (fdKept_negMirror _ p.val)).rspTimer
  refine ⟨made.trans stopped, (keyStands_negMirror _ p.val).on.trans inForce, (keyStands_negMirror _ p.val).rd.trans ?_⟩
  rw [power, kept.pReq, rspStop_fd, fdd]

theorem reject_counts (r : Byte) (hs : s.chip.negServes p.val = true) :
    ∃ t, exec (.reject p id r) s = .next t ∧ t.chip.rd R.NEG_CNT pgNEG 1 = (s.chip.rd R.NEG_CNT pgNEG 1 + 1) % 2 ^ 32 := by
  refine ⟨_, rfl, ?_⟩
  rw [State.onChip_chip, rejectRx]
  refine negRx_counts _ _ _ _ hs fun c => .ite ?_ (.refl c)
  extract_lets c1
  have h1 : KeyStands (fldKey R.NEG_CNT pgNEG 1) c c1 := (keyStands_rspStop c _).trans (keyStands_negReplied _ _ 3)
  exact .ite (h1.trans (negCounter_rx.softFailed c1 _)) h1

/-- A REJECT outside a soft-reset exchange leaves state and contract. -/
theorem reject_acts (r : Byte) (hs : s.chip.negServes p.val = true) (hr : (s.chip.fd p.val).rxId ≠ some id.val)
    (hh : s.chip.on R.SP_HR_HOLD (pgSP p.val) = false) (hrole : s.chip.on R.SP_FD_ROLE (pgSP p.val) = true)
    (hx : (s.chip.fd p.val).softEx = false) :
    ∃ t, exec (.reject p id r) s = .next t ∧ (t.chip.fd p.val).rspTimer = false ∧ t.chip.fdState p.val = s.chip.fdState p.val
      ∧ t.chip.rd R.SP_CONTRACT (pgSP p.val) = s.chip.rd R.SP_CONTRACT (pgSP p.val) := by
  refine ⟨_, rfl, ?_⟩
  have role : PortField (fldKey R.SP_FD_ROLE (pgSP p.val) 0) := portField_fld
  rw [State.onChip_chip, rejectRx, negRx_new _ _ _ _ hs hr hh]
  set d := s.chip.rxTaken p.val id.val
  have fdd : d.fd p.val = { s.chip.fd p.val with rxId := some id.val } := rxTaken_fd s.chip p.val id.val
  have sink : d.on R.SP_FD_ROLE (pgSP p.val) = true := (role.rxTaken s.chip p.val id.val).on.trans hrole
  rw [if_pos sink]
  extract_lets e
  have noExchange : (e.fd p.val).softEx = false := by
    rw [negReplied_softEx, rspStop_fd, fdd]
    exact hx
  rw [if_neg (by simp [noExchange])]
  obtain ⟨kept, stopped⟩ := replied_fd d p.val 3
  have stands {f : Fld} (hk : PortField (fldKey f (pgSP p.val) 0)) : KeyStands (fldKey f (pgSP p.val) 0) s.chip (e.negMirror p.val) :=
    (((hk.rxTaken s.chip p.val id.val).trans (keyStands_rspStop d p.val)).trans (keyStands_negReplied _ p.val 3)).trans
      (keyStands_negMirror e p.val)
  exact ⟨(kept.trans (fdKept_negMirror e p.val)).rspTimer.trans stopped, (stands (portField_fdState p.val)).rd, (stands portField_fld).rd⟩

theorem psReady_acts (hs : s.chip.negServes p.val = true) :
    ∃ t, exec (.psReady p id) s = .next t ∧ t.chip.rd R.NEG_CNT pgNEG 1 = (s.chip.rd R.NEG_CNT pgNEG 1 + 1) % 2 ^ 32
      ∧ (t.chip.fd p.val).rxId = some id.val := by
  refine ⟨_, rfl, ?_⟩
  rw [State.onChip_chip, psReadyRx]
  refine ⟨negRx_counts _ _ _ _ hs fun c => .refl c, ?_⟩
  rw [negRx_eq _ _ _ _ hs]
  split
  · rw [Chip.bump_fd, Chip.negAck, negPut_fd, Chip.bump_fd]
    assumption
  · rw [ite_self, (fdKept_negMirror _ p.val).rxId, rxTaken_fd]
end

/-! Resets (R304, R306). -/

section
variable (s : State) (p : Port) (id : Oct)

theorem softReset_acts (hs : s.chip.negServes p.val = true) :
    ∃ t, exec (.softReset p id) s = .next t ∧ t.chip.rd R.NEG_CNT pgNEG 1 = (s.chip.rd R.NEG_CNT pgNEG 1 + 1) % 2 ^ 32
      ∧ (t.chip.fd p.val).rxId = none ∧ t.chip.rd R.SP_CONTRACT (pgSP p.val) = s.chip.rd R.SP_CONTRACT (pgSP p.val) := by
  refine ⟨_, rfl, ?_⟩
  have contract : PortField (fldKey R.SP_CONTRACT (pgSP p.val) 0) := portField_fld
  rw [State.onChip_chip, softResetRx, if_neg (by simp [hs])]
  extract_lets c1 c2
  have follows {k : Nat} (h : k ≠ fldKey R.NEG_CNT pgNEG 0) :
      KeyStands k c1 ((if (c2.fdState p.val != 2 && c2.negSource p.val) = true then c2.sendCaps p.val else c2).negMirror p.val) := by
    have reset : KeyStands k c1 c2 := ((keyStands_disarm c1 _).trans (keyStands_disarm _ _)).trans (keyStands_modFd _ p.val _)
    exact (reset.trans (.ite (keyStands_sendCaps c2 p.val h) (.refl c2))).trans (keyStands_negMirror _ p.val)
  have cleared : (c2.fd p.val).rxId = none := congrArg FdSt.rxId (Chip.modFd_fd _ p.val _)
  refine ⟨(follows (by decide)).rd.trans (acked_counts s.chip p.val id.val), ?_,
    (follows contract.ne).rd.trans (keyStands_acked s.chip p.val id.val contract.ne contract.ne).rd⟩
  exact ((FdKept.ite (fdKept_sendCaps c2 p.val) (.refl c2)).trans (fdKept_negMirror _ p.val)).rxId.trans cleared

/-- A contract that is dropped no longer shows. -/
theorem fdDrop_contract (c : Chip) (q : Nat) : (c.fdDrop q).rd R.SP_CONTRACT (pgSP q) = 0 := by
  have hk : PortField (fldKey R.SP_CONTRACT (pgSP q) 0) := portField_fld
  unfold Chip.fdDrop
  extract_lets c1 c2
  have gone : c1.rd R.SP_CONTRACT (pgSP q) = 0 := by
    unfold c1
    split
    · rw [(keyStands_countContracts _ hk.still hk.ne).rd, rd_hw _ _ _ _ _ _ (pgSP_page q).1 hk.still]
      simp only [foldc, List.foldl_cons, List.foldl_nil]
      rw [rd_wr_ne _ _ _ _ _ _ _ _ (fldKey_ne_on_page _ (by decide)), rd_wr_same, Nat.zero_mod]
    · rename_i none'
      simp only [Chip.on, Bool.or_eq_true, bne_iff_ne, ne_eq, not_or, not_not] at none'
      exact none'.1
  exact gone

theorem fdHold_shows (c : Chip) (q : Nat) :
    (c.fdHold q).rd R.SP_HR_HOLD (pgSP q) = 1 ∧ (c.fdHold q).rd R.SP_CONTRACT (pgSP q) = 0 := by
  have hold : PortField (fldKey R.SP_HR_HOLD (pgSP q) 0) := portField_fld
  have contract : PortField (fldKey R.SP_CONTRACT (pgSP q) 0) := portField_fld
  unfold Chip.fdHold
  extract_lets c1 st c2
  have off : KeyStands (fldKey R.SP_CONTRACT (pgSP q) 0) c1 c2 :=
    .ite (.refl c1) ((keyStands_fdSet c1 contract.still 0 contract.notState).trans (keyStands_setCmd _ q stopCmd))
  have held := keyStands_up c2 contract.still R.SP_HR_HOLD (pgSP q) 1 0 (pgSP_page q).1 (fldKey_ne_on_page _ (by decide))
  exact ⟨rd_up_same c2 _ _ 1 0 (pgSP_page q).1 hold.still, (off.trans held).rd.trans (fdDrop_contract c q)⟩

theorem hardReset_acts (hs : s.chip.negServes p.val = true) :
    ∃ t, exec (.hardReset p id) s = .next t ∧ t.chip.rd R.NEG_CNT pgNEG 1 = (s.chip.rd R.NEG_CNT pgNEG 1 + 1) % 2 ^ 32
      ∧ t.chip.rd R.SP_HR_HOLD (pgSP p.val) = 1 ∧ t.chip.rd R.SP_CONTRACT (pgSP p.val) = 0 := by
  refine ⟨_, rfl, ?_⟩
  rw [State.onChip_chip, hardResetRx, if_neg (by simp [hs]), Chip.fdHardReset]
  rw [(keyStands_negMirror _ p.val).rd, (keyStands_negMirror _ p.val).rd, (keyStands_negMirror _ p.val).rd, (negCounter_rx.fdHold _ _).rd]
  exact ⟨acked_counts s.chip p.val id.val, fdHold_shows _ p.val⟩
end

/-! CAP and WARN (R309). -/

section
variable (c : Chip) (p : Nat)

/-- A message to the tray leaves the caps: the link is a port's. -/
theorem negNext_caps : (c.negNext p).caps = c.caps := by
  unfold Chip.negNext
  extract_lets f id
  split
  · rfl
  · rfl
  · extract_lets c1
    have h1 : c1.caps = c.caps := confined_negPut_link (c.setFd p _) p id _ .caps (by decide)
    rw [apply_ite Chip.caps, Chip.arm_caps, h1, ite_self]

theorem negSend_capst (m : NegMsg) (k : Nat) (f : CapSt → CapSt) : ((c.modCap k f).negSend p m).capst k = f (c.capst k) := by
  have same : ((c.modCap k f).negSend p m).caps = (c.modCap k f).caps := by
    rw [Chip.negSend, apply_ite Chip.caps, negNext_caps, Chip.modFd_caps, ite_self]
  rw [Chip.capst, same]
  exact Chip.modCap_capst c k f
end

section
variable (s : State) (p : Port) (hs : s.chip.negServes p.val = true) (hc : s.chip.on R.SP_CONTRACT (pgSP p.val) = true)
include hs hc

theorem cap_sends (hr : s.chip.on R.SP_FD_ROLE (pgSP p.val) = false) (hm : (s.chip.capst (s.chip.leafKey p.val)).capMsg = true) :
    ∃ t, exec (.cap p) s = .next t ∧ t = s.onChip (fun c => (c.modCap (c.leafKey p.val) (fun q => { q with capMsg := false })).negSend p.val
      { typ := 7, payload := leBytes (fFloor (c.capst (c.leafKey p.val)).cap).toNat 4 ++ leBytes (c.graceUs (c.leafKey p.val)) 2 }) := by
  refine ⟨_, rfl, onChip_congr ?_⟩
  exact if_pos (by simp [hs, hc, hr, hm])

theorem cap_acts (hr : s.chip.on R.SP_FD_ROLE (pgSP p.val) = false) (hm : (s.chip.capst (s.chip.leafKey p.val)).capMsg = true) :
    ∃ t, exec (.cap p) s = .next t ∧ (t.chip.capst (s.chip.leafKey p.val)).capMsg = false := by
  obtain ⟨t, acts, eq⟩ := cap_sends s p hs hc hr hm
  refine ⟨t, acts, ?_⟩
  rw [eq, State.onChip_chip, negSend_capst]

theorem warn_sends (hm : (s.chip.capst (96 + p.val)).warnMsg = true) :
    ∃ t, exec (.warn p) s = .next t ∧ t = s.onChip (fun c => (c.modCap (96 + p.val) (fun q => { q with warnMsg := false })).negSend p.val
      { typ := 8, payload := [BitVec.ofNat 8 (b2n (c.ewarnOf p.val))] }) := by
  refine ⟨_, rfl, onChip_congr ?_⟩
  exact if_pos (by simp [hs, hc, hm])

theorem warn_acts (hm : (s.chip.capst (96 + p.val)).warnMsg = true) :
    ∃ t, exec (.warn p) s = .next t ∧ (t.chip.capst (96 + p.val)).warnMsg = false := by
  obtain ⟨t, acts, eq⟩ := warn_sends s p hs hc hm
  refine ⟨t, acts, ?_⟩
  rw [eq, State.onChip_chip, negSend_capst]
end

/-! The timers of the message layer (R303, R305). -/

section
variable (s : State) (p : Port)

theorem goodcrcTimeout_acts (m : NegMsg) (hs : s.chip.negServes p.val = true) (hw : (s.chip.fd p.val).wait = some m)
    (hd : s.chip.due (tmKey tmGoodCrc p.val) = true) (h2 : (s.chip.fd p.val).waitTries < 2) :
    ∃ t, exec (.goodcrcTimeout p) s = .next t ∧ (t.chip.fd p.val).waitTries = (s.chip.fd p.val).waitTries + 1
      ∧ t.chip.armed (tmKey tmGoodCrc p.val) = true := by
  refine ⟨_, rfl, ?_⟩
  rw [State.onChip_chip, goodcrcTimeout]
  simp only [hw]
  rw [if_neg (by simp [hs, hd]), if_pos h2]
  exact ⟨by rw [Chip.arm_fd, negPut_fd, Chip.setFd_fd], Chip.arm_armed _ _ _⟩

/-- An expired response timer counts once, whatever follows it. -/
theorem negExpiry_counts (c : Chip) (q : Nat) : (c.negExpiry q).rd R.NEG_CNT pgNEG 3 = (c.rd R.NEG_CNT pgNEG 3 + 1) % 2 ^ 32 := by
  have hk : NegCounter (fldKey R.NEG_CNT pgNEG 3) := .inr rfl
  have follows : KeyStands (fldKey R.NEG_CNT pgNEG 3) (c.bump R.NEG_CNT pgNEG 3) (c.negExpiry q) := by
    unfold Chip.negExpiry
    extract_lets c1 c2
    have h1 : KeyStands (fldKey R.NEG_CNT pgNEG 3) (c.bump R.NEG_CNT pgNEG 3) c1 :=
      ((keyStands_disarm _ _).trans (keyStands_disarm _ _)).trans (keyStands_modFd _ q _)
    have h2 : KeyStands (fldKey R.NEG_CNT pgNEG 3) c1 c2 := .ite (hk.softFailed c1 q) (.refl c1)
    exact h1.trans (.ite (.refl c1) (.ite h2 (h2.trans (hk.sendSoftReset c2 q))))
  exact follows.rd.trans (rd_bump_same c R.NEG_CNT pgNEG 3 1)

theorem responseTimerExpiry_acts (hs : s.chip.negServes p.val = true) (hd : s.chip.due (tmKey tmRsp p.val) = true)
    (ht : (s.chip.fd p.val).rspTimer = true) :
    ∃ t, exec (.responseTimerExpiry p) s = .next t ∧ t.chip.rd R.NEG_CNT pgNEG 3 = (s.chip.rd R.NEG_CNT pgNEG 3 + 1) % 2 ^ 32 := by
  refine ⟨_, rfl, ?_⟩
  rw [State.onChip_chip, responseTimerExpiry, if_pos (by simp [hs, hd, ht])]
  exact negExpiry_counts s.chip p.val
end

/-- Settles O12, message by message. -/
theorem contractMessagesAct : Obligations.ContractMessagesAct :=
  ⟨fun s p id => goodcrc_acts s p id, fun s p id => caps_counts s p id, fun s p id => caps_acts s p id, fun s p id => request_counts s p id,
    fun s p id => request_acts s p id, accept_counts, accept_acts, reject_counts, reject_acts, psReady_acts, softReset_acts, hardReset_acts,
    cap_acts, cap_sends, warn_acts, warn_sends, goodcrcTimeout_acts, responseTimerExpiry_acts⟩

end Sys2Proof.Machine
end

section
/-! PROOFS. PG_ID of every page (R12, R514, R520). -/

namespace Sys2Proof.Machine

/-- Of a page that lies at its base, the base as a command names it. -/
theorem wordAddr_pageBase {k : PageKind} {n : Nat} (hp : pageOf (pageBase k n) = some (k, n)) :
    wordAddr (BitVec.ofNat 32 (pageBase k n)) = pageBase k n := by
  have ha := pageBase_aligned k n
  have hlt := pageOf_lt hp
  exact wordAddr_ofNat (by omega) (by omega)

theorem wideRead_zero (k : PageKind) : wideRead k 0 = false := by cases k <;> rfl

theorem regWord_zero (c : Chip) (k : PageKind) (n idp : Nat) : c.regWord k n 0 idp = pgId k n := by simp [Chip.regWord]

/-- A read of the first word of a page with every side effect returns PG_ID. -/
theorem pageRead_first (c : Chip) (p : Path) (k : PageKind) (n a : Nat) (ha : a % 0x1000 = 0) : (c.pageRead p k n a).2 = pgId k n := by
  simp [Chip.pageRead, ha, wideRead_zero, regWord_zero]

/-- Either read of the debugger returns PG_ID at the base of a page. -/
theorem dbgAccess_pgId {s : State} {k : PageKind} {n : Nat} (o : Bool) (v : Word) (hp : pageOf (pageBase k n) = some (k, n))
    (hu : s.chip.unlocked = true) (hr : s.chip.reaches .dbg (pageBase k n) = true) :
    ((dbgAccess s (BitVec.ofNat 32 (pageBase k n)) (.read o) v).chip.path 3).rdata = BitVec.ofNat 32 (pgId k n) := by
  have ha := pageBase_aligned k n
  cases o with
  | true =>
    have right (c : Chip) : c.pathRight .dbg (pageBase k n) false = .ok := rfl
    have word (s : State) : (s.readWord .dbg (pageBase k n)).2.1 = pgId k n := by
      simp [State.readWord, right, busRead_page hp, pageRead_first _ _ _ _ _ ha]
    simp [dbgAccess, wordAddr_pageBase hp, hu, hr, word, Path.key]
  | false =>
    have word : s.busPeek .dbg (pageBase k n) = pgId k n := by simp [State.busPeek, pageOf_lt hp, hp, ha, regWord_zero]
    simp [dbgAccess, wordAddr_pageBase hp, hu, hr, word, Path.key]

/-- INSTANCE: the number of an array page, and of an IIC port its own (R520). -/
theorem inst_eq (k : PageKind) (n : Nat) :
    k.inst n = if k = .clu ∨ k = .ce ∨ k = .spg ∨ k = .sp then n else if k = .iic1 then 1 else if k = .iic2 then 2 else 0 := by
  cases k <;> rfl

/-- Settles O48: the table of types is that of `blockType`, and PG_ID is read whatever the debugger's read does beside. -/
theorem pageIdentity : Obligations.PageIdentity := by
  intro s k n ty o v hp hty hu hr
  have types : ty = k.blockType := by
    clear hp hr
    cases k <;> simpa [PageKind.blockType] using hty
  refine ⟨_, rfl, (dbgAccess_pgId o v hp hu hr).trans ?_⟩
  rw [pgId, types, inst_eq]
  rfl

end Sys2Proof.Machine
end

section
/-! PROOFS. CREDIT: its writes, the window that takes it, and the tier that it gives (R413 to R415). -/

namespace Sys2Proof.Machine

theorem rowsAt_credit : ∀ q : Part, PageKind.rowsAt .arb (0x200 + 0x10 * q.val) = [(⟨R.ARB_CREDIT, 8, .rw⟩, q.val)] := by decide +kernel

/-- The sum of every CREDIT, that of partition `q` being `x`. -/
def Chip.creditSum (c : Chip) (q x : Nat) : Nat := (upTo 8).foldl (fun n j => n + (if j = q then x else c.rd R.ARB_CREDIT pgARB j)) 0

theorem le_creditSum (c : Chip) (q : Part) (x : Nat) : x ≤ c.creditSum q.val x := by
  have eight : upTo 8 = [0, 1, 2, 3, 4, 5, 6, 7] := rfl
  simp only [Chip.creditSum, eight, List.foldl_cons, List.foldl_nil]
  have hq : q.val = 0 ∨ q.val = 1 ∨ q.val = 2 ∨ q.val = 3 ∨ q.val = 4 ∨ q.val = 5 ∨ q.val = 6 ∨ q.val = 7 := by omega
  rcases hq with h | h | h | h | h | h | h | h <;> simp only [h, if_true] <;> omega

/-- A write of CREDIT stores the value where value and sum allow it, and is rejected elsewhere. -/
theorem wrArb_credit (c : Chip) (q : Part) (v : Nat) :
    c.wrArb (0x200 + 0x10 * q.val) v = if (v % 1024 = 0 ∨ 128 ≤ v % 1024) ∧ c.creditSum q.val (v % 1024) ≤ 1000
      then c.wr R.ARB_CREDIT pgARB (v % 1024) q.val else c.pulse pgARB 3 := by
  have hq := q.isLt
  have most := le_creditSum c q (v % 1024)
  have word : fldOf v R.ARB_CREDIT = v % 1024 := by simp [fldOf, R.ARB_CREDIT]
  unfold Chip.wrArb
  dsimp only
  rw [if_neg (by omega), if_neg (by omega), if_neg (by omega), if_pos (by omega), putWord_rw (rowsAt_credit q), word,
    show (0x200 + 0x10 * q.val - 0x200) / 16 = q.val by omega]
  exact if_congr ⟨fun ⟨h, _, k⟩ => ⟨h, k⟩, fun ⟨h, k⟩ => ⟨h, le_trans most k, k⟩⟩ rfl rfl

/-- What a write of CREDIT that is taken does on this chip. -/
theorem creditWrite_next {s : State} {p : Path} {q : Part} {v : Word} (h : s.takesWrite p (pgARB + (0x200 + 0x10 * q.val)) v.toNat = true) :
    ∃ t, exec (.creditWrite p q v 15) s = .next t ∧ t.chip.regs = ((s.chip.dropHeld p.key).wrArb (0x200 + 0x10 * q.val) v.toNat).regs
      ∧ t.chip.arb = ((s.chip.dropHeld p.key).wrArb (0x200 + 0x10 * q.val) v.toNat).arb := by
  have hq := q.isLt
  have hp : pageOf (pgARB + (0x200 + 0x10 * q.val)) = some (.arb, 0) := pageOf_pgARB (by omega)
  have ha : (pgARB + (0x200 + 0x10 * q.val)) % 0x1000 = 0x200 + 0x10 * q.val := by simp only [pgARB]; omega
  have word (c : Chip) : c.applyWord (pgARB + (0x200 + 0x10 * q.val)) v.toNat true false p.ident = c.wrArb (0x200 + 0x10 * q.val) v.toNat := by
    simp only [Chip.applyWord, hp, ha]
    rw [if_neg (by omega), if_neg (by omega), if_neg (by omega), if_neg (by omega), if_neg (by omega), if_neg (by omega)]
  obtain ⟨o, ho⟩ := pathWrite_takes h hp (by decide) (by decide)
  have hex : exec (.creditWrite p q v 15) s = .next (s.pathWrite p (pgARB + (0x200 + 0x10 * q.val)) v.toNat 15) := by
    show Host.Outcome.next (pageWrite s p pgARB (0x200 + 0x10 * q.val) v 15) = _
    rw [pageWrite, if_pos (pageOf_lt hp)]
  rw [ho, word] at hex
  exact ⟨_, hex, rfl, rfl⟩

theorem noisy_credit {j : Nat} (hj : j < 8) : noisy (fldKey R.ARB_CREDIT pgARB j) = false :=
  noisy_fld_false _ _ _ (by decide) (by decide) (by simp only [R.ARB_CREDIT]; omega) (by simp only [R.ARB_CREDIT]; omega) (.inl (by decide))

/-- Two copies of a field. -/
theorem fldKey_ne_of_copy {f : Fld} {b i j : Nat} (hs : 0 < f.stride) (h : i ≠ j) : fldKey f b i ≠ fldKey f b j := by
  intro hk
  exact h (Nat.eq_of_mul_eq_mul_left hs (by simp only [fldKey] at hk; omega))

theorem dropHeld_creditSum (c : Chip) (k q x : Nat) : (c.dropHeld k).creditSum q x = c.creditSum q x := by simp [Chip.creditSum]

theorem dropHeld_arb (c : Chip) (k : Nat) : (c.dropHeld k).arb = c.arb := by rw [dropHeld_eq]

/-- A value below 128 other than 0, or a sum above 1,000, leaves every CREDIT and latches CFG_REJECT. -/
theorem creditWrite_rejected {s : State} {p : Path} {q : Part} {v : Word}
    (h : s.takesWrite p (pgARB + (0x200 + 0x10 * q.val)) v.toNat = true)
    (hv : (1 ≤ v.toNat % 1024 ∧ v.toNat % 1024 ≤ 127) ∨ 1000 < s.chip.creditSum q.val (v.toNat % 1024)) :
    ∃ t, exec (.creditWrite p q v 15) s = .next t ∧ (∀ j < 8, t.chip.rd R.ARB_CREDIT pgARB j = s.chip.rd R.ARB_CREDIT pgARB j)
      ∧ bitOf (t.chip.rd R.EVT_LATCH pgARB) 3 = true ∧ t.chip.arb = s.chip.arb := by
  obtain ⟨t, ht, hregs, harb⟩ := creditWrite_next h
  have rejected : (s.chip.dropHeld p.key).wrArb (0x200 + 0x10 * q.val) v.toNat = (s.chip.dropHeld p.key).pulse pgARB 3 := by
    rw [wrArb_credit, dropHeld_creditSum]
    exact if_neg (by omega)
  rw [rejected] at hregs harb
  have rd (f : Fld) (j : Nat) : t.chip.rd f pgARB j = ((s.chip.dropHeld p.key).pulse pgARB 3).rd f pgARB j := congrArg (mapGet · _ _) hregs
  refine ⟨t, ht, fun j hj => ?_, ?_, ?_⟩
  · rw [rd, rd_pulse _ _ _ _ _ _ (by decide) (noisy_credit hj), dropHeld_rd]
  · rw [rd]
    exact pulse_sets _ _ _ (by decide) (by decide)
  · rw [harb, Chip.pulse_arb, dropHeld_arb]

/-- Any other value is stored. -/
theorem creditWrite_stored {s : State} {p : Path} {q : Part} {v : Word}
    (h : s.takesWrite p (pgARB + (0x200 + 0x10 * q.val)) v.toNat = true) (hv : v.toNat % 1024 = 0 ∨ 128 ≤ v.toNat % 1024)
    (hsum : s.chip.creditSum q.val (v.toNat % 1024) ≤ 1000) :
    ∃ t, exec (.creditWrite p q v 15) s = .next t
      ∧ (∀ j < 8, t.chip.rd R.ARB_CREDIT pgARB j = if j = q.val then v.toNat % 1024 else s.chip.rd R.ARB_CREDIT pgARB j)
      ∧ t.chip.arb = s.chip.arb := by
  obtain ⟨t, ht, hregs, harb⟩ := creditWrite_next h
  have stored : (s.chip.dropHeld p.key).wrArb (0x200 + 0x10 * q.val) v.toNat
      = (s.chip.dropHeld p.key).wr R.ARB_CREDIT pgARB (v.toNat % 1024) q.val := by
    rw [wrArb_credit, dropHeld_creditSum]
    exact if_pos ⟨hv, hsum⟩
  rw [stored] at hregs harb
  refine ⟨t, ht, fun j hj => ?_, by rw [harb, Chip.wr_arb, dropHeld_arb]⟩
  have rd : t.chip.rd R.ARB_CREDIT pgARB j = ((s.chip.dropHeld p.key).wr R.ARB_CREDIT pgARB (v.toNat % 1024) q.val).rd R.ARB_CREDIT pgARB j :=
    congrArg (mapGet · _ _) hregs
  rw [rd]
  by_cases hjq : j = q.val
  · rw [hjq, rd_wr_same, if_pos rfl]
    exact Nat.mod_mod _ _
  · rw [rd_wr_ne _ _ _ _ _ _ _ _ (fldKey_ne_of_copy (by decide) hjq), if_neg hjq, dropHeld_rd]

/-- A window that begins takes every CREDIT (R413). -/
theorem creditWindowStart_credit {c : Chip} (ht : c.datum % 8000 = 0) (hw : c.armed (tmKey tmCredit 0) = false ∨ c.due (tmKey tmCredit 0) = true) :
    (creditWindowStart c).arb.credit = (upTo 8).map (fun p => c.rd R.ARB_CREDIT pgARB p) := by
  have begins : ¬ (c.datum % 8000 ≠ 0 ∨ (c.armed (tmKey tmCredit 0) = true ∧ (!c.due (tmKey tmCredit 0)) = true)) := by
    rcases hw with h | h <;> simp [ht, h]
  unfold creditWindowStart
  rw [if_neg begins]
  split
  dsimp only
  split <;> simp

/-- A partition without credit has no request in tier 1 (R414). -/
theorem tier1_of_noCredit {c : Chip} {x : RingQ} {n : Nat} {ns : List Nat} (hx : x.xfers = n :: ns) (hn : 1 ≤ n) (h0 : c.credit x.part = 0) :
    c.tier1 x = false := by
  simp only [Chip.tier1, hx, h0, List.head?_cons, Option.getD_some, decide_eq_false_iff_not]
  omega

/-- Settles O46, clause by clause. -/
theorem creditWriteRule : Obligations.CreditWriteRule := by
  refine ⟨fun s p q v => creditWrite_rejected, fun s p q v => creditWrite_stored, fun s ht hw => ⟨_, rfl, fun p hp => ?_⟩,
    fun s x n ns => tier1_of_noCredit⟩
  rw [State.onChip_chip, Chip.credit, creditWindowStart_credit ht (.inl hw)]
  simp [upTo, hp]

end Sys2Proof.Machine
end

section
/-! PROOFS. Waveform capture: entries in capture SRAM, and a flush that finds XSPI_BUSY out of its width (R458, R461). -/

namespace Sys2Proof.Machine

/-- A set in DONE with FLUSH_EN, on a chip whose XSPI_BUSY, a field of one bit, stands as 2. -/
def wideBusyState : State :=
  { State.reset with
    chip := { regs := [(fldKey R.WCAP_STATE pgWCAP 0, 3), (fldKey R.WCAP_FLUSH_EN pgWCAP 0, 1), (fldKey R.XSPI_BUSY pgXSPI 0, 2)] } }

/-- Refutes O27: its fifth clause has XSPI_BUSY read 1 once a flush has begun. In `wideBusyState` the field is set already, though not as
1, and XSPI_BUSY is written only where it changes between clear and set. -/
theorem not_captureCommandsAct : ¬ Obligations.CaptureCommandsAct := by
  rintro ⟨-, -, -, -, flush, -⟩
  obtain ⟨t, ht, -, busy⟩ := flush wideBusyState 0 (by decide +kernel) (by decide +kernel)
  obtain rfl := Host.Outcome.next.inj ht
  exact absurd busy (by decide +kernel)

/-- An entry that is due and moved in time is put in its slot. -/
theorem wcEntry_moved {s : State} {k : Nat} (due : s.chip.wcDue k = true) :
    wcEntry s k true = { s with cap := memPut s.cap (s.chip.wcAddr k (s.chip.wset k).entry) (s.chip.wcEntryBytes k s.chip.wcTick),
                                chip := s.chip.wcAfter k s.chip.wcTick } := by
  simp [wcEntry, due]

section
variable {s t : State} {a : Nat} {bs : Bytes} (hcap : Memory.wf s.cap = true) (ht : t.cap = memPut s.cap a bs)
include hcap ht

theorem captureByte_memPut_outside {y : Nat} (h : y < 0x1000000 + a ∨ 0x1000000 + a + bs.length ≤ y) : t.captureByte y = s.captureByte y := by
  unfold State.captureByte
  split
  · rw [ht, memGet_memPut_outside s.cap a bs _ (by omega) hcap]
  · rfl

theorem captureByte_memPut_inside {i : Nat} (h : i < bs.length) (inSram : a + i < 0x800000) :
    t.captureByte (0x1000000 + (a + i)) = bs.getD i 0 := by
  unfold State.captureByte
  rw [if_pos (by omega), Nat.add_sub_cancel_left, ht, memGet_memPut_inside s.cap a bs i h hcap, List.getD_eq_getElem _ _ h]
end

/-- Settles O50: capture SRAM is written by one `memPut` at the slot of the entry. -/
theorem captureEntryBytes : Obligations.CaptureEntryBytes := by
  intro s k canonical due
  have hcap : Memory.wf s.cap = true := ((Bool.and_eq_true _ _).mp canonical).2
  have moved := wcEntry_moved due
  exact ⟨wcEntry s k true, rfl, by rw [moved], fun y outside => captureByte_memPut_outside hcap (by rw [moved]) outside,
    fun i hi inSram => captureByte_memPut_inside hcap (by rw [moved]) hi inSram⟩

end Sys2Proof.Machine
end

section
/-! PROOFS. A write of a two-wire target under PEC is held to its STOP (R478). -/

namespace Sys2Proof.Machine

/-- A key set twice holds the later value. -/
theorem mapSet_mapSet_same {α : Type} (m : SMap α) (k : Nat) (v w : α) : mapSet (mapSet m k v) k w = mapSet m k w := by
  induction m with
  | nil => simp [mapSet]
  | cons e m ih =>
    obtain ⟨j, x⟩ := e
    simp only [mapSet]
    split
    · simp [mapSet]
    · split
      · simp [mapSet]
      · simp [mapSet, *]

theorem Chip.modTgt_modTgt (c : Chip) (g : Tgt) (f f' : IicSt → IicSt) : (c.modTgt g f).modTgt g f' = c.modTgt g (fun q => f' (f q)) := by
  simp [Chip.modTgt, Chip.modIic, Chip.setIic, Chip.iic, mapSet_mapSet_same]

@[simp] theorem Chip.tgt_modTgt (c : Chip) (g : Tgt) (f : IicSt → IicSt) : (c.modTgt g f).tgt g = f (c.tgt g) := by
  simp [Chip.modTgt, Chip.tgt, Chip.modIic, Chip.setIic, Chip.iic]

@[simp] theorem Chip.tgt_tgtDone (c : Chip) (g h : Tgt) : (c.tgtDone g).tgt h = c.tgt h := by
  simp [Chip.tgtDone, Chip.tgt, Chip.iic]

/-- A read returns as many bytes as it asks for. -/
theorem length_tgtReads (g : Tgt) (n : Nat) : ∀ (s : State) (acc : Bytes), (s.tgtReads g n acc).2.length = acc.length + n := by
  induction n with
  | zero => simp [State.tgtReads]
  | succ n ih =>
    intro s acc
    simp only [State.tgtReads, ih, List.length_cons]
    omega

section
variable {s : State} {g : Tgt} (on : s.chip.tgtOn g = true)
include on

theorem length_iicTargetRead (n : Nat) : ((iicTargetRead s g n).chip.tgt g).reads.length = n := by
  simp [iicTargetRead, on, length_tgtReads]

variable (pecOn : s.chip.on R.IIC_TGT_PEC_EN g.page = true)
include pecOn

theorem iicTargetWrite_held (bs : Bytes) : iicTargetWrite s g bs = s.onChip (fun c => c.modTgt g (fun q => { q with pec := bs })) := by
  simp [iicTargetWrite, on, pecOn, State.onChip]

variable {x : Byte} {bs : Bytes} (held : (s.chip.tgt g).pec = bs ++ [x])
include held

theorem iicPecStop_right (right : pec (BitVec.ofNat 8 (2 * s.chip.rd R.IIC_ADDR g.page) :: bs) = x.toNat) :
    iicPecStop s g = ((s.onChip (fun c => c.modTgt g (fun q => { q with pec := [] }))).tgtWrite g bs).onChip (fun c => c.tgtDone g) := by
  simp [iicPecStop, on, pecOn, held, right, State.onChip]

theorem iicPecStop_wrong (wrong : pec (BitVec.ofNat 8 (2 * s.chip.rd R.IIC_ADDR g.page) :: bs) ≠ x.toNat) :
    iicPecStop s g = s.onChip (fun c => (c.modTgt g (fun q => { q with pec := [], flags := q.flags ||| 2 })).tgtDone g) := by
  simp [iicPecStop, on, pecOn, held, wrong, State.onChip, Chip.tgtFlag, Chip.modTgt_modTgt]
end

/-- Settles O47: the four transactions of a target with PEC_EN. -/
theorem pecTransactionRule : Obligations.PecTransactionRule :=
  ⟨fun _ _ bs on pecOn => ⟨_, rfl, iicTargetWrite_held on pecOn bs⟩,
   fun _ _ _ _ on pecOn held right => ⟨_, rfl, iicPecStop_right on pecOn held right⟩,
   fun _ _ _ _ on pecOn held wrong => ⟨_, rfl, iicPecStop_wrong on pecOn held wrong⟩,
   fun _ _ n on => ⟨_, rfl, length_iicTargetRead on n⟩⟩

end Sys2Proof.Machine
end

section
/-! SUPPORT. Frames of the twin, the fabric and the ring. -/

namespace Sys2Proof.Machine

/-! Components, and changes of registers alone. -/

section
variable {n : Nat} {a : List Comp} (c : Chip)

theorem confined_modFab (f : FabSt → FabSt) (h : [.fab] ⊆ a := by decide) : Confined n a c (c.modFab f) := .mono (.of_rest rfl) h

theorem confined_modArb (f : ArbSt → ArbSt) (h : [.arb] ⊆ a := by decide) : Confined n a c (c.modArb f) := .mono (.of_rest rfl) h

theorem confined_setRingQ (q : RingQ) (h : [.arb] ⊆ a := by decide) : Confined n a c (c.setRingQ q) := confined_modArb c _ h

theorem confined_hear (h : [.twin] ⊆ a := by decide) : Confined n a c c.hear := .mono (.of_rest rfl) h

/-- The ports as a whole. -/
theorem confined_ports (m : SMap PortSt) (h : [.ports, .otherPorts] ⊆ a := by decide) : Confined n a c { c with ports := m } := by
  intro u hu
  cases u
  case ports | otherPorts => exact absurd (h (by simp)) hu
  case otherStages | otherEngines => exact fun _ _ => rfl
  all_goals exact rfl

/-- What arrives on Chain acts only with power. -/
theorem confined_chainIn {f : Chip → Chip} (hf : ∀ c, Confined n a c (f c)) : Confined n a c (c.chainIn f) := .ite (hf c) (.refl c)

theorem quiet_setSource (v : Nat) : Quiet c (c.setSource v) := by
  unfold Chip.setSource
  exact .ite (.refl c) (quiet_up c _ _ _ _)

theorem quiet_fabSource : Quiet c c.fabSource := by
  unfold Chip.fabSource
  exact .ite (quiet_setSource c _) (.refl c)

theorem quiet_selfcheckStart (e : Nat) : Quiet c (c.selfcheckStart e) := by
  unfold Chip.selfcheckStart
  exact .ite (quiet_up c _ _ _ _) (.refl c)

theorem quiet_ringShow : Quiet c c.ringShow := by
  unfold Chip.ringShow
  extract_lets mask st ov c1 c2
  have h1 : Quiet c c1 := .ite (.refl c) (quiet_up c _ _ _ _)
  have h2 : Quiet c c2 := .ite h1 (h1.trans (quiet_up c1 _ _ _ _))
  exact (h2.trans (quiet_level c2 _ _ _)).trans (quiet_level _ _ _ _)

/-- Status fields fall to their reset values in registers alone. -/
theorem confined_dropStatus (pick : Nat → Bool) (h : quietParts ⊆ a := by decide) : Confined n a c (c.dropStatus pick) :=
  .mono (a := quietParts) (Confined.trans (.mono (.of_rest (a := [.regs]) rfl)) (.foldc (fun b c => confined_quiet (quiet_seqInc c b)) _)) h
end

/-! The twin (R337 to R364). -/

/-- What joining and leaving the pair change, beside the ports. -/
abbrev joinParts : List Comp := quietParts ++ [.timers, .twin]

/-- What entering SOLO changes: ports are fenced, and envelopes written. -/
abbrev soloParts : List Comp := joinParts ++ [.ports, .otherPorts, .otherStages, .otherEngines]

section
variable {n : Nat} (c : Chip)

theorem confined_enterJoining (phase limitMs : Nat) : Confined n joinParts c (c.enterJoining phase limitMs) := by
  unfold Chip.enterJoining
  extract_lets c1 c2 c3
  have h1 : Confined n joinParts c c1 := confined_quiet ((quiet_hw c _ _).trans (quiet_setRole _ true))
  have h3 : Confined n joinParts c c3 := ((h1.trans (confined_modTwin c1 _)).trans (confined_arm c2 _ _)).trans (confined_disarm _ _)
  exact .ite (h3.trans (confined_send c3 _)) h3

theorem confined_fencedRejoin : Confined n (joinParts ++ [.plumb]) c c.fencedRejoin := by
  unfold Chip.fencedRejoin
  exact .ite (((confined_modPlumb c _).trans (confined_enterJoining _ 0 5).mono).trans (confined_quiet (quiet_reFlt _))) (.refl c)

theorem confined_selfArm : Confined n joinParts c c.selfArm := by
  unfold Chip.selfArm
  exact .ite (confined_disarm c _) (confined_arm c _ _)

theorem confined_fenceWaiting : Confined n soloParts c c.fenceWaiting := by
  refine .foldc (fun p c => .ite ?_ (.refl c)) c
  have fence : Confined p [.timers, .ports] c (c.startFence p) := (confined_setPort c _).trans (confined_disarm _ _)
  exact (fence.any.mono).trans (confined_arm _ _ _)

theorem confined_envPending : Confined n soloParts c c.envPending := by
  have request (p : Nat) (r : CfgReq) (c : Chip) : Confined n soloParts c (c.pushReq p r) :=
    (confined_pushReq (a := [.ports]) c p r).any.mono
  unfold Chip.envPending
  refine .foldc (fun e c => ?_) c
  extract_lets p k
  exact .ite (.foldc (request p) c) (.refl c)

theorem confined_enterSolo : Confined n soloParts c c.enterSolo := by
  unfold Chip.enterSolo
  extract_lets c1 c2 c3
  have h1 : Confined n soloParts c c1 := confined_quiet ((quiet_hw c _ _).trans (quiet_setRole _ false))
  have h3 : Confined n soloParts c c3 :=
    (((h1.trans (confined_modTwin c1 _)).trans (confined_disarm c2 _)).trans (confined_disarm _ _)).trans (confined_disarm _ _)
  have shown : Quiet c3 ((c3.level pgTWIN 8 false).setSource c3.leadSource) := (quiet_level c3 _ _ _).trans (quiet_setSource _ _)
  exact (((h3.trans (confined_quiet shown)).trans (confined_selfArm _).mono).trans (confined_fenceWaiting _)).trans (confined_envPending _)

theorem confined_fenceOld : Confined n soloParts c c.fenceOld := by
  unfold Chip.fenceOld
  refine (confined_bump c _ _ _ _).trans (.foldc (fun p c => .ite ?_ (.refl c)) _)
  exact ((confined_modPort (n := p) (a := [.ports]) c _).any.mono).trans (confined_disarm _ _)

theorem confined_peerHeld : Confined n (quietParts ++ [.twin]) c c.peerHeld := by
  unfold Chip.peerHeld
  extract_lets c1 c2
  have q1 : Quiet c c1 := ((quiet_up c _ _ _ _).trans (quiet_level _ _ _ _)).trans (quiet_setRole _ false)
  have h2 : Confined n (quietParts ++ [.twin]) c c2 :=
    (confined_quiet (q1.trans (quiet_setSource c1 _))).trans (confined_modTwin _ _)
  exact .ite (h2.trans (.foldc (fun _ c => confined_proposeAt c n _ _) c2)) (.refl c)

theorem confined_traverse : Confined n (quietParts ++ [.twin]) c c.traverse := by
  unfold Chip.traverse
  exact .ite (.ite (confined_proposeAt c n _ _) (confined_bump c _ _ _ _)) (.refl c)

theorem confined_travArm : Confined n [.timers] c c.travArm := by
  unfold Chip.travArm
  exact .ite (confined_disarm c _) (confined_arm c _ _)
end

/-! Survey (R374 to R396). -/

/-- What a message of the fabric changes. -/
abbrev fabParts : List Comp := quietParts ++ [.fab]

section
variable {n : Nat} {a : List Comp} (c : Chip)

theorem confined_fabTx (h : SurveyHdr) (payload : Bytes) : Confined n fabParts c (c.fabTx h payload) := by
  unfold Chip.fabTx
  extract_lets f ks c1
  have h1 : Confined n fabParts c c1 := (confined_modFab c _).trans (confined_send _ _)
  exact .ite (.refl c) (.ite (confined_bump c _ _ _ _) (h1.trans (.foldc (fun _ c => confined_send c _) c1)))

theorem confined_fabAck (h : SurveyHdr) : Confined n fabParts c (c.fabAck h) := confined_fabTx c _ _

theorem confined_fabBcast (sub : Nat) (id : Word) (payload : Bytes) : Confined n fabParts c (c.fabBcast sub id payload) := confined_fabTx c _ _

theorem quiet_fabMirror : Quiet c c.fabMirror := by
  unfold Chip.fabMirror
  exact .ite (quiet_send c _) (.refl c)

theorem quiet_tellLocked : Quiet c c.tellLocked := by
  unfold Chip.tellLocked
  exact .ite (quiet_send c _) (.refl c)

/-- A violation is recorded and counted. -/
theorem confined_violation (part addr : Nat) (wr : Bool) (path : Nat) : Confined n recordParts c (c.violation part addr wr path) := by
  unfold Chip.violation
  extract_lets c1 c2
  have h1 : Confined n recordParts c c1 := confined_record_book c _ _ _ _ _ _
  exact h1.trans (confined_quiet ((((quiet_hw c1 _ _).trans (quiet_bump c2 _ _ _ _)).trans (quiet_bump _ _ _ _ _)).trans (quiet_pulse _ _ _)))

theorem confined_relRx (h : SurveyHdr) : Confined n fabParts c (c.relRx h).1 := by
  unfold Chip.relRx
  extract_lets node w ack put fresh ids newest behind
  have acked (d : Chip) (hd : Confined n fabParts c d) : Confined n fabParts c (ack d) := .ite hd (hd.trans (confined_fabAck d h))
  have counted (i : Nat) : Confined n fabParts c (c.bump R.FAB_CNT pgFAB i) := confined_bump c _ _ _ _
  split
  · exact .refl c
  · split
    · exact counted 2
    · split
      · exact acked _ (counted 1)
      · split
        · exact counted 2
        · exact acked _ (confined_modFab c _)

/-- A message that passes its window is taken. -/
theorem confined_relTake (h : SurveyHdr) (f : Chip → Chip) (hf : ∀ c, Confined n a c (f c)) (hp : fabParts ⊆ a := by decide) :
    Confined n a c (if (c.relRx h).2 = true then f (c.relRx h).1 else (c.relRx h).1) := by
  have taken : Confined n a c (c.relRx h).1 := (confined_relRx c h).mono hp
  exact .ite (taken.trans (hf _)) taken

theorem confined_ptpSlaveLoss (p : Plane) : Confined n (fabParts ++ [.timers]) c (ptpSlaveLoss c p) := by
  unfold ptpSlaveLoss
  extract_lets c1 c2
  have h1 : Confined n (fabParts ++ [.timers]) c c1 := confined_modFab c _
  have unsynced : Quiet c1 (if c1.on R.FAB_SYNCED pgFAB then c1.up R.FAB_SYNCED pgFAB 0 else c1) := .ite (quiet_up c1 _ _ _ _) (.refl c1)
  have h2 : Confined n (fabParts ++ [.timers]) c c2 :=
    .ite h1 (((h1.trans (confined_quiet unsynced)).trans (confined_modFab _ _)).trans (confined_disarm _ _))
  exact h2.trans (confined_quiet (quiet_fabSource c2))

theorem confined_quietClear (h : [.fab, .timers] ⊆ a := by decide) : Confined n a c c.quietClear :=
  .mono (a := [.fab, .timers]) ((confined_modFab c _).trans (confined_disarm _ _)) h
end

end Sys2Proof.Machine
end

section
/-! PROOFS. Commands of the twin, the fabric and the ring change only their own units (R340, R357, R382, R412). -/

namespace Sys2Proof.Machine

/-! The twin. -/

section
variable {n : Nat} (c : Chip)

theorem confined_chainPathUp (ch1 : Bool) : Confined n (joinParts ++ [.plumb]) c (chainPathUp c ch1) := by
  unfold chainPathUp
  extract_lets c1
  have h1 : Confined n (joinParts ++ [.plumb]) c c1 := ((confined_up c _ _ _ _).trans (confined_level _ _ _ _)).trans (confined_hear _)
  exact .ite (.refl c) (h1.trans (confined_fencedRejoin c1))

theorem confined_agreeProposal (x : Nat) (item : AgreedItem) : Confined n [.twin, .sent] c (agreeProposal c x item) := by
  unfold agreeProposal
  extract_lets st c1
  have h1 : Confined n [.twin, .sent] c c1 := confined_hear c
  exact .ite h1 (.ite ((h1.trans (confined_modTwin c1 _)).trans (confined_send _ _)) h1)

theorem confined_agreeAck (x : Nat) : Confined n [.twin] c (agreeAck c x) := (confined_hear c).trans (confined_modTwin _ _)

theorem confined_agreeCancel (x : Nat) : Confined n [.twin] c (agreeCancel c x) := by
  unfold agreeCancel
  exact .ite ((confined_hear c).trans (confined_modTwin _ _)) (confined_hear c)

theorem confined_agreeAckDeadline (x : Nat) : Confined n [.twin, .sent] c (agreeAckDeadline c x) := by
  unfold agreeAckDeadline
  extract_lets late c1
  have h1 : Confined n [.twin, .sent] c c1 := (confined_modTwin c _).trans (confined_send _ _)
  exact .ite (.refl c) (h1.trans (.foldc (fun _ c => (confined_modTwin c _).trans (confined_send _ _)) c1))

/-- What a TIME exchange changes. -/
abbrev timeParts : List Comp := joinParts ++ [.datum, .freeCtr]

theorem confined_timeStep (offset : Int) : Confined n timeParts c (timeStep c offset) := by
  unfold timeStep
  extract_lets st follows c0 stepped good
  have h0 : Confined n timeParts c c0 := confined_hear c
  have h1 : Confined n timeParts c stepped := h0.trans (.mono (a := [.datum]) (.of_rest rfl))
  refine .ite (.ite (h0.trans (confined_up c0 _ _ _ _)) h0) (.ite ?_ ?_)
  · exact ((h1.trans (confined_modTwin stepped _)).trans (confined_up _ _ _ _ _)).trans (confined_quiet (quiet_setSource _ _))
  · split
    next v c1 hv =>
      obtain rfl : c0.free.2 = c1 := congrArg Prod.snd hv
      extract_lets rate c2 c3 w c4
      have q3 : Quiet c0.free.2 c3 := ((quiet_up _ _ _ _ _).trans (quiet_up _ _ _ _ _)).trans (quiet_setSource c2 _)
      have h3 : Confined n timeParts c c3 := (h0.trans (confined_free c0)).trans (confined_quiet q3)
      have h4 : Confined n timeParts c c4 := h3.trans (confined_modTwin c3 _)
      exact .ite ((h3.trans (confined_modTwin c3 _)).trans (confined_disarm _ _)) (.ite h4 (h4.trans (confined_arm c4 _ _)))

theorem confined_timeExchange (m : TimeMeas) : Confined n timeParts c (timeExchange c m) := by
  unfold timeExchange
  split
  · exact confined_timeStep c _
  · exact confined_hear c

theorem confined_healthRx (v : Word) : Confined n (quietParts ++ [.twin]) c (healthRx c v) := by
  unfold healthRx
  exact .ite (confined_hear c) ((confined_hear c).trans (confined_up _ _ _ _ _))

theorem confined_debugHoldRx : Confined n (quietParts ++ [.twin]) c (debugHoldRx c) := (confined_hear c).trans (confined_peerHeld _)

theorem confined_mgmtFailNotice : Confined n (quietParts ++ [.twin]) c (mgmtFailNotice c) :=
  ((confined_hear c).trans (confined_peerHeld _)).trans (confined_send _ _)

theorem confined_takeoverExpiry : Confined n (soloParts ++ [.secs]) c (takeoverExpiry c) := by
  unfold takeoverExpiry
  exact .ite (((confined_disarm c _).trans (confined_enterSolo _).mono).trans (confined_fenceOld _).mono) (.refl c)

theorem confined_recoveryWindowEnd : Confined n soloParts c (recoveryWindowEnd c) := by
  unfold recoveryWindowEnd
  extract_lets c1
  have h1 : Confined n soloParts c c1 := ((confined_disarm c _).trans (confined_up _ _ _ _ _)).trans (confined_modTwin _ _)
  exact .ite (h1.trans (confined_ports c1 _)) (.refl c)

theorem confined_joinRestart : Confined n joinParts c (joinRestart c) := by
  unfold joinRestart
  exact .ite (confined_enterJoining c 0 5) (.refl c)

theorem confined_traverseSchedule : Confined n joinParts c (traverseSchedule c) := by
  unfold traverseSchedule
  exact .ite ((confined_travArm c).mono.trans (confined_traverse _).mono) (.refl c)

theorem confined_inserviceSelftest : Confined n joinParts c (inserviceSelftest c) := by
  unfold inserviceSelftest
  extract_lets st ms e c1
  have h1 : Confined n joinParts c c1 := (confined_arm c _ _).trans (confined_modTwin _ _)
  exact .ite (.refl c) (.ite h1 (h1.trans (confined_quiet (quiet_selfcheckStart c1 e))))
end

/-- What the end of a halt of MGMT changes, beside descriptor memory. -/
abbrev resumeParts : List Comp := soloParts ++ [.plumb, .cals]

theorem beginConfig_frame (s : State) : ∃ d, s.beginConfig = { s with mem := [], chip := d } ∧ Confined 0 resumeParts s.chip d := by
  refine ⟨_, rfl, ?_⟩
  have dropped : Confined 0 resumeParts s.chip (s.chip.dropStatus statusInConfig) := confined_dropStatus s.chip _
  generalize s.chip.dropStatus statusInConfig = d at dropped
  have kept : Confined 0 resumeParts d (d.modTwin (fun t => { t with cfgGot := 0, cfgAll := none })) := confined_modTwin d _
  generalize d.modTwin (fun t => { t with cfgGot := 0, cfgAll := none }) = e at kept
  have emptied (m : SMap CalSt) (q : SMap PortSt) : Confined 0 resumeParts e { e with cals := m, ports := q } :=
    Confined.trans (.mono (a := [.cals]) (.of_rest rfl)) (confined_ports { e with cals := m } q)
  exact (dropped.trans kept).trans (emptied _ _)

/-- MGMT that goes on changes descriptor memory and the chip within a frame. -/
theorem mgmtResume_frame (s : State) :
    mgmtResume s = { s with mem := (mgmtResume s).mem, chip := s.chip.take resumeParts (mgmtResume s).chip } := by
  suffices h : ∃ m d, mgmtResume s = { s with mem := m, chip := d } ∧ Confined 0 resumeParts s.chip d by
    obtain ⟨m, d, hs, hd⟩ := h
    rw [hs]
    exact congrArg (fun c => { s with mem := m, chip := c }) hd.eq_take
  unfold mgmtResume
  extract_lets c c1
  have h1 : Confined 0 resumeParts c c1 := (confined_modPlumb c _).trans (confined_up _ _ _ _ _)
  have joined : Confined 0 resumeParts c ((c1.modTwin (fun t => { t with rejoinCfg := true })).enterJoining 2 400) :=
    (h1.trans (confined_modTwin c1 _)).trans (confined_enterJoining _ 2 400).mono
  split
  · exact ⟨s.mem, s.chip, rfl, .refl _⟩
  · split
    · obtain ⟨d, hs, hd⟩ := beginConfig_frame { s with chip := (c1.modTwin (fun t => { t with rejoinCfg := true })).enterJoining 2 400 }
      exact ⟨[], d, hs, joined.trans hd⟩
    · exact ⟨s.mem, c1, rfl, h1⟩

/-! Survey. -/

section
variable {n : Nat} {a : List Comp} (c : Chip)

theorem confined_fabHelloSend : Confined n [.timers, .sent] c (fabHelloSend c) := by
  unfold fabHelloSend
  extract_lets hello
  exact .ite (.refl c) ((confined_arm c _ _).trans (.foldc (fun _ c => confined_send c _) _))

theorem confined_lsaFlood : Confined n [.timers, .fab, .sent] c (lsaFlood c) := by
  unfold lsaFlood
  extract_lets seq sent c1
  have h1 : Confined n [.timers, .fab, .sent] c c1 := (confined_modFab c _).trans (confined_arm _ _ _)
  exact .ite (.refl c) (h1.trans (.foldc (fun l c => .foldc (fun _ c => confined_send c _) c) c1))

theorem confined_transitForward (k : Nat) (f : FabFrame) : Confined n fabParts c (transitForward c k f) := by
  unfold transitForward
  extract_lets mine c1
  have h1 : Confined n fabParts c c1 := .ite (.refl c) (confined_modFab c _)
  exact .ite (.refl c) (.ite (.ite (.refl c) (confined_bump c _ _ _ _)) (.ite (.refl c) (h1.trans (.foldc (fun _ c => confined_send c _) c1))))

/-- What a message of the fabric changes where a violation may be recorded. -/
abbrev bookedParts : List Comp := recordParts ++ [.fab]

theorem confined_keepalive (h : SurveyHdr) : Confined n bookedParts c (c.keepalive h) := by
  unfold Chip.keepalive
  extract_lets c1
  have h1 : Confined n bookedParts c c1 := confined_bump c _ _ _ _
  exact .ite (h1.trans (confined_modFab c1 _)) (.ite (h1.trans (confined_violation c1 _ _ _ _).mono) h1)

theorem confined_fabFrameRx (k : Nat) (f : FabFrame) : Confined n bookedParts c (fabFrameRx c k f) := by
  unfold fabFrameRx
  extract_lets seen c1 h
  have h1 : Confined n bookedParts c c1 := confined_modFab c _
  refine .ite (.refl c) (.ite (confined_bump c _ _ _ _) (.ite (.refl c) (.ite ?_ (.ite h1 (.ite ?_ (.ite ?_ h1))))))
  · exact (confined_modFab c _).trans (confined_bump _ _ _ _ _)
  · exact .ite h1 (h1.trans (confined_send c1 _))
  · exact h1.trans (confined_keepalive c1 h)

theorem confined_shareRx (h : SurveyHdr) (pl : Bytes) : Confined n bookedParts c (shareRx c h pl) := by
  unfold shareRx
  exact .ite (.refl c) (.ite (confined_violation c _ _ _ _).mono (confined_relTake c h _ (fun c => confined_modFab c _)))

theorem confined_timeRx (h : SurveyHdr) (pl : Bytes) : Confined n bookedParts c (timeRx c h pl) := by
  unfold timeRx
  exact .ite (.refl c) (.ite (confined_violation c _ _ _ _).mono (confined_relTake c h _ (fun c => confined_modFab c _)))

theorem confined_shareSend : Confined n (fabParts ++ [.timers]) c (shareSend c) := by
  unfold shareSend
  extract_lets ss
  exact .ite (.refl c) ((confined_arm c _ _).trans (.foldc (fun _ c => (confined_fabTx c _ _).mono) _))

theorem confined_ackRx (h : SurveyHdr) (pl : Bytes) : Confined n [.fab] c (ackRx c h pl) := by
  unfold ackRx
  exact .ite (.refl c) (confined_modFab c _)

theorem confined_relRetry (id : Nat) : Confined n fabParts c (relRetry c id) := by
  unfold relRetry
  split
  · exact .refl c
  · extract_lets c1
    have h1 : Confined n fabParts c c1 := confined_modFab c _
    exact .ite (.ite (h1.trans (confined_fabTx c1 _ _)) h1) (.refl c)

theorem confined_relFail (id : Nat) : Confined n fabParts c (relFail c id) := by
  unfold relFail
  split
  · exact .refl c
  · exact .ite (((confined_modFab c _).trans (confined_bump _ _ _ _ _)).trans (confined_pulse _ _ _)) (.refl c)

/-- What a gPTP message changes. -/
abbrev gptpParts : List Comp := fabParts ++ [.timers, .freeCtr]

theorem confined_ptpMessageRx (p : Plane) (m : PtpMsg) : Confined n gptpParts c (ptpMessageRx c p m) := by
  have source (d : Chip) : Confined n gptpParts d d.fabSource := confined_quiet (quiet_fabSource d)
  unfold ptpMessageRx
  refine .ite (.refl c) ?_
  split
  · extract_lets self c1
    have h1 : Confined n gptpParts c c1 := .ite (.refl c) (confined_up c _ _ _ _)
    exact (h1.trans (.ite (confined_modFab c1 _) (.refl c1))).trans (source _)
  · extract_lets c1 good c2 since c3 c4
    have h1 : Confined n gptpParts c c1 := confined_modFab c _
    have h2 : Confined n gptpParts c c2 := h1.trans (confined_hw c1 _ _)
    have h3 : Confined n gptpParts c c3 := .ite ((h2.trans (confined_modFab c2 _)).trans (confined_disarm _ _))
      (.ite h2 (.ite h2 ((h2.trans (confined_modFab c2 _)).trans (confined_arm _ _ _))))
    have h4 : Confined n gptpParts c c4 := h3.trans (source c3)
    have rate (v : Nat) : Confined n gptpParts c4 (c4.free.2.up R.DATUM_RATE pgDATUM v) := (confined_free c4).trans (confined_up _ _ _ _ _)
    exact .ite (h1.trans (source c1)) (.ite (h4.trans (rate _)) h4)

theorem confined_ptpSend (tm period : Nat) (kinds : List Nat) : Confined n [.timers, .sent] c (c.ptpSend tm period kinds) := by
  unfold Chip.ptpSend
  extract_lets one
  have sends (p : Plane) (c : Chip) : Confined n [.timers, .sent] c (one p c) := .ite (.refl c) (.foldc (fun _ c => confined_send c _) c)
  exact .ite (.refl c) (((confined_arm c _ _).trans (sends .a _)).trans (sends .b _))

theorem confined_prpSupervisionSend : Confined n [.timers, .sent] c (prpSupervisionSend c) := by
  unfold prpSupervisionSend
  extract_lets one
  have sends (p : Plane) (c : Chip) : Confined n [.timers, .sent] c (one p c) := .ite (.refl c) (confined_send c _)
  exact .ite (.refl c) (((confined_arm c _ _).trans (sends .a _)).trans (sends .b _))

/-- What a lock to fabric time changes. -/
abbrev lockParts : List Comp := fabParts ++ [.datum, .freeCtr]

theorem confined_timeLock (diff : Int) : Confined n lockParts c (timeLock c diff) := by
  unfold timeLock
  extract_lets first c1 ofs total v c2
  have h1 : Confined n lockParts c c1 :=
    (confined_modFab c _).trans (confined_quiet ((quiet_fabSource _).trans (quiet_tellLocked _)))
  have h2 : Confined n lockParts c c2 := h1.trans (.mono (a := [.datum]) (.of_rest rfl))
  have offset (d : Chip) (us : List (Fld × Nat × Nat)) : Confined n lockParts d (d.hw pgFAB us).fabMirror :=
    confined_quiet ((quiet_hw d _ _).trans (quiet_fabMirror _))
  have rate (v : Nat) : Confined n lockParts c1 (c1.free.2.up R.DATUM_RATE pgDATUM v) := (confined_free c1).trans (confined_up _ _ _ _ _)
  exact .ite (.refl c) (.ite (.ite (h1.trans (offset c1 _)) (h2.trans (offset c2 _))) (h1.trans (rate _)))

theorem confined_quietPropose (h : SurveyHdr) (p : Plane) (q : Nat) : Confined n fabParts c (quietPropose c h p q) := by
  unfold quietPropose
  extract_lets c1
  have h1 : Confined n fabParts c c1 := confined_modFab c _
  exact .ite (.refl c) (.ite (.ite (confined_fabBcast c _ _ _) (.refl c)) (.ite (h1.trans (confined_fabAck c1 h)) h1))

theorem confined_quietCommit (h : SurveyHdr) (p : Plane) (q : Nat) : Confined n [.fab] c (quietCommit c h p q) := by
  unfold quietCommit
  exact .ite (confined_modFab c _) (.refl c)

theorem confined_quietAckDeadline : Confined n (fabParts ++ [.timers]) c (quietAckDeadline c) := by
  unfold quietAckDeadline
  extract_lets c1
  have h1 : Confined n (fabParts ++ [.timers]) c c1 := confined_disarm c _
  refine .ite (.refl c) (.ite ?_ ((h1.trans (confined_quietClear c1)).trans (confined_bump _ _ _ _ _)))
  split
  · exact (h1.trans (confined_modFab c1 _)).trans (confined_fabBcast _ _ _ _).mono
  · exact h1
end

/-! The ring. -/

/-- What a tenure changes. -/
abbrev ringParts : List Comp := quietParts ++ [.arb]

section
variable {n : Nat} (c : Chip)

theorem confined_creditWindowStart : Confined n (ringParts ++ [.timers]) c (creditWindowStart c) := by
  unfold creditWindowStart
  refine .ite (.refl c) ?_
  split
  extract_lets c1 us c2
  have h1 : Confined n (ringParts ++ [.timers]) c c1 := confined_modArb c _
  have h2 : Confined n (ringParts ++ [.timers]) c c2 := .ite h1 (h1.trans (confined_hw c1 _ _))
  exact h2.trans (confined_arm c2 _ _)

theorem confined_backoffEnd (slot part : Nat) : Confined n [.arb] c (backoffEnd c slot part) := by
  unfold backoffEnd
  exact .ite (confined_setRingQ c _) (.refl c)

theorem confined_ringUse (t : Tenure) (k : Nat) : Confined n ringParts c (c.ringUse t k) :=
  (confined_modArb c _).trans (confined_pmcEvent _ _ _ _)

theorem confined_tenureEnd : Confined n ringParts c (tenureEnd c) := by
  unfold tenureEnd
  split
  · exact .refl c
  · exact (confined_ringUse c _ _).trans (confined_setRingQ _ _)

theorem confined_ringRevoke : Confined n ringParts c (ringRevoke c) := by
  unfold ringRevoke
  split
  · exact .refl c
  · extract_lets k q asked open' c1
    have h1 : Confined n ringParts c c1 := ((confined_ringUse c _ _).trans (confined_modArb _ _)).trans (confined_bump _ _ _ _ _)
    exact .ite ((h1.trans (confined_bump c1 _ _ _ _)).trans (confined_pulse _ _ _)) (.refl c)

theorem confined_overholdBlockEnd (slot part : Nat) : Confined n ringParts c (overholdBlockEnd c slot part) := by
  unfold overholdBlockEnd
  exact .ite ((confined_setRingQ c _).trans (confined_quiet (quiet_ringShow _))) (.refl c)
end

/-! The commands. -/

/-- Settles O59, command by command. -/
theorem twinAndFabricFrames : Obligations.TwinAndFabricFrames :=
  ⟨fun _ _ ch1 => someParts (n := 0) (fun c => confined_chainIn c (confined_chainPathUp · ch1)),
   fun _ _ x item => someParts (n := 0) (fun c => confined_chainIn c (confined_agreeProposal · x item)),
   fun _ _ x => someParts (n := 0) (fun c => confined_chainIn c (confined_agreeAck · x)),
   fun _ _ x => someParts (n := 0) (fun c => confined_chainIn c (confined_agreeCancel · x)),
   fun _ _ x => someParts (n := 0) (confined_agreeAckDeadline · x),
   fun _ _ m => someParts (n := 0) (fun c => confined_chainIn c (confined_timeExchange · m)),
   fun _ _ v => someParts (n := 0) (fun c => confined_chainIn c (confined_healthRx · v)),
   fun _ _ => someParts (n := 0) (fun c => confined_chainIn c (confined_debugHoldRx ·)),
   fun _ _ => someParts (n := 0) (fun c => confined_chainIn c (confined_mgmtFailNotice ·)),
   fun _ _ => someParts (n := 0) (confined_takeoverExpiry ·),
   fun _ _ => someParts (n := 0) (confined_recoveryWindowEnd ·),
   fun _ _ => someParts (n := 0) (confined_joinRestart ·),
   fun _ _ => someParts (n := 0) (confined_traverseSchedule ·),
   fun _ _ => someParts (n := 0) (confined_inserviceSelftest ·),
   fun s _ h => by obtain rfl := Host.Outcome.next.inj h; exact mgmtResume_frame s,
   fun _ _ => someParts (n := 0) (confined_fabHelloSend ·),
   fun _ _ => someParts (n := 0) (confined_lsaFlood ·),
   fun _ _ k f => someParts (n := 0) (confined_transitForward · k f),
   fun _ _ k f => someParts (n := 0) (confined_fabFrameRx · k f),
   fun _ _ h pl => someParts (n := 0) (confined_shareRx · h pl),
   fun _ _ => someParts (n := 0) (confined_shareSend ·),
   fun _ _ h pl => someParts (n := 0) (confined_timeRx · h pl),
   fun _ _ h pl => someParts (n := 0) (confined_ackRx · h pl),
   fun _ _ id => someParts (n := 0) (confined_relRetry · id),
   fun _ _ id => someParts (n := 0) (confined_relFail · id),
   fun _ _ p m => someParts (n := 0) (confined_ptpMessageRx · p m),
   fun _ _ => someParts (n := 0) (confined_ptpSend · _ _ _),
   fun _ _ => someParts (n := 0) (confined_ptpSend · _ _ _),
   fun _ _ => someParts (n := 0) (confined_prpSupervisionSend ·),
   fun _ _ d => someParts (n := 0) (confined_timeLock · d),
   fun _ _ h p q => someParts (n := 0) (confined_quietPropose · h p q),
   fun _ _ h p q => someParts (n := 0) (confined_quietCommit · h p q),
   fun _ _ => someParts (n := 0) (confined_quietAckDeadline ·),
   fun _ _ => someParts (n := 0) (confined_creditWindowStart ·),
   fun _ _ slot part => someParts (n := 0) (confined_backoffEnd · slot part),
   fun _ _ => someParts (n := 0) (confined_tenureEnd ·),
   fun _ _ => someParts (n := 0) (confined_ringRevoke ·),
   fun _ _ slot part => someParts (n := 0) (confined_overholdBlockEnd · slot part),
   fun _ _ part => someParts (n := 0) (fun c => confined_modFab (a := [.fab]) c (fun q => { q with sessAt := mapDel q.sessAt part.val })),
   fun _ _ p => someParts (n := 0) (confined_ptpSlaveLoss · p)⟩

end Sys2Proof.Machine
end

section
/-! SUPPORT. Frames of power, start-up, images and hosts. -/

namespace Sys2Proof.Machine

/-! Components. -/

section
variable {n : Nat} {a : List Comp} (c : Chip)

theorem confined_modHost (f : HostSt → HostSt) (h : [.host] ⊆ a := by decide) : Confined n a c (c.modHost f) := .mono (.of_rest rfl) h

theorem confined_modDbg (f : DbgSt → DbgSt) (h : [.dbg] ⊆ a := by decide) : Confined n a c (c.modDbg f) := .mono (.of_rest rfl) h

theorem confined_modSnap (f : SnapSt → SnapSt) (h : [.snap] ⊆ a := by decide) : Confined n a c (c.modSnap f) := .mono (.of_rest rfl) h

theorem confined_modTgt (g : Tgt) (f : IicSt → IicSt) (h : [.iics] ⊆ a := by decide) : Confined n a c (c.modTgt g f) := .mono (.of_rest rfl) h

theorem confined_modIic (k : Nat) (f : IicSt → IicSt) (h : [.iics] ⊆ a := by decide) : Confined n a c (c.modIic k f) := .mono (.of_rest rfl) h

theorem confined_setWset (k : Nat) (v : WcSet) (h : [.wcap] ⊆ a := by decide) : Confined n a c (c.setWset k v) := .mono (.of_rest rfl) h

theorem confined_modWset (k : Nat) (f : WcSet → WcSet) (h : [.wcap] ⊆ a := by decide) : Confined n a c (c.modWset k f) := confined_setWset c k _ h

theorem confined_reHealth (h : quietParts ⊆ a := by decide) : Confined n a c c.reHealth := confined_putHealth c _ h

/-- A vector that is sent, or that pends. -/
theorem confined_sendVec (v : Nat) (h : [.host, .sent] ⊆ a := by decide) : Confined n a c (c.sendVec v) := by
  refine .mono (a := [.host, .sent]) ?_ h
  unfold Chip.sendVec
  split
  · split
    · exact .mono (a := [.host]) (.of_rest rfl)
    · exact confined_send c _
  · exact .refl c
end

section
variable {n : Nat} (c : Chip)

/-- Entering FENCED changes the twin's unit and Plumb's. -/
theorem confined_enterFenced_twin (cause : Nat) : Confined n (joinParts ++ [.plumb]) c (c.enterFenced cause) := by
  unfold Chip.enterFenced
  extract_lets c1 c2
  have h1 : Confined n (joinParts ++ [.plumb]) c c1 := confined_quiet ((quiet_hw c _ _).trans (quiet_setRole _ true))
  have h2 : Confined n (joinParts ++ [.plumb]) c c2 := (h1.trans (confined_modPlumb c1 _)).trans (confined_send _ _)
  have window : Confined n (joinParts ++ [.plumb]) c (c2.pulse pgTWIN 3).openRecovery :=
    ((h2.trans (confined_pulse c2 _ _)).trans (confined_up _ _ _ _ _)).trans (confined_arm _ _ _)
  exact .ite (confined_quiet ((quiet_up c _ _ _ _).trans (quiet_reFlt _)))
    (((window.trans (confined_disarm _ _)).trans (confined_modTwin _ _)).trans (confined_quiet (quiet_reFlt _)))

/-! The fabric is joined (R93, R389). -/

/-- What judging the planes changes. -/
abbrev planeParts : List Comp := raiseParts ++ [.fab]

theorem confined_markGone (p : Plane) : Confined n planeParts c (c.markGone p) := confined_modFab c _

theorem confined_planeJudge : Confined n planeParts c c.planeJudge := by
  unfold Chip.planeJudge
  extract_lets one c1 alone had c2
  have judge (p : Plane) (c : Chip) : Confined n planeParts c (one p c) := by
    unfold one
    extract_lets d st d1 down had d2 d3
    have h : Confined n planeParts c d := confined_markGone c p
    have h1 : Confined n planeParts c d1 := .ite h (h.trans (confined_up d _ _ _ _))
    have h2 : Confined n planeParts c d2 := h1.trans (confined_level d1 _ _ _)
    have h3 : Confined n planeParts c d3 := .ite h2 (h2.trans (confined_ptpSlaveLoss d2 p).mono)
    exact .ite (.refl c) (.ite (h3.trans (confined_raise d3 _ _ _).mono) h3)
  have h1 : Confined n planeParts c c1 := (judge .a c).trans (judge .b _)
  have alone' : Quiet c1 c2 := (Quiet.ite (.refl c1) (quiet_up c1 _ _ _ _)).trans (quiet_level _ _ _ _)
  have h2 : Confined n planeParts c c2 := h1.trans (confined_quiet alone')
  exact .ite (h2.trans (confined_raise c2 _ _ _).mono) h2

theorem quiet_fpShow (fec : Nat → Bool) : Quiet c (c.fpShow fec) := by
  unfold Chip.fpShow
  exact .ite (.refl c) (quiet_up c _ _ _ _)

theorem confined_fabStart : Confined n planeParts c c.fabStart := by
  unfold Chip.fabStart
  extract_lets c0
  have h0 : Confined n planeParts c c0 := .foldc (fun _ c => confined_modFab c _) c
  exact (((h0.trans (confined_quiet (quiet_fpShow c0 _))).trans (confined_planeJudge _)).trans (confined_arm _ _ _)).trans (confined_arm _ _ _)

/-! Discovery begins at a port that is enabled (R133, R136). -/

/-- What discovery of a port changes. -/
abbrev discParts : List Comp := phaseParts ++ [.fbk, .freeCtr, .feeders]

theorem confined_phLost (p : Nat) : Confined p discParts c (c.phLost p) := by
  unfold Chip.phLost
  exact .ite (.refl c) ((confined_phSet c p 6).mono.trans (confined_disarm _ _))

theorem confined_fdDrop (p : Nat) : Confined p discParts c (c.fdDrop p) := by
  unfold Chip.fdDrop
  extract_lets c1 c2
  have h1 : Confined p discParts c c1 := confined_quiet (.ite ((quiet_hw c _ _).trans (quiet_countContracts _)) (.refl c))
  have h2 : Confined p discParts c c2 := h1.trans (confined_modFd c1 _ _)
  exact (h2.trans (confined_disarm c2 _)).trans (confined_disarm _ _)

theorem confined_fdOff (p : Nat) : Confined p discParts c (c.fdOff p) := by
  unfold Chip.fdOff
  exact .ite (.refl c) (((confined_fdDrop c p).trans (confined_fdSet _ 0).mono).trans (confined_modPort _ _))

theorem confined_setLink (p v : Nat) : Confined p discParts c (c.setLink p v) := by
  unfold Chip.setLink
  extract_lets was c1 c2
  have h1 : Confined p discParts c c1 := confined_quiet ((Quiet.ite (.refl c) (quiet_up c _ _ _ _)).trans (quiet_level _ _ _ _))
  have started : Confined p discParts c1 (if c1.ph p = 6 then c1.phStart p else c1) := .ite (confined_phStart c1 p).mono (.refl c1)
  have h2 : Confined p discParts c c2 := (h1.trans started).trans (confined_reHealth _)
  have lost := ((h1.trans (confined_phLost c1 p)).trans (confined_fdOff _ p)).trans (confined_reHealth _)
  exact .ite lost (.ite (.ite (h2.trans (confined_proposeAt c2 p _ _)) h2) h1)

theorem confined_discStart (p : Nat) : Confined p discParts c (c.discStart p) := by
  have fresh : Confined p discParts c (((c.modPort p (fun t => { t with attempts := 0 })).up R.SP_TYPE_VALID (pgSP p) 0).disarm (tmKey tmDiscRetry p)) :=
    ((confined_modPort c _).trans (confined_up _ _ _ _ _)).trans (confined_disarm _ _)
  have cleared (d : Chip) : Confined p discParts d (d.discClear p) :=
    ((confined_modPort d _).trans (confined_disarm _ _)).trans (confined_disarm _ _)
  exact ((fresh.trans (cleared _)).trans (confined_setLink _ p lkAlign)).trans (confined_arm _ _ _)

theorem confined_portOn (p : Nat) : Confined p discParts c (c.portOn p) := by
  unfold Chip.portOn
  extract_lets c1
  have h1 : Confined p discParts c c1 := confined_modPort c _
  exact .ite (h1.trans (confined_discStart c1 p)) h1

/-- What start step 4 changes. -/
abbrev loadParts : List Comp := discParts ++ [.engines, .otherPorts, .otherStages, .otherEngines]

theorem confined_enablePage (b : Nat) : Confined n loadParts c (c.enablePage b) := by
  unfold Chip.enablePage
  extract_lets c1
  have h1 : Confined n loadParts c c1 := confined_wr c _ _ _ _
  refine Confined.trans ?_ (confined_quiet (quiet_reIrq _ _ _))
  split
  · rename_i p _
    exact .ite h1 ((h1.trans (confined_quiet (quiet_seqInc c1 b))).trans (confined_portOn _ p).any.mono)
  · exact h1
  · exact h1

/-! The kernel swap (R181, R500). -/

/-- What the swap of kernels changes. -/
abbrev swapParts : List Comp := quietParts ++ [.twin, .engines, .fwu, .otherEngines]

theorem confined_takeBank (e k : Nat) : Confined n swapParts c (c.takeBank e k) := (confined_modEng_any c e _).trans (confined_hw _ _ _)

theorem confined_swapFinish : Confined n swapParts c c.swapFinish := by
  unfold Chip.swapFinish
  extract_lets nb es c1 c2
  have h1 : Confined n swapParts c c1 := .foldc (fun e c => (confined_takeBank c e nb).trans (confined_pulse _ _ _)) c
  have h2 : Confined n swapParts c c2 := (h1.trans (confined_quiet (quiet_swapBusy c1 false))).trans (confined_modFwu _ _)
  exact h2.trans (confined_quiet (((quiet_up c2 _ _ _ _).trans (quiet_reBusy _)).trans (quiet_fwuOp _ 5)))

theorem confined_swapUndone : Confined n swapParts c c.swapUndone := by
  unfold Chip.swapUndone
  extract_lets c1
  have h1 : Confined n swapParts c c1 := (confined_quiet (quiet_swapBusy c false)).trans (confined_modFwu _ _)
  exact h1.trans (confined_quiet ((quiet_fwuOp c1 0).trans (quiet_pulse _ _ _)))

theorem confined_swapJudge : Confined n swapParts c c.swapJudge := by
  unfold Chip.swapJudge
  extract_lets c1
  have h1 : Confined n swapParts c c1 := confined_quiet (quiet_showSwapped c)
  exact .ite (.ite (h1.trans (confined_swapUndone c1)) h1) (.ite (h1.trans (confined_swapFinish c1)) h1)

theorem confined_moveLaw (e s : Nat) : Confined n swapParts c (c.moveLaw e s) := by
  unfold Chip.moveLaw
  extract_lets f toggle c1 away c2
  have h1 : Confined n swapParts c c1 := (confined_modEng_any c e _).trans (confined_modFwu _ _)
  have h2 : Confined n swapParts c c2 := .ite ((h1.trans (confined_takeBank c1 e _)).trans (confined_pulse _ _ _)) h1
  exact h2.trans (confined_swapJudge c2)

/-! The endpoint (R466, R469, R473). -/

/-- What the end of a DMA transfer changes. -/
abbrev dmaParts : List Comp := quietParts ++ [.freeCtr]

theorem confined_dmaCut (k err : Nat) : Confined n dmaParts c (c.dmaCut k err) :=
  have ended (d : Chip) (bytes : Nat) : Confined n dmaParts d (d.dmaEnd k err bytes) :=
    confined_quiet (((quiet_hw d _ _).trans (quiet_pulse _ _ _)).trans (quiet_reBusy _))
  (confined_free c).trans (ended _ _)

theorem confined_dmaHostGone : Confined n dmaParts c c.dmaHostGone := .foldc (fun k c => .ite (confined_dmaCut c k 2) (.refl c)) c

theorem confined_pcieDown : Confined n dmaParts c c.pcieDown := by
  unfold Chip.pcieDown
  extract_lets c1
  have h1 : Confined n dmaParts c c1 := .ite (confined_hw c _ _) (.refl c)
  exact h1.trans (confined_dmaHostGone c1)

theorem confined_msixFlush (v : Nat) : Confined n [.host, .sent] c (c.msixFlush v) := by
  unfold Chip.msixFlush
  split
  · exact .ite ((confined_modHost c _).trans (confined_send _ _)) (.refl c)
  · exact .refl c

/-- A halt that waited takes effect. -/
theorem confined_lateHalt : Confined n (quietParts ++ [.plumb]) c c.lateHalt := by
  unfold Chip.lateHalt
  exact .ite (((confined_modPlumb c _).trans (confined_up _ _ _ _ _)).trans (confined_send _ _)) (.refl c)
end

end Sys2Proof.Machine
end

section
/-! PROOFS. Commands of records, capture, images, hosts, power and debug change only their own units (R448, R459, R494, R509, R511). -/

namespace Sys2Proof.Machine

/-! Power, clocks and start-up. -/

section
variable {n : Nat} (c : Chip)

theorem confined_abortsClear : Confined n (quietParts ++ [.timers]) c (abortsClear c) := by
  unfold abortsClear
  extract_lets c1
  have h1 : Confined n (quietParts ++ [.timers]) c c1 := confined_disarm c _
  exact .ite (.ite h1 (h1.trans (confined_up c1 _ _ _ _))) (.refl c)

theorem confined_pllLock (i : Nat) : Confined n (quietParts ++ [.timers, .plumb]) c (pllLock c i) := by
  unfold pllLock
  extract_lets c1
  have h1 : Confined n (quietParts ++ [.timers, .plumb]) c c1 := (confined_disarm c _).trans (confined_modPlumb _ _)
  exact .ite (.ite (h1.trans (confined_up c1 _ _ _ _)) h1) (.refl c)

theorem confined_pllRetry (i : Nat) : Confined n [.timers, .plumb] c (pllRetry c i) := by
  unfold pllRetry
  exact .ite (((confined_disarm c _).trans (confined_modPlumb _ _)).trans (confined_arm _ _ _)) (.refl c)

theorem confined_ceKernelLoad : Confined n loadParts c (ceKernelLoad c) := by
  unfold ceKernelLoad
  extract_lets ver img c1 c2 c3 c4
  have h1 : Confined n loadParts c c1 := .foldc (fun e c => (confined_modEng_any c e _).trans (confined_up _ _ _ _ _)) c
  have h2 : Confined n loadParts c c2 := h1.trans (.foldc (fun _ c => confined_hw c _ _) c1)
  have h3 : Confined n loadParts c c3 := h2.trans (.foldc (fun b c => confined_enablePage c b) c2)
  have h4 : Confined n loadParts c c4 := h3.trans (confined_hw c3 _ _)
  exact .ite (.refl c) ((h4.trans (confined_quiet (quiet_setStep c4 4))).trans (confined_reHealth _))

theorem confined_stageDiscoveryDone : Confined n joinParts c (stageDiscoveryDone c) := by
  unfold stageDiscoveryDone
  exact .ite ((((confined_quiet (quiet_setStep c 5)).trans (confined_disarm _ _)).trans (confined_modTwin _ _)).trans (confined_arm _ _ _)) (.refl c)

theorem confined_fabricJoin : Confined n planeParts c (fabricJoin c) := by
  unfold fabricJoin
  extract_lets c1
  have h1 : Confined n planeParts c c1 := confined_quiet (quiet_setStep c 7)
  exact .ite (.ite (h1.trans (confined_fabStart c1)) h1) (.refl c)

theorem confined_xtalDetect (run : Bool) : Confined n quietParts c (xtalDetect c run) := by
  unfold xtalDetect
  extract_lets src
  exact .ite (.refl c) ((confined_hw c _ _).trans (confined_pulse _ _ _))

theorem confined_adcRefresh (a : AdcRead) (rcErr : Word) : Confined n (quietParts ++ [.plumb]) c (adcRefresh c a rcErr) := by
  unfold adcRefresh
  exact .ite (((confined_hw c _ _).trans (confined_up _ _ _ _ _)).trans (confined_modPlumb _ _)) (.refl c)

theorem confined_hibRecordWrite : Confined n [.timers, .mram] c (hibRecordWrite c) := by
  unfold hibRecordWrite
  exact .ite ((confined_modMram c _).trans (confined_arm _ _ _)) (.refl c)

theorem confined_resetNRelease : Confined n [.plumb] c (resetNRelease c) := by
  unfold resetNRelease
  exact .ite (confined_modPlumb c _) (.refl c)

/-! A failed MGMT and the watchdog. -/

theorem confined_mgmtFailAck : Confined n (joinParts ++ [.plumb]) c (mgmtFailAck c) := by
  unfold mgmtFailAck
  extract_lets c0 c1
  have h0 : Confined n (joinParts ++ [.plumb]) c c0 := confined_hear c
  have h1 : Confined n (joinParts ++ [.plumb]) c c1 := (h0.trans (confined_disarm c0 _)).trans (confined_modPlumb _ _)
  exact .ite ((h1.trans (confined_enterFenced_twin c1 1)).trans (confined_arm _ _ _)) h0

theorem confined_mgmtFailTimeout : Confined n (quietParts ++ [.timers, .plumb]) c (mgmtFailTimeout c) := by
  unfold mgmtFailTimeout
  extract_lets c1
  have h1 : Confined n (quietParts ++ [.timers, .plumb]) c c1 := (confined_disarm c _).trans (confined_modPlumb _ _)
  have role : Quiet c1 (if c1.rd R.TWIN_STATE pgTWIN = 4 then c1 else c1.setRole false) := .ite (.refl c1) (quiet_setRole c1 false)
  exact .ite (h1.trans (confined_quiet (role.trans (quiet_reFlt _)))) (.refl c)

theorem confined_watchdogService : Confined n [.timers] c (watchdogService c) := by
  unfold watchdogService
  exact .ite (.refl c) (confined_arm c _ _)

theorem confined_watchdogExpiry : Confined n (quietParts ++ [.timers, .plumb, .mram]) c (watchdogExpiry c) := by
  unfold watchdogExpiry
  extract_lets c1
  have h1 : Confined n (quietParts ++ [.timers, .plumb, .mram]) c c1 := (confined_modPlumb c _).trans (confined_modMram _ _)
  exact .ite (.refl c) (((h1.trans (confined_disarm c1 _)).trans (confined_arm _ _ _)).trans (confined_quiet (quiet_reFlt _)))
end

/-! Records and capture. -/

section
variable {n : Nat} (c : Chip)

theorem confined_countDrop_book {a : List Comp} (r : FbRec) (h : quietParts ++ [.fbk] ⊆ a := by decide) : Confined n a c (c.countDrop r) :=
  .mono (a := quietParts ++ [.fbk]) (((confined_bump c _ _ _ _).trans (confined_modFbk _ _)).trans (confined_pulse _ _ _)) h

theorem confined_recordWrite : Confined n (quietParts ++ [.plumb, .fbk]) c (recordWrite c) := by
  unfold recordWrite
  split
  · exact .refl c
  · extract_lets c0 c1 r m
    have h0 : Confined n (quietParts ++ [.plumb, .fbk]) c c0 := (confined_modFbk c _).trans (confined_up _ _ _ _ _)
    have ended (d : Chip) (q : FbRec) : Confined n (quietParts ++ [.plumb, .fbk]) d (d.s3Recorded q) := .ite (confined_modPlumb d _) (.refl d)
    have h1 : Confined n (quietParts ++ [.plumb, .fbk]) c c1 := (h0.trans (confined_level c0 _ _ _)).trans (ended _ _)
    refine .ite (.refl c) ?_
    split
    · exact h1.trans (confined_countDrop_book c1 _)
    · extract_lets c2 c3
      have h2 : Confined n (quietParts ++ [.plumb, .fbk]) c c2 := h1.trans (confined_modFbk c1 _)
      have h3 : Confined n (quietParts ++ [.plumb, .fbk]) c c3 := by
        unfold c3
        split
        · exact h2.trans (confined_modFbk c2 _)
        · exact h2
      exact h3.trans (confined_quiet (quiet_fbShow c3))

theorem confined_eraseDone : Confined n (recordParts ++ [.mram]) c (eraseDone c) := by
  unfold eraseDone
  extract_lets k h c1
  have h1 : Confined n (recordParts ++ [.mram]) c c1 := (confined_modFbk c _).trans (confined_modMram _ _)
  exact .ite (.refl c) ((h1.trans (confined_quiet (quiet_fbShow c1))).trans (confined_record_book _ _ _ _ _ _ _).mono)

theorem confined_wcTrigger (k : Nat) : Confined n quietParts c (c.wcTrigger k) := by
  unfold Chip.wcTrigger
  exact .ite (.ite (confined_setWset c k _) (.refl c)) (.ite (confined_bump c _ _ _ _) (.refl c))

theorem confined_wcTrigEvent (k : Nat) : Confined n quietParts c (wcTrigEvent c k) := by
  unfold wcTrigEvent
  exact .ite ((confined_modWset c k _).trans (confined_wcTrigger _ k)) (.refl c)

theorem confined_wcPostEnd (k : Nat) : Confined n recordParts c (wcPostEnd c k) := by
  unfold wcPostEnd
  exact .ite (((confined_up c _ _ _ _).trans (confined_pulse _ _ _)).trans (confined_record_book _ _ _ _ _ _ _)) (.refl c)

theorem confined_wcFlushStart (k : Nat) : Confined n quietParts c (wcFlushStart c k) := by
  unfold wcFlushStart
  exact .ite (((confined_modWset c k _).trans (confined_up _ _ _ _ _)).trans (confined_quiet (quiet_reBusy _))) (.refl c)

theorem confined_wcFlushFail (k : Nat) : Confined n quietParts c (wcFlushFail c k) := by
  unfold wcFlushFail
  exact .ite ((((confined_up c _ _ _ _).trans (confined_quiet (quiet_reBusy _))).trans (confined_bump _ _ _ _ _)).trans (confined_pulse _ _ _))
    (.refl c)
end

/-! Images. -/

section
variable {n : Nat} (c : Chip)

theorem confined_kernelSwapLaw (e : Engine) (s : TSlot) : Confined n swapParts c (kernelSwapLaw c e s) := by
  unfold kernelSwapLaw
  extract_lets f
  refine .ite (.refl c) (.ite (.refl c) ?_)
  split
  · exact confined_swapJudge c
  · exact .ite (.refl c) (.ite (.ite (.refl c) (confined_proposeAt c n _ _)) (.ite (confined_moveLaw c _ _) (.refl c)))

/-- What a pause and a settle of an activation change. -/
abbrev pauseParts : List Comp := quietParts ++ [.timers, .fwu]

theorem confined_activationPause : Confined n pauseParts c (activationPause c) := by
  unfold activationPause
  extract_lets f c1
  have h1 : Confined n pauseParts c c1 := confined_modFwu c _
  exact .ite ((h1.trans (confined_arm c1 _ _)).trans (confined_quiet ((quiet_fwuOp _ 3).trans (quiet_pulse _ _ _)))) (.refl c)

theorem confined_resumeTimeout : Confined n pauseParts c (resumeTimeout c) := by
  unfold resumeTimeout
  extract_lets c1
  have h1 : Confined n pauseParts c c1 := confined_modFwu c _
  exact .ite ((h1.trans (confined_arm c1 _ _)).trans (confined_quiet ((quiet_fwuOp _ 7).trans (quiet_pulse _ _ _)))) (.refl c)

theorem confined_settleEnd : Confined n pauseParts c (settleEnd c) := by
  unfold settleEnd
  extract_lets last c1 c2
  have h1 : Confined n pauseParts c c1 := (confined_disarm c _).trans (confined_modFwu _ _)
  have h2 : Confined n pauseParts c c2 := h1.trans (confined_quiet (((quiet_reBusy c1).trans (quiet_fwuOp _ 5)).trans (quiet_tellTurn _ true)))
  exact .ite (.refl c) (.ite ((h2.trans (confined_up c2 _ _ _ _)).trans (confined_pulse _ _ _)) h2)

/-- What the end of a copy into ACTIVE changes. -/
abbrev copyParts : List Comp := quietParts ++ [.mram, .flash, .fwu]

theorem confined_activeCopyDone : Confined n copyParts c (activeCopyDone c) := by
  unfold activeCopyDone
  extract_lets ts new c1 c2 c3
  have h2 : Confined n copyParts c c2 := ((confined_modFlash c _).trans (confined_modFwu c1 _)).trans (confined_modMram _ _)
  have h3 : Confined n copyParts c c3 := h2.trans (confined_quiet ((quiet_fwuShow c2).trans (quiet_reBusy _)))
  exact .ite (.refl c) (.ite (h3.trans (confined_quiet (quiet_fwuEnd c3 0))) (h3.trans (confined_quiet (quiet_fwuOp c3 0))))
end

/-! Hosts, two-wire targets and the debug port. -/

section
variable {n : Nat} (c : Chip)

theorem confined_pciePerst : Confined n dmaParts c (pciePerst c) := by
  unfold pciePerst
  extract_lets c1 c2
  have h1 : Confined n dmaParts c c1 := confined_pcieDown c
  have h2 : Confined n dmaParts c c2 := .ite (h1.trans (confined_hw c1 _ _)) h1
  exact h2.trans (confined_modHost c2 _)

theorem confined_pcieLinkUp (width speed : Nat) : Confined n quietParts c (pcieLinkUp c width speed) := by
  unfold pcieLinkUp
  extract_lets c1
  have h1 : Confined n quietParts c c1 := (confined_modHost c _).trans (confined_hw _ _ _)
  exact .ite (h1.trans (.foldc (fun v c => (confined_msixFlush c v).mono) c1)) (.refl c)

theorem confined_pcieConfigWrite (d3 bme : Bool) : Confined n dmaParts c (pcieConfigWrite c d3 bme) := by
  unfold pcieConfigWrite
  extract_lets c1 c2
  have h1 : Confined n dmaParts c c1 := .ite (.refl c) (confined_hw c _ _)
  have h2 : Confined n dmaParts c c2 := .ite (h1.trans (confined_dmaHostGone c1)) h1
  exact .ite (.refl c) (h2.trans (.foldc (fun v c => (confined_msixFlush c v).mono) c2))

theorem confined_msixVectorUnmask (v : Nat) : Confined n [.host, .sent] c (msixVectorUnmask c v) := by
  unfold msixVectorUnmask
  exact .ite ((confined_modHost c _).trans (confined_msixFlush _ v)) (.refl c)

theorem confined_mbDoorbell (value cmd : Nat) (payload : Bytes) : Confined n [.host] c (mbDoorbell c value cmd payload) := by
  unfold mbDoorbell
  exact .ite (confined_modHost c _) (.refl c)

theorem confined_mailboxCompletion : Confined n quietParts c (mailboxCompletion c) := by
  unfold mailboxCompletion
  split
  · exact .refl c
  · extract_lets fin
    have ends (code : Nat) (rsp : Bytes) : Confined n quietParts c (fin code rsp) := (confined_modHost c _).trans (confined_sendVec _ 54)
    refine .ite (.refl c) (.ite (.ite (.refl c) (ends _ _)) ?_)
    split
    · exact ends _ _
    · exact .refl c

theorem confined_iicSclTimeout (g : Tgt) : Confined n (quietParts ++ [.iics]) c (iicSclTimeout c g) := by
  unfold iicSclTimeout
  exact .ite ((confined_modTgt c g _).trans (confined_bump _ _ _ _ _)) (.refl c)

theorem confined_iic2StretchEnd (clock : Bool) : Confined n (quietParts ++ [.timers, .iics]) c (iic2StretchEnd c clock) := by
  unfold iic2StretchEnd
  extract_lets c1
  have h1 : Confined n (quietParts ++ [.timers, .iics]) c c1 := (confined_modIic c 1 _).trans (confined_disarm _ _)
  exact .ite (.refl c) (.ite h1 (h1.trans (confined_bump c1 _ _ _ _)))

theorem confined_iic1Done (err : Nat) (rx : Bytes) : Confined n quietParts c (iic1Done c err rx) := by
  unfold iic1Done
  extract_lets t k us c1 c2
  have h1 : Confined n quietParts c c1 := (confined_hw c _ _).trans (confined_bump _ _ _ _ _)
  have h2 : Confined n quietParts c c2 := .ite (h1.trans (confined_bump c1 _ _ _ _)) h1
  exact .ite (.refl c) (.ite ((confined_up c _ _ _ _).trans (confined_send _ _)) (h2.trans (confined_pulse c2 _ _)))

theorem confined_snapTake : Confined n [.snap] c (snapTake c) := by
  unfold snapTake
  exact .ite (confined_modSnap c _) (.refl c)

theorem confined_snapDone : Confined n (quietParts ++ [.snap]) c (snapDone c) := by
  unfold snapDone
  extract_lets d c1
  have h1 : Confined n (quietParts ++ [.snap]) c c1 := (confined_modSnap c _).trans (confined_bump _ _ _ _ _)
  exact .ite ((h1.trans (confined_hw c1 _ _)).trans (confined_pulse _ _ _)) (.refl c)

theorem confined_dbgChallenge (nonce : Bytes) : Confined n [.dbg, .sent] c (dbgChallenge c nonce) := by
  unfold dbgChallenge
  extract_lets ch
  exact .ite ((confined_modDbg c _).trans (confined_send _ _)) (.refl c)

theorem confined_dbgResponse (sig : Bytes) : Confined n (quietParts ++ [.dbg]) c (dbgResponse c sig) := by
  unfold dbgResponse
  split
  · exact .refl c
  · extract_lets c1
    have h1 : Confined n (quietParts ++ [.dbg]) c c1 := confined_modDbg c _
    exact .ite (.refl c) (.ite (h1.trans (confined_up c1 _ _ _ _)) (h1.trans (confined_modDbg c1 _)))

theorem confined_dbgHalt : Confined n (quietParts ++ [.plumb]) c (dbgHalt c) := by
  unfold dbgHalt
  extract_lets c1
  have h1 : Confined n (quietParts ++ [.plumb]) c c1 := confined_modPlumb c _
  exact .ite (.refl c) (.ite h1 (h1.trans (confined_lateHalt c1)))

theorem confined_dbgStep : Confined n [.dbg] c (dbgStep c) := by
  unfold dbgStep
  exact .ite (confined_modDbg c _) (.refl c)

theorem confined_extest (pins : Bytes) : Confined n [.dbg] c (extest c pins) := by
  unfold extest
  exact .ite (.refl c) (confined_modDbg c _)
end

/-- A debugger that resumes MGMT changes what MGMT that goes on changes. -/
theorem dbgResume_frame (s : State) : dbgResume s = { s with mem := (dbgResume s).mem, chip := s.chip.take resumeParts (dbgResume s).chip } := by
  unfold dbgResume
  split
  · exact (mgmtResume_frame (s.onChip (fun c => c.modPlumb (fun p => { p with haltReq := false })))).trans rfl
  · rfl

/-! The commands. -/

/-- Settles O60, command by command. -/
theorem platformFrames : Obligations.PlatformFrames :=
  ⟨fun _ _ => someParts (n := 0) (confined_abortsClear ·),
   fun _ _ i => someParts (n := 0) (confined_pllLock · i),
   fun _ _ i => someParts (n := 0) (confined_pllRetry · i),
   fun _ _ => someParts (n := 0) (confined_ceKernelLoad ·),
   fun _ _ => someParts (n := 0) (confined_stageDiscoveryDone ·),
   fun _ _ => someParts (n := 0) (confined_fabricJoin ·),
   fun _ _ run => someParts (n := 0) (confined_xtalDetect · run),
   fun _ _ a rcErr => someParts (n := 0) (confined_adcRefresh · a rcErr),
   fun _ _ e k => someParts (n := 0) (confined_kernelSwapLaw · e k),
   fun _ _ => someParts (n := 0) (confined_hibRecordWrite ·),
   fun _ _ => someParts (n := 0) (confined_mgmtFailAck ·),
   fun _ _ => someParts (n := 0) (confined_mgmtFailTimeout ·),
   fun _ _ => someParts (n := 0) (confined_watchdogService ·),
   fun _ _ => someParts (n := 0) (confined_watchdogExpiry ·),
   fun _ _ code source sev part payload => someParts (n := 0) (confined_record_book · code source sev.val part.val payload (shelfCode code)),
   fun _ _ => someParts (n := 0) (confined_recordWrite ·),
   fun _ _ => someParts (n := 0) (confined_eraseDone ·),
   fun _ _ k => someParts (n := 0) (confined_wcTrigEvent · k),
   fun _ _ k => someParts (n := 0) (confined_wcPostEnd · k),
   fun _ _ k => someParts (n := 0) (confined_wcFlushStart · k),
   fun _ _ k => someParts (n := 0) (confined_wcFlushFail · k),
   fun _ _ => someParts (n := 0) (confined_pciePerst ·),
   fun _ _ v k b => someParts (n := 0) (confined_mbDoorbell · v.toNat k b),
   fun _ _ => someParts (n := 0) (confined_activationPause ·),
   fun _ _ => someParts (n := 0) (confined_settleEnd ·),
   fun _ _ g => someParts (n := 0) (confined_iicSclTimeout · g),
   fun _ _ clock => someParts (n := 0) (confined_iic2StretchEnd · clock),
   fun _ _ err rx => someParts (n := 0) (confined_iic1Done · err rx),
   fun _ _ => someParts (n := 0) (confined_snapTake ·),
   fun _ _ => someParts (n := 0) (confined_snapDone ·),
   fun _ _ nonce => someParts (n := 0) (confined_dbgChallenge · nonce),
   fun _ _ sig => someParts (n := 0) (confined_dbgResponse · sig),
   fun _ _ => someParts (n := 0) (confined_dbgHalt ·),
   fun _ _ => someParts (n := 0) (confined_dbgStep ·),
   fun s _ h => by obtain rfl := Host.Outcome.next.inj h; exact dbgResume_frame s,
   fun _ _ => someParts (n := 0) (confined_resetNRelease ·),
   fun _ _ width speed => someParts (n := 0) (confined_pcieLinkUp · width speed),
   fun _ _ => someParts (n := 0) (confined_pcieDown ·),
   fun _ _ d3 bme => someParts (n := 0) (confined_pcieConfigWrite · d3 bme),
   fun _ _ v => someParts (n := 0) (confined_msixVectorUnmask · v),
   fun _ _ => someParts (n := 0) (confined_mailboxCompletion ·),
   fun _ _ => someParts (n := 0) (confined_activeCopyDone ·),
   fun _ _ => someParts (n := 0) (confined_resumeTimeout ·),
   fun _ _ pins => someParts (n := 0) (confined_extest · pins)⟩

end Sys2Proof.Machine
end

section
/-! PROOFS. Clauses of the fabric, the ring and the hosts that fail: frames without power, fields out of their widths, and a tenure that is
still to begin at the start of a window (R57, R376, R390, R393, R413, R480). -/

namespace Sys2Proof.Machine

/-! A frame in transit (R376). -/

/-- Two UP ports of plane A on a chip whose main rails are off. -/
def unpoweredState : State :=
  { State.reset with
    chip := { regs := [(fldKey R.FAB_EN pgFAB 0, 1)], fab := { portUp := [2, 2, 0, 0] } } }

/-- A message of class 1 that is for another domain. -/
def transitHdr : SurveyHdr :=
  { ver := 1, cls := 1, sub := 0, rel := false, lead := false, domain := 1, hops := 1, src := 0, dstNode := 0, dstTwin := false,
    station := false, bcast := true, msgId := 0, incarn := 0, part := 0, len := 0, stamp := 0 }

/-- Refutes O15: its ninth clause has a frame in transit leave by the other UP port. In `unpoweredState` the bank of the fabric pins has no
power (R57), and nothing is sent. -/
theorem not_fabricDiscoveryActs : ¬ Obligations.FabricDiscoveryActs := by
  rintro ⟨-, -, -, -, -, -, -, -, transit, -⟩
  obtain ⟨t, ht, sent, -⟩ := transit unpoweredState 0 ⟨0x88B5, false, 0, 0, true, transitHdr, []⟩ (by decide +kernel) (by decide +kernel)
    rfl rfl (.inl (by decide)) (.inr rfl) (by decide) (by decide +kernel)
  obtain rfl := Host.Outcome.next.inj ht
  have none : (unpoweredState.onChip (fun c => transitForward c 0 ⟨0x88B5, false, 0, 0, true, transitHdr, []⟩)).chip.sent.length = 0 := by
    decide +kernel
  have one := congrArg List.length sent
  rw [List.length_append, List.length_map, List.length_reverse] at one
  have other : ((unpoweredState.chip.fabPorts (fpPlane 0)).filter (· != 0)).length = 1 := by decide +kernel
  exact absurd ((other.symm.trans_le (Nat.le_add_right _ _)).trans (one.symm.trans none).le) (by decide)

/-! The election of a grandmaster (R390). -/

/-- A candidate in SOLO whose FAB_GM, a field of one bit, stands as 2. -/
def wideGmState : State :=
  { State.reset with
    chip := { regs := [(fldKey R.FAB_EN pgFAB 0, 1), (fldKey R.FAB_GM_CAND pgFAB 0, 1), (fldKey R.FAB_GM pgFAB 0, 2), (fldKey R.TWIN_STATE pgTWIN 0, 1)] } }

/-- Refutes O17: its third clause has FAB_GM read 1 at a candidate that is elected. In `wideGmState` the field is set already, though not as
1, and it is written only where it changes between clear and set. -/
theorem not_fabricTimeMessagesAct : ¬ Obligations.FabricTimeMessagesAct := by
  rintro ⟨-, -, elected, -⟩
  obtain ⟨t, ht, gm, -⟩ := elected wideGmState .a true (by decide +kernel) (by decide +kernel)
  obtain rfl := Host.Outcome.next.inj ht
  exact absurd gm (by decide +kernel)

/-! A proposal of QUIET (R393). -/

/-- A station of GRID 0 whose TWIN_ID, a field of one bit, stands as 2, so that its own number is 2. -/
def wideTwinState : State :=
  { State.reset with
    chip := { regs := [(fldKey R.FAB_EN pgFAB 0, 1), (fldKey R.FAB_PLANE_B pgFAB 0, 2), (fldKey R.SYS_TWIN_ID pgSYS 0, 2)] } }

/-- A proposal of station 2 to all of the domain. -/
def proposalHdr : SurveyHdr := { transitHdr with cls := 0, sub := 3, domain := 0, src := 2 }

/-- Refutes O18: its first clause has a proposal of another node held. In `wideTwinState` the number of the proposing station, which is of
another GRID, is the chip's own number, and a station does not take its own proposal. -/
theorem not_fabricTimeAndQuietAct : ¬ Obligations.FabricTimeAndQuietAct := by
  rintro ⟨held, -⟩
  obtain ⟨t, ht, quiet, -⟩ := held wideTwinState proposalHdr .a 0 (by decide +kernel) (by decide +kernel) (by decide +kernel) (by decide +kernel)
  obtain rfl := Host.Outcome.next.inj ht
  exact absurd quiet (by decide +kernel)

/-! The start of a credit window (R413). -/

/-- At instant 0 a window begins, and the tenure that is granted begins two ring cycles later. -/
def earlyWindowState : State :=
  { State.reset with
    chip := { arb := { tenure := some { slot := 0, part := 0, beats := 4, start := 16, began := 16, tier1 := true } } } }

/-- Refutes O19: its first clause has the tenure in progress go on from the start of the window. In `earlyWindowState` the tenure is still to
begin, and keeps its later start. -/
theorem not_ringCommandsAct : ¬ Obligations.RingCommandsAct := by
  rintro ⟨window, -⟩
  obtain ⟨t, ht, -, -, tenure⟩ := window earlyWindowState (by decide +kernel) (by decide +kernel)
  obtain rfl := Host.Outcome.next.inj ht
  have start := congrArg (Option.map Tenure.start) tenure
  exact absurd start (by decide +kernel)

/-! A retry of IIC1 (R480). -/

/-- A transaction of IIC1 in its seventh attempt, with a RETRY, a field of three bits, that stands as 8. -/
def wideRetryState : State :=
  { State.reset with
    chip := { regs := [(fldKey R.IIC_BUSY pgIIC1 0, 1), (fldKey R.IIC_TRIES pgIIC1 0, 7), (fldKey R.IIC_RETRY pgIIC1 0, 8)] } }

/-- Refutes O30: its eighth clause has TRIES count every attempt below RETRY. In `wideRetryState` the eighth attempt does not fit TRIES, which
falls to 0. -/
theorem not_hostInterfaceCommandsAct : ¬ Obligations.HostInterfaceCommandsAct := by
  rintro ⟨-, -, -, -, -, -, -, retry, -⟩
  obtain ⟨t, ht, tries, -⟩ := retry wideRetryState 1 [] (by decide +kernel) (.inl rfl) (by decide +kernel)
  obtain rfl := Host.Outcome.next.inj ht
  exact absurd tries (by decide +kernel)

end Sys2Proof.Machine
end

section
/-! SUPPORT. MGMT goes on after a halt: the registers of TWIN that joining again and CONFIG leave standing (R357, R365). -/

namespace Sys2Proof.Machine

section
variable {k : Nat} (c : Chip) (hn : noisy k = false)
include hn

/-- Status fields that are dropped leave every field that is not picked. -/
theorem keyStands_dropStatus (pick : Nat → Bool) (hk : pick k = false) : KeyStands k c (c.dropStatus pick) := by
  have page (a : Nat) : a / 32 / 0x1000 * 0x1000 % 4096 = 0 := Nat.mul_mod_left _ _
  have counted : ∀ (as : List Nat) (d : Chip), (∀ b ∈ as, b % 4096 = 0) → KeyStands k d (foldc as (fun b c => c.seqInc b) d) := by
    intro as
    induction as with
    | nil => exact fun d _ => .refl d
    | cons b bs ih =>
      exact fun d h => (show KeyStands k d (d.seqInc b) from same_seqInc d b (h b (by simp)) k hn).trans
        (ih (d.seqInc b) (fun x hx => h x (by simp [hx])))
  have filtered : KeyStands k c { c with regs := c.regs.filter (fun e => !pick e.1) } := fun v => mapGet_filter _ (fun _ => by simp [hk]) v
  refine filtered.trans (counted _ _ fun b hb => ?_)
  obtain ⟨e, -, rfl⟩ := List.mem_map.mp (List.mem_eraseDups.mp hb)
  exact page e.1
end

section
variable (c : Chip)

/-- The registers that entering JOINING writes. -/
def joinKeys : List Nat := [fldKey R.TWIN_STATE pgTWIN 0, fldKey R.TWIN_JOIN_PHASE pgTWIN 0, fldKey R.TWIN_FENCE_CAUSE pgTWIN 0,
  fldKey R.TWIN_RESOLVING pgTWIN 0, fldKey R.TWIN_ROLE pgTWIN 0]

theorem keyStands_setRole {k : Nat} (follow : Bool) (hn : noisy k = false) (hr : k ≠ fldKey R.TWIN_ROLE pgTWIN 0) :
    KeyStands k c (c.setRole follow) := by
  unfold Chip.setRole
  exact .ite (.refl c) ((keyStands_up c hn _ _ _ 0 (by decide) hr).trans (keyStands_pulse _ hn pgTWIN 5 (by decide)))

theorem keyStands_enterJoining {k : Nat} (phase ms : Nat) (hn : noisy k = false) (hk : k ∉ joinKeys) :
    KeyStands k c (c.enterJoining phase ms) := by
  simp only [joinKeys, List.mem_cons, List.not_mem_nil, or_false, not_or] at hk
  obtain ⟨state, joining, cause, resolving, role⟩ := hk
  unfold Chip.enterJoining
  extract_lets c1 c2 c3
  have h1 : KeyStands k c c1 := (keyStands_hw c hn pgTWIN _ (by decide) (by simpa using ⟨state, joining, cause, resolving⟩)).trans
    (keyStands_setRole _ true hn role)
  have h3 : KeyStands k c c3 := ((h1.trans (keyStands_modTwin c1 _)).trans (keyStands_arm c2 _ _)).trans (keyStands_disarm _ _)
  exact .ite (h3.trans (keyStands_send c3 _)) h3

/-- At the begin of CONFIG every field stands but those that the LEAD hands over. -/
theorem rd_beginConfig (s : State) (f : Fld) (b i : Nat) (hn : noisy (fldKey f b i) = false) (hk : statusInConfig (fldKey f b i) = false) :
    s.beginConfig.chip.rd f b i = s.chip.rd f b i :=
  keyStands_dropStatus s.chip hn statusInConfig hk _

/-- A chip whose MGMT is no longer halted. -/
def Chip.unhalted (c : Chip) : Chip := (c.modPlumb (fun p => { p with mgmtHalt := false })).up R.TWIN_DEBUG_HOLD pgTWIN 0

theorem Chip.unhalted_shows : c.unhalted.plumb.mgmtHalt = false ∧ c.unhalted.rd R.TWIN_DEBUG_HOLD pgTWIN = 0
    ∧ c.unhalted.paired = c.paired := by
  refine ⟨by simp [Chip.unhalted], rd_up_same _ _ _ _ _ (by decide) (by decide), ?_⟩
  have state : c.unhalted.rd R.TWIN_STATE pgTWIN = c.rd R.TWIN_STATE pgTWIN := up_stands _ _ _ _ _ (by decide) (by decide) (by decide) _
  unfold Chip.paired
  rw [state]

/-- The chip that joins again, at CONFIG and with its links admitted, once its MGMT goes on (R365). -/
def Chip.rejoined (c : Chip) : Chip := (c.unhalted.modTwin (fun t => { t with rejoinCfg := true })).enterJoining 2 400

/-- A halted MGMT goes on; in a pair its chip joins again at CONFIG. -/
theorem mgmtResume_halted (s : State) (h : s.chip.plumb.mgmtHalt = true) : mgmtResume s =
    if s.chip.paired then ({ s with chip := s.chip.rejoined } : State).beginConfig else { s with chip := s.chip.unhalted } := by
  unfold mgmtResume
  rw [if_neg (by simp [h]), ← s.chip.unhalted_shows.2.2]
  rfl

theorem enterJoining_plumb (phase ms : Nat) : (c.enterJoining phase ms).plumb = c.plumb :=
  confined_enterJoining (n := 0) c phase ms .plumb (by decide)

theorem beginConfig_plumb (s : State) : s.beginConfig.chip.plumb = s.chip.plumb :=
  confined_dropStatus (n := 0) (a := quietParts) s.chip statusInConfig (by decide) .plumb (by decide)

/-- MGMT that goes on is no longer halted, and DEBUG_HOLD is 0 (R365). -/
theorem mgmtResume_shows (s : State) (h : s.chip.plumb.mgmtHalt = true) :
    (mgmtResume s).chip.plumb.mgmtHalt = false ∧ (mgmtResume s).chip.rd R.TWIN_DEBUG_HOLD pgTWIN = 0 := by
  obtain ⟨halt, hold, -⟩ := s.chip.unhalted_shows
  rw [mgmtResume_halted s h]
  split
  · rw [beginConfig_plumb, rd_beginConfig _ _ _ _ (by decide) (by decide)]
    exact ⟨(congrArg PlumbSt.mgmtHalt (enterJoining_plumb _ 2 400)).trans halt,
      (keyStands_enterJoining _ 2 400 (by decide) (by decide)).rd.trans hold⟩
  · exact ⟨halt, hold⟩
end

end Sys2Proof.Machine
end

section
/-! PROOFS. The debug port (R364, R365, R511 to R514). -/

namespace Sys2Proof.Machine

section
variable (s : State) (b : Bytes)

theorem dbgChallenge_acts (hp : s.chip.plumbRuns = true) :
    ∃ t, exec (.dbgChallenge b) s = .next t ∧ t.chip.dbg.challenge = some (leBytes s.chip.mram.deviceId.toNat 8 ++ sliceBytes b 0 32)
      ∧ t.chip.sent = Out.debug (leBytes s.chip.mram.deviceId.toNat 8 ++ sliceBytes b 0 32) :: s.chip.sent := by
  refine ⟨_, rfl, ?_⟩
  rw [State.onChip_chip, dbgChallenge, if_pos hp]
  exact ⟨congrArg DbgSt.challenge (Chip.send_dbg _ _), rfl⟩

/-- The response proves a key that is not revoked (R512). -/
def Chip.proves (c : Chip) (ch sig : Bytes) : Bool := (upTo 4).any (fun k => !c.mram.revoked.getLsbD k && Config.responseValid k ch sig)

theorem dbgResponse_answers (c : Chip) {ch : Bytes} (hp : c.plumbRuns = true) (hc : c.dbg.challenge = some ch) (hf : c.dbg.fails < 3) :
    dbgResponse c b = if c.proves ch b then (c.modDbg (fun d => { d with challenge := none })).up R.SEC_DEBUG_UNLOCKED pgSEC 1
      else (c.modDbg (fun d => { d with challenge := none })).modDbg (fun d => { d with fails := d.fails + 1 }) := by
  unfold dbgResponse
  rw [hc]
  exact if_neg (by simp [hp, hf])

theorem dbgResponse_acts {ch : Bytes} (hp : s.chip.plumbRuns = true) (hc : s.chip.dbg.challenge = some ch) (hf : s.chip.dbg.fails < 3) :
    ∃ t, exec (.dbgResponse b) s = .next t ∧ t.chip.dbg.challenge = none
      ∧ t.chip.rd R.SEC_DEBUG_UNLOCKED pgSEC = (if s.chip.proves ch b then 1 else s.chip.rd R.SEC_DEBUG_UNLOCKED pgSEC)
      ∧ t.chip.dbg.fails = s.chip.dbg.fails + (if s.chip.proves ch b then 0 else 1) := by
  refine ⟨_, rfl, ?_⟩
  rw [State.onChip_chip, dbgResponse_answers b s.chip hp hc hf]
  split
  · rw [Chip.up_dbg]
    exact ⟨rfl, rd_up_same _ _ _ _ _ (by decide) (by decide), rfl⟩
  · exact ⟨rfl, rfl, rfl⟩

theorem dbgResponse_refused (hf : 3 ≤ s.chip.dbg.fails) : ∃ t, exec (.dbgResponse b) s = .next t ∧ t = s := by
  have none' : dbgResponse s.chip b = s.chip := by
    unfold dbgResponse
    split
    · rfl
    · exact if_pos (by simp [hf])
  exact ⟨_, rfl, by rw [State.onChip, none']⟩

/-- MGMT can be halted (R513). -/
structure Haltable (c : Chip) : Prop where
  unlocked : c.unlocked = true
  up : c.plumb.mgmtUp = true
  running : c.plumb.mgmtHalt = false
  sound : c.plumb.mgmtFail = false

theorem dbgHalt_asks {c : Chip} (h : Haltable c) : dbgHalt c =
    if c.fwu.paused then c.modPlumb (fun p => { p with haltReq := true }) else (c.modPlumb (fun p => { p with haltReq := true })).lateHalt := by
  unfold dbgHalt
  exact if_neg (by simp [h.unlocked, h.up, h.running, h.sound])

/-- A Chain message leaves one chip as it leaves another whose output, power and state of the twin are the same. -/
theorem send_chain_congr {c d : Chip} (m : ChainMsg) (hs : d.sent = c.sent) (ho : d.chainOpen m = c.chainOpen m) :
    (d.send (.chain m)).sent = (c.send (.chain m)).sent := by
  simp only [Chip.send, ho]
  split
  · rw [hs]
  · exact hs

/-- A halt asked for takes effect: DEBUG_HOLD is shown, and the twin is told (R364). -/
theorem lateHalt_halts {c : Chip} (h : c.plumb.haltReq = true) : c.lateHalt.plumb.mgmtHalt = true
    ∧ c.lateHalt.rd R.TWIN_DEBUG_HOLD pgTWIN = 1 ∧ c.lateHalt.sent = (c.send (.chain .debugHold)).sent := by
  rw [Chip.lateHalt, if_pos h]
  refine ⟨by simp, ?_, send_chain_congr _ (Chip.up_sent _ _ _ _ _) ?_⟩
  · rw [Chip.send_rd]
    exact rd_up_same _ _ _ _ _ (by decide) (by decide)
  · have shown (f : Fld) (b : Nat) (hn : noisy (fldKey f b 0) = false) (hne : fldKey f b 0 ≠ fldKey R.TWIN_DEBUG_HOLD pgTWIN 0) :
        ((c.modPlumb (fun p => { p with haltReq := false, mgmtHalt := true })).up R.TWIN_DEBUG_HOLD pgTWIN 1).rd f b = c.rd f b :=
      up_stands _ _ _ _ _ (by decide) hn hne _
    simp only [Chip.chainOpen, Chip.banksOn, Chip.on, shown R.PLUMB_MAIN_UP pgPLUMB (by decide) (by decide),
      shown R.TWIN_STATE pgTWIN (by decide) (by decide), Chip.up_plumb, Chip.modPlumb_plumb]

theorem dbgHalt_halts (h : Haltable s.chip) (hp : s.chip.fwu.paused = false) : ∃ t, exec .dbgHalt s = .next t
    ∧ t.chip.plumb.mgmtHalt = true ∧ t.chip.rd R.TWIN_DEBUG_HOLD pgTWIN = 1 ∧ t.chip.sent = (s.chip.send (.chain .debugHold)).sent := by
  refine ⟨_, rfl, ?_⟩
  rw [State.onChip_chip, dbgHalt_asks h, if_neg (by simp [hp])]
  obtain ⟨halt, hold, sent⟩ := lateHalt_halts (c := s.chip.modPlumb (fun p => { p with haltReq := true })) rfl
  exact ⟨halt, hold, sent.trans (send_chain_congr _ rfl rfl)⟩

theorem dbgHalt_waits (h : Haltable s.chip) (hp : s.chip.fwu.paused = true) : ∃ t, exec .dbgHalt s = .next t
    ∧ t.chip.plumb.haltReq = true ∧ t.chip.plumb.mgmtHalt = false := by
  refine ⟨_, rfl, ?_⟩
  rw [State.onChip_chip, dbgHalt_asks h, if_pos hp]
  exact ⟨rfl, h.running⟩

theorem dbgStep_acts (hu : s.chip.unlocked = true) (hh : s.chip.plumb.mgmtHalt = true) :
    ∃ t, exec .dbgStep s = .next t ∧ t.chip.dbg.steps = s.chip.dbg.steps + 1 := by
  refine ⟨_, rfl, ?_⟩
  rw [State.onChip_chip, dbgStep, if_pos (by simp [hu, hh])]
  rfl

theorem dbgResume_acts (hu : s.chip.unlocked = true) (hh : s.chip.plumb.mgmtHalt = true) :
    ∃ t, exec .dbgResume s = .next t ∧ t.chip.plumb.mgmtHalt = false ∧ t.chip.rd R.TWIN_DEBUG_HOLD pgTWIN = 0 := by
  refine ⟨_, rfl, ?_⟩
  rw [dbgResume, if_pos hu]
  exact mgmtResume_shows (s.onChip (fun c => c.modPlumb (fun p => { p with haltReq := false }))) hh

theorem extest_drives (h : s.chip.sendsCmd = false) : ∃ t, exec (.extest b) s = .next t ∧ t.chip.dbg.pins = b := by
  refine ⟨_, rfl, ?_⟩
  rw [State.onChip_chip, extest, if_neg (by simp [h])]
  rfl

theorem extest_bypasses (h : s.chip.sendsCmd = true) : ∃ t, exec (.extest b) s = .next t ∧ t = s :=
  ⟨_, rfl, by rw [State.onChip, extest, if_pos h]⟩
end

/-- Settles O31, by the commands of the debug port one by one; MGMT that goes on in a pair joins again, which leaves DEBUG_HOLD. -/
theorem debugCommandsAct : Obligations.DebugCommandsAct :=
  ⟨dbgChallenge_acts, fun s b _ => dbgResponse_acts s b, dbgResponse_refused, fun s hu hup hr hs => dbgHalt_halts s ⟨hu, hup, hr, hs⟩,
    fun s hu hup hr hs => dbgHalt_waits s ⟨hu, hup, hr, hs⟩, dbgStep_acts, dbgResume_acts, extest_drives, extest_bypasses⟩

end Sys2Proof.Machine
end

section
/-! PROOFS. The messages of Survey at a station that accepts them (R377, R382 to R387). -/

namespace Sys2Proof.Machine

/-- A number that is taken out of a map has the default value. -/
theorem mapGet_mapDel {α : Type} (m : SMap α) (k : Nat) (d : α) : mapGet (mapDel m k) k d = d := by
  induction m with
  | nil => rfl
  | cons e m ih =>
    obtain ⟨j, v⟩ := e
    unfold mapDel at ih ⊢
    by_cases h : j = k
    · rw [List.filter_cons_of_neg (by simp [h])]
      exact ih
    · rw [List.filter_cons_of_pos (by simpa using h), mapGet, if_neg h]
      exact ih

theorem foldc_fab {α : Type} (xs : List α) (f : α → Chip → Chip) (hf : ∀ x c, (f x c).fab = c.fab) (c : Chip) : (foldc xs f c).fab = c.fab := by
  induction xs generalizing c with
  | nil => rfl
  | cons x xs ih => exact (ih (f x c)).trans (hf x c)

/-- Sending a message changes no more of FAB than the PRP sequence number. -/
theorem fabTx_fab (c : Chip) (h : SurveyHdr) (pl : Bytes) : (c.fabTx h pl).fab = { c.fab with prpSeq := (c.fabTx h pl).fab.prpSeq } := by
  unfold Chip.fabTx
  extract_lets f ks c1
  have sent : (foldc ks (fun k c => c.sendFab k f) c1).fab = c1.fab := foldc_fab ks _ (fun _ _ => Chip.send_fab _ _) c1
  have stepped : c1.fab = { c.fab with prpSeq := c1.fab.prpSeq } := by simp [c1]
  split_ifs
  · rfl
  · rfl
  · rw [sent, ← stepped]

section
variable (s : State) (h : SurveyHdr) (pl : Bytes)

theorem budgetRx_acts (c1 : Chip) (ha : s.chip.accepts h 1 = true) (hp : h.part = 0) (hr : h.rel = true)
    (hrx : s.chip.relRx h = (c1, true)) (hnan : fIsNan (f32 (leAt pl 4 4)) = false) (hsign : fSign (f32 (leAt pl 4 4)) = false)
    (heff : leAt pl 8 8 = 0) :
    ∃ t, exec (.budgetRx h pl) s = .next t
      ∧ t = s.onChip (fun _ => c1.proposeAt 0 (.budget (f32 (leAt pl 4 4)) h.src (BitVec.ofNat 32 (leAt pl 0 4)))) := by
  have taken : budgetRx s.chip h pl = c1.proposeAt 0 (.budget (f32 (leAt pl 4 4)) h.src (BitVec.ofNat 32 (leAt pl 0 4))) := by
    rw [budgetRx, if_neg (by simp [ha]), if_neg (by simp [hp]), if_neg (by simp [hr]), hrx]
    simp [hnan, hsign, heff]
  exact ⟨_, rfl, by rw [State.onChip, taken]; rfl⟩

theorem shareRx_acts (ha : s.chip.accepts h 2 = true) (hp : h.part = 0) (hrx : (s.chip.relRx h).2 = true) :
    ∃ t, exec (.shareRx h pl) s = .next t ∧ mapGet t.chip.fab.shares h.src [] = pl := by
  refine ⟨_, rfl, ?_⟩
  rw [State.onChip_chip, shareRx, if_neg (by simp [ha]), if_neg (by simp [hp])]
  dsimp only
  rw [if_pos hrx]
  exact mapGet_mapSet_same _ _ _ _

theorem eventRx_acts (ha : s.chip.accepts h 3 = true) (hrx : (s.chip.relRx h).2 = true) :
    ∃ t, exec (.eventRx h pl) s = .next t ∧ mapGet t.chip.fab.events h.src [] = pl := by
  refine ⟨_, rfl, ?_⟩
  rw [State.onChip_chip, eventRx, if_neg (by simp [ha])]
  dsimp only
  rw [if_pos hrx]
  exact mapGet_mapSet_same _ _ _ _

theorem timeRx_acts (ha : s.chip.accepts h 5 = true) (hp : h.part = 0) (hrx : (s.chip.relRx h).2 = true) :
    ∃ t, exec (.timeRx h pl) s = .next t ∧ t.chip.fab.fabTime = leAt pl 0 8 ∧ t.chip.fab.tai = leAt pl 8 8 := by
  refine ⟨_, rfl, ?_⟩
  rw [State.onChip_chip, timeRx, if_neg (by simp [ha]), if_neg (by simp [hp])]
  dsimp only
  rw [if_pos hrx]
  exact ⟨rfl, rfl⟩

theorem ackRx_acts (hon : s.chip.fabOn = true) (hcls : h.cls = 0) (hsub : h.sub = 2) (hlen : h.len = 4) (hme : s.chip.forMe h = true) :
    ∃ t, exec (.ackRx h pl) s = .next t ∧ ∀ m ∈ t.chip.fab.rel, m.id ≠ BitVec.ofNat 32 (leAt pl 0 4) := by
  refine ⟨_, rfl, ?_⟩
  rw [State.onChip_chip, ackRx, if_neg (by simp [hon, hcls, hsub, hlen, hme])]
  intro m hm
  simpa using (List.mem_filter.mp hm).2
end

/-! SHARE of this node (R383). -/

/-- SHARE is due, and this node sends it. -/
structure ShareDue (c : Chip) : Prop where
  lead : c.fabLead = true
  works : c.takesWork pgFAB = true
  on : c.on R.FAB_SHARE_TX pgFAB = true
  period : c.tick % c.rd R.CROWN_PERIOD pgCROWN = 0
  timer : c.armed (tmKey tmShare 0) = false ∨ c.due (tmKey tmShare 0) = true

/-- Sends the SHARE of a section. -/
def Chip.shareTx (c : Chip) (k : Nat) : Chip := c.fabTx (c.hdrFor 2 0 false 0 none true 0 (c.shareBody k).length 0) (c.shareBody k)

theorem shareSend_due {c : Chip} (h : ShareDue c) :
    shareSend c = foldc ((upTo 8).filter (fun k => (c.shareLaw k).isSome)) (fun k c => c.shareTx k) (c.arm (tmKey tmShare 0) dqTick) := by
  have timer : (c.armed (tmKey tmShare 0) && !c.due (tmKey tmShare 0)) = false := by
    rcases h.timer with h | h <;> simp [h]
  exact if_neg (by simp [h.lead, h.works, h.on, h.period, timer])

section
variable (s : State) (h : ShareDue s.chip)
include h

theorem shareSend_arms : ∃ t, exec .shareSend s = .next t ∧ mapGet t.chip.timers (tmKey tmShare 0) 0 = s.chip.now + dqTick + 1 := by
  refine ⟨_, rfl, ?_⟩
  rw [State.onChip_chip, shareSend_due h]
  have kept : Confined 0 fabParts (s.chip.arm (tmKey tmShare 0) dqTick)
      (foldc ((upTo 8).filter (fun k => (s.chip.shareLaw k).isSome)) (fun k c => c.shareTx k) (s.chip.arm (tmKey tmShare 0) dqTick)) :=
    .foldc (fun k c => confined_fabTx c _ _) _
  rw [kept .timers (by decide)]
  exact mapGet_mapSet_same _ _ _ _

theorem shareSend_sends : ∃ t, exec .shareSend s = .next t
    ∧ t = s.onChip (fun c => foldc ((upTo 8).filter (fun k => (c.shareLaw k).isSome)) (fun k c => c.shareTx k) (c.arm (tmKey tmShare 0) dqTick)) :=
  ⟨_, rfl, by rw [State.onChip, shareSend_due h]; rfl⟩
end

/-! Reliable messages (R387), and sessions (R385). -/

section
variable (s : State) (n : Nat) (m : RelMsg) (hm : s.chip.fab.rel.find? (fun m => m.id.toNat == n) = some m)
include hm

theorem relRetry_acts (ht : m.tries < 3) (hn : m.atT + (m.tries + 1) * dqMs ≤ s.chip.now) : ∃ t, exec (.relRetry n) s = .next t
    ∧ t.chip.fab.rel = s.chip.fab.rel.map (fun x => if x.id == m.id then { x with tries := x.tries + 1 } else x) := by
  refine ⟨_, rfl, ?_⟩
  rw [State.onChip_chip, relRetry, hm]
  dsimp only
  rw [if_pos ⟨ht, hn⟩]
  split
  · rw [fabTx_fab]
    rfl
  · rfl

theorem relFail_acts (hn : m.atT + 4 * dqMs ≤ s.chip.now) : ∃ t, exec (.relFail n) s = .next t
    ∧ t.chip.fab.rel = s.chip.fab.rel.filter (fun x => x.id != m.id)
    ∧ t.chip.rd R.FAB_CNT pgFAB 3 = (s.chip.rd R.FAB_CNT pgFAB 3 + 1) % 2 ^ 32 ∧ bitOf (t.chip.rd R.EVT_LATCH pgFAB) 3 = true := by
  refine ⟨_, rfl, ?_⟩
  rw [State.onChip_chip, relFail, hm]
  dsimp only
  rw [if_pos hn]
  refine ⟨by rw [Chip.pulse_fab]; rfl, ?_, pulse_sets _ _ _ (by decide) (by decide)⟩
  rw [rd_pulse _ _ _ _ _ _ (by decide) (by decide)]
  exact rd_bump_same _ _ _ _ _
end

theorem sessionIdleTimeout_acts (s : State) (p : Part) : ∃ t, exec (.sessionIdleTimeout p) s = .next t ∧ mapGet t.chip.fab.sessAt p.val 0 = 0 :=
  ⟨_, rfl, mapGet_mapDel _ _ _⟩

/-- Settles O16, by the messages one by one; sending leaves FAB but for the PRP sequence number. -/
theorem surveyMessagesAct : Obligations.SurveyMessagesAct :=
  ⟨budgetRx_acts, shareRx_acts, fun s hl hw ho hp ht => shareSend_arms s ⟨hl, hw, ho, hp, ht⟩,
    fun s hl hw ho hp ht => shareSend_sends s ⟨hl, hw, ho, hp, ht⟩, eventRx_acts, timeRx_acts, ackRx_acts, relRetry_acts, relFail_acts,
    sessionIdleTimeout_acts⟩

end Sys2Proof.Machine
end

section
/-! PROOFS. The two-wire targets, and the management sessions of the fabric (R385, R474, R475, R478, R479). -/

namespace Sys2Proof.Machine

/-! Transactions of a target. -/

section
variable (c : Chip) (g : Tgt)

theorem tgt_page : g.page % 4096 = 0 := by cases g <;> decide

/-- A transaction that ends is counted. -/
theorem rd_tgtDone : (c.tgtDone g).rd R.IIC_CNT g.page 0 = (c.rd R.IIC_CNT g.page 0 + 1) % 2 ^ 32 := by
  have quiet : noisy (fldKey R.IIC_CNT g.page 0) = false := by cases g <;> decide
  rw [Chip.tgtDone, rd_pulse _ _ _ _ _ _ (tgt_page g) quiet]
  exact rd_bump_same _ _ _ _ _

/-- What a target latches for a transaction is no byte of its register file. -/
theorem tgtByte_modTgt_latch (i : Nat) : (c.modTgt g (fun q => { q with latch := none })).tgtByte g i = c.tgtByte g i := by
  unfold Chip.tgtByte
  simp only [Chip.tgt_modTgt]
  rfl
end

section
variable (s : State) (g : Tgt) (on : s.chip.tgtOn g = true)
include on

theorem iicTargetWrite_points (b : Byte) (off : s.chip.on R.IIC_TGT_PEC_EN g.page = false) : ∃ t, exec (.iicTargetWrite g [b]) s = .next t
    ∧ (t.chip.tgt g).ptr = b.toNat ∧ t.chip.rd R.IIC_CNT g.page 0 = (s.chip.rd R.IIC_CNT g.page 0 + 1) % 2 ^ 32 := by
  have written : iicTargetWrite s g [b] =
      s.onChip (fun c => (c.modTgt g (fun q => { q with ptr := b.toNat, latch := none, wr := [] })).tgtDone g) := by
    simp [iicTargetWrite, on, off, State.tgtWrite, foldc, State.onChip]
  refine ⟨_, rfl, ?_⟩
  rw [written, State.onChip_chip, Chip.tgt_tgtDone, Chip.tgt_modTgt, rd_tgtDone]
  exact ⟨rfl, rfl⟩

theorem iicTargetWrite_holds (bs : Bytes) (pecOn : s.chip.on R.IIC_TGT_PEC_EN g.page = true) :
    ∃ t, exec (.iicTargetWrite g bs) s = .next t ∧ t = s.onChip (fun c => c.modTgt g (fun q => { q with pec := bs })) :=
  ⟨_, rfl, iicTargetWrite_held on pecOn bs⟩

theorem iicTargetRead_one (low : (s.chip.tgt g).ptr < 0x80) : ∃ t, exec (.iicTargetRead g 1) s = .next t
    ∧ (t.chip.tgt g).reads = [BitVec.ofNat 8 (s.chip.tgtByte g (s.chip.tgt g).ptr)] ∧ (t.chip.tgt g).ptr = (s.chip.tgt g).ptr + 1
    ∧ t.chip.rd R.IIC_CNT g.page 0 = (s.chip.rd R.IIC_CNT g.page 0 + 1) % 2 ^ 32 := by
  have page : ¬0x80 ≤ (s.chip.tgt g).ptr := by omega
  have next : ((s.chip.tgt g).ptr + 1) % 256 = (s.chip.tgt g).ptr + 1 := Nat.mod_eq_of_lt (by omega)
  have read : iicTargetRead s g 1 = s.onChip (fun c => (c.modTgt g (fun q =>
      { q with latch := none, ptr := q.ptr + 1, reads := [BitVec.ofNat 8 (s.chip.tgtByte g q.ptr)] })).tgtDone g) := by
    simp only [iicTargetRead, on, State.tgtReads, State.tgtReadByte, Chip.tgt_modTgt, if_neg page, tgtByte_modTgt_latch,
      Chip.modTgt_modTgt, next]
    rfl
  refine ⟨_, rfl, ?_⟩
  rw [read, State.onChip_chip, Chip.tgt_tgtDone, Chip.tgt_modTgt, rd_tgtDone]
  exact ⟨rfl, rfl, rfl⟩

theorem iicPecStop_flags (x : Byte) (bs : Bytes) (pecOn : s.chip.on R.IIC_TGT_PEC_EN g.page = true) (held : (s.chip.tgt g).pec = bs ++ [x])
    (wrong : pec (BitVec.ofNat 8 (2 * s.chip.rd R.IIC_ADDR g.page) :: bs) ≠ x.toNat) : ∃ t, exec (.iicPecStop g) s = .next t
    ∧ (t.chip.tgt g).pec = [] ∧ (t.chip.tgt g).flags = (s.chip.tgt g).flags ||| 2
    ∧ t.chip.rd R.IIC_CNT g.page 0 = (s.chip.rd R.IIC_CNT g.page 0 + 1) % 2 ^ 32 := by
  refine ⟨_, rfl, ?_⟩
  rw [iicPecStop_wrong on pecOn held wrong, State.onChip_chip, Chip.tgt_tgtDone, Chip.tgt_modTgt, rd_tgtDone]
  exact ⟨rfl, rfl, rfl⟩

theorem iicPecStop_applies (x : Byte) (bs : Bytes) (pecOn : s.chip.on R.IIC_TGT_PEC_EN g.page = true)
    (held : (s.chip.tgt g).pec = bs ++ [x]) (right : pec (BitVec.ofNat 8 (2 * s.chip.rd R.IIC_ADDR g.page) :: bs) = x.toNat) :
    ∃ t, exec (.iicPecStop g) s = .next t
      ∧ t = ((s.onChip (fun c => c.modTgt g (fun q => { q with pec := [] }))).tgtWrite g bs).onChip (fun c => c.tgtDone g) :=
  ⟨_, rfl, iicPecStop_right on pecOn held right⟩

theorem iicSclTimeout_acts : ∃ t, exec (.iicSclTimeout g) s = .next t ∧ (t.chip.tgt g).pec = [] ∧ (t.chip.tgt g).wr = []
    ∧ t.chip.rd R.IIC_CNT g.page 1 = (s.chip.rd R.IIC_CNT g.page 1 + 1) % 2 ^ 32 := by
  refine ⟨_, rfl, ?_⟩
  rw [State.onChip_chip, iicSclTimeout, if_pos on]
  have target := s.chip.tgt_modTgt g (fun q => { q with latch := none, wr := [], pec := [] })
  exact ⟨congrArg IicSt.pec target, congrArg IicSt.wr target, rd_bump_same _ _ _ _ _⟩
end

/-! The address match in hibernation (R479). -/

section
variable (s : State)

theorem iic2AddrMatch_acts (n : Nat) (hr : s.chip.plumbRuns = true) (hh : s.chip.on R.PLUMB_HIBERNATING pgPLUMB = true)
    (hn : n = s.chip.rd R.IIC_ADDR pgIIC2) :
    ∃ t, exec (.iic2AddrMatch n) s = .next t ∧ (t.chip.iic 1).stretch = true ∧ t.chip.armed (tmKey tmStretch 0) = true := by
  refine ⟨_, rfl, ?_⟩
  rw [State.onChip_chip, iic2AddrMatch, if_pos (by simp [hr, hh, hn])]
  refine ⟨?_, ?_⟩
  · simp [Chip.modIic, Chip.setIic, Chip.iic]
  · simp [Chip.armed, Chip.arm]

theorem stretchEnd_off (c : Chip) : (((c.modIic 1 (fun q => { q with stretch := false })).disarm (tmKey tmStretch 0)).iic 1).stretch = false := by
  simp [Chip.modIic, Chip.setIic, Chip.iic]

theorem iic2StretchEnd_clocked (h : (s.chip.iic 1).stretch = true) : ∃ t, exec (.iic2StretchEnd true) s = .next t
    ∧ (t.chip.iic 1).stretch = false ∧ t.chip.armed (tmKey tmStretch 0) = false := by
  refine ⟨_, rfl, ?_⟩
  rw [State.onChip_chip, iic2StretchEnd, if_neg (by simp [h])]
  exact ⟨stretchEnd_off _, disarm_armed _ _⟩

theorem iic2StretchEnd_elapsed (h : (s.chip.iic 1).stretch = true) (hd : s.chip.due (tmKey tmStretch 0) = true) :
    ∃ t, exec (.iic2StretchEnd false) s = .next t ∧ (t.chip.iic 1).stretch = false
      ∧ t.chip.rd R.IIC_CNT pgIIC2 2 = (s.chip.rd R.IIC_CNT pgIIC2 2 + 1) % 2 ^ 32 := by
  refine ⟨_, rfl, ?_⟩
  rw [State.onChip_chip, iic2StretchEnd, if_neg (by simp [h, hd])]
  exact ⟨stretchEnd_off _, rd_bump_same _ _ _ _ _⟩
end

/-! Management messages (R385, R530). -/

section
variable (s : State) (h : SurveyHdr) (pl : Bytes)

theorem mgmtRead_refuses (hk : leAt pl 0 1 = 1) (bad : mgmtBad (leAt pl 4 4) (leAt pl 1 1) = true) : ∃ t, exec (.mgmtRead h pl) s = .next t
    ∧ ∃ c1 ok, s.chip.mgmtTake h pl false = (c1, ok)
      ∧ t = s.onChip (fun _ => if ok then c1.mgmtAnswer h 0 2 (leAt pl 4 4) [] else c1) := by
  rcases take : s.chip.mgmtTake h pl false with ⟨c1, ok⟩
  refine ⟨_, rfl, c1, ok, rfl, ?_⟩
  cases ok <;> simp [mgmtRead, hk, take, bad, State.onChip]

theorem mgmtRead_reads (hk : leAt pl 0 1 = 1) (one : leAt pl 1 1 = 1) (good : mgmtBad (leAt pl 4 4) 1 = false) :
    ∃ t, exec (.mgmtRead h pl) s = .next t ∧ ∃ c1 ok s2 w bad, s.chip.mgmtTake h pl false = (c1, ok)
      ∧ ({ s with chip := c1 } : State).readWord (.mgmt h.part) (leAt pl 4 4) = (s2, w, bad)
      ∧ t = if ok then s2.onChip (fun c => c.mgmtAnswer h 1 (b2n bad) (leAt pl 4 4) (leBytes w 4)) else { s with chip := c1 } := by
  rcases take : s.chip.mgmtTake h pl false with ⟨c1, ok⟩
  rcases read : ({ s with chip := c1 } : State).readWord (.mgmt h.part) (leAt pl 4 4) with ⟨s2, w, bad⟩
  refine ⟨_, rfl, c1, ok, s2, w, bad, rfl, read, ?_⟩
  cases ok <;> simp [mgmtRead, hk, take, one, good, State.mgmtReads, read, State.onChip]

theorem mgmtWrite_writes (hk : leAt pl 0 1 = 2) (good : mgmtBad (leAt pl 4 4) (leAt pl 1 1) = false) (one : leAt pl 1 1 = 1) :
    ∃ t, exec (.mgmtWrite h pl) s = .next t ∧ ∃ c1 ok bad, s.chip.mgmtTake h pl true = (c1, ok)
      ∧ t = if ok then (({ s with chip := c1 } : State).writeWord (.mgmt h.part) (leAt pl 4 4) (leAt pl 8 4) 15).onChip
          (fun c => c.mgmtAnswer h 1 (b2n bad) (leAt pl 4 4) []) else { s with chip := c1 } := by
  rw [one] at good
  rcases take : s.chip.mgmtTake h pl true with ⟨c1, ok⟩
  refine ⟨_, rfl, c1, ok, (({ s with chip := c1 } : State).writeWord (.mgmt h.part) (leAt pl 4 4) (leAt pl 8 4) 15).chip.rd
    R.PART_CNT_VIOL pgPART h.part.val != c1.rd R.PART_CNT_VIOL pgPART h.part.val, rfl, ?_⟩
  cases ok <;> simp [mgmtWrite, hk, take, one, good, State.mgmtWrites, State.writeWord, upTo, State.onChip]

/-- A message received by its window changes FAB's windows and the PRP sequence number alone. -/
theorem relRx_mgmtRsp (c : Chip) : (c.relRx h).1.fab.mgmtRsp = c.fab.mgmtRsp := by
  unfold Chip.relRx
  extract_lets node w ack put fresh ids newest behind
  have acked (d : Chip) : (ack d).fab.mgmtRsp = d.fab.mgmtRsp := by
    unfold ack Chip.fabAck
    split
    · rfl
    · rw [fabTx_fab]
  split_ifs
  · rfl
  · rfl
  · exact acked _
  · rfl
  · exact acked _

theorem mgmtTake_mgmtRsp (c : Chip) (wr : Bool) : (c.mgmtTake h pl wr).1.fab.mgmtRsp = c.fab.mgmtRsp := by
  have violates (d : Chip) (p a : Nat) : (d.violation p a wr 1).fab = d.fab := confined_violation (n := 0) d p a wr 1 .fab (by decide)
  unfold Chip.mgmtTake
  extract_lets p a
  split_ifs
  · rfl
  · rw [violates]
  · rw [violates]
    rfl
  · exact relRx_mgmtRsp h c

theorem mgmtResponse_acts (hk : leAt pl 0 1 = 3) : ∃ t, exec (.mgmtResponse h pl) s = .next t
    ∧ ∃ c1 ok, s.chip.mgmtTake h pl false = (c1, ok) ∧ t.chip.fab.mgmtRsp = if ok then some (h.part.val, pl) else s.chip.fab.mgmtRsp := by
  have kept := mgmtTake_mgmtRsp h pl s.chip false
  rcases take : s.chip.mgmtTake h pl false with ⟨c1, ok⟩
  rw [take] at kept
  refine ⟨_, rfl, c1, ok, rfl, ?_⟩
  rw [State.onChip_chip, mgmtResponse, if_neg (by simp [hk]), take]
  cases ok
  · exact kept
  · rfl
end

/-- Settles O35, by the transactions and the messages one by one. -/
theorem targetsAndSessionsAct : Obligations.TargetsAndSessionsAct :=
  ⟨fun s g b on => iicTargetWrite_points s g on b, fun s g bs on => iicTargetWrite_holds s g on bs, iicTargetRead_one,
    fun s g x bs on => iicPecStop_flags s g on x bs, fun s g x bs on => iicPecStop_applies s g on x bs, iicSclTimeout_acts,
    iic2AddrMatch_acts, iic2StretchEnd_clocked, iic2StretchEnd_elapsed, mgmtRead_refuses, mgmtRead_reads, mgmtWrite_writes,
    mgmtResponse_acts⟩

end Sys2Proof.Machine
end

section
/-! PROOFS. The Field Book takes, writes and erases records (R443, R446, R448, R449, R451). -/

namespace Sys2Proof.Machine

/-! Queueing (R446, R448). -/

/-- A record that is not a shelf record, and that has a payload, as it is queued. -/
def Chip.newRecord (c : Chip) (code source sev part : Nat) (payload : Bytes) : FbRec :=
  { datum := c.fabDatum, source := source, code := code, sev := sev, part := part, twin := c.on R.SYS_TWIN_ID pgSYS, lead := c.leads,
    shelf := false, payload := sliceBytes payload 0 32 }

theorem record_enqueues (c : Chip) (code source sev part : Nat) {payload : Bytes} (h : payload ≠ []) :
    c.record code source sev part payload = c.enqueue (c.newRecord code source sev part payload) := by
  simp [Chip.record, h, Chip.newRecord]

theorem enqueue_queues (c : Chip) (r : FbRec) (hp : c.plumb.porst = false) (hs : c.plumb.stopped = false) (hq : c.fbk.queue.length < 256) :
    (c.enqueue r).fbk.queue = c.fbk.queue ++ [r] := by
  rw [Chip.enqueue, if_neg (by simp [hp, hs]), if_pos hq]
  simp

theorem fbkRecordQueue_acts (s : State) (k o : Nat) (v : Chan) (p : Part) (b : Bytes) (hp : s.chip.plumb.porst = false)
    (hs : s.chip.plumb.stopped = false) (hq : s.chip.fbk.queue.length < 256) (hk : shelfCode k = false) (hb : b ≠ []) :
    ∃ t, exec (.fbkRecordQueue k o v p b) s = .next t ∧ ∃ r, t.chip.fbk.queue = s.chip.fbk.queue ++ [r] ∧ r.code = k ∧ r.source = o
      ∧ r.sev = v.val ∧ r.part = p.val ∧ r.payload = sliceBytes b 0 32 ∧ r.datum = s.chip.fabDatum := by
  refine ⟨_, rfl, s.chip.newRecord k o v.val p.val b, ?_, rfl, rfl, rfl, rfl, rfl, rfl⟩
  rw [State.onChip_chip, recordQueue, hk, record_enqueues s.chip k o v.val p.val hb]
  exact enqueue_queues s.chip _ hp hs hq

/-! Writing (R443, R448, R449). -/

section
variable (c : Chip) {k : Nat} (b : Nat) (hc : ∀ j < 4, k ≠ fldKey R.PMC_CNT b j ∧ k ≠ fldKey R.PMC_OVF b j)
include hc

/-- Counting writes the counters of its page alone. -/
theorem keyStands_pmcAdd {j : Nat} (hj : j < 4) (n : Nat) : KeyStands k c (c.pmcAdd b j n) := by
  have count (i : Nat) (hi : i < 4) (d : Chip) (v : Nat) : KeyStands k d (d.wr R.PMC_CNT b v i) := keyStands_wr d _ b v i (hc i hi).1
  have wrap (i : Nat) (hi : i < 4) (d : Chip) (v : Nat) : KeyStands k d ((d.wr R.PMC_CNT b v i).wr R.PMC_OVF b 1 i) :=
    (count i hi d v).trans (keyStands_wr _ _ b 1 i (hc i hi).2)
  have bound {i : Nat} {q : Bool} (h : (decide (i < 4) && q) = true) : i < 4 := by simp_all
  simp only [Chip.pmcAdd]
  split
  · exact count j hj c _
  split
  next h1 =>
    split
    · exact (wrap j hj c _).trans (count _ (bound h1) _ _)
    split
    next h2 =>
      split
      · exact ((wrap j hj c _).trans (wrap _ (bound h1) _ _)).trans (count _ (bound h2) _ _)
      split
      next h3 =>
        split
        · exact (((wrap j hj c _).trans (wrap _ (bound h1) _ _)).trans (wrap _ (bound h2) _ _)).trans (count _ (bound h3) _ _)
        · exact (((wrap j hj c _).trans (wrap _ (bound h1) _ _)).trans (wrap _ (bound h2) _ _)).trans (wrap _ (bound h3) _ _)
      · exact ((wrap j hj c _).trans (wrap _ (bound h1) _ _)).trans (wrap _ (bound h2) _ _)
    · exact (wrap j hj c _).trans (wrap _ (bound h1) _ _)
  · exact wrap j hj c _

theorem keyStands_pmcEvent (e n : Nat) : KeyStands k c (c.pmcEvent b e n) := by
  have one {j : Nat} (hj : j < 4) (d : Chip) : KeyStands k d (if d.pmcSelects b j e then d.pmcAdd b j n else d) :=
    .ite (keyStands_pmcAdd d b hc hj n) (.refl d)
  unfold Chip.pmcEvent
  refine .ite ?_ (.refl c)
  exact (((one (by decide) c).trans (one (by decide) _)).trans (one (by decide) _)).trans (one (by decide) _)
end

/-- The quota of any partition, one past the eighth too, is no register of the Field Book's page. -/
theorem quota_ne (p : Nat) {f : Fld} {i : Nat} (h : f.off + f.stride * i < 0x1000 ∧ f.lo < 32 := by decide) :
    fldKey R.PART_FBK_QUOTA pgPART p ≠ fldKey f pgFBK i := by
  intro e
  simp only [fldKey, R.PART_FBK_QUOTA, pgPART, pgFBK] at e
  omega

section
variable (c : Chip)

/-- The queue, shorter by the record that Plumb writes, leaves every quota. -/
theorem keyStands_shorter (p v : Nat) :
    KeyStands (fldKey R.PART_FBK_QUOTA pgPART p) c ((c.up R.FBK_QUEUE pgFBK v).level pgFBK 2 false) := by
  have counters : ∀ j < 4, fldKey R.PART_FBK_QUOTA pgPART p ≠ fldKey R.PMC_CNT pgFBK j
      ∧ fldKey R.PART_FBK_QUOTA pgPART p ≠ fldKey R.PMC_OVF pgFBK j := fun j hj =>
    ⟨quota_ne p (by simp only [R.PMC_CNT]; omega), quota_ne p (by simp only [R.PMC_OVF]; omega)⟩
  have shown : KeyStands (fldKey R.PART_FBK_QUOTA pgPART p) c (c.wr R.FBK_QUEUE pgFBK v) := keyStands_wr c _ _ _ _ (quota_ne p)
  have counted : KeyStands (fldKey R.PART_FBK_QUOTA pgPART p) c ((c.wr R.FBK_QUEUE pgFBK v).bump R.PG_SEQ pgFBK) :=
    shown.trans (keyStands_wr _ R.PG_SEQ pgFBK _ 0 (quota_ne p))
  exact (counted.trans (keyStands_pmcEvent _ pgFBK counters 3 1)).trans (keyStands_wr _ R.EVT_LIVE pgFBK _ 0 (quota_ne p))

/-- A record goes to the same slot where the slots and the quotas are the same. -/
theorem fbPlace_congr {c d : Chip} (r : FbRec) (hs : d.fbk.slots = c.fbk.slots)
    (hq : ∀ p, d.rd R.PART_FBK_QUOTA pgPART p = c.rd R.PART_FBK_QUOTA pgPART p) : d.fbPlace r = c.fbPlace r := by
  unfold Chip.fbPlace Chip.fbHeld Chip.fbShare
  simp only [hs, hq]

/-- Plumb takes a record off the queue: FBK_STATUS follows, and a held S3 sequence ends with it (R427, R448). -/
def Chip.fbTaken (c : Chip) (q : FbRec) (rest : List FbRec) : Chip :=
  (((c.modFbk (fun k => { k with queue := rest, lastWrite := c.now, writing := none })).up R.FBK_QUEUE pgFBK rest.length).level
    pgFBK 2 false).s3Recorded q

theorem fbTaken_fbk (q : FbRec) (rest : List FbRec) :
    (c.fbTaken q rest).fbk = { c.fbk with queue := rest, lastWrite := c.now, writing := none } := by
  have ended (d : Chip) : (d.s3Recorded q).fbk = d.fbk := by
    unfold Chip.s3Recorded
    split <;> rfl
  rw [Chip.fbTaken, ended]
  simp

theorem fbTaken_place (q : FbRec) (rest : List FbRec) : (c.fbTaken q rest).fbPlace q = c.fbPlace q := by
  have ended (d : Chip) (p : Nat) : (d.s3Recorded q).rd R.PART_FBK_QUOTA pgPART p = d.rd R.PART_FBK_QUOTA pgPART p := by
    unfold Chip.s3Recorded
    split <;> rfl
  refine fbPlace_congr q (by rw [fbTaken_fbk]) fun p => ?_
  rw [Chip.fbTaken, ended]
  exact (keyStands_shorter _ p rest.length).rd

/-- The record as it is stored: with the next SEQ and its MAC (R443, R445). -/
def Chip.stored (c : Chip) (q : FbRec) : FbRec :=
  { q with seq := nextSeq c.fbk.seq, mac := Config.recordMac (FbRec.bytes56 { q with seq := nextSeq c.fbk.seq }) }

/-- A record is put into a slot. -/
def Chip.fbPut (c : Chip) (i : Nat) (m : FbRec) : Chip :=
  c.modFbk (fun k => { k with slots := mapSet k.slots i m, seq := m.seq, writing := some m })

/-- The record that held the slot is counted (R456). -/
def Chip.fbOver (c : Chip) (o : Option FbRec) : Chip :=
  match o with
  | some v => c.modFbk (fun k => { k with overwritten := setAt k.overwritten v.part ((k.overwritten[v.part]?).getD 0 + 1) })
  | none => c

/-- The write of a record that has its place. -/
theorem recordWrite_placed {q : FbRec} {rest : List FbRec} {i : Nat} {o : Option FbRec} (hq : c.fbk.queue = q :: rest)
    (hw : c.fbCanWrite = true) (hp : c.fbPlace q = some (i, o)) :
    recordWrite c = (((c.fbTaken q rest).fbPut i (c.stored q)).fbOver o).fbShow := by
  have placed : (c.fbTaken q rest).fbPlace q = some (i, o) := (fbTaken_place c q rest).trans hp
  rw [Chip.fbTaken] at placed
  unfold recordWrite
  rw [hq]
  dsimp only
  rw [if_neg (by simp [hw]), placed]
  rfl

theorem recordWrite_stores {q : FbRec} {rest : List FbRec} {i : Nat} {o : Option FbRec} (hq : c.fbk.queue = q :: rest)
    (hw : c.fbCanWrite = true) (hp : c.fbPlace q = some (i, o)) : (recordWrite c).fbk.queue = rest
    ∧ (recordWrite c).fbk.seq = nextSeq c.fbk.seq ∧ (recordWrite c).fbk.slots = mapSet c.fbk.slots i (c.stored q) := by
  have taken := fbTaken_fbk c q rest
  have counted (d : Chip) : (d.fbOver o).fbk.queue = d.fbk.queue ∧ (d.fbOver o).fbk.seq = d.fbk.seq ∧ (d.fbOver o).fbk.slots = d.fbk.slots := by
    cases o <;> exact ⟨rfl, rfl, rfl⟩
  obtain ⟨queue, seq, slots⟩ := counted ((c.fbTaken q rest).fbPut i (c.stored q))
  rw [recordWrite_placed c hq hw hp, (quiet_fbShow _).fbk, queue, seq, slots, Chip.fbPut, Chip.modFbk_fbk, taken]
  exact ⟨rfl, rfl, rfl⟩
end

theorem fbkRecordWrite_acts (s : State) (q : FbRec) (rest : List FbRec) (i : Nat) (o : Option FbRec) (hq : s.chip.fbk.queue = q :: rest)
    (hw : s.chip.fbCanWrite = true) (hp : s.chip.fbPlace q = some (i, o)) : ∃ t, exec .fbkRecordWrite s = .next t ∧ t.chip.fbk.queue = rest
      ∧ t.chip.fbk.seq = nextSeq s.chip.fbk.seq
      ∧ ∃ r, mapGet t.chip.fbk.slots i {} = r ∧ r.seq = nextSeq s.chip.fbk.seq ∧ r.code = q.code ∧ r.payload = q.payload := by
  obtain ⟨queue, seq, slots⟩ := recordWrite_stores s.chip hq hw hp
  refine ⟨_, rfl, queue, seq, s.chip.stored q, ?_, rfl, rfl, rfl⟩
  rw [State.onChip_chip, slots]
  exact mapGet_mapSet_same _ _ _ _

/-! The erase (R443, R451). -/

theorem fbkEraseLapse_acts (s : State) (hd : s.chip.due (tmKey tmKeyErase 0) = true) (hk : s.chip.plumb.eraseKey = 1) :
    ∃ t, exec .fbkEraseLapse s = .next t ∧ t.chip.plumb.eraseKey = 0 := by
  refine ⟨_, rfl, ?_⟩
  rw [State.onChip_chip, eraseLapse, if_pos (by simp [hd, hk]), (still_raise _ 0xD 0 []).plumb]
  rfl

/-- A record that is queued or dropped leaves the record array. -/
theorem enqueue_slots (c : Chip) (r : FbRec) : (c.enqueue r).fbk.slots = c.fbk.slots ∧ (c.enqueue r).fbk.erasing = c.fbk.erasing := by
  have drop (d : Chip) (r : FbRec) : (d.countDrop r).fbk.slots = d.fbk.slots ∧ (d.countDrop r).fbk.erasing = d.fbk.erasing := by
    simp [Chip.countDrop]
  unfold Chip.enqueue
  extract_lets q c1
  split
  · exact ⟨rfl, rfl⟩
  · split
    · simp [c1]
    · split
      · exact drop c r
      · exact drop _ _

theorem fbkEraseDone_acts (s : State) (he : s.chip.fbk.erasing = true) : ∃ t, exec .fbkEraseDone s = .next t ∧ t.chip.fbk.slots = []
    ∧ t.chip.fbk.erasing = false ∧ t.chip.mram.seqFloor = s.chip.fbk.seq := by
  refine ⟨_, rfl, ?_⟩
  rw [State.onChip_chip, eraseDone, if_neg (by simp [he])]
  extract_lets n h c1
  have shown : c1.fbShow.fbk = c1.fbk := (quiet_fbShow c1).fbk
  have recorded : (c1.fbShow.record 0x120 0 2 0 (leBytes h.toNat 4 ++ leBytes n 4)).mram = c1.fbShow.mram :=
    confined_record_book (n := 0) c1.fbShow _ _ _ _ _ _ .mram (by decide)
  have mram := recorded.trans (quiet_fbShow c1).mram
  have payload : leBytes h.toNat 4 ++ leBytes n 4 ≠ [] := by simp [leBytes]
  rw [mram, record_enqueues c1.fbShow 0x120 0 2 0 payload, (enqueue_slots _ _).1, (enqueue_slots _ _).2, shown]
  exact ⟨rfl, rfl, rfl⟩

/-- Settles O26: the queue takes a record, Plumb writes the first one of it, and the erase ends or its key lapses. -/
theorem fieldBookCommandsAct : Obligations.FieldBookCommandsAct :=
  ⟨fbkRecordQueue_acts, fbkRecordWrite_acts, fbkEraseLapse_acts, fbkEraseDone_acts⟩

end Sys2Proof.Machine
end

section
/-! SUPPORT. What lasts through a raise (R424 to R429): a register field, an event that has occurred, the fence. One walk through the raise
serves every relation between a chip and what follows it that the raise's own steps keep. -/

namespace Sys2Proof.Machine

/-- A relation between a chip and what follows it that lasts through changes of no register that lift no fence, writes of the fields `ok`,
counts, events, and the level of a full queue. -/
structure Lasting (ok : Nat → Prop) (Q : Chip → Chip → Prop) : Prop where
  rest : ∀ {c d}, d.regs = c.regs → (c.plumb.fenced = true → d.plumb.fenced = true) → Q c d
  trans : ∀ {c d e}, Q c d → Q d e → Q c e
  wr : ∀ c f b v i, ok (fldKey f b i) → Q c (c.wr f b v i)
  seqInc : ∀ c b, b % 4096 = 0 → Q c (c.seqInc b)
  pulse : ∀ c b n, b % 4096 = 0 → Q c (c.pulse b n)
  full : ∀ c on, Q c (c.level pgFBK 2 on)

/-- The register fields that a raise writes on the pages of FBK, FCU, TWIN and FWU, beside those of the last raise, the outstanding sources and
the counts. -/
def raiseKeys : List Nat :=
  [fldKey R.FBK_QUEUE pgFBK 0, fldKey R.FBK_DROPPED pgFBK 0, fldKey R.FCU_MAX_SEV pgFCU 0, fldKey R.FCU_FLT_OUT pgFCU 0,
    fldKey R.TWIN_MAX_SEV pgTWIN 0, fldKey R.FWU_OP pgFWU 0, fldKey R.FWU_REJECTED pgFWU 0, fldKey R.FWU_RESULT pgFWU 0]

/-- The register fields that entering FENCED writes, beside FLT_OUT. -/
def fenceKeys : List Nat :=
  [fldKey R.TWIN_STATE pgTWIN 0, fldKey R.TWIN_FENCE_CAUSE pgTWIN 0, fldKey R.TWIN_ROLE pgTWIN 0, fldKey R.TWIN_RECOVERING pgTWIN 0]

/-- The fields `ok` include what a raise writes, but for the registers of the last raise and the counts of raises. -/
structure RaiseMay (ok : Nat → Prop) : Prop where
  keys : ∀ k ∈ raiseKeys, ok k
  outstanding : ∀ w < 64, ok (fldKey R.FCU_OUTSTANDING pgFCU w)
  parts : ∀ p, ok (fldKey R.PART_QUIESCE pgPART p)
  pages : ∀ f ∈ [R.PG_QUIESCE, R.PG_QUIESCED, R.CE_SWAP_BUSY, R.SP_MODEL_LATE], ∀ b, 0x30000 ≤ b → ok (fldKey f b 0)

theorem Lasting.ite {ok : Nat → Prop} {Q : Chip → Chip → Prop} (_ : Lasting ok Q) {c d e : Chip} {p : Prop} [Decidable p] (h : Q c d)
    (k : Q c e) : Q c (if p then d else e) := by
  split
  · exact h
  · exact k

section
variable {ok : Nat → Prop} {Q : Chip → Chip → Prop} (L : Lasting ok Q) (c : Chip)
include L

theorem Lasting.refl : Q c c := L.rest rfl id

theorem Lasting.foldc {α : Type} {xs : List α} {f : α → Chip → Chip} (hf : ∀ x c, Q c (f x c)) (c : Chip) : Q c (foldc xs f c) := by
  induction xs generalizing c with
  | nil => exact L.refl c
  | cons x xs ih => exact L.trans (hf x c) (ih (f x c))

theorem Lasting.hw (b : Nat) (us : List (Fld × Nat × Nat)) (hb : b % 4096 = 0) (h : ∀ u ∈ us, ok (fldKey u.1 b u.2.1)) : Q c (c.hw b us) := by
  have written : ∀ (vs : List (Fld × Nat × Nat)) (d : Chip), (∀ u ∈ vs, ok (fldKey u.1 b u.2.1)) →
      Q d (Machine.foldc vs (fun u c => c.wr u.1 b u.2.2 u.2.1) d) := by
    intro vs
    induction vs with
    | nil => exact fun d _ => L.refl d
    | cons u vs ih => exact fun d hd => L.trans (L.wr d _ _ _ _ (hd u (by simp))) (ih _ (fun x hx => hd x (by simp [hx])))
  have all := written us c h
  unfold Chip.hw
  exact L.ite (L.trans all (L.seqInc _ b hb)) all

theorem Lasting.up (f : Fld) (b v i : Nat) (hb : b % 4096 = 0) (h : ok (fldKey f b i)) : Q c (c.up f b v i) :=
  L.hw c b _ hb (by simpa using h)

theorem Lasting.capCause (hit : Nat → Nat → Nat → Bool) : Q c (c.capCause hit) :=
  L.rest (capCause_regs c hit) (by rw [(quiet_capCause c hit).plumb]; exact id)

theorem Lasting.send (o : Out) : Q c (c.send o) := L.rest (Chip.send_regs c o) (by rw [Chip.send_plumb]; exact id)
end

section
variable {ok : Nat → Prop} {Q : Chip → Chip → Prop} (L : Lasting ok Q) (W : RaiseMay ok) (c : Chip)
include L W

theorem Lasting.fault (f : Fld) (b v i : Nat) (hb : b % 4096 = 0) (h : fldKey f b i ∈ raiseKeys) : Q c (c.up f b v i) :=
  L.up c f b v i hb (W.keys _ h)

/-! Records (R446, R448). -/

theorem Lasting.enqueue (r : FbRec) : Q c (c.enqueue r) := by
  have drop (d : Chip) (r : FbRec) : Q d (d.countDrop r) := by
    have counted : Q d (d.bump R.FBK_DROPPED pgFBK) := L.wr d _ _ _ _ (W.keys _ (by decide))
    have noted (f : FbkSt → FbkSt) : Q (d.bump R.FBK_DROPPED pgFBK) ((d.bump R.FBK_DROPPED pgFBK).modFbk f) := L.rest rfl id
    exact L.trans (L.trans counted (noted _)) (L.pulse _ pgFBK 1 (by decide))
  have kept (d : Chip) (f : FbkSt → FbkSt) : Q d (d.modFbk f) := L.rest rfl id
  unfold Chip.enqueue
  extract_lets q c1
  have queued : Q c c1 := L.trans (kept c _) (L.fault W _ R.FBK_QUEUE pgFBK _ 0 (by decide) (by decide))
  refine L.ite (L.refl c) (L.ite (L.trans queued (L.full c1 _)) ?_)
  split
  · exact drop c r
  · exact L.trans (kept c _) (drop _ _)

theorem Lasting.record (code source sev part : Nat) (payload : Bytes) (shelf : Bool) : Q c (c.record code source sev part payload shelf) := by
  unfold Chip.record
  have free : Q c c.free.2 := L.rest rfl id
  exact L.ite (L.refl c) (L.trans (L.ite free (L.refl c)) (L.enqueue W _ _))

/-! What follows the counts of a raise (R354, R426 to R429, R498, R500). -/

theorem Lasting.reFlt : Q c c.reFlt := by
  unfold Chip.reFlt
  exact L.ite (L.refl c) (L.fault W c R.FCU_FLT_OUT pgFCU _ 0 (by decide) (by decide))

theorem Lasting.reMaxSev : Q c c.reMaxSev := by
  unfold Chip.reMaxSev Chip.putHealth
  extract_lets m c1
  have h1 : Q c c1 := L.ite (L.refl c) (L.fault W c R.FCU_MAX_SEV pgFCU m 0 (by decide) (by decide))
  have shown : Q c1 (c1.up R.TWIN_MAX_SEV pgTWIN m) := L.fault W c1 _ _ _ 0 (by decide) (by decide)
  exact L.ite h1 (L.trans h1 (L.trans shown (L.send _ _)))

theorem Lasting.quiescePart (p : Nat) : Q c (c.quiescePart p) := by
  unfold Chip.quiescePart Chip.quiescePages
  extract_lets page
  have one (b : Nat) (hb : b % 4096 = 0 ∧ 0x30000 ≤ b) (c : Chip) : Q c (page b c) := by
    have quiesce : Q c (c.wr R.PG_QUIESCE b 1) := L.wr c _ _ _ _ (W.pages _ (by simp) b hb.2)
    exact L.ite (L.ite (L.trans quiesce (L.up _ _ _ _ _ hb.1 (W.pages _ (by simp) b hb.2))) quiesce) (L.refl c)
  have part : Q c (c.wr R.PART_QUIESCE pgPART 1 p) := L.wr c _ _ _ _ (W.parts p)
  have engines (n : Nat) : pgCE n % 4096 = 0 ∧ 0x30000 ≤ pgCE n := by simp only [pgCE]; omega
  have ports (n : Nat) : pgSP n % 4096 = 0 ∧ 0x30000 ≤ pgSP n := by simp only [pgSP]; omega
  exact L.ite (L.refl c) (L.trans (L.trans part (L.foldc (fun n => one _ (engines n)) _)) (L.foldc (fun n => one _ (ports n)) _))

theorem Lasting.settleFail : Q c c.settleFail := by
  unfold Chip.settleFail
  extract_lets c1
  have paused : Q c ((c1.disarm (tmKey tmSettle 0)).arm (tmKey tmResume 0) (80 * dqMs)) := L.rest rfl id
  exact L.ite (L.trans (L.trans paused (L.fault W _ R.FWU_OP pgFWU 7 0 (by decide) (by decide))) (L.pulse _ pgFWU 2 (by decide))) (L.refl c)

theorem Lasting.swapAbort (code : Nat) : Q c (c.swapAbort code) := by
  unfold Chip.swapAbort
  extract_lets none' c1
  have h1 : Q c c1 := L.trans (d := (c.modFwu (fun f => { f with swapBack := !none', swapping := !none', swapTick := none })).modFlash
    (fun f => { f with rejected := true })) (L.rest rfl id) (L.hw _ pgFWU _ (by decide) (by
      simp only [List.forall_mem_cons]
      exact ⟨W.keys _ (by decide), W.keys _ (by decide), by simp⟩))
  have page (e : Nat) : pgCE e % 4096 = 0 ∧ 0x30000 ≤ pgCE e := by simp only [pgCE]; omega
  have idle (e : Nat) (d : Chip) : Q d (if d.on R.CE_SWAP_BUSY (pgCE e) then d.up R.CE_SWAP_BUSY (pgCE e) 0 else d) :=
    L.ite (L.up d _ _ _ _ (page e).1 (W.pages _ (by simp) _ (page e).2)) (L.refl d)
  have ended (d : Chip) : Q d ((d.up R.FWU_OP pgFWU 0).pulse pgFWU 1) :=
    L.trans (L.fault W d R.FWU_OP pgFWU 0 0 (by decide) (by decide)) (L.pulse _ pgFWU 1 (by decide))
  exact L.ite (L.ite (L.trans h1 (L.trans (L.foldc idle c1) (ended _))) h1) (L.refl c)

theorem Lasting.enterFenced (hf : ∀ k ∈ fenceKeys, ok k) (cause : Nat) : Q c (c.enterFenced cause) := by
  unfold Chip.enterFenced
  extract_lets c1 c2
  have up (d : Chip) (f : Fld) (v : Nat) (h : fldKey f pgTWIN 0 ∈ fenceKeys := by decide) : Q d (d.up f pgTWIN v) :=
    L.up d f pgTWIN v 0 (by decide) (hf _ h)
  have role (d : Chip) : Q d (d.setRole true) := by
    unfold Chip.setRole
    exact L.ite (L.refl d) (L.trans (up d R.TWIN_ROLE _) (L.pulse _ pgTWIN 5 (by decide)))
  have state : Q c (c.hw pgTWIN [(R.TWIN_STATE, 0, 4), (R.TWIN_FENCE_CAUSE, 0, cause)]) := L.hw c pgTWIN _ (by decide) (by
    simp only [List.forall_mem_cons]
    exact ⟨hf _ (by decide), hf _ (by decide), by simp⟩)
  have fence (d : Chip) : Q d (d.modPlumb (fun p => { p with fenced := true })) := L.rest rfl (fun _ => rfl)
  have h2 : Q c c2 := L.trans (L.trans (L.trans state (role _)) (fence c1)) (L.send _ _)
  have window : Q c (c2.pulse pgTWIN 3).openRecovery :=
    L.trans (L.trans h2 (L.pulse c2 pgTWIN 3 (by decide))) (L.trans (up _ R.TWIN_RECOVERING 1) (L.rest rfl id))
  have ended (d : Chip) : Q d ((d.disarm (tmKey tmTakeover 0)).modTwin (fun t => { t with takeover := false })) := L.rest rfl id
  exact L.ite (L.trans (up c R.TWIN_FENCE_CAUSE cause) (L.reFlt W _)) (L.trans (L.trans window (ended _)) (L.reFlt W _))

theorem Lasting.s3Sequence (src : Nat) (hf : src ≠ 1 → src ≠ 2 → ∀ k ∈ fenceKeys, ok k) : Q c (c.s3Sequence src) := by
  unfold Chip.s3Sequence
  split
  · exact L.refl c
  · next h =>
    extract_lets c1
    have held : Q c (c.modPlumb (fun p => { p with s3 := true, s3Reset := c.s3Resets src, fenced := true })) := L.rest rfl (fun _ => rfl)
    have fence : Q c c1 := L.trans held (L.enterFenced W _ (hf (fun e => h (.inl e)) (fun e => h (.inr e))) 1)
    have timed (t : Nat) : Q c1 (c1.arm (tmKey tmS3 0) t) := L.rest rfl id
    exact L.ite (L.refl c) (L.ite (L.trans fence (timed _)) fence)

/-- The chip whose counts and outstanding sources follow a raise (R424). -/
def Chip.raiseCounted (c : Chip) (src : Nat) : Chip :=
  let c2 := c.bump R.FCU_CNT_RAISE pgFCU
  let c3 := if src = 0 then c2.bump R.FCU_CNT_WIRE pgFCU else c2
  c3.wr R.FCU_OUTSTANDING pgFCU (c3.rd R.FCU_OUTSTANDING pgFCU (src / 32) ||| 2 ^ (src % 32)) (src / 32)

theorem Lasting.raiseEcho (src inst sev own : Nat) (hf : sev = 3 → src ≠ 1 → src ≠ 2 → ∀ k ∈ fenceKeys, ok k) :
    Q (c.raiseCounted src) (c.raiseEcho src inst sev own) := by
  unfold Chip.raiseEcho
  extract_lets c2 c3 c4 c5 c6 c7 c8 c9 c10 c11
  change Q c4 _
  have noted : Q c4 (c4.modPlumb (fun p => { p with
      outSev := mapMod p.outSev src 0 (fun v => max v sev)
      outBy := (src, inst, sev) :: p.outBy.filter (fun e => !(e.1 == src && e.2.1 == inst)) })) := L.rest rfl id
  have h5 : Q c4 c5 := L.trans noted (L.reMaxSev W _)
  have h6 : Q c4 c6 := L.ite h5 (L.trans h5 (L.pulse c5 pgFCU _ (by decide)))
  have h7 : Q c4 c7 := L.trans h6 (L.capCause c6 _)
  have h8 : Q c4 c8 := L.ite (L.trans h7 (L.quiescePart W c7 _)) h7
  have h9 : Q c4 c9 := L.ite (L.trans h8 (L.settleFail W c8)) h8
  have h10 : Q c4 c10 := L.ite (L.trans h9 (L.swapAbort W c9 _)) h9
  have page : pgSP inst % 4096 = 0 ∧ 0x30000 ≤ pgSP inst := by simp only [pgSP]; omega
  have late (t : Nat) : Q c10 ((c10.up R.SP_MODEL_LATE (pgSP inst) 1).arm (tmKey tmLate inst) t) :=
    L.trans (L.up c10 _ _ _ _ page.1 (W.pages _ (by simp) _ page.2)) (L.rest rfl id)
  have h11 : Q c4 c11 := L.ite (L.trans h10 (late _)) h10
  by_cases hs : sev = 3
  · rw [if_pos hs]
    exact L.trans h11 (L.s3Sequence W c11 src (hf hs))
  · rw [if_neg hs]
    exact h11

/-- A relation that the registers of the last raise and the counts of raises do not touch either lasts through a raise. -/
theorem Lasting.raise (src inst : Nat) (payload : Bytes) (hl : ∀ k ∈ lastRaise, ok k) (hr : ok (fldKey R.FCU_CNT_RAISE pgFCU 0))
    (hw : src = 0 → ok (fldKey R.FCU_CNT_WIRE pgFCU 0)) (hf : c.srcSev src = 3 → src ≠ 1 → src ≠ 2 → ∀ k ∈ fenceKeys, ok k) :
    Q c (c.raise src inst payload) := by
  by_cases hs : srcInfo src = none
  · rw [raise_of_none c inst payload hs]
    exact L.refl c
  have hlt : src / 32 < 64 := by
    by_contra h
    exact hs (srcInfo_none (by omega))
  cases hp : c.plumb.porst || c.plumb.stopped with
  | true => rw [raise_unpowered c src inst payload hp]; exact L.refl c
  | false =>
    rw [raise_powered c inst payload hs hp, Chip.showRaise]
    have shown (d : Chip) (us : List (Fld × Nat × Nat)) (h : ∀ u ∈ us, fldKey u.1 pgFCU u.2.1 ∈ lastRaise) : Q d (d.hw pgFCU us) :=
      L.hw d pgFCU us (by decide) (fun u hu => hl _ (h u hu))
    have counted (d : Chip) : Q d (d.raiseCounted src) := by
      unfold Chip.raiseCounted
      extract_lets c2 c3
      have h2 : Q d c2 := L.wr d _ _ _ _ hr
      have h3 : Q d c3 := by
        unfold c3
        split
        · next h => exact L.trans h2 (L.wr c2 _ _ _ _ (hw h))
        · exact h2
      exact L.trans h3 (L.wr c3 _ _ _ _ (W.outstanding _ hlt))
    refine L.trans (L.trans (L.record W c _ _ _ _ payload false) (shown _ _ ?_)) (L.trans (counted _) (L.raiseEcho W _ _ _ _ _ hf))
    simp only [List.forall_mem_cons]
    decide
end

/-! The relations. -/

/-- A register field, outside those that events change, lasts through writes of other fields. -/
theorem lasting_key {k : Nat} (hn : noisy k = false) : Lasting (k ≠ ·) (KeyStands k) where
  rest h _ := fun _ => by rw [h]
  trans h j := h.trans j
  wr c f b v i h := keyStands_wr c f b v i h
  seqInc c b hb := same_seqInc c b hb k hn
  pulse c b n hb := keyStands_pulse c hn b n hb
  full c on := same_level c pgFBK 2 on (by decide) k hn

/-- The field is none that a raise writes beside the registers of the last raise and the counts. -/
def raiseSpares (k : Nat) : Bool :=
  k % 32 != 2 && decide (k / 32 < 0x30000) && !raiseKeys.contains k && !(decide (0x4600 ≤ k / 32) && decide (k / 32 < 0x4700))

theorem raiseMay_key {k : Nat} (h : raiseSpares k = true) : RaiseMay (k ≠ ·) := by
  simp only [raiseSpares, Bool.and_eq_true, bne_iff_ne, ne_eq, decide_eq_true_eq, Bool.not_eq_true', Bool.and_eq_false_iff,
    decide_eq_false_iff_not] at h
  obtain ⟨⟨⟨low, page⟩, keys⟩, out⟩ := h
  refine ⟨fun j hj e => ?_, fun w hw e => ?_, fun p e => ?_, fun f hf b hb e => ?_⟩
  · rw [← e, ← List.contains_iff_mem, keys] at hj
    exact absurd hj (by decide)
  · subst e
    simp only [fldKey, R.FCU_OUTSTANDING, pgFCU] at out
    omega
  · subst e
    simp only [fldKey, R.PART_QUIESCE] at low
    omega
  · subst e
    simp only [fldKey] at page
    omega

/-! Events. -/

/-- Bit `n` of an event register of a page stays set. -/
def EvtStays (f : Fld) (b n : Nat) (c d : Chip) : Prop := bitOf (c.rd f b) n = true → bitOf (d.rd f b) n = true

/-- An event register of a page: its live bits or its latch. -/
structure EvtField (f : Fld) (b : Nat) : Prop where
  field : f = R.EVT_LIVE ∨ f = R.EVT_LATCH
  page : b % 4096 = 0

section
variable {f : Fld} {b n : Nat} (h : EvtField f b) (c : Chip)
include h

theorem EvtField.not_counted : counted (fldKey f b 0) = false := by
  have page := h.page
  rcases h.field with rfl | rfl <;> (simp only [counted, fldKey, R.EVT_LIVE, R.EVT_LATCH]; simp; omega)

theorem EvtField.same1 {c d : Chip} (hs : Same1 c d) : EvtStays f b n c d := fun e => by
  rw [show d.rd f b = c.rd f b from hs _ h.not_counted _]
  exact e

/-- Two event registers have different keys, or are one. -/
theorem EvtField.eq_or_ne {g : Fld} {a : Nat} (hg : EvtField g a) : (g = f ∧ a = b) ∨ fldKey f b 0 ≠ fldKey g a 0 := by
  by_cases e : fldKey f b 0 = fldKey g a 0
  · left
    have pb := h.page
    have pa := hg.page
    rcases h.field with rfl | rfl <;> rcases hg.field with rfl | rfl <;> simp only [fldKey, R.EVT_LIVE, R.EVT_LATCH] at e ⊢ <;> grind
  · exact .inr e

/-- Bits are added to an event register. -/
theorem EvtField.add (hn : n < 32) {g : Fld} {a : Nat} (hg : EvtField g a) (v : Nat) : EvtStays f b n c (c.wr g a (c.rd g a ||| v)) := by
  intro e
  rcases h.eq_or_ne hg with ⟨rfl, rfl⟩ | ne
  · have width : g.w = 32 := by rcases hg.field with rfl | rfl <;> rfl
    rw [rd_wr_same, width, bitOf_mod _ _ _ hn]
    exact bitOf_or _ _ _ e
  · rw [rd_wr_ne _ _ _ _ _ _ _ _ ne]
    exact e

variable (hn : n < 32)
include hn

theorem evtStays_latchEvt (a j : Nat) (ha : a % 4096 = 0) : EvtStays f b n c (c.latchEvt a j) := fun e =>
  h.same1 (same1_reIrq _ a false) (h.add c hn ⟨.inr rfl, ha⟩ (2 ^ j) e)

theorem evtStays_riseEvt (a j : Nat) (ha : a % 4096 = 0) : EvtStays f b n c (c.riseEvt a j) := by
  unfold Chip.riseEvt
  split
  · exact evtStays_latchEvt h c hn a j ha
  · extract_lets c1
    have h1 : EvtStays f b n c c1 := fun e => evtStays_latchEvt h _ hn a j ha
      (h.same1 (same1_pmcEvent _ a _ 1 ha) (h.add c hn ⟨.inl rfl, ha⟩ (2 ^ j) e))
    split
    · exact fun e => h.same1 (Same1.of_eq (capCause_regs c1 _)) (h1 e)
    · exact h1
    · exact h1

theorem evtStays_pulse (a j : Nat) (ha : a % 4096 = 0) : EvtStays f b n c (c.pulse a j) := by
  unfold Chip.pulse
  split
  · exact evtStays_latchEvt h c hn a j ha
  · exact fun e => evtStays_riseEvt h { c with pulses := (a, j) :: c.pulses } hn a j ha e

/-- An event that has occurred on another page than the Field Book's lasts. -/
theorem lasting_evt (hb : b ≠ pgFBK) : Lasting (fldKey f b 0 ≠ ·) (EvtStays f b n) where
  rest hr _ := h.same1 (.of_eq hr)
  trans i j := fun e => j (i e)
  wr c g a v i hk := fun e => by
    rw [rd_wr_ne _ _ _ _ _ _ _ _ hk]
    exact e
  seqInc c a ha := h.same1 (same1_seqInc c a ha)
  pulse c a j ha := evtStays_pulse h c hn a j ha
  full c on := by
    have other : fldKey f b 0 ≠ fldKey R.EVT_LIVE pgFBK 0 :=
      (h.eq_or_ne (g := R.EVT_LIVE) (a := pgFBK) ⟨.inl rfl, by decide⟩).resolve_left (fun e => hb e.2.symm)
    unfold Chip.level
    split
    · split
      · exact id
      · exact evtStays_riseEvt h c hn pgFBK 2 (by decide)
    · exact fun e => by
        rw [rd_wr_ne _ _ _ _ _ _ _ _ other]
        exact e
end

/-! The fence. -/

/-- The main islands stay fenced. -/
def FenceStays (c d : Chip) : Prop := c.plumb.fenced = true → d.plumb.fenced = true

theorem lasting_fence : Lasting (fun _ => True) FenceStays where
  rest _ h := h
  trans h j := fun e => j (h e)
  wr _ _ _ _ _ _ := id
  seqInc c b _ := fun e => (congrArg PlumbSt.fenced (quiet_seqInc c b).plumb).trans e
  pulse c b n _ := fun e => (congrArg PlumbSt.fenced (quiet_pulse c b n).plumb).trans e
  full c on := fun e => (congrArg PlumbSt.fenced (quiet_level c pgFBK 2 on).plumb).trans e

theorem raiseMay_all : RaiseMay (fun _ => True) := ⟨fun _ _ => trivial, fun _ _ => trivial, fun _ => trivial, fun _ _ _ _ => trivial⟩

section
variable (c : Chip)

theorem fenceStays_raise (src inst : Nat) (payload : Bytes) : FenceStays c (c.raise src inst payload) :=
  lasting_fence.raise raiseMay_all c src inst payload (fun _ _ => trivial) trivial (fun _ => trivial) (fun _ _ _ _ _ => trivial)

theorem fenceStays_enterFenced (cause : Nat) : FenceStays c (c.enterFenced cause) :=
  lasting_fence.enterFenced raiseMay_all c (fun _ _ => trivial) cause

/-! A field through a raise. -/

/-- The field is none that a raise of S1 or S2 writes. -/
def raiseLeaves (k : Nat) : Bool :=
  raiseSpares k && !noisy k && !lastRaise.contains k && k != fldKey R.FCU_CNT_RAISE pgFCU 0 && k != fldKey R.FCU_CNT_WIRE pgFCU 0

/-- A raise leaves the registers that it does not write; those of the fence stand where the raise enters FENCED neither. -/
theorem keyStands_raise {k : Nat} (h : raiseLeaves k = true) (src inst : Nat) (payload : Bytes)
    (hf : c.srcSev src = 3 → src ≠ 1 → src ≠ 2 → k ∉ fenceKeys) : KeyStands k c (c.raise src inst payload) := by
  simp only [raiseLeaves, Bool.and_eq_true, Bool.not_eq_true', bne_iff_ne, ne_eq] at h
  obtain ⟨⟨⟨⟨spares, still⟩, last⟩, raises⟩, wires⟩ := h
  have apart {xs : List Nat} (hx : k ∉ xs) : ∀ j ∈ xs, k ≠ j := fun j hj e => hx (e ▸ hj)
  exact (lasting_key still).raise (raiseMay_key spares) c src inst payload (apart (by simpa using last)) raises (fun _ => wires)
    (fun h1 h2 h3 => apart (hf h1 h2 h3))

/-- An event of TWIN's or of a lower page, the Field Book's apart, that has occurred lasts through a raise. -/
theorem evtStays_raise {f : Fld} {b n : Nat} (h : EvtField f b) (hn : n < 32) (hb : b ≠ pgFBK) (hs : raiseSpares (fldKey f b 0) = true)
    (hl : ∀ k ∈ fldKey R.FCU_CNT_RAISE pgFCU 0 :: fldKey R.FCU_CNT_WIRE pgFCU 0 :: (lastRaise ++ fenceKeys), fldKey f b 0 ≠ k)
    (src inst : Nat) (payload : Bytes) : EvtStays f b n c (c.raise src inst payload) :=
  (lasting_evt h hn hb).raise (raiseMay_key hs) c src inst payload (fun k hk => hl k (by simp [hk])) (hl _ (by simp)) (fun _ => hl _ (by simp))
    (fun _ _ _ k hk => hl k (by simp [hk]))

/-- The counts of a raise (R424), which its register of outstanding sources leaves. -/
theorem raiseCounted_counts (src : Nat) :
    (c.raiseCounted src).rd R.FCU_LAST_SEV pgFCU = c.rd R.FCU_LAST_SEV pgFCU
      ∧ (c.raiseCounted src).rd R.FCU_CNT_RAISE pgFCU = (c.rd R.FCU_CNT_RAISE pgFCU + 1) % 2 ^ 32
      ∧ (src = 0 → (c.raiseCounted src).rd R.FCU_CNT_WIRE pgFCU = (c.rd R.FCU_CNT_WIRE pgFCU + 1) % 2 ^ 32) := by
  have outstanding (d : Chip) (f : Fld) (v : Nat) (hf : 0x4000 + f.off < 0x4600 ∧ f.lo < 32 ∧ f.stride = 0) :
      (d.wr R.FCU_OUTSTANDING pgFCU v (src / 32)).rd f pgFCU = d.rd f pgFCU := by
    refine rd_wr_ne _ _ _ _ _ _ _ _ ?_
    simp only [fldKey, R.FCU_OUTSTANDING, pgFCU]
    omega
  unfold Chip.raiseCounted
  extract_lets c2 c3
  have wire : ∀ f : Fld, fldKey f pgFCU 0 ≠ fldKey R.FCU_CNT_WIRE pgFCU 0 → c3.rd f pgFCU = c2.rd f pgFCU := fun f hf => by
    unfold c3
    split
    · exact rd_bump_ne _ _ _ _ _ _ _ _ hf
    · rfl
  rw [outstanding _ R.FCU_LAST_SEV _ (by decide), outstanding _ R.FCU_CNT_RAISE _ (by decide), outstanding _ R.FCU_CNT_WIRE _ (by decide),
    wire R.FCU_LAST_SEV (by decide), wire R.FCU_CNT_RAISE (by decide)]
  refine ⟨rd_bump_ne _ _ _ _ _ _ _ _ (by decide), rd_bump_same _ _ _ _ _, fun h0 => ?_⟩
  unfold c3
  rw [if_pos h0, rd_bump_same, rd_bump_ne _ _ _ _ _ _ _ _ (by decide)]
  rfl

/-- What a raise that has power shows in FCU (R424): its source, its item, its severity and the counts. -/
theorem raise_shows {src : Nat} (inst : Nat) (payload : Bytes) (hs : srcInfo src ≠ none) (hp : (c.plumb.porst || c.plumb.stopped) = false) :
    (c.raise src inst payload).rd R.FCU_LAST_SEV pgFCU = c.srcSev src % 4
      ∧ (c.raise src inst payload).rd R.FCU_CNT_RAISE pgFCU = (c.rd R.FCU_CNT_RAISE pgFCU + 1) % 2 ^ 32
      ∧ (src = 0 → (c.raise src inst payload).rd R.FCU_CNT_WIRE pgFCU = (c.rd R.FCU_CNT_WIRE pgFCU + 1) % 2 ^ 32) := by
  rw [raise_powered c inst payload hs hp]
  obtain ⟨own, hown⟩ : ∃ own, c.srcOwner src inst = own := ⟨_, rfl⟩
  obtain ⟨sev, hsev⟩ : ∃ sev, c.srcSev src = sev := ⟨_, rfl⟩
  rw [hown, hsev]
  set d := (c.record src inst sev own payload).showRaise src inst sev
  have echo {k : Nat} (hk : raiseSpares k = true ∧ noisy k = false ∧ k ∉ fenceKeys) :
      KeyStands k (d.raiseCounted src) (d.raiseEcho src inst sev own) :=
    (lasting_key hk.2.1).raiseEcho (raiseMay_key hk.1) d src inst sev own (fun _ _ _ j hj e => hk.2.2 (e ▸ hj))
  have before {f : Fld} (hn : noisy (fldKey f pgFCU 0) = false) (hq : fldKey f pgFCU 0 ∉
      [fldKey R.FBK_QUEUE pgFBK 0, fldKey R.FBK_DROPPED pgFBK 0, fldKey R.FCU_LAST_SRC pgFCU 0, fldKey R.FCU_LAST_INST pgFCU 0,
        fldKey R.FCU_LAST_SEV pgFCU 0]) : d.rd f pgFCU = c.rd f pgFCU := by
    simp only [List.mem_cons, List.not_mem_nil, or_false, not_or] at hq
    obtain ⟨queue, dropped, lastSrc, lastInst, lastSev⟩ := hq
    exact ((keyStands_record c hn queue dropped src inst sev own payload false).trans
      (keyStands_hw _ hn pgFCU _ (by decide) (by simpa using ⟨lastSrc, lastInst, lastSev⟩))).rd
  have last : ((c.record src inst sev own payload).showRaise src inst sev).rd R.FCU_LAST_SEV pgFCU = sev % 4 := by
    rw [Chip.showRaise, rd_hw _ _ _ _ _ _ (by decide) (by decide)]
    exact rd_wr_same _ _ _ _ _
  obtain ⟨sevStands, raises, wires⟩ := raiseCounted_counts d src
  refine ⟨?_, ?_, fun h0 => ?_⟩
  · rw [(echo (k := fldKey R.FCU_LAST_SEV pgFCU 0) (by decide)).rd, sevStands, last]
  · rw [(echo (k := fldKey R.FCU_CNT_RAISE pgFCU 0) (by decide)).rd, raises, before (by decide) (by decide)]
  · rw [(echo (k := fldKey R.FCU_CNT_WIRE pgFCU 0) (by decide)).rd, wires h0, before (by decide) (by decide)]
end

end Sys2Proof.Machine
end

section
/-! PROOFS. Faults raised, the S3 reset, a failed MGMT, thermal shutdown and the glitch detectors (R423 to R431, R437, R438, R502). -/

namespace Sys2Proof.Machine

/-! Sources that are raised (R423, R424). -/

section
variable (s : State) (k : Byte) (hp : s.chip.plumb.porst = false) (hs : s.chip.plumb.stopped = false)
include hp hs

theorem faultRaise_acts (i : Nat) (hk : (srcInfo k.toNat).isSome = true) (h2 : k.toNat ≠ 2) (h3 : k.toNat ≠ 3) (h8 : k.toNat ≠ 8) :
    ∃ t, exec (.faultRaise k i) s = .next t ∧ t.chip.rd R.FCU_LAST_SRC pgFCU = k.toNat
      ∧ t.chip.rd R.FCU_LAST_SEV pgFCU = s.chip.srcSev k.toNat % 4
      ∧ t.chip.rd R.FCU_CNT_RAISE pgFCU = (s.chip.rd R.FCU_CNT_RAISE pgFCU + 1) % 2 ^ 32 := by
  have known : srcInfo k.toNat ≠ none := fun e => by simp [e] at hk
  have power : (s.chip.plumb.porst || s.chip.plumb.stopped) = false := by simp [hp, hs]
  have raised : faultRaise s k.toNat i = { s with chip := s.chip.raise k.toNat i } := by
    rw [faultRaise, if_neg h2, if_neg h3, if_neg h8]
  have ⟨source, _⟩ := raise_last s.chip i [] known power
  have ⟨sev, count, _⟩ := raise_shows s.chip i [] known power
  refine ⟨_, rfl, ?_⟩
  rw [raised]
  exact ⟨source.trans (Nat.mod_eq_of_lt k.isLt), sev, count⟩

theorem wireFault_acts (hk : (srcInfo k.toNat).isSome = true) : ∃ t, exec (.wireFault k) s = .next t ∧ t.chip.rd R.FCU_LAST_SRC pgFCU = 0
    ∧ t.chip.rd R.FCU_LAST_INST pgFCU = k.toNat ∧ t.chip.rd R.FCU_CNT_WIRE pgFCU = (s.chip.rd R.FCU_CNT_WIRE pgFCU + 1) % 2 ^ 32 := by
  have power : (s.chip.plumb.porst || s.chip.plumb.stopped) = false := by simp [hp, hs]
  have ⟨source, item⟩ := raise_last s.chip k.toNat [] (src := 0) (by decide) power
  have ⟨_, _, wires⟩ := raise_shows s.chip k.toNat [] (src := 0) (by decide) power
  refine ⟨_, rfl, ?_⟩
  rw [State.onChip_chip, wireFault, if_pos hk]
  exact ⟨source, item.trans (Nat.mod_eq_of_lt k.isLt), wires rfl⟩
end

/-! The S3 reset (R427). -/

section
variable (s : State) (hd : s.chip.due (tmKey tmS3 0) = true)
include hd

theorem s3ResetDelay_resets (hh : s.chip.on R.FCU_S3_HOLD pgFCU = false) : s3ResetDelay s = s.fullReset R.SYS_FAULT false := by
  unfold s3ResetDelay
  rw [if_pos hd, if_neg (by simp [hh])]

theorem s3ResetDelay_begins (hh : s.chip.on R.FCU_S3_HOLD pgFCU = false) (hw : s.chip.writeBusy = false) :
    ∃ t, exec .s3ResetDelay s = .next t ∧ t.chip.rd R.SYS_FAULT pgSYS = 1 ∧ t.chip.plumb.porst = false ∧ t.chip.plumb.rom = true
      ∧ t.chip.plumb.rstWait = none ∧ t.mem = [] ∧ t.cap = [] :=
  ⟨_, congrArg Host.Outcome.next (s3ResetDelay_resets s hd hh), fullReset_begins s R.SYS_FAULT false hw (by decide)⟩

theorem s3ResetDelay_waits (hh : s.chip.on R.FCU_S3_HOLD pgFCU = false) (hw : s.chip.writeBusy = true) :
    ∃ t, exec .s3ResetDelay s = .next t ∧ t.chip.plumb.rstWait.isSome = true ∧ t.chip.plumb.locked = [] ∧ t.chip.plumb.mgmtUp = false
      ∧ t.mem = [] ∧ t.cap = [] :=
  ⟨_, congrArg Host.Outcome.next (s3ResetDelay_resets s hd hh), fullReset_waits s R.SYS_FAULT false hw⟩

theorem s3ResetDelay_ends (hh : s.chip.on R.FCU_S3_HOLD pgFCU = true) : ∃ t, exec .s3ResetDelay s = .next t ∧ t.chip.plumb.s3 = false
    ∧ t.chip.armed (tmKey tmS3 0) = false ∧ t.mem = s.mem := by
  have ended : s3ResetDelay s =
      { s with chip := (s.chip.disarm (tmKey tmS3 0)).modPlumb (fun p => { p with s3 := false, s3Reset := false }) } := by
    unfold s3ResetDelay
    rw [if_pos hd, if_pos hh]
  exact ⟨_, congrArg Host.Outcome.next ended, rfl, disarm_armed _ _, rfl⟩
end

/-! A failed MGMT (R431). -/

/-- MGMT_FAIL raised, and the twin told. -/
def Chip.mgmtLost (c : Chip) : Chip := ((c.raise 2 28).modPlumb (fun p => { p with mgmtFail := true })).send (.chain .mgmtFail)

section
variable (c : Chip)

theorem mgmtLost_shows : c.mgmtLost.plumb.mgmtFail = true ∧ c.mgmtLost.solo = c.solo ∧ c.mgmtLost.now = c.now := by
  have state : (c.raise 2 28).rd R.TWIN_STATE pgTWIN = c.rd R.TWIN_STATE pgTWIN :=
    (keyStands_raise c (by decide) 2 28 [] (fun _ _ h => absurd rfl h)).rd
  refine ⟨by simp [Chip.mgmtLost], ?_, ?_⟩
  · unfold Chip.solo Chip.mgmtLost
    rw [Chip.send_rd, Chip.modPlumb_rd, state]
  · rw [Chip.mgmtLost, Chip.send_now, Chip.modPlumb_now, (still_raise c 2 28 []).now]

theorem mgmtFailed_lost (hu : c.plumb.mgmtUp = true) (hf : c.plumb.mgmtFail = false) : mgmtFailed c =
    if c.mgmtLost.solo then (c.mgmtLost.modPlumb (fun p => { p with mgmtSolo := true })).reFlt
    else c.mgmtLost.arm (tmKey tmMgmtAck 0) dqMs := by
  unfold mgmtFailed
  exact if_neg (by simp [hu, hf])

/-- Entering FENCED begins or ends no S3 sequence. -/
theorem enterFenced_s3 (cause : Nat) : (c.enterFenced cause).plumb.s3 = c.plumb.s3 := by
  unfold Chip.enterFenced
  extract_lets c1 c2
  have role : c1.plumb = c.plumb := ((quiet_hw c _ _).trans (quiet_setRole _ true)).plumb
  split
  · rw [(quiet_reFlt _).plumb, Chip.up_plumb]
  · rw [(quiet_reFlt _).plumb]
    simp [Chip.openRecovery, c2, role]
end

section
variable (s : State)

theorem mgmtFail_alone (hu : s.chip.plumb.mgmtUp = true) (hf : s.chip.plumb.mgmtFail = false) (hs : s.chip.solo = true) :
    ∃ t, exec .mgmtFail s = .next t ∧ t.chip.plumb.mgmtFail = true ∧ t.chip.plumb.mgmtSolo = true := by
  obtain ⟨fail, solo, -⟩ := mgmtLost_shows s.chip
  refine ⟨_, rfl, ?_⟩
  rw [State.onChip_chip, mgmtFailed_lost s.chip hu hf, if_pos (solo.trans hs), (quiet_reFlt _).plumb]
  exact ⟨fail, rfl⟩

theorem mgmtFail_asks (hu : s.chip.plumb.mgmtUp = true) (hf : s.chip.plumb.mgmtFail = false) (hs : s.chip.solo = false) :
    ∃ t, exec .mgmtFail s = .next t ∧ t.chip.plumb.mgmtFail = true
      ∧ mapGet t.chip.timers (tmKey tmMgmtAck 0) 0 = s.chip.now + dqMs + 1 := by
  obtain ⟨fail, solo, now⟩ := mgmtLost_shows s.chip
  refine ⟨_, rfl, ?_⟩
  rw [State.onChip_chip, mgmtFailed_lost s.chip hu hf, if_neg (by simp [solo, hs]), Chip.arm_timers, mapGet_mapSet_same, now]
  exact ⟨fail, rfl⟩

theorem mgmtFailAckRx_acts (ha : s.chip.armed (tmKey tmMgmtAck 0) = true) (hf : s.chip.plumb.mgmtFail = true) :
    ∃ t, exec .mgmtFailAckRx s = .next t ∧ t.chip.plumb.fenced = true ∧ t.chip.plumb.s3 = true
      ∧ mapGet t.chip.timers (tmKey tmS3 0) 0 = t.chip.now + t.chip.rd R.FCU_RESET_DELAY_MS pgFCU * dqMs + 1 := by
  refine ⟨_, rfl, ?_⟩
  rw [State.onChip_chip, mgmtFailAck]
  have acked : (s.chip.hear.armed (tmKey tmMgmtAck 0) && s.chip.hear.plumb.mgmtFail) = true := by
    rw [show s.chip.hear.armed (tmKey tmMgmtAck 0) = true from ha, show s.chip.hear.plumb.mgmtFail = true from hf]
    rfl
  rw [if_pos acked]
  extract_lets c1
  have still := still_enterFenced (l := false) c1 1
  rw [Chip.arm_timers, mapGet_mapSet_same, Chip.arm_now, Chip.arm_rd, still.rd R.FCU_RESET_DELAY_MS pgFCU 0 (by decide), Chip.arm_plumb]
  exact ⟨fenceStays_enterFenced c1 1 rfl, enterFenced_s3 c1 1, rfl⟩

/-- A role that the twin takes is shown. -/
theorem setRole_role (c : Chip) (follow : Bool) : (c.setRole follow).on R.TWIN_ROLE pgTWIN = follow := by
  unfold Chip.setRole
  split
  · next h => simpa using h
  · rw [Chip.on, rd_pulse _ _ _ _ _ _ (by decide) (by decide), rd_up_same _ _ _ _ _ (by decide) (by decide)]
    cases follow <;> rfl

theorem mgmtFailAckTimeout_acts (hd : s.chip.due (tmKey tmMgmtAck 0) = true) (hf : s.chip.plumb.mgmtFail = true) :
    ∃ t, exec .mgmtFailAckTimeout s = .next t ∧ t.chip.plumb.mgmtSolo = true
      ∧ (s.chip.rd R.TWIN_STATE pgTWIN ≠ 4 → t.chip.rd R.TWIN_ROLE pgTWIN = 0) := by
  refine ⟨_, rfl, ?_⟩
  rw [State.onChip_chip, mgmtFailTimeout, if_pos (by simp [hd, hf])]
  extract_lets c1
  have state : c1.rd R.TWIN_STATE pgTWIN = s.chip.rd R.TWIN_STATE pgTWIN := rfl
  rw [state, (quiet_reFlt _).plumb]
  refine ⟨?_, fun h4 => ?_⟩
  · split
    · rfl
    · rw [(quiet_setRole _ false).plumb]
      rfl
  · rw [if_neg h4, ((lasting_key (k := fldKey R.TWIN_ROLE pgTWIN 0) (by decide)).reFlt (raiseMay_key (by decide)) _).rd]
    simpa [Chip.on] using setRole_role c1 false
end

/-! Thermal shutdown and the restart (R437, R438), and the glitch detectors (R502). -/

section
variable (s : State)

/-- A thermal shutdown as MRAM counts it and as Plumb notes it. -/
def Chip.overheated (c : Chip) : Chip :=
  ((c.modMram (fun m => { m with shutdowns := (c.now :: c.mram.shutdowns).take 3, cntShutdown := c.mram.cntShutdown + 1 })).wr
    R.THM_CNT_SHUTDOWN pgTHM (c.mram.cntShutdown + 1).toNat).modPlumb
      (fun p => { p with thermal := true, fenced := true, downWhy := 1, hib := false })

/-- The chip that a thermal shutdown has fenced, with THERMAL_SHUTDOWN raised and any pending reset abandoned. -/
def Chip.shutdownRaised (c : Chip) : Chip :=
  (foldc [tmS3, tmResetBegin, tmWdogRst, tmCool] (fun k c => c.disarm (tmKey k 0)) ((c.overheated.enterFenced 1).raise 8 0)).modPlumb
    (fun p => { p with rstWait := none })

theorem thermalShutdown_raised (c : Chip) (hp : c.plumb.porst = false) (hs : c.plumb.stopped = false) (ht : c.plumb.thermal = false) :
    Quiet c.shutdownRaised (thermalShutdown c) := by
  unfold thermalShutdown
  rw [if_neg (by simp [hp, hs, ht])]
  exact (Quiet.ite (quiet_up _ _ _ _ _) (.refl _)).trans (quiet_reFlt _)

theorem thermalShutdown_acts (hp : s.chip.plumb.porst = false) (hs : s.chip.plumb.stopped = false) (ht : s.chip.plumb.thermal = false) :
    ∃ t, exec .thermalShutdown s = .next t ∧ t.chip.plumb.thermal = true ∧ t.chip.plumb.fenced = true ∧ t.chip.plumb.downWhy = 1
      ∧ t.chip.plumb.rstWait = none ∧ t.chip.mram.cntShutdown = s.chip.mram.cntShutdown + 1 ∧ t.chip.armed (tmKey tmS3 0) = false := by
  have quiet := thermalShutdown_raised s.chip hp hs ht
  have plumb := ((still_enterFenced (l := true) s.chip.overheated 1).trans (still_raise _ 8 0 [])).plumb
  have fence : FenceStays s.chip.overheated ((s.chip.overheated.enterFenced 1).raise 8 0) := fun h =>
    fenceStays_raise _ 8 0 [] (fenceStays_enterFenced _ 1 h)
  have fenced : (s.chip.overheated.enterFenced 1).mram = s.chip.overheated.mram := confined_enterFenced (n := 0) _ 1 .mram (by decide)
  have raised : ((s.chip.overheated.enterFenced 1).raise 8 0).mram = (s.chip.overheated.enterFenced 1).mram :=
    confined_raise (n := 0) _ 8 0 [] .mram (by decide)
  refine ⟨_, rfl, ?_⟩
  rw [State.onChip_chip, quiet.plumb, quiet.mram, Chip.armed, quiet.timers]
  refine ⟨congrArg PlumbSt.thermal plumb, fence rfl, congrArg PlumbSt.downWhy plumb, rfl,
    congrArg (fun m => m.cntShutdown) (raised.trans fenced), ?_⟩
  simp [Chip.shutdownRaised, foldc, tmKey, tmS3, tmResetBegin, tmWdogRst, tmCool, mapGet_mapSet]

theorem thermalRestart_resets (hd : s.chip.due (tmKey tmCool 0) = true) (ht : s.chip.plumb.thermal = true)
    (hq : s.chip.rd R.SEQ_STATE pgSEQ ≠ 2) (hn : s.chip.plumb.downPos = none) (hl : s.chip.on R.THM_SHUTDOWN_LOCK pgTHM = false) :
    thermalRestart s = s.fullReset R.SYS_THERMAL false := by
  unfold thermalRestart
  exact if_pos (by simp [hd, ht, hq, hn, hl])

theorem thermalRestart_begins (hd : s.chip.due (tmKey tmCool 0) = true) (ht : s.chip.plumb.thermal = true)
    (hq : s.chip.rd R.SEQ_STATE pgSEQ ≠ 2) (hn : s.chip.plumb.downPos = none) (hl : s.chip.on R.THM_SHUTDOWN_LOCK pgTHM = false)
    (hw : s.chip.writeBusy = false) : ∃ t, exec .thermalRestart s = .next t ∧ t.chip.rd R.SYS_THERMAL pgSYS = 1
      ∧ t.chip.plumb.porst = false ∧ t.chip.plumb.rom = true ∧ t.chip.plumb.rstWait = none ∧ t.mem = [] ∧ t.cap = [] :=
  ⟨_, congrArg Host.Outcome.next (thermalRestart_resets s hd ht hq hn hl), fullReset_begins s R.SYS_THERMAL false hw (by decide)⟩

theorem thermalRestart_waits (hd : s.chip.due (tmKey tmCool 0) = true) (ht : s.chip.plumb.thermal = true)
    (hq : s.chip.rd R.SEQ_STATE pgSEQ ≠ 2) (hn : s.chip.plumb.downPos = none) (hl : s.chip.on R.THM_SHUTDOWN_LOCK pgTHM = false)
    (hw : s.chip.writeBusy = true) : ∃ t, exec .thermalRestart s = .next t ∧ t.chip.plumb.rstWait.isSome = true
      ∧ t.chip.plumb.locked = [] ∧ t.chip.plumb.mgmtUp = false ∧ t.mem = [] ∧ t.cap = [] :=
  ⟨_, congrArg Host.Outcome.next (thermalRestart_resets s hd ht hq hn hl), fullReset_waits s R.SYS_THERMAL false hw⟩

theorem glitched_count (c : Chip) : c.glitched.mram.cntGlitch = c.mram.cntGlitch + 1 := by
  have raised : (c.raise 3 0).mram = c.mram := confined_raise (n := 0) c 3 0 [] .mram (by decide)
  have fenced : ((c.raise 3 0).enterFenced 1).mram = (c.raise 3 0).mram := confined_enterFenced (n := 0) _ 1 .mram (by decide)
  rw [Chip.glitched, Chip.modMram_mram, fenced, raised]

variable (hp : s.chip.plumb.porst = false) (hs : s.chip.plumb.stopped = false)
include hp hs

theorem glitchDetect_begins (hw : s.chip.writeBusy = false) : ∃ t, exec .glitchDetect s = .next t ∧ t.chip.rd R.SYS_GLITCH pgSYS = 1
    ∧ t.chip.plumb.porst = false ∧ t.chip.plumb.rom = true ∧ t.chip.plumb.rstWait = none ∧ t.mem = [] ∧ t.cap = []
    ∧ t.chip.mram.cntGlitch = s.chip.mram.cntGlitch + 1 := by
  have ⟨cause, porst, rom, wait, mem, cap⟩ :=
    fullReset_begins (s.onChip Chip.glitched) R.SYS_GLITCH false ((glitched_writeBusy s.chip).trans hw) (by decide)
  exact ⟨_, exec_glitchDetect s hp hs, cause, porst, rom, wait, mem, cap,
    (congrArg (fun m => m.cntGlitch) (fullReset_mram _ _ _)).trans (glitched_count s.chip)⟩

theorem glitchDetect_waits (hw : s.chip.writeBusy = true) : ∃ t, exec .glitchDetect s = .next t ∧ t.chip.plumb.rstWait.isSome = true
    ∧ t.chip.plumb.locked = [] ∧ t.chip.plumb.mgmtUp = false ∧ t.mem = [] ∧ t.cap = []
    ∧ t.chip.mram.cntGlitch = s.chip.mram.cntGlitch + 1 := by
  have ⟨wait, locked, up, mem, cap⟩ :=
    fullReset_waits (s.onChip Chip.glitched) R.SYS_GLITCH false ((glitched_writeBusy s.chip).trans hw)
  exact ⟨_, exec_glitchDetect s hp hs, wait, locked, up, mem, cap,
    (congrArg (fun m => m.cntGlitch) (fullReset_mram _ _ _)).trans (glitched_count s.chip)⟩
end

end Sys2Proof.Machine
end

section
/-! PROOFS. Die and stage temperature sensors (R433 to R441). -/

namespace Sys2Proof.Machine

/-! Fields that are replaced together. -/

/-- Where all the values for one field are the same, and there is one or the field has it already, the field has it after the writes. -/
theorem rd_foldc_wr {f : Fld} {b i v : Nat} : ∀ (us : List (Fld × Nat × Nat)) (c : Chip),
    (∀ u ∈ us, fldKey u.1 b u.2.1 = fldKey f b i → u.2.2 % 2 ^ u.1.w = v) →
    ((∃ u ∈ us, fldKey u.1 b u.2.1 = fldKey f b i) ∨ c.rd f b i = v) →
    (foldc us (fun u c => c.wr u.1 b u.2.2 u.2.1) c).rd f b i = v := by
  intro us
  induction us with
  | nil =>
    rintro c - (⟨u, hu, -⟩ | h)
    · exact absurd hu (by simp)
    · exact h
  | cons u us ih =>
    intro c all has
    refine ih _ (fun x hx => all x (by simp [hx])) ?_
    by_cases e : fldKey u.1 b u.2.1 = fldKey f b i
    · right
      simp only [Chip.rd, Chip.wr_regs, ← e, mapGet_mapSet_same]
      exact all u (by simp) e
    · rcases has with ⟨x, hx, hk⟩ | h
      · rcases List.mem_cons.mp hx with rfl | hx
        · exact absurd hk e
        · exact .inl ⟨x, hx, hk⟩
      · exact .inr ((rd_wr_ne _ _ _ _ _ _ _ _ (Ne.symm e)).trans h)

/-! What the throttle leaves (R436). -/

/-- A field of a page below TWIN that neither the throttle nor a raise writes. -/
structure ThrottleLeaves (k : Nat) : Prop where
  raise : raiseLeaves k = true
  low : k / 32 < 0x9000
  step : k ≠ fldKey R.THM_STEP pgTHM 0

section
variable {k : Nat} (h : ThrottleLeaves k) (c : Chip)
include h

theorem ThrottleLeaves.still : noisy k = false := by
  have := h.raise
  simp only [raiseLeaves, Bool.and_eq_true, Bool.not_eq_true'] at this
  exact this.1.1.1.2

/-- Every field of TWIN's page is another one. -/
theorem ThrottleLeaves.twin (f : Fld) (i : Nat) : k ≠ fldKey f pgTWIN i := by
  have low := h.low
  rintro rfl
  simp only [fldKey, pgTWIN] at low
  omega

theorem ThrottleLeaves.raised (src inst : Nat) : KeyStands k c (c.raise src inst) := by
  refine keyStands_raise c h.raise src inst [] fun _ _ _ hk => ?_
  simp only [fenceKeys, List.mem_cons, List.not_mem_nil, or_false] at hk
  rcases hk with hk | hk | hk | hk <;> exact h.twin _ _ hk

theorem keyStands_reThrottle : KeyStands k c c.reThrottle := by
  have health (d : Chip) : KeyStands k d d.reHealth := by
    unfold Chip.reHealth Chip.putHealth
    extract_lets _ d1
    have shown : KeyStands k d d1 := keyStands_hw d h.still pgTWIN _ (by decide) (fun u _ => h.twin u.1 u.2.1)
    exact .ite (.refl d) (shown.trans (keyStands_send d1 _))
  unfold Chip.reThrottle
  extract_lets tMax onset cur k' edge new c1 c2
  have h1 : KeyStands k c c1 := ((keyStands_up c h.still _ _ _ 0 (by decide) h.step).trans (same_level _ pgTHM 0 _ (by decide) k h.still)).trans
    (same_level _ pgTHM 1 _ (by decide) k h.still)
  have h2 : KeyStands k c c2 := .ite ((h1.trans (keyStands_modPlumb c1 _)).trans (h.raised _ _ _)) h1
  exact .ite (.refl c) ((KeyStands.ite (h2.trans (h.raised c2 _ _)) h2).trans (health _))
end

/-! Die sensors (R433, R434). -/

theorem throttleLeaves_t {i : Nat} (hi : i < 64) : ThrottleLeaves (fldKey R.THM_T pgTHM i) := by
  have raise : ∀ j < 64, raiseLeaves (fldKey R.THM_T pgTHM j) = true := by decide
  refine ⟨raise i hi, ?_, ?_⟩
  · simp only [fldKey, R.THM_T, pgTHM]
    omega
  · intro e
    simp only [fldKey, R.THM_T, R.THM_STEP] at e
    omega

theorem throttleLeaves_failed {i : Nat} (hi : i < 64) : ThrottleLeaves (fldKey R.THM_FAILED pgTHM i) := by
  have raise : ∀ j < 64, raiseLeaves (fldKey R.THM_FAILED pgTHM j) = true := by decide
  refine ⟨raise i hi, ?_, fldKey_ne_of_lo (by decide)⟩
  simp only [fldKey, R.THM_FAILED, pgTHM]
  omega

/-- The fields that follow the readings (R434, R435). -/
def Chip.dieFields (c : Chip) (ts : Temps) : List (Fld × Nat × Nat) :=
  let vs := (upTo 64).map (fun i => (i, c.dieValue ts i))
  let top := vs.foldl (fun (b : Nat × Int) e => if b.2 < e.2 then e else b) (0, (vs.head?.getD (0, 0)).2)
  vs.map (fun e => (R.THM_T, e.1, unsgn 16 e.2)) ++ [(R.THM_T_MAX, 0, unsgn 16 top.2), (R.THM_HOT_SENSOR, 0, top.1)]

theorem diePut_eq (c : Chip) (ts : Temps) : c.diePut ts =
    (if (c.dieFields ts).all (fun u => c.rd u.1 pgTHM u.2.1 == u.2.2) then c else c.hw pgTHM (c.dieFields ts)).reThrottle := rfl

theorem dieFields_split (c : Chip) (ts : Temps) : ∃ a b : Nat, c.dieFields ts =
    (upTo 64).map (fun i => (R.THM_T, i, unsgn 16 (c.dieValue ts i))) ++ [(R.THM_T_MAX, 0, a), (R.THM_HOT_SENSOR, 0, b)] := by
  unfold Chip.dieFields
  extract_lets vs top
  exact ⟨unsgn 16 top.2, top.1, congrArg (· ++ _) List.map_map⟩

theorem thmT_ne_max (i : Nat) : fldKey R.THM_T pgTHM i ≠ fldKey R.THM_T_MAX pgTHM 0 := by
  intro e
  simp only [fldKey, R.THM_T, R.THM_T_MAX] at e
  omega

theorem unsgn_mod (w : Nat) (x : Int) : unsgn w x % 2 ^ w = unsgn w x := by
  have positive : (0 : Int) < 2 ^ w := by positivity
  have below := Int.emod_lt_of_pos x positive
  have least := Int.emod_nonneg x positive.ne'
  refine Nat.mod_eq_of_lt ?_
  unfold unsgn
  zify
  rw [Int.toNat_of_nonneg least]
  exact below

section
variable (c : Chip) (ts : Temps) {i : Nat} (hi : i < 64)
include hi

/-- A sensor's own field is among those, once. -/
theorem dieFields_t : (R.THM_T, i, unsgn 16 (c.dieValue ts i)) ∈ c.dieFields ts
    ∧ ∀ u ∈ c.dieFields ts, fldKey u.1 pgTHM u.2.1 = fldKey R.THM_T pgTHM i → u.2.2 % 2 ^ u.1.w = unsgn 16 (c.dieValue ts i) := by
  obtain ⟨x, y, split⟩ := dieFields_split c ts
  rw [split]
  refine ⟨List.mem_append_left _ (List.mem_map.mpr ⟨i, List.mem_range.mpr hi, rfl⟩), fun u hu e => ?_⟩
  rcases List.mem_append.mp hu with hu | hu
  · obtain ⟨j, -, rfl⟩ := List.mem_map.mp hu
    have copy : j = i := by
      by_contra h
      exact fldKey_ne_of_copy (f := R.THM_T) (by decide) h e
    rw [copy]
    exact unsgn_mod 16 _
  · simp only [List.mem_cons, List.not_mem_nil, or_false] at hu
    rcases hu with rfl | rfl
    · exact absurd e.symm (thmT_ne_max i)
    · exact absurd e.symm (fldKey_ne_of_lo (f := R.THM_T) (g := R.THM_HOT_SENSOR) (by decide))

/-- The value in use of a sensor is shown (R434). -/
theorem diePut_t : (c.diePut ts).rd R.THM_T pgTHM i = unsgn 16 (c.dieValue ts i) := by
  obtain ⟨mem, only⟩ := dieFields_t c ts hi
  have leaves := throttleLeaves_t hi
  rw [diePut_eq, (keyStands_reThrottle leaves _).rd]
  split
  · next all => simpa using List.all_eq_true.mp all _ mem
  · rw [rd_hw _ _ _ _ _ _ (by decide) leaves.still]
    exact rd_foldc_wr _ c only (.inl ⟨_, mem, rfl⟩)

/-- Which sensors are FAILED stands. -/
theorem diePut_failed : (c.diePut ts).rd R.THM_FAILED pgTHM i = c.rd R.THM_FAILED pgTHM i := by
  have leaves := throttleLeaves_failed hi
  rw [diePut_eq, (keyStands_reThrottle leaves _).rd]
  split
  · rfl
  · refine (keyStands_hw c leaves.still pgTHM _ (by decide) fun u hu => ?_).rd
    obtain ⟨x, y, split⟩ := dieFields_split c ts
    rw [split] at hu
    rcases List.mem_append.mp hu with hu | hu
    · obtain ⟨j, -, rfl⟩ := List.mem_map.mp hu
      exact fldKey_ne_of_lo (f := R.THM_FAILED) (g := R.THM_T) (by decide)
    · simp only [List.mem_cons, List.not_mem_nil, or_false] at hu
      rcases hu with rfl | rfl
      · exact fldKey_ne_of_lo (f := R.THM_FAILED) (g := R.THM_T_MAX) (by decide)
      · exact fldKey_ne_of_lo (f := R.THM_FAILED) (g := R.THM_HOT_SENSOR) (by decide)
end

theorem dieSensorRead_acts (s : State) (ts : Temps) (hp : s.chip.plumb.porst = false) (hs : s.chip.plumb.stopped = false)
    (hf : ∀ i < 64, s.chip.dieFailed i = false) :
    ∃ t, exec (.dieSensorRead ts) s = .next t ∧ ∀ i < 64, t.chip.rd R.THM_T pgTHM i = unsgn 16 (tempAt ts i) := by
  refine ⟨_, rfl, fun i hi => ?_⟩
  rw [State.onChip_chip, dieSensorRead, if_neg (by simp [hp, hs])]
  extract_lets odd since c1 cool
  have put : c1.rd R.THM_T pgTHM i = unsgn 16 (tempAt ts i) := by
    have value : (s.chip.modPlumb (fun p => { p with failed := odd.map (fun i => (i, since i)) })).dieValue ts i = tempAt ts i :=
      if_pos (by rw [Bool.not_eq_true']; exact hf i hi)
    rw [← value]
    exact diePut_t _ ts hi
  clear_value c1
  rw [← put]
  split_ifs <;> rfl

theorem dieSensorFailed_acts (s : State) (k : Sensor) (u : Nat)
    (hk : s.chip.plumb.failed.find? (fun e => e.1 == k.val) = some (k.val, u)) (hu : u + 100 * dqMs ≤ s.chip.now)
    (hf : s.chip.dieFailed k.val = false) : ∃ t, exec (.dieSensorFailed k) s = .next t ∧ t.chip.rd R.THM_FAILED pgTHM k.val = 1 := by
  have leaves := throttleLeaves_failed k.isLt
  refine ⟨_, rfl, ?_⟩
  rw [State.onChip_chip, dieSensorFailed, hk]
  dsimp only
  rw [if_pos ⟨hu, by simp [hf]⟩, diePut_failed _ _ k.isLt, (leaves.raised _ 9 k.val).rd,
    rd_pulse _ _ _ _ _ _ (by decide) leaves.still, Chip.modPlumb_rd]
  exact rd_up_same _ _ _ _ _ (by decide) leaves.still

/-! Stage sensors (R439, R441). -/

theorem bitOf_setBitN_off (v : Nat) {n : Nat} (hn : n < 32) : bitOf (setBitN v n false % 2 ^ 32) n = false := by
  have mask : (2 ^ 32 - 1 - 2 ^ n).testBit n = false := by
    rw [show 2 ^ 32 - 1 - 2 ^ n = 2 ^ 32 - (2 ^ n + 1) by omega, Nat.testBit_two_pow_sub_succ (Nat.pow_lt_pow_right (by decide) hn)]
    simp
  have off : (setBitN v n false).testBit n = false := by
    rw [setBitN, if_neg (by decide), Nat.testBit_and, mask, Bool.and_false]
  rw [bitOf_mod _ _ _ hn]
  rw [Nat.testBit_eq_decide_div_mod_eq] at off
  simpa [bitOf] using off

/-- The word and the bit of SS_FAILED of a port's item. -/
theorem ssFailed_word (p : Port) (b : Bool) : (2 * p.val + b2n b) / 32 < 12 ∧ (2 * p.val + b2n b) % 32 < 32 := by
  have hp := p.isLt
  have hb : b2n b ≤ 1 := by cases b <;> decide
  omega

theorem throttleLeaves_ss {w : Nat} (hw : w < 12) : ThrottleLeaves (fldKey R.THM_SS_FAILED pgTHM w) := by
  have raise : ∀ j < 12, raiseLeaves (fldKey R.THM_SS_FAILED pgTHM j) = true := by decide
  refine ⟨raise w hw, ?_, ?_⟩
  · simp only [fldKey, R.THM_SS_FAILED, pgTHM]
    omega
  · intro e
    simp only [fldKey, R.THM_SS_FAILED, R.THM_STEP] at e
    omega

section
variable (c : Chip) (p : Port)

/-- Derating is shown in the port's page, and may be raised: it leaves SS_FAILED, and no event of THM ends. -/
theorem derateJudge_leaves : (∀ w < 12, KeyStands (fldKey R.THM_SS_FAILED pgTHM w) c (c.derateJudge p.val))
    ∧ EvtStays R.EVT_LATCH pgTHM 2 c (c.derateJudge p.val) := by
  have latch : EvtField R.EVT_LATCH pgTHM := ⟨.inr rfl, by decide⟩
  unfold Chip.derateJudge
  split
  · exact ⟨fun _ _ => .refl c, id⟩
  extract_lets z c1
  have page := pgSP_page p.val
  have shown (w : Nat) (hw : w < 12) : KeyStands (fldKey R.THM_SS_FAILED pgTHM w) c c1 :=
    keyStands_up c (throttleLeaves_ss hw).still _ _ _ 0 page.1 (fldKey_ne_of_lo (by decide))
  have h1 : EvtStays R.EVT_LATCH pgTHM 2 c c1 :=
    (lasting_evt latch (n := 2) (by decide) (by decide)).up c _ _ _ 0 page.1 (fldKey_ne_of_lo (by decide))
  refine ⟨fun w hw => .ite (.refl c) (.ite ((shown w hw).trans ((throttleLeaves_ss hw).raised c1 _ _)) (shown w hw)), ?_⟩
  split
  · exact id
  · split
    · exact fun e => evtStays_raise c1 latch (by decide) (by decide) (by decide) (by decide) 0x44 p.val [] (h1 e)
    · exact h1

variable (b : Bool)

/-- The bit of an item follows (R441). -/
theorem stageFailed_shows (on : Bool) :
    (c.stageFailed p.val b on).rd R.THM_SS_FAILED pgTHM ((2 * p.val + b2n b) / 32) =
      setBitN (c.rd R.THM_SS_FAILED pgTHM ((2 * p.val + b2n b) / 32)) ((2 * p.val + b2n b) % 32) on % 2 ^ 32 :=
  rd_up_same _ _ _ _ _ (by decide) (throttleLeaves_ss (ssFailed_word p b).1).still
end

section
variable (s : State) (p : Port) (b : Bool)

theorem stageSensorFail_acts (hx : (s.chip.stageItem p.val b).1 ≠ 0x80000)
    (hk : bitOf (s.chip.rd R.THM_SS_FAILED pgTHM ((2 * p.val + b2n b) / 32)) ((2 * p.val + b2n b) % 32) = false)
    (hr : s.chip.stageInRange (s.chip.stageItem p.val b).1 = false ∨ s.chip.stageStuck p.val b = true) :
    ∃ t, exec (.stageSensorFail p b) s = .next t
      ∧ bitOf (t.chip.rd R.THM_SS_FAILED pgTHM ((2 * p.val + b2n b) / 32)) ((2 * p.val + b2n b) % 32) = true
      ∧ bitOf (t.chip.rd R.EVT_LATCH pgTHM) 2 = true := by
  have ⟨word, bit⟩ := ssFailed_word p b
  have leaves := throttleLeaves_ss word
  have failed : stageSensorFail s.chip p.val b =
      (((s.chip.stageFailed p.val b true).pulse pgTHM 2).raise 0xA p.val).derateJudge p.val := by
    rcases item : s.chip.stageItem p.val b with ⟨x, since, good⟩
    rw [item] at hx hr
    unfold stageSensorFail
    rw [item]
    dsimp only
    rw [if_neg (fun h => h.elim hx (by simp [hk])), if_pos (by rcases hr with hr | hr <;> simp [hr])]
  refine ⟨_, rfl, ?_⟩
  rw [State.onChip_chip, failed]
  have ⟨stands, latched⟩ := derateJudge_leaves (((s.chip.stageFailed p.val b true).pulse pgTHM 2).raise 0xA p.val) p
  refine ⟨?_, latched (evtStays_raise _ ⟨.inr rfl, by decide⟩ (by decide) (by decide) (by decide) (by decide) 0xA p.val []
    (pulse_sets _ pgTHM 2 (by decide) (by decide)))⟩
  rw [(stands _ word).rd, (leaves.raised _ 0xA p.val).rd, rd_pulse _ _ _ _ _ _ (by decide) leaves.still, stageFailed_shows,
    bitOf_mod _ _ _ bit]
  exact bitOf_or_self _ _

theorem stageSensorRecover_acts
    (hk : bitOf (s.chip.rd R.THM_SS_FAILED pgTHM ((2 * p.val + b2n b) / 32)) ((2 * p.val + b2n b) % 32) = true)
    (hr : s.chip.stageInRange (s.chip.stageItem p.val b).1 = true) (hs : s.chip.stageStuck p.val b = false)
    (hg : (s.chip.stageItem p.val b).2.2 + 10 * dqS ≤ s.chip.now) : ∃ t, exec (.stageSensorRecover p b) s = .next t
      ∧ bitOf (t.chip.rd R.THM_SS_FAILED pgTHM ((2 * p.val + b2n b) / 32)) ((2 * p.val + b2n b) % 32) = false := by
  have ⟨word, bit⟩ := ssFailed_word p b
  have recovered : stageSensorRecover s.chip p.val b = (s.chip.stageFailed p.val b false).derateJudge p.val := by
    rcases item : s.chip.stageItem p.val b with ⟨x, since, good⟩
    rw [item] at hr hg
    unfold stageSensorRecover
    rw [item]
    exact if_pos (by simp [hk, hr, hs, hg])
  refine ⟨_, rfl, ?_⟩
  rw [State.onChip_chip, recovered, ((derateJudge_leaves _ p).1 _ word).rd, stageFailed_shows]
  exact bitOf_setBitN_off _ bit
end

/-- Settles O20: raises show in FCU, resets are the full reset of their cause, and a field of THM stands through raises and the throttle. -/
theorem faultAndThermalCommandsAct : Obligations.FaultAndThermalCommandsAct :=
  ⟨fun s k i hp hs => faultRaise_acts s k hp hs i, wireFault_acts, s3ResetDelay_begins, s3ResetDelay_waits, s3ResetDelay_ends, mgmtFail_alone,
    mgmtFail_asks, mgmtFailAckRx_acts, mgmtFailAckTimeout_acts, dieSensorRead_acts, dieSensorFailed_acts, thermalShutdown_acts,
    thermalRestart_begins, thermalRestart_waits, stageSensorFail_acts, stageSensorRecover_acts, glitchDetect_begins, glitchDetect_waits⟩

end Sys2Proof.Machine
end

section
/-! PROOFS. The Chain paths, digests and agreed ticks (R336, R340, R343, R345). -/

namespace Sys2Proof.Machine

theorem chainIn_on {c : Chip} (h : c.banksOn = true) (f : Chip → Chip) : c.chainIn f = f c := if_pos h

/-! The paths (R336). -/

/-- A live bit that rises is live. -/
theorem riseEvt_live (c : Chip) {b n : Nat} (hb : b % 4096 = 0) (hn : n < 32) : bitOf ((c.riseEvt b n).rd R.EVT_LIVE b) n = true := by
  have live : EvtField R.EVT_LIVE b := ⟨.inl rfl, hb⟩
  unfold Chip.riseEvt
  split
  · next h => exact evtStays_latchEvt live c hn b n hb h
  · extract_lets c1
    have set : bitOf ((c.wr R.EVT_LIVE b (c.rd R.EVT_LIVE b ||| 2 ^ n)).rd R.EVT_LIVE b) n = true := by
      rw [rd_wr_same, show R.EVT_LIVE.w = 32 from rfl, bitOf_mod _ _ _ hn]
      exact bitOf_or_self _ _
    have h1 : bitOf (c1.rd R.EVT_LIVE b) n = true :=
      evtStays_latchEvt live _ hn b n hb (live.same1 (n := n) (same1_pmcEvent _ b _ 1 hb) set)
    split
    · exact live.same1 (Same1.of_eq (capCause_regs c1 _)) h1
    · exact h1
    · exact h1

section
variable (s : State) (k : Bool)

/-- The UP bit of a path is neither changed by events nor written by a raise or by joining. -/
theorem chUp_apart : noisy (fldKey (chUp k) pgTWIN 0) = false ∧ raiseLeaves (fldKey (chUp k) pgTWIN 0) = true
    ∧ fldKey (chUp k) pgTWIN 0 ∉ fenceKeys ∧ fldKey (chUp k) pgTWIN 0 ∉ joinKeys := by
  cases k <;> decide

theorem chainPathDown_acts (hk : s.chip.on (chUp k) pgTWIN = true) : ∃ t, exec (.chainPathDown k) s = .next t
    ∧ t.chip.on (chUp k) pgTWIN = false ∧ bitOf (t.chip.rd R.EVT_LIVE pgTWIN) 6 = true := by
  have ⟨still, leaves, fence, _⟩ := chUp_apart k
  obtain ⟨d, hd⟩ : ∃ d, s.chip.up (chUp k) pgTWIN 0 = d := ⟨_, rfl⟩
  have down : d.rd (chUp k) pgTWIN = 0 := by
    rw [← hd, rd_up_same _ _ _ _ _ (by decide) still]
    exact Nat.zero_mod _
  have path : d.pathLevel.rd (chUp k) pgTWIN = 0 := (rd_level _ _ _ _ _ _ _ (by decide) still).trans down
  have live : bitOf (d.pathLevel.rd R.EVT_LIVE pgTWIN) 6 = true := by
    have cut : (!(d.on R.TWIN_CH0_UP pgTWIN && d.on R.TWIN_CH1_UP pgTWIN)) = true := by
      cases k <;> simp_all [chUp, Chip.on]
    rw [Chip.pathLevel, cut, Chip.level, if_pos rfl]
    split
    · assumption
    · exact riseEvt_live d (by decide) (by decide)
  refine ⟨_, rfl, ?_⟩
  rw [State.onChip_chip, chainPathDown, if_pos hk, hd]
  refine ⟨?_, evtStays_raise _ ⟨.inl rfl, by decide⟩ (by decide) (by decide) (by decide) (by decide) 0x82 (b2n k) [] live⟩
  rw [Chip.on, (keyStands_raise d.pathLevel leaves 0x82 (b2n k) [] (fun _ _ _ => fence)).rd, path]
  rfl

theorem enterJoining_heard (c : Chip) (phase ms : Nat) : (c.enterJoining phase ms).twin.heard = c.twin.heard := by
  unfold Chip.enterJoining
  extract_lets c1 c2 c3
  have h1 : c1.twin = c.twin := ((quiet_hw c _ _).trans (quiet_setRole _ true)).twin
  have h3 : c3.twin.heard = c.twin.heard := by
    rw [Chip.disarm_twin, Chip.arm_twin, Chip.modTwin_twin, h1]
  split
  · rw [Chip.send_twin, h3]
  · exact h3

/-- A FENCED chip whose Chain is back joins again: the UP bit of a path and the time of the last message stand (R337). -/
theorem fencedRejoin_leaves (c : Chip) : c.fencedRejoin.rd (chUp k) pgTWIN = c.rd (chUp k) pgTWIN ∧ c.fencedRejoin.twin.heard = c.twin.heard := by
  have ⟨still, leaves, _, join⟩ := chUp_apart k
  simp only [raiseLeaves, Bool.and_eq_true] at leaves
  obtain ⟨⟨⟨⟨spares, -⟩, -⟩, -⟩, -⟩ := leaves
  unfold Chip.fencedRejoin
  split
  · have joined := keyStands_enterJoining (c.modPlumb (fun p => { p with fenced := false })) 0 5 still join
    refine ⟨(joined.trans ((lasting_key still).reFlt (raiseMay_key spares) _)).rd, ?_⟩
    rw [(quiet_reFlt _).twin, enterJoining_heard]
    rfl
  · exact ⟨rfl, rfl⟩

theorem chainPathUp_acts (hb : s.chip.banksOn = true) (hk : s.chip.on (chUp k) pgTWIN = false) : ∃ t, exec (.chainPathUp k) s = .next t
    ∧ t.chip.on (chUp k) pgTWIN = true ∧ t.chip.twin.heard = s.chip.now := by
  have ⟨still, _⟩ := chUp_apart k
  have quiet : Quiet s.chip ((s.chip.up (chUp k) pgTWIN 1).pathLevel) := (quiet_up _ _ _ _ _).trans (quiet_level _ _ _ _)
  have up : ((s.chip.up (chUp k) pgTWIN 1).pathLevel).rd (chUp k) pgTWIN = 1 := by
    rw [Chip.pathLevel, rd_level _ _ _ _ _ _ _ (by decide) still, rd_up_same _ _ _ _ _ (by decide) still]
    cases k <;> rfl
  refine ⟨_, rfl, ?_⟩
  rw [State.onChip_chip, chainIn_on hb, chainPathUp, if_neg (by simp [hk])]
  dsimp only
  have ⟨stands, heard⟩ := fencedRejoin_leaves k ((s.chip.up (chUp k) pgTWIN 1).pathLevel).hear
  refine ⟨?_, ?_⟩
  · rw [Chip.on, stands]
    exact congrArg (· != 0) up
  · rw [heard]
    exact quiet.now
end

/-! Digests (R343, R345). -/

section
variable (c : Chip) (u : Nat)

/-- What agrees on a result of class C changes no register. -/
theorem classCMatch_frame (ks : List Nat) : Confined 0 [.twin, .sent] c (c.classCMatch ks) := by
  unfold Chip.classCMatch
  refine .foldc (fun i c => ?_) c
  have noted : Confined 0 [.twin, .sent] c (c.modTwin (fun t =>
      { t with classC := t.classC.map (fun r => if r.item = i then { r with peerOk := true } else r) })) := confined_modTwin c _
  exact .ite (noted.trans (confined_proposeAt _ 0 0 _)) noted

theorem digestMatch_frame (gs : List Nat) : Confined 0 [.twin, .fwu, .sent] c (c.digestMatch u gs) := by
  have passed (d : Chip) : Confined 0 [.twin, .fwu, .sent] d (d.swapPassed u gs) := by
    unfold Chip.swapPassed
    split
    · exact .ite (confined_modFwu d _) (.refl d)
    · exact .refl d
  have matched : Confined 0 [.twin, .fwu, .sent] c (if gs.contains 12 then c.classCMatch (c.groupKeys u 12) else c) :=
    .ite (classCMatch_frame c _).mono (.refl c)
  unfold Chip.digestMatch
  extract_lets c1
  have h1 : Confined 0 [.twin, .fwu, .sent] c c1 := matched.trans (passed _)
  exact .ite (h1.trans (confined_modTwin c1 _)) h1

theorem resync_frame (ls : List Nat) : Confined 0 [.twin, .sent] c (c.resync ls) := by
  unfold Chip.resync
  extract_lets all c1
  have h1 : Confined 0 [.twin, .sent] c c1 := confined_modTwin c _
  exact .ite (h1.trans (.foldc (fun _ c => confined_proposeAt c 0 0 _) c1)) h1

/-- The key of TWIN's count of mismatches. -/
def mismatchKey : Nat := fldKey R.TWIN_CNT pgTWIN 0

theorem mismatches_raise (src inst : Nat) : KeyStands mismatchKey c (c.raise src inst) :=
  keyStands_raise c (by decide) src inst [] (fun _ _ _ => by decide)

theorem mismatches_up (f : Fld) (b v i : Nat) (hb : b % 4096 = 0) (h : mismatchKey ≠ fldKey f b i) : KeyStands mismatchKey c (c.up f b v i) :=
  keyStands_up c (by decide) f b v i hb h

theorem mismatches_mismatchNote : KeyStands mismatchKey c (c.mismatchNote u) := by
  have noted := (mismatches_raise c 0x83 0).trans (keyStands_pulse _ (by decide) pgTWIN 1 (by decide))
  have shown := keyStands_hw ((c.raise 0x83 0).pulse pgTWIN 1) (k := mismatchKey) (by decide) pgTWIN
    [(R.TWIN_LAST_MISMATCH_LO, 0, u % 2 ^ 32), (R.TWIN_LAST_MISMATCH_HI, 0, u / 2 ^ 32)] (by decide) (by
      simp only [List.forall_mem_cons]
      exact ⟨by decide, by decide, by simp⟩)
  exact (noted.trans shown).trans ((mismatches_up _ R.TWIN_RECOVERING pgTWIN 1 0 (by decide) (by decide)).trans (keyStands_arm _ _ _))

theorem mismatches_joinFailed : KeyStands mismatchKey c c.joinFailed := by
  unfold Chip.joinFailed
  extract_lets n c1
  have phase : KeyStands mismatchKey c ((c.up R.TWIN_JOIN_PHASE pgTWIN 0).disarm (tmKey tmPhase 0)) :=
    mismatches_up c _ _ _ 0 (by decide) (by decide)
  have failed : KeyStands mismatchKey c1 ((c1.up R.TWIN_JOIN_FAIL pgTWIN 1).pulse pgTWIN 7) :=
    (mismatches_up c1 _ _ _ 0 (by decide) (by decide)).trans (keyStands_pulse _ (by decide) pgTWIN 7 (by decide))
  have h1 : KeyStands mismatchKey c c1 := phase.trans (keyStands_modTwin _ _)
  exact .ite (.refl c) (.ite (.ite (h1.trans (failed.trans (mismatches_raise _ 0x89 0))) (h1.trans (keyStands_arm c1 _ _)))
    (.ite (phase.trans (keyStands_modTwin _ _)) (.refl c)))

theorem mismatches_disagree (ls : List Nat) : KeyStands mismatchKey c (c.disagree u ls) := by
  have L : Lasting (mismatchKey ≠ ·) (KeyStands mismatchKey) := lasting_key (by decide)
  have W : RaiseMay (mismatchKey ≠ ·) := raiseMay_key (by decide)
  unfold Chip.disagree
  extract_lets again c1 c2 es c3
  have h1 : KeyStands mismatchKey c c1 := mismatches_mismatchNote c u
  have h2 : KeyStands mismatchKey c c2 :=
    ((h1.trans (L.swapAbort W c1 0xC)).trans (L.settleFail W _)).trans (keyStands_modTwin _ _)
  have h3 : KeyStands mismatchKey c c3 := (h2.trans (mismatches_up c2 _ _ _ 0 (by decide) (by decide))).trans (keyStands_modTwin _ _)
  have check (e : Nat) (d : Chip) : KeyStands mismatchKey d (d.selfcheckStart e) := by
    unfold Chip.selfcheckStart
    refine .ite (mismatches_up d _ _ _ 0 (pgCE_page e).1 ?_) (.refl d)
    simp only [mismatchKey, fldKey, pgCE, pgTWIN, R.TWIN_CNT]
    omega
  exact .ite (h2.trans (mismatches_raise c2 _ _)) (h3.trans (.foldc check c3))
end

/-- The groups whose digests differ, and the others. -/
def Chip.badGroups (c : Chip) (u : Nat) (ds : Digests) : List Nat :=
  (ds.filter (fun d => decide (d.1 ≤ 12) && c.ownDigest u d.1 != d.2.toNat)).map (fun d => d.1)

def Chip.goodGroups (c : Chip) (u : Nat) (ds : Digests) : List Nat :=
  (ds.map (fun d => d.1)).filter (fun g => !(c.badGroups u ds).contains g)

/-- The keys that differ in truth (R343). -/
def Chip.diffKeys (c : Chip) (u : Nat) (ds : Digests) (its : List ItemDigest) : List Nat :=
  c.realDiff u its ((c.badGroups u ds).flatMap (c.differing u its))

/-- The results on which the twins agree are taken, whether their groups agree or differ. -/
def Chip.alikeTaken (c : Chip) (u : Nat) (ds : Digests) (its : List ItemDigest) : Chip :=
  (c.hear.digestMatch u (c.goodGroups u ds)).classCMatch (c.alikeC u its)

/-- A mismatch counted, and the twin asked for the items. -/
def Chip.mismatched (c : Chip) (u : Nat) (ds : Digests) (its : List ItemDigest) : Chip :=
  (((c.alikeTaken u ds its).bump R.TWIN_CNT pgTWIN 0).modTwin (fun t => { t with digestGood := none })).send
    (.chain (.items u (c.ownItems u (c.badGroups u ds))))

/-- Digests that the chip compares at tick `u`. -/
structure Comparing (c : Chip) (u : Nat) : Prop where
  on : c.banksOn = true
  compares : c.compares = true
  past : u < c.tick
  recent : c.tick < u + 64

section
variable (c : Chip) (u : Nat) (ds : Digests) (its : List ItemDigest)

theorem mismatches_alikeTaken : KeyStands mismatchKey c (c.alikeTaken u ds its) :=
  have matched : KeyStands mismatchKey c.hear (c.hear.digestMatch u (c.goodGroups u ds)) := .of_confined (digestMatch_frame c.hear u _)
  have heard : KeyStands mismatchKey c c.hear := keyStands_modTwin c (fun t => { t with heard := c.now })
  (heard.trans matched).trans (.of_confined (classCMatch_frame _ _))

theorem mismatched_counts : (c.mismatched u ds its).rd R.TWIN_CNT pgTWIN 0 = (c.rd R.TWIN_CNT pgTWIN 0 + 1) % 2 ^ 32 := by
  rw [Chip.mismatched, Chip.send_rd, Chip.modTwin_rd, rd_bump_same]
  exact congrArg (fun n => (n + 1) % 2 ^ 32) (mismatches_alikeTaken c u ds its).rd

variable {c u} (h : Comparing c u)
include h

/-- No group differs. -/
theorem digestRx_same (hb : c.badGroups u ds = []) : digestRx c u ds its = c.hear.digestMatch u (c.goodGroups u ds) := by
  unfold digestRx
  have past := h.past
  have recent := h.recent
  rw [if_neg (by simp [h.compares]; omega)]
  exact if_pos hb

/-- Groups differ, and no item does in truth. -/
theorem digestRx_alike (hb : c.badGroups u ds ≠ []) (hk : c.diffKeys u ds its = []) :
    digestRx c u ds its = (c.alikeTaken u ds its).send (.chain (.items u (c.ownItems u (c.badGroups u ds)))) := by
  unfold digestRx
  have past := h.past
  have recent := h.recent
  rw [if_neg (by simp [h.compares]; omega)]
  exact (if_neg hb).trans (if_pos hk)

/-- Items differ: the mismatch is counted, whatever it is followed by. -/
theorem digestRx_mismatch (hk : c.diffKeys u ds its ≠ []) : KeyStands mismatchKey (c.mismatched u ds its) (digestRx c u ds its) := by
  have hb : c.badGroups u ds ≠ [] := fun e => hk (by rw [Chip.diffKeys, e]; rfl)
  have past := h.past
  have recent := h.recent
  unfold digestRx
  rw [if_neg (by simp [h.compares]; omega)]
  extract_lets bad good c1 keys c2 ports why ls
  rw [if_neg (show bad ≠ [] from hb), if_neg (show keys ≠ [] from hk)]
  change KeyStands mismatchKey c2 _
  have explained : KeyStands mismatchKey c2 ((c2.bump R.TWIN_CNT pgTWIN 1).resync ls) :=
    (keyStands_bump c2 R.TWIN_CNT pgTWIN 1 (by decide)).trans (.of_confined (resync_frame _ ls))
  exact .ite explained (.ite ((mismatches_mismatchNote c2 u).trans (mismatches_joinFailed _)) (mismatches_disagree c2 u ls))
end

section
variable (s : State) (u : Nat) (ds : Digests) (its : ItemDigests) (h : Comparing s.chip u)
include h

theorem exec_digestRx : exec (.digestRx u ⟨ds, its⟩) s = .next (s.onChip (fun _ => digestRx s.chip u ds its)) :=
  congrArg Host.Outcome.next (congrArg (fun d => { s with chip := d }) (chainIn_on h.on _))

theorem digestRx_matches (hall : ds.all (fun d => !decide (d.1 ≤ 12) || s.chip.ownDigest u d.1 == d.2.toNat) = true) :
    ∃ t, exec (.digestRx u ⟨ds, its⟩) s = .next t ∧ t = s.onChip (fun c => c.hear.digestMatch u (ds.map (fun d => d.1))) := by
  have none' : s.chip.badGroups u ds = [] := by
    rw [Chip.badGroups, List.map_eq_nil_iff, List.filter_eq_nil_iff]
    intro d hd
    have := List.all_eq_true.mp hall d hd
    simp only [Bool.or_eq_true, Bool.not_eq_true', decide_eq_false_iff_not, beq_iff_eq] at this
    simp only [Bool.and_eq_true, decide_eq_true_eq, bne_iff_ne, ne_eq, not_and, not_not]
    exact fun h => this.resolve_left (fun n => n h)
  have all : s.chip.goodGroups u ds = ds.map (fun d => d.1) := by
    rw [Chip.goodGroups, none']
    simp
  exact ⟨_, exec_digestRx s u ds its h, by rw [digestRx_same ds its h none', all]; rfl⟩

theorem digestRx_counts (hk : s.chip.diffKeys u ds its ≠ []) : ∃ t, exec (.digestRx u ⟨ds, its⟩) s = .next t
    ∧ t.chip.rd R.TWIN_CNT pgTWIN 0 = (s.chip.rd R.TWIN_CNT pgTWIN 0 + 1) % 2 ^ 32 :=
  ⟨_, exec_digestRx s u ds its h, (digestRx_mismatch ds its h hk).rd.trans (mismatched_counts s.chip u ds its)⟩

theorem digestRx_countsNone (hk : s.chip.diffKeys u ds its = []) : ∃ t, exec (.digestRx u ⟨ds, its⟩) s = .next t
    ∧ t.chip.rd R.TWIN_CNT pgTWIN 0 = s.chip.rd R.TWIN_CNT pgTWIN 0 := by
  refine ⟨_, exec_digestRx s u ds its h, ?_⟩
  rw [State.onChip_chip]
  by_cases hb : s.chip.badGroups u ds = []
  · rw [digestRx_same ds its h hb]
    exact (KeyStands.of_confined (digestMatch_frame s.chip.hear u _)).rd
  · rw [digestRx_alike ds its h hb hk, Chip.send_rd]
    exact (mismatches_alikeTaken s.chip u ds its).rd
end

/-! Agreed ticks, and the results of a resolution (R340, R345). -/

section
variable (s : State)

theorem resolveOutcome_acts (r : Bool) (hb : s.chip.banksOn = true) (hr : s.chip.on R.TWIN_RESOLVING pgTWIN = true)
    (ho : s.chip.twin.ownPass = none) : ∃ t, exec (.resolveOutcome r) s = .next t ∧ t.chip.twin.peerPass = some r
      ∧ t.chip.twin.heard = s.chip.now := by
  have waits (c : Chip) (h : c.twin.ownPass = none) : c.outcome = c := by
    unfold Chip.outcome
    rw [h]
  have waiting : s.chip.hear.on R.TWIN_RESOLVING pgTWIN = true := hr
  refine ⟨_, rfl, ?_⟩
  rw [State.onChip_chip, chainIn_on hb, resolveOutcome]
  rw [if_pos waiting, waits (s.chip.hear.modTwin (fun t => { t with peerPass := some r })) ho]
  exact ⟨rfl, rfl⟩

theorem agreeProposal_acts (x : Nat) (i : AgreedItem) (hb : s.chip.banksOn = true)
    (hst : s.chip.rd R.TWIN_STATE pgTWIN = 2 ∨ (s.chip.rd R.TWIN_STATE pgTWIN = 3 ∧ s.chip.leads = false)) (hx : s.chip.tick < x)
    (hp : s.chip.fwu.paused = false ∨ waitsPause i = false) : ∃ t, exec (.agreeProposal x i) s = .next t
      ∧ t.chip.twin.agree = s.chip.twin.agree ++ [{ x := x, item := i, acked := true, mine := false }]
      ∧ t.chip.sent = Out.chain (.ack x) :: s.chip.sent := by
  have taken : agreeProposal s.chip x i = (s.chip.hear.modTwin (fun t =>
      { t with agree := t.agree ++ [{ x := x, item := i, acked := true, mine := false }] })).send (.chain (.ack x)) := by
    unfold agreeProposal
    rw [if_neg (by rcases hp with hp | hp <;> simp [hp])]
    exact if_pos ⟨by simpa using hst, hx⟩
  have unfenced : s.chip.rd R.TWIN_STATE pgTWIN ≠ 4 := by omega
  refine ⟨_, rfl, ?_⟩
  rw [State.onChip_chip, chainIn_on hb, taken]
  refine ⟨by rw [Chip.send_twin]; rfl, Chip.send_chain _ _ ?_⟩
  have banks : (s.chip.hear.modTwin (fun t => { t with agree := t.agree ++ [{ x := x, item := i, acked := true, mine := false }] })).banksOn = true :=
    hb
  simp only [Chip.chainOpen, banks, Bool.true_and, Bool.or_eq_true, bne_iff_ne, ne_eq]
  exact .inl unfenced

theorem agreeAck_acts (x : Nat) (hb : s.chip.banksOn = true) : ∃ t, exec (.agreeAck x) s = .next t
    ∧ t.chip.twin.agree = s.chip.twin.agree.map (fun a => if a.mine && a.x == x then { a with acked := true } else a)
    ∧ t.chip.twin.heard = s.chip.now :=
  ⟨_, congrArg Host.Outcome.next (congrArg (fun d => { s with chip := d }) (chainIn_on hb _)), rfl, rfl⟩

theorem agreeCancel_acts (x : Nat) (hb : s.chip.banksOn = true) (hx : s.chip.tick < x) : ∃ t, exec (.agreeCancel x) s = .next t
    ∧ t.chip.twin.agree = s.chip.twin.agree.filter (fun a => a.mine || a.x != x) ∧ t.chip.twin.heard = s.chip.now := by
  refine ⟨_, rfl, ?_⟩
  rw [State.onChip_chip, chainIn_on hb, agreeCancel, if_pos hx]
  exact ⟨rfl, rfl⟩

theorem agreeAckDeadline_acts (x : Nat) (a : Agreed) (ha : s.chip.twin.agree = [a]) (hm : a.mine = true) (hk : a.acked = false)
    (hx : a.x = x) (ht : x ≤ s.chip.tick + 4) : ∃ t, exec (.agreeAckDeadline x) s = .next t
      ∧ t.chip.twin.agree = [{ a with x := s.chip.tick + 8 }] := by
  refine ⟨_, rfl, ?_⟩
  rw [State.onChip_chip, agreeAckDeadline]
  have late : s.chip.twin.agree.filter (fun a => a.mine && !a.acked && a.x == x) = [a] := by simp [ha, hm, hk, hx]
  have rest : s.chip.twin.agree.filter (fun a => !(a.mine && !a.acked && a.x == x)) = [] := by simp [ha, hm, hk, hx]
  rw [late]
  dsimp only
  rw [if_neg (by simp; omega)]
  simp only [foldc, List.foldl_cons, List.foldl_nil, Chip.send_twin, Chip.modTwin_twin, rest, List.nil_append, Chip.tick, Chip.send_datum]
  rfl
end

end Sys2Proof.Machine
end

section
/-! PROOFS. The mirror, time and health over Chain (R339, R341, R357, R362). -/

namespace Sys2Proof.Machine

/-! A status field that is handed over in STATE lies in a service page, above the fields that events may change. -/

theorem singlePages_base : ∀ m < 26, ∀ k, singlePages[m]? = some k → pageBase k 0 = 0x1000 * m := by
  intro m hm k hk
  have bases : ∀ m < 26, (singlePages[m]?).map (fun k => pageBase k 0) = some (0x1000 * m) := by decide
  simpa [hk] using bases m hm

/-- The page of an address begins at the address's page boundary. -/
theorem pageBase_of_pageOf {a n : Nat} {k : PageKind} (h : pageOf a = some (k, n)) : pageBase k n = a / 0x1000 * 0x1000 := by
  unfold pageOf at h
  dsimp only at h
  split_ifs at h with h1 h2 h3 h4 h5
  · obtain ⟨j, hj, e⟩ := Option.map_eq_some_iff.mp h
    cases e
    rw [singlePages_base _ h1 _ hj, Nat.mul_comm]
  all_goals
    cases h
    simp only [pageBase]
    omega

/-- The pages of the services. -/
def servicePages : List PageKind := [.hold, .crown, .gauge, .bmk, .neg, .sp]

theorem status_rows : ∀ k ∈ servicePages, ∀ r ∈ rowsCommon ++ k.rows, r.acc = .ro → r.fld.stat = true → 0x60 ≤ r.fld.off := by
  decide +kernel

theorem servicePages_base (n : Nat) : ∀ k ∈ servicePages, 0x14000 ≤ pageBase k n ∧ pageBase k n % 0x1000 = 0 := by
  simp [servicePages, pageBase]
  omega

/-- A key names the line of a table by its address. -/
theorem keyRow_off {k : PageKind} {b key : Nat} {x : Row × Nat} (h : keyRow k b key = some x) :
    x.1 ∈ rowsCommon ++ k.rows ∧ x.1.fld.off ≤ key / 32 - b := by
  obtain ⟨r, hr, hx⟩ := List.exists_of_findSome?_eq_some h
  dsimp only at hx
  split at hx
  · exact absurd hx (by simp)
  · next hlow =>
    have above : r.fld.off ≤ key / 32 - b := by
      simp only [Bool.or_eq_true, decide_eq_true_eq, not_or, not_lt] at hlow
      exact hlow.2
    split_ifs at hx
    all_goals
      cases hx
      exact ⟨hr, above⟩

theorem noisy_statusInState {key : Nat} (h : statusInState key = true) : noisy key = false := by
  unfold statusInState at h
  dsimp only at h
  split at h
  · next k n hp =>
    obtain ⟨hk, hrow⟩ := Bool.and_eq_true_iff.mp h
    have service : k ∈ servicePages := by
      revert hk
      cases k <;> simp [servicePages]
    split at hrow
    · next r i hr =>
      obtain ⟨ro, stat⟩ := Bool.and_eq_true_iff.mp hrow
      have ⟨mem, (above : r.fld.off ≤ key / 32 - pageBase k n)⟩ := keyRow_off hr
      have low := status_rows k service r mem (by simpa using ro) stat
      have ⟨base, aligned⟩ := servicePages_base n k service
      have page := pageBase_of_pageOf hp
      simp only [noisy, counted, Bool.or_eq_false_iff, Bool.and_eq_false_iff, beq_eq_false_iff_ne, decide_eq_false_iff_not]
      omega
    · simp at hrow
  · simp at h

section
variable (c : Chip) (key v : Nat)

/-- A status field takes the value sent, whatever counts the change. -/
theorem putStatus_sets : Same { c with regs := mapSet c.regs key v } (c.putStatus key v) := by
  unfold Chip.putStatus
  extract_lets b c1
  split
  · exact Same.refl c1
  · split
    · split
      · exact same_seqInc c1 b (Nat.mul_mod_left _ _)
      · exact Same.refl c1
    · exact Same.refl c1

theorem same_liveLevels : Same c (c.liveLevels key) := by
  unfold Chip.liveLevels
  split
  · exact same_level c pgBMK 8 _ (by decide)
  · exact .foldc _ _ (fun n _ c => same_level c pgBMK n _ (by decide)) c
  · exact .refl c
  · exact .refl c

theorem putStatus_twin : (c.putStatus key v).twin = c.twin := by
  unfold Chip.putStatus
  extract_lets b c1
  split
  · rfl
  · split
    · split
      · exact (quiet_seqInc c1 b).twin
      · rfl
    · rfl

theorem quiet_liveLevels : Quiet c (c.liveLevels key) := by
  unfold Chip.liveLevels
  split
  · exact quiet_level c pgBMK 8 _
  · exact .foldc _ _ (fun n c => quiet_level c pgBMK n _) c
  · exact .refl c
  · exact .refl c
end

/-! The mirror (R339, R357). -/

/-- A MIRROR message heard and counted. -/
def Chip.took (c : Chip) : Chip := c.hear.modTwin (fun t => { t with cfgGot := t.cfgGot + 1 })

section
variable (s : State) (hb : s.chip.banksOn = true)
include hb

theorem exec_mirrorRx (m : MirrorMsg) : exec (.mirrorRx m) s = .next (mirrorRx s m) := congrArg Host.Outcome.next (if_pos hb)

variable (h2 : s.chip.rd R.TWIN_STATE pgTWIN = 2)
include h2

theorem mirrorStatus_acts (key v : Nat) (hs : statusInState key = true) : ∃ t, exec (.mirrorRx (.status key v)) s = .next t
    ∧ mapGet t.chip.regs key 0 = v ∧ t.chip.twin.heard = s.chip.now := by
  have taken : mirrorRx s (.status key v) = { s with chip := (s.chip.took.putStatus key v).liveLevels key } :=
    if_pos ⟨.inl h2, by rw [hs, Bool.or_true]⟩
  have still := noisy_statusInState hs
  refine ⟨_, (exec_mirrorRx s hb _).trans (congrArg Host.Outcome.next taken), ?_, ?_⟩
  · exact ((same_liveLevels _ key key still 0).trans (putStatus_sets _ key v key still 0)).trans (mapGet_mapSet_same _ _ _ _)
  · rw [(quiet_liveLevels _ key).twin, putStatus_twin]
    rfl

theorem mirrorDesc_acts (a v : Word) (be : BE) : ∃ t, exec (.mirrorRx (.desc a v be)) s = .next t
    ∧ t = (s.onChip (fun c => c.hear.modTwin (fun t => { t with cfgGot := t.cfgGot + 1 }))).descPut (wordAddr a) v.toNat be :=
  ⟨_, exec_mirrorRx s hb _, if_pos (.inl h2)⟩

theorem mirrorBin_acts (p : Port) (ch : Chan) (i : Nat) (g o ug uo : F32) (n u : Nat) :
    ∃ t, exec (.mirrorRx (.bin p ch i g o ug uo n u)) s = .next t ∧ (t.chip.cal (4 * p.val + ch.val)).bins
      = mapSet (s.chip.cal (4 * p.val + ch.val)).bins i { gain := g, offset := o, uncG := ug, uncO := uo, n := n, atT := u } := by
  have taken : mirrorRx s (.bin p ch i g o ug uo n u) = { s with chip := (s.chip.took.modCal (4 * p.val + ch.val)
      (fun q => { q with bins := mapSet q.bins i { gain := g, offset := o, uncG := ug, uncO := uo, n := n, atT := u } })) } := if_pos (.inl h2)
  refine ⟨_, (exec_mirrorRx s hb _).trans (congrArg Host.Outcome.next taken), ?_⟩
  exact congrArg CalSt.bins (mapGet_mapSet_same _ _ _ _)

theorem mirrorBattery_acts (n : Str) (cells : List (Nat × (F32 × F32))) (d : F32) : ∃ t, exec (.mirrorRx (.battery n cells d)) s = .next t
    ∧ (t.chip.strg n.val).cells = cells ∧ (t.chip.strg n.val).dAcc = d := by
  have taken : mirrorRx s (.battery n cells d) = { s with chip := s.chip.took.modStr n.val (fun q => { q with cells := cells, dAcc := d }) } :=
    if_pos (.inl h2)
  refine ⟨_, (exec_mirrorRx s hb _).trans (congrArg Host.Outcome.next taken), ?_, ?_⟩
  · exact congrArg StrSt.cells (mapGet_mapSet_same _ _ _ _)
  · exact congrArg StrSt.dAcc (mapGet_mapSet_same _ _ _ _)
end

theorem mirrorCfg_acts (s : State) (a v : Word) (hb : s.chip.banksOn = true) (h3 : s.chip.rd R.TWIN_STATE pgTWIN = 3)
    (hl : s.chip.leads = false) : ∃ t, exec (.mirrorRx (.cfg a v)) s = .next t
      ∧ t = s.onChip (fun c => (c.hear.modTwin (fun t => { t with cfgGot := t.cfgGot + 1 })).applyWord a.toNat v.toNat false false 0) := by
  have paired : s.chip.paired = true := by rw [Chip.paired, h3]; rfl
  have follows : s.chip.took.paired = true ∧ (!s.chip.took.leads) = true := ⟨paired, by rw [show s.chip.took.leads = s.chip.leads from rfl, hl]; rfl⟩
  exact ⟨_, exec_mirrorRx s hb _, if_pos (.inr follows)⟩

/-! Time (R341, R357). -/

theorem rd_setSource (c : Chip) (v : Nat) : (c.setSource v).rd R.DATUM_SOURCE pgDATUM = v % 2 ^ R.DATUM_SOURCE.w ∨ (c.setSource v).rd R.DATUM_SOURCE pgDATUM = v := by
  unfold Chip.setSource
  split
  · next h => exact .inr h
  · exact .inl (rd_up_same _ _ _ _ _ (by decide) (by decide))

theorem setSource_source (c : Chip) : (c.setSource 1).rd R.DATUM_SOURCE pgDATUM = 1 := (rd_setSource c 1).elim id id

/-- A change of Datum's source leaves TIME_ERR. -/
theorem timeErr_datum (c : Chip) (f : Fld) (v : Nat) (h : fldKey R.TWIN_TIME_ERR pgTWIN 0 ≠ fldKey f pgDATUM 0) : (c.up f pgDATUM v).rd R.TWIN_TIME_ERR pgTWIN = c.rd R.TWIN_TIME_ERR pgTWIN :=
  up_stands c f pgDATUM v 0 (by decide) (by decide) h _

theorem setSource_timeErr (c : Chip) (v : Nat) : (c.setSource v).rd R.TWIN_TIME_ERR pgTWIN = c.rd R.TWIN_TIME_ERR pgTWIN := by
  unfold Chip.setSource
  split
  · rfl
  · exact timeErr_datum c _ _ (by decide)

/-- What a FOLLOW shows of an exchange: the error, the rate that corrects it, and the twin as its source. -/
def Chip.timeShown (c : Chip) (offset rate : Int) : Chip :=
  ((c.up R.TWIN_TIME_ERR pgTWIN (unsgn 32 offset)).up R.DATUM_RATE pgDATUM (unsgn 32 rate)).setSource 1

theorem quiet_timeShown (c : Chip) (o rate : Int) : Quiet c (c.timeShown o rate) :=
  ((quiet_up _ _ _ _ _).trans (quiet_up _ _ _ _ _)).trans (quiet_setSource _ _)

theorem timeShown_err (c : Chip) (o rate : Int) : (c.timeShown o rate).rd R.TWIN_TIME_ERR pgTWIN = unsgn 32 o := by
  rw [Chip.timeShown, setSource_timeErr, timeErr_datum _ _ _ (by decide), rd_up_same _ _ _ _ _ (by decide) (by decide)]
  exact unsgn_mod 32 o

section
variable (s : State) (m : TimeMeas) (o : Int) (hb : s.chip.banksOn = true) (ho : s.chip.meanOffset m = some o)
include hb ho

theorem exec_timeExchange : exec (.timeExchange m) s = .next (s.onChip (fun c => timeStep c o)) := by
  have measured : timeExchange s.chip m = timeStep s.chip o := by rw [timeExchange, ho]
  exact congrArg Host.Outcome.next (congrArg (fun d => { s with chip := d }) ((chainIn_on hb _).trans measured))

theorem timeExchange_joins (h2 : s.chip.rd R.TWIN_STATE pgTWIN = 2) (hj : 1 ≤ s.chip.rd R.TWIN_JOIN_PHASE pgTWIN)
    (hs : s.chip.twin.stepped = false) (hc : s.chip.cmdScheduled = false) : ∃ t, exec (.timeExchange m) s = .next t
      ∧ t.chip.datum = unsgn 64 ((s.chip.datum : Int) - o) ∧ t.chip.twin.stepped = true ∧ t.chip.rd R.TWIN_TIME_ERR pgTWIN = 0
      ∧ t.chip.rd R.DATUM_SOURCE pgDATUM = 1 := by
  refine ⟨_, exec_timeExchange s m o hb ho, ?_⟩
  rw [State.onChip_chip]
  unfold timeStep
  extract_lets st follows c0 stepped good
  have joins : follows = true := by simp [follows, st, h2, hj]
  rw [if_neg (by simp [joins]), if_pos ⟨h2, by simp [hs, hc]⟩]
  have quiet := (quiet_up (stepped.modTwin (fun t => { t with stepped := true, timeGood := some s.chip.now, timeBad := none }))
    R.TWIN_TIME_ERR pgTWIN 0 0).trans (quiet_setSource _ 1)
  refine ⟨?_, ?_, ?_, setSource_source _⟩
  · rw [quiet.datum]
    rfl
  · rw [quiet.twin]
    rfl
  · rw [setSource_timeErr, rd_up_same _ _ _ _ _ (by decide) (by decide)]
    rfl

theorem timeExchange_follows (h3 : s.chip.rd R.TWIN_STATE pgTWIN = 3) (hr : s.chip.on R.TWIN_ROLE pgTWIN = true) :
    ∃ t, exec (.timeExchange m) s = .next t ∧ t.chip.datum = s.chip.datum ∧ t.chip.rd R.TWIN_TIME_ERR pgTWIN = unsgn 32 o
      ∧ t.chip.rd R.DATUM_SOURCE pgDATUM = 1 ∧ (o.natAbs ≤ 16 → t.chip.armed (tmKey tmTwinTime 0) = false)
      ∧ (16 < o.natAbs → s.chip.twin.timeBad = none → mapGet t.chip.timers (tmKey tmTwinTime 0) 0 = t.chip.now + dqMs + 1) := by
  refine ⟨_, exec_timeExchange s m o hb ho, ?_⟩
  rw [State.onChip_chip]
  unfold timeStep
  extract_lets st follows c0 stepped good
  have paired : follows = true := by simp [follows, st, h3, hr]
  rw [if_neg (by simp [paired]), if_neg (by omega)]
  dsimp only [Chip.free]
  obtain ⟨c1, h1⟩ : ∃ d, ({ c0 with freeCtr := c0.freeCtr + 1 } : Chip) = d := ⟨_, rfl⟩
  rw [h1]
  have free : c1.datum = s.chip.datum ∧ c1.twin.timeBad = s.chip.twin.timeBad := h1 ▸ ⟨rfl, rfl⟩
  obtain ⟨c3, shown⟩ : ∃ d, c1.timeShown o (rateFor o (Config.freeValue c0.freeCtr)) = d := ⟨_, rfl⟩
  obtain ⟨err, source, datum, bad⟩ : c3.rd R.TWIN_TIME_ERR pgTWIN = unsgn 32 o ∧ c3.rd R.DATUM_SOURCE pgDATUM = 1 ∧ c3.datum = s.chip.datum
      ∧ c3.twin.timeBad = s.chip.twin.timeBad := by
    have quiet : Quiet c1 c3 := shown ▸ quiet_timeShown c1 o _
    exact ⟨shown ▸ timeShown_err c1 o _, shown ▸ setSource_source _, quiet.datum.trans free.1, (congrArg TwinSt.timeBad quiet.twin).trans free.2⟩
  rw [Chip.timeShown] at shown
  rw [shown]
  split
  · next hg =>
    refine ⟨datum, err, source, fun _ => disarm_armed _ _, fun h => ?_⟩
    simp [good] at hg
    omega
  · next hg =>
    have large : ¬ o.natAbs ≤ 16 := by simpa [good] using hg
    split
    · next hb =>
      refine ⟨datum, err, source, fun h => absurd h large, fun _ none' => ?_⟩
      rw [bad, none'] at hb
      simp at hb
    · exact ⟨datum, err, source, fun h => absurd h large, fun _ _ => mapGet_mapSet_same _ _ _ _⟩

end

theorem healthRx_acts (s : State) (v : Word) (hb : s.chip.banksOn = true) : ∃ t, exec (.healthRx v) s = .next t
    ∧ t.chip.rd R.TWIN_PEER_HEALTH pgTWIN = v.toNat ∧ t.chip.twin.heard = s.chip.now := by
  refine ⟨_, congrArg Host.Outcome.next (congrArg (fun d => { s with chip := d }) (chainIn_on hb _)), ?_⟩
  dsimp only
  unfold healthRx
  split
  · next same => exact ⟨same, rfl⟩
  · refine ⟨?_, by rw [(quiet_up _ _ _ _ _).twin]; rfl⟩
    rw [rd_up_same _ _ _ _ _ (by decide) (by decide)]
    exact Nat.mod_eq_of_lt v.isLt

theorem twinTime_acts (s : State) (h : s.chip.due (tmKey tmTwinTime 0) = true) : ∃ t, exec .twinTime s = .next t
    ∧ t = s.onChip (fun c => (c.disarm (tmKey tmTwinTime 0)).raise 0x87 0) :=
  ⟨_, rfl, by rw [State.onChip, twinTime, if_pos h]; rfl⟩

/-- Settles O13: digests, agreed changes, the mirror, time and health each act on the chip that heard them, and what a mismatch or a path
that falls does besides leaves the field that the clause reads. -/
theorem chainMessagesAct : Obligations.ChainMessagesAct :=
  ⟨fun s k h => chainPathDown_acts s k h,
    fun s k hb h => chainPathUp_acts s k hb h,
    fun s u ds its hb hc hp hr h => digestRx_matches s u ds its ⟨hb, hc, hp, hr⟩ h,
    fun s u ds its hb hc hp hr h => digestRx_counts s u ds its ⟨hb, hc, hp, hr⟩ h,
    fun s u ds its hb hc hp hr h => digestRx_countsNone s u ds its ⟨hb, hc, hp, hr⟩ h,
    fun s r hb h ho => resolveOutcome_acts s r hb h ho,
    fun s x i hb hst hx hp => agreeProposal_acts s x i hb hst hx hp,
    fun s x hb => agreeAck_acts s x hb,
    fun s x hb hx => agreeCancel_acts s x hb hx,
    fun s x a ha hm hk hx ht => agreeAckDeadline_acts s x a ha hm hk hx ht,
    fun s key v hb h2 hs => mirrorStatus_acts s hb h2 key v hs,
    fun s a v be hb h2 => mirrorDesc_acts s hb h2 a v be,
    fun s a v hb h3 hl => mirrorCfg_acts s a v hb h3 hl,
    fun s p ch i g o ug uo n u hb h2 => mirrorBin_acts s hb h2 p ch i g o ug uo n u,
    fun s n cells d hb h2 => mirrorBattery_acts s hb h2 n cells d,
    fun s m o hb ho h2 hj hs hc => timeExchange_joins s m o hb ho h2 hj hs hc,
    fun s m o hb ho h3 hr => timeExchange_follows s m o hb ho h3 hr,
    fun s h => twinTime_acts s h,
    fun s v hb => healthRx_acts s v hb⟩

end Sys2Proof.Machine
end

section
/-! SUPPORT. Entering SOLO, a lost twin, a held twin and a failed join: the registers and the state of TWIN that they leave standing (R337, R338,
R349 to R351, R358, R364). -/

namespace Sys2Proof.Machine

/-! Ports that fence or are written change no register and nothing of the twin. -/

/-- What fencing and writing the ports changes. -/
abbrev portsParts : List Comp := [.timers, .ports, .otherPorts, .otherStages, .otherEngines]

section
variable (c : Chip)

theorem fenceWaiting_ports : Confined 0 portsParts c c.fenceWaiting := by
  refine .foldc (fun p c => .ite ?_ (.refl c)) c
  have fence : Confined p [.timers, .ports] c (c.startFence p) := (confined_setPort c _).trans (confined_disarm _ _)
  exact (fence.any.mono).trans (confined_arm _ _ _)

theorem envPending_ports : Confined 0 portsParts c c.envPending := by
  have request (p : Nat) (r : CfgReq) (c : Chip) : Confined 0 portsParts c (c.pushReq p r) := (confined_pushReq (a := [.ports]) c p r).any.mono
  unfold Chip.envPending
  refine .foldc (fun e c => ?_) c
  extract_lets p k
  exact .ite (.foldc (request p) c) (.refl c)

theorem selfArm_timers : Confined 0 portsParts c c.selfArm := by
  unfold Chip.selfArm
  exact .ite (confined_disarm c _) (confined_arm c _ _)

/-- Fencing is counted, and changes no other register. -/
theorem fenceAll_ports : Confined 0 portsParts (c.bump R.TWIN_CNT pgTWIN 3) c.fenceAll := by
  unfold Chip.fenceAll
  refine .foldc (fun p c => .ite ?_ (.refl c)) _
  exact ((confined_modPort (n := p) (a := [.ports]) c _).any.mono).trans (confined_disarm _ _)

theorem fenceOld_ports : Confined 0 portsParts (c.bump R.TWIN_CNT pgTWIN 3) c.fenceOld := by
  unfold Chip.fenceOld
  refine .foldc (fun p c => .ite ?_ (.refl c)) _
  exact ((confined_modPort (n := p) (a := [.ports]) c _).any.mono).trans (confined_disarm _ _)

theorem keyStands_fenceAll {k : Nat} (h : k ≠ fldKey R.TWIN_CNT pgTWIN 3) : KeyStands k c c.fenceAll :=
  (keyStands_bump c R.TWIN_CNT pgTWIN 3 h).trans (.of_confined (fenceAll_ports c))

theorem keyStands_fenceOld {k : Nat} (h : k ≠ fldKey R.TWIN_CNT pgTWIN 3) : KeyStands k c c.fenceOld :=
  (keyStands_bump c R.TWIN_CNT pgTWIN 3 h).trans (.of_confined (fenceOld_ports c))

theorem fenceOld_counts : c.fenceOld.rd R.TWIN_CNT pgTWIN 3 = (c.rd R.TWIN_CNT pgTWIN 3 + 1) % 2 ^ 32 :=
  (KeyStands.of_confined (fenceOld_ports c)).rd.trans (rd_bump_same _ _ _ _ _)

theorem fenceOld_twin : c.fenceOld.twin = c.twin := fenceOld_ports c .twin (by decide)
end

/-! SOLO (R337, R338). -/

theorem keyStands_setSource {k : Nat} (c : Chip) (v : Nat) (hn : noisy k = false) (h : k ≠ fldKey R.DATUM_SOURCE pgDATUM 0) :
    KeyStands k c (c.setSource v) := by
  unfold Chip.setSource
  exact .ite (.refl c) (keyStands_up c hn _ _ _ 0 (by decide) h)

theorem keyStands_level {k : Nat} (c : Chip) (b n : Nat) (on : Bool) (hn : noisy k = false) (hb : b % 4096 = 0) : KeyStands k c (c.level b n on) :=
  same_level c b n on hb k hn

/-- The registers of TWIN that entering SOLO writes, beside the role. -/
def soloKeys : List Nat := [fldKey R.TWIN_STATE pgTWIN 0, fldKey R.TWIN_TIME_ERR pgTWIN 0, fldKey R.TWIN_RESOLVING pgTWIN 0,
  fldKey R.TWIN_PEER_DEBUG_HOLD pgTWIN 0, fldKey R.TWIN_JOIN_PHASE pgTWIN 0, fldKey R.TWIN_FENCE_CAUSE pgTWIN 0]

section
variable (c : Chip)

/-- Once the chip shows SOLO and its role, entering SOLO changes of the registers only the source of Datum, and ends a takeover. -/
theorem enterSolo_rest : (∀ k, noisy k = false → k ≠ fldKey R.DATUM_SOURCE pgDATUM 0 → KeyStands k (c.soloShown.setRole false) c.enterSolo)
    ∧ c.enterSolo.twin.takeover = false := by
  unfold Chip.enterSolo
  extract_lets c1 c2 c3
  have ports (d : Chip) : Confined 0 portsParts d ((d.selfArm).fenceWaiting).envPending :=
    ((selfArm_timers d).trans (fenceWaiting_ports _)).trans (envPending_ports _)
  have shown : Quiet c3 ((c3.level pgTWIN 8 false).setSource c3.leadSource) := (quiet_level c3 _ _ _).trans (quiet_setSource _ _)
  refine ⟨fun k hn hk => ?_, ?_⟩
  · have h3 : KeyStands k c1 c3 :=
      (((keyStands_modTwin c1 _).trans (keyStands_disarm c2 _)).trans (keyStands_disarm _ _)).trans (keyStands_disarm _ _)
    exact (h3.trans ((keyStands_level c3 pgTWIN 8 false hn (by decide)).trans (keyStands_setSource _ _ hn hk))).trans (.of_confined (ports _))
  · have ended : c3.twin.takeover = false := by simp only [c3, c2, Chip.disarm_twin, Chip.modTwin_twin]
    clear_value c3
    obtain ⟨d, hd⟩ : ∃ d, (c3.level pgTWIN 8 false).setSource c3.leadSource = d := ⟨_, rfl⟩
    rw [hd] at shown ⊢
    have stands : (((d.selfArm).fenceWaiting).envPending).twin = d.twin := ports d .twin (by decide)
    rw [stands, shown.twin]
    exact ended

theorem keyStands_enterSolo {k : Nat} (hn : noisy k = false) (hs : k ∉ soloKeys) (hr : k ≠ fldKey R.TWIN_ROLE pgTWIN 0)
    (hd : k ≠ fldKey R.DATUM_SOURCE pgDATUM 0) : KeyStands k c c.enterSolo := by
  simp only [soloKeys, List.mem_cons, List.not_mem_nil, or_false, not_or] at hs
  have shown : KeyStands k c c.soloShown := keyStands_hw c hn pgTWIN _ (by decide) (by simpa using hs)
  exact (shown.trans (keyStands_setRole _ false hn hr)).trans ((enterSolo_rest c).1 k hn hd)

theorem enterSolo_role : c.enterSolo.rd R.TWIN_ROLE pgTWIN = 0 := by
  rw [((enterSolo_rest c).1 (fldKey R.TWIN_ROLE pgTWIN 0) (by decide) (by decide)).rd]
  have lead := setRole_role c.soloShown false
  simpa [Chip.on] using lead

theorem enterSolo_takeover : c.enterSolo.twin.takeover = false := (enterSolo_rest c).2
end

end Sys2Proof.Machine
end

section
/-! SUPPORT. What a raise leaves of the twin, a held twin, and what Chain is open to (R338, R358, R364, R426). -/

namespace Sys2Proof.Machine

/-! The failed joins in a row are counted by joining alone: a raise changes of TWIN's state a takeover, which a fence ends. -/

section
variable (c : Chip)

theorem enqueue_twin (r : FbRec) : (c.enqueue r).twin = c.twin := by
  have dropped (d : Chip) : (d.countDrop r).twin = d.twin := (quiet_pulse _ pgFBK 1).twin
  unfold Chip.enqueue
  extract_lets q c1
  split
  · rfl
  · split
    · exact (quiet_level c1 _ _ _).twin.trans (quiet_up _ _ _ _ _).twin
    · split
      · exact dropped c
      · exact (quiet_pulse _ pgFBK 1).twin

theorem record_twin (code source sev part : Nat) (payload : Bytes) (shelf : Bool) : (c.record code source sev part payload shelf).twin = c.twin := by
  unfold Chip.record
  split
  next v c0 h =>
  have taken : c0.twin = c.twin := congrArg (fun x => x.2.twin) h.symm
  extract_lets c1 given
  have h1 : c1.twin = c.twin := by
    unfold c1
    split
    · exact taken
    · rfl
  clear_value c1
  split
  · rfl
  · rw [enqueue_twin, h1]

theorem settleFail_twin : c.settleFail.twin = c.twin := by
  unfold Chip.settleFail
  split
  · exact ((quiet_up _ _ _ _ _).trans (quiet_pulse _ pgFWU 2)).twin
  · rfl

theorem swapAbort_twin (code : Nat) : (c.swapAbort code).twin = c.twin := by
  unfold Chip.swapAbort
  extract_lets none' c1
  have h1 : c1.twin = c.twin := (quiet_hw _ _ _).twin
  have idle : Quiet c1 (foldc (upTo 128) (fun e c => if c.on R.CE_SWAP_BUSY (pgCE e) then c.up R.CE_SWAP_BUSY (pgCE e) 0 else c) c1) :=
    .foldc _ _ (fun _ c => .ite (quiet_up _ _ _ _ _) (.refl c)) _
  split
  · split
    · exact ((idle.trans (quiet_up _ _ _ _ _)).trans (quiet_pulse _ _ _)).twin.trans h1
    · exact h1
  · rfl

theorem enterFenced_joinFails (cause : Nat) : (c.enterFenced cause).twin.joinFails = c.twin.joinFails := by
  unfold Chip.enterFenced
  extract_lets c1 c2
  split
  · rw [(quiet_reFlt _).twin, (quiet_up _ _ _ _ _).twin]
  · have h2 : c2.twin = c.twin := (quiet_send _ _).twin.trans ((quiet_hw c _ _).trans (quiet_setRole _ true)).twin
    clear_value c2
    rw [(quiet_reFlt _).twin, Chip.modTwin_twin, Chip.disarm_twin, Chip.openRecovery, Chip.arm_twin, (quiet_up _ _ _ _ _).twin,
      (quiet_pulse _ _ _).twin, h2]

theorem s3Sequence_joinFails (src : Nat) : (c.s3Sequence src).twin.joinFails = c.twin.joinFails := by
  unfold Chip.s3Sequence
  extract_lets c1
  have h1 : c1.twin.joinFails = c.twin.joinFails := enterFenced_joinFails _ 1
  clear_value c1
  split_ifs
  · rfl
  · rfl
  · exact h1
  · exact h1

theorem raiseEcho_joinFails (src inst sev own : Nat) : (c.raiseEcho src inst sev own).twin.joinFails = c.twin.joinFails := by
  unfold Chip.raiseEcho
  extract_lets c2 c3 c4 c5 c6 c7 c8 c9 c10 c11
  have h3 : Quiet c c3 := .ite ((quiet_bump _ _ _ _ _).trans (quiet_bump _ _ _ _ _)) (quiet_bump _ _ _ _ _)
  have h4 : Quiet c c4 := h3.trans (quiet_wr c3 _ _ _ _)
  have h5 : c5.twin = c.twin := (quiet_reMaxSev _).twin.trans h4.twin
  have q8 : Quiet c5 c8 :=
    have q6 : Quiet c5 c6 := .ite (.refl c5) (quiet_pulse _ _ _)
    have q7 : Quiet c5 c7 := q6.trans (quiet_capCause c6 _)
    .ite (q7.trans (quiet_quiescePart c7 _)) q7
  have h9 : c9.twin = c8.twin := by
    unfold c9
    split
    · exact settleFail_twin c8
    · rfl
  have h10 : c10.twin = c9.twin := by
    unfold c10
    split
    · exact swapAbort_twin c9 _
    · rfl
  have h11 : c11.twin = c10.twin := by
    unfold c11
    split
    · exact (quiet_up _ _ _ _ _).twin
    · rfl
  have stands : c11.twin = c.twin := h11.trans (h10.trans (h9.trans (q8.twin.trans h5)))
  clear_value c11
  split
  · rw [s3Sequence_joinFails, stands]
  · rw [stands]

theorem raise_joinFails (src inst : Nat) (payload : Bytes) : (c.raise src inst payload).twin.joinFails = c.twin.joinFails := by
  by_cases hs : srcInfo src = none
  · rw [raise_of_none c inst payload hs]
  · cases hp : c.plumb.porst || c.plumb.stopped with
    | true => rw [raise_unpowered c src inst payload hp]
    | false =>
      rw [raise_powered c inst payload hs hp, raiseEcho_joinFails, Chip.showRaise, (quiet_hw _ _ _).twin, record_twin]
end

/-! Chain (R57, R338). -/

/-- What opens Chain to a message stands. -/
structure ChainStands (c d : Chip) : Prop where
  plumb : d.plumb = c.plumb
  main : KeyStands (fldKey R.PLUMB_MAIN_UP pgPLUMB 0) c d
  state : KeyStands (fldKey R.TWIN_STATE pgTWIN 0) c d

theorem ChainStands.banksOn {c d : Chip} (h : ChainStands c d) : d.banksOn = c.banksOn := by
  rw [Chip.banksOn, h.main.on, h.plumb]
  rfl

theorem ChainStands.chainOpen {c d : Chip} (h : ChainStands c d) (m : ChainMsg) : d.chainOpen m = c.chainOpen m := by
  unfold Chip.chainOpen
  rw [h.banksOn, h.state.rd]

/-- A chip that is not FENCED and has power sends every message over Chain. -/
theorem chainOpen_unfenced {c : Chip} (hb : c.banksOn = true) (h4 : c.rd R.TWIN_STATE pgTWIN ≠ 4) (m : ChainMsg) : c.chainOpen m = true := by
  simp [Chip.chainOpen, hb, h4]

/-! A held twin (R364). -/

/-- The registers that taking over from a held twin writes. -/
def heldKeys : List Nat := [fldKey R.TWIN_PEER_DEBUG_HOLD pgTWIN 0, fldKey R.TWIN_ROLE pgTWIN 0, fldKey R.DATUM_SOURCE pgDATUM 0]

section
variable (c : Chip)

/-- In a pair the twin's hold is shown, and this chip leads. -/
theorem peerHeld_shows (hp : c.paired = true) : c.peerHeld.rd R.TWIN_PEER_DEBUG_HOLD pgTWIN = 1 ∧ c.peerHeld.rd R.TWIN_ROLE pgTWIN = 0 := by
  rw [Chip.peerHeld, if_pos hp]
  extract_lets c1 c2
  have rest (k : Nat) (hn : noisy k = false) (hd : k ≠ fldKey R.DATUM_SOURCE pgDATUM 0) :
      KeyStands k c1 (foldc (c2.twin.classC.filter (fun r => r.atT == 0)) (fun r c => c.propose (.classC r.item)) c2) :=
    ((keyStands_setSource c1 _ hn hd).trans (keyStands_modTwin _ _)).trans (.foldc (fun _ c => .of_confined (confined_proposeAt (a := [.twin, .sent]) c 0 0 _)) c2)
  rw [(rest (fldKey R.TWIN_PEER_DEBUG_HOLD pgTWIN 0) (by decide) (by decide)).rd, (rest (fldKey R.TWIN_ROLE pgTWIN 0) (by decide) (by decide)).rd]
  refine ⟨?_, ?_⟩
  · rw [(keyStands_setRole _ false (by decide) (by decide)).rd, rd_level _ _ _ _ _ _ _ (by decide) (by decide), rd_up_same _ _ _ _ _ (by decide) (by decide)]
    rfl
  · have lead := setRole_role ((c.up R.TWIN_PEER_DEBUG_HOLD pgTWIN 1).level pgTWIN 8 true) false
    simpa [Chip.on] using lead

theorem keyStands_peerHeld {k : Nat} (hn : noisy k = false) (hk : k ∉ heldKeys) : KeyStands k c c.peerHeld := by
  simp only [heldKeys, List.mem_cons, List.not_mem_nil, or_false, not_or] at hk
  obtain ⟨hold, role, source⟩ := hk
  unfold Chip.peerHeld
  extract_lets c1 c2
  have h1 : KeyStands k c c1 := ((keyStands_up c hn _ _ _ 0 (by decide) hold).trans (keyStands_level _ _ _ _ hn (by decide))).trans
    (keyStands_setRole _ false hn role)
  have h2 : KeyStands k c c2 := (h1.trans (keyStands_setSource c1 _ hn source)).trans (keyStands_modTwin _ _)
  exact .ite (h2.trans (.foldc (fun _ c => .of_confined (confined_proposeAt (a := [.twin, .sent]) c 0 0 _)) c2)) (.refl c)

theorem chainStands_peerHeld : ChainStands c c.peerHeld where
  plumb := confined_peerHeld (n := 0) c .plumb (by decide)
  main := keyStands_peerHeld c (by decide) (by decide)
  state := keyStands_peerHeld c (by decide) (by decide)
end

/-! Joining from HELLO (R357). -/

section
variable (c : Chip)

theorem ownHello_send (o : Out) (j : Bool) : (c.send o).ownHello j = c.ownHello j := by
  simp only [Chip.ownHello, Chip.straps75, Chip.on, Chip.send_rd]

theorem enterJoining_banksOn (phase ms : Nat) : (c.enterJoining phase ms).banksOn = c.banksOn := by
  have main : KeyStands (fldKey R.PLUMB_MAIN_UP pgPLUMB 0) c (c.enterJoining phase ms) := keyStands_enterJoining c phase ms (by decide) (by decide)
  rw [Chip.banksOn, main.on, enterJoining_plumb]
  rfl

/-- A chip that joins from HELLO has the time of the phase, and sends its own. -/
theorem enterJoining_hello (ms : Nat) (hb : c.banksOn = true) :
    mapGet (c.enterJoining 0 ms).timers (tmKey tmPhase 0) 0 = (c.enterJoining 0 ms).now + ms * dqMs + 1
      ∧ (c.enterJoining 0 ms).sent.head? = some (.chain (.hello ((c.enterJoining 0 ms).ownHello true))) := by
  have banks := (enterJoining_banksOn c 0 ms).trans hb
  revert banks
  unfold Chip.enterJoining
  extract_lets c1 c2 c3
  rw [if_pos rfl]
  intro banks
  have power : c3.banksOn = true := by simpa only [Chip.banksOn, Chip.on, Chip.send_rd, Chip.send_plumb] using banks
  refine ⟨?_, ?_⟩
  · simp only [c3, Chip.send_timers, Chip.send_now, Chip.disarm_timers, Chip.disarm_now, Chip.arm_timers, Chip.arm_now]
    rw [mapGet_mapSet_ne _ (by decide), mapGet_mapSet_same]
  · rw [Chip.send_chain _ _ (by simp [Chip.chainOpen, power]), ownHello_send]
    rfl
end

end Sys2Proof.Machine
end

section
/-! PROOFS. The twins join, part, take over, traverse and check themselves (R337, R349, R351, R354, R357 to R360, R363 to R365). -/

namespace Sys2Proof.Machine

/-- A command that acts on the chip alone leaves the chip that its function gives. -/
theorem exec_chip {i : Instr} {s : State} {f : Chip → Chip} {c : Chip} (he : exec i s = .next (s.onChip f)) (hf : f s.chip = c) :
    ∃ t, exec i s = .next t ∧ t.chip = c := ⟨_, he, hf⟩

/-! HELLO (R357). -/

section
variable (s : State) (h : Hello) (hb : s.chip.banksOn = true) (hf : s.chip.hear.helloFaults h = [])
include hb hf

theorem chainHello_answers (h1 : s.chip.rd R.TWIN_STATE pgTWIN = 1) (hj : h.joining = true) : ∃ t, exec (.chainHello h) s = .next t
    ∧ t.chip.twin.peer = some h ∧ t.chip.rd R.TWIN_JOIN_PHASE pgTWIN = 1
    ∧ t.chip.sent = Out.chain (.hello (s.chip.ownHello false)) :: s.chip.sent
    ∧ mapGet t.chip.timers (tmKey tmPhase 0) 0 = t.chip.now + 50 * dqMs + 1 := by
  obtain ⟨d, hd⟩ : ∃ d, (s.chip.hear.send (.chain (.hello (s.chip.ownHello false)))).modTwin (fun t => { t with peer := some h, timeGood := none }) = d :=
    ⟨_, rfl⟩
  have answers : chainHello s h = { s with chip := (d.up R.TWIN_JOIN_PHASE pgTWIN 1).arm (tmKey tmPhase 0) (50 * dqMs) } := by
    unfold chainHello
    rw [if_neg (by simp [hb])]
    dsimp only
    rw [hf, if_neg (by omega), if_pos ⟨h1, hj⟩, if_pos rfl, ← hd]
    rfl
  have said : (s.chip.hear.send (.chain (.hello (s.chip.ownHello false)))).sent = Out.chain (.hello (s.chip.ownHello false)) :: s.chip.sent :=
    Chip.send_chain s.chip.hear _ (chainOpen_unfenced (c := s.chip.hear) hb (by rw [show s.chip.hear.rd R.TWIN_STATE pgTWIN = 1 from h1]; decide) _)
  refine ⟨_, congrArg Host.Outcome.next answers, ?_, ?_, ?_, mapGet_mapSet_same _ _ _ _⟩
  · rw [Chip.arm_twin, (quiet_up _ _ _ _ _).twin, ← hd]
    rfl
  · exact rd_up_same _ _ _ _ _ (by decide) (by decide)
  · rw [Chip.arm_sent, Chip.up_sent, ← hd]
    exact said

theorem chainHello_joins (h2 : s.chip.rd R.TWIN_STATE pgTWIN = 2) (hp : s.chip.rd R.TWIN_JOIN_PHASE pgTWIN = 0)
    (hn : s.chip.on R.TWIN_JOIN_FAIL pgTWIN = false) : ∃ t, exec (.chainHello h) s = .next t ∧ t.chip.twin.peer = some h
      ∧ t.chip.twin.heard = s.chip.now := by
  have joins : chainHello s h = { s with chip := s.chip.hear.modTwin (fun t => { t with peer := some h }) } := by
    unfold chainHello
    rw [if_neg (by simp [hb])]
    dsimp only
    rw [hf, if_pos ⟨h2, hp, by rw [hn]; rfl⟩]
    rfl
  exact ⟨_, congrArg Host.Outcome.next joins, rfl, rfl⟩
end

/-! A lost twin (R349 to R351). -/

/-- A loss of the twin not yet declared: it is recorded and raised, and the recovery window opens. -/
def Chip.lossShown (c : Chip) : Chip := (((c.modTwin (fun t => { t with lost := true })).raise 0x84 0).pulse pgTWIN 0).openRecovery

section
variable (c : Chip)

theorem keyStands_openRecovery {k : Nat} (hn : noisy k = false) (h : k ≠ fldKey R.TWIN_RECOVERING pgTWIN 0) : KeyStands k c c.openRecovery :=
  (keyStands_up c hn _ _ _ 0 (by decide) h).trans (keyStands_arm _ _ _)

theorem openRecovery_recovers : c.openRecovery.rd R.TWIN_RECOVERING pgTWIN = 1 := rd_up_same _ _ _ _ _ (by decide) (by decide)

variable (hs : c.srcSev 0x84 ≠ 3)
include hs

/-- A raise of TWIN_LOST that fences nothing leaves the registers of TWIN. -/
theorem keyStands_lossShown {k : Nat} (hl : raiseLeaves k = true) (h : k ≠ fldKey R.TWIN_RECOVERING pgTWIN 0) : KeyStands k c c.lossShown := by
  have hn : noisy k = false := by
    simp only [raiseLeaves, Bool.and_eq_true, Bool.not_eq_true'] at hl
    obtain ⟨⟨⟨⟨-, hn⟩, -⟩, -⟩, -⟩ := hl
    exact hn
  have raised : KeyStands k c ((c.modTwin (fun t => { t with lost := true })).raise 0x84 0) :=
    keyStands_raise (c.modTwin (fun t => { t with lost := true })) hl 0x84 0 [] (fun h3 => absurd h3 hs)
  exact (raised.trans (keyStands_pulse _ hn pgTWIN 0 (by decide))).trans (keyStands_openRecovery _ hn h)

variable (h3 : c.rd R.TWIN_STATE pgTWIN = 3)
include h3

/-- A LEAD, or a chip with notice of the loss, goes on as SOLO and fences. -/
theorem twinLost_solo (notice : Bool) (hr : notice = true ∨ c.rd R.TWIN_ROLE pgTWIN = 0) (hn : notice = true ∨ c.twin.lost = false) :
    c.twinLost notice = (if c.twin.lost then c.openRecovery else c.lossShown).enterSolo.fenceAll := by
  obtain ⟨d, hd⟩ : ∃ d, (if c.twin.lost then c.openRecovery else c.lossShown) = d := ⟨_, rfl⟩
  have stands {k : Nat} (hl : raiseLeaves k = true) (hn : noisy k = false) (h : k ≠ fldKey R.TWIN_RECOVERING pgTWIN 0) : KeyStands k c d := by
    rw [← hd]
    exact .ite (keyStands_openRecovery c hn h) (keyStands_lossShown c hs hl h)
  have state : d.rd R.TWIN_STATE pgTWIN = 3 := (stands (by decide) (by decide) (by decide)).rd.trans h3
  have role : d.rd R.TWIN_ROLE pgTWIN = c.rd R.TWIN_ROLE pgTWIN := (stands (by decide) (by decide) (by decide)).rd
  have first : (if !c.twin.lost then c.lossShown else if notice then c.openRecovery else c) = d := by
    rw [← hd]
    rcases hn with rfl | hn
    · cases c.twin.lost <;> rfl
    · rw [hn]
      rfl
  unfold Chip.twinLost
  dsimp only
  rw [if_neg (by simp [h3])]
  rw [Chip.lossShown] at first
  rw [first, if_neg (by omega), if_neg (by omega), if_pos (by rw [role]; exact hr.symm), hd]

/-- A FOLLOW without notice waits for its ports to be fenced (R351). -/
theorem twinLost_waits (hr : c.rd R.TWIN_ROLE pgTWIN = 1) (hn : c.twin.lost = false) : c.twinLost false
    = (c.lossShown.modTwin (fun t => { t with takeover := true })).arm (tmKey tmTakeover 0) (c.rd R.TWIN_TAKEOVER_US pgTWIN * dqUs) := by
  have state : c.lossShown.rd R.TWIN_STATE pgTWIN = 3 := (keyStands_lossShown c hs (by decide) (by decide)).rd.trans h3
  have role : c.lossShown.rd R.TWIN_ROLE pgTWIN = 1 := (keyStands_lossShown c hs (by decide) (by decide)).rd.trans hr
  obtain ⟨d, hd⟩ : ∃ d, c.lossShown = d := ⟨_, rfl⟩
  rw [hd] at state role ⊢
  rw [Chip.lossShown] at hd
  unfold Chip.twinLost
  dsimp only
  rw [if_neg (by simp [h3]), hn]
  simp only [Bool.not_false, if_true]
  rw [hd, if_neg (by omega), if_neg (by omega), if_neg (by simp [role])]
end

/-- What a chip that has gone SOLO and fenced shows. -/
theorem soloFenced_shows (c : Chip) : c.enterSolo.fenceAll.rd R.TWIN_STATE pgTWIN = 1 ∧ c.enterSolo.fenceAll.rd R.TWIN_ROLE pgTWIN = 0 :=
  ⟨(keyStands_fenceAll _ (by decide)).rd.trans (enterSolo_state c), (keyStands_fenceAll _ (by decide)).rd.trans (enterSolo_role c)⟩

theorem keyStands_soloFenced {k : Nat} (c : Chip) (hn : noisy k = false) (hs : k ∉ soloKeys) (hr : k ≠ fldKey R.TWIN_ROLE pgTWIN 0)
    (hd : k ≠ fldKey R.DATUM_SOURCE pgDATUM 0) (hc : k ≠ fldKey R.TWIN_CNT pgTWIN 3) : KeyStands k c c.enterSolo.fenceAll :=
  (keyStands_enterSolo c hn hs hr hd).trans (keyStands_fenceAll _ hc)

section
variable (s : State) (h3 : s.chip.rd R.TWIN_STATE pgTWIN = 3)
include h3

theorem fencedNotice_acts (hb : s.chip.banksOn = true) (hs : s.chip.srcSev 0x84 ≠ 3) : ∃ t, exec .fencedNotice s = .next t
    ∧ t.chip.rd R.TWIN_STATE pgTWIN = 1 ∧ t.chip.rd R.TWIN_ROLE pgTWIN = 0 := by
  have solo : fencedNotice s.chip = _ := twinLost_solo s.chip.hear hs h3 true (.inl rfl) (.inl rfl)
  obtain ⟨t, ht, hc⟩ := exec_chip (i := .fencedNotice) rfl ((chainIn_on hb _).trans solo)
  refine ⟨t, ht, ?_⟩
  rw [hc]
  exact soloFenced_shows _

section
variable (ht : s.chip.twin.heard + s.chip.rd R.TWIN_CHAIN_TIMEOUT_US pgTWIN * dqUs ≤ s.chip.now) (hl : s.chip.twin.lost = false)
  (hs : s.chip.srcSev 0x84 ≠ 3)
include ht hl hs

theorem chainTimeout_leads (hr : s.chip.rd R.TWIN_ROLE pgTWIN = 0) : ∃ t, exec .chainTimeout s = .next t
    ∧ t.chip.rd R.TWIN_STATE pgTWIN = 1 ∧ t.chip.rd R.TWIN_RECOVERING pgTWIN = 1 := by
  have solo : chainTimeout s.chip = s.chip.lossShown.enterSolo.fenceAll := by
    rw [chainTimeout, if_pos ht, twinLost_solo s.chip hs h3 false (.inr hr) (.inr hl), hl]
    rfl
  obtain ⟨t, ht', hc⟩ := exec_chip (i := .chainTimeout) rfl solo
  refine ⟨t, ht', ?_⟩
  rw [hc, (keyStands_soloFenced (k := fldKey R.TWIN_RECOVERING pgTWIN 0) _ (by decide) (by decide) (by decide) (by decide) (by decide)).rd]
  exact ⟨(soloFenced_shows _).1, openRecovery_recovers _⟩

theorem chainTimeout_follows (hr : s.chip.rd R.TWIN_ROLE pgTWIN = 1) : ∃ t, exec .chainTimeout s = .next t
    ∧ t.chip.twin.takeover = true ∧ t.chip.rd R.TWIN_STATE pgTWIN = 3
    ∧ mapGet t.chip.timers (tmKey tmTakeover 0) 0 = t.chip.now + s.chip.rd R.TWIN_TAKEOVER_US pgTWIN * dqUs + 1 := by
  have state := (keyStands_lossShown s.chip hs (k := fldKey R.TWIN_STATE pgTWIN 0) (by decide) (by decide)).rd.trans h3
  have waits : chainTimeout s.chip = _ := (if_pos ht).trans (twinLost_waits s.chip hs h3 hr hl)
  obtain ⟨t, ht', hc⟩ := exec_chip (i := .chainTimeout) rfl waits
  refine ⟨t, ht', ?_⟩
  rw [hc]
  exact ⟨rfl, state, mapGet_mapSet_same _ _ _ _⟩
end
end

/-! FLT_IN (R349, R429, R430). -/

section
variable (c : Chip) (code : Nat)

/-- The keys that a code on FLT_IN writes. -/
def fltInKeys : List Nat := [fldKey R.FCU_FLT_IN pgFCU 0, fldKey R.TWIN_FLT_IN_OK pgTWIN 0]

theorem fltIn_shows (h : code < 4) : (c.fltIn code).rd R.FCU_FLT_IN pgFCU = code ∧ (c.fltIn code).rd R.TWIN_FLT_IN_OK pgTWIN = b2n (code == 2) := by
  unfold Chip.fltIn
  extract_lets c1
  have flt : c1.rd R.FCU_FLT_IN pgFCU = code := by
    rw [rd_level _ _ _ _ _ _ _ (by decide) (by decide)]
    split
    · assumption
    · exact (rd_up_same _ _ _ _ _ (by decide) (by decide)).trans (Nat.mod_eq_of_lt h)
  split
  · next ok => exact ⟨flt, ok⟩
  · refine ⟨(keyStands_up c1 (by decide) _ _ _ 0 (by decide) (by decide)).rd.trans flt, (rd_up_same _ _ _ _ _ (by decide) (by decide)).trans ?_⟩
    cases code == 2 <;> rfl

theorem keyStands_fltIn {k : Nat} (hn : noisy k = false) (hk : k ∉ fltInKeys) : KeyStands k c (c.fltIn code) := by
  simp only [fltInKeys, List.mem_cons, List.not_mem_nil, or_false, not_or] at hk
  unfold Chip.fltIn
  extract_lets c1
  have h1 : KeyStands k c c1 := (KeyStands.ite (.refl c) (keyStands_up c hn _ _ _ 0 (by decide) hk.1)).trans (keyStands_level _ _ _ _ hn (by decide))
  exact .ite h1 (h1.trans (keyStands_up c1 hn _ _ _ 0 (by decide) hk.2))

theorem quiet_fltIn : Quiet c (c.fltIn code) := by
  unfold Chip.fltIn
  extract_lets c1
  have h1 : Quiet c c1 := (Quiet.ite (.refl c) (quiet_up _ _ _ _ _)).trans (quiet_level _ _ _ _)
  exact .ite h1 (h1.trans (quiet_up _ _ _ _ _))
end

section
variable (s : State)

theorem fltInFault_acts (h3 : s.chip.rd R.TWIN_STATE pgTWIN = 3) (hl : s.chip.twin.lost = false) (hs : s.chip.srcSev 0x84 ≠ 3) :
    ∃ t, exec .fltInFault s = .next t ∧ t.chip.rd R.TWIN_STATE pgTWIN = 1 ∧ t.chip.rd R.FCU_FLT_IN pgFCU = 1
      ∧ t.chip.rd R.TWIN_FLT_IN_OK pgTWIN = 0 := by
  have ⟨flt, ok⟩ := fltIn_shows s.chip 1 (by decide)
  have state : (s.chip.fltIn 1).rd R.TWIN_STATE pgTWIN = 3 := (keyStands_fltIn s.chip 1 (by decide) (by decide)).rd.trans h3
  have lost : (s.chip.fltIn 1).twin.lost = false := by rw [(quiet_fltIn s.chip 1).twin, hl]
  have sev : (s.chip.fltIn 1).srcSev 0x84 ≠ 3 := fun e =>
    hs ((keyStands_fltIn s.chip 1 (k := fldKey R.FCU_SEV pgFCU 0x84) (by decide) (by decide) 2).symm.trans e)
  have solo : fltInFault s.chip = (s.chip.fltIn 1).lossShown.enterSolo.fenceAll := by
    rw [fltInFault, twinLost_solo _ sev state true (.inl rfl) (.inl rfl), lost]
    rfl
  have leaves {k : Nat} (hn : noisy k = false) (hl : raiseLeaves k = true) (hs : k ∉ soloKeys) (hk : k ≠ fldKey R.TWIN_ROLE pgTWIN 0
      ∧ k ≠ fldKey R.DATUM_SOURCE pgDATUM 0 ∧ k ≠ fldKey R.TWIN_CNT pgTWIN 3 ∧ k ≠ fldKey R.TWIN_RECOVERING pgTWIN 0) :
      KeyStands k (s.chip.fltIn 1) (s.chip.fltIn 1).lossShown.enterSolo.fenceAll :=
    (keyStands_lossShown _ sev hl hk.2.2.2).trans (keyStands_soloFenced _ hn hs hk.1 hk.2.1 hk.2.2.1)
  obtain ⟨t, ht, hc⟩ := exec_chip (i := .fltInFault) rfl solo
  refine ⟨t, ht, ?_⟩
  rw [hc, (leaves (k := fldKey R.FCU_FLT_IN pgFCU 0) (by decide) (by decide) (by decide) (by decide)).rd,
    (leaves (k := fldKey R.TWIN_FLT_IN_OK pgTWIN 0) (by decide) (by decide) (by decide) (by decide)).rd]
  exact ⟨(soloFenced_shows _).1, flt, ok⟩

theorem fltInLine_acts (b : Bool) : ∃ t, exec (.fltInLine b) s = .next t ∧ t.chip.rd R.FCU_FLT_IN pgFCU = (if b then 3 else 0)
    ∧ t.chip.rd R.TWIN_FLT_IN_OK pgTWIN = 0 := by
  have ⟨flt, ok⟩ := fltIn_shows s.chip (if b then 3 else 0) (by cases b <;> decide)
  have stands {k : Nat} (hl : raiseLeaves k = true) (hf : k ∉ fenceKeys) : KeyStands k (s.chip.fltIn (if b then 3 else 0)) (fltInLine s.chip b) := by
    unfold fltInLine
    exact .ite (keyStands_raise _ hl 0x86 0 [] (fun _ _ _ => hf)) (.refl _)
  refine ⟨_, rfl, (stands (by decide) (by decide)).rd.trans flt, (stands (by decide) (by decide)).rd.trans (ok.trans ?_)⟩
  cases b <;> rfl

/-! Takeover and recovery (R351, R354). -/

theorem takeoverExpiry_acts (hd : s.chip.due (tmKey tmTakeover 0) = true) (ht : s.chip.twin.takeover = true) :
    ∃ t, exec .takeoverExpiry s = .next t ∧ t.chip.rd R.TWIN_STATE pgTWIN = 1 ∧ t.chip.rd R.TWIN_ROLE pgTWIN = 0
      ∧ t.chip.twin.takeover = false ∧ t.chip.rd R.TWIN_CNT pgTWIN 3 = (s.chip.rd R.TWIN_CNT pgTWIN 3 + 1) % 2 ^ 32 := by
  have takes : takeoverExpiry s.chip = ((s.chip.disarm (tmKey tmTakeover 0)).enterSolo).fenceOld := by rw [takeoverExpiry, if_pos (by simp [hd, ht])]
  obtain ⟨t, ht', hc⟩ := exec_chip (i := .takeoverExpiry) rfl takes
  refine ⟨t, ht', ?_⟩
  rw [hc, (keyStands_fenceOld (k := fldKey R.TWIN_STATE pgTWIN 0) _ (by decide)).rd,
    (keyStands_fenceOld (k := fldKey R.TWIN_ROLE pgTWIN 0) _ (by decide)).rd, fenceOld_twin, fenceOld_counts,
    (keyStands_enterSolo (k := fldKey R.TWIN_CNT pgTWIN 3) _ (by decide) (by decide) (by decide) (by decide)).rd]
  exact ⟨enterSolo_state _, enterSolo_role _, enterSolo_takeover _, rfl⟩

theorem recoveryWindowEnd_acts (hd : s.chip.due (tmKey tmRecovery 0) = true) : ∃ t, exec .recoveryWindowEnd s = .next t
    ∧ t.chip.rd R.TWIN_RECOVERING pgTWIN = 0 ∧ t.chip.twin.mismatchAt = none ∧ t.chip.armed (tmKey tmRecovery 0) = false := by
  have closes : recoveryWindowEnd s.chip = _ := if_pos hd
  have shown := rd_up_same (s.chip.disarm (tmKey tmRecovery 0)) R.TWIN_RECOVERING pgTWIN 0 0 (by decide) (by decide)
  have timers := (quiet_up (s.chip.disarm (tmKey tmRecovery 0)) R.TWIN_RECOVERING pgTWIN 0 0).timers
  obtain ⟨t, ht, hc⟩ := exec_chip (i := .recoveryWindowEnd) rfl closes
  refine ⟨t, ht, ?_⟩
  rw [hc]
  exact ⟨shown, rfl, (congrArg (fun m => mapGet m (tmKey tmRecovery 0) 0 != 0) timers).trans (disarm_armed _ _)⟩

/-! Phases of joining that fail, and a join again (R358). -/

/-- The failed phase is over. -/
def Chip.phaseEnded (c : Chip) : Chip :=
  ((c.up R.TWIN_JOIN_PHASE pgTWIN 0).disarm (tmKey tmPhase 0)).modTwin (fun t =>
    { t with joinFails := c.twin.joinFails + 1, stepped := false, peer := none, rejoinCfg := false })

theorem phaseEnded_phase (c : Chip) : c.phaseEnded.rd R.TWIN_JOIN_PHASE pgTWIN = 0 :=
  (rd_up_same c R.TWIN_JOIN_PHASE pgTWIN 0 0 (by decide) (by decide)).trans (Nat.zero_mod _)

theorem joinPhaseTimeout_acts (hd : s.chip.due (tmKey tmPhase 0) = true) (h2 : s.chip.rd R.TWIN_STATE pgTWIN = 2)
    (hn : s.chip.on R.TWIN_JOIN_FAIL pgTWIN = false) : ∃ t, exec .joinPhaseTimeout s = .next t ∧ t.chip.rd R.TWIN_JOIN_PHASE pgTWIN = 0
      ∧ t.chip.twin.joinFails = s.chip.twin.joinFails + 1
      ∧ (s.chip.twin.joinFails < 2 → mapGet t.chip.timers (tmKey tmRejoin 0) 0 = t.chip.now + dqS + 1)
      ∧ (2 ≤ s.chip.twin.joinFails → t.chip.rd R.TWIN_JOIN_FAIL pgTWIN = 1) := by
  obtain ⟨d, hd'⟩ : ∃ d, (s.chip.disarm (tmKey tmPhase 0)).phaseEnded = d := ⟨_, rfl⟩
  have phase : d.rd R.TWIN_JOIN_PHASE pgTWIN = 0 := hd' ▸ phaseEnded_phase _
  have fails : d.twin.joinFails = s.chip.twin.joinFails + 1 := hd' ▸ rfl
  have fails' : joinPhaseTimeout s.chip = if 3 ≤ s.chip.twin.joinFails + 1 then ((d.up R.TWIN_JOIN_FAIL pgTWIN 1).pulse pgTWIN 7).raise 0x89 0
      else d.arm (tmKey tmRejoin 0) dqS := by
    have open' : ¬ (s.chip.disarm (tmKey tmPhase 0)).on R.TWIN_JOIN_FAIL pgTWIN = true := by
      rw [show (s.chip.disarm (tmKey tmPhase 0)).on R.TWIN_JOIN_FAIL pgTWIN = false from hn]
      decide
    have joining : (s.chip.disarm (tmKey tmPhase 0)).rd R.TWIN_STATE pgTWIN = 2 := h2
    rw [joinPhaseTimeout, if_pos hd, Chip.joinFailed, if_neg open', if_pos joining, ← hd']
    rfl
  obtain ⟨t, ht, hc⟩ := exec_chip (i := .joinPhaseTimeout) rfl fails'
  refine ⟨t, ht, ?_⟩
  rw [hc]
  split
  · next third =>
    refine ⟨?_, ?_, fun h => by omega, fun _ => ?_⟩
    · have stands := (keyStands_up d (by decide) R.TWIN_JOIN_FAIL pgTWIN 1 0 (by decide) (by decide)).trans
        (keyStands_pulse (k := fldKey R.TWIN_JOIN_PHASE pgTWIN 0) _ (by decide) pgTWIN 7 (by decide))
      exact ((stands.trans (keyStands_raise _ (by decide) 0x89 0 [] (fun _ _ _ => by decide))).rd).trans phase
    · rw [raise_joinFails, (quiet_pulse _ _ _).twin, (quiet_up _ _ _ _ _).twin, fails]
    · rw [(keyStands_raise _ (by decide) 0x89 0 [] (fun _ _ _ => by decide)).rd, rd_pulse _ _ _ _ _ _ (by decide) (by decide)]
      exact rd_up_same d _ _ _ _ (by decide) (by decide)
  · next early =>
    exact ⟨phase, fails, fun _ => mapGet_mapSet_same _ _ _ _, fun h => by omega⟩

theorem joinRestart_acts (hb : s.chip.banksOn = true) (hd : s.chip.due (tmKey tmRejoin 0) = true) (h2 : s.chip.rd R.TWIN_STATE pgTWIN = 2) :
    ∃ t, exec .joinRestart s = .next t ∧ t.chip.rd R.TWIN_JOIN_PHASE pgTWIN = 0
      ∧ mapGet t.chip.timers (tmKey tmPhase 0) 0 = t.chip.now + 5 * dqMs + 1
      ∧ t.chip.sent.head? = some (Out.chain (.hello (t.chip.ownHello true))) := by
  have again : joinRestart s.chip = s.chip.enterJoining 0 5 := by rw [joinRestart, if_pos (by simp [hd, h2])]
  obtain ⟨t, ht, hc⟩ := exec_chip (i := .joinRestart) rfl again
  refine ⟨t, ht, ?_⟩
  rw [hc]
  exact ⟨(enterJoining_shows s.chip (by decide) 5).2, enterJoining_hello s.chip 5 hb⟩

/-! Debug hold (R364, R365, R431). -/

theorem debugHoldRx_acts (hb : s.chip.banksOn = true) (hp : s.chip.paired = true) : ∃ t, exec .debugHoldRx s = .next t
    ∧ t.chip.rd R.TWIN_PEER_DEBUG_HOLD pgTWIN = 1 ∧ t.chip.rd R.TWIN_ROLE pgTWIN = 0 :=
  ⟨_, congrArg Host.Outcome.next (congrArg (fun d => { s with chip := d }) (chainIn_on hb _)), peerHeld_shows s.chip.hear hp⟩

theorem mgmtFailNotice_acts (hb : s.chip.banksOn = true) (h4 : s.chip.rd R.TWIN_STATE pgTWIN ≠ 4) : ∃ t, exec .mgmtFailNotice s = .next t
    ∧ t.chip.sent.head? = some (Out.chain .mgmtFailAck)
    ∧ (s.chip.paired = true → t.chip.rd R.TWIN_PEER_DEBUG_HOLD pgTWIN = 1 ∧ t.chip.rd R.TWIN_ROLE pgTWIN = 0) := by
  have opens : s.chip.hear.peerHeld.chainOpen .mgmtFailAck = true :=
    ((chainStands_peerHeld s.chip.hear).chainOpen _).trans (chainOpen_unfenced (c := s.chip.hear) hb h4 _)
  obtain ⟨t, ht, hc⟩ := exec_chip (i := .mgmtFailNotice) rfl (chainIn_on hb _)
  refine ⟨t, ht, ?_⟩
  rw [hc, mgmtFailNotice, Chip.send_chain _ _ opens, Chip.send_rd, Chip.send_rd]
  exact ⟨rfl, peerHeld_shows s.chip.hear⟩

theorem mgmtResume_alone (hh : s.chip.plumb.mgmtHalt = true) (hp : s.chip.paired = false) : ∃ t, exec .mgmtResume s = .next t
    ∧ t.chip.plumb.mgmtHalt = false ∧ t.chip.rd R.TWIN_DEBUG_HOLD pgTWIN = 0 ∧ t.mem = s.mem := by
  obtain ⟨halt, hold⟩ := mgmtResume_shows s hh
  refine ⟨_, rfl, halt, hold, ?_⟩
  rw [mgmtResume_halted s hh, hp]
  rfl

theorem enterJoining_rejoinCfg (c : Chip) (phase ms : Nat) : (c.enterJoining phase ms).twin.rejoinCfg = c.twin.rejoinCfg := by
  unfold Chip.enterJoining
  extract_lets c1 c2 c3
  have h1 : c1.twin = c.twin := ((quiet_hw c _ _).trans (quiet_setRole _ true)).twin
  have h3 : c3.twin.rejoinCfg = c.twin.rejoinCfg := by
    rw [Chip.disarm_twin, Chip.arm_twin, Chip.modTwin_twin, h1]
  split
  · rw [Chip.send_twin, h3]
  · exact h3

theorem beginConfig_rejoinCfg (s : State) : s.beginConfig.chip.twin.rejoinCfg = s.chip.twin.rejoinCfg := by
  have twin : (s.chip.dropStatus statusInConfig).twin = s.chip.twin :=
    confined_dropStatus (n := 0) (a := quietParts) s.chip statusInConfig (by decide) .twin (by decide)
  change (s.chip.dropStatus statusInConfig).twin.rejoinCfg = _
  rw [twin]

theorem mgmtResume_paired (hh : s.chip.plumb.mgmtHalt = true) (hp : s.chip.paired = true) : ∃ t, exec .mgmtResume s = .next t
    ∧ t.chip.plumb.mgmtHalt = false ∧ t.chip.rd R.TWIN_DEBUG_HOLD pgTWIN = 0 ∧ t.chip.rd R.TWIN_STATE pgTWIN = 2
    ∧ t.chip.rd R.TWIN_JOIN_PHASE pgTWIN = 2 ∧ t.chip.twin.rejoinCfg = true ∧ t.mem = [] := by
  obtain ⟨halt, hold⟩ := mgmtResume_shows s hh
  have again : mgmtResume s = ({ s with chip := s.chip.rejoined } : State).beginConfig := by rw [mgmtResume_halted s hh, if_pos hp]
  have shows' := enterJoining_shows (s.chip.unhalted.modTwin (fun t => { t with rejoinCfg := true })) (phase := 2) (by decide) 400
  refine ⟨_, rfl, halt, hold, ?_⟩
  rw [again, rd_beginConfig _ _ _ _ (by decide) (by decide), rd_beginConfig _ _ _ _ (by decide) (by decide)]
  refine ⟨shows'.1, shows'.2, ?_, rfl⟩
  rw [beginConfig_rejoinCfg]
  exact enterJoining_rejoinCfg _ 2 400

/-! Traverse, and in-service self-checks (R359, R360, R363). -/

theorem travArm_leads (c : Chip) (hp : c.paired = true) (hl : c.leads = true) : c.travArm.paired = true ∧ c.travArm.leads = true := by
  unfold Chip.travArm
  split <;> exact ⟨hp, hl⟩

/-- The LEAD of a pair proposes a change for 8 ticks ahead (R340). -/
theorem propose_paired {c : Chip} (hp : c.paired = true) (hl : c.leads = true) (i : AgreedItem) :
    (c.propose i).twin.agree = c.twin.agree ++ [{ x := c.tick + 8, item := i, acked := false, mine := true }] := by
  have state : c.rd R.TWIN_STATE pgTWIN = 3 := by simpa [Chip.paired] using hp
  unfold Chip.propose Chip.proposeAt
  dsimp only
  rw [if_neg (by omega), if_pos hl, Chip.send_twin, Nat.zero_max]
  rfl

section
variable (hd : s.chip.due (tmKey tmTrav 0) = true) (hp : s.chip.paired = true) (hl : s.chip.leads = true)
include hd hp hl

/-- The schedule is due in the LEAD of a pair: the roles are swapped, or the attempt is counted. -/
theorem traverseSchedule_due : traverseSchedule s.chip = if s.chip.travArm.swapOk then s.chip.travArm.propose .swap
    else s.chip.travArm.bump R.TWIN_CNT pgTWIN 5 := by
  obtain ⟨paired, leads⟩ := travArm_leads s.chip hp hl
  rw [traverseSchedule, if_pos hd, Chip.traverse, if_pos (by simp [paired, leads])]

theorem traverse_skips (hs : s.chip.travArm.swapOk = false) : ∃ t, exec .traverseSchedule s = .next t
    ∧ t.chip.rd R.TWIN_CNT pgTWIN 5 = (s.chip.rd R.TWIN_CNT pgTWIN 5 + 1) % 2 ^ 32 ∧ t.chip.twin.agree = s.chip.twin.agree := by
  have frame := confined_travArm (n := 0) s.chip
  have skips : traverseSchedule s.chip = s.chip.travArm.bump R.TWIN_CNT pgTWIN 5 := by rw [traverseSchedule_due s hd hp hl, hs]; rfl
  have twin : s.chip.travArm.twin = s.chip.twin := frame .twin (by decide)
  have count : s.chip.travArm.rd R.TWIN_CNT pgTWIN 5 = s.chip.rd R.TWIN_CNT pgTWIN 5 := (KeyStands.of_confined frame).rd
  obtain ⟨t, ht, hc⟩ := exec_chip (i := .traverseSchedule) rfl skips
  refine ⟨t, ht, ?_⟩
  rw [hc, rd_bump_same, count, (quiet_bump _ _ _ _ _).twin, twin]
  exact ⟨rfl, rfl⟩

theorem traverse_proposes (hs : s.chip.travArm.swapOk = true) : ∃ t, exec .traverseSchedule s = .next t
    ∧ t.chip.twin.agree = s.chip.twin.agree ++ [{ x := s.chip.tick + 8, item := .swap, acked := false, mine := true }] := by
  obtain ⟨paired, leads⟩ := travArm_leads s.chip hp hl
  have frame := confined_travArm (n := 0) s.chip
  have twin : s.chip.travArm.twin = s.chip.twin := frame .twin (by decide)
  have tick : s.chip.travArm.tick = s.chip.tick := congrArg (· / dqTick) (frame .datum (by decide))
  have proposes : traverseSchedule s.chip = s.chip.travArm.propose .swap := by rw [traverseSchedule_due s hd hp hl, if_pos hs]
  obtain ⟨t, ht, hc⟩ := exec_chip (i := .traverseSchedule) rfl proposes
  refine ⟨t, ht, ?_⟩
  rw [hc, propose_paired paired leads, twin, tick]
end

/-- A self-check that starts, or one under way, shows (R169). -/
theorem selfcheckStart_busy (c : Chip) {e : Nat} (he : e < 128) (hu : (c.eng e).up = true) :
    (c.selfcheckStart e).on R.CE_SELFTEST_BUSY (pgCE e) = true := by
  have still : noisy (fldKey R.CE_SELFTEST_BUSY (pgCE e) 0) = false :=
    noisy_fld_false R.CE_SELFTEST_BUSY (pgCE e) 0 (pgCE_page e).1 (by decide) (by decide) (by decide) (.inl (by simp only [pgCE]; omega))
  unfold Chip.selfcheckStart
  cases hb : c.on R.CE_SELFTEST_BUSY (pgCE e) with
  | true =>
    rw [if_neg (by simp)]
    exact hb
  | false =>
    rw [if_pos (by simp [hu]), Chip.on, rd_up_same _ _ _ _ _ (pgCE_page e).1 still]
    rfl

theorem inserviceSelftest_acts (hd : s.chip.due (tmKey tmSelf 0) = true)
    (hst : s.chip.rd R.TWIN_STATE pgTWIN = 1 ∨ s.chip.rd R.TWIN_STATE pgTWIN = 3) (hm : s.chip.rd R.TWIN_SELFTEST_MS pgTWIN ≠ 0) :
    ∃ t, exec .inserviceSelftest s = .next t ∧ t.chip.twin.nextEngine = (s.chip.twin.nextEngine + 1) % 128
      ∧ mapGet t.chip.timers (tmKey tmSelf 0) 0 = t.chip.now + s.chip.rd R.TWIN_SELFTEST_MS pgTWIN * dqMs + 1
      ∧ (s.chip.on R.TWIN_RESOLVING pgTWIN = false → s.chip.on R.TWIN_RECOVERING pgTWIN = false →
        (s.chip.eng s.chip.twin.nextEngine).up = true → s.chip.takesWork (pgCE s.chip.twin.nextEngine) = true →
        s.chip.twin.nextEngine < 128 → t.chip.on R.CE_SELFTEST_BUSY (pgCE s.chip.twin.nextEngine) = true) := by
  obtain ⟨d, hd'⟩ : ∃ d, (s.chip.arm (tmKey tmSelf 0) (s.chip.rd R.TWIN_SELFTEST_MS pgTWIN * dqMs)).modTwin
      (fun t => { t with nextEngine := (s.chip.twin.nextEngine + 1) % 128 }) = d := ⟨_, rfl⟩
  have turn : inserviceSelftest s.chip
      = if d.on R.TWIN_RESOLVING pgTWIN || d.on R.TWIN_RECOVERING pgTWIN || !d.takesWork (pgCE s.chip.twin.nextEngine) then d
        else d.selfcheckStart s.chip.twin.nextEngine := by
    rw [inserviceSelftest, if_neg (by rcases hst with h | h <;> simp [hd, h, hm]), ← hd']
  have next : d.twin.nextEngine = (s.chip.twin.nextEngine + 1) % 128
      ∧ mapGet d.timers (tmKey tmSelf 0) 0 = d.now + s.chip.rd R.TWIN_SELFTEST_MS pgTWIN * dqMs + 1 := by
    rw [← hd']
    exact ⟨rfl, mapGet_mapSet_same _ _ _ _⟩
  have quiet : Quiet d (inserviceSelftest s.chip) := by
    rw [turn]
    exact .ite (.refl d) (quiet_selfcheckStart d _)
  refine ⟨_, rfl, ?_⟩
  rw [State.onChip_chip, quiet.twin, quiet.timers, quiet.now]
  refine ⟨next.1, next.2, fun resolving recovering up works small => ?_⟩
  have idle : (d.on R.TWIN_RESOLVING pgTWIN || d.on R.TWIN_RECOVERING pgTWIN || !d.takesWork (pgCE s.chip.twin.nextEngine)) = false := by
    have stands : d.on R.TWIN_RESOLVING pgTWIN = s.chip.on R.TWIN_RESOLVING pgTWIN ∧ d.on R.TWIN_RECOVERING pgTWIN = s.chip.on R.TWIN_RECOVERING pgTWIN
        ∧ d.takesWork (pgCE s.chip.twin.nextEngine) = s.chip.takesWork (pgCE s.chip.twin.nextEngine) := hd' ▸ ⟨rfl, rfl, rfl⟩
    obtain ⟨h1, h2, h3⟩ := stands
    rw [h1, h2, h3, resolving, recovering, works]
    rfl
  rw [turn, idle]
  exact selfcheckStart_busy d small (by rw [← hd']; exact up)

end

/-- Settles O14, command by command: a loss of the twin that fences nothing leaves TWIN's registers, and entering SOLO, fencing, joining and
taking over from a held twin write registers of their own alone. -/
theorem twinLifeCommandsAct : Obligations.TwinLifeCommandsAct :=
  ⟨fun s h hb h1 hj hf => chainHello_answers s h hb hf h1 hj,
    fun s h hb h2 hp hn hf => chainHello_joins s h hb hf h2 hp hn,
    fun s hb h3 hs => fencedNotice_acts s h3 hb hs,
    fun s hb hp => debugHoldRx_acts s hb hp,
    fun s hb h4 => mgmtFailNotice_acts s hb h4,
    fun s ht h3 hl hs hr => chainTimeout_leads s h3 ht hl hs hr,
    fun s ht h3 hl hs hr => chainTimeout_follows s h3 ht hl hs hr,
    fun s h3 hl hs => fltInFault_acts s h3 hl hs,
    fun s b => fltInLine_acts s b,
    fun s hd ht => takeoverExpiry_acts s hd ht,
    fun s hd => recoveryWindowEnd_acts s hd,
    fun s hd h2 hn => joinPhaseTimeout_acts s hd h2 hn,
    fun s hb hd h2 => joinRestart_acts s hb hd h2,
    fun s hd hp hl hs => traverse_skips s hd hp hl hs,
    fun s hd hp hl hs => traverse_proposes s hd hp hl hs,
    fun s hd hst hm => inserviceSelftest_acts s hd hst hm,
    fun s hh hp => mgmtResume_alone s hh hp,
    fun s hh hp => mgmtResume_paired s hh hp⟩

end Sys2Proof.Machine
end
